-- ==== Sys2Proof/Word.lean ====
section
/-! DEFINITION. The plainest data types of the model: the byte, and the sparse table of numbered cells that every
addressed store of the hub (dictionary, buffers, MRAM regions) is kept in. Their operations, which a repair may mend,
stand in Sys2Proof/Machine/Cells.lean. -/

namespace Sys2Proof

/-- One byte, as frames, host buffers and MRAM hold it. -/
abbrev Byte := BitVec 8

/-- A sparse table of numbered cells. Its canonical form (`cellsWf`) lists the keys strictly rising and no cell whose
value equals what an unlisted cell reads as, so equal tables are equal lists. -/
abbrev Cells (α : Type) := List (Nat × α)

end Sys2Proof
end

