-- ==== Sys2Proof/Operand.lean ====
section
/-! DEFINITION. The data that commands carry as operands: writers and the paths they arrive by, fabric frames, field-bus
frames, and the outcomes that the world outside the hub decides (what a module, a bus, a sensor or a peer did). -/

namespace Sys2Proof

/-- The roles of Table 0.3, in rank order. -/
inductive Role where
  | pub | operator | engineer | service | vendor
  deriving DecidableEq, Repr

/-- The path by which a request reached the dictionary (R351). -/
inductive Path where
  /-- The BAR0 mailbox of the host port. -/
  | mailbox
  /-- A DICT frame from client `client` behind station `station`, with or without a valid tag. -/
  | dict (station client : Nat) (tagged : Bool)
  /-- The maintenance UART. -/
  | uart
  /-- The twin peer, whose SYNC_WRITE carries a write that its own checks accepted (R414). -/
  | peer
  deriving DecidableEq, Repr

/-- Who writes: the role a request names and the path it came by. -/
structure Writer where
  role : Role
  path : Path
  deriving DecidableEq, Repr

/-- A Thrumfabin frame: the header of Table 2.6, the payload and the tag. `kind` and `version` are the raw nibbles. -/
structure Frame where
  version : Nat := 1
  kind : Nat := 0
  bothWays : Bool := false
  tagged : Bool := false
  prio : Nat := 0
  lastSeg : Bool := false
  /-- FLAGS bits 1:0 (R45). -/
  rsvd : Nat := 0
  source : Nat := 0
  dest : Nat := 0
  seq : Nat := 0
  hops : Nat := 0
  epoch : Nat := 0
  /-- CORRECTION, in units of 2^-16 ns. -/
  corr : Int := 0
  turn : Nat := 0
  payload : List Byte := []
  deriving DecidableEq, Repr

/-- What the FCS at a frame's end turned out to be (R56). -/
inductive Fcs where
  | good | stomped | wrong
  deriving DecidableEq, Repr

/-- How a received frame's tag checks (R481): none carried, valid, failing, or of an epoch not the hub's own. -/
inductive TagCheck where
  | absent | valid | failing | otherEpoch
  deriving DecidableEq, Repr

/-- A frame as it arrives on a fabric port: its EtherType (none when it ended before one was received), its length in
bytes, the header bytes received, its LENGTH field's fit, its FCS and how its tag checks. -/
structure WireFrame where
  etherType : Option Nat := some 0x88B5
  bytes : Nat := 64
  /-- Thrumfabin header bytes received before the frame ended (24 for a whole header). -/
  headerBytes : Nat := 24
  /-- LENGTH, tag and header fit inside the received Ethernet frame (R47). -/
  fits : Bool := true
  fcs : Fcs := .good
  tag : TagCheck := .absent
  frame : Frame := {}
  deriving DecidableEq, Repr

/-- What holds the hub in reset, or caused a reset (R513, R494, Table 16.13). -/
inductive ResetCause where
  | pin | supply | commanded | recovery | update
  deriving DecidableEq, Repr

/-- The four straps sampled at reset release (R512): true is high. -/
structure Straps where
  twinPosA : Bool := true
  prim : Bool := false
  compat : Bool := false
  bootSel : Bool := false
  deriving DecidableEq, Repr

/-- What the root knows of a roll entry beyond its four bytes, by means the spec does not describe: the hub's
{141.02} PIN_STATION, and whether it is a B hub that R76 pairs with the hub before it. -/
structure RollPin where
  pin : Nat := 0
  paired : Bool := false
  deriving DecidableEq, Repr

/-- What an IEEE 1588 message on an edge port turned out to mean, by that standard's own rules (R151): the port state its
algorithm asks for, the grandmaster and its class when the port is locked to one, and an offset when one was measured. -/
structure PtpMsg where
  portState : Nat := 9
  locked : Bool := false
  cls : Nat := 248
  gm : Nat := 0
  utc : Nat := 37
  /-- Offset of FTIME from the grandmaster, in ps. -/
  offset : Option Int := none
  deriving DecidableEq, Repr

/-- A DICT request (Table 13.5) with its data; `toNode` is set when it was addressed to the node address, not to the hub's
own station (R350). -/
structure DictReq where
  path : Path
  toNode : Bool := false
  client : Nat := 0
  format : Nat := 1
  /-- The role code of Table 13.5: 0 P, 1 O, 2 E, 3 S, 4 V. -/
  role : Nat := 0
  tid : Nat := 0
  object : Nat := 0
  ty : Nat := 0
  paramA : Nat := 0
  paramB : Nat := 0
  tag : TagCheck := .absent
  /-- EPOCH of the frame that carried the request, where it was tagged. -/
  epoch : Nat := 0
  data : List Byte := []
  deriving DecidableEq, Repr

/-- A CAN frame (chapter 8). -/
structure CanFrame where
  extended : Bool := false
  ident : Nat := 0
  remote : Bool := false
  fdf : Bool := false
  brs : Bool := false
  esi : Bool := false
  dlc : Nat := 0
  data : List Byte := []
  deriving DecidableEq, Repr

/-- How a CAN transmission attempt ended (R218, R220): acknowledged, arbitration lost, no acknowledgement (`quiet` when no
dominant bit was seen during the error flag), or another error (`flat` when ISO 11898-1 leaves TEC as it is). `tdcv` is
the transmitter delay measured in a frame with BRS. -/
inductive CanEnd where
  | sent (tdcv : Nat)
  | lost
  | noAck (quiet : Bool)
  | error (flat : Bool) (tdcv : Nat)
  deriving DecidableEq, Repr

/-- A character received on an RS-485 line: its value, the time in ns since its start bit fell, its errors, and whether a
start bit had arrived on the other side of its bridge before the bridge asserted DE there (R342). -/
structure RsChar where
  value : Nat := 0
  ago : Nat := 0
  parityErr : Bool := false
  framingErr : Bool := false
  noise : Bool := false
  crossing : Bool := false
  deriving DecidableEq, Repr

/-- What the start-up of an IO-Link port found (R246, R247): the device's identity, its COM rate, its minimum cycle time
in µs, its process data lengths and its parameters. -/
structure IolDevice where
  vendor : Nat := 0
  device : Nat := 0
  serial : Nat := 0
  revision : Nat := 0x11
  comRate : Nat := 3
  minCycle : Nat := 400
  pdIn : Nat := 0
  pdOut : Nat := 0
  params : List Byte := []
  deriving DecidableEq, Repr

/-- A frame in the switch core (chapter 11): its length from destination MAC to FCS, its 802.1Q priority when tagged, its
EtherType, whether it is a PTP message by either mapping, whether its FCS is good, the Thrumfabin frame it is, and its
bytes for delivery, sampling and tunnelling. -/
structure SwFrame where
  bytes : Nat := 64
  pcp : Option Nat := none
  etherType : Nat := 0x0800
  ptp : Bool := false
  good : Bool := true
  fabric : Option Frame := none
  data : List Byte := []
  deriving DecidableEq, Repr

/-- What comes in at a switch port (R290): the oldest frame that the Copper path hands over from a fabric port, a frame
that an edge port received (with the SGMII code-group errors seen since the last one), or a frame that an internal port
offers with the egress set and class its originator names. -/
inductive SwIngress where
  | ring (f : Fin 4)
  | edge (e : Fin 8) (frame : SwFrame) (symbolErrors : Nat)
  | own (p : Fin 19) (frame : SwFrame) (dst : List Nat) (cls : Nat)
  deriving DecidableEq, Repr

/-- Which setting of a fabric port PORT_SETTING_WRITE writes (R42). -/
inductive PortSetting where
  | speed | fec | medium | holdoff
  deriving DecidableEq, Repr

/-- What the Copper path's voters and ECC found (R60). -/
inductive CopperEvent where
  /-- One copy of a triplicated register disagreed. -/
  | voteCorrected
  /-- All three copies differ. -/
  | voteFailed
  /-- A single-bit error of a buffer word. -/
  | eccCorrected
  /-- An uncorrectable buffer error. -/
  | eccUncorrectable
  deriving DecidableEq, Repr

/-- What the slots of a claim round read on the wire, 1 for low (R399, R400): whether the wire was high for 8 µs before
START, START, the claim byte, the CRC, the BEAT slots, and whether STOP read high. -/
structure RoundWire where
  quiet : Bool := true
  start : Bool := true
  claim : Nat := 0
  crc : Nat := 0
  beatA : Bool := false
  beatB : Bool := false
  stop : Bool := true
  deriving DecidableEq, Repr

/-- What a REGISTER_WRITE names: a dictionary object by its number, or a host-port register by its BAR and offset. -/
inductive RegTarget where
  | object (key : Nat)
  | bar0 (offset : Nat)
  | bar4 (offset : Nat)
  deriving DecidableEq, Repr

end Sys2Proof
end

