-- ==== Sys2Proof/Syntax.lean ====
section
/-! DEFINITION. The commands of the block: one constructor for each row of the spec's table of operations and events.
Unit numbers are bounded by their type; what the outside world decides about an event (a measured level, a received
frame, a device's answer) is an operand of the command that carries it in. -/

namespace Sys2Proof

/-- The commands the hub takes from outside, and the events that happen to it. -/
inductive Instr where
  /-- REGISTER_WRITE (R9): A write to a dictionary object or host register that has no row of its own; it is accepted
  only at or above the role letter and in a listed state. -/
  | registerWrite (w : Writer) (target : RegTarget) (v : Nat)
  /-- VDD_AON_APPLIED (R133): VDD_AON comes into range; the crystal starts, the LMC counts from 0, and the BYP_HOLD
  pins are high-impedance. -/
  | vddAonApplied
  /-- RESET_ASSERT (R513): RESET_N goes low, or VDD_AON or VDD_CORE falls below 0.68 V, and the hub is held in reset. -/
  | resetAssert (cause : ResetCause)
  /-- RESET_RELEASE (R14): Reset is released with every logic rail in range; the straps are sampled and the ROM
  starts. -/
  | resetRelease (straps : Straps)
  /-- COMPAT_REQUEST_WRITE (R363): COMPAT_REQUEST is written to both control-block copies without SAVE and takes
  effect at the next reset. -/
  | compatRequestWrite (w : Writer) (v : Nat)
  /-- FIELD_REFRESH (R17): The logic-to-field link refreshes every field output from the Pans' retained output
  registers, at least every 10 µs. -/
  | fieldRefresh
  /-- FIELD_FIRST_REFRESH (R519): The first refresh after the field die powers up ends the high-impedance hold of
  every field output. -/
  | fieldFirstRefresh
  /-- FIELD_REFRESH_LOSS (R18): After 100 µs without a refresh, the field die holds every output at its last refreshed
  value for the hold time. -/
  | fieldRefreshLoss
  /-- FIELD_HOLD_EXPIRY (R18): When the hold time runs out without a refresh, the field die sets each line to its safe
  state. -/
  | fieldHoldExpiry
  /-- HOLD_TIME_MS_WRITE (R18): A write of HOLD_TIME_MS is sent to the field die, which keeps it for as long as VFIELD
  is present. -/
  | holdTimeMsWrite (w : Writer) (v : Nat)
  /-- FIELD_DIE_RESET (R19): VFIELD falls below the reset level; the field die discards its state, its outputs go
  high-impedance and the PFW pins are released. -/
  | fieldDieReset
  /-- FIELD_DIE_POWER_UP (R519): VFIELD rises above 7 V; the field die leaves reset and holds every output off until
  the first refresh. -/
  | fieldDiePowerUp
  /-- HOB_HEALTH_TIMEOUT (R31): After 500 µs without a health refresh from the logic die, the Hob claims with health
  0. -/
  | hobHealthTimeout
  /-- MODULE_PRESENCE_SAMPLE (R38): Fn_MODABS_N is sampled every 1 ms; while it is high the port is held DOWN and
  PRESENT reads 0. -/
  | modulePresenceSample (f : Fin 4) (absent : Bool)
  /-- MODULE_STARTUP_READ (R38): 300 ms after presence is seen, the module's 0xA0 bytes are read and checked for
  identifier and checksum. -/
  | moduleStartupRead (f : Fin 4) (bytes : List Byte)
  /-- MODULE_LOS_CHANGE (R38): Fn_LOS going high takes an UP link to DOWN within 2 µs. -/
  | moduleLosChange (f : Fin 4) (los : Bool)
  /-- MODULE_TX_FAULT (R38): Fn_TXFAULT going high takes the link DOWN and raises SFP_TX_FAULT. -/
  | moduleTxFault (f : Fin 4)
  /-- MODULE_DIAG_POLL (R38): Every 1 s the module's diagnostics are read and alarm or warning flags raise faults. -/
  | moduleDiagPoll (f : Fin 4) (bytes : List Byte)
  /-- PORT_ENABLE_WRITE (R39): A write of ENABLE takes the port to DOWN when set, or to DISABLED when cleared. -/
  | portEnableWrite (w : Writer) (f : Fin 4) (v : Nat)
  /-- PORT_SETTING_WRITE (R42): A write to SPEED, FEC, MEDIUM or HOLDOFF_MS takes the port to DOWN at once and
  restarts bring-up. -/
  | portSettingWrite (w : Writer) (f : Fin 4) (which : PortSetting) (v : Nat)
  /-- VERSION_RANGE_WRITE (R39): A write of MIN_VERSION or MAX_VERSION takes an INCOMPATIBLE port back to DOWN. -/
  | versionRangeWrite (w : Writer) (max : Bool) (v : Nat)
  /-- SIGNAL_DETECTED (R39): A signal is detected on a DOWN port whose module, if any, is present with Fn_LOS low; the
  port enters LOCKING. -/
  | signalDetected (f : Fin 4)
  /-- SIGNAL_LOST (R39): Loss of signal, block lock or hi_ber takes the port to DOWN within 2 µs. -/
  | signalLost (f : Fin 4)
  /-- BLOCK_LOCK (R39): PCS block lock, and FEC lock where used, takes a LOCKING port to HELLO. -/
  | blockLock (f : Fin 4)
  /-- MODE_ATTEMPT_EXPIRY (R36): A line-mode attempt of 10 ms plus a random 0 to 3 ms ends and the next mode of the
  cycle is tried. -/
  | modeAttemptExpiry (f : Fin 4)
  /-- LINK_HELLO_SEND (R39): A LINK_HELLO is sent every 100 µs in HELLO, every 1 ms in UP and every 100 ms in
  INCOMPATIBLE. -/
  | linkHelloSend (f : Fin 4)
  /-- LINK_HELLO_RECEIVED (R40): A valid LINK_HELLO is received; the version is negotiated and the port enters UP or
  INCOMPATIBLE. -/
  | linkHelloReceived (f : Fin 4) (hello : Frame)
  /-- HELLO_TIMEOUT (R39): After 10 ms in HELLO without reaching UP, the port enters HOLDOFF. -/
  | helloTimeout (f : Fin 4)
  /-- KEEPALIVE_TIMEOUT (R39): With no LINK_HELLO for 3 ms, an UP port goes DOWN. -/
  | keepaliveTimeout (f : Fin 4)
  /-- HOLDOFF_EXPIRY (R39): HOLDOFF_MS, or ten times it after the fifth consecutive failure, ends and the port returns
  to DOWN. -/
  | holdoffExpiry (f : Fin 4)
  /-- FRAME_HEADER_RECEIVED (R54): Header byte 9 of a frame arrives on F0 or F1 and the Copper path makes its
  forwarding decision. -/
  | frameHeaderReceived (f : Fin 4) (rx : WireFrame)
  /-- FRAME_END_RECEIVED (R56): The frame's FCS arrives; the frame is judged, and is stomped or delivered. -/
  | frameEndReceived (f : Fin 4) (rx : WireFrame)
  /-- DUP_ENTRY_AGE_EXPIRY (R51): A source's duplicate entry is cleared after DUP_AGE_MS without a frame. -/
  | dupEntryAgeExpiry (station : Fin 65536)
  /-- FRAME_ORIGINATE (R48): The hub originates a frame onto the ring, queued for F1 and F0 with one SEQUENCE. -/
  | frameOriginate (fr : Frame)
  /-- ORIG_CAP_RELEASE (R52): A frame held by the origination limit is released when the limit allows it. -/
  | origCapRelease
  /-- EGRESS_FRAME_DONE (R58): An F0 or F1 egress port finishes a frame and chooses the next by priority, transit
  first. -/
  | egressFrameDone (f : Fin 4)
  /-- COPPER_VOTE (R60): A triplicated Copper path register is found with a disagreeing copy; the copy is rewritten
  and counted. -/
  | copperVote (what : CopperEvent)
  /-- COPPER_SELFTEST_DONE (R61): The Copper path self-test completes and SELFTEST reports the result. -/
  | copperSelftestDone (passed : Bool)
  /-- BYP_COMMAND_WRITE (R62): A write of BYP_COMMAND releases or restores BYP_HOLD0 and BYP_HOLD1. -/
  | bypCommandWrite (w : Writer) (v : Nat)
  /-- BYP_CYCLES_WRITE (R65): A write sets a bypass cycle count in the control block and is logged. -/
  | bypCyclesWrite (w : Writer) (pin : Fin 2) (v : Nat)
  /-- RATED_CYCLES_WRITE (R65): A write of RATED_CYCLES or WARN_PERCENT may move a threshold to or below the count. -/
  | ratedCyclesWrite (w : Writer) (warn : Bool) (v : Nat)
  /-- SETTLE_TIME_EXPIRY (R64): SETTLE_TIME after BYP_HOLD0 rises, F0 and F1 may leave DOWN. -/
  | settleTimeExpiry
  /-- CREDIT_RETURN_TIMEOUT (R67): 5 µs after the first unreturned credit was freed, or at 16 freed credits, a CREDIT
  frame is due. -/
  | creditReturnTimeout
  /-- CREDIT_RECEIVED (R67): A CREDIT frame updates the sender's credit pool. -/
  | creditReceived (fr : Frame)
  /-- CREDIT_STALL_TIMEOUT (R67): A frame held 100 µs for lack of credit is counted in CREDIT_STALL. -/
  | creditStallTimeout
  /-- LINK_COUNTER_CLEAR_PORT (R69): COUNTER_CLEAR bits 3:0 clear the counters of F0 to F3 and log a Crucible entry. -/
  | linkCounterClearPort (w : Writer) (v : Nat)
  /-- LINK_COUNTER_CLEAR_GLOBAL (R69): COUNTER_CLEAR bit 7 also clears the Copper path, image and transaction
  counters. -/
  | linkCounterClearGlobal (w : Writer) (v : Nat)
  /-- DISC_ROUND_START (R71): A hub starts a discovery round and sends ELECT out of F0 and F1. -/
  | discRoundStart
  /-- ASSIGN_ABSENCE_TIMEOUT (R71): No ASSIGN for 3 × SWEEP_MS starts a new round. -/
  | assignAbsenceTimeout
  /-- ELECT_RECEIVED (R72): An ELECT updates the hub's best candidate and is relayed if the best improves. -/
  | electReceived (f : Fin 4) (fr : Frame)
  /-- ROOT_QUIET_EXPIRY (R73): 1 ms after the last ELECT with itself still best, the hub becomes root and sends ROLL. -/
  | rootQuietExpiry
  /-- ROLL_RECEIVED (R74): A hub appends its entry to ROLL, merges versions and features, and forwards it. -/
  | rollReceived (f : Fin 4) (fr : Frame)
  /-- ROLL_RETURN (R75): ROLL returns to the root, which computes ring version, rate, features and stations and sends
  ASSIGN. -/
  | rollReturn (f : Fin 4) (fr : Frame) (pins : List RollPin)
  /-- ASSIGN_RECEIVED (R77): A hub takes its station and the ring values from ASSIGN and forwards it. -/
  | assignReceived (f : Fin 4) (fr : Frame)
  /-- RESTART_RECEIVED (R77): A relaying hub clears its duplicate entry for the restarted station; the sender absorbs
  its own. -/
  | restartReceived (f : Fin 4) (fr : Frame)
  /-- RESTART_TIMEOUT (R77): A RESTART that has not returned within 2 × LAP_NS + 1 ms raises RESTART_UNCONFIRMED. -/
  | restartTimeout
  /-- ASSIGN_RETURN (R82): ASSIGN returns to the root, completing the round; the root announces and originates LAP. -/
  | assignReturn (f : Fin 4) (fr : Frame)
  /-- LAP_RETURN (R82): A returning LAP copy is stripped at the root and timed for LAP_NS. -/
  | lapReturn (f : Fin 4) (fr : Frame)
  /-- ANNOUNCE_RECEIVED (R91): An ANNOUNCE replaces its station's ring-table entry. -/
  | announceReceived (f : Fin 4) (fr : Frame)
  /-- RATE_CHANGE_DOWN (R80): 2 ms after forwarding an ASSIGN with another ring rate, F0 and F1 go DOWN to retrain. -/
  | rateChangeDown
  /-- SWEEP_TIMER (R82): Every SWEEP_MS the root repeats ROLL and ASSIGN. -/
  | sweepTimer
  /-- RING_OPEN_TIMEOUT (R84): A ROLL or ASSIGN that has not returned in time sets RING_OPEN. -/
  | ringOpenTimeout
  /-- COUPLER_ADVERT_SEND (R87): A coupler hub originates COUPLER_ADVERT every 100 ms and within 1 ms of a change. -/
  | couplerAdvertSend
  /-- COUPLER_ADVERT_RECEIVED (R87): A COUPLER_ADVERT updates RING_ROUTES. -/
  | couplerAdvertReceived (f : Fin 4) (fr : Frame)
  /-- TURN_BOUNDARY (R101): FTIME reaches b_n and the inputs of turn n are sampled. -/
  | turnBoundary
  /-- PUBLISH_SLOT (R105): At b_n + S the node publishes its delta and rotation-slice words in IMAGE frames. -/
  | publishSlot
  /-- MAP_REBUILD_TIMEOUT (R104): 2 × LAP_NS + 1 ms after an ASSIGN, the map is rebuilt. -/
  | mapRebuildTimeout
  /-- IMAGE_FRAME_RECEIVED (R109): An IMAGE frame's runs are written into the mirror of its window. -/
  | imageFrameReceived (f : Fin 4) (fr : Frame) (tag : TagCheck)
  /-- IMAGE_WRITE_RECEIVED (R116): An IMAGE_WRITE is accepted into the pending buffer, or refused by state or quality. -/
  | imageWriteReceived (f : Fin 5) (fr : Frame) (tag : TagCheck)
  /-- APPLY_WAKE (R22): Pans owning subscribe words are woken to be ACTIVE 5 µs before the apply instant. -/
  | applyWake
  /-- APPLY_INSTANT (R118): At a_n all pending words are committed into the output registers and a refresh starts. -/
  | applyInstant
  /-- SNAPSHOT_COMPLETE (R122): A snapshot of up to 16 mirror words completes within 2 µs. -/
  | snapshotComplete
  /-- BAR2_WRITE (R124): A host write to BAR2 is ignored and counted. -/
  | bar2Write
  /-- IMPORT_REQUEST_SEND (R127): A coupler hub with imports sends IMPORT_REQUEST every 100 ms and on change. -/
  | importRequestSend
  /-- IMPORT_REQUEST_RECEIVED (R127): The far coupler answers with IMPORT_GRANT and passes the requested windows. -/
  | importRequestReceived (f : Fin 4) (fr : Frame)
  /-- IMPORT_GRANT_RECEIVED (R127): The importing coupler records the granted windows. -/
  | importGrantReceived (f : Fin 4) (fr : Frame)
  /-- FORCE_WORD (R92): FORCE_COMMAND 1 forces a publish word to FORCE_VALUE with GOOD_FORCED. -/
  | forceWord (w : Writer)
  /-- FORCE_RELEASE (R92): FORCE_COMMAND 2 releases the force of FORCE_OFFSET. -/
  | forceRelease (w : Writer)
  /-- FORCE_RELEASE_ALL (R92): FORCE_COMMAND 3 releases every force. -/
  | forceReleaseAll (w : Writer)
  /-- CANDIDATE_SEND (R136): A candidate originates CANDIDATE every 250 ms. -/
  | candidateSend
  /-- CANDIDATE_RECEIVED (R137): A CANDIDATE updates the best candidate, which is the time master. -/
  | candidateReceived (f : Fin 4) (fr : Frame)
  /-- CANDIDATE_EXPIRY (R137): A candidate unheard for 750 ms is dropped and the master is elected again. -/
  | candidateExpiry
  /-- SYNC_SEND (R138): The time master originates SYNC every sync interval. -/
  | syncSend
  /-- SYNC_RECEIVED (R141): A delivered SYNC yields an offset that the servo applies. -/
  | syncReceived (f : Fin 4) (fr : Frame) (rx : Int)
  /-- SYNC_TIMEOUT (R143): Three sync intervals without a delivered SYNC put the servo in HOLDOVER. -/
  | syncTimeout
  /-- PDELAY_REQ_SEND (R140): Every UP fabric port sends PDELAY_REQ every 125 ms. -/
  | pdelayReqSend (f : Fin 4)
  /-- PDELAY_REQ_RECEIVED (R140): A hub answers PDELAY_REQ with PDELAY_RESP within 10 µs. -/
  | pdelayReqReceived (f : Fin 4) (fr : Frame) (rx : Int)
  /-- PDELAY_RESP_RECEIVED (R140): The requester computes the link delay and updates the mean. -/
  | pdelayRespReceived (f : Fin 4) (fr : Frame) (rx : Int)
  /-- PDELAY_TIMEOUT (R140): A request unanswered within 10 ms counts; three in a row raise PEER_DELAY_FAIL. -/
  | pdelayTimeout (f : Fin 4)
  /-- STEP_ACCEPT_WRITE (R146): A write of STEP_ACCEPT makes the hub step by the next delivered offset. -/
  | stepAcceptWrite (w : Writer) (v : Nat)
  /-- SET_TIME_WRITE (R147): SET_TIME steps FTIME on a master without an external reference. -/
  | setTimeWrite (w : Writer) (v : Nat)
  /-- COUPLER_TIME_SEND (R150): A locked coupler hub sends link-local SYNC and CANDIDATE over F3. -/
  | couplerTimeSend
  /-- PTP_MESSAGE_RECEIVED (R151): An IEEE 1588 message on an enabled edge port goes to the time unit. -/
  | ptpMessageReceived (e : Fin 8) (msg : PtpMsg)
  /-- ARM_RECORD_WRITE (R154): A timer unit is armed atomically, or the record is refused. -/
  | armRecordWrite (w : Writer) (u : Fin 64) (record : Nat)
  /-- TIMER_DISARM (R156): DISARM stops a unit once any pulse in progress has ended. -/
  | timerDisarm (w : Writer) (u : Fin 64) (v : Nat)
  /-- TIMER_PREWAKE (R155): An armed unit wakes its target's Pan at least 5 µs before each instant. -/
  | timerPrewake (u : Fin 64)
  /-- TIMER_INSTANT (R155): At the instant the unit drives its line or pin, sets a Whisk trigger or raises an event. -/
  | timerInstant (u : Fin 64)
  /-- PULSE_END (R155): WIDTH after a PULSE started, the target returns to its prior level. -/
  | pulseEnd (u : Fin 64)
  /-- PX_PIN_EDGE (R159): An edge on a PX pin is stamped and, if enabled, captured. -/
  | pxPinEdge (x : Fin 64) (rising : Bool)
  /-- CAPTURE_FLUSH (R159): A write of FLUSH empties the Pan's capture queue. -/
  | captureFlush (w : Writer) (n : Fin 16) (v : Nat)
  /-- QUEUE_PRODUCER_WRITE (R168): A producer writes a word into a queue; the packet becomes visible at its END word. -/
  | queueProducerWrite (n : Fin 16) (q : Fin 25) (tag : Nat) (data : Nat)
  /-- LOSS_MARKER_WRITE (R169): When space returns, one LOSS packet is written before the next packet. -/
  | lossMarkerWrite (n : Fin 16) (q : Fin 25)
  /-- QUEUE_TAG_READ (R174): A read of TAG pops the next item into the latch and returns its tag. -/
  | queueTagRead (n : Fin 16) (q : Fin 25) (pointerFault : Bool)
  /-- QUEUE_DATA_WRITE (R174): A write of DATA_HI or DATA_LO fills the transmit latch. -/
  | queueDataWrite (n : Fin 16) (q : Fin 25) (hi : Bool) (v : Nat)
  /-- QUEUE_TAG_WRITE (R174): A write of TAG pushes the latched item into a transmit queue. -/
  | queueTagWrite (n : Fin 16) (q : Fin 25) (tag : Nat)
  /-- QUEUE_DATA_LO_POP (R176): In compatibility mode a read of DATA_LO pops one narrow item. -/
  | queueDataLoPop (n : Fin 16) (q : Fin 25)
  /-- QUEUE_FLUSH_COMMAND (R171): FLUSH is requested and takes effect at the next packet boundary. -/
  | queueFlushCommand (w : Writer) (n : Fin 16) (q : Fin 25) (v : Nat)
  /-- QUEUE_FLUSH_COMPLETE (R171): The flush discards every visible packet and FLUSHING clears. -/
  | queueFlushComplete (n : Fin 16) (q : Fin 25)
  /-- QUEUE_SKIP_COMMAND (R172): SKIP discards the rest of the packet being read. -/
  | queueSkipCommand (w : Writer) (n : Fin 16) (q : Fin 25) (v : Nat)
  /-- QUEUE_CONFIG_WRITE (R164): A depth or order write empties the queue and reallocates its units. -/
  | queueConfigWrite (w : Writer) (n : Fin 16) (q : Fin 25) (v : Nat)
  /-- DL_MODE_WRITE (R178): A MODE write sets a discrete line's mode and resets its counters, latches and calibration. -/
  | dlModeWrite (w : Writer) (i : Fin 256) (v : Nat)
  /-- DL_RAW_CROSSING (R181): The raw level of an input line crosses and starts or restarts debounce. -/
  | dlRawCrossing (i : Fin 256) (level : Bool)
  /-- DEBOUNCE_COMPLETE (R180): The raw level has held for the debounce time; the accepted state changes and is
  stamped. -/
  | debounceComplete (i : Fin 256)
  /-- IN_DELAY_MEASURE (R181): The field die measures IN_DELAY after a MODE write and every 10 s. -/
  | inDelayMeasure (i : Fin 256) (ps : Nat)
  /-- DL_COUNTER_EDGE (R183): A filtered edge on a COUNTER line advances COUNT. -/
  | dlCounterEdge (i : Fin 256) (rising : Bool)
  /-- DL_LIMIT_TRIP (R187): An OUTPUT line in current limit for LIMIT_TIME switches off. -/
  | dlLimitTrip (i : Fin 256)
  /-- DL_THERMAL_TRIP (R187): A stage above 165 °C switches off at once. -/
  | dlThermalTrip (i : Fin 256)
  /-- DL_PAN_SHED (R187): A Pan output sum above 1.0 A for 1 ms sheds lines in descending current. -/
  | dlPanShed (n : Fin 16) (currents : List Nat)
  /-- DL_RETRY_BACKOFF_EXPIRY (R188): After the back-off the line switches on again if still commanded ON. -/
  | dlRetryBackoffExpiry (i : Fin 256)
  /-- DL_RETRY_COUNT_RESET (R188): After 10 s ON without a trip the retry count returns to 0. -/
  | dlRetryCountReset (i : Fin 320)
  /-- DL_CLEAR (R188): A write of 1 to CLEAR releases a latched line. -/
  | dlClear (w : Writer) (i : Fin 256) (v : Nat)
  /-- DL_WIRE_TEST (R189): Every 20 ms a 2 mA test bias is applied for 100 µs to detect a wire break. -/
  | dlWireTest (i : Fin 256) (high : Bool)
  /-- DL_OPEN_ON_DETECT (R189): Stage current below 1 mA for 10 ms while ON sets OPEN_ON. -/
  | dlOpenOnDetect (i : Fin 256)
  /-- DL_SHORT_VFIELD_DETECT (R189): A line at or above 18 V for 1 ms while OFF sets SHORT_VFIELD. -/
  | dlShortVfieldDetect (i : Fin 256)
  /-- DL_STATUS_CLEAR (R189): A wire-check bit clears after its condition has been absent for 100 ms. -/
  | dlStatusClear (i : Fin 256) (bit : Fin 16)
  /-- DL_COMMAND_WRITE (R195): A dictionary write of a line's COMMAND sets its value or a safe-state command. -/
  | dlCommandWrite (w : Writer) (i : Fin 256) (v : Nat)
  /-- OUT_PACKED_WRITE (R195): A write of OUT_PACKED commands a Pan's output lines together. -/
  | outPackedWrite (w : Writer) (n : Fin 16) (v : Nat)
  /-- CAN_ENABLE_WRITE (R206): A write of 1 to ENABLE starts the channel after the bit-timing checks. -/
  | canEnableWrite (w : Writer) (c : Fin 32) (v : Nat)
  /-- CAN_FRAME_RECEIVED (R210): At a frame's point of validity it is stored in its queue within 1 µs. -/
  | canFrameReceived (c : Fin 32) (ago : Nat) (fr : CanFrame)
  /-- MB_CFG_WRITE (R211): A write to MB_CFG empties the mailbox and releases its hold. -/
  | mbCfgWrite (w : Writer) (c : Fin 32) (m : Fin 16) (v : Nat)
  /-- MB_HOLD_WRITE (R212): Clearing a hold bit with a full shadow moves the shadow to current. -/
  | mbHoldWrite (w : Writer) (c : Fin 32) (v : Nat)
  /-- MB_DATA_READ (R213): A read of MB_DATA returns the payload and clears NEW. -/
  | mbDataRead (p : Path) (c : Fin 32) (m : Fin 16)
  /-- CAN_TX_ATTEMPT_START (R217): The controller starts an attempt with the lowest-key waiting frame. -/
  | canTxAttemptStart (c : Fin 32)
  /-- CAN_ATTEMPT_END (R218): An attempt ends with acknowledgement, error or lost arbitration. -/
  | canAttemptEnd (c : Fin 32) (outcome : CanEnd)
  /-- CAN_RECOVERY_START (R221): CONTROL 1 starts bus-off recovery. -/
  | canRecoveryStart (w : Writer) (c : Fin 32)
  /-- CAN_RECOVERY_COMPLETE (R221): After 128 runs of 11 recessive bits the channel returns to ERROR_ACTIVE. -/
  | canRecoveryComplete (c : Fin 32)
  /-- CAN_ALONE_RELEASE (R222): CONTROL 2 clears CAN_ALONE and releases the hold. -/
  | canAloneRelease (w : Writer) (c : Fin 32)
  /-- CAN_DOMINANT_TIMEOUT (R203): A bus held dominant for 2.5 ms is released and counted. -/
  | canDominantTimeout (c : Fin 32)
  /-- CAN_BUS_JOIN (R225): A newly ACTIVE channel joins the bus after 11 recessive bits. -/
  | canBusJoin (c : Fin 32)
  /-- RS485_ENABLE_WRITE (R232): A write of ENABLE starts or stops an RS-485 channel. -/
  | rs485EnableWrite (w : Writer) (c : Fin 48) (v : Nat)
  /-- RS485_CHAR_RECEIVED (R235): A received character is stored and may close the packet. -/
  | rs485CharReceived (c : Fin 48) (ch : RsChar)
  /-- RS485_GAP_EXPIRY (R235): An idle gap of GAP_HALF half-characters closes the packet. -/
  | rs485GapExpiry (c : Fin 48)
  /-- RS485_BREAK_RECEIVED (R235): A break closes the open packet, or stores a zero-length BREAK packet. -/
  | rs485BreakReceived (c : Fin 48) (ago : Nat)
  /-- RS485_TX_START (R238): With the line idle and drive allowed, the channel asserts DE and sends a packet. -/
  | rs485TxStart (c : Fin 48)
  /-- RS485_TX_END (R238): DE_LAG after the last stop bit the channel releases DE. -/
  | rs485TxEnd (c : Fin 48)
  /-- RS485_DRIVER_FAULT (R234): A driver in limit for 1 ms or above 165 °C disables itself for the packet. -/
  | rs485DriverFault (c : Fin 48) (thermal : Bool)
  /-- RS485_REPLAY_START (R242): In DOZE the first falling edge starts the replay buffer and wakes the Pan. -/
  | rs485ReplayStart (c : Fin 48)
  /-- RS485_ACTIVE_JOIN (R241): A newly ACTIVE channel sends its queue after an idle line. -/
  | rs485ActiveJoin (c : Fin 48)
  /-- IOL_MODE_WRITE (R244): A MODE write takes the port through DEACTIVATED and starts the new mode. -/
  | iolModeWrite (w : Writer) (p : Fin 64) (v : Nat)
  /-- IOL_WAKE_SLOT_GRANT (R245): A freed wake slot goes to the lowest waiting port and a wake-up request is sent. -/
  | iolWakeSlotGrant
  /-- IOL_STARTUP_COMPLETE (R246): Communication is established and the device is validated. -/
  | iolStartupComplete (p : Fin 64) (dev : IolDevice)
  /-- IOL_M_SEQUENCE_START (R247): An M-sequence starts on the cycle grid. -/
  | iolMSequenceStart (p : Fin 64)
  /-- IOL_M_SEQUENCE_REPLY (R248): A reply completes and PD_IN is updated. -/
  | iolMSequenceReply (p : Fin 64) (pd : List Byte) (valid : Bool) (checksumOk : Bool)
  /-- ISDU_REQUEST_WRITE (R251): A dictionary ISDU request starts, or is refused with BUSY. -/
  | isduRequestWrite (w : Writer) (p : Fin 64) (data : List Byte)
  /-- ISDU_QUEUE_REQUEST (R251): A queued ISDU request starts once the port is free. -/
  | isduQueueRequest (p : Fin 64)
  /-- ISDU_COMPLETE (R251): An ISDU ends and its result is reported. -/
  | isduComplete (p : Fin 64) (error : Nat) (data : List Byte)
  /-- ISDU_TIMEOUT (R251): An ISDU without an answer within 5 s ends with TIMEOUT. -/
  | isduTimeout (p : Fin 64)
  /-- IOL_EVENT_READ (R252): A device event is read, stored as a packet and acknowledged. -/
  | iolEventRead (p : Fin 64) (qualifier code : Nat)
  /-- IOL_EVENT_BACKLOG_RELEASE (R252): When queue room returns a held event is read and stored. -/
  | iolEventBacklogRelease (p : Fin 64)
  /-- PORT_CMD_RESTART (R244): PORT_CMD 1 restarts the port's start-up. -/
  | portCmdRestart (w : Writer) (p : Fin 64)
  /-- PORT_CMD_BACKUP (R253): PORT_CMD 2 backs up the device's parameters now. -/
  | portCmdBackup (w : Writer) (p : Fin 64)
  /-- PORT_CMD_CLEAR_DS (R253): PORT_CMD 3 clears the port's data storage. -/
  | portCmdClearDs (w : Writer) (p : Fin 64)
  /-- DS_UPLOAD_REQUEST (R253): A device's upload request starts a backup. -/
  | dsUploadRequest (p : Fin 64)
  /-- DS_COMMIT (R254): A gathered upload is committed to MRAM in one operation and copied to the peer. -/
  | dsCommit (p : Fin 64) (data : List Byte)
  /-- LP_FAST_TRIP (R256): An L+ switch above 1.2 A trips within 1 µs. -/
  | lpFastTrip (p : Fin 64)
  /-- LP_SLOW_TRIP (R256): An L+ switch above 360 mA for TRIP_TIME trips. -/
  | lpSlowTrip (p : Fin 64)
  /-- LP_THERMAL_TRIP (R256): An L+ switch above 165 °C trips at once. -/
  | lpThermalTrip (p : Fin 64)
  /-- LP_RAMP_COMPLETE (R256): The 2 ms L+ soft start completes. -/
  | lpRampComplete (p : Fin 64)
  /-- LP_BACKOFF_EXPIRY (R256): After its back-off an L+ switch retries. -/
  | lpBackoffExpiry (p : Fin 64)
  /-- LP_CLEAR (R256): CLEAR releases a latched L+ switch. -/
  | lpClear (w : Writer) (p : Fin 64) (v : Nat)
  /-- WHISK_START (R275): START checks the slots and store split and then restarts the Whisk. -/
  | whiskStart (wr : Writer) (w : Fin 32)
  /-- WHISK_HALT (R276): HALT takes a running Whisk to HALTING, or a stalled one to HALTED. -/
  | whiskHalt (wr : Writer) (w : Fin 32)
  /-- WHISK_RESUME (R278): RESUME enters the saved step afresh. -/
  | whiskResume (wr : Writer) (w : Fin 32)
  /-- WHISK_RESTART (R279): RESTART clears shifters and flags, loads initial values and enters step 0. -/
  | whiskRestart (wr : Writer) (w : Fin 32)
  /-- WHISK_STOP (R279): STOP releases every slot, empties both stores and leaves the Whisk IDLE. -/
  | whiskStop (wr : Writer) (w : Fin 32)
  /-- WHISK_STEP_ENTER (R267): A step is entered: its pin action is applied and its data action attempted. -/
  | whiskStepEnter (w : Fin 32) (read : Fin 256)
  /-- WHISK_DWELL_END (R267): In the last dwell cycle TEST is evaluated and the successor chosen. -/
  | whiskDwellEnd (w : Fin 32) (read : Fin 256)
  /-- WHISK_STALL_CLEAR (R272): A stalled data action succeeds and the dwell starts. -/
  | whiskStallClear (w : Fin 32)
  /-- WHISK_STALL_LIMIT (R272): A stall beyond STALL_LIMIT_MS raises WHISK_STALL. -/
  | whiskStallLimit (w : Fin 32)
  /-- WHISK_STORE_MOVE (R272): A word moves between a Whisk store and its queue. -/
  | whiskStoreMove (w : Fin 32) (send : Bool)
  /-- SWITCH_FRAME_INGRESS (R290): A frame received whole at a switch port is classified once. -/
  | switchFrameIngress (i : SwIngress)
  /-- SPILL_PAGE_TIMEOUT (R297): 10 µs after its first frame an assembly page is written. -/
  | spillPageTimeout (p : Fin 19) (c : Fin 8)
  /-- SPILL_PAGE_READBACK (R297): A spill page is read back into shared cells before its first frame is due. -/
  | spillPageReadback (p : Fin 19) (c : Fin 8) (fixed : Nat) (bad : Bool)
  /-- EGRESS_FRAME_START (R291): The scheduler starts the next frame by strict priority, shaper and gate. -/
  | egressFrameStart (p : Fin 19) (fixed : Nat) (bad : Bool)
  /-- PORT_DOWN_FLUSH (R302): A switch port going down stops admission and starts a flush. -/
  | portDownFlush (p : Fin 19)
  /-- PORT_FLUSH_COMPLETE (R302): Every frame of the port is discarded within 50 µs. -/
  | portFlushComplete (p : Fin 19)
  /-- METER_WRITE (R307): A meter record write resets the buckets and is logged. -/
  | meterWrite (w : Writer) (m : Fin 256) (v : Nat)
  /-- GATE_COMMIT (R311): COMMIT copies the admin list into a pending list. -/
  | gateCommit (w : Writer) (g : Fin 12) (v : Nat)
  /-- GATE_ENTRY_CHANGE (R308): The running list moves to its next entry. -/
  | gateEntryChange (g : Fin 12)
  /-- GATE_LIST_TAKEOVER (R311): At ADMIN_BASE the pending list takes over. -/
  | gateListTakeover (g : Fin 12)
  /-- SAMPLER_ENABLE_WRITE (R313): ENABLE starts or stops a sampler. -/
  | samplerEnableWrite (w : Writer) (i : Fin 8) (v : Nat)
  /-- SWITCH_CLEAR_TOTALS (R314): COUNTER_CLEAR bit 0 clears SWITCH_COUNT and tunnel counters. -/
  | switchClearTotals (w : Writer)
  /-- SWITCH_CLEAR_PORTS (R314): COUNTER_CLEAR bit 1 clears every switch port and edge port counter. -/
  | switchClearPorts (w : Writer)
  /-- SWITCH_CLEAR_METERS (R314): COUNTER_CLEAR bit 2 clears meter counts. -/
  | switchClearMeters (w : Writer)
  /-- SWITCH_CLEAR_SAMPLERS (R314): COUNTER_CLEAR bit 3 clears sampler counts. -/
  | switchClearSamplers (w : Writer)
  /-- SWITCH_CLEAR_GATES (R314): COUNTER_CLEAR bit 4 clears gate counts. -/
  | switchClearGates (w : Writer)
  /-- EDGE_LINK_CHANGE (R316): An edge port gains or loses link and raises its event source. -/
  | edgeLinkChange (e : Fin 8) (linked half : Bool) (rate : Fin 4)
  /-- EDGE_SYNC_LOSS (R316): Loss of SGMII synchronisation takes the link down within 2 µs. -/
  | edgeSyncLoss (e : Fin 8)
  /-- MDIO_READ (R316): A read of MDIO_DATA reads the selected PHY register. -/
  | mdioRead (w : Writer) (e : Fin 8) (phy : Option Nat)
  /-- MDIO_WRITE (R316): A write of MDIO_DATA writes the selected PHY register. -/
  | mdioWrite (w : Writer) (e : Fin 8) (v : Nat)
  /-- TUNNEL_CONFIG_WRITE (R334): A TUNNEL_CFG write sets or clears ENABLE after the checks of R334. -/
  | tunnelConfigWrite (w : Writer) (t : Fin 1024) (v : Nat)
  /-- TUNNEL_OPEN_SEND (R324): An enabled end sends OPEN every 100 ms, or every 1 s when REFUSED. -/
  | tunnelOpenSend (t : Fin 1024)
  /-- TUNNEL_OPEN_RECEIVED (R324): The receiver answers OPEN with ACCEPT or REFUSE. -/
  | tunnelOpenReceived (fr : Frame)
  /-- TUNNEL_ACCEPT_RECEIVED (R324): ACCEPT puts the end in OPEN with the negotiated version. -/
  | tunnelAcceptReceived (fr : Frame)
  /-- TUNNEL_REFUSE_RECEIVED (R324): REFUSE puts the end in REFUSED. -/
  | tunnelRefuseReceived (fr : Frame)
  /-- TUNNEL_DATA_RECEIVED (R329): A DATA frame is placed in the receive reserve in TSEQ order. -/
  | tunnelDataReceived (fr : Frame)
  /-- TUNNEL_CLOSE_RECEIVED (R326): CLOSE puts the end in OPENING. -/
  | tunnelCloseReceived (fr : Frame)
  /-- TUNNEL_KEEPALIVE_SEND (R326): An OPEN end silent for 10 ms sends KEEPALIVE. -/
  | tunnelKeepaliveSend (t : Fin 1024)
  /-- TUNNEL_LOST_TIMEOUT (R326): No frame for 50 ms puts the end in LOST and raises TUNNEL_LOST. -/
  | tunnelLostTimeout (t : Fin 1024)
  /-- TUNNEL_CREDIT_REPORT (R328): 16 freed units or 20 µs triggers a KEEPALIVE with credit. -/
  | tunnelCreditReport (t : Fin 1024)
  /-- TUNNEL_REORDER_TIMEOUT (R329): A missing TSEQ is taken as lost after REORDER_US. -/
  | tunnelReorderTimeout (t : Fin 1024)
  /-- LADLE_PACKET_TAKE (R328): A Ladle takes a packet from a source queue once the transmit reserve can hold it. -/
  | ladlePacketTake (t : Fin 1024) (body : List Byte)
  /-- TUNNEL_DATA_SEND (R328): A DATA frame is sent once the far end's credit covers it. -/
  | tunnelDataSend (t : Fin 1024)
  /-- TUNNEL_SINK_DELIVER (R329): A packet leaves the receive reserve when its sink can take it whole. -/
  | tunnelSinkDeliver (t : Fin 1024)
  /-- SIDEBAND_POLL (R331): Every POLL_US the port end reads its side-band word and sends SIDEBAND on change. -/
  | sidebandPoll (t : Fin 1024) (edges levels : Fin 256)
  /-- SIDEBAND_RECEIVED (R331): A SIDEBAND frame updates SIDEBAND_REMOTE and raises the tunnel's event. -/
  | sidebandReceived (fr : Frame)
  /-- ROUTE_CLASSIFY (R336): A packet from a route-bound queue is matched to the first route entry and sent or
  dropped. -/
  | routeClassify (n : Fin 16) (q : Fin 25)
  /-- ROUTE_FRAME_RECEIVED (R336): A ROUTE frame is built into a sink packet at the destination port. -/
  | routeFrameReceived (fr : Frame)
  /-- ROUTE_ENTRY_WRITE (R338): A route or tunnel table write advances GENERATION and retains old contents. -/
  | routeEntryWrite (w : Writer) (r : Fin 4096) (v : Nat)
  /-- GENERATION_RETIRE (R339): Retained contents are released once no frame of their generation remains inside. -/
  | generationRetire
  /-- DICT_READ (R352): READ returns the whole value of one sub-index. -/
  | dictRead (req : DictReq)
  /-- DICT_WRITE (R352): WRITE replaces one sub-index atomically. -/
  | dictWrite (req : DictReq)
  /-- DICT_READ_BLOCK (R353): READ_BLOCK captures the value and sends it in segments. -/
  | dictReadBlock (req : DictReq)
  /-- DICT_WRITE_BLOCK (R353): WRITE_BLOCK opens a segmented transfer. -/
  | dictWriteBlock (req : DictReq)
  /-- DICT_SEGMENT (R353): A segment arrives; after LAST and a good CRC the value is applied. -/
  | dictSegment (p : Path) (tid seg : Nat) (last : Bool) (crc : Nat) (data : List Byte)
  /-- DICT_ACK (R354): An ACK advances the sender's window. -/
  | dictAck (p : Path) (tid next : Nat)
  /-- DICT_CANCEL (R354): CANCEL ends a transfer with no effect. -/
  | dictCancel (p : Path) (tid : Nat)
  /-- DICT_OUT_OF_ORDER_ACK (R354): 1 ms after an out-of-order segment the receiver sends ACK. -/
  | dictOutOfOrderAck (p : Path) (tid : Nat)
  /-- DICT_RESEND_TIMEOUT (R354): With no ACK advance for 10 ms the sender resends, and cancels after 5 resends. -/
  | dictResendTimeout (p : Path) (tid : Nat)
  /-- STATE_REQUEST_PREOP (R348): STATE_REQUEST 1 takes the hub to PREOP. -/
  | stateRequestPreop (w : Writer)
  /-- STATE_REQUEST_OPERATE (R348): STATE_REQUEST 2 takes the hub to OPERATE at the next apply instant. -/
  | stateRequestOperate (w : Writer)
  /-- STATE_REQUEST_SAFE (R348): STATE_REQUEST 3 takes the hub to SAFE at once. -/
  | stateRequestSafe (w : Writer)
  /-- STATE_REQUEST_OPEN_MAINT (R349): STATE_REQUEST 4 opens a maintenance session. -/
  | stateRequestOpenMaint (w : Writer)
  /-- STATE_REQUEST_CLOSE_MAINT (R349): STATE_REQUEST 5 closes the session and returns to RETURN_STATE or SAFE. -/
  | stateRequestCloseMaint (w : Writer)
  /-- STATE_REQUEST_RESET (R348): STATE_REQUEST 6 schedules a reset 10 ms after the response. -/
  | stateRequestReset (w : Writer)
  /-- DEFERRED_RESET (R348): 10 ms after the response the requested reset takes place. -/
  | deferredReset
  /-- AUTO_OPERATE_ENTRY (R348): With AUTO_OPERATE the hub enters OPERATE once it holds a station. -/
  | autoOperateEntry
  /-- MAINT_IDLE_EXPIRY (R349): After MAINT_IDLE seconds without a transaction the hub closes the session. -/
  | maintIdleExpiry
  /-- SAVE (R359): A write of 1 to SAVE copies every persistent object into the target copy. -/
  | save (w : Writer) (v : Nat)
  /-- SAVE_COMPLETE (R360): The records and then the header are written and SAVE answers. -/
  | saveComplete
  /-- RESTORE_DEFAULTS (R363): Every persistent object takes its default in the running configuration. -/
  | restoreDefaults (w : Writer) (v : Nat)
  /-- MAILBOX_GO (R366): GO runs one transaction from the BAR0 mailbox. -/
  | mailboxGo (v : Fin 2048) (buffer : List Byte)
  /-- MAILBOX_RESPONSE (R366): A response arrives; DONE is set and vector 0 fires. -/
  | mailboxResponse (f : Fin 4) (fr : Frame)
  /-- MAILBOX_TIMEOUT (R366): With no response within TIMEOUT_MS, DONE is set with TIMEOUT. -/
  | mailboxTimeout
  /-- MAILBOX_DONE_CLEAR (R366): A write of 1 to DONE clears it. -/
  | mailboxDoneClear
  /-- SNAPSHOT_GO (R367): GO starts a snapshot, or is ignored while BUSY. -/
  | snapshotGo (v : Nat)
  /-- FTIME_LO_READ (R132): A read of FTIME_LO returns the low half and latches FTIME_HI. -/
  | ftimeLoRead
  /-- LMC_LO_READ (R133): A read of LMC_LO returns the low half and latches LMC_HI. -/
  | lmcLoRead
  /-- WATCHDOG_KICK (R370): A write to KICK restarts the host watchdog. -/
  | watchdogKick
  /-- WATCHDOG_EXPIRY (R370): A gap over WDOG_MS clears HOST_READY and raises HOST_WATCHDOG. -/
  | watchdogExpiry
  /-- RING_ENABLE_WRITE (R368): Enabling a DMA ring sets HEAD to TAIL. -/
  | ringEnableWrite (r : Fin 3) (v : Nat)
  /-- RING_TAIL_WRITE (R368): A write of TAIL frees ring slots. -/
  | ringTailWrite (r : Fin 3) (v : Nat)
  /-- RING_SLOT_WRITE (R369): The hub writes a slot's content then its header once the ring has room. -/
  | ringSlotWrite (r : Fin 3)
  /-- MSIX_MODERATION_TIMEOUT (R369): MOD_US after the first unsignalled slot the ring's vector fires. -/
  | msixModerationTimeout (r : Fin 3)
  /-- IW_STAGE_WRITE (R371): A write to IW_STAGE stages one offset and word. -/
  | iwStageWrite (v : Nat)
  /-- IW_SEND (R371): SEND builds IMAGE_WRITE frames from the stage and sends them. -/
  | iwSend (v : Nat)
  /-- IW_APPLY_WINDOW_RELEASE (R371): A frame due within 10 µs of an apply instant is sent after it. -/
  | iwApplyWindowRelease
  /-- TX_TAIL_WRITE (R372): Advancing TX_TAIL hands descriptors to the hub. -/
  | txTailWrite (v : Nat)
  /-- TX_DESCRIPTOR_TAKE (R372): The hub takes a descriptor, reads its buffer and writes STATUS. -/
  | txDescriptorTake
  /-- PCIE_LINK_DOWN (R374): Link loss, hot reset or FLR stops DMA and clears the host state. -/
  | pcieLinkDown
  /-- HOST_READY_WRITE (R383): A write of HOST_READY makes HOST ready or not. -/
  | hostReadyWrite (v : Fin 8)
  /-- EVENT_RAISE (R376): A source is raised and becomes PENDING or merges. -/
  | eventRaise (n : Fin 1024) (data : Nat)
  /-- SOURCE_CFG_WRITE (R377): A SOURCE_CFG write takes effect at the next offer. -/
  | sourceCfgWrite (w : Writer) (n : Fin 1024) (v : Nat)
  /-- CLAIM_READ (R381): A read of CLAIM returns and activates the most urgent pre-empting source. -/
  | claimRead (t : Fin 3)
  /-- COMPLETE_WRITE (R381): A write of COMPLETE makes an ACTIVE source IDLE or PENDING. -/
  | completeWrite (t : Fin 3) (v : Nat)
  /-- REMOTE_COMPLETE_WRITE (R385): A remote target completes its outstanding delivery. -/
  | remoteCompleteWrite (w : Writer) (v : Nat)
  /-- REOFFER_TIMEOUT (R386): A remote delivery not completed within REOFFER_MS is withdrawn and reoffered. -/
  | reofferTimeout (n : Fin 1024)
  /-- RAISE_WRITE (R375): A write of RAISE raises a software source 896 to 1023. -/
  | raiseWrite (w : Writer) (v : Nat)
  /-- SIDEBAND_ACK_WRITE (R331): A write of SIDEBAND_ACK clears SIDEBAND_PENDING bits. -/
  | sidebandAckWrite (w : Writer) (k : Fin 16) (v : Nat)
  /-- FENCE_ISSUE_LOCAL (R391): A local fence marks every ring 0, Pan and egress queue. -/
  | fenceIssueLocal (w : Writer) (ticket : Fin 65536)
  /-- FENCE_ISSUE_IMAGE (R392): An image fence holds every later IMAGE_WRITE. -/
  | fenceIssueImage (w : Writer) (ticket : Fin 65536)
  /-- FENCE_ISSUE_TABLE (R393): A table fence waits for older generations to leave. -/
  | fenceIssueTable (w : Writer) (ticket : Fin 65536)
  /-- FENCE_ISSUE_RING (R394): A ring fence sends a FENCE frame out of F1. -/
  | fenceIssueRing (w : Writer) (ticket : Fin 65536)
  /-- FENCE_LOCAL_DONE (R391): Every marker has passed and the local fence completes. -/
  | fenceLocalDone (i : Fin 16)
  /-- FENCE_IMAGE_DONE (R392): At a_m + 1 µs the image fence completes and releases held writes. -/
  | fenceImageDone (i : Fin 16)
  /-- FENCE_TABLE_DONE (R393): No older generation remains inside and the table fence completes. -/
  | fenceTableDone (i : Fin 16)
  /-- FENCE_RING_RETURN (R394): The returning FENCE frame is stripped and the ring fence completes. -/
  | fenceRingReturn (ticket : Fin 65536)
  /-- FENCE_TIMEOUT (R395): A fence not done within FENCE_TIMEOUT_MS completes with TIMEOUT. -/
  | fenceTimeout (i : Fin 16)
  /-- CLAIM_ROUND_START (R400): 25 µs after the last START a Hob starts a claim round. -/
  | claimRoundStart
  /-- CLAIM_START_EDGE (R400): A Hob that sees a START it did not drive joins that round. -/
  | claimStartEdge
  /-- CLAIM_ROUND_END (R402): A round ends and is judged valid and decisive, naming the holder. -/
  | claimRoundEnd (wire : RoundWire)
  /-- CLAIM_ROW3_ENTRY (R404): 100 µs after the last decisive round won, shared lines freeze at their level. -/
  | claimRow3Entry
  /-- CLAIM_HOLD_EXPIRY (R404): When the hold time runs out in row 3, shared lines are no longer driven. -/
  | claimHoldExpiry
  /-- CLAIM_BUS_TIMEOUT (R405): No valid round for 100 µs raises CLAIM_BUS. -/
  | claimBusTimeout
  /-- HOB_HEARTBEAT_WRITE (R403): Every 100 µs the logic die writes a heartbeat to its Hob. -/
  | hobHeartbeatWrite
  /-- TWIN_HEARTBEAT_SEND (R406): Each hub sends HEARTBEAT on the tie link every 100 µs and on state change. -/
  | twinHeartbeatSend
  /-- TWIN_HEARTBEAT_RECEIVED (R414): A HEARTBEAT updates the peer view; a READY STANDBY follows the ACTIVE's state. -/
  | twinHeartbeatReceived (fr : Frame) (tag : TagCheck)
  /-- PATH_SILENT_TIMEOUT (R406): A heartbeat path silent for 300 µs raises TWIN_PATH_A, TWIN_PATH_B or PEER_LOST. -/
  | pathSilentTimeout (pathB : Bool)
  /-- SELFTEST_ITEM_RUN (R407): A self-test item runs at its period and sets or clears its penalty. -/
  | selftestItemRun (item : Fin 9) (found : Nat)
  /-- SEIZE_TIMEOUT (R411): Both paths silent for T_FAIL_US makes the STANDBY seize with health 15. -/
  | seizeTimeout
  /-- SYNC_REQUEST_RECEIVED (R413): The ACTIVE hub sends its sync image in SYNC_BULK frames. -/
  | syncRequestReceived (fr : Frame) (tag : TagCheck)
  /-- SYNC_BULK_RECEIVED (R413): The STANDBY applies the bulk image and then queued writes, becoming READY. -/
  | syncBulkReceived (fr : Frame) (tag : TagCheck)
  /-- SYNC_WRITE_RECEIVED (R414): The STANDBY applies a SYNC_WRITE and acknowledges it. -/
  | syncWriteReceived (fr : Frame) (tag : TagCheck)
  /-- SYNC_ACK_RECEIVED (R414): The ACTIVE hub answers the original writer. -/
  | syncAckReceived (fr : Frame) (tag : TagCheck)
  /-- HANDOVER_REQUEST_WRITE (R417): HANDOVER_REQUEST picks b_h and sends HANDOVER_PROPOSE. -/
  | handoverRequestWrite (w : Writer) (v : Nat)
  /-- HANDOVER_PROPOSE_RECEIVED (R417): The STANDBY agrees if READY with grade at least 1. -/
  | handoverProposeReceived (fr : Frame) (tag : TagCheck)
  /-- HANDOVER_AGREE_RECEIVED (R418): The ACTIVE hub records the agreement for b_h. -/
  | handoverAgreeReceived (fr : Frame) (tag : TagCheck)
  /-- HANDOVER_BOUNDARY (R417): At b_h both hubs swap roles and write their claims. -/
  | handoverBoundary
  /-- HANDOVER_ABANDON (R418): No agreement 500 µs before b_h abandons the handover. -/
  | handoverAbandon
  /-- REVERT_HOLDOFF_EXPIRY (R419): After REVERT_HOLDOFF the ACTIVE hub requests a handover to the preferred hub. -/
  | revertHoldoffExpiry
  /-- FAULT_OCCURRENCE (R427): An occurrence is counted, latched and judged for severity. -/
  | faultOccurrence (n : Fin 512) (item detail : Nat) (live : Bool)
  /-- FAULT_LIVE_FALL (R430): A source's condition ends and LIVE falls. -/
  | faultLiveFall (n : Fin 512)
  /-- FAULT_QUIET_EXPIRY (R430): After quiet time Q an AUTO_QUIET source leaves IN_FAULT. -/
  | faultQuietExpiry (n : Fin 512)
  /-- FAULT_CLEAR (R431): FAULT_COMMAND 1 returns the source to CLEAR. -/
  | faultClear (w : Writer) (n : Fin 512)
  /-- FAULT_FORCE (R425): FAULT_COMMAND 2 injects a synthetic occurrence. -/
  | faultForce (w : Writer) (n : Fin 512)
  /-- FAULT_LATCH_RESET (R424): FAULT_COMMAND 3 empties the latch. -/
  | faultLatchReset (w : Writer) (n : Fin 512)
  /-- STORM_END (R432): A storm ends and one COALESCED entry is written. -/
  | stormEnd
  /-- CRUCIBLE_COMMIT (R440): An entry is committed within 20 µs in SEQUENCE order. -/
  | crucibleCommit
  /-- CRUCIBLE_TRIGGER_WRITE (R441): A write of TRIGGER opens a pinned record. -/
  | crucibleTriggerWrite (w : Writer) (v : Nat)
  /-- POLICY_EVALUATION (R435): Every 1 ms CPA evaluates the rule slots. -/
  | policyEvaluation (measured : List (Fin 256 × Int))
  /-- RULE_WRITE (R436): A rule write releases an enabled rule first, then takes effect. -/
  | ruleWrite (w : Writer) (r : Fin 128) (v : Nat)
  /-- PERTURBATION_START (R445): A record with START begins a perturbation. -/
  | perturbationStart (w : Writer) (i : Fin 16) (v : Nat)
  /-- PERTURBATION_STOP (R445): A record with START clear ends a perturbation. -/
  | perturbationStop (w : Writer) (i : Fin 16) (v : Nat)
  /-- PERTURBATION_EXPIRY (R445): A perturbation ends when its DURATION expires. -/
  | perturbationExpiry (i : Fin 16)
  /-- PERTURBATION_STOP_ALL (R445): STOP_ALL ends every slot. -/
  | perturbationStopAll (w : Writer) (v : Nat)
  /-- CORE_CLOCK_GATE (R447): After CORE_IDLE_US without local traffic CORE clock-gates. -/
  | coreClockGate
  /-- CORE_POWER_GATE (R447): After CORE_GATE_MS clock-gated with empty buffers and PCIe down, CORE power-gates. -/
  | corePowerGate
  /-- CORE_WAKE (R448): A wake source brings CORE AWAKE within 4 µs or 60 µs. -/
  | coreWake
  /-- CORE_ELIGIBILITY_WAKE (R448): A RING timer wakes CORE when a shaped or gated frame becomes eligible. -/
  | coreEligibilityWake
  /-- CP_WAKE (R449): A controller pair wakes within 1 µs of an event. -/
  | cpWake (pair : Fin 2)
  /-- PAN_DOZE_ENTRY (R453): An unheld ACTIVE Pan enters DOZE after DOZE_IDLE_US. -/
  | panDozeEntry (n : Fin 16)
  /-- PAN_DARK_ENTRY (R453): An unheld dozing Pan enters DARK after DARK_IDLE_MS. -/
  | panDarkEntry (n : Fin 16)
  /-- PAN_WAKE (R454): A wake source wakes a Pan, aborting or completing any entry. -/
  | panWake (n : Fin 16)
  /-- PAN_WAKE_COMPLETE (R454): The Pan is ACTIVE within 2 µs from DOZE or 40 µs from DARK. -/
  | panWakeComplete (n : Fin 16)
  /-- VFIELD_WARNING (R458): VFIELD falls through PFW_MV for 2 µs; PFW pins drive and the warning events follow. -/
  | vfieldWarning (mv : Nat)
  /-- VFIELD_WARNING_END (R458): VFIELD above release for PFW_MIN_MS ends the warning. -/
  | vfieldWarningEnd
  /-- VFIELD_UNDERVOLTAGE (R457): VFIELD below 14 V sets VFIELD_LOW and raises VFIELD_UNDERVOLTAGE. -/
  | vfieldUndervoltage (mv : Nat)
  /-- VFIELD_UNDERVOLTAGE_END (R457): VFIELD above 15 V ends the undervoltage. -/
  | vfieldUndervoltageEnd
  /-- FEED_OUT_OF_RANGE (R457): A feed outside 9 to 36 V raises RAIL_MARGIN. -/
  | feedOutOfRange (feedB : Bool) (mv : Nat)
  /-- FEED_BACK_IN_RANGE (R457): A feed back inside for 10 ms ends its RAIL_MARGIN condition. -/
  | feedBackInRange (feedB : Bool)
  /-- RAIL_CHECK (R460): Every 10 ms the logic rails are checked. -/
  | railCheck (outside : List (Nat × Nat))
  /-- TEMPERATURE_CHECK (R460): Every 10 ms each die's temperature is read against T_max. -/
  | temperatureCheck (logic field dram : Int)
  /-- BRANCH_FAST_TRIP (R462): Current above FAST_RATIO × I_set pulls the gate down within 1 µs. -/
  | branchFastTrip (b : Fin 64)
  /-- BRANCH_I2T_TRIP (R462): The accumulator reaches I_set² × TAU_MS and the fuse trips. -/
  | branchI2tTrip (b : Fin 64)
  /-- BRANCH_SOA_TRIP (R462): A start ramp not done within SOA_MS trips the fuse. -/
  | branchSoaTrip (b : Fin 64)
  /-- BRANCH_GATE_TRIP (R462): A gate-source voltage below 8 V for 1 ms trips the fuse. -/
  | branchGateTrip (b : Fin 64)
  /-- BRANCH_PEER_TRIP (R420): An uncommanded gate collapse counts as a fast trip with cause PEER_TRIP. -/
  | branchPeerTrip (b : Fin 64)
  /-- BRANCH_RAMP_COMPLETE (R463): The turn-on ramp completes and the fuse is on. -/
  | branchRampComplete (b : Fin 64)
  /-- BRANCH_BACKOFF_EXPIRY (R464): After its back-off a tripped fuse ramps on again. -/
  | branchBackoffExpiry (b : Fin 64)
  /-- BRANCH_RETRY_RESET (R464): 10 s on without a trip resets the retry count. -/
  | branchRetryReset (b : Fin 64)
  /-- BRANCH_CLEAR (R464): CLEAR releases a latched or shed fuse. -/
  | branchClear (w : Writer) (b : Fin 64) (v : Nat)
  /-- BRANCH_ENABLE_WRITE (R465): ENABLE 0 turns the gate off at once; a change is budget-checked. -/
  | branchEnableWrite (w : Writer) (b : Fin 64) (v : Nat)
  /-- BRANCH_COMMAND_WRITE (R465): A COMMAND write turns the fuse on or off. -/
  | branchCommandWrite (w : Writer) (b : Fin 64) (v : Nat)
  /-- TRANSITION_FORGE (R473): FORGE generates slots 0 and 1 and closes debug. -/
  | transitionForge (w : Writer) (v : Nat) (good : Bool)
  /-- TRANSITION_TAKE (R473): TAKE installs a pending owner root and key. -/
  | transitionTake (w : Writer) (v : Nat) (good : Bool)
  /-- TRANSITION_TRANSFER (R473): TRANSFER installs a pending new owner root and key. -/
  | transitionTransfer (w : Writer) (v : Nat) (good : Bool)
  /-- TRANSITION_RETURN (R473): RETURN erases slots 2 to 4 and opens debug. -/
  | transitionReturn (w : Writer) (v : Nat) (good : Bool)
  /-- TRANSITION_SCRAP (R473): SCRAP erases every slot. -/
  | transitionScrap (w : Writer) (v : Nat) (good : Bool)
  /-- ROOT_TAKEOVER (R473): At EFFECTIVE_TURN the pending root and owner key take over. -/
  | rootTakeover
  /-- KEY_LOAD (R476): No sooner than 20 ms after reset the working key is loaded. -/
  | keyLoad (intact : Bool)
  /-- TAG_FLOOR_ADVANCE (R480): When FTIME comes within 1 s of the tag floor it is rewritten to FTIME + 2 s. -/
  | tagFloorAdvance
  /-- TAG_WAIT_RELEASE (R479): A frame held for tagging is released at the turn boundary or when conditions hold. -/
  | tagWaitRelease
  /-- EPOCH_COMMIT (R482): EPOCH_COMMIT schedules the next epoch at b_r. -/
  | epochCommit (w : Writer) (v : Nat)
  /-- EPOCH_ROLLOVER (R483): At b_r the new key is loaded in a single clock. -/
  | epochRollover
  /-- KEY_EPOCH_AGE (R485): 2^30 turns after EPOCH_TURN KEY_EPOCH_AGE occurs. -/
  | keyEpochAge
  /-- EPOCH_AGE_ZEROISE (R485): 2^31 turns after EPOCH_TURN the working key is zeroised. -/
  | epochAgeZeroise
  /-- ZEROISE_WRITE (R486): ZEROISE clears the working key within 1 µs. -/
  | zeroiseWrite (w : Writer) (v : Nat)
  /-- KEY_LOSS_SAFE (R487): After the hold time still ACTIVE, the hub enters SAFE. -/
  | keyLossSafe
  /-- ATTEST_REQUEST (R488): An attestation request names a slot and a nonce. -/
  | attestRequest (w : Writer) (v : Nat)
  /-- ATTEST_COMPLETE (R488): Within 50 ms the statement and signature are filled. -/
  | attestComplete
  /-- COUNTERSIGN_KEY_WRITE (R474): A signed key is installed into slot 4. -/
  | countersignKeyWrite (w : Writer) (v : Nat) (good : Bool)
  /-- BOOT_LOADER_START (R494): The ROM starts the checked loader. -/
  | bootLoaderStart (loaderGood imageGood : Bool) (torn : Nat)
  /-- FIRMWARE_START (R494): The firmware starts, loads the parameter set and leaves INIT for PREOP. -/
  | firmwareStart
  /-- UPDATE_BEGIN (R496): BEGIN empties staging and enters DOWNLOAD. -/
  | updateBegin (w : Writer)
  /-- STAGING_BLOCK_WRITE (R497): A block of the image is staged in the Stockpot. -/
  | stagingBlockWrite (w : Writer) (off : Nat) (data : List Byte)
  /-- UPDATE_WRITE (R498): WRITE checks the staged header and starts overwriting the image slot. -/
  | updateWrite (w : Writer) (digestGood : Bool)
  /-- SECTOR_WRITTEN (R498): A sector is written and journalled; after the last the phase is ARMED. -/
  | sectorWritten
  /-- UPDATE_CONFIRM (R500): CONFIRM writes the digest and clears a migrated copy. -/
  | updateConfirm (w : Writer)
  /-- UPDATE_ABORT (R496): ABORT empties staging and returns to IDLE. -/
  | updateAbort (w : Writer)
  /-- TRIAL_WINDOW_EXPIRY (R499): TRIAL_MIN without CONFIRM raises UPDATE_TRIAL. -/
  | trialWindowExpiry
  /-- ENTER_RECOVERY_WRITE (R506): ENTER_RECOVERY resets into RECOVERY. -/
  | enterRecoveryWrite (w : Writer) (v : Nat)
  /-- RECOVERY_IMAGE_BLOCK (R503): A block of RECOVERY_IMAGE arrives and is written after its CRC passes. -/
  | recoveryImageBlock (w : Writer) (off : Nat) (data : List Byte)
  /-- RECOVERY_BLOCK_WRITTEN (R503): A block is in MRAM and its WRITE_BLOCK is answered. -/
  | recoveryBlockWritten
  /-- RECOVERY_REBOOT (R503): REBOOT arms the written image and resets. -/
  | recoveryReboot (w : Writer)
  /-- UART_FRAME_RECEIVED (R504): A maintenance UART frame is checked and served. -/
  | uartFrameReceived (bytes : List Byte)
  /-- JTAG_EXTEST (R516): EXTEST selects the boundary-scan register. -/
  | jtagExtest
  /-- JTAG_IDCODE (R516): IDCODE returns 0x1072_07CB. -/
  | jtagIdcode
  /-- JTAG_SAMPLE_PRELOAD (R516): SAMPLE/PRELOAD selects the boundary-scan register. -/
  | jtagSamplePreload
  /-- JTAG_CLAMP (R516): CLAMP holds the boundary outputs and selects bypass. -/
  | jtagClamp
  /-- JTAG_HIGHZ (R516): HIGHZ puts logic-die outputs high-impedance. -/
  | jtagHighz
  /-- JTAG_CRUCIBLE_ADDR (R516): CRUCIBLE_ADDR sets the Crucible byte offset in RETURNED. -/
  | jtagCrucibleAddr (v : Nat)
  /-- JTAG_CRUCIBLE_DATA (R516): CRUCIBLE_DATA captures 64 bytes and advances the offset. -/
  | jtagCrucibleData
  /-- JTAG_BYPASS (R516): BYPASS selects the one-bit register. -/
  | jtagBypass
  /-- PCIE_LINK_UP (R302): The PCIe link trains up, so the HOST switch port can come up again. -/
  | pcieLinkUp (speed width : Nat) (busMaster : Bool)
  /-- SGMII_SYNC_REGAINED (R316): An edge port regains SGMII code-group synchronisation and STATUS SYNC_LOST clears. -/
  | sgmiiSyncRegained (e : Fin 8)
  /-- HOLDOVER_LIMIT_EXPIRY (R136): HOLDOVER_LIMIT seconds after an external lock is lost, the candidate's CLOCK_CLASS
  falls from 7 to 248. -/
  | holdoverLimitExpiry
  /-- CANDIDATE_LISTEN_EXPIRY (R136): 750 ms after reset a hub that has listened becomes a time candidate. -/
  | candidateListenExpiry
  /-- PTP_MESSAGE_SEND (R151): An edge port originates its periodic IEEE 1588 Sync, Announce or delay messages at
  LOG_SYNC and LOG_ANNOUNCE intervals. -/
  | ptpMessageSend (e : Fin 8) (kind : Fin 16)
  /-- PTP_LOCK_LOST (R136): An edge port in SLAVE state loses its lock to the external grandmaster. -/
  | ptpLockLost (e : Fin 8)
  /-- CAN_RECEIVE_ERROR (R220): The controller detects a bus error while receiving, raising REC and possibly
  ERROR_PASSIVE. -/
  | canReceiveError (c : Fin 32) (add : Nat)
  /-- CQ_INPUT_CROSSING (R259): The C/Q level of a DI_CQ port crosses, starting debounce and waking the Pan. -/
  | cqInputCrossing (p : Fin 64) (level : Bool)
  /-- CQ_CURRENT_LIMIT (R250): A C/Q driver stays in current limit for 1 ms and sets BAD_CHANNEL and CQ_LIMIT. -/
  | cqCurrentLimit (p : Fin 64)
  /-- IOL_STARTUP_DELAY_EXPIRY (R245): 50 ms after its L+ soft start ends, an IO-Link port asks for a wake slot. -/
  | iolStartupDelayExpiry (p : Fin 64)
  /-- IOL_REPLY_TIMEOUT (R243): A device reply to an M-sequence does not arrive in time, leading to retries and
  COMLOST. -/
  | iolReplyTimeout (p : Fin 64)
  /-- IOL_M_SEQUENCE_WAKE (R259): A dozing Pan is woken to be ACTIVE 5 µs before an M-sequence. -/
  | iolMSequenceWake (p : Fin 64)
  /-- SAMPLING_WAKE (R184): A Pan with a mapped COUNTER line is woken to be ACTIVE 5 µs before each boundary. -/
  | samplingWake (n : Fin 16)
  /-- STAGE_COOLED (R188): A thermally tripped stage cools below 145 °C and may retry. -/
  | stageCooled (i : Fin 320)
  /-- I2T_HALF_LEVEL_REACHED (R464): An I²t-tripped fuse's accumulator falls below half its trip level and may retry. -/
  | i2tHalfLevelReached (b : Fin 64)
  /-- DL_SLOT_CHANGE_RELEASE (R264): A deferred change on a Whisk discrete-line slot is passed once 20 µs have elapsed
  since the previous one. -/
  | dlSlotChangeRelease (w : Fin 32) (slot : Fin 8)
  /-- LOCKSTEP_MISMATCH (R407): A controller pair's lockstep cores disagree, raising LOCKSTEP and setting grade 0. -/
  | lockstepMismatch (pair : Fin 2)
  /-- DMA_READ_COMPLETION (R372): The completion of a hub DMA read of a host buffer arrives and the descriptor's
  STATUS is written. -/
  | dmaReadCompletion (good : Bool) (data : List Byte)
  /-- DMA_COMPLETION_TIMEOUT (R373): A hub DMA read unanswered within 10 ms is counted and raises HOST_DMA_ERROR. -/
  | dmaCompletionTimeout
  deriving DecidableEq, Repr

end Sys2Proof
end

