-- ==== Sys2Proof/Config.lean ====
section
/-! DEFINITION. What the spec leaves open and the model leaves free: uninterpreted constants with no body, so that no
proof can rest on a value of theirs. -/

namespace Sys2Proof

/-- The free values, one for each value the spec states an effect for but no number: a random part, a key digest, a
signature, a servo's rate. A step that needs one reads `Config.freeValue` at the state's counter and advances it. -/
opaque Config.freeValue : Nat → Nat

end Sys2Proof
end

