-- ==== Sys2Proof/Machine/Cells.lean ====
section
/-! DEFINITION. Operations on sparse tables of cells, and the bit-field, byte-order and sign helpers that every other
file reads and writes the spec's register and frame layouts with. -/

namespace Sys2Proof

/-- What cell `k` reads as: its listed value, or `d k` (the reset contents) when it is unlisted. -/
def cellGet {α : Type} (d : Nat → α) : Cells α → Nat → α
  | [], k => d k
  | (j, v) :: m, k => if j = k then v else cellGet d m k

/-- The table without any entry for `k`. -/
def cellErase {α : Type} : Cells α → Nat → Cells α
  | [], _ => []
  | (j, v) :: m, k => if j = k then cellErase m k else (j, v) :: cellErase m k

/-- The table with an entry for `k` put before the first greater key. -/
def cellInsert {α : Type} : Cells α → Nat → α → Cells α
  | [], k, v => [(k, v)]
  | (j, u) :: m, k, v => if k < j then (k, v) :: (j, u) :: m else (j, u) :: cellInsert m k v

/-- Cell `k` becomes `v`. Writing what an unlisted cell reads as removes the entry, which keeps the canonical form. -/
def cellSet {α : Type} [DecidableEq α] (d : Nat → α) (m : Cells α) (k : Nat) (v : α) : Cells α :=
  if v = d k then cellErase m k else cellInsert (cellErase m k) k v

/-- The canonical form: keys strictly rise, and no entry equals what its cell would read as unlisted. -/
def cellsWf {α : Type} [DecidableEq α] (d : Nat → α) : Cells α → Bool
  | [] => true
  | [(j, v)] => decide (v ≠ d j)
  | (j, v) :: (j', v') :: m => decide (v ≠ d j) && decide (j < j') && cellsWf d ((j', v') :: m)

/-- Bits `hi` down to `lo` of `v`, as the spec's `[hi:lo]`. -/
def fld (v hi lo : Nat) : Nat := v / 2 ^ lo % 2 ^ (hi + 1 - lo)

/-- Bit `i` of `v`. -/
def bitOf (v i : Nat) : Bool := v / 2 ^ i % 2 == 1

/-- A flag as the number 1 or 0. -/
def b2n (b : Bool) : Nat := if b then 1 else 0

/-- `v` with bits `hi` down to `lo` replaced by `x`. -/
def setFld (v hi lo x : Nat) : Nat :=
  v - fld v hi lo * 2 ^ lo + x % 2 ^ (hi + 1 - lo) * 2 ^ lo

/-- `v` with bit `i` set or cleared. -/
def setBit (v i : Nat) (b : Bool) : Nat := setFld v i i (b2n b)

/-- The bits of `v` that are clear in `mask` (`v AND NOT mask`). -/
def clearBits (v mask : Nat) : Nat := v - (v &&& mask)

/-- `v` as `n` bytes, most significant byte first (R345). -/
def beBytes : Nat → Nat → List Byte
  | 0, _ => []
  | n + 1, v => BitVec.ofNat 8 (v / 256 ^ n) :: beBytes n v

/-- The number a byte string spells, most significant byte first (R345). -/
def beNat : List Byte → Nat
  | [] => 0
  | b :: bs => b.toNat * 256 ^ bs.length + beNat bs

/-- `n` bytes of `p` from byte `i`, as a number, most significant byte first; bytes beyond the end count as zero. -/
def beAt (p : List Byte) (i n : Nat) : Nat :=
  beNat (((p.drop i).take n) ++ List.replicate (n - ((p.drop i).take n).length) 0)

/-- A two's-complement number of `bits` bits as an integer. -/
def toSigned (bits v : Nat) : Int :=
  if v % 2 ^ bits < 2 ^ (bits - 1) then (v % 2 ^ bits : Nat) else (v % 2 ^ bits : Nat) - (2 ^ bits : Int)

/-- An integer as a two's-complement number of `bits` bits. -/
def ofSigned (bits : Nat) (v : Int) : Nat := (v % (2 ^ bits : Int)).toNat

/-- The list with its element `i` replaced by `f` of it. -/
def modNth {α : Type} (f : α → α) : List α → Nat → List α
  | [], _ => []
  | a :: l, 0 => f a :: l
  | a :: l, i + 1 => a :: modNth f l i

/-- One bit step of the reflected CRC-32 of R353. -/
def crcBit (c : Nat) : Nat := if c % 2 = 1 then (c / 2) ^^^ 0xEDB88320 else c / 2

/-- One byte of the CRC-32 of R353: eight bit steps. -/
def crcByte (c : Nat) (b : Byte) : Nat :=
  crcBit (crcBit (crcBit (crcBit (crcBit (crcBit (crcBit (crcBit (c ^^^ b.toNat))))))))

/-- The CRC-32 of R353: polynomial 0x04C1_1DB7 reflected, initial value and final XOR 0xFFFF_FFFF. -/
def crc32 (p : List Byte) : Nat := p.foldl crcByte 0xFFFFFFFF ^^^ 0xFFFFFFFF

/-- A 20-bit fabric word from its quality nibble and its value (Table 0.2). -/
def word20 (q v : Nat) : Nat := q % 16 * 65536 + v % 65536

/-- The quality nibble of a 20-bit fabric word. -/
def wQual (w : Nat) : Nat := w / 65536 % 16

/-- The value field of a 20-bit fabric word. -/
def wVal (w : Nat) : Nat := w % 65536

end Sys2Proof
end

