-- ==== Sys2Proof/Machine/Objects.lean ====
section
/-! DEFINITION. The Object Dictionary as the spec's object tables give it (chapters 2 to 19): every index, sub-index,
type, size, access entry, default and range; and what a cell of the dictionary reads as before anything wrote it. -/

namespace Sys2Proof.Machine

/-- The rank of a role: P, O, E, S, V in ascending order (Table 0.3). -/
def roleRank : Role → Nat
  | .pub => 0 | .operator => 1 | .engineer => 2 | .service => 3 | .vendor => 4

/-- The types of Table 13.2 that a single sub-index can have. -/
inductive OType where
  | bool | u8 | u16 | u32 | u64 | i8 | i16 | i32 | i64 | w20 | ftime | string | octets | array
  deriving DecidableEq, Repr

/-- The type codes of Table 13.2. -/
def OType.code : OType → Nat
  | .bool => 1 | .u8 => 2 | .u16 => 3 | .u32 => 4 | .u64 => 5 | .i8 => 6 | .i16 => 7 | .i32 => 8 | .i64 => 9
  | .w20 => 10 | .ftime => 12 | .string => 13 | .octets => 14 | .array => 16

/-- Access entries of the object tables: a base access and, for writable objects, the role letter, the hub states in
which writing is allowed (1 INIT, 2 PREOP, 4 OPERATE, 8 SAFE, 16 MAINT; 64 the recovery range, gated by role alone) and
whether the object is persistent. -/
inductive Access where
  | ro
  | const
  | rw (role : Role) (states : Nat) (persistent : Bool)
  | wo (role : Role) (states : Nat) (persistent : Bool)
  deriving DecidableEq, Repr

/-- One row of an object table: `index` to `index + count - 1`, sub-indices `subLo` to `subHi` in steps of `stride`. -/
structure ObjRow where
  index : Nat
  count : Nat
  subLo : Nat
  subHi : Nat
  ty : OType
  size : Nat
  access : Access
  default : Nat
  lo : Int
  hi : Int
  /-- Zero is also in range (a value such as "0, or 3 to 510"). -/
  zeroToo : Bool
  /-- The bits that a write reaches; 0 when no bit of the object is reserved (R7). -/
  mask : Nat
  /-- The object is a counter of R69. -/
  counter : Bool
  stride : Nat
  deriving DecidableEq, Repr

/-- The object number of a sub-index of an index (R344). -/
def obj (index sub : Nat) : Nat := index * 256 + sub

/-- The row covers sub-index `s` of index `i`. -/
def ObjRow.covers (r : ObjRow) (i s : Nat) : Bool :=
  decide (r.index ≤ i) && decide (i < r.index + r.count) && decide (r.subLo ≤ s) && decide (s ≤ r.subHi) &&
    (s - r.subLo) % r.stride == 0

/-- Object table rows of indices 0xx, part 0. -/
def objRows0_0 : List ObjRow := [
  ⟨0x000, 1, 0x00, 0x00, .u8, 1, .const, 7, 0, 255, false, 0, false, 1⟩,
  ⟨0x000, 1, 0x01, 0x01, .u32, 4, .const, 0x720, 0, 4294967295, false, 0, false, 1⟩,
  ⟨0x000, 1, 0x02, 0x02, .u8, 1, .const, 177, 0, 255, false, 0, false, 1⟩,
  ⟨0x000, 1, 0x03, 0x03, .u64, 8, .const, 0, 0, 18446744073709551615, false, 0, false, 1⟩,
  ⟨0x000, 1, 0x04, 0x04, .u32, 4, .ro, 0, 0, 4294967295, false, 0, false, 1⟩,
  ⟨0x000, 1, 0x05, 0x05, .u32, 4, .ro, 0, 0, 4294967295, false, 0, false, 1⟩,
  ⟨0x000, 1, 0x06, 0x06, .u16, 2, .const, 259, 0, 65535, false, 0, false, 1⟩,
  ⟨0x000, 1, 0x07, 0x07, .u16, 2, .ro, 0, 0, 65535, false, 0, false, 1⟩,
  ⟨0x010, 1, 0x00, 0x00, .u8, 1, .const, 3, 0, 255, false, 0, false, 1⟩,
  ⟨0x010, 1, 0x01, 0x01, .bool, 1, .ro, 0, 0, 1, false, 0, false, 1⟩,
  ⟨0x010, 1, 0x02, 0x02, .bool, 1, (.rw .service 18 false), 0, 0, 1, false, 0, false, 1⟩,
  ⟨0x010, 1, 0x03, 0x03, .bool, 1, .ro, 0, 0, 1, false, 0, false, 1⟩,
  ⟨0x020, 1, 0x00, 0x00, .u32, 4, .ro, 0, 0, 4294967295, false, 0, false, 1⟩,
  ⟨0x021, 1, 0x00, 0x00, .u8, 1, (.wo .operator 31 false), 0, 1, 6, false, 0, false, 1⟩,
  ⟨0x022, 1, 0x00, 0x00, .u8, 1, .const, 4, 0, 255, false, 0, false, 1⟩,
  ⟨0x022, 1, 0x01, 0x01, .bool, 1, (.rw .engineer 18 true), 1, 0, 1, false, 0, false, 1⟩,
  ⟨0x022, 1, 0x02, 0x02, .u32, 4, (.rw .engineer 18 true), 600, 60, 86400, false, 0, false, 1⟩,
  ⟨0x022, 1, 0x03, 0x03, .u32, 4, .ro, 0, 0, 4294967295, false, 0, false, 1⟩,
  ⟨0x022, 1, 0x04, 0x04, .u32, 4, .ro, 0, 0, 4294967295, false, 0, true, 1⟩,
  ⟨0x030, 1, 0x00, 0x00, .u8, 1, .const, 4, 0, 255, false, 0, false, 1⟩,
  ⟨0x030, 1, 0x01, 0x01, .u8, 1, (.rw .service 18 true), 2, 0, 3, false, 0, false, 1⟩,
  ⟨0x030, 1, 0x02, 0x02, .u8, 1, (.rw .service 18 true), 2, 0, 3, false, 0, false, 1⟩,
  ⟨0x030, 1, 0x03, 0x03, .bool, 1, (.rw .service 18 true), 0, 0, 1, false, 0, false, 1⟩,
  ⟨0x030, 1, 0x04, 0x04, .u8, 1, (.rw .engineer 18 true), 0, 0, 15, false, 0, false, 1⟩]

/-- Object table rows of indices 0xx, part 1. -/
def objRows0_1 : List ObjRow := [
  ⟨0x040, 1, 0x00, 0x00, .u8, 1, .const, 8, 0, 255, false, 0, false, 1⟩,
  ⟨0x040, 1, 0x01, 0x01, .bool, 1, (.wo .engineer 30 false), 0, 0, 1, false, 0, false, 1⟩,
  ⟨0x040, 1, 0x02, 0x02, .bool, 1, (.wo .engineer 2 false), 0, 0, 1, false, 0, false, 1⟩,
  ⟨0x040, 1, 0x03, 0x03, .u8, 1, .ro, 0, 0, 255, false, 0, false, 1⟩,
  ⟨0x040, 1, 0x04, 0x04, .u32, 4, .ro, 0, 0, 4294967295, false, 0, false, 1⟩,
  ⟨0x040, 1, 0x05, 0x05, .u32, 4, .ro, 0, 0, 4294967295, false, 0, true, 1⟩,
  ⟨0x040, 1, 0x06, 0x06, .ftime, 8, .ro, 0, (-9223372036854775808), 9223372036854775807, false, 0, false, 1⟩,
  ⟨0x040, 1, 0x07, 0x07, .u8, 1, .ro, 0, 0, 255, false, 0, false, 1⟩,
  ⟨0x040, 1, 0x08, 0x08, .bool, 1, .ro, 0, 0, 1, false, 0, false, 1⟩,
  ⟨0x050, 1, 0x00, 0x00, .u8, 1, .const, 7, 0, 255, false, 0, false, 1⟩,
  ⟨0x050, 1, 0x01, 0x01, .u16, 2, .ro, 0, 0, 65535, false, 0, false, 1⟩,
  ⟨0x050, 1, 0x02, 0x02, .u16, 2, (.rw .engineer 30 true), 0, 10, 60000, true, 0, false, 1⟩,
  ⟨0x050, 1, 0x03, 0x03, .u64, 8, .ro, 0, 0, 18446744073709551615, false, 0, true, 1⟩,
  ⟨0x050, 1, 0x04, 0x04, .u64, 8, .ro, 0, 0, 18446744073709551615, false, 0, true, 1⟩,
  ⟨0x050, 1, 0x05, 0x05, .u64, 8, .ro, 0, 0, 18446744073709551615, false, 0, true, 1⟩,
  ⟨0x050, 1, 0x06, 0x06, .u64, 8, .ro, 0, 0, 18446744073709551615, false, 0, true, 1⟩,
  ⟨0x050, 1, 0x07, 0x07, .u32, 4, .ro, 0, 0, 4294967295, false, 0, true, 1⟩,
  ⟨0x060, 1, 0x00, 0x00, .u8, 1, .const, 6, 0, 255, false, 0, false, 1⟩,
  ⟨0x060, 1, 0x01, 0x06, .u64, 8, .ro, 0, 0, 18446744073709551615, false, 0, true, 1⟩,
  ⟨0x0F0, 1, 0x00, 0x00, .array, 4, .ro, 0, 0, 4294967295, false, 0, false, 1⟩]

/-- Object table rows of indices 0xx. -/
def objRows0 : List ObjRow := objRows0_0 ++ objRows0_1

/-- Object table rows of indices 1xx, part 0. -/
def objRows1_0 : List ObjRow := [
  ⟨0x100, 1, 0x00, 0x00, .u8, 1, .const, 6, 0, 255, false, 0, false, 1⟩,
  ⟨0x100, 1, 0x01, 0x01, .u16, 2, (.rw .engineer 18 true), 0x88b5, 1536, 65535, false, 0, false, 1⟩,
  ⟨0x100, 1, 0x02, 0x02, .u8, 1, (.rw .engineer 18 true), 1, 1, 3, false, 0, false, 1⟩,
  ⟨0x100, 1, 0x03, 0x03, .u8, 1, (.rw .engineer 18 true), 3, 1, 3, false, 0, false, 1⟩,
  ⟨0x100, 1, 0x04, 0x04, .u16, 2, (.rw .engineer 18 true), 100, 10, 1000, false, 0, false, 1⟩,
  ⟨0x100, 1, 0x05, 0x05, .u32, 4, .ro, 0, 0, 4294967295, false, 0, false, 1⟩,
  ⟨0x100, 1, 0x06, 0x06, .u8, 1, .ro, 0, 0, 255, false, 0, false, 1⟩,
  ⟨0x110, 4, 0x00, 0x00, .u8, 1, .const, 14, 0, 255, false, 0, false, 1⟩,
  ⟨0x110, 4, 0x01, 0x01, .bool, 1, (.rw .engineer 18 true), 0, 0, 1, false, 0, false, 1⟩,
  ⟨0x110, 4, 0x02, 0x02, .u8, 1, (.rw .engineer 18 true), 0, 0, 2, false, 0, false, 1⟩,
  ⟨0x110, 4, 0x03, 0x03, .u8, 1, (.rw .engineer 18 true), 0, 0, 2, false, 0, false, 1⟩,
  ⟨0x110, 4, 0x04, 0x04, .u8, 1, (.rw .engineer 18 true), 0, 0, 1, false, 0, false, 1⟩,
  ⟨0x110, 4, 0x05, 0x05, .u16, 2, (.rw .engineer 18 true), 100, 10, 10000, false, 0, false, 1⟩,
  ⟨0x110, 4, 0x06, 0x06, .u8, 1, .ro, 0, 0, 255, false, 0, false, 1⟩,
  ⟨0x110, 4, 0x07, 0x07, .u8, 1, .ro, 0, 0, 255, false, 0, false, 1⟩,
  ⟨0x110, 4, 0x08, 0x08, .bool, 1, .ro, 0, 0, 1, false, 0, false, 1⟩,
  ⟨0x110, 4, 0x09, 0x09, .u8, 1, .ro, 0, 0, 255, false, 0, false, 1⟩,
  ⟨0x110, 4, 0x0A, 0x0A, .u64, 8, .ro, 0, 0, 18446744073709551615, false, 0, false, 1⟩,
  ⟨0x110, 4, 0x0B, 0x0B, .u16, 2, .ro, 0, 0, 65535, false, 0, false, 1⟩,
  ⟨0x110, 4, 0x0C, 0x0C, .u8, 1, .ro, 0, 0, 255, false, 0, false, 1⟩,
  ⟨0x110, 4, 0x0D, 0x0D, .u8, 1, .ro, 0, 0, 255, false, 0, false, 1⟩,
  ⟨0x110, 4, 0x0E, 0x0E, .u16, 2, .ro, 0, 0, 65535, false, 0, false, 1⟩,
  ⟨0x114, 4, 0x00, 0x00, .u8, 1, .const, 13, 0, 255, false, 0, false, 1⟩,
  ⟨0x114, 4, 0x01, 0x01, .bool, 1, .ro, 0, 0, 1, false, 0, false, 1⟩]

/-- Object table rows of indices 1xx, part 1. -/
def objRows1_1 : List ObjRow := [
  ⟨0x114, 4, 0x02, 0x02, .u8, 1, .ro, 0, 0, 255, false, 0, false, 1⟩,
  ⟨0x114, 4, 0x03, 0x03, .string, 16, .ro, 0, 0, 0, false, 0, false, 1⟩,
  ⟨0x114, 4, 0x04, 0x04, .string, 16, .ro, 0, 0, 0, false, 0, false, 1⟩,
  ⟨0x114, 4, 0x05, 0x05, .string, 16, .ro, 0, 0, 0, false, 0, false, 1⟩,
  ⟨0x114, 4, 0x06, 0x06, .i16, 2, .ro, 0, (-32768), 32767, false, 0, false, 1⟩,
  ⟨0x114, 4, 0x07, 0x07, .u16, 2, .ro, 0, 0, 65535, false, 0, false, 1⟩,
  ⟨0x114, 4, 0x08, 0x08, .u16, 2, .ro, 0, 0, 65535, false, 0, false, 1⟩,
  ⟨0x114, 4, 0x09, 0x09, .u16, 2, .ro, 0, 0, 65535, false, 0, false, 1⟩,
  ⟨0x114, 4, 0x0A, 0x0A, .u16, 2, .ro, 0, 0, 65535, false, 0, false, 1⟩,
  ⟨0x114, 4, 0x0B, 0x0B, .u16, 2, .ro, 0, 0, 65535, false, 0, false, 1⟩,
  ⟨0x114, 4, 0x0C, 0x0C, .u16, 2, .ro, 0, 0, 65535, false, 0, false, 1⟩,
  ⟨0x114, 4, 0x0D, 0x0D, .u8, 1, .ro, 0, 0, 255, false, 0, false, 1⟩,
  ⟨0x118, 4, 0x00, 0x00, .u8, 1, .const, 27, 0, 255, false, 0, false, 1⟩,
  ⟨0x118, 4, 0x01, 0x01, .u64, 8, .ro, 0, 0, 18446744073709551615, false, 0, true, 1⟩,
  ⟨0x118, 4, 0x02, 0x02, .u64, 8, .ro, 0, 0, 18446744073709551615, false, 0, true, 1⟩,
  ⟨0x118, 4, 0x03, 0x03, .u64, 8, .ro, 0, 0, 18446744073709551615, false, 0, true, 1⟩,
  ⟨0x118, 4, 0x04, 0x04, .u64, 8, .ro, 0, 0, 18446744073709551615, false, 0, true, 1⟩,
  ⟨0x118, 4, 0x05, 0x05, .u64, 8, .ro, 0, 0, 18446744073709551615, false, 0, true, 1⟩,
  ⟨0x118, 4, 0x06, 0x06, .u64, 8, .ro, 0, 0, 18446744073709551615, false, 0, true, 1⟩,
  ⟨0x118, 4, 0x07, 0x07, .u64, 8, .ro, 0, 0, 18446744073709551615, false, 0, true, 1⟩,
  ⟨0x118, 4, 0x08, 0x08, .u64, 8, .ro, 0, 0, 18446744073709551615, false, 0, true, 1⟩,
  ⟨0x118, 4, 0x09, 0x09, .u64, 8, .ro, 0, 0, 18446744073709551615, false, 0, true, 1⟩,
  ⟨0x118, 4, 0x0A, 0x0A, .u64, 8, .ro, 0, 0, 18446744073709551615, false, 0, true, 1⟩,
  ⟨0x118, 4, 0x0B, 0x0B, .u64, 8, .ro, 0, 0, 18446744073709551615, false, 0, true, 1⟩]

/-- Object table rows of indices 1xx, part 2. -/
def objRows1_2 : List ObjRow := [
  ⟨0x118, 4, 0x0C, 0x0C, .u64, 8, .ro, 0, 0, 18446744073709551615, false, 0, true, 1⟩,
  ⟨0x118, 4, 0x0D, 0x0D, .u64, 8, .ro, 0, 0, 18446744073709551615, false, 0, true, 1⟩,
  ⟨0x118, 4, 0x0E, 0x0E, .u64, 8, .ro, 0, 0, 18446744073709551615, false, 0, true, 1⟩,
  ⟨0x118, 4, 0x0F, 0x0F, .u64, 8, .ro, 0, 0, 18446744073709551615, false, 0, true, 1⟩,
  ⟨0x118, 4, 0x10, 0x10, .u64, 8, .ro, 0, 0, 18446744073709551615, false, 0, true, 1⟩,
  ⟨0x118, 4, 0x11, 0x11, .u64, 8, .ro, 0, 0, 18446744073709551615, false, 0, true, 1⟩,
  ⟨0x118, 4, 0x12, 0x12, .u64, 8, .ro, 0, 0, 18446744073709551615, false, 0, true, 1⟩,
  ⟨0x118, 4, 0x13, 0x13, .u64, 8, .ro, 0, 0, 18446744073709551615, false, 0, true, 1⟩,
  ⟨0x118, 4, 0x14, 0x14, .u64, 8, .ro, 0, 0, 18446744073709551615, false, 0, true, 1⟩,
  ⟨0x118, 4, 0x15, 0x15, .u64, 8, .ro, 0, 0, 18446744073709551615, false, 0, true, 1⟩,
  ⟨0x118, 4, 0x16, 0x16, .u64, 8, .ro, 0, 0, 18446744073709551615, false, 0, true, 1⟩,
  ⟨0x118, 4, 0x17, 0x17, .u64, 8, .ro, 0, 0, 18446744073709551615, false, 0, true, 1⟩,
  ⟨0x118, 4, 0x18, 0x18, .u64, 8, .ro, 0, 0, 18446744073709551615, false, 0, true, 1⟩,
  ⟨0x118, 4, 0x19, 0x19, .u64, 8, .ro, 0, 0, 18446744073709551615, false, 0, true, 1⟩,
  ⟨0x118, 4, 0x1A, 0x1A, .u64, 8, .ro, 0, 0, 18446744073709551615, false, 0, true, 1⟩,
  ⟨0x118, 4, 0x1B, 0x1B, .u64, 8, .ro, 0, 0, 18446744073709551615, false, 0, true, 1⟩,
  ⟨0x11C, 1, 0x00, 0x00, .u8, 1, .const, 1, 0, 255, false, 0, false, 1⟩,
  ⟨0x11C, 1, 0x01, 0x01, .u8, 1, (.wo .operator 31 false), 0, 0, 255, false, 0, false, 1⟩,
  ⟨0x11D, 1, 0x00, 0x00, .u8, 1, .const, 6, 0, 255, false, 0, false, 1⟩,
  ⟨0x11D, 1, 0x01, 0x01, .u64, 8, .ro, 0, 0, 18446744073709551615, false, 0, true, 1⟩,
  ⟨0x11D, 1, 0x02, 0x02, .u64, 8, .ro, 0, 0, 18446744073709551615, false, 0, true, 1⟩,
  ⟨0x11D, 1, 0x03, 0x03, .u64, 8, .ro, 0, 0, 18446744073709551615, false, 0, true, 1⟩,
  ⟨0x11D, 1, 0x04, 0x04, .u8, 1, .ro, 0, 0, 255, false, 0, false, 1⟩,
  ⟨0x11D, 1, 0x05, 0x05, .u64, 8, .ro, 0, 0, 18446744073709551615, false, 0, true, 1⟩]

/-- Object table rows of indices 1xx, part 3. -/
def objRows1_3 : List ObjRow := [
  ⟨0x11D, 1, 0x06, 0x06, .u64, 8, .ro, 0, 0, 18446744073709551615, false, 0, true, 1⟩,
  ⟨0x130, 1, 0x00, 0x00, .u8, 1, .const, 9, 0, 255, false, 0, false, 1⟩,
  ⟨0x130, 1, 0x01, 0x01, .bool, 1, .ro, 0, 0, 1, false, 0, false, 1⟩,
  ⟨0x130, 1, 0x02, 0x02, .bool, 1, .ro, 0, 0, 1, false, 0, false, 1⟩,
  ⟨0x130, 1, 0x03, 0x03, .u8, 1, (.rw .service 16 false), 0, 0, 255, false, 0x3, false, 1⟩,
  ⟨0x130, 1, 0x04, 0x04, .u64, 8, (.rw .service 18 false), 0, 0, 18446744073709551615, false, 0, false, 1⟩,
  ⟨0x130, 1, 0x05, 0x05, .u64, 8, (.rw .service 18 false), 0, 0, 18446744073709551615, false, 0, false, 1⟩,
  ⟨0x130, 1, 0x06, 0x06, .u32, 4, (.rw .service 18 true), 0x5f5e100, 1, 4000000000, false, 0, false, 1⟩,
  ⟨0x130, 1, 0x07, 0x07, .u8, 1, (.rw .engineer 18 true), 90, 50, 100, false, 0, false, 1⟩,
  ⟨0x130, 1, 0x08, 0x08, .u8, 1, .ro, 0, 0, 255, false, 0, false, 1⟩,
  ⟨0x130, 1, 0x09, 0x09, .u16, 2, (.rw .engineer 18 true), 2, 0, 50, false, 0, false, 1⟩,
  ⟨0x140, 1, 0x00, 0x00, .u8, 1, .const, 11, 0, 255, false, 0, false, 1⟩,
  ⟨0x140, 1, 0x01, 0x01, .u8, 1, (.rw .engineer 18 true), 128, 0, 255, false, 0, false, 1⟩,
  ⟨0x140, 1, 0x02, 0x02, .u8, 1, (.rw .engineer 18 true), 0, 0, 62, false, 0, false, 1⟩,
  ⟨0x140, 1, 0x03, 0x03, .u16, 2, (.rw .engineer 18 true), 100, 10, 1000, false, 0, false, 1⟩,
  ⟨0x140, 1, 0x04, 0x04, .u8, 1, .ro, 0, 0, 255, false, 0, false, 1⟩,
  ⟨0x140, 1, 0x05, 0x05, .u64, 8, .ro, 0, 0, 18446744073709551615, false, 0, false, 1⟩,
  ⟨0x140, 1, 0x06, 0x06, .u16, 2, .ro, 0, 0, 65535, false, 0, false, 1⟩,
  ⟨0x140, 1, 0x07, 0x07, .u16, 2, .ro, 0, 0, 65535, false, 0, false, 1⟩,
  ⟨0x140, 1, 0x08, 0x08, .u64, 8, .ro, 0, 0, 18446744073709551615, false, 0, false, 1⟩,
  ⟨0x140, 1, 0x09, 0x09, .u32, 4, .ro, 0, 0, 4294967295, false, 0, true, 1⟩,
  ⟨0x140, 1, 0x0A, 0x0A, .bool, 1, .ro, 0, 0, 1, false, 0, false, 1⟩,
  ⟨0x140, 1, 0x0B, 0x0B, .u8, 1, .ro, 0, 0, 255, false, 0, false, 1⟩,
  ⟨0x141, 1, 0x00, 0x00, .u8, 1, .const, 5, 0, 255, false, 0, false, 1⟩]

/-- Object table rows of indices 1xx, part 4. -/
def objRows1_4 : List ObjRow := [
  ⟨0x141, 1, 0x01, 0x01, .bool, 1, (.rw .engineer 18 true), 0, 0, 1, false, 0, false, 1⟩,
  ⟨0x141, 1, 0x02, 0x02, .u16, 2, (.rw .engineer 18 true), 0, 0, 1022, false, 0, false, 1⟩,
  ⟨0x141, 1, 0x03, 0x03, .u16, 2, .ro, 0, 0, 65535, false, 0, false, 1⟩,
  ⟨0x141, 1, 0x04, 0x04, .u16, 2, .ro, 0, 0, 65535, false, 0, false, 1⟩,
  ⟨0x141, 1, 0x05, 0x05, .u16, 2, .ro, 0, 0, 65535, false, 0, false, 1⟩,
  ⟨0x142, 1, 0x00, 0x00, .u8, 1, .const, 2, 0, 255, false, 0, false, 1⟩,
  ⟨0x142, 1, 0x01, 0x01, .u32, 4, .const, 63, 0, 4294967295, false, 0, false, 1⟩,
  ⟨0x142, 1, 0x02, 0x02, .u32, 4, .ro, 0, 0, 4294967295, false, 0, false, 1⟩,
  ⟨0x150, 1, 0x00, 0x00, .u8, 1, .const, 63, 0, 255, false, 0, false, 1⟩,
  ⟨0x150, 1, 0x01, 0x3F, .u32, 4, .ro, 0xff000000, 0, 4294967295, false, 0, false, 1⟩,
  ⟨0x151, 1, 0x00, 0x00, .u8, 1, .const, 5, 0, 255, false, 0, false, 1⟩,
  ⟨0x151, 1, 0x01, 0x01, .u8, 1, (.rw .engineer 18 true), 0, 0, 1, false, 0, false, 1⟩,
  ⟨0x151, 1, 0x02, 0x02, .u8, 1, .ro, 0, 0, 255, false, 0, false, 1⟩,
  ⟨0x151, 1, 0x03, 0x03, .u16, 2, .ro, 0, 0, 65535, false, 0, false, 1⟩,
  ⟨0x151, 1, 0x04, 0x04, .u8, 1, .ro, 0, 0, 255, false, 0, false, 1⟩,
  ⟨0x151, 1, 0x05, 0x05, .u64, 8, .ro, 0, 0, 18446744073709551615, false, 0, true, 1⟩,
  ⟨0x152, 1, 0x00, 0x00, .array, 4, .ro, 0, 0, 4294967295, false, 0, false, 1⟩,
  ⟨0x153, 1, 0x00, 0x00, .array, 4, .ro, 0, 0, 4294967295, false, 0, false, 1⟩]

/-- Object table rows of indices 1xx. -/
def objRows1 : List ObjRow := objRows1_0 ++ objRows1_1 ++ objRows1_2 ++ objRows1_3 ++ objRows1_4

/-- Object table rows of indices 2xx, part 0. -/
def objRows2_0 : List ObjRow := [
  ⟨0x200, 1, 0x00, 0x00, .u8, 1, .const, 8, 0, 255, false, 0, false, 1⟩,
  ⟨0x200, 1, 0x01, 0x01, .u8, 1, (.rw .engineer 18 true), 3, 0, 8, false, 0, false, 1⟩,
  ⟨0x200, 1, 0x02, 0x02, .u8, 1, (.rw .engineer 18 true), 50, 0, 100, false, 0, false, 1⟩,
  ⟨0x200, 1, 0x03, 0x03, .u8, 1, (.rw .engineer 22 true), 8, 1, 64, false, 0, false, 1⟩,
  ⟨0x200, 1, 0x04, 0x04, .u8, 1, (.rw .engineer 22 true), 3, 1, 255, false, 0, false, 1⟩,
  ⟨0x200, 1, 0x05, 0x05, .u8, 1, .ro, 0, 0, 255, false, 0, false, 1⟩,
  ⟨0x200, 1, 0x06, 0x06, .u32, 4, .ro, 0, 0, 4294967295, false, 0, false, 1⟩,
  ⟨0x200, 1, 0x07, 0x07, .u32, 4, .ro, 0, 0, 4294967295, false, 0, false, 1⟩,
  ⟨0x200, 1, 0x08, 0x08, .bool, 1, (.rw .engineer 18 true), 0, 0, 1, false, 0, false, 1⟩,
  ⟨0x201, 1, 0x00, 0x00, .u8, 1, .const, 8, 0, 255, false, 0, false, 1⟩,
  ⟨0x201, 1, 0x01, 0x01, .u16, 2, (.rw .engineer 18 true), 256, 1, 4096, false, 0, false, 1⟩,
  ⟨0x201, 1, 0x02, 0x02, .u16, 2, (.rw .engineer 18 true), 256, 1, 4096, false, 0, false, 1⟩,
  ⟨0x201, 1, 0x03, 0x03, .u16, 2, .ro, 0, 0, 65535, false, 0, false, 1⟩,
  ⟨0x201, 1, 0x04, 0x04, .u16, 2, .ro, 0, 0, 65535, false, 0, false, 1⟩,
  ⟨0x201, 1, 0x05, 0x05, .u32, 4, .ro, 0, 0, 4294967295, false, 0, false, 1⟩,
  ⟨0x201, 1, 0x06, 0x06, .u8, 1, .ro, 0, 0, 255, false, 0, false, 1⟩,
  ⟨0x201, 1, 0x07, 0x07, .u16, 2, .ro, 0, 0, 65535, false, 0, false, 1⟩,
  ⟨0x201, 1, 0x08, 0x08, .u16, 2, .ro, 0, 0, 65535, false, 0, false, 1⟩,
  ⟨0x202, 1, 0x00, 0x00, .u8, 1, .const, 64, 0, 255, false, 0, false, 1⟩,
  ⟨0x202, 1, 0x01, 0x40, .u64, 8, (.rw .engineer 18 true), 0, 0, 18446744073709551615, false, 0, false, 1⟩,
  ⟨0x203, 1, 0x00, 0x00, .u8, 1, .const, 64, 0, 255, false, 0, false, 1⟩,
  ⟨0x203, 1, 0x01, 0x40, .u64, 8, (.rw .engineer 18 true), 0, 0, 18446744073709551615, false, 0, false, 1⟩,
  ⟨0x204, 1, 0x00, 0x00, .u8, 1, .const, 64, 0, 255, false, 0, false, 1⟩,
  ⟨0x204, 1, 0x01, 0x40, .u32, 4, (.rw .engineer 18 true), 0, 0, 4294967295, false, 0xfff001f, false, 1⟩]

/-- Object table rows of indices 2xx, part 1. -/
def objRows2_1 : List ObjRow := [
  ⟨0x205, 1, 0x00, 0x00, .u8, 1, .const, 4, 0, 255, false, 0, false, 1⟩,
  ⟨0x205, 1, 0x01, 0x01, .u16, 2, (.rw .operator 16 false), 0, 0, 65535, false, 0, false, 1⟩,
  ⟨0x205, 1, 0x02, 0x02, .u16, 2, (.rw .operator 16 false), 0, 0, 65535, false, 0, false, 1⟩,
  ⟨0x205, 1, 0x03, 0x03, .u8, 1, (.wo .operator 16 false), 0, 1, 3, false, 0, false, 1⟩,
  ⟨0x205, 1, 0x04, 0x04, .u16, 2, .ro, 0, 0, 65535, false, 0, false, 1⟩,
  ⟨0x207, 1, 0x00, 0x00, .u8, 1, .const, 64, 0, 255, false, 0, false, 1⟩,
  ⟨0x207, 1, 0x01, 0x40, .u16, 2, (.rw .engineer 22 true), 0, 0, 65535, false, 0, false, 1⟩,
  ⟨0x208, 1, 0x00, 0x00, .u8, 1, .const, 14, 0, 255, false, 0, false, 1⟩,
  ⟨0x208, 1, 0x01, 0x01, .u64, 8, .ro, 0, 0, 18446744073709551615, false, 0, true, 1⟩,
  ⟨0x208, 1, 0x02, 0x02, .u64, 8, .ro, 0, 0, 18446744073709551615, false, 0, true, 1⟩,
  ⟨0x208, 1, 0x03, 0x03, .u64, 8, .ro, 0, 0, 18446744073709551615, false, 0, true, 1⟩,
  ⟨0x208, 1, 0x04, 0x04, .u64, 8, .ro, 0, 0, 18446744073709551615, false, 0, true, 1⟩,
  ⟨0x208, 1, 0x05, 0x05, .u64, 8, .ro, 0, 0, 18446744073709551615, false, 0, true, 1⟩,
  ⟨0x208, 1, 0x06, 0x06, .u64, 8, .ro, 0, 0, 18446744073709551615, false, 0, true, 1⟩,
  ⟨0x208, 1, 0x07, 0x07, .u64, 8, .ro, 0, 0, 18446744073709551615, false, 0, true, 1⟩,
  ⟨0x208, 1, 0x08, 0x08, .u64, 8, .ro, 0, 0, 18446744073709551615, false, 0, true, 1⟩,
  ⟨0x208, 1, 0x09, 0x09, .u64, 8, .ro, 0, 0, 18446744073709551615, false, 0, true, 1⟩,
  ⟨0x208, 1, 0x0A, 0x0A, .u64, 8, .ro, 0, 0, 18446744073709551615, false, 0, true, 1⟩,
  ⟨0x208, 1, 0x0B, 0x0B, .u64, 8, .ro, 0, 0, 18446744073709551615, false, 0, true, 1⟩,
  ⟨0x208, 1, 0x0C, 0x0C, .u64, 8, .ro, 0, 0, 18446744073709551615, false, 0, true, 1⟩,
  ⟨0x208, 1, 0x0D, 0x0D, .u64, 8, .ro, 0, 0, 18446744073709551615, false, 0, true, 1⟩,
  ⟨0x208, 1, 0x0E, 0x0E, .u64, 8, .ro, 0, 0, 18446744073709551615, false, 0, true, 1⟩,
  ⟨0x210, 1, 0x00, 0x00, .array, 4, .ro, 0, 0, 4294967295, false, 0, false, 1⟩,
  ⟨0x211, 1, 0x00, 0x00, .array, 4, .ro, 0, 0, 4294967295, false, 0, false, 1⟩]

/-- Object table rows of indices 2xx, part 2. -/
def objRows2_2 : List ObjRow := [
  ⟨0x2C0, 1, 0x00, 0x00, .u8, 1, .const, 9, 0, 255, false, 0, false, 1⟩,
  ⟨0x2C0, 1, 0x01, 0x01, .u8, 1, (.rw .engineer 18 true), 0, 0, 1, false, 0, false, 1⟩,
  ⟨0x2C0, 1, 0x02, 0x02, .u8, 1, (.rw .engineer 18 true), 128, 0, 255, false, 0, false, 1⟩,
  ⟨0x2C0, 1, 0x03, 0x03, .u8, 1, (.rw .engineer 18 true), 3, 0, 7, false, 0, false, 1⟩,
  ⟨0x2C0, 1, 0x04, 0x04, .u32, 4, (.rw .engineer 26 true), 0x3e8, 50, 1000000000, false, 0, false, 1⟩,
  ⟨0x2C0, 1, 0x05, 0x05, .bool, 1, (.rw .engineer 26 true), 0, 0, 1, false, 0, false, 1⟩,
  ⟨0x2C0, 1, 0x06, 0x06, .u32, 4, (.rw .engineer 18 true), 300, 1, 86400, false, 0, false, 1⟩,
  ⟨0x2C0, 1, 0x07, 0x07, .i16, 2, (.rw .engineer 18 true), 37, (-32768), 32767, false, 0, false, 1⟩,
  ⟨0x2C0, 1, 0x08, 0x08, .bool, 1, (.wo .engineer 26 false), 0, 0, 1, false, 0, false, 1⟩,
  ⟨0x2C0, 1, 0x09, 0x09, .ftime, 8, (.wo .service 18 false), 0, (-9223372036854775808), 9223372036854775807, false, 0, false, 1⟩,
  ⟨0x2C1, 1, 0x00, 0x00, .u8, 1, .const, 13, 0, 255, false, 0, false, 1⟩,
  ⟨0x2C1, 1, 0x01, 0x01, .u8, 1, .ro, 0, 0, 255, false, 0, false, 1⟩,
  ⟨0x2C1, 1, 0x02, 0x02, .ftime, 8, .ro, 0, (-9223372036854775808), 9223372036854775807, false, 0, false, 1⟩,
  ⟨0x2C1, 1, 0x03, 0x03, .u64, 8, .ro, 0, 0, 18446744073709551615, false, 0, false, 1⟩,
  ⟨0x2C1, 1, 0x04, 0x04, .i64, 8, .ro, 0, (-9223372036854775808), 9223372036854775807, false, 0, false, 1⟩,
  ⟨0x2C1, 1, 0x05, 0x05, .i32, 4, .ro, 0, (-2147483648), 2147483647, false, 0, false, 1⟩,
  ⟨0x2C1, 1, 0x06, 0x06, .u64, 8, .ro, 0, 0, 18446744073709551615, false, 0, false, 1⟩,
  ⟨0x2C1, 1, 0x07, 0x07, .u8, 1, .ro, 0, 0, 255, false, 0, false, 1⟩,
  ⟨0x2C1, 1, 0x08, 0x08, .u8, 1, .ro, 0, 0, 255, false, 0, false, 1⟩,
  ⟨0x2C1, 1, 0x09, 0x09, .u32, 4, .ro, 0, 0, 4294967295, false, 0, true, 1⟩,
  ⟨0x2C1, 1, 0x0A, 0x0A, .u32, 4, .ro, 0, 0, 4294967295, false, 0, true, 1⟩,
  ⟨0x2C1, 1, 0x0B, 0x0B, .u64, 8, .ro, 0, 0, 18446744073709551615, false, 0, true, 1⟩,
  ⟨0x2C1, 1, 0x0C, 0x0C, .u64, 8, .ro, 0, 0, 18446744073709551615, false, 0, true, 1⟩,
  ⟨0x2C1, 1, 0x0D, 0x0D, .i64, 8, .ro, 0, (-9223372036854775808), 9223372036854775807, false, 0, false, 1⟩]

/-- Object table rows of indices 2xx, part 3. -/
def objRows2_3 : List ObjRow := [
  ⟨0x2C4, 12, 0x00, 0x00, .u8, 1, .const, 7, 0, 255, false, 0, false, 1⟩,
  ⟨0x2C4, 12, 0x01, 0x01, .i32, 4, .ro, 0, (-2147483648), 2147483647, false, 0, false, 1⟩,
  ⟨0x2C4, 12, 0x02, 0x02, .i32, 4, .ro, 0, (-2147483648), 2147483647, false, 0, false, 1⟩,
  ⟨0x2C4, 12, 0x03, 0x03, .i32, 4, (.rw .engineer 26 true), 0, (-10000000), 10000000, false, 0, false, 1⟩,
  ⟨0x2C4, 12, 0x04, 0x04, .i32, 4, (.rw .engineer 26 true), 0, (-10000000), 10000000, false, 0, false, 1⟩,
  ⟨0x2C4, 12, 0x05, 0x05, .i32, 4, (.rw .engineer 26 true), 0, (-2147483648), 2147483647, false, 0, false, 1⟩,
  ⟨0x2C4, 12, 0x06, 0x06, .i32, 4, .ro, 0, (-2147483648), 2147483647, false, 0, false, 1⟩,
  ⟨0x2C4, 12, 0x07, 0x07, .u64, 8, .ro, 0, 0, 18446744073709551615, false, 0, true, 1⟩,
  ⟨0x2D0, 1, 0x00, 0x00, .u8, 1, .const, 12, 0, 255, false, 0, false, 1⟩,
  ⟨0x2D0, 1, 0x01, 0x01, .u8, 1, (.rw .engineer 18 true), 0, 0, 255, false, 0, false, 1⟩,
  ⟨0x2D0, 1, 0x02, 0x02, .u8, 1, (.rw .engineer 18 true), 0, 0, 127, false, 0, false, 1⟩,
  ⟨0x2D0, 1, 0x03, 0x03, .u8, 1, (.rw .engineer 18 true), 0, 0, 1, false, 0, false, 1⟩,
  ⟨0x2D0, 1, 0x04, 0x04, .u8, 1, (.rw .engineer 18 true), 0, 0, 1, false, 0, false, 1⟩,
  ⟨0x2D0, 1, 0x05, 0x05, .u8, 1, (.rw .engineer 18 true), 1, 0, 1, false, 0, false, 1⟩,
  ⟨0x2D0, 1, 0x06, 0x06, .u8, 1, (.rw .engineer 18 true), 1, 0, 1, false, 0, false, 1⟩,
  ⟨0x2D0, 1, 0x07, 0x07, .u8, 1, (.rw .engineer 18 true), 128, 0, 255, false, 0, false, 1⟩,
  ⟨0x2D0, 1, 0x08, 0x08, .u8, 1, (.rw .engineer 18 true), 128, 0, 255, false, 0, false, 1⟩,
  ⟨0x2D0, 1, 0x09, 0x09, .i8, 1, (.rw .engineer 18 true), 253, (-7), 1, false, 0, false, 1⟩,
  ⟨0x2D0, 1, 0x0A, 0x0A, .i8, 1, (.rw .engineer 18 true), 1, 0, 4, false, 0, false, 1⟩,
  ⟨0x2D0, 1, 0x0B, 0x0B, .u32, 4, .ro, 0, 0, 4294967295, false, 0, false, 1⟩,
  ⟨0x2D0, 1, 0x0C, 0x0C, .u64, 8, .ro, 0, 0, 18446744073709551615, false, 0, false, 1⟩,
  ⟨0x2E0, 16, 0x00, 0x00, .u8, 1, .const, 7, 0, 255, false, 0, false, 1⟩,
  ⟨0x2E0, 16, 0x01, 0x01, .u16, 2, (.rw .operator 30 true), 0, 0, 65535, false, 0, false, 1⟩,
  ⟨0x2E0, 16, 0x02, 0x02, .u16, 2, (.rw .operator 30 true), 0, 0, 65535, false, 0, false, 1⟩]

/-- Object table rows of indices 2xx, part 4. -/
def objRows2_4 : List ObjRow := [
  ⟨0x2E0, 16, 0x03, 0x03, .u8, 1, (.rw .operator 30 true), 0, 0, 255, false, 0xf, false, 1⟩,
  ⟨0x2E0, 16, 0x04, 0x04, .u8, 1, (.rw .operator 30 true), 0, 0, 255, false, 0xf, false, 1⟩,
  ⟨0x2E0, 16, 0x05, 0x05, .u16, 2, .ro, 0, 0, 65535, false, 0, false, 1⟩,
  ⟨0x2E0, 16, 0x06, 0x06, .u64, 8, .ro, 0, 0, 18446744073709551615, false, 0, true, 1⟩,
  ⟨0x2E0, 16, 0x07, 0x07, .bool, 1, (.wo .operator 30 false), 0, 0, 1, false, 0, false, 1⟩]

/-- Object table rows of indices 2xx. -/
def objRows2 : List ObjRow := objRows2_0 ++ objRows2_1 ++ objRows2_2 ++ objRows2_3 ++ objRows2_4

/-- Object table rows of indices 3xx, part 0. -/
def objRows3_0 : List ObjRow := [
  ⟨0x310, 16, 0x00, 0x00, .u8, 1, .const, 26, 0, 255, false, 0, false, 1⟩,
  ⟨0x310, 16, 0x01, 0x18, .u16, 2, (.rw .engineer 18 true), 0, 0, 65535, false, 0xf1ff, false, 1⟩,
  ⟨0x310, 16, 0x19, 0x19, .u16, 2, (.rw .engineer 18 true), 16, 0, 65535, false, 0xf1ff, false, 1⟩,
  ⟨0x310, 16, 0x1A, 0x1A, .u8, 1, .ro, 48, 0, 255, false, 0, false, 1⟩,
  ⟨0x320, 16, 0x00, 0x00, .u8, 1, .const, 25, 0, 255, false, 0, false, 1⟩,
  ⟨0x320, 16, 0x01, 0x19, .u32, 4, .ro, 0, 0, 4294967295, false, 0, false, 1⟩,
  ⟨0x330, 16, 0x00, 0x00, .u8, 1, .const, 100, 0, 255, false, 0, false, 1⟩,
  ⟨0x330, 16, 0x01, 0x64, .u64, 8, .ro, 0, 0, 18446744073709551615, false, 0, true, 1⟩,
  ⟨0x340, 16, 0x00, 0x00, .u8, 1, .const, 25, 0, 255, false, 0, false, 1⟩,
  ⟨0x340, 16, 0x01, 0x19, .u8, 1, (.wo .operator 30 false), 0, 1, 2, false, 0, false, 1⟩,
  ⟨0x350, 16, 0x00, 0x00, .u8, 1, .const, 3, 0, 255, false, 0, false, 1⟩,
  ⟨0x350, 16, 0x01, 0x01, .w20, 4, .ro, 0xb0000, 0, 1048575, false, 0, false, 1⟩,
  ⟨0x350, 16, 0x02, 0x02, .w20, 4, (.rw .operator 30 false), 0, 0, 1048575, false, 0, false, 1⟩,
  ⟨0x350, 16, 0x03, 0x03, .u16, 2, .ro, 0, 0, 65535, false, 0, false, 1⟩]

/-- Object table rows of indices 3xx. -/
def objRows3 : List ObjRow := objRows3_0

/-- Object table rows of indices 4xx, part 0. -/
def objRows4_0 : List ObjRow := [
  ⟨0x400, 256, 0x00, 0x00, .u8, 1, .const, 22, 0, 255, false, 0, false, 1⟩,
  ⟨0x400, 256, 0x01, 0x01, .u8, 1, (.rw .engineer 18 true), 0, 0, 5, false, 0, false, 1⟩,
  ⟨0x400, 256, 0x02, 0x02, .u8, 1, (.rw .engineer 26 true), 0, 0, 255, false, 0, false, 1⟩,
  ⟨0x400, 256, 0x03, 0x03, .u8, 1, (.rw .engineer 18 true), 0, 0, 2, false, 0, false, 1⟩,
  ⟨0x400, 256, 0x04, 0x04, .bool, 1, (.rw .engineer 18 true), 1, 0, 1, false, 0, false, 1⟩,
  ⟨0x400, 256, 0x05, 0x05, .bool, 1, (.rw .engineer 26 true), 0, 0, 1, false, 0, false, 1⟩,
  ⟨0x400, 256, 0x06, 0x06, .u8, 1, (.rw .engineer 18 true), 1, 1, 3, false, 0, false, 1⟩,
  ⟨0x400, 256, 0x07, 0x07, .u8, 1, (.rw .engineer 18 true), 100, 0, 100, false, 0, false, 1⟩,
  ⟨0x400, 256, 0x08, 0x08, .u8, 1, (.rw .engineer 18 true), 5, 1, 100, false, 0, false, 1⟩,
  ⟨0x400, 256, 0x09, 0x09, .u8, 1, (.rw .engineer 18 true), 3, 0, 15, false, 0, false, 1⟩,
  ⟨0x400, 256, 0x0A, 0x0A, .bool, 1, (.rw .engineer 26 true), 1, 0, 1, false, 0, false, 1⟩,
  ⟨0x400, 256, 0x0B, 0x0B, .u8, 1, (.rw .engineer 18 true), 255, 0, 255, false, 0, false, 1⟩,
  ⟨0x400, 256, 0x0C, 0x0C, .u8, 1, (.rw .engineer 26 true), 0, 0, 1, false, 0, false, 1⟩,
  ⟨0x400, 256, 0x0D, 0x0D, .u32, 4, (.rw .engineer 26 true), 0x124f80, 200000, 5000000, false, 0, false, 1⟩,
  ⟨0x400, 256, 0x0E, 0x0E, .u32, 4, (.rw .engineer 26 true), 0x124f80, 200000, 5000000, false, 0, false, 1⟩,
  ⟨0x400, 256, 0x0F, 0x0F, .u32, 4, .ro, 0, 0, 4294967295, false, 0, false, 1⟩,
  ⟨0x400, 256, 0x10, 0x10, .w20, 4, .ro, 0xb0000, 0, 1048575, false, 0, false, 1⟩,
  ⟨0x400, 256, 0x11, 0x11, .u32, 4, .ro, 0, 0, 4294967295, false, 0, false, 1⟩,
  ⟨0x400, 256, 0x12, 0x12, .w20, 4, (.rw .operator 30 false), 0, 0, 1048575, false, 0, false, 1⟩,
  ⟨0x400, 256, 0x13, 0x13, .u16, 2, .ro, 0, 0, 65535, false, 0, false, 1⟩,
  ⟨0x400, 256, 0x14, 0x14, .bool, 1, (.wo .operator 30 false), 0, 0, 1, false, 0, false, 1⟩,
  ⟨0x400, 256, 0x15, 0x15, .u8, 1, .ro, 0, 0, 255, false, 0, false, 1⟩,
  ⟨0x400, 256, 0x16, 0x16, .u64, 8, .ro, 0, 0, 18446744073709551615, false, 0, true, 1⟩]

/-- Object table rows of indices 4xx. -/
def objRows4 : List ObjRow := objRows4_0

/-- Object table rows of indices 5xx, part 0. -/
def objRows5_0 : List ObjRow := [
  ⟨0x500, 32, 0x00, 0x00, .u8, 1, .const, 177, 0, 255, false, 0, false, 1⟩,
  ⟨0x500, 32, 0x01, 0x01, .bool, 1, (.rw .engineer 30 true), 0, 0, 1, false, 0, false, 1⟩,
  ⟨0x500, 32, 0x02, 0x02, .u8, 1, (.rw .engineer 18 true), 0, 0, 2, false, 0, false, 1⟩,
  ⟨0x500, 32, 0x03, 0x03, .u16, 2, (.rw .engineer 26 true), 2, 1, 256, false, 0, false, 1⟩,
  ⟨0x500, 32, 0x04, 0x04, .u16, 2, (.rw .engineer 26 true), 63, 2, 256, false, 0, false, 1⟩,
  ⟨0x500, 32, 0x05, 0x05, .u8, 1, (.rw .engineer 26 true), 16, 2, 128, false, 0, false, 1⟩,
  ⟨0x500, 32, 0x06, 0x06, .u8, 1, (.rw .engineer 26 true), 16, 1, 128, false, 0, false, 1⟩,
  ⟨0x500, 32, 0x07, 0x07, .u16, 2, (.rw .engineer 26 true), 2, 1, 256, false, 0, false, 1⟩,
  ⟨0x500, 32, 0x08, 0x08, .u8, 1, (.rw .engineer 26 true), 14, 1, 32, false, 0, false, 1⟩,
  ⟨0x500, 32, 0x09, 0x09, .u8, 1, (.rw .engineer 26 true), 5, 1, 16, false, 0, false, 1⟩,
  ⟨0x500, 32, 0x0A, 0x0A, .u8, 1, (.rw .engineer 26 true), 5, 1, 16, false, 0, false, 1⟩,
  ⟨0x500, 32, 0x0B, 0x0B, .u8, 1, (.rw .engineer 26 true), 1, 0, 1, false, 0, false, 1⟩,
  ⟨0x500, 32, 0x0C, 0x0C, .u8, 1, (.rw .engineer 26 true), 1, 0, 1, false, 0, false, 1⟩,
  ⟨0x500, 32, 0x0D, 0x0D, .u8, 1, (.rw .engineer 26 true), 30, 0, 127, false, 0, false, 1⟩,
  ⟨0x500, 32, 0x0E, 0x0E, .u8, 1, (.rw .engineer 30 true), 16, 0, 127, false, 0, false, 1⟩,
  ⟨0x500, 32, 0x0F, 0x0F, .bool, 1, (.rw .engineer 30 true), 1, 0, 1, false, 0, false, 1⟩,
  ⟨0x500, 32, 0x10, 0x10, .bool, 1, (.rw .engineer 30 true), 1, 0, 1, false, 0, false, 1⟩,
  ⟨0x500, 32, 0x11, 0x11, .u8, 1, (.rw .engineer 30 true), 0, 0, 1, false, 0, false, 1⟩,
  ⟨0x500, 32, 0x12, 0x12, .u8, 1, (.rw .engineer 26 true), 25, 0, 100, false, 0, false, 1⟩,
  ⟨0x500, 32, 0x13, 0x13, .u8, 1, .ro, 3, 0, 255, false, 0, false, 1⟩,
  ⟨0x500, 32, 0x14, 0x14, .u8, 1, .ro, 0, 0, 255, false, 0, false, 1⟩,
  ⟨0x500, 32, 0x15, 0x15, .u8, 1, .ro, 0, 0, 255, false, 0, false, 1⟩,
  ⟨0x500, 32, 0x16, 0x16, .u8, 1, .ro, 0, 0, 255, false, 0, false, 1⟩,
  ⟨0x500, 32, 0x17, 0x17, .w20, 4, .ro, 0xb0003, 0, 1048575, false, 0, false, 1⟩]

/-- Object table rows of indices 5xx, part 1. -/
def objRows5_1 : List ObjRow := [
  ⟨0x500, 32, 0x18, 0x18, .u16, 2, (.rw .operator 30 false), 0, 0, 65535, false, 0, false, 1⟩,
  ⟨0x500, 32, 0x19, 0x19, .u8, 1, (.wo .operator 30 false), 0, 1, 2, false, 0, false, 1⟩,
  ⟨0x500, 32, 0x1A, 0x1A, .u64, 8, .ro, 0, 0, 18446744073709551615, false, 0, true, 1⟩,
  ⟨0x500, 32, 0x1B, 0x1B, .u64, 8, .ro, 0, 0, 18446744073709551615, false, 0, true, 1⟩,
  ⟨0x500, 32, 0x1C, 0x1C, .u64, 8, .ro, 0, 0, 18446744073709551615, false, 0, true, 1⟩,
  ⟨0x500, 32, 0x1D, 0x1D, .u64, 8, .ro, 0, 0, 18446744073709551615, false, 0, true, 1⟩,
  ⟨0x500, 32, 0x1E, 0x1E, .u64, 8, .ro, 0, 0, 18446744073709551615, false, 0, true, 1⟩,
  ⟨0x500, 32, 0x1F, 0x1F, .u32, 4, .ro, 0, 0, 4294967295, false, 0, true, 1⟩,
  ⟨0x500, 32, 0x20, 0x6B, .u64, 8, (.rw .engineer 30 true), 0, 0, 18446744073709551615, false, 0xffffffff8000ffff, false, 5⟩,
  ⟨0x500, 32, 0x21, 0x6C, .u64, 8, .ro, 0, 0, 18446744073709551615, false, 0, false, 5⟩,
  ⟨0x500, 32, 0x22, 0x6D, .ftime, 8, .ro, 0, (-9223372036854775808), 9223372036854775807, false, 0, false, 5⟩,
  ⟨0x500, 32, 0x23, 0x6E, .octets, 64, .ro, 0, 0, 0, false, 0, false, 5⟩,
  ⟨0x500, 32, 0x24, 0x6F, .octets, 8, .ro, 0, 0, 18446744073709551615, false, 0, false, 5⟩,
  ⟨0x500, 32, 0x70, 0xAF, .u64, 8, (.rw .engineer 30 true), 0, 0, 18446744073709551615, false, 0, false, 1⟩,
  ⟨0x500, 32, 0xB0, 0xB0, .u64, 8, .ro, 0, 0, 18446744073709551615, false, 0, true, 1⟩,
  ⟨0x500, 32, 0xB1, 0xB1, .u64, 8, .ro, 0, 0, 18446744073709551615, false, 0, true, 1⟩,
  ⟨0x520, 48, 0x00, 0x00, .u8, 1, .const, 28, 0, 255, false, 0, false, 1⟩,
  ⟨0x520, 48, 0x01, 0x01, .bool, 1, (.rw .engineer 30 true), 0, 0, 1, false, 0, false, 1⟩,
  ⟨0x520, 48, 0x02, 0x02, .u32, 4, (.rw .engineer 26 true), 0x1c200, 300, 16000000, false, 0, false, 1⟩,
  ⟨0x520, 48, 0x03, 0x03, .u8, 1, (.rw .engineer 26 true), 8, 5, 9, false, 0, false, 1⟩,
  ⟨0x520, 48, 0x04, 0x04, .u8, 1, (.rw .engineer 26 true), 0, 0, 4, false, 0, false, 1⟩,
  ⟨0x520, 48, 0x05, 0x05, .u8, 1, (.rw .engineer 26 true), 0, 0, 2, false, 0, false, 1⟩,
  ⟨0x520, 48, 0x06, 0x06, .u8, 1, (.rw .engineer 26 true), 0, 0, 255, false, 0, false, 1⟩,
  ⟨0x520, 48, 0x07, 0x07, .u16, 2, (.rw .engineer 26 true), 7, 3, 510, true, 0, false, 1⟩]

/-- Object table rows of indices 5xx, part 2. -/
def objRows5_2 : List ObjRow := [
  ⟨0x520, 48, 0x08, 0x08, .u16, 2, (.rw .engineer 26 true), 10, 0, 511, false, 0, false, 1⟩,
  ⟨0x520, 48, 0x09, 0x09, .u16, 2, (.rw .engineer 26 true), 1, 1, 4096, false, 0, false, 1⟩,
  ⟨0x520, 48, 0x0A, 0x0A, .u16, 2, (.rw .engineer 26 true), 256, 1, 4096, false, 0, false, 1⟩,
  ⟨0x520, 48, 0x0B, 0x0B, .u8, 1, (.rw .engineer 26 true), 1, 0, 255, false, 0, false, 1⟩,
  ⟨0x520, 48, 0x0C, 0x0C, .u8, 1, (.rw .engineer 26 true), 1, 0, 255, false, 0, false, 1⟩,
  ⟨0x520, 48, 0x0D, 0x0D, .u8, 1, (.rw .engineer 26 true), 0, 0, 255, false, 0, false, 1⟩,
  ⟨0x520, 48, 0x0E, 0x0E, .bool, 1, (.rw .engineer 26 true), 0, 0, 1, false, 0, false, 1⟩,
  ⟨0x520, 48, 0x0F, 0x0F, .bool, 1, (.rw .engineer 26 true), 0, 0, 1, false, 0, false, 1⟩,
  ⟨0x520, 48, 0x10, 0x10, .bool, 1, (.rw .engineer 26 true), 0, 0, 1, false, 0, false, 1⟩,
  ⟨0x520, 48, 0x11, 0x11, .bool, 1, (.rw .engineer 26 true), 0, 0, 1, false, 0, false, 1⟩,
  ⟨0x520, 48, 0x12, 0x12, .u8, 1, (.rw .engineer 26 true), 26, 13, 255, false, 0, false, 1⟩,
  ⟨0x520, 48, 0x13, 0x13, .u8, 1, (.rw .engineer 26 true), 0, 0, 1, false, 0, false, 1⟩,
  ⟨0x520, 48, 0x14, 0x14, .u8, 1, (.rw .engineer 26 true), 25, 0, 100, false, 0, false, 1⟩,
  ⟨0x520, 48, 0x15, 0x15, .bool, 1, (.rw .engineer 18 true), 1, 0, 1, false, 0, false, 1⟩,
  ⟨0x520, 48, 0x16, 0x16, .u32, 4, .ro, 0, 0, 4294967295, false, 0, false, 1⟩,
  ⟨0x520, 48, 0x17, 0x17, .w20, 4, .ro, 0xb0000, 0, 1048575, false, 0, false, 1⟩,
  ⟨0x520, 48, 0x18, 0x18, .u16, 2, .ro, 0, 0, 65535, false, 0, false, 1⟩,
  ⟨0x520, 48, 0x19, 0x19, .u64, 8, .ro, 0, 0, 18446744073709551615, false, 0, true, 1⟩,
  ⟨0x520, 48, 0x1A, 0x1A, .u64, 8, .ro, 0, 0, 18446744073709551615, false, 0, true, 1⟩,
  ⟨0x520, 48, 0x1B, 0x1B, .u64, 8, .ro, 0, 0, 18446744073709551615, false, 0, true, 1⟩,
  ⟨0x520, 48, 0x1C, 0x1C, .u64, 8, .ro, 0, 0, 18446744073709551615, false, 0, true, 1⟩,
  ⟨0x560, 64, 0x00, 0x00, .u8, 1, .const, 37, 0, 255, false, 0, false, 1⟩,
  ⟨0x560, 64, 0x01, 0x01, .u8, 1, (.rw .engineer 30 true), 0, 0, 4, false, 0, false, 1⟩,
  ⟨0x560, 64, 0x02, 0x02, .u32, 4, (.rw .engineer 26 true), 0, 400, 132800, true, 0, false, 1⟩]

/-- Object table rows of indices 5xx, part 3. -/
def objRows5_3 : List ObjRow := [
  ⟨0x560, 64, 0x03, 0x03, .u32, 4, (.rw .engineer 26 true), 0, 0, 4294967295, false, 0, false, 1⟩,
  ⟨0x560, 64, 0x04, 0x04, .u8, 1, (.rw .engineer 26 true), 1, 0, 2, false, 0, false, 1⟩,
  ⟨0x560, 64, 0x05, 0x05, .u16, 2, (.rw .engineer 26 true), 0, 0, 65535, false, 0, false, 1⟩,
  ⟨0x560, 64, 0x06, 0x06, .u32, 4, (.rw .engineer 26 true), 0, 0, 4294967295, false, 0xffffff, false, 1⟩,
  ⟨0x560, 64, 0x07, 0x07, .string, 16, (.rw .engineer 26 true), 0, 0, 0, false, 0, false, 1⟩,
  ⟨0x560, 64, 0x08, 0x08, .u8, 1, (.rw .engineer 26 true), 1, 0, 2, false, 0, false, 1⟩,
  ⟨0x560, 64, 0x09, 0x09, .u8, 1, (.rw .engineer 26 true), 0, 0, 2, false, 0, false, 1⟩,
  ⟨0x560, 64, 0x0A, 0x0A, .u8, 1, (.rw .engineer 26 true), 0, 0, 255, false, 0, false, 1⟩,
  ⟨0x560, 64, 0x0B, 0x0B, .u8, 1, (.rw .engineer 18 true), 0, 0, 255, false, 0, false, 1⟩,
  ⟨0x560, 64, 0x0C, 0x0C, .octets, 32, (.rw .engineer 18 true), 0, 0, 0, false, 0, false, 1⟩,
  ⟨0x560, 64, 0x0D, 0x0D, .u8, 1, (.rw .engineer 18 true), 0, 0, 250, false, 0, false, 1⟩,
  ⟨0x560, 64, 0x0E, 0x0E, .bool, 1, (.rw .engineer 18 true), 1, 0, 1, false, 0, false, 1⟩,
  ⟨0x560, 64, 0x0F, 0x0F, .w20, 4, .ro, 0xb0000, 0, 1048575, false, 0, false, 1⟩,
  ⟨0x560, 64, 0x10, 0x10, .u8, 1, .ro, 0, 0, 255, false, 0, false, 1⟩,
  ⟨0x560, 64, 0x11, 0x11, .u32, 4, .ro, 0, 0, 4294967295, false, 0, false, 1⟩,
  ⟨0x560, 64, 0x12, 0x12, .u16, 2, .ro, 0, 0, 65535, false, 0, false, 1⟩,
  ⟨0x560, 64, 0x13, 0x13, .u32, 4, .ro, 0, 0, 4294967295, false, 0, false, 1⟩,
  ⟨0x560, 64, 0x14, 0x14, .string, 16, .ro, 0, 0, 0, false, 0, false, 1⟩,
  ⟨0x560, 64, 0x15, 0x15, .u8, 1, .ro, 0, 0, 255, false, 0, false, 1⟩,
  ⟨0x560, 64, 0x16, 0x16, .octets, 32, .ro, 0, 0, 0, false, 0, false, 1⟩,
  ⟨0x560, 64, 0x17, 0x17, .octets, 4, .ro, 0, 0, 4294967295, false, 0, false, 1⟩,
  ⟨0x560, 64, 0x18, 0x18, .octets, 32, (.rw .operator 30 false), 0, 0, 0, false, 0, false, 1⟩,
  ⟨0x560, 64, 0x19, 0x19, .octets, 4, (.rw .operator 30 false), 0, 0, 4294967295, false, 0, false, 1⟩,
  ⟨0x560, 64, 0x1A, 0x1A, .u16, 2, .ro, 0, 0, 65535, false, 0, false, 1⟩]

/-- Object table rows of indices 5xx, part 4. -/
def objRows5_4 : List ObjRow := [
  ⟨0x560, 64, 0x1B, 0x1B, .octets, 238, (.wo .operator 30 false), 0, 0, 0, false, 0, false, 1⟩,
  ⟨0x560, 64, 0x1C, 0x1C, .u32, 4, .ro, 0, 0, 4294967295, false, 0, false, 1⟩,
  ⟨0x560, 64, 0x1D, 0x1D, .octets, 232, .ro, 0, 0, 0, false, 0, false, 1⟩,
  ⟨0x560, 64, 0x1E, 0x1E, .u8, 1, (.wo .operator 30 false), 0, 1, 3, false, 0, false, 1⟩,
  ⟨0x560, 64, 0x1F, 0x1F, .u8, 1, .ro, 0, 0, 255, false, 0, false, 1⟩,
  ⟨0x560, 64, 0x20, 0x20, .octets, 2048, (.rw .service 18 false), 0, 0, 0, false, 0, false, 1⟩,
  ⟨0x560, 64, 0x21, 0x21, .u16, 2, .ro, 0, 0, 65535, false, 0, false, 1⟩,
  ⟨0x560, 64, 0x22, 0x22, .u64, 8, .ro, 0, 0, 18446744073709551615, false, 0, true, 1⟩,
  ⟨0x560, 64, 0x23, 0x23, .u64, 8, .ro, 0, 0, 18446744073709551615, false, 0, true, 1⟩,
  ⟨0x560, 64, 0x24, 0x24, .u32, 4, .ro, 0, 0, 4294967295, false, 0, true, 1⟩,
  ⟨0x560, 64, 0x25, 0x25, .u64, 8, .ro, 0, 0, 18446744073709551615, false, 0, true, 1⟩,
  ⟨0x5A0, 32, 0x00, 0x00, .u8, 1, .const, 63, 0, 255, false, 0, false, 1⟩,
  ⟨0x5A0, 32, 0x01, 0x01, .u8, 1, (.wo .operator 30 false), 0, 0, 255, false, 0, false, 1⟩,
  ⟨0x5A0, 32, 0x02, 0x02, .u8, 1, .ro, 0, 0, 255, false, 0, false, 1⟩,
  ⟨0x5A0, 32, 0x03, 0x03, .u32, 4, (.rw .engineer 30 true), 256, 0, 4294967295, false, 0xffffff, false, 1⟩,
  ⟨0x5A0, 32, 0x04, 0x04, .u16, 2, (.rw .engineer 30 true), 0, 0, 65535, false, 0xfff, false, 1⟩,
  ⟨0x5A0, 32, 0x05, 0x05, .u32, 4, (.rw .engineer 30 true), 0x20200000, 0, 4294967295, false, 0x3f3f0003, false, 1⟩,
  ⟨0x5A0, 32, 0x06, 0x06, .u8, 1, (.rw .engineer 30 true), 4, 0, 8, false, 0, false, 1⟩,
  ⟨0x5A0, 32, 0x07, 0x07, .u16, 2, (.rw .engineer 30 true), 0, 0, 65535, false, 0, false, 1⟩,
  ⟨0x5A0, 32, 0x08, 0x08, .u16, 2, (.rw .engineer 30 true), 0, 0, 65535, false, 0, false, 1⟩,
  ⟨0x5A0, 32, 0x09, 0x09, .u16, 2, (.rw .engineer 30 true), 0, 0, 65535, false, 0, false, 1⟩,
  ⟨0x5A0, 32, 0x0A, 0x0A, .u16, 2, (.rw .engineer 30 true), 0, 0, 65535, false, 0, false, 1⟩,
  ⟨0x5A0, 32, 0x0B, 0x0B, .u16, 2, (.rw .engineer 30 true), 0, 0, 65535, false, 0, false, 1⟩,
  ⟨0x5A0, 32, 0x0C, 0x0C, .u8, 1, (.rw .engineer 30 true), 0, 0, 255, false, 0xf, false, 1⟩]

/-- Object table rows of indices 5xx, part 5. -/
def objRows5_5 : List ObjRow := [
  ⟨0x5A0, 32, 0x0D, 0x0D, .u8, 1, (.rw .engineer 30 true), 1, 0, 255, false, 0, false, 1⟩,
  ⟨0x5A0, 32, 0x0E, 0x0E, .u16, 2, (.rw .engineer 30 true), 0, 1, 60000, true, 0, false, 1⟩,
  ⟨0x5A0, 32, 0x0F, 0x16, .u16, 2, (.rw .engineer 30 true), 0, 0, 65535, false, 0xff80, false, 1⟩,
  ⟨0x5A0, 32, 0x17, 0x36, .u32, 4, (.rw .engineer 30 true), 0, 0, 4294967295, false, 0xfffff, false, 1⟩,
  ⟨0x5A0, 32, 0x37, 0x37, .u8, 1, .ro, 0, 0, 255, false, 0, false, 1⟩,
  ⟨0x5A0, 32, 0x38, 0x38, .u16, 2, .ro, 0, 0, 65535, false, 0, false, 1⟩,
  ⟨0x5A0, 32, 0x39, 0x39, .u16, 2, .ro, 0, 0, 65535, false, 0, false, 1⟩,
  ⟨0x5A0, 32, 0x3A, 0x3A, .w20, 4, .ro, 0xb0000, 0, 1048575, false, 0, false, 1⟩,
  ⟨0x5A0, 32, 0x3B, 0x3B, .u32, 4, .ro, 0, 0, 4294967295, false, 0, false, 1⟩,
  ⟨0x5A0, 32, 0x3C, 0x3C, .u32, 4, .ro, 0, 0, 4294967295, false, 0, false, 1⟩,
  ⟨0x5A0, 32, 0x3D, 0x3D, .u16, 2, .ro, 0, 0, 65535, false, 0, false, 1⟩,
  ⟨0x5A0, 32, 0x3E, 0x3E, .u64, 8, .ro, 0, 0, 18446744073709551615, false, 0, true, 1⟩,
  ⟨0x5A0, 32, 0x3F, 0x3F, .u64, 8, .ro, 0, 0, 18446744073709551615, false, 0, true, 1⟩,
  ⟨0x5C0, 64, 0x00, 0x00, .u8, 1, .const, 6, 0, 255, false, 0, false, 1⟩,
  ⟨0x5C0, 64, 0x01, 0x01, .u8, 1, (.rw .engineer 18 true), 0, 0, 3, false, 0, false, 1⟩,
  ⟨0x5C0, 64, 0x02, 0x02, .u8, 1, (.rw .engineer 18 true), 0, 0, 2, false, 0, false, 1⟩,
  ⟨0x5C0, 64, 0x03, 0x03, .u8, 1, (.rw .engineer 18 true), 3, 0, 3, false, 0, false, 1⟩,
  ⟨0x5C0, 64, 0x04, 0x04, .w20, 4, (.rw .operator 30 false), 0, 0, 1048575, false, 0, false, 1⟩,
  ⟨0x5C0, 64, 0x05, 0x05, .w20, 4, .ro, 0xb0000, 0, 1048575, false, 0, false, 1⟩,
  ⟨0x5C0, 64, 0x06, 0x06, .u64, 8, .ro, 0, 0, 18446744073709551615, false, 0, true, 1⟩]

/-- Object table rows of indices 5xx. -/
def objRows5 : List ObjRow := objRows5_0 ++ objRows5_1 ++ objRows5_2 ++ objRows5_3 ++ objRows5_4 ++ objRows5_5

/-- Object table rows of indices 6xx, part 0. -/
def objRows6_0 : List ObjRow := [
  ⟨0x600, 64, 0x00, 0x00, .u8, 1, .const, 18, 0, 255, false, 0, false, 1⟩,
  ⟨0x600, 64, 0x01, 0x01, .bool, 1, (.rw .engineer 18 true), 0, 0, 1, false, 0, false, 1⟩,
  ⟨0x600, 64, 0x02, 0x02, .u16, 2, (.rw .engineer 18 true), 0x1388, 500, 20000, false, 0, false, 1⟩,
  ⟨0x600, 64, 0x03, 0x03, .u8, 1, (.rw .engineer 26 true), 12, 8, 16, false, 0, false, 1⟩,
  ⟨0x600, 64, 0x04, 0x04, .u16, 2, (.rw .engineer 26 true), 0x3e8, 10, 10000, false, 0, false, 1⟩,
  ⟨0x600, 64, 0x05, 0x05, .u16, 2, (.rw .engineer 26 true), 500, 50, 5000, false, 0, false, 1⟩,
  ⟨0x600, 64, 0x06, 0x06, .u8, 1, (.rw .engineer 26 true), 20, 1, 100, false, 0, false, 1⟩,
  ⟨0x600, 64, 0x07, 0x07, .u8, 1, (.rw .engineer 18 true), 3, 0, 15, false, 0, false, 1⟩,
  ⟨0x600, 64, 0x08, 0x08, .u16, 2, (.rw .engineer 18 true), 0x3e8, 100, 60000, false, 0, false, 1⟩,
  ⟨0x600, 64, 0x09, 0x09, .u8, 1, (.rw .engineer 18 true), 1, 0, 1, false, 0, false, 1⟩,
  ⟨0x600, 64, 0x0A, 0x0A, .bool, 1, (.rw .engineer 18 true), 1, 0, 1, false, 0, false, 1⟩,
  ⟨0x600, 64, 0x0B, 0x0B, .w20, 4, (.rw .operator 30 false), 1, 0, 1048575, false, 0, false, 1⟩,
  ⟨0x600, 64, 0x0C, 0x0C, .bool, 1, (.wo .operator 30 false), 0, 0, 1, false, 0, false, 1⟩,
  ⟨0x600, 64, 0x0D, 0x0D, .u8, 1, .ro, 0, 0, 255, false, 0, false, 1⟩,
  ⟨0x600, 64, 0x0E, 0x0E, .w20, 4, .ro, 0xb0000, 0, 1048575, false, 0, false, 1⟩,
  ⟨0x600, 64, 0x0F, 0x0F, .u16, 2, .ro, 0, 0, 65535, false, 0, false, 1⟩,
  ⟨0x600, 64, 0x10, 0x10, .u16, 2, .ro, 0, 0, 65535, false, 0, false, 1⟩,
  ⟨0x600, 64, 0x11, 0x11, .u8, 1, .ro, 0, 0, 255, false, 0, false, 1⟩,
  ⟨0x600, 64, 0x12, 0x12, .u32, 4, .ro, 0, 0, 4294967295, false, 0, true, 1⟩,
  ⟨0x640, 64, 0x00, 0x00, .u8, 1, .const, 9, 0, 255, false, 0, false, 1⟩,
  ⟨0x640, 64, 0x01, 0x01, .u8, 1, (.rw .engineer 30 true), 2, 0, 2, false, 0, false, 1⟩,
  ⟨0x640, 64, 0x02, 0x02, .u16, 2, (.rw .engineer 18 true), 200, 0, 300, false, 0, false, 1⟩,
  ⟨0x640, 64, 0x03, 0x03, .u8, 1, (.rw .engineer 18 true), 10, 1, 100, false, 0, false, 1⟩,
  ⟨0x640, 64, 0x04, 0x04, .u8, 1, (.rw .engineer 18 true), 3, 0, 15, false, 0, false, 1⟩]

/-- Object table rows of indices 6xx, part 1. -/
def objRows6_1 : List ObjRow := [
  ⟨0x640, 64, 0x05, 0x05, .bool, 1, (.wo .operator 30 false), 0, 0, 1, false, 0, false, 1⟩,
  ⟨0x640, 64, 0x06, 0x06, .u8, 1, .ro, 0, 0, 255, false, 0, false, 1⟩,
  ⟨0x640, 64, 0x07, 0x07, .u16, 2, .ro, 0, 0, 65535, false, 0, false, 1⟩,
  ⟨0x640, 64, 0x08, 0x08, .u32, 4, .ro, 0, 0, 4294967295, false, 0, true, 1⟩,
  ⟨0x640, 64, 0x09, 0x09, .u8, 1, .ro, 0, 0, 255, false, 0, false, 1⟩,
  ⟨0x680, 8, 0x00, 0x00, .u8, 1, .const, 19, 0, 255, false, 0, false, 1⟩,
  ⟨0x680, 8, 0x01, 0x01, .bool, 1, (.rw .engineer 30 true), 0, 0, 1, false, 0, false, 1⟩,
  ⟨0x680, 8, 0x02, 0x02, .u8, 1, (.rw .engineer 26 true), 0, 0, 31, false, 0, false, 1⟩,
  ⟨0x680, 8, 0x03, 0x03, .u8, 1, (.rw .engineer 26 true), 0, 0, 3, false, 0, false, 1⟩,
  ⟨0x680, 8, 0x04, 0x04, .u64, 8, (.rw .engineer 18 true), 0, 0, 18446744073709551615, false, 0xffffffffffff, false, 1⟩,
  ⟨0x680, 8, 0x05, 0x05, .u32, 4, (.rw .engineer 18 true), 0, 0, 4294967295, false, 0, false, 1⟩,
  ⟨0x680, 8, 0x06, 0x06, .bool, 1, .ro, 0, 0, 1, false, 0, false, 1⟩,
  ⟨0x680, 8, 0x07, 0x07, .u8, 1, .ro, 0, 0, 255, false, 0, false, 1⟩,
  ⟨0x680, 8, 0x08, 0x08, .u8, 1, .ro, 0, 0, 255, false, 0, false, 1⟩,
  ⟨0x680, 8, 0x09, 0x09, .u8, 1, (.rw .engineer 30 false), 0, 0, 31, false, 0, false, 1⟩,
  ⟨0x680, 8, 0x0A, 0x0A, .u16, 2, (.rw .engineer 30 false), 0, 0, 65535, false, 0, false, 1⟩,
  ⟨0x680, 8, 0x0B, 0x0B, .u64, 8, .ro, 0, 0, 18446744073709551615, false, 0, true, 1⟩,
  ⟨0x680, 8, 0x0C, 0x0C, .u64, 8, .ro, 0, 0, 18446744073709551615, false, 0, true, 1⟩,
  ⟨0x680, 8, 0x0D, 0x0D, .u64, 8, .ro, 0, 0, 18446744073709551615, false, 0, true, 1⟩,
  ⟨0x680, 8, 0x0E, 0x0E, .u64, 8, .ro, 0, 0, 18446744073709551615, false, 0, true, 1⟩,
  ⟨0x680, 8, 0x0F, 0x0F, .u64, 8, .ro, 0, 0, 18446744073709551615, false, 0, true, 1⟩,
  ⟨0x680, 8, 0x10, 0x10, .u64, 8, .ro, 0, 0, 18446744073709551615, false, 0, true, 1⟩,
  ⟨0x680, 8, 0x11, 0x11, .u64, 8, .ro, 0, 0, 18446744073709551615, false, 0, true, 1⟩,
  ⟨0x680, 8, 0x12, 0x12, .u32, 4, .ro, 0, 0, 4294967295, false, 0, true, 1⟩]

/-- Object table rows of indices 6xx, part 2. -/
def objRows6_2 : List ObjRow := [
  ⟨0x680, 8, 0x13, 0x13, .u64, 8, .ro, 0, 0, 18446744073709551615, false, 0, true, 1⟩,
  ⟨0x690, 64, 0x00, 0x00, .u8, 1, .const, 8, 0, 255, false, 0, false, 1⟩,
  ⟨0x690, 64, 0x01, 0x01, .octets, 32, (.rw .operator 30 false), 0, 0, 0, false, 0, false, 1⟩,
  ⟨0x690, 64, 0x02, 0x02, .bool, 1, (.wo .operator 30 false), 0, 0, 1, false, 0, false, 1⟩,
  ⟨0x690, 64, 0x03, 0x03, .u8, 1, .ro, 0, 0, 255, false, 0, false, 1⟩,
  ⟨0x690, 64, 0x04, 0x04, .ftime, 8, .ro, 0, (-9223372036854775808), 9223372036854775807, false, 0, false, 1⟩,
  ⟨0x690, 64, 0x05, 0x05, .u32, 4, .ro, 0, 0, 4294967295, false, 0, true, 1⟩,
  ⟨0x690, 64, 0x06, 0x06, .u32, 4, .ro, 0, 0, 4294967295, false, 0, true, 1⟩,
  ⟨0x690, 64, 0x07, 0x07, .u32, 4, .ro, 0, 0, 4294967295, false, 0, true, 1⟩,
  ⟨0x690, 64, 0x08, 0x08, .u32, 4, .ro, 0, 0, 4294967295, false, 0, true, 1⟩]

/-- Object table rows of indices 6xx. -/
def objRows6 : List ObjRow := objRows6_0 ++ objRows6_1 ++ objRows6_2

/-- Object table rows of indices 7xx, part 0. -/
def objRows7_0 : List ObjRow := [
  ⟨0x700, 1, 0x00, 0x00, .u8, 1, .const, 8, 0, 255, false, 0, false, 1⟩,
  ⟨0x700, 1, 0x01, 0x01, .u16, 2, (.rw .engineer 2 true), 384, 0, 384, false, 0, false, 1⟩,
  ⟨0x700, 1, 0x02, 0x02, .u16, 2, .ro, 0, 0, 65535, false, 0, false, 1⟩,
  ⟨0x700, 1, 0x03, 0x03, .u16, 2, .ro, 0x980, 0, 65535, false, 0, false, 1⟩,
  ⟨0x700, 1, 0x04, 0x04, .u32, 4, .ro, 0, 0, 4294967295, false, 0, false, 1⟩,
  ⟨0x700, 1, 0x05, 0x05, .u32, 4, .ro, 0, 0, 4294967295, false, 0, false, 1⟩,
  ⟨0x700, 1, 0x06, 0x06, .u16, 2, .ro, 0, 0, 65535, false, 0, false, 1⟩,
  ⟨0x700, 1, 0x07, 0x07, .u32, 4, .ro, 0xcccc, 0, 4294967295, false, 0, false, 1⟩,
  ⟨0x700, 1, 0x08, 0x08, .u8, 1, (.wo .operator 31 false), 0, 0, 255, false, 0, false, 1⟩,
  ⟨0x701, 1, 0x00, 0x00, .u8, 1, .const, 17, 0, 255, false, 0, false, 1⟩,
  ⟨0x701, 1, 0x01, 0x01, .u64, 8, .ro, 0, 0, 18446744073709551615, false, 0, true, 1⟩,
  ⟨0x701, 1, 0x02, 0x02, .u64, 8, .ro, 0, 0, 18446744073709551615, false, 0, true, 1⟩,
  ⟨0x701, 1, 0x03, 0x03, .u64, 8, .ro, 0, 0, 18446744073709551615, false, 0, true, 1⟩,
  ⟨0x701, 1, 0x04, 0x04, .u64, 8, .ro, 0, 0, 18446744073709551615, false, 0, true, 1⟩,
  ⟨0x701, 1, 0x05, 0x05, .u64, 8, .ro, 0, 0, 18446744073709551615, false, 0, true, 1⟩,
  ⟨0x701, 1, 0x06, 0x06, .u64, 8, .ro, 0, 0, 18446744073709551615, false, 0, true, 1⟩,
  ⟨0x701, 1, 0x07, 0x07, .u64, 8, .ro, 0, 0, 18446744073709551615, false, 0, true, 1⟩,
  ⟨0x701, 1, 0x08, 0x08, .u64, 8, .ro, 0, 0, 18446744073709551615, false, 0, true, 1⟩,
  ⟨0x701, 1, 0x09, 0x09, .u64, 8, .ro, 0, 0, 18446744073709551615, false, 0, true, 1⟩,
  ⟨0x701, 1, 0x0A, 0x0A, .u64, 8, .ro, 0, 0, 18446744073709551615, false, 0, true, 1⟩,
  ⟨0x701, 1, 0x0B, 0x0B, .u64, 8, .ro, 0, 0, 18446744073709551615, false, 0, true, 1⟩,
  ⟨0x701, 1, 0x0C, 0x0C, .u64, 8, .ro, 0, 0, 18446744073709551615, false, 0, true, 1⟩,
  ⟨0x701, 1, 0x0D, 0x0D, .u64, 8, .ro, 0, 0, 18446744073709551615, false, 0, true, 1⟩,
  ⟨0x701, 1, 0x0E, 0x0E, .u64, 8, .ro, 0, 0, 18446744073709551615, false, 0, true, 1⟩]

/-- Object table rows of indices 7xx, part 1. -/
def objRows7_1 : List ObjRow := [
  ⟨0x701, 1, 0x0F, 0x0F, .u64, 8, .ro, 0, 0, 18446744073709551615, false, 0, true, 1⟩,
  ⟨0x701, 1, 0x10, 0x10, .u64, 8, .ro, 0, 0, 18446744073709551615, false, 0, true, 1⟩,
  ⟨0x701, 1, 0x11, 0x11, .u64, 8, .ro, 0, 0, 18446744073709551615, false, 0, true, 1⟩,
  ⟨0x710, 19, 0x00, 0x00, .u8, 1, .const, 40, 0, 255, false, 0, false, 1⟩,
  ⟨0x710, 19, 0x01, 0x08, .u64, 8, (.rw .engineer 26 true), 0x10040000000800, 0, 18446744073709551615, false, 0, false, 1⟩,
  ⟨0x710, 19, 0x09, 0x10, .u64, 8, .ro, 0, 0, 18446744073709551615, false, 0, false, 1⟩,
  ⟨0x710, 19, 0x11, 0x18, .u16, 2, (.rw .engineer 30 true), 0xffff, 0, 65535, false, 0, false, 1⟩,
  ⟨0x710, 19, 0x19, 0x20, .u16, 2, (.rw .engineer 30 true), 0xffff, 0, 65535, false, 0, false, 1⟩,
  ⟨0x710, 19, 0x21, 0x21, .u8, 1, (.rw .engineer 18 true), 0, 0, 2, false, 0, false, 1⟩,
  ⟨0x710, 19, 0x22, 0x22, .u8, 1, (.rw .engineer 30 true), 0, 0, 7, false, 0, false, 1⟩,
  ⟨0x710, 19, 0x23, 0x23, .u8, 1, .ro, 0, 0, 255, false, 0, false, 1⟩,
  ⟨0x710, 19, 0x24, 0x24, .u64, 8, .ro, 0, 0, 18446744073709551615, false, 0, true, 1⟩,
  ⟨0x710, 19, 0x25, 0x25, .u64, 8, .ro, 0, 0, 18446744073709551615, false, 0, true, 1⟩,
  ⟨0x710, 19, 0x26, 0x26, .u64, 8, .ro, 0, 0, 18446744073709551615, false, 0, true, 1⟩,
  ⟨0x710, 19, 0x27, 0x27, .u64, 8, .ro, 0, 0, 18446744073709551615, false, 0, true, 1⟩,
  ⟨0x710, 19, 0x28, 0x28, .u32, 4, .ro, 0, 0, 4294967295, false, 0, true, 1⟩,
  ⟨0x728, 8, 0x00, 0x00, .u8, 1, .const, 32, 0, 255, false, 0, false, 1⟩,
  ⟨0x728, 8, 0x01, 0x20, .octets, 20, (.rw .engineer 30 true), 0, 0, 0, false, 0, false, 1⟩,
  ⟨0x730, 8, 0x00, 0x00, .u8, 1, .const, 32, 0, 255, false, 0, false, 1⟩,
  ⟨0x730, 8, 0x01, 0x20, .octets, 64, .ro, 0, 0, 0, false, 0, false, 1⟩,
  ⟨0x738, 8, 0x00, 0x00, .u8, 1, .const, 9, 0, 255, false, 0, false, 1⟩,
  ⟨0x738, 8, 0x01, 0x01, .bool, 1, (.rw .engineer 30 false), 0, 0, 1, false, 0, false, 1⟩,
  ⟨0x738, 8, 0x02, 0x02, .u32, 4, (.rw .engineer 30 true), 0, 0, 4294967295, false, 0xf1f0ffff, false, 1⟩,
  ⟨0x738, 8, 0x03, 0x03, .u16, 2, (.rw .engineer 30 true), 0x3e8, 1, 65535, false, 0, false, 1⟩]

/-- Object table rows of indices 7xx, part 2. -/
def objRows7_2 : List ObjRow := [
  ⟨0x738, 8, 0x04, 0x04, .u16, 2, (.rw .engineer 30 true), 128, 64, 256, false, 0, false, 1⟩,
  ⟨0x738, 8, 0x05, 0x05, .u8, 1, (.rw .engineer 30 true), 0, 0, 2, false, 0, false, 1⟩,
  ⟨0x738, 8, 0x06, 0x06, .u8, 1, (.rw .engineer 30 true), 0, 0, 1, false, 0, false, 1⟩,
  ⟨0x738, 8, 0x07, 0x07, .u64, 8, .ro, 0, 0, 18446744073709551615, false, 0, true, 1⟩,
  ⟨0x738, 8, 0x08, 0x08, .u64, 8, .ro, 0, 0, 18446744073709551615, false, 0, true, 1⟩,
  ⟨0x738, 8, 0x09, 0x09, .u64, 8, .ro, 0, 0, 18446744073709551615, false, 0, true, 1⟩,
  ⟨0x740, 12, 0x00, 0x00, .u8, 1, .const, 12, 0, 255, false, 0, false, 1⟩,
  ⟨0x740, 12, 0x01, 0x01, .bool, 1, (.rw .engineer 30 true), 0, 0, 1, false, 0, false, 1⟩,
  ⟨0x740, 12, 0x02, 0x02, .ftime, 8, (.rw .engineer 30 true), 0, (-9223372036854775808), 9223372036854775807, false, 0, false, 1⟩,
  ⟨0x740, 12, 0x03, 0x03, .u32, 4, (.rw .engineer 30 true), 0xf4240, 1000, 1000000000, false, 0, false, 1⟩,
  ⟨0x740, 12, 0x04, 0x04, .u8, 1, (.rw .engineer 30 true), 1, 1, 128, false, 0, false, 1⟩,
  ⟨0x740, 12, 0x05, 0x05, .bool, 1, (.wo .engineer 30 false), 0, 0, 1, false, 0, false, 1⟩,
  ⟨0x740, 12, 0x06, 0x06, .u8, 1, .ro, 0, 0, 255, false, 0, false, 1⟩,
  ⟨0x740, 12, 0x07, 0x07, .ftime, 8, .ro, 0, (-9223372036854775808), 9223372036854775807, false, 0, false, 1⟩,
  ⟨0x740, 12, 0x08, 0x08, .u32, 4, .ro, 0, 0, 4294967295, false, 0, false, 1⟩,
  ⟨0x740, 12, 0x09, 0x09, .u8, 1, .ro, 0, 0, 255, false, 0, false, 1⟩,
  ⟨0x740, 12, 0x0A, 0x0A, .ftime, 8, .ro, 0, (-9223372036854775808), 9223372036854775807, false, 0, false, 1⟩,
  ⟨0x740, 12, 0x0B, 0x0B, .u32, 4, .ro, 0, 0, 4294967295, false, 0, true, 1⟩,
  ⟨0x740, 12, 0x0C, 0x0C, .u64, 8, .ro, 0, 0, 18446744073709551615, false, 0, true, 1⟩,
  ⟨0x750, 12, 0x00, 0x00, .u8, 1, .const, 128, 0, 255, false, 0, false, 1⟩,
  ⟨0x750, 12, 0x01, 0x80, .u64, 8, (.rw .engineer 30 true), 0xff000f4240, 0, 18446744073709551615, false, 0xffffffffff, false, 1⟩,
  ⟨0x760, 12, 0x00, 0x00, .u8, 1, .const, 128, 0, 255, false, 0, false, 1⟩,
  ⟨0x760, 12, 0x01, 0x80, .u64, 8, .ro, 0, 0, 18446744073709551615, false, 0, false, 1⟩,
  ⟨0x770, 4, 0x00, 0x00, .u8, 1, .const, 5, 0, 255, false, 0, false, 1⟩]

/-- Object table rows of indices 7xx, part 3. -/
def objRows7_3 : List ObjRow := [
  ⟨0x770, 4, 0x01, 0x01, .u16, 2, .ro, 0, 0, 65535, false, 0, false, 1⟩,
  ⟨0x770, 4, 0x02, 0x02, .u64, 8, .ro, 0, 0, 18446744073709551615, false, 0, true, 1⟩,
  ⟨0x770, 4, 0x03, 0x03, .u64, 8, .ro, 0, 0, 18446744073709551615, false, 0, true, 1⟩,
  ⟨0x770, 4, 0x04, 0x04, .u64, 8, .ro, 0, 0, 18446744073709551615, false, 0, true, 1⟩,
  ⟨0x770, 4, 0x05, 0x05, .u64, 8, .ro, 0, 0, 18446744073709551615, false, 0, true, 1⟩,
  ⟨0x780, 16, 0x00, 0x00, .u8, 1, .const, 64, 0, 255, false, 0, false, 1⟩,
  ⟨0x780, 16, 0x01, 0x40, .octets, 24, (.rw .engineer 30 true), 0, 0, 0, false, 0, false, 1⟩,
  ⟨0x790, 16, 0x00, 0x00, .u8, 1, .const, 64, 0, 255, false, 0, false, 1⟩,
  ⟨0x790, 16, 0x01, 0x40, .octets, 16, .ro, 0, 0, 0, false, 0, false, 1⟩,
  ⟨0x7A0, 16, 0x00, 0x00, .u8, 1, .const, 64, 0, 255, false, 0, false, 1⟩,
  ⟨0x7A0, 16, 0x01, 0x40, .octets, 64, .ro, 0, 0, 0, false, 0, false, 1⟩,
  ⟨0x7B0, 32, 0x00, 0x00, .u8, 1, .const, 128, 0, 255, false, 0, false, 1⟩,
  ⟨0x7B0, 32, 0x01, 0x80, .octets, 20, (.rw .engineer 30 true), 0, 0, 0, false, 0, false, 1⟩,
  ⟨0x7E0, 1, 0x00, 0x00, .u8, 1, .const, 24, 0, 255, false, 0, false, 1⟩,
  ⟨0x7E0, 1, 0x01, 0x18, .u16, 2, (.rw .engineer 18 true), 0, 0, 65535, false, 0xbf3f, false, 1⟩,
  ⟨0x7E1, 1, 0x00, 0x00, .u8, 1, .const, 48, 0, 255, false, 0, false, 1⟩,
  ⟨0x7E1, 1, 0x01, 0x30, .u64, 8, .ro, 0, 0, 18446744073709551615, false, 0, true, 1⟩,
  ⟨0x7F0, 1, 0x00, 0x00, .u8, 1, .const, 3, 0, 255, false, 0, false, 1⟩,
  ⟨0x7F0, 1, 0x01, 0x01, .u8, 1, .ro, 0, 0, 255, false, 0, false, 1⟩,
  ⟨0x7F0, 1, 0x02, 0x02, .u8, 1, .ro, 0, 0, 255, false, 0, false, 1⟩,
  ⟨0x7F0, 1, 0x03, 0x03, .u8, 1, .ro, 0, 0, 255, false, 0, false, 1⟩,
  ⟨0x7F8, 1, 0x00, 0x00, .u8, 1, .const, 2, 0, 255, false, 0, false, 1⟩,
  ⟨0x7F8, 1, 0x01, 0x01, .u64, 8, .ro, 0, 0, 18446744073709551615, false, 0, true, 1⟩,
  ⟨0x7F8, 1, 0x02, 0x02, .u64, 8, .ro, 0, 0, 18446744073709551615, false, 0, true, 1⟩]

/-- Object table rows of indices 7xx. -/
def objRows7 : List ObjRow := objRows7_0 ++ objRows7_1 ++ objRows7_2 ++ objRows7_3

/-- Object table rows of indices 8xx, part 0. -/
def objRows8_0 : List ObjRow := [
  ⟨0x800, 1, 0x00, 0x00, .u8, 1, .const, 8, 0, 255, false, 0, false, 1⟩,
  ⟨0x800, 1, 0x01, 0x01, .u8, 1, (.rw .engineer 18 true), 4, 0, 8, false, 0, false, 1⟩,
  ⟨0x800, 1, 0x02, 0x02, .u16, 2, (.rw .engineer 30 true), 10, 1, 1000, false, 0, false, 1⟩,
  ⟨0x800, 1, 0x03, 0x03, .bool, 1, (.rw .engineer 18 true), 0, 0, 1, false, 0, false, 1⟩,
  ⟨0x800, 1, 0x04, 0x04, .u16, 2, (.rw .engineer 30 true), 0x3e8, 10, 60000, false, 0, false, 1⟩,
  ⟨0x800, 1, 0x05, 0x05, .u16, 2, .ro, 0, 0, 65535, false, 0, false, 1⟩,
  ⟨0x800, 1, 0x06, 0x06, .u64, 8, .ro, 0, 0, 18446744073709551615, false, 0, true, 1⟩,
  ⟨0x800, 1, 0x07, 0x07, .u64, 8, .ro, 0, 0, 18446744073709551615, false, 0, true, 1⟩,
  ⟨0x800, 1, 0x08, 0x08, .u64, 8, .ro, 0, 0, 18446744073709551615, false, 0, true, 1⟩,
  ⟨0x804, 4, 0x00, 0x00, .u8, 1, .const, 6, 0, 255, false, 0, false, 1⟩,
  ⟨0x804, 4, 0x01, 0x01, .u16, 2, (.rw .engineer 30 true), 0, 0, 65535, false, 0, false, 1⟩,
  ⟨0x804, 4, 0x02, 0x02, .u8, 1, (.rw .engineer 30 true), 0, 0, 15, false, 0, false, 1⟩,
  ⟨0x804, 4, 0x03, 0x03, .bool, 1, (.rw .engineer 30 true), 0, 0, 1, false, 0, false, 1⟩,
  ⟨0x804, 4, 0x04, 0x04, .u64, 8, .ro, 0, 0, 18446744073709551615, false, 0, true, 1⟩,
  ⟨0x804, 4, 0x05, 0x05, .u64, 8, .ro, 0, 0, 18446744073709551615, false, 0, true, 1⟩,
  ⟨0x804, 4, 0x06, 0x06, .u16, 2, .ro, 0, 0, 65535, false, 0, false, 1⟩,
  ⟨0x80C, 1, 0x00, 0x00, .u32, 4, (.wo .operator 31 false), 0, 0, 4294967295, false, 0, false, 1⟩,
  ⟨0x810, 8, 0x00, 0x00, .u8, 1, .const, 128, 0, 255, false, 0, false, 1⟩,
  ⟨0x810, 8, 0x01, 0x80, .u64, 8, (.rw .engineer 30 true), 0, 0, 18446744073709551615, false, 0xffffff00ffffc000, false, 1⟩,
  ⟨0x818, 8, 0x00, 0x00, .u8, 1, .const, 128, 0, 255, false, 0, false, 1⟩,
  ⟨0x818, 8, 0x01, 0x80, .u32, 4, .ro, 0, 0, 4294967295, false, 0, false, 1⟩,
  ⟨0x860, 16, 0x00, 0x00, .u16, 2, (.rw .operator 30 true), 0, 0, 65535, false, 0, false, 1⟩,
  ⟨0x8A0, 1, 0x00, 0x00, .u8, 1, .const, 16, 0, 255, false, 0, false, 1⟩,
  ⟨0x8A0, 1, 0x01, 0x10, .u64, 8, .ro, 0, 0, 18446744073709551615, false, 0, false, 1⟩]

/-- Object table rows of indices 8xx, part 1. -/
def objRows8_1 : List ObjRow := [
  ⟨0x8A1, 1, 0x00, 0x00, .u8, 1, .const, 16, 0, 255, false, 0, false, 1⟩,
  ⟨0x8A1, 1, 0x01, 0x10, .u64, 8, (.wo .operator 30 false), 0, 0, 18446744073709551615, false, 0, false, 1⟩,
  ⟨0x8C0, 1, 0x00, 0x00, .u8, 1, .const, 4, 0, 255, false, 0, false, 1⟩,
  ⟨0x8C0, 1, 0x01, 0x01, .u32, 4, (.wo .operator 30 false), 0, 0, 4294967295, false, 0, false, 1⟩,
  ⟨0x8C0, 1, 0x02, 0x02, .u8, 1, .ro, 0, 0, 255, false, 0, false, 1⟩,
  ⟨0x8C0, 1, 0x03, 0x03, .u64, 8, .ro, 0, 0, 18446744073709551615, false, 0, true, 1⟩,
  ⟨0x8C0, 1, 0x04, 0x04, .u64, 8, .ro, 0, 0, 18446744073709551615, false, 0, true, 1⟩,
  ⟨0x8C1, 1, 0x00, 0x00, .u8, 1, .const, 16, 0, 255, false, 0, false, 1⟩,
  ⟨0x8C1, 1, 0x01, 0x10, .u32, 4, .ro, 0, 0, 4294967295, false, 0, false, 1⟩,
  ⟨0x8F0, 1, 0x00, 0x00, .u8, 1, .const, 1, 0, 255, false, 0, false, 1⟩,
  ⟨0x8F0, 1, 0x01, 0x01, .u32, 4, (.wo .operator 30 false), 0, 0, 4294967295, false, 0, false, 1⟩]

/-- Object table rows of indices 8xx. -/
def objRows8 : List ObjRow := objRows8_0 ++ objRows8_1

/-- Object table rows of indices 9xx, part 0. -/
def objRows9_0 : List ObjRow := [
  ⟨0x900, 1, 0x00, 0x00, .u8, 1, .const, 7, 0, 255, false, 0, false, 1⟩,
  ⟨0x900, 1, 0x01, 0x01, .u8, 1, (.rw .engineer 18 true), 192, 0, 255, false, 0, false, 1⟩,
  ⟨0x900, 1, 0x02, 0x02, .u8, 1, (.rw .engineer 18 true), 5, 0, 5, false, 0, false, 1⟩,
  ⟨0x900, 1, 0x03, 0x03, .u16, 2, .ro, 0, 0, 65535, false, 0, false, 1⟩,
  ⟨0x900, 1, 0x04, 0x04, .u16, 2, .ro, 0, 0, 65535, false, 0, false, 1⟩,
  ⟨0x900, 1, 0x05, 0x05, .u64, 8, .ro, 0, 0, 18446744073709551615, false, 0, true, 1⟩,
  ⟨0x900, 1, 0x06, 0x06, .u32, 4, .ro, 0, 0, 4294967295, false, 0, true, 1⟩,
  ⟨0x900, 1, 0x07, 0x07, .octets, 64, .ro, 0, 0, 0, false, 0, false, 1⟩,
  ⟨0x904, 4, 0x00, 0x00, .u8, 1, .const, 128, 0, 255, false, 0, false, 1⟩,
  ⟨0x904, 4, 0x01, 0x80, .u64, 8, (.rw .engineer 30 true), 0, 0, 18446744073709551615, false, 0xffffffffffffc000, false, 1⟩,
  ⟨0x908, 4, 0x00, 0x00, .u8, 1, .const, 128, 0, 255, false, 0, false, 1⟩,
  ⟨0x908, 4, 0x01, 0x80, .u32, 4, .ro, 0, 0, 4294967295, false, 0, false, 1⟩,
  ⟨0x90C, 4, 0x00, 0x00, .u8, 1, .const, 128, 0, 255, false, 0, false, 1⟩,
  ⟨0x90C, 4, 0x01, 0x80, .u8, 1, (.wo .operator 30 false), 0, 1, 3, false, 0, false, 1⟩,
  ⟨0x910, 4, 0x00, 0x00, .u8, 1, .const, 128, 0, 255, false, 0, false, 1⟩,
  ⟨0x910, 4, 0x01, 0x80, .octets, 32, .ro, 0, 0, 0, false, 0, false, 1⟩,
  ⟨0x940, 4, 0x00, 0x00, .u8, 1, .const, 32, 0, 255, false, 0, false, 1⟩,
  ⟨0x940, 4, 0x01, 0x20, .octets, 24, (.rw .engineer 30 true), 0, 0, 0, false, 0, false, 1⟩,
  ⟨0x948, 4, 0x00, 0x00, .u8, 1, .const, 32, 0, 255, false, 0, false, 1⟩,
  ⟨0x948, 4, 0x01, 0x20, .octets, 16, .ro, 0, 0, 0, false, 0, false, 1⟩,
  ⟨0x980, 1, 0x00, 0x00, .array, 4, .ro, 0, 0, 4294967295, false, 0, false, 1⟩]

/-- Object table rows of indices 9xx. -/
def objRows9 : List ObjRow := objRows9_0

/-- Object table rows of indices Axx, part 0. -/
def objRowsA_0 : List ObjRow := [
  ⟨0xA00, 1, 0x00, 0x00, .u8, 1, .const, 11, 0, 255, false, 0, false, 1⟩,
  ⟨0xA00, 1, 0x01, 0x01, .u32, 4, .ro, 0, 0, 4294967295, false, 0, false, 1⟩,
  ⟨0xA00, 1, 0x02, 0x02, .u32, 4, .ro, 0, 0, 4294967295, false, 0, false, 1⟩,
  ⟨0xA00, 1, 0x03, 0x03, .u16, 2, .ro, 0, 0, 65535, false, 0, false, 1⟩,
  ⟨0xA00, 1, 0x04, 0x04, .u16, 2, .ro, 0, 0, 65535, false, 0, false, 1⟩,
  ⟨0xA00, 1, 0x05, 0x05, .u8, 1, .ro, 0, 0, 255, false, 0, false, 1⟩,
  ⟨0xA00, 1, 0x06, 0x06, .u16, 2, (.rw .engineer 30 true), 0, 0, 4095, false, 0, false, 1⟩,
  ⟨0xA00, 1, 0x07, 0x07, .u8, 1, (.rw .engineer 30 true), 0, 0, 63, false, 0, false, 1⟩,
  ⟨0xA00, 1, 0x08, 0x08, .bool, 1, (.wo .operator 30 false), 0, 0, 1, false, 0, false, 1⟩,
  ⟨0xA00, 1, 0x09, 0x09, .u32, 4, .ro, 0, 0, 4294967295, false, 0, true, 1⟩,
  ⟨0xA00, 1, 0x0A, 0x0A, .u64, 8, .ro, 0, 0, 18446744073709551615, false, 0, true, 1⟩,
  ⟨0xA00, 1, 0x0B, 0x0B, .u32, 4, .ro, 0, 0, 4294967295, false, 0, false, 1⟩,
  ⟨0xA01, 1, 0x00, 0x00, .octets, 3145728, .ro, 0, 0, 0, false, 0, false, 1⟩,
  ⟨0xA02, 1, 0x00, 0x00, .octets, 524288, .ro, 0, 0, 0, false, 0, false, 1⟩,
  ⟨0xA03, 1, 0x00, 0x00, .octets, 524288, .ro, 0, 0, 0, false, 0, false, 1⟩]

/-- Object table rows of indices Axx. -/
def objRowsA : List ObjRow := objRowsA_0

/-- Object table rows of indices Bxx, part 0. -/
def objRowsB_0 : List ObjRow := [
  ⟨0xB00, 1, 0x00, 0x00, .u8, 1, .const, 8, 0, 255, false, 0, false, 1⟩,
  ⟨0xB00, 1, 0x01, 0x01, .u8, 1, (.rw .engineer 18 true), 1, 0, 1, false, 0, false, 1⟩,
  ⟨0xB00, 1, 0x02, 0x02, .u32, 4, (.rw .engineer 26 true), 0x3e8, 300, 50000, false, 0, false, 1⟩,
  ⟨0xB00, 1, 0x03, 0x03, .bool, 1, (.rw .engineer 30 true), 1, 0, 1, false, 0, false, 1⟩,
  ⟨0xB00, 1, 0x04, 0x04, .u16, 2, (.rw .engineer 26 true), 10, 1, 3600, false, 0, false, 1⟩,
  ⟨0xB00, 1, 0x05, 0x05, .bool, 1, (.rw .engineer 16 false), 0, 0, 1, false, 0, false, 1⟩,
  ⟨0xB00, 1, 0x06, 0x06, .u8, 1, (.rw .engineer 18 true), 8, 1, 64, false, 0, false, 1⟩,
  ⟨0xB00, 1, 0x07, 0x07, .u8, 1, (.rw .engineer 30 true), 2, 1, 100, false, 0, false, 1⟩,
  ⟨0xB00, 1, 0x08, 0x08, .bool, 1, (.wo .operator 28 false), 0, 0, 1, false, 0, false, 1⟩,
  ⟨0xB01, 1, 0x00, 0x00, .u8, 1, .const, 16, 0, 255, false, 0, false, 1⟩,
  ⟨0xB01, 1, 0x01, 0x01, .u8, 1, .ro, 0, 0, 255, false, 0, false, 1⟩,
  ⟨0xB01, 1, 0x02, 0x02, .bool, 1, .ro, 0, 0, 1, false, 0, false, 1⟩,
  ⟨0xB01, 1, 0x03, 0x03, .u8, 1, .ro, 0, 0, 255, false, 0, false, 1⟩,
  ⟨0xB01, 1, 0x04, 0x04, .u8, 1, .ro, 0, 0, 255, false, 0, false, 1⟩,
  ⟨0xB01, 1, 0x05, 0x05, .u8, 1, .ro, 0, 0, 255, false, 0, false, 1⟩,
  ⟨0xB01, 1, 0x06, 0x06, .u16, 2, .ro, 0, 0, 65535, false, 0, false, 1⟩,
  ⟨0xB01, 1, 0x07, 0x07, .u8, 1, .ro, 0, 0, 255, false, 0, false, 1⟩,
  ⟨0xB01, 1, 0x08, 0x08, .u8, 1, .ro, 0, 0, 255, false, 0, false, 1⟩,
  ⟨0xB01, 1, 0x09, 0x09, .u8, 1, .ro, 0, 0, 255, false, 0, false, 1⟩,
  ⟨0xB01, 1, 0x0A, 0x0A, .u32, 4, .ro, 0, 0, 4294967295, false, 0, false, 1⟩,
  ⟨0xB01, 1, 0x0B, 0x0B, .ftime, 8, .ro, 0, (-9223372036854775808), 9223372036854775807, false, 0, false, 1⟩,
  ⟨0xB01, 1, 0x0C, 0x0C, .u32, 4, .ro, 0, 0, 4294967295, false, 0, true, 1⟩,
  ⟨0xB01, 1, 0x0D, 0x0D, .u8, 1, .ro, 0, 0, 255, false, 0, false, 1⟩,
  ⟨0xB01, 1, 0x0E, 0x0E, .bool, 1, .ro, 0, 0, 1, false, 0, false, 1⟩]

/-- Object table rows of indices Bxx, part 1. -/
def objRowsB_1 : List ObjRow := [
  ⟨0xB01, 1, 0x0F, 0x0F, .u8, 1, .ro, 0, 0, 255, false, 0, false, 1⟩,
  ⟨0xB01, 1, 0x10, 0x10, .u32, 4, .ro, 0, 0, 4294967295, false, 0, false, 1⟩,
  ⟨0xB02, 1, 0x00, 0x00, .u8, 1, .const, 6, 0, 255, false, 0, false, 1⟩,
  ⟨0xB02, 1, 0x01, 0x06, .u64, 8, .ro, 0, 0, 18446744073709551615, false, 0, true, 1⟩]

/-- Object table rows of indices Bxx. -/
def objRowsB : List ObjRow := objRowsB_0 ++ objRowsB_1

/-- Object table rows of indices Cxx, part 0. -/
def objRowsC_0 : List ObjRow := [
  ⟨0xC00, 1, 0x00, 0x00, .u8, 1, .const, 9, 0, 255, false, 0, false, 1⟩,
  ⟨0xC00, 1, 0x01, 0x01, .u16, 2, (.rw .engineer 18 true), 0x4650, 0, 65535, false, 0, false, 1⟩,
  ⟨0xC00, 1, 0x02, 0x02, .u16, 2, (.rw .engineer 18 true), 0x3e8, 0, 65535, false, 0, false, 1⟩,
  ⟨0xC00, 1, 0x03, 0x03, .u16, 2, (.rw .engineer 30 true), 0xffff, 0, 65535, false, 0, false, 1⟩,
  ⟨0xC00, 1, 0x04, 0x04, .u16, 2, (.rw .engineer 18 true), 100, 1, 10000, false, 0, false, 1⟩,
  ⟨0xC00, 1, 0x05, 0x05, .u16, 2, (.rw .engineer 30 true), 20, 5, 10000, false, 0, false, 1⟩,
  ⟨0xC00, 1, 0x06, 0x06, .u16, 2, (.rw .engineer 30 true), 10, 1, 60000, true, 0, false, 1⟩,
  ⟨0xC00, 1, 0x07, 0x07, .u16, 2, (.rw .engineer 30 true), 200, 10, 60000, false, 0, false, 1⟩,
  ⟨0xC00, 1, 0x08, 0x08, .u16, 2, (.rw .engineer 30 true), 100, 10, 60000, false, 0, false, 1⟩,
  ⟨0xC00, 1, 0x09, 0x09, .u16, 2, (.rw .engineer 30 true), 20, 0, 10000, false, 0, false, 1⟩,
  ⟨0xC01, 1, 0x00, 0x00, .u8, 1, .const, 10, 0, 255, false, 0, false, 1⟩,
  ⟨0xC01, 1, 0x01, 0x01, .u16, 2, .ro, 0, 0, 65535, false, 0, false, 1⟩,
  ⟨0xC01, 1, 0x02, 0x02, .u16, 2, .ro, 0, 0, 65535, false, 0, false, 1⟩,
  ⟨0xC01, 1, 0x03, 0x03, .u16, 2, .ro, 0, 0, 65535, false, 0, false, 1⟩,
  ⟨0xC01, 1, 0x04, 0x04, .u16, 2, .ro, 0, 0, 65535, false, 0, false, 1⟩,
  ⟨0xC01, 1, 0x05, 0x05, .bool, 1, .ro, 0, 0, 1, false, 0, false, 1⟩,
  ⟨0xC01, 1, 0x06, 0x06, .u8, 1, .ro, 0, 0, 255, false, 0, false, 1⟩,
  ⟨0xC01, 1, 0x07, 0x07, .u64, 8, .ro, 0, 0, 18446744073709551615, false, 0, true, 1⟩,
  ⟨0xC01, 1, 0x08, 0x08, .u16, 2, .ro, 0, 0, 65535, false, 0, false, 1⟩,
  ⟨0xC01, 1, 0x09, 0x09, .u32, 4, .ro, 0, 0, 4294967295, false, 0, true, 1⟩,
  ⟨0xC01, 1, 0x0A, 0x0A, .u64, 8, .ro, 0, 0, 18446744073709551615, false, 0, false, 1⟩,
  ⟨0xC10, 16, 0x00, 0x00, .u8, 1, .const, 7, 0, 255, false, 0, false, 1⟩,
  ⟨0xC10, 16, 0x01, 0x01, .u8, 1, (.rw .engineer 30 true), 0, 0, 2, false, 0, false, 1⟩,
  ⟨0xC10, 16, 0x02, 0x02, .u8, 1, .ro, 0, 0, 255, false, 0, false, 1⟩]

/-- Object table rows of indices Cxx, part 1. -/
def objRowsC_1 : List ObjRow := [
  ⟨0xC10, 16, 0x03, 0x03, .u8, 1, .ro, 0, 0, 255, false, 0, false, 1⟩,
  ⟨0xC10, 16, 0x04, 0x04, .u16, 2, .ro, 0, 0, 65535, false, 0, false, 1⟩,
  ⟨0xC10, 16, 0x05, 0x05, .u64, 8, .ro, 0, 0, 18446744073709551615, false, 0, true, 1⟩,
  ⟨0xC10, 16, 0x06, 0x06, .u16, 2, .ro, 0, 0, 65535, false, 0, false, 1⟩,
  ⟨0xC10, 16, 0x07, 0x07, .u32, 4, .ro, 0, 0, 4294967295, false, 0, true, 1⟩]

/-- Object table rows of indices Cxx. -/
def objRowsC : List ObjRow := objRowsC_0 ++ objRowsC_1

/-- Object table rows of indices Dxx, part 0. -/
def objRowsD_0 : List ObjRow := [
  ⟨0xD00, 1, 0x00, 0x00, .u8, 1, .const, 3, 0, 255, false, 0, false, 1⟩,
  ⟨0xD00, 1, 0x01, 0x01, .u8, 1, .ro, 0, 0, 255, false, 0, false, 1⟩,
  ⟨0xD00, 1, 0x02, 0x02, .octets, 260, (.wo .service 30 false), 0, 0, 0, false, 0, false, 1⟩,
  ⟨0xD00, 1, 0x03, 0x03, .u32, 4, .ro, 0, 0, 4294967295, false, 0, false, 1⟩,
  ⟨0xD01, 1, 0x00, 0x00, .u8, 1, .const, 15, 0, 255, false, 0, false, 1⟩,
  ⟨0xD01, 1, 0x01, 0x01, .u32, 4, .ro, 0, 0, 4294967295, false, 0, false, 1⟩,
  ⟨0xD01, 1, 0x02, 0x02, .bool, 1, .ro, 0, 0, 1, false, 0, false, 1⟩,
  ⟨0xD01, 1, 0x03, 0x03, .u32, 4, .ro, 0, 0, 4294967295, false, 0, false, 1⟩,
  ⟨0xD01, 1, 0x04, 0x04, .u8, 1, (.rw .service 30 false), 0, 0, 255, false, 0, false, 1⟩,
  ⟨0xD01, 1, 0x05, 0x05, .u32, 4, (.rw .service 30 false), 0, 0, 4294967295, false, 0, false, 1⟩,
  ⟨0xD01, 1, 0x06, 0x06, .bool, 1, (.wo .service 30 false), 0, 0, 1, false, 0, false, 1⟩,
  ⟨0xD01, 1, 0x07, 0x07, .ftime, 8, .ro, 0, (-9223372036854775808), 9223372036854775807, false, 0, false, 1⟩,
  ⟨0xD01, 1, 0x08, 0x08, .bool, 1, (.rw .engineer 18 true), 0, 0, 1, false, 0, false, 1⟩,
  ⟨0xD01, 1, 0x09, 0x09, .bool, 1, (.rw .engineer 18 true), 0, 0, 1, false, 0, false, 1⟩,
  ⟨0xD01, 1, 0x0A, 0x0A, .bool, 1, (.wo .service 30 false), 0, 0, 1, false, 0, false, 1⟩,
  ⟨0xD01, 1, 0x0B, 0x0B, .u64, 8, .ro, 0, 0, 18446744073709551615, false, 0, true, 1⟩,
  ⟨0xD01, 1, 0x0C, 0x0C, .u64, 8, .ro, 0, 0, 18446744073709551615, false, 0, true, 1⟩,
  ⟨0xD01, 1, 0x0D, 0x0D, .u64, 8, .ro, 0, 0, 18446744073709551615, false, 0, true, 1⟩,
  ⟨0xD01, 1, 0x0E, 0x0E, .u64, 8, .ro, 0, 0, 18446744073709551615, false, 0, true, 1⟩,
  ⟨0xD01, 1, 0x0F, 0x0F, .ftime, 8, .ro, 0, (-9223372036854775808), 9223372036854775807, false, 0, false, 1⟩,
  ⟨0xD02, 1, 0x00, 0x00, .u8, 1, .const, 6, 0, 255, false, 0, false, 1⟩,
  ⟨0xD02, 1, 0x01, 0x01, .octets, 64, .ro, 0, 0, 0, false, 0, false, 1⟩,
  ⟨0xD02, 1, 0x02, 0x02, .octets, 1024, .ro, 0, 0, 0, false, 0, false, 1⟩,
  ⟨0xD02, 1, 0x03, 0x03, .octets, 33, (.wo .pub 31 false), 0, 0, 0, false, 0, false, 1⟩]

/-- Object table rows of indices Dxx, part 1. -/
def objRowsD_1 : List ObjRow := [
  ⟨0xD02, 1, 0x04, 0x04, .octets, 128, .ro, 0, 0, 0, false, 0, false, 1⟩,
  ⟨0xD02, 1, 0x05, 0x05, .octets, 64, .ro, 0, 0, 0, false, 0, false, 1⟩,
  ⟨0xD02, 1, 0x06, 0x06, .octets, 64, .ro, 0, 0, 0, false, 0, false, 1⟩,
  ⟨0xD03, 1, 0x00, 0x00, .u8, 1, .const, 1, 0, 255, false, 0, false, 1⟩,
  ⟨0xD03, 1, 0x01, 0x01, .octets, 128, (.wo .service 18 false), 0, 0, 0, false, 0, false, 1⟩]

/-- Object table rows of indices Dxx. -/
def objRowsD : List ObjRow := objRowsD_0 ++ objRowsD_1

/-- Object table rows of indices Exx, part 0. -/
def objRowsE_0 : List ObjRow := [
  ⟨0xE00, 1, 0x00, 0x00, .u8, 1, .const, 13, 0, 255, false, 0, false, 1⟩,
  ⟨0xE00, 1, 0x01, 0x01, .u8, 1, .ro, 0, 0, 255, false, 0, false, 1⟩,
  ⟨0xE00, 1, 0x02, 0x02, .u8, 1, (.wo .service 30 false), 0, 1, 4, false, 0, false, 1⟩,
  ⟨0xE00, 1, 0x03, 0x03, .u32, 4, (.rw .service 30 false), 0, 1024, 6291456, false, 0, false, 1⟩,
  ⟨0xE00, 1, 0x04, 0x04, .u32, 4, .ro, 0, 0, 4294967295, false, 0, false, 1⟩,
  ⟨0xE00, 1, 0x05, 0x05, .u8, 1, .ro, 0, 0, 255, false, 0, false, 1⟩,
  ⟨0xE00, 1, 0x06, 0x06, .u16, 2, (.rw .service 30 true), 30, 1, 1440, false, 0, false, 1⟩,
  ⟨0xE00, 1, 0x07, 0x07, .u8, 1, .ro, 0, 0, 255, false, 0, false, 1⟩,
  ⟨0xE00, 1, 0x08, 0x08, .u32, 4, .ro, 0, 0, 4294967295, false, 0, false, 1⟩,
  ⟨0xE00, 1, 0x09, 0x09, .u8, 1, .ro, 0, 0, 255, false, 0, false, 1⟩,
  ⟨0xE00, 1, 0x0A, 0x0A, .u32, 4, .ro, 0, 0, 4294967295, false, 0, false, 1⟩,
  ⟨0xE00, 1, 0x0B, 0x0B, .u32, 4, .ro, 0, 0, 4294967295, false, 0, false, 1⟩,
  ⟨0xE00, 1, 0x0C, 0x0C, .bool, 1, (.wo .service 26 false), 0, 0, 1, false, 0, false, 1⟩,
  ⟨0xE00, 1, 0x0D, 0x0D, .u64, 8, .ro, 0, 0, 18446744073709551615, false, 0, true, 1⟩,
  ⟨0xE01, 1, 0x00, 0x00, .octets, 6291456, (.wo .service 30 false), 0, 0, 0, false, 0, false, 1⟩,
  ⟨0xE80, 1, 0x00, 0x00, .u8, 1, .const, 7, 0, 255, false, 0, false, 1⟩,
  ⟨0xE80, 1, 0x01, 0x01, .u32, 4, .ro, 0, 0, 4294967295, false, 0, false, 1⟩,
  ⟨0xE80, 1, 0x02, 0x02, .u8, 1, .ro, 0, 0, 255, false, 0, false, 1⟩,
  ⟨0xE80, 1, 0x03, 0x03, .u64, 8, .const, 0, 0, 18446744073709551615, false, 0, false, 1⟩,
  ⟨0xE80, 1, 0x04, 0x04, .u32, 4, .ro, 0, 0, 4294967295, false, 0, false, 1⟩,
  ⟨0xE80, 1, 0x05, 0x05, .u8, 1, .ro, 0, 0, 255, false, 0, false, 1⟩,
  ⟨0xE80, 1, 0x06, 0x06, .u16, 2, .ro, 0, 0, 65535, false, 0, false, 1⟩,
  ⟨0xE80, 1, 0x07, 0x07, .u16, 2, .ro, 0, 0, 65535, false, 0, false, 1⟩,
  ⟨0xE81, 1, 0x00, 0x00, .octets, 6291456, (.wo .service 64 false), 0, 0, 0, false, 0, false, 1⟩]

/-- Object table rows of indices Exx, part 1. -/
def objRowsE_1 : List ObjRow := [
  ⟨0xE82, 1, 0x00, 0x00, .u8, 1, (.wo .service 64 false), 0, 1, 1, false, 0, false, 1⟩,
  ⟨0xE83, 1, 0x00, 0x00, .octets, 3145728, .ro, 0, 0, 0, false, 0, false, 1⟩,
  ⟨0xE84, 1, 0x00, 0x00, .octets, 524288, .ro, 0, 0, 0, false, 0, false, 1⟩,
  ⟨0xE85, 1, 0x00, 0x00, .octets, 524288, .ro, 0, 0, 0, false, 0, false, 1⟩]

/-- Object table rows of indices Exx. -/
def objRowsE : List ObjRow := objRowsE_0 ++ objRowsE_1

/-- Object table rows of indices Fxx, part 0. -/
def objRowsF_0 : List ObjRow := [
  ⟨0xF00, 1, 0x00, 0x00, .u8, 1, .const, 3, 0, 255, false, 0, false, 1⟩,
  ⟨0xF00, 1, 0x01, 0x01, .u8, 1, .ro, 0, 0, 255, false, 0, false, 1⟩,
  ⟨0xF00, 1, 0x02, 0x02, .u16, 2, (.rw .engineer 18 true), 60, 1, 3600, false, 0, false, 1⟩,
  ⟨0xF00, 1, 0x03, 0x03, .bool, 1, (.wo .engineer 16 false), 0, 0, 1, false, 0, false, 1⟩,
  ⟨0xF10, 16, 0x00, 0x00, .u8, 1, .const, 4, 0, 255, false, 0, false, 1⟩,
  ⟨0xF10, 16, 0x01, 0x01, .octets, 16, (.rw .engineer 16 false), 0, 0, 0, false, 0, false, 1⟩,
  ⟨0xF10, 16, 0x02, 0x02, .u8, 1, .ro, 0, 0, 255, false, 0, false, 1⟩,
  ⟨0xF10, 16, 0x03, 0x03, .u32, 4, .ro, 0, 0, 4294967295, false, 0, false, 1⟩,
  ⟨0xF10, 16, 0x04, 0x04, .u64, 8, .ro, 0, 0, 18446744073709551615, false, 0, true, 1⟩]

/-- Object table rows of indices Fxx. -/
def objRowsF : List ObjRow := objRowsF_0

/-- The object table rows of one page of 256 indices. -/
def objPage : Nat → List ObjRow
  | 0 => objRows0
  | 1 => objRows1
  | 2 => objRows2
  | 3 => objRows3
  | 4 => objRows4
  | 5 => objRows5
  | 6 => objRows6
  | 7 => objRows7
  | 8 => objRows8
  | 9 => objRows9
  | 10 => objRowsA
  | 11 => objRowsB
  | 12 => objRowsC
  | 13 => objRowsD
  | 14 => objRowsE
  | 15 => objRowsF
  | _ => []

/-- The row of the object numbered `k`, if index and sub-index exist (R344). -/
def objRow (k : Nat) : Option ObjRow := (objPage (k / 65536)).find? (fun r => r.covers (k / 256) (k % 256))

/-- The index of `k` exists in the dictionary (R344, Table 13.1). -/
def objIndexExists (k : Nat) : Bool :=
  (objPage (k / 65536)).any (fun r => decide (r.index ≤ k / 256) && decide (k / 256 < r.index + r.count))

/-- Object `k` is a counter of R69. -/
def objIsCounter (k : Nat) : Bool := match objRow k with
  | some r => r.counter
  | none => false

/-- Object `k` is persistent: marked "p" in its access entry (R12). -/
def objIsPersistent (k : Nat) : Bool := match objRow k with
  | some r => (match r.access with
    | .rw _ _ p => p
    | .wo _ _ p => p
    | _ => false)
  | none => false

/-- Default depth and order of queue q of a Pan (Table 6.1), as a QCONFIG value. -/
def queueDefault (q : Nat) : Nat :=
  if q = 2 || q = 5 then 0x0108 else if q ≤ 4 then 0x0010 else if q ≤ 11 then 8 else if q ≤ 19 then 4 else 8

/-- The FAULT_CFG value of its fields (Table 16.3). -/
def faultCfg (minor major leave cls n wUnit wVal qUnit qVal k : Nat) : Nat :=
  minor * 2 ^ 61 + major * 2 ^ 58 + leave * 2 ^ 57 + cls * 2 ^ 54 + n * 2 ^ 46 + wUnit * 2 ^ 44 + wVal * 2 ^ 32 +
    qUnit * 2 ^ 30 + qVal * 2 ^ 18 + k * 2 ^ 14

/-- The class of fault source `s` (Table 16.1); reserved numbers never occur and read class 0. -/
def faultClass (s : Nat) : Nat :=
  if s ≤ 0x002 then 1 else if s ≤ 0x027 then 0 else if s ≤ 0x030 then 1
  else if s ≤ 0x04C then 2 else if s ≤ 0x061 then 3 else if s ≤ 0x069 then 6 else if s ≤ 0x088 then 5
  else if s ≤ 0x091 then 4 else if s ≤ 0x093 then 6 else if s = 0x094 then 4
  else if s ≤ 0x0A3 then 7 else if s ≤ 0x0B4 then 6 else if s ≤ 0x1BF then 4 else 0

/-- Sources whose default leave is SOFTWARE_CLEAR (Table 16.1). -/
def faultSoftwareClear (s : Nat) : Bool :=
  s ≤ 0x002 || (0x010 ≤ s && s ≤ 0x013) || s = 0x068 || s = 0x069 || s = 0x0A0 || s = 0x0A1 || s = 0x0A3 ||
    s = 0x0B0 || s = 0x0B3 || s = 0x0B4 || (0x140 ≤ s && s ≤ 0x14F) || (0x1B0 ≤ s && s ≤ 0x1BF)

/-- Sources whose default N is 1 (Table 16.1). -/
def faultN1 (s : Nat) : Bool :=
  s = 0x000 || s = 0x002 || s = 0x068 || s = 0x080 || s = 0x082 || s = 0x094 || s = 0x0A0 || s = 0x0A1 ||
    s = 0x0B0 || s = 0x0B3

/-- Sources whose default minor reaction is LOG (Table 16.1). -/
def faultMinorLog (s : Nat) : Bool :=
  (0x014 ≤ s && s ≤ 0x017) || (0x020 ≤ s && s ≤ 0x023) || s = 0x04A || s = 0x0B2 || (0x100 ≤ s && s ≤ 0x10F)

/-- FAULT_CFG of source `s` at its default: the baseline of Table 16.3 changed by Table 16.1 (R434). -/
def faultCfgDefault (s : Nat) : Nat :=
  faultCfg (if faultMinorLog s then 0 else 1)
    (if s = 0 then 5 else if 0x020 ≤ s && s ≤ 0x023 then 0 else if s = 0x094 then 4 else 1)
    (if faultSoftwareClear s then 0 else 1) (faultClass s)
    (if s = 0x0A2 then 100 else if faultN1 s then 1 else 10)
    1 (if s = 0x0A2 then 1 else 10) 1 1 3

/-- A rule record of Table 16.6 as its 24 bytes read most significant first. -/
def ruleRec (flags gauge action : Nat) (threshold hyst dwell target value : Nat) : Nat :=
  flags * 2 ^ 184 + gauge * 2 ^ 176 + action * 2 ^ 168 + threshold * 2 ^ 128 + hyst * 2 ^ 96 + dwell * 2 ^ 80 +
    target * 2 ^ 64 + value * 2 ^ 32

/-- The default rule of slot `i` (Table 16.10). FLAGS: 128 ENABLE, 64 BELOW, 32 UNDO. -/
def ruleDefault (i : Nat) : Nat :=
  if i ≤ 3 then ruleRec 160 i 6 10000 5000 1000 i 0
  else if i ≤ 7 then ruleRec 160 i 6 0 0 100 (i - 4) 0
  else if i ≤ 11 then ruleRec 224 (i + 4) 6 40 10 1000 (i - 8) 0
  else if i = 12 then ruleRec 128 0x14 8 1150 50 1000 0 0
  else if i = 13 then ruleRec 128 0x15 8 1150 50 1000 0 0
  else if i = 14 then ruleRec 128 0x16 8 950 50 1000 0 0
  else if i = 15 then ruleRec 128 0x18 8 500 200 100 0 0
  else if i = 16 then ruleRec 128 0x1A 8 700 50 1000 0 0
  else if i = 17 then ruleRec 192 0x1B 7 8 2 1000 0 0
  else if i = 18 then ruleRec 192 0x1D 8 20000 1000 10 0 0
  else if i = 19 then ruleRec 192 0x1F 8 2048 1024 10 0 0
  else if i ≤ 35 then ruleRec 160 (0x20 + (i - 20)) 4 50 20 100 (i - 20) 2
  else if i = 36 then ruleRec 160 0x1A 3 600 100 1000 0 32
  else if i = 37 then ruleRec 128 0x10 8 0 0 0 0 0
  else if i = 38 then ruleRec 128 0x11 8 0 0 0 0 0
  else if i = 39 then ruleRec 128 0x17 8 22000 1000 1000 0 0
  else 0

/-- The TUNNEL_CFG default: zeros, MIN_TVER 1, MAX_TVER 2, RX_RESERVE and TX_RESERVE 64 (Table 12.5). -/
def tunnelDefault : Nat := 1 * 2 ^ 120 + 2 * 2 ^ 112 + 64 * 2 ^ 48 + 64 * 2 ^ 32

/-- Defaults that depend on the unit: `none` where the object row's own default holds. -/
def unitDefault (i s : Nat) : Option Nat :=
  if 0x110 ≤ i && i ≤ 0x113 then
    (if s = 1 ∨ s = 6 then some (if i = 0x113 then 0 else 1)
     else if s = 2 then some (if i = 0x112 then 1 else 0)
     else if s = 3 then some (if i = 0x112 then 0 else 2)
     else if s = 4 then some (if i = 0x112 then 1 else 0)
     else none)
  else if 0x310 ≤ i && i ≤ 0x31F && 1 ≤ s && s ≤ 0x18 then some (queueDefault (s - 1))
  else if 0x680 ≤ i && i ≤ 0x687 && s = 2 then some (i - 0x680)
  else if 0x780 ≤ i && i ≤ 0x78F && 1 ≤ s then some tunnelDefault
  else if 0x810 ≤ i && i ≤ 0x817 && 1 ≤ s then
    some (if i = 0x810 && s = 1 then 0 else 0x80 * 2 ^ 56)
  else if 0x904 ≤ i && i ≤ 0x907 && 1 ≤ s then some (faultCfgDefault (128 * (i - 0x904) + s - 1))
  else if 0x940 ≤ i && i ≤ 0x943 && 1 ≤ s then some (ruleDefault (32 * (i - 0x940) + s - 1))
  else if i = 0x000 then
    (if s = 3 then some 1 else if s = 4 then some 0x03000000 else if s = 5 then some 0x03000000
     else if s = 7 then some 0x0300 else none)
  else none

/-- What the dictionary cell `k` reads as before anything wrote it: its default (R361), 0 where the table shows none. -/
def objDefault (k : Nat) : Nat :=
  match unitDefault (k / 256) (k % 256) with
  | some v => v
  | none => match objRow k with
    | some r => r.default
    | none => 0

end Sys2Proof.Machine
end

