-- ==== Sys2Proof/Machine/Keys.lean ====
section
/-! DEFINITION. Names for the object numbers of the dictionary, as the spec's object tables name them: a group, the
object's name, and the unit and element arguments that the index and the sub-index run over. -/

namespace Sys2Proof.Machine.Key

/-- {000.01} ID_PRODUCT_CODE. -/
abbrev ID_PRODUCT_CODE : Nat := obj 0x000 0x01
/-- {000.02} ID_STEPPING. -/
abbrev ID_STEPPING : Nat := obj 0x000 0x02
/-- {000.03} ID_SERIAL. -/
abbrev ID_SERIAL : Nat := obj 0x000 0x03
/-- {000.04} ID_FIRMWARE_VERSION. -/
abbrev ID_FIRMWARE_VERSION : Nat := obj 0x000 0x04
/-- {000.05} ID_LOADER_VERSION. -/
abbrev ID_LOADER_VERSION : Nat := obj 0x000 0x05
/-- {000.06} ID_PROTOCOL_RANGE. -/
abbrev ID_PROTOCOL_RANGE : Nat := obj 0x000 0x06
/-- {000.07} ID_LAYOUT_VERSION. -/
abbrev ID_LAYOUT_VERSION : Nat := obj 0x000 0x07
/-- {010.01} COMPAT_STRAP. -/
abbrev COMPAT_STRAP : Nat := obj 0x010 0x01
/-- {010.02} COMPAT_REQUEST. -/
abbrev COMPAT_REQUEST : Nat := obj 0x010 0x02
/-- {010.03} COMPAT_EFFECTIVE. -/
abbrev COMPAT_EFFECTIVE : Nat := obj 0x010 0x03
/-- {020.00} HUB_STATE. -/
abbrev HUB_STATE : Nat := obj 0x020 0x00
/-- {021.00} HUB_STATE_REQUEST. -/
abbrev HUB_STATE_REQUEST : Nat := obj 0x021 0x00
/-- {022.01} HUB_AUTO_OPERATE. -/
abbrev HUB_AUTO_OPERATE : Nat := obj 0x022 0x01
/-- {022.02} HUB_MAINT_IDLE. -/
abbrev HUB_MAINT_IDLE : Nat := obj 0x022 0x02
/-- {022.03} HUB_MAINT_OWNER. -/
abbrev HUB_MAINT_OWNER : Nat := obj 0x022 0x03
/-- {022.04} HUB_STATE_CHANGES. -/
abbrev HUB_STATE_CHANGES : Nat := obj 0x022 0x04
/-- {030.01} ACCESS_HOST_CEILING. -/
abbrev ACCESS_HOST_CEILING : Nat := obj 0x030 0x01
/-- {030.02} ACCESS_UNAUTH_CEILING. -/
abbrev ACCESS_UNAUTH_CEILING : Nat := obj 0x030 0x02
/-- {030.03} ACCESS_AUTH_REQUIRED. -/
abbrev ACCESS_AUTH_REQUIRED : Nat := obj 0x030 0x03
/-- {030.04} ACCESS_HOST_CLIENT. -/
abbrev ACCESS_HOST_CLIENT : Nat := obj 0x030 0x04
/-- {040.01} PARAM_SAVE. -/
abbrev PARAM_SAVE : Nat := obj 0x040 0x01
/-- {040.02} PARAM_RESTORE_DEFAULTS. -/
abbrev PARAM_RESTORE_DEFAULTS : Nat := obj 0x040 0x02
/-- {040.03} PARAM_ACTIVE_COPY. -/
abbrev PARAM_ACTIVE_COPY : Nat := obj 0x040 0x03
/-- {040.04} PARAM_SEQUENCE. -/
abbrev PARAM_SEQUENCE : Nat := obj 0x040 0x04
/-- {040.05} PARAM_SAVES. -/
abbrev PARAM_SAVES : Nat := obj 0x040 0x05
/-- {040.06} PARAM_LAST_SAVE. -/
abbrev PARAM_LAST_SAVE : Nat := obj 0x040 0x06
/-- {040.07} PARAM_MIGRATION. -/
abbrev PARAM_MIGRATION : Nat := obj 0x040 0x07
/-- {040.08} PARAM_DIRTY. -/
abbrev PARAM_DIRTY : Nat := obj 0x040 0x08
/-- {050.01} HOST_LINK. -/
abbrev HOST_LINK : Nat := obj 0x050 0x01
/-- {050.02} HOST_WDOG_MS. -/
abbrev HOST_WDOG_MS : Nat := obj 0x050 0x02
/-- {050.03} HOST_MBX_IGNORED. -/
abbrev HOST_MBX_IGNORED : Nat := obj 0x050 0x03
/-- {050.04} HOST_SNAP_IGNORED. -/
abbrev HOST_SNAP_IGNORED : Nat := obj 0x050 0x04
/-- {050.05} HOST_DMA_ERRORS. -/
abbrev HOST_DMA_ERRORS : Nat := obj 0x050 0x05
/-- {050.06} HOST_COMPLETION_TIMEOUTS. -/
abbrev HOST_COMPLETION_TIMEOUTS : Nat := obj 0x050 0x06
/-- {050.07} HOST_LINK_DOWNS. -/
abbrev HOST_LINK_DOWNS : Nat := obj 0x050 0x07
/-- {060.01} DICT_REQUESTS. -/
abbrev DICT_REQUESTS : Nat := obj 0x060 0x01
/-- {060.02} DICT_ABORTS. -/
abbrev DICT_ABORTS : Nat := obj 0x060 0x02
/-- {060.03} DICT_DUPLICATES. -/
abbrev DICT_DUPLICATES : Nat := obj 0x060 0x03
/-- {060.04} DICT_RESENDS. -/
abbrev DICT_RESENDS : Nat := obj 0x060 0x04
/-- {060.05} DICT_BUSY_REFUSALS. -/
abbrev DICT_BUSY_REFUSALS : Nat := obj 0x060 0x05
/-- {060.06} DICT_TIMEOUTS. -/
abbrev DICT_TIMEOUTS : Nat := obj 0x060 0x06
/-- {0F0.00} DICT_REJECTIONS. -/
abbrev DICT_REJECTIONS : Nat := obj 0x0F0 0x00
/-- {100.01} LINK_ETHERTYPE. -/
abbrev LINK_ETHERTYPE : Nat := obj 0x100 0x01
/-- {100.02} LINK_MIN_VERSION. -/
abbrev LINK_MIN_VERSION : Nat := obj 0x100 0x02
/-- {100.03} LINK_MAX_VERSION. -/
abbrev LINK_MAX_VERSION : Nat := obj 0x100 0x03
/-- {100.04} LINK_DUP_AGE_MS. -/
abbrev LINK_DUP_AGE_MS : Nat := obj 0x100 0x04
/-- {100.05} LINK_LAP_NS. -/
abbrev LINK_LAP_NS : Nat := obj 0x100 0x05
/-- {100.06} LINK_RING_VERSION. -/
abbrev LINK_RING_VERSION : Nat := obj 0x100 0x06
/-- {110+u.01} PORT_ENABLE. -/
abbrev PORT_ENABLE (u : Nat) : Nat := obj (0x110 + u) 0x01
/-- {110+u.02} PORT_SPEED. -/
abbrev PORT_SPEED (u : Nat) : Nat := obj (0x110 + u) 0x02
/-- {110+u.03} PORT_FEC. -/
abbrev PORT_FEC (u : Nat) : Nat := obj (0x110 + u) 0x03
/-- {110+u.04} PORT_MEDIUM. -/
abbrev PORT_MEDIUM (u : Nat) : Nat := obj (0x110 + u) 0x04
/-- {110+u.05} PORT_HOLDOFF_MS. -/
abbrev PORT_HOLDOFF_MS (u : Nat) : Nat := obj (0x110 + u) 0x05
/-- {110+u.06} PORT_STATE. -/
abbrev PORT_STATE (u : Nat) : Nat := obj (0x110 + u) 0x06
/-- {110+u.07} PORT_RATE. -/
abbrev PORT_RATE (u : Nat) : Nat := obj (0x110 + u) 0x07
/-- {110+u.08} PORT_FEC_ACTIVE. -/
abbrev PORT_FEC_ACTIVE (u : Nat) : Nat := obj (0x110 + u) 0x08
/-- {110+u.09} PORT_VERSION. -/
abbrev PORT_VERSION (u : Nat) : Nat := obj (0x110 + u) 0x09
/-- {110+u.0A} PORT_PEER_SERIAL. -/
abbrev PORT_PEER_SERIAL (u : Nat) : Nat := obj (0x110 + u) 0x0A
/-- {110+u.0B} PORT_PEER_STATION. -/
abbrev PORT_PEER_STATION (u : Nat) : Nat := obj (0x110 + u) 0x0B
/-- {110+u.0C} PORT_PEER_PORT. -/
abbrev PORT_PEER_PORT (u : Nat) : Nat := obj (0x110 + u) 0x0C
/-- {110+u.0D} PORT_PEER_FLAGS. -/
abbrev PORT_PEER_FLAGS (u : Nat) : Nat := obj (0x110 + u) 0x0D
/-- {110+u.0E} PORT_EYE_HEIGHT. -/
abbrev PORT_EYE_HEIGHT (u : Nat) : Nat := obj (0x110 + u) 0x0E
/-- {114+u.01} SFP_PRESENT. -/
abbrev SFP_PRESENT (u : Nat) : Nat := obj (0x114 + u) 0x01
/-- {114+u.02} SFP_IDENT. -/
abbrev SFP_IDENT (u : Nat) : Nat := obj (0x114 + u) 0x02
/-- {114+u.03} SFP_VENDOR. -/
abbrev SFP_VENDOR (u : Nat) : Nat := obj (0x114 + u) 0x03
/-- {114+u.04} SFP_PART. -/
abbrev SFP_PART (u : Nat) : Nat := obj (0x114 + u) 0x04
/-- {114+u.05} SFP_MODULE_SERIAL. -/
abbrev SFP_MODULE_SERIAL (u : Nat) : Nat := obj (0x114 + u) 0x05
/-- {114+u.06} SFP_TEMPERATURE. -/
abbrev SFP_TEMPERATURE (u : Nat) : Nat := obj (0x114 + u) 0x06
/-- {114+u.07} SFP_VCC. -/
abbrev SFP_VCC (u : Nat) : Nat := obj (0x114 + u) 0x07
/-- {114+u.08} SFP_TX_BIAS. -/
abbrev SFP_TX_BIAS (u : Nat) : Nat := obj (0x114 + u) 0x08
/-- {114+u.09} SFP_TX_POWER. -/
abbrev SFP_TX_POWER (u : Nat) : Nat := obj (0x114 + u) 0x09
/-- {114+u.0A} SFP_RX_POWER. -/
abbrev SFP_RX_POWER (u : Nat) : Nat := obj (0x114 + u) 0x0A
/-- {114+u.0B} SFP_ALARMS. -/
abbrev SFP_ALARMS (u : Nat) : Nat := obj (0x114 + u) 0x0B
/-- {114+u.0C} SFP_WARNINGS. -/
abbrev SFP_WARNINGS (u : Nat) : Nat := obj (0x114 + u) 0x0C
/-- {114+u.0D} SFP_STATUS. -/
abbrev SFP_STATUS (u : Nat) : Nat := obj (0x114 + u) 0x0D
/-- {118+u.01} COUNT_RX_FRAMES. -/
abbrev COUNT_RX_FRAMES (u : Nat) : Nat := obj (0x118 + u) 0x01
/-- {118+u.02} COUNT_RX_BYTES. -/
abbrev COUNT_RX_BYTES (u : Nat) : Nat := obj (0x118 + u) 0x02
/-- {118+u.03} COUNT_TX_FRAMES. -/
abbrev COUNT_TX_FRAMES (u : Nat) : Nat := obj (0x118 + u) 0x03
/-- {118+u.04} COUNT_TX_BYTES. -/
abbrev COUNT_TX_BYTES (u : Nat) : Nat := obj (0x118 + u) 0x04
/-- {118+u.05} COUNT_RX_FCS_ERR. -/
abbrev COUNT_RX_FCS_ERR (u : Nat) : Nat := obj (0x118 + u) 0x05
/-- {118+u.06} COUNT_RX_STOMPED. -/
abbrev COUNT_RX_STOMPED (u : Nat) : Nat := obj (0x118 + u) 0x06
/-- {118+u.07} COUNT_TX_STOMPED. -/
abbrev COUNT_TX_STOMPED (u : Nat) : Nat := obj (0x118 + u) 0x07
/-- {118+u.08} COUNT_PCS_ERR_BLOCKS. -/
abbrev COUNT_PCS_ERR_BLOCKS (u : Nat) : Nat := obj (0x118 + u) 0x08
/-- {118+u.09} COUNT_FEC_CORRECTED. -/
abbrev COUNT_FEC_CORRECTED (u : Nat) : Nat := obj (0x118 + u) 0x09
/-- {118+u.0A} COUNT_FEC_UNCORRECTED. -/
abbrev COUNT_FEC_UNCORRECTED (u : Nat) : Nat := obj (0x118 + u) 0x0A
/-- {118+u.0B} COUNT_LINK_DOWNS. -/
abbrev COUNT_LINK_DOWNS (u : Nat) : Nat := obj (0x118 + u) 0x0B
/-- {118+u.0C} COUNT_HELLO_TIMEOUTS. -/
abbrev COUNT_HELLO_TIMEOUTS (u : Nat) : Nat := obj (0x118 + u) 0x0C
/-- {118+u.0D} COUNT_INCOMPATIBLE. -/
abbrev COUNT_INCOMPATIBLE (u : Nat) : Nat := obj (0x118 + u) 0x0D
/-- {118+u.0E} COUNT_FOREIGN. -/
abbrev COUNT_FOREIGN (u : Nat) : Nat := obj (0x118 + u) 0x0E
/-- {118+u.0F} COUNT_RUNT_OVERSIZE. -/
abbrev COUNT_RUNT_OVERSIZE (u : Nat) : Nat := obj (0x118 + u) 0x0F
/-- {118+u.10} COUNT_HOP_LIMIT. -/
abbrev COUNT_HOP_LIMIT (u : Nat) : Nat := obj (0x118 + u) 0x10
/-- {118+u.11} COUNT_STRIPPED. -/
abbrev COUNT_STRIPPED (u : Nat) : Nat := obj (0x118 + u) 0x11
/-- {118+u.12} COUNT_DUP_DISCARDED. -/
abbrev COUNT_DUP_DISCARDED (u : Nat) : Nat := obj (0x118 + u) 0x12
/-- {118+u.13} COUNT_TOO_OLD. -/
abbrev COUNT_TOO_OLD (u : Nat) : Nat := obj (0x118 + u) 0x13
/-- {118+u.14} COUNT_TRANSIT_DROP. -/
abbrev COUNT_TRANSIT_DROP (u : Nat) : Nat := obj (0x118 + u) 0x14
/-- {118+u.15} COUNT_TX_DOWN_DROP. -/
abbrev COUNT_TX_DOWN_DROP (u : Nat) : Nat := obj (0x118 + u) 0x15
/-- {118+u.16} COUNT_VERSION_UNSUPPORTED. -/
abbrev COUNT_VERSION_UNSUPPORTED (u : Nat) : Nat := obj (0x118 + u) 0x16
/-- {118+u.17} COUNT_UNKNOWN_KIND. -/
abbrev COUNT_UNKNOWN_KIND (u : Nat) : Nat := obj (0x118 + u) 0x17
/-- {118+u.18} COUNT_RESERVED_BITS. -/
abbrev COUNT_RESERVED_BITS (u : Nat) : Nat := obj (0x118 + u) 0x18
/-- {118+u.19} COUNT_MALFORMED. -/
abbrev COUNT_MALFORMED (u : Nat) : Nat := obj (0x118 + u) 0x19
/-- {118+u.1A} COUNT_TRANSIT_HIGHWATER. -/
abbrev COUNT_TRANSIT_HIGHWATER (u : Nat) : Nat := obj (0x118 + u) 0x1A
/-- {118+u.1B} COUNT_CREDIT_STALL. -/
abbrev COUNT_CREDIT_STALL (u : Nat) : Nat := obj (0x118 + u) 0x1B
/-- {11C.01} LINK_COUNTER_CLEAR. -/
abbrev LINK_COUNTER_CLEAR : Nat := obj 0x11C 0x01
/-- {11D.01} COPPER_VOTE_CORRECTED. -/
abbrev COPPER_VOTE_CORRECTED : Nat := obj 0x11D 0x01
/-- {11D.02} COPPER_ECC_CORRECTED. -/
abbrev COPPER_ECC_CORRECTED : Nat := obj 0x11D 0x02
/-- {11D.03} COPPER_ECC_UNCORRECTABLE. -/
abbrev COPPER_ECC_UNCORRECTABLE : Nat := obj 0x11D 0x03
/-- {11D.04} COPPER_SELFTEST. -/
abbrev COPPER_SELFTEST : Nat := obj 0x11D 0x04
/-- {11D.05} COPPER_ORIG_CAP_HOLDS. -/
abbrev COPPER_ORIG_CAP_HOLDS : Nat := obj 0x11D 0x05
/-- {11D.06} COPPER_LANDING_DROPS. -/
abbrev COPPER_LANDING_DROPS : Nat := obj 0x11D 0x06
/-- {130.01} BYP0_STATE. -/
abbrev BYP0_STATE : Nat := obj 0x130 0x01
/-- {130.02} BYP1_STATE. -/
abbrev BYP1_STATE : Nat := obj 0x130 0x02
/-- {130.03} BYP_COMMAND. -/
abbrev BYP_COMMAND : Nat := obj 0x130 0x03
/-- {130.04} BYP0_CYCLES. -/
abbrev BYP0_CYCLES : Nat := obj 0x130 0x04
/-- {130.05} BYP1_CYCLES. -/
abbrev BYP1_CYCLES : Nat := obj 0x130 0x05
/-- {130.06} BYP_RATED_CYCLES. -/
abbrev BYP_RATED_CYCLES : Nat := obj 0x130 0x06
/-- {130.07} BYP_WARN_PERCENT. -/
abbrev BYP_WARN_PERCENT : Nat := obj 0x130 0x07
/-- {130.09} BYP_SETTLE_TIME. -/
abbrev BYP_SETTLE_TIME : Nat := obj 0x130 0x09
/-- {140.01} DISC_ROOT_PRIORITY. -/
abbrev DISC_ROOT_PRIORITY : Nat := obj 0x140 0x01
/-- {140.02} DISC_RING_NUMBER. -/
abbrev DISC_RING_NUMBER : Nat := obj 0x140 0x02
/-- {140.03} DISC_SWEEP_MS. -/
abbrev DISC_SWEEP_MS : Nat := obj 0x140 0x03
/-- {140.04} DISC_STATE. -/
abbrev DISC_STATE : Nat := obj 0x140 0x04
/-- {140.05} DISC_ROOT_SERIAL. -/
abbrev DISC_ROOT_SERIAL : Nat := obj 0x140 0x05
/-- {140.06} DISC_ROUND. -/
abbrev DISC_ROUND : Nat := obj 0x140 0x06
/-- {140.07} DISC_HUB_COUNT. -/
abbrev DISC_HUB_COUNT : Nat := obj 0x140 0x07
/-- {140.08} DISC_LAST_COMPLETE. -/
abbrev DISC_LAST_COMPLETE : Nat := obj 0x140 0x08
/-- {140.09} DISC_ROUNDS. -/
abbrev DISC_ROUNDS : Nat := obj 0x140 0x09
/-- {140.0A} DISC_RING_OPEN. -/
abbrev DISC_RING_OPEN : Nat := obj 0x140 0x0A
/-- {140.0B} DISC_RING_RATE. -/
abbrev DISC_RING_RATE : Nat := obj 0x140 0x0B
/-- {141.01} ADDR_PIN_ENABLE. -/
abbrev ADDR_PIN_ENABLE : Nat := obj 0x141 0x01
/-- {141.02} ADDR_PIN_STATION. -/
abbrev ADDR_PIN_STATION : Nat := obj 0x141 0x02
/-- {141.03} ADDR_STATION. -/
abbrev ADDR_STATION : Nat := obj 0x141 0x03
/-- {141.04} ADDR_NODE_ADDRESS. -/
abbrev ADDR_NODE_ADDRESS : Nat := obj 0x141 0x04
/-- {141.05} ADDR_ROLL_POSITION. -/
abbrev ADDR_ROLL_POSITION : Nat := obj 0x141 0x05
/-- {142.01} FEAT_OWN_FEATURES. -/
abbrev FEAT_OWN_FEATURES : Nat := obj 0x142 0x01
/-- {142.02} FEAT_RING_FEATURES. -/
abbrev FEAT_RING_FEATURES : Nat := obj 0x142 0x02
/-- {150.01+j} ROUTES_ENTRY. -/
abbrev ROUTES_ENTRY (j : Nat) : Nat := obj 0x150 (0x01 + j)
/-- {151.01} COUPLER_ROLE. -/
abbrev COUPLER_ROLE : Nat := obj 0x151 0x01
/-- {151.02} COUPLER_FAR_RING. -/
abbrev COUPLER_FAR_RING : Nat := obj 0x151 0x02
/-- {151.03} COUPLER_PARTNER_NODE. -/
abbrev COUPLER_PARTNER_NODE : Nat := obj 0x151 0x03
/-- {151.04} COUPLER_STATE. -/
abbrev COUPLER_STATE : Nat := obj 0x151 0x04
/-- {151.05} COUPLER_FOREIGN_EVICTIONS. -/
abbrev COUPLER_FOREIGN_EVICTIONS : Nat := obj 0x151 0x05
/-- {152.00} RING_MEMBERS. -/
abbrev RING_MEMBERS : Nat := obj 0x152 0x00
/-- {153.00} RING_SERIALS. -/
abbrev RING_SERIALS : Nat := obj 0x153 0x00
/-- {200.01} IMG_TURN_PERIOD_EXP. -/
abbrev IMG_TURN_PERIOD_EXP : Nat := obj 0x200 0x01
/-- {200.02} IMG_APPLY_OFFSET. -/
abbrev IMG_APPLY_OFFSET : Nat := obj 0x200 0x02
/-- {200.03} IMG_REFRESH_ROTATION. -/
abbrev IMG_REFRESH_ROTATION : Nat := obj 0x200 0x03
/-- {200.04} IMG_STALE_BOUND. -/
abbrev IMG_STALE_BOUND : Nat := obj 0x200 0x04
/-- {200.05} IMG_RING_TURN_EXP. -/
abbrev IMG_RING_TURN_EXP : Nat := obj 0x200 0x05
/-- {200.06} IMG_TURN_NUMBER. -/
abbrev IMG_TURN_NUMBER : Nat := obj 0x200 0x06
/-- {200.07} IMG_SLOT_OFFSET. -/
abbrev IMG_SLOT_OFFSET : Nat := obj 0x200 0x07
/-- {200.08} IMG_IMAGE_AUTH. -/
abbrev IMG_IMAGE_AUTH : Nat := obj 0x200 0x08
/-- {201.01} WIN_PUB_WORDS. -/
abbrev WIN_PUB_WORDS : Nat := obj 0x201 0x01
/-- {201.02} WIN_SUB_WORDS. -/
abbrev WIN_SUB_WORDS : Nat := obj 0x201 0x02
/-- {201.03} WIN_MIRROR_BASE. -/
abbrev WIN_MIRROR_BASE : Nat := obj 0x201 0x03
/-- {201.04} WIN_LOAD_PERMILLE. -/
abbrev WIN_LOAD_PERMILLE : Nat := obj 0x201 0x04
/-- {201.05} WIN_LOAD_BITS. -/
abbrev WIN_LOAD_BITS : Nat := obj 0x201 0x05
/-- {201.06} WIN_STATE. -/
abbrev WIN_STATE : Nat := obj 0x201 0x06
/-- {201.07} WIN_MAP_CHECK. -/
abbrev WIN_MAP_CHECK : Nat := obj 0x201 0x07
/-- {201.08} WIN_MAP_WINDOWS. -/
abbrev WIN_MAP_WINDOWS : Nat := obj 0x201 0x08
/-- {202.01+j} PUBMAP_ENTRY. -/
abbrev PUBMAP_ENTRY (j : Nat) : Nat := obj 0x202 (0x01 + j)
/-- {203.01+j} SUBMAP_ENTRY. -/
abbrev SUBMAP_ENTRY (j : Nat) : Nat := obj 0x203 (0x01 + j)
/-- {204.01+j} GROUPS_ENTRY. -/
abbrev GROUPS_ENTRY (j : Nat) : Nat := obj 0x204 (0x01 + j)
/-- {205.01} FORCE_OFFSET. -/
abbrev FORCE_OFFSET : Nat := obj 0x205 0x01
/-- {205.02} FORCE_VALUE. -/
abbrev FORCE_VALUE : Nat := obj 0x205 0x02
/-- {205.03} FORCE_COMMAND. -/
abbrev FORCE_COMMAND : Nat := obj 0x205 0x03
/-- {205.04} FORCED_COUNT. -/
abbrev FORCED_COUNT : Nat := obj 0x205 0x04
/-- {207.01+j} IMPORTS_ENTRY. -/
abbrev IMPORTS_ENTRY (j : Nat) : Nat := obj 0x207 (0x01 + j)
/-- {208.01} IMGCNT_FRAMES_PUBLISHED. -/
abbrev IMGCNT_FRAMES_PUBLISHED : Nat := obj 0x208 0x01
/-- {208.02} IMGCNT_WORDS_PUBLISHED. -/
abbrev IMGCNT_WORDS_PUBLISHED : Nat := obj 0x208 0x02
/-- {208.03} IMGCNT_FRAMES_RECEIVED. -/
abbrev IMGCNT_FRAMES_RECEIVED : Nat := obj 0x208 0x03
/-- {208.04} IMGCNT_UNMAPPED_FRAMES. -/
abbrev IMGCNT_UNMAPPED_FRAMES : Nat := obj 0x208 0x04
/-- {208.05} IMGCNT_RUN_RANGE_ERR. -/
abbrev IMGCNT_RUN_RANGE_ERR : Nat := obj 0x208 0x05
/-- {208.06} IMGCNT_INCOMPLETE_TURNS. -/
abbrev IMGCNT_INCOMPLETE_TURNS : Nat := obj 0x208 0x06
/-- {208.07} IMGCNT_AUTH_FAIL. -/
abbrev IMGCNT_AUTH_FAIL : Nat := obj 0x208 0x07
/-- {208.08} IMGCNT_TAKEOVER_DUP. -/
abbrev IMGCNT_TAKEOVER_DUP : Nat := obj 0x208 0x08
/-- {208.09} IMGCNT_WORDS_APPLIED. -/
abbrev IMGCNT_WORDS_APPLIED : Nat := obj 0x208 0x09
/-- {208.0A} IMGCNT_WRITE_REJECTS. -/
abbrev IMGCNT_WRITE_REJECTS : Nat := obj 0x208 0x0A
/-- {208.0B} IMGCNT_WRITES_DEFERRED. -/
abbrev IMGCNT_WRITES_DEFERRED : Nat := obj 0x208 0x0B
/-- {208.0C} IMGCNT_SHED_TURNS. -/
abbrev IMGCNT_SHED_TURNS : Nat := obj 0x208 0x0C
/-- {208.0D} IMGCNT_BAR2_WRITES. -/
abbrev IMGCNT_BAR2_WRITES : Nat := obj 0x208 0x0D
/-- {208.0E} IMGCNT_FORMAT_UNKNOWN. -/
abbrev IMGCNT_FORMAT_UNKNOWN : Nat := obj 0x208 0x0E
/-- {210.00} MIRROR. -/
abbrev MIRROR : Nat := obj 0x210 0x00
/-- {211.00} MIRROR_SNAPSHOT. -/
abbrev MIRROR_SNAPSHOT : Nat := obj 0x211 0x00
/-- {2C0.01} TIME_ROLE. -/
abbrev TIME_ROLE : Nat := obj 0x2C0 0x01
/-- {2C0.02} TIME_PRIORITY. -/
abbrev TIME_PRIORITY : Nat := obj 0x2C0 0x02
/-- {2C0.03} TIME_SYNC_EXP. -/
abbrev TIME_SYNC_EXP : Nat := obj 0x2C0 0x03
/-- {2C0.04} TIME_STEP_THRESHOLD. -/
abbrev TIME_STEP_THRESHOLD : Nat := obj 0x2C0 0x04
/-- {2C0.05} TIME_STEP_AUTO. -/
abbrev TIME_STEP_AUTO : Nat := obj 0x2C0 0x05
/-- {2C0.06} TIME_HOLDOVER_LIMIT. -/
abbrev TIME_HOLDOVER_LIMIT : Nat := obj 0x2C0 0x06
/-- {2C0.07} TIME_UTC_OFFSET. -/
abbrev TIME_UTC_OFFSET : Nat := obj 0x2C0 0x07
/-- {2C0.08} TIME_STEP_ACCEPT. -/
abbrev TIME_STEP_ACCEPT : Nat := obj 0x2C0 0x08
/-- {2C0.09} TIME_SET_TIME. -/
abbrev TIME_SET_TIME : Nat := obj 0x2C0 0x09
/-- {2C1.01} TSTAT_TIME_STATE. -/
abbrev TSTAT_TIME_STATE : Nat := obj 0x2C1 0x01
/-- {2C1.02} TSTAT_FTIME_NOW. -/
abbrev TSTAT_FTIME_NOW : Nat := obj 0x2C1 0x02
/-- {2C1.03} TSTAT_LMC_NOW. -/
abbrev TSTAT_LMC_NOW : Nat := obj 0x2C1 0x03
/-- {2C1.04} TSTAT_OFFSET. -/
abbrev TSTAT_OFFSET : Nat := obj 0x2C1 0x04
/-- {2C1.05} TSTAT_RATE_ADJ. -/
abbrev TSTAT_RATE_ADJ : Nat := obj 0x2C1 0x05
/-- {2C1.06} TSTAT_MASTER_SERIAL. -/
abbrev TSTAT_MASTER_SERIAL : Nat := obj 0x2C1 0x06
/-- {2C1.07} TSTAT_MASTER_CLASS. -/
abbrev TSTAT_MASTER_CLASS : Nat := obj 0x2C1 0x07
/-- {2C1.08} TSTAT_MASTER_CROSSINGS. -/
abbrev TSTAT_MASTER_CROSSINGS : Nat := obj 0x2C1 0x08
/-- {2C1.09} TSTAT_STEPS_REFUSED. -/
abbrev TSTAT_STEPS_REFUSED : Nat := obj 0x2C1 0x09
/-- {2C1.0A} TSTAT_STEPS_TAKEN. -/
abbrev TSTAT_STEPS_TAKEN : Nat := obj 0x2C1 0x0A
/-- {2C1.0B} TSTAT_SYNCS_RECEIVED. -/
abbrev TSTAT_SYNCS_RECEIVED : Nat := obj 0x2C1 0x0B
/-- {2C1.0C} TSTAT_SYNCS_FOREIGN. -/
abbrev TSTAT_SYNCS_FOREIGN : Nat := obj 0x2C1 0x0C
/-- {2C1.0D} TSTAT_LAST_STEP. -/
abbrev TSTAT_LAST_STEP : Nat := obj 0x2C1 0x0D
/-- {2C4+u.01} PTIME_TX_CONST. -/
abbrev PTIME_TX_CONST (u : Nat) : Nat := obj (0x2C4 + u) 0x01
/-- {2C4+u.02} PTIME_RX_CONST. -/
abbrev PTIME_RX_CONST (u : Nat) : Nat := obj (0x2C4 + u) 0x02
/-- {2C4+u.03} PTIME_TX_TRIM. -/
abbrev PTIME_TX_TRIM (u : Nat) : Nat := obj (0x2C4 + u) 0x03
/-- {2C4+u.04} PTIME_RX_TRIM. -/
abbrev PTIME_RX_TRIM (u : Nat) : Nat := obj (0x2C4 + u) 0x04
/-- {2C4+u.05} PTIME_ASYMMETRY. -/
abbrev PTIME_ASYMMETRY (u : Nat) : Nat := obj (0x2C4 + u) 0x05
/-- {2C4+u.06} PTIME_LINK_DELAY. -/
abbrev PTIME_LINK_DELAY (u : Nat) : Nat := obj (0x2C4 + u) 0x06
/-- {2C4+u.07} PTIME_PDELAY_FAILS. -/
abbrev PTIME_PDELAY_FAILS (u : Nat) : Nat := obj (0x2C4 + u) 0x07
/-- {2D0.01} PTP_PORT_MASK. -/
abbrev PTP_PORT_MASK : Nat := obj 0x2D0 0x01
/-- {2D0.02} PTP_DOMAIN. -/
abbrev PTP_DOMAIN : Nat := obj 0x2D0 0x02
/-- {2D0.03} PTP_MAPPING. -/
abbrev PTP_MAPPING : Nat := obj 0x2D0 0x03
/-- {2D0.04} PTP_DELAY_MECH. -/
abbrev PTP_DELAY_MECH : Nat := obj 0x2D0 0x04
/-- {2D0.05} PTP_STEP_MODE. -/
abbrev PTP_STEP_MODE : Nat := obj 0x2D0 0x05
/-- {2D0.06} PTP_CLOCK_KIND. -/
abbrev PTP_CLOCK_KIND : Nat := obj 0x2D0 0x06
/-- {2D0.07} PTP_PRIORITY1. -/
abbrev PTP_PRIORITY1 : Nat := obj 0x2D0 0x07
/-- {2D0.08} PTP_PRIORITY2. -/
abbrev PTP_PRIORITY2 : Nat := obj 0x2D0 0x08
/-- {2D0.09} PTP_LOG_SYNC. -/
abbrev PTP_LOG_SYNC : Nat := obj 0x2D0 0x09
/-- {2D0.0A} PTP_LOG_ANNOUNCE. -/
abbrev PTP_LOG_ANNOUNCE : Nat := obj 0x2D0 0x0A
/-- {2D0.0B} PTP_PORT_STATES. -/
abbrev PTP_PORT_STATES : Nat := obj 0x2D0 0x0B
/-- {2D0.0C} PTP_GM_IDENTITY. -/
abbrev PTP_GM_IDENTITY : Nat := obj 0x2D0 0x0C
/-- {2E0+u.01} CAP_DL_RISE. -/
abbrev CAP_DL_RISE (u : Nat) : Nat := obj (0x2E0 + u) 0x01
/-- {2E0+u.02} CAP_DL_FALL. -/
abbrev CAP_DL_FALL (u : Nat) : Nat := obj (0x2E0 + u) 0x02
/-- {2E0+u.03} CAP_PX_RISE. -/
abbrev CAP_PX_RISE (u : Nat) : Nat := obj (0x2E0 + u) 0x03
/-- {2E0+u.04} CAP_PX_FALL. -/
abbrev CAP_PX_FALL (u : Nat) : Nat := obj (0x2E0 + u) 0x04
/-- {2E0+u.05} CAP_ENTRIES. -/
abbrev CAP_ENTRIES (u : Nat) : Nat := obj (0x2E0 + u) 0x05
/-- {2E0+u.06} CAP_OVERRUNS. -/
abbrev CAP_OVERRUNS (u : Nat) : Nat := obj (0x2E0 + u) 0x06
/-- {2E0+u.07} CAP_FLUSH. -/
abbrev CAP_FLUSH (u : Nat) : Nat := obj (0x2E0 + u) 0x07
/-- {310+u.01+j} PQ_QCONFIG. -/
abbrev PQ_QCONFIG (u j : Nat) : Nat := obj (0x310 + u) (0x01 + j)
/-- {310+u.19} PQ_QCONFIG_CAPTURE. -/
abbrev PQ_QCONFIG_CAPTURE (u : Nat) : Nat := obj (0x310 + u) 0x19
/-- {310+u.1A} PQ_FREE_UNITS. -/
abbrev PQ_FREE_UNITS (u : Nat) : Nat := obj (0x310 + u) 0x1A
/-- {320+u.01+j} PQS_QSTATUS. -/
abbrev PQS_QSTATUS (u j : Nat) : Nat := obj (0x320 + u) (0x01 + j)
/-- {330+u.01+j} PQC_COUNTS. -/
abbrev PQC_COUNTS (u j : Nat) : Nat := obj (0x330 + u) (0x01 + j)
/-- {340+u.01+j} PQX_QCOMMAND. -/
abbrev PQX_QCOMMAND (u j : Nat) : Nat := obj (0x340 + u) (0x01 + j)
/-- {350+u.01} PANDL_IN_PACKED. -/
abbrev PANDL_IN_PACKED (u : Nat) : Nat := obj (0x350 + u) 0x01
/-- {350+u.02} PANDL_OUT_PACKED. -/
abbrev PANDL_OUT_PACKED (u : Nat) : Nat := obj (0x350 + u) 0x02
/-- {350+u.03} PANDL_LOAD_SUM_MA. -/
abbrev PANDL_LOAD_SUM_MA (u : Nat) : Nat := obj (0x350 + u) 0x03
/-- {400+u.01} DL_MODE. -/
abbrev DL_MODE (u : Nat) : Nat := obj (0x400 + u) 0x01
/-- {400+u.02} DL_DEBOUNCE. -/
abbrev DL_DEBOUNCE (u : Nat) : Nat := obj (0x400 + u) 0x02
/-- {400+u.03} DL_SAFE_STATE. -/
abbrev DL_SAFE_STATE (u : Nat) : Nat := obj (0x400 + u) 0x03
/-- {400+u.04} DL_SHARED. -/
abbrev DL_SHARED (u : Nat) : Nat := obj (0x400 + u) 0x04
/-- {400+u.05} DL_WIRE_CHECK. -/
abbrev DL_WIRE_CHECK (u : Nat) : Nat := obj (0x400 + u) 0x05
/-- {400+u.06} DL_COUNT_EDGES. -/
abbrev DL_COUNT_EDGES (u : Nat) : Nat := obj (0x400 + u) 0x06
/-- {400+u.07} DL_LOAD_MA. -/
abbrev DL_LOAD_MA (u : Nat) : Nat := obj (0x400 + u) 0x07
/-- {400+u.08} DL_LIMIT_TIME. -/
abbrev DL_LIMIT_TIME (u : Nat) : Nat := obj (0x400 + u) 0x08
/-- {400+u.09} DL_RETRIES. -/
abbrev DL_RETRIES (u : Nat) : Nat := obj (0x400 + u) 0x09
/-- {400+u.0A} DL_WAKE_ENABLE. -/
abbrev DL_WAKE_ENABLE (u : Nat) : Nat := obj (0x400 + u) 0x0A
/-- {400+u.0B} DL_FEED_FUSE. -/
abbrev DL_FEED_FUSE (u : Nat) : Nat := obj (0x400 + u) 0x0B
/-- {400+u.0C} DL_CAL_MODE. -/
abbrev DL_CAL_MODE (u : Nat) : Nat := obj (0x400 + u) 0x0C
/-- {400+u.0D} DL_OUT_DELAY_RISE. -/
abbrev DL_OUT_DELAY_RISE (u : Nat) : Nat := obj (0x400 + u) 0x0D
/-- {400+u.0E} DL_OUT_DELAY_FALL. -/
abbrev DL_OUT_DELAY_FALL (u : Nat) : Nat := obj (0x400 + u) 0x0E
/-- {400+u.0F} DL_IN_DELAY. -/
abbrev DL_IN_DELAY (u : Nat) : Nat := obj (0x400 + u) 0x0F
/-- {400+u.10} DL_STATE. -/
abbrev DL_STATE (u : Nat) : Nat := obj (0x400 + u) 0x10
/-- {400+u.11} DL_COUNT. -/
abbrev DL_COUNT (u : Nat) : Nat := obj (0x400 + u) 0x11
/-- {400+u.12} DL_COMMAND. -/
abbrev DL_COMMAND (u : Nat) : Nat := obj (0x400 + u) 0x12
/-- {400+u.13} DL_STATUS. -/
abbrev DL_STATUS (u : Nat) : Nat := obj (0x400 + u) 0x13
/-- {400+u.14} DL_CLEAR. -/
abbrev DL_CLEAR (u : Nat) : Nat := obj (0x400 + u) 0x14
/-- {400+u.15} DL_CAL_STATE. -/
abbrev DL_CAL_STATE (u : Nat) : Nat := obj (0x400 + u) 0x15
/-- {400+u.16} DL_EDGES. -/
abbrev DL_EDGES (u : Nat) : Nat := obj (0x400 + u) 0x16
/-- {500+u.01} CAN_ENABLE. -/
abbrev CAN_ENABLE (u : Nat) : Nat := obj (0x500 + u) 0x01
/-- {500+u.02} CAN_MODE. -/
abbrev CAN_MODE (u : Nat) : Nat := obj (0x500 + u) 0x02
/-- {500+u.03} CAN_NBRP. -/
abbrev CAN_NBRP (u : Nat) : Nat := obj (0x500 + u) 0x03
/-- {500+u.04} CAN_NTSEG1. -/
abbrev CAN_NTSEG1 (u : Nat) : Nat := obj (0x500 + u) 0x04
/-- {500+u.05} CAN_NTSEG2. -/
abbrev CAN_NTSEG2 (u : Nat) : Nat := obj (0x500 + u) 0x05
/-- {500+u.06} CAN_NSJW. -/
abbrev CAN_NSJW (u : Nat) : Nat := obj (0x500 + u) 0x06
/-- {500+u.07} CAN_DBRP. -/
abbrev CAN_DBRP (u : Nat) : Nat := obj (0x500 + u) 0x07
/-- {500+u.08} CAN_DTSEG1. -/
abbrev CAN_DTSEG1 (u : Nat) : Nat := obj (0x500 + u) 0x08
/-- {500+u.09} CAN_DTSEG2. -/
abbrev CAN_DTSEG2 (u : Nat) : Nat := obj (0x500 + u) 0x09
/-- {500+u.0A} CAN_DSJW. -/
abbrev CAN_DSJW (u : Nat) : Nat := obj (0x500 + u) 0x0A
/-- {500+u.0B} CAN_FD_MODE. -/
abbrev CAN_FD_MODE (u : Nat) : Nat := obj (0x500 + u) 0x0B
/-- {500+u.0C} CAN_TDC_MODE. -/
abbrev CAN_TDC_MODE (u : Nat) : Nat := obj (0x500 + u) 0x0C
/-- {500+u.0D} CAN_TDCO. -/
abbrev CAN_TDCO (u : Nat) : Nat := obj (0x500 + u) 0x0D
/-- {500+u.0E} CAN_RETRY_LIMIT. -/
abbrev CAN_RETRY_LIMIT (u : Nat) : Nat := obj (0x500 + u) 0x0E
/-- {500+u.0F} CAN_BUSOFF_AUTO. -/
abbrev CAN_BUSOFF_AUTO (u : Nat) : Nat := obj (0x500 + u) 0x0F
/-- {500+u.10} CAN_ALONE_HOLD. -/
abbrev CAN_ALONE_HOLD (u : Nat) : Nat := obj (0x500 + u) 0x10
/-- {500+u.11} CAN_NOMATCH. -/
abbrev CAN_NOMATCH (u : Nat) : Nat := obj (0x500 + u) 0x11
/-- {500+u.12} CAN_DOMINANT_DUTY. -/
abbrev CAN_DOMINANT_DUTY (u : Nat) : Nat := obj (0x500 + u) 0x12
/-- {500+u.13} CAN_ERROR_STATE. -/
abbrev CAN_ERROR_STATE (u : Nat) : Nat := obj (0x500 + u) 0x13
/-- {500+u.14} CAN_TEC. -/
abbrev CAN_TEC (u : Nat) : Nat := obj (0x500 + u) 0x14
/-- {500+u.15} CAN_REC. -/
abbrev CAN_REC (u : Nat) : Nat := obj (0x500 + u) 0x15
/-- {500+u.16} CAN_TDCV. -/
abbrev CAN_TDCV (u : Nat) : Nat := obj (0x500 + u) 0x16
/-- {500+u.17} CAN_BUS_STATE. -/
abbrev CAN_BUS_STATE (u : Nat) : Nat := obj (0x500 + u) 0x17
/-- {500+u.18} CAN_MB_HOLD. -/
abbrev CAN_MB_HOLD (u : Nat) : Nat := obj (0x500 + u) 0x18
/-- {500+u.19} CAN_CONTROL. -/
abbrev CAN_CONTROL (u : Nat) : Nat := obj (0x500 + u) 0x19
/-- {500+u.1A} CAN_RX_FRAMES. -/
abbrev CAN_RX_FRAMES (u : Nat) : Nat := obj (0x500 + u) 0x1A
/-- {500+u.1B} CAN_TX_FRAMES. -/
abbrev CAN_TX_FRAMES (u : Nat) : Nat := obj (0x500 + u) 0x1B
/-- {500+u.1C} CAN_BUS_ERRORS. -/
abbrev CAN_BUS_ERRORS (u : Nat) : Nat := obj (0x500 + u) 0x1C
/-- {500+u.1D} CAN_ARB_LOST. -/
abbrev CAN_ARB_LOST (u : Nat) : Nat := obj (0x500 + u) 0x1D
/-- {500+u.1E} CAN_TX_FAILED. -/
abbrev CAN_TX_FAILED (u : Nat) : Nat := obj (0x500 + u) 0x1E
/-- {500+u.1F} CAN_BUS_OFFS. -/
abbrev CAN_BUS_OFFS (u : Nat) : Nat := obj (0x500 + u) 0x1F
/-- {500+u.20+j} CAN_MB_CFG. -/
abbrev CAN_MB_CFG (u j : Nat) : Nat := obj (0x500 + u) (0x20 + 5 * j)
/-- {500+u.21+j} CAN_MB_INFO. -/
abbrev CAN_MB_INFO (u j : Nat) : Nat := obj (0x500 + u) (0x21 + 5 * j)
/-- {500+u.22+j} CAN_MB_TIME. -/
abbrev CAN_MB_TIME (u j : Nat) : Nat := obj (0x500 + u) (0x22 + 5 * j)
/-- {500+u.23+j} CAN_MB_DATA. -/
abbrev CAN_MB_DATA (u j : Nat) : Nat := obj (0x500 + u) (0x23 + 5 * j)
/-- {500+u.24+j} CAN_MB_VALUE. -/
abbrev CAN_MB_VALUE (u j : Nat) : Nat := obj (0x500 + u) (0x24 + 5 * j)
/-- {500+u.70+j} CAN_FILTER. -/
abbrev CAN_FILTER (u j : Nat) : Nat := obj (0x500 + u) (0x70 + j)
/-- {500+u.B0} CAN_TDC_RANGE. -/
abbrev CAN_TDC_RANGE (u : Nat) : Nat := obj (0x500 + u) 0xB0
/-- {500+u.B1} CAN_DOMINANT_TIMEOUTS. -/
abbrev CAN_DOMINANT_TIMEOUTS (u : Nat) : Nat := obj (0x500 + u) 0xB1
/-- {520+u.01} RS_ENABLE. -/
abbrev RS_ENABLE (u : Nat) : Nat := obj (0x520 + u) 0x01
/-- {520+u.02} RS_BAUD. -/
abbrev RS_BAUD (u : Nat) : Nat := obj (0x520 + u) 0x02
/-- {520+u.03} RS_DATA_BITS. -/
abbrev RS_DATA_BITS (u : Nat) : Nat := obj (0x520 + u) 0x03
/-- {520+u.04} RS_PARITY. -/
abbrev RS_PARITY (u : Nat) : Nat := obj (0x520 + u) 0x04
/-- {520+u.05} RS_STOP_BITS. -/
abbrev RS_STOP_BITS (u : Nat) : Nat := obj (0x520 + u) 0x05
/-- {520+u.06} RS_END_MODE. -/
abbrev RS_END_MODE (u : Nat) : Nat := obj (0x520 + u) 0x06
/-- {520+u.07} RS_GAP_HALF. -/
abbrev RS_GAP_HALF (u : Nat) : Nat := obj (0x520 + u) 0x07
/-- {520+u.08} RS_END_CHAR. -/
abbrev RS_END_CHAR (u : Nat) : Nat := obj (0x520 + u) 0x08
/-- {520+u.09} RS_LENGTH. -/
abbrev RS_LENGTH (u : Nat) : Nat := obj (0x520 + u) 0x09
/-- {520+u.0A} RS_MAX_LEN. -/
abbrev RS_MAX_LEN (u : Nat) : Nat := obj (0x520 + u) 0x0A
/-- {520+u.0B} RS_DE_LEAD. -/
abbrev RS_DE_LEAD (u : Nat) : Nat := obj (0x520 + u) 0x0B
/-- {520+u.0C} RS_DE_LAG. -/
abbrev RS_DE_LAG (u : Nat) : Nat := obj (0x520 + u) 0x0C
/-- {520+u.0D} RS_TX_HOLDOFF. -/
abbrev RS_TX_HOLDOFF (u : Nat) : Nat := obj (0x520 + u) 0x0D
/-- {520+u.0E} RS_TERM. -/
abbrev RS_TERM (u : Nat) : Nat := obj (0x520 + u) 0x0E
/-- {520+u.0F} RS_BIAS. -/
abbrev RS_BIAS (u : Nat) : Nat := obj (0x520 + u) 0x0F
/-- {520+u.10} RS_LOCAL_ECHO. -/
abbrev RS_LOCAL_ECHO (u : Nat) : Nat := obj (0x520 + u) 0x10
/-- {520+u.11} RS_DUPLEX. -/
abbrev RS_DUPLEX (u : Nat) : Nat := obj (0x520 + u) 0x11
/-- {520+u.12} RS_BREAK_BITS. -/
abbrev RS_BREAK_BITS (u : Nat) : Nat := obj (0x520 + u) 0x12
/-- {520+u.13} RS_END_WHISK. -/
abbrev RS_END_WHISK (u : Nat) : Nat := obj (0x520 + u) 0x13
/-- {520+u.14} RS_DUTY. -/
abbrev RS_DUTY (u : Nat) : Nat := obj (0x520 + u) 0x14
/-- {520+u.15} RS_SHARED. -/
abbrev RS_SHARED (u : Nat) : Nat := obj (0x520 + u) 0x15
/-- {520+u.16} RS_BAUD_ACTUAL. -/
abbrev RS_BAUD_ACTUAL (u : Nat) : Nat := obj (0x520 + u) 0x16
/-- {520+u.17} RS_LINE_STATE. -/
abbrev RS_LINE_STATE (u : Nat) : Nat := obj (0x520 + u) 0x17
/-- {520+u.18} RS_STATUS. -/
abbrev RS_STATUS (u : Nat) : Nat := obj (0x520 + u) 0x18
/-- {520+u.19} RS_RX_PACKETS. -/
abbrev RS_RX_PACKETS (u : Nat) : Nat := obj (0x520 + u) 0x19
/-- {520+u.1A} RS_TX_PACKETS. -/
abbrev RS_TX_PACKETS (u : Nat) : Nat := obj (0x520 + u) 0x1A
/-- {520+u.1B} RS_CHAR_ERRORS. -/
abbrev RS_CHAR_ERRORS (u : Nat) : Nat := obj (0x520 + u) 0x1B
/-- {520+u.1C} RS_CONTENTIONS. -/
abbrev RS_CONTENTIONS (u : Nat) : Nat := obj (0x520 + u) 0x1C
/-- {560+u.01} IOL_MODE. -/
abbrev IOL_MODE (u : Nat) : Nat := obj (0x560 + u) 0x01
/-- {560+u.02} IOL_CYCLE_US. -/
abbrev IOL_CYCLE_US (u : Nat) : Nat := obj (0x560 + u) 0x02
/-- {560+u.03} IOL_PHASE_US. -/
abbrev IOL_PHASE_US (u : Nat) : Nat := obj (0x560 + u) 0x03
/-- {560+u.04} IOL_VALIDATION. -/
abbrev IOL_VALIDATION (u : Nat) : Nat := obj (0x560 + u) 0x04
/-- {560+u.05} IOL_VENDOR_ID. -/
abbrev IOL_VENDOR_ID (u : Nat) : Nat := obj (0x560 + u) 0x05
/-- {560+u.06} IOL_DEVICE_ID. -/
abbrev IOL_DEVICE_ID (u : Nat) : Nat := obj (0x560 + u) 0x06
/-- {560+u.07} IOL_SERIAL. -/
abbrev IOL_SERIAL (u : Nat) : Nat := obj (0x560 + u) 0x07
/-- {560+u.08} IOL_DS_MODE. -/
abbrev IOL_DS_MODE (u : Nat) : Nat := obj (0x560 + u) 0x08
/-- {560+u.09} IOL_DO_DRIVE. -/
abbrev IOL_DO_DRIVE (u : Nat) : Nat := obj (0x560 + u) 0x09
/-- {560+u.0A} IOL_DEBOUNCE. -/
abbrev IOL_DEBOUNCE (u : Nat) : Nat := obj (0x560 + u) 0x0A
/-- {560+u.0B} IOL_SAFE_MODE. -/
abbrev IOL_SAFE_MODE (u : Nat) : Nat := obj (0x560 + u) 0x0B
/-- {560+u.0C} IOL_SAFE_PD. -/
abbrev IOL_SAFE_PD (u : Nat) : Nat := obj (0x560 + u) 0x0C
/-- {560+u.0D} IOL_CQ_LOAD_MA. -/
abbrev IOL_CQ_LOAD_MA (u : Nat) : Nat := obj (0x560 + u) 0x0D
/-- {560+u.0E} IOL_SHARED. -/
abbrev IOL_SHARED (u : Nat) : Nat := obj (0x560 + u) 0x0E
/-- {560+u.0F} IOL_PORT_STATE. -/
abbrev IOL_PORT_STATE (u : Nat) : Nat := obj (0x560 + u) 0x0F
/-- {560+u.10} IOL_COM_RATE. -/
abbrev IOL_COM_RATE (u : Nat) : Nat := obj (0x560 + u) 0x10
/-- {560+u.11} IOL_CYCLE_ACTUAL. -/
abbrev IOL_CYCLE_ACTUAL (u : Nat) : Nat := obj (0x560 + u) 0x11
/-- {560+u.12} IOL_DEV_VENDOR_ID. -/
abbrev IOL_DEV_VENDOR_ID (u : Nat) : Nat := obj (0x560 + u) 0x12
/-- {560+u.13} IOL_DEV_DEVICE_ID. -/
abbrev IOL_DEV_DEVICE_ID (u : Nat) : Nat := obj (0x560 + u) 0x13
/-- {560+u.14} IOL_DEV_SERIAL. -/
abbrev IOL_DEV_SERIAL (u : Nat) : Nat := obj (0x560 + u) 0x14
/-- {560+u.15} IOL_DEV_REVISION. -/
abbrev IOL_DEV_REVISION (u : Nat) : Nat := obj (0x560 + u) 0x15
/-- {560+u.16} IOL_PD_IN. -/
abbrev IOL_PD_IN (u : Nat) : Nat := obj (0x560 + u) 0x16
/-- {560+u.17} IOL_PD_IN4. -/
abbrev IOL_PD_IN4 (u : Nat) : Nat := obj (0x560 + u) 0x17
/-- {560+u.18} IOL_PD_OUT. -/
abbrev IOL_PD_OUT (u : Nat) : Nat := obj (0x560 + u) 0x18
/-- {560+u.19} IOL_PD_OUT4. -/
abbrev IOL_PD_OUT4 (u : Nat) : Nat := obj (0x560 + u) 0x19
/-- {560+u.1A} IOL_PD_LENGTHS. -/
abbrev IOL_PD_LENGTHS (u : Nat) : Nat := obj (0x560 + u) 0x1A
/-- {560+u.1B} IOL_ISDU_REQUEST. -/
abbrev IOL_ISDU_REQUEST (u : Nat) : Nat := obj (0x560 + u) 0x1B
/-- {560+u.1C} IOL_ISDU_RESULT. -/
abbrev IOL_ISDU_RESULT (u : Nat) : Nat := obj (0x560 + u) 0x1C
/-- {560+u.1D} IOL_ISDU_DATA. -/
abbrev IOL_ISDU_DATA (u : Nat) : Nat := obj (0x560 + u) 0x1D
/-- {560+u.1E} IOL_PORT_CMD. -/
abbrev IOL_PORT_CMD (u : Nat) : Nat := obj (0x560 + u) 0x1E
/-- {560+u.1F} IOL_DS_STATE. -/
abbrev IOL_DS_STATE (u : Nat) : Nat := obj (0x560 + u) 0x1F
/-- {560+u.20} IOL_DS_IMAGE. -/
abbrev IOL_DS_IMAGE (u : Nat) : Nat := obj (0x560 + u) 0x20
/-- {560+u.21} IOL_STATUS. -/
abbrev IOL_STATUS (u : Nat) : Nat := obj (0x560 + u) 0x21
/-- {560+u.22} IOL_M_SEQ_OK. -/
abbrev IOL_M_SEQ_OK (u : Nat) : Nat := obj (0x560 + u) 0x22
/-- {560+u.23} IOL_M_SEQ_ERR. -/
abbrev IOL_M_SEQ_ERR (u : Nat) : Nat := obj (0x560 + u) 0x23
/-- {560+u.24} IOL_COMM_LOSTS. -/
abbrev IOL_COMM_LOSTS (u : Nat) : Nat := obj (0x560 + u) 0x24
/-- {560+u.25} IOL_EVENTS. -/
abbrev IOL_EVENTS (u : Nat) : Nat := obj (0x560 + u) 0x25
/-- {5A0+u.01} WK_COMMAND. -/
abbrev WK_COMMAND (u : Nat) : Nat := obj (0x5A0 + u) 0x01
/-- {5A0+u.02} WK_STATE. -/
abbrev WK_STATE (u : Nat) : Nat := obj (0x5A0 + u) 0x02
/-- {5A0+u.03} WK_DIVIDER. -/
abbrev WK_DIVIDER (u : Nat) : Nat := obj (0x5A0 + u) 0x03
/-- {5A0+u.04} WK_ROLES. -/
abbrev WK_ROLES (u : Nat) : Nat := obj (0x5A0 + u) 0x04
/-- {5A0+u.05} WK_SHIFT_CFG. -/
abbrev WK_SHIFT_CFG (u : Nat) : Nat := obj (0x5A0 + u) 0x05
/-- {5A0+u.06} WK_STORE_SPLIT. -/
abbrev WK_STORE_SPLIT (u : Nat) : Nat := obj (0x5A0 + u) 0x06
/-- {5A0+u.07} WK_PA_INIT. -/
abbrev WK_PA_INIT (u : Nat) : Nat := obj (0x5A0 + u) 0x07
/-- {5A0+u.08} WK_PB_INIT. -/
abbrev WK_PB_INIT (u : Nat) : Nat := obj (0x5A0 + u) 0x08
/-- {5A0+u.09} WK_IDLE_PATTERN. -/
abbrev WK_IDLE_PATTERN (u : Nat) : Nat := obj (0x5A0 + u) 0x09
/-- {5A0+u.0A} WK_CTA_INIT. -/
abbrev WK_CTA_INIT (u : Nat) : Nat := obj (0x5A0 + u) 0x0A
/-- {5A0+u.0B} WK_CTB_INIT. -/
abbrev WK_CTB_INIT (u : Nat) : Nat := obj (0x5A0 + u) 0x0B
/-- {5A0+u.0C} WK_FLAGS. -/
abbrev WK_FLAGS (u : Nat) : Nat := obj (0x5A0 + u) 0x0C
/-- {5A0+u.0D} WK_PACKET_ITEMS. -/
abbrev WK_PACKET_ITEMS (u : Nat) : Nat := obj (0x5A0 + u) 0x0D
/-- {5A0+u.0E} WK_STALL_LIMIT_MS. -/
abbrev WK_STALL_LIMIT_MS (u : Nat) : Nat := obj (0x5A0 + u) 0x0E
/-- {5A0+u.0F+j} WK_SLOT. -/
abbrev WK_SLOT (u j : Nat) : Nat := obj (0x5A0 + u) (0x0F + j)
/-- {5A0+u.17+j} WK_STEP. -/
abbrev WK_STEP (u j : Nat) : Nat := obj (0x5A0 + u) (0x17 + j)
/-- {5A0+u.37} WK_STEP_NOW. -/
abbrev WK_STEP_NOW (u : Nat) : Nat := obj (0x5A0 + u) 0x37
/-- {5A0+u.38} WK_CTA. -/
abbrev WK_CTA (u : Nat) : Nat := obj (0x5A0 + u) 0x38
/-- {5A0+u.39} WK_CTB. -/
abbrev WK_CTB (u : Nat) : Nat := obj (0x5A0 + u) 0x39
/-- {5A0+u.3A} WK_VALUE_CT. -/
abbrev WK_VALUE_CT (u : Nat) : Nat := obj (0x5A0 + u) 0x3A
/-- {5A0+u.3B} WK_RX_LATEST. -/
abbrev WK_RX_LATEST (u : Nat) : Nat := obj (0x5A0 + u) 0x3B
/-- {5A0+u.3C} WK_PATTERNS. -/
abbrev WK_PATTERNS (u : Nat) : Nat := obj (0x5A0 + u) 0x3C
/-- {5A0+u.3D} WK_PINS_NOW. -/
abbrev WK_PINS_NOW (u : Nat) : Nat := obj (0x5A0 + u) 0x3D
/-- {5A0+u.3E} WK_STEPS. -/
abbrev WK_STEPS (u : Nat) : Nat := obj (0x5A0 + u) 0x3E
/-- {5A0+u.3F} WK_STALLS. -/
abbrev WK_STALLS (u : Nat) : Nat := obj (0x5A0 + u) 0x3F
/-- {5C0+u.01} PX_MODE. -/
abbrev PX_MODE (u : Nat) : Nat := obj (0x5C0 + u) 0x01
/-- {5C0+u.02} PX_PULL. -/
abbrev PX_PULL (u : Nat) : Nat := obj (0x5C0 + u) 0x02
/-- {5C0+u.03} PX_SAFE_STATE. -/
abbrev PX_SAFE_STATE (u : Nat) : Nat := obj (0x5C0 + u) 0x03
/-- {5C0+u.04} PX_COMMAND. -/
abbrev PX_COMMAND (u : Nat) : Nat := obj (0x5C0 + u) 0x04
/-- {5C0+u.05} PX_STATE. -/
abbrev PX_STATE (u : Nat) : Nat := obj (0x5C0 + u) 0x05
/-- {5C0+u.06} PX_EDGES. -/
abbrev PX_EDGES (u : Nat) : Nat := obj (0x5C0 + u) 0x06
/-- {600+u.01} BR_ENABLE. -/
abbrev BR_ENABLE (u : Nat) : Nat := obj (0x600 + u) 0x01
/-- {600+u.02} BR_SHUNT_UOHM. -/
abbrev BR_SHUNT_UOHM (u : Nat) : Nat := obj (0x600 + u) 0x02
/-- {600+u.03} BR_FAST_RATIO. -/
abbrev BR_FAST_RATIO (u : Nat) : Nat := obj (0x600 + u) 0x03
/-- {600+u.04} BR_TAU_MS. -/
abbrev BR_TAU_MS (u : Nat) : Nat := obj (0x600 + u) 0x04
/-- {600+u.05} BR_RAMP. -/
abbrev BR_RAMP (u : Nat) : Nat := obj (0x600 + u) 0x05
/-- {600+u.06} BR_SOA_MS. -/
abbrev BR_SOA_MS (u : Nat) : Nat := obj (0x600 + u) 0x06
/-- {600+u.07} BR_RETRIES. -/
abbrev BR_RETRIES (u : Nat) : Nat := obj (0x600 + u) 0x07
/-- {600+u.08} BR_BACKOFF_MS. -/
abbrev BR_BACKOFF_MS (u : Nat) : Nat := obj (0x600 + u) 0x08
/-- {600+u.09} BR_SAFE_STATE. -/
abbrev BR_SAFE_STATE (u : Nat) : Nat := obj (0x600 + u) 0x09
/-- {600+u.0A} BR_SHARED. -/
abbrev BR_SHARED (u : Nat) : Nat := obj (0x600 + u) 0x0A
/-- {600+u.0B} BR_COMMAND. -/
abbrev BR_COMMAND (u : Nat) : Nat := obj (0x600 + u) 0x0B
/-- {600+u.0C} BR_CLEAR. -/
abbrev BR_CLEAR (u : Nat) : Nat := obj (0x600 + u) 0x0C
/-- {600+u.0D} BR_STATE. -/
abbrev BR_STATE (u : Nat) : Nat := obj (0x600 + u) 0x0D
/-- {600+u.0E} BR_CURRENT. -/
abbrev BR_CURRENT (u : Nat) : Nat := obj (0x600 + u) 0x0E
/-- {600+u.0F} BR_SETPOINT_MA. -/
abbrev BR_SETPOINT_MA (u : Nat) : Nat := obj (0x600 + u) 0x0F
/-- {600+u.10} BR_I2T_PERMILLE. -/
abbrev BR_I2T_PERMILLE (u : Nat) : Nat := obj (0x600 + u) 0x10
/-- {600+u.11} BR_LAST_TRIP. -/
abbrev BR_LAST_TRIP (u : Nat) : Nat := obj (0x600 + u) 0x11
/-- {600+u.12} BR_TRIPS. -/
abbrev BR_TRIPS (u : Nat) : Nat := obj (0x600 + u) 0x12
/-- {640+u.01} LP_MODE. -/
abbrev LP_MODE (u : Nat) : Nat := obj (0x640 + u) 0x01
/-- {640+u.02} LP_LOAD_MA. -/
abbrev LP_LOAD_MA (u : Nat) : Nat := obj (0x640 + u) 0x02
/-- {640+u.03} LP_TRIP_TIME. -/
abbrev LP_TRIP_TIME (u : Nat) : Nat := obj (0x640 + u) 0x03
/-- {640+u.04} LP_RETRIES. -/
abbrev LP_RETRIES (u : Nat) : Nat := obj (0x640 + u) 0x04
/-- {640+u.05} LP_CLEAR. -/
abbrev LP_CLEAR (u : Nat) : Nat := obj (0x640 + u) 0x05
/-- {640+u.06} LP_STATE. -/
abbrev LP_STATE (u : Nat) : Nat := obj (0x640 + u) 0x06
/-- {640+u.07} LP_CURRENT. -/
abbrev LP_CURRENT (u : Nat) : Nat := obj (0x640 + u) 0x07
/-- {640+u.08} LP_TRIPS. -/
abbrev LP_TRIPS (u : Nat) : Nat := obj (0x640 + u) 0x08
/-- {640+u.09} LP_STATUS. -/
abbrev LP_STATUS (u : Nat) : Nat := obj (0x640 + u) 0x09
/-- {680+u.01} EDGE_ENABLE. -/
abbrev EDGE_ENABLE (u : Nat) : Nat := obj (0x680 + u) 0x01
/-- {680+u.02} EDGE_PHY_ADDR. -/
abbrev EDGE_PHY_ADDR (u : Nat) : Nat := obj (0x680 + u) 0x02
/-- {680+u.03} EDGE_SPEED. -/
abbrev EDGE_SPEED (u : Nat) : Nat := obj (0x680 + u) 0x03
/-- {680+u.04} EDGE_MAC_ADDR. -/
abbrev EDGE_MAC_ADDR (u : Nat) : Nat := obj (0x680 + u) 0x04
/-- {680+u.05} EDGE_IPV4_ADDR. -/
abbrev EDGE_IPV4_ADDR (u : Nat) : Nat := obj (0x680 + u) 0x05
/-- {680+u.06} EDGE_LINK. -/
abbrev EDGE_LINK (u : Nat) : Nat := obj (0x680 + u) 0x06
/-- {680+u.07} EDGE_RATE. -/
abbrev EDGE_RATE (u : Nat) : Nat := obj (0x680 + u) 0x07
/-- {680+u.08} EDGE_STATUS. -/
abbrev EDGE_STATUS (u : Nat) : Nat := obj (0x680 + u) 0x08
/-- {680+u.09} EDGE_MDIO_REG. -/
abbrev EDGE_MDIO_REG (u : Nat) : Nat := obj (0x680 + u) 0x09
/-- {680+u.0A} EDGE_MDIO_DATA. -/
abbrev EDGE_MDIO_DATA (u : Nat) : Nat := obj (0x680 + u) 0x0A
/-- {680+u.0B} EDGE_RX_FRAMES. -/
abbrev EDGE_RX_FRAMES (u : Nat) : Nat := obj (0x680 + u) 0x0B
/-- {680+u.0C} EDGE_RX_BYTES. -/
abbrev EDGE_RX_BYTES (u : Nat) : Nat := obj (0x680 + u) 0x0C
/-- {680+u.0D} EDGE_TX_FRAMES. -/
abbrev EDGE_TX_FRAMES (u : Nat) : Nat := obj (0x680 + u) 0x0D
/-- {680+u.0E} EDGE_TX_BYTES. -/
abbrev EDGE_TX_BYTES (u : Nat) : Nat := obj (0x680 + u) 0x0E
/-- {680+u.0F} EDGE_RX_FCS_ERR. -/
abbrev EDGE_RX_FCS_ERR (u : Nat) : Nat := obj (0x680 + u) 0x0F
/-- {680+u.10} EDGE_RX_OVERSIZE. -/
abbrev EDGE_RX_OVERSIZE (u : Nat) : Nat := obj (0x680 + u) 0x10
/-- {680+u.11} EDGE_CONTROL_FRAMES. -/
abbrev EDGE_CONTROL_FRAMES (u : Nat) : Nat := obj (0x680 + u) 0x11
/-- {680+u.12} EDGE_LINK_DOWNS. -/
abbrev EDGE_LINK_DOWNS (u : Nat) : Nat := obj (0x680 + u) 0x12
/-- {680+u.13} EDGE_SYMBOL_ERRORS. -/
abbrev EDGE_SYMBOL_ERRORS (u : Nat) : Nat := obj (0x680 + u) 0x13
/-- {690+u.01} TIMER_ARM_RECORD. -/
abbrev TIMER_ARM_RECORD (u : Nat) : Nat := obj (0x690 + u) 0x01
/-- {690+u.02} TIMER_DISARM. -/
abbrev TIMER_DISARM (u : Nat) : Nat := obj (0x690 + u) 0x02
/-- {690+u.03} TIMER_STATE. -/
abbrev TIMER_STATE (u : Nat) : Nat := obj (0x690 + u) 0x03
/-- {690+u.04} TIMER_NEXT_INSTANT. -/
abbrev TIMER_NEXT_INSTANT (u : Nat) : Nat := obj (0x690 + u) 0x04
/-- {690+u.05} TIMER_FIRED. -/
abbrev TIMER_FIRED (u : Nat) : Nat := obj (0x690 + u) 0x05
/-- {690+u.06} TIMER_LATE. -/
abbrev TIMER_LATE (u : Nat) : Nat := obj (0x690 + u) 0x06
/-- {690+u.07} TIMER_SUPPRESSED. -/
abbrev TIMER_SUPPRESSED (u : Nat) : Nat := obj (0x690 + u) 0x07
/-- {690+u.08} TIMER_SKIPPED. -/
abbrev TIMER_SKIPPED (u : Nat) : Nat := obj (0x690 + u) 0x08
/-- {700.01} SW_SPILL_MIB. -/
abbrev SW_SPILL_MIB : Nat := obj 0x700 0x01
/-- {700.02} SW_SHARED_FREE. -/
abbrev SW_SHARED_FREE : Nat := obj 0x700 0x02
/-- {700.03} SW_RESERVED_CELLS. -/
abbrev SW_RESERVED_CELLS : Nat := obj 0x700 0x03
/-- {700.04} SW_SPILL_PAGES_USED. -/
abbrev SW_SPILL_PAGES_USED : Nat := obj 0x700 0x04
/-- {700.05} SW_SPILL_PAGES_FREE. -/
abbrev SW_SPILL_PAGES_FREE : Nat := obj 0x700 0x05
/-- {700.06} SW_SKILLET_HIGHWATER. -/
abbrev SW_SKILLET_HIGHWATER : Nat := obj 0x700 0x06
/-- {700.07} SW_SAMPLE_SLOTS_FREE. -/
abbrev SW_SAMPLE_SLOTS_FREE : Nat := obj 0x700 0x07
/-- {700.08} SW_COUNTER_CLEAR. -/
abbrev SW_COUNTER_CLEAR : Nat := obj 0x700 0x08
/-- {701.01} SWC_FRAMES_IN. -/
abbrev SWC_FRAMES_IN : Nat := obj 0x701 0x01
/-- {701.02} SWC_COPIES_ADMITTED. -/
abbrev SWC_COPIES_ADMITTED : Nat := obj 0x701 0x02
/-- {701.03} SWC_DROP_PORT_DOWN. -/
abbrev SWC_DROP_PORT_DOWN : Nat := obj 0x701 0x03
/-- {701.04} SWC_DROP_NO_CELLS. -/
abbrev SWC_DROP_NO_CELLS : Nat := obj 0x701 0x04
/-- {701.05} SWC_DROP_QUEUE_LIMIT. -/
abbrev SWC_DROP_QUEUE_LIMIT : Nat := obj 0x701 0x05
/-- {701.06} SWC_DROP_SPILL_FULL. -/
abbrev SWC_DROP_SPILL_FULL : Nat := obj 0x701 0x06
/-- {701.07} SWC_DROP_RED. -/
abbrev SWC_DROP_RED : Nat := obj 0x701 0x07
/-- {701.08} SWC_DROP_NO_ROUTE. -/
abbrev SWC_DROP_NO_ROUTE : Nat := obj 0x701 0x08
/-- {701.09} SWC_DROP_GATE. -/
abbrev SWC_DROP_GATE : Nat := obj 0x701 0x09
/-- {701.0A} SWC_DROP_ECC. -/
abbrev SWC_DROP_ECC : Nat := obj 0x701 0x0A
/-- {701.0B} SWC_FLUSHED_FRAMES. -/
abbrev SWC_FLUSHED_FRAMES : Nat := obj 0x701 0x0B
/-- {701.0C} SWC_FLUSHED_BYTES. -/
abbrev SWC_FLUSHED_BYTES : Nat := obj 0x701 0x0C
/-- {701.0D} SWC_SPILL_PAGES_WRITTEN. -/
abbrev SWC_SPILL_PAGES_WRITTEN : Nat := obj 0x701 0x0D
/-- {701.0E} SWC_SPILL_PAGES_READ. -/
abbrev SWC_SPILL_PAGES_READ : Nat := obj 0x701 0x0E
/-- {701.0F} SWC_SKILLET_ECC_CORRECTED. -/
abbrev SWC_SKILLET_ECC_CORRECTED : Nat := obj 0x701 0x0F
/-- {701.10} SWC_STOCKPOT_ECC_CORRECTED. -/
abbrev SWC_STOCKPOT_ECC_CORRECTED : Nat := obj 0x701 0x10
/-- {701.11} SWC_YELLOW_DEMOTED. -/
abbrev SWC_YELLOW_DEMOTED : Nat := obj 0x701 0x11
/-- {710+u.01+j} SWP_QCFG. -/
abbrev SWP_QCFG (u j : Nat) : Nat := obj (0x710 + u) (0x01 + j)
/-- {710+u.09+j} SWP_QSTATE. -/
abbrev SWP_QSTATE (u j : Nat) : Nat := obj (0x710 + u) (0x09 + j)
/-- {710+u.11+j} SWP_SHAPER. -/
abbrev SWP_SHAPER (u j : Nat) : Nat := obj (0x710 + u) (0x11 + j)
/-- {710+u.19+j} SWP_POLICER. -/
abbrev SWP_POLICER (u j : Nat) : Nat := obj (0x710 + u) (0x19 + j)
/-- {710+u.21} SWP_INGRESS_ROLE. -/
abbrev SWP_INGRESS_ROLE (u : Nat) : Nat := obj (0x710 + u) 0x21
/-- {710+u.22} SWP_DEFAULT_CLASS. -/
abbrev SWP_DEFAULT_CLASS (u : Nat) : Nat := obj (0x710 + u) 0x22
/-- {710+u.23} SWP_STATE. -/
abbrev SWP_STATE (u : Nat) : Nat := obj (0x710 + u) 0x23
/-- {710+u.24} SWP_TX_FRAMES. -/
abbrev SWP_TX_FRAMES (u : Nat) : Nat := obj (0x710 + u) 0x24
/-- {710+u.25} SWP_TX_BYTES. -/
abbrev SWP_TX_BYTES (u : Nat) : Nat := obj (0x710 + u) 0x25
/-- {710+u.26} SWP_RX_FRAMES. -/
abbrev SWP_RX_FRAMES (u : Nat) : Nat := obj (0x710 + u) 0x26
/-- {710+u.27} SWP_DROPS. -/
abbrev SWP_DROPS (u : Nat) : Nat := obj (0x710 + u) 0x27
/-- {710+u.28} SWP_FLUSHES. -/
abbrev SWP_FLUSHES (u : Nat) : Nat := obj (0x710 + u) 0x28
/-- {728+u.01+j} METERS_METER. -/
abbrev METERS_METER (u j : Nat) : Nat := obj (0x728 + u) (0x01 + j)
/-- {730+u.01+j} MCOUNT_COUNT. -/
abbrev MCOUNT_COUNT (u j : Nat) : Nat := obj (0x730 + u) (0x01 + j)
/-- {738+u.01} SMP_ENABLE. -/
abbrev SMP_ENABLE (u : Nat) : Nat := obj (0x738 + u) 0x01
/-- {738+u.02} SMP_SOURCE. -/
abbrev SMP_SOURCE (u : Nat) : Nat := obj (0x738 + u) 0x02
/-- {738+u.03} SMP_N. -/
abbrev SMP_N (u : Nat) : Nat := obj (0x738 + u) 0x03
/-- {738+u.04} SMP_TRUNC. -/
abbrev SMP_TRUNC (u : Nat) : Nat := obj (0x738 + u) 0x04
/-- {738+u.05} SMP_WHICH. -/
abbrev SMP_WHICH (u : Nat) : Nat := obj (0x738 + u) 0x05
/-- {738+u.06} SMP_DEST. -/
abbrev SMP_DEST (u : Nat) : Nat := obj (0x738 + u) 0x06
/-- {738+u.07} SMP_SEEN. -/
abbrev SMP_SEEN (u : Nat) : Nat := obj (0x738 + u) 0x07
/-- {738+u.08} SMP_SAMPLED. -/
abbrev SMP_SAMPLED (u : Nat) : Nat := obj (0x738 + u) 0x08
/-- {738+u.09} SMP_LOST. -/
abbrev SMP_LOST (u : Nat) : Nat := obj (0x738 + u) 0x09
/-- {740+u.01} GATE_ENABLE. -/
abbrev GATE_ENABLE (u : Nat) : Nat := obj (0x740 + u) 0x01
/-- {740+u.02} GATE_ADMIN_BASE. -/
abbrev GATE_ADMIN_BASE (u : Nat) : Nat := obj (0x740 + u) 0x02
/-- {740+u.03} GATE_ADMIN_CYCLE. -/
abbrev GATE_ADMIN_CYCLE (u : Nat) : Nat := obj (0x740 + u) 0x03
/-- {740+u.04} GATE_ADMIN_LENGTH. -/
abbrev GATE_ADMIN_LENGTH (u : Nat) : Nat := obj (0x740 + u) 0x04
/-- {740+u.05} GATE_COMMIT. -/
abbrev GATE_COMMIT (u : Nat) : Nat := obj (0x740 + u) 0x05
/-- {740+u.06} GATE_STATE. -/
abbrev GATE_STATE (u : Nat) : Nat := obj (0x740 + u) 0x06
/-- {740+u.07} GATE_OPER_BASE. -/
abbrev GATE_OPER_BASE (u : Nat) : Nat := obj (0x740 + u) 0x07
/-- {740+u.08} GATE_OPER_CYCLE. -/
abbrev GATE_OPER_CYCLE (u : Nat) : Nat := obj (0x740 + u) 0x08
/-- {740+u.09} GATE_OPER_LENGTH. -/
abbrev GATE_OPER_LENGTH (u : Nat) : Nat := obj (0x740 + u) 0x09
/-- {740+u.0A} GATE_PENDING_AT. -/
abbrev GATE_PENDING_AT (u : Nat) : Nat := obj (0x740 + u) 0x0A
/-- {740+u.0B} GATE_COMMITS. -/
abbrev GATE_COMMITS (u : Nat) : Nat := obj (0x740 + u) 0x0B
/-- {740+u.0C} GATE_TOO_LONG. -/
abbrev GATE_TOO_LONG (u : Nat) : Nat := obj (0x740 + u) 0x0C
/-- {750+u.01+j} GADM_ENTRY. -/
abbrev GADM_ENTRY (u j : Nat) : Nat := obj (0x750 + u) (0x01 + j)
/-- {760+u.01+j} GOPER_ENTRY. -/
abbrev GOPER_ENTRY (u j : Nat) : Nat := obj (0x760 + u) (0x01 + j)
/-- {770+u.01} LADLE_RESERVE_UNITS. -/
abbrev LADLE_RESERVE_UNITS (u : Nat) : Nat := obj (0x770 + u) 0x01
/-- {770+u.02} LADLE_UNMATCHED. -/
abbrev LADLE_UNMATCHED (u : Nat) : Nat := obj (0x770 + u) 0x02
/-- {770+u.03} LADLE_ROUTE_MISS. -/
abbrev LADLE_ROUTE_MISS (u : Nat) : Nat := obj (0x770 + u) 0x03
/-- {770+u.04} LADLE_ROUTE_FRAMES. -/
abbrev LADLE_ROUTE_FRAMES (u : Nat) : Nat := obj (0x770 + u) 0x04
/-- {770+u.05} LADLE_ROUTE_SINK_DROP. -/
abbrev LADLE_ROUTE_SINK_DROP (u : Nat) : Nat := obj (0x770 + u) 0x05
/-- {780+u.01+j} TUNS_CFG. -/
abbrev TUNS_CFG (u j : Nat) : Nat := obj (0x780 + u) (0x01 + j)
/-- {790+u.01+j} TUNS_STATUS. -/
abbrev TUNS_STATUS (u j : Nat) : Nat := obj (0x790 + u) (0x01 + j)
/-- {7A0+u.01+j} TUNS_COUNT. -/
abbrev TUNS_COUNT (u j : Nat) : Nat := obj (0x7A0 + u) (0x01 + j)
/-- {7B0+u.01+j} RTAB_ENTRY. -/
abbrev RTAB_ENTRY (u j : Nat) : Nat := obj (0x7B0 + u) (0x01 + j)
/-- {7E0.01+j} BRIDGES_ENTRY. -/
abbrev BRIDGES_ENTRY (j : Nat) : Nat := obj 0x7E0 (0x01 + j)
/-- {7E1.01+j} BRIDGES_COUNTS. -/
abbrev BRIDGES_COUNTS (j : Nat) : Nat := obj 0x7E1 (0x01 + j)
/-- {7F0.01} GENERATION. -/
abbrev GENERATION : Nat := obj 0x7F0 0x01
/-- {7F0.02} GEN_OLDEST_INSIDE. -/
abbrev GEN_OLDEST_INSIDE : Nat := obj 0x7F0 0x02
/-- {7F0.03} GEN_RETAINED. -/
abbrev GEN_RETAINED : Nat := obj 0x7F0 0x03
/-- {7F8.01} WIDTH_SPLIT_ACCESSES. -/
abbrev WIDTH_SPLIT_ACCESSES : Nat := obj 0x7F8 0x01
/-- {7F8.02} WIDTH_NARROW_WRITES. -/
abbrev WIDTH_NARROW_WRITES : Nat := obj 0x7F8 0x02
/-- {800.01} EVT_PREEMPT_BITS. -/
abbrev EVT_PREEMPT_BITS : Nat := obj 0x800 0x01
/-- {800.02} EVT_REOFFER_MS. -/
abbrev EVT_REOFFER_MS : Nat := obj 0x800 0x02
/-- {800.03} EVT_EVENT_AUTH. -/
abbrev EVT_EVENT_AUTH : Nat := obj 0x800 0x03
/-- {800.04} EVT_FENCE_TIMEOUT_MS. -/
abbrev EVT_FENCE_TIMEOUT_MS : Nat := obj 0x800 0x04
/-- {800.05} EVT_RECORDS_WAITING. -/
abbrev EVT_RECORDS_WAITING : Nat := obj 0x800 0x05
/-- {800.06} EVT_RECORDS_LOST. -/
abbrev EVT_RECORDS_LOST : Nat := obj 0x800 0x06
/-- {800.07} EVT_BAD_COMPLETES. -/
abbrev EVT_BAD_COMPLETES : Nat := obj 0x800 0x07
/-- {800.08} EVT_FORCED_COMPLETES. -/
abbrev EVT_FORCED_COMPLETES : Nat := obj 0x800 0x08
/-- {804+u.01} REM_STATION. -/
abbrev REM_STATION (u : Nat) : Nat := obj (0x804 + u) 0x01
/-- {804+u.02} REM_CLIENT. -/
abbrev REM_CLIENT (u : Nat) : Nat := obj (0x804 + u) 0x02
/-- {804+u.03} REM_ENABLE. -/
abbrev REM_ENABLE (u : Nat) : Nat := obj (0x804 + u) 0x03
/-- {804+u.04} REM_OFFERS. -/
abbrev REM_OFFERS (u : Nat) : Nat := obj (0x804 + u) 0x04
/-- {804+u.05} REM_REOFFERS. -/
abbrev REM_REOFFERS (u : Nat) : Nat := obj (0x804 + u) 0x05
/-- {804+u.06} REM_OUTSTANDING. -/
abbrev REM_OUTSTANDING (u : Nat) : Nat := obj (0x804 + u) 0x06
/-- {80C.00} EVT_REMOTE_COMPLETE. -/
abbrev EVT_REMOTE_COMPLETE : Nat := obj 0x80C 0x00
/-- {810+u.01+j} SRC_SOURCE_CFG. -/
abbrev SRC_SOURCE_CFG (u j : Nat) : Nat := obj (0x810 + u) (0x01 + j)
/-- {818+u.01+j} SRC_SOURCE_STATE. -/
abbrev SRC_SOURCE_STATE (u j : Nat) : Nat := obj (0x818 + u) (0x01 + j)
/-- {860+u.00} SRC_LINE_EVENTS. -/
abbrev SRC_LINE_EVENTS (u : Nat) : Nat := obj (0x860 + u) 0x00
/-- {8A0.01+j} SB_SIDEBAND_PENDING. -/
abbrev SB_SIDEBAND_PENDING (j : Nat) : Nat := obj 0x8A0 (0x01 + j)
/-- {8A1.01+j} SB_SIDEBAND_ACK. -/
abbrev SB_SIDEBAND_ACK (j : Nat) : Nat := obj 0x8A1 (0x01 + j)
/-- {8C0.01} FENCE_ISSUE. -/
abbrev FENCE_ISSUE : Nat := obj 0x8C0 0x01
/-- {8C0.02} FENCE_PENDING. -/
abbrev FENCE_PENDING : Nat := obj 0x8C0 0x02
/-- {8C0.03} FENCE_ISSUED. -/
abbrev FENCE_ISSUED : Nat := obj 0x8C0 0x03
/-- {8C0.04} FENCE_TIMEOUTS. -/
abbrev FENCE_TIMEOUTS : Nat := obj 0x8C0 0x04
/-- {8C1.01+j} FENCE_SLOT. -/
abbrev FENCE_SLOT (j : Nat) : Nat := obj 0x8C1 (0x01 + j)
/-- {8F0.01} EVT_RAISE. -/
abbrev EVT_RAISE : Nat := obj 0x8F0 0x01
/-- {900.01} FLT_CRITICAL_MASK. -/
abbrev FLT_CRITICAL_MASK : Nat := obj 0x900 0x01
/-- {900.02} FLT_CRITICAL_REACTION. -/
abbrev FLT_CRITICAL_REACTION : Nat := obj 0x900 0x02
/-- {900.03} FLT_IN_FAULT_COUNT. -/
abbrev FLT_IN_FAULT_COUNT : Nat := obj 0x900 0x03
/-- {900.04} FLT_QUEUE_DEPTH. -/
abbrev FLT_QUEUE_DEPTH : Nat := obj 0x900 0x04
/-- {900.05} FLT_LOST_RECORDS. -/
abbrev FLT_LOST_RECORDS : Nat := obj 0x900 0x05
/-- {900.06} FLT_STORMS. -/
abbrev FLT_STORMS : Nat := obj 0x900 0x06
/-- {900.07} FLT_IN_FAULT_MAP. -/
abbrev FLT_IN_FAULT_MAP : Nat := obj 0x900 0x07
/-- {904+u.01+j} FLT_FAULT_CFG. -/
abbrev FLT_FAULT_CFG (u j : Nat) : Nat := obj (0x904 + u) (0x01 + j)
/-- {908+u.01+j} FLT_FAULT_STATE. -/
abbrev FLT_FAULT_STATE (u j : Nat) : Nat := obj (0x908 + u) (0x01 + j)
/-- {90C+u.01+j} FLT_FAULT_COMMAND. -/
abbrev FLT_FAULT_COMMAND (u j : Nat) : Nat := obj (0x90C + u) (0x01 + j)
/-- {910+u.01+j} FLT_FAULT_DETAIL. -/
abbrev FLT_FAULT_DETAIL (u j : Nat) : Nat := obj (0x910 + u) (0x01 + j)
/-- {940+u.01+j} POL_RULE. -/
abbrev POL_RULE (u j : Nat) : Nat := obj (0x940 + u) (0x01 + j)
/-- {948+u.01+j} POL_RULE_STATE. -/
abbrev POL_RULE_STATE (u j : Nat) : Nat := obj (0x948 + u) (0x01 + j)
/-- {980.00} POL_GAUGE. -/
abbrev POL_GAUGE : Nat := obj 0x980 0x00
/-- {A00.01} CRU_LOG_NEXT. -/
abbrev CRU_LOG_NEXT : Nat := obj 0xA00 0x01
/-- {A00.02} CRU_SEQUENCE_NEXT. -/
abbrev CRU_SEQUENCE_NEXT : Nat := obj 0xA00 0x02
/-- {A00.03} CRU_BOOT. -/
abbrev CRU_BOOT : Nat := obj 0xA00 0x03
/-- {A00.04} CRU_PINNED_NEXT. -/
abbrev CRU_PINNED_NEXT : Nat := obj 0xA00 0x04
/-- {A00.05} CRU_SNAP_NEXT. -/
abbrev CRU_SNAP_NEXT : Nat := obj 0xA00 0x05
/-- {A00.06} CRU_SNAP_OFFSET. -/
abbrev CRU_SNAP_OFFSET : Nat := obj 0xA00 0x06
/-- {A00.07} CRU_SNAP_LAG. -/
abbrev CRU_SNAP_LAG : Nat := obj 0xA00 0x07
/-- {A00.08} CRU_TRIGGER. -/
abbrev CRU_TRIGGER : Nat := obj 0xA00 0x08
/-- {A00.09} CRU_NESTED_TRIGGERS. -/
abbrev CRU_NESTED_TRIGGERS : Nat := obj 0xA00 0x09
/-- {A00.0A} CRU_COMMITTED. -/
abbrev CRU_COMMITTED : Nat := obj 0xA00 0x0A
/-- {A00.0B} CRU_TORN. -/
abbrev CRU_TORN : Nat := obj 0xA00 0x0B
/-- {A01.00} CRU_LOG. -/
abbrev CRU_LOG : Nat := obj 0xA01 0x00
/-- {A02.00} CRU_PINNED. -/
abbrev CRU_PINNED : Nat := obj 0xA02 0x00
/-- {A03.00} CRU_SNAPSHOTS. -/
abbrev CRU_SNAPSHOTS : Nat := obj 0xA03 0x00
/-- {B00.01} TWIN_MODE. -/
abbrev TWIN_MODE : Nat := obj 0xB00 0x01
/-- {B00.02} TWIN_T_FAIL_US. -/
abbrev TWIN_T_FAIL_US : Nat := obj 0xB00 0x02
/-- {B00.03} TWIN_REVERT. -/
abbrev TWIN_REVERT : Nat := obj 0xB00 0x03
/-- {B00.04} TWIN_REVERT_HOLDOFF. -/
abbrev TWIN_REVERT_HOLDOFF : Nat := obj 0xB00 0x04
/-- {B00.05} TWIN_REVERT_PAUSE. -/
abbrev TWIN_REVERT_PAUSE : Nat := obj 0xB00 0x05
/-- {B00.06} TWIN_HELD_TURNS. -/
abbrev TWIN_HELD_TURNS : Nat := obj 0xB00 0x06
/-- {B00.07} TWIN_HANDOVER_LEAD. -/
abbrev TWIN_HANDOVER_LEAD : Nat := obj 0xB00 0x07
/-- {B00.08} TWIN_HANDOVER_REQUEST. -/
abbrev TWIN_HANDOVER_REQUEST : Nat := obj 0xB00 0x08
/-- {B01.01} TWST_ROLE. -/
abbrev TWST_ROLE : Nat := obj 0xB01 0x01
/-- {B01.02} TWST_READY. -/
abbrev TWST_READY : Nat := obj 0xB01 0x02
/-- {B01.03} TWST_GRADE. -/
abbrev TWST_GRADE : Nat := obj 0xB01 0x03
/-- {B01.04} TWST_PEER_GRADE. -/
abbrev TWST_PEER_GRADE : Nat := obj 0xB01 0x04
/-- {B01.05} TWST_CLAIM_NOW. -/
abbrev TWST_CLAIM_NOW : Nat := obj 0xB01 0x05
/-- {B01.06} TWST_LAST_ROUND. -/
abbrev TWST_LAST_ROUND : Nat := obj 0xB01 0x06
/-- {B01.07} TWST_PATHS. -/
abbrev TWST_PATHS : Nat := obj 0xB01 0x07
/-- {B01.08} TWST_SYNC_STATE. -/
abbrev TWST_SYNC_STATE : Nat := obj 0xB01 0x08
/-- {B01.09} TWST_REVERT_STATE. -/
abbrev TWST_REVERT_STATE : Nat := obj 0xB01 0x09
/-- {B01.0A} TWST_REVERT_REMAINING. -/
abbrev TWST_REVERT_REMAINING : Nat := obj 0xB01 0x0A
/-- {B01.0B} TWST_HANDOVER_AT. -/
abbrev TWST_HANDOVER_AT : Nat := obj 0xB01 0x0B
/-- {B01.0C} TWST_TAKEOVERS. -/
abbrev TWST_TAKEOVERS : Nat := obj 0xB01 0x0C
/-- {B01.0D} TWST_LAST_CAUSE. -/
abbrev TWST_LAST_CAUSE : Nat := obj 0xB01 0x0D
/-- {B01.0E} TWST_PREFERRED. -/
abbrev TWST_PREFERRED : Nat := obj 0xB01 0x0E
/-- {B01.0F} TWST_POSITION. -/
abbrev TWST_POSITION : Nat := obj 0xB01 0x0F
/-- {B01.10} TWST_SELFTEST. -/
abbrev TWST_SELFTEST : Nat := obj 0xB01 0x10
/-- {B02.01} TWC_ROUNDS_VALID. -/
abbrev TWC_ROUNDS_VALID : Nat := obj 0xB02 0x01
/-- {B02.02} TWC_ROUNDS_INVALID. -/
abbrev TWC_ROUNDS_INVALID : Nat := obj 0xB02 0x02
/-- {B02.03} TWC_ROUNDS_HELD. -/
abbrev TWC_ROUNDS_HELD : Nat := obj 0xB02 0x03
/-- {B02.04} TWC_HEARTBEATS_MISSED. -/
abbrev TWC_HEARTBEATS_MISSED : Nat := obj 0xB02 0x04
/-- {B02.05} TWC_SYNC_WRITES. -/
abbrev TWC_SYNC_WRITES : Nat := obj 0xB02 0x05
/-- {B02.06} TWC_RESYNCS. -/
abbrev TWC_RESYNCS : Nat := obj 0xB02 0x06
/-- {C00.01} PWR_PFW_MV. -/
abbrev PWR_PFW_MV : Nat := obj 0xC00 0x01
/-- {C00.02} PWR_PFW_HYST_MV. -/
abbrev PWR_PFW_HYST_MV : Nat := obj 0xC00 0x02
/-- {C00.03} PWR_PFW_MASK. -/
abbrev PWR_PFW_MASK : Nat := obj 0xC00 0x03
/-- {C00.04} PWR_PFW_MIN_MS. -/
abbrev PWR_PFW_MIN_MS : Nat := obj 0xC00 0x04
/-- {C00.05} PWR_CORE_IDLE_US. -/
abbrev PWR_CORE_IDLE_US : Nat := obj 0xC00 0x05
/-- {C00.06} PWR_CORE_GATE_MS. -/
abbrev PWR_CORE_GATE_MS : Nat := obj 0xC00 0x06
/-- {C00.07} PWR_DOZE_IDLE_US. -/
abbrev PWR_DOZE_IDLE_US : Nat := obj 0xC00 0x07
/-- {C00.08} PWR_DARK_IDLE_MS. -/
abbrev PWR_DARK_IDLE_MS : Nat := obj 0xC00 0x08
/-- {C00.09} PWR_HOLD_TIME_MS. -/
abbrev PWR_HOLD_TIME_MS : Nat := obj 0xC00 0x09
/-- {C01.01} PWS_VFIELD_MV. -/
abbrev PWS_VFIELD_MV : Nat := obj 0xC01 0x01
/-- {C01.02} PWS_VFIELD_A_MV. -/
abbrev PWS_VFIELD_A_MV : Nat := obj 0xC01 0x02
/-- {C01.03} PWS_VFIELD_B_MV. -/
abbrev PWS_VFIELD_B_MV : Nat := obj 0xC01 0x03
/-- {C01.04} PWS_V5_MV. -/
abbrev PWS_V5_MV : Nat := obj 0xC01 0x04
/-- {C01.05} PWS_WARNING. -/
abbrev PWS_WARNING : Nat := obj 0xC01 0x05
/-- {C01.06} PWS_CORE_STATE. -/
abbrev PWS_CORE_STATE : Nat := obj 0xC01 0x06
/-- {C01.07} PWS_CORE_WAKES. -/
abbrev PWS_CORE_WAKES : Nat := obj 0xC01 0x07
/-- {C01.08} PWS_FIELD_BUDGET_MW. -/
abbrev PWS_FIELD_BUDGET_MW : Nat := obj 0xC01 0x08
/-- {C01.09} PWS_WARNINGS. -/
abbrev PWS_WARNINGS : Nat := obj 0xC01 0x09
/-- {C01.0A} PWS_TEMPS. -/
abbrev PWS_TEMPS : Nat := obj 0xC01 0x0A
/-- {C10+u.01} PAN_SLEEP_LIMIT. -/
abbrev PAN_SLEEP_LIMIT (u : Nat) : Nat := obj (0xC10 + u) 0x01
/-- {C10+u.02} PAN_POLICY_LIMIT. -/
abbrev PAN_POLICY_LIMIT (u : Nat) : Nat := obj (0xC10 + u) 0x02
/-- {C10+u.03} PAN_STATE. -/
abbrev PAN_STATE (u : Nat) : Nat := obj (0xC10 + u) 0x03
/-- {C10+u.04} PAN_HOLDS. -/
abbrev PAN_HOLDS (u : Nat) : Nat := obj (0xC10 + u) 0x04
/-- {C10+u.05} PAN_WAKES. -/
abbrev PAN_WAKES (u : Nat) : Nat := obj (0xC10 + u) 0x05
/-- {C10+u.06} PAN_ACTIVE_PERMILLE. -/
abbrev PAN_ACTIVE_PERMILLE (u : Nat) : Nat := obj (0xC10 + u) 0x06
/-- {C10+u.07} PAN_DARK_ENTRIES. -/
abbrev PAN_DARK_ENTRIES (u : Nat) : Nat := obj (0xC10 + u) 0x07
/-- {D00.01} LC_STATE. -/
abbrev LC_STATE : Nat := obj 0xD00 0x01
/-- {D00.02} LC_TRANSITION. -/
abbrev LC_TRANSITION : Nat := obj 0xD00 0x02
/-- {D00.03} LC_PENDING_TURN. -/
abbrev LC_PENDING_TURN : Nat := obj 0xD00 0x03
/-- {D01.01} KEY_SLOTS. -/
abbrev KEY_SLOTS : Nat := obj 0xD01 0x01
/-- {D01.02} KEYED. -/
abbrev KEYED : Nat := obj 0xD01 0x02
/-- {D01.03} KEY_EPOCH_ERA. -/
abbrev KEY_EPOCH_ERA : Nat := obj 0xD01 0x03
/-- {D01.04} KEY_EPOCH_NEXT. -/
abbrev KEY_EPOCH_NEXT : Nat := obj 0xD01 0x04
/-- {D01.05} KEY_EPOCH_TURN. -/
abbrev KEY_EPOCH_TURN : Nat := obj 0xD01 0x05
/-- {D01.06} KEY_EPOCH_COMMIT. -/
abbrev KEY_EPOCH_COMMIT : Nat := obj 0xD01 0x06
/-- {D01.07} KEY_EPOCH_AT. -/
abbrev KEY_EPOCH_AT : Nat := obj 0xD01 0x07
/-- {D01.08} KEY_WRITE_AUTH. -/
abbrev KEY_WRITE_AUTH : Nat := obj 0xD01 0x08
/-- {D01.09} KEY_TWIN_AUTH. -/
abbrev KEY_TWIN_AUTH : Nat := obj 0xD01 0x09
/-- {D01.0A} KEY_ZEROISE. -/
abbrev KEY_ZEROISE : Nat := obj 0xD01 0x0A
/-- {D01.0B} KEY_TAG_WAITS. -/
abbrev KEY_TAG_WAITS : Nat := obj 0xD01 0x0B
/-- {D01.0C} KEY_AUTH_FAILS. -/
abbrev KEY_AUTH_FAILS : Nat := obj 0xD01 0x0C
/-- {D01.0D} KEY_EPOCH_DROPS. -/
abbrev KEY_EPOCH_DROPS : Nat := obj 0xD01 0x0D
/-- {D01.0E} KEY_UNKEYED_DROPS. -/
abbrev KEY_UNKEYED_DROPS : Nat := obj 0xD01 0x0E
/-- {D01.0F} KEY_TAG_FLOOR. -/
abbrev KEY_TAG_FLOOR : Nat := obj 0xD01 0x0F
/-- {D02.01} ATT_IDENTITY_PUB. -/
abbrev ATT_IDENTITY_PUB : Nat := obj 0xD02 0x01
/-- {D02.02} ATT_IDENTITY_CERT. -/
abbrev ATT_IDENTITY_CERT : Nat := obj 0xD02 0x02
/-- {D02.03} ATTEST_REQUEST. -/
abbrev ATTEST_REQUEST : Nat := obj 0xD02 0x03
/-- {D02.04} ATT_STATEMENT. -/
abbrev ATT_STATEMENT : Nat := obj 0xD02 0x04
/-- {D02.05} ATT_SIGNATURE. -/
abbrev ATT_SIGNATURE : Nat := obj 0xD02 0x05
/-- {D02.06} ATT_TRANSPORT_PUB. -/
abbrev ATT_TRANSPORT_PUB : Nat := obj 0xD02 0x06
/-- {D03.01} KEY_COUNTERSIGN_KEY. -/
abbrev KEY_COUNTERSIGN_KEY : Nat := obj 0xD03 0x01
/-- {E00.01} UPD_PHASE. -/
abbrev UPD_PHASE : Nat := obj 0xE00 0x01
/-- {E00.02} UPD_COMMAND. -/
abbrev UPD_COMMAND : Nat := obj 0xE00 0x02
/-- {E00.03} UPD_STAGE_LENGTH. -/
abbrev UPD_STAGE_LENGTH : Nat := obj 0xE00 0x03
/-- {E00.04} UPD_STAGED. -/
abbrev UPD_STAGED : Nat := obj 0xE00 0x04
/-- {E00.05} UPD_PROGRESS. -/
abbrev UPD_PROGRESS : Nat := obj 0xE00 0x05
/-- {E00.06} UPD_TRIAL_MIN. -/
abbrev UPD_TRIAL_MIN : Nat := obj 0xE00 0x06
/-- {E00.07} UPD_TRIAL_BOOTS. -/
abbrev UPD_TRIAL_BOOTS : Nat := obj 0xE00 0x07
/-- {E00.08} UPD_TRIAL_LEFT. -/
abbrev UPD_TRIAL_LEFT : Nat := obj 0xE00 0x08
/-- {E00.09} UPD_LAST_CAUSE. -/
abbrev UPD_LAST_CAUSE : Nat := obj 0xE00 0x09
/-- {E00.0A} UPD_STAGED_VERSION. -/
abbrev UPD_STAGED_VERSION : Nat := obj 0xE00 0x0A
/-- {E00.0B} UPD_PREVIOUS_VERSION. -/
abbrev UPD_PREVIOUS_VERSION : Nat := obj 0xE00 0x0B
/-- {E00.0C} UPD_ENTER_RECOVERY. -/
abbrev UPD_ENTER_RECOVERY : Nat := obj 0xE00 0x0C
/-- {E00.0D} UPD_SYNC_SKIPPED. -/
abbrev UPD_SYNC_SKIPPED : Nat := obj 0xE00 0x0D
/-- {E01.00} UPD_STAGING. -/
abbrev UPD_STAGING : Nat := obj 0xE01 0x00
/-- {E80.01} REC_HUB_STATE. -/
abbrev REC_HUB_STATE : Nat := obj 0xE80 0x01
/-- {E80.02} REC_CAUSE. -/
abbrev REC_CAUSE : Nat := obj 0xE80 0x02
/-- {E80.03} REC_SERIAL. -/
abbrev REC_SERIAL : Nat := obj 0xE80 0x03
/-- {E80.04} REC_LOADER_VERSION. -/
abbrev REC_LOADER_VERSION : Nat := obj 0xE80 0x04
/-- {E80.05} REC_LC_STATE. -/
abbrev REC_LC_STATE : Nat := obj 0xE80 0x05
/-- {E80.06} REC_BOOT. -/
abbrev REC_BOOT : Nat := obj 0xE80 0x06
/-- {E80.07} REC_STATION. -/
abbrev REC_STATION : Nat := obj 0xE80 0x07
/-- {E81.00} RECOVERY_IMAGE. -/
abbrev RECOVERY_IMAGE : Nat := obj 0xE81 0x00
/-- {E82.00} RECOVERY_COMMAND. -/
abbrev RECOVERY_COMMAND : Nat := obj 0xE82 0x00
/-- {E83.00} REC_LOG. -/
abbrev REC_LOG : Nat := obj 0xE83 0x00
/-- {E84.00} REC_PINNED. -/
abbrev REC_PINNED : Nat := obj 0xE84 0x00
/-- {E85.00} REC_SNAPSHOTS. -/
abbrev REC_SNAPSHOTS : Nat := obj 0xE85 0x00
/-- {F00.01} PERT_RUNNING. -/
abbrev PERT_RUNNING : Nat := obj 0xF00 0x01
/-- {F00.02} PERT_DEFAULT_S. -/
abbrev PERT_DEFAULT_S : Nat := obj 0xF00 0x02
/-- {F00.03} PERT_STOP_ALL. -/
abbrev PERT_STOP_ALL : Nat := obj 0xF00 0x03
/-- {F10+u.01} PSLOT_RECORD. -/
abbrev PSLOT_RECORD (u : Nat) : Nat := obj (0xF10 + u) 0x01
/-- {F10+u.02} PSLOT_STATE. -/
abbrev PSLOT_STATE (u : Nat) : Nat := obj (0xF10 + u) 0x02
/-- {F10+u.03} PSLOT_REMAINING_MS. -/
abbrev PSLOT_REMAINING_MS (u : Nat) : Nat := obj (0xF10 + u) 0x03
/-- {F10+u.04} PSLOT_APPLIED. -/
abbrev PSLOT_APPLIED (u : Nat) : Nat := obj (0xF10 + u) 0x04

end Sys2Proof.Machine.Key
end

