-- ==== Sys2Proof/Machine/State.lean ====
section
/-! DEFINITION. The state of the hub as plain data: everything the spec gives it, the queue of waiting commands, the
reasons a command can stop, and the state right after reset. Whatever is numbered (dictionary cells, ports, lines,
channels, sources) is a sparse table from its number; an unlisted number reads as that unit's reset value. -/

namespace Sys2Proof.Machine

/-- Why a command stops the model. -/
inductive Fault where
  /-- Raised by REGISTER_WRITE of a host-port offset outside its BAR: the spec gives BAR0 64 KiB and BAR4 1 MiB
  (Table 13.9), so no such address exists. Safe: the model stops where no hub access can take place. -/
  | outsideBar (offset : Nat)
  deriving DecidableEq, Repr

/-- Why a command has no meaning in the model. -/
inductive Refusal where
  /-- Answered by a dispatch arm whose command has no meaning in the model. Safe: the model says nothing of it. -/
  | notModelled (mnemonic : String)
  deriving DecidableEq, Repr

/-- What runs on the logic die (R494, R502, R513). -/
inductive RunMode where
  /-- VDD_AON is absent. -/
  | unpowered
  /-- Held in reset. -/
  | held
  /-- The ROM runs: reset is released, the loader not yet started. -/
  | rom
  /-- The resident loader runs. -/
  | loader
  /-- The firmware runs. -/
  | firmware
  /-- The ROM's recovery mode. -/
  | recovery
  deriving DecidableEq, Repr

/-- The hub states of R347 other than RECOVERY, which `RunMode.recovery` is. -/
inductive HubMode where
  | init | preop | operate | safe | maint
  deriving DecidableEq, Repr

/-- The twin roles of Table 13.3. -/
inductive TwinRole where
  | solo | active | standby
  deriving DecidableEq, Repr

/-- Abort codes of Table 13.6. -/
inductive Abort where
  | noObject | noSubindex | typeMismatch | valueRange | readOnly | writeOnly | roleDenied | stateConflict
  | lifecycleDenied | compatDenied | busy | timeout | timePassed | budgetExceeded | authFail | epochStale
  | transferSequence | transferCrc | hardwareFault | versionUnsupported
  deriving DecidableEq, Repr

/-- The hub-state part of {020.00} and the maintenance session (R347 to R349). -/
structure HubCtl where
  mode : HubMode := .init
  /-- RETURN_STATE of an open maintenance session. -/
  ret : HubMode := .init
  /-- SAFE_CAUSE. -/
  cause : Nat := 0
  /-- An accepted OPERATE request waits for the next apply instant (R348, R119). -/
  opWaits : Bool := false
  /-- The owner of the open maintenance session. -/
  owner : Option Path := none
  /-- LMC of the owner's last transaction. -/
  touched : Nat := 0
  /-- LMC at which an accepted RESET takes place, and its cause. -/
  resetDue : Option (Nat × ResetCause) := none
  /-- No valid parameter copy was found and nothing has lifted PARAMS_LOST yet (R361). -/
  paramsLost : Bool := false
  /-- AUTO_OPERATE has acted since reset (R348). -/
  autoDone : Bool := false
  deriving DecidableEq, Repr

/-- An answer the hub has sent to a request: to whom, about which object, the abort code (none for OK), the data. -/
structure Answer where
  path : Path
  object : Nat
  abort : Option Abort
  data : List Byte := []
  deriving DecidableEq, Repr

/-- One frame waiting or leaving at a fabric port (R58). -/
structure TxEntry where
  frame : Frame
  /-- A transit frame of the Copper path, as opposed to one the hub originated. -/
  transit : Bool := false
  /-- Ends with the stomp mark (R56). -/
  stomp : Bool := false
  /-- The whole frame has been received (always so for an originated frame). -/
  whole : Bool := true
  bytes : Nat := 64
  deriving DecidableEq, Repr

/-- The transmit side of a fabric port: the frame being sent and the frames that wait, oldest first. -/
structure PortTx where
  now : Option TxEntry := none
  waiting : List TxEntry := []
  deriving DecidableEq, Repr

/-- What the Copper path decided at a frame's header, until the frame's end arrives (R54, R56). -/
structure Ingress where
  frame : Frame
  forwarded : Bool := false
  localCopy : Bool := false
  deriving DecidableEq, Repr

/-- The link state of a fabric port beyond its dictionary objects (R36 to R42). Times are LMC in ns. -/
structure LinkSt where
  signal : Bool := false
  /-- Mode of the running attempt: 0 25G-RSFEC, 1 25G-NOFEC, 2 10G. -/
  attempt : Nat := 0
  attemptEnds : Nat := 0
  /-- LMC at which the present state was entered. -/
  since : Nat := 0
  /-- LMC of the last valid LINK_HELLO, and of the last one sent. -/
  heardAt : Option Nat := none
  sentAt : Option Nat := none
  peerMin : Nat := 0
  peerMax : Nat := 0
  /-- Consecutive failures of HELLO (Table 2.3, HOLDOFF). -/
  failures : Nat := 0
  holdoffEnds : Nat := 0
  /-- The running hold-off follows a transmitter fault (Table 2.2). -/
  txFaultHold : Bool := false
  /-- LMC at which the module was first seen; its start-up read is due 300 ms later. -/
  seenAt : Option Nat := none
  startupRead : Bool := false
  unsupported : Bool := false
  /-- Fn_TXDIS pulses given at the end of hold-offs after a transmitter fault. -/
  txdisPulses : Nat := 0
  /-- LMC of the last diagnostics poll. -/
  polledAt : Nat := 0
  deriving DecidableEq, Repr

/-- One duplicate entry (R50): the highest number, the numbers seen among the 4096 up to it, and when last heard. -/
structure DupEntry where
  high : Nat := 0
  seen : List Nat := []
  heardAt : Nat := 0
  foreign : Bool := false
  deriving DecidableEq, Repr

/-- The credit pools of the tie link (R66, R67). -/
structure TieCredit where
  /-- Credits the hub may send with. -/
  tx : Nat := 256
  /-- Cumulative count received from the peer, modulo 65,536. -/
  seenFreed : Nat := 0
  /-- Cumulative count of credits freed here, and the count last returned. -/
  freed : Nat := 0
  returned : Nat := 0
  firstUnreturned : Option Nat := none
  /-- Frames that wait for credit, oldest first, each with the LMC since which it waits and whether it was counted. -/
  held : List (TxEntry × Nat × Bool) := []
  deriving DecidableEq, Repr

/-- The field die (R17 to R19, R519). -/
structure FieldDie where
  powered : Bool := false
  /-- A refresh has arrived since the field die powered up (R519). -/
  refreshed : Bool := false
  /-- LMC of the last refresh. -/
  refreshAt : Nat := 0
  /-- Outputs are held at their last refreshed values for want of refreshes (R18). -/
  holding : Bool := false
  /-- The hold time has run out and the lines are at their safe states (R18). -/
  safe : Bool := false
  /-- The hold time last received over the logic-to-field link; 20 ms until one was. -/
  holdMs : Nat := 20
  /-- Row of Table 15.3 that the claim gate is in: 1 the peer's, 2 held, 3 frozen, 4 unclaimed. -/
  row : Nat := 4
  /-- Levels frozen for row 3, by line number. -/
  frozen : Cells Nat := []
  /-- Last refreshed level of each field output, by line number. -/
  driven : Cells Nat := []
  /-- LMC of the last change of what lets the field outputs be driven: hub state, claim, refreshes. -/
  steadyAt : Nat := 0
  deriving DecidableEq, Repr

/-- What an event source holds (R376 to R386). -/
structure SrcSt where
  /-- 0 IDLE, 1 PENDING, 2 ACTIVE. -/
  st : Nat := 0
  /-- Target: 0 CPA, 1 CPB, 2 HOST, 3 to 6 REM0 to REM3, 7 none. -/
  target : Nat := 7
  raises : Nat := 0
  data : Nat := 0
  raisedAt : Int := 0
  /-- Raised while ACTIVE. -/
  again : Bool := false
  /-- The rotation pointer of R380. -/
  rot : Nat := 0
  /-- OFFER_COUNT of this PENDING period. -/
  offers : Nat := 0
  /-- Raises merged into the running offer. -/
  merged : Nat := 0
  /-- The outstanding remote delivery's number and LMC. -/
  delivery : Nat := 0
  offeredAt : Nat := 0
  /-- HOST's vector fired for this offer (R382). -/
  fired : Bool := false
  deriving DecidableEq, Repr

/-- What a fault source holds (R424, R427, R430). -/
structure FltSt where
  live : Bool := false
  inFault : Bool := false
  /-- 0 MINOR, 1 MAJOR, 2 CRITICAL. -/
  severity : Nat := 0
  suspended : Bool := false
  forced : Bool := false
  occurrences : Nat := 0
  latched : Bool := false
  firstCause : Nat := 0
  firstTime : Int := 0
  lastTime : Int := 0
  lost : Nat := 0
  /-- LMC of the most recent occurrences, newest first, at most 255. -/
  window : List Nat := []
  /-- LMC of the last occurrence and of the moment LIVE last fell (R430's t0 is the later). -/
  lastAt : Nat := 0
  fellAt : Nat := 0
  /-- LMC of the automatic leaves, newest first. -/
  leaves : List Nat := []
  /-- Reactions applied since entering IN_FAULT, and the items they name. -/
  reactions : List (Nat × Nat) := []
  deriving DecidableEq, Repr

/-- An entry awaiting its commit to the Crucible (Table 16.12): the parts fixed at the event. -/
structure CrEntry where
  ftime : Int := 0
  lmcUs : Nat := 0
  cls : Nat := 0
  source : Nat := 0
  data : List Byte := []
  /-- The entry is an occurrence of R432's queue of 256. -/
  occurrence : Bool := false
  /-- The entry opens a pinned record (R441). -/
  opens : Bool := false
  deriving DecidableEq, Repr

/-- The Crucible (R439 to R443). The MRAM areas hold bytes by slot; the rest is the commit engine's. -/
structure Crucible where
  queue : List CrEntry := []
  log : Cells (List Byte) := []
  pinned : Cells (List Byte) := []
  snaps : Cells (List Byte) := []
  /-- Entries still to come of the pinned record that is filling. -/
  filling : Nat := 0
  /-- Occurrences lost in the storm in progress, by source, and the LMC of the last loss. -/
  storm : Cells Nat := []
  lastLoss : Nat := 0
  deriving DecidableEq, Repr

/-- The Copper path's own configuration, loaded when a link comes UP and when a station is assigned (R61). -/
structure CopperCfg where
  etherType : Nat := 0x88B5
  station : Nat := 0
  node : Nat := 0
  ring : Nat := 0
  coupler : Bool := false
  /-- Line mode of F0 to F3, two bits each from F0: 0 25G-RSFEC, 1 25G-NOFEC, 2 10G. -/
  modes : Nat := 0
  deriving DecidableEq, Repr

/-- What a coupler hub's advert lists (Table 3.1, COUPLER_ADVERT). -/
structure Advert where
  f3Up : Bool := false
  carrying : Bool := false
  farRing : Nat := 0
  /-- Ring numbers with their crossings. -/
  rings : List (Nat × Nat) := []
  deriving DecidableEq, Repr

/-- What a delivered ANNOUNCE says of its station (Table 3.1, Table 4.3). -/
structure Announce where
  flags : Nat := 0
  minVer : Nat := 0
  maxVer : Nat := 0
  serial : Nat := 0
  features : Nat := 0
  pubWords : Nat := 0
  subWords : Nat := 0
  base : Nat := 0xFFFF
  check : Nat := 0
  turnExp : Nat := 0
  rotation : Nat := 0
  imageFlags : Nat := 0
  deriving DecidableEq, Repr

/-- Discovery beyond its objects (R71 to R91). Times are LMC in ns. -/
structure DiscSt where
  /-- A cause of R71 has arisen and the round it asks for has not started. -/
  want : Bool := false
  electing : Bool := false
  highRound : Nat := 0
  bestPriority : Nat := 128
  bestSerial : Nat := 1
  lastElect : Nat := 0
  firstElect : Option Nat := none
  root : Bool := false
  /-- LMC at which the ROLL or ASSIGN now travelling was sent by this root. -/
  rollAt : Option Nat := none
  assignAt : Option Nat := none
  /-- The ASSIGN that this root sent, awaiting its return. -/
  assign : List Byte := []
  /-- An ASSIGN of the current round has reached the hub. -/
  assignHeard : Bool := false
  lastAssign : Nat := 0
  /-- ASSIGNs taken since reset. -/
  assigns : Nat := 0
  lastSweep : Nat := 0
  /-- LMC at which F0 and F1 go DOWN to retrain (R80). -/
  rateAt : Option Nat := none
  /-- LMC at which the hub sent its RESTART, until it returns or times out (R77). -/
  restartAt : Option Nat := none
  /-- Frames that wait for the RESTART. -/
  restartHeld : List Frame := []
  /-- Larger time of the LAP copies returned since the last ASSIGN (R82). -/
  lap : Nat := 0
  /-- Stations of the last ASSIGN, in roll order. -/
  stations : List Nat := []
  /-- The ring table: what each station of the ring announced since the last ASSIGN, by station number (R91). -/
  announces : Cells (Option Announce) := []
  /-- Windows of other rings, by node address (R128). -/
  proxies : Cells (Option Announce) := []
  /-- The peer's {141.02} PIN_STATION, learnt over the tie link (R75). -/
  peerPin : Option Nat := none
  /-- Adverts of the ring's coupler hubs, by station, and the far side's (R87). -/
  adverts : Cells (Option Advert) := []
  farAdvert : Option Advert := none
  advertAt : Option Nat := none
  advertDue : Bool := false
  deriving DecidableEq, Repr

/-- A window placed in the mirror map, and what has been received of it (R103, R110, R112). -/
structure Window where
  /-- Node address. -/
  key : Nat := 0
  base : Nat := 0
  words : Nat := 0
  turnExp : Nat := 3
  auth : Bool := false
  imported : Bool := false
  lastHeard : Option Nat := none
  lastComplete : Nat := 0
  chainStart : Nat := 0
  /-- The turn being received, the station it comes from, its frame numbers and its last one. -/
  turn : Option Nat := none
  sender : Nat := 0
  frames : List Nat := []
  last : Option Nat := none
  deriving DecidableEq, Repr

/-- An acknowledgement owed to a writer at the next apply instant (R120). -/
structure WriteAck where
  writer : Nat := 0
  tag : Nat := 0
  result : Nat := 0
  applied : Nat := 0
  rejected : Nat := 0
  deriving DecidableEq, Repr

/-- The image engine beyond its objects (chapter 4). -/
structure ImgSt where
  wins : List Window := []
  /-- A map has been built since reset (IMAGE_FLAGS MAPPED), and for which ASSIGN. -/
  mapped : Bool := false
  builtFor : Nat := 0
  rebuildDue : Option Nat := none
  /-- The next rebuild starts from scratch (R104). -/
  scratch : Bool := false
  /-- Full number of the current turn, once a boundary has been reached. -/
  turn : Option Nat := none
  /-- The turn exponent in force; none before the first boundary. -/
  exp : Option Nat := none
  /-- A turn exponent adopted for a later boundary, and the FTIME of its adoption (R99). -/
  nextExp : Option (Nat × Nat) := none
  /-- The root's announced turn exponent, once delivered. -/
  rootExp : Option Nat := none
  /-- Own window as sampled at b_n and b_(n−1), by offset. -/
  sampled : List Nat := []
  before : List Nat := []
  /-- Turn of the last publication. -/
  published : Option Nat := none
  /-- Turn whose slot has been served, by a publication or, while shed, by none. -/
  slotDone : Option Nat := none
  /-- R in force since the last boundary. -/
  rotation : Nat := 8
  allDelta : Bool := true
  /-- Last value without bit 19 of each own word (R94). -/
  lastGood : Cells Nat := []
  /-- Forced words by offset (Table 4.11). -/
  forces : Cells (Option Nat) := []
  /-- The pending buffer by subscribe offset (R117) and the acknowledgements owed. -/
  waiting : Cells (Option Nat) := []
  acks : List WriteAck := []
  /-- What is received exactly at an apply instant, for the next one (R117). -/
  waitingNext : Cells (Option Nat) := []
  acksNext : List WriteAck := []
  /-- Turn whose words have been committed last. -/
  applied : Option Nat := none
  /-- Own node is shed (R131). -/
  shed : Bool := false
  /-- Windows the far coupler asked for, the windows granted to this hub, and the last request's LMC (R127). -/
  asked : List Nat := []
  granted : Cells (Option Announce) := []
  requestAt : Option Nat := none
  requestDue : Bool := false
  /-- Words published from the mirror after a takeover, by offset, and the turn at which the last of them ends (R412). -/
  held : Cells (Option Nat) := []
  heldEnds : Nat := 0
  /-- Commands of the field outputs wait for their refresh: the FTIME of the last commit. -/
  committedAt : Int := 0
  deriving DecidableEq, Repr

/-- A heard time candidate (R137). -/
structure Cand where
  cls : Nat := 248
  prio : Nat := 128
  crossings : Nat := 0
  gm : Nat := 0
  heardAt : Nat := 0
  /-- Entered from a coupler's F3 (R150). -/
  far : Bool := false
  deriving DecidableEq, Repr

/-- The PDELAY state of a fabric port (R140). -/
structure PdelaySt where
  id : Nat := 0
  /-- Egress stamp of the outstanding request (2^-16 ns of FTIME) and its LMC. -/
  t1 : Int := 0
  sentAt : Option Nat := none
  lastAt : Nat := 0
  /-- The last values of d in ps, newest first, at most 8. -/
  ds : List Int := []
  misses : Nat := 0
  deriving DecidableEq, Repr

/-- An IEEE 1588 message the hub originated (R151, R152): edge port, message type, and what an Announce states. -/
structure PtpOut where
  port : Nat
  kind : Nat
  cls : Nat
  gm : Nat
  steps : Nat
  utc : Nat
  deriving DecidableEq, Repr

/-- The time unit beyond its objects (chapter 5). Times are LMC in ns unless said otherwise. -/
structure TimeSt where
  /-- Remainder of the rate adjustment's dither (R134), in 2^-16 ns parts per 10^9. -/
  acc : Nat := 0
  /-- LMC at reset release, from which listening counts; the listen time has passed; synchronised at least once. -/
  since : Nat := 0
  listened : Bool := false
  synced : Bool := false
  /-- An offset has been delivered since reset. -/
  delivered : Bool := false
  cands : Cells (Option Cand) := []
  candAt : Nat := 0
  syncAt : Nat := 0
  lastSync : Nat := 0
  farSyncAt : Nat := 0
  farCandAt : Nat := 0
  /-- The SYNC exponent, UTC offset and GM_SERIAL of the last SYNC delivered. -/
  masterExp : Nat := 3
  utc : Nat := 37
  /-- Consecutive offsets below 50 ns and above 200 ns (R143). -/
  small : Nat := 0
  large : Nat := 0
  /-- The run of R146: its first offset in ps, and its length. -/
  runFirst : Int := 0
  runLen : Nat := 0
  stepArmed : Bool := false
  /-- Class of the external grandmaster an edge SLAVE port is locked to, that port, and the LMC the lock was lost at. -/
  ext : Option Nat := none
  extPort : Nat := 0
  extLostAt : Option Nat := none
  pdelay : Cells PdelaySt := []
  /-- IEEE 1588 messages originated, oldest first. -/
  ptpSent : List PtpOut := []
  deriving DecidableEq, Repr

/-- A timer unit beyond its objects (R153 to R158). Instants are FTIME in ns. -/
structure TimerSt where
  /-- Number of the next instant of the schedule, counted from 0. -/
  index : Nat := 0
  /-- FTIME at which a pulse in progress ends, and the level it returns to. -/
  pulseEnd : Option Int := none
  prior : Bool := false
  /-- DISARM waits for the pulse in progress to end (R156). -/
  disarming : Bool := false
  deriving DecidableEq, Repr

/-- A Pan's capture beyond its queue (R159 to R161). -/
structure CaptureSt where
  /-- Edges taken for capture since reset. -/
  sequence : Nat := 0
  stepped : Bool := false
  overrun : Bool := false
  deriving DecidableEq, Repr

/-- An item of a queue: its tag byte (Table 6.3) and its 64 data bits. -/
structure QItem where
  tag : Nat
  data : Nat
  deriving DecidableEq, Repr

/-- A Pan queue (R162 to R174). -/
structure QSt where
  /-- Visible packets in the order they were written; in priority order the word 0 of each is its header. -/
  packets : List (List QItem) := []
  /-- Packets ever made visible. -/
  total : Nat := 0
  /-- The first packet has been read in part. -/
  reading : Bool := false
  /-- Words written of the packet that is not yet visible. -/
  writing : List QItem := []
  /-- The rest of the packet being written is discarded (R169). -/
  dropping : Bool := false
  /-- Packets lost since the last LOSS marker; none when the loss is a pointer reset of unknown count. -/
  lost : Nat := 0
  lostReset : Bool := false
  flushing : Bool := false
  /-- The host block's latch: the item, and which halves have been read (R174). -/
  latch : QItem := ⟨0, 0⟩
  hiRead : Bool := false
  loRead : Bool := false
  /-- Narrow items already read of the first word, in compatibility mode (R176). -/
  lane : Nat := 0
  deriving DecidableEq, Repr

/-- What a host read of a BAR returned: BAR, offset, value. -/
structure BusRead where
  bar : Nat
  offset : Nat
  value : Nat
  deriving DecidableEq, Repr

/-- A discrete line beyond its objects (R178 to R201). Times are LMC in ns. -/
structure LineSt where
  /-- Comparator level, and the LMC of its last crossing. -/
  raw : Bool := false
  rawAt : Nat := 0
  /-- FTIME stamp of the first raw crossing towards the new level since the last accepted change (R181). -/
  cross : Option Int := none
  accepted : Bool := false
  /-- The line has held a level for its debounce since reset, a MODE write or a wake from DARK (Table 7.6). -/
  known : Bool := false
  /-- LMC of that reset, MODE write or wake. -/
  freshAt : Nat := 0
  /-- The accepted state as the Pan's register holds it (R200). -/
  seen : Bool := false
  /-- The commanded value, the last value driven before the present safe state, and a safe-state command in force. -/
  cmd : Bool := false
  last : Bool := false
  safeCmd : Bool := false
  /-- STATUS bits 0 to 7 that are stored: WIRE_BREAK, OPEN_ON, LIMIT_TRIPPED, THERMAL, SHORT_VFIELD, LATCHED, PAN_SHED. -/
  status : Nat := 0
  /-- Retry count k, and row 3 of Table 7.5: the line is off in back-off or latched. -/
  trips : Nat := 0
  off : Bool := false
  retryAt : Nat := 0
  /-- The stage has not yet cooled below 145 °C. -/
  hot : Bool := false
  /-- LMC since which the line has been ON. -/
  onAt : Nat := 0
  /-- Consecutive wire tests that rose above 10 V; LMC of the last wire-check detection. -/
  hits : Nat := 0
  wireAt : Nat := 0
  /-- Edges measured towards the output delays, at most 16 of each. -/
  rises : Nat := 0
  falls : Nat := 0
  deriving DecidableEq, Repr

/-- A PX pin beyond its objects (R285). -/
structure PxSt where
  /-- Level at the ball as the hub reads it. -/
  level : Bool := false
  cmd : Bool := false
  last : Bool := false
  safeCmd : Bool := false
  deriving DecidableEq, Repr

/-- A frame a CAN channel holds from an earlier attempt: its packet, counted attempts, whether all failures were ACK
errors, and the SOF of the last attempt (R217, R218). -/
structure CanTry where
  packet : List QItem := []
  attempts : Nat := 0
  allAck : Bool := true
  sof : Int := 0
  deriving DecidableEq, Repr

/-- A mailbox buffer (R212). -/
structure MbFrame where
  info : Nat := 0
  time : Int := 0
  data : List Byte := []
  deriving DecidableEq, Repr

/-- A latest-value mailbox (R211 to R214). -/
structure MbSt where
  current : Option MbFrame := none
  shadow : Option MbFrame := none
  new : Bool := false
  overruns : Nat := 0
  /-- LMC of the last frame, or of the mailbox's enabling. -/
  heardAt : Nat := 0
  heard : Bool := false
  deriving DecidableEq, Repr

/-- A CAN channel beyond its objects. -/
structure CanSt where
  /-- The attempt in progress: the packet and the FTIME of its SOF. -/
  sending : Option (List QItem × Int) := none
  tries : List CanTry := []
  /-- TEC beyond 255 is BUS_OFF. -/
  tec : Nat := 0
  rec_ : Nat := 0
  /-- Unbroken run of NO_ACK frames, consecutive ACK errors of an unlimited frame, CAN_ALONE in force, held (R222). -/
  run : Nat := 0
  acks : Nat := 0
  alone : Bool := false
  held : Bool := false
  recovering : Bool := false
  /-- Waits for 11 recessive bits before it joins the bus (R225). -/
  joining : Bool := false
  mbs : Cells MbSt := []
  /-- Recent filter writes, newest first: LMC, filter number, value before (R209). -/
  oldFilters : List (Nat × Nat × Nat) := []
  deriving DecidableEq, Repr

/-- A packet an RS-485 channel is receiving (R235, R236). -/
structure RsRx where
  start : Int := 0
  chars : List Nat := []
  parity : Bool := false
  framing : Bool := false
  noise : Bool := false
  continued : Bool := false
  firstError : Nat := 0xFFFF
  deriving DecidableEq, Repr

/-- A packet an RS-485 channel is sending (R237 to R239). -/
structure RsTx where
  header : Nat := 0
  chars : List Nat := []
  start : Int := 0
  /-- LMC at which DE is released, DE_LAG after the last stop bit. -/
  endsAt : Nat := 0
  /-- Characters compared with what was received. -/
  echoed : Nat := 0
  /-- An early end: its CAUSE and the characters sent. -/
  stop : Option (Nat × Nat) := none
  deriving DecidableEq, Repr

/-- An RS-485 channel beyond its objects. Times are LMC in ns. -/
structure RsSt where
  rx : Option RsRx := none
  /-- The last packet was closed by MAX_LEN: the next one is CONTINUED. -/
  continues : Bool := false
  /-- End of the last stop bit on the line. -/
  lastEnd : Nat := 0
  /-- A break is on the line. -/
  brk : Bool := false
  tx : Option RsTx := none
  /-- Became ACTIVE and waits for an idle line, since (R241). -/
  joinAt : Option Nat := none
  /-- The field die's replay buffer records (R242). -/
  replay : Bool := false
  deriving DecidableEq, Repr

/-- A direct serial bridge (R341, R342): what is being received on each side, what is stored and not yet sent, which side
the bridge drives (0 none, 1 b, 2 a), and a crossing. -/
structure BridgeSt where
  fromA : List Nat := []
  fromB : List Nat := []
  readyA : Option (List Nat) := none
  readyB : Option (List Nat) := none
  driving : Nat := 0
  crossing : Bool := false
  deriving DecidableEq, Repr

/-- An ISDU in progress (R251). -/
structure IsduSt where
  /-- From the transmit queue, with its TAG; otherwise from the dictionary. -/
  tag : Option Nat := none
  op : Nat := 0
  index : Nat := 0
  sub : Nat := 0
  data : List Byte := []
  startedAt : Nat := 0
  deriving DecidableEq, Repr

/-- An IO-Link port and its L+ switch beyond their objects. Times are LMC in ns unless said otherwise. -/
structure IolSt where
  /-- PORT_STATE [15:12]. -/
  st : Nat := 0
  /-- The L+ soft start ended at this LMC; the port waits for a wake slot; its wake slot ends at this LMC. -/
  lpDoneAt : Nat := 0
  waits : Bool := false
  slotEnds : Option Nat := none
  /-- The device marks its input data invalid; a valid reply has arrived since OPERATE was entered. -/
  pdInvalid : Bool := false
  pdSeen : Bool := false
  /-- OPERATE has been reached since the port started. -/
  operated : Bool := false
  /-- An M-sequence awaits its reply; consecutive failures; FTIME of the last one; what it carried: valid, data. -/
  awaiting : Bool := false
  failures : Nat := 0
  lastAt : Int := 0
  out : Option (Bool × Nat) := none
  isdu : Option IsduSt := none
  /-- Bytes of {560}+p ISDU_DATA. -/
  isduLen : Nat := 0
  /-- A device event that waits for queue room: QUALIFIER, CODE (R252). -/
  event : Option (Nat × Nat) := none
  /-- Raw C/Q level of a DI_CQ port, its last crossing, and the debounced level before it. -/
  raw : Bool := false
  rawAt : Nat := 0
  level : Bool := false
  /-- Safe-state command (R249); commanded C/Q level in DO_CQ. -/
  safeCmd : Bool := false
  cmd : Bool := false
  /-- The device's parameters as last known, and the identity of the stored data (R253). -/
  params : List Byte := []
  dsVendor : Nat := 0
  dsDevice : Nat := 0
  /-- L+ switch: retry count, end of back-off, not yet cooled, ON since, ramp begun. -/
  lpTrips : Nat := 0
  lpRetryAt : Nat := 0
  lpHot : Bool := false
  lpOnAt : Nat := 0
  lpRampAt : Nat := 0
  deriving DecidableEq, Repr

/-- The state of a Whisk beyond its configuration objects (chapter 10). -/
structure WhiskSt where
  /-- R275: 0 IDLE, 1 RUNNING, 2 STALLED, 3 HALTING, 4 HALTED, 5 HELD. -/
  st : Nat := 0
  step : Nat := 0
  /-- `step` has been chosen and is entered at the next Whisk cycle. -/
  entering : Bool := false
  txs : Nat := 0
  rxs : Nat := 0
  outCount : Nat := 0
  inCount : Nat := 0
  cta : Nat := 0
  ctb : Nat := 0
  pa : Nat := 0
  pb : Nat := 0
  send : List Nat := []
  /-- Received words, each with its END mark (R274). -/
  recv : List (Nat × Bool) := []
  partner : Bool := false
  trigger : Bool := false
  /-- Levels and driven slots of the pin window (PINS_NOW). -/
  levels : Nat := 0
  driven : Nat := 0
  /-- Items written into the open receive packet (R274). -/
  items : Nat := 0
  stallSince : Option Nat := none
  /-- Halted by SAFE (R282): executes RESTART when SAFE ends. -/
  safeHalt : Bool := false
  /-- Discrete-line slots: LMC of the last change passed and the newest change waiting (R264). -/
  lineAt : Cells Nat := []
  lineWaits : Cells (Option Nat) := []
  /-- The last word given to the receive store, and whether one was given since RESTART (RX_LATEST). -/
  latest : Nat := 0
  given : Bool := false
  /-- LMC at which the step being entered, or its first dwell cycle, begins; the fractional accumulator (R262). -/
  at_ : Nat := 0
  acc : Nat := 0
  /-- The step entered has not yet reached its last dwell cycle. -/
  dwelling : Bool := false
  /-- The running step's pin action is SENSE_NEXT. -/
  senseNext : Bool := false
  /-- WHISK_STALL has been reported for this stall. -/
  reported : Bool := false
  /-- Narrow items between the stores and their queues: the rest of the word taken, and the word being filled. -/
  txPart : List Nat := []
  rxPart : List Nat := []
  deriving DecidableEq, Repr

/-- A frame that the Copper path hands to the switch core: the port, whether a coupler hub carries it to the other ring
(R88), whether the hub's own receivers take it, and the FTIME of its reception. -/
structure SwArrival where
  port : Nat
  frame : Frame
  carried : Bool
  own : Bool
  bytes : Nat
  at_ : Int
  deriving DecidableEq, Repr

/-- A copy of a frame inside the switch core, with its classification (R290): ingress port, class, colour (0 green,
1 yellow, 2 red, 3 not metered) and meter, table generation, and the FTIME of its reception. -/
structure SwCopy where
  frame : SwFrame
  ingress : Nat := 0
  cls : Nat := 0
  colour : Nat := 3
  meter : Nat := 0
  gen : Nat := 0
  at_ : Int := 0
  deriving DecidableEq, Repr

/-- An egress queue (R291, R297): its Skillet frames, the spill page read back, the pages in the Stockpot, and the
assembly page with the LMC of its first frame. -/
structure SwQ where
  frames : List SwCopy := []
  back : List SwCopy := []
  pages : List (List SwCopy) := []
  asm : List SwCopy := []
  asmAt : Nat := 0
  /-- Copies ever taken in. -/
  total : Nat := 0
  /-- LMC of the last DROP_SPILL_FULL. -/
  fullAt : Option Nat := none
  deriving DecidableEq, Repr

/-- A meter's buckets in millibits, the LMC (ns) up to which they are filled, and its six counts (R304, Table 11.8). -/
structure MeterSt where
  tc : Nat := 0
  tp : Nat := 0
  at_ : Nat := 0
  counts : List Nat := [0, 0, 0, 0, 0, 0]
  deriving DecidableEq, Repr

/-- A pending gate list: entries, base time, cycle (R311). -/
structure GatePending where
  entries : List Nat
  base : Int
  cycle : Nat
  deriving DecidableEq, Repr

/-- A frame that an internal port offers and that waits in its source until every copy can be admitted (R296). -/
structure SwOffer where
  port : Nat
  copy : SwCopy
  dst : List Nat
  deriving DecidableEq, Repr

/-- A DATA frame's worth of a packet in a Ladle's bulk buffer: TSEQ once received, the segment, the body, and the table
generation of its classification (R323, R328, R329, R338). -/
structure TunFrame where
  tseq : Nat
  segment : Nat := 0
  last : Bool := true
  body : List Byte := []
  gen : Nat := 0
  deriving DecidableEq, Repr

/-- A tunnel end beyond its objects (R324 to R333). Times are LMC in ns. -/
structure TunnelSt where
  /-- 0 DISABLED, 1 OPENING, 2 OPEN, 3 REFUSED, 4 LOST, 5 SUSPENDED. -/
  st : Nat := 0
  tver : Nat := 0
  reason : Nat := 0
  sbValid : Bool := false
  sbRemote : Nat := 0
  sentAt : Nat := 0
  openAt : Option Nat := none
  heardAt : Nat := 0
  /-- Next TSEQ to send, and next expected. -/
  txSeq : Nat := 0
  rxSeq : Nat := 0
  /-- The far end's reserve and the cumulative credit last heard: units allowed so far, and units sent so far. -/
  allowed : Nat := 0
  used : Nat := 0
  heardCredit : Nat := 0
  /-- Cumulative units freed here, the figure last reported, and since when some are unreported. -/
  freed : Nat := 0
  reported : Nat := 0
  freedAt : Option Nat := none
  tx : List TunFrame := []
  /-- LMC since which the frame to be sent next lacks credit. -/
  waitAt : Option Nat := none
  /-- Received frames in TSEQ order, and those held ahead of a missing number. -/
  ready : List TunFrame := []
  rx : List TunFrame := []
  /-- An OPEN with RESYNC has been sent and not answered (R333). -/
  resync : Bool := false
  /-- LMC since which the next expected number is missing while a later one is held. -/
  gapAt : Option Nat := none
  sbSent : Option Nat := none
  polledAt : Nat := 0
  /-- Counts of Table 12.7, in its order. -/
  counts : List Nat := [0, 0, 0, 0, 0, 0, 0]
  deriving DecidableEq, Repr

/-- An entry's retained contents (R339): the object, its contents and the last generation they belong to. -/
structure Retained where
  key : Nat
  value : Nat
  gen : Nat
  deriving DecidableEq, Repr

/-- The switch core, the Ladles and the edge ports beyond their objects (chapters 11 and 12). -/
structure SwitchSt where
  arrivals : List SwArrival := []
  /-- Egress queues by 8p + c. -/
  queues : Cells SwQ := []
  /-- Ports whose flush is in progress (R302). -/
  flushing : List Nat := []
  meters : Cells MeterSt := []
  /-- Meter records that METER_RATE rules put in force (R437). -/
  ruled : Cells (Option Nat) := []
  gates : Cells (Option GatePending) := []
  /-- Saved gate lists have been committed on entering OPERATE (R312). -/
  gatesDone : Bool := false
  /-- LMC until which an egress port is sending. -/
  busy : Cells Nat := []
  offers : List SwOffer := []
  /-- Frames that have left at ports 4 to 18, oldest first. -/
  out : List (Nat × SwCopy) := []
  /-- Selected frames of each sampler since ENABLE, and the sample store: destination and record. -/
  sampled : Cells Nat := []
  samples : List (Nat × List Byte) := []
  /-- Bus Master Enable of the PCIe function. -/
  busMaster : Bool := false
  /-- What the PHY of each edge port last reported: link, half duplex, rate code. -/
  phy : Cells (Bool × Bool × Nat) := []
  /-- Clause 22 writes sent to PHYs, oldest first: address, register, value. -/
  mdio : List (Nat × Nat × Nat) := []
  tunnels : Cells TunnelSt := []
  retained : List Retained := []
  deriving DecidableEq, Repr

/-- A DMA ring beyond its registers (R368, R369). -/
structure RingSt where
  /-- PHASE of the present pass. -/
  phase : Bool := true
  /-- Slots written, modulo 2^32. -/
  sequence : Nat := 0
  /-- Slots not yet signalled, and the LMC of the first of them. -/
  unsignalled : Nat := 0
  firstAt : Nat := 0
  deriving DecidableEq, Repr

/-- A mailbox transaction in progress (R366): the request, its destination (0 this hub), LMC of GO, and the number of answers
given before it. -/
structure MbxRun where
  req : List Byte
  dest : Nat
  startedAt : Nat
  seen : Nat := 0
  deriving DecidableEq, Repr

/-- The host port beyond its objects and registers (chapter 13). Times are LMC in ns. -/
structure HostSt where
  /-- BAR4 registers and transmit descriptors by offset. -/
  bar4 : Cells Nat := []
  rings : Cells RingSt := []
  /-- Posted writes into host memory, oldest first: address and bytes. -/
  dma : List (Nat × List Byte) := []
  mbx : Option MbxRun := none
  /-- MBX_REQ and MBX_RESP bytes. -/
  reqBytes : List Byte := []
  respBytes : List Byte := []
  /-- A snapshot in progress: address and count. -/
  snap : Option (Nat × Nat) := none
  /-- Last write to KICK, or the watchdog's enabling; none once it has expired and until the next write. -/
  kickAt : Option Nat := some 0
  /-- Staged pairs, oldest first: offset and word (R371). -/
  stage : List (Nat × Nat) := []
  /-- Frames that wait for the apply instant, oldest first. -/
  stageHeld : List Frame := []
  /-- Image-write acknowledgements and tunnel packets that wait for ring 1, oldest first: KIND and content. -/
  ring1 : List (Nat × List Byte) := []
  /-- LMC at which the read of the descriptor at TX_HEAD was issued. -/
  reading : Option Nat := none
  deriving DecidableEq, Repr

/-- A block transfer in progress (R353, R354). Times are LMC in ns. -/
structure Transfer where
  path : Path
  client : Nat := 0
  tid : Nat
  role : Nat := 0
  object : Nat
  ty : Nat := 0
  /-- The hub sends the segments (READ_BLOCK), as opposed to receiving them. -/
  reads : Bool
  offset : Nat := 0
  total : Nat := 0
  /-- Sender: all the data (elements of {210} are read as segments are built). Receiver: the data in order. -/
  data : List Byte := []
  /-- Next segment to send or expected; segment up to which the far side acknowledged. -/
  next : Nat := 0
  acked : Nat := 0
  /-- Out-of-order segments inside the window: number, LAST, CRC, data; the LMC of the last one. -/
  early : List (Nat × Bool × Nat × List Byte) := []
  earlyAt : Option Nat := none
  advancedAt : Nat := 0
  resends : Nat := 0
  deriving DecidableEq, Repr

/-- A request that the hub has taken and not yet answered: what its response's header repeats (Table 13.5). -/
structure Asked where
  path : Path
  client : Nat := 0
  op : Nat
  role : Nat := 0
  tid : Nat := 0
  object : Nat
  ty : Nat := 0
  deriving DecidableEq, Repr

/-- The dictionary's transactions (R355, R356): requests not yet answered, oldest first; kept responses, newest first, each
with its requester, CLIENT and TID, LMC and bytes; block transfers. -/
structure DictSt where
  asked : List Asked := []
  kept : List (Path × Nat × Nat × List Byte) := []
  transfers : List Transfer := []
  deriving DecidableEq, Repr

/-- A fence slot beyond its object (R390 to R395): issue order and LMC, completion order, the generation at issue, and how
many records, packets and frames each marked queue had ever taken in, or, in priority order, the packets themselves. -/
structure FenceSt where
  order : Nat := 0
  issuedAt : Nat := 0
  doneOrder : Nat := 0
  gen : Nat := 0
  issueFtime : Int := 0
  records : Nat := 0
  pans : Cells Nat := []
  panPackets : Cells (List (List QItem)) := []
  egress : Cells Nat := []
  deriving DecidableEq, Repr

/-- What the peer's last HEARTBEAT said (Table 15.8). -/
structure PeerView where
  role : Nat := 0
  grade : Nat := 0
  flags : Nat := 0
  seq : Nat := 0
  hubState : Nat := 0
  deriving DecidableEq, Repr

/-- Twin operation beyond its objects (chapter 15). Times are LMC in ns. -/
structure TwinSt where
  /-- The START edge that the round grid counts from, and the START of the round in progress. -/
  startAt : Option Nat := none
  round : Option Nat := none
  /-- This Hob takes part in the round in progress. -/
  driving : Bool := false
  /-- The claim byte last written to the Hob, when, and the byte before it (R401). -/
  claim : Nat := 0
  claimAt : Nat := 0
  claimOld : Nat := 0
  /-- Last heartbeat write to the Hob (R403). -/
  beatAt : Option Nat := none
  /-- Last HEARTBEAT frame (path A) and last BEAT slot of the peer (path B); since when both paths are silent. -/
  pathAAt : Nat := 0
  pathBAt : Nat := 0
  silentAt : Option Nat := none
  sentAt : Nat := 0
  /-- End of the last valid round; end of the last decisive round this package won; start of row 3. -/
  validAt : Nat := 0
  decisiveAt : Nat := 0
  row3At : Nat := 0
  /-- The last decisive round since the field die powered up: won by this package or by the peer. -/
  won : Option Bool := none
  /-- Valid rounds since one decided with health 2 or more; consecutive ones with an empty peer BEAT (R409). -/
  weak : Nat := 0
  empty : Nat := 0
  /-- The peer has held the claim with health 2 or more since reset. -/
  peerStrong : Bool := false
  /-- Both hubs report the same position: claim health 0 until reset (R398). -/
  posConflict : Bool := false
  seizing : Bool := false
  peer : PeerView := {}
  /-- The peer's position and PRIM level are known from a HEARTBEAT. -/
  peerKnown : Bool := false
  /-- SYNC_SEQ of the last write sent or applied. -/
  seq : Nat := 0
  /-- Bulk sync in progress on a STANDBY: next segment, the records so far, and the writes that wait behind it. -/
  bulkNext : Nat := 0
  bulk : List Byte := []
  bulkQueue : List Frame := []
  /-- Answers that wait for the peer's acknowledgement, by SYNC_SEQ (R414). -/
  waits : List (Nat × Answer) := []
  /-- A proposed handover: b_h and its cause; whether it has been agreed. -/
  proposed : Option (Int × Nat) := none
  agreed : Bool := false
  /-- Sync image segments sent: none after LAST. -/
  bulkSent : Nat := 0
  /-- Penalties in force, by row of Table 15.4; 15 where the row gives grade 0. -/
  penalties : Cells Nat := []
  /-- LMC of the last planned swap of roles: rounds that started before its claims counted change no role (R417). -/
  swapAt : Option Nat := none
  /-- End of the running hold-off of R419, and what was left of it when it stopped. -/
  revertAt : Option Nat := none
  revertLeft : Nat := 0
  deriving DecidableEq, Repr

/-- A policy rule slot beyond its record (R435 to R437). -/
structure RuleSt where
  fired : Bool := false
  /-- Released without UNDO: the action it took stands (R435). -/
  stays : Bool := false
  /-- Consecutive evaluations at which the condition (idle) or the release condition (fired) has held. -/
  held : Nat := 0
  firings : Nat := 0
  refused : Nat := 0
  last : Int := 0
  deriving DecidableEq, Repr

/-- A Pan's sleep (R450 to R456). Times are LMC in ns. -/
structure PanSt where
  /-- A wake has been asked for, since this LMC (R454). -/
  waking : Option Nat := none
  /-- LMC of the last activity, and of the last entry to DOZE. -/
  idleAt : Nat := 0
  dozeAt : Nat := 0
  /-- A wake window is open until this FTIME (R450). -/
  window : Option Int := none
  /-- ACTIVE since, and earlier ACTIVE intervals that ended within the last second, newest first. -/
  activeSince : Nat := 0
  spans : List (Nat × Nat) := []
  /-- Accepted changes that the field die holds while the Pan wakes: line, level, stamp; oldest first, at most 32. -/
  held : List (Nat × Bool × Int) := []
  deriving DecidableEq, Repr

/-- A branch fuse beyond its objects (R461 to R465). -/
structure FuseSt where
  /-- 4 in back-off, 5 latched, 6 shed, 0 none of these. -/
  hold : Nat := 0
  trips : Nat := 0
  retryAt : Nat := 0
  /-- An I²t trip waits for the accumulator to fall below half its trip level. -/
  hot : Bool := false
  rampAt : Nat := 0
  onAt : Nat := 0
  cmd : Bool := true
  safeCmd : Bool := false
  /-- SHUNT_UOHM and SOA_MS as taken at the last turn-on; 0 before the first. -/
  shunt : Nat := 0
  soa : Nat := 0
  deriving DecidableEq, Repr

/-- The power domains and the field supply (chapter 17). Times are LMC in ns. -/
structure PowerSt where
  /-- The ordering code is ARF-H720-X: Table 20.13's second column and its T_max apply. -/
  extended : Bool := false
  /-- LMC since which no local traffic has been present, and of the entry to CLOCK_GATED. -/
  coreIdleAt : Nat := 0
  coreGateAt : Nat := 0
  /-- Controller pairs CPA and CPB are clock-gated. -/
  cpGated : List Nat := []
  /-- VFIELD is below 14 V, until it exceeds 15 V (R457). -/
  vfieldLow : Bool := false
  /-- PFW pins driven high, by Pan. -/
  pfw : Nat := 0
  /-- LMC of the last rail check and temperature check; dies in OVERTEMP; rails and feeds out of range. -/
  railAt : Nat := 0
  tempAt : Nat := 0
  hotDies : List Nat := []
  badRails : List Nat := []
  deriving DecidableEq, Repr

/-- The key unit beyond its objects (chapter 18). -/
structure KeySt where
  /-- Full number of the turn at which the epoch in force began. -/
  epochTurn : Nat := 0
  /-- The committed next epoch: EPOCH, ERA, full turn (R482). -/
  next : Option (Nat × Nat × Nat) := none
  /-- A pending root: KIND (2 TAKE, 3 TRANSFER), full turn, EPOCH, ERA (R473). -/
  root : Option (Nat × Nat × Nat × Nat) := none
  /-- The key load of R476 has taken place since reset. -/
  loaded : Bool := false
  /-- The tag floor that this run must reach before it tags: the one found at its start, 0 after a change of key (R480). -/
  floor : Int := 0
  /-- Recent frames of a later epoch: LMC, epoch, whether that epoch's key verifies them (R484). -/
  ahead : List (Nat × Nat × Bool) := []
  /-- LMC at which the working key was zeroised, until one is loaded (R487). -/
  lostAt : Option Nat := none
  /-- LMC of reset release, from which the key load waits 20 ms (R476). -/
  since : Nat := 0
  /-- An attestation in progress: slot, nonce, LMC (R488). -/
  attest : Option (Nat × List Byte × Nat) := none
  /-- The turn in which tagged frames last took counter values, and how many in each DOMAIN (R478, R479). -/
  ivTurn : Nat := 0
  iv0 : Nat := 0
  iv1 : Nat := 0
  /-- The second counter, of DOMAIN 1 frames. -/
  seq1 : Nat := 0
  deriving DecidableEq, Repr

/-- A parameter-set copy in MRAM (R360): header fields and records by object number. -/
structure ParamCopy where
  layout : Nat := 0
  state : Nat := 0
  sequence : Nat := 0
  fw : Nat := 0
  written : Int := 0
  records : Cells Nat := []
  deriving DecidableEq, Repr

/-- A SAVE in progress: who asked, the records taken, the target copy (R359). -/
structure Saving where
  path : Path
  records : Cells Nat
  copy : Nat
  deriving DecidableEq, Repr

/-- An image's header fields (Table 19.2) that the hub acts on, and the low 32 bits of its DIGEST. -/
structure ImageInfo where
  version : Nat := 0x03000000
  layout : Nat := 0x0300
  loaderMin : Nat := 0
  length : Nat := 0
  digest : Nat := 0
  deriving DecidableEq, Repr

/-- Boot, update and recovery beyond their objects (chapter 19). Times are LMC in ns. -/
structure BootSt where
  copy1 : Option ParamCopy := none
  copy2 : Option ParamCopy := none
  saving : Option Saving := none
  /-- Staged blocks, newest first: byte offset and bytes (R497). -/
  staged : List (Nat × List Byte) := []
  /-- The image whose overwriting is under way, and the one in the MRAM slot. -/
  writing : Option ImageInfo := none
  slot : ImageInfo := {}
  /-- The confirmation word's two copies (R500). -/
  confirm1 : Nat := 0
  confirm2 : Nat := 0
  /-- The firmware's start; UPDATE_TRIAL has occurred in this boot (R499). -/
  startedAt : Nat := 0
  trialRaised : Bool := false
  /-- The next reset enters RECOVERY with this CAUSE (R506). -/
  recover : Option Nat := none
  /-- RECOVERY_IMAGE blocks received and not yet written, oldest first, and blocks written (R503). -/
  blocks : List (Path × Nat × List Byte) := []
  written : Nat := 0
  /-- Bytes of the image slot written in RECOVERY, by sector. -/
  image : Cells (List Byte) := []
  /-- Torn entries found at this boot, and entries uncommitted at the last power loss. -/
  torn : Nat := 0
  lost : Nat := 0
  deriving DecidableEq, Repr

/-- The JTAG port (R516): the selected instruction's opcode, the Crucible byte offset and the 64 bytes last captured. -/
structure JtagSt where
  ir : Nat := 0x01
  addr : Nat := 0
  data : List Byte := []
  deriving DecidableEq, Repr


/-- The state of the hub. -/
structure State where
  run : RunMode
  /-- Half nanoseconds since VDD_AON came into range; LMC (R133) is this halved. -/
  clock : Nat
  /-- FTIME in units of 2^-16 ns (R132). -/
  ftimeQ : Int
  straps : Straps
  resetCause : ResetCause
  /-- Dictionary cells other than counters, by object number. -/
  regs : Cells Nat
  /-- Counters of R69 and its like, by object number. -/
  cnt : Cells Nat
  /-- {0F0} REJECTIONS, by object number. -/
  rejects : Cells Nat
  /-- How many free values have been used. The model's own field. -/
  free : Nat
  hub : HubCtl
  /-- Answers sent, oldest first. -/
  answers : List Answer
  role : TwinRole
  /-- Fabric ports F0 to F3: link, transmit side, and the frame being received. -/
  links : Cells LinkSt
  tx : Cells PortTx
  ingress : Cells (Option Ingress)
  /-- Frames sent on a fabric port, oldest first, with the port. -/
  sent : List (Nat × Frame)
  /-- Frames delivered to the local receivers and not yet taken by them, oldest first, with the port. -/
  inbox : List (Nat × Frame)
  /-- Bytes in the landing buffer (R21). -/
  landing : Nat
  /-- The next both-ways SEQUENCE (R49) and the LMCs of recent both-ways sends (R52). -/
  seqNext : Nat
  origTimes : List Nat
  origHeld : List Frame
  dups : Cells (Option DupEntry)
  tie : TieCredit
  /-- BYP_HOLD0 and BYP_HOLD1 settle deadline (R64): LMC until which F0 and F1 stay DOWN. -/
  settleEnds : Option Nat
  field : FieldDie
  /-- LMC of the last health refresh the Hob received (R31). -/
  healthAt : Nat
  sources : Cells SrcSt
  /-- Records waiting for ring 0 (R388): source, tag, data, whether records were lost just before. -/
  records : List (Nat × Nat × Nat × Bool)
  recordLoss : Bool
  /-- Offer count of R384. -/
  deliveries : Nat
  /-- MSI-X vectors fired, oldest first. -/
  msix : List Nat
  faults : Cells FltSt
  cru : Crucible
  /-- The Copper path's configuration (R61). -/
  copper : CopperCfg
  /-- An ASSIGN has been received since reset (R81). -/
  assigned : Bool
  /-- Discovery and routing (chapter 3). -/
  disc : DiscSt
  /-- The image engine (chapter 4). -/
  img : ImgSt
  /-- The mirror SRAM by mirror address: the word and its turn's low six bits (R112); none before a cell has carried it. -/
  mirror : Cells (Option (Nat × Nat))
  /-- Own-window history (R108): turn number and words, newest first, at most 64. -/
  hist : List (Nat × List Nat)
  /-- The time unit (chapter 5). -/
  time : TimeSt
  /-- Timer units 0 to 63. -/
  timers : Cells TimerSt
  /-- Captures of Pans 0 to 15. -/
  captures : Cells CaptureSt
  /-- Queue q of Pan n at 32n + q (Table 6.1). -/
  queues : Cells QSt
  /-- Values returned to host reads, oldest first. -/
  busReads : List BusRead
  /-- Discrete lines 0 to 255. -/
  lines : Cells LineSt
  /-- PX pins 0 to 63. -/
  pxs : Cells PxSt
  /-- CAN channels 0 to 31. -/
  cans : Cells CanSt
  /-- RS-485 channels 0 to 47. -/
  rss : Cells RsSt
  /-- Characters driven onto RS-485 pairs, oldest first, with the channel. -/
  rsSent : List (Nat × List Nat)
  /-- Bridges 1 to 24 (R341). -/
  bridges : Cells BridgeSt
  /-- IO-Link ports 0 to 63. -/
  iols : Cells IolSt
  /-- Whisks 0 to 31. -/
  whisks : Cells WhiskSt
  /-- The switch core, Ladles and edge ports (chapters 11 and 12). -/
  sw : SwitchSt
  /-- Host-port registers of Table 13.10, by offset. -/
  bar0 : Cells Nat
  /-- The host port (chapter 13). -/
  host : HostSt
  /-- Dictionary transactions (chapter 13). -/
  dict : DictSt
  /-- Ring 0 records ever queued. -/
  recordsIn : Nat
  /-- Fence slots 0 to 15. -/
  fences : Cells FenceSt
  /-- Fences issued and completed so far, which orders them. -/
  fenceOrder : Nat
  /-- FTIME at which the last IMAGE_WRITE that the hub originated left its egress (R392). -/
  writeSentAt : Option Int
  /-- IMAGE_WRITE frames that an image fence holds, oldest first, each with whether the hub's own image engine and the ring take it. -/
  writeHeld : List (Frame × Bool × Bool)
  /-- The peer's last heartbeat reports it READY (R408). -/
  peerReady : Bool
  /-- FTIME of an agreed planned handover (R417). -/
  handInstant : Option Int
  /-- Twin operation (chapter 15). -/
  twin : TwinSt
  /-- Attempts counted by perturbation slots of kinds 8 and 9. -/
  pertCount : Cells Nat
  /-- LMC in ns at which a running perturbation slot ends (R445). -/
  pertEnds : Cells Nat
  /-- Policy rule slots 0 to 127. -/
  rules : Cells RuleSt
  /-- The counters behind the per-second gauges at the last 1000 evaluations, newest first. -/
  gaugeLog : List (List Nat)
  /-- Gauges that a measurement gives, by number, as last measured. -/
  gaugeIn : Cells Int
  /-- Pans 0 to 15. -/
  pans : Cells PanSt
  /-- Branch fuses 0 to 63. -/
  fuses : Cells FuseSt
  /-- Power domains and field supply (chapter 17). -/
  power : PowerSt
  /-- Frames that wait to be tagged (R479, R480), oldest first. -/
  tagHeld : List Frame
  /-- The key unit (chapter 18). -/
  keys : KeySt
  /-- Parameters, boot, update and recovery (chapters 13 and 19). -/
  boot : BootSt
  /-- Frames sent on the maintenance UART, oldest first (R504). -/
  uartSent : List (List Byte)
  /-- The JTAG port. -/
  jtag : JtagSt
  /-- Commands that are waiting, first in, first out. -/
  pending : List Instr
  deriving DecidableEq, Repr

/-- The hub right after reset release: the ROM has started, INIT, every table at its reset values. -/
def State.reset : State where
  run := .rom
  clock := 0
  ftimeQ := 0
  straps := {}
  resetCause := .pin
  regs := []
  cnt := []
  rejects := []
  free := 0
  hub := {}
  answers := []
  role := .standby
  links := []
  tx := []
  ingress := []
  sent := []
  inbox := []
  landing := 0
  seqNext := 0
  origTimes := []
  origHeld := []
  dups := []
  tie := {}
  settleEnds := none
  field := {}
  healthAt := 0
  sources := []
  records := []
  recordLoss := false
  deliveries := 0
  msix := []
  faults := []
  cru := {}
  copper := {}
  assigned := false
  disc := {}
  img := {}
  mirror := []
  hist := []
  time := {}
  timers := []
  captures := []
  queues := []
  busReads := []
  lines := []
  pxs := []
  cans := []
  rss := []
  rsSent := []
  bridges := []
  iols := []
  whisks := []
  sw := {}
  bar0 := []
  host := {}
  dict := {}
  recordsIn := 0
  fences := []
  fenceOrder := 0
  writeSentAt := none
  writeHeld := []
  peerReady := false
  handInstant := none
  twin := {}
  pertCount := []
  pertEnds := []
  rules := []
  gaugeLog := []
  gaugeIn := []
  pans := []
  fuses := []
  power := {}
  tagHeld := []
  keys := {}
  boot := {}
  uartSent := []
  jtag := {}
  pending := []

end Sys2Proof.Machine
end

