-- ==== Sys2Proof/Machine/Ops.lean ====
section
/-! DEFINITION. The named operations that every meaning is composed of: reading and writing the dictionary and its
counters, permits, refusals and answers, the Crucible's queue, sending frames, raising events, the hub state and the
fault collector. -/

namespace Sys2Proof.Machine

/-- What a command's meaning answers. -/
abbrev Res := Host.Outcome State Fault Refusal

/-! ## Time and the dictionary -/

/-- LMC in whole nanoseconds (R133). -/
def State.lmc (s : State) : Nat := s.clock / 2

/-- FTIME in whole nanoseconds (R132). -/
def State.ftime (s : State) : Int := s.ftimeQ / 65536

/-- Dictionary cell `k`. -/
def State.reg (s : State) (k : Nat) : Nat := cellGet objDefault s.regs k

/-- `half` half nanoseconds pass: LMC advances (R133), and FTIME with it at the adjusted rate (R134, R144). -/
def State.advance (s : State) (half : Nat) : State :=
  let rate : Int := 1000000000 + toSigned 32 (s.reg Key.TSTAT_RATE_ADJ)
  let acc : Int := (half : Int) * 32768 * rate + s.time.acc
  { s with clock := s.clock + half, ftimeQ := s.ftimeQ + acc / 1000000000
           time := { s.time with acc := (acc % 1000000000).toNat } }

/-- Time passes until LMC is `t` ns; a deadline already past has no effect. -/
def State.until (s : State) (t : Nat) : State := if s.lmc < t then s.advance (2 * t - s.clock) else s

/-- Time passes until FTIME is `t` ns; an instant already past has no effect. -/
def State.untilFtime (s : State) (t : Int) : State :=
  if s.ftime < t then
    let rate : Int := 1000000000 + toSigned 32 (s.reg Key.TSTAT_RATE_ADJ)
    let half := ((t * 65536 - s.ftimeQ) * 1000000000 / (32768 * rate)).toNat
    { s with clock := s.clock + half, ftimeQ := t * 65536, time := { s.time with acc := 0 } }
  else s

/-- Dictionary cell `k` becomes `v`. -/
def State.setReg (s : State) (k v : Nat) : State := { s with regs := cellSet objDefault s.regs k v }

/-- Dictionary cell `k` read as a flag. -/
def State.flag (s : State) (k : Nat) : Bool := s.reg k != 0

/-- Counter `k`; it reads modulo its width (R69). -/
def State.count (s : State) (k : Nat) : Nat := cellGet (fun _ => 0) s.cnt k

/-- Counter `k` becomes `v`. -/
def State.setCount (s : State) (k v : Nat) : State := { s with cnt := cellSet (fun _ => 0) s.cnt k v }

/-- Counter `k` counts `n` (R69). -/
def State.addCount (s : State) (k n : Nat) : State := s.setCount k (s.count k + n)

/-- Counter `k` counts one (R69). -/
def State.bump (s : State) (k : Nat) : State := s.addCount k 1

/-- The counters of index `i` return to zero. -/
def State.clearIndex (s : State) (i : Nat) : State := { s with cnt := s.cnt.filter (fun c => c.1 / 256 != i) }

/-- The next free value (the spec states an effect here and no number) and the state that has used it. -/
def State.fresh (s : State) : Nat × State := (Config.freeValue s.free, { s with free := s.free + 1 })

/-- The state of fabric port `f` beyond its objects. -/
def State.link (s : State) (f : Nat) : LinkSt := cellGet (fun _ => {}) s.links f

/-- The state of fabric port `f` is changed by `g`. -/
def State.setLink (s : State) (f : Nat) (g : LinkSt → LinkSt) : State :=
  { s with links := cellSet (fun _ => {}) s.links f (g (s.link f)) }

/-- The transmit side of fabric port `f`. -/
def State.port (s : State) (f : Nat) : PortTx := cellGet (fun _ => {}) s.tx f

/-- The transmit side of fabric port `f` becomes `p`. -/
def State.setPort (s : State) (f : Nat) (p : PortTx) : State := { s with tx := cellSet (fun _ => {}) s.tx f p }

/-- Fabric port `f` is UP (Table 2.3). -/
def State.up (s : State) (f : Nat) : Bool := s.reg (Key.PORT_STATE f) == 4

/-- The logic die has power and is out of reset, so its blocks act on commands. -/
def State.logicOn (s : State) : Bool := match s.run with
  | .unpowered => false
  | .held => false
  | _ => true

/-- The firmware runs (R494). -/
def State.fwOn (s : State) : Bool := match s.run with
  | .firmware => true
  | _ => false

/-- The hub is in RECOVERY (R502). -/
def State.inRecovery (s : State) : Bool := match s.run with
  | .recovery => true
  | _ => false

/-- Compatibility mode is in effect (R28). -/
def State.compat (s : State) : Bool := s.flag Key.COMPAT_EFFECTIVE

/-- The hub's own station; 0 when it holds none. -/
def State.station (s : State) : Nat := s.reg Key.ADDR_STATION

/-- The node address: the node's A station. -/
def State.node (s : State) : Nat := s.reg Key.ADDR_NODE_ADDRESS

/-- The ring number in a station address (Table 2.6). -/
def ringOf (a : Nat) : Nat := a / 1024 % 64

/-- The station number in a station address (Table 2.6). -/
def stationOf (a : Nat) : Nat := a % 1024

/-- The feature bits that configuration writes are checked against (R81). Before the first ASSIGN these are the hub's
own. -/
def State.features (s : State) : Nat :=
  if s.assigned then s.reg Key.FEAT_RING_FEATURES else s.reg Key.FEAT_OWN_FEATURES

/-- Feature bit `i` of Table 3.2 is available (R81). -/
def State.feature (s : State) (i : Nat) : Bool := bitOf s.features i

/-! ## Hub state -/

/-- State codes of R347. -/
def HubMode.code : HubMode → Nat
  | .init => 0 | .preop => 1 | .operate => 2 | .safe => 3 | .maint => 4

/-- The state letter's bit in an access entry's mask (Table 0.3). -/
def HubMode.bit : HubMode → Nat
  | .init => 1 | .preop => 2 | .operate => 4 | .safe => 8 | .maint => 16

/-- Role codes of Table 13.3. -/
def TwinRole.code : TwinRole → Nat
  | .solo => 0 | .active => 1 | .standby => 2

/-- {020.00} HUB_STATE (Table 13.3). In RECOVERY the state code is 5. -/
def State.hubState (s : State) : Nat :=
  (if s.hub.mode = .maint then s.hub.ret.code else 0) * 2 ^ 20 + s.role.code * 2 ^ 16 + s.hub.cause * 2 ^ 8 +
    (if s.inRecovery then 5 else s.hub.mode.code)

/-- The state whose rules the outputs follow: in MAINT, the one recorded in RETURN_STATE (R349). -/
def State.outMode (s : State) : HubMode := if s.hub.mode = .maint then s.hub.ret else s.hub.mode

/-! ## The Crucible's queue -/

/-- An entry of class `cls` waits for its commit, with the times of its event (Table 16.12). -/
def State.log (s : State) (cls source : Nat) (data : List Byte) : State :=
  { s with cru := { s.cru with
      queue := s.cru.queue ++ [{ ftime := s.ftime, lmcUs := s.lmc / 1000, cls := cls, source := source, data := data }] } }

/-- A record entry (CLASS 4) naming object `k`, with the value or detail `data` (Table 16.13). -/
def State.logRecord (s : State) (k : Nat) (data : List Byte) : State := s.log 4 0 (beBytes 3 k ++ [0] ++ data)

/-! ## Perturbations (R445, R446) -/

/-- The running perturbation slot of kind `kind` on `target`, if any (Table 16.15, Table 16.16). -/
def State.perturbed (s : State) (kind target : Nat) : Option Nat :=
  if s.reg Key.PERT_RUNNING = 0 then none
  else (List.range 16).find? (fun i =>
    s.reg (Key.PSLOT_STATE i) == 1 && s.reg (Key.PSLOT_RECORD i) / 256 ^ 15 % 256 == kind &&
      s.reg (Key.PSLOT_RECORD i) / 256 ^ 12 % 65536 == target)

/-- A and B of a slot's record. -/
def State.pertA (s : State) (i : Nat) : Int := toSigned 32 (s.reg (Key.PSLOT_RECORD i) / 256 ^ 8)

/-- The perturbation of slot `i` acted once more. -/
def State.pertActed (s : State) (i : Nat) : State := s.bump (Key.PSLOT_APPLIED i)

/-- Perturbation 2 holds the consumer of the queue `target` A µs in every B µs (Table 16.16), counted on LMC; DESIGN
CHOICE (log 20): where the period begins. -/
def State.pertHeld (s : State) (target : Nat) : Bool :=
  match s.perturbed 2 target with
  | none => false
  | some i => decide (s.lmc / 1000 % max 1 (s.reg (Key.PSLOT_RECORD i) / 256 ^ 4 % 2 ^ 32) < (s.pertA i).toNat)

/-- Perturbations 8 and 9 act on every A-th attempt: whether this one is such, and the state that has counted it. -/
def State.pertNth (s : State) (kind target : Nat) : Bool × State :=
  match s.perturbed kind target with
  | none => (false, s)
  | some i =>
    let n := (cellGet (fun _ => 0) s.pertCount i + 1) % 65536
    if n < (s.pertA i).toNat then (false, { s with pertCount := cellSet (fun _ => 0) s.pertCount i n })
    else (true, { s with pertCount := cellSet (fun _ => 0) s.pertCount i 0 }.pertActed i)

/-! ## Policy actions in force (R436, R437) -/

/-- Rule slot `r`. -/
def State.rule (s : State) (r : Nat) : RuleSt := cellGet (fun _ => {}) s.rules r

/-- Rule slot `r` becomes `x`. -/
def State.setRule (s : State) (r : Nat) (x : RuleSt) : State := { s with rules := cellSet (fun _ => {}) s.rules r x }

/-- The record of rule slot `r` (Table 16.6). -/
def State.ruleRec (s : State) (r : Nat) : Nat := s.reg (Key.POL_RULE (r / 32) (r % 32))

/-- The VALUE that the rules give `action` on `target` (action 3 has none): the fired rule with the lowest slot decides
(R437), and with none fired the action of a rule released without UNDO stands. -/
def State.policyActs (s : State) (action target : Nat) : Option Nat :=
  let on (c : Nat × RuleSt) : Bool :=
    s.ruleRec c.1 / 256 ^ 21 % 256 == action && (action == 3 || s.ruleRec c.1 / 256 ^ 8 % 65536 == target)
  ((s.rules.find? (fun c => c.2.fired && on c)).or (s.rules.find? (fun c => c.2.stays && on c))).map
    (fun c => s.ruleRec c.1 / 256 ^ 4 % 2 ^ 32)

/-- What rules released without UNDO left in force on `target` gives way to a write of its configured value (R437). -/
def State.unstay (s : State) (action target : Nat) : State :=
  s.rules.foldl (fun s c =>
    if s.ruleRec c.1 / 256 ^ 21 % 256 = action ∧ (action = 3 ∨ s.ruleRec c.1 / 256 ^ 8 % 65536 = target) ∧ !c.2.fired then
      s.setRule c.1 { c.2 with stays := false }
    else s) s

/-! ## Frames -/

/-- Bytes of a frame on the wire: 14 of MAC header, 24 of Thrumfabin header, payload, tag, at least 60, and the FCS
(Table 2.5). -/
def frameBytes (f : Frame) : Nat := max 60 (38 + f.payload.length + (if f.tagged then 16 else 0)) + 4

/-- The frame joins the egress queue of port `p` (R58); with the port idle it starts at once. -/
def State.enqueue (s : State) (p : Nat) (e : TxEntry) : State :=
  match (s.port p).now with
  | none => s.setPort p { s.port p with now := some e }
  | some _ => s.setPort p { s.port p with waiting := (s.port p).waiting ++ [e] }

/-- One copy of an originated frame leaves by port `p`, or is dropped and counted when the port is not UP (R48). -/
def State.sendCopy (s : State) (p : Nat) (f : Frame) : State :=
  if s.up p then s.enqueue p { frame := f, bytes := frameBytes f } else s.bump (Key.COUNT_TX_DOWN_DROP p)

/-- Credits of 256 bytes that a frame takes on the tie link (R66). -/
def creditsOf (bytes : Nat) : Nat := (bytes + 255) / 256

/-- A frame leaves by the tie link under credit flow control: frames below priority 7 leave the last 8 credits, and
CREDIT frames (MGMT subtype 2) need none (R66). A frame without credit waits. -/
def State.sendTie (s : State) (f : Frame) : State :=
  if !s.up 2 then s.bump (Key.COUNT_TX_DOWN_DROP 2)
  else
    let need := creditsOf (frameBytes f)
    let isCredit := f.kind == 10 && beAt f.payload 0 1 == 2
    let keep := if f.prio < 7 then 8 else 0
    if isCredit then s.enqueue 2 { frame := f, bytes := frameBytes f }
    else if s.tie.held.isEmpty && need + keep ≤ s.tie.tx then
      { s with tie := { s.tie with tx := s.tie.tx - need } }.enqueue 2 { frame := f, bytes := frameBytes f }
    else { s with tie := { s.tie with
        held := s.tie.held ++ [({ frame := f, bytes := frameBytes f }, s.lmc, false)] } }

/-- A link-local frame (destination station 0) leaves by port `p` (R39, R41, R46). -/
def State.sendLocal (s : State) (p : Nat) (f : Frame) : State :=
  let f := { f with source := s.station, dest := 0, bothWays := false, hops := 0 }
  if p = 2 then s.sendTie f else s.sendCopy p f

/-- The duration within which R52 counts both-ways frames: twice the measured lap, 1 ms before the first measurement. -/
def State.origSpan (s : State) : Nat :=
  2 * (if s.reg Key.LINK_LAP_NS = 0 then 1000000 else s.reg Key.LINK_LAP_NS)

/-- Both-ways sends that still count against the limit of R52. -/
def State.origRecent (s : State) : List Nat := s.origTimes.filter (fun t => s.lmc < t + s.origSpan)

/-- The copies of a both-ways frame leave by F1 and F0 and count against R52. -/
def State.sendBoth (s : State) (f : Frame) : State :=
  (({ s with origTimes := s.origRecent ++ [s.lmc] }).sendCopy 1 f).sendCopy 0 f

/-- The hub may originate frames other than LINK_HELLO, DISC and PDELAY: the ring version is known and not 0, and the
hub holds a station or its ring is not open (R46, R79, R84). RECOVERY originates DICT responses only (R502). -/
def State.mayOriginate (s : State) : Bool :=
  s.reg Key.LINK_RING_VERSION != 0 && !(s.station == 0 && s.flag Key.DISC_RING_OPEN)

/-- The turn number that the hub's frames carry. -/
def State.turn (s : State) : Nat := s.reg Key.IMG_TURN_NUMBER

/-- The epoch in force: {D01.03} [7:0]. -/
def State.epoch (s : State) : Nat := s.reg Key.KEY_EPOCH_ERA % 256

/-- A tagged frame must wait: TIME_STATE is neither LOCKED nor MASTER, or FTIME lies below the tag floor that this run found
at its start (R480; DEDUCED, log 25: the floor that the run itself keeps writing lies ahead of FTIME at all times). -/
def State.tagWaits (s : State) : Bool :=
  !(s.reg Key.TSTAT_TIME_STATE == 2 || s.reg Key.TSTAT_TIME_STATE == 4) ||
    decide (s.ftime < s.keys.floor)

/-- DOMAIN 1 (`d1`) or DOMAIN 0 has used all its counter values in the current turn (R479). -/
def State.ivFull (s : State) (d1 : Bool) : Bool :=
  s.keys.ivTurn == s.turn && decide (65536 ≤ (if d1 then s.keys.iv1 else s.keys.iv0))

/-- A counter value of a DOMAIN is used in the current turn (R478, R479). -/
def State.ivUse (s : State) (d1 : Bool) : State :=
  let x := s.keys
  let x := if x.ivTurn = s.turn then x else { x with ivTurn := s.turn, iv0 := 0, iv1 := 0 }
  { s with keys := if d1 then { x with iv1 := x.iv1 + 1 } else { x with iv0 := x.iv0 + 1 } }

/-- A both-ways frame takes its number and leaves, or waits in the origination queue under the limit of R52. While the
hub's RESTART is on its way, frames wait for it (R77). A FENCE frame leaves by F1 alone, one way (R394). -/
def State.originateNow (s : State) (f : Frame) : State :=
  if s.disc.restartAt.isSome then { s with disc := { s.disc with restartHeld := s.disc.restartHeld ++ [f] } } else
  let f := { f with version := s.reg Key.LINK_RING_VERSION, source := s.station, bothWays := true, hops := 0,
                    seq := s.seqNext, turn := s.turn, epoch := s.epoch }
  if f.kind = 7 then
    (if f.tagged then { s.ivUse true with keys := { (s.ivUse true).keys with seq1 := (s.keys.seq1 + 1) % 65536 } }
     else s).sendCopy 1 { f with bothWays := false, seq := if f.tagged then s.keys.seq1 else 0 } else
  let s : State := { s.ivUse false with seqNext := (s.seqNext + 1) % 65536 }
  if s.origHeld.isEmpty && decide (s.origRecent.length < 4096) then s.sendBoth f
  else { s with origHeld := s.origHeld ++ [f] }.bump Key.COPPER_ORIG_CAP_HOLDS

/-- An image fence is pending (R392). -/
def State.imageFence (s : State) : Bool :=
  (List.range 16).any (fun i => fld (s.reg (Key.FENCE_SLOT i)) 31 28 == 2 && fld (s.reg (Key.FENCE_SLOT i)) 27 24 == 1)

/-- The hub originates `f` onto the ring (R48, R49). An IMAGE_WRITE waits while an image fence is pending (R392). A frame
to be tagged is sent untagged while the ring lacks AUTH (R477), is dropped by an unkeyed hub (R486), and waits under
R480. -/
def State.originate (s : State) (f : Frame) : State :=
  if !s.mayOriginate then s
  else if f.kind = 2 ∧ s.imageFence then { s with writeHeld := s.writeHeld ++ [(f, false, true)] }
  else if !f.tagged then s.originateNow f
  else if !s.feature 2 then s.originateNow { f with tagged := false }
  else if !s.flag Key.KEYED then s.bump Key.KEY_UNKEYED_DROPS
  else if s.tagWaits || s.ivFull (f.kind == 7) then { s with tagHeld := s.tagHeld ++ [f] }.bump Key.KEY_TAG_WAITS
  else s.originateNow f

/-! ## Answers, permits and writes -/

/-- Two paths belong to the same requester: the same station and client, or the host (R349). -/
def samePath : Path → Path → Bool
  | .mailbox, .mailbox => true
  | .uart, .uart => true
  | .peer, .peer => true
  | .dict a b _, .dict c d _ => a == c && b == d
  | _, _ => false

/-- A transaction of the maintenance owner restarts the idle time of R349. -/
def State.touch (s : State) (p : Path) : State :=
  match s.hub.owner with
  | some o => if samePath o p then { s with hub := { s.hub with touched := s.lmc } } else s
  | none => s

/-- Numbers of Table 13.6. -/
def Abort.code : Abort → Nat
  | .noObject => 0x0101 | .noSubindex => 0x0102 | .typeMismatch => 0x0103 | .valueRange => 0x0104 | .readOnly => 0x0105
  | .writeOnly => 0x0106 | .roleDenied => 0x0201 | .stateConflict => 0x0202 | .lifecycleDenied => 0x0203
  | .compatDenied => 0x0204 | .busy => 0x0301 | .timeout => 0x0302 | .timePassed => 0x0303 | .budgetExceeded => 0x0304
  | .authFail => 0x0401 | .epochStale => 0x0402 | .transferSequence => 0x0501 | .transferCrc => 0x0502
  | .hardwareFault => 0x0601 | .versionUnsupported => 0x0701

/-- The bytes of the response to `q`: its header with RESPONSE set, the abort code and the data (Table 13.5). -/
def responseBytes (q : Asked) (a : Option Abort) (data : List Byte) : List Byte :=
  beBytes 1 (0x10 + q.op) ++ beBytes 1 (0x80 + q.role * 8) ++ beBytes 1 (q.client * 16) ++ [0] ++ beBytes 2 q.tid ++
    beBytes 3 q.object ++ beBytes 1 q.ty ++ beBytes 2 ((a.map Abort.code).getD 0) ++ List.replicate 8 0 ++ data

/-- A frame of the maintenance UART: 0xA5, 0x5A, LENGTH, DICT header and data, CRC-32 over LENGTH, header and data (R504). -/
def uartFrame (dict : List Byte) : List Byte :=
  let b := beBytes 2 dict.length ++ dict
  [0xA5, 0x5A] ++ b ++ beBytes 4 (crc32 b)

/-- DICT header and data leave for the requester: in a DICT frame, tagged when the request was (Table 18.5), or on the UART. The
mailbox takes its response from the answers, and the peer gets none. -/
def State.sendDict (s : State) (p : Path) (dict : List Byte) : State :=
  match p with
  | .dict station _ tagged => s.originate { kind := 3, prio := 3, dest := station, tagged := tagged, payload := dict }
  | .uart => { s with uartSent := s.uartSent ++ [uartFrame dict] }
  | .mailbox => s
  | .peer => s

/-- A kept response's key beside the requester: CLIENT and TID (R355). -/
def keptKey (client tid : Nat) : Nat := client * 65536 + tid

/-- The hub answers the request of `p` about object `k`; where a DICT request asked, its response leaves and is kept
(R352, R355). -/
def State.answer (s : State) (p : Path) (k : Nat) (a : Option Abort) (data : List Byte) : State :=
  let s := { s.touch p with answers := s.answers ++ [⟨p, k, a, data⟩] }
  match s.dict.asked.find? (fun q => samePath q.path p && q.object == k) with
  | none => s
  | some q =>
    let bytes := responseBytes q a data
    let s := { s with dict := { s.dict with
      asked := s.dict.asked.erase q
      kept := ((q.path, keptKey q.client q.tid, s.lmc, bytes) :: s.dict.kept).take 256 } }
    (if a.isSome then s.bump Key.DICT_ABORTS else s).sendDict q.path bytes

/-- The rejection counter of object `k` (R358). -/
def State.rejections (s : State) (k : Nat) : Nat := cellGet (fun _ => 0) s.rejects k

/-- A refused write: counted in the object's rejection counter, which saturates, and answered with `a`; nothing else
changes (R10, R358). -/
def State.refuse (s : State) (w : Writer) (k : Nat) (a : Abort) : State :=
  { s.answer w.path k (some a) [] with
    rejects := cellSet (fun _ => 0) s.rejects k (min (s.rejections k + 1) 0xFFFFFFFF) }

/-- The rank of a role code of Table 13.5; codes 5 to 7 rank above every ceiling. -/
def roleOfCode : Nat → Option Role
  | 0 => some .pub | 1 => some .operator | 2 => some .engineer | 3 => some .service | 4 => some .vendor
  | _ => none

/-- Life-cycle states BLANK and RETURNED lift every ceiling to V (R351). -/
def State.openLife (s : State) : Bool := s.reg Key.LC_STATE == 0 || s.reg Key.LC_STATE == 3

/-- The role ceiling of a path (R351, R504). -/
def State.ceiling (s : State) (p : Path) : Nat :=
  if s.openLife then 4 else match p with
  | .mailbox => s.reg Key.ACCESS_HOST_CEILING
  | .dict _ _ tagged => if tagged then 3 else s.reg Key.ACCESS_UNAUTH_CEILING
  | .uart => if s.inRecovery then 3 else 0
  | .peer => 4

/-- The writer's role is at or above `r` and at or below its path's ceiling (R9, R351). -/
def State.roleOk (s : State) (w : Writer) (r : Role) : Bool :=
  decide (roleRank r ≤ roleRank w.role) && decide (roleRank w.role ≤ s.ceiling w.path)

/-- The present state is one of those an access entry lists (R9). In RECOVERY only the recovery range is gated, by role
alone. -/
def State.stateOk (s : State) (mask : Nat) : Bool :=
  if s.inRecovery then mask == 64 else decide (s.hub.mode.bit &&& mask ≠ 0)

/-- The two's-complement width of a signed type. -/
def OType.signed : OType → Bool
  | .i8 => true | .i16 => true | .i32 => true | .i64 => true | .ftime => true
  | _ => false

/-- `v` lies in the object's own range (R345): a BOOL is 0 or 1, a W20 has no reserved quality code. -/
def ObjRow.inRange (r : ObjRow) (v : Nat) : Bool :=
  match r.ty with
  | .bool => decide (v ≤ 1)
  | .w20 => decide (v < 2 ^ 20) && wQual v != 3 && wQual v != 14
  | .string => true
  | .octets => true
  | .array => true
  | t =>
    let x : Int := if t.signed then toSigned (8 * r.size) v else v
    (decide (r.lo ≤ x) && decide (x ≤ r.hi)) || (r.zeroToo && v == 0)

/-- A write that compatibility mode denies (R357, step 7): priority order (R176), enabling a tunnel (Table 12.5), a remote
target (R387); and outside compatibility mode a bridge (R341). -/
def State.denied (s : State) (k v : Nat) : Option Abort :=
  let i := k / 256
  if 0x310 ≤ i ∧ i ≤ 0x31F ∧ k % 256 ≤ 24 ∧ bitOf v 8 ∧ s.compat then some .compatDenied
  else if 0x780 ≤ i ∧ i ≤ 0x78F ∧ bitOf (v / 256 ^ 13) 7 ∧ s.compat then some .compatDenied
  else if 0x810 ≤ i ∧ i ≤ 0x817 ∧ fld v 54 51 ≠ 0 ∧ s.compat then some .compatDenied
  else if i = 0x7E0 ∧ !s.compat then some .compatDenied
  else none

/-- The checks of R357, steps 3 to 9, for a write: the object exists, accepts writes, the value has its size, and the
role and the hub state allow it. A SYNC_WRITE of the peer is applied without role or state checks (R414). -/
def State.permit (s : State) (w : Writer) (k v : Nat) : Option Abort :=
  match objRow k with
  | none => some (if objIndexExists k then .noSubindex else .noObject)
  | some r =>
    match r.access with
    | .ro => some .readOnly
    | .const => some .readOnly
    | .rw role mask _ | .wo role mask _ =>
      if s.inRecovery && k / 256 < 0xE80 then some .noObject
      else if 2 ^ (8 * r.size) ≤ v then some .typeMismatch
      else if (s.denied k v).isSome then s.denied k v
      else if w.path = .peer then none
      else if !s.roleOk w role then some .roleDenied
      else if !s.stateOk mask then some .stateConflict
      else none

/-- The object's own range, as the first of its own checks (R357, step 10). -/
def rangeCheck (k v : Nat) : Option Abort :=
  match objRow k with
  | none => some .noObject
  | some r => if r.inRange v then none else some .valueRange

/-- The bits of a written value that reach the register: reserved bits are ignored (R7). -/
def maskValue (k v : Nat) : Nat :=
  match objRow k with
  | none => v
  | some r => if r.mask = 0 then v else v &&& r.mask

/-- A write is replicated to the peer unless its object is kept per hub (Table 15.9). -/
def replicated (k : Nat) : Bool :=
  let i := k / 256
  let j := k % 256
  if i ≤ 0x0FF then k == Key.HUB_AUTO_OPERATE || k == Key.HUB_MAINT_IDLE || (i == 0x030 && 1 ≤ j && j ≤ 4)
  else if i ≤ 0x1FF then false
  else if 0x2C4 ≤ i && i ≤ 0x2D0 then false
  else if 0x680 ≤ i && i ≤ 0x687 then false
  else if 0x400 ≤ i && i ≤ 0x4FF then !(0x0C ≤ j && j ≤ 0x0E)
  else if 0xA00 ≤ i && i ≤ 0xBFF then false
  else if 0xD00 ≤ i && i ≤ 0xDFF then false
  else if 0xE00 ≤ i then false
  else true

/-- An accepted value is stored: its reserved bits ignored, DIRTY set when a persistent object changes
({040.08}). -/
def State.store (s : State) (k v : Nat) : State :=
  let v' := maskValue k v
  let s' := s.setReg k v'
  if objIsPersistent k && s.reg k != v' then s'.setReg Key.PARAM_DIRTY 1 else s'

/-! ## The peer (R413 to R418) -/

/-- SYNC_SEQ of the next SYNC_WRITE. -/
def State.syncSeq (s : State) : Nat := (s.twin.seq + 1) % 2 ^ 32

/-- A TWIN frame leaves by the tie link (R15, R415), tagged under TWIN_AUTH by a keyed hub whose ring has AUTH, and then
waiting under R479 and R480 (Table 18.5). -/
def State.sendTwinAs (s : State) (prio : Nat) (mayTag : Bool) (payload : List Byte) : State :=
  let tagged := mayTag && s.flag Key.KEY_TWIN_AUTH && s.flag Key.KEYED && s.feature 2
  let f : Frame := { kind := 9, prio := prio, payload := payload, tagged := tagged, epoch := s.epoch, turn := s.turn
                     version := s.reg Key.LINK_RING_VERSION }
  if !tagged then s.sendLocal 2 f
  else if s.tagWaits || s.ivFull true then { s with tagHeld := s.tagHeld ++ [f] }.bump Key.KEY_TAG_WAITS
  else
    let q := s.keys.seq1
    { s.ivUse true with keys := { (s.ivUse true).keys with seq1 := (q + 1) % 65536 } }.sendLocal 2 { f with seq := q }

/-- A TWIN frame that is tagged whenever the settings ask for it. -/
def State.sendTwin (s : State) (prio : Nat) (payload : List Byte) : State := s.sendTwinAs prio true payload

/-- The ACTIVE hub sends the peer an accepted write as a SYNC_WRITE (R414, Table 15.8). -/
def State.sendSync (s : State) (k : Nat) (value : List Byte) : State :=
  let ty := match objRow k with
    | some r => r.ty.code
    | none => 0
  let q := s.syncSeq
  ({ s with twin := { s.twin with seq := q } }.bump Key.TWC_SYNC_WRITES).sendTwin 6
    ([4, 0, 0, 0] ++ beBytes 4 q ++ beBytes 3 k ++ beBytes 1 ty ++ beBytes 2 value.length ++ value)

/-- The bytes of a value of object `k` (R345). -/
def valueBytes (k v : Nat) : List Byte := match objRow k with
  | some r => beBytes r.size v
  | none => []

/-- A write that the peer follows: accepted on the ACTIVE hub of a pair, to a replicated object, and not one that the
peer itself sent (R414, R416). -/
def State.syncs (s : State) (w : Writer) (k : Nat) : Bool :=
  decide (s.role = .active) && replicated k && decide (w.path ≠ .peer)

/-- An accepted write is passed to the peer and answered; while the peer is READY the answer waits for its
acknowledgement (R414). -/
def State.accepted (s : State) (w : Writer) (k v : Nat) : State :=
  if !s.syncs w k then s.answer w.path k none []
  else
    let s := s.sendSync k (valueBytes k (maskValue k v))
    if s.peerReady then
      { s.touch w.path with twin := { s.twin with waits := s.twin.waits ++ [(s.twin.seq, ⟨w.path, k, none, []⟩)] } }
    else s.answer w.path k none []

/-- The turn period in force, in ns (R98, R99). -/
def State.turnLen (s : State) : Nat := 31250 * 2 ^ s.img.exp.getD (s.reg Key.IMG_TURN_PERIOD_EXP)

/-- The ACTIVE hub proposes a planned handover for b_h, the first turn boundary at least HANDOVER_LEAD ahead (R417); one
for key loss is sent untagged (R487). While one is proposed, no other is. -/
def State.propose (s : State) (cause : Nat) : State :=
  if s.role ≠ .active ∨ s.twin.proposed.isSome then s
  else
    let t := s.turnLen
    let b := (s.ftime.toNat + s.reg Key.TWIN_HANDOVER_LEAD * 1000000 + t - 1) / t * t
    ({ s with twin := { s.twin with proposed := some ((b : Int), cause), agreed := false } }.setReg Key.TWST_HANDOVER_AT b).sendTwinAs 7
      (cause != 7) ([6] ++ beBytes 1 cause ++ [0, 0] ++ beBytes 8 b ++ beBytes 4 (b / t % 2 ^ 32))

/-- The HEARTBEAT frame's payload (Table 15.8). -/
def State.heartbeat (s : State) : List Byte :=
  let flags := b2n (s.flag Key.TWST_READY) * 128 + b2n s.twin.seizing * 64 + b2n (s.flag Key.TWST_PREFERRED) * 32 +
    b2n s.straps.twinPosA * 16 + b2n s.straps.prim * 8 +
    b2n (s.flag Key.TWIN_REVERT && !s.flag Key.TWIN_REVERT_PAUSE) * 4
  [1] ++ beBytes 1 s.role.code ++ beBytes 1 (s.reg Key.TWST_GRADE) ++ beBytes 1 flags ++ beBytes 4 s.twin.seq ++
    beBytes 8 (ofSigned 64 s.ftime) ++ beBytes 4 s.turn ++ beBytes 4 (s.reg Key.TWST_SELFTEST) ++ beBytes 4 s.hubState

/-! ## Writes -/

/-- A write by `w` of `v` to object `k`, with the object's own further checks `own` and its effect `eff` (R9, R10,
R357). A refused write only counts and answers. -/
def State.write (s : State) (w : Writer) (k v : Nat) (own : State → Option Abort) (eff : State → State) : State :=
  match s.permit w k v with
  | some a => s.refuse w k a
  | none => match rangeCheck k v with
    | some a => s.refuse w k a
    | none => match own s with
      | some a => s.refuse w k a
      | none => (eff s).accepted w k v

/-- No further checks. -/
def noCheck (_ : State) : Option Abort := none

/-- A command write to a WO BOOL object: 1 gives the command; 0 is answered OK and does nothing (R536). -/
def State.command (s : State) (w : Writer) (k v : Nat) (own : State → Option Abort) (eff : State → State) : State :=
  if v = 0 then s.write w k v noCheck id else s.write w k v own eff

/-! ## Events -/

/-- Event source `n`. -/
def State.src (s : State) (n : Nat) : SrcSt := cellGet (fun _ => {}) s.sources n

/-- Event source `n` becomes `e`. -/
def State.setSrc (s : State) (n : Nat) (e : SrcSt) : State :=
  { s with sources := cellSet (fun _ => {}) s.sources n e }

/-- SOURCE_CFG of source `n` (Table 14.2, R396). -/
def State.srcCfg (s : State) (n : Nat) : Nat := s.reg (Key.SRC_SOURCE_CFG (n / 128) (n % 128))

/-- The source is offered to targets. -/
def cfgEnable (c : Nat) : Bool := bitOf c 15

/-- A ring 0 record is written for each raise. -/
def cfgRing (c : Nat) : Bool := bitOf c 14

/-- PRIORITY of a SOURCE_CFG. -/
def cfgPrio (c : Nat) : Nat := fld c 63 56

/-- HANDLER_TAG of a SOURCE_CFG. -/
def cfgTag (c : Nat) : Nat := fld c 31 16

/-- VECTOR of a SOURCE_CFG: 0 selects vector 5. -/
def cfgVector (c : Nat) : Nat := if fld c 47 40 = 0 then 5 else fld c 47 40

/-- Reset values of the BAR0 registers (Table 13.10): SIZE_LOG2 4, MOD_COUNT 1 and TIMEOUT_MS 1000; the others are 0. -/
def barDefault (o : Nat) : Nat :=
  if o = 0x108 ∨ o = 0x128 ∨ o = 0x148 then 4
  else if o = 0x114 ∨ o = 0x134 ∨ o = 0x154 then 1
  else if o = 0x41C then 1000
  else 0

/-- BAR0 register at offset `o`. -/
def State.bar (s : State) (o : Nat) : Nat := cellGet barDefault s.bar0 o

/-- BAR0 register at offset `o` becomes `v`. -/
def State.setBar (s : State) (o v : Nat) : State := { s with bar0 := cellSet barDefault s.bar0 o v }

/-- Registers of DMA ring `r` (Table 13.10). -/
def ringAt (r o : Nat) : Nat := o + 0x20 * r

/-- Slots of ring `r`, and the slot it writes next. -/
def State.ringSize (s : State) (r : Nat) : Nat := 2 ^ (s.bar (ringAt r 0x108) % 32)
def State.ringHead (s : State) (r : Nat) : Nat := s.bar (ringAt r 0x10C)

/-- SIZE_LOG2 of ring `r` lies in 4 to 16. -/
def State.ringOk (s : State) (r : Nat) : Bool :=
  decide (4 ≤ s.bar (ringAt r 0x108) % 32) && decide (s.bar (ringAt r 0x108) % 32 ≤ 16)

/-- Ring `r` runs: DMA_EN and its ENABLE are set and its size is legal. -/
def State.ringOn (s : State) (r : Nat) : Bool := bitOf (s.bar 0x24) 0 && bitOf (s.bar (ringAt r 0x108)) 31 && s.ringOk r

/-- Slots of ring `r` that the hub may still write: it is full when HEAD − TAIL is its size less 1 (R368). -/
def State.ringFree (s : State) (r : Nat) : Nat :=
  let n := s.ringSize r
  n - 1 - (s.ringHead r + n - s.bar (ringAt r 0x110) % n) % n

/-- HOST_READY of BAR0 0x0024 is set and the PCIe link is up (R379). -/
def State.hostReady (s : State) : Bool := bitOf (s.bar 0x24) 1 && s.reg Key.HOST_LINK != 0

/-- Target `t` is ready (R379): 0 CPA, 1 CPB, 2 HOST, 3 to 6 REM0 to REM3. -/
def State.targetReady (s : State) (t : Nat) : Bool :=
  if t ≤ 1 then s.fwOn
  else if t = 2 then s.hostReady
  else if t ≤ 6 then
    s.flag (Key.REM_ENABLE (t - 3)) && s.reg (Key.REM_STATION (t - 3)) != 0 &&
      bitOf (s.reg Key.FEAT_RING_FEATURES) 4 && decide (s.role ≠ .standby) && !s.compat
  else false

/-- The target that R380 assigns a source of mask `mask` to: the first ready one at or after the rotation pointer. -/
def State.pickTarget (s : State) (mask rot : Nat) : Option Nat :=
  ((List.range 7).map (fun i => (rot + i) % 7)).find? (fun t => bitOf mask t && s.targetReady t)

/-- The EVENT frame of an offer to REMr (Table 14.4). -/
def eventFrame (s : State) (n r : Nat) (e : SrcSt) : Frame :=
  { kind := 5, prio := 5, dest := s.reg (Key.REM_STATION r), tagged := s.flag Key.EVT_EVENT_AUTH,
    payload := beBytes 1 0x10 ++ beBytes 1 (s.reg (Key.REM_CLIENT r) * 16) ++ beBytes 2 n ++
      beBytes 2 (cfgTag (s.srcCfg n)) ++ beBytes 2 e.delivery ++ beBytes 1 (cfgPrio (s.srcCfg n)) ++
      beBytes 1 e.offers ++ beBytes 2 0 ++ beBytes 8 (ofSigned 64 e.raisedAt) ++ beBytes 4 (min e.merged 0xFFFFFFFF) ++
      beBytes 8 e.data }

/-- An enabled source that is PENDING and unassigned is assigned to a ready target of its mask (R380); an assignment to
a remote target sends the EVENT frame and makes the source ACTIVE there (R384, R385). -/
def State.assign (s : State) (n : Nat) : State :=
  let e := s.src n
  let c := s.srcCfg n
  if e.st = 1 ∧ e.target = 7 ∧ cfgEnable c then
    match s.pickTarget (fld c 55 48) e.rot with
    | none => s
    | some t =>
      if t ≤ 2 then s.setSrc n { e with target := t, rot := (t + 1) % 7, offers := min (e.offers + 1) 255, fired := false }
      else
        let e' := { e with st := 2, target := t, rot := (t + 1) % 7, offers := min (e.offers + 1) 255,
                           delivery := (s.deliveries + 1) % 65536, offeredAt := s.lmc }
        (({ s with deliveries := s.deliveries + 1 }.setSrc n { e' with merged := 0 }).originate
          (eventFrame s n (t - 3) e')).bump (Key.REM_OFFERS (t - 3))
  else s

/-- Priority group of a PRIORITY value under PREEMPT_BITS (R378). -/
def State.group (s : State) (prio : Nat) : Nat := prio / 2 ^ (8 - s.reg Key.EVT_PREEMPT_BITS)

/-- Sources with an entry, in ascending number, that satisfy `p`. -/
def State.srcsWith (s : State) (p : SrcSt → Bool) : List Nat := (s.sources.filter (fun c => p c.2)).map (·.1)

/-- The most urgent of sources: lowest PRIORITY, ties to the lower number (R378). -/
def State.mostUrgent (s : State) : List Nat → Option Nat
  | [] => none
  | n :: ns => match s.mostUrgent ns with
    | none => some n
    | some m => if cfgPrio (s.srcCfg n) ≤ cfgPrio (s.srcCfg m) then some n else some m

/-- The source that a CLAIM of local target `t` would return: the most urgent PENDING source assigned to it that
pre-empts it (R378, R381). -/
def State.claimable (s : State) (t : Nat) : Option Nat :=
  match s.mostUrgent (s.srcsWith (fun e => e.st == 1 && e.target == t)) with
  | none => none
  | some n =>
    if (s.srcsWith (fun e => e.st == 2 && e.target == t)).all
        (fun a => decide (s.group (cfgPrio (s.srcCfg n)) < s.group (cfgPrio (s.srcCfg a)))) then some n
    else none

/-- When a source comes to pre-empt HOST its vector fires, once for each such offer (R382). -/
def State.fireHost (s : State) : State :=
  match s.claimable 2 with
  | none => s
  | some n =>
    if (s.src n).fired then s
    else { s with msix := s.msix ++ [cfgVector (s.srcCfg n)] }.setSrc n { s.src n with fired := true }

/-- Every PENDING unassigned source is assigned where it can be (R380), and HOST's vector fires (R382). -/
def State.settle (s : State) : State :=
  ((s.srcsWith (fun e => e.st == 1 && e.target == 7)).foldl (fun s n => s.assign n) s).fireHost

/-- A raise of a source whose RING bit is set queues a ring 0 record; one that finds 1024 queued is lost and counted,
and the next stored record carries LOSS (R388). -/
def State.queueRecord (s : State) (n data : Nat) : State :=
  if !cfgRing (s.srcCfg n) then s
  else if 1024 ≤ s.records.length then { s with recordLoss := true }.bump Key.EVT_RECORDS_LOST
  else { s with records := s.records ++ [(n, cfgTag (s.srcCfg n), data, s.recordLoss)], recordLoss := false
                recordsIn := s.recordsIn + 1 }

/-- The source's own part of a raise (R376). -/
def SrcSt.raised (e : SrcSt) (data : Nat) (now : Int) : SrcSt :=
  { e with raises := min (e.raises + 1) 65535, data := data, merged := e.merged + 1
           raisedAt := if e.st = 0 then now else e.raisedAt
           st := if e.st = 0 then 1 else e.st
           target := if e.st = 0 then 7 else e.target
           offers := if e.st = 0 then 0 else e.offers
           again := e.again || e.st == 2 }

/-- An occurrence of event source `n` with DATA `data` (R375, R376, R380, R388). -/
def State.raise (s : State) (n data : Nat) : State :=
  (((s.setSrc n ((s.src n).raised data s.ftime)).queueRecord n data).assign n).fireHost

/-- Source `n`, ACTIVE, completes: IDLE, or PENDING again if it was raised meanwhile, and then assigned afresh (R381). -/
def State.completeSrc (s : State) (n : Nat) : State :=
  let e := s.src n
  (if e.again then
    s.setSrc n { e with st := 1, target := 7, again := false, offers := 0, fired := false, raisedAt := s.ftime }
  else s.setSrc n { e with st := 0, target := 7, offers := 0, merged := 0, fired := false }).settle

/-! ## Whisks under SAFE and roles -/

/-- Whisk `w`. -/
def State.whisk (s : State) (w : Nat) : WhiskSt := cellGet (fun _ => {}) s.whisks w

/-- Whisk `w` becomes `x`. -/
def State.setWhisk (s : State) (w : Nat) (x : WhiskSt) : State :=
  { s with whisks := cellSet (fun _ => {}) s.whisks w x }

/-- Whisk `w` changes STATE, which raises its event source (Table 14.1, 624 + w). -/
def State.whiskTo (s : State) (w : Nat) (x : WhiskSt) : State :=
  if (s.whisk w).st = x.st then s.setWhisk w x else (s.setWhisk w x).raise (624 + w) x.st

/-- Slots of Whisk `w` that are in use and drive-capable: every kind but unused and RO (R263). -/
def State.driveSlots (s : State) (w : Nat) : Nat :=
  ((List.range 8).filter (fun i =>
    let k := fld (s.reg (Key.WK_SLOT w i)) 15 12
    k = 1 || k = 3 || k = 4 || (k = 2 &&
      4 ≤ s.reg (Key.DL_MODE (16 * (w / 2) + fld (s.reg (Key.WK_SLOT w i)) 11 8))))).foldl (fun a i => a + 2 ^ i) 0

/-- `k` Whisk cycles in ns from accumulator value `acc`, and the accumulator after them (R262): each cycle lasts floor(D)
or ceil(D) Pan clocks of 5 ns, D = INT + FRAC ÷ 256. -/
def State.whiskCycles (s : State) (w acc k : Nat) : Nat × Nat :=
  let t := acc + k * (s.reg (Key.WK_DIVIDER w) % 2 ^ 24)
  (t / 256 * 5, t % 256)

/-- RESTART (R279): counts cleared, counters and patterns loaded, flags cleared, the window driven to IDLE_PATTERN, and
step 0 entered in the following cycle; both stores are kept. -/
def State.whiskRestart (s : State) (w : Nat) : State :=
  let x := s.whisk w
  let d := s.driveSlots w
  let idle := s.reg (Key.WK_IDLE_PATTERN w)
  s.whiskTo w { x with
    st := 1, step := 0, entering := true, txs := 0, rxs := 0, outCount := 0, inCount := 0
    cta := s.reg (Key.WK_CTA_INIT w), ctb := s.reg (Key.WK_CTB_INIT w)
    pa := s.reg (Key.WK_PA_INIT w), pb := s.reg (Key.WK_PB_INIT w)
    partner := false, trigger := false, stallSince := none, safeHalt := false, dwelling := false, given := false
    levels := idle % 256, driven := (idle / 256) &&& d, at_ := s.lmc + (s.whiskCycles w 0 1).1, acc := 0 }

/-- FLAGS bit `i` of Whisk `w`: 0 NODOZE, 1 RUN_ON_STANDBY, 2 SAFE_RUN, 3 AUTOSTART. -/
def State.whiskFlag (s : State) (w i : Nat) : Bool := bitOf (s.reg (Key.WK_FLAGS w)) i

/-- SAFE begins for Whisk `w`: without SAFE_RUN it halts at once with its step saved (R282). -/
def State.whiskSafe (s : State) (w : Nat) : State :=
  let x := s.whisk w
  if (x.st = 1 ∨ x.st = 2 ∨ x.st = 3) ∧ !s.whiskFlag w 2 then s.whiskTo w { x with st := 4, safeHalt := true } else s

/-- SAFE ends for Whisk `w`: a Whisk that SAFE halted executes RESTART (R282). -/
def State.whiskUnsafe (s : State) (w : Nat) : State := if (s.whisk w).safeHalt then s.whiskRestart w else s

/-- `f` for each Whisk of Pan `n`. -/
def State.eachWhisk (s : State) (ws : List Nat) (f : State → Nat → State) : State := ws.foldl f s

/-! ## The fault collector -/

/-- Fault source `n`. -/
def State.flt (s : State) (n : Nat) : FltSt := cellGet (fun _ => {}) s.faults n

/-- Fault source `n` becomes `f`. -/
def State.setFlt (s : State) (n : Nat) (f : FltSt) : State :=
  { s with faults := cellSet (fun _ => {}) s.faults n f }

/-- FAULT_CFG of fault source `n` (Table 16.3). -/
def State.fltCfg (s : State) (n : Nat) : Nat := s.reg (Key.FLT_FAULT_CFG (n / 128) (n % 128))

/-- A window or quiet time of a unit code and a value, in ns (Table 16.3). -/
def fltSpan (unit value : Nat) : Nat :=
  value * (if unit = 0 then 1000000 else if unit = 1 then 1000000000 else 60000000000)

/-- The Pan that owns a source's item (Table 16.1), where the source names one. -/
def faultPan (n : Nat) : Option Nat :=
  if 0x0C0 ≤ n ∧ n ≤ 0x17F then some (n % 16)
  else if 0x180 ≤ n ∧ n ≤ 0x19F then some ((n - 0x180) / 2)
  else if 0x1A0 ≤ n ∧ n ≤ 0x1BF then some (n % 16)
  else none

/-- The port or channel that a source's item names (Table 16.1): a kind and a number. Kinds: 0 fabric port, 1 switch
port, 2 tunnel, 3 discrete line, 4 CAN, 5 RS-485, 6 IO-Link, 8 branch fuse, 9 queue of a Pan. -/
def faultPort (n item : Nat) : Option (Nat × Nat) :=
  if 0x004 ≤ n ∧ n ≤ 0x027 then (if item < 4 then some (0, item) else none)
  else if n = 0x04B ∨ (0x050 ≤ n ∧ n ≤ 0x052) then some (1, item)
  else if n = 0x058 then some (2, item)
  else if 0x0E0 ≤ n ∧ n ≤ 0x0EF then some (3, item)
  else if 0x100 ≤ n ∧ n ≤ 0x12F then some (4, item)
  else if 0x130 ≤ n ∧ n ≤ 0x13F then some (5, item)
  else if 0x140 ≤ n ∧ n ≤ 0x17F then some (6, item)
  else if 0x1A0 ≤ n ∧ n ≤ 0x1BF then some (8, item)
  else none

/-- Reaction `code` with `item` is in force through some source that is IN_FAULT (R429). -/
def State.reactionIn (s : State) (p : Nat → Nat × Nat → Bool) : Bool :=
  s.faults.any (fun c => c.2.inFault && c.2.reactions.any (p c.1))

/-- A PORT_OFF reaction stops the port or channel of kind `kind` and number `i` (R428, Table 16.2). -/
def State.portOff (s : State) (kind i : Nat) : Bool :=
  s.reactionIn (fun n r => r.1 == 2 && faultPort n r.2 == some (kind, i))

/-- Pan `p` is in SAFE by a PAN_SAFE reaction (Table 16.2). -/
def State.panSafe (s : State) (p : Nat) : Bool :=
  s.reactionIn (fun n r => r.1 == 3 && faultPan n == some p)

/-- A HUB_SAFE reaction holds the hub in SAFE (Table 16.2). -/
def State.hubHeld (s : State) : Bool := s.reactionIn (fun _ r => r.1 == 4)

/-- A reaction on a STANDBY hub clears READY while its source stays IN_FAULT (R429). -/
def State.readyCleared (s : State) : Bool := s.reactionIn (fun _ r => r.1 == 6)

/-! ## Output lines and pins -/

/-- Discrete line `i`. -/
def State.line (s : State) (i : Nat) : LineSt := cellGet (fun _ => {}) s.lines i

/-- Discrete line `i` becomes `l`. -/
def State.setLine (s : State) (i : Nat) (l : LineSt) : State := { s with lines := cellSet (fun _ => {}) s.lines i l }

/-- PX pin `x`. -/
def State.px (s : State) (x : Nat) : PxSt := cellGet (fun _ => {}) s.pxs x

/-- PX pin `x` becomes `p`. -/
def State.setPx (s : State) (x : Nat) (p : PxSt) : State := { s with pxs := cellSet (fun _ => {}) s.pxs x p }

/-- The first two causes of row 5 of Table 7.5: the hub is not in OPERATE (MAINT counting as its RETURN_STATE), or Pan
`n` is in SAFE by fault reaction. -/
def State.heldSafe (s : State) (n : Nat) : Bool := decide (s.outMode ≠ .operate) || s.panSafe n

/-- A safe state begins where `p` holds of a Pan: lines and pins not yet at their safe states remember the last value
driven, for HOLD (R192, R285). -/
def State.keepLast (s : State) (p : Nat → Bool) : State :=
  let t := s.lines.foldl (fun t c =>
    if p (c.1 / 16) && !s.heldSafe (c.1 / 16) && !(t.line c.1).safeCmd && !s.field.safe then
      t.setLine c.1 { t.line c.1 with last := (t.line c.1).cmd }
    else t) s
  s.pxs.foldl (fun t c =>
    if p (c.1 / 4) && !s.heldSafe (c.1 / 4) && !(t.px c.1).safeCmd then
      t.setPx c.1 { t.px c.1 with last := (t.px c.1).cmd }
    else t) t

/-- What lets the field outputs be driven has changed now. -/
def State.unsteady (s : State) : State := { s with field := { s.field with steadyAt := s.lmc } }

/-! ## Hub state changes -/

/-- Field outputs are held in SAFE by the hub: its mode, or a HUB_SAFE hold while a session is open (R428). -/
def State.outSafe (s : State) : Bool := decide (s.outMode = .safe)

/-- The hub state becomes `m` with SAFE_CAUSE `cause`: counted, signalled by source 2, told to the peer at once,
and the Whisks follow (R348, R414, R282). -/
def State.setMode (s : State) (m ret : HubMode) (cause : Nat) : State :=
  let was := s.outSafe
  let changed := decide (s.hub.mode ≠ m)
  let leaves := decide (s.outMode = .operate) && !(decide (m = .operate) || (decide (m = .maint) && decide (ret = .operate)))
  let s := if leaves then s.keepLast (fun _ => true) else s
  let s := if changed then s.unsteady else s
  let s := { s with hub := { s.hub with mode := m, ret := ret, cause := cause, opWaits := false } }
  let s := if changed then s.bump Key.HUB_STATE_CHANGES else s
  let s := s.raise 2 s.hubState
  let s := if s.role = .active then s.sendTwin 7 s.heartbeat else s
  let s := if !was && s.outSafe then s.eachWhisk (List.range 32) State.whiskSafe else s
  if was && !s.outSafe then s.eachWhisk (List.range 32) State.whiskUnsafe else s

/-- The hub enters SAFE with `cause` (R428): at once from PREOP and OPERATE; in MAINT the session stays open with SAFE
as its RETURN_STATE; in INIT only the hold stands. DEDUCED (log 14). -/
def State.enterSafe (s : State) (cause : Nat) : State :=
  match s.hub.mode with
  | .preop => s.setMode .safe .init cause
  | .operate => s.setMode .safe .init cause
  | .safe => s
  | .init => s
  | .maint => s.setMode .maint .safe cause

/-- Pan `p` enters SAFE by reaction: its Whisks follow R282. -/
def State.panEnterSafe (s : State) (p : Nat) : State := s.unsteady.eachWhisk [2 * p, 2 * p + 1] State.whiskSafe

/-- The effect of a reaction code on this hub and source: PORT_OFF without a port acts as EVENT, PAN_SAFE without a Pan
and TWIN_HANDOVER that cannot be planned act as HUB_SAFE, and on a STANDBY hub 3 to 5 only clear READY (Table 16.2,
R429). -/
def State.reactionOf (s : State) (n item code : Nat) : Nat :=
  if code = 2 then (if (faultPort n item).isSome then 2 else 1)
  else if 3 ≤ code ∧ s.role = .standby then 6
  else if code = 3 then (if (faultPan n).isSome then 3 else 4)
  else if code = 5 then (if s.role = .active ∧ s.peerReady then 5 else 4)
  else code

/-- A fabric port that PORT_OFF stops goes to DISABLED, as if disabled (Table 16.2). -/
def State.portStop (s : State) (n item : Nat) : State :=
  match faultPort n item with
  | some (0, f) => s.setReg (Key.PORT_STATE f) 0
  | _ => s

/-- Reaction `r` (as `reactionOf` gives it) of source `n` is applied. -/
def State.react (s : State) (n item r : Nat) : State :=
  let s := if r = 3 then s.keepLast (fun q => faultPan n == some q) else s
  let s := s.setFlt n { s.flt n with reactions := (r, item) :: (s.flt n).reactions }
  if r = 1 then s.raise 3 n
  else if r = 2 then s.portStop n item
  else if r = 3 then (match faultPan n with
    | some p => s.panEnterSafe p
    | none => s)
  else if r = 4 then s.enterSafe 2
  else if r = 5 then s.propose 5
  else s

/-- A trigger (R441): while no pinned record fills, it opens the next one with a trigger entry; while one fills, its
entry lands there and NESTED_TRIGGERS counts. -/
def State.trigger (s : State) (kind source : Nat) : State :=
  let slot := s.reg Key.CRU_PINNED_NEXT
  let snap := s.reg Key.CRU_SNAP_NEXT
  if s.cru.filling = 0 ∧ !s.cru.queue.any (fun e => e.opens) then
    let s := s.log 5 0 (beBytes 1 kind ++ beBytes 2 source ++ beBytes 1 snap ++ beBytes 2 slot)
    { s with cru := { s.cru with
        queue := s.cru.queue.dropLast ++ (s.cru.queue.drop (s.cru.queue.length - 1)).map (fun e => { e with opens := true }) } }
  else (s.log 5 0 (beBytes 1 kind ++ beBytes 2 source ++ beBytes 1 0xFF ++ beBytes 2 0)).bump Key.CRU_NESTED_TRIGGERS

/-- The occurrence's own part of the source (R424, R427): counts, times and the latch. -/
def FltSt.occurred (f : FltSt) (cause : Nat) (forced : Bool) (now : Int) (lmc : Nat) : FltSt :=
  { f with
    inFault := true, forced := forced
    occurrences := min (f.occurrences + 1) 0xFFFFFFFF
    latched := true
    firstCause := if f.latched then f.firstCause else cause
    firstTime := if f.latched then f.firstTime else now
    lastTime := now, lastAt := lmc
    window := (lmc :: f.window).take 255
    live := f.live || false }

/-- The severity an occurrence gives (R427): MAJOR when the N most recent occurrences all lie in (t − W, t], CRITICAL
where the class bit is set; it never falls while IN_FAULT. -/
def State.severityAfter (s : State) (n : Nat) (f : FltSt) : Nat :=
  let c := s.fltCfg n
  let need := fld c 53 46
  let w := fltSpan (fld c 45 44) (fld c 43 32)
  let recent := f.window.take need
  if recent.length = need ∧ recent.all (fun t => decide (s.lmc < t + w)) then
    max f.severity (if bitOf (s.reg Key.FLT_CRITICAL_MASK) (fld c 56 54) then 2 else 1)
  else f.severity

/-- One occurrence of fault source `n` with its cause word, forced or real, reaches the collector (R424 to R429, R432,
R433): the Crucible entry (or the lost record), the severity, and the reactions of entering IN_FAULT and of each rise.
The entry's `reaction applied` is the last reaction this occurrence applies, 0xFF none. -/
def State.occurX (s : State) (n cause : Nat) (forced : Bool) (detail : List Byte) : State :=
  let old := s.flt n
  let item := cause / 65536 % 65536
  let f := old.occurred cause forced s.ftime s.lmc
  let sev := s.severityAfter n { f with severity := if old.inFault then old.severity else 0 }
  let oldSev := if old.inFault then old.severity else 0
  let c := s.fltCfg n
  let enter := !old.inFault
  let rise := decide (oldSev < sev)
  let upper := if sev = 2 then max (fld c 60 58) (s.reg Key.FLT_CRITICAL_REACTION) else fld c 60 58
  let rMinor := s.reactionOf n item (fld c 63 61)
  let rMajor := s.reactionOf n item upper
  let applied := if rise then rMajor else if enter then rMinor else 0xFF
  let s := s.setFlt n { f with severity := sev }
  let full := decide (256 ≤ (s.cru.queue.filter (fun e => e.occurrence)).length)
  let s := if full then
      { (s.setFlt n { s.flt n with lost := (s.flt n).lost + 1 }).bump Key.FLT_LOST_RECORDS with
        cru := { s.cru with storm := cellSet (fun _ => 0) s.cru.storm n (cellGet (fun _ => 0) s.cru.storm n + 1)
                            lastLoss := s.lmc } }
    else
      let s := s.log 0 n (beBytes 4 cause ++ beBytes 4 (s.flt n).occurrences ++ beBytes 1 sev ++ beBytes 1 applied ++
        beBytes 1 (b2n forced * 128 + b2n (decide (s.reg Key.PERT_RUNNING ≠ 0)) * 64) ++ [0] ++ detail)
      { s with cru := { s.cru with
        queue := s.cru.queue.dropLast ++ (s.cru.queue.drop (s.cru.queue.length - 1)).map (fun e => { e with occurrence := true }) } }
  let s := if enter then s.react n item rMinor else s
  let s := if rise then ((s.raise 3 n).trigger sev n).react n item rMajor else s
  if (enter ∧ 3 ≤ rMinor ∧ rMinor ≤ 5) ∨ (rise ∧ 3 ≤ rMajor ∧ rMajor ≤ 5) then s.trigger 3 n else s

/-- An occurrence with its item and detail. -/
def State.occur (s : State) (n item detail : Nat) : State :=
  s.occurX n (item % 65536 * 65536 + min detail 65535) false []

/-- The condition of source `n` becomes present: LIVE rises, which source 3 signals, with one occurrence. -/
def State.faultUp (s : State) (n item detail : Nat) : State :=
  let was := (s.flt n).live
  let s := (s.setFlt n { s.flt n with live := true }).occur n item detail
  if was then s else s.raise 3 n

/-- The condition of source `n` is gone: LIVE falls (R430's t0 counts from here). -/
def State.faultDown (s : State) (n : Nat) : State :=
  if (s.flt n).live then s.setFlt n { s.flt n with live := false, fellAt := s.lmc } else s

/-- A fabric port that PORT_OFF held resumes when its last reaction is lifted (Table 16.2). -/
def State.portResume (s : State) (n : Nat) (rs : List (Nat × Nat)) : State :=
  rs.foldl (fun s r => match r.1, faultPort n r.2 with
    | 2, some (0, f) => if !s.portOff 0 f && s.flag (Key.PORT_ENABLE f) && s.reg (Key.PORT_STATE f) == 0
        then s.setReg (Key.PORT_STATE f) 1 else s
    | _, _ => s) s

/-- Source `n` leaves IN_FAULT: it returns to CLEAR and MINOR, and its reactions are lifted where no other source keeps
them in force (R427, R429, Table 16.2). -/
def State.faultLeave (s : State) (n : Nat) (suspended : Bool) : State :=
  let rs := (s.flt n).reactions
  let s := s.setFlt n { s.flt n with inFault := false, severity := 0, suspended := suspended, reactions := [] }
  let s := s.portResume n rs
  match faultPan n with
  | some p => if rs.any (fun r => r.1 == 3) && !s.panSafe p && !s.outSafe
      then s.unsteady.eachWhisk [2 * p, 2 * p + 1] State.whiskUnsafe else s
  | none => s

end Sys2Proof.Machine
end

