-- ==== Sys2Proof/Machine/Coupler.lean ====
section
/-! DEFINITION. Coupler pairs and the routes over the fabric (R86, R87). -/

namespace Sys2Proof.Machine

/-- A condition that is present gives LIVE and one occurrence when it appears, and LIVE falls when it ends. -/
def State.faultLevel (s : State) (n : Nat) (cond : Bool) (item detail : Nat) : State :=
  if cond then (if (s.flt n).live then s else s.faultUp n item detail) else s.faultDown n

/-- What station number `n` of the ring announced since the last ASSIGN (R91). -/
def State.announce (s : State) (n : Nat) : Option Announce := cellGet (fun _ => none) s.disc.announces n

/-- A B station: POS_A and SOLO both clear (R109). -/
def Announce.isB (a : Announce) : Bool := !bitOf a.flags 7 && !bitOf a.flags 6

/-- The node address of station address `a` of the ring: one below for a B station (R109). -/
def State.nodeOf (s : State) (a : Nat) : Nat :=
  match s.announce (stationOf a) with
  | some x => if x.isB then a - 1 else a
  | none => a

/-- The hub is a coupler hub: ROLE 1 and F3 enabled (R86). -/
def State.isCoupler (s : State) : Bool := s.reg Key.COUPLER_ROLE == 1 && s.flag (Key.PORT_ENABLE 3)

/-- The hub carries traffic between rings ({151.04} STATE 1 or 2). -/
def State.carrying (s : State) : Bool := s.reg Key.COUPLER_STATE == 1 || s.reg Key.COUPLER_STATE == 2

/-- Adverts of other coupler hubs that the last ASSIGN still lists. -/
def State.liveAdverts (s : State) : List (Nat × Advert) :=
  s.disc.adverts.filterMap (fun c => match c.2 with
    | some a => if s.disc.stations.any (fun x => stationOf x == stationOf c.1) && c.1 != s.station then some (c.1, a) else none
    | none => none)

/-- The rings this hub reaches, with the crossings needed: the far ring counts 1, the far side's figures plus 1 (R87). -/
def State.reaches (s : State) : List (Nat × Nat) :=
  if !s.carrying then []
  else (s.reg Key.COUPLER_FAR_RING, 1) ::
    (match s.disc.farAdvert with
     | none => []
     | some a => (a.rings.map (fun r => (r.1, r.2 + 1))).filter
        (fun r => r.1 != ringOf s.station && r.1 != s.reg Key.COUPLER_FAR_RING))

/-- Every coupler hub of the ring that carries, with its node address, far ring and the rings it reaches. -/
def State.couplers (s : State) : List (Nat × Nat × List (Nat × Nat)) :=
  (if s.carrying then [(s.node, s.reg Key.COUPLER_FAR_RING, s.reaches)] else []) ++
    (s.liveAdverts.filter (fun a => a.2.carrying)).map (fun a => (s.nodeOf a.1, a.2.farRing, a.2.rings))

/-- The lower node address of the pair that joins to ring `far`. -/
def pairLower (cs : List (Nat × Nat × List (Nat × Nat))) (far : Nat) : Nat :=
  ((cs.filter (fun c => c.2.1 == far)).map (fun c => c.1)).foldl min 0xFFFF

/-- The route to ring `r` (Table 3.6): fewest crossings, ties by the lower node address (R87). -/
def State.routeTo (s : State) (r : Nat) : Nat :=
  if r = ringOf s.station then 0
  else
    let cs := s.couplers
    let cand := cs.filterMap (fun c => (c.2.2.find? (fun e => e.1 == r)).map (fun e => e.2 * 65536 + pairLower cs c.2.1))
    match cand with
    | [] => 0xFF000000
    | c :: cand => let b := cand.foldl min c
      b / 65536 * 2 ^ 24 + b % 65536

/-- {150} RING_ROUTES follows what is known (R87). -/
def State.routesUpdate (s : State) : State :=
  (List.range 63).foldl (fun s r =>
    let v := s.routeTo r
    if s.reg (Key.ROUTES_ENTRY r) = v then s else { s.setReg (Key.ROUTES_ENTRY r) v with disc := { s.disc with advertDue := true } }) s

/-- The coupler's state, partner and routes follow F3, the far ring and the adverts (R86, R87). -/
def State.couplerUpdate (s : State) : State :=
  if !s.isCoupler then
    (if s.reg Key.COUPLER_STATE = 0 then s
     else (((s.setReg Key.COUPLER_STATE 0).faultDown 0x02F).faultDown 0x030).routesUpdate)
  else
    let up := s.up 3 && s.reg (Key.PORT_PEER_STATION 3) != 0
    let s := if up then s.setReg Key.COUPLER_FAR_RING (ringOf (s.reg (Key.PORT_PEER_STATION 3))) else s
    let far := s.reg Key.COUPLER_FAR_RING
    let partner := s.liveAdverts.find? (fun a => a.2.farRing == far)
    let same := up && far == ringOf s.station && s.station != 0
    let st : Nat := if !up then 0 else if same then 3
      else if partner.isSome then 1 else if s.carrying then 2 else 0
    let s := match partner with
      | some a => s.setReg Key.COUPLER_PARTNER_NODE (s.nodeOf a.1)
      | none => s
    let s := if s.reg Key.COUPLER_STATE = st then s
      else { s.setReg Key.COUPLER_STATE st with disc := { s.disc with advertDue := true } }
    ((s.faultLevel 0x02F (st == 2) s.station 0).faultLevel 0x030 (st == 3) s.station 0).routesUpdate

end Sys2Proof.Machine
end

