-- ==== Sys2Proof/Machine/Links.lean ====
section
/-! DEFINITION. Fabric ports, ring links, the Copper path, the bypass switch and the tie link (chapter 2). -/

namespace Sys2Proof.Machine

/-! ## Link states (Table 2.3): 0 DISABLED, 1 DOWN, 2 LOCKING, 3 HELLO, 4 UP, 5 HOLDOFF, 6 INCOMPATIBLE -/

/-- The Copper path takes its configuration from the dictionary (R61). -/
def State.loadCopper (s : State) : State :=
  { s with copper := {
      etherType := s.reg Key.LINK_ETHERTYPE, station := s.station, node := s.node, ring := ringOf s.station
      coupler := s.reg Key.COUPLER_ROLE == 1 && s.flag (Key.PORT_ENABLE 3)
      modes := (s.link 0).attempt + 4 * (s.link 1).attempt + 16 * (s.link 2).attempt + 64 * (s.link 3).attempt } }

/-- The frame that was arriving on F0 or F1 is cut short: what has been forwarded of it ends with the stomp mark (R56). -/
def State.cutIngress (s : State) (f : Nat) : State :=
  match cellGet (fun _ => none) s.ingress f with
  | none => s
  | some i =>
    let s := { s with ingress := cellSet (fun _ => none) s.ingress f none }
    if i.forwarded then
      let fin (e : TxEntry) : TxEntry := if e.transit && !e.whole then { e with whole := true, stomp := true } else e
      let p := s.port (1 - f)
      s.setPort (1 - f) { now := p.now.map fin, waiting := p.waiting.map fin }
    else s

/-- Port `f` moves to link state `st`: reported in STATE and by event source 680 + f (R39, Table 14.1). F0 or F1 going UP
or DOWN asks for a discovery round (R71); F3 moves the coupler (R86, R87). -/
def State.linkTo (s : State) (f st : Nat) : State :=
  let changed := s.reg (Key.PORT_STATE f) != st
  let round := decide (f ≤ 1) && changed && (st == 4 || s.up f)
  let s := (s.setReg (Key.PORT_STATE f) st).setLink f (fun l => { l with since := s.lmc })
  let s := { s with disc := { s.disc with want := s.disc.want || round, advertDue := s.disc.advertDue || f == 3 } }
  let s := if f = 3 then s.couplerUpdate else s
  if changed then s.raise (680 + f) st else s

/-- Leaving UP: VERSION, RATE and FEC_ACTIVE clear, LINK_DOWNS counts, LINK_DOWN_Fp occurs, the arriving frame is cut
short (Table 2.3, Table 2.14, R56). -/
def State.leaveUp (s : State) (f : Nat) : State :=
  if s.up f then
    ((((s.setReg (Key.PORT_VERSION f) 0).bump (Key.COUNT_LINK_DOWNS f)).cutIngress f).faultUp (0x004 + f) f 4)
  else s

/-- Port `f`, unless DISABLED, goes to DOWN; a lost INCOMPATIBLE state ends that fault's condition. -/
def State.linkDown (s : State) (f : Nat) : State :=
  if s.reg (Key.PORT_STATE f) = 0 then s
  else
    let s := (s.leaveUp f).faultDown (0x00C + f)
    ((s.setReg (Key.PORT_RATE f) 0).setReg (Key.PORT_FEC_ACTIVE f) 0).linkTo f 1

/-- Port `f` is DISABLED: ENABLE is 0 (Table 2.3). -/
def State.linkDisable (s : State) (f : Nat) : State :=
  if s.reg (Key.PORT_STATE f) = 0 then s
  else (((s.linkDown f).faultDown (0x004 + f))).linkTo f 0

/-- The line modes that port `f` tries, in order (R35 to R37): 0 25G-RSFEC, 1 25G-NOFEC, 2 10G. -/
def State.modes (s : State) (f : Nat) : List Nat :=
  let speed := s.reg (Key.PORT_SPEED f)
  let fec := s.reg (Key.PORT_FEC f)
  if f = 2 then [0, 1].filter (fun m => (m != 0 || fec != 0) && (m != 1 || fec != 1))
  else if speed = 0 ∧ f ≤ 1 ∧ s.reg Key.DISC_RING_RATE = 2 then [2]
  else ([0, 1, 2].filter (fun m =>
    (speed == 0 || (speed == 1 && m != 2) || (speed == 2 && m == 2)) &&
    (m != 0 || fec != 0) && (m != 1 || fec != 1) && (m != 2 || fec != 1)))

/-- An attempt at line mode `m`: 10 ms plus a random 0 to 3 ms, drawn afresh (R36). -/
def State.attempt (s : State) (f m : Nat) : State :=
  let (r, s) := s.fresh
  s.setLink f (fun l => { l with attempt := m, attemptEnds := s.lmc + 10000000 + r % 3000001 })

/-- The mode an attempt cycle begins with: the mode last used when it is allowed, else the first (Table 2.12). -/
def State.firstMode (s : State) (f : Nat) : Nat :=
  if (s.modes f).contains (s.link f).attempt then (s.link f).attempt else (s.modes f).headD 0

/-- The next mode of the cycle after the one just tried (R36). -/
def State.nextMode (s : State) (f : Nat) : Nat :=
  match (s.modes f).dropWhile (· != (s.link f).attempt) with
  | _ :: m :: _ => m
  | _ => (s.modes f).headD 0

/-- The module of port `f`, if it has one, lets the port leave DOWN: present, supported and Fn_LOS low (Table 2.2). -/
def State.moduleOk (s : State) (f : Nat) : Bool :=
  s.reg (Key.PORT_MEDIUM f) == 1 ||
    (s.flag (Key.SFP_PRESENT f) && !(s.link f).unsupported && !bitOf (s.reg (Key.SFP_STATUS f)) 4)

/-- F0 and F1 stay DOWN until SETTLE_TIME has passed after BYP_HOLD0 rose (R64). -/
def State.settled (s : State) (f : Nat) : Bool := if f ≤ 1 then s.settleEnds.isNone else true

/-- A DOWN port with a signal leaves for LOCKING when its module and the settle time allow it (Table 2.3). -/
def State.tryLock (s : State) (f : Nat) : State :=
  if s.reg (Key.PORT_STATE f) = 1 ∧ (s.link f).signal ∧ s.moduleOk f ∧ s.settled f then
    (s.attempt f (s.firstMode f)).linkTo f 2
  else s

/-! ## The bypass switch (R62 to R65) -/

/-- The conditions of R62 for BYP_HOLD0 (pin 0) and BYP_HOLD1 (pin 1). -/
def State.bypMay (s : State) (pin : Nat) : Bool :=
  s.logicOn && s.reg Key.COPPER_SELFTEST == 1 && !(s.flt 0).inFault && !bitOf (s.reg Key.BYP_COMMAND) pin &&
    (if pin = 0 then s.flag (Key.PORT_ENABLE 0) && s.flag (Key.PORT_ENABLE 1)
     else s.flag (Key.PORT_ENABLE 3) && s.reg Key.COUPLER_ROLE == 1)

/-- The cycle count object of a bypass pin. -/
def bypCycles (pin : Nat) : Nat := if pin = 0 then Key.BYP0_CYCLES else Key.BYP1_CYCLES

/-- The state object of a bypass pin. -/
def bypState (pin : Nat) : Nat := if pin = 0 then Key.BYP0_STATE else Key.BYP1_STATE

/-- The count of pin `pin` has met the wear warning threshold. -/
def wearMet (count rated percent : Nat) : Bool := decide (rated * percent ≤ count * 100)

/-- The passes of R65 when counts and thresholds go from the values in `old` to those in `s`: one occurrence of
BYPASS_WEAR and of BYPASS_LIFE_END for each pass from below to at or above, each with a Crucible entry. -/
def State.wearPass (s old : State) (pin : Nat) : State :=
  let c := s.reg (bypCycles pin)
  let wear (t : State) : Bool := wearMet (t.reg (bypCycles pin)) (t.reg Key.BYP_RATED_CYCLES) (t.reg Key.BYP_WARN_PERCENT)
  let life (t : State) : Bool := decide (t.reg Key.BYP_RATED_CYCLES ≤ t.reg (bypCycles pin))
  let s := if !wear old && wear s then (s.occur 0x001 pin 0).logRecord (bypCycles pin) (beBytes 8 c) else s
  if !life old && life s then (s.occur 0x002 pin 0).logRecord (bypCycles pin) (beBytes 8 c) else s

/-- A bypass pin follows its conditions (R62, R63): a rise counts one cycle, held in the control block, and starts the
settle time of R64. -/
def State.bypPin (s : State) (pin : Nat) : State :=
  let on := s.flag (bypState pin)
  let may := s.bypMay pin
  if !on && may then
    let old := s
    let c := s.reg (bypCycles pin) + 1
    let s := (s.setReg (bypState pin) 1).setReg (bypCycles pin) c
    let s := if pin = 0 then { s with settleEnds := some (s.lmc + s.reg Key.BYP_SETTLE_TIME * 1000000) } else s
    let s := if c % 1000000 = 0 then s.logRecord (bypCycles pin) (beBytes 8 c) else s
    s.wearPass old pin
  else if on && !may then s.setReg (bypState pin) 0
  else s

/-- Both bypass pins follow their conditions. -/
def State.bypUpdate (s : State) : State := (s.bypPin 0).bypPin 1

/-! ## Modules (R38) -/

/-- MODULE_PRESENCE_SAMPLE (R38): an absent module holds its port in DOWN. -/
def execModulePresenceSample (f : Fin 4) (absent : Bool) (s : State) : Res :=
  .next (if !s.logicOn || s.reg (Key.PORT_MEDIUM f) != 0 then s
    else if absent then
      ((s.setReg (Key.SFP_PRESENT f) 0).setLink f (fun l => { l with seenAt := none, startupRead := false, unsupported := false })).linkDown f
    else if s.flag (Key.SFP_PRESENT f) then s
    else (s.setReg (Key.SFP_PRESENT f) 1).setLink f (fun l => { l with seenAt := some s.lmc }))

/-- The CC_BASE checksum of SFF-8472: byte 63 is the low byte of the sum of bytes 0 to 62. -/
def ccBaseOk (b : List Byte) : Bool := ((b.take 63).foldl (fun a x => a + x.toNat) 0) % 256 == beAt b 63 1

/-- MODULE_STARTUP_READ (R38): 300 ms after presence, 0xA0 bytes 0 to 95. -/
def execModuleStartupRead (f : Fin 4) (bytes : List Byte) (s : State) : Res :=
  .next (match (s.link f).seenAt with
  | none => s
  | some t =>
    if !s.logicOn || (s.link f).startupRead then s
    else
      let s := s.until (t + 300000000)
      let bad := !ccBaseOk bytes
      let st := setBit (setBit (setBit (s.reg (Key.SFP_STATUS f)) 0 (bitOf (beAt bytes 92 1) 6)) 1 (bitOf (beAt bytes 92 1) 4)) 2 bad
      let s := ((((s.setReg (Key.SFP_IDENT f) (beAt bytes 0 1)).setReg (Key.SFP_VENDOR f) (beAt bytes 20 16)).setReg
        (Key.SFP_PART f) (beAt bytes 40 16)).setReg (Key.SFP_MODULE_SERIAL f) (beAt bytes 68 16)).setReg (Key.SFP_STATUS f) st
      let s := s.setLink f (fun l => { l with startupRead := true, unsupported := beAt bytes 0 1 != 3 })
      let s := if beAt bytes 0 1 != 3 then (s.occur (0x010 + f) f (beAt bytes 0 1)).linkDown f else s
      if bad then s.occur (0x014 + f) f 0 else s)

/-- MODULE_LOS_CHANGE (R38): Fn_LOS high takes an UP link to DOWN. -/
def execModuleLosChange (f : Fin 4) (los : Bool) (s : State) : Res :=
  .next (if !s.logicOn || s.reg (Key.PORT_MEDIUM f) != 0 then s
    else
      let s := s.setReg (Key.SFP_STATUS f) (setBit (s.reg (Key.SFP_STATUS f)) 4 los)
      if los && s.up f then s.linkDown f else s)

/-- The hold-off that follows a failure (Table 2.3): HOLDOFF_MS, ten times as long from the fifth consecutive failure. -/
def State.holdoff (s : State) (f : Nat) (txFault : Bool) : State :=
  let ms := s.reg (Key.PORT_HOLDOFF_MS f) * (if 5 ≤ (s.link f).failures then 10 else 1)
  (s.setLink f (fun l => { l with holdoffEnds := s.lmc + ms * 1000000, txFaultHold := txFault })).linkTo f 5

/-- MODULE_TX_FAULT (R38, Table 2.3): the link goes DOWN and into a hold-off, and SFP_TX_FAULT occurs. -/
def execModuleTxFault (f : Fin 4) (s : State) : Res :=
  .next (if !s.logicOn || s.reg (Key.PORT_MEDIUM f) != 0 then s
    else
      let s := (s.setReg (Key.SFP_STATUS f) (setBit (s.reg (Key.SFP_STATUS f)) 3 true)).faultUp (0x018 + f) f 0
      if s.reg (Key.PORT_STATE f) = 0 then s else (s.linkDown f).holdoff f true)

/-- MODULE_DIAG_POLL (R38): 0xA2 bytes 96 to 105 and 112 to 117, in that order, every 1 s. -/
def execModuleDiagPoll (f : Fin 4) (bytes : List Byte) (s : State) : Res :=
  .next (if !s.logicOn || !s.flag (Key.SFP_PRESENT f) || !bitOf (s.reg (Key.SFP_STATUS f)) 0 then s
    else
      let s := s.until ((s.link f).polledAt + 1000000000)
      let s := (((((((s.setReg (Key.SFP_TEMPERATURE f) (beAt bytes 0 2)).setReg (Key.SFP_VCC f) (beAt bytes 2 2)).setReg
        (Key.SFP_TX_BIAS f) (beAt bytes 4 2)).setReg (Key.SFP_TX_POWER f) (beAt bytes 6 2)).setReg
        (Key.SFP_RX_POWER f) (beAt bytes 8 2)).setReg (Key.SFP_ALARMS f) (beAt bytes 10 2)).setReg
        (Key.SFP_WARNINGS f) (beAt bytes 14 2)).setLink f (fun l => { l with polledAt := s.lmc })
      (s.faultLevel (0x01C + f) (beAt bytes 10 2 != 0) f (beAt bytes 10 2)).faultLevel (0x020 + f)
        (beAt bytes 14 2 != 0) f (beAt bytes 14 2))

/-! ## Port settings -/

/-- The effect of a write of ENABLE (Table 2.3). -/
def State.portEnable (s : State) (f v : Nat) : State :=
  let s := s.store (Key.PORT_ENABLE f) v
  let s := if v = 0 then s.linkDisable f
    else if s.reg (Key.PORT_STATE f) = 0 ∧ !s.portOff 0 f then s.linkTo f 1 else s
  s.bypUpdate

/-- PORT_ENABLE_WRITE (R39). -/
def execPortEnableWrite (w : Writer) (f : Fin 4) (v : Nat) (s : State) : Res :=
  .next (s.write w (Key.PORT_ENABLE f) v noCheck (fun s => s.portEnable f v))

/-- The object of a port setting. -/
def settingKey (f : Nat) : PortSetting → Nat
  | .speed => Key.PORT_SPEED f
  | .fec => Key.PORT_FEC f
  | .medium => Key.PORT_MEDIUM f
  | .holdoff => Key.PORT_HOLDOFF_MS f

/-- RS-FEC together with a 10G speed, and a speed of F2 other than 25 Gbit/s, are refused (R36, Table 2.14). -/
def settingCheck (f : Nat) (which : PortSetting) (v : Nat) (s : State) : Option Abort :=
  match which with
  | .speed => if (f = 2 ∧ v ≠ 1) ∨ (v = 2 ∧ s.reg (Key.PORT_FEC f) = 1) then some .valueRange else none
  | .fec => if v = 1 ∧ s.reg (Key.PORT_SPEED f) = 2 then some .valueRange else none
  | _ => none

/-- PORT_SETTING_WRITE (R42): the port goes to DOWN at once and bring-up restarts. -/
def execPortSettingWrite (w : Writer) (f : Fin 4) (which : PortSetting) (v : Nat) (s : State) : Res :=
  .next (s.write w (settingKey f which) v (settingCheck f which v) (fun s => (s.store (settingKey f which) v).linkDown f))

/-- MIN_VERSION not above MAX_VERSION (Table 2.13). -/
def versionCheck (max : Bool) (v : Nat) (s : State) : Option Abort :=
  if (max ∧ v < s.reg Key.LINK_MIN_VERSION) ∨ (!max ∧ s.reg Key.LINK_MAX_VERSION < v) then some .valueRange else none

/-- Every INCOMPATIBLE port returns to DOWN (Table 2.3). -/
def State.retryVersions (s : State) : State :=
  (List.range 4).foldl (fun s f => if s.reg (Key.PORT_STATE f) = 6 then s.linkDown f else s) s

/-- VERSION_RANGE_WRITE (R39). -/
def execVersionRangeWrite (w : Writer) (max : Bool) (v : Nat) (s : State) : Res :=
  let k := if max then Key.LINK_MAX_VERSION else Key.LINK_MIN_VERSION
  .next (s.write w k v (versionCheck max v) (fun s => (s.store k v).retryVersions))

/-! ## Bring-up -/

/-- SIGNAL_DETECTED (R39). -/
def execSignalDetected (f : Fin 4) (s : State) : Res :=
  .next (if !s.logicOn then s else (s.setLink f (fun l => { l with signal := true })).tryLock f)

/-- SIGNAL_LOST (R39): loss of signal, block lock or hi_ber; it ends LOCKING, UP and INCOMPATIBLE. -/
def execSignalLost (f : Fin 4) (s : State) : Res :=
  .next (if !s.logicOn then s
    else
      let s := s.setLink f (fun l => { l with signal := false })
      let st := s.reg (Key.PORT_STATE f)
      if st = 2 ∨ st = 4 ∨ st = 6 then s.linkDown f else s)

/-- BLOCK_LOCK (R39): the attempt's mode holds and the port enters HELLO. -/
def execBlockLock (f : Fin 4) (s : State) : Res :=
  .next (if s.logicOn ∧ s.reg (Key.PORT_STATE f) = 2 then
      let m := (s.link f).attempt
      (((s.setReg (Key.PORT_RATE f) (if m = 2 then 2 else 1)).setReg (Key.PORT_FEC_ACTIVE f) (b2n (m == 0))).setLink f
        (fun l => { l with sentAt := none })).linkTo f 3
    else s)

/-- MODE_ATTEMPT_EXPIRY (R36). -/
def execModeAttemptExpiry (f : Fin 4) (s : State) : Res :=
  .next (if s.logicOn ∧ s.reg (Key.PORT_STATE f) = 2 then
      (s.until (s.link f).attemptEnds).attempt f (s.nextMode f) else s)

/-- The LINK_HELLO of port `f` (Table 2.4). -/
def helloFrame (s : State) (f : Nat) : Frame :=
  let heard := match (s.link f).heardAt with
    | some t => decide (s.lmc ≤ t + 10000000)
    | none => false
  { version := 1, kind := 10, prio := 7, source := s.station
    payload := [1] ++ beBytes 1 (b2n heard * 128 + b2n s.straps.twinPosA * 64 + b2n (decide (s.role = .solo)) * 32 +
        b2n (f == 3 && s.reg Key.COUPLER_ROLE == 1) * 16) ++
      beBytes 1 (s.reg Key.LINK_MIN_VERSION) ++ beBytes 1 (s.reg Key.LINK_MAX_VERSION) ++ beBytes 1 f ++ [0] ++
      beBytes 2 s.station ++ beBytes 8 (s.reg Key.ID_SERIAL) ++ beBytes 4 (s.reg Key.FEAT_OWN_FEATURES) }

/-- The period of LINK_HELLO in a link state, in ns (Table 2.3); 0 where none is sent. -/
def helloPeriod (st : Nat) : Nat := if st = 3 then 100000 else if st = 4 then 1000000 else if st = 6 then 100000000 else 0

/-- LINK_HELLO_SEND (R39). In UP on F2 it takes credit like any frame (R41). -/
def execLinkHelloSend (f : Fin 4) (s : State) : Res :=
  let p := helloPeriod (s.reg (Key.PORT_STATE f))
  .next (if s.logicOn ∧ p ≠ 0 then
      let s := match (s.link f).sentAt with
        | none => s
        | some t => s.until (t + p)
      let h := helloFrame s f
      let s := s.setLink f (fun l => { l with sentAt := some s.lmc })
      if f.val = 2 ∧ s.up 2 then s.sendTie h else s.enqueue f { frame := h, bytes := frameBytes h }
    else s)

/-- A LINK_HELLO is valid: MGMT, link-local, subtype 0x01, 20 bytes of payload. -/
def helloValid (h : Frame) : Bool := h.kind == 10 && stationOf h.dest == 0 && h.payload.length == 20 && beAt h.payload 0 1 == 1

/-- The negotiated version, when a common one exists (R40). -/
def negotiate (ownMin ownMax peerMin peerMax : Nat) : Option Nat :=
  if max ownMin peerMin ≤ min ownMax peerMax then some (min ownMax peerMax) else none

/-- The port comes UP: negotiated version, failures cleared, credits at 256 on F2, the Copper path configured (R40, R61,
R66). -/
def State.linkUp (s : State) (f ver : Nat) : State :=
  let s := (s.setReg (Key.PORT_VERSION f) ver).setLink f (fun l => { l with failures := 0 })
  let s := if f = 2 then { s with tie := {} } else s
  (((s.linkTo f 4).faultDown (0x004 + f)).faultDown (0x018 + f)).loadCopper

/-- LINK_HELLO_RECEIVED (R39, R40, R41). -/
def execLinkHelloReceived (f : Fin 4) (hello : Frame) (s : State) : Res :=
  let st := s.reg (Key.PORT_STATE f)
  .next (if !s.logicOn || !helloValid hello || !(st == 3 || st == 4 || st == 6) then s
    else
      let p := hello.payload
      let pMin := beAt p 2 1
      let pMax := beAt p 3 1
      let changed := decide ((s.link f).peerMin ≠ pMin ∨ (s.link f).peerMax ≠ pMax)
      let s := ((((s.setReg (Key.PORT_PEER_FLAGS f) (beAt p 1 1)).setReg (Key.PORT_PEER_PORT f) (beAt p 4 1)).setReg
        (Key.PORT_PEER_STATION f) (beAt p 6 2)).setReg (Key.PORT_PEER_SERIAL f) (beAt p 8 8)).setLink f
        (fun l => { l with heardAt := some s.lmc, peerMin := pMin, peerMax := pMax })
      match negotiate (s.reg Key.LINK_MIN_VERSION) (s.reg Key.LINK_MAX_VERSION) pMin pMax with
      | none => if st = 3 then ((s.bump (Key.COUNT_INCOMPATIBLE f)).linkTo f 6).faultUp (0x00C + f) f pMax
          else if st = 6 ∧ changed then s.linkDown f else s
      | some ver => if st = 3 ∧ bitOf (beAt p 1 1) 7 then s.linkUp f ver
          else if st = 6 ∧ changed then s.linkDown f else s)

/-- HELLO_TIMEOUT (R39): 10 ms in HELLO. -/
def execHelloTimeout (f : Fin 4) (s : State) : Res :=
  .next (if s.logicOn ∧ s.reg (Key.PORT_STATE f) = 3 then
      let s := s.until ((s.link f).since + 10000000)
      ((s.bump (Key.COUNT_HELLO_TIMEOUTS f)).setLink f (fun l => { l with failures := l.failures + 1 })).holdoff f false
    else s)

/-- KEEPALIVE_TIMEOUT (R39): no LINK_HELLO for 3 ms. -/
def execKeepaliveTimeout (f : Fin 4) (s : State) : Res :=
  .next (if s.logicOn ∧ s.up f then
      (s.until (max (s.link f).since ((s.link f).heardAt.getD 0) + 3000000)).linkDown f else s)

/-- HOLDOFF_EXPIRY (R39): back to DOWN; after a transmitter fault Fn_TXDIS is pulsed for 10 µs (Table 2.2). -/
def execHoldoffExpiry (f : Fin 4) (s : State) : Res :=
  .next (if s.logicOn ∧ s.reg (Key.PORT_STATE f) = 5 then
      let s := s.until (s.link f).holdoffEnds
      let s := if (s.link f).txFaultHold then
          s.setLink f (fun l => { l with txFaultHold := false, txdisPulses := l.txdisPulses + 1 }) else s
      s.linkTo f 1
    else s)

/-! ## Duplicate entries (R50, R51, R90) -/

/-- The duplicate entry of source station `a`. -/
def State.dup (s : State) (a : Nat) : Option DupEntry := cellGet (fun _ => none) s.dups a

/-- The duplicate entry of source station `a` becomes `e`. -/
def State.setDup (s : State) (a : Nat) (e : Option DupEntry) : State :=
  { s with dups := cellSet (fun _ => none) s.dups a e }

/-- Table 2.9's decision. -/
inductive DupDecision where
  | deliver | duplicate | tooOld
  deriving DecidableEq, Repr

/-- How far `b` lies behind `a`, modulo 65,536. -/
def seqBehind (a b : Nat) : Nat := (a + 65536 - b % 65536) % 65536

/-- The duplicate decision for number `q` (Table 2.9) and the entry after it. -/
def dupDecide (e : Option DupEntry) (q now : Nat) (foreign : Bool) : DupDecision × DupEntry :=
  match e with
  | none => (.deliver, { high := q, seen := [q], heardAt := now, foreign := foreign })
  | some e =>
    let e := { e with heardAt := now }
    if q ≠ e.high ∧ seqBehind q e.high ≤ 32767 then
      (.deliver, { e with high := q, seen := q :: e.seen.filter (fun x => decide (seqBehind q x < 4096)) })
    else if seqBehind e.high q < 4096 then
      (if e.seen.contains q then (.duplicate, e) else (.deliver, { e with seen := q :: e.seen }))
    else (.tooOld, e)

/-- Room for a new foreign source: when 256 foreign entries are in use the one heard least recently is evicted and
counted (R90). -/
def State.evictForeign (s : State) : State :=
  let fs := s.dups.filter (fun c => match c.2 with
    | some e => e.foreign
    | none => false)
  if fs.length < 256 then s
  else match fs.foldl (fun (b : Option (Nat × Nat)) c => match c.2, b with
      | some e, none => some (c.1, e.heardAt)
      | some e, some b => if e.heardAt < b.2 then some (c.1, e.heardAt) else some b
      | none, b => b) none with
    | none => s
    | some v => (s.setDup v.1 none).bump Key.COUPLER_FOREIGN_EVICTIONS

/-- DUP_ENTRY_AGE_EXPIRY (R51). -/
def execDupEntryAgeExpiry (station : Fin 65536) (s : State) : Res :=
  .next (match s.dup station with
  | none => s
  | some e => (s.until (e.heardAt + s.reg Key.LINK_DUP_AGE_MS * 1000000)).setDup station none)

/-! ## The Copper path (R54 to R58) -/

/-- Bytes of transit frames that wait or leave at a port. -/
def transitBytes (p : PortTx) : Nat :=
  (((p.now.toList ++ p.waiting).filter (fun e => e.transit)).map (fun e => e.bytes)).foldl (· + ·) 0

/-- The Copper path's addition to a forwarded TIME frame (R57, R139): a SYNC's PATH_DELAY takes the mean link delay of
the ingress port, and CORRECTION takes the residence time, which is the timestamps' and no number of the spec. -/
def State.timeTransit (s : State) (f : Nat) (fr : Frame) : Frame × State :=
  if fr.kind ≠ 6 then (fr, s)
  else
    let (r, s) := s.fresh
    let delay : Int := toSigned 32 (s.reg (Key.PTIME_LINK_DELAY f)) * 65536 / 1000
    let pay := if beAt fr.payload 0 1 = 1 then
        fr.payload.take 14 ++ beBytes 8 (ofSigned 64 (toSigned 64 (beAt fr.payload 14 8) + delay)) ++ fr.payload.drop 22
      else fr.payload
    ({ fr with corr := fr.corr + r, payload := pay }, s)

/-- A transit frame towards port `o` joins its egress queue, or finds the 32 KiB transit buffer full (R58). -/
def State.forward (s : State) (f o : Nat) (fr : Frame) (bytes : Nat) : Bool × State :=
  if 32768 < transitBytes (s.port o) + bytes then (false, s.bump (Key.COUNT_TRANSIT_DROP o))
  else
    let (fr, s) := s.timeTransit f { fr with hops := fr.hops + 1 }
    let s := s.enqueue o { frame := fr, transit := true, whole := false, bytes := bytes }
    (true, s.setCount (Key.COUNT_TRANSIT_HIGHWATER o) (max (s.count (Key.COUNT_TRANSIT_HIGHWATER o)) (transitBytes (s.port o))))

/-- The window of `fr` is one that the far coupler asked for (R127). -/
def State.askedWindow (s : State) (fr : Frame) : Bool := s.img.asked.contains (s.nodeOf fr.source)

/-- A frame that this coupler hub carries to F3: its DEST ring is another one whose route runs through this hub's pair,
or it is an IMAGE frame of a window the far side asked for; never a DISC, TWIN, TIME or broadcast frame (R88, R89). -/
def State.carriesOut (s : State) (fr : Frame) : Bool :=
  s.copper.coupler && s.carrying &&
    (if fr.kind = 1 then s.askedWindow fr
     else !(fr.kind == 0 || fr.kind == 6 || fr.kind == 9) && ringOf fr.dest != 63 && stationOf fr.dest != 1023 &&
      ringOf fr.dest != s.copper.ring && s.reg (Key.ROUTES_ENTRY (ringOf fr.dest)) / 2 ^ 24 != 0xFF &&
      fld (s.reg (Key.ROUTES_ENTRY (ringOf fr.dest))) 15 0 ==
        pairLower s.couplers (s.reg Key.COUPLER_FAR_RING))

/-- The hub itself receives a frame: IMAGE, its station, its node behind a B hub, or a broadcast (R55). -/
def State.ownCopy (s : State) (fr : Frame) : Bool :=
  let c := s.copper
  fr.kind == 1 || (c.station != 0 && fr.dest == c.station) || (!s.straps.twinPosA && c.node != 0 && fr.dest == c.node) ||
    ringOf fr.dest == 63 || (stationOf fr.dest == 1023 && ringOf fr.dest == c.ring)

/-- The hub takes a local copy of a forwarded frame (R55, R88). -/
def State.wantsCopy (s : State) (fr : Frame) : Bool := s.ownCopy fr || s.carriesOut fr

/-- FRAME_HEADER_RECEIVED (R54): the forwarding decision of Table 2.10, once header byte 9 has arrived on F0 or F1. -/
def execFrameHeaderReceived (f : Fin 4) (rx : WireFrame) (s : State) : Res :=
  let fr := rx.frame
  .next (if !s.logicOn || !s.up f || decide (2 ≤ f.val) || rx.headerBytes < 10 || rx.etherType != some s.copper.etherType then s
    else
      let keep (s : State) (fwd cp : Bool) : State :=
        { s with ingress := cellSet (fun _ => none) s.ingress f (some ⟨fr, fwd, cp⟩) }
      if stationOf fr.dest = 0 ∨ fr.kind = 9 then
        keep (if fr.kind = 9 then s.bump (Key.COUNT_UNKNOWN_KIND f) else s) false (fr.kind != 9)
      else if s.copper.station ≠ 0 ∧ fr.source = s.copper.station then keep (s.bump (Key.COUNT_STRIPPED f)) false false
      else if fr.hops = 255 then keep (s.bump (Key.COUNT_HOP_LIMIT f)) false false
      else
        let (ok, s) := s.forward f (1 - f) fr rx.bytes
        keep s ok (s.wantsCopy fr))

/-- The open transit entry that the frame from port `f` became is completed, stomped when `stomp` (R56). -/
def State.finishTransit (s : State) (f : Nat) (rx : WireFrame) (stomp : Bool) : State :=
  let fin (e : TxEntry) : TxEntry :=
    if e.transit && !e.whole then { e with whole := true, stomp := stomp, bytes := min rx.bytes 1518 } else e
  let p := s.port (1 - f)
  s.setPort (1 - f) { now := p.now.map fin, waiting := p.waiting.map fin }

/-- Kinds that carry version 1 on every ring: LINK_HELLO, DISC, PDELAY_REQ and PDELAY_RESP (R46). -/
def versionFree (fr : Frame) : Bool :=
  fr.kind == 0 || (fr.kind == 10 && beAt fr.payload 0 1 == 1) ||
    (fr.kind == 6 && (beAt fr.payload 0 1 == 3 || beAt fr.payload 0 1 == 4))

/-- The version of a received frame lets it be delivered (R46). -/
def State.versionOk (s : State) (fr : Frame) : Bool :=
  (decide (s.reg Key.LINK_MIN_VERSION ≤ fr.version) && decide (fr.version ≤ s.reg Key.LINK_MAX_VERSION)) ||
    (versionFree fr && fr.version == 1)

/-- CORE is awake (R447). -/
def State.coreAwake (s : State) : Bool := s.reg Key.PWS_CORE_STATE == 0

/-- A frame whose receiver is the switch core (R55); DISC frames go to the discovery unit (DEDUCED, log 21: Table 11.2
names no egress for them). -/
def toSwitch (fr : Frame) : Bool := !(fr.kind == 0 || fr.kind == 1 || fr.kind == 2 || fr.kind == 6)

/-- A frame is handed to the switch core, through the landing buffer while CORE wakes, where a full buffer drops it
(R21). -/
def State.handOver (s : State) (a : SwArrival) : State :=
  if s.coreAwake then { s with sw := { s.sw with arrivals := s.sw.arrivals ++ [a] } }
  else if 65536 < s.landing + a.bytes then s.bump Key.COPPER_LANDING_DROPS
  else { s with sw := { s.sw with arrivals := s.sw.arrivals ++ [a] }, landing := s.landing + a.bytes }

/-- An admitted frame goes to its receivers (R55): the image engine, the time unit or discovery directly; the switch
core, which also passes on what a coupler hub carries (R88). -/
def State.deliver (s : State) (f : Nat) (fr : Frame) (bytes : Nat) : State :=
  let carried : Bool := (decide (f ≤ 1) && s.carriesOut fr) || (f == 3 && s.carrying)
  let own := s.ownCopy fr
  let s := if own && !toSwitch fr then { s with inbox := s.inbox ++ [(f, fr)] } else s
  if carried || (own && toSwitch fr) then
    s.handOver { port := f, frame := fr, carried := carried, own := own && toSwitch fr, bytes := bytes, at_ := s.ftime }
  else s

/-- A local copy whose FCS is good: reserved kinds are counted, versions checked, both-ways copies decided by their
source's duplicate entry, and the rest delivered (R44, R46, R50, R55). -/
def State.frameIn (s : State) (f : Nat) (fr : Frame) (bytes : Nat) : State :=
  if 11 ≤ fr.kind then s.bump (Key.COUNT_UNKNOWN_KIND f)
  else if !s.versionOk fr then s.bump (Key.COUNT_VERSION_UNSUPPORTED f)
  else if !fr.bothWays then s.deliver f { fr with rsvd := 0 } bytes
  else
    let foreign := ringOf fr.source != s.copper.ring
    let s := if foreign && (s.dup fr.source).isNone then s.evictForeign else s
    let (d, e) := dupDecide (s.dup fr.source) fr.seq s.lmc foreign
    let s := s.setDup fr.source (some e)
    match d with
    | .deliver => s.deliver f { fr with rsvd := 0 } bytes
    | .duplicate => s.bump (Key.COUNT_DUP_DISCARDED f)
    | .tooOld => s.bump (Key.COUNT_TOO_OLD f)

/-- The tie link carries TWIN, LINK_HELLO, CREDIT, PDELAY_REQ and PDELAY_RESP only. -/
def tieCarries (fr : Frame) : Bool :=
  fr.kind == 9 || (fr.kind == 10 && (beAt fr.payload 0 1 == 1 || beAt fr.payload 0 1 == 2)) ||
    (fr.kind == 6 && (beAt fr.payload 0 1 == 3 || beAt fr.payload 0 1 == 4))

/-- A frame taken from F2 frees its credits (R66, R67); CREDIT frames need none. -/
def State.freeCredits (s : State) (fr : Frame) (bytes : Nat) : State :=
  if fr.kind = 10 ∧ beAt fr.payload 0 1 = 2 then s
  else { s with tie := { s.tie with
      freed := s.tie.freed + creditsOf bytes
      firstUnreturned := if s.tie.firstUnreturned.isNone then some s.lmc else s.tie.firstUnreturned } }

/-- A frame on F2 or F3 that is not the Copper path's: F2 carries only the tie link's kinds, and no TWIN frame is taken
from F3 (R15, R47). -/
def State.receiveOff (s : State) (f : Nat) (rx : WireFrame) : State :=
  let fr := rx.frame
  let s := if f = 2 then s.freeCredits fr rx.bytes else s
  if (f = 2 ∧ !tieCarries fr) ∨ (f = 3 ∧ fr.kind = 9) then s.bump (Key.COUNT_UNKNOWN_KIND f)
  else if f = 2 then { s with inbox := s.inbox ++ [(2, fr)] }
  else if stationOf fr.dest = 0 then { s with inbox := s.inbox ++ [(f, fr)] }
  else s.frameIn f fr rx.bytes

/-- The receive checks of R47's step 5 on a frame of a legal length: FCS, then MALFORMED, then delivery. -/
def State.receiveWhole (s : State) (f : Nat) (rx : WireFrame) (i : Option Ingress) : State :=
  let s := if rx.frame.rsvd ≠ 0 then s.bump (Key.COUNT_RESERVED_BITS f) else s
  let s := if rx.fits then s else s.bump (Key.COUNT_MALFORMED f)
  let s := if 2 ≤ f then s else s.finishTransit f rx (decide (rx.fcs ≠ .good))
  match rx.fcs with
  | .stomped => s.bump (Key.COUNT_RX_STOMPED f)
  | .wrong => s.bump (Key.COUNT_RX_FCS_ERR f)
  | .good =>
    let s := (s.bump (Key.COUNT_RX_FRAMES f)).addCount (Key.COUNT_RX_BYTES f) rx.bytes
    if !rx.fits then s
    else if 2 ≤ f then s.receiveOff f rx
    else match i with
      | none => s
      | some i =>
        if !i.localCopy then s
        else if stationOf rx.frame.dest = 0 then
          (if 11 ≤ rx.frame.kind then s.bump (Key.COUNT_UNKNOWN_KIND f) else { s with inbox := s.inbox ++ [(f, rx.frame)] })
        else s.frameIn f rx.frame rx.bytes

/-- FRAME_END_RECEIVED (R47, R56): the frame is judged in the order of R47, ended on its egress, and delivered. -/
def execFrameEndReceived (f : Fin 4) (rx : WireFrame) (s : State) : Res :=
  let i := cellGet (fun _ => none) s.ingress f
  .next (if !s.logicOn || !s.up f then s
    else
      let s := { s with ingress := cellSet (fun _ => none) s.ingress f none }
      match rx.etherType with
      | none => s.bump (Key.COUNT_RUNT_OVERSIZE f)
      | some t =>
        if t ≠ s.copper.etherType then s.bump (Key.COUNT_FOREIGN f)
        else if rx.headerBytes < 10 then s.bump (Key.COUNT_RUNT_OVERSIZE f)
        else if rx.bytes < 64 ∨ 1518 < rx.bytes then
          (if 2 ≤ f.val then s else s.finishTransit f rx true).bump (Key.COUNT_RUNT_OVERSIZE f)
        else s.receiveWhole f rx i)

/-- FRAME_ORIGINATE (R48). TWIN frames leave by F2 alone (R15); RECOVERY originates only DISC, LINK_HELLO and DICT
(R502). -/
def execFrameOriginate (fr : Frame) (s : State) : Res :=
  .next (if !s.logicOn || (s.inRecovery && !(fr.kind == 0 || fr.kind == 3 || fr.kind == 10)) then s
    else if fr.kind = 9 then s.sendTie { fr with version := s.reg (Key.PORT_VERSION 2), source := s.station, bothWays := false }
    else s.originate fr)

/-- ORIG_CAP_RELEASE (R52). -/
def execOrigCapRelease (s : State) : Res :=
  .next (match s.origHeld with
  | [] => s
  | f :: fs =>
    let s := if s.origRecent.length < 4096 then s else s.until ((s.origTimes.foldl min s.lmc) + s.origSpan)
    { s with origHeld := fs }.sendBoth f)

/-- `a` leaves before `b` (R58): higher priority, and at equal priority transit before own. -/
def beats (a b : TxEntry) : Bool :=
  decide (b.frame.prio < a.frame.prio) || (a.frame.prio == b.frame.prio && a.transit && !b.transit)

/-- The entry of a queue that leaves next, and the rest in order (R58). -/
def pickNext : List TxEntry → Option (TxEntry × List TxEntry)
  | [] => none
  | e :: es => match pickNext es with
    | none => some (e, [])
    | some (b, rest) => if beats b e then some (b, e :: rest) else some (e, es)

/-- EGRESS_FRAME_DONE (R58): the frame being sent is counted and the next is chosen by priority, transit first. -/
def execEgressFrameDone (f : Fin 4) (s : State) : Res :=
  .next (match (s.port f).now with
  | none => s
  | some e =>
    if !e.whole then s
    else
      let s := (s.bump (Key.COUNT_TX_FRAMES f)).addCount (Key.COUNT_TX_BYTES f) e.bytes
      let s := if e.stomp then s.bump (Key.COUNT_TX_STOMPED f) else s
      let s := { s with sent := s.sent ++ [(f.val, e.frame)] }
      let s := if e.frame.kind = 2 ∧ !e.transit then { s with writeSentAt := some s.ftime } else s
      match pickNext (s.port f).waiting with
      | none => s.setPort f { now := none, waiting := [] }
      | some (n, rest) => s.setPort f { now := some n, waiting := rest })

/-- COPPER_INTEGRITY is raised (R60): BYP_HOLD0 and BYP_HOLD1 are released, the registers reload and the self-test runs
again. -/
def State.copperFail (s : State) (detail : Nat) : State :=
  ((s.faultUp 0x000 0 detail).loadCopper.setReg Key.COPPER_SELFTEST 0).bypUpdate

/-- COPPER_VOTE (R60). -/
def execCopperVote (what : CopperEvent) (s : State) : Res :=
  .next (if !s.logicOn then s else match what with
  | .voteCorrected => s.bump Key.COPPER_VOTE_CORRECTED
  | .voteFailed => s.copperFail 1
  | .eccCorrected => s.bump Key.COPPER_ECC_CORRECTED
  | .eccUncorrectable => (s.bump Key.COPPER_ECC_UNCORRECTABLE).copperFail 2)

/-- COPPER_SELFTEST_DONE (R61). -/
def execCopperSelftestDone (passed : Bool) (s : State) : Res :=
  .next (if !s.logicOn then s
    else
      let s := s.setReg Key.COPPER_SELFTEST (if passed then 1 else 2)
      (if passed then s.faultDown 0x000 else s).bypUpdate)

/-- BYP_COMMAND_WRITE (R62). -/
def execBypCommandWrite (w : Writer) (v : Nat) (s : State) : Res :=
  .next (s.write w Key.BYP_COMMAND v noCheck (fun s => (s.store Key.BYP_COMMAND v).bypUpdate))

/-- BYP_CYCLES_WRITE (R65). -/
def execBypCyclesWrite (w : Writer) (pin : Fin 2) (v : Nat) (s : State) : Res :=
  .next (s.write w (bypCycles pin) v noCheck
    (fun s => ((s.store (bypCycles pin) v).logRecord (bypCycles pin) (beBytes 8 v)).wearPass s pin))

/-- RATED_CYCLES_WRITE (R65). -/
def execRatedCyclesWrite (w : Writer) (warn : Bool) (v : Nat) (s : State) : Res :=
  let k := if warn then Key.BYP_WARN_PERCENT else Key.BYP_RATED_CYCLES
  .next (s.write w k v noCheck (fun s => ((s.store k v).wearPass s 0).wearPass s 1))

/-- SETTLE_TIME_EXPIRY (R64): F0 and F1 may leave DOWN. -/
def execSettleTimeExpiry (s : State) : Res :=
  .next (match s.settleEnds with
  | none => s
  | some t => ({ s.until t with settleEnds := none }.tryLock 0).tryLock 1)

/-! ## The tie link's credits (R66, R67) -/

/-- The CREDIT frame: subtype, reserved, cumulative count of credits freed. -/
def creditFrame (s : State) : Frame :=
  { version := s.reg (Key.PORT_VERSION 2), kind := 10, prio := 7, source := s.station
    payload := [2, 0] ++ beBytes 2 (s.tie.freed % 65536) }

/-- CREDIT_RETURN_TIMEOUT (R67): 16 credits freed, or 5 µs after the first. -/
def execCreditReturnTimeout (s : State) : Res :=
  .next (match s.tie.firstUnreturned with
  | none => s
  | some t =>
    if s.up 2 then
      let s := if 16 ≤ s.tie.freed - s.tie.returned then s else s.until (t + 5000)
      let f := creditFrame s
      { s with tie := { s.tie with returned := s.tie.freed, firstUnreturned := none } }.sendTie f
    else s)

/-- Waiting frames leave in order while credit covers them (R66). -/
def releaseTie (s : State) : List (TxEntry × Nat × Bool) → State
  | [] => s
  | (e, t, c) :: es =>
    let need := creditsOf e.bytes
    let keep := if e.frame.prio < 7 then 8 else 0
    if need + keep ≤ s.tie.tx then
      releaseTie ({ s with tie := { s.tie with tx := s.tie.tx - need } }.enqueue 2 e) es
    else { s with tie := { s.tie with held := (e, t, c) :: es } }

/-- CREDIT_RECEIVED (R67): the cumulative count gives back what was freed since the last one that arrived. -/
def execCreditReceived (fr : Frame) (s : State) : Res :=
  .next (if !s.logicOn || !s.up 2 || fr.kind != 10 || beAt fr.payload 0 1 != 2 then s
    else
      let c := beAt fr.payload 2 2
      let s := { s with inbox := s.inbox.erase (2, fr)
                        tie := { s.tie with tx := min 256 (s.tie.tx + seqBehind c s.tie.seenFreed), seenFreed := c } }
      releaseTie { s with tie := { s.tie with held := [] } } s.tie.held)

/-- CREDIT_STALL_TIMEOUT (R67): a frame held 100 µs for lack of credit is counted, once. -/
def execCreditStallTimeout (s : State) : Res :=
  let s := match s.tie.held.find? (fun h => !h.2.2) with
    | none => s
    | some h => s.until (h.2.1 + 100000)
  let due (h : TxEntry × Nat × Bool) : Bool := !h.2.2 && decide (h.2.1 + 100000 ≤ s.lmc)
  .next ({ s with tie := { s.tie with held := s.tie.held.map (fun h => if due h then (h.1, h.2.1, true) else h) } }.addCount
    (Key.COUNT_CREDIT_STALL 2) (s.tie.held.filter due).length)

/-! ## Counter clears (R69) -/

/-- The effect of {11C.01} COUNTER_CLEAR: bits 3:0 clear COUNT_F0 to COUNT_F3; bit 7 clears {11D}, {208} and {060}; a
Crucible entry is written. -/
def State.linkClear (s : State) (v : Nat) : State :=
  let s := (List.range 4).foldl (fun s f => if bitOf v f then s.clearIndex (0x118 + f) else s) s
  let s := if bitOf v 7 then ((s.clearIndex 0x11D).clearIndex 0x208).clearIndex 0x060 else s
  s.logRecord Key.LINK_COUNTER_CLEAR (beBytes 1 v)

/-- LINK_COUNTER_CLEAR_PORT (R69). -/
def execLinkCounterClearPort (w : Writer) (v : Nat) (s : State) : Res :=
  .next (s.write w Key.LINK_COUNTER_CLEAR v noCheck (fun s => s.linkClear v))

/-- LINK_COUNTER_CLEAR_GLOBAL (R69). -/
def execLinkCounterClearGlobal (w : Writer) (v : Nat) (s : State) : Res :=
  .next (s.write w Key.LINK_COUNTER_CLEAR v noCheck (fun s => s.linkClear v))

end Sys2Proof.Machine
end

