-- ==== Sys2Proof/Machine/Map.lean ====
section
/-! DEFINITION. The mirror map, ages and staleness, the bandwidth check and slot offsets (R92 to R113, R129 to R131). -/

namespace Sys2Proof.Machine

/-- BAD_NO_SOURCE with value 0 (Table 4.1). -/
def badNoSource : Nat := 0x80000

/-- NOT_PRESENT (R94). -/
def notPresent : Nat := 0xF0000

/-! ## Turns (R98, R115) -/

/-- The turn period of exponent `k`, in ns (R98). -/
def turnNs (k : Nat) : Nat := 31250 * 2 ^ k

/-- The exponent in force: the hub's own setting until one has been adopted (R99). -/
def State.turnExp (s : State) : Nat := s.img.exp.getD (s.reg Key.IMG_TURN_PERIOD_EXP)

/-- The turn period in force. -/
def State.turnT (s : State) : Nat := turnNs s.turnExp

/-- FTIME as a count of whole ns; before FTIME 0 it counts as 0. -/
def State.now (s : State) : Nat := s.ftime.toNat

/-- The number of the turn that FTIME lies in (R98). -/
def State.turnNow (s : State) : Nat := s.now / s.turnT

/-- The apply instant of turn `n` (R115). -/
def State.applyAt (s : State) (n : Nat) : Nat := n * s.turnT + s.reg Key.IMG_APPLY_OFFSET * s.turnT / 100

/-! ## The window set and the map (R102 to R104) -/

/-- Granules of a window of `w` words. -/
def granules (w : Nat) : Nat := (w + 63) / 64

/-- A member of the window set (R102). -/
structure Member where
  key : Nat
  words : Nat
  base : Nat
  turnExp : Nat
  auth : Bool
  imported : Bool
  deriving DecidableEq, Repr

/-- Members in ascending key order. -/
def insertMember (m : Member) : List Member → List Member
  | [] => [m]
  | x :: xs => if m.key < x.key then m :: x :: xs else x :: insertMember m xs

/-- A member from a node's announced image fields. -/
def memberOf (key : Nat) (a : Announce) (imported : Bool) : Member :=
  { key := key, words := a.pubWords, base := a.base, turnExp := a.turnExp, auth := bitOf a.imageFlags 6, imported := imported }

/-- The window set: one member for each node of the ring, taken from the ANNOUNCE with ACTIVE where both hubs of a pair
announce, and one for each imported window (R102). -/
def State.windowSet (s : State) : List Member :=
  let ring := ringOf s.station * 1024
  let own := s.disc.announces.foldl (fun (ms : List Member) c => match c.2 with
    | none => ms
    | some a =>
      let key := ring + (if a.isB then c.1 - 1 else c.1)
      if a.pubWords = 0 then ms
      else if ms.any (fun m => m.key == key) then
        (if bitOf a.imageFlags 7 then ms.map (fun m => if m.key = key then memberOf key a false else m) else ms)
      else insertMember (memberOf key a false) ms) []
  s.disc.proxies.foldl (fun ms c => match c.2 with
    | none => ms
    | some a => if a.pubWords = 0 then ms else insertMember (memberOf c.1 a true) ms) own

/-- Granules `g` to `g + n - 1` are all free of the intervals `used`. -/
def granulesFree (used : List (Nat × Nat)) (g n : Nat) : Bool := used.all (fun u => decide (g + n ≤ u.1) || decide (u.1 + u.2 ≤ g))

/-- The lowest granule starting `n` free ones: granule 0 or the end of a used interval (R103, pass 2). -/
def firstFit (used : List (Nat × Nat)) (n : Nat) : Option Nat :=
  ((0 :: used.map (fun u => u.1 + u.2)).filter (fun g => decide (g + n ≤ 16384) && granulesFree used g n)).foldl
    (fun b g => match b with
      | none => some g
      | some x => some (min x g)) none

/-- Pass 1 of R103: members keep claimed places. Answers the places taken and the members still to place. -/
def placeClaims : List Member → List (Member × Nat) → List Member → List (Member × Nat) × List Member
  | [], placed, left => (placed, left.reverse)
  | m :: ms, placed, left =>
    let used := placed.map (fun p => (p.2, granules p.1.words))
    if m.base ≠ 0xFFFF ∧ m.base + granules m.words ≤ 16384 ∧ granulesFree used m.base (granules m.words) then
      placeClaims ms (placed ++ [(m, m.base)]) left
    else placeClaims ms placed (m :: left)

/-- Pass 2 of R103: first fit. Answers the places and the members left out. -/
def placeFit : List Member → List (Member × Nat) → List Member → List (Member × Nat) × List Member
  | [], placed, out => (placed, out.reverse)
  | m :: ms, placed, out =>
    match firstFit (placed.map (fun p => (p.2, granules p.1.words))) (granules m.words) with
    | some g => placeFit ms (placed ++ [(m, g)]) out
    | none => placeFit ms placed (m :: out)

/-- A window in ascending key order. -/
def insertWindow (w : Window) : List Window → List Window
  | [] => [w]
  | x :: xs => if w.key < x.key then w :: x :: xs else x :: insertWindow w xs

/-- The procedure of R103: the placed windows in key order, and the members left out. -/
def buildMap (ms : List Member) : List (Member × Nat) × List Member :=
  let (placed, left) := placeClaims ms [] []
  placeFit left placed []

/-- One bit step of the CRC-16 of R104. -/
def crc16Bit (c : Nat) : Nat := if c / 32768 % 2 = 1 then (c * 2 % 65536) ^^^ 0x1021 else c * 2 % 65536

/-- One byte of the CRC-16 of R104 (polynomial 0x1021). -/
def crc16Byte (c : Nat) (b : Byte) : Nat :=
  crc16Bit (crc16Bit (crc16Bit (crc16Bit (crc16Bit (crc16Bit (crc16Bit (crc16Bit (c ^^^ (b.toNat * 256)))))))))

/-- MAP_CHECK of a map (R104). -/
def mapCheck (ws : List Window) : Nat :=
  (ws.flatMap (fun w => beBytes 2 w.key ++ beBytes 2 w.base ++ beBytes 2 w.words)).foldl crc16Byte 0xFFFF

/-! ## The bandwidth check (R129, R130) -/

/-- Wire bits of an IMAGE frame of `w` words. -/
def frameBits (w : Nat) (auth : Bool) : Nat := 8 * (max 64 (48 + (if auth then 16 else 0) + (5 * w + 1) / 2) + 20)

/-- Words per IMAGE frame (R106, R129). -/
def frameWords (auth : Bool) : Nat := if auth then 581 else 588

/-- Wire bits per turn of a window of `w` words (R129). -/
def windowBits (w : Nat) (auth : Bool) : Nat :=
  let c := frameWords auth
  w / c * frameBits c auth + (if w % c = 0 then 0 else frameBits (w % c) auth)

/-- The ring rate in bits per ns: 25 until discovery has announced it (R130). -/
def State.ringBits (s : State) : Nat := if s.reg Key.DISC_RING_RATE = 2 then 10 else 25

/-- A load of `bits` per turn of exponent `k` is at most 80 % of the ring rate. -/
def State.loadFits (s : State) (bits k : Nat) : Bool := decide (bits * 10 ≤ 8 * turnNs k * s.ringBits)

/-- The map the check runs on: before the first rebuild, the hub's own window alone (R130). -/
def State.checkWins (s : State) : List (Nat × Nat × Bool) :=
  if s.img.mapped then s.img.wins.map (fun w => (w.key, w.words, w.auth))
  else [(s.node, s.reg Key.WIN_PUB_WORDS, s.flag Key.IMG_IMAGE_AUTH)]

/-- The scheduled load of the check, with the own window of `words` words and tags `auth` in place. -/
def State.loadWith (s : State) (words : Nat) (auth : Bool) : Nat :=
  let ws := s.checkWins
  let ws := if ws.any (fun w => w.1 == s.node) then ws.map (fun w => if w.1 = s.node then (w.1, words, auth) else w)
    else ws ++ [(s.node, words, auth)]
  (ws.map (fun w => windowBits w.2.1 w.2.2)).foldl (· + ·) 0

/-- Windows in counting order: imported ones in key order, then the ring's own in assignment order (R131). -/
def State.countOrder (s : State) : List Window :=
  let order := match s.disc.stations with
    | [] => []
    | r :: rs => match s.announce (stationOf r), rs.getLast? with
      | some a, some z => if a.isB && stationOf z + 1 == stationOf r then z :: r :: rs.dropLast else r :: rs
      | _, _ => r :: rs
  let keys := (order.map (fun a => s.nodeOf a)).foldl (fun (ks : List Nat) k => if ks.contains k then ks else ks ++ [k]) []
  let own := keys.filterMap (fun k => s.img.wins.find? (fun w => w.key == k && !w.imported))
  s.img.wins.filter (fun w => w.imported) ++ own ++
    s.img.wins.filter (fun w => !w.imported && !keys.contains w.key)

/-- Wire bits of the windows counted before node `k`, and up to and including it. -/
def bitsUpTo (k : Nat) : List Window → Nat → Nat × Nat
  | [], n => (n, n)
  | w :: ws, n => if w.key = k then (n, n + windowBits w.words w.auth) else bitsUpTo k ws (n + windowBits w.words w.auth)

/-! ## Adoption -/

/-- A window of the new map, with the reception state of the old one where it keeps its place (R104). -/
def adoptWindow (old : List Window) (scratch : Bool) (p : Member × Nat) : Window :=
  let m := p.1
  match old.find? (fun w => w.key == m.key && w.base == p.2 && !scratch) with
  | some w => { w with words := m.words, turnExp := m.turnExp, auth := m.auth, imported := m.imported }
  | none => { key := m.key, base := p.2, words := m.words, turnExp := m.turnExp, auth := m.auth, imported := m.imported }

/-- The window that covers mirror address `a` with one of its words, if any. -/
def State.windowAt (s : State) (a : Nat) : Option Window :=
  s.img.wins.find? (fun w => decide (w.base * 64 ≤ a) && decide (a < w.base * 64 + w.words))

/-- The hub's own window. -/
def State.ownWindow (s : State) : Option Window := s.img.wins.find? (fun w => w.key == s.node && !w.imported)

/-- The objects of {200} and {201} that follow the map, and IMAGE_OVERLOAD with its shedding (R100, R131). -/
def State.mapReport (s : State) : State :=
  let order := s.countOrder
  let bits := (s.img.wins.map (fun w => windowBits w.words w.auth)).foldl (· + ·) 0
  let (before, upTo) := bitsUpTo s.node order 0
  let rate := s.ringBits
  let overload := !s.loadFits bits s.turnExp
  let s := ((((((s.setReg Key.WIN_MAP_CHECK (mapCheck s.img.wins)).setReg Key.WIN_MAP_WINDOWS s.img.wins.length).setReg
    Key.WIN_LOAD_BITS bits).setReg Key.WIN_LOAD_PERMILLE (bits * 1000 / (s.turnT * rate))).setReg Key.IMG_SLOT_OFFSET
    ((before + rate * 10 - 1) / (rate * 10) * 10)).setReg Key.WIN_MIRROR_BASE (match s.ownWindow with
      | some w => w.base
      | none => 0xFFFF))
  { s with img := { s.img with shed := overload && !s.loadFits upTo s.turnExp } }.faultLevel 0x043 overload s.node 0

/-- The map is rebuilt (R103, R104): windows that keep their place are not touched, the words of all others read
BAD_NO_SOURCE until their first cell, and members left out raise MIRROR_FULL. -/
def State.mapRebuild (s : State) : State :=
  let ms := if s.img.scratch then s.windowSet.map (fun m => { m with base := 0xFFFF }) else s.windowSet
  let (placed, out) := buildMap ms
  let old := s.img.wins
  let wins := (placed.map (adoptWindow old s.img.scratch)).foldl (fun ws w => insertWindow w ws) []
  let kept (a : Nat) : Bool := wins.any (fun w =>
    decide (w.base * 64 ≤ a) && decide (a < w.base * 64 + w.words) && old.any (fun o => o.key == w.key && o.base == w.base) &&
      !s.img.scratch)
  let place (s : State) : Option (Nat × Nat) := s.ownWindow.map (fun w => (w.base, w.words))
  let scratch := s.img.scratch
  let was := place s
  let s := { s with
    mirror := s.mirror.filter (fun c => kept c.1)
    img := { s.img with wins := wins, mapped := true, builtFor := s.disc.assigns, rebuildDue := none, scratch := false } }
  let s := if was = place s then s else { s with img := { s.img with allDelta := true } }
  let s := s.faultLevel 0x041 (!out.isEmpty) ((out.head?.map (fun m => m.key)).getD 0) 0
  let s := if scratch then s.faultDown 0x042 else s
  s.mapReport

/-! ## Presented words (R112, R113, R126) -/

/-- The age of a word whose last cell carried the low turn bits `src`, in window `w` (R112). -/
def State.ageOf (s : State) (w : Window) (src : Nat) : Nat :=
  match w.lastHeard with
  | none => 255
  | some h =>
    let tw := h - (h + 64 - src % 64) % 64
    let valid := if w.chainStart ≤ tw + 1 then max tw w.lastComplete else tw
    min 255 (s.now / turnNs w.turnExp - valid)

/-- The stored word and age of mirror address `a`. -/
def State.mirrorWord (s : State) (a : Nat) : Nat × Nat :=
  match s.windowAt a with
  | none => (notPresent, 255)
  | some w => match cellGet (fun _ => none) s.mirror a with
    | none => (badNoSource, 255)
    | some c => (c.1, s.ageOf w c.2)

/-- A word as presented: stale when its age exceeds STALE_BOUND, the value field alone in compatibility mode (R113,
R126). -/
def State.presented (s : State) (a : Nat) : Nat :=
  let (w, age) := s.mirrorWord a
  let w := if s.reg Key.IMG_STALE_BOUND < age ∧ wQual w < 8 then word20 4 w else w
  if s.compat then wVal w else w

/-- The 32-bit lane of R122: age, then the presented word. -/
def State.lane (s : State) (a : Nat) : Nat := (s.mirrorWord a).2 * 2 ^ 24 + s.presented a

end Sys2Proof.Machine
end

