-- ==== Sys2Proof/Machine/Discovery.lean ====
section
/-! DEFINITION. Discovery, station assignment, the ring table and coupler adverts (R70 to R91). -/

namespace Sys2Proof.Machine

/-! ## Rounds and election (R71 to R73) -/

/-- ROUND `a` is older than ROUND `b`, modulo 65,536 (R70). -/
def olderRound (a b : Nat) : Bool := a != b && decide (seqBehind b a < 32768)

/-- The hub's entry flags (Table 3.1, R74). -/
def State.entryFlags (s : State) : Nat :=
  b2n s.straps.twinPosA * 128 + b2n (decide (s.role = .solo)) * 64 + b2n (s.flag Key.ADDR_PIN_ENABLE) * 32 +
    b2n (s.reg (Key.PORT_SPEED 0) == 2 || s.reg (Key.PORT_SPEED 1) == 2) * 16 + b2n s.isCoupler * 8

/-- The ELECT that names the hub's best candidate. -/
def electFrame (s : State) : Frame :=
  { prio := 7, payload := [1, 0] ++ beBytes 2 (s.reg Key.DISC_ROUND) ++ beBytes 1 s.disc.bestPriority ++ [0, 0, 0] ++
      beBytes 8 s.disc.bestSerial }

/-- ELECT leaves by both ports. -/
def State.sendElect (s : State) : State := (s.sendLocal 1 (electFrame s)).sendLocal 0 (electFrame s)

/-- The hub enters round `r` with itself as its best candidate. -/
def State.enterRound (s : State) (r : Nat) : State :=
  let s := { s with disc := { s.disc with
    want := false, electing := true, highRound := r, bestPriority := s.reg Key.DISC_ROOT_PRIORITY
    bestSerial := s.reg Key.ID_SERIAL, lastElect := s.lmc, firstElect := some s.lmc, root := false
    rollAt := none, assignAt := none, assignHeard := false } }
  ((s.setReg Key.DISC_ROUND r).setReg Key.DISC_STATE 1).bump Key.DISC_ROUNDS

/-- A hub starts a round: ROUND is the highest seen plus 1 (R71). -/
def State.roundStart (s : State) : State := (s.enterRound ((s.disc.highRound + 1) % 65536)).sendElect

/-- DISC_ROUND_START (R71): a cause has arisen. -/
def execDiscRoundStart (s : State) : Res := .next (if s.logicOn ∧ s.disc.want then s.roundStart else s)

/-- ASSIGN_ABSENCE_TIMEOUT (R71). -/
def execAssignAbsenceTimeout (s : State) : Res :=
  .next (if s.logicOn then
      let s := s.until (s.disc.lastAssign + 3 * s.reg Key.DISC_SWEEP_MS * 1000000)
      { s with disc := { s.disc with lastAssign := s.lmc } }.roundStart
    else s)

/-- Candidate `(p, q)` beats candidate `(p', q')`: lower priority, then lower serial (R72). -/
def candidateBeats (p q p' q' : Nat) : Bool := decide (p < p') || (p == p' && decide (q < q'))

/-- A received DISC frame leaves the queue of delivered frames. -/
def State.take (s : State) (f : Nat) (fr : Frame) : State := { s with inbox := s.inbox.erase (f, fr) }

/-- The round a DISC payload carries. -/
def roundOf (fr : Frame) : Nat := beAt fr.payload 2 2

/-- ELECT_RECEIVED (R72): a newer round is entered with the hub's own candidate first. -/
def execElectReceived (f : Fin 4) (fr : Frame) (s : State) : Res :=
  let s := s.take f fr
  let r := roundOf fr
  .next (if !s.logicOn || decide (2 ≤ f.val) || olderRound r (s.reg Key.DISC_ROUND) then s
    else
      let newer := olderRound (s.reg Key.DISC_ROUND) r
      let s := if newer then s.enterRound r else s
      let s := { s with disc := { s.disc with lastElect := s.lmc } }
      let p := beAt fr.payload 4 1
      let q := beAt fr.payload 8 8
      if candidateBeats p q s.disc.bestPriority s.disc.bestSerial then
        { s with disc := { s.disc with bestPriority := p, bestSerial := q } }.sendElect
      else if newer then s.sendElect
      else s)

/-- One roll entry: station, flags, reserved (Table 3.1). -/
def rollEntry (s : State) : List Byte := beBytes 2 s.station ++ beBytes 1 s.entryFlags ++ [0]

/-- The root sends ROLL out of F1 with its own entry (R73, R82). -/
def State.sendRoll (s : State) : State :=
  { s with disc := { s.disc with rollAt := some s.lmc, lastSweep := s.lmc } }.sendLocal 1
    { prio := 7, payload := [2, 0] ++ beBytes 2 (s.reg Key.DISC_ROUND) ++ beBytes 2 1 ++ beBytes 1 (s.reg Key.LINK_MAX_VERSION) ++
        beBytes 1 (s.reg Key.LINK_MIN_VERSION) ++ beBytes 4 (s.reg Key.FEAT_OWN_FEATURES) ++ [0, 0, 0, 0] ++ rollEntry s }

/-- ROOT_QUIET_EXPIRY (R73). -/
def execRootQuietExpiry (s : State) : Res :=
  .next (if s.logicOn ∧ s.disc.electing ∧ s.disc.bestPriority = s.reg Key.DISC_ROOT_PRIORITY ∧
      s.disc.bestSerial = s.reg Key.ID_SERIAL then
      let s := s.until (s.disc.lastElect + 1000000)
      ((({ s with disc := { s.disc with electing := false, root := true } }.setReg Key.DISC_STATE 2).setReg
        Key.DISC_ROOT_SERIAL (s.reg Key.ID_SERIAL)).setReg Key.ADDR_ROLL_POSITION 0).sendRoll
    else s)

/-! ## ROLL (R74, R75) -/

/-- ROLL_RECEIVED (R74): the hub merges versions and features, appends its entry and forwards. -/
def execRollReceived (f : Fin 4) (fr : Frame) (s : State) : Res :=
  let s := s.take f fr
  let p := fr.payload
  .next (if !s.logicOn || f.val != 0 || s.disc.root || olderRound (roundOf fr) (s.reg Key.DISC_ROUND) then s
    else
      let n := beAt p 4 2
      let s := ((s.setReg Key.DISC_ROUND (roundOf fr)).setReg Key.ADDR_ROLL_POSITION n)
      let s := { s with disc := { s.disc with electing := false, highRound := roundOf fr } }
      let s := if s.reg Key.DISC_STATE = 1 then s.setReg Key.DISC_STATE 2 else s
      s.sendLocal 1 { fr with
        payload := [2, 0] ++ beBytes 2 (roundOf fr) ++ beBytes 2 (n + 1) ++
          beBytes 1 (min (beAt p 6 1) (s.reg Key.LINK_MAX_VERSION)) ++ beBytes 1 (max (beAt p 7 1) (s.reg Key.LINK_MIN_VERSION)) ++
          beBytes 4 (beAt p 8 4 &&& s.reg Key.FEAT_OWN_FEATURES) ++ [0, 0, 0, 0] ++ (p.drop 16).take (4 * n) ++ rollEntry s })

/-- A roll entry as the root sees it: flags, kept station (0 none), pin value, and whether R76 pairs it with the hub
before it. -/
structure Rolled where
  flags : Nat
  station : Nat
  pin : Nat
  paired : Bool
  deriving DecidableEq, Repr

/-- The entries of a ROLL payload, with what the root knows of their pins. -/
def rolledOf : List Byte → List RollPin → Nat → List Rolled
  | _, _, 0 => []
  | p, pins, n + 1 =>
    { flags := beAt p 2 1, station := beAt p 0 2, pin := (pins.headD {}).pin, paired := (pins.headD {}).paired } ::
      rolledOf (p.drop 4) pins.tail n

/-- The rolled entry is a B hub. -/
def Rolled.isB (e : Rolled) : Bool := !bitOf e.flags 7 && !bitOf e.flags 6

/-- A node of the ring: the indices of its A (or only) hub and of its B hub, where present; `two` when it takes two
stations (R75, step 3). -/
structure RingNode where
  a : Option Nat
  b : Option Nat
  two : Bool
  deriving DecidableEq, Repr

/-- The nodes of entries in assignment order, numbered from `i` by their position in that order. -/
def nodesOf : List Rolled → Nat → List RingNode
  | [], _ => []
  | [e], i => if e.isB then [⟨none, some i, true⟩] else [⟨some i, none, !bitOf e.flags 6⟩]
  | e :: x :: es, i =>
    if e.isB then ⟨none, some i, true⟩ :: nodesOf (x :: es) (i + 1)
    else if !bitOf e.flags 6 && x.isB && x.paired then ⟨some i, some (i + 1), true⟩ :: nodesOf es (i + 2)
    else ⟨some i, none, !bitOf e.flags 6⟩ :: nodesOf (x :: es) (i + 1)

/-- Entry `i`. -/
def entryAt (es : List Rolled) (i : Nat) : Rolled := es.getD i ⟨0, 0, 0, false⟩

/-- The station a hub's pin asks for (R75, step 1): the pinned value, plus 1 for a B hub, the A hub's value ruling a pair. -/
def pinWish (es : List Rolled) (n : RingNode) (i : Nat) : Option Nat :=
  let e := entryAt es i
  if !bitOf e.flags 5 then none
  else if n.b = some i then
    match n.a with
    | some a => some ((if bitOf (entryAt es a).flags 5 then (entryAt es a).pin else e.pin) + 1)
    | none => some (e.pin + 1)
  else some e.pin

/-- Stations given so far: entry index and station. -/
abbrev Given := List (Nat × Nat)

/-- The hubs of a node, in order. -/
def RingNode.hubs (n : RingNode) : List Nat := n.a.toList ++ n.b.toList

/-- A station number in use. -/
def Given.used (g : Given) (x : Nat) : Bool := g.any (fun p => p.2 == x)

/-- The station given to entry `i`, 0 none. -/
def Given.of (g : Given) (i : Nat) : Nat := ((g.find? (fun p => p.1 == i)).map (fun p => p.2)).getD 0

/-- R75, step 1. -/
def givePins (es : List Rolled) (ns : List RingNode) : Given :=
  ns.foldl (fun g n => n.hubs.foldl (fun (g : Given) i => match pinWish es n i with
    | some x => if 1 ≤ x ∧ x ≤ 1022 ∧ !g.used x then g ++ [(i, x)] else g
    | none => g) g) []

/-- R75, step 2. -/
def giveKept (es : List Rolled) (ns : List RingNode) (g : Given) : Given :=
  ns.foldl (fun g n => n.hubs.foldl (fun (g : Given) i =>
    let x := stationOf (entryAt es i).station
    if g.of i = 0 ∧ x ≠ 0 ∧ !g.used x then g ++ [(i, x)] else g) g) g

/-- R75, step 3, first part: the hub of a half-held pair takes the station next to its twin's. Stations reserved for an
absent twin carry the index 0x10000 or above, which no hub has. -/
def giveTwin (ns : List RingNode) (g : Given) : Given :=
  ns.foldl (fun (g : Given) n =>
    if !n.two then g
    else
      let sa := (n.a.map g.of).getD 0
      let sb := (n.b.map g.of).getD 0
      let want := if sa ≠ 0 ∧ sb = 0 then sa + 1 else if sb ≠ 0 ∧ sa = 0 then sb - 1 else 0
      let who := if sa ≠ 0 then n.b.getD 0x10000 else n.a.getD 0x10000
      if 1 ≤ want ∧ want ≤ 1022 ∧ !g.used want then g ++ [(who, want)] else g) g

/-- What one node of assignment order still needs: a fixed station it passes, or hubs to place together. -/
inductive RunItem where
  | fixed (station : Nat)
  | need (hubs : List (Option Nat))
  deriving DecidableEq, Repr

/-- The runs of R75, step 3, as a list of fixed stations and needs. -/
def runItems (ns : List RingNode) (g : Given) : List RunItem :=
  ns.flatMap (fun n =>
    if n.hubs.all (fun i => g.of i == 0) then [.need (if n.two then [n.a, n.b] else [n.a])]
    else n.hubs.map (fun i => if g.of i = 0 then .need [some i] else .fixed (g.of i)))

/-- `w` free stations from `x` on, all below `b`. -/
def freeAt (g : Given) (x w b : Nat) : Bool := decide (x + w ≤ b) && (List.range w).all (fun j => !g.used (x + j))

/-- The hubs of a need take consecutive stations from `x`. -/
def placeAt (g : Given) (hubs : List (Option Nat)) (x : Nat) : Given :=
  g ++ (hubs.zipIdx.map (fun h => (h.1.getD 0x10000, x + h.2)))

/-- One run fills the free stations between `a` and `b` in ascending order; what does not fit is left over. -/
def fillRun : List (List (Option Nat)) → Nat → Nat → Given → List (List (Option Nat)) → Given × List (List (Option Nat))
  | [], _, _, g, left => (g, left)
  | h :: hs, a, b, g, left =>
    match (List.range (b - a)).map (fun i => a + 1 + i) |>.find? (fun x => freeAt g x h.length b) with
    | some x => fillRun hs (x + h.length - 1) b (placeAt g h x) left
    | none => fillRun hs a b g (left ++ [h])

/-- The runs in assignment order (R75, step 3): from station 0, each ending at the next fixed station, the last at 1023. -/
def fillRuns : List RunItem → Nat → List (List (Option Nat)) → Given → List (List (Option Nat)) →
    Given × List (List (Option Nat))
  | [], a, run, g, left => fillRun run a 1023 g left
  | .fixed x :: is, a, run, g, left =>
    let (g, left) := fillRun run a x g left
    fillRuns is x [] g left
  | .need h :: is, a, run, g, left => fillRuns is a (run ++ [h]) g left

/-- Nodes that fit no run take the lowest free stations above the highest in use (R75, step 3). -/
def placeOver : List (List (Option Nat)) → Given → Given
  | [], g => g
  | h :: hs, g =>
    let x := (g.map (fun p => p.2)).foldl max 0 + 1
    placeOver hs (if x + h.length ≤ 1023 then placeAt g h x else g)

/-- The stations of R75, in roll order (numbers 1 to 1022, 0 none). -/
def computeStations (roll : List Rolled) : List Nat :=
  let n := roll.length
  let rotated : Bool := match roll with
    | r :: _ => r.isB && r.paired && decide (1 < n)
    | [] => false
  let es := if rotated then (roll.getLastD ⟨0, 0, 0, false⟩) :: roll.dropLast else roll
  let ns := nodesOf es 0
  let g := giveTwin ns (giveKept es ns (givePins es ns))
  let (g, left) := fillRuns (runItems ns g) 0 [] g []
  let g := placeOver left g
  let given := (List.range n).map (fun i => g.of i)
  if rotated then given.tail ++ given.take 1 else given

/-- ROLL_RETURN (R75, R79): the root computes the ring's values and every station, and sends ASSIGN. The operand gives
what the root knows of each hub's pin and pairing, which no field of ROLL carries. -/
def execRollReturn (f : Fin 4) (fr : Frame) (pins : List RollPin) (s : State) : Res :=
  let s := s.take f fr
  let p := fr.payload
  .next (if !s.logicOn || f.val != 0 || !s.disc.root || s.disc.rollAt.isNone || roundOf fr != s.reg Key.DISC_ROUND then s
    else
      let n := beAt p 4 2
      let roll := rolledOf (p.drop 16) pins n
      let ring := s.reg Key.DISC_RING_NUMBER
      let ver := if beAt p 7 1 ≤ beAt p 6 1 then beAt p 6 1 else 0
      let stations := (computeStations roll).map (fun x => if x = 0 then 0 else ring * 1024 + x)
      let pay := [3] ++ beBytes 1 (b2n (roll.any (fun e => bitOf e.flags 4))) ++ beBytes 2 (roundOf fr) ++ beBytes 2 n ++
        beBytes 1 ver ++ beBytes 1 ring ++ beBytes 4 (beAt p 8 4) ++ beBytes 4 s.disc.lap ++ beBytes 8 (s.reg Key.ID_SERIAL) ++
        stations.flatMap (beBytes 2)
      let s := s.setReg Key.DISC_HUB_COUNT n
      let s := if s.reg Key.DISC_STATE = 2 then s.setReg Key.DISC_STATE 3 else s
      { s with disc := { s.disc with rollAt := none, assignAt := some s.lmc, assign := pay } }.sendLocal 1
        { prio := 7, payload := pay })

/-! ## Features in use (R81) -/

/-- Bytes `i` to `i + n - 1` of an OCTETS value of `size` bytes, as a number. -/
def octAt (size v i n : Nat) : Nat := v / 256 ^ (size - i - n) % 256 ^ n

/-- Feature bit `b` is used by the configuration (R81). -/
def State.usesFeature (s : State) (b : Nat) : Bool :=
  if b = 0 then decide (1 < s.reg Key.IMG_REFRESH_ROTATION)
  else if b = 1 then s.regs.any (fun c => decide (0x7B0 ≤ c.1 / 256) && decide (c.1 / 256 ≤ 0x7CF) &&
    octAt 20 c.2 0 2 / 4096 != 0 && octAt 20 c.2 10 2 != 0)
  else if b = 2 then s.flag Key.IMG_IMAGE_AUTH || s.flag Key.ACCESS_AUTH_REQUIRED || s.flag Key.KEY_WRITE_AUTH ||
    s.flag Key.KEY_TWIN_AUTH || s.flag Key.EVT_EVENT_AUTH
  else if b = 3 then s.regs.any (fun c => decide (0x780 ≤ c.1 / 256) && decide (c.1 / 256 ≤ 0x78F) &&
    bitOf (octAt 24 c.2 10 1) 7)
  else if b = 4 then (List.range 4).any (fun r => s.flag (Key.REM_ENABLE r)) ||
    s.regs.any (fun c => decide (0x810 ≤ c.1 / 256) && decide (c.1 / 256 ≤ 0x81F) && decide (0 < c.1 % 256) && fld c.2 54 51 != 0)
  else if b = 5 then (List.range 8).any (fun j => fld (s.reg (Key.FENCE_SLOT j)) 31 28 == 4)
  else false

/-- The first feature bit that is used and absent from the ring feature set. -/
def State.missingFeature (s : State) : Option Nat := (List.range 6).find? (fun b => s.usesFeature b && !s.feature b)

/-- Tunnel end `t` (R318). -/
def State.tun (s : State) (t : Nat) : TunnelSt := cellGet (fun _ => {}) s.sw.tunnels t

/-- Tunnel end `t` becomes `x`. -/
def State.setTun (s : State) (t : Nat) (x : TunnelSt) : State :=
  { s with sw := { s.sw with tunnels := cellSet (fun _ => {}) s.sw.tunnels t x } }

/-- Withdrawal of TUNNEL suspends every enabled tunnel, and its return puts them in OPENING (R334). -/
def State.tunnelsFollow (s : State) : State :=
  s.regs.foldl (fun s c =>
    let i := c.1 / 256
    if 0x780 ≤ i ∧ i ≤ 0x78F ∧ bitOf (octAt 24 c.2 10 1) 7 then
      let t := 64 * (i - 0x780) + c.1 % 256 - 1
      if !s.feature 3 then s.setTun t { s.tun t with st := 5, sbValid := false, sbRemote := 0 }
      else if (s.tun t).st = 5 then s.setTun t { s.tun t with st := 1, openAt := none }
      else s
    else s) s

/-! ## ASSIGN (R77 to R80) -/

/-- The ANNOUNCE the hub originates (Table 3.1, Table 4.3). -/
def announceFields (s : State) : Announce :=
  { flags := s.entryFlags, minVer := s.reg Key.LINK_MIN_VERSION, maxVer := s.reg Key.LINK_MAX_VERSION
    serial := s.reg Key.ID_SERIAL, features := s.reg Key.FEAT_OWN_FEATURES
    pubWords := s.reg Key.WIN_PUB_WORDS, subWords := s.reg Key.WIN_SUB_WORDS
    base := (s.ownWindow.map (fun w => w.base)).getD 0xFFFF, check := mapCheck s.img.wins
    turnExp := s.reg Key.IMG_TURN_PERIOD_EXP, rotation := s.reg Key.IMG_REFRESH_ROTATION
    imageFlags := b2n (decide (s.role ≠ .standby)) * 128 + b2n (s.flag Key.IMG_IMAGE_AUTH && s.feature 2) * 64 +
      b2n s.img.mapped * 32 }

/-- ANNOUNCE as a frame to the ring's broadcast station. -/
def announceFrame (s : State) (station : Nat) (a : Announce) : Frame :=
  { prio := 7, dest := ringOf s.station * 1024 + 1023
    payload := [5] ++ beBytes 1 a.flags ++ beBytes 2 (s.reg Key.DISC_ROUND) ++ beBytes 2 station ++ beBytes 1 a.minVer ++
      beBytes 1 a.maxVer ++ beBytes 8 a.serial ++ beBytes 4 a.features ++ beBytes 2 a.pubWords ++ beBytes 2 a.subWords ++
      beBytes 2 a.base ++ beBytes 2 a.check ++ beBytes 1 a.turnExp ++ beBytes 1 a.rotation ++ beBytes 1 a.imageFlags ++ [0] }

/-- DISC frames carry version 1 on every ring (R46). -/
def State.originateDisc (s : State) (fr : Frame) : State :=
  if s.station = 0 ∧ s.flag Key.DISC_RING_OPEN then s
  else if s.disc.restartAt.isSome then { s with disc := { s.disc with restartHeld := s.disc.restartHeld ++ [fr] } }
  else
    let fr := { fr with version := 1, source := s.station, bothWays := true, hops := 0, seq := s.seqNext, turn := s.turn }
    { s with seqNext := (s.seqNext + 1) % 65536 }.sendBoth fr

/-- The hub's own entry of the ring table, which its own ANNOUNCE gives. -/
def State.noteOwn (s : State) : State :=
  { s with disc := { s.disc with
      announces := cellSet (fun _ => none) s.disc.announces (stationOf s.station) (some (announceFields s)) } }

/-- Every station of the last ASSIGN has announced: the map is rebuilt (R104). -/
def State.rebuildIfWhole (s : State) : State :=
  if s.img.rebuildDue.isSome ∧ s.disc.stations.all (fun a => stationOf a == 0 || (s.announce (stationOf a)).isSome) then s.mapRebuild
  else s

/-- After each relayed or returned ASSIGN a hub that holds a station originates ANNOUNCE, and an importing coupler hub a
proxy for each granted window (R77, R128). -/
def State.announceAll (s : State) : State :=
  if s.station = 0 then s
  else
    let s := (s.noteOwn.originateDisc (announceFrame s s.station (announceFields s)))
    let s := if s.isCoupler then s.img.granted.foldl (fun s c => match c.2 with
        | some a => s.originateDisc (announceFrame s c.1 { a with
            base := ((s.img.wins.find? (fun w => w.key == c.1)).map (fun w => w.base)).getD 0xFFFF })
        | none => s) s else s
    s.rebuildIfWhole

/-- The duplicate entries, the sequence and the origination queue are unaffected; frames that waited for RESTART leave
(R77). -/
def State.restartDone (s : State) : State :=
  let held := s.disc.restartHeld
  let s := { s with disc := { s.disc with restartAt := none, restartHeld := [] } }
  held.foldl (fun s fr => if fr.kind = 0 then s.originateDisc fr else s.originateNow fr) s

/-- The hub takes its station and the ring's values from an ASSIGN payload (R77 to R81). -/
def State.takeAssign (s : State) (p : List Byte) : State :=
  let n := beAt p 4 2
  let pos := s.reg Key.ADDR_ROLL_POSITION
  let ring := beAt p 7 1
  let stationAt (i : Nat) : Nat := let x := beAt p (24 + 2 * i) 2 % 1024; if x = 0 then 0 else ring * 1024 + x
  let mine := if pos < n then stationAt pos else s.station
  let had := s.station
  let isB := !s.straps.twinPosA && decide (s.role ≠ .solo)
  let node := if mine = 0 then 0 else if isB then mine - 1 else mine
  let ver := beAt p 6 1
  let rate : Nat := if bitOf (beAt p 1 1) 0 then 2 else 1
  let first := had == 0 && mine != 0
  let s := (((((((((s.setReg Key.ADDR_STATION mine).setReg Key.ADDR_NODE_ADDRESS node).setReg Key.LINK_RING_VERSION ver).setReg
    Key.DISC_RING_RATE rate).setReg Key.FEAT_RING_FEATURES (beAt p 8 4)).setReg Key.LINK_LAP_NS (beAt p 12 4)).setReg
    Key.DISC_ROOT_SERIAL (beAt p 16 8)).setReg Key.DISC_RING_OPEN 0).setReg Key.DISC_STATE 4).setReg Key.DISC_ROUND (beAt p 2 2)
  let s := { s with
    assigned := true
    disc := { s.disc with assignHeard := true, lastAssign := s.lmc, assigns := s.disc.assigns + 1, electing := false
                          stations := (List.range n).map stationAt, announces := [] }
    img := { s.img with rebuildDue := some (s.lmc + 2 * beAt p 12 4 + 1000000) } }
  let s := s.loadCopper
  let s := s.faultLevel 0x02B (s.reg Key.DISC_RING_NUMBER != ring) mine 0
  let s := s.faultLevel 0x02C (ver == 0) mine 0
  let s := s.faultLevel 0x02D s.missingFeature.isSome mine (s.missingFeature.getD 0)
  let wish := (if isB then (match s.disc.peerPin with
      | some x => x
      | none => s.reg Key.ADDR_PIN_STATION) + 1 else s.reg Key.ADDR_PIN_STATION)
  let twin := s.reg (Key.PORT_PEER_STATION 2)
  let conflict := (s.flag Key.ADDR_PIN_ENABLE && stationOf mine != wish) ||
    (s.role != .solo && first && !s.flag Key.ADDR_PIN_ENABLE && s.up 2 && twin != 0 &&
      mine != (if isB then twin + 1 else twin - 1))
  let s := s.faultLevel 0x029 (conflict && mine != 0) mine 0
  let s := s.faultLevel 0x028 (isB && s.flag Key.ADDR_PIN_ENABLE && s.disc.peerPin.isSome &&
    s.disc.peerPin != some (s.reg Key.ADDR_PIN_STATION)) mine 0
  let s := s.tunnelsFollow.couplerUpdate.settle
  let s := if first then
      { (s.sendLocal 1 { prio := 7, payload := [4, 0] ++ beBytes 2 mine ++ beBytes 8 (s.reg Key.ID_SERIAL) }) with
        disc := { s.disc with restartAt := some s.lmc } }
    else s
  if (s.up 0 && s.reg (Key.PORT_RATE 0) != rate) || (s.up 1 && s.reg (Key.PORT_RATE 1) != rate) then
    { s with disc := { s.disc with rateAt := some (s.lmc + 2000000) } }
  else s

/-- ASSIGN_RECEIVED (R77): a hub other than the root takes its values, forwards the frame and announces. -/
def execAssignReceived (f : Fin 4) (fr : Frame) (s : State) : Res :=
  let s := s.take f fr
  .next (if !s.logicOn || f.val != 0 || s.disc.root || olderRound (roundOf fr) (s.reg Key.DISC_ROUND) then s
    else ((s.sendLocal 1 fr).takeAssign fr.payload).announceAll)

/-- RESTART_RECEIVED (R77): the sender absorbs its own; a relaying hub clears its duplicate entry and forwards. -/
def execRestartReceived (f : Fin 4) (fr : Frame) (s : State) : Res :=
  let s := s.take f fr
  .next (if !s.logicOn || f.val != 0 then s
    else if beAt fr.payload 4 8 = s.reg Key.ID_SERIAL then (if s.disc.restartAt.isSome then s.restartDone else s)
    else (s.setDup (beAt fr.payload 2 2) none).sendLocal 1 fr)

/-- RESTART_TIMEOUT (R77). -/
def execRestartTimeout (s : State) : Res :=
  .next (match s.disc.restartAt with
  | none => s
  | some t => (s.until (t + 2 * s.reg Key.LINK_LAP_NS + 1000000)).restartDone.occur 0x02A s.station 0)

/-- ASSIGN_RETURN (R77, R82): the round completes; the root announces and originates LAP. -/
def execAssignReturn (f : Fin 4) (fr : Frame) (s : State) : Res :=
  let s := s.take f fr
  .next (if !s.logicOn || f.val != 0 || !s.disc.root || s.disc.assignAt.isNone || roundOf fr != s.reg Key.DISC_ROUND then s
    else
      let s := { s with disc := { s.disc with assignAt := none, lap := 0 } }.takeAssign fr.payload
      let s := (((s.setReg Key.DISC_LAST_COMPLETE s.lmc).faultDown 0x02E).raise 7 (s.reg Key.DISC_ROUND)).announceAll
      s.originateDisc { prio := 7, dest := ringOf s.station * 1024 + 1023
                        payload := [6, 0] ++ beBytes 2 (s.reg Key.DISC_ROUND) ++ beBytes 8 s.lmc })

/-- LAP_RETURN (R82): a copy stripped at the root is timed; the larger time goes into the next ASSIGN. -/
def execLapReturn (f : Fin 4) (fr : Frame) (s : State) : Res :=
  let s := s.take f fr
  .next (if !s.logicOn || !s.disc.root || fr.source != s.station then s
    else { s with disc := { s.disc with lap := max s.disc.lap (s.lmc - beAt fr.payload 4 8) } })

/-- The fields of a received ANNOUNCE. -/
def announceOf (p : List Byte) : Announce :=
  { flags := beAt p 1 1, minVer := beAt p 6 1, maxVer := beAt p 7 1, serial := beAt p 8 8, features := beAt p 16 4
    pubWords := beAt p 20 2, subWords := beAt p 22 2, base := beAt p 24 2, check := beAt p 26 2, turnExp := beAt p 28 1
    rotation := beAt p 29 1, imageFlags := beAt p 30 1 }

/-- The root's announced exponent is adopted for a later boundary, and TURN_MISMATCH follows (R99). -/
def State.noteRootExp (s : State) (k : Nat) : State :=
  let s := { s with img := { s.img with rootExp := some k, nextExp := if k = s.turnExp then none else
      match s.img.nextExp with
      | some (j, t) => if j = k then some (j, t) else some (k, s.now)
      | none => some (k, s.now) } }
  s.faultLevel 0x040 (s.reg Key.IMG_TURN_PERIOD_EXP != k) s.node 0

/-- ANNOUNCE_RECEIVED (R91, R99, R104, R128). -/
def execAnnounceReceived (f : Fin 4) (fr : Frame) (s : State) : Res :=
  let s := s.take f fr
  let a := announceOf fr.payload
  let st := beAt fr.payload 4 2
  .next (if !s.logicOn then s
    else if ringOf st ≠ ringOf s.station then
      (if cellGet (fun _ => none) s.disc.proxies st = some a then s
       else { s with disc := { s.disc with proxies := cellSet (fun _ => none) s.disc.proxies st (some a) } }.mapRebuild)
    else
      let listed := s.disc.stations.any (fun x => stationOf x == stationOf st && stationOf x != 0)
      if !listed then s
      else
        let s := { s with disc := { s.disc with
          announces := cellSet (fun _ => none) s.disc.announces (stationOf st) (some a) } }
        let diverged := s.img.mapped && decide (s.img.builtFor < s.disc.assigns) && bitOf a.imageFlags 5 &&
          a.check != mapCheck s.img.wins
        let s := if diverged then ({ s with img := { s.img with scratch := true } }).faultLevel 0x042 true s.node 0 else s
        let s := if (s.disc.stations.head?.map stationOf) = some (stationOf st) ∧ !s.disc.root then s.noteRootExp a.turnExp else s
        s.rebuildIfWhole)

/-- RATE_CHANGE_DOWN (R80). -/
def execRateChangeDown (s : State) : Res :=
  .next (match s.disc.rateAt with
  | none => s
  | some t =>
    let s := s.until t
    ({ s with disc := { s.disc with rateAt := none } }.linkDown 0).linkDown 1)

/-- SWEEP_TIMER (R82). -/
def execSweepTimer (s : State) : Res :=
  .next (if s.logicOn ∧ s.disc.root ∧ s.disc.rollAt = none ∧ s.disc.assignAt = none then
      (s.until (s.disc.lastSweep + s.reg Key.DISC_SWEEP_MS * 1000000)).sendRoll else s)

/-- RING_OPEN_TIMEOUT (R84): only the root raises the fault. -/
def execRingOpenTimeout (s : State) : Res :=
  .next (if !s.logicOn then s
    else if s.disc.root then
      (match s.disc.rollAt <|> s.disc.assignAt with
       | none => s
       | some t =>
        let s := s.until (t + 3280000)
        (({ s with disc := { s.disc with rollAt := none, assignAt := none } }.setReg Key.DISC_RING_OPEN 1).setReg
          Key.DISC_STATE 5).faultLevel 0x02E true s.station 0)
    else match s.disc.firstElect with
      | none => s
      | some t => if s.disc.assignHeard then s
          else ((s.until (t + 4280000)).setReg Key.DISC_RING_OPEN 1).setReg Key.DISC_STATE 5)

/-! ## Coupler adverts (R87) -/

/-- COUPLER_ADVERT_SEND (R87): every 100 ms, and on a change. -/
def execCouplerAdvertSend (s : State) : Res :=
  .next (if s.logicOn ∧ s.isCoupler then
      let s := match s.disc.advertAt with
        | some t => if s.disc.advertDue then s else s.until (t + 100000000)
        | none => s
      let s := { s.couplerUpdate with disc := { s.couplerUpdate.disc with advertAt := some s.lmc, advertDue := false } }
      let rs := s.reaches
      s.originateDisc { prio := 7, dest := ringOf s.station * 1024 + 1023
                        payload := [7] ++ beBytes 1 (b2n (s.up 3) + 2 * b2n s.carrying) ++
                          beBytes 1 (s.reg Key.COUPLER_FAR_RING) ++ beBytes 1 rs.length ++
                          rs.flatMap (fun r => beBytes 1 r.1 ++ beBytes 1 r.2) }
    else s)

/-- The rings of an advert payload. -/
def advertRings : List Byte → Nat → List (Nat × Nat)
  | _, 0 => []
  | p, n + 1 => (beAt p 0 1, beAt p 1 1) :: advertRings (p.drop 2) n

/-- COUPLER_ADVERT_RECEIVED (R86, R87): from the ring by F0 or F1, or the far side's by F3. -/
def execCouplerAdvertReceived (f : Fin 4) (fr : Frame) (s : State) : Res :=
  let s := s.take f fr
  let p := fr.payload
  let a : Advert := { f3Up := bitOf (beAt p 1 1) 0, carrying := bitOf (beAt p 1 1) 1, farRing := beAt p 2 1
                      rings := advertRings (p.drop 4) (beAt p 3 1) }
  .next (if !s.logicOn then s
    else if f.val = 3 then { s with disc := { s.disc with farAdvert := some a } }.couplerUpdate.routesUpdate
    else { s with disc := { s.disc with
      adverts := cellSet (fun _ => none) s.disc.adverts fr.source (some a) } }.couplerUpdate.routesUpdate)

end Sys2Proof.Machine
end

