-- ==== Sys2Proof/Machine/Time.lean ====
section
/-! DEFINITION. Fabric time: the election of the time master, SYNC and the servo, peer delay, steps, and IEEE 1588 on the
edge ports (R132 to R152). Timestamps are FTIME in units of 2^-16 ns. -/

namespace Sys2Proof.Machine

/-! ## Election (R136, R137) -/

/-- The hub's CLOCK_CLASS as a candidate (R136). -/
def State.ownClass (s : State) : Nat :=
  match s.time.ext with
  | some c => c
  | none => if s.time.extLostAt.isSome then 7 else 248

/-- The hub is a candidate (R136). -/
def State.isCandidate (s : State) : Bool :=
  s.logicOn && s.reg Key.TIME_ROLE == 0 && decide (s.role ≠ .standby) && (s.time.listened || s.time.synced)

/-- The hub's own candidature. -/
def State.ownCand (s : State) : Cand :=
  { cls := s.ownClass, prio := s.reg Key.TIME_PRIORITY, crossings := 0, gm := s.reg Key.ID_SERIAL, heardAt := s.lmc }

/-- The order of R137 as one number: CLOCK_CLASS, TIME_PRIORITY, CROSSINGS, SERIAL. -/
def candRank (serial : Nat) (c : Cand) : Nat :=
  ((c.cls * 256 + c.prio) * 256 + c.crossings) * 2 ^ 64 + serial

/-- The candidates that count: those heard, and the hub's own. -/
def State.candidates (s : State) : List (Nat × Cand) :=
  s.time.cands.filterMap (fun c => c.2.map (fun x => (c.1, x))) ++
    (if s.isCandidate then [(s.reg Key.ID_SERIAL, s.ownCand)] else [])

/-- The best candidate (R137). -/
def State.bestCand (s : State) : Option (Nat × Cand) :=
  s.candidates.foldl (fun b c => match b with
    | none => some c
    | some x => if candRank c.1 c.2 < candRank x.1 x.2 then some c else some x) none

/-- TIME_STATE becomes `v`, which source 6 signals (Table 14.1). -/
def State.timeTo (s : State) (v : Nat) : State :=
  if s.reg Key.TSTAT_TIME_STATE = v then s
  else { (s.setReg Key.TSTAT_TIME_STATE v).raise 6 v with
    time := { s.time with small := 0, large := 0, synced := s.time.synced || v == 2 } }

/-- Timer unit `u`. -/
def State.timer (s : State) (u : Nat) : TimerSt := cellGet (fun _ => {}) s.timers u

/-- Timer unit `u` becomes `t`. -/
def State.setTimer (s : State) (u : Nat) (t : TimerSt) : State := { s with timers := cellSet (fun _ => {}) s.timers u t }

/-- The capture of Pan `n`. -/
def State.capture (s : State) (n : Nat) : CaptureSt := cellGet (fun _ => {}) s.captures n

/-- The capture of Pan `n` becomes `c`. -/
def State.setCapture (s : State) (n : Nat) (c : CaptureSt) : State := { s with captures := cellSet (fun _ => {}) s.captures n c }

/-- FTIME is stepped by `d` (2^-16 ns): logged, counted and reported (R146); a pulse in progress ends that much later and
the next capture of every Pan carries STEPPED (R155, Table 5.3). -/
def State.stepTime (s : State) (d : Int) : State :=
  let ns := d / 65536
  let s := { s with ftimeQ := s.ftimeQ + d }
  let s := s.timers.foldl (fun s c => s.setTimer c.1 { c.2 with pulseEnd := c.2.pulseEnd.map (fun t => t + ns) }) s
  let s := (List.range 16).foldl (fun s n => s.setCapture n { s.capture n with stepped := true }) s
  ((((s.bump Key.TSTAT_STEPS_TAKEN).setReg Key.TSTAT_LAST_STEP (ofSigned 64 ns)).logRecord Key.TSTAT_LAST_STEP
    (beBytes 8 (ofSigned 64 ns))).occur 0x04A 0 (min 65535 (ns.natAbs / 1000)))

/-- The master is elected again, and TIME_STATE follows a change of mastership (R137, R143, R480). -/
def State.elect (s : State) : State :=
  let own := s.reg Key.ID_SERIAL
  match s.bestCand with
  | none =>
    let s := ((s.setReg Key.TSTAT_MASTER_SERIAL 0).setReg Key.TSTAT_MASTER_CLASS 0).setReg Key.TSTAT_MASTER_CROSSINGS 0
    if s.reg Key.TSTAT_TIME_STATE = 4 then s.timeTo (if s.time.delivered then 1 else 0) else s
  | some b =>
    let was := s.reg Key.TSTAT_TIME_STATE
    let s := ((s.setReg Key.TSTAT_MASTER_SERIAL b.1).setReg Key.TSTAT_MASTER_CLASS b.2.cls).setReg Key.TSTAT_MASTER_CROSSINGS
      b.2.crossings
    if b.1 = own then
      if was = 4 then s
      else
        let floor := toSigned 64 (s.reg Key.KEY_TAG_FLOOR)
        let s := if was = 0 ∧ s.flag Key.KEYED ∧ s.time.ext = none ∧ s.ftime < floor then s.stepTime (floor * 65536 - s.ftimeQ)
          else s
        s.timeTo 4
    else if was = 4 then s.timeTo (if s.time.delivered then 1 else 0)
    else s

/-- CANDIDATE_LISTEN_EXPIRY (R136): 750 ms of listening have passed since reset. -/
def execCandidateListenExpiry (s : State) : Res :=
  .next (if !s.logicOn || s.time.listened then s
    else
      let s := s.until (s.time.since + 750000000)
      { s with time := { s.time with listened := true } }.elect)

/-- HOLDOVER_LIMIT_EXPIRY (R136). -/
def execHoldoverLimitExpiry (s : State) : Res :=
  .next (match s.time.extLostAt with
  | none => s
  | some t =>
    let s := s.until (t + s.reg Key.TIME_HOLDOVER_LIMIT * 1000000000)
    { s with time := { s.time with extLostAt := none } }.elect)

/-- The candidature the hub announces: the better of its own and the one it holds from F3 (R136, R150). -/
def State.announcedCand (s : State) : Option Cand :=
  let own := s.reg Key.ID_SERIAL
  (s.candidates.filter (fun c => c.1 == own)).foldl (fun b c => match b with
    | none => some c.2
    | some x => if candRank own c.2 < candRank own x then some c.2 else some x) none

/-- The CANDIDATE payload (Table 5.1). -/
def candPayload (serial : Nat) (c : Cand) : List Byte :=
  [2, 0] ++ beBytes 1 c.cls ++ beBytes 1 c.prio ++ beBytes 1 c.crossings ++ [0, 0, 0] ++ beBytes 8 serial ++ beBytes 8 c.gm

/-- CANDIDATE_SEND (R136): every 250 ms. -/
def execCandidateSend (s : State) : Res :=
  .next (if !s.logicOn then s else match s.announcedCand with
  | none => s
  | some c =>
    let s := if s.time.candAt = 0 then s else s.until (s.time.candAt + 250000000)
    ({ s with time := { s.time with candAt := s.lmc } }.originate
      { kind := 6, prio := 7, dest := ringOf s.station * 1024 + 1023, payload := candPayload (s.reg Key.ID_SERIAL) c }).elect)

/-- CANDIDATE_RECEIVED (R137): on a coupler's F3 the entry is made under the hub's own serial (R150). -/
def execCandidateReceived (f : Fin 4) (fr : Frame) (s : State) : Res :=
  let s := s.take f fr
  let p := fr.payload
  .next (if !s.logicOn || (f.val == 3 && !s.isCoupler) then s
    else
      let serial := if f.val = 3 then s.reg Key.ID_SERIAL else beAt p 8 8
      let c : Cand := { cls := beAt p 2 1, prio := beAt p 3 1, crossings := beAt p 4 1, gm := beAt p 16 8, heardAt := s.lmc
                        far := f.val == 3 }
      { s with time := { s.time with cands := cellSet (fun _ => none) s.time.cands serial (some c) } }.elect)

/-- CANDIDATE_EXPIRY (R137): the candidate heard least recently is dropped 750 ms after it was heard. -/
def execCandidateExpiry (s : State) : Res :=
  let oldest := s.time.cands.foldl (fun (b : Option (Nat × Nat)) c => match c.2, b with
    | some x, none => some (c.1, x.heardAt)
    | some x, some y => if x.heardAt < y.2 then some (c.1, x.heardAt) else some y
    | none, b => b) none
  .next (if !s.logicOn then s else match oldest with
  | none => s
  | some o =>
    let s := s.until (o.2 + 750000000)
    let lost := decide (s.reg Key.TSTAT_MASTER_SERIAL = o.1)
    let s := { s with time := { s.time with cands := cellSet (fun _ => none) s.time.cands o.1 none } }
    (if lost then s.occur 0x048 0 0 else s).elect)

/-! ## Stamps (R142) -/

/-- TX and RX constants of a fabric port's line mode, in ps (Table 5.2). -/
def portConst (mode : Nat) : Nat × Nat := if mode = 1 then (21700, 29400) else if mode = 0 then (47200, 139800) else (35500, 48100)

/-- Picoseconds as 2^-16 ns. -/
def psQ (ps : Int) : Int := ps * 65536 / 1000

/-- 2^-16 ns as picoseconds. -/
def qPs (q : Int) : Int := q * 1000 / 65536

/-- An egress stamp of fabric port `f`, moved to its balls. -/
def State.txStamp (s : State) (f : Nat) (mac : Int) : Int :=
  mac + psQ ((portConst (s.link f).attempt).1 + toSigned 32 (s.reg (Key.PTIME_TX_TRIM f)))

/-- An ingress stamp of fabric port `f`, moved to its balls. -/
def State.rxStamp (s : State) (f : Nat) (mac : Int) : Int :=
  mac - psQ ((portConst (s.link f).attempt).2 + toSigned 32 (s.reg (Key.PTIME_RX_TRIM f)))

/-- A stamp as Table 5.1 carries it: 8 bytes of nanoseconds and 2 of fraction (R132). -/
def stampBytes (q : Int) : List Byte := beBytes 8 (ofSigned 64 (q / 65536)) ++ beBytes 2 (q % 65536).toNat

/-- The stamp in 10 bytes of a payload. -/
def stampAt (p : List Byte) (i : Nat) : Int := toSigned 64 (beAt p i 8) * 65536 + beAt p (i + 8) 2

/-! ## SYNC (R138, R141, R150) -/

/-- The sync interval of exponent `m`, in ns (R138). -/
def syncNs (m : Nat) : Nat := 125000 * 2 ^ m

/-- The SYNC payload that the hub originates with ORIGIN `q`. -/
def syncPayload (s : State) (q : Int) : List Byte :=
  let gm := match s.bestCand with
    | some b => b.2.gm
    | none => s.reg Key.ID_SERIAL
  let utc := if s.time.ext.isSome ∨ s.reg Key.TSTAT_TIME_STATE ≠ 4 then s.time.utc else s.reg Key.TIME_UTC_OFFSET
  [1] ++ beBytes 1 (b2n s.time.ext.isSome * 128 + b2n s.time.extLostAt.isSome * 64) ++
    beBytes 1 (s.reg Key.TSTAT_MASTER_CLASS) ++ beBytes 1 (s.reg Key.TIME_SYNC_EXP) ++ stampBytes q ++ beBytes 8 0 ++
    beBytes 2 utc ++ beBytes 8 (s.reg Key.TSTAT_MASTER_SERIAL) ++ beBytes 8 gm

/-- SYNC_SEND (R138). ORIGIN is stamped as the frame leaves, a wait the spec gives no number for. -/
def execSyncSend (s : State) : Res :=
  .next (if s.logicOn ∧ s.reg Key.TSTAT_TIME_STATE = 4 then
      let s := if s.time.syncAt = 0 then s else s.until (s.time.syncAt + syncNs (s.reg Key.TIME_SYNC_EXP))
      let (wait, s) := s.fresh
      { s with time := { s.time with syncAt := s.lmc } }.originate
        { kind := 6, prio := 7, dest := ringOf s.station * 1024 + 1023, payload := syncPayload s (s.ftimeQ + wait) }
    else s)

/-- The run of R146 after another delivered offset at or above the threshold. -/
def State.runAfter (s : State) (off : Int) : Nat × Int :=
  let tol : Int := min 1000000 (s.reg Key.TIME_STEP_THRESHOLD * 1000 / 4 : Nat)
  if s.time.runLen ≠ 0 ∧ (off - s.time.runFirst).natAbs < tol then (s.time.runLen + 1, s.time.runFirst) else (1, off)

/-- The servo's answer to an offset (in ps) below the threshold (R143, R144): the rate is a free value within 200 ppm. -/
def State.servo (s : State) (off : Int) : State :=
  let (r, s) := s.fresh
  let s := s.setReg Key.TSTAT_RATE_ADJ (ofSigned 32 ((r % 400001 : Nat) - 200000 : Int))
  let st := s.reg Key.TSTAT_TIME_STATE
  let small := if off.natAbs < 50000 then s.time.small + 1 else 0
  let large := if 200000 < off.natAbs then s.time.large + 1 else 0
  let s := { s with time := { s.time with small := small, large := large, runLen := 0 } }
  if st = 3 then { s.timeTo 1 with time := { (s.timeTo 1).time with small := small } }
  else if st = 1 ∧ 8 ≤ small then s.timeTo 2
  else if st = 2 ∧ 4 ≤ large then s.timeTo 1
  else s

/-- A delivered offset in ps (R143 to R147). -/
def State.applyOffset (s : State) (off : Int) : State :=
  let st := s.reg Key.TSTAT_TIME_STATE
  let s := (s.setReg Key.TSTAT_OFFSET (ofSigned 64 off))
  let s := { s with time := { s.time with delivered := true } }
  if st = 0 then (s.stepTime (-(psQ off))).timeTo 1
  else if s.time.stepArmed then { s.stepTime (-(psQ off)) with time := { s.time with stepArmed := false, runLen := 0 } }
  else if (s.reg Key.TIME_STEP_THRESHOLD : Int) * 1000 ≤ off.natAbs then
    let (n, f) := s.runAfter off
    if s.flag Key.TIME_STEP_AUTO ∧ 16 ≤ n then { s.stepTime (-(psQ off)) with time := { s.time with runLen := 0 } }
    else
      let s := ({ s with time := { s.time with runLen := n, runFirst := f } }.bump Key.TSTAT_STEPS_REFUSED).occur 0x049 0
        (min 65535 (off.natAbs / 1000000))
      if st = 4 then s else s.timeTo 3
  else s.servo off

/-- The offset of a SYNC stamped at MAC ingress time `rx` on port `f`, in ps (R141). -/
def State.syncOffset (s : State) (f : Nat) (fr : Frame) (rx : Int) : Int :=
  qPs (s.rxStamp f rx - (stampAt fr.payload 4 + fr.corr + toSigned 64 (beAt fr.payload 14 8) +
    psQ (toSigned 32 (s.reg (Key.PTIME_LINK_DELAY f)))))

/-- SYNC_RECEIVED (R137, R141, R150). -/
def execSyncReceived (f : Fin 4) (fr : Frame) (rx : Int) (s : State) : Res :=
  let s := s.take f fr
  let p := fr.payload
  let farMaster : Bool := match s.bestCand with
    | some b => b.2.far
    | none => false
  .next (if !s.logicOn then s
    else if (f.val ≠ 3 ∧ (beAt p 24 8 ≠ s.reg Key.TSTAT_MASTER_SERIAL ∨ s.reg Key.TSTAT_TIME_STATE = 4)) ∨ (f.val = 3 ∧ !farMaster) then
      s.bump Key.TSTAT_SYNCS_FOREIGN
    else
      let s := { s.bump Key.TSTAT_SYNCS_RECEIVED with time := { s.time with
        lastSync := s.lmc, masterExp := beAt p 3 1, utc := beAt p 22 2 } }
      let off := s.syncOffset f fr rx
      match s.perturbed 6 0 with
      | some i => (s.pertActed i).applyOffset (off + s.pertA i * 1000)
      | none => s.applyOffset off)

/-- SYNC_TIMEOUT (R143): three sync intervals without a delivered SYNC. -/
def execSyncTimeout (s : State) : Res :=
  .next (if s.logicOn ∧ (s.reg Key.TSTAT_TIME_STATE = 1 ∨ s.reg Key.TSTAT_TIME_STATE = 2) then
      (s.until (s.time.lastSync + 3 * syncNs s.time.masterExp)).timeTo 3
    else s)

/-- STEP_ACCEPT_WRITE (R146). -/
def execStepAcceptWrite (w : Writer) (v : Nat) (s : State) : Res :=
  .next (s.command w Key.TIME_STEP_ACCEPT v noCheck (fun s => { s with time := { s.time with stepArmed := true } }))

/-- SET_TIME is for a master without an external reference (Table 5.6). -/
def setTimeCheck (s : State) : Option Abort :=
  if s.reg Key.TSTAT_TIME_STATE = 4 ∧ s.time.ext.isNone then none else some .stateConflict

/-- SET_TIME_WRITE (R147): FTIME is stepped to the written value. -/
def execSetTimeWrite (w : Writer) (v : Nat) (s : State) : Res :=
  .next (s.write w Key.TIME_SET_TIME v setTimeCheck (fun s => s.stepTime (toSigned 64 v * 65536 - s.ftimeQ)))

/-! ## Peer delay (R140) -/

/-- The PDELAY state of port `f`. -/
def State.pd (s : State) (f : Nat) : PdelaySt := cellGet (fun _ => {}) s.time.pdelay f

/-- The PDELAY state of port `f` becomes `d`. -/
def State.setPd (s : State) (f : Nat) (d : PdelaySt) : State :=
  { s with time := { s.time with pdelay := cellSet (fun _ => {}) s.time.pdelay f d } }

/-- PDELAY_REQ_SEND (R140): every 125 ms on every UP fabric port. -/
def execPdelayReqSend (f : Fin 4) (s : State) : Res :=
  .next (if !s.logicOn || !s.up f then s
    else
      let d := s.pd f
      let s := if d.lastAt = 0 then s else s.until (d.lastAt + 125000000)
      let id := (d.id + 1) % 65536
      (s.setPd f { d with id := id, t1 := s.txStamp f s.ftimeQ, sentAt := some s.lmc, lastAt := s.lmc }).sendLocal f
        { kind := 6, prio := 7, payload := [3, 0] ++ beBytes 2 id ++ List.replicate 20 0 })

/-- PDELAY_REQ_RECEIVED (R140): answered within 10 µs, at a time the spec leaves open. -/
def execPdelayReqReceived (f : Fin 4) (fr : Frame) (rx : Int) (s : State) : Res :=
  let s := s.take f fr
  .next (if !s.logicOn || !s.up f then s
    else
      let (wait, s) := s.fresh
      let t3 := s.txStamp f (s.ftimeQ + (wait % 655360000 : Nat))
      s.sendLocal f { kind := 6, prio := 7
                      payload := [4, 0] ++ beBytes 2 (beAt fr.payload 2 2) ++ stampBytes (s.rxStamp f rx) ++ stampBytes t3 })

/-- The mean of the link-delay values and the port's asymmetry, in ps (R140). -/
def meanDelay (ds : List Int) (asym : Int) : Int := (ds.foldl (· + ·) 0) / ds.length + asym

/-- PDELAY_RESP_RECEIVED (R140). -/
def execPdelayRespReceived (f : Fin 4) (fr : Frame) (rx : Int) (s : State) : Res :=
  let s := s.take f fr
  let d := s.pd f
  .next (if !s.logicOn || d.sentAt.isNone || beAt fr.payload 2 2 != d.id then s
    else
      let v := qPs (((s.rxStamp f rx - d.t1) - (stampAt fr.payload 14 - stampAt fr.payload 4)) / 2)
      let ds := (v :: d.ds).take 8
      ((s.setPd f { d with sentAt := none, misses := 0, ds := ds }).setReg (Key.PTIME_LINK_DELAY f)
        (ofSigned 32 (meanDelay ds (toSigned 32 (s.reg (Key.PTIME_ASYMMETRY f)))))).faultDown 0x04B)

/-- PDELAY_TIMEOUT (R140): 10 ms without an answer; the third in a row raises PEER_DELAY_FAIL. -/
def execPdelayTimeout (f : Fin 4) (s : State) : Res :=
  let d := s.pd f
  .next (match d.sentAt with
  | none => s
  | some t =>
    let s := ((s.until (t + 10000000)).bump (Key.PTIME_PDELAY_FAILS f)).setPd f { d with sentAt := none, misses := d.misses + 1 }
    if d.misses + 1 = 3 then s.faultLevel 0x04B true f 0 else s)

/-! ## Time across rings (R150) -/

/-- COUPLER_TIME_SEND (R150): SYNC every interval and CANDIDATE every 250 ms over F3, link-local. A master learnt from that
same F3, or 62 crossings away, is not offered. -/
def execCouplerTimeSend (s : State) : Res :=
  .next (if s.logicOn ∧ s.isCoupler ∧ s.up 3 ∧ (s.reg Key.TSTAT_TIME_STATE = 2 ∨ s.reg Key.TSTAT_TIME_STATE = 4) then
      let s := if s.time.farSyncAt = 0 then s else s.until (s.time.farSyncAt + syncNs (s.reg Key.TIME_SYNC_EXP))
      let (wait, s) := s.fresh
      let first := decide (s.time.farSyncAt = 0)
      let s := { s with time := { s.time with farSyncAt := s.lmc } }
      match s.bestCand with
      | none => s
      | some b =>
        if b.2.far ∨ 62 ≤ b.2.crossings then s
        else
          let s := s.sendLocal 3 { kind := 6, prio := 7, version := s.reg Key.LINK_RING_VERSION, payload := syncPayload s (s.txStamp 3 (s.ftimeQ + wait)) }
          if first ∨ s.time.farCandAt + 250000000 ≤ s.lmc then
            { s with time := { s.time with farCandAt := s.lmc } }.sendLocal 3
              { kind := 6, prio := 7, version := s.reg Key.LINK_RING_VERSION
                payload := candPayload (s.reg Key.ID_SERIAL) { b.2 with crossings := b.2.crossings + 1 } }
          else s
    else s)

/-! ## IEEE 1588 on the edge ports (R151, R152) -/

/-- PTP is enabled on edge port `e`. -/
def State.ptpOn (s : State) (e : Nat) : Bool := bitOf (s.reg Key.PTP_PORT_MASK) e

/-- The PTP port state of edge port `e`. -/
def State.ptpState (s : State) (e : Nat) : Nat := fld (s.reg Key.PTP_PORT_STATES) (4 * e + 3) (4 * e)

/-- SLAVE is allowed only on the fabric time master, or on a candidate whose class comes from that port (R152). -/
def State.slaveOk (s : State) (e : Nat) : Bool :=
  s.reg Key.TSTAT_TIME_STATE == 4 || (s.isCandidate && (s.time.ext.isNone || s.time.extPort == e))

/-- PTP_MESSAGE_RECEIVED (R151, R152): what the message means by IEEE 1588 is the operand's; 9 is SLAVE, 7 PASSIVE. -/
def execPtpMessageReceived (e : Fin 8) (msg : PtpMsg) (s : State) : Res :=
  .next (if !s.logicOn || !s.ptpOn e then s
    else
      let want := if msg.portState = 9 ∧ !s.slaveOk e then 7 else msg.portState % 16
      let s := s.setReg Key.PTP_PORT_STATES (setFld (s.reg Key.PTP_PORT_STATES) (4 * e + 3) (4 * e) want)
      if want ≠ 9 then s
      else
        let s := s.setReg Key.PTP_GM_IDENTITY msg.gm
        let s := if msg.locked then
            { s with time := { s.time with ext := some msg.cls, extPort := e, extLostAt := none, utc := msg.utc } }.elect
          else s
        match msg.offset with
        | none => s
        | some o => s.applyOffset o)

/-- PTP_MESSAGE_SEND (R151, R152): an edge port in MASTER state (6) announces the fabric time master. -/
def execPtpMessageSend (e : Fin 8) (kind : Fin 16) (s : State) : Res :=
  .next (if !s.logicOn || !s.ptpOn e || s.ptpState e != 6 then s
    else
      let gm := match s.bestCand with
        | some b => b.2.gm
        | none => s.reg Key.ID_SERIAL
      { s with time := { s.time with ptpSent := s.time.ptpSent ++
          [⟨e, kind, s.reg Key.TSTAT_MASTER_CLASS, gm, 1 + s.reg Key.TSTAT_MASTER_CROSSINGS, s.time.utc⟩] } })

/-- PTP_LOCK_LOST (R136): the class is 7 for HOLDOVER_LIMIT seconds. -/
def execPtpLockLost (e : Fin 8) (s : State) : Res :=
  .next (if s.logicOn ∧ s.time.ext.isSome ∧ s.time.extPort = e.val then
      { s with time := { s.time with ext := none, extLostAt := some s.lmc } }.elect
    else s)

end Sys2Proof.Machine
end

