-- ==== Sys2Proof/Machine/Queues.lean ====
section
/-! DEFINITION. The Pans' port queues (R162 to R177). -/

namespace Sys2Proof.Machine

/-- Queue `q` of Pan `n`. -/
def State.queue (s : State) (n q : Nat) : QSt := cellGet (fun _ => {}) s.queues (32 * n + q)

/-- Queue `q` of Pan `n` becomes `x`. -/
def State.setQueue (s : State) (n q : Nat) (x : QSt) : State :=
  { s with queues := cellSet (fun _ => {}) s.queues (32 * n + q) x }

/-! ## Configuration (R163, R164, Table 6.6) -/

/-- QCONFIG of a queue. -/
def State.qConfig (s : State) (n q : Nat) : Nat := s.reg (Key.PQ_QCONFIG n q)

/-- Depth in units. -/
def State.qDepth (s : State) (n q : Nat) : Nat := s.qConfig n q % 256

/-- The queue runs in priority order; in compatibility mode every queue runs in arrival order (R170, R176). -/
def State.qPriority (s : State) (n q : Nat) : Bool := bitOf (s.qConfig n q) 8 && !s.compat

/-- The queue's consumer: 0 CP, 1 HOST, 2 to 5 Ladle 0 to 3. -/
def State.qConsumer (s : State) (n q : Nat) : Nat := fld (s.qConfig n q) 15 12

/-- Units of queues 0 to 23 of Pan `n`, with queue `q` taken at depth `d`. -/
def State.unitsWith (s : State) (n q d : Nat) : Nat :=
  ((List.range 24).map (fun i => if i = q then d else s.qDepth n i)).foldl (· + ·) 0

/-- The port that owns queue `q` of Pan `n` is enabled (R164). -/
def State.qPortOn (s : State) (n q : Nat) : Bool :=
  if q ≤ 5 then s.flag (Key.CAN_ENABLE (2 * n + q / 3))
  else if q ≤ 11 then s.flag (Key.RS_ENABLE (3 * n + (q - 6) / 2))
  else if q ≤ 19 then s.reg (Key.IOL_MODE (4 * n + (q - 12) / 2)) != 0
  else if q ≤ 23 then (s.whisk (2 * n + (q - 20) / 2)).st != 0
  else false

/-- The item width code of queue `q`: 0 to 4 for 8, 9, 16, 20 and 32 bits (Table 6.6). RS-485 follows its data bits;
CAN and IO-Link payloads are bytes; a Whisk moves 32-bit items; the capture queue's words are reported as 32 bits. -/
def State.qWidth (s : State) (n q : Nat) : Nat :=
  if q ≤ 5 then 0
  else if q ≤ 11 then (if s.reg (Key.RS_DATA_BITS (3 * n + (q - 6) / 2)) = 9 then 1 else 0)
  else if q ≤ 19 then 0
  else 4

/-- Bits, items per word, and unused high bits of a width code (Table 6.2). -/
def widthBits (c : Nat) : Nat := if c = 0 then 8 else if c = 1 then 9 else if c = 2 then 16 else if c = 3 then 20 else 32

/-- Items per 64-bit word. -/
def perWord (c : Nat) : Nat := 64 / widthBits c

/-- Lane `i` of a word (Table 6.2): the first item is the most significant; width 9 leaves [63] and width 20 leaves
[63:60] unused. -/
def laneOf (c data i : Nat) : Nat := data / 2 ^ (widthBits c * (perWord c - 1 - i)) % 2 ^ widthBits c

/-- The tag byte (Table 6.3). -/
def tagByte (isEnd : Bool) (countM1 kind : Nat) : Nat := 128 + b2n isEnd * 64 + countM1 % 8 * 8 + kind

/-- One word of narrow items, most significant first. -/
def packWord (c : Nat) (items : List Nat) : Nat :=
  items.zipIdx.foldl (fun a p => a + p.1 % 2 ^ widthBits c * 2 ^ (widthBits c * (perWord c - 1 - p.2))) 0

/-- COUNT_M1 of an END word of `k` items (R167): bytes for widths 8, 16 and 32, items for 9 and 20. -/
def countM1 (c k : Nat) : Nat := if c = 1 ∨ c = 3 then k - 1 else k * widthBits c / 8 - 1

/-- Narrow items packed into words of KIND `kind`, the last with END (R166, R167); `fuel` bounds the words. -/
def packItems (c kind : Nat) : Nat → List Nat → List QItem
  | 0, _ => []
  | fuel + 1, items =>
    if items.length ≤ perWord c then [⟨tagByte true (countM1 c items.length) kind, packWord c items⟩]
    else ⟨tagByte false 0 kind, packWord c (items.take (perWord c))⟩ :: packItems c kind fuel (items.drop (perWord c))

/-- Narrow items as packed words. -/
def pack (c kind : Nat) (items : List Nat) : List QItem := packItems c kind items.length items

/-- A word of a packet. -/
def qWord (kind data : Nat) : QItem := ⟨tagByte false 0 kind, data⟩

/-- A packet of header words followed by payload words; without payload the last header word carries END. -/
def qPacket (heads : List QItem) (payload : List QItem) : List QItem :=
  match payload with
  | [] => (heads.dropLast) ++ (heads.getLast?.map (fun i => { i with tag := i.tag % 128 % 64 + 192 + 56 })).toList
  | p => heads ++ p

/-- The END mark of a tag byte. -/
def QItem.isEnd (i : QItem) : Bool := bitOf i.tag 6

/-! ## Storing packets (R168 to R170) -/

/-- Items in use. -/
def QSt.used (x : QSt) : Nat := (x.packets.map List.length).foldl (· + ·) 0 + x.writing.length

/-- The queue's capacity in items; the capture queue's 16 units hold 512 words. -/
def State.qItems (s : State) (n q : Nat) : Nat := 32 * s.qDepth n q

/-- `k` further items fit, one item being kept free for a LOSS marker except in the capture queue; in priority order a
packet takes a slot, two to a unit, and one slot stays free. -/
def State.qFits (s : State) (n q : Nat) (x : QSt) (k : Nat) : Bool :=
  if q = 24 then decide (x.used + k ≤ 512)
  else if s.qPriority n q then decide (x.packets.length + 2 ≤ 2 * s.qDepth n q) && decide (k ≤ 16)
  else decide (x.used + k + 1 ≤ s.qItems n q)

/-- The LOSS marker's single word (R169, R173). -/
def lossItem (x : QSt) : QItem :=
  ⟨tagByte true 7 7, if x.lostReset then 2 ^ 63 + 0xFFFFFFFF else min x.lost 0xFFFFFFFF⟩

/-- A visible packet is added; the counter's rise from 0 raises source 80 + 25n + q (Table 14.1). -/
def State.qAppend (s : State) (n q : Nat) (x : QSt) (p : List QItem) : State :=
  let x := { x with packets := x.packets ++ [p], total := x.total + 1 }
  let s := s.setQueue n q x
  if x.packets.length = 1 then s.raise (80 + 25 * n + q) 1 else s

/-- The pending LOSS marker is written when space allows (R169). -/
def State.qMark (s : State) (n q : Nat) (k : Nat) : State :=
  let x := s.queue n q
  if (x.lost ≠ 0 ∨ x.lostReset) ∧ q ≠ 24 ∧ s.qFits n q x (k + 1) then
    s.qAppend n q { x with lost := 0, lostReset := false } [lossItem x]
  else s

/-- A packet is lost: counted in DROPPED_PACKETS and towards the next LOSS marker (R169). -/
def State.qLose (s : State) (n q : Nat) : State :=
  let x := s.queue n q
  (s.setQueue n q { x with writing := [], lost := x.lost + 1 }).bump (Key.PQC_COUNTS n (4 * q))

/-- A whole packet is stored, or discarded and counted (R168, R169). -/
def State.qPush (s : State) (n q : Nat) (p : List QItem) : State :=
  let s := s.qMark n q p.length
  let x := s.queue n q
  if s.qDepth n q ≠ 0 ∧ s.qFits n q x p.length ∧ (x.lost = 0 ∨ q = 24) then s.qAppend n q x p else s.qLose n q

/-- A packet of `k` items could be stored now. -/
def State.qRoom (s : State) (n q k : Nat) : Bool := decide (s.qDepth n q ≠ 0) && s.qFits n q (s.queue n q) k

/-- QUEUE_PRODUCER_WRITE (R168, R169): a word is written; its END word makes the packet visible. -/
def State.qWrite (s : State) (n q : Nat) (i : QItem) : State :=
  let x := s.queue n q
  if x.dropping then (if i.isEnd then s.setQueue n q { x with dropping := false } else s)
  else if !s.qFits n q { x with writing := [] } (x.writing.length + 1) then
    let s := s.qLose n q
    if i.isEnd then s else s.setQueue n q { s.queue n q with dropping := true }
  else if i.isEnd then (s.setQueue n q { x with writing := [] }).qPush n q (x.writing ++ [i])
  else s.setQueue n q { x with writing := x.writing ++ [i] }

/-- QUEUE_PRODUCER_WRITE (R168). -/
def execQueueProducerWrite (n : Fin 16) (q : Fin 25) (tag data : Nat) (s : State) : Res :=
  .next (if s.logicOn then s.qWrite n q ⟨tag % 256, data % 2 ^ 64⟩ else s)

/-- LOSS_MARKER_WRITE (R169). -/
def execLossMarkerWrite (n : Fin 16) (q : Fin 25) (s : State) : Res := .next (if s.logicOn then s.qMark n q 0 else s)

/-! ## Reading (R168, R170, R174) -/

/-- The packet that priority order serves next is moved to the front: lowest KEY, ties in arrival order (R170). -/
def frontLowest : List (List QItem) → List (List QItem)
  | [] => []
  | p :: ps => match frontLowest ps with
    | [] => [p]
    | m :: ms =>
      let key (x : List QItem) : Nat := ((x.head?.map (fun i => i.data)).getD 0) / 2 ^ 32
      if key m < key p then m :: p :: ms else p :: m :: ms

/-- The queue with the packet to be read next in front. -/
def State.qFront (s : State) (n q : Nat) : QSt :=
  let x := s.queue n q
  if s.qPriority n q ∧ !x.reading then { x with packets := frontLowest x.packets } else x

/-- The idle item (R168). -/
def idleItem : QItem := ⟨0, 0⟩

/-- Perturbation 2 holds the queue's consumer now (Table 16.16). -/
def State.qHeld (s : State) (n q : Nat) : Bool := s.pertHeld (256 * n + q)

/-- The next item is read and removed; a queue with no visible packet gives the idle item (R168). -/
def State.qPop (s : State) (n q : Nat) : QItem × State :=
  let x := s.qFront n q
  match if s.qHeld n q then [] else x.packets with
  | (i :: is) :: ps => (i, s.setQueue n q { x with packets := if is.isEmpty then ps else is :: ps, reading := !is.isEmpty, lane := 0 })
  | _ => (idleItem, s)

/-- A whole packet is taken. -/
def State.qTake (s : State) (n q : Nat) : Option (List QItem × State) :=
  let x := s.qFront n q
  match if s.qHeld n q then [] else x.packets with
  | p :: ps => some (p, s.setQueue n q { x with packets := ps, reading := false, lane := 0 })
  | [] => none

/-- The packet that would be taken next, left in place. -/
def State.qPeek (s : State) (n q : Nat) : Option (List QItem) :=
  if s.qHeld n q then none else (s.qFront n q).packets.head?

/-- The BAR4 offset of a queue block. -/
def blockOffset (n q : Nat) : Nat := 0x200 * n + 0x10 * q

/-- A host read returns a value. -/
def State.busRead (s : State) (bar offset v : Nat) : State := { s with busReads := s.busReads ++ [⟨bar, offset, v⟩] }

/-- The queue is reset: its pointers disagreed (R173). -/
def State.qReset (s : State) (n q : Nat) : State :=
  let s := s.setQueue n q { lostReset := q != 24 }
  let s := if q = 24 then s.setCapture n { s.capture n with overrun := true } else s
  ((s.bump (Key.PQC_COUNTS n (4 * q + 1))).occur (0x0C0 + n) q 0).logRecord (Key.PQ_QCONFIG n q) (beBytes 1 n ++ beBytes 1 q)

/-- QUEUE_TAG_READ (R173 to R175): the operand says whether the pointer copies were found to differ. -/
def execQueueTagRead (n : Fin 16) (q : Fin 25) (pointerFault : Bool) (s : State) : Res :=
  .next (if !s.logicOn then s
    else if s.qConsumer n q ≠ 1 then (s.bump (Key.PQC_COUNTS n (4 * q + 3))).busRead 4 (blockOffset n q) 0
    else if s.compat then s.busRead 4 (blockOffset n q) ((s.queue n q).packets.length * 65536)
    else
      let s := if pointerFault then s.qReset n q else s
      let x := s.queue n q
      let s := if bitOf x.latch.tag 7 ∧ !(x.hiRead && x.loRead) then s.bump (Key.PQC_COUNTS n (4 * q + 2)) else s
      let (i, s) := s.qPop n q
      let s := s.setQueue n q { s.queue n q with latch := i, hiRead := false, loRead := false }
      s.busRead 4 (blockOffset n q) ((s.queue n q).packets.length % 65536 * 65536 + i.tag))

/-- A transmit queue of a port (Table 6.1). -/
def isTransmit (q : Nat) : Bool := q == 2 || q == 5 || (6 ≤ q && q ≤ 23 && q % 2 == 1)

/-- QUEUE_DATA_WRITE (R174): the latch's half is filled; another consumer's block ignores and counts the write. -/
def execQueueDataWrite (n : Fin 16) (q : Fin 25) (hi : Bool) (v : Nat) (s : State) : Res :=
  let x := s.queue n q
  let d := if hi then v % 2 ^ 32 * 2 ^ 32 + x.latch.data % 2 ^ 32 else x.latch.data / 2 ^ 32 * 2 ^ 32 + v % 2 ^ 32
  .next (if !s.logicOn then s
    else if s.qConsumer n q ≠ 1 then s.bump (Key.PQC_COUNTS n (4 * q + 3))
    else if isTransmit q then s.setQueue n q { x with latch := { x.latch with data := d } }
    else s)

/-- QUEUE_TAG_WRITE (R174): the latched item is pushed with this tag. -/
def execQueueTagWrite (n : Fin 16) (q : Fin 25) (tag : Nat) (s : State) : Res :=
  .next (if !s.logicOn then s
    else if s.qConsumer n q ≠ 1 then s.bump (Key.PQC_COUNTS n (4 * q + 3))
    else if isTransmit q then s.qWrite n q ⟨tag % 256, (s.queue n q).latch.data⟩
    else s)

/-- Narrow items that a word holds (R167). -/
def itemsIn (c : Nat) (i : QItem) : Nat :=
  if !i.isEnd then perWord c
  else let m := i.tag / 8 % 8 + 1
    if c = 1 ∨ c = 3 then m else m * 8 / widthBits c

/-- QUEUE_DATA_LO_POP (R176): a read of DATA_LO pops one narrow item in compatibility mode; otherwise it returns the
latched half. -/
def execQueueDataLoPop (n : Fin 16) (q : Fin 25) (s : State) : Res :=
  let off := blockOffset n q + 8
  let x := s.queue n q
  .next (if !s.logicOn then s
    else if s.qConsumer n q ≠ 1 then (s.bump (Key.PQC_COUNTS n (4 * q + 3))).busRead 4 off 0
    else if !s.compat then (s.setQueue n q { x with loRead := true }).busRead 4 off (x.latch.data % 2 ^ 32)
    else match if s.qHeld n q then [] else x.packets with
      | (i :: is) :: ps =>
        let c := s.qWidth n q
        let v := laneOf c i.data x.lane
        let x' := if x.lane + 1 < itemsIn c i then { x with lane := x.lane + 1, reading := true }
          else { x with packets := if is.isEmpty then ps else is :: ps, reading := !is.isEmpty, lane := 0 }
        (s.setQueue n q x').busRead 4 off v
      | _ => s.busRead 4 off 0)

/-! ## Commands (R171, R172) -/

/-- QUEUE_FLUSH_COMMAND (R171): FLUSH on an empty queue completes at once. -/
def execQueueFlushCommand (w : Writer) (n : Fin 16) (q : Fin 25) (v : Nat) (s : State) : Res :=
  .next (s.write w (Key.PQX_QCOMMAND n q) v noCheck (fun s =>
    let x := s.queue n q
    if v ≠ 1 then s else if x.packets.isEmpty then s else s.setQueue n q { x with flushing := true }))

/-- QUEUE_FLUSH_COMPLETE (R171): every visible packet is discarded. -/
def execQueueFlushComplete (n : Fin 16) (q : Fin 25) (s : State) : Res :=
  let x := s.queue n q
  .next (if x.flushing then s.setQueue n q { x with packets := [], reading := false, flushing := false, lane := 0 } else s)

/-- SKIP discards the rest of the packet being read (R172). -/
def State.qSkip (s : State) (n q : Nat) : State :=
  let x := s.queue n q
  if x.reading then s.setQueue n q { x with packets := x.packets.tail, reading := false, lane := 0 } else s

/-- QUEUE_SKIP_COMMAND (R172). -/
def execQueueSkipCommand (w : Writer) (n : Fin 16) (q : Fin 25) (v : Nat) (s : State) : Res :=
  .next (s.write w (Key.PQX_QCOMMAND n q) v noCheck (fun s => if v = 2 then s.qSkip n q else s))

/-- The checks of a QCONFIG write (R163, R164, R176, Table 6.6). The capture queue's depth is fixed. -/
def qConfigCheck (n q v : Nat) (s : State) : Option Abort :=
  if 5 < fld v 15 12 then some .valueRange
  else if q = 24 then (if v % 4096 = 0x010 then none else some .valueRange)
  else if 240 < v % 256 ∨ 240 < s.unitsWith n q (v % 256) then some .valueRange
  else if s.compat ∧ bitOf v 8 then some .compatDenied
  else if (v % 512 ≠ s.qConfig n q % 512) ∧ s.qPortOn n q then some .stateConflict
  else none

/-- FREE_UNITS after the write (Table 6.6). -/
def State.freeUnits (s : State) (n : Nat) : Nat := 240 - s.unitsWith n 24 0

/-- QUEUE_CONFIG_WRITE (R164): a depth or order write empties the queue; a change of consumer alone does not. -/
def execQueueConfigWrite (w : Writer) (n : Fin 16) (q : Fin 25) (v : Nat) (s : State) : Res :=
  .next (s.write w (Key.PQ_QCONFIG n q) v (qConfigCheck n q v) (fun s =>
    let t := s.store (Key.PQ_QCONFIG n q) v
    let t := t.setReg (Key.PQ_FREE_UNITS n) (t.freeUnits n)
    if v % 512 = s.qConfig n q % 512 then t else t.setQueue n q {}))

end Sys2Proof.Machine
end

