-- ==== Sys2Proof/Machine/Pans.lean ====
section
/-! DEFINITION. What every channel chapter shares: a Pan's wake requests (R454), which objects a map binds (R97), and the
field-die budget (R466). -/

namespace Sys2Proof.Machine

/-! ## Pan sleep -/

/-- Pan `n`. -/
def State.pan (s : State) (n : Nat) : PanSt := cellGet (fun _ => {}) s.pans n

/-- Pan `n` becomes `p`. -/
def State.setPan (s : State) (n : Nat) (p : PanSt) : State := { s with pans := cellSet (fun _ => {}) s.pans n p }

/-- Pan `n` is ACTIVE. -/
def State.panActive (s : State) (n : Nat) : Bool := s.reg (Key.PAN_STATE n) == 0

/-- A wake source of Pan `n` acts (R454): a dozing or dark Pan is asked to wake; an ACTIVE one starts its idle time
afresh. -/
def State.panAsk (s : State) (n : Nat) : State :=
  let p := s.pan n
  if s.panActive n then s.setPan n { p with idleAt := s.lmc }
  else if p.waking.isSome then s
  else s.setPan n { p with waking := some s.lmc }

/-- A timed wake (R22, R155, R184, R259) opens a window until FTIME `t`, during which the Pan is held ACTIVE. -/
def State.panWindow (s : State) (n : Nat) (t : Int) : State :=
  let s := s.panAsk n
  s.setPan n { s.pan n with window := some (max t ((s.pan n).window.getD t)) }

/-! ## Conditions several units share -/

/-- LIVE of fault source `n` follows its condition, without an occurrence of its own (R424); its rise is signalled by
source 3. -/
def State.setLive (s : State) (n : Nat) (b : Bool) : State :=
  if !b then s.faultDown n
  else if (s.flt n).live then s
  else (s.setFlt n { s.flt n with live := true }).raise 3 n

/-! ## Map bindings (R97, Table 4.2) -/

/-- Entries in use of a map: {202} publish or {203} subscribe. -/
def State.mapEntries (s : State) (idx : Nat) : List Nat :=
  (s.regs.filter (fun c => c.1 / 256 = idx && bitOf c.2 0 && decide (1 ≤ c.1 % 256) && decide (c.1 % 256 ≤ 64))).map (·.2)

/-- INDEX, SUB, COUNT and OFFSET of a map entry. -/
def entIndex (e : Nat) : Nat := fld e 63 52

/-- SUB. -/
def entSub (e : Nat) : Nat := fld e 51 44

/-- COUNT. -/
def entCount (e : Nat) : Nat := fld e 43 36 + 1

/-- OFFSET. -/
def entOffset (e : Nat) : Nat := fld e 23 12

/-- Entry `e` binds object `k`. -/
def entBinds (e k : Nat) : Bool :=
  k % 256 == entSub e && decide (entIndex e ≤ k / 256) && decide (k / 256 < entIndex e + entCount e)

/-- Object `k` is bound in the publish map. -/
def State.pubBound (s : State) (k : Nat) : Bool := (s.mapEntries 0x202).any (fun e => entBinds e k)

/-- Object `k` is bound in the subscribe map. -/
def State.subBound (s : State) (k : Nat) : Bool := (s.mapEntries 0x203).any (fun e => entBinds e k)

/-- A timer unit in ARMED or ACTIVE has TARGET word `target` (Table 5.4). -/
def State.timerTargets (s : State) (target : Nat) : Bool :=
  (List.range 64).any (fun u => (s.reg (Key.TIMER_STATE u) == 1 || s.reg (Key.TIMER_STATE u) == 2) &&
    s.reg (Key.TIMER_ARM_RECORD u) / 256 ^ 30 == target)

/-- Slot `i` of Whisk `w` is drive-capable and names kind `kind` and local index `j` (R263). -/
def State.slotDrives (s : State) (w i kind j : Nat) : Bool :=
  let v := s.reg (Key.WK_SLOT w i)
  fld v 15 12 == kind && fld v 11 8 == j && bitOf (s.driveSlots w) i

/-- A Whisk of Pan `n` that is not IDLE owns the drive-capable slot of kind `kind` and local index `j` (R265). -/
def State.whiskOwns (s : State) (n kind j : Nat) : Bool :=
  [2 * n, 2 * n + 1].any (fun w => (s.whisk w).st != 0 && (List.range 8).any (fun i => s.slotDrives w i kind j))

/-- How the hub judges a dictionary write of a W20 COMMAND (R195): GOOD commands, quality bit 19 is a safe-state command,
anything else is refused. -/
def commandQuality (v : Nat) : Option Abort := if wQual v = 0 ∨ 8 ≤ wQual v then none else some .valueRange

/-! ## The field-die budget (R466, R530), in units of 10 nW -/

/-- A coefficient of Table 20.13 by ordering code. -/
def State.coef (s : State) (i x : Nat) : Nat := if s.power.extended then x else i

/-- What listed cell `k` with value `v` adds to the budget. Objects at their defaults add nothing, except L+ switches. -/
def State.cellPower (s : State) (k v : Nat) : Nat :=
  let i := k / 256
  let j := k % 256
  if 0x400 ≤ i ∧ i ≤ 0x4FF ∧ j = 1 then
    (if 1 ≤ v ∧ v ≤ 3 then 3000000
     else if v = 4 then s.coef 200 220 * s.reg (Key.DL_LOAD_MA (i - 0x400)) ^ 2
     else if v = 5 then 13000000 else 0)
  else if 0x500 ≤ i ∧ i ≤ 0x51F ∧ j = 1 then v * 200000 * s.reg (Key.CAN_DOMINANT_DUTY (i - 0x500))
  else if 0x520 ≤ i ∧ i ≤ 0x54F ∧ j = 1 then v * 160000 * s.reg (Key.RS_DUTY (i - 0x520))
  else if 0x560 ≤ i ∧ i ≤ 0x59F ∧ j = 1 then
    (if v = 3 then 3000000 else if v = 4 then s.coef 400 440 * s.reg (Key.IOL_CQ_LOAD_MA (i - 0x560)) ^ 2 else 0)
  else if 0x600 ≤ i ∧ i ≤ 0x63F ∧ j = 1 then v * 2500000
  else 0

/-- The L+ switches' part: each switch on or following MODE (Table 17.4). -/
def State.lpPower (s : State) : Nat :=
  ((List.range 64).map (fun p => if s.reg (Key.LP_MODE p) = 0 then 0
    else s.coef 80 88 * s.reg (Key.LP_LOAD_MA p) ^ 2)).foldl (· + ·) 0

/-- P_field (R466). -/
def State.fieldPower (s : State) : Nat :=
  s.regs.foldl (fun a c => a + s.cellPower c.1 c.2) (s.coef 90000000 95000000 + s.lpPower)

/-- {C01.08} FIELD_BUDGET_MW. -/
def State.fieldBudget (s : State) : Nat := s.fieldPower / 100000

/-- BUDGET_CHECK (R27, R466): a write of `v` to `k` that would raise P_field above 11,500 mW is refused. -/
def State.budgetCheck (s : State) (k v : Nat) : Option Abort :=
  let p := (s.setReg k v).fieldPower
  if 1150000000 < p ∧ s.fieldPower < p then some .budgetExceeded else none

/-- The first refusal of two checks. -/
def orElse (a : Option Abort) (b : Option Abort) : Option Abort := match a with
  | some x => some x
  | none => b

end Sys2Proof.Machine
end

