-- ==== Sys2Proof/Machine/Lines.lean ====
section
/-! DEFINITION. Discrete lines (chapter 7): modes, debounce and stamps, counters, outputs and their retries, wire checks,
what a ball drives, commands, the quality of the words, and the captures that lines and PX pins share (R159 to R161). -/

namespace Sys2Proof.Machine

/-! ## Modes and the claim -/

/-- The mode line `i` runs in (Table 7.1): its MODE, or DISABLED while a PORT_OFF reaction stops it (Table 16.2). -/
def State.lineMode (s : State) (i : Nat) : Nat := if s.portOff 3 i then 0 else s.reg (Key.DL_MODE i)

/-- The line is in an output mode, OUTPUT or GATE_DRIVE. -/
def State.lineOut (s : State) (i : Nat) : Bool := s.lineMode i == 4 || s.lineMode i == 5

/-- This package holds the claim: row 2 of Table 15.3. -/
def State.holdsClaim (s : State) : Bool := s.field.row == 2

/-- SHARED is in force for an object: a solo hub treats every line as unshared (R193). -/
def State.sharedIn (s : State) (k : Nat) : Bool := s.flag k && decide (s.role ≠ .solo)

/-- The field die drives or senses line `i` for itself (R189): it is unshared, or this package holds the claim. -/
def State.lineMine (s : State) (i : Nat) : Bool := !s.sharedIn (Key.DL_SHARED i) || s.holdsClaim

/-! ## What the line drives (R191 to R193) -/

/-- Row 5 of Table 7.5 for line `i`: the hub or the Pan is in SAFE, or a safe-state command is in force. -/
def State.lineRow5 (s : State) (i : Nat) : Bool := s.heldSafe (i / 16) || (s.line i).safeCmd

/-- The safe level of line `i` (R192). -/
def State.lineSafeLevel (s : State) (i : Nat) : Bool :=
  match s.reg (Key.DL_SAFE_STATE i) with
  | 0 => false
  | 1 => true
  | _ => (s.line i).last

/-- The level that the logic die refreshes line `i` with: rows 5 and 7. -/
def State.lineTarget (s : State) (i : Nat) : Bool := if s.lineRow5 i then s.lineSafeLevel i else (s.line i).cmd

/-- The level at the ball of line `i`, none for high-impedance: the first row of Table 7.5 that applies. -/
def State.lineBall (s : State) (i : Nat) : Option Bool :=
  if !s.lineOut i then none
  else if !s.field.powered || !s.field.refreshed then none
  else if s.sharedIn (Key.DL_SHARED i) && s.field.row != 2 then
    (if s.field.row = 3 then (if (s.line i).off then some false else (match cellGet (fun _ => 2) s.field.frozen i with
      | 0 => some false
      | 1 => some true
      | _ => none)) else none)
  else if (s.line i).off then some false
  else if s.field.safe then some (s.lineSafeLevel i)
  else if s.field.holding then some (cellGet (fun _ => 0) s.field.driven i == 1)
  else some (s.lineTarget i)

/-- Line `i` is at its safe state (STATUS SAFE). -/
def State.lineAtSafe (s : State) (i : Nat) : Bool := s.lineOut i && (s.field.safe || s.lineRow5 i)

/-- Drive is withheld by the claim gate (STATUS UNCLAIMED). -/
def State.lineUnclaimed (s : State) (i : Nat) : Bool :=
  s.lineOut i && s.sharedIn (Key.DL_SHARED i) && s.field.row != 2 && s.field.row != 3

/-- Branch fuse `b` has tripped: it is in back-off or latched. -/
def State.fuseTripped (s : State) (b : Nat) : Bool :=
  decide (b < 64) && (s.reg (Key.BR_STATE b) == 4 || s.reg (Key.BR_STATE b) == 5)

/-- {400}+i STATUS (Table 7.7) but for LIMITING, which only a measurement shows. -/
def State.lineStatus (s : State) (i : Nat) : Nat :=
  (s.line i).status + b2n (s.lineUnclaimed i) * 2 ^ 9 + b2n (s.lineAtSafe i) * 2 ^ 10 +
    b2n s.power.vfieldLow * 2 ^ 11 + b2n (s.fuseTripped (s.reg (Key.DL_FEED_FUSE i))) * 2 ^ 12

/-- The level that STATE carries: the accepted state in input modes, the read-back in output modes (R198). -/
def State.lineLevel (s : State) (i : Nat) : Bool :=
  if s.lineMode i = 0 then false
  else if s.lineOut i then s.lineBall i == some true
  else (s.line i).seen

/-- The quality of STATE: the first condition of Table 7.6, in R93's order. -/
def State.lineQuality (s : State) (i : Nat) : Nat :=
  if s.lineMode i = 0 then 0xB
  else if s.fuseTripped (s.reg (Key.DL_FEED_FUSE i)) then 0xA
  else if (s.line i).status ≠ 0 || s.power.vfieldLow then 0x9
  else if s.lineAtSafe i then 0x5
  else if !s.lineOut i && !(s.line i).known then 0x7
  else 0

/-- {400}+i STATE (R198). -/
def State.lineState (s : State) (i : Nat) : Nat := word20 (s.lineQuality i) (b2n (s.lineLevel i))

/-- The quality of COUNT (Table 7.6). -/
def State.countQuality (s : State) (i : Nat) : Nat := if s.lineMode i = 3 then s.lineQuality i else 0xB

/-- Place of a quality code in the order of R93. -/
def qualityRank (q : Nat) : Nat :=
  match q with
  | 0x1 => 0 | 0xF => 1 | 0xB => 2 | 0xC => 3 | 0xA => 4 | 0x9 => 5 | 0xD => 6 | 0x8 => 7 | 0x5 => 8 | 0x6 => 9
  | 0x7 => 10 | 0x2 => 11 | _ => 12

/-- The first quality of a list in the order of R93. -/
def worstQuality (qs : List Nat) : Nat :=
  qs.foldl (fun a q => if qualityRank q < qualityRank a then q else a) 0

/-- {350}+n IN_PACKED (R199). -/
def State.inPacked (s : State) (n : Nat) : Nat :=
  let used := (List.range 16).filter (fun j => s.lineMode (16 * n + j) != 0)
  let v := used.foldl (fun a j => a + b2n (s.lineLevel (16 * n + j)) * 2 ^ j) 0
  if used.isEmpty then word20 0xB 0 else word20 (worstQuality (used.map (fun j => s.lineQuality (16 * n + j)))) v

/-- {350}+n OUT_PACKED reads back the commanded values (R199). -/
def State.outPacked (s : State) (n : Nat) : Nat :=
  ((List.range 16).filter (fun j => s.lineOut (16 * n + j))).foldl
    (fun a j => a + b2n (s.line (16 * n + j)).cmd * 2 ^ j) 0

/-- A line's part of the Pan's declared loads (R186). -/
def State.lineLoad (s : State) (i : Nat) : Nat :=
  if s.reg (Key.DL_MODE i) = 4 then s.reg (Key.DL_LOAD_MA i) else if s.reg (Key.DL_MODE i) = 5 then 5 else 0

/-- {350}+n LOAD_SUM_MA. -/
def State.loadSum (s : State) (n : Nat) : Nat := ((List.range 16).map (fun j => s.lineLoad (16 * n + j))).foldl (· + ·) 0

/-- A write that would raise a Pan's declared loads above 1000 mA is refused (R186). -/
def State.loadCheck (s : State) (i k v : Nat) : Option Abort :=
  let sum := (s.setReg k v).loadSum (i / 16)
  if 1000 < sum ∧ s.loadSum (i / 16) < sum then some .budgetExceeded else none

/-! ## Trips, status and faults -/

/-- DL_LINE_FAULT_n is LIVE while a STATUS bit that fires it is set on a line of Pan `n` (R201, R424). -/
def State.linesLive (s : State) (n : Nat) : State :=
  s.setLive (0x0E0 + n) ((List.range 16).any (fun j => (s.line (16 * n + j)).status &&& 0x7B != 0))

/-- STATUS bit `b` of line `i` sets; DL_LINE_FAULT of its Pan fires on each setting of bits 0, 1, 3, 4, 5 and 6 (R201). -/
def State.lineBit (s : State) (i b : Nat) : State :=
  let l := s.line i
  if bitOf l.status b then s
  else
    let s := s.setLine i { l with status := setBit l.status b true }
    if b = 7 then s else (s.linesLive (i / 16)).occur (0x0E0 + i / 16) i b

/-- The back-off before the k-th consecutive retry (R188): 100 ms × 2^(k−1), at most 10 s. -/
def backoffNs (k : Nat) : Nat := min (100000000 * 2 ^ (k - 1)) 10000000000

/-- After a change `f`, line `i` follows its new ball level: switching on clears the bits of a trip that is over (R187),
starts the ON time, and a measured edge counts towards the output delay (R197). -/
def State.lineAct (s : State) (i : Nat) (f : State → State) : State :=
  let b0 := s.lineBall i
  let s := (f s).linesLive (i / 16)
  let b1 := s.lineBall i
  let l := s.line i
  let on := decide (b1 = some true ∧ b0 ≠ some true)
  let l := if on then { l with onAt := s.lmc, status := setBit (setBit (setBit l.status 3 false) 4 false) 7 false } else l
  let s := (s.setLine i l).linesLive (i / 16)
  let loaded := s.lineMode i == 5 || (s.lineMode i == 4 && !bitOf l.status 1)
  let edge := b0.isSome && b1.isSome && b0 != b1 && s.lineMine i && loaded && s.reg (Key.DL_CAL_MODE i) == 0
  if !edge then s
  else
    let l := if on then { l with rises := min (l.rises + 1) 16 } else { l with falls := min (l.falls + 1) 16 }
    let k : Nat := if on then Key.DL_OUT_DELAY_RISE i else Key.DL_OUT_DELAY_FALL i
    let s := s.setLine i l
    if (if on then l.rises else l.falls) = 16 then
      let (v, s) := s.fresh
      s.setReg k (v % 2 ^ 32)
    else s

/-- {400}+i CAL_STATE. -/
def State.calState (s : State) (i : Nat) : Nat :=
  let l := s.line i
  (if s.reg (Key.DL_CAL_MODE i) = 1 then 3 else b2n (l.rises == 16) + 2 * b2n (l.falls == 16)) +
    b2n (bitOf (s.reg (Key.DL_CAL_STATE i)) 2) * 4

/-- Line `i` trips with STATUS bit `b` (R187, R188): off, one retry more, and a back-off or the latch. -/
def State.lineTrip (s : State) (i b : Nat) : State :=
  let l := s.line i
  let k := l.trips + 1
  let latch := decide (s.reg (Key.DL_RETRIES i) < k)
  let s := s.setLine i { l with trips := k, off := true, hot := l.hot || b == 4
                                retryAt := s.lmc + backoffNs k }
  let s := s.lineBit i b
  if latch then s.lineBit i 6 else s

/-- Line `i` is in a trip back-off that has run, and its stage has cooled: it may switch on again (R188). -/
def State.lineRetry (s : State) (i : Nat) : State :=
  s.lineAct i (fun s => s.setLine i { s.line i with off := false })

/-! ## Captures (R159 to R161) -/

/-- An edge of line or pin `num` taken for capture on Pan `n` with its stamp (Table 5.5, R161). -/
def State.capture1 (s : State) (n kind num : Nat) (rising : Bool) (stamp : Int) : State :=
  let c := s.capture n
  let s := s.setCapture n { c with sequence := (c.sequence + 1) % 2 ^ 32 }
  if !s.qRoom n 24 2 then
    ((s.setCapture n { s.capture n with overrun := true }).bump (Key.CAP_OVERRUNS n)).occur (0x0D0 + n) 0
      ((s.count (Key.CAP_OVERRUNS n)) + 1)
  else
    let locked := s.reg Key.TSTAT_TIME_STATE == 2 || s.reg Key.TSTAT_TIME_STATE == 4
    let w := kind * 2 ^ 60 + num * 2 ^ 48 + (if rising then 1 else 2) * 2 ^ 46 + b2n locked * 2 ^ 45 +
      b2n c.stepped * 2 ^ 44 + b2n c.overrun * 2 ^ 43 + c.sequence
    (s.setCapture n { s.capture n with stepped := false, overrun := false }).qPush n 24
      [qWord 5 (ofSigned 64 stamp), ⟨tagByte true 7 5, w⟩]

/-- The Pan's capture enables select this edge of line `i` (R182); COUNTER lines raise no capture entries (R183). -/
def State.lineCaptured (s : State) (i : Nat) (rising : Bool) : Bool :=
  s.lineMode i != 3 && bitOf (s.reg (if rising then Key.CAP_DL_RISE (i / 16) else Key.CAP_DL_FALL (i / 16))) (i % 16)

/-- An accepted change of line `i` reaches its Pan: the register follows, the edge is captured and source 656 + n is
raised where selected (R182, Table 14.1). -/
def State.lineDeliver (s : State) (c : Nat × Bool × Int) : State :=
  let i := c.1
  let s := s.setLine i { s.line i with seen := c.2.1 }
  let s := if s.lineCaptured i c.2.1 then s.capture1 (i / 16) 1 i c.2.1 c.2.2 else s
  if bitOf (s.reg (Key.SRC_LINE_EVENTS (i / 16))) (i % 16) then s.raise (656 + i / 16) (s.inPacked (i / 16) % 65536) else s

/-- An accepted change of line `i` in the field die: it reaches an ACTIVE Pan at once; otherwise the field die holds it,
32 at most, and beyond that the oldest is discarded and the next capture entry carries OVERRUN (R200). -/
def State.lineAccept (s : State) (i : Nat) (level : Bool) (stamp : Int) : State :=
  let n := i / 16
  let s := (s.setLine i { s.line i with accepted := level, known := true, cross := none }).bump (Key.DL_EDGES i)
  if !s.logicOn then s
  else if s.panActive n then s.lineDeliver (i, level, stamp)
  else
    let p := s.pan n
    if p.held.length < 32 then s.setPan n { p with held := p.held ++ [(i, level, stamp)] }
    else (s.setPan n { p with held := p.held.drop 1 ++ [(i, level, stamp)] }).setCapture n
      { s.capture n with overrun := true }

/-- A Pan that has become ACTIVE takes what the field die held for it, and the latest accepted states (R200). -/
def State.linesWake (s : State) (n : Nat) : State :=
  let held := (s.pan n).held
  let s := held.foldl State.lineDeliver (s.setPan n { s.pan n with held := [] })
  (List.range 16).foldl (fun s j =>
    let l := s.line (16 * n + j)
    s.setLine (16 * n + j) { l with seen := l.accepted }) s

/-! ## Commands of a mode and of an input line -/

/-- DL_MODE_WRITE (R178, R186, R466). -/
def execDlModeWrite (w : Writer) (i : Fin 256) (v : Nat) (s : State) : Res :=
  let k := Key.DL_MODE i.val
  .next (s.write w k v (fun s => orElse (s.budgetCheck k v) (s.loadCheck i.val k v)) (fun s =>
    s.lineAct i.val (fun s =>
      let l := s.line i.val
      let s := ((s.store k v).setReg (Key.DL_COUNT i.val) 0).setCount (Key.DL_EDGES i.val) 0
      s.setLine i.val { l with
        status := 0, trips := 0, off := false, hot := false, known := false, freshAt := s.lmc, cross := none
        hits := 0, rises := 0, falls := 0 })))

/-- FTIME of an input crossing now, moved to the ball by IN_DELAY, at 10 ns (R181). -/
def State.lineStamp (s : State) (i : Nat) : Int :=
  (s.ftime * 1000 - (s.reg (Key.DL_IN_DELAY i) : Int)) / 10000 * 10

/-- DL_RAW_CROSSING (R180, R181, R200). -/
def execDlRawCrossing (i : Fin 256) (level : Bool) (s : State) : Res :=
  let l := s.line i.val
  if !s.field.powered ∨ l.raw = level then .next s
  else
    let input := s.lineMode i.val == 1 || s.lineMode i.val == 2
    let s := s.setLine i.val { l with
      raw := level, rawAt := s.lmc
      cross := if input ∧ level ≠ l.accepted ∧ l.cross = none then some (s.lineStamp i.val) else l.cross }
    .next (if input ∧ s.flag (Key.DL_WAKE_ENABLE i.val) ∧ s.logicOn then s.panAsk (i.val / 16) else s)

/-- The time a level must hold: DEBOUNCE × 0.1 ms, or 20 ns (R180). -/
def State.debounceNs (s : State) (i : Nat) : Nat :=
  if s.reg (Key.DL_DEBOUNCE i) = 0 then 20 else s.reg (Key.DL_DEBOUNCE i) * 100000

/-- DEBOUNCE_COMPLETE (R180 to R182): time passes to the end of the debounce that runs, if one does. -/
def execDebounceComplete (i : Fin 256) (s : State) : Res :=
  let l := s.line i.val
  let input := s.lineMode i.val == 1 || s.lineMode i.val == 2
  if !s.field.powered ∨ !input ∨ (l.raw = l.accepted ∧ l.known) then .next s
  else
    let s := s.until (max l.rawAt l.freshAt + s.debounceNs i.val)
    if l.raw = l.accepted then .next (s.setLine i.val { l with known := true, cross := none })
    else .next (s.lineAccept i.val l.raw (l.cross.getD (s.lineStamp i.val)))

/-- IN_DELAY_MEASURE (R181): the measured delay in ps is the operand. -/
def execInDelayMeasure (i : Fin 256) (ps : Nat) (s : State) : Res :=
  if !s.field.powered ∨ !s.logicOn then .next s
  else .next ((s.setReg (Key.DL_IN_DELAY i.val) (ps % 2 ^ 32)).setReg (Key.DL_CAL_STATE i.val)
    (setBit (s.reg (Key.DL_CAL_STATE i.val)) 2 true))

/-- DL_COUNTER_EDGE (R183): a filtered edge of a COUNTER line. -/
def execDlCounterEdge (i : Fin 256) (rising : Bool) (s : State) : Res :=
  let l := s.line i.val
  if !s.field.powered ∨ s.lineMode i.val ≠ 3 ∨ (l.accepted = rising ∧ l.known) then .next s
  else if l.accepted = rising then .next (s.setLine i.val { l with known := true })
  else
    let e := s.reg (Key.DL_COUNT_EDGES i.val)
    let counts := if rising then bitOf e 0 else bitOf e 1
    let s := if counts then s.setReg (Key.DL_COUNT i.val) ((s.reg (Key.DL_COUNT i.val) + 1) % 2 ^ 32) else s
    let s := s.setLine i.val { l with raw := rising, rawAt := s.lmc }
    .next (s.lineAccept i.val rising s.ftime)

/-! ## Trips and retries -/

/-- DL_LIMIT_TRIP (R187). -/
def execDlLimitTrip (i : Fin 256) (s : State) : Res :=
  .next (if s.lineMode i.val = 4 ∧ s.lineBall i.val = some true then s.lineTrip i.val 3 else s)

/-- DL_THERMAL_TRIP (R187): the stage's temperature passes 165 °C. -/
def execDlThermalTrip (i : Fin 256) (s : State) : Res :=
  .next (if s.lineOut i.val ∧ s.field.powered ∧ !(s.line i.val).off then s.lineTrip i.val 4 else s)

/-- Lines in descending order of measured current, the higher number first among equals. -/
def insertCurrent (x : Nat × Nat) : List (Nat × Nat) → List (Nat × Nat)
  | [] => [x]
  | y :: ys => if y.2 < x.2 ∨ (y.2 = x.2 ∧ y.1 < x.1) then x :: y :: ys else y :: insertCurrent x ys

/-- Sheds lines from the front until the sum is at or below 1000 mA (R187). -/
def State.shedLines (s : State) : List (Nat × Nat) → Nat → State
  | [], _ => s
  | x :: xs, sum => if sum ≤ 1000 then s else (s.lineTrip x.1 7).shedLines xs (sum - x.2)

/-- DL_PAN_SHED (R187, R201): the measured currents of the Pan's sixteen lines in mA are the operand. -/
def execDlPanShed (n : Fin 16) (currents : List Nat) (s : State) : Res :=
  let on := (List.range 16).filter (fun j => s.lineOut (16 * n.val + j) && s.lineBall (16 * n.val + j) == some true)
  let xs := on.map (fun j => (16 * n.val + j, currents.getD j 0))
  let sum : Nat := (xs.map (·.2)).foldl (· + ·) 0
  if sum ≤ 1000 then .next s
  else .next ((s.shedLines (xs.foldl (fun a x => insertCurrent x a) []) sum).occur (0x0F0 + n.val) 0 sum)

/-- DL_RETRY_BACKOFF_EXPIRY (R188): time passes to the end of the back-off; a stage still hot waits for cooling. -/
def execDlRetryBackoffExpiry (i : Fin 256) (s : State) : Res :=
  let l := s.line i.val
  if !l.off ∨ bitOf l.status 6 then .next s
  else
    let s := s.until l.retryAt
    .next (if l.hot then s else s.lineRetry i.val)

/-- The stage of line `i` falls below 145 °C (R188). -/
def State.lineCooled (s : State) (i : Nat) : State :=
  let l := s.line i
  if !l.hot then s
  else
    let s := s.setLine i { l with hot := false }
    if l.off ∧ !bitOf l.status 6 ∧ l.retryAt ≤ s.lmc then s.lineRetry i else s

/-- Line `i` has been ON for 10 s without a trip (R188). -/
def State.lineSteady (s : State) (i : Nat) : State :=
  let l := s.line i
  if s.lineBall i ≠ some true then s
  else (s.until (max l.onAt s.field.steadyAt + 10000000000)).setLine i { l with trips := 0 }

/-- DL_CLEAR (R188): releases a latched line; on a line that has not latched it does nothing. -/
def execDlClear (w : Writer) (i : Fin 256) (v : Nat) (s : State) : Res :=
  .next (s.command w (Key.DL_CLEAR i.val) v noCheck (fun s =>
    if bitOf (s.line i.val).status 6 then
      s.lineAct i.val (fun s =>
        let l := s.line i.val
        s.setLine i.val { l with
          trips := 0, off := false, hot := false
          status := setBit (setBit (setBit (setBit l.status 3 false) 4 false) 6 false) 7 false })
    else s))

/-! ## Wire checks (R189, R190) -/

/-- The test-bias checks apply to line `i` now (Table 7.4). -/
def State.wireApplies (s : State) (i : Nat) : Bool :=
  s.field.powered && s.flag (Key.DL_WIRE_CHECK i) && s.lineMine i &&
    (s.lineMode i == 1 || s.lineMode i == 2 || (s.lineMode i == 4 && s.lineBall i == some false))

/-- DL_WIRE_TEST (R189, R190): 100 µs of bias; two consecutive tests above 10 V detect. On an input the debounce count is
frozen meanwhile. -/
def execDlWireTest (i : Fin 256) (high : Bool) (s : State) : Res :=
  if !s.wireApplies i.val then .next s
  else
    let s := s.until (s.lmc + 100000)
    let l := s.line i.val
    let l := if s.lineMode i.val = 4 then l else { l with rawAt := l.rawAt + 100000, freshAt := l.freshAt + 100000 }
    if !high then .next (s.setLine i.val { l with hits := 0 })
    else if l.hits = 0 then .next (s.setLine i.val { l with hits := 1 })
    else .next ((s.setLine i.val { l with hits := 2, wireAt := s.lmc }).lineBit i.val 0)

/-- DL_OPEN_ON_DETECT (R189). -/
def execDlOpenOnDetect (i : Fin 256) (s : State) : Res :=
  if s.lineMode i.val = 4 ∧ s.lineBall i.val = some true ∧ s.lineMine i.val then
    .next ((s.setLine i.val { s.line i.val with wireAt := s.lmc }).lineBit i.val 1)
  else .next s

/-- DL_SHORT_VFIELD_DETECT (R189). -/
def execDlShortVfieldDetect (i : Fin 256) (s : State) : Res :=
  if s.lineMode i.val = 4 ∧ s.lineBall i.val = some false ∧ s.lineMine i.val then
    .next ((s.setLine i.val { s.line i.val with wireAt := s.lmc }).lineBit i.val 5)
  else .next s

/-- DL_STATUS_CLEAR (R189): a wire-check bit clears when its condition has been absent for 100 ms. -/
def execDlStatusClear (i : Fin 256) (bit : Fin 16) (s : State) : Res :=
  let l := s.line i.val
  let b : Nat := bit.val
  if (b = 0 ∨ b = 1 ∨ b = 5) ∧ bitOf l.status b then
    .next (((s.until (l.wireAt + 100000000)).setLine i.val { l with status := setBit l.status b false }).linesLive (i.val / 16))
  else .next s

/-! ## Commands (R195, R196) -/

/-- Line `i` takes an image or dictionary word: GOOD commands its value and ends a safe-state command; quality bit 19 is
a safe-state command (R116, R195). -/
def State.lineWord (s : State) (i v : Nat) : State :=
  s.lineAct i (fun s =>
    if wQual v = 0 then s.setLine i { s.line i with cmd := wVal v != 0, safeCmd := false }
    else
      let s := if s.lineAtSafe i then s else s.setLine i { s.line i with last := (s.line i).cmd }
      s.setLine i { s.line i with safeCmd := true })

/-- A timer or Whisk commands line `i`. -/
def State.lineDrive (s : State) (i : Nat) (level : Bool) : State :=
  (s.lineAct i (fun s => s.setLine i { s.line i with cmd := level })).setReg (Key.DL_COMMAND i) (b2n level)

/-- Line `i` is map-driven: its COMMAND or its Pan's OUT_PACKED is bound in the subscribe map. -/
def State.lineMapped (s : State) (i : Nat) : Bool :=
  s.subBound (Key.DL_COMMAND i) || s.subBound (Key.PANDL_OUT_PACKED (i / 16))

/-- Line `i` is the target of an armed timer unit. -/
def State.lineTimed (s : State) (i : Nat) : Bool := s.timerTargets (0x1000 + i)

/-- DL_COMMAND_WRITE (R195, R265). -/
def execDlCommandWrite (w : Writer) (i : Fin 256) (v : Nat) (s : State) : Res :=
  let k := Key.DL_COMMAND i.val
  .next (s.write w k v (fun s => orElse (commandQuality v)
      (if s.lineMapped i.val || s.lineTimed i.val || s.whiskOwns (i.val / 16) 2 (i.val % 16) then some .stateConflict
       else none))
    (fun s => (s.store k v).lineWord i.val v))

/-- The lines that an OUT_PACKED word of Pan `n` reaches (R195). -/
def State.packedLines (s : State) (n : Nat) : List Nat :=
  (List.range 16).filter (fun j =>
    let i := 16 * n + j
    s.lineOut i && !s.subBound (Key.DL_COMMAND i) && !s.lineTimed i)

/-- An OUT_PACKED word of Pan `n` commands lines `js`. -/
def State.packedWord (s : State) (n v : Nat) (js : List Nat) : State :=
  js.foldl (fun s j => s.lineWord (16 * n + j) (if wQual v = 0 then b2n (bitOf v j) else v)) s

/-- OUT_PACKED_WRITE (R195). -/
def execOutPackedWrite (w : Writer) (n : Fin 16) (v : Nat) (s : State) : Res :=
  let k := Key.PANDL_OUT_PACKED n.val
  .next (s.write w k v (fun s => orElse (commandQuality v) (if s.subBound k then some .stateConflict else none))
    (fun s => (s.store k v).packedWord n.val v (s.packedLines n.val)))

/-- SAMPLING_WAKE (R184): in OPERATE, a Pan with a published COUNTER line is woken for the next boundary. -/
def execSamplingWake (n : Fin 16) (s : State) : Res :=
  let has := (List.range 16).any (fun j =>
    s.lineMode (16 * n.val + j) == 3 && s.pubBound (Key.DL_COUNT (16 * n.val + j)))
  let t : Int := s.turnT
  .next (if s.logicOn ∧ s.hub.mode = .operate ∧ has then s.panWindow n.val ((s.ftime / t + 1) * t) else s)

end Sys2Proof.Machine
end

