-- ==== Sys2Proof/Machine/Can.lean ====
section
/-! DEFINITION. CAN FD channels (chapter 8): keys and filters, reception and mailboxes, transmission with its retries and
completion records, the error states and the lone node, and the quality of the words. -/

namespace Sys2Proof.Machine

/-- CAN channel `c`. -/
def State.can (s : State) (c : Nat) : CanSt := cellGet (fun _ => {}) s.cans c

/-- CAN channel `c` becomes `x`. -/
def State.setCan (s : State) (c : Nat) (x : CanSt) : State := { s with cans := cellSet (fun _ => {}) s.cans c x }

/-- Mailbox `m` of channel `c`. -/
def State.mailbox (s : State) (c m : Nat) : MbSt := cellGet (fun _ => {}) (s.can c).mbs m

/-- Mailbox `m` of channel `c` becomes `x`. -/
def State.setMailbox (s : State) (c m : Nat) (x : MbSt) : State :=
  s.setCan c { s.can c with mbs := cellSet (fun _ => {}) (s.can c).mbs m x }

/-! ## Keys and lengths (R208, R210, R216) -/

/-- The key of a frame (Table 8.2). -/
def canKey (fr : CanFrame) : Nat :=
  if fr.extended then fr.ident / 2 ^ 18 % 2048 * 2 ^ 20 + 2 ^ 19 + fr.ident % 2 ^ 18 * 2 + b2n fr.remote
  else fr.ident % 2048 * 2 ^ 20 + b2n fr.remote

/-- The payload length that a DLC gives. -/
def dlcBytes (fdf : Bool) (dlc : Nat) : Nat :=
  if dlc ≤ 8 then dlc
  else if !fdf then 8
  else match dlc with
    | 9 => 12 | 10 => 16 | 11 => 20 | 12 => 24 | 13 => 32 | 14 => 48 | _ => 64

/-- Bytes of a received frame's payload: none for a remote frame. -/
def canPayload (fr : CanFrame) : List Byte :=
  if fr.remote then [] else
    let n := dlcBytes fr.fdf fr.dlc
    (fr.data.take n) ++ List.replicate (n - fr.data.length) 0

/-- A stamp at 12.5 ns (R210). -/
def stamp125 (t : Int) : Int := t * 2 / 25 * 25 / 2

/-- The queues of channel `c`: Pan, RXQ0, RXQ1 and the transmit queue. -/
def canPan (c : Nat) : Nat := c / 2

/-- RXQ0; RXQ1 and the transmit queue follow it. -/
def canQ (c : Nat) : Nat := 3 * (c % 2)

/-! ## States and words (R220, R226, R227) -/

/-- The BUS_STATE value field (Table 8.9). -/
def State.busStateValue (s : State) (c : Nat) : Nat :=
  let x := s.can c
  if s.reg (Key.CAN_ENABLE c) = 0 then 3
  else min x.tec 255 * 256 + b2n (decide (s.role = .standby)) * 16 + b2n x.held * 8 + b2n x.alone * 4 +
    s.reg (Key.CAN_ERROR_STATE c)

/-- {500}+c BUS_STATE. -/
def State.busState (s : State) (c : Nat) : Nat :=
  word20 (if s.reg (Key.CAN_ENABLE c) = 0 then 0xB else if s.reg (Key.CAN_ERROR_STATE c) = 2 then 0xD else 0)
    (s.busStateValue c)

/-- MB_CFG [31] ENABLE of mailbox `m`. -/
def State.mbOn (s : State) (c m : Nat) : Bool := bitOf (s.reg (Key.CAN_MB_CFG c m)) 31

/-- Quality of MB_VALUE (Table 8.10). -/
def State.mbQuality (s : State) (c m : Nat) : Nat :=
  let b := s.mailbox c m
  let limit := s.reg (Key.CAN_MB_CFG c m) % 65536
  if s.reg (Key.CAN_ENABLE c) = 0 ∨ !s.mbOn c m then 0xB
  else if s.reg (Key.CAN_ERROR_STATE c) = 2 ∨ (limit ≠ 0 ∧ b.heardAt + limit * 1000000 ≤ s.lmc) then 0xD
  else if !b.heard then 0x7
  else 0

/-- The newest frame held: the shadow when one is present (R214). -/
def MbSt.newest (b : MbSt) : Option MbFrame := match b.shadow with
  | some f => some f
  | none => b.current

/-- MB_VALUE: data bytes 0 to 7 of a frame, zero-padded, as a number (R226). -/
def mbValue (f : Option MbFrame) : Nat := match f with
  | some f => beAt f.data 0 8
  | none => 0

/-- {500}+c MB_INFO of mailbox `m` (Table 8.12). -/
def State.mbInfo (s : State) (c m : Nat) : Nat :=
  let b := s.mailbox c m
  (match b.current with
    | some f => f.info
    | none => 0) + b2n b.new * 2 ^ 24 + min b.overruns 65535

/-- The channel's ERROR_STATE, ALONE or HELD has changed from what `old` shows: source 480 + c is raised, and the Pan's
CAN fault sources are LIVE while a channel of it is in the state they report (R220 to R222, R229). -/
def State.canNotify (s : State) (c : Nat) (old : Nat) : State :=
  let n := canPan c
  let s := s.setLive (0x100 + n) ([2 * n, 2 * n + 1].any (fun d => s.reg (Key.CAN_ERROR_STATE d) == 1))
  let s := s.setLive (0x110 + n) ([2 * n, 2 * n + 1].any (fun d => s.reg (Key.CAN_ERROR_STATE d) == 2))
  let s := s.setLive (0x120 + n) ([2 * n, 2 * n + 1].any (fun d => (s.can d).alone))
  if s.busStateValue c % 16 ≠ old % 16 then s.raise (480 + c) (s.busStateValue c) else s

/-- TEC and REC registers follow the counters, saturating at 255. -/
def State.canCounters (s : State) (c : Nat) : State :=
  (s.setReg (Key.CAN_TEC c) (min (s.can c).tec 255)).setReg (Key.CAN_REC c) (min (s.can c).rec_ 255)

/-! ## Ending frames (R218, R219) -/

/-- The first packet equal to `p` leaves a list. -/
def eraseFirst (p : List QItem) : List (List QItem) → List (List QItem)
  | [] => []
  | x :: xs => if x = p then xs else x :: eraseFirst p xs

/-- The record of attempts of packet `p`. -/
def CanSt.tryOf (x : CanSt) (p : List QItem) : CanTry :=
  (x.tries.find? (fun t => t.packet == p)).getD { packet := p }

/-- The record of attempts of a packet is replaced. -/
def CanSt.putTry (x : CanSt) (t : CanTry) : CanSt :=
  { x with tries := t :: x.tries.filter (fun u => u.packet != t.packet) }

/-- The header word of a packet. -/
def headWord (p : List QItem) : Nat := (p.head?.map (fun i => i.data)).getD 0

/-- The completion record (Table 8.7) of packet `p`. -/
def canRecord (t : CanTry) (cause : Nat) : List QItem :=
  let h := headWord t.packet
  [qWord 3 (ofSigned 64 t.sof),
   ⟨tagByte true 7 2, h / 2 ^ 32 * 2 ^ 32 + cause * 2 ^ 24 + min t.attempts 255 * 2 ^ 16 + h % 65536⟩]

/-- The frame of packet `p` ends with `cause`: it leaves its queue slot, is counted, and leaves a completion record in
RXQ1 when the cause is not SENT or ECHO is set (R219). -/
def State.canEnd (s : State) (c : Nat) (p : List QItem) (cause : Nat) : State :=
  let n := canPan c
  let q := canQ c + 2
  let x := s.can c
  let t := x.tryOf p
  let s := s.setQueue n q { s.queue n q with packets := eraseFirst p (s.queue n q).packets }
  let s := s.setCan c { x with sending := none, tries := x.tries.filter (fun u => u.packet != p) }
  let s := if cause = 0 then s.bump (Key.CAN_TX_FRAMES c) else if cause = 6 then s else s.bump (Key.CAN_TX_FAILED c)
  if cause ≠ 0 ∨ bitOf (headWord p) 25 then s.qPush n (canQ c + 1) (canRecord t cause) else s

/-- The run of NO_ACK frames resets and the hold of R222 is released. -/
def State.canRunReset (s : State) (c : Nat) : State :=
  s.setCan c { s.can c with run := 0, acks := 0, alone := false, held := false }

/-- The run has reached 3 (R222): CAN_ALONE, and the hold when ALONE_HOLD is 1. -/
def State.canAlone (s : State) (c : Nat) : State :=
  if (s.can c).alone then s
  else (s.setCan c { s.can c with alone := true, held := s.flag (Key.CAN_ALONE_HOLD c) }).occur (0x120 + canPan c) c 0

/-- The error state follows TEC and REC as ISO 11898-1 rules (R220); entering BUS_OFF ends the frame held (R221). -/
def State.canState (s : State) (c : Nat) : State :=
  let x := s.can c
  let was := s.reg (Key.CAN_ERROR_STATE c)
  let now : Nat := if 255 < x.tec then 2 else if 127 < x.tec ∨ 127 < x.rec_ then 1 else 0
  let s := s.canCounters c
  if was = 2 ∨ was = 3 ∨ now = was then s
  else
    let s := s.setReg (Key.CAN_ERROR_STATE c) now
    if now = 1 then s.occur (0x100 + canPan c) c (min x.tec 255)
    else if now = 2 then
      let s := ((s.bump (Key.CAN_BUS_OFFS c)).setCan c { x with recovering := s.flag (Key.CAN_BUSOFF_AUTO c) }).occur
        (0x110 + canPan c) c 0
      match x.sending with
      | some (p, _) => s.canEnd c p 4
      | none => s
    else s

/-! ## Enabling (R206, R164) -/

/-- The checks of R206 and R164 on a write of 1 to ENABLE. -/
def State.canTimingOk (s : State) (c : Nat) : Bool :=
  let r (k : Nat → Nat) : Nat := s.reg (k c)
  let nq := r Key.CAN_NBRP * (1 + r Key.CAN_NTSEG1 + r Key.CAN_NTSEG2)
  let dq := r Key.CAN_DBRP * (1 + r Key.CAN_DTSEG1 + r Key.CAN_DTSEG2)
  decide (10000 * nq ≤ 80000000) && decide (80000000 ≤ 1000000 * nq) &&
    (r Key.CAN_FD_MODE != 1 || (decide (80000000 ≤ 5000000 * dq) && decide (dq ≤ nq))) &&
    decide (r Key.CAN_NSJW ≤ r Key.CAN_NTSEG1) && decide (r Key.CAN_NSJW ≤ r Key.CAN_NTSEG2) &&
    decide (r Key.CAN_DSJW ≤ r Key.CAN_DTSEG1) && decide (r Key.CAN_DSJW ≤ r Key.CAN_DTSEG2)

/-- Channel `c` stops: its attempt ends at once, hold bits clear, and ERROR_STATE reads DISABLED. -/
def State.canStop (s : State) (c : Nat) : State :=
  let x := s.can c
  let mbs := x.mbs.foldl (fun m b => match b.2.shadow with
    | some f => cellSet (fun _ => {}) m b.1 { b.2 with current := some f, shadow := none, new := true }
    | none => m) x.mbs
  (((s.setCan c { mbs := mbs, oldFilters := x.oldFilters }).setReg (Key.CAN_ERROR_STATE c) 3).setReg (Key.CAN_MB_HOLD c) 0).canCounters c

/-- CAN_ENABLE_WRITE (R206, R164, R466). -/
def execCanEnableWrite (w : Writer) (c : Fin 32) (v : Nat) (s : State) : Res :=
  let k := Key.CAN_ENABLE c.val
  .next (s.write w k v
    (fun s => if v = 0 then none else orElse (if s.canTimingOk c.val then none else some .valueRange)
      (orElse (if [0, 1, 2].any (fun i => s.qDepth (canPan c.val) (canQ c.val + i) == 0) then some .stateConflict else none)
        (s.budgetCheck k v)))
    (fun s =>
      let old := s.busStateValue c.val
      let was := s.flag k
      let s := s.store k v
      let s := if v = 0 then s.canStop c.val
        else if was then s
        else (s.setReg (Key.CAN_ERROR_STATE c.val) 0).canCounters c.val
      s.canNotify c.val old))

/-! ## Receiving (R209 to R214, R224) -/

/-- FILTER_f as it stood at LMC `t`: a later write gives way to the value before it (R209). -/
def State.canFilterAt (s : State) (c f t : Nat) : Nat :=
  match ((s.can c).oldFilters.filter (fun o => o.2.1 == f && decide (t ≤ o.1))).getLast? with
  | some o => o.2.2
  | none => s.reg (Key.CAN_FILTER c f)

/-- A write to FILTER_f is remembered while a frame whose SOF preceded it may still end. -/
def State.canFilterWritten (s : State) (c f old : Nat) : State :=
  let x := s.can c
  s.setCan c { x with oldFilters := (s.lmc, f, old) :: x.oldFilters.filter (fun o => decide (s.lmc < o.1 + 1000000000)) }

/-- CAN_FILTER_MATCH (R209): the first entry in use whose test passes. -/
def State.canMatch (s : State) (c key t : Nat) : Option (Nat × Nat) :=
  ((List.range 64).map (fun f => (f, s.canFilterAt c f t))).find? (fun e =>
    fld e.2 63 62 != 0 && ((key % 2 ^ 31) ^^^ fld e.2 61 31) &&& fld e.2 30 0 == 0)

/-- MB_INFO's frame part: DLC, FDF, BRS, ESI. -/
def canInfo (fr : CanFrame) : Nat :=
  fr.dlc % 16 * 2 ^ 28 + b2n fr.fdf * 2 ^ 27 + b2n fr.brs * 2 ^ 26 + b2n fr.esi * 2 ^ 25

/-- CAN_MAILBOX_STORE (R211, Table 8.5). -/
def State.mbStore (s : State) (c m : Nat) (f : MbFrame) : State :=
  let b := { s.mailbox c m with heardAt := s.lmc, heard := true }
  let hold := bitOf (s.reg (Key.CAN_MB_HOLD c)) m
  s.setMailbox c m (
    if !hold then { b with current := some f, new := true }
    else match b.shadow with
      | none => { b with shadow := some f }
      | some _ => { b with shadow := some f, overruns := min (b.overruns + 1) 65535 })

/-- The receive packet (Table 8.4). -/
def canPacket (fr : CanFrame) (sof : Int) (hit : Bool) (m : Option (Nat × Nat)) : List QItem :=
  let w1 := canKey fr * 2 ^ 32 + canInfo fr + b2n hit * 2 ^ 24 + b2n m.isNone * 2 ^ 23 +
    (m.map (·.1)).getD 0 * 2 ^ 16
  let body := canPayload fr
  if body.isEmpty then [qWord 3 (ofSigned 64 sof), ⟨tagByte true 7 1, w1⟩]
  else [qWord 3 (ofSigned 64 sof), qWord 1 w1] ++ pack 0 1 (body.map BitVec.toNat)

/-- The payload bytes of a transmit packet: its DATA words, the last with COUNT_M1 + 1 bytes (R215). -/
def txBytes (p : List QItem) : List Byte :=
  (p.drop 1).foldl (fun a i => a ++ (beBytes 8 i.data).take (if i.isEnd then fld i.tag 5 3 + 1 else 8)) []

/-- A waiting transmit packet equals a frame received from the bus in key, DLC, FDF, BRS and payload (R224). -/
def txEquals (p : List QItem) (fr : CanFrame) : Bool :=
  let h := headWord p
  h / 2 ^ 32 == canKey fr && fld h 31 28 == fr.dlc && bitOf h 27 == fr.fdf && bitOf h 26 == fr.brs &&
    txBytes p == canPayload fr

/-- CAN_SENT_BY_PEER (R224): the earliest equal waiting frame of a STANDBY hub ends. -/
def State.canByPeer (s : State) (c : Nat) (fr : CanFrame) : State :=
  if s.role ≠ .standby then s
  else match (s.queue (canPan c) (canQ c + 2)).packets.find? (fun p => txEquals p fr) with
    | some p => s.canEnd c p 6
    | none => s

/-- REC after a valid frame (R220, ISO 11898-1): one less, or from above 127 a value of 119 to 127 that the standard
leaves to the controller. -/
def State.canRecDown (s : State) (c : Nat) : State :=
  let x := s.can c
  if s.role = .standby ∨ x.rec_ = 0 then s
  else if x.rec_ ≤ 127 then s.setCan c { x with rec_ := x.rec_ - 1 }
  else
    let (v, s) := s.fresh
    s.setCan c { x with rec_ := 119 + v % 9 }

/-- The controller takes part in bus traffic: enabled, not BUS_OFF, not in internal loopback. -/
def State.canOnBus (s : State) (c : Nat) : Bool :=
  s.logicOn && s.flag (Key.CAN_ENABLE c) && s.reg (Key.CAN_ERROR_STATE c) != 2 && s.reg (Key.CAN_MODE c) != 2 &&
    !(s.can c).joining && s.field.powered && !s.portOff 4 c

/-- A receive error raises REC by `add` and counts (R220); on a STANDBY hub REC does not change (R224). -/
def State.canRxError (s : State) (c add : Nat) : State :=
  let old := s.busStateValue c
  let s := s.bump (Key.CAN_BUS_ERRORS c)
  let s := if s.role = .standby then s else s.setCan c { s.can c with rec_ := (s.can c).rec_ + add }
  (s.canState c).canNotify c old

/-- CAN_FRAME_RECEIVED (R209 to R212, R222, R224). `ago` is the time since SOF in ns. -/
def execCanFrameReceived (c : Fin 32) (ago : Nat) (fr : CanFrame) (s : State) : Res :=
  let c := c.val
  if !s.canOnBus c then .next s
  else if fr.fdf ∧ s.reg (Key.CAN_FD_MODE c) = 0 then .next (s.canRxError c 1)
  else
    let old := s.busStateValue c
    let key := canKey fr
    let sof := stamp125 (s.ftime - (ago : Int))
    let s := ((s.bump (Key.CAN_RX_FRAMES c)).canRecDown c).canRunReset c
    let hits := (List.range 16).filter (fun m => s.mbOn c m && s.reg (Key.CAN_MB_CFG c m) / 2 ^ 32 == key)
    let f : MbFrame := ⟨canInfo fr, sof, canPayload fr⟩
    let s := hits.foldl (fun s m => s.mbStore c m f) s
    let m := s.canMatch c key (s.lmc - ago)
    let p := canPacket fr sof (!hits.isEmpty) m
    let s := match m with
      | some (_, e) =>
        if fld e 63 62 = 1 then s.qPush (canPan c) (canQ c) p
        else if fld e 63 62 = 2 then s.qPush (canPan c) (canQ c + 1) p
        else s
      | none => if s.reg (Key.CAN_NOMATCH c) = 0 then s.qPush (canPan c) (canQ c + 1) p else s
    .next (((s.canByPeer c fr).canState c).canNotify c old)

/-- CAN_RECEIVE_ERROR (R220): REC rises by 1 or 8 as ISO 11898-1 rules; the operand says by how much. -/
def execCanReceiveError (c : Fin 32) (add : Nat) (s : State) : Res :=
  .next (if s.canOnBus c.val then s.canRxError c.val (if add = 8 then 8 else 1) else s)

/-- MB_CFG_WRITE (R211, R213): empties the mailbox, releases its hold, clears its overrun count. -/
def execMbCfgWrite (w : Writer) (c : Fin 32) (m : Fin 16) (v : Nat) (s : State) : Res :=
  let k := Key.CAN_MB_CFG c.val m.val
  .next (s.write w k v
    (fun s => if bitOf v 31 ∧ (List.range 16).any (fun j => j != m.val && s.mbOn c.val j &&
        s.reg (Key.CAN_MB_CFG c.val j) / 2 ^ 32 == v / 2 ^ 32) then some .valueRange else none)
    (fun s =>
      let s := (s.store k v).setMailbox c.val m.val { heardAt := s.lmc }
      s.setReg (Key.CAN_MB_HOLD c.val) (setBit (s.reg (Key.CAN_MB_HOLD c.val)) m.val false)))

/-- MB_HOLD_WRITE (R212): a hold bit that clears with a full shadow makes the shadow current. -/
def execMbHoldWrite (w : Writer) (c : Fin 32) (v : Nat) (s : State) : Res :=
  let k := Key.CAN_MB_HOLD c.val
  .next (s.write w k v noCheck (fun s =>
    let was := s.reg k
    ((List.range 16).filter (fun m => bitOf was m && !bitOf v m)).foldl (fun s m =>
      let b := s.mailbox c.val m
      match b.shadow with
      | some f => s.setMailbox c.val m { b with current := some f, shadow := none, new := true }
      | none => s) (s.store k v)))

/-- MB_DATA: the current buffer's payload, padded to 64 bytes with zeros. -/
def State.mbData (s : State) (c m : Nat) : List Byte :=
  let d := match (s.mailbox c m).current with
    | some f => f.data
    | none => []
  d ++ List.replicate (64 - d.length) 0

/-- MB_DATA_READ (R213): the payload is answered and NEW clears. -/
def execMbDataRead (p : Path) (c : Fin 32) (m : Fin 16) (s : State) : Res :=
  if s.inRecovery then .next (s.answer p (Key.CAN_MB_DATA c.val m.val) (some .noObject) [])
  else .next ((s.setMailbox c.val m.val { s.mailbox c.val m.val with new := false }).answer p
    (Key.CAN_MB_DATA c.val m.val) none (s.mbData c.val m.val))

/-! ## Transmitting (R215 to R218, R222 to R225) -/

/-- The frame cannot be sent (R216). -/
def State.canBadFormat (s : State) (c : Nat) (p : List QItem) : Bool :=
  let h := headWord p
  let remote := bitOf h 32
  let want := if remote then 0 else dlcBytes (bitOf h 27) (fld h 31 28)
  let retry := fld h 23 16
  (txBytes p).length != want || (bitOf h 27 && (remote || s.reg (Key.CAN_FD_MODE c) == 0)) ||
    (bitOf h 26 && !bitOf h 27) || (decide (128 ≤ retry) && decide (retry ≤ 254))

/-- A frame's retry limit r (R218). -/
def State.canLimit (s : State) (c : Nat) (p : List QItem) : Nat :=
  let r := fld (headWord p) 23 16
  if r = 255 then s.reg (Key.CAN_RETRY_LIMIT c) else r

/-- An upper bound in ns on a frame's length at the nominal rate, stuff bits included (R225). -/
def State.canFrameNs (s : State) (c : Nat) (p : List QItem) : Nat :=
  let bitNs := s.reg (Key.CAN_NBRP c) * (1 + s.reg (Key.CAN_NTSEG1 c) + s.reg (Key.CAN_NTSEG2 c)) * 25 / 2
  (100 + 8 * (txBytes p).length) * 5 / 4 * bitNs

/-- The channel may start an attempt: normal mode or internal loopback, not BUS_OFF, not held, not STANDBY, and with the
claim where the bus is shared (R222 to R225). -/
def State.canMayStart (s : State) (c : Nat) : Bool :=
  let x := s.can c
  s.logicOn && s.flag (Key.CAN_ENABLE c) && s.reg (Key.CAN_MODE c) != 1 && decide (s.reg (Key.CAN_ERROR_STATE c) ≤ 1) &&
    !x.held && !x.joining && x.sending.isNone && decide (s.role ≠ .standby) &&
    (decide (s.role = .solo) || s.holdsClaim) && !s.portOff 4 c

/-- CAN_TX_ATTEMPT_START (R216, R217, R225): the waiting frame with the lowest key is sent, or ends FORMAT. -/
def execCanTxAttemptStart (c : Fin 32) (s : State) : Res :=
  let c := c.val
  if !s.canMayStart c then .next s
  else match s.qPeek (canPan c) (canQ c + 2) with
    | none => .next s
    | some p =>
      if s.canBadFormat c p then .next (s.canEnd c p 3)
      else if (match s.handInstant with
          | some t => decide (t < s.ftime + (s.canFrameNs c p : Int))
          | none => false) then .next s
      else
        let sof := stamp125 s.ftime
        let x := s.can c
        .next (s.setCan c ({ x with sending := some (p, sof) }.putTry { x.tryOf p with sof := sof }))

/-- A counted failure of the attempt: TEC rises by `up`, and the frame may end (R218, R221, R222). -/
def State.canFail (s : State) (c : Nat) (p : List QItem) (up : Nat) (ack : Bool) : State :=
  let x := s.can c
  let t := x.tryOf p
  let t := { t with attempts := t.attempts + 1, allAck := t.allAck && ack }
  let r := s.canLimit c p
  let acks := if ack then x.acks + 1 else 0
  let s := (s.bump (Key.CAN_BUS_ERRORS c)).setCan c
    ({ x with tec := x.tec + up, sending := some (p, t.sof), acks := acks }.putTry t)
  let s := s.canState c
  match (s.can c).sending with
  | none => s
  | some _ =>
    let s := s.setCan c { s.can c with sending := none }
    if r = 0 then (if acks = 48 then s.canAlone c else s)
    else if r < t.attempts then
      if t.allAck then
        let s := s.canEnd c p 1
        let s := s.setCan c { s.can c with run := (s.can c).run + 1 }
        if 3 ≤ (s.can c).run then s.canAlone c else s
      else s.canEnd c p 2
    else s

/-- The frame was acknowledged without error (R207, R218, R220). -/
def State.canSent (s : State) (c : Nat) (p : List QItem) : State :=
  let x := s.can c
  let t := x.tryOf p
  let s := s.setCan c ({ x with tec := x.tec - 1 }.putTry { t with attempts := t.attempts + 1 })
  ((s.canEnd c p 0).canRunReset c).canState c

/-- TDC_MODE 1 measures every FD frame sent with BRS (R207). -/
def State.canTdc (s : State) (c : Nat) (p : List QItem) (tdcv : Nat) : State :=
  if s.reg (Key.CAN_TDC_MODE c) = 1 ∧ bitOf (headWord p) 26 then s.setReg (Key.CAN_TDCV c) (tdcv % 256) else s

/-- TDCV + TDCO exceeds 127 in a frame that TDC_MODE 1 measured. -/
def State.canTdcOver (s : State) (c : Nat) (p : List QItem) : Bool :=
  s.reg (Key.CAN_TDC_MODE c) == 1 && bitOf (headWord p) 26 &&
    decide (127 < s.reg (Key.CAN_TDCV c) + s.reg (Key.CAN_TDCO c))

/-- CAN_ATTEMPT_END (R207, R218 to R222). A perturbation of kind 8 turns every A-th attempt into a bit error. -/
def execCanAttemptEnd (c : Fin 32) (outcome : CanEnd) (s : State) : Res :=
  let c := c.val
  match (s.can c).sending with
  | none => .next s
  | some (p, _) =>
    let old := s.busStateValue c
    let (hit, s) := s.pertNth 8 c
    let passive := s.reg (Key.CAN_ERROR_STATE c) == 1
    .next ((if hit then s.canFail c p 8 false else match outcome with
      | .sent d =>
        let s := s.canTdc c p d
        if s.canTdcOver c p then (s.bump (Key.CAN_TDC_RANGE c)).canFail c p 8 false else s.canSent c p
      | .lost => (s.bump (Key.CAN_ARB_LOST c)).setCan c { s.can c with sending := none }
      | .noAck quiet => s.canFail c p (if passive ∧ quiet then 0 else 8) true
      | .error flat d =>
        let s := s.canTdc c p d
        let s := if s.canTdcOver c p then s.bump (Key.CAN_TDC_RANGE c) else s
        s.canFail c p (if flat then 0 else 8) false).canNotify c old)

/-- The package loses the claim: a frame being sent is cut off and ends CLAIM_LOST (R225). -/
def State.canClaimLost (s : State) (c : Nat) : State :=
  match (s.can c).sending with
  | some (p, _) => s.canEnd c p 5
  | none => s

/-- The hub becomes ACTIVE (R225): TEC and REC 0, and the channel waits for 11 recessive bits. -/
def State.canActive (s : State) (c : Nat) : State :=
  if !s.flag (Key.CAN_ENABLE c) then s
  else
    let old := s.busStateValue c
    ((s.setCan c { s.can c with tec := 0, rec_ := 0, joining := true }).canState c).canNotify c old

/-- CAN_BUS_JOIN (R225). -/
def execCanBusJoin (c : Fin 32) (s : State) : Res :=
  .next (if (s.can c.val).joining ∧ s.logicOn then s.setCan c.val { s.can c.val with joining := false } else s)

/-! ## Recovery and the lone node (R221, R222, R203) -/

/-- CAN_RECOVERY_START (R221): CONTROL written with 1. -/
def execCanRecoveryStart (w : Writer) (c : Fin 32) (s : State) : Res :=
  .next (s.write w (Key.CAN_CONTROL c.val) 1 noCheck (fun s =>
    if s.reg (Key.CAN_ERROR_STATE c.val) = 2 then s.setCan c.val { s.can c.val with recovering := true } else s))

/-- CAN_RECOVERY_COMPLETE (R221). -/
def execCanRecoveryComplete (c : Fin 32) (s : State) : Res :=
  let x := s.can c.val
  if s.reg (Key.CAN_ERROR_STATE c.val) = 2 ∧ x.recovering then
    let old := s.busStateValue c.val
    let s := s.setCan c.val { x with recovering := false, tec := 0, rec_ := 0 }
    .next (((s.setReg (Key.CAN_ERROR_STATE c.val) 0).canCounters c.val).canNotify c.val old)
  else .next s

/-- CAN_ALONE_RELEASE (R222): CONTROL written with 2. -/
def execCanAloneRelease (w : Writer) (c : Fin 32) (s : State) : Res :=
  .next (s.write w (Key.CAN_CONTROL c.val) 2 noCheck (fun s =>
    (s.canRunReset c.val).canNotify c.val (s.busStateValue c.val)))

/-- CAN_DOMINANT_TIMEOUT (R203): the transceiver releases the bus and counts. -/
def execCanDominantTimeout (c : Fin 32) (s : State) : Res :=
  .next (if s.flag (Key.CAN_ENABLE c.val) ∧ s.logicOn then s.bump (Key.CAN_DOMINANT_TIMEOUTS c.val) else s)

end Sys2Proof.Machine
end

