-- ==== Sys2Proof/Machine/Serial.lean ====
section
/-! DEFINITION. RS-485 channels (R230 to R242) and the serial bridges of compatibility mode (R341, R342). -/

namespace Sys2Proof.Machine

/-- RS-485 channel `c`. -/
def State.rs (s : State) (c : Nat) : RsSt := cellGet (fun _ => {}) s.rss c

/-- RS-485 channel `c` becomes `x`. -/
def State.setRs (s : State) (c : Nat) (x : RsSt) : State := { s with rss := cellSet (fun _ => {}) s.rss c x }

/-- The Pan of a channel, and its receive queue; the transmit queue follows it. -/
def rsPan (c : Nat) : Nat := c / 3

/-- The receive queue of a channel. -/
def rsQ (c : Nat) : Nat := 6 + 2 * (c % 3)

/-! ## Times (R231, R235) -/

/-- Bits of one frame, in halves: start, data, parity and stop bits. -/
def State.rsHalfBits (s : State) (c : Nat) : Nat :=
  2 + 2 * s.reg (Key.RS_DATA_BITS c) + (if s.reg (Key.RS_PARITY c) = 0 then 0 else 2) + 2 + s.reg (Key.RS_STOP_BITS c)

/-- The rate in use; before the first enabling, the configured one. -/
def State.rsBaud (s : State) (c : Nat) : Nat :=
  if s.reg (Key.RS_BAUD_ACTUAL c) = 0 then s.reg (Key.RS_BAUD c) else s.reg (Key.RS_BAUD_ACTUAL c)

/-- `n` half bits in ns. -/
def State.rsHalfNs (s : State) (c n : Nat) : Nat := n * 500000000 / s.rsBaud c

/-- A character time in ns. -/
def State.rsCharNs (s : State) (c : Nat) : Nat := s.rsHalfNs c (s.rsHalfBits c)

/-- GAP_HALF half-character times in ns. -/
def State.rsGapNs (s : State) (c : Nat) : Nat := s.reg (Key.RS_GAP_HALF c) * s.rsCharNs c / 2

/-! ## Lines and their words -/

/-- The channel runs: enabled, and not stopped by a PORT_OFF reaction. -/
def State.rsOn (s : State) (c : Nat) : Bool := s.logicOn && s.flag (Key.RS_ENABLE c) && !s.portOff 5 c

/-- The channel may drive its pair under the twin rules (R241). -/
def State.rsMine (s : State) (c : Nat) : Bool :=
  decide (s.role ≠ .standby) && (!s.sharedIn (Key.RS_SHARED c) || s.holdsClaim) && s.field.powered

/-- Channel `c` is the receive pair of an RS-422 link (R240). -/
def State.rsPartner (s : State) (c : Nat) : Bool := c % 3 == 1 && s.flag (Key.RS_DUPLEX (c - 1))

/-- DUPLEX joins channel `c` with the next one. -/
def State.rsDuplex (s : State) (c : Nat) : Bool := c % 3 == 0 && s.flag (Key.RS_DUPLEX c)

/-- The value bits of LINE_STATE. -/
def State.rsLineValue (s : State) (c : Nat) : Nat :=
  let x := s.rs c
  let on := s.rsOn c
  b2n x.brk * 128 + b2n (on && !x.brk && x.tx.isNone && x.rx.isNone) * 64 + b2n (decide (s.role = .standby)) * 32 +
    b2n (bitOf (s.reg (Key.RS_STATUS c)) 1) * 16 + b2n (on && s.flag (Key.RS_TERM c) && s.rsMine c) * 8 +
    b2n (on && s.flag (Key.RS_BIAS c) && s.rsMine c) * 4 + b2n (s.flag (Key.RS_DUPLEX c)) * 2 + b2n on

/-- {520}+c LINE_STATE (Table 9.3). -/
def State.rsLineState (s : State) (c : Nat) : Nat :=
  if !s.flag (Key.RS_ENABLE c) then word20 0xB 0
  else word20 (if bitOf (s.reg (Key.RS_STATUS c)) 1 then 9 else 0) (s.rsLineValue c)

/-- {520}+c STATUS. -/
def State.rsStatus (s : State) (c : Nat) : Nat :=
  (if bitOf (s.reg (Key.RS_STATUS c)) 1 then 2 else 0) + b2n (s.sharedIn (Key.RS_SHARED c) && !s.holdsClaim)

/-- After a change `f`, a changed LINE_STATE raises source 576 + c (Table 14.1). -/
def State.rsAct (s : State) (c : Nat) (f : State → State) : State :=
  let old := s.rsLineValue c
  let s := f s
  if s.rsLineValue c = old then s else s.raise (576 + c) (s.rsLineValue c)

/-! ## Packets and records (Table 9.1) -/

/-- Word 1 of a packet or record. -/
def rsWord1 (length cause : Nat) (r : RsRx) (tag : Nat) : Nat :=
  length % 65536 * 2 ^ 48 + cause * 2 ^ 44 + b2n r.parity * 2 ^ 43 + b2n r.framing * 2 ^ 42 + b2n r.noise * 2 ^ 41 +
    b2n r.continued * 2 ^ 40 + r.firstError * 2 ^ 16 + tag

/-- A stamp at 10 ns. -/
def stamp10 (t : Int) : Int := t / 10 * 10

/-- The completion record of a sent packet. -/
def rsRecord (t : RsTx) (cause sent : Nat) : List QItem :=
  [qWord 3 (ofSigned 64 t.start), ⟨tagByte true 7 2, rsWord1 sent cause {} (t.header % 65536)⟩]

/-- The packet being sent ends with `cause`; a record goes to the receive queue when the cause is not SENT (8) or ECHO is
set (R239). -/
def State.rsEnd (s : State) (c : Nat) (t : RsTx) (cause sent : Nat) : State :=
  let s := s.setRs c { s.rs c with tx := none, lastEnd := s.lmc }
  let s := if cause = 8 then s.bump (Key.RS_TX_PACKETS c) else s
  if cause ≠ 8 ∨ bitOf t.header 62 then s.qPush (rsPan c) (rsQ c) (rsRecord t cause sent) else s

/-- The narrow items of a packed word. -/
def itemsOf (cw : Nat) (i : QItem) : List Nat :=
  (List.range (if !i.isEnd then perWord cw else if cw = 1 ∨ cw = 3 then fld i.tag 5 3 + 1
    else (fld i.tag 5 3 + 1) * 8 / widthBits cw)).map (fun j => laneOf cw i.data j)

/-- The characters of a transmit packet's DATA words (R237). -/
def rsTxChars (cw : Nat) (p : List QItem) : List Nat := (p.drop 1).foldl (fun a i => a ++ itemsOf cw i) []

/-- RS485_SENT_BY_PEER (R241): on a STANDBY hub, a received packet equal to the oldest transmit packet removes it. -/
def State.rsByPeer (s : State) (c : Nat) (chars : List Nat) : State :=
  let n := rsPan c
  let q := rsQ c + 1
  if s.role ≠ .standby then s
  else match s.qTake n q with
    | none => s
    | some (p, s') =>
      let h := headWord p
      if rsTxChars (s.qWidth n q) p ≠ chars then s
      else if bitOf h 62 then s'.qPush n (rsQ c) (rsRecord { header := h } 11 chars.length) else s'

/-- RS485_PACKET_CLOSE (R235, R236): the open packet closes with `cause` and becomes visible. -/
def State.rsClose (s : State) (c cause : Nat) : State :=
  match (s.rs c).rx with
  | none => s
  | some r =>
    let s := s.setRs c { s.rs c with rx := none, continues := decide (cause = 4) }
    let body := pack (s.qWidth (rsPan c) (rsQ c)) 1 r.chars
    let w1 := rsWord1 r.chars.length cause r 0
    let p := if r.chars.isEmpty then [qWord 3 (ofSigned 64 r.start), ⟨tagByte true 7 2, w1⟩]
      else [qWord 3 (ofSigned 64 r.start), qWord 2 w1] ++ body
    ((s.bump (Key.RS_RX_PACKETS c)).qPush (rsPan c) (rsQ c) p).rsByPeer c r.chars

/-- The packet-end strobe of Whisk `w` (R274): every channel of its Pan that END_WHISK ties to it closes its packet. -/
def State.rsStrobe (s : State) (w : Nat) : State :=
  [0, 1, 2].foldl (fun s j =>
    let c := 3 * (w / 2) + j
    if s.rsOn c ∧ s.reg (Key.RS_END_MODE c) = 3 ∧ s.reg (Key.RS_END_WHISK c) = w % 2 then s.rsAct c (fun s => s.rsClose c 3)
    else s) s

/-! ## Bridges (R341, R342) -/

/-- The bridge that channel `c` belongs to, in compatibility mode: its number and its channels a and b. -/
def State.bridgeOf (s : State) (c : Nat) : Option (Nat × Nat × Nat) :=
  if !s.compat then none
  else ((List.range 24).map (fun j => (j, s.reg (Key.BRIDGES_ENTRY j)))).findSome? (fun e =>
    if bitOf e.2 15 ∧ (fld e.2 13 8 = c ∨ fld e.2 5 0 = c) then some (e.1, fld e.2 13 8, fld e.2 5 0) else none)

/-- Bridge `j`. -/
def State.bridge (s : State) (j : Nat) : BridgeSt := cellGet (fun _ => {}) s.bridges j

/-- Bridge `j` becomes `x`. -/
def State.setBridge (s : State) (j : Nat) (x : BridgeSt) : State :=
  { s with bridges := cellSet (fun _ => {}) s.bridges j x }

/-- Characters are driven onto the pair of channel `c`. -/
def State.rsDrive (s : State) (c : Nat) (chars : List Nat) : State := { s with rsSent := s.rsSent ++ [(c, chars)] }

/-- The two sides of a bridge run at one rate and framing, so characters pass as they come. -/
def State.bridgeEqual (s : State) (a b : Nat) : Bool :=
  s.rsBaud a == s.rsBaud b && s.reg (Key.RS_DATA_BITS a) == s.reg (Key.RS_DATA_BITS b) &&
    s.reg (Key.RS_PARITY a) == s.reg (Key.RS_PARITY b) && s.reg (Key.RS_STOP_BITS a) == s.reg (Key.RS_STOP_BITS b)

/-- Stored packets that may leave do: from b first under a crossing, and from a once no packet of b is in the way
(R342). -/
def State.bridgeSend (s : State) (j a b : Nat) : State :=
  let x := s.bridge j
  let (s, x) := match x.readyB with
    | some p => (s.rsDrive a p, { x with readyB := none, crossing := false })
    | none => (s, x)
  match x.readyA with
  | some p => if x.crossing then s.setBridge j x else (s.rsDrive b p).setBridge j { x with readyA := none }
  | none => s.setBridge j x

/-- BRIDGE_CHAR_FORWARD and BRIDGE_CROSSING: a character `v` received on channel `c` of bridge `j`. -/
def State.bridgeChar (s : State) (j a b c v : Nat) (crossing : Bool) : State :=
  let x := s.bridge j
  let onA := decide (c = a)
  if (onA && x.driving == 2) || (!onA && x.driving == 1) then s
  else
    let begins := crossing && !x.crossing
    let s := if begins then s.bump (Key.BRIDGES_COUNTS (2 * j)) else s
    let x := { x with crossing := x.crossing || crossing }
    if x.crossing ∨ !s.bridgeEqual a b then
      let held := if onA then x.fromA else x.fromB
      if 8192 ≤ held.length then (s.setBridge j x).bump (Key.BRIDGES_COUNTS (2 * j + 1))
      else s.setBridge j (if onA then { x with fromA := held ++ [v] } else { x with fromB := held ++ [v] })
    else (s.rsDrive (if onA then b else a) [v]).setBridge j { x with driving := if onA then 1 else 2 }

/-- The packet on channel `c` of bridge `j` closes: a stored one may leave, a passing one releases DE. -/
def State.bridgeClose (s : State) (j a b c : Nat) : State :=
  let x := s.bridge j
  let onA := decide (c = a)
  let s := s.setBridge j (
    if onA then (if x.fromA.isEmpty then { x with driving := if x.driving = 1 then 0 else x.driving }
      else { x with fromA := [], readyA := some x.fromA })
    else (if x.fromB.isEmpty then { x with driving := if x.driving = 2 then 0 else x.driving }
      else { x with fromB := [], readyB := some x.fromB }))
  s.bridgeSend j a b

/-! ## Reception -/

/-- The channel whose objects and queues serve characters on pair `c`, none where they are ignored (R240). -/
def State.rsServes (s : State) (c : Nat) : Option Nat :=
  if s.rsPartner c then some (c - 1) else if s.rsDuplex c then none else some c

/-- The open packet after character `ch`; a new packet opens when none is. -/
def State.rsAppend (s : State) (c : Nat) (ch : RsChar) : RsRx :=
  let x := s.rs c
  let r := x.rx.getD { start := stamp10 (s.ftime - (ch.ago : Int)), continued := x.continues }
  let bad := ch.parityErr || ch.framingErr
  { r with
    chars := r.chars ++ [ch.value % 2 ^ s.reg (Key.RS_DATA_BITS c)]
    parity := r.parity || ch.parityErr, framing := r.framing || ch.framingErr, noise := r.noise || ch.noise
    firstError := if bad ∧ r.firstError = 0xFFFF then min r.chars.length 0xFFFE else r.firstError }

/-- The CAUSE with which a character closes its packet, if it does (R235). -/
def State.rsClosesWith (s : State) (c : Nat) (r : RsRx) (v : Nat) : Option Nat :=
  if s.reg (Key.RS_END_MODE c) = 1 ∧ v = s.reg (Key.RS_END_CHAR c) then some 1
  else if s.reg (Key.RS_END_MODE c) = 2 ∧ r.chars.length = s.reg (Key.RS_LENGTH c) then some 2
  else if r.chars.length = s.reg (Key.RS_MAX_LEN c) then some 4
  else none

/-- A character of a channel that is not sending, or whose echo is kept, is stored (R235, R236). -/
def State.rsStore (s : State) (c : Nat) (ch : RsChar) : State :=
  let r := s.rsAppend c ch
  let s := s.setRs c { s.rs c with rx := some r, lastEnd := s.lmc, brk := false, continues := false }
  let s := if ch.parityErr || ch.framingErr then s.bump (Key.RS_CHAR_ERRORS c) else s
  match s.rsClosesWith c r (ch.value % 2 ^ s.reg (Key.RS_DATA_BITS c)) with
  | some cause => s.rsClose c cause
  | none => s

/-- RS485_CONTENTION (R239): a character received while DE is asserted is compared with the one sent. -/
def State.rsCompare (s : State) (c : Nat) (t : RsTx) (v : Nat) : State :=
  let lag := s.rsHalfNs c (2 * s.reg (Key.RS_DE_LAG c))
  let miss := t.stop.isNone && t.chars.getD t.echoed v != v
  let t := if miss then { t with stop := some (9, t.echoed + 1), endsAt := s.lmc + lag } else { t with echoed := t.echoed + 1 }
  let s := s.setRs c { s.rs c with tx := some t, lastEnd := s.lmc }
  if miss then s.bump (Key.RS_CONTENTIONS c) else s

/-- RS485_CHAR_RECEIVED (R235, R236, R238, R239, R240, R341, R342). -/
def execRs485CharReceived (c : Fin 48) (ch : RsChar) (s : State) : Res :=
  match s.rsServes c.val with
  | none => .next s
  | some c =>
    if !s.rsOn c then .next s
    else match s.bridgeOf c with
      | some (j, a, b) =>
        let s := s.bridgeChar j a b c (ch.value % 2 ^ s.reg (Key.RS_DATA_BITS c)) ch.crossing
        let r := s.rsAppend c ch
        let s := s.setRs c { s.rs c with rx := some r, lastEnd := s.lmc, brk := false }
        .next (match s.rsClosesWith c r (ch.value % 2 ^ s.reg (Key.RS_DATA_BITS c)) with
          | some _ => (s.setRs c { s.rs c with rx := none }).bridgeClose j a b c
          | none => s)
      | none =>
        let s := if s.panActive (rsPan c) then s else s.panAsk (rsPan c)
        .next (s.rsAct c (fun s => match (s.rs c).tx with
          | some t =>
            if s.rsDuplex c then s.rsStore c ch
            else
              let s := s.rsCompare c t (ch.value % 2 ^ s.reg (Key.RS_DATA_BITS c))
              if s.flag (Key.RS_LOCAL_ECHO c) then s.rsStore c ch else s
          | none => s.rsStore c ch))

/-- RS485_GAP_EXPIRY (R235): time passes until the line has been idle for GAP_HALF half-characters. -/
def execRs485GapExpiry (c : Fin 48) (s : State) : Res :=
  let c := c.val
  let x := s.rs c
  if !s.rsOn c ∨ s.reg (Key.RS_GAP_HALF c) = 0 ∨ x.rx.isNone then .next s
  else
    let s := s.until (x.lastEnd + s.rsGapNs c)
    match s.bridgeOf c with
    | some (j, a, b) => .next ((s.setRs c { x with rx := none }).bridgeClose j a b c)
    | none => .next (s.rsAct c (fun s => s.rsClose c 0))

/-- RS485_BREAK_RECEIVED (R235, R236). -/
def execRs485BreakReceived (c : Fin 48) (ago : Nat) (s : State) : Res :=
  match s.rsServes c.val with
  | none => .next s
  | some c =>
    if !s.rsOn c then .next s
    else match s.bridgeOf c with
      | some (j, a, b) => .next ((s.setRs c { s.rs c with rx := none, brk := true }).bridgeClose j a b c)
      | none => .next (s.rsAct c (fun s =>
          let x := s.rs c
          let r := x.rx.getD { start := stamp10 (s.ftime - (ago : Int)) }
          (s.setRs c { x with rx := some r, brk := true, lastEnd := s.lmc }).rsClose c 5))

/-! ## Transmission (R237 to R239) -/

/-- RS485_TX_START (R237, R238, R241): the oldest waiting packet is sent once the line has been idle for TX_HOLDOFF. -/
def execRs485TxStart (c : Fin 48) (s : State) : Res :=
  let c := c.val
  let n := rsPan c
  let q := rsQ c + 1
  let x := s.rs c
  if !s.rsOn c ∨ s.rsPartner c ∨ !s.rsMine c ∨ x.tx.isSome ∨ x.joinAt.isSome ∨ (s.bridgeOf c).isSome then .next s
  else if x.brk ∧ !s.rsDuplex c then .next s
  else match s.qTake n q with
    | none => .next s
    | some (p, s') =>
      let h := headWord p
      let chars := rsTxChars (s.qWidth n q) p
      let dup := s.rsDuplex c
      let bit := s.rsHalfNs c 2
      let wait : Nat := if dup then s.lmc else x.lastEnd + s.reg (Key.RS_TX_HOLDOFF c) * bit
      let brk : Nat := if bitOf h 63 then s.reg (Key.RS_BREAK_BITS c) * bit else 0
      let lead : Nat := if dup then 0 else s.reg (Key.RS_DE_LEAD c) * bit
      let lag : Nat := if dup then 0 else s.reg (Key.RS_DE_LAG c) * bit
      let s := s'.until wait
      let t : RsTx := { header := h, chars := chars, start := stamp10 (s.ftime + ((lead + brk : Nat) : Int))
                        endsAt := s.lmc + lead + brk + chars.length * s.rsCharNs c + lag }
      .next ((s.rsAct c (fun s => s.setRs c { s.rs c with tx := some t })).rsDrive c chars)

/-- RS485_TX_END (R238, R239): DE is released and the packet ends. -/
def execRs485TxEnd (c : Fin 48) (s : State) : Res :=
  let c := c.val
  match (s.rs c).tx with
  | none => .next s
  | some t =>
    let s := s.until t.endsAt
    .next (s.rsAct c (fun s => match t.stop with
      | some (cause, sent) => s.rsEnd c t cause sent
      | none =>
        let s := s.setReg (Key.RS_STATUS c) 0
        (s.setLive (0x130 + rsPan c) ([0, 1, 2].any (fun j => bitOf (s.reg (Key.RS_STATUS (3 * rsPan c + j))) 1))).rsEnd c t 8
          t.chars.length))

/-- RS485_DRIVER_FAULT (R234): the driver disables itself for the rest of the packet. -/
def execRs485DriverFault (c : Fin 48) (thermal : Bool) (s : State) : Res :=
  let c := c.val
  match (s.rs c).tx with
  | none => .next s
  | some t =>
    if t.stop.isSome then .next s
    else .next (s.rsAct c (fun s =>
      (((s.setReg (Key.RS_STATUS c) 2).setRs c { s.rs c with tx := some { t with stop := some (12, t.echoed) } }).setLive
        (0x130 + rsPan c) true).occur (0x130 + rsPan c) c (if thermal then 2 else 1)))

/-- The package loses the claim: a packet being sent is cut and ends CLAIM_LOST (R241). -/
def State.rsClaimLost (s : State) (c : Nat) : State :=
  match (s.rs c).tx with
  | some t => if s.sharedIn (Key.RS_SHARED c) then s.rsAct c (fun s => s.rsEnd c t 10 t.echoed) else s
  | none => s

/-- The hub becomes ACTIVE: an enabled channel waits for an idle line (R241). -/
def State.rsActive (s : State) (c : Nat) : State :=
  if s.flag (Key.RS_ENABLE c) then s.setRs c { s.rs c with joinAt := some s.lmc } else s

/-- RS485_ACTIVE_JOIN (R241). -/
def execRs485ActiveJoin (c : Fin 48) (s : State) : Res :=
  let c := c.val
  let x := s.rs c
  match x.joinAt with
  | none => .next s
  | some t =>
    if !s.rsOn c then .next s
    else
      let s := s.until (max x.lastEnd t + max (s.rsGapNs c) (s.rsCharNs c))
      .next (s.setRs c { x with joinAt := none })

/-- RS485_REPLAY_START (R242): in DOZE the field die records the line and the Pan is asked to wake. -/
def execRs485ReplayStart (c : Fin 48) (s : State) : Res :=
  let n := rsPan c.val
  if s.rsOn c.val ∧ s.reg (Key.PAN_STATE n) = 1 then
    .next ((s.setRs c.val { s.rs c.val with replay := true }).panAsk n)
  else .next s

/-! ## Enabling (R232, R240, R265) -/

/-- The checks on a write of 1 to ENABLE. -/
def State.rsEnableCheck (s : State) (c : Nat) : Option Abort :=
  if s.reg (Key.RS_END_MODE c) = 0 ∧ s.reg (Key.RS_GAP_HALF c) = 0 then some .valueRange
  else if s.reg (Key.RS_STOP_BITS c) = 1 ∧ s.reg (Key.RS_DATA_BITS c) ≠ 5 then some .valueRange
  else if s.rsPartner c then some .stateConflict
  else if s.qDepth (rsPan c) (rsQ c) = 0 ∨ s.qDepth (rsPan c) (rsQ c + 1) = 0 then some .stateConflict
  else if s.whiskOwns (rsPan c) 3 (c % 3) ∨ s.whiskOwns (rsPan c) 4 (c % 3) then some .stateConflict
  else s.budgetCheck (Key.RS_ENABLE c) 1

/-- The rate that the divider reaches for BAUD: within 0.01 % of it (R231), which number the spec does not state. -/
def State.rsRate (s : State) (c : Nat) : State :=
  let b := s.reg (Key.RS_BAUD c)
  let (v, s) := s.fresh
  s.setReg (Key.RS_BAUD_ACTUAL c) (b - b / 10000 + v % (2 * (b / 10000) + 1))

/-- RS485_ENABLE_WRITE (R232, R240). -/
def execRs485EnableWrite (w : Writer) (c : Fin 48) (v : Nat) (s : State) : Res :=
  let k := Key.RS_ENABLE c.val
  .next (s.write w k v (fun s => if v = 0 then none else s.rsEnableCheck c.val) (fun s =>
    let was := s.flag k
    s.rsAct c.val (fun s =>
      let s := s.store k v
      if v = 0 then s.setRs c.val { lastEnd := (s.rs c.val).lastEnd }
      else if was then s
      else (s.setRs c.val { lastEnd := (s.rs c.val).lastEnd }).rsRate c.val)))

end Sys2Proof.Machine
end

