-- ==== Sys2Proof/Machine/IoLink.lean ====
section
/-! DEFINITION. IO-Link ports and their L+ switches (R243 to R260): start-up and wake slots, the cycle, process data and
safe states, ISDUs, events, data storage, and the L+ switches' soft start, trips and retries. -/

namespace Sys2Proof.Machine

/-- IO-Link port `p`. -/
def State.iol (s : State) (p : Nat) : IolSt := cellGet (fun _ => {}) s.iols p

/-- IO-Link port `p` becomes `x`. -/
def State.setIol (s : State) (p : Nat) (x : IolSt) : State := { s with iols := cellSet (fun _ => {}) s.iols p x }

/-- The Pan of a port, and its receive queue; the transmit queue follows it. -/
def iolPan (p : Nat) : Nat := p / 4

/-- The receive queue of a port. -/
def iolQ (p : Nat) : Nat := 12 + 2 * (p % 4)

/-! ## Words and drive -/

/-- The mode port `p` runs in: DEACTIVATED while a PORT_OFF reaction stops it (Table 16.2). -/
def State.iolMode (s : State) (p : Nat) : Nat := if s.portOff 6 p then 0 else s.reg (Key.IOL_MODE p)

/-- This package drives C/Q of port `p` (R258). -/
def State.iolMine (s : State) (p : Nat) : Bool :=
  decide (s.role ≠ .standby) && (!s.sharedIn (Key.IOL_SHARED p) || s.holdsClaim) && s.field.powered

/-- Port `p`'s outputs are at their safe state (R249). -/
def State.iolSafe (s : State) (p : Nat) : Bool := s.heldSafe (iolPan p) || (s.iol p).safeCmd || s.field.safe

/-- The debounced C/Q level of a DI_CQ port (R180, R244). -/
def State.cqLevel (s : State) (p : Nat) : Bool :=
  let x := s.iol p
  let d : Nat := if s.reg (Key.IOL_DEBOUNCE p) = 0 then 20 else s.reg (Key.IOL_DEBOUNCE p) * 100000
  if x.rawAt + d ≤ s.lmc then x.raw else x.level

/-- C/Q level of a DO_CQ port, none for high impedance: SAFE_MODE 2 releases it, and the package must drive it. -/
def State.cqOut (s : State) (p : Nat) : Option Bool :=
  if s.iolMode p ≠ 4 || !s.iolMine p || !s.field.refreshed then none
  else if s.iolSafe p then (if s.reg (Key.IOL_SAFE_MODE p) = 2 then none
    else if s.reg (Key.IOL_SAFE_MODE p) = 1 then some (decide (s.reg (Key.IOL_SAFE_PD p) / 256 ^ 31 % 2 = 1)) else some false)
  else some (s.iol p).cmd

/-- The PORT_STATE value field. -/
def State.portStateValue (s : State) (p : Nat) : Nat :=
  let x := s.iol p
  let sio : Bool := if s.iolMode p = 3 then s.cqLevel p else s.cqOut p == some true
  (if s.iolMode p = 0 then 0 else x.st) * 2 ^ 12 + b2n (decide (s.role = .standby)) * 2 ^ 11 + b2n x.event.isSome * 2 ^ 10 +
    b2n x.pdInvalid * 2 ^ 9 + b2n (sio && (s.iolMode p == 3 || s.iolMode p == 4)) * 2 ^ 8

/-- The L+ switch of port `p` has tripped, is in back-off or has latched. -/
def State.lpTripped (s : State) (p : Nat) : Bool := s.reg (Key.LP_STATE p) == 3 || s.reg (Key.LP_STATE p) == 4

/-- Quality of PORT_STATE (`pd` false) and of the PD words (Table 9.4). -/
def State.iolQuality (s : State) (p : Nat) (pd : Bool) : Nat :=
  let x := s.iol p
  let m := s.iolMode p
  if m = 0 ∨ (pd ∧ (m = 3 ∨ m = 4)) then 0xB
  else if pd ∧ x.pdInvalid then 0xC
  else if s.lpTripped p then 0xA
  else if bitOf (s.reg (Key.IOL_STATUS p)) 1 then 0x9
  else if (m = 1 ∨ m = 2) ∧ (x.st = 6 ∨ x.st = 7 ∨ !x.operated) then 0xD
  else if (m = 1 ∨ m = 2) ∧ !x.pdSeen then 0x7
  else 0

/-- {560}+p PORT_STATE. -/
def State.portState (s : State) (p : Nat) : Nat := word20 (s.iolQuality p false) (s.portStateValue p)

/-- {560}+p STATUS with UNCLAIMED. -/
def State.iolStatus (s : State) (p : Nat) : Nat :=
  s.reg (Key.IOL_STATUS p) / 2 * 2 + b2n (s.sharedIn (Key.IOL_SHARED p) && !s.holdsClaim)

/-- After a change `f`, a changed PORT_STATE raises source 512 + p (Table 14.1). -/
def State.iolAct (s : State) (p : Nat) (f : State → State) : State :=
  let old := s.portStateValue p
  let s := f s
  if s.portStateValue p = old then s else s.raise (512 + p) (s.portStateValue p)

/-! ## Events (R252) -/

/-- The event packet. -/
def iolEventPacket (t : Int) (qualifier code source : Nat) : List QItem :=
  [qWord 3 (ofSigned 64 t),
   ⟨tagByte true 7 6, qualifier % 256 * 2 ^ 56 + code % 65536 * 2 ^ 40 + source * 2 ^ 32⟩]

/-- An event is stored, counted and signalled, when the queue has room. -/
def State.iolStore (s : State) (p qualifier code source : Nat) : State :=
  ((s.bump (Key.IOL_EVENTS p)).qPush (iolPan p) (iolQ p) (iolEventPacket s.ftime qualifier code source)).raise (512 + p)
    (s.portStateValue p)

/-- A port event of the master: its code is IEC 61131-9's, which the spec does not number. -/
def State.portEvent (s : State) (p : Nat) : State :=
  let (q, s) := s.fresh
  let (c, s) := s.fresh
  if s.qRoom (iolPan p) (iolQ p) 2 then s.iolStore p (q % 256) (c % 65536) 1 else s

/-! ## ISDU results (R251) -/

/-- An ISDU ends with RESULT, ERROR and data: in the result objects, or as a receive packet. -/
def State.isduEnd (s : State) (p : Nat) (i : IsduSt) (result error : Nat) (data : List Byte) : State :=
  let s := s.setIol p { s.iol p with isdu := none, isduLen := if i.tag.isNone then min data.length 232 else (s.iol p).isduLen }
  match i.tag with
  | none =>
    (s.setReg (Key.IOL_ISDU_RESULT p) (2 * 2 ^ 24 + result * 2 ^ 16 + error % 65536)).setReg (Key.IOL_ISDU_DATA p)
      (beNat (data.take 232 ++ List.replicate (232 - data.length) 0))
  | some tag =>
    let w := result * 2 ^ 56 + error % 65536 * 2 ^ 40 + data.length % 65536 * 2 ^ 16 + tag
    s.qPush (iolPan p) (iolQ p) (if data.isEmpty then [⟨tagByte true 7 2, w⟩]
      else qWord 2 w :: pack 0 1 (data.map BitVec.toNat))

/-- A running ISDU ends with RESULT `r` and no data. -/
def State.isduStop (s : State) (p r : Nat) : State := match (s.iol p).isdu with
  | some i => s.isduEnd p i r 0 []
  | none => s

/-! ## The L+ switch (R256, R257) -/

/-- L+ is commanded on: LP_MODE 1, or 2 with MODE other than DEACTIVATED; SAFE_MODE 2 turns it off at the safe state. -/
def State.lpWanted (s : State) (p : Nat) : Bool :=
  (s.reg (Key.LP_MODE p) == 1 || (s.reg (Key.LP_MODE p) == 2 && s.iolMode p != 0)) &&
    !(s.iolSafe p && s.reg (Key.IOL_SAFE_MODE p) == 2) && s.field.powered && s.field.refreshed

/-- The switch follows its command: a soft start begins, or the switch turns off. -/
def State.lpSync (s : State) (p : Nat) : State :=
  let st := s.reg (Key.LP_STATE p)
  if s.lpWanted p ∧ st = 0 then
    (s.setReg (Key.LP_STATE p) 1).setIol p { s.iol p with lpRampAt := s.lmc }
  else if !s.lpWanted p ∧ (st = 1 ∨ st = 2) then s.setReg (Key.LP_STATE p) 0
  else s

/-! ## Starting and losing communication (R243 to R245) -/

/-- The port goes through DEACTIVATED and starts the mode it now has (R244). -/
def State.iolStart (s : State) (p : Nat) : State :=
  let x := s.iol p
  let m := s.iolMode p
  let s := s.isduStop p 3
  let s := s.setIol p { x with
    st := if m = 0 then 0 else if m = 3 then 4 else if m = 4 then 5 else 1
    waits := false, slotEnds := none, pdInvalid := false, pdSeen := false, operated := false, awaiting := false
    failures := 0, isdu := none, event := none, rawAt := s.lmc, level := x.raw }
  (s.setReg (Key.IOL_STATUS p) 0).setReg (Key.IOL_COM_RATE p) 0 |>.lpSync p

/-- IOL_COMM_LOST: communication is lost; the port asks for a new wake slot (R245). -/
def State.iolLost (s : State) (p : Nat) : State :=
  let x := s.iol p
  if x.st = 2 ∨ x.st = 3 ∨ x.st = 7 then
    let s := s.isduStop p 3
    let s := s.setIol p { s.iol p with st := 6, awaiting := false, failures := 0, waits := true, pdSeen := false, event := none }
    ((s.bump (Key.IOL_COMM_LOSTS p)).faultUp (0x150 + iolPan p) p 0).portEvent p
  else s

/-- IOL_MODE_WRITE (R244, R164, R466). -/
def execIolModeWrite (w : Writer) (p : Fin 64) (v : Nat) (s : State) : Res :=
  let k := Key.IOL_MODE p.val
  .next (s.write w k v
    (fun s => orElse (if v ≠ 0 ∧ s.reg k = 0 ∧ (s.qDepth (iolPan p.val) (iolQ p.val) = 0 ∨
        s.qDepth (iolPan p.val) (iolQ p.val + 1) = 0) then some .stateConflict else none) (s.budgetCheck k v))
    (fun s => s.iolAct p.val (fun s => (s.store k v).iolStart p.val)))

/-- IOL_STARTUP_DELAY_EXPIRY (R245): 50 ms after the soft start the port asks for a wake slot. -/
def execIolStartupDelayExpiry (p : Fin 64) (s : State) : Res :=
  let p := p.val
  let s := s.lpSync p
  let x := s.iol p
  if s.reg (Key.LP_STATE p) = 2 ∧ x.st = 1 ∧ !x.waits ∧ x.slotEnds = none then
    .next ((s.until (x.lpDoneAt + 50000000)).setIol p { x with waits := true })
  else .next s

/-- Port `p` has a wake slot in use. -/
def State.slotBusy (s : State) (p : Nat) : Bool := match (s.iol p).slotEnds with
  | some t => decide (s.lmc < t)
  | none => false

/-- The port that the next free slot goes to: the lowest waiting one whose Pan has no slot in use (R245). -/
def State.slotPort (s : State) : Option Nat :=
  (List.range 64).find? (fun p => (s.iol p).waits && s.iolMine p &&
    !(List.range 4).any (fun j => s.slotBusy (4 * iolPan p + j)))

/-- Wake slots in use. -/
def State.slotsUsed (s : State) : List Nat := (List.range 64).filter s.slotBusy

/-- IOL_WAKE_SLOT_GRANT (R245): time passes until a slot can be given, if a port waits for one. -/
def execIolWakeSlotGrant (s : State) : Res :=
  if !s.logicOn then .next s
  else
    let ends := s.slotsUsed.map (fun p => (s.iol p).slotEnds.getD 0)
    let first : Nat := ends.foldl min (ends.headD s.lmc)
    let s := if ((List.range 64).any (fun p => (s.iol p).waits)) ∧ (4 ≤ ends.length ∨ s.slotPort = none) then s.until first else s
    match s.slotPort with
    | some p =>
      if 4 ≤ s.slotsUsed.length then .next s
      else .next (s.setIol p { s.iol p with waits := false, slotEnds := some (s.lmc + 100000) })
    | none => .next s

/-- A cycle time that the MasterCycleTime encoding of IEC 61131-9 carries, at or above `t` µs (R247). PRESUMED: time base
100 µs to 6.3 ms, 400 µs from 6.4 ms to 31.6 ms, 1.6 ms from 32 ms to 132.8 ms. -/
def cycleUp (t : Nat) : Nat :=
  if t ≤ 6300 then (t + 99) / 100 * 100
  else if t ≤ 31600 then max 6400 (6400 + (t - 6400 + 399) / 400 * 400)
  else min 132800 (max 32000 (32000 + (t - 32000 + 1599) / 1600 * 1600))

/-- The device passes VALIDATION (R246). -/
def State.iolValid (s : State) (p : Nat) (d : IolDevice) : Bool :=
  s.iolMode p == 2 || s.reg (Key.IOL_VALIDATION p) == 0 ||
    (d.vendor == s.reg (Key.IOL_VENDOR_ID p) && d.device == s.reg (Key.IOL_DEVICE_ID p) &&
      (s.reg (Key.IOL_VALIDATION p) != 2 || d.serial == s.reg (Key.IOL_SERIAL p)))

/-- The stored record as bytes, padded to 2 KiB. -/
def dsPad (d : List Byte) : List Byte := d.take 2048 ++ List.replicate (2048 - d.length) 0

/-- DS_RESTORE (R253): stored parameters go to a matching device whose own differ; an identity mismatch is reported. -/
def State.dsRestore (s : State) (p : Nat) (d : IolDevice) : State :=
  let x := s.iol p
  let stored := s.reg (Key.IOL_DS_STATE p) == 1 || s.reg (Key.IOL_DS_STATE p) == 3
  if s.reg (Key.IOL_DS_MODE p) = 0 ∨ !stored then s
  else if d.vendor ≠ x.dsVendor ∨ d.device ≠ x.dsDevice then
    ((s.setReg (Key.IOL_DS_STATE p) 3).occur (0x160 + iolPan p) p 3).portEvent p
  else
    let image := s.reg (Key.IOL_DS_IMAGE p)
    (s.setReg (Key.IOL_DS_STATE p) 1).setIol p { x with
      params := if beNat (dsPad d.params) = image then d.params else beBytes 2048 image }

/-- IOL_STARTUP_COMPLETE (R246, R247, R253). -/
def execIolStartupComplete (p : Fin 64) (d : IolDevice) (s : State) : Res :=
  let p := p.val
  let x := s.iol p
  if !((s.iolMode p = 1 ∨ s.iolMode p = 2) ∧ (x.st = 1 ∨ x.st = 6) ∧ x.slotEnds.isSome) then .next s
  else .next (s.iolAct p (fun s =>
    let s := s.setReg (Key.IOL_COM_RATE p) (d.comRate % 4)
    let s := (s.setReg (Key.IOL_DEV_VENDOR_ID p) (d.vendor % 65536)).setReg (Key.IOL_DEV_DEVICE_ID p) (d.device % 2 ^ 24)
    let s := (s.setReg (Key.IOL_DEV_SERIAL p) (d.serial % 2 ^ 128)).setReg (Key.IOL_DEV_REVISION p) (d.revision % 256)
    let s := s.setReg (Key.IOL_PD_LENGTHS p) (min d.pdIn 32 * 256 + min d.pdOut 32)
    let actual := cycleUp (max (s.reg (Key.IOL_CYCLE_US p)) d.minCycle)
    let raised := decide (s.reg (Key.IOL_CYCLE_US p) ≠ 0 ∧ s.reg (Key.IOL_CYCLE_US p) < actual)
    let s := s.setReg (Key.IOL_CYCLE_ACTUAL p) actual
    let s := s.setReg (Key.IOL_STATUS p) (setBit (s.reg (Key.IOL_STATUS p)) 2 raised)
    let ok := s.iolValid p d
    let s := s.setIol p { s.iol p with
      st := if ok then 3 else 7, slotEnds := none, failures := 0, operated := ok, pdSeen := false, params := d.params }
    let s := s.setLive (0x150 + iolPan p) ((List.range 4).any (fun j => (s.iol (4 * iolPan p + j)).st == 6))
    if ok then s.dsRestore p d else (s.occur (0x140 + iolPan p) p 0).portEvent p))

/-! ## The cycle (R247, R248, R259) -/

/-- The next grid instant of port `p` after FTIME `t`, in ns. -/
def State.iolGrid (s : State) (p : Nat) (t : Int) : Int :=
  let c : Int := s.reg (Key.IOL_CYCLE_ACTUAL p) * 1000
  let ph : Int := (s.reg (Key.IOL_PHASE_US p) % s.reg (Key.IOL_CYCLE_ACTUAL p) : Nat) * 1000
  ((t - ph) / c + 1) * c + ph

/-- The output process data that the next M-sequence carries: valid or not, and 32 bytes (R248, R249). -/
def State.iolOutput (s : State) (p : Nat) : Bool × Nat :=
  if s.iolSafe p then
    (if s.reg (Key.IOL_SAFE_MODE p) = 1 then (true, s.reg (Key.IOL_SAFE_PD p)) else (false, 0))
  else (true, s.reg (Key.IOL_PD_OUT p))

/-- IOL_M_SEQUENCE_START (R247, R248): time passes to the port's next grid instant. -/
def execIolMSequenceStart (p : Fin 64) (s : State) : Res :=
  let p := p.val
  let x := s.iol p
  if x.st ≠ 3 ∨ s.iolMode p = 0 ∨ s.reg (Key.IOL_CYCLE_ACTUAL p) = 0 ∨ x.awaiting then .next s
  else if s.iolSafe p ∧ s.reg (Key.IOL_SAFE_MODE p) = 2 then .next s
  else
    let t := s.iolGrid p (max x.lastAt (s.ftime - 1))
    let s := s.untilFtime t
    let out : Option (Bool × Nat) := if s.iolMine p then some (s.iolOutput p) else x.out
    .next (s.setIol p { x with awaiting := true, lastAt := t, out := out })

/-- An M-sequence failed: the master retries twice and then communication is lost (R243; IEC 61131-9, PRESUMED). -/
def State.iolFail (s : State) (p : Nat) : State :=
  let s := s.bump (Key.IOL_M_SEQ_ERR p)
  let x := s.iol p
  if x.failures + 1 < 3 then s.setIol p { x with failures := x.failures + 1 } else s.iolAct p (fun s => s.iolLost p)

/-- The input bytes as the port holds them: the device's length, zero-padded to 32. -/
def State.pdPad (s : State) (p : Nat) (pd : List Byte) : List Byte :=
  let n := s.reg (Key.IOL_PD_LENGTHS p) / 256
  (pd.take n) ++ List.replicate (32 - (pd.take n).length) 0

/-- IOL_M_SEQUENCE_REPLY (R248). A perturbation of kind 9 spoils every A-th reply's checksum. -/
def execIolMSequenceReply (p : Fin 64) (pd : List Byte) (valid checksumOk : Bool) (s : State) : Res :=
  let p := p.val
  if !(s.iol p).awaiting then .next s
  else
    let (hit, s) := s.pertNth 9 p
    if hit || !checksumOk then .next (s.iolFail p)
    else .next (s.iolAct p (fun s =>
      let v := beNat (s.pdPad p pd)
      let s := ((s.bump (Key.IOL_M_SEQ_OK p)).setReg (Key.IOL_PD_IN p) v).setReg (Key.IOL_PD_IN4 p) (v / 256 ^ 28)
      s.setIol p { s.iol p with awaiting := false, failures := 0, pdInvalid := !valid, pdSeen := true }))

/-- IOL_REPLY_TIMEOUT (R243). -/
def execIolReplyTimeout (p : Fin 64) (s : State) : Res :=
  .next (if (s.iol p.val).awaiting then s.iolFail p.val else s)

/-- IOL_M_SEQUENCE_WAKE (R259): a dozing Pan is woken for the next M-sequence. -/
def execIolMSequenceWake (p : Fin 64) (s : State) : Res :=
  let p := p.val
  let x := s.iol p
  if x.st = 3 ∧ s.reg (Key.PAN_STATE (iolPan p)) = 1 ∧ s.reg (Key.IOL_CYCLE_ACTUAL p) ≠ 0 then
    .next (s.panWindow (iolPan p) (s.iolGrid p (max x.lastAt (s.ftime - 1))))
  else .next s

/-! ## ISDU (R251) -/

/-- The port is in PREOPERATE or OPERATE. -/
def State.iolTalks (s : State) (p : Nat) : Bool :=
  let x := s.iol p
  (x.st == 2 || x.st == 3 || x.st == 7) && s.iolMode p != 0

/-- A request begins, or ends at once NOT_OPERATING. -/
def State.isduBegin (s : State) (p : Nat) (i : IsduSt) : State :=
  if !s.iolTalks p then s.isduEnd p i 5 0 []
  else
    let s := s.setIol p { s.iol p with isdu := some { i with startedAt := s.lmc } }
    match i.tag with
    | none => s.setReg (Key.IOL_ISDU_RESULT p) (2 ^ 24)
    | some _ => s

/-- ISDU_REQUEST_WRITE (R251): `data` is the OCTETS value as written. -/
def execIsduRequestWrite (w : Writer) (p : Fin 64) (data : List Byte) (s : State) : Res :=
  let k := Key.IOL_ISDU_REQUEST p.val
  let op := beAt data 0 1
  let len := beAt data 4 2
  let i : IsduSt := { op := op, index := beAt data 1 2, sub := beAt data 3 1, data := (data.drop 6).take len }
  .next (s.write w k 0 (fun s => if (s.iol p.val).isdu.isSome then some .busy else none) (fun s =>
    if (op ≠ 1 ∧ op ≠ 2) ∨ 232 < len ∨ 238 < data.length then s.isduEnd p.val i 6 0 [] else s.isduBegin p.val i))

/-- ISDU_QUEUE_REQUEST (R251): the next queued request starts when the port is free. -/
def execIsduQueueRequest (p : Fin 64) (s : State) : Res :=
  let p := p.val
  if (s.iol p).isdu.isSome ∨ !s.logicOn ∨ s.iolMode p = 0 ∨ s.role = .standby then .next s
  else match s.qTake (iolPan p) (iolQ p + 1) with
    | none => .next s
    | some (pk, s) =>
      let h := headWord pk
      let len := fld h 31 16
      let i : IsduSt := { tag := some (h % 65536), op := fld h 63 56, index := fld h 55 40, sub := fld h 39 32
                          data := (txBytes pk).take len }
      .next (if (i.op ≠ 1 ∧ i.op ≠ 2) ∨ 232 < len then s.isduEnd p i 6 0 [] else s.isduBegin p i)

/-- ISDU_COMPLETE (R251): the device answered, with an ErrorType or 0. -/
def execIsduComplete (p : Fin 64) (error : Nat) (data : List Byte) (s : State) : Res :=
  match (s.iol p.val).isdu with
  | none => .next s
  | some i =>
    if error = 0 then .next (s.isduEnd p.val i 0 0 (if i.op = 1 then data.take 232 else []))
    else .next (s.isduEnd p.val i 1 error [])

/-- ISDU_TIMEOUT (R251): no answer within 5 s. -/
def execIsduTimeout (p : Fin 64) (s : State) : Res :=
  match (s.iol p.val).isdu with
  | none => .next s
  | some i => .next ((s.until (i.startedAt + 5000000000)).isduEnd p.val i 2 0 [])

/-! ## Device events (R252) -/

/-- IOL_EVENT_READ (R252): stored and acknowledged when the queue has room; otherwise the device keeps it. -/
def execIolEventRead (p : Fin 64) (qualifier code : Nat) (s : State) : Res :=
  let p := p.val
  if !s.iolTalks p ∨ (s.iol p).event.isSome then .next s
  else .next (if s.qRoom (iolPan p) (iolQ p) 2 then s.iolStore p qualifier code 0
    else s.iolAct p (fun s => s.setIol p { s.iol p with event := some (qualifier, code) }))

/-- IOL_EVENT_BACKLOG_RELEASE (R252). -/
def execIolEventBacklogRelease (p : Fin 64) (s : State) : Res :=
  let p := p.val
  match (s.iol p).event with
  | none => .next s
  | some (q, c) =>
    if s.qRoom (iolPan p) (iolQ p) 2 then
      .next ((s.iolAct p (fun s => s.setIol p { s.iol p with event := none })).iolStore p q c 0)
    else .next s

/-! ## Port commands and data storage (R253, R254) -/

/-- PORT_CMD_RESTART (R244). -/
def execPortCmdRestart (w : Writer) (p : Fin 64) (s : State) : Res :=
  .next (s.write w (Key.IOL_PORT_CMD p.val) 1 noCheck (fun s => s.iolAct p.val (fun s => s.iolStart p.val)))

/-- An upload is pending (R253): only DS_MODE 1 backs up. -/
def State.dsUpload (s : State) (p : Nat) : State :=
  if s.reg (Key.IOL_DS_MODE p) = 1 ∧ s.iolTalks p then s.setReg (Key.IOL_DS_STATE p) 2 else s

/-- PORT_CMD_BACKUP (R253). -/
def execPortCmdBackup (w : Writer) (p : Fin 64) (s : State) : Res :=
  .next (s.write w (Key.IOL_PORT_CMD p.val) 2 noCheck (fun s => s.dsUpload p.val))

/-- PORT_CMD_CLEAR_DS (R253). -/
def execPortCmdClearDs (w : Writer) (p : Fin 64) (s : State) : Res :=
  .next (s.write w (Key.IOL_PORT_CMD p.val) 3 noCheck (fun s =>
    ((s.setReg (Key.IOL_DS_IMAGE p.val) 0).setReg (Key.IOL_DS_STATE p.val) 0).setIol p.val
      { s.iol p.val with dsVendor := 0, dsDevice := 0 }))

/-- DS_UPLOAD_REQUEST (R253). -/
def execDsUploadRequest (p : Fin 64) (s : State) : Res := .next (s.dsUpload p.val)

/-- DS_COMMIT (R254): the gathered record is committed in one operation, and the ACTIVE hub copies it to its peer. -/
def execDsCommit (p : Fin 64) (data : List Byte) (s : State) : Res :=
  let p := p.val
  if s.reg (Key.IOL_DS_STATE p) ≠ 2 then .next s
  else
    let v := beNat (dsPad data)
    let s := (s.setReg (Key.IOL_DS_IMAGE p) v).setReg (Key.IOL_DS_STATE p) 1
    let s := s.setIol p { s.iol p with
      dsVendor := s.reg (Key.IOL_DEV_VENDOR_ID p), dsDevice := s.reg (Key.IOL_DEV_DEVICE_ID p), params := data }
    .next (if s.role = .active then s.sendSync (Key.IOL_DS_IMAGE p) (valueBytes (Key.IOL_DS_IMAGE p) v) else s)

/-! ## L+ trips (R256) -/

/-- The L+ switch of port `p` trips with STATUS bit `b`: retries, back-off and latch follow R188. -/
def State.lpTrip (s : State) (p b : Nat) : State :=
  s.iolAct p (fun s =>
    let x := s.iol p
    let k := x.lpTrips + 1
    let latch := decide (s.reg (Key.LP_RETRIES p) < k)
    let st := setBit (setBit (s.reg (Key.LP_STATUS p)) b true) 3 (latch || bitOf (s.reg (Key.LP_STATUS p)) 3)
    let s := (s.setReg (Key.LP_STATUS p) st).setReg (Key.LP_STATE p) (if latch then 4 else 3)
    let s := s.setIol p { x with lpTrips := k, lpRetryAt := s.lmc + backoffNs k, lpHot := x.lpHot || b == 2 }
    (((s.bump (Key.LP_TRIPS p)).occur (0x170 + iolPan p) p st).raise (768 + p) st).iolLost p)

/-- The switch is on or ramping. -/
def State.lpOn (s : State) (p : Nat) : Bool := s.reg (Key.LP_STATE p) == 1 || s.reg (Key.LP_STATE p) == 2

/-- LP_FAST_TRIP (R256). -/
def execLpFastTrip (p : Fin 64) (s : State) : Res :=
  let s := s.lpSync p.val
  .next (if s.lpOn p.val then s.lpTrip p.val 0 else s)

/-- LP_SLOW_TRIP (R256). -/
def execLpSlowTrip (p : Fin 64) (s : State) : Res :=
  let s := s.lpSync p.val
  .next (if s.lpOn p.val then s.lpTrip p.val 1 else s)

/-- LP_THERMAL_TRIP (R256). -/
def execLpThermalTrip (p : Fin 64) (s : State) : Res :=
  let s := s.lpSync p.val
  .next (if s.lpOn p.val then s.lpTrip p.val 2 else s)

/-- LP_RAMP_COMPLETE (R256): the 2 ms soft start ends. -/
def execLpRampComplete (p : Fin 64) (s : State) : Res :=
  let p := p.val
  let s := s.lpSync p
  if s.reg (Key.LP_STATE p) ≠ 1 then .next s
  else
    let s := s.until ((s.iol p).lpRampAt + 2000000)
    .next ((s.setReg (Key.LP_STATE p) 2).setIol p { s.iol p with lpDoneAt := s.lmc, lpOnAt := s.lmc })

/-- The switch leaves its back-off: it ramps again if it is still commanded on, with its trip bits cleared (R187, R188). -/
def State.lpRetry (s : State) (p : Nat) : State :=
  let s := s.setReg (Key.LP_STATE p) 0
  let s := if s.lpWanted p then s.setReg (Key.LP_STATUS p) (s.reg (Key.LP_STATUS p) / 16 * 16) else s
  s.lpSync p

/-- LP_BACKOFF_EXPIRY (R256, R188). -/
def execLpBackoffExpiry (p : Fin 64) (s : State) : Res :=
  let p := p.val
  if s.reg (Key.LP_STATE p) ≠ 3 then .next s
  else
    let s := s.until (s.iol p).lpRetryAt
    .next (if (s.iol p).lpHot then s else s.lpRetry p)

/-- LP_CLEAR (R256, R188). -/
def execLpClear (w : Writer) (p : Fin 64) (v : Nat) (s : State) : Res :=
  .next (s.command w (Key.LP_CLEAR p.val) v noCheck (fun s =>
    if s.reg (Key.LP_STATE p.val) ≠ 4 then s
    else
      let s := s.setIol p.val { s.iol p.val with lpTrips := 0, lpHot := false }
      ((s.setReg (Key.LP_STATUS p.val) 0).setReg (Key.LP_STATE p.val) 0).lpSync p.val))

/-- STAGE_COOLED (R188, R256): the stage of line `i`, or of L+ switch `i − 256`, falls below 145 °C. -/
def execStageCooled (i : Fin 320) (s : State) : Res :=
  if i.val < 256 then .next (s.lineCooled i.val)
  else
    let p := i.val - 256
    let x := s.iol p
    let s := s.setIol p { x with lpHot := false }
    .next (if x.lpHot ∧ s.reg (Key.LP_STATE p) = 3 ∧ x.lpRetryAt ≤ s.lmc then s.lpRetry p else s)

/-- DL_RETRY_COUNT_RESET (R188, R256): line `i`, or L+ switch `i − 256`, has been on for 10 s without a trip. -/
def execDlRetryCountReset (i : Fin 320) (s : State) : Res :=
  if i.val < 256 then .next (s.lineSteady i.val)
  else
    let p := i.val - 256
    let s := s.lpSync p
    if s.reg (Key.LP_STATE p) ≠ 2 then .next s
    else .next ((s.until ((s.iol p).lpOnAt + 10000000000)).setIol p { s.iol p with lpTrips := 0 })

/-! ## C/Q as an input or output -/

/-- CQ_INPUT_CROSSING (R244, R259): debounce starts and the Pan is woken. -/
def execCqInputCrossing (p : Fin 64) (level : Bool) (s : State) : Res :=
  let p := p.val
  let x := s.iol p
  if s.iolMode p ≠ 3 ∨ !s.field.powered ∨ x.raw = level then .next s
  else
    let s := s.iolAct p (fun s => s.setIol p { x with level := s.cqLevel p, raw := level, rawAt := s.lmc })
    .next (if s.logicOn then s.panAsk (iolPan p) else s)

/-- CQ_CURRENT_LIMIT (R250): C/Q stays in current limit for 1 ms. -/
def execCqCurrentLimit (p : Fin 64) (s : State) : Res :=
  .next (if s.iolMode p.val = 0 ∨ s.iolMode p.val = 3 then s
    else s.setReg (Key.IOL_STATUS p.val) (setBit (s.reg (Key.IOL_STATUS p.val)) 1 true))

/-- PD_OUT or PD_OUT4 takes a GOOD value, which ends a safe-state command (R248, R249). PD_OUT4 is the first four bytes. -/
def State.pdOut (s : State) (p : Nat) (four : Bool) (v : Nat) : State :=
  let old := s.reg (Key.IOL_PD_OUT p)
  let full : Nat := if four then v % 2 ^ 32 * 256 ^ 28 + old % 256 ^ 28 else v % 256 ^ 32
  let s := (s.setReg (Key.IOL_PD_OUT p) full).setReg (Key.IOL_PD_OUT4 p) (full / 256 ^ 28)
  s.setIol p { s.iol p with safeCmd := false, cmd := full / 256 ^ 31 % 2 == 1 }

end Sys2Proof.Machine
end

