-- ==== Sys2Proof/Machine/Whisks.lean ====
section
/-! DEFINITION. Whisks (chapter 10): their commands and states, the step word's pin actions, data actions and tests, the
stores and their queues, and the PX pins. -/

namespace Sys2Proof.Machine

/-! ## PX pins (R285) -/

/-- The Whisk, of the two of the pin's Pan, that owns PX pin `x` and drives it, with its slot: level, and whether it is
open-drain. Only one may (R265). -/
def State.pxSlot (s : State) (x : Nat) : Option (Nat × Nat) :=
  [2 * (x / 4), 2 * (x / 4) + 1].findSome? (fun w =>
    if (s.whisk w).st = 0 then none
    else ((List.range 8).find? (fun i => s.slotDrives w i 1 (x % 4))).map (fun i => (w, i)))

/-- The safe level of PX pin `x`, none for released. -/
def State.pxSafeLevel (s : State) (x : Nat) : Option Bool :=
  match s.reg (Key.PX_SAFE_STATE x) with
  | 0 => some false
  | 1 => some true
  | 2 => some (s.px x).last
  | _ => none

/-- PX pin `x` is at its safe state. -/
def State.pxAtSafe (s : State) (x : Nat) : Bool :=
  (s.reg (Key.PX_MODE x) == 2 && (s.heldSafe (x / 4) || (s.px x).safeCmd)) ||
    (s.reg (Key.PX_MODE x) == 3 && (decide (s.outMode = .safe) || s.panSafe (x / 4)))

/-- The level that the hub drives at PX pin `x`, none for high impedance (R281, R282, R285). -/
def State.pxOut (s : State) (x : Nat) : Option Bool :=
  match s.reg (Key.PX_MODE x) with
  | 2 => if s.pxAtSafe x then s.pxSafeLevel x else some (s.px x).cmd
  | 3 => match s.pxSlot x with
    | none => none
    | some (w, i) =>
      if s.pxAtSafe x then s.pxSafeLevel x
      else if s.role = .standby || !bitOf (s.whisk w).driven i then none
      else if bitOf (s.reg (Key.WK_SLOT w i)) 7 && bitOf (s.whisk w).levels i then none
      else some (bitOf (s.whisk w).levels i)
  | _ => none

/-- {5C0}+x STATE: the ball level. -/
def State.pxState (s : State) (x : Nat) : Nat :=
  let l : Bool := (s.pxOut x).getD (s.px x).level
  if s.reg (Key.PX_MODE x) = 0 then word20 0xB (b2n l)
  else word20 (if s.pxAtSafe x then 5 else 0) (b2n l)

/-- PX pin `x` takes an image or dictionary word (R195). -/
def State.pxWord (s : State) (x v : Nat) : State :=
  let p := s.px x
  if wQual v = 0 then s.setPx x { p with cmd := wVal v != 0, safeCmd := false }
  else s.setPx x { p with safeCmd := true, last := if s.pxAtSafe x then p.last else p.cmd }

/-! ## The pin window (R263, R264) -/

/-- Kind of slot `i` of Whisk `w`. -/
def State.slotKind (s : State) (w i : Nat) : Nat := fld (s.reg (Key.WK_SLOT w i)) 15 12

/-- Discrete line of slot `i`. -/
def State.slotLine (s : State) (w i : Nat) : Nat := 16 * (w / 2) + fld (s.reg (Key.WK_SLOT w i)) 11 8

/-- The level a slot asks of its discrete line: a released slot, or an open-drain slot driven to 1, leaves it OFF. -/
def State.slotLevel (s : State) (w i : Nat) : Bool :=
  let x := s.whisk w
  bitOf x.driven i && bitOf x.levels i && !bitOf (s.reg (Key.WK_SLOT w i)) 7

/-- Slot `i` has passed a change at LMC `t`; none waits. -/
def WhiskSt.passed (x : WhiskSt) (i t : Nat) : WhiskSt :=
  { x with lineAt := cellSet (fun _ => 0) x.lineAt i t, lineWaits := cellSet (fun _ => none) x.lineWaits i none }

/-- Discrete-line slots pass their changes to the lines, at most one per 20 µs; of several that wait, the newest is kept
(R264). -/
def State.whiskLines (s : State) (w : Nat) : State :=
  (List.range 8).foldl (fun s i =>
    if s.slotKind w i ≠ 2 ∨ !bitOf (s.driveSlots w) i then s
    else
      let x := s.whisk w
      let l := s.slotLevel w i
      let at_ := cellGet (fun _ => 0) x.lineAt i
      if (s.line (s.slotLine w i)).cmd = l then s.setWhisk w { x with lineWaits := cellSet (fun _ => none) x.lineWaits i none }
      else if at_ = 0 ∨ at_ + 20000 ≤ s.lmc then
        (s.setWhisk w (x.passed i s.lmc)).lineDrive (s.slotLine w i) l
      else s.setWhisk w { x with lineWaits := cellSet (fun _ => none) x.lineWaits i (some (b2n l)) }) s

/-- DL_SLOT_CHANGE_RELEASE (R264): a waiting change passes once 20 µs have gone by since the one before. -/
def execDlSlotChangeRelease (w : Fin 32) (slot : Fin 8) (s : State) : Res :=
  let x := s.whisk w.val
  match cellGet (fun _ => none) x.lineWaits slot.val with
  | none => .next s
  | some l =>
    let s := s.until (cellGet (fun _ => 0) x.lineAt slot.val + 20000)
    .next ((s.setWhisk w.val (x.passed slot.val s.lmc)).lineDrive (s.slotLine w.val slot.val) (l == 1))

/-- The level that a sense or sample takes of slot `i` (Table 10.2): unused slots read 0, DE and DI slots the level driven,
the others what the operand `read` says the ball or receiver showed. -/
def State.slotRead (s : State) (w i read : Nat) : Bool :=
  match s.slotKind w i with
  | 0 => false
  | 3 => bitOf (s.whisk w).driven i && bitOf (s.whisk w).levels i
  | 4 => bitOf (s.whisk w).driven i && bitOf (s.whisk w).levels i
  | 1 => bitOf read i
  | 2 => bitOf read i
  | 5 => bitOf read i
  | _ => false

/-! ## The step word (R266 to R271) -/

/-- The step word at step `k`. -/
def State.stepWord (s : State) (w k : Nat) : Nat := s.reg (Key.WK_STEP w k) % 2 ^ 20

/-- OUT_BITS, IN_BITS, OUT_DIR and IN_DIR of SHIFT_CFG; CLK, OUT and IN slots of ROLES. -/
def State.outBits (s : State) (w : Nat) : Nat := fld (s.reg (Key.WK_SHIFT_CFG w)) 29 24

/-- IN_BITS. -/
def State.inBits (s : State) (w : Nat) : Nat := fld (s.reg (Key.WK_SHIFT_CFG w)) 21 16

/-- Slot `i` is driven to level `b`, where it is drive-capable (R263). -/
def State.slotDrive (s : State) (w : Nat) (x : WhiskSt) (i : Nat) (b : Bool) : WhiskSt :=
  if bitOf (s.driveSlots w) i then { x with levels := setBit x.levels i b, driven := setBit x.driven i true } else x

/-- DRIVE_PA and DRIVE_PB: enabled slots are driven to the pattern, the others released. -/
def State.drivePattern (s : State) (w : Nat) (x : WhiskSt) (p : Nat) : WhiskSt :=
  let d := (p / 256) &&& s.driveSlots w
  { x with driven := d, levels := p % 256 }

/-- A shift-out (R268). -/
def State.shiftOut (s : State) (w : Nat) (x : WhiskSt) : WhiskSt :=
  let n := s.outBits w
  let o := fld (s.reg (Key.WK_ROLES w)) 7 4
  if n = 0 then x
  else if n ≤ x.outCount then s.slotDrive w x o (bitOf (s.reg (Key.WK_IDLE_PATTERN w)) o)
  else
    let right := bitOf (s.reg (Key.WK_SHIFT_CFG w)) 1
    let b := if right then bitOf x.txs 0 else bitOf x.txs 31
    let x := s.slotDrive w x o b
    { x with txs := if right then x.txs / 2 else x.txs * 2 % 2 ^ 32, outCount := x.outCount + 1 }

/-- A sample (R268). -/
def State.sampleIn (s : State) (w : Nat) (x : WhiskSt) (b : Bool) : WhiskSt :=
  { x with rxs := if bitOf (s.reg (Key.WK_SHIFT_CFG w)) 0 then x.rxs / 2 + b2n b * 2 ^ 31 else (x.rxs * 2 + b2n b) % 2 ^ 32
           inCount := min (x.inCount + 1) 32 }

/-- The CLK slot is driven. -/
def State.clk (s : State) (w : Nat) (x : WhiskSt) (b : Bool) : WhiskSt :=
  s.slotDrive w x (fld (s.reg (Key.WK_ROLES w)) 11 8) b

/-- A pin action's effect on the engine and its window (Table 10.4); `bit` is the IN slot's read level. -/
def State.pinAction (s : State) (w : Nat) (x : WhiskSt) (code : Nat) (bit : Bool) : WhiskSt :=
  match code with
  | 0x1 => s.drivePattern w x x.pa
  | 0x2 => s.drivePattern w x x.pb
  | 0x3 => s.shiftOut w x
  | 0x4 => s.sampleIn w x bit
  | 0x5 => { x with driven := 0 }
  | 0x6 => s.clk w x (!bitOf x.levels (fld (s.reg (Key.WK_ROLES w)) 11 8))
  | 0x7 => s.clk w (s.drivePattern w x x.pa) true
  | 0x8 => s.clk w (s.drivePattern w x x.pa) false
  | 0x9 => s.clk w (s.shiftOut w x) false
  | 0xA => s.clk w (s.shiftOut w x) true
  | 0xB => s.clk w (s.shiftOut w (s.sampleIn w x bit)) false
  | 0xC => s.clk w (s.shiftOut w (s.sampleIn w x bit)) true
  | _ => x

/-- The data action of a step stalls (Table 10.5). -/
def State.dataStalls (s : State) (w : Nat) (x : WhiskSt) (code : Nat) : Bool :=
  match code with
  | 1 => x.send.isEmpty
  | 2 => decide (8 - s.reg (Key.WK_STORE_SPLIT w) ≤ x.recv.length)
  | 3 => x.send.isEmpty
  | _ => false

/-- A word enters the receive store; every PACKET_ITEMS words close a packet (R274). -/
def State.give (s : State) (w : Nat) (x : WhiskSt) : WhiskSt :=
  let n := x.inCount
  let v : Nat := if n = 0 then 0
    else if bitOf (s.reg (Key.WK_SHIFT_CFG w)) 0 then x.rxs / 2 ^ (32 - n) else x.rxs
  let p := s.reg (Key.WK_PACKET_ITEMS w)
  let closes := p != 0 && x.items + 1 == p
  { x with recv := x.recv ++ [(v, closes)], rxs := 0, inCount := 0, items := if closes then 0 else x.items + 1
           latest := v, given := true }

/-- A data action that does not stall (Table 10.5). -/
def State.dataAction (s : State) (w : Nat) (x : WhiskSt) (code : Nat) : WhiskSt :=
  match code with
  | 1 =>
    let v := x.send.headD 0
    let n := s.outBits w
    { x with txs := if bitOf (s.reg (Key.WK_SHIFT_CFG w)) 1 ∨ 32 ≤ n then v else v * 2 ^ (32 - n) % 2 ^ 32
             send := x.send.drop 1, outCount := 0 }
  | 2 => s.give w x
  | 3 => { x with cta := x.send.headD 0 % 65536, send := x.send.drop 1 }
  | 4 => { x with cta := (x.cta + 65535) % 65536 }
  | 5 => { x with ctb := (x.ctb + 65535) % 65536 }
  | 6 => { x with outCount := 0, inCount := 0 }
  | 7 => { x with pa := x.pb, pb := x.pa }
  | _ => x

/-- TEST (Table 10.6), with SENSE's read level `bit`. -/
def State.testHolds (s : State) (w : Nat) (x : WhiskSt) (code : Nat) (bit : Bool) : Bool :=
  match code with
  | 0 => true
  | 1 => bit
  | 2 => x.cta == 0
  | 3 => x.ctb == 0
  | 4 => (s.outBits w != 0 && decide (s.outBits w ≤ x.outCount)) || (s.inBits w != 0 && decide (s.inBits w ≤ x.inCount))
  | 5 => !x.send.isEmpty
  | 6 => x.partner
  | _ => x.trigger

/-! ## The stores and their queues (R272, R274) -/

/-- The receive and transmit queues of Whisk `w`. -/
def whiskRq (w : Nat) : Nat := 20 + 2 * (w % 2)

/-- Items leave for the receive queue as 64-bit words; a word is written when it is full and more follows, or with END. -/
def State.whiskFill (s : State) (w v : Nat) (last : Bool) : State :=
  let n := w / 2
  let q := whiskRq w
  let x := s.whisk w
  let s := if x.rxPart.length = 2 then
      (s.setWhisk w { x with rxPart := [v] }).qWrite n q ⟨tagByte false 0 1, packWord 4 x.rxPart⟩
    else s.setWhisk w { x with rxPart := x.rxPart ++ [v] }
  let x := s.whisk w
  if last then
    (s.setWhisk w { x with rxPart := [] }).qWrite n q ⟨tagByte true (countM1 4 x.rxPart.length) 1, packWord 4 x.rxPart⟩
  else s

/-- WHISK_PACKET_END (R274): the last item given closes its packet, and the strobe closes RS-485 packets of the Pan. -/
def State.whiskEnd (s : State) (w : Nat) : State :=
  let x := s.whisk w
  let s := if x.items = 0 then s
    else match x.recv.reverse with
      | (v, _) :: r => s.setWhisk w { x with recv := (r.reverse) ++ [(v, true)], items := 0 }
      | [] => (s.setWhisk w { x with rxPart := [], items := 0 }).qWrite (w / 2) (whiskRq w)
          ⟨tagByte true (countM1 4 x.rxPart.length) 1, packWord 4 x.rxPart⟩
  s.rsStrobe w

/-- WHISK_STORE_MOVE (R272): one word moves from the transmit queue to the send store, or from the receive store to the
receive queue. -/
def execWhiskStoreMove (w : Fin 32) (send : Bool) (s : State) : Res :=
  let w := w.val
  let x := s.whisk w
  if x.st = 0 ∨ !s.logicOn then .next s
  else if send then
    if s.reg (Key.WK_STORE_SPLIT w) ≤ x.send.length then .next s
    else match x.txPart with
      | v :: vs => .next (s.setWhisk w { x with send := x.send ++ [v], txPart := vs })
      | [] =>
        let (i, s) := s.qPop (w / 2) (whiskRq w + 1)
        match itemsOf 4 i with
        | v :: vs => if bitOf i.tag 7 then .next (s.setWhisk w { x with send := x.send ++ [v], txPart := vs }) else .next s
        | [] => .next s
  else match x.recv with
    | [] => .next s
    | (v, last) :: r => .next ((s.setWhisk w { x with recv := r }).whiskFill w v last)

/-! ## Steps (R267, R272, R276) -/

/-- The engine runs, so that steps are entered. -/
def State.whiskRuns (s : State) (w : Nat) : Bool :=
  s.logicOn && ((s.whisk w).st == 1 || (s.whisk w).st == 3) && s.panActive (w / 2)

/-- The data action has succeeded: the dwell begins. -/
def State.whiskDwell (s : State) (w code : Nat) : State :=
  let x := s.dataAction w (s.whisk w) code
  let st : Nat := if x.st = 2 then 1 else x.st
  s.whiskTo w { x with st := st, dwelling := true, stallSince := none, reported := false }

/-- WHISK_STALL (R272, R276): the engine stalls; a HALTING one is HALTED at once with this step saved. -/
def State.whiskStall (s : State) (w : Nat) : State :=
  let x := s.whisk w
  (s.whiskTo w { x with st := if x.st = 3 then 4 else 2, stallSince := some s.lmc, reported := false }).bump (Key.WK_STALLS w)

/-- WHISK_STEP_ENTER (R267, R268, R271 to R274): the step that has been chosen is entered at its cycle. -/
def execWhiskStepEnter (w : Fin 32) (read : Fin 256) (s : State) : Res :=
  let w := w.val
  if !s.whiskRuns w ∨ !(s.whisk w).entering then .next s
  else
    let s := s.until (s.whisk w).at_
    let x := s.whisk w
    let word := s.stepWord w x.step
    let code := fld word 15 12
    let inSlot := fld (s.reg (Key.WK_ROLES w)) 3 0
    let x := s.pinAction w { x with entering := false, at_ := s.lmc, senseNext := code == 0xF } code
      (s.slotRead w inSlot read.val)
    let s := ((s.setWhisk w x).bump (Key.WK_STEPS w)).whiskLines w
    let s := if code = 0xD then
        let o : Nat := if w % 2 = 0 then w + 1 else w - 1
        s.setWhisk o { s.whisk o with partner := true }
      else if code = 0xE then s.whiskEnd w
      else s
    let d := fld word 11 9
    .next (if s.dataStalls w (s.whisk w) d then s.whiskStall w else s.whiskDwell w d)

/-- WHISK_STALL_CLEAR (R272): the stalled data action succeeds once its store allows. -/
def execWhiskStallClear (w : Fin 32) (s : State) : Res :=
  let w := w.val
  let x := s.whisk w
  let d := fld (s.stepWord w x.step) 11 9
  if x.st ≠ 2 ∨ !s.logicOn ∨ !s.panActive (w / 2) ∨ s.dataStalls w x d then .next s
  else .next (((s.setWhisk w { x with at_ := s.lmc }).whiskDwell w d).setLive (0x180 + w) false)

/-- WHISK_STALL_LIMIT (R272): time passes to the limit of a stall. -/
def execWhiskStallLimit (w : Fin 32) (s : State) : Res :=
  let w := w.val
  let x := s.whisk w
  let ms := s.reg (Key.WK_STALL_LIMIT_MS w)
  match x.stallSince with
  | none => .next s
  | some t =>
    if x.st ≠ 2 ∨ ms = 0 ∨ x.reported then .next s
    else
      let s := s.until (t + ms * 1000000)
      .next ((s.setWhisk w { x with reported := true }).faultUp (0x180 + w) 0 x.step)

/-- WHISK_DWELL_END (R267, R270, R271, R276): in the last dwell cycle TEST chooses the successor. -/
def execWhiskDwellEnd (w : Fin 32) (read : Fin 256) (s : State) : Res :=
  let w := w.val
  if !s.whiskRuns w ∨ !(s.whisk w).dwelling then .next s
  else
    let x := s.whisk w
    let word := s.stepWord w x.step
    let dwell := fld word 19 16
    let s := s.until (x.at_ + (s.whiskCycles w x.acc dwell).1)
    let inSlot := fld (s.reg (Key.WK_ROLES w)) 3 0
    let slot : Nat := if x.senseNext then (inSlot + 1) % 8 else inSlot
    let test := fld word 8 6
    let holds := s.testHolds w x test (s.slotRead w slot read.val) != bitOf word 5
    let nxt : Nat := if holds then word % 32 else (x.step + 1) % 32
    let cyc := s.whiskCycles w x.acc (dwell + 1)
    let x := { x with step := nxt, dwelling := false, entering := true, at_ := x.at_ + cyc.1, acc := cyc.2
                      partner := x.partner && test != 6, trigger := x.trigger && test != 7 }
    .next (s.whiskTo w (if x.st = 3 then { x with st := 4 } else x))

/-! ## Commands (R265, R273, R275 to R279) -/

/-- The checks of R265 and R273 on START and RESTART. -/
def State.whiskCheck (s : State) (w : Nat) : Option Abort :=
  let n := w / 2
  let slots := List.range 8
  let idx (i : Nat) : Nat := fld (s.reg (Key.WK_SLOT w i)) 11 8
  let badValue := slots.any (fun i => match s.slotKind w i with
    | 1 => s.reg (Key.PX_MODE (4 * n + idx i)) != 3
    | 2 => s.lineMode (16 * n + idx i) == 0 || s.lineMode (16 * n + idx i) == 3
    | 3 => s.flag (Key.RS_ENABLE (3 * n + idx i))
    | 4 => s.flag (Key.RS_ENABLE (3 * n + idx i))
    | _ => false)
  let split := s.reg (Key.WK_STORE_SPLIT w)
  let steps := (List.range 32).map (fun k => s.stepWord w k)
  let badSplit := (split == 8 && steps.any (fun t => fld t 11 9 == 2)) ||
    (split == 0 && steps.any (fun t => fld t 11 9 == 1 || fld t 11 9 == 3 || fld t 8 6 == 5))
  let o : Nat := if w % 2 = 0 then w + 1 else w - 1
  let drive := slots.filter (fun i => bitOf (s.driveSlots w) i)
  let clash := (s.whisk o).st != 0 && drive.any (fun i => slots.any (fun j => s.slotDrives o j (s.slotKind w i) (idx i)))
  let mapped := drive.any (fun i => match s.slotKind w i with
    | 1 => s.subBound (Key.PX_COMMAND (4 * n + idx i))
    | 2 => s.lineMapped (16 * n + idx i)
    | _ => false)
  let timed := drive.any (fun i => match s.slotKind w i with
    | 1 => s.timerTargets (0x2000 + 4 * n + idx i)
    | 2 => s.lineTimed (16 * n + idx i)
    | _ => false)
  if badValue || badSplit then some .valueRange
  else if clash || mapped || timed then some .stateConflict
  else none

/-- START's or RESTART's effect: the engine restarts, is HELD on a STANDBY hub (R281), or is halted by a SAFE in force
(R282). -/
def State.whiskGo (s : State) (w : Nat) : State :=
  let s := s.panAsk (w / 2)
  let s := s.whiskRestart w
  if s.role = .standby ∧ !s.whiskFlag w 1 then s.whiskTo w { s.whisk w with st := 5, driven := 0 }
  else
    let s := s.whiskLines w
    if s.outSafe || s.panSafe (w / 2) then s.whiskSafe w else s

/-- WHISK_START (R275, Table 10.7). -/
def execWhiskStart (wr : Writer) (w : Fin 32) (s : State) : Res :=
  .next (s.write wr (Key.WK_COMMAND w.val) 1
    (fun s => if (s.whisk w.val).st ≠ 0 then some .stateConflict else s.whiskCheck w.val) (fun s => s.whiskGo w.val))

/-- WHISK_HALT (R275, R276). -/
def execWhiskHalt (wr : Writer) (w : Fin 32) (s : State) : Res :=
  let st := (s.whisk w.val).st
  .next (s.write wr (Key.WK_COMMAND w.val) 2
    (fun _ => if st = 0 ∨ st = 5 then some .stateConflict else none)
    (fun s => if st = 1 then s.whiskTo w.val { s.whisk w.val with st := 3 }
      else if st = 2 then (s.whiskTo w.val { s.whisk w.val with st := 4 }).setLive (0x180 + w.val) false else s))

/-- WHISK_RESUME (R275, R278): the saved step is entered afresh. -/
def execWhiskResume (wr : Writer) (w : Fin 32) (s : State) : Res :=
  .next (s.write wr (Key.WK_COMMAND w.val) 3
    (fun s => if (s.whisk w.val).st ≠ 4 then some .stateConflict else none)
    (fun s => (s.panAsk (w.val / 2)).whiskTo w.val { s.whisk w.val with
      st := 1, entering := true, dwelling := false, stallSince := none, at_ := s.lmc + (s.whiskCycles w.val 0 1).1 }))

/-- WHISK_RESTART (R275, R279). -/
def execWhiskRestart (wr : Writer) (w : Fin 32) (s : State) : Res :=
  let st := (s.whisk w.val).st
  .next (s.write wr (Key.WK_COMMAND w.val) 4
    (fun s => if st = 0 ∨ st = 5 then some .stateConflict else s.whiskCheck w.val)
    (fun s => (s.whiskGo w.val).setLive (0x180 + w.val) false))

/-- STOP (R279): slots released, both stores discarded, IDLE. -/
def State.whiskIdle (s : State) (w : Nat) : State :=
  let s := (s.setWhisk w { s.whisk w with driven := 0 }).whiskLines w
  s.whiskTo w { s.whisk w with
    st := 0, send := [], recv := [], rxPart := [], items := 0, entering := false, dwelling := false, stallSince := none
    safeHalt := false, lineWaits := [] }

/-- WHISK_STOP (R275, R279). -/
def execWhiskStop (wr : Writer) (w : Fin 32) (s : State) : Res :=
  .next (s.write wr (Key.WK_COMMAND w.val) 5 noCheck
    (fun s => if (s.whisk w.val).st = 0 then s else (s.whiskIdle w.val).setLive (0x180 + w.val) false))

/-- The hub becomes ACTIVE: a HELD Whisk executes RESTART (R281). -/
def State.whiskActive (s : State) (w : Nat) : State :=
  if (s.whisk w).st = 5 then (s.whiskRestart w).whiskLines w else s

/-- The hub becomes STANDBY: a Whisk without RUN_ON_STANDBY that is not IDLE is HELD, its slots released (R281). -/
def State.whiskStandby (s : State) (w : Nat) : State :=
  if (s.whisk w).st ≠ 0 ∧ !s.whiskFlag w 1 then
    s.whiskTo w { s.whisk w with st := 5, driven := 0, entering := false, dwelling := false }
  else s

/-- FLAGS AUTOSTART: START is issued when the hub enters OPERATE (R282). -/
def State.whisksAutostart (s : State) : State :=
  (List.range 32).foldl (fun s w =>
    if s.whiskFlag w 3 && (s.whisk w).st == 0 && (s.whiskCheck w).isNone then s.whiskGo w else s) s

/-! ## Words (R284) -/

/-- Quality of VALUE_CT, and of RX_LATEST (`rx` true) (Table 10.8). -/
def State.whiskQuality (s : State) (w : Nat) (rx : Bool) : Nat :=
  let x := s.whisk w
  let late : Bool := match x.stallSince with
    | some t => x.st == 2 && s.reg (Key.WK_STALL_LIMIT_MS w) != 0 &&
        decide (t + s.reg (Key.WK_STALL_LIMIT_MS w) * 1000000 < s.lmc)
    | none => false
  if x.st = 0 then 0xB else if x.st = 4 ∨ x.st = 5 ∨ late then 0xD else if rx ∧ !x.given then 0x7 else 0

/-- {5A0}+w VALUE_CT. -/
def State.valueCt (s : State) (w : Nat) : Nat :=
  word20 (s.whiskQuality w false) (((s.whisk w).ctb + 65536 - (s.whisk w).cta) % 65536)

end Sys2Proof.Machine
end

