-- ==== Sys2Proof/Machine/Timers.lean ====
section
/-! DEFINITION. Timer units (R153 to R158) and the capture of PX edges (R159, R285). -/

namespace Sys2Proof.Machine

/-- `n` bytes of a 32-byte arm record from byte `i` (Table 5.4). -/
def armField (r i n : Nat) : Nat := r / 256 ^ (32 - i - n) % 256 ^ n

/-- TARGET kind: 1 discrete line, 2 PX pin, 3 Whisk trigger, 4 event. -/
def armKind (r : Nat) : Nat := fld (armField r 0 2) 15 12

/-- Line, pin or Whisk number. -/
def armNumber (r : Nat) : Nat := armField r 0 2 % 4096

/-- ACTION. -/
def armAction (r : Nat) : Nat := armField r 2 1

/-- START, an FTIME in ns. -/
def armStart (r : Nat) : Int := toSigned 64 (armField r 4 8)

/-- WIDTH in ns. -/
def armWidth (r : Nat) : Nat := armField r 12 4

/-- PERIOD in ns. -/
def armPeriod (r : Nat) : Nat := armField r 16 8

/-- COUNT. -/
def armCount (r : Nat) : Nat := armField r 24 4

/-- The record is periodic. -/
def armPeriodic (r : Nat) : Bool := armField r 3 1 == 1

/-- The record names a line or pin and a PULSE action. -/
def armPulse (r : Nat) : Bool := (armKind r == 1 || armKind r == 2) && decide (armAction r ≤ 1)

/-- The record in force of unit `u`. -/
def State.arm (s : State) (u : Nat) : Nat := s.reg (Key.TIMER_ARM_RECORD u)

/-- A width, period, code or number outside Table 5.4, or a target not in an output mode (R154). -/
def State.armBad (s : State) (r : Nat) : Bool :=
  let k := armKind r
  let n := armNumber r
  let least : Nat := if k = 1 then 20000 else if k = 2 then 10 else 1000
  let target := match k with
    | 1 => decide (n < 256) && s.lineOut n
    | 2 => decide (n < 64) && s.reg (Key.PX_MODE n) == 2
    | 3 => decide (n < 32)
    | 4 => true
    | _ => false
  let period := armPeriod r
  !target || ((k == 1 || k == 2) && decide (4 < armAction r)) || decide (1 < armField r 3 1) ||
    (armPulse r && decide (armWidth r < least)) ||
    (armPeriodic r && (decide (3600000000000 < period) ||
      decide (period < (if armPulse r then armWidth r else 0) + least)))

/-- The target is driven by a map entry, by another armed unit or by a running Whisk, or this unit is ACTIVE (R154). -/
def State.armConflict (s : State) (u r : Nat) : Bool :=
  let k := armKind r
  let n := armNumber r
  let others := (List.range 64).any (fun v => v != u && (s.reg (Key.TIMER_STATE v) == 1 || s.reg (Key.TIMER_STATE v) == 2) &&
    armField (s.arm v) 0 2 == armField r 0 2)
  (k == 1 && (s.lineMapped n || s.whiskOwns (n / 16) 2 (n % 16))) || (k == 2 && s.subBound (Key.PX_COMMAND n)) || (k != 4 && others) ||
    (k == 2 && s.whiskOwns (n / 4) 1 (n % 4)) || s.reg (Key.TIMER_STATE u) == 2

/-- The next instant of unit `u`, 0 for none. -/
def State.setNext (s : State) (u : Nat) (t : Int) : State := s.setReg (Key.TIMER_NEXT_INSTANT u) (ofSigned 64 t)

/-- ARM_RECORD_WRITE (R153, R154, R158). -/
def execArmRecordWrite (w : Writer) (u : Fin 64) (record : Nat) (s : State) : Res :=
  let k := Key.TIMER_ARM_RECORD u.val
  .next (s.write w k record
    (fun s => if armStart record < s.ftime + 50000 then some .timePassed
      else if s.armBad record then some .valueRange
      else if s.armConflict u.val record then some .stateConflict
      else none)
    (fun s => (((s.store k record).setReg (Key.TIMER_STATE u.val) 1).setNext u.val (armStart record)).setTimer u.val {}))

/-- Unit `u` stops: its state becomes `st` and it has no next instant. -/
def State.timerStop (s : State) (u st : Nat) : State :=
  ((s.setReg (Key.TIMER_STATE u) st).setReg (Key.TIMER_NEXT_INSTANT u) 0).setTimer u {}

/-- TIMER_DISARM (R156, R158): at once, or once the pulse in progress has ended. -/
def execTimerDisarm (w : Writer) (u : Fin 64) (v : Nat) (s : State) : Res :=
  let k := Key.TIMER_DISARM u.val
  .next (s.command w k v noCheck (fun s =>
    if s.reg (Key.TIMER_STATE u.val) = 2 then s.setTimer u.val { s.timer u.val with disarming := true }
    else s.timerStop u.val 0))

/-- The Pan of a unit's target, if it has one. -/
def armPan (r : Nat) : Option Nat := match armKind r with
  | 1 => some (armNumber r / 16)
  | 2 => some (armNumber r / 4)
  | 3 => some (armNumber r / 2)
  | _ => none

/-- TIMER_PREWAKE (R155): an armed unit's target Pan is woken for the next instant. -/
def execTimerPrewake (u : Fin 64) (s : State) : Res :=
  let st := s.reg (Key.TIMER_STATE u.val)
  match armPan (s.arm u.val) with
  | some n => .next (if (st = 1 ∨ st = 2) ∧ s.logicOn then
      s.panWindow n (toSigned 64 (s.reg (Key.TIMER_NEXT_INSTANT u.val))) else s)
  | none => .next s

/-- The level commanded now at a line or pin target. -/
def State.armLevel (s : State) (r : Nat) : Bool :=
  if armKind r = 1 then (s.line (armNumber r)).cmd else (s.px (armNumber r)).cmd

/-- A line or pin target is driven to `b`. -/
def State.armDrive (s : State) (r : Nat) (b : Bool) : State :=
  if armKind r = 1 then s.lineDrive (armNumber r) b
  else (s.setPx (armNumber r) { s.px (armNumber r) with cmd := b }).setReg (Key.PX_COMMAND (armNumber r)) (b2n b)

/-- The target is held at its safe state under row 5 of Table 7.5 (R158). -/
def State.armSafe (s : State) (r : Nat) : Bool :=
  if armKind r = 1 then s.lineRow5 (armNumber r)
  else s.heldSafe (armNumber r / 4) || (s.px (armNumber r)).safeCmd

/-- The action of unit `u` at its instant `t` (R155, R158). -/
def State.timerAct (s : State) (u : Nat) (t : Int) : State :=
  let r := s.arm u
  match armKind r with
  | 3 =>
    let w := armNumber r
    s.setWhisk w { s.whisk w with trigger := true }
  | 4 => s.raise (16 + u) (armField r 28 2)
  | _ =>
    if s.armSafe r then s.bump (Key.TIMER_SUPPRESSED u)
    else match armAction r with
      | 0 => (((s.setTimer u { s.timer u with pulseEnd := some (t + (armWidth r : Int)), prior := s.armLevel r }).armDrive r true).setReg
          (Key.TIMER_STATE u) 2)
      | 1 => (((s.setTimer u { s.timer u with pulseEnd := some (t + (armWidth r : Int)), prior := s.armLevel r }).armDrive r false).setReg
          (Key.TIMER_STATE u) 2)
      | 2 => s.armDrive r true
      | 3 => s.armDrive r false
      | _ => s.armDrive r (!s.armLevel r)

/-- After an instant, or after the pulse it started: the unit goes on to its next instant, or is DONE (R156). -/
def State.timerGoOn (s : State) (u : Nat) : State :=
  let r := s.arm u
  let t := s.timer u
  if t.disarming then s.timerStop u 0
  else if !armPeriodic r ∨ (armCount r ≠ 0 ∧ armCount r ≤ t.index) then s.timerStop u 3
  else s.setReg (Key.TIMER_STATE u) 1

/-- TIMER_INSTANT (R155, R156, R148): time passes to the unit's next instant, which fires; one missed by more than 1 µs
fires at once and is late, and the further periods it missed are skipped. -/
def execTimerInstant (u : Fin 64) (s : State) : Res :=
  let u := u.val
  if !s.logicOn ∨ s.reg (Key.TIMER_STATE u) ≠ 1 then .next s
  else
    let r := s.arm u
    let due := toSigned 64 (s.reg (Key.TIMER_NEXT_INSTANT u))
    let s := s.untilFtime due
    let late := decide (due + 1000 < s.ftime)
    let period : Nat := if armPeriodic r then armPeriod r else 0
    let missed : Nat := if period = 0 then 0 else ((s.ftime - due) / (period : Int)).toNat
    let t := s.timer u
    let s := if late then (s.bump (Key.TIMER_LATE u)).occur 0x04C u 0 else s
    let s := if late then s.addCount (Key.TIMER_SKIPPED u) missed else s
    let steps : Nat := if late then missed + 1 else 1
    let s := (s.bump (Key.TIMER_FIRED u)).setTimer u { t with index := t.index + steps }
    let s := s.setNext u (due + ((steps * period : Nat) : Int))
    let s := s.timerAct u (if late then s.ftime else due)
    .next (if (s.timer u).pulseEnd.isSome then s else s.timerGoOn u)

/-- PULSE_END (R155, R156): time passes to the end of the pulse, and the target returns to its prior level. -/
def execPulseEnd (u : Fin 64) (s : State) : Res :=
  let u := u.val
  match (s.timer u).pulseEnd with
  | none => .next s
  | some t =>
    let s := s.untilFtime t
    let prior := (s.timer u).prior
    let s := if s.armSafe (s.arm u) then s.bump (Key.TIMER_SUPPRESSED u) else s.armDrive (s.arm u) prior
    .next ((s.setTimer u { s.timer u with pulseEnd := none }).timerGoOn u)

/-- PX_PIN_EDGE (R159, R285): a level change at a PX pin's ball is counted, and captured where enabled, at 2.5 ns. -/
def execPxPinEdge (x : Fin 64) (rising : Bool) (s : State) : Res :=
  let x := x.val
  let p := s.px x
  if !s.logicOn ∨ p.level = rising then .next s
  else
    let s := s.setPx x { p with level := rising }
    if s.reg (Key.PX_MODE x) = 0 then .next s
    else
      let s := s.bump (Key.PX_EDGES x)
      let en := bitOf (s.reg (if rising then Key.CAP_PX_RISE (x / 4) else Key.CAP_PX_FALL (x / 4))) (x % 4)
      .next (if en then s.capture1 (x / 4) 2 x rising s.ftime else s)

/-- CAPTURE_FLUSH (R159): the Pan's capture queue is emptied. -/
def execCaptureFlush (w : Writer) (n : Fin 16) (v : Nat) (s : State) : Res :=
  .next (s.command w (Key.CAP_FLUSH n.val) v noCheck (fun s => s.setQueue n.val 24 {}))

end Sys2Proof.Machine
end

