-- ==== Sys2Proof/Machine/Power.lean ====
section
/-! DEFINITION. Pan sleep and wake (R450 to R456) and the branch fuses (R461 to R465). -/

namespace Sys2Proof.Machine

/-! ## What holds a Pan (R450 to R452) -/

/-- The Pan that serves object index `i`, if one does (R25). -/
def panOfIndex (i : Nat) : Option Nat :=
  if 0x400 ≤ i ∧ i ≤ 0x4FF then some ((i - 0x400) / 16)
  else if 0x350 ≤ i ∧ i ≤ 0x35F then some (i - 0x350)
  else if 0x500 ≤ i ∧ i ≤ 0x51F then some ((i - 0x500) / 2)
  else if 0x520 ≤ i ∧ i ≤ 0x54F then some ((i - 0x520) / 3)
  else if 0x560 ≤ i ∧ i ≤ 0x59F then some ((i - 0x560) / 4)
  else if 0x5A0 ≤ i ∧ i ≤ 0x5BF then some ((i - 0x5A0) / 2)
  else if 0x5C0 ≤ i ∧ i ≤ 0x5FF then some ((i - 0x5C0) / 4)
  else if 0x600 ≤ i ∧ i ≤ 0x63F then some ((i - 0x600) / 4)
  else if 0x640 ≤ i ∧ i ≤ 0x67F then some ((i - 0x640) / 4)
  else if 0x310 ≤ i ∧ i ≤ 0x34F then some (i % 16)
  else if 0x2E0 ≤ i ∧ i ≤ 0x2EF then some (i - 0x2E0)
  else none

/-- Pan `n` owns a word of the subscribe window (R22). -/
def State.panSubscribes (s : State) (n : Nat) : Bool :=
  (s.mapEntries 0x203).any (fun e => (List.range (entCount e)).any (fun j => panOfIndex (entIndex e + j) == some n))

/-- The sleep limit of Pan `n` (R452). -/
def State.sleepLimit (s : State) (n : Nat) : Nat := max (s.reg (Key.PAN_SLEEP_LIMIT n)) (s.reg (Key.PAN_POLICY_LIMIT n))

/-- A queue of Pan `n` holds an item. -/
def State.queueHolds (s : State) (n q : Nat) : Bool := decide ((s.queue n q).used ≠ 0)

/-- A port of Pan `n` transmits or receives, or an item waits for one of its ports (R450). -/
def State.panWork (s : State) (n : Nat) : Bool :=
  [2 * n, 2 * n + 1].any (fun c => (s.can c).sending.isSome) ||
  [3 * n, 3 * n + 1, 3 * n + 2].any (fun c => (s.rs c).rx.isSome || (s.rs c).tx.isSome) ||
  (List.range 4).any (fun j => (s.iol (4 * n + j)).awaiting || (s.iol (4 * n + j)).isdu.isSome) ||
  (List.range 24).any (fun q => isTransmit q && s.queueHolds n q)

/-- The rules of R450 in force for Pan `n`, in list order from bit 0. -/
def State.panHold450 (s : State) (n : Nat) : Nat :=
  let can := [2 * n, 2 * n + 1].any (fun c => s.flag (Key.CAN_ENABLE c))
  let rs := [3 * n, 3 * n + 1, 3 * n + 2].any (fun c => s.flag (Key.RS_ENABLE c) && decide (1000000 < s.reg (Key.RS_BAUD c)))
  let iol := (List.range 4).any (fun j => (s.iol (4 * n + j)).st == 3 && decide (s.reg (Key.IOL_CYCLE_ACTUAL (4 * n + j)) < 2000))
  let wk := [2 * n, 2 * n + 1].any (fun w =>
    (s.whisk w).st == 1 || (s.whisk w).st == 3 || ((s.whisk w).st != 0 && s.whiskFlag w 0))
  let window := match (s.pan n).window with
    | some t => decide (s.ftime ≤ t)
    | none => false
  b2n can + b2n rs * 2 + b2n iol * 4 + b2n wk * 8 + b2n window * 16 + b2n (s.panWork n) * 32 + b2n (s.sleepLimit n == 2) * 64

/-- A rule of R451 is in force for Pan `n`. -/
def State.panHold451 (s : State) (n : Nat) : Bool :=
  (List.range 25).any (fun q => s.queueHolds n q) ||
  (decide (s.hub.mode = .operate) && s.panSubscribes n) ||
  (List.range 16).any (fun j => let i := 16 * n + j
    s.lineOut i || (s.lineMode i == 3 && s.pubBound (Key.DL_COUNT i)) || s.timerTargets (0x1000 + i)) ||
  (List.range 4).any (fun j => let x := 4 * n + j
    s.reg (Key.PX_MODE x) == 2 || s.timerTargets (0x2000 + x) || s.reg (Key.IOL_MODE x) != 0 || s.flag (Key.BR_ENABLE x)) ||
  [3 * n, 3 * n + 1, 3 * n + 2].any (fun c => s.flag (Key.RS_ENABLE c)) ||
  [2 * n, 2 * n + 1].any (fun w => (s.whisk w).st != 0 || s.timerTargets (0x3000 + w)) ||
  s.sleepLimit n == 1

/-- {C10}+n HOLDS. -/
def State.panHolds (s : State) (n : Nat) : Nat := s.panHold450 n + b2n (s.panHold451 n) * 256

/-- {C10}+n ACTIVE_PERMILLE: ACTIVE time over the last 1 s (R456). -/
def State.activePermille (s : State) (n : Nat) : Nat :=
  let p := s.pan n
  let now := s.lmc
  let t0 := now - 1000000000
  let part (a b : Nat) : Nat := min b now - max a t0
  let sum : Nat := (p.spans.map (fun i => part i.1 i.2)).foldl (· + ·) (if s.panActive n then part p.activeSince now else 0)
  sum * 1000 / (max 1 (now - t0))

/-! ## Sleeping and waking (R453, R454) -/

/-- PAN_DOZE_ENTRY (R453): time passes to the end of the idle time. -/
def execPanDozeEntry (n : Fin 16) (s : State) : Res :=
  let n := n.val
  let p := s.pan n
  if !s.logicOn ∨ !s.panActive n ∨ s.panHold450 n ≠ 0 then .next s
  else
    let s := s.until (p.idleAt + s.reg Key.PWR_DOZE_IDLE_US * 1000)
    let old := p.spans.filter (fun i => decide (s.lmc < i.2 + 1000000000))
    .next ((s.setReg (Key.PAN_STATE n) 1).setPan n { p with
      dozeAt := s.lmc, waking := none, window := none, spans := (p.activeSince, s.lmc) :: old })

/-- PAN_DARK_ENTRY (R453). -/
def execPanDarkEntry (n : Fin 16) (s : State) : Res :=
  let n := n.val
  let p := s.pan n
  if !s.logicOn ∨ s.reg (Key.PAN_STATE n) ≠ 1 ∨ p.waking.isSome ∨ s.panHold450 n ≠ 0 ∨ s.panHold451 n then .next s
  else
    let s := s.until (p.dozeAt + s.reg Key.PWR_DARK_IDLE_MS * 1000000)
    .next ((s.setReg (Key.PAN_STATE n) 2).bump (Key.PAN_DARK_ENTRIES n))

/-- PAN_WAKE (R454): a wake source acts. -/
def execPanWake (n : Fin 16) (s : State) : Res := .next (if s.logicOn then s.panAsk n.val else s)

/-- After a wake from DARK the Pan's input lines have yet to hold a level (Table 7.6). -/
def State.linesFresh (s : State) (n : Nat) : State :=
  (List.range 16).foldl (fun s j =>
    let i := 16 * n + j
    if s.lineMode i = 0 then s else s.setLine i { s.line i with known := false, freshAt := s.lmc }) s

/-- PAN_WAKE_COMPLETE (R454, R456): the Pan is ACTIVE; a perturbation of kind 10 stretches the wake. -/
def execPanWakeComplete (n : Fin 16) (s : State) : Res :=
  let n := n.val
  match (s.pan n).waking with
  | none => .next s
  | some t =>
    if !s.logicOn then .next s
    else
      let s := match s.perturbed 10 n with
        | some i => (s.until (t + (s.pertA i).toNat * 1000)).pertActed i
        | none => s
      let dark := s.reg (Key.PAN_STATE n) == 2
      let s := (s.setReg (Key.PAN_STATE n) 0).bump (Key.PAN_WAKES n)
      let s := s.setPan n { s.pan n with waking := none, idleAt := s.lmc, activeSince := s.lmc }
      let s := if dark then s.linesFresh n else s
      let s := [3 * n, 3 * n + 1, 3 * n + 2].foldl (fun s c =>
        if (s.rs c).replay then s.setRs c { s.rs c with replay := false } else s) s
      .next (s.linesWake n)

/-! ## Branch fuses (R461 to R465, R420) -/

/-- Branch fuse `b`. -/
def State.fuse (s : State) (b : Nat) : FuseSt := cellGet (fun _ => {}) s.fuses b

/-- Branch fuse `b` becomes `f`. -/
def State.setFuse (s : State) (b : Nat) (f : FuseSt) : State := { s with fuses := cellSet (fun _ => {}) s.fuses b f }

/-- Fuse `b` is at its safe state: rows 4 and 5 of Table 7.5. -/
def State.fuseAtSafe (s : State) (b : Nat) : Bool := s.field.safe || s.heldSafe (b / 4) || (s.fuse b).safeCmd

/-- This package may source gate current (R420). -/
def State.fuseMine (s : State) (b : Nat) : Bool := !s.sharedIn (Key.BR_SHARED b) || s.holdsClaim

/-- The gate level asked of fuse `b`, back-off, latch and shed apart (R465). -/
def State.fuseWanted (s : State) (b : Nat) : Bool :=
  if !s.field.powered || !s.field.refreshed then false
  else if s.fuseAtSafe b then s.reg (Key.BR_SAFE_STATE b) == 1
  else if s.field.holding then cellGet (fun _ => 0) s.field.driven (256 + b) == 1
  else (s.fuse b).cmd

/-- {600}+b STATE follows its command, the claim and its trips; a turn-on starts the ramp with the settings then in
force (R463, R465, Table 17.7). -/
def State.fuseSync (s : State) (b : Nat) : State :=
  let f := s.fuse b
  let st := s.reg (Key.BR_STATE b)
  let frozen := s.sharedIn (Key.BR_SHARED b) && s.field.row == 3
  if !s.flag (Key.BR_ENABLE b) || s.portOff 8 b then s.setReg (Key.BR_STATE b) 0
  else if f.hold ≠ 0 then s.setReg (Key.BR_STATE b) f.hold
  else if frozen then s
  else if !s.fuseMine b then s.setReg (Key.BR_STATE b) 7
  else if !s.fuseWanted b then s.setReg (Key.BR_STATE b) 1
  else if st = 2 ∨ st = 3 then s
  else (s.setReg (Key.BR_STATE b) 2).setFuse b { f with
    rampAt := s.lmc, shunt := s.reg (Key.BR_SHUNT_UOHM b), soa := s.reg (Key.BR_SOA_MS b) }

/-- BRANCH_LATCHED_n is LIVE while a fuse of the Pan is latched (R464). -/
def State.fuseLive (s : State) (n : Nat) : State :=
  s.setLive (0x1B0 + n) ((List.range 4).any (fun j => (s.fuse (4 * n + j)).hold == 5))

/-- What every trip and shed does (R462): counted, signalled by source 704 + b, and an occurrence of BRANCH_TRIP_n. -/
def State.fuseReport (s : State) (b kind : Nat) : State :=
  (((s.bump (Key.BR_TRIPS b)).setReg (Key.BR_LAST_TRIP b) kind).raise (704 + b) kind).occur (0x1A0 + b / 4) b kind

/-- Fuse `b` trips with `kind` (R462, R464): off, and a back-off, or the latch beyond RETRIES. -/
def State.fuseTrip (s : State) (b kind : Nat) : State :=
  let f := s.fuse b
  let k := f.trips + 1
  let latch := decide (s.reg (Key.BR_RETRIES b) < k)
  let wait := min (s.reg (Key.BR_BACKOFF_MS b) * 2 ^ (k - 1)) 60000 * 1000000
  let s := s.setFuse b { f with
    trips := k, hold := if latch then 5 else 4, hot := f.hot || kind == 2, retryAt := s.lmc + wait }
  let s := (s.setReg (Key.BR_STATE b) (if latch then 5 else 4)).fuseReport b kind
  if latch then (s.fuseLive (b / 4)).occur (0x1B0 + b / 4) b 0 else s

/-- The policy engine sheds fuse `b` (R462, R464): off with kind SHED until CLEAR. -/
def State.fuseShed (s : State) (b : Nat) : State :=
  let s := s.fuseSync b
  if !s.flag (Key.BR_ENABLE b) ∨ (s.fuse b).hold = 5 ∨ (s.fuse b).hold = 6 then s
  else ((s.setFuse b { s.fuse b with hold := 6 }).setReg (Key.BR_STATE b) 6).fuseReport b 5

/-- The gate of fuse `b` is on or ramping. -/
def State.fuseOn (s : State) (b : Nat) : Bool := s.reg (Key.BR_STATE b) == 2 || s.reg (Key.BR_STATE b) == 3

/-- BRANCH_FAST_TRIP (R462, R420): armed whichever package holds the claim. -/
def execBranchFastTrip (b : Fin 64) (s : State) : Res :=
  let s := s.fuseSync b.val
  .next (if s.fuseOn b.val || s.reg (Key.BR_STATE b.val) == 7 then s.fuseTrip b.val 1 else s)

/-- BRANCH_I2T_TRIP (R462). -/
def execBranchI2tTrip (b : Fin 64) (s : State) : Res :=
  let s := s.fuseSync b.val
  .next (if s.fuseOn b.val then s.fuseTrip b.val 2 else s)

/-- BRANCH_SOA_TRIP (R462): time passes to SOA_MS after the ramp began. -/
def execBranchSoaTrip (b : Fin 64) (s : State) : Res :=
  let s := s.fuseSync b.val
  if s.reg (Key.BR_STATE b.val) ≠ 2 then .next s
  else .next ((s.until ((s.fuse b.val).rampAt + (s.fuse b.val).soa * 1000000)).fuseTrip b.val 3)

/-- BRANCH_GATE_TRIP (R462). -/
def execBranchGateTrip (b : Fin 64) (s : State) : Res :=
  let s := s.fuseSync b.val
  .next (if s.reg (Key.BR_STATE b.val) = 3 then s.fuseTrip b.val 6 else s)

/-- BRANCH_PEER_TRIP (R420, R462). -/
def execBranchPeerTrip (b : Fin 64) (s : State) : Res :=
  let s := s.fuseSync b.val
  .next (if s.fuseOn b.val && s.sharedIn (Key.BR_SHARED b.val) && s.holdsClaim then s.fuseTrip b.val 4 else s)

/-- BRANCH_RAMP_COMPLETE (R463). -/
def execBranchRampComplete (b : Fin 64) (s : State) : Res :=
  let s := s.fuseSync b.val
  .next (if s.reg (Key.BR_STATE b.val) = 2 then
    (s.setReg (Key.BR_STATE b.val) 3).setFuse b.val { s.fuse b.val with onAt := s.lmc } else s)

/-- Fuse `b` leaves its back-off and ramps on again if it is still commanded on. -/
def State.fuseRetry (s : State) (b : Nat) : State :=
  ((s.setFuse b { s.fuse b with hold := 0 }).setReg (Key.BR_STATE b) 1).fuseSync b

/-- BRANCH_BACKOFF_EXPIRY (R464): time passes to the end of the back-off. -/
def execBranchBackoffExpiry (b : Fin 64) (s : State) : Res :=
  let b := b.val
  if (s.fuse b).hold ≠ 4 then .next s
  else
    let s := s.until (s.fuse b).retryAt
    .next (if (s.fuse b).hot then s else s.fuseRetry b)

/-- I2T_HALF_LEVEL_REACHED (R464). -/
def execI2tHalfLevelReached (b : Fin 64) (s : State) : Res :=
  let b := b.val
  let f := s.fuse b
  if !f.hot then .next s
  else
    let s := s.setFuse b { f with hot := false }
    .next (if f.hold = 4 ∧ f.retryAt ≤ s.lmc then s.fuseRetry b else s)

/-- BRANCH_RETRY_RESET (R464): 10 s on without a trip. -/
def execBranchRetryReset (b : Fin 64) (s : State) : Res :=
  let s := s.fuseSync b.val
  if s.reg (Key.BR_STATE b.val) ≠ 3 then .next s
  else .next ((s.until ((s.fuse b.val).onAt + 10000000000)).setFuse b.val { s.fuse b.val with trips := 0 })

/-- BRANCH_CLEAR (R464): a latched or shed fuse is released; otherwise nothing. -/
def execBranchClear (w : Writer) (b : Fin 64) (v : Nat) (s : State) : Res :=
  .next (s.command w (Key.BR_CLEAR b.val) v noCheck (fun s =>
    let f := s.fuse b.val
    if f.hold = 5 ∨ f.hold = 6 then
      (((s.setFuse b.val { f with hold := 0, trips := 0, hot := false }).setReg (Key.BR_STATE b.val) 1).fuseSync b.val).fuseLive
        (b.val / 4)
    else s))

/-- BRANCH_ENABLE_WRITE (R465, R466). -/
def execBranchEnableWrite (w : Writer) (b : Fin 64) (v : Nat) (s : State) : Res :=
  let k := Key.BR_ENABLE b.val
  .next (s.write w k v (fun s => s.budgetCheck k v) (fun s => (s.store k v).fuseSync b.val))

/-- Fuse `b` takes an image or dictionary word (R195, R465). -/
def State.fuseWord (s : State) (b v : Nat) : State :=
  let f := s.fuse b
  (s.setFuse b (if wQual v = 0 then { f with cmd := wVal v != 0, safeCmd := false } else { f with safeCmd := true })).fuseSync b

/-- BRANCH_COMMAND_WRITE (R465, R195). -/
def execBranchCommandWrite (w : Writer) (b : Fin 64) (v : Nat) (s : State) : Res :=
  let k := Key.BR_COMMAND b.val
  .next (s.write w k v (fun s => orElse (commandQuality v) (if s.subBound k then some .stateConflict else none))
    (fun s => (s.store k v).fuseWord b.val v))

/-- {600}+b SETPOINT_MA: 10 mV over the shunt in use (R461). -/
def State.setpoint (s : State) (b : Nat) : Nat :=
  10000000 / (if (s.fuse b).shunt = 0 then s.reg (Key.BR_SHUNT_UOHM b) else (s.fuse b).shunt)

end Sys2Proof.Machine
end

