-- ==== Sys2Proof/Machine/Switch.lean ====
section
/-! DEFINITION. The switch core, Skillet, Stockpot and traffic control (chapter 11): classification, cells and spill, the
scheduler, meters, gate lists, samplers, flushes and the edge ports. Switch ports: 0 to 3 F0 to F3, 4 to 11 E0 to E7,
12 HOST, 13 CP, 14 to 17 Ladle 0 to 3, 18 IMG (Table 11.1). -/

namespace Sys2Proof.Machine

/-- Local traffic is present now (R447): CORE wakes if it slept (R448) and its idle time starts afresh. -/
def State.coreTouch (s : State) : State :=
  let s := if s.coreAwake then s else (s.setReg Key.PWS_CORE_STATE 0).bump Key.PWS_CORE_WAKES
  { s with power := { s.power with coreIdleAt := s.lmc } }

/-! ## Cells (R293, R294) -/

/-- Cells of a frame (R293). -/
def cellsOf (bytes : Nat) : Nat := (bytes + 255) / 256

/-- Cells of a list of copies. -/
def copiesCells (l : List SwCopy) : Nat := (l.map (fun c => cellsOf c.frame.bytes)).foldl (· + ·) 0

/-- Egress queue `q` = 8p + c. -/
def State.swq (s : State) (q : Nat) : SwQ := cellGet (fun _ => {}) s.sw.queues q

/-- Egress queue `q` becomes `x`. -/
def State.setSwq (s : State) (q : Nat) (x : SwQ) : State :=
  { s with sw := { s.sw with queues := cellSet (fun _ => {}) s.sw.queues q x } }

/-- QCFG of queue `q`. -/
def State.qcfg (s : State) (q : Nat) : Nat := s.reg (Key.SWP_QCFG (q / 8) (q % 8))

/-- MIN_CELLS of queue `q`. -/
def State.minCells (s : State) (q : Nat) : Nat := fld (s.qcfg q) 63 48

/-- SPILL_CELLS of queue `q`; 0 while a forced spill runs (Table 16.16, kind 3). -/
def State.spillCells (s : State) (q : Nat) : Nat :=
  if (s.perturbed 3 q).isSome then 0 else fld (s.qcfg q) 47 32

/-- SPILL_PAGES of queue `q`; SPILL_ENABLE is its being other than 0 (R295). -/
def State.spillPages (s : State) (q : Nat) : Nat := fld (s.qcfg q) 31 0

/-- Cells that a page takes while it stands in the Skillet (R297). -/
def pageCells (l : List SwCopy) : Nat := if l.isEmpty then 0 else 16

/-- The queue's cells in the Skillet (R295, R297). -/
def SwQ.cells (x : SwQ) : Nat := copiesCells x.frames + pageCells x.asm + pageCells x.back

/-- Cells of queue `q` taken from the shared pool: those above its reserve, and every page in the Skillet (R295, R297). -/
def State.sharedOf (s : State) (q : Nat) : Nat :=
  let x := s.swq q
  (copiesCells x.frames - s.minCells q) + pageCells x.asm + pageCells x.back

/-- The 152 queues. -/
def allQueues : List Nat := List.range 152

/-- Sum of MIN_CELLS (R294). -/
def State.reservedCells (s : State) : Nat := (allQueues.map s.minCells).foldl (· + ·) 0

/-- Free cells in the shared pool (R293). -/
def State.sharedFree (s : State) : Nat :=
  32768 - s.reservedCells - (s.sw.queues.map (fun c => s.sharedOf c.1)).foldl (· + ·) 0

/-- Cells in use in the Skillet. -/
def State.cellsUsed (s : State) : Nat := (s.sw.queues.map (fun c => c.2.cells)).foldl (· + ·) 0

/-- A queue is spilling until its last spill page and its assembly page are empty (R297). -/
def SwQ.spilling (x : SwQ) : Bool := !(x.asm.isEmpty && x.back.isEmpty && x.pages.isEmpty)

/-- Spill pages that hold frames. -/
def State.pagesUsed (s : State) : Nat := (s.sw.queues.map (fun c => c.2.pages.length)).foldl (· + ·) 0

/-- Free pages of the spill region of SPILL_MIB (R299); an open assembly page has its page set aside (DEDUCED, log 22). -/
def State.pagesFree (s : State) : Nat :=
  s.reg Key.SW_SPILL_MIB * 256 - s.pagesUsed - (s.sw.queues.filter (fun c => !c.2.asm.isEmpty)).length

/-- {700.06} keeps the most cells in use. -/
def State.highwater (s : State) : State :=
  s.setReg Key.SW_SKILLET_HIGHWATER (max (s.reg Key.SW_SKILLET_HIGHWATER) s.cellsUsed)

/-! ## Ports (R302) -/

/-- Switch port `p` is up, apart from a flush in progress (R302); PORT_OFF also stops it (Table 16.2). -/
def State.swUp (s : State) (p : Nat) : Bool :=
  (if p ≤ 3 then s.up p
   else if p ≤ 11 then s.flag (Key.EDGE_LINK (p - 4))
   else if p = 12 then s.reg Key.HOST_LINK != 0 && s.sw.busMaster
   else true) && !s.portOff 1 p

/-- {710}+p STATE: 0 down, 1 up, 2 flushing. -/
def State.swState (s : State) (p : Nat) : Nat :=
  if s.sw.flushing.contains p then 2 else b2n (s.swUp p)

/-! ## Samplers (R313) -/

/-- The bytes of a Thrumfabin frame on the wire, before padding, tag and FCS (Tables 2.5 to 2.7). -/
def State.frameData (s : State) (f : Frame) : List Byte :=
  beBytes 6 0x035446000001 ++ beBytes 4 0x02544600 ++ beBytes 2 f.source ++ beBytes 2 (s.reg Key.LINK_ETHERTYPE) ++
    beBytes 1 (f.version * 16 + f.kind) ++
    beBytes 1 (b2n f.bothWays * 128 + b2n f.tagged * 64 + f.prio % 8 * 8 + b2n f.lastSeg * 4 + f.rsvd % 4) ++
    beBytes 2 f.source ++ beBytes 2 f.dest ++ beBytes 2 f.seq ++ beBytes 1 f.hops ++ beBytes 1 f.epoch ++
    beBytes 2 f.payload.length ++ beBytes 8 (ofSigned 64 f.corr) ++ beBytes 4 f.turn ++ f.payload

/-- The bytes of a frame in the switch core. -/
def State.swData (s : State) (f : SwFrame) : List Byte := match f.fabric with
  | some fr => s.frameData fr
  | none => f.data

/-- The record of Table 11.4 for copy `c` at switch port `port`. -/
def State.sampleRecord (s : State) (i : Nat) (c : SwCopy) (port drop : Nat) : List Byte :=
  let stored := min (s.reg (Key.SMP_TRUNC i)) c.frame.bytes
  let d := (s.swData c.frame).take stored
  beBytes 8 (ofSigned 64 c.at_) ++ beBytes 1 i ++ beBytes 1 port ++ beBytes 1 (c.cls * 32 + c.colour * 8) ++ beBytes 1 drop ++
    beBytes 2 c.frame.bytes ++ beBytes 2 stored ++ beBytes 4 (s.count (Key.SMP_SEEN i)) ++ beBytes 1 c.gen ++
    beBytes 1 c.meter ++ List.replicate 10 0 ++ d ++ List.replicate (stored - d.length) 0

/-- Sampler `i` counts a selected frame and takes every Nth (R313). -/
def State.sampleOne (s : State) (i : Nat) (c : SwCopy) (port drop : Nat) : State :=
  let s := s.bump (Key.SMP_SEEN i)
  let n := (cellGet (fun _ => 0) s.sw.sampled i + 1) % s.reg (Key.SMP_N i)
  let s := { s with sw := { s.sw with sampled := cellSet (fun _ => 0) s.sw.sampled i n } }
  if n ≠ 0 then s
  else if 52428 ≤ s.sw.samples.length then s.bump (Key.SMP_LOST i)
  else { s with sw := { s.sw with
      samples := s.sw.samples ++ [(s.reg (Key.SMP_DEST i), s.sampleRecord i c port drop)] } }.bump (Key.SMP_SAMPLED i)

/-- Sampler `i` selects copies of class `cls` at the point of kind `kind` (1 ingress port, 2 egress port, 3 meter) and
number `num`, dropped or admitted. -/
def State.samplerTakes (s : State) (i kind num cls : Nat) (dropped : Bool) : Bool :=
  let src := s.reg (Key.SMP_SOURCE i)
  s.flag (Key.SMP_ENABLE i) && fld src 31 28 == kind && (if kind = 3 then fld src 15 8 else fld src 24 20) == num &&
    bitOf (fld src 7 0) cls && (s.reg (Key.SMP_WHICH i) == 2 || (s.reg (Key.SMP_WHICH i) == 1) == dropped)

/-- The samplers see copy `c` at such a point; `port` is the switch port of the point (SAMPLE_TAKE). -/
def State.sample (s : State) (kind num port drop : Nat) (c : SwCopy) : State :=
  (List.range 8).foldl (fun s i =>
    if s.samplerTakes i kind num c.cls (drop != 0) then s.sampleOne i c port drop else s) s

/-! ## Drops -/

/-- The counter of a drop reason (Table 11.4, Table 11.6). -/
def dropCounter (reason : Nat) : Nat :=
  if reason = 1 then Key.SWC_DROP_PORT_DOWN else if reason = 2 then Key.SWC_DROP_NO_CELLS
  else if reason = 3 then Key.SWC_DROP_QUEUE_LIMIT else if reason = 4 then Key.SWC_DROP_SPILL_FULL
  else if reason = 5 then Key.SWC_DROP_RED else if reason = 6 then Key.SWC_DROP_NO_ROUTE
  else if reason = 7 then Key.SWC_DROP_GATE else if reason = 8 then Key.SWC_DROP_ECC
  else Key.SWC_FLUSHED_FRAMES

/-- A dropped copy for port `p` is counted for its port and seen by the samplers at the point where it is dropped. -/
def State.dropSeen (s : State) (p reason : Nat) (c : SwCopy) : State :=
  let s := s.bump (Key.SWP_DROPS p)
  let s := s.sample 1 c.ingress c.ingress reason c
  let s := s.sample 2 p p reason c
  if c.colour = 3 then s else s.sample 3 c.meter p reason c

/-- A copy for port `p` is dropped with a reason of Table 11.4; SWITCH_SPILL_FULL fires on the first such drop of a queue
after it has been free of them for 1 s. -/
def State.swDrop (s : State) (p reason : Nat) (c : SwCopy) : State :=
  let s := (s.bump (dropCounter reason)).dropSeen p reason c
  if reason = 4 then
    let q := 8 * p + c.cls
    let first : Bool := match (s.swq q).fullAt with
      | none => true
      | some t => decide (t + 1000000000 ≤ s.lmc)
    let s := s.setSwq q { s.swq q with fullAt := some s.lmc }
    if first then s.occur 0x052 p c.cls else s
  else s

/-! ## Admission (R295, R297, R298) -/

/-- The assembly page is written to the Stockpot. -/
def State.writePage (s : State) (q : Nat) : State :=
  let x := s.swq q
  if x.asm.isEmpty then s
  else (s.setSwq q { x with asm := [], pages := x.pages ++ [x.asm] }).bump Key.SWC_SPILL_PAGES_WRITTEN

/-- "spill (q) or drop": the copy goes to the assembly page, a full one being written first; the reason when it cannot
(R297, R298). -/
def State.spillCopy (s : State) (q : Nat) (c : SwCopy) : Nat × State :=
  let x := s.swq q
  let n := cellsOf c.frame.bytes
  if !x.asm.isEmpty ∧ copiesCells x.asm + n ≤ 16 then (0, s.setSwq q { x with asm := x.asm ++ [c], total := x.total + 1 })
  else
    let s := s.writePage q
    let x := s.swq q
    if s.spillPages q ≤ x.pages.length ∨ s.pagesFree = 0 then (4, s)
    else if s.sharedFree < 16 then (2, s)
    else (0, s.setSwq q { x with asm := [c], asmAt := s.lmc, total := x.total + 1 })

/-- The procedure of R295 for one copy and egress port `p`: 0 and the state with the copy admitted, or the reason. -/
def State.tryAdmit (s : State) (p : Nat) (c : SwCopy) : Nat × State :=
  let q := 8 * p + c.cls
  let x := s.swq q
  let n := cellsOf c.frame.bytes
  if !s.swUp p || s.sw.flushing.contains p then (1, s)
  else if x.spilling then s.spillCopy q c
  else if x.cells + n ≤ s.minCells q then (0, s.setSwq q { x with frames := x.frames ++ [c], total := x.total + 1 })
  else if x.cells + n ≤ s.spillCells q ∧ n ≤ s.sharedFree then (0, s.setSwq q { x with frames := x.frames ++ [c], total := x.total + 1 })
  else if s.spillPages q ≠ 0 then s.spillCopy q c
  else if s.spillCells q < x.cells + n then (3, s)
  else (2, s)

/-- An admitted copy is counted and seen by the samplers of its ingress port and meter. -/
def State.admitted (s : State) (c : SwCopy) (p : Nat) : State :=
  let s := (s.bump Key.SWC_COPIES_ADMITTED).highwater
  let s := s.sample 1 c.ingress c.ingress 0 c
  if c.colour = 3 then s else s.sample 3 c.meter p 0 c

/-- COPY_ADMISSION (R295): the copy for port `p` is admitted, spilled or dropped. -/
def State.swAdmit (s : State) (p : Nat) (c : SwCopy) : State :=
  let (r, s) := s.tryAdmit p c
  if r = 0 then s.admitted c p else s.swDrop p r c

/-- Every copy of an internal port's frame can be admitted now, a port that is down aside (R296). -/
def State.canAdmit (s : State) (dst : List Nat) (c : SwCopy) : Bool :=
  (dst.foldl (fun a p => let (r, t) := a.2.tryAdmit p c
                        (a.1 && decide (r ≤ 1), t)) (true, s)).1

/-- A frame of an internal port waits in its source while an earlier one of that port waits or a copy cannot be admitted
(R296). -/
def State.offer (s : State) (o : SwOffer) : State :=
  if s.sw.offers.any (fun x => x.port == o.port) || !s.canAdmit o.dst o.copy then
    { s with sw := { s.sw with offers := s.sw.offers ++ [o] } }
  else o.dst.foldl (fun s p => s.swAdmit p o.copy) s

/-- Cells have come free: waiting frames of internal ports are offered again, in order. -/
def State.retryOffers (s : State) : State :=
  let os := s.sw.offers
  os.foldl State.offer { s with sw := { s.sw with offers := [] } }

/-! ## Meters (R303 to R307) -/

/-- Meter record `m` as configured (Table 11.3). -/
def State.meterCfg (s : State) (m : Nat) : Nat := s.reg (Key.METERS_METER (m / 32) (m % 32))

/-- Meter record `m` in force: while a METER_RATE rule acts on it, the record the policy engine wrote (R437). -/
def State.meterRec (s : State) (m : Nat) : Nat := (cellGet (fun _ => none) s.sw.ruled m).getD (s.meterCfg m)

/-- CIR and PIR in kbit/s, CBS and PBS in bytes. -/
def mtrCir (r : Nat) : Nat := octAt 20 r 0 4
def mtrCbs (r : Nat) : Nat := octAt 20 r 4 4
def mtrPir (r : Nat) : Nat := octAt 20 r 8 4
def mtrPbs (r : Nat) : Nat := octAt 20 r 12 4
/-- MODE: 0 unused, 1 policer, 2 shaper. -/
def mtrMode (r : Nat) : Nat := octAt 20 r 16 1
/-- YELLOW_ACTION: FLAGS bits 6 and 5. -/
def mtrYellow (r : Nat) : Nat := fld (octAt 20 r 17 1) 6 5

/-- The checks of R303 and the ranges of Table 11.3. -/
def meterBad (r : Nat) : Bool :=
  decide (mtrCbs r < 1536) || decide (mtrPbs r < 1536) || decide (16777216 < mtrCbs r) || decide (16777216 < mtrPbs r) ||
    decide (mtrPir r < mtrCir r) || decide (25000000 < mtrPir r) || decide (2 < mtrMode r) || mtrYellow r == 3 ||
    decide (7 < octAt 20 r 18 1) || decide (32 < octAt 20 r 19 1)

/-- Meter `m`'s buckets. -/
def State.meter (s : State) (m : Nat) : MeterSt := cellGet (fun _ => {}) s.sw.meters m

/-- Meter `m`'s buckets become `x`. -/
def State.setMeter (s : State) (m : Nat) (x : MeterSt) : State :=
  { s with sw := { s.sw with meters := cellSet (fun _ => {}) s.sw.meters m x } }

/-- The buckets filled for the whole µs of LMC since the last update (R304). -/
def State.meterNow (s : State) (m : Nat) : MeterSt :=
  let x := s.meter m
  let r := s.meterRec m
  let d := (s.lmc - x.at_) / 1000
  { x with tc := min (8000 * mtrCbs r) (x.tc + mtrCir r * d), tp := min (8000 * mtrPbs r) (x.tp + mtrPir r * d),
           at_ := x.at_ + d * 1000 }

/-- Cost of a frame in millibits (R304). -/
def meterCost (r bytes : Nat) : Nat := 8000 * (bytes + octAt 20 r 19 1)

/-- The counts of a colour rise by one frame of `bytes` bytes. -/
def MeterSt.counted (x : MeterSt) (colour bytes : Nat) : MeterSt :=
  { x with counts := modNth (· + bytes) (modNth (· + 1) x.counts (2 * colour)) (2 * colour + 1) }

/-- POLICER_COLOUR (R305): the colour of a frame of `bytes` bytes, and the buckets after it. -/
def State.police (s : State) (m bytes : Nat) : Nat × State :=
  let x := s.meterNow m
  let b := meterCost (s.meterRec m) bytes
  if x.tp < b then (2, s.setMeter m (x.counted 2 bytes))
  else if x.tc < b then (1, s.setMeter m ({ x with tp := x.tp - b }.counted 1 bytes))
  else (0, s.setMeter m ({ x with tp := x.tp - b, tc := x.tc - b }.counted 0 bytes))

/-- A written meter record sets both buckets to full or to zero (R307). -/
def State.meterReload (s : State) (m : Nat) : State :=
  let r := s.meterRec m
  let full := bitOf (octAt 20 r 17 1) 7
  s.setMeter m { s.meter m with tc := if full then 8000 * mtrCbs r else 0, tp := if full then 8000 * mtrPbs r else 0,
                                at_ := s.lmc }

/-- METER_WRITE (R303, R307): a dictionary write of a meter record. -/
def execMeterWrite (w : Writer) (m : Fin 256) (v : Nat) (s : State) : Res :=
  let k := Key.METERS_METER (m / 32) (m % 32)
  .next (if s.fwOn then s.write w k v (fun _ => if meterBad v then some .valueRange else none)
    (fun s =>
      let s := s.unstay 1 m.val
      let s := if (s.policyActs 1 m.val).isNone then
          { s with sw := { s.sw with ruled := cellSet (fun _ => none) s.sw.ruled m.val none } } else s
      (if (cellGet (fun _ => none) s.sw.ruled m.val).isSome then s.store k v
        else (s.store k v).meterReload m).logRecord k (beBytes 20 v)) else s)

/-! ## Gate lists (R308 to R312) -/

/-- The entries of a list as (states, length) within one cycle (R308): the last entry lasts until the cycle ends, and the
list is cut there. -/
def gateSegs : List Nat → Nat → List (Nat × Nat)
  | [], _ => []
  | [e], r => [(fld e 39 32, r)]
  | e :: e' :: es, r =>
    if r ≤ fld e 31 0 then [(fld e 39 32, r)]
    else (fld e 39 32, fld e 31 0) :: gateSegs (e' :: es) (r - fld e 31 0)

/-- The entries from offset `off` of the cycle on. -/
def segDrop : List (Nat × Nat) → Nat → List (Nat × Nat)
  | [], _ => []
  | (g, l) :: r, off => if off < l then (g, l - off) :: r else segDrop r (off - l)

/-- Class `c` stays open for `d` ns along the rest `cur` of the cycle and the cycles `all` after it. -/
def openFor (all : List (Nat × Nat)) (c : Nat) : Nat → List (Nat × Nat) → Nat → Bool
  | 0, _, _ => true
  | n + 1, [], d => d == 0 || openFor all c n all d
  | n + 1, (g, l) :: r, d => d == 0 || (bitOf g c && openFor all c n r (d - l))

/-- A list with base time and cycle keeps class `c` open in [t, t + d) (R308, R310). -/
def listOpen (es : List Nat) (base : Int) (cycle c : Nat) (t : Int) (d : Nat) : Bool :=
  let segs := gateSegs es cycle
  openFor segs c (d / 100 + 2 * (d / 1000) + 8) (segDrop segs ((t - base) % (cycle : Int)).toNat) d

/-- The longest open window of class `c` in a list, none when the class never closes (R310). -/
def longestOpen (es : List Nat) (cycle c : Nat) : Option Nat :=
  let segs := gateSegs es cycle
  let r := (segs ++ segs).foldl (fun (a : Nat × Nat) g =>
    if bitOf g.1 c then (a.1 + g.2, max a.2 (a.1 + g.2)) else (0, a.2)) (0, 0)
  if 2 * cycle ≤ r.2 then none else some r.2

/-- The pending list of gate `g`. -/
def State.gatePending (s : State) (g : Nat) : Option GatePending := cellGet (fun _ => none) s.sw.gates g

/-- The running list of gate `g`, if one runs: entries, base, cycle. -/
def State.gateRunning (s : State) (g : Nat) : Option GatePending :=
  if s.reg (Key.GATE_OPER_LENGTH g) = 0 then none
  else some ⟨(List.range (s.reg (Key.GATE_OPER_LENGTH g))).map (fun i => s.reg (Key.GOPER_ENTRY g i)),
    toSigned 64 (s.reg (Key.GATE_OPER_BASE g)), s.reg (Key.GATE_OPER_CYCLE g)⟩

/-- The list in force at FTIME `t` (R311, R312): a pending list whose base time has come, else the running one. -/
def State.gateList (s : State) (g : Nat) (t : Int) : Option GatePending :=
  match s.gatePending g with
  | some p => if p.base ≤ t then some p else s.gateRunning g
  | none => s.gateRunning g

/-- Class `c` of gate `g` stays open in [t, t + d), across a pending list's take-over (R310). -/
def State.gateFits (s : State) (g c : Nat) (t : Int) (d : Nat) : Bool :=
  let under (l : Option GatePending) (t : Int) (d : Nat) : Bool := match l with
    | none => true
    | some l => listOpen l.entries l.base l.cycle c t d
  if !s.flag (Key.GATE_ENABLE g) then true
  else match s.gatePending g with
    | none => under (s.gateRunning g) t d
    | some p =>
      if p.base ≤ t ∨ t + d ≤ p.base then under (s.gateList g t) t d
      else under (s.gateRunning g) t (p.base - t).toNat && under (some p) p.base (t + d - p.base).toNat

/-- Bits per µs of switch port `p` (0 to 11) at its current rate. -/
def State.swRate (s : State) (p : Nat) : Nat :=
  if p ≤ 3 then (if s.reg (Key.PORT_RATE p) = 2 then 10000 else 25000)
  else if s.reg (Key.EDGE_RATE (p - 4)) = 1 then 10 else if s.reg (Key.EDGE_RATE (p - 4)) = 2 then 100 else 1000

/-- Time in ns to send a frame of `bytes` bytes, with 20 bytes of preamble, SFD and gap, rounded up (R310). -/
def State.swSpan (s : State) (p bytes : Nat) : Nat := ((bytes + 20) * 8000 + s.swRate p - 1) / s.swRate p

/-- The frame can never start: longer than the longest open window of its class in the list in force (R310). -/
def State.gateTooLong (s : State) (p : Nat) (c : SwCopy) : Bool :=
  if 12 ≤ p ∨ !s.flag (Key.GATE_ENABLE p) then false
  else match s.gateList p s.ftime with
    | none => false
    | some l => match longestOpen l.entries l.cycle c.cls with
      | none => false
      | some w => decide (w < s.swSpan p c.frame.bytes)

/-- {740}+g STATE: 0 all open, 1 running, 2 running with a list pending. -/
def State.gateState (s : State) (g : Nat) : Nat :=
  if !s.flag (Key.GATE_ENABLE g) then 0
  else if (s.gatePending g).isSome then 2
  else if (s.gateRunning g).isSome then 1 else 0

/-- The admin list of gate `g`. -/
def State.gateAdmin (s : State) (g : Nat) : List Nat :=
  (List.range (s.reg (Key.GATE_ADMIN_LENGTH g))).map (fun i => s.reg (Key.GADM_ENTRY g i))

/-- The checks of COMMIT for base time `base` (R308, R309, R311). -/
def gateCommitCheck (g : Nat) (s : State) : Option Abort :=
  let es := s.gateAdmin g
  if toSigned 64 (s.reg (Key.GATE_ADMIN_BASE g)) < s.ftime + 100000 then some .timePassed
  else if s.reg (Key.GATE_ADMIN_CYCLE g) < 1000 ∨ 1000000000 < s.reg (Key.GATE_ADMIN_CYCLE g) ∨
      es.any (fun e => decide (fld e 31 0 < 100) || decide (1000000000 < fld e 31 0)) ∨
      (g = 2 ∧ es.any (fun e => !bitOf (fld e 39 32) 7)) then some .valueRange
  else none

/-- The admin list becomes the pending list with base time `base`, replacing one still pending. -/
def State.gateCommit (s : State) (g : Nat) (base : Int) : State :=
  let p : GatePending := ⟨s.gateAdmin g, base, s.reg (Key.GATE_ADMIN_CYCLE g)⟩
  ({ s with sw := { s.sw with gates := cellSet (fun _ => none) s.sw.gates g (some p) } }.setReg
    (Key.GATE_PENDING_AT g) (ofSigned 64 base)).bump (Key.GATE_COMMITS g)

/-- GATE_COMMIT (R311). -/
def execGateCommit (w : Writer) (g : Fin 12) (v : Nat) (s : State) : Res :=
  .next (if s.fwOn then s.command w (Key.GATE_COMMIT g) v (gateCommitCheck g)
    (fun s => s.gateCommit g (toSigned 64 (s.reg (Key.GATE_ADMIN_BASE g)))) else s)

/-- On first entering OPERATE with TIME_STATE LOCKED or MASTER, every enabled port commits its saved admin list with the
first base time of its grid at least 100 µs ahead (R312). -/
def State.gatesAutocommit (s : State) : State :=
  if s.sw.gatesDone || !(s.reg Key.TSTAT_TIME_STATE == 2 || s.reg Key.TSTAT_TIME_STATE == 4) then s
  else (List.range 12).foldl (fun s g =>
    if s.flag (Key.GATE_ENABLE g) then
      let base := toSigned 64 (s.reg (Key.GATE_ADMIN_BASE g))
      let cyc : Int := s.reg (Key.GATE_ADMIN_CYCLE g)
      let due := s.ftime + 100000
      s.gateCommit g (if due ≤ base then base else base + (due - base + cyc - 1) / cyc * cyc)
    else s) { s with sw := { s.sw with gatesDone := true } }

/-- The pending list takes over (R311): the running list's objects take its contents. -/
def State.gateTakeover (s : State) (g : Nat) (p : GatePending) : State :=
  let s := { s with sw := { s.sw with gates := cellSet (fun _ => none) s.sw.gates g none } }
  let s := ((((s.setReg (Key.GATE_PENDING_AT g) 0).setReg (Key.GATE_OPER_BASE g) (ofSigned 64 p.base)).setReg
    (Key.GATE_OPER_CYCLE g) p.cycle).setReg (Key.GATE_OPER_LENGTH g) p.entries.length)
  (List.range 128).foldl (fun s i => s.setReg (Key.GOPER_ENTRY g i) (p.entries.getD i 0)) s

/-- GATE_LIST_TAKEOVER (R311): at its base time. -/
def execGateListTakeover (g : Fin 12) (s : State) : Res :=
  .next (if !s.logicOn then s else match s.gatePending g with
    | none => s
    | some p => (s.untilFtime p.base).gateTakeover g p)

/-- GATE_ENTRY_CHANGE (R308): time passes to the running list's next entry; the entry in force is a function of FTIME. -/
def execGateEntryChange (g : Fin 12) (s : State) : Res :=
  .next (if !s.logicOn then s else match s.gateRunning g with
    | none => s
    | some l =>
      let off := ((s.ftime - l.base) % (l.cycle : Int)).toNat
      match segDrop (gateSegs l.entries l.cycle) off with
      | [] => s
      | (_, left) :: _ => s.untilFtime (s.ftime + left))

/-! ## Classification (R290, Table 11.2) -/

/-- The tunnel that the tunnel table names for edge port `e` (R319): enabled, with an Ethernet endpoint of that number. -/
def State.edgeTunnel (s : State) (e : Nat) : Option Nat :=
  (List.range 1024).find? (fun t =>
    let c := s.reg (Key.TUNS_CFG (t / 64) (t % 64))
    bitOf (octAt 24 c 10 1) 7 && octAt 24 c 4 4 / 2 ^ 16 == 5 * 4096 + e)

/-- The Pan of a port that a route names: kind 1 CAN, two channels a Pan; kind 2 RS-485, three (R335). -/
def routePan (kind ch : Nat) : Nat := if kind = 1 then ch / 2 else ch / 3

/-- The hub's own receiver of a fabric frame: CP, HOST or a Ladle; an EVENT frame goes to the client it names (DEDUCED,
log 23: HOST when CLIENT is HOST_CLIENT). Frames without one have no egress. -/
def State.ownPort (s : State) (f : Frame) : List Nat :=
  if f.kind = 3 ∨ f.kind = 7 then [13]
  else if f.kind = 5 then (if beAt f.payload 1 1 / 16 = s.reg Key.ACCESS_HOST_CLIENT then [12] else [13])
  else if f.kind = 4 then [14 + beAt f.payload 2 2 / 256 % 4]
  else if f.kind = 8 then [14 + routePan (beAt f.payload 1 1) (beAt f.payload 2 2) % 4]
  else if f.kind = 10 ∧ 0x10 ≤ beAt f.payload 0 1 then [13]
  else []

/-- A classified frame is metered once and its copies are admitted or dropped, each on its own (R290, R295, R305). A
frame with no egress is dropped (DROP_NO_ROUTE); a DEMOTE_PORT rule limits the class (Table 16.7). -/
def State.classified (s : State) (p : Nat) (f : SwFrame) (at_ : Int) (dst : List Nat) (cls : Nat) : Option SwCopy × State :=
  let cls := match s.policyActs 2 p with
    | some v => min cls v
    | none => cls
  let c : SwCopy := { frame := f, ingress := p, cls := cls, gen := s.reg Key.GENERATION, at_ := at_ }
  if dst.isEmpty then (none, (s.bump Key.SWC_DROP_NO_ROUTE).sample 1 p p 6 c)
  else
    let m := s.reg (Key.SWP_POLICER p cls)
    if m = 0xFFFF ∨ mtrMode (s.meterRec m) ≠ 1 then (some c, s)
    else
      let (colour, s) := s.police m f.bytes
      let c := { c with colour := colour, meter := m }
      let y := mtrYellow (s.meterRec m)
      if colour = 2 then (none, dst.foldl (fun s e => s.dropSeen e 5 c) (s.bump Key.SWC_DROP_RED))
      else if colour = 1 ∧ y = 2 then (none, dst.foldl (fun s e => s.dropSeen e 5 c) s)
      else if colour = 1 ∧ y = 1 then
        (some { c with cls := octAt 20 (s.meterRec m) 18 1 }, s.bump Key.SWC_YELLOW_DEMOTED)
      else (some c, s)

/-- A frame received whole at switch port `p`. -/
def State.swReceived (s : State) (p : Nat) : State := (s.bump Key.SWC_FRAMES_IN).bump (Key.SWP_RX_FRAMES p)

/-- Network ingress: each copy is admitted or dropped at once (R296). -/
def State.swNetwork (s : State) (p : Nat) (f : SwFrame) (at_ : Int) (dst : List Nat) (cls : Nat) : State :=
  match (s.swReceived p).classified p f at_ dst cls with
  | (none, s) => s
  | (some c, s) => dst.foldl (fun s e => s.swAdmit e c) s

/-- A frame that the Copper path handed over: its own receiver, and the ports that a coupler carries it to
(COUPLER_CARRY, R88: from the ring to F3; from F3 both ways with HOPS 256 minus the hubs of the ring). -/
def State.swRing (s : State) (a : SwArrival) : State :=
  let f := if a.carried && a.port == 3 then { a.frame with hops := 256 - s.reg Key.DISC_HUB_COUNT } else a.frame
  let dst := (if a.carried then (if a.port = 3 then [1, 0] else [3]) else []) ++ (if a.own then s.ownPort a.frame else [])
  s.swNetwork a.port { bytes := a.bytes, fabric := some f } a.at_ dst f.prio

/-- EDGE_FRAME_CHECK and the edge rows of Table 11.2 (R315). -/
def State.swEdge (s : State) (e : Nat) (f : SwFrame) (symbols : Nat) : State :=
  let s := s.addCount (Key.EDGE_SYMBOL_ERRORS e) symbols
  let role := s.reg (Key.SWP_INGRESS_ROLE (4 + e))
  if !s.flag (Key.EDGE_LINK e) then s
  else if !f.good then s.bump (Key.EDGE_RX_FCS_ERR e)
  else
    let s := (s.bump (Key.EDGE_RX_FRAMES e)).addCount (Key.EDGE_RX_BYTES e) f.bytes
    if f.bytes < 64 ∨ 1522 < f.bytes then s.bump (Key.EDGE_RX_OVERSIZE e)
    else if f.etherType = 0x8808 then s.bump (Key.EDGE_CONTROL_FRAMES e)
    else if f.ptp ∧ (bitOf (s.reg Key.PTP_PORT_MASK) e ∨ role = 0) then s
    else if role = 1 ∧ f.etherType = s.reg Key.LINK_ETHERTYPE then
      s.swNetwork (4 + e) f s.ftime [13] (match f.fabric with
        | some fr => fr.prio
        | none => 0)
    else if role = 2 then
      let cls := match f.pcp with
        | some c => c % 8
        | none => s.reg (Key.SWP_DEFAULT_CLASS (4 + e))
      s.swNetwork (4 + e) f s.ftime (match s.edgeTunnel e with
        | some t => [14 + t / 256]
        | none => []) cls
    else s.swNetwork (4 + e) f s.ftime [] 0

/-- A fabric frame that an internal port originates both ways takes the hub's header fields and number (R48, R49, R52). -/
def State.swNumber (s : State) (f : Frame) : Frame × State :=
  ({ f with version := s.reg Key.LINK_RING_VERSION, source := s.station, bothWays := true, hops := 0, seq := s.seqNext,
            turn := s.turn, epoch := s.epoch },
   { s with seqNext := (s.seqNext + 1) % 65536, origTimes := s.origRecent ++ [s.lmc] })

/-- A frame of an internal port, with the egress set and class its originator names (Table 11.2, R296). A frame for the
ring that R46 or R52 holds back never reaches the switch core. -/
def State.swOwn (s : State) (p : Nat) (f : SwFrame) (dst : List Nat) (cls : Nat) : State :=
  let ring := decide (0 ∈ dst) || decide (1 ∈ dst)
  if ring && (!s.mayOriginate || !s.origHeld.isEmpty || decide (4096 ≤ s.origRecent.length)) then
    (match f.fabric with
     | some fr => s.originate fr
     | none => s)
  else
    let (f, s) := match f.fabric with
      | some fr => if ring then (let (fr, s) := s.swNumber fr
                                 ({ f with fabric := some fr }, s)) else (f, s)
      | none => (f, s)
    match (s.swReceived p).classified p f s.ftime dst cls with
    | (none, s) => s
    | (some c, s) => s.offer ⟨p, c, dst⟩

/-- SWITCH_FRAME_INGRESS (R290): a frame received whole is classified once. -/
def execSwitchFrameIngress (i : SwIngress) (s : State) : Res :=
  .next (if !s.logicOn then s else match i with
  | .ring f =>
    (match s.sw.arrivals.find? (fun a => a.port == f.val) with
     | none => s
     | some a =>
       if !s.coreAwake then s
       else ({ s with sw := { s.sw with arrivals := s.sw.arrivals.erase a }
                      landing := s.landing - a.bytes }.coreTouch).swRing a)
  | .edge e f n => s.coreTouch.swEdge e f n
  | .own p f dst cls => if 12 ≤ p.val ∧ cls ≤ 7 ∧ dst.all (fun x => decide (x < 19)) then s.coreTouch.swOwn p f dst cls else s)

/-! ## Spill pages (R297) -/

/-- An access to the Stockpot takes the latency of perturbation 7 longer (Table 16.16). -/
def State.stockpot (s : State) : State := match s.perturbed 7 0 with
  | none => s
  | some i => (s.pertActed i).until (s.lmc + (s.pertA i).toNat)

/-- SPILL_PAGE_TIMEOUT (R297): 10 µs after its first frame an assembly page is written. -/
def execSpillPageTimeout (p : Fin 19) (c : Fin 8) (s : State) : Res :=
  let q := 8 * p.val + c.val
  .next (if !s.logicOn || (s.swq q).asm.isEmpty then s
    else (((s.until ((s.swq q).asmAt + 10000)).stockpot).writePage q).retryOffers)

/-- SPILL_PAGE_READBACK (R297, R300): the oldest page comes back into 16 shared cells once the Skillet frames are gone; an
uncorrectable Stockpot word loses all its frames. -/
def execSpillPageReadback (p : Fin 19) (c : Fin 8) (fixed : Nat) (bad : Bool) (s : State) : Res :=
  let q := 8 * p.val + c.val
  let x := s.swq q
  .next (match x.pages with
    | [] => s
    | page :: rest =>
      if !s.logicOn || !x.frames.isEmpty || !x.back.isEmpty || s.sharedFree < 16 then s
      else
        let s := (s.stockpot.bump Key.SWC_SPILL_PAGES_READ).addCount Key.SWC_STOCKPOT_ECC_CORRECTED fixed
        if bad then
          (page.foldl (fun s c => s.swDrop p 8 c) (s.setSwq q { x with pages := rest })).occur 0x051 p c
        else (s.setSwq q { x with pages := rest, back := page }).highwater)

/-! ## The scheduler (R291) -/

/-- The frame that a queue would send next, where one stands in the Skillet: its Skillet frames, then the page read back,
then the assembly page (R297). -/
def SwQ.head (x : SwQ) : Option SwCopy :=
  match x.frames, x.back, x.pages with
  | c :: _, _, _ => some c
  | [], c :: _, _ => some c
  | [], [], [] => x.asm.head?
  | [], [], _ :: _ => none

/-- The queue without that frame. -/
def SwQ.pop (x : SwQ) : SwQ :=
  match x.frames, x.back, x.pages with
  | _ :: r, _, _ => { x with frames := r }
  | [], _ :: r, _ => { x with back := r }
  | [], [], [] => { x with asm := x.asm.tail }
  | [], [], _ :: _ => x

/-- The shaper of queue `q`, if one is bound (R306). -/
def State.shaper (s : State) (q : Nat) : Option Nat :=
  let m := s.reg (Key.SWP_SHAPER (q / 8) (q % 8))
  if m = 0xFFFF ∨ mtrMode (s.meterRec m) ≠ 2 then none else some m

/-- The shaper lets a frame start: both buckets hold its cost (R306). -/
def State.shaperOk (s : State) (q bytes : Nat) : Bool := match s.shaper q with
  | none => true
  | some m => let x := s.meterNow m
    let b := meterCost (s.meterRec m) bytes
    decide (b ≤ x.tc) && decide (b ≤ x.tp)

/-- The head frame of queue `q` may start now: gate, shaper and back-pressure allow it (R291, R306, R310). -/
def State.swEligible (s : State) (q : Nat) : Bool := match (s.swq q).head with
  | none => false
  | some c => !s.pertHeld (0x8000 + q) && s.shaperOk q c.frame.bytes &&
      (decide (12 ≤ q / 8) || s.gateFits (q / 8) (q % 8) s.ftime (s.swSpan (q / 8) c.frame.bytes))

/-- GATE_TOO_LONG_DROP (R310): heads that can never start are dropped; `n` bounds how many. -/
def State.dropTooLong (s : State) (q : Nat) : Nat → State
  | 0 => s
  | n + 1 => match (s.swq q).head with
    | none => s
    | some c =>
      if s.gateTooLong (q / 8) c then
        (((s.setSwq q (s.swq q).pop).bump (Key.GATE_TOO_LONG (q / 8))).swDrop (q / 8) 7 c).dropTooLong q n
      else s

/-- A frame that starts under a shaper takes its cost from both buckets and counts green (R306). -/
def State.shaped (s : State) (q : Nat) (c : SwCopy) : SwCopy × State := match s.shaper q with
  | none => (c, s)
  | some m => let x := s.meterNow m
    let b := meterCost (s.meterRec m) c.frame.bytes
    ({ c with colour := 0, meter := m },
     s.setMeter m ({ x with tc := x.tc - b, tp := x.tp - b }.counted 0 c.frame.bytes))

/-- A frame leaves at switch port `p`: onto the Copper path's egress, an edge wire, or to an internal receiver. -/
def State.swLeave (s : State) (p : Nat) (c : SwCopy) : State :=
  let s := (s.bump (Key.SWP_TX_FRAMES p)).addCount (Key.SWP_TX_BYTES p) c.frame.bytes
  if p ≤ 3 then (match c.frame.fabric with
    | some f => if p = 2 then s.sendTie f else s.sendCopy p f
    | none => s)
  else
    let s := { s with sw := { s.sw with out := s.sw.out ++ [(p, c)] } }
    if p ≤ 11 then
      (({ s with sw := { s.sw with busy := cellSet (fun _ => 0) s.sw.busy p (s.lmc + s.swSpan p c.frame.bytes) } }).bump
        (Key.EDGE_TX_FRAMES (p - 4))).addCount (Key.EDGE_TX_BYTES (p - 4)) c.frame.bytes
    else s

/-- The class served next at port `p`: the highest whose head may start (R291). -/
def State.swPick (s : State) (p : Nat) : Option Nat := [7, 6, 5, 4, 3, 2, 1, 0].find? (fun c => s.swEligible (8 * p + c))

/-- EGRESS_FRAME_START (R291, R300, R306, R310): the scheduler starts the next frame, once the one on the wire is done. A
frame with an uncorrectable word is dropped instead (SKILLET_ECC_DROP). -/
def execEgressFrameStart (p : Fin 19) (fixed : Nat) (bad : Bool) (s : State) : Res :=
  .next (if !s.logicOn || !s.coreAwake || !s.swUp p then s
    else
      let s := s.until (cellGet (fun _ => 0) s.sw.busy p)
      let s := [7, 6, 5, 4, 3, 2, 1, 0].foldl (fun s c =>
        s.dropTooLong (8 * p.val + c) ((s.swq (8 * p.val + c)).frames.length + (s.swq (8 * p.val + c)).back.length +
          (s.swq (8 * p.val + c)).asm.length)) s
      match s.swPick p with
      | none => s
      | some c =>
        let q := 8 * p.val + c
        match (s.swq q).head with
        | none => s
        | some f =>
          let s := ((s.setSwq q (s.swq q).pop).addCount Key.SWC_SKILLET_ECC_CORRECTED fixed).coreTouch
          if bad then ((s.swDrop p 8 f).occur 0x050 p c).retryOffers
          else
            let (f, s) := s.shaped q f
            let s := s.sample 2 p p 0 f
            let s := if (s.shaper q).isSome then s.sample 3 f.meter p 0 f else s
            (s.swLeave p f).retryOffers)

/-! ## Flush (R302) -/

/-- PORT_DOWN_FLUSH (R302): a port that is down admits nothing, and its flush starts. -/
def execPortDownFlush (p : Fin 19) (s : State) : Res :=
  .next (if !s.logicOn || s.swUp p || s.sw.flushing.contains p.val then s
    else ({ s with sw := { s.sw with flushing := p.val :: s.sw.flushing } }).bump (Key.SWP_FLUSHES p))

/-- One discarded frame of port `p`. -/
def State.flushOne (s : State) (p : Nat) (c : SwCopy) : State :=
  let s := (s.swDrop p 9 c).addCount Key.SWC_FLUSHED_BYTES c.frame.bytes
  if p ≤ 3 then s.bump (Key.COUNT_TX_DOWN_DROP p) else s

/-- PORT_FLUSH_COMPLETE (R302): every frame in every queue of the port has been discarded. -/
def execPortFlushComplete (p : Fin 19) (s : State) : Res :=
  .next (if !s.logicOn || !s.sw.flushing.contains p.val then s
    else
      let s := (List.range 8).foldl (fun s c =>
        let q := 8 * p.val + c
        let x := s.swq q
        (x.frames ++ x.back ++ x.pages.flatten ++ x.asm).foldl (fun s f => s.flushOne p f)
          (s.setSwq q { x with frames := [], back := [], pages := [], asm := [] })) s
      ({ s with sw := { s.sw with flushing := s.sw.flushing.filter (· != p.val) } }).retryOffers)

/-! ## Sampler enable and counter clears -/

/-- SAMPLER_ENABLE_WRITE (R313): counting starts afresh. -/
def execSamplerEnableWrite (w : Writer) (i : Fin 8) (v : Nat) (s : State) : Res :=
  .next (if s.fwOn then s.write w (Key.SMP_ENABLE i) v noCheck (fun s =>
    let s := if s.reg (Key.SMP_ENABLE i) = 0
      then { s with sw := { s.sw with sampled := cellSet (fun _ => 0) s.sw.sampled i 0 } } else s
    s.store (Key.SMP_ENABLE i) v) else s)

/-- Counters of indices `lo` to `hi` return to zero. -/
def State.clearRange (s : State) (lo hi : Nat) : State :=
  { s with cnt := s.cnt.filter (fun c => !(decide (lo ≤ c.1 / 256) && decide (c.1 / 256 ≤ hi))) }

/-- The counts of the tunnels return to zero. -/
def State.clearTunnelCounts (s : State) : State :=
  s.sw.tunnels.foldl (fun s c => s.setTun c.1 { s.tun c.1 with counts := [0, 0, 0, 0, 0, 0, 0] }) s

/-- Bit 0 of COUNTER_CLEAR: {701}, the mark of {700.06}, and the counters of the tunnels, Ladles, bridges and {7F8}. -/
def State.clearTotals (s : State) : State :=
  (((((s.clearRange 0x701 0x701).clearRange 0x770 0x773).clearRange 0x7E1 0x7E1).clearRange 0x7F8 0x7F8).clearTunnelCounts).setReg
    Key.SW_SKILLET_HIGHWATER s.cellsUsed

/-- Bit 1: every {710}+p counter and the edge-port counters (R317). -/
def State.clearPorts (s : State) : State := (s.clearRange 0x710 0x722).clearRange 0x680 0x687

/-- Bit 2: the meters' counts. -/
def State.clearMeters (s : State) : State :=
  s.sw.meters.foldl (fun s c => s.setMeter c.1 { s.meter c.1 with counts := [0, 0, 0, 0, 0, 0] }) s

/-- Bit 3: the samplers' counts. -/
def State.clearSamplers (s : State) : State := s.clearRange 0x738 0x73F

/-- Bit 4: the gates' counts. -/
def State.clearGates (s : State) : State := s.clearRange 0x740 0x74B

/-- A write of `v` to COUNTER_CLEAR clears what its bits select, each clear with its Crucible entry (R314). -/
def State.switchClear (s : State) (w : Writer) (v : Nat) : State :=
  s.write w Key.SW_COUNTER_CLEAR v noCheck (fun s =>
    let one (s : State) (i : Nat) (f : State → State) : State :=
      if bitOf v i then (f s).logRecord Key.SW_COUNTER_CLEAR (beBytes 1 (2 ^ i)) else s
    one (one (one (one (one s 0 State.clearTotals) 1 State.clearPorts) 2 State.clearMeters) 3 State.clearSamplers) 4
      State.clearGates)

/-- SWITCH_CLEAR_TOTALS (R314). -/
def execSwitchClearTotals (w : Writer) (s : State) : Res := .next (if s.fwOn then s.switchClear w 1 else s)

/-- SWITCH_CLEAR_PORTS (R314). -/
def execSwitchClearPorts (w : Writer) (s : State) : Res := .next (if s.fwOn then s.switchClear w 2 else s)

/-- SWITCH_CLEAR_METERS (R314). -/
def execSwitchClearMeters (w : Writer) (s : State) : Res := .next (if s.fwOn then s.switchClear w 4 else s)

/-- SWITCH_CLEAR_SAMPLERS (R314). -/
def execSwitchClearSamplers (w : Writer) (s : State) : Res := .next (if s.fwOn then s.switchClear w 8 else s)

/-- SWITCH_CLEAR_GATES (R314). -/
def execSwitchClearGates (w : Writer) (s : State) : Res := .next (if s.fwOn then s.switchClear w 16 else s)

/-! ## Edge ports and the host link (R302, R315, R316) -/

/-- STATUS bits of an edge port: 0 PHY_SILENT, 1 SYNC_LOST, 2 HALF_DUPLEX. -/
def State.setEdgeStatus (s : State) (e i : Nat) (b : Bool) : State :=
  s.setReg (Key.EDGE_STATUS e) (setBit (s.reg (Key.EDGE_STATUS e)) i b)

/-- LINK, RATE and HALF_DUPLEX of edge port `e` follow ENABLE, SPEED, the PHY and SGMII synchronisation; a change of link
raises source 672 + e (R315, R316). -/
def State.edgeSync (s : State) (e : Nat) : State :=
  let ph := cellGet (fun _ => (false, false, 0)) s.sw.phy e
  let auto := s.reg (Key.EDGE_SPEED e) == 0
  let half := ph.1 && ph.2.1 && auto
  let s := s.setEdgeStatus e 2 half
  let linked := s.flag (Key.EDGE_ENABLE e) && ph.1 && !half && !bitOf (s.reg (Key.EDGE_STATUS e)) 1
  let was := s.flag (Key.EDGE_LINK e)
  let s := s.setReg (Key.EDGE_RATE e) (if linked then (if auto then ph.2.2 else s.reg (Key.EDGE_SPEED e)) else 0)
  if linked = was then s
  else
    let s := s.setReg (Key.EDGE_LINK e) (b2n linked)
    (if was then s.bump (Key.EDGE_LINK_DOWNS e) else s).raise (672 + e) (b2n linked)

/-- EDGE_LINK_CHANGE (R316): the PHY's in-band control word. -/
def execEdgeLinkChange (e : Fin 8) (linked half : Bool) (rate : Fin 4) (s : State) : Res :=
  .next (if !s.logicOn then s
    else ({ s with sw := { s.sw with phy := cellSet (fun _ => (false, false, 0)) s.sw.phy e (linked, half, rate.val) } }).edgeSync e)

/-- EDGE_SYNC_LOSS (R316). -/
def execEdgeSyncLoss (e : Fin 8) (s : State) : Res := .next (if s.logicOn then (s.setEdgeStatus e 1 true).edgeSync e else s)

/-- SGMII_SYNC_REGAINED (R316). -/
def execSgmiiSyncRegained (e : Fin 8) (s : State) : Res :=
  .next (if s.logicOn then (s.setEdgeStatus e 1 false).edgeSync e else s)

/-- MDIO_READ (R316): the selected register as the PHY gives it; a PHY that does not drive the turnaround bit sets
PHY_SILENT and reads 0xFFFF. -/
def execMdioRead (w : Writer) (e : Fin 8) (phy : Option Nat) (s : State) : Res :=
  .next (if !s.fwOn then s else match phy with
    | some v => (s.setEdgeStatus e 0 false).answer w.path (Key.EDGE_MDIO_DATA e) none (beBytes 2 v)
    | none => (s.setEdgeStatus e 0 true).answer w.path (Key.EDGE_MDIO_DATA e) none (beBytes 2 0xFFFF))

/-- MDIO_WRITE (R316). -/
def execMdioWrite (w : Writer) (e : Fin 8) (v : Nat) (s : State) : Res :=
  .next (if !s.fwOn then s else s.write w (Key.EDGE_MDIO_DATA e) v noCheck (fun s =>
    { s with sw := { s.sw with mdio := s.sw.mdio ++ [(s.reg (Key.EDGE_PHY_ADDR e), s.reg (Key.EDGE_MDIO_REG e), v % 65536)] } }))

/-- PCIE_LINK_UP (R302): LINK takes the trained speed and width, and HOST can come up with Bus Master Enable set. -/
def execPcieLinkUp (speed width : Nat) (busMaster : Bool) (s : State) : Res :=
  .next (if !s.logicOn then s
    else ({ s with sw := { s.sw with busMaster := busMaster } }.setReg Key.HOST_LINK
      (width % 256 * 256 + max 1 (min speed 3))).settle)

end Sys2Proof.Machine
end

