-- ==== Sys2Proof/Machine/Tunnels.lean ====
section
/-! DEFINITION. Tunnels, legacy routes and table generations (R318 to R340). -/

namespace Sys2Proof.Machine

/-! ## Endpoints (R318 to R320) -/

/-- TUNNEL_CFG of tunnel `t` (Table 12.5). -/
def State.tunCfg (s : State) (t : Nat) : Nat := s.reg (Key.TUNS_CFG (t / 64) (t % 64))

/-- ENABLE of a TUNNEL_CFG. -/
def tunEnabled (c : Nat) : Bool := bitOf (octAt 24 c 10 1) 7

/-- The endpoint's KIND, NUMBER and OPTION (Table 12.1). -/
def endKind (c : Nat) : Nat := fld (octAt 24 c 4 4) 31 28
def endNum (c : Nat) : Nat := fld (octAt 24 c 4 4) 27 16
def endOption (c : Nat) : Nat := fld (octAt 24 c 4 4) 15 8

/-- Tunnel `t` works: enabled, not suspended, and not stopped by PORT_OFF. -/
def State.tunOn (s : State) (t : Nat) : Bool :=
  tunEnabled (s.tunCfg t) && (s.tun t).st != 5 && (s.tun t).st != 0 && !s.portOff 2 t

/-- The Ladle of tunnel `t` (R318). -/
def ladleOf (t : Nat) : Nat := t / 256

/-- The Pan and the queue numbers that an endpoint takes packets from, in turn, and the one it gives them to (R319). -/
def endQueues (kind num option : Nat) : Nat × List Nat × Nat :=
  if kind = 1 then (canPan num, (if bitOf option 0 then [canQ num] else []) ++ (if bitOf option 1 then [canQ num + 1] else []),
    canQ num + 2)
  else if kind = 2 then (rsPan num, [rsQ num], rsQ num + 1)
  else if kind = 3 ∨ kind = 4 then (iolPan num, [iolQ num], iolQ num + 1)
  else (num / 2, [whiskRq num], whiskRq num + 1)

/-- The endpoint is well formed (Table 12.1). -/
def endOk (c : Nat) : Bool :=
  let k := endKind c
  let n := endNum c
  (if k = 1 then decide (n < 32) && decide (endOption c < 4) else endOption c == 0) &&
    (k == 1 || (k == 2 && decide (n < 48)) || ((k == 3 || k == 4) && decide (n < 64)) || (k == 5 && decide (n < 8)) ||
      (k == 6 && decide (n < 32)) || ((k == 7 || k == 8) && n == 0))

/-- The fields of a TUNNEL_CFG lie in the ranges of Table 12.5. -/
def tunRange (c : Nat) : Bool :=
  let f := octAt 24 c
  decide (f 2 2 ≤ 1023) && decide (1 ≤ f 8 1) && decide (f 8 1 ≤ 2) && decide (1 ≤ f 9 1) && decide (f 9 1 ≤ 2) &&
    decide (f 11 1 ≤ 7) && (f 12 4 == 0 || (decide (100 ≤ f 12 4) && decide (f 12 4 ≤ 1000000))) &&
    decide (8 ≤ f 16 2) && decide (f 16 2 ≤ 4096) && decide (8 ≤ f 18 2) && decide (f 18 2 ≤ 4096) &&
    (f 20 4 == 0 || (decide (10 ≤ f 20 4) && decide (f 20 4 ≤ 1000000)))

/-- A route entry in use names port `ch` of kind `kind` as SOURCE (R335). -/
def State.routeBound (s : State) (kind ch : Nat) : Bool :=
  s.regs.any (fun c => decide (0x7B0 ≤ c.1 / 256) && decide (c.1 / 256 ≤ 0x7CF) && octAt 20 c.2 0 2 == kind * 4096 + ch)

/-- Enabled tunnels with their configurations. -/
def State.tunnelsOn (s : State) : List (Nat × Nat) :=
  (s.regs.filter (fun c => decide (0x780 ≤ c.1 / 256) && decide (c.1 / 256 ≤ 0x78F) && tunEnabled c.2)).map
    (fun c => (64 * (c.1 / 256 - 0x780) + c.1 % 256 - 1, c.2))

/-- Units reserved by the enabled tunnels of Ladle `l`, tunnel `t` left out (R327). -/
def State.reservedUnits (s : State) (l t : Nat) : Nat :=
  ((s.tunnelsOn.filter (fun e => ladleOf e.1 == l && e.1 != t)).map
    (fun e => octAt 24 e.2 16 2 + octAt 24 e.2 18 2)).foldl (· + ·) 0

/-! ## Table generations (R338, R339) -/

/-- Generations of the frames inside the hub: Ladle reserves, Skillet, spill pages and egress queues (R339). -/
def State.insideGens (s : State) : List Nat :=
  (s.sw.queues.flatMap (fun c => (c.2.frames ++ c.2.back ++ c.2.pages.flatten ++ c.2.asm).map (fun f => f.gen))) ++
    (s.sw.offers.map (fun o => o.copy.gen)) ++
    (s.sw.tunnels.flatMap (fun c => (c.2.tx ++ c.2.ready ++ c.2.rx).map (fun f => f.gen)))

/-- How many generations ago `g` was current. -/
def State.genAge (s : State) (g : Nat) : Nat := (s.reg Key.GENERATION + 256 - g % 256) % 256

/-- {7F0.02} OLDEST_INSIDE; the current generation when no frame is inside. -/
def State.oldestInside (s : State) : Nat :=
  (s.reg Key.GENERATION + 256 - (s.insideGens.map s.genAge).foldl max 0) % 256

/-- A table write is refused with BUSY when it needs a seventeenth retained content, or when its generation still has
frames inside (R339). -/
def State.tableBusy (s : State) : Bool :=
  (!s.insideGens.isEmpty && decide (16 ≤ s.sw.retained.length)) ||
    s.insideGens.contains ((s.reg Key.GENERATION + 1) % 256)

/-- An accepted table write: the previous contents are retained while frames are inside, and GENERATION advances. -/
def State.tableWritten (s : State) (k v : Nat) : State :=
  let s := if s.insideGens.isEmpty then s
    else { s with sw := { s.sw with retained := s.sw.retained ++ [⟨k, s.reg k, s.reg Key.GENERATION⟩] } }
  (s.store k v).setReg Key.GENERATION ((s.reg Key.GENERATION + 1) % 256)

/-- GENERATION_RETIRE (R339): contents of which no frame of an older generation, or of their own, remains inside are
released. -/
def execGenerationRetire (s : State) : Res :=
  .next (if !s.logicOn then s else { s with sw := { s.sw with
    retained := s.sw.retained.filter (fun r => s.insideGens.any (fun g => decide (s.genAge r.gen ≤ s.genAge g))) } })

/-! ## TUNNEL frames (R321 to R326) -/

/-- The tunnel header (Table 12.2). -/
def tunHeader (sub kind dest src tseq tver seg credit : Nat) : List Byte :=
  beBytes 1 sub ++ beBytes 1 kind ++ beBytes 2 dest ++ beBytes 2 src ++ beBytes 2 tseq ++ beBytes 1 tver ++ beBytes 1 seg ++
    beBytes 2 (credit % 65536)

/-- Tunnel `t` sends a frame of subtype `sub` to its remote end; only the ACTIVE or SOLO hub does (R321, R333). -/
def State.tunSend (s : State) (t sub tseq seg : Nat) (last : Bool) (body : List Byte) : State :=
  if s.role = .standby then s
  else
    let c := s.tunCfg t
    let x := s.tun t
    let s := s.setTun t { x with
      sentAt := s.lmc
      reported := if sub = 4 ∨ sub = 7 then x.freed else x.reported
      freedAt := if sub = 4 ∨ sub = 7 then none else x.freedAt
      counts := modNth (· + 1) x.counts 0 }
    s.originate {
      kind := 4, prio := octAt 24 c 11 1, lastSeg := last, dest := octAt 24 c 0 2
      payload := tunHeader sub (endKind c) (octAt 24 c 2 2) t tseq (if sub = 1 then 0 else x.tver) seg x.freed ++ body }

/-- OPEN (R324); its TSEQ is the last one sent. -/
def State.sendOpen (s : State) (t : Nat) (resync : Bool) : State :=
  let c := s.tunCfg t
  let x := s.tun t
  (s.setTun t { x with openAt := some s.lmc, resync := resync }).tunSend t 1 ((x.txSeq + 65535) % 65536) 0 true
    (beBytes 1 (octAt 24 c 8 1) ++ beBytes 1 (octAt 24 c 9 1) ++ beBytes 4 (octAt 24 c 4 4) ++ beBytes 2 (octAt 24 c 16 2) ++
      beBytes 1 (b2n resync * 128))

/-- The tunnel that a TUNNEL frame is taken for (R322): enabled, its remote end the sender. -/
def State.tunMatch (s : State) (fr : Frame) : Option Nat :=
  let t := beAt fr.payload 2 2
  let c := s.tunCfg t
  if t < 1024 ∧ tunEnabled c ∧ !s.portOff 2 t ∧ octAt 24 c 0 2 = s.nodeOf fr.source ∧ octAt 24 c 2 2 = beAt fr.payload 4 2 ∧
      (s.tun t).st ≠ 5 ∧ (s.tun t).st ≠ 0 then
    some t
  else none

/-- A frame of the tunnel has been received, with the credit it reports (R326, R328). -/
def State.tunHeard (s : State) (t : Nat) (fr : Frame) : State :=
  let x := s.tun t
  let credit := beAt fr.payload 10 2
  s.setTun t { x with heardAt := s.lmc, counts := modNth (· + 1) x.counts 1,
                      allowed := x.allowed + (if x.st = 2 then (credit + 65536 - x.heardCredit) % 65536 else 0),
                      heardCredit := if x.st = 2 then credit else x.heardCredit }

/-- TUNNEL_LOST is LIVE while some tunnel is LOST. -/
def State.lostSync (s : State) : State :=
  if s.sw.tunnels.any (fun c => c.2.st == 4) then s else s.faultDown 0x058

/-- The end leaves for state `st`. Side-band is invalid in LOST and DISABLED (R331). -/
def State.tunState (s : State) (t st : Nat) : State :=
  let x := s.tun t
  (s.setTun t (if st = 0 ∨ st = 4 then { x with st := st, sbValid := false, sbRemote := 0 } else { x with st := st })).lostSync

/-- The end enters OPEN at version `tver`, with `reserve` units of credit at the far end and the next expected number the
one after `tseq`; what it holds ahead of a gap is dropped (R324, R333). Side-band is sent once more (R331). -/
def State.tunOpen (s : State) (t tver reserve tseq : Nat) : State :=
  let x := s.tun t
  (s.setTun t { x with
    st := 2, tver := tver, allowed := reserve, used := 0, heardCredit := 0, freed := 0, reported := 0
    freedAt := none, rx := [], gapAt := none, rxSeq := (tseq + 1) % 65536, heardAt := s.lmc, sbSent := none,
    polledAt := s.lmc, resync := false }).lostSync

/-- A REFUSE to the sender of `fr` (R322, R324). -/
def State.sendRefuse (s : State) (fr : Frame) (kind reason : Nat) : State :=
  if s.role = .standby then s
  else s.originate {
    kind := 4, prio := fr.prio, lastSeg := true, dest := s.nodeOf fr.source
    payload := tunHeader 3 kind (beAt fr.payload 4 2) (beAt fr.payload 2 2) 0 0 0 0 ++ beBytes 1 reason }

/-- The receiving Ladle of a TUNNEL frame that no tunnel takes counts it (R322). -/
def State.unmatched (s : State) (fr : Frame) : State := s.bump (Key.LADLE_UNMATCHED (beAt fr.payload 2 2 / 256 % 4))

/-- A TUNNEL frame that reaches this hub is acted on: the logic runs, the hub is not in compatibility mode, and the frame
has a whole header (R322, R334). -/
def State.tunTakes (s : State) (fr : Frame) (sub : Nat) : Bool :=
  s.logicOn && !s.compat && fr.kind == 4 && decide (12 ≤ fr.payload.length) && beAt fr.payload 0 1 == sub

/-- TUNNEL_OPEN_SEND (R324): every 100 ms until OPEN, every 1 s when REFUSED. -/
def execTunnelOpenSend (t : Fin 1024) (s : State) : Res :=
  let x := s.tun t
  .next (if !s.logicOn || !s.tunOn t || s.role = .standby || !(x.st == 1 || x.st == 3 || x.st == 4) then s
    else (match x.openAt with
      | none => s
      | some a => s.until (a + (if x.st = 3 then 1000000000 else 100000000))).sendOpen t false)

/-- TUNNEL_OPEN_RECEIVED (R322, R324, R325, R333): ACCEPT with the lower MAX_TVER where the versions and kinds agree, else
REFUSE with its reason; RESYNC counts. -/
def execTunnelOpenReceived (fr : Frame) (s : State) : Res :=
  .next (if !s.tunTakes fr 1 then s else match s.tunMatch fr with
  | none => s.sendRefuse fr 0 1
  | some t =>
    let c := s.tunCfg t
    let b := fr.payload.drop 12
    let s := s.tunHeard t fr
    let tver := min (octAt 24 c 9 1) (beAt b 1 1)
    let low := max (octAt 24 c 8 1) (beAt b 0 1)
    let far := fld (beAt b 2 4) 31 28
    let own := endKind c
    if tver < low ∨ ((own = 6 ∨ far = 6) ∧ tver < 2) then
      ((s.tunState t 3).setTun t { (s.tunState t 3).tun t with reason := 2 }).sendRefuse fr own 2
    else if own ≠ far ∧ own < 7 ∧ far < 7 then
      ((s.tunState t 3).setTun t { (s.tunState t 3).tun t with reason := 3 }).sendRefuse fr own 3
    else
      let s := if bitOf (beAt b 8 1) 7
        then s.setTun t { s.tun t with counts := modNth (· + 1) (s.tun t).counts 4 } else s
      let s := s.tunOpen t tver (beAt b 6 2) (beAt fr.payload 6 2)
      s.tunSend t 2 (((s.tun t).txSeq + 65535) % 65536) 0 true (beBytes 2 (octAt 24 c 16 2)))

/-- TUNNEL_ACCEPT_RECEIVED (R324): the end is OPEN with the version and credit; an end that is OPEN already takes fresh
credit only after its own RESYNC (R333). -/
def execTunnelAcceptReceived (fr : Frame) (s : State) : Res :=
  .next (if !s.tunTakes fr 2 then s else match s.tunMatch fr with
  | none => s.unmatched fr
  | some t =>
    let s := s.tunHeard t fr
    let x := s.tun t
    let reserve := beAt (fr.payload.drop 12) 0 2
    if x.st = 2 then
      (if x.resync then s.setTun t { x with allowed := reserve, used := 0, heardCredit := 0, freed := 0, reported := 0,
                                            freedAt := none, resync := false } else s)
    else s.tunOpen t (beAt fr.payload 8 1) reserve (beAt fr.payload 6 2))

/-- TUNNEL_REFUSE_RECEIVED (R324). -/
def execTunnelRefuseReceived (fr : Frame) (s : State) : Res :=
  .next (if !s.tunTakes fr 3 then s else match s.tunMatch fr with
  | none => s.unmatched fr
  | some t =>
    let s := (s.tunHeard t fr).tunState t 3
    s.setTun t { s.tun t with reason := beAt (fr.payload.drop 12) 0 1 })

/-- TUNNEL_CLOSE_RECEIVED (R326). -/
def execTunnelCloseReceived (fr : Frame) (s : State) : Res :=
  .next (if !s.tunTakes fr 6 then s else match s.tunMatch fr with
  | none => s.unmatched fr
  | some t =>
    let s := (s.tunHeard t fr).tunState t 1
    s.setTun t { s.tun t with openAt := none })

/-- TUNNEL_KEEPALIVE_SEND (R326): an OPEN end silent for 10 ms. -/
def execTunnelKeepaliveSend (t : Fin 1024) (s : State) : Res :=
  .next (if !s.logicOn || !s.tunOn t || (s.tun t).st ≠ 2 || s.role = .standby then s
    else (s.until ((s.tun t).sentAt + 10000000)).tunSend t 7 (((s.tun t).txSeq + 65535) % 65536) 0 true [])

/-- TUNNEL_LOST_TIMEOUT (R326): no frame for 50 ms. -/
def execTunnelLostTimeout (t : Fin 1024) (s : State) : Res :=
  .next (if !s.logicOn || !s.tunOn t || (s.tun t).st ≠ 2 then s
    else (((s.until ((s.tun t).heardAt + 50000000)).tunState t 4).faultUp 0x058 t 0).sendOpen t false)

/-! ## Flow and order (R327 to R329) -/

/-- Units of 256 bytes of a body (R328). -/
def unitsOf (b : List Byte) : Nat := (b.length + 255) / 256

/-- Receive reserve of `n` units is freed (R328). -/
def State.tunFree (s : State) (t n : Nat) : State :=
  let x := s.tun t
  s.setTun t { x with freed := x.freed + n, freedAt := if x.freedAt.isNone then some s.lmc else x.freedAt }

/-- TUNNEL_CREDIT_REPORT (R328): 16 units freed, or 20 µs after the first unreported one. -/
def execTunnelCreditReport (t : Fin 1024) (s : State) : Res :=
  let x := s.tun t
  .next (if !s.logicOn || !s.tunOn t || x.st ≠ 2 || s.role = .standby then s else match x.freedAt with
    | none => s
    | some a => (if 16 ≤ x.freed - x.reported then s else s.until (a + 20000)).tunSend t 7 ((x.txSeq + 65535) % 65536) 0 true [])

/-- Frames join the ready list in TSEQ order while the next expected number is held; a second segment whose first is
missing is discarded. `n` bounds the moves. -/
def State.tunAdvance (s : State) (t : Nat) : Nat → State
  | 0 => s
  | n + 1 =>
    let x := s.tun t
    match x.rx with
    | f :: r =>
      if f.tseq ≠ x.rxSeq then s
      else
        let open_ : Bool := match x.ready.getLast? with
          | some g => !g.last
          | none => false
        let s := if f.segment ≠ 0 ∧ !open_
          then (s.setTun t { x with rx := r, rxSeq := (x.rxSeq + 1) % 65536 }).tunFree t (unitsOf f.body)
          else s.setTun t { x with rx := r, rxSeq := (x.rxSeq + 1) % 65536, ready := x.ready ++ [f] }
        s.tunAdvance t n
    | [] => s

/-- How far `q` lies ahead of the next expected number. -/
def ahead (x : TunnelSt) (q : Nat) : Nat := (q + 65536 - x.rxSeq) % 65536

/-- A frame takes its place among those held, by TSEQ; one already held is discarded. -/
def holdFrame (x : TunnelSt) (f : TunFrame) : List TunFrame → List TunFrame
  | [] => [f]
  | g :: r =>
    if ahead x f.tseq < ahead x g.tseq then f :: g :: r
    else if f.tseq = g.tseq then g :: r
    else g :: holdFrame x f r

/-- The gap's time runs while a later number is held and the next expected one is missing (R329). -/
def State.tunGap (s : State) (t : Nat) : State :=
  let x := s.tun t
  s.setTun t { x with gapAt := if x.rx.isEmpty then none else if x.gapAt.isNone then some s.lmc else x.gapAt }

/-- TUNNEL_DATA_RECEIVED (R329): a DATA frame enters the receive reserve in TSEQ order; one older than expected is
discarded. A KEEPALIVE brings credit only. -/
def execTunnelDataReceived (fr : Frame) (s : State) : Res :=
  .next (if !s.tunTakes fr 4 && !s.tunTakes fr 7 then s else match s.tunMatch fr with
  | none => s.unmatched fr
  | some t =>
    if (s.tun t).st ≠ 2 then s
    else
      let s := s.tunHeard t fr
      let x := s.tun t
      let q := beAt fr.payload 6 2
      if beAt fr.payload 0 1 = 7 ∨ 32768 ≤ ahead x q then s
      else
        let f : TunFrame := { tseq := q, segment := beAt fr.payload 9 1, last := fr.lastSeg, body := fr.payload.drop 12,
                              gen := s.reg Key.GENERATION }
        let s := s.setTun t { x with rx := holdFrame x f x.rx }
        (s.tunAdvance t (s.tun t).rx.length).tunGap t)

/-- The reorder time of tunnel `t` in ns (R329). -/
def State.reorderNs (s : State) (t : Nat) : Nat :=
  let r := octAt 24 (s.tunCfg t) 20 4
  if r = 0 then 2 * s.reg Key.LINK_LAP_NS else r * 1000

/-- TUNNEL_REORDER_TIMEOUT (R329): the missing numbers are lost, with a packet that lost its second segment, and delivery
continues with the next number held. -/
def execTunnelReorderTimeout (t : Fin 1024) (s : State) : Res :=
  .next (if !s.logicOn || !s.tunOn t then s else match (s.tun t).gapAt, (s.tun t).rx with
  | some a, f :: _ =>
    let s := s.until (a + s.reorderNs t)
    let x := s.tun t
    let half : Option TunFrame := match x.ready.getLast? with
      | some g => if g.last then none else some g
      | none => none
    let s := s.setTun t { x with counts := modNth (· + ahead x f.tseq) x.counts 2, rxSeq := f.tseq, gapAt := none,
                                 ready := if half.isSome then x.ready.dropLast else x.ready }
    let s := match half with
      | some g => s.tunFree t (unitsOf g.body)
      | none => s
    (s.tunAdvance t (s.tun t).rx.length).tunGap t
  | _, _ => s)

/-! ## Wrapped kinds (R330) -/

/-- DATA bytes of a packet's words from the `k`-th on. -/
def wordBytes (p : List QItem) (k : Nat) : List Byte :=
  (p.drop k).foldl (fun a i => a ++ (beBytes 8 i.data).take (if i.isEnd then fld i.tag 5 3 + 1 else 8)) []

/-- The KIND of word `k` of a packet. -/
def wordKind (p : List QItem) (k : Nat) : Nat := ((p.drop k).head?.map (fun i => i.tag % 8)).getD 0

/-- The data of word `k` of a packet. -/
def wordData (p : List QItem) (k : Nat) : Nat := ((p.drop k).head?.map (fun i => i.data)).getD 0

/-- The CAN body of a receive packet (Table 12.3). -/
def canBody (p : List QItem) : List Byte :=
  let w := wordData p 1
  beBytes 8 (wordData p 0) ++ beBytes 4 (w / 2 ^ 32) ++ beBytes 1 (fld w 31 25) ++ beBytes 3 0 ++ wordBytes p 2

/-- The RS-485 body of a receive packet with characters of width code `cw` (Table 12.3). -/
def rsBody (cw : Nat) (p : List QItem) : List Byte :=
  beBytes 8 (wordData p 0) ++ beBytes 8 (wordData p 1) ++
    ((p.drop 2).flatMap (itemsOf cw)).flatMap (beBytes (if cw = 1 then 2 else 1))

/-- The body of a source packet of endpoint kind `kind`: its bytes, or whether it is a completion record that failed, or
nothing for a word that is neither (Table 12.3, R330). -/
def State.wrap (s : State) (kind n q : Nat) (p : List QItem) : Option (List Byte) :=
  if kind = 1 then (if wordKind p 0 = 3 ∧ wordKind p 1 = 1 then some (canBody p) else none)
  else if kind = 2 then
    (if wordKind p 0 = 3 ∧ wordKind p 1 = 2 ∧ fld (wordData p 1) 47 44 < 8 then some (rsBody (s.qWidth n q) p) else none)
  else if kind = 3 then
    (if wordKind p 0 = 3 ∧ wordKind p 1 = 6 then some (beBytes 8 (wordData p 0) ++ beBytes 8 (wordData p 1)) else none)
  else if kind = 4 then (if wordKind p 0 = 2 then some (p.flatMap (fun i => beBytes 8 i.data)) else none)
  else if kind = 6 then
    (if wordKind p 0 = 1 then
      let items := p.flatMap (itemsOf 4)
      some (beBytes 2 items.length ++ beBytes 2 0 ++ items.flatMap (beBytes 4))
    else none)
  else none

/-- A completion record whose cause is other than SENT (R330). -/
def recordFailed (kind : Nat) (p : List QItem) : Bool :=
  (kind == 1 && wordKind p 0 == 3 && wordKind p 1 == 2 && fld (wordData p 1) 31 24 != 0) ||
    (kind == 2 && wordKind p 0 == 3 && wordKind p 1 == 2 && decide (9 ≤ fld (wordData p 1) 47 44))

/-- The packet's type belongs to this endpoint kind: events and ISDU answers share an IO-Link port's queue. -/
def mineToTake (kind : Nat) (p : List QItem) : Bool :=
  if kind = 3 then wordKind p 0 != 2 else if kind = 4 then wordKind p 0 != 3 else true

/-- Transmit reserve in use (R328). -/
def TunnelSt.txUnits (x : TunnelSt) : Nat := (x.tx.map (fun f => unitsOf f.body)).foldl (· + ·) 0

/-- The DATA frames of a body (R323): two segments above 1464 bytes. -/
def segments (body : List Byte) (gen : Nat) : List TunFrame :=
  if body.length ≤ 1464 then [{ tseq := 0, body := body, gen := gen }]
  else [{ tseq := 0, last := false, body := body.take 1464, gen := gen },
        { tseq := 0, segment := 1, body := body.drop 1464, gen := gen }]

/-- The transmit reserve can hold the whole body. -/
def State.tunRoom (s : State) (t : Nat) (body : List Byte) : Bool :=
  decide ((s.tun t).txUnits + ((segments body 0).map (fun f => unitsOf f.body)).foldl (· + ·) 0 ≤ octAt 24 (s.tunCfg t) 18 2)

/-- A packet's body enters the transmit reserve; a STANDBY hub discards it (R333). -/
def State.tunTake (s : State) (t : Nat) (body : List Byte) (gen : Nat) : State :=
  if s.role = .standby then s
  else s.setTun t { s.tun t with tx := (s.tun t).tx ++ segments body gen }

/-- The first queue of the list whose front packet is of the endpoint's type, and that packet. -/
def State.tunSource (s : State) (kind n : Nat) (qs : List Nat) : Option (Nat × List QItem) :=
  qs.findSome? (fun q => match s.qPeek n q with
    | some p => if mineToTake kind p then some (q, p) else none
    | none => none)

/-- LADLE_PACKET_TAKE (R319, R328, R330): one packet of the source, once the transmit reserve can hold it: from a Pan's
queue, from the frames that an edge port gave the Ladle, or, for HOST and CP, the body given. -/
def execLadlePacketTake (t : Fin 1024) (body : List Byte) (s : State) : Res :=
  let c := s.tunCfg t
  let k := endKind c
  let num := endNum c
  .next (if !s.logicOn || !s.tunOn t || s.compat then s
    else if k = 5 then
      (match s.sw.out.find? (fun o => o.1 == 14 + ladleOf t && o.2.ingress == 4 + num && o.2.frame.fabric.isNone) with
       | none => s
       | some o =>
         if !s.tunRoom t o.2.frame.data then s
         else ({ s with sw := { s.sw with out := s.sw.out.erase o } }).tunTake t o.2.frame.data o.2.gen)
    else if k = 7 ∨ k = 8 then
      (if 2928 < body.length ∨ !s.tunRoom t body then s else s.tunTake t body (s.reg Key.GENERATION))
    else
      let (n, qs, _) := endQueues k num (endOption c)
      match s.tunSource k n qs with
      | none => s
      | some (q, p) =>
        match s.wrap k n q p with
        | some b =>
          if !s.tunRoom t b then s
          else (match s.qTake n q with
            | some (_, s) => s.tunTake t b (s.reg Key.GENERATION)
            | none => s)
        | none => (match s.qTake n q with
            | some (_, s) => if recordFailed k p
                then s.setTun t { s.tun t with counts := modNth (· + 1) (s.tun t).counts 6 } else s
            | none => s))

/-- TUNNEL_DATA_SEND (R328): the next DATA frame leaves once the far end's credit covers it; a frame that has lacked credit
for 1 ms counts once in CREDIT_WAITS. -/
def execTunnelDataSend (t : Fin 1024) (s : State) : Res :=
  let x := s.tun t
  .next (if !s.logicOn || !s.tunOn t || x.st ≠ 2 || s.role = .standby then s else match x.tx with
    | [] => s
    | f :: r =>
      let late (y : TunnelSt) : TunnelSt := match x.waitAt with
        | some a => if a + 1000000 ≤ s.lmc then { y with counts := modNth (· + 1) y.counts 5, waitAt := none } else { y with waitAt := none }
        | none => y
      if x.used + unitsOf f.body ≤ x.allowed then
        (s.setTun t { late x with tx := r, used := x.used + unitsOf f.body, txSeq := (x.txSeq + 1) % 65536 }).tunSend t 4
          x.txSeq f.segment f.last f.body
      else s.setTun t { x with waitAt := if x.waitAt.isNone then some s.lmc else x.waitAt })

/-! ## Sinks (R329, R330) -/

/-- The transmit packets that a CAN body becomes (Table 12.3), with identifier `key`. -/
def canSink (b : List Byte) (key tag : Nat) : List (List QItem) :=
  let m := beAt b 12 1
  let w := key * 2 ^ 32 + (m / 8) * 2 ^ 28 + (m / 2 % 4) * 2 ^ 26 + 0xFF * 2 ^ 16 + tag
  let d := (b.drop 16).map BitVec.toNat
  [if d.isEmpty then [⟨tagByte true 7 4, w⟩] else qWord 4 w :: pack 0 1 d]

/-- The characters of an RS-485 body: 1 or 2 bytes each, by its LENGTH. -/
def rsBodyChars (b : List Byte) : List Nat :=
  let len := beAt b 8 2
  let d := b.drop 16
  if d.length = 2 * len ∧ len ≠ 0 then (List.range len).map (fun i => beAt d (2 * i) 2) else d.map BitVec.toNat

/-- The transmit packets that an RS-485 body with characters `cs` becomes (Table 12.3, R237). -/
def rsSink (cw : Nat) (b : List Byte) (cs : List Nat) : List (List QItem) :=
  let w := b2n (fld (beAt b 8 8) 47 44 == 5) * 2 ^ 63
  [if cs.isEmpty then [⟨tagByte true 7 4, w⟩] else qWord 4 w :: pack cw 1 cs]

/-- The packets for the sink queue of an endpoint of kind `kind` (Table 12.3); none for a kind without a sink queue. -/
def State.sinkPackets (s : State) (kind num tag : Nat) (b : List Byte) : List (List QItem) :=
  if kind = 1 then canSink b (beAt b 8 4) tag
  else if kind = 2 then rsSink (s.qWidth (rsPan num) (rsQ num + 1)) b (rsBodyChars b)
  else if kind = 4 then
    let len := beAt b 4 2
    let n := (b.length - 8) / 8
    [if n = 0 then [⟨tagByte true 7 4, beAt b 0 8⟩]
     else qWord 4 (beAt b 0 8) :: (List.range n).map (fun i =>
       ⟨tagByte (i + 1 == n) (if i + 1 = n then (len + 7) % 8 else 0) 1, beAt b (8 + 8 * i) 8⟩)]
  else if kind = 6 then (List.range (beAt b 0 2)).map (fun i => [⟨tagByte true 3 1, beAt b (4 + 4 * i) 4 * 2 ^ 32⟩])
  else []

/-- What a sink did with a packet: took it, has no room now, or could never take it. -/
inductive SinkAnswer where
  | taken | later | never
  deriving DecidableEq, Repr

/-- What waits for a slot of ring 1: image-write acknowledgements, and tunnel packets in HOST's egress queues and beyond. -/
def State.ring1Waits (s : State) : Nat :=
  s.host.ring1.length + (s.sw.out.filter (fun o => o.1 == 12 && decide (14 ≤ o.2.ingress))).length +
    ((s.sw.queues.filter (fun c => c.1 / 8 == 12)).map (fun c =>
      c.2.frames.length + c.2.back.length + (c.2.pages.map List.length).foldl (· + ·) 0 + c.2.asm.length)).foldl (· + ·) 0

/-- A body reaches the sink of an endpoint (R319, R329): a transmit queue that can hold it whole, an edge port, or HOST
or CP through the switch core; received data for HOST stays in its reserve while ring 1 has no room (R368). A STANDBY hub delivers to CAN and RS-485 alone and discards the rest (R333). -/
def State.sink (s : State) (t kind num tag cls : Nat) (b : List Byte) : SinkAnswer × State :=
  let l := ladleOf t
  if s.role = .standby ∧ kind ≠ 1 ∧ kind ≠ 2 then (.taken, s)
  else if kind = 1 ∨ kind = 2 ∨ kind = 4 ∨ kind = 6 then
    let (n, _, q) := endQueues kind num 0
    let ps := s.sinkPackets kind num tag b
    let k := (ps.map List.length).foldl (· + ·) 0
    if s.qItems n q < k + 1 then (.never, s)
    else if !s.qRoom n q k then (.later, s)
    else (.taken, ps.foldl (fun s p => s.qPush n q p) s)
  else if kind = 5 then
    let pcp : Option Nat := if beAt b 12 2 = 0x8100 then some (beAt b 14 1 / 32) else none
    let c := match pcp with
      | some c => c
      | none => s.reg (Key.SWP_DEFAULT_CLASS (4 + num))
    let f : SwFrame := { bytes := max 64 (b.length + 4), pcp := pcp, etherType := beAt b 12 2, data := b }
    if s.canAdmit [4 + num] { frame := f, cls := c } then (.taken, s.swOwn (14 + l) f [4 + num] c) else (.later, s)
  else if kind = 7 ∨ kind = 8 then
    let p := if kind = 7 then 12 else 13
    -- for HOST the packet is the content of a ring 1 slot: tunnel number, two reserved bytes, body (R369)
    let f : SwFrame := { bytes := max 64 b.length, data := if kind = 7 then beBytes 2 t ++ [0, 0] ++ b else b }
    if kind = 7 ∧ (!s.ringOn 1 || decide (s.ringFree 1 ≤ s.ring1Waits)) then (.later, s)
    else if s.canAdmit [p] { frame := f, cls := cls } then (.taken, s.swOwn (14 + l) f [p] cls) else (.later, s)
  else (.never, s)

/-- The packet at the head of the ready list, when it is whole: its body, TSEQ, frames and units. -/
def TunnelSt.packet (x : TunnelSt) : Option (List Byte × Nat × Nat × Nat) := match x.ready with
  | f :: r =>
    if f.last then some (f.body, f.tseq, 1, unitsOf f.body)
    else match r with
      | g :: _ => some (f.body ++ g.body, f.tseq, 2, unitsOf f.body + unitsOf g.body)
      | [] => none
  | [] => none

/-- TUNNEL_SINK_DELIVER (R329): the next packet leaves the receive reserve when its sink can take it whole; one that the
sink could never take is discarded and counted. -/
def execTunnelSinkDeliver (t : Fin 1024) (s : State) : Res :=
  let c := s.tunCfg t
  let x := s.tun t
  .next (if !s.logicOn || !s.tunOn t then s else match x.packet with
    | none => s
    | some (b, tseq, n, u) =>
      let leave (s : State) : State := (s.setTun t { s.tun t with ready := (s.tun t).ready.drop n }).tunFree t u
      match s.sink t (endKind c) (endNum c) tseq (octAt 24 c 11 1) b with
      | (.taken, s) => leave s
      | (.never, s) => (leave s).setTun t { (leave s).tun t with counts := modNth (· + 1) ((leave s).tun t).counts 3 }
      | (.later, _) => s)

/-! ## Configuration (R327, R334, R338) -/

/-- The source queues of an endpoint name the tunnel's Ladle as consumer (R319). -/
def State.endConsumer (s : State) (t c : Nat) : Bool :=
  let k := endKind c
  if k = 5 ∨ k = 7 ∨ k = 8 then true
  else
    let (n, qs, _) := endQueues k (endNum c) (endOption c)
    qs.all (fun q => s.qConsumer n q == 2 + ladleOf t)

/-- The checks of R334 on a write of `v` to TUNNEL_CFG of tunnel `t`, and BUSY of R339. -/
def tunCheck (t v : Nat) (s : State) : Option Abort :=
  let old := s.tunCfg t
  let en := tunEnabled v
  let flip := 128 * 256 ^ 13
  if tunEnabled old && (if en then v != old else v + flip != old) then some .stateConflict
  else if !en then (if !tunRange v then some .valueRange else if s.tableBusy then some .busy else none)
  else if tunEnabled old then (if s.tableBusy then some .busy else none)
  else if s.compat then some .compatDenied
  else if !s.feature 3 then some .versionUnsupported
  else if !tunRange v || !endOk v then some .valueRange
  else if (endKind v < 7 ∧ s.tunnelsOn.any (fun e => e.1 != t && octAt 24 e.2 4 4 / 2 ^ 16 == octAt 24 v 4 4 / 2 ^ 16)) ∨
      (endKind v ≤ 2 ∧ s.routeBound (endKind v) (endNum v)) ∨ !s.endConsumer t v then some .stateConflict
  else if 32768 < s.reservedUnits (ladleOf t) t + octAt 24 v 16 2 + octAt 24 v 18 2 then some .budgetExceeded
  else if s.tableBusy then some .busy
  else none

/-- A written TUNNEL_CFG takes effect: ENABLE opens the tunnel, or closes it with one CLOSE (R324, R326). -/
def State.tunWritten (s : State) (t v : Nat) : State :=
  let was := tunEnabled (s.tunCfg t)
  let s := if was && !tunEnabled v && (s.tun t).st != 5
    then s.tunSend t 6 (((s.tun t).txSeq + 65535) % 65536) 0 true [] else s
  let s := s.tableWritten (Key.TUNS_CFG (t / 64) (t % 64)) v
  let s := s.setReg (Key.LADLE_RESERVE_UNITS (ladleOf t)) (s.reservedUnits (ladleOf t) 1024)
  if was = tunEnabled v then s
  else
    let x := s.tun t
    (s.setTun t { st := b2n (tunEnabled v), counts := x.counts }).lostSync

/-- The reserved bits of a TUNNEL_CFG are ignored (R7). -/
def tunMask (v : Nat) : Nat :=
  v - octAt 24 v 7 1 * 256 ^ 16 - (octAt 24 v 10 1 % 128) * 256 ^ 13

/-- TUNNEL_CONFIG_WRITE (R334). -/
def execTunnelConfigWrite (w : Writer) (t : Fin 1024) (v : Nat) (s : State) : Res :=
  .next (if s.fwOn then s.write w (Key.TUNS_CFG (t / 64) (t % 64)) v (tunCheck t (tunMask v))
    (fun s => s.tunWritten t (tunMask v)) else s)

/-- On becoming ACTIVE, each OPEN tunnel sends OPEN with RESYNC (R333). -/
def State.tunnelsResync (s : State) : State :=
  s.tunnelsOn.foldl (fun s e => if (s.tun e.1).st = 2 then s.sendOpen e.1 true else s) s

/-! ## Side-band (R331) -/

/-- The side-band word of an endpoint (Table 12.4); a Whisk's edges and levels as its slots read. -/
def State.sideband (s : State) (kind num edges levels : Nat) : Nat :=
  if kind = 1 then s.busStateValue num
  else if kind = 2 then s.rsLineValue num % 256
  else if kind = 3 ∨ kind = 4 then s.portStateValue num
  else if kind = 5 then
    b2n (s.flag (Key.EDGE_LINK num)) + 2 * (s.reg (Key.EDGE_RATE num) - 1)
  else if kind = 6 then (s.whisk num).st * 2 ^ 16 + edges * 256 + levels
  else 0

/-- SIDEBAND_POLL (R331): every POLL_US at version 2 the port end reads its word and sends it when it differs from the last
one sent, and once after each entry to OPEN. -/
def execSidebandPoll (t : Fin 1024) (edges levels : Fin 256) (s : State) : Res :=
  let c := s.tunCfg t
  let x := s.tun t
  .next (if !s.logicOn || !s.tunOn t || x.st ≠ 2 || x.tver ≠ 2 || octAt 24 c 12 4 = 0 || 7 ≤ endKind c then s
    else
      let s := if x.sbSent.isNone then s else s.until (x.polledAt + octAt 24 c 12 4 * 1000)
      let w := s.sideband (endKind c) (endNum c) edges levels
      let s := s.setTun t { s.tun t with polledAt := s.lmc }
      if x.sbSent = some w ∨ s.role = .standby then s
      else (s.setTun t { s.tun t with sbSent := some w }).tunSend t 5 ((x.txSeq + 65535) % 65536) 0 true (beBytes 8 w))

/-- SIDEBAND_RECEIVED (R331): the word is stored, and a change raises source 688 + k with SIDEBAND_PENDING. -/
def execSidebandReceived (fr : Frame) (s : State) : Res :=
  .next (if !s.tunTakes fr 5 then s else match s.tunMatch fr with
  | none => s.unmatched fr
  | some t =>
    if (s.tun t).st ≠ 2 then s
    else
      let s := s.tunHeard t fr
      let x := s.tun t
      let w := beAt fr.payload 12 8
      let s := s.setTun t { x with sbRemote := w, sbValid := true }
      if x.sbValid && x.sbRemote == w then s
      else
        let k := Key.SB_SIDEBAND_PENDING (t / 64)
        let s := s.setReg k (setBit (s.reg k) (t % 64) true)
        s.raise (688 + t / 64) (s.reg k))

/-! ## The legacy route table (R335 to R337) -/

/-- A port that a route names: kind 1 CAN 0 to 31, kind 2 RS-485 0 to 47. -/
def routePort (p : Nat) : Bool :=
  (p / 4096 == 1 && decide (p % 4096 < 32)) || (p / 4096 == 2 && decide (p % 4096 < 48))

/-- The port whose receive queue is queue `q` of Pan `n`: kind and channel. -/
def queuePort (n q : Nat) : Option (Nat × Nat) :=
  if q = 0 ∨ q = 1 then some (1, 2 * n)
  else if q = 3 ∨ q = 4 then some (1, 2 * n + 1)
  else if q = 6 ∨ q = 8 ∨ q = 10 then some (2, 3 * n + (q - 6) / 2)
  else none

/-- The first entry in use, in ascending number, that port `p` and identifier `ident` match (R336). -/
def State.routeFor (s : State) (p ident : Nat) : Option Nat :=
  (s.regs.find? (fun c => decide (0x7B0 ≤ c.1 / 256) && decide (c.1 / 256 ≤ 0x7CF) && octAt 20 c.2 0 2 == p &&
    (ident ^^^ octAt 20 c.2 2 4) &&& octAt 20 c.2 6 4 == 0)).map (·.2)

/-- A routed packet reaches its port (Table 12.3), with identifier `ident`; one that the sink cannot take is dropped and
counted by Ladle `l`. -/
def State.routeSink (s : State) (l kind ch ident : Nat) (b : List Byte) : State :=
  let (n, _, q) := endQueues kind ch 0
  let ps := if kind = 1 then canSink b ident 0
    else rsSink (s.qWidth n q) b (match rsBodyChars b with
      | [] => []
      | _ :: cs => ident % 512 :: cs)
  let k := (ps.map List.length).foldl (· + ·) 0
  if s.qRoom n q k then ps.foldl (fun s p => s.qPush n q p) s else s.bump (Key.LADLE_ROUTE_SINK_DROP l)

/-- ROUTE_CLASSIFY (R335, R336): one packet of a route-bound queue goes to the port of the first entry that matches. A
completion record is discarded, as R330 has it of tunnels. -/
def execRouteClassify (n : Fin 16) (q : Fin 25) (s : State) : Res :=
  let l := n.val % 4
  .next (if !s.logicOn then s else match queuePort n q with
  | none => s
  | some (kind, ch) =>
    if !s.routeBound kind ch then s
    else match s.qTake n q with
      | none => s
      | some (p, s) => match s.wrap kind n q p with
        | none => s
        | some b =>
          let chars := rsBodyChars b
          let ident := if kind = 1 then beAt b 8 4 else chars.headD 0 % 512
          match s.routeFor (kind * 4096 + ch) ident with
          | none => s.bump (Key.LADLE_ROUTE_MISS l)
          | some r =>
            let ident := if bitOf (octAt 20 r 18 1) 7 then octAt 20 r 14 4 else ident
            let dch := octAt 20 r 12 2 % 4096
            if octAt 20 r 10 2 = 0 then s.routeSink l kind dch ident b
            else (s.originate {
              kind := 8, prio := 4, lastSeg := true, dest := octAt 20 r 10 2
              payload := beBytes 1 1 ++ beBytes 1 kind ++ beBytes 2 dch ++ beBytes 4 ident ++ beBytes 2 b.length ++
                beBytes 2 0 ++ b }).bump (Key.LADLE_ROUTE_FRAMES l))

/-- ROUTE_FRAME_RECEIVED (R336): the sink packet is built at the destination port. -/
def execRouteFrameReceived (fr : Frame) (s : State) : Res :=
  let kind := beAt fr.payload 1 1
  let ch := beAt fr.payload 2 2
  .next (if !s.logicOn || fr.kind != 8 || beAt fr.payload 0 1 != 1 || !routePort (kind * 4096 + ch) then s
    else
      let l := routePan kind ch % 4
      (s.bump (Key.LADLE_ROUTE_FRAMES l)).routeSink l kind ch (beAt fr.payload 4 4)
        ((fr.payload.drop 12).take (beAt fr.payload 8 2)))

/-- The checks of a route entry (R335, R337, R339, R341). -/
def routeCheck (v : Nat) (s : State) : Option Abort :=
  let src := octAt 20 v 0 2
  let dst := octAt 20 v 12 2
  if src / 4096 = 0 then (if s.tableBusy then some .busy else none)
  else if !routePort src || !routePort dst || src / 4096 != dst / 4096 then some .valueRange
  else if octAt 20 v 10 2 ≠ 0 ∧ !s.feature 1 then some .versionUnsupported
  else if s.tunnelsOn.any (fun e => endKind e.2 == src / 4096 && endNum e.2 == src % 4096) ∨
      (src / 4096 = 2 ∧ (s.bridgeOf (src % 4096)).isSome) then some .stateConflict
  else if s.tableBusy then some .busy
  else none

/-- ROUTE_ENTRY_WRITE (R337, R338): reserved bits are ignored. -/
def execRouteEntryWrite (w : Writer) (r : Fin 4096) (v : Nat) (s : State) : Res :=
  let k := Key.RTAB_ENTRY (r / 128) (r % 128)
  let v' := v - octAt 20 v 19 1 - octAt 20 v 18 1 % 128 * 256
  .next (if s.fwOn then s.write w k v (routeCheck v') (fun s => s.tableWritten k v') else s)

/-- {790}+k TSTATUS of tunnel `t` (Table 12.7). -/
def State.tunStatus (s : State) (t : Nat) : Nat :=
  let x := s.tun t
  x.st * 256 ^ 15 + x.tver * 256 ^ 14 + x.reason * 256 ^ 13 + b2n x.sbValid * 256 ^ 12 +
    min (x.allowed - x.used) 65535 * 256 ^ 10 + x.sbRemote

/-- {7A0}+k TCOUNT of tunnel `t`. -/
def State.tunCounts (s : State) (t : Nat) : Nat :=
  ((s.tun t).counts ++ [0]).foldl (fun a c => a * 2 ^ 64 + c % 2 ^ 64) 0

end Sys2Proof.Machine
end

