-- ==== Sys2Proof/Machine/Faults.lean ====
section
/-! DEFINITION. Fault commands, the Crucible and perturbations (chapter 16). The collector itself is in Ops.lean. -/

namespace Sys2Proof.Machine

/-! ## Sources (R423 to R434) -/

/-- Fault source numbers that Table 16.1 allocates. -/
def faultAllocated (n : Nat) : Bool :=
  decide (n ≤ 0x002) || (decide (0x004 ≤ n) && decide (n ≤ 0x030)) || (decide (0x040 ≤ n) && decide (n ≤ 0x043)) ||
    (decide (0x048 ≤ n) && decide (n ≤ 0x04C)) || (decide (0x050 ≤ n) && decide (n ≤ 0x052)) || n == 0x058 || n == 0x060 ||
    n == 0x061 || n == 0x068 || n == 0x069 || (decide (0x080 ≤ n) && decide (n ≤ 0x088)) ||
    (decide (0x090 ≤ n) && decide (n ≤ 0x094)) || (decide (0x0A0 ≤ n) && decide (n ≤ 0x0A3)) ||
    (decide (0x0B0 ≤ n) && decide (n ≤ 0x0B4)) || (decide (0x0C0 ≤ n) && decide (n ≤ 0x1BF))

/-- Automatic leaves of source `n` in (t − 24 h, t], t now (R430). -/
def State.recoveries (s : State) (n : Nat) : Nat :=
  ((s.flt n).leaves.filter (fun t => decide (s.lmc < t + 86400000000000))).length

/-- A leave entry (CLASS 1): mode 0 CLEAR, 1 quiet, 2 suspended (R433). -/
def State.logLeave (s : State) (n mode : Nat) : State :=
  s.log 1 n (beBytes 1 mode ++ beBytes 1 (min (s.recoveries n) 255) ++ beBytes 2 0 ++ beBytes 4 (s.flt n).occurrences)

/-- {908}+k FAULT_STATE of source `n` (Table 16.4). -/
def State.faultState (s : State) (n : Nat) : Nat :=
  let f := s.flt n
  b2n f.live * 2 ^ 31 + b2n f.inFault * 2 ^ 30 + f.severity * 2 ^ 28 + b2n f.suspended * 2 ^ 27 + b2n f.forced * 2 ^ 26 +
    min (s.recoveries n) 255 * 2 ^ 16

/-- {910}+k FAULT_DETAIL of source `n` (Table 16.5). -/
def State.faultDetail (s : State) (n : Nat) : List Byte :=
  let f := s.flt n
  beBytes 4 f.firstCause ++ beBytes 8 (ofSigned 64 f.firstTime) ++ beBytes 8 (ofSigned 64 f.lastTime) ++
    beBytes 4 f.occurrences ++ beBytes 4 f.lost ++ beBytes 4 0

/-- Sources IN_FAULT, by number. -/
def State.inFaults (s : State) : List Nat := (s.faults.filter (fun c => c.2.inFault)).map (·.1)

/-- {900.07} IN_FAULT_MAP: bit s of byte ⌊s ÷ 8⌋, counted from [7]. -/
def State.faultMap (s : State) : List Byte :=
  (List.range 64).map (fun i => BitVec.ofNat 8 ((List.range 8).foldl (fun a j =>
    a + b2n (s.flt (8 * i + j)).inFault * 2 ^ (7 - j)) 0))

/-- The ranges of a FAULT_CFG (Table 16.3, R434). -/
def faultCfgOk (c : Nat) : Bool :=
  decide (fld c 63 61 ≤ 5) && decide (fld c 60 58 ≤ 5) && decide (1 ≤ fld c 53 46) && decide (fld c 45 44 ≤ 2) &&
    decide (1 ≤ fld c 43 32) && decide (fltSpan (fld c 45 44) (fld c 43 32) ≤ 86400000000000) &&
    decide (fld c 31 30 ≤ 2) && decide (1 ≤ fld c 29 18) && decide (fltSpan (fld c 31 30) (fld c 29 18) ≤ 3600000000000) &&
    decide (1 ≤ fld c 17 14)

/-- FAULT_OCCURRENCE (R427): an occurrence of a source whose condition arises outside the commands of this table; `live`
when the condition stays present. -/
def execFaultOccurrence (n : Fin 512) (item detail : Nat) (live : Bool) (s : State) : Res :=
  .next (if !s.logicOn || !faultAllocated n then s else if live then s.faultUp n item detail else s.occur n item detail)

/-- FAULT_LIVE_FALL (R430). -/
def execFaultLiveFall (n : Fin 512) (s : State) : Res := .next (if s.logicOn then s.faultDown n else s)

/-- FAULT_QUIET_EXPIRY (R430): the source leaves at t0 + Q, unless K automatic leaves already lie in the last 24 h, which
suspends it (DEDUCED, log 24). -/
def execFaultQuietExpiry (n : Fin 512) (s : State) : Res :=
  let f := s.flt n
  let c := s.fltCfg n
  .next (if !s.logicOn || !f.inFault || f.live || f.suspended || !bitOf c 57 then s
    else
      let s := s.until (max f.lastAt f.fellAt + fltSpan (fld c 31 30) (fld c 29 18))
      if fld c 17 14 ≤ s.recoveries n then (s.setFlt n { s.flt n with suspended := true }).logLeave n 2
      else
        let s := s.setFlt n { s.flt n with leaves := s.lmc :: ((s.flt n).leaves.take 15) }
        (s.logLeave n 1).faultLeave n false)

/-- FAULT_CLEAR (R431). -/
def execFaultClear (w : Writer) (n : Fin 512) (s : State) : Res :=
  .next (if s.fwOn then s.write w (Key.FLT_FAULT_COMMAND (n / 128) (n % 128)) 1
    (fun s => if (s.flt n).live then some .stateConflict else none)
    (fun s => if (s.flt n).inFault then (s.logLeave n 0).faultLeave n false else s) else s)

/-- FAULT_FORCE (R425): one synthetic occurrence, by role E in MAINT only. -/
def execFaultForce (w : Writer) (n : Fin 512) (s : State) : Res :=
  .next (if s.fwOn then s.write w (Key.FLT_FAULT_COMMAND (n / 128) (n % 128)) 2
    (fun s => if roleRank w.role < roleRank .engineer then some .roleDenied
      else if s.hub.mode ≠ .maint then some .stateConflict else none)
    (fun s => s.occurX n 0xFFFFFFFF true []) else s)

/-- FAULT_LATCH_RESET (R424). -/
def execFaultLatchReset (w : Writer) (n : Fin 512) (s : State) : Res :=
  .next (if s.fwOn then s.write w (Key.FLT_FAULT_COMMAND (n / 128) (n % 128)) 3 noCheck
    (fun s => s.setFlt n { s.flt n with latched := false, firstCause := 0, firstTime := 0 }) else s)

/-! ## The Crucible (R439 to R443) -/

/-- A storm's sources by occurrences lost, most first, ties by lower number (Table 16.13). -/
def mostLost : List (Nat × Nat) → List (Nat × Nat)
  | [] => []
  | e :: es => insert1 e (mostLost es)
where
  insert1 (e : Nat × Nat) : List (Nat × Nat) → List (Nat × Nat)
    | [] => [e]
    | x :: xs => if x.2 < e.2 ∨ (x.2 = e.2 ∧ e.1 < x.1) then e :: x :: xs else x :: insert1 e xs

/-- STORM_END (R432): the queue has drained empty and nothing has been lost for 10 ms. -/
def execStormEnd (s : State) : Res :=
  .next (if !s.logicOn || s.cru.storm.isEmpty || s.cru.queue.any (fun e => e.occurrence) then s
    else
      let s := s.until (s.cru.lastLoss + 10000000)
      let st := s.cru.storm
      let total := (st.map (·.2)).foldl (· + ·) 0
      let s := (s.log 3 0 (beBytes 4 (min total 0xFFFFFFFF) ++ beBytes 4 st.length ++
        ((mostLost st).take 8).flatMap (fun e => beBytes 2 e.1 ++ beBytes 2 (min e.2 65535)))).bump Key.FLT_STORMS
      { s with cru := { s.cru with storm := [] } })

/-- An entry's 64 bytes (Table 16.12). -/
def State.entryBytes (s : State) (e : CrEntry) : List Byte :=
  let b := beBytes 8 (ofSigned 64 e.ftime) ++ beBytes 2 (s.reg Key.CRU_BOOT) ++ beBytes 6 (e.lmcUs % 2 ^ 48) ++
    beBytes 4 (s.reg Key.CRU_SEQUENCE_NEXT * 4096 + e.cls * 512 + e.source) ++
    e.data.take 40 ++ List.replicate (40 - e.data.length) 0
  b ++ beBytes 4 (crc32 b)

/-- Words packed 20 bits each, most significant bit first: two words to five bytes (R442). -/
def packWords20 : List Nat → List Byte
  | a :: b :: r => beBytes 5 (a * 2 ^ 20 + b) ++ packWords20 r
  | [a] => beBytes 3 (a * 16)
  | [] => []

/-- The snapshot that a trigger entry fills (R442): own-window words of the turn SNAP_LAG turns before the last published
one, or the mirror's on a hub that does not publish. -/
def State.snapshot (s : State) (entry : List Byte) : List Byte :=
  let off := s.reg Key.CRU_SNAP_OFFSET
  let pub := s.reg Key.WIN_PUB_WORDS
  let n := min 768 (pub - off)
  let (turn, ws) : Nat × List Nat := match s.img.published with
    | some t =>
      let t := t - s.reg Key.CRU_SNAP_LAG
      (t, (List.range n).map (fun i => (((s.hist.find? (fun h => h.1 == t)).map (·.2)).getD []).getD (off + i) badNoSource))
    | none =>
      (s.turn, (List.range n).map (fun i => match s.ownWindow with
        | some w => (s.mirrorWord (64 * w.base + off + i)).1
        | none => badNoSource))
  let b := entry ++ beBytes 2 s.node ++ beBytes 2 pub ++ beBytes 2 off ++ beBytes 2 n ++ beBytes 4 turn ++
    List.replicate 52 0 ++ packWords20 ws
  b ++ List.replicate (2048 - b.length) 0

/-- CRUCIBLE_COMMIT (R440 to R442): the oldest entry goes to the next rolling-log slot under the next SEQUENCE, into the
pinned record that fills, and, for an opening trigger, with its snapshot. -/
def State.commitEntry (s : State) : State := match s.cru.queue with
  | [] => s
  | e :: rest =>
    let b := s.entryBytes e
    let slot := s.reg Key.CRU_LOG_NEXT
    let s := { s with cru := { s.cru with queue := rest, log := cellSet (fun _ => []) s.cru.log slot b } }
    let s := ((s.setReg Key.CRU_LOG_NEXT ((slot + 1) % 49152)).setReg Key.CRU_SEQUENCE_NEXT
      ((s.reg Key.CRU_SEQUENCE_NEXT + 1) % 2 ^ 20)).bump Key.CRU_COMMITTED
    let s := if e.opens then
        let snap := s.reg Key.CRU_SNAP_NEXT
        let s := { s with cru := { s.cru with filling := 16, snaps := cellSet (fun _ => []) s.cru.snaps snap (s.snapshot b) } }
        (s.setReg Key.CRU_SNAP_NEXT ((snap + 1) % 256)).setReg Key.CRU_PINNED_NEXT ((s.reg Key.CRU_PINNED_NEXT + 1) % 512)
      else s
    if s.cru.filling = 0 then s
    else
      let r := (s.reg Key.CRU_PINNED_NEXT + 511) % 512
      { s with cru := { s.cru with
          pinned := cellSet (fun _ => []) s.cru.pinned (16 * r + 16 - s.cru.filling) b, filling := s.cru.filling - 1 } }

/-- CRUCIBLE_COMMIT (R440). The Hob commits whether or not the logic die's firmware runs; other MRAM writes pause
(MRAM_WRITE_PAUSE, R491), which takes no time here. -/
def execCrucibleCommit (s : State) : Res := .next (match s.run with
  | .unpowered => s
  | _ => s.commitEntry)

/-- CRUCIBLE_TRIGGER_WRITE (R441). -/
def execCrucibleTriggerWrite (w : Writer) (v : Nat) (s : State) : Res :=
  .next (if s.fwOn then s.command w Key.CRU_TRIGGER v noCheck (fun s => s.trigger 6 0) else s)

/-! ## Perturbations (R445) -/

/-- Fields of a perturbation record (Table 16.15): B, DURATION, START. -/
def pertB (r : Nat) : Nat := octAt 16 r 8 4
def pertSpan (r : Nat) : Nat := octAt 16 r 12 2
def pertStart (r : Nat) : Bool := bitOf (octAt 16 r 14 1) 7

/-- The record lies inside Table 16.16. -/
def pertOk (r : Nat) : Bool :=
  let k := octAt 16 r 0 1
  let t := octAt 16 r 2 2
  let a := toSigned 32 (octAt 16 r 4 4)
  let b := pertB r
  let q := t - 0x8000
  decide (pertSpan r ≤ 3600) &&
    (if k = 1 then decide (t ≤ 3) && decide (0 ≤ a) && decide (a ≤ 10000)
     else if k = 2 then ((decide (t / 256 < 16) && decide (t % 256 < 25)) || (decide (0x8000 ≤ t) && decide (q < 152))) &&
       decide (1 ≤ a) && decide (a ≤ (b : Int) - 1) && decide (2 ≤ b) && decide (b ≤ 1000000)
     else if k = 3 then decide (t < 152)
     else if k = 4 then decide (t ≤ 1)
     else if k = 5 then t == 0 && decide (1 ≤ a) && decide (a ≤ 255) && decide (a + 1 ≤ (b : Int)) && decide (b ≤ 65535)
     else if k = 6 then t == 0 && decide (-1000000000 ≤ a) && decide (a ≤ 1000000000)
     else if k = 7 then t == 0 && decide (0 ≤ a) && decide (a ≤ 100000)
     else if k = 8 then decide (t < 32) && decide (1 ≤ a) && decide (a ≤ 65535)
     else if k = 9 then decide (t < 64) && decide (1 ≤ a) && decide (a ≤ 65535)
     else if k = 10 then decide (t < 16) && decide (0 ≤ a) && decide (a ≤ 1000)
     else false)

/-- Reserved bits of a perturbation record are ignored. -/
def pertMask (r : Nat) : Nat := r - octAt 16 r 1 1 * 256 ^ 14 - octAt 16 r 14 1 % 128 * 256 - octAt 16 r 15 1

/-- A perturbation entry (CLASS 7). -/
def State.logPert (s : State) (stop i : Nat) : State :=
  s.log 7 0 (beBytes 1 stop ++ beBytes 1 i ++ beBytes 16 (s.reg (Key.PSLOT_RECORD i)))

/-- The perturbation of slot `i` ends (R445). -/
def State.pertEnd (s : State) (i : Nat) : State :=
  if s.reg (Key.PSLOT_STATE i) = 0 then s
  else (((s.setReg (Key.PSLOT_STATE i) 0).setReg Key.PERT_RUNNING (s.reg Key.PERT_RUNNING - 1)).logPert 1 i)

/-- Every perturbation ends (R349, R445). -/
def State.pertEndAll (s : State) : State := (List.range 16).foldl State.pertEnd s

/-- The checks of R445 on a record that starts. -/
def pertCheck (i r : Nat) (s : State) : Option Abort :=
  if !pertOk r then some .valueRange
  else if (List.range 16).any (fun j => j != i && s.reg (Key.PSLOT_STATE j) == 1 &&
      octAt 16 (s.reg (Key.PSLOT_RECORD j)) 0 1 == octAt 16 r 0 1 && octAt 16 (s.reg (Key.PSLOT_RECORD j)) 2 2 == octAt 16 r 2 2) ∨
      ((octAt 16 r 0 1 = 4 ∨ octAt 16 r 0 1 = 5) ∧ s.role = .solo) then some .stateConflict
  else none

/-- A record write: with START it begins the perturbation, ending one that runs in the slot; without START it ends it. -/
def State.pertWrite (s : State) (w : Writer) (i v : Nat) : State :=
  let r := pertMask v
  let k := Key.PSLOT_RECORD i
  if pertStart r then
    s.write w k v (pertCheck i r) (fun s =>
      let s := ((s.pertEnd i).store k r).setReg (Key.PSLOT_STATE i) 1
      let s := s.setReg Key.PERT_RUNNING (s.reg Key.PERT_RUNNING + 1)
      let secs := if pertSpan r = 0 then s.reg Key.PERT_DEFAULT_S else pertSpan r
      { s with pertEnds := cellSet (fun _ => 0) s.pertEnds i (s.lmc + secs * 1000000000)
               pertCount := cellSet (fun _ => 0) s.pertCount i 0 }.logPert 0 i)
  else s.write w k v noCheck (fun s => (s.pertEnd i).store k r)

/-- PERTURBATION_START (R445). -/
def execPerturbationStart (w : Writer) (i : Fin 16) (v : Nat) (s : State) : Res :=
  .next (if s.fwOn && pertStart v then s.pertWrite w i v else s)

/-- PERTURBATION_STOP (R445). -/
def execPerturbationStop (w : Writer) (i : Fin 16) (v : Nat) (s : State) : Res :=
  .next (if s.fwOn && !pertStart v then s.pertWrite w i v else s)

/-- PERTURBATION_EXPIRY (R445). -/
def execPerturbationExpiry (i : Fin 16) (s : State) : Res :=
  .next (if !s.logicOn || s.reg (Key.PSLOT_STATE i) = 0 then s
    else (s.until (cellGet (fun _ => 0) s.pertEnds i.val)).pertEnd i)

/-- PERTURBATION_STOP_ALL (R445). -/
def execPerturbationStopAll (w : Writer) (v : Nat) (s : State) : Res :=
  .next (if s.fwOn then s.command w Key.PERT_STOP_ALL v noCheck State.pertEndAll else s)

end Sys2Proof.Machine
end

