-- ==== Sys2Proof/Machine/Events.lean ====
section
/-! DEFINITION. Event sources, claims and fences (chapter 14). Raising, assigning and firing are in Ops.lean. -/

namespace Sys2Proof.Machine

/-! ## Sources (R375 to R388) -/

/-- EVENT_RAISE (R376): an occurrence of a source that arises outside the commands of this table. -/
def execEventRaise (n : Fin 1024) (data : Nat) (s : State) : Res :=
  .next (if !s.logicOn || n.val = 0 then s else s.raise n (data % 2 ^ 64))

/-- The checks on a SOURCE_CFG (Table 14.2, R379, R387, R396). -/
def srcCfgCheck (n v : Nat) (s : State) : Option Abort :=
  let rem := fld v 54 51
  if rem ≠ 0 ∧ s.compat then some .compatDenied
  else if n = 0 then some .valueRange
  else if fld v 47 40 ≠ 0 ∧ (fld v 47 40 < 6 ∨ 31 < fld v 47 40) then some .valueRange
  else if fld v 49 48 ≠ fld (s.srcCfg n) 49 48 then some .valueRange
  else if rem ≠ 0 ∧ !s.feature 4 then some .versionUnsupported
  else none

/-- SOURCE_CFG_WRITE (R377): it takes effect at the next offer, so a PENDING source that has no target may be offered
now. -/
def execSourceCfgWrite (w : Writer) (n : Fin 1024) (v : Nat) (s : State) : Res :=
  let k := Key.SRC_SOURCE_CFG (n / 128) (n % 128)
  .next (if s.fwOn then s.write w k v (srcCfgCheck n v) (fun s => (s.store k v).settle) else s)

/-- {818}+k SOURCE_STATE of source `n` (Table 14.7). -/
def State.srcState (s : State) (n : Nat) : Nat :=
  let e := s.src n
  e.st * 2 ^ 30 + e.target * 2 ^ 27 + e.raises

/-- {804}+r OUTSTANDING: deliveries awaiting completion. -/
def State.outstanding (s : State) (r : Nat) : Nat := (s.srcsWith (fun e => e.st == 2 && e.target == 3 + r)).length

/-- CLAIM_READ (R381): the source is made ACTIVE at the local target; HOST reads it with its tag (Table 14.3). -/
def execClaimRead (t : Fin 3) (s : State) : Res :=
  .next (if !s.logicOn || !s.targetReady t then (if t.val = 2 ∧ s.logicOn then s.busRead 0 0x300 0 else s)
    else match s.claimable t with
    | none => if t.val = 2 then s.busRead 0 0x300 0 else s
    | some n =>
      let s' := (s.setSrc n { s.src n with st := 2, merged := 0, fired := false }).fireHost
      if t.val = 2 then s'.busRead 0 0x300 (cfgTag (s.srcCfg n) * 2 ^ 16 + n) else s')

/-- COMPLETE_WRITE (R381). -/
def execCompleteWrite (t : Fin 3) (v : Nat) (s : State) : Res :=
  let n := v % 1024
  .next (if !s.logicOn then s
    else if (s.src n).st = 2 ∧ (s.src n).target = t.val then s.completeSrc n
    else s.bump Key.EVT_BAD_COMPLETES)

/-- The remote target that a writer is: its station and client (R385). -/
def State.remOf (s : State) (p : Path) : List Nat := match p with
  | .dict station client _ => (List.range 4).filter (fun r =>
      s.reg (Key.REM_STATION r) == station && s.reg (Key.REM_CLIENT r) == client)
  | _ => []

/-- REMOTE_COMPLETE_WRITE (R385): only the target completes its outstanding delivery. -/
def execRemoteCompleteWrite (w : Writer) (v : Nat) (s : State) : Res :=
  let n := v % 1024
  .next (if s.fwOn then s.write w Key.EVT_REMOTE_COMPLETE v
    (fun s => if (s.src n).st = 2 ∧ (s.remOf w.path).any (fun r => (s.src n).target == 3 + r) ∧
        (s.src n).delivery = v / 2 ^ 16 % 65536 then none else some .stateConflict)
    (fun s => s.completeSrc n) else s)

/-- A remote delivery is withdrawn: the source is PENDING and unassigned, its merged raises with it. -/
def State.withdraw (s : State) (n : Nat) : State :=
  s.setSrc n { s.src n with st := 1, target := 7, again := false, fired := false }

/-- REOFFER_TIMEOUT (R386): the withdrawn source goes to the next ready target of its rotation. -/
def execReofferTimeout (n : Fin 1024) (s : State) : Res :=
  let e := s.src n
  .next (if !s.logicOn || e.st ≠ 2 || e.target < 3 || e.target = 7 then s
    else
      let s := s.until (e.offeredAt + s.reg Key.EVT_REOFFER_MS * 1000000)
      ((s.bump (Key.REM_REOFFERS (e.target - 3))).withdraw n).settle)

/-- Remote deliveries are withdrawn when REMOTE_EVENT is withdrawn, and on a hub that stops offering remotely (R387). -/
def State.remotesWithdraw (s : State) : State :=
  ((s.srcsWith (fun e => e.st == 2 && decide (3 ≤ e.target) && e.target != 7)).foldl State.withdraw s).settle

/-- HOST stops being ready (R383): unclaimed sources are assigned afresh, and claimed ones are completed and counted. -/
def State.hostUnready (s : State) : State :=
  let s := (s.srcsWith (fun e => e.st == 1 && e.target == 2)).foldl
    (fun s n => s.setSrc n { s.src n with target := 7, fired := false }) s
  let s := (s.srcsWith (fun e => e.st == 2 && e.target == 2)).foldl
    (fun s n => (s.completeSrc n).bump Key.EVT_FORCED_COMPLETES) s
  s.settle

/-- RAISE_WRITE (R375): software sources 896 to 1023. -/
def execRaiseWrite (w : Writer) (v : Nat) (s : State) : Res :=
  .next (if s.fwOn then s.write w Key.EVT_RAISE v
    (fun _ => if v % 1024 < 896 then some .valueRange else none)
    (fun s => s.raise (v % 1024) (v / 2 ^ 16 % 65536)) else s)

/-- SIDEBAND_ACK_WRITE: the bits written as 1 are cleared. -/
def execSidebandAckWrite (w : Writer) (k : Fin 16) (v : Nat) (s : State) : Res :=
  .next (if s.fwOn then s.write w (Key.SB_SIDEBAND_ACK k) v noCheck
    (fun s => s.setReg (Key.SB_SIDEBAND_PENDING k) (clearBits (s.reg (Key.SB_SIDEBAND_PENDING k)) v)) else s)

/-! ## Fences (R390 to R395) -/

/-- Fence slot `i`. -/
def State.fence (s : State) (i : Nat) : FenceSt := cellGet (fun _ => {}) s.fences i

/-- KIND and state of fence slot `i`. -/
def State.fenceKind (s : State) (i : Nat) : Nat := fld (s.reg (Key.FENCE_SLOT i)) 31 28
def State.fenceStat (s : State) (i : Nat) : Nat := fld (s.reg (Key.FENCE_SLOT i)) 27 24
def State.fenceTicket (s : State) (i : Nat) : Nat := fld (s.reg (Key.FENCE_SLOT i)) 15 0

/-- Slots whose fence is pending. -/
def State.fencesPending (s : State) : List Nat := (List.range 16).filter (fun i => s.fenceStat i == 1)

/-- The checks of R390. -/
def fenceCheck (kind ticket : Nat) (s : State) : Option Abort :=
  if s.fencesPending.length = 16 then some .busy
  else if s.fencesPending.any (fun i => s.fenceTicket i == ticket) then some .stateConflict
  else if kind = 4 ∧ !s.feature 5 then some .versionUnsupported
  else none

/-- The slot a new fence takes: a free one, or else the one that finished earliest. -/
def State.fenceSlot (s : State) : Nat :=
  match (List.range 16).find? (fun i => s.fenceStat i == 0) with
  | some i => i
  | none =>
    ((List.range 16).filter (fun i => s.fenceStat i != 1)).foldl (fun (b : Nat) i =>
      if b = 16 ∨ (s.fence i).doneOrder < (s.fence b).doneOrder then i else b) 16

/-- Copies that stand in an egress queue. -/
def SwQ.present (x : SwQ) : Nat :=
  x.frames.length + x.back.length + (x.pages.map List.length).foldl (· + ·) 0 + x.asm.length

/-- The fence's record: its order, and the marks of R391. -/
def State.fenceMark (s : State) : FenceSt :=
  { order := s.fenceOrder, issuedAt := s.lmc, gen := s.reg Key.GENERATION, issueFtime := s.ftime, records := s.recordsIn
    pans := s.queues.map (fun c => (c.1, c.2.total))
    panPackets := s.queues.filterMap (fun c => if s.qPriority (c.1 / 32) (c.1 % 32) then some (c.1, c.2.packets) else none)
    egress := s.sw.queues.map (fun c => (c.1, c.2.total)) }

/-- A fence is issued (R390). -/
def State.fenceIssue (s : State) (w : Writer) (kind ticket : Nat) (eff : State → State) : State :=
  s.write w Key.FENCE_ISSUE (kind * 2 ^ 28 + ticket) (fenceCheck kind ticket) (fun s =>
    let i := s.fenceSlot
    let s := { s with fences := cellSet (fun _ => {}) s.fences i s.fenceMark, fenceOrder := s.fenceOrder + 1 }
    let s := s.setReg (Key.FENCE_SLOT i) (kind * 2 ^ 28 + 2 ^ 24 + ticket)
    let s := (s.setReg Key.FENCE_PENDING (s.reg Key.FENCE_PENDING + 1)).bump Key.FENCE_ISSUED
    eff s)

/-- A write that an image fence held, or that may leave now, goes to the hub's own image engine through IMG and onto the
ring (R371, R392). -/
def State.sendWrite (s : State) (f : Frame) (own ring : Bool) : State :=
  if s.imageFence then { s with writeHeld := s.writeHeld ++ [(f, own, ring)] }
  else
    let s := if own then s.swOwn 12 { bytes := frameBytes f, fabric := some f } [18] f.prio else s
    if ring then s.originate f else s

/-- A fence completes with `result` 0 DONE or 1 TIMEOUT: its slot, source 1, and the writes an image fence held (R395). -/
def State.fenceDone (s : State) (i result : Nat) : State :=
  let kind := s.fenceKind i
  let ticket := s.fenceTicket i
  let s := s.setReg (Key.FENCE_SLOT i) (kind * 2 ^ 28 + (2 + result) * 2 ^ 24 + ticket)
  let s := s.setReg Key.FENCE_PENDING (s.reg Key.FENCE_PENDING - 1)
  let s := { s with fences := cellSet (fun _ => {}) s.fences i { s.fence i with doneOrder := s.fenceOrder }
                    fenceOrder := s.fenceOrder + 1 }
  let s := if result = 1 then s.bump Key.FENCE_TIMEOUTS else s
  let s := s.raise 1 (ticket * 2 ^ 48 + kind * 2 ^ 44 + result * 2 ^ 40)
  if kind = 2 then
    let held := s.writeHeld
    held.foldl (fun s h => s.sendWrite h.1 h.2.1 h.2.2) { s with writeHeld := [] }
  else s

/-- No earlier fence of the slot's KIND is pending, so it may complete (R395). -/
def State.fenceTurn (s : State) (i : Nat) : Bool :=
  s.fenceStat i == 1 && s.fencesPending.all (fun j => s.fenceKind j != s.fenceKind i || decide ((s.fence i).order ≤ (s.fence j).order))

/-- FENCE_ISSUE_LOCAL (R391). -/
def execFenceIssueLocal (w : Writer) (ticket : Fin 65536) (s : State) : Res :=
  .next (if s.fwOn then s.fenceIssue w 1 ticket id else s)

/-- FENCE_ISSUE_IMAGE (R392). -/
def execFenceIssueImage (w : Writer) (ticket : Fin 65536) (s : State) : Res :=
  .next (if s.fwOn then s.fenceIssue w 2 ticket id else s)

/-- FENCE_ISSUE_TABLE (R393). -/
def execFenceIssueTable (w : Writer) (ticket : Fin 65536) (s : State) : Res :=
  .next (if s.fwOn then s.fenceIssue w 3 ticket id else s)

/-- FENCE_ISSUE_RING (R394): the FENCE frame leaves by F1 only. -/
def execFenceIssueRing (w : Writer) (ticket : Fin 65536) (s : State) : Res :=
  .next (if s.fwOn then s.fenceIssue w 4 ticket (fun s => s.originate {
    kind := 7, prio := 0, dest := ringOf s.station * 1024 + 1023, tagged := s.flag Key.EVT_EVENT_AUTH
    payload := beBytes 1 0x10 ++ beBytes 1 4 ++ beBytes 2 ticket ++ beBytes 8 (ofSigned 64 s.ftime) }) else s)

/-- Ring 0 is enabled and DMA runs (Table 13.10). -/
def State.ring0On (s : State) : Bool :=
  bitOf (s.bar 0x24) 0 && bitOf (s.bar 0x108) 31

/-- The consumer of a Pan queue is disabled (R391): the port of a transmit queue, or HOST or a Ladle of a receive queue. -/
def State.consumerOff (s : State) (n q : Nat) : Bool :=
  if [2, 5, 7, 9, 11, 13, 15, 17, 19, 21, 23].contains q then !s.qPortOn n q
  else if s.qConsumer n q = 1 then s.reg Key.HOST_LINK == 0
  else if 2 ≤ s.qConsumer n q then !s.tunnelsOn.any (fun e => ladleOf e.1 == s.qConsumer n q - 2)
  else false

/-- Every marker of the fence has passed (R391). In arrival order a queue has passed once it has given up as many packets as
it had taken in by the issue; in priority order, once none of those then present is left. -/
def State.markersPassed (s : State) (i : Nat) : Bool :=
  let f := s.fence i
  (!s.ring0On || decide (f.records + s.records.length ≤ s.recordsIn)) &&
    f.pans.all (fun c =>
      let n := c.1 / 32
      let q := c.1 % 32
      let x := s.queue n q
      s.consumerOff n q || (match f.panPackets.find? (fun p => p.1 == c.1) with
        | some p => p.2.all (fun k => !x.packets.contains k)
        | none => decide (c.2 + x.packets.length ≤ x.total))) &&
    f.egress.all (fun c => !s.swUp (c.1 / 8) || decide (c.2 + (s.swq c.1).present ≤ (s.swq c.1).total))

/-- FENCE_LOCAL_DONE (R391). -/
def execFenceLocalDone (i : Fin 16) (s : State) : Res :=
  .next (if s.logicOn && s.fenceTurn i && s.fenceKind i == 1 && s.markersPassed i then s.fenceDone i 0 else s)

/-- An IMAGE_WRITE that the hub originated still waits inside it. -/
def State.writeWaits (s : State) : Bool :=
  let own (e : TxEntry) : Bool := e.frame.kind == 2 && !e.transit
  let isWrite (c : SwCopy) : Bool := match c.frame.fabric with
    | some f => f.kind == 2
    | none => false
  s.tx.any (fun c => c.2.waiting.any own || (match c.2.now with
    | some e => own e
    | none => false)) ||
    s.sw.queues.any (fun c => c.1 / 8 < 2 && (c.2.frames ++ c.2.back ++ c.2.pages.flatten ++ c.2.asm).any isWrite)

/-- FENCE_IMAGE_DONE (R392): at a_m + 1 µs, a_m the first apply instant at or after t + LAP_NS + 20 µs, where t is when the
last earlier IMAGE_WRITE left the egress, or the issue when none has been sent. -/
def execFenceImageDone (i : Fin 16) (s : State) : Res :=
  .next (if s.logicOn && s.fenceTurn i && s.fenceKind i == 2 && !s.writeWaits then
      let t := (s.writeSentAt.getD (s.fence i).issueFtime).toNat + s.reg Key.LINK_LAP_NS + 20000
      let off := s.reg Key.IMG_APPLY_OFFSET * s.turnT / 100
      let m := (t - off + s.turnT - 1) / s.turnT
      (s.untilFtime (s.applyAt m + 1000)).fenceDone i 0
    else s)

/-- FENCE_TABLE_DONE (R340, R393): nothing of a generation issued before the fence remains inside. -/
def execFenceTableDone (i : Fin 16) (s : State) : Res :=
  .next (if s.logicOn && s.fenceTurn i && s.fenceKind i == 3 &&
      s.insideGens.all (fun g => decide (s.genAge g ≤ s.genAge (s.fence i).gen)) then s.fenceDone i 0 else s)

/-- FENCE_RING_RETURN (R394): the Copper path strips the returning FENCE frame. -/
def execFenceRingReturn (ticket : Fin 65536) (s : State) : Res :=
  .next (if !s.logicOn then s else match s.fencesPending.find? (fun i => s.fenceKind i == 4 && s.fenceTicket i == ticket.val) with
    | some i => if s.fenceTurn i then s.fenceDone i 0 else s
    | none => s)

/-- FENCE_TIMEOUT (R395). -/
def execFenceTimeout (i : Fin 16) (s : State) : Res :=
  .next (if s.logicOn && s.fenceTurn i then
      (s.until ((s.fence i).issuedAt + s.reg Key.EVT_FENCE_TIMEOUT_MS * 1000000)).fenceDone i 1
    else s)

end Sys2Proof.Machine
end

