-- ==== Sys2Proof/Machine/Reads.lean ====
section
/-! DEFINITION. What a read of a dictionary object answers: the stored cell, the counter modulo its width, the value that
the hub computes from its state, or, where a read shows a measurement, a free value (R344, R345, R69). -/

namespace Sys2Proof.Machine

/-- A byte string as the number that an OCTETS value is kept as. -/
def octets (b : List Byte) : Nat := beNat b

/-- {320}+n QSTATUS of queue `q`: packets, width, FLUSHING and units in use. -/
def State.queueStatus (s : State) (n q : Nat) : Nat :=
  let x := s.queue n q
  min x.packets.length 65535 * 2 ^ 16 + s.qWidth n q * 2 ^ 11 + b2n x.flushing * 2 ^ 10 + min ((x.used + 31) / 32) 1023

/-- {2E0}+n ENTRIES: edges waiting in the capture queue, one packet each. -/
def State.captureEntries (s : State) (n : Nat) : Nat := (s.queue n 24).packets.length

/-- {201.06} STATE: 0 not placed, 1 publishing, 2 standby, 3 shed. -/
def State.windowState (s : State) : Nat :=
  if s.ownWindow.isNone then 0 else if s.role = .standby then 2 else if s.img.shed then 3 else 1

/-- {600}+b CURRENT without a measurement: its quality where the fuse carries none (Table 17.7). -/
def State.fuseQuality (s : State) (b : Nat) : Nat :=
  let st := s.reg (Key.BR_STATE b)
  if st = 0 then 0xB else if 4 ≤ st ∧ st ≤ 6 then 0xA else if s.fuseAtSafe b then 5 else 0

/-- Objects of the line, PX, CAN and RS-485 indices that a read computes. -/
def State.fieldRead (s : State) (i j : Nat) : Option Nat :=
  if 0x350 ≤ i ∧ i ≤ 0x35F then
    (if j = 1 then some (s.inPacked (i - 0x350)) else if j = 2 then some (s.outPacked (i - 0x350))
     else if j = 3 then some (s.loadSum (i - 0x350)) else none)
  else if 0x400 ≤ i ∧ i ≤ 0x4FF then
    (if j = 0x10 then some (s.lineState (i - 0x400)) else if j = 0x13 then some (s.lineStatus (i - 0x400))
     else if j = 0x15 then some (s.calState (i - 0x400)) else none)
  else if 0x500 ≤ i ∧ i ≤ 0x51F then
    (if j = 0x17 then some (s.busState (i - 0x500))
     else if 0x20 ≤ j ∧ j ≤ 0x6F then
      let m := (j - 0x20) / 5
      let f := (s.mailbox (i - 0x500) m).current
      (if (j - 0x20) % 5 = 1 then some (s.mbInfo (i - 0x500) m)
       else if (j - 0x20) % 5 = 2 then some ((f.map (fun f => ofSigned 64 f.time)).getD 0)
       else if (j - 0x20) % 5 = 3 then some (octets (s.mbData (i - 0x500) m))
       else if (j - 0x20) % 5 = 4 then some (mbValue f)
       else none)
     else none)
  else if 0x520 ≤ i ∧ i ≤ 0x54F then
    (if j = 0x17 then some (s.rsLineState (i - 0x520)) else if j = 0x18 then some (s.rsStatus (i - 0x520)) else none)
  else if 0x560 ≤ i ∧ i ≤ 0x59F then
    (if j = 0x0F then some (s.portState (i - 0x560)) else if j = 0x21 then some (s.iolStatus (i - 0x560)) else none)
  else if 0x5A0 ≤ i ∧ i ≤ 0x5BF then
    let w := i - 0x5A0
    let x := s.whisk w
    (if j = 0x02 then some x.st else if j = 0x37 then some x.step else if j = 0x38 then some x.cta
     else if j = 0x39 then some x.ctb else if j = 0x3A then some (s.valueCt w) else if j = 0x3B then some x.latest
     else if j = 0x3C then some (x.pa % 65536 * 65536 + x.pb % 65536)
     else if j = 0x3D then some (x.driven % 256 * 256 + x.levels % 256) else none)
  else if 0x5C0 ≤ i ∧ i ≤ 0x5FF then (if j = 5 then some (s.pxState (i - 0x5C0)) else none)
  else if 0x600 ≤ i ∧ i ≤ 0x63F then (if j = 0x0F then some (s.setpoint (i - 0x600)) else none)
  else none

/-- Objects of the switch, tunnel and generation indices that a read computes. -/
def State.switchRead (s : State) (i j : Nat) : Option Nat :=
  if i = 0x700 then
    (if j = 2 then some s.sharedFree else if j = 3 then some s.reservedCells else if j = 4 then some s.pagesUsed
     else if j = 5 then some s.pagesFree else if j = 7 then some (52428 - s.sw.samples.length) else none)
  else if 0x710 ≤ i ∧ i ≤ 0x722 then
    (if 9 ≤ j ∧ j ≤ 0x10 then
      let x := s.swq (8 * (i - 0x710) + (j - 9))
      some (x.cells * 2 ^ 48 + x.pages.length)
     else if j = 0x23 then some (s.swState (i - 0x710)) else none)
  else if 0x730 ≤ i ∧ i ≤ 0x737 ∧ 1 ≤ j then
    let x := s.meterNow (32 * (i - 0x730) + (j - 1))
    some ((x.counts ++ [x.tc, x.tp]).foldl (fun a c => a * 2 ^ 64 + c % 2 ^ 64) 0)
  else if 0x740 ≤ i ∧ i ≤ 0x74B ∧ j = 6 then some (s.gateState (i - 0x740))
  else if 0x770 ≤ i ∧ i ≤ 0x773 ∧ j = 1 then some (s.reservedUnits (i - 0x770) 1024)
  else if 0x790 ≤ i ∧ i ≤ 0x79F ∧ 1 ≤ j then some (s.tunStatus (64 * (i - 0x790) + (j - 1)))
  else if 0x7A0 ≤ i ∧ i ≤ 0x7AF ∧ 1 ≤ j then some (s.tunCounts (64 * (i - 0x7A0) + (j - 1)))
  else if i = 0x7F0 ∧ j = 2 then some s.oldestInside
  else if i = 0x7F0 ∧ j = 3 then some s.sw.retained.length
  else none

/-- Objects of the event, fault, policy and perturbation indices that a read computes. -/
def State.faultRead (s : State) (i j : Nat) : Option Nat :=
  if i = 0x800 ∧ j = 5 then some s.records.length
  else if 0x804 ≤ i ∧ i ≤ 0x807 ∧ j = 6 then some (s.outstanding (i - 0x804))
  else if 0x818 ≤ i ∧ i ≤ 0x81F ∧ 1 ≤ j then some (s.srcState (128 * (i - 0x818) + (j - 1)))
  else if i = 0x8C0 ∧ j = 2 then some s.fencesPending.length
  else if i = 0x900 ∧ j = 3 then some s.inFaults.length
  else if i = 0x900 ∧ j = 4 then some (s.cru.queue.filter (fun e => e.occurrence)).length
  else if i = 0x900 ∧ j = 7 then some (octets s.faultMap)
  else if 0x908 ≤ i ∧ i ≤ 0x90B ∧ 1 ≤ j then some (s.faultState (128 * (i - 0x908) + (j - 1)))
  else if 0x910 ≤ i ∧ i ≤ 0x913 ∧ 1 ≤ j then some (octets (s.faultDetail (128 * (i - 0x910) + (j - 1))))
  else if 0x948 ≤ i ∧ i ≤ 0x94B ∧ 1 ≤ j then
    let r := 32 * (i - 0x948) + (j - 1)
    let x := s.rule r
    let st := if !bitOf (s.ruleRec r / 256 ^ 23) 7 then 2 else b2n x.fired
    some (st * 256 ^ 15 + x.firings % 2 ^ 32 * 256 ^ 8 + x.refused % 2 ^ 32 * 256 ^ 4 + ofSigned 32 x.last)
  else if 0xF10 ≤ i ∧ i ≤ 0xF1F ∧ j = 3 then
    some (if s.reg (Key.PSLOT_STATE (i - 0xF10)) = 0 then 0
      else (cellGet (fun _ => 0) s.pertEnds (i - 0xF10) - s.lmc) / 1000000)
  else none

/-- What a read of object `k` computes from the state, where it does not show a stored cell. -/
def State.computed (s : State) (k : Nat) : Option Nat :=
  let i := k / 256
  let j := k % 256
  if k = Key.HUB_STATE ∨ k = Key.REC_HUB_STATE then some s.hubState
  else if k = Key.WIN_STATE then some s.windowState
  else if k = Key.TSTAT_FTIME_NOW then some (ofSigned 64 s.ftime)
  else if k = Key.TSTAT_LMC_NOW then some (s.lmc % 2 ^ 64)
  else if 0x2C4 ≤ i ∧ i ≤ 0x2C7 ∧ (j = 1 ∨ j = 2) then
    let c := portConst (s.link (i - 0x2C4)).attempt
    some (if j = 1 then c.1 else c.2)
  else if 0x2E0 ≤ i ∧ i ≤ 0x2EF ∧ j = 5 then some (s.captureEntries (i - 0x2E0))
  else if 0x310 ≤ i ∧ i ≤ 0x31F ∧ j = 0x1A then some (s.freeUnits (i - 0x310))
  else if 0x320 ≤ i ∧ i ≤ 0x32F ∧ 1 ≤ j then some (s.queueStatus (i - 0x320) (j - 1))
  else if 0x350 ≤ i ∧ i ≤ 0x63F then s.fieldRead i j
  else if 0x700 ≤ i ∧ i ≤ 0x7FF then s.switchRead i j
  else if 0x800 ≤ i ∧ i ≤ 0x9FF ∨ 0xF00 ≤ i then s.faultRead i j
  else if k = Key.TWST_ROLE then some s.role.code
  else if k = Key.TWST_POSITION then some (b2n s.straps.twinPosA)
  else if k = Key.COMPAT_STRAP then some (b2n s.straps.compat)
  else if k = Key.PWS_FIELD_BUDGET_MW then some s.fieldBudget
  else if 0xC10 ≤ i ∧ i ≤ 0xC1F ∧ j = 4 then some (s.panHolds (i - 0xC10))
  else if 0xC10 ≤ i ∧ i ≤ 0xC1F ∧ j = 6 then some (s.activePermille (i - 0xC10))
  else if k = Key.REC_LC_STATE then some (s.reg Key.LC_STATE)
  else if k = Key.REC_LOADER_VERSION then some (s.reg Key.ID_LOADER_VERSION)
  else if k = Key.REC_BOOT then some (s.reg Key.CRU_BOOT)
  else if k = Key.REC_STATION then some s.station
  else if k = Key.UPD_TRIAL_LEFT then
    some (if s.reg Key.UPD_PHASE ≠ 5 then 0
      else (s.boot.startedAt + s.reg Key.UPD_TRIAL_MIN * 60000000000 - s.lmc) / 1000000000)
  else none

/-- Objects that show a measurement at each read: supply voltages and temperatures, the currents of L+ switches and
branch fuses, and the I²t level. The spec gives a measurement no value, so a read answers a free one. -/
def State.measured (s : State) (k : Nat) : Bool :=
  let i := k / 256
  let j := k % 256
  (i == 0xC01 && (decide (1 ≤ j ∧ j ≤ 4) || j == 0x0A)) ||
    (decide (0x640 ≤ i ∧ i ≤ 0x67F) && j == 7) ||
    (decide (0x600 ≤ i ∧ i ≤ 0x63F) && (j == 0x10 || j == 0x0E)) ||
    (decide (0x110 ≤ i ∧ i ≤ 0x113) && j == 0x0E && s.up (i - 0x110))

/-- A free measurement of object `k`: within its width, and for a fuse current with the quality that Table 17.7 gives. -/
def State.measure (s : State) (k : Nat) : Nat × State :=
  let (x, s') := s.fresh
  let i := k / 256
  if 0x600 ≤ i ∧ i ≤ 0x63F ∧ k % 256 = 0x0E then
    let q := s.fuseQuality (i - 0x600)
    let v := x / 2 % 65536
    -- above 50 mV of sense the quality is UNCERTAIN_RANGE, where no stronger one applies
    let beyond : Bool := decide (50000000 < v * 10 * s.reg (Key.BR_SHUNT_UOHM (i - 0x600)))
    (word20 (if (q = 0 ∨ q = 5) ∧ beyond then (if q = 5 then 5 else 6) else q) v, s')
  else
    let size := match objRow k with
      | some r => r.size
      | none => 1
    (x % 2 ^ (8 * size), s')

/-- The value that object `k` reads as, apart from measurements. -/
def State.value (s : State) (k : Nat) : Nat :=
  match s.computed k with
  | some v => v
  | none => match objRow k with
    | none => 0
    | some r => if r.counter then (s.reg k + s.count k) % 2 ^ (8 * r.size) else s.reg k

/-- Object `k` is read. -/
def State.read (s : State) (k : Nat) : Nat × State := if s.measured k then s.measure k else (s.value k, s)

end Sys2Proof.Machine
end

