-- ==== Sys2Proof/Machine/Auth.lean ====
section
/-! DEFINITION. Verifying the tags of received frames, the epochs they carry, and the change of working key (R476, R477,
R481 to R484, R486). -/

namespace Sys2Proof.Machine

/-- The full number of the current turn. -/
def State.turnFull (s : State) : Nat := s.img.turn.getD s.turnNow

/-- A new working key is in force from full turn `turn`: EPOCH, ERA and EPOCH_TURN are set, the tag floor returns to 0 and
KEY_EPOCH_AGE ends (R480, R483, R485). -/
def State.newKey (s : State) (epoch era turn : Nat) : State :=
  (({ s with keys := { s.keys with epochTurn := turn, ahead := [], floor := 0 } }.setReg Key.KEY_EPOCH_ERA
    (era % 65536 * 256 + epoch % 256)).setReg Key.KEY_TAG_FLOOR 0).faultDown 0x0A3

/-- ERA that goes with epoch `e` when it lies ahead of the present one: it advances when EPOCH wraps (R475). -/
def State.eraOf (s : State) (e : Nat) : Nat := s.reg Key.KEY_EPOCH_ERA / 256 % 65536 + b2n (decide (e < s.epoch))

/-- A frame of another epoch has come: with 16 of one epoch, 1 to 16 ahead, within 1 s, whose tags that epoch's key all
verifies, a keyed hub adopts that key with EPOCH_TURN the current turn (R484). -/
def State.epochHeard (s : State) (e : Nat) (verifies : Bool) : State :=
  let d := (e + 256 - s.epoch) % 256
  if d = 0 ∨ 16 < d ∨ !s.flag Key.KEYED then s
  else
    let all := (s.lmc, e, verifies) :: (s.keys.ahead.filter (fun x => decide (s.lmc < x.1 + 1000000000)))
    let s := { s with keys := { s.keys with ahead := all } }
    let same := (all.filter (fun x => x.2.1 == e)).take 16
    if same.length = 16 ∧ same.all (fun x => x.2.2) then
      let era := s.eraOf e
      let s := s.newKey e era s.turnFull
      (if s.keys.next.isNone then s.setReg Key.KEY_EPOCH_TURN (s.turnFull % 2 ^ 32) else s).logRecord Key.KEY_EPOCH_ERA
        (beBytes 4 (s.reg Key.KEY_EPOCH_ERA))
    else s

/-- A frame of `kind` is discarded for its tag (`stale` false) or its epoch: counted, IMAGE frames in {208.07} and
IMAGE_WRITE frames there as well, with an occurrence of AUTH_REJECT (R481, Table 4.12). -/
def State.tagReject (s : State) (kind : Nat) (stale : Bool) : State :=
  let code : Abort := if stale then .epochStale else .authFail
  let s := if kind = 1 ∨ kind = 2 then s.bump Key.IMGCNT_AUTH_FAIL else s
  let s := if kind = 1 then s else s.bump (if stale then Key.KEY_EPOCH_DROPS else Key.KEY_AUTH_FAILS)
  s.occur 0x0A2 kind code.code

/-- A consumer verifies a frame's tag before it acts on it (R481, R486): the abort code of a discard, none when the frame
is taken. A frame without a tag is refused where `require` holds and the ring has AUTH (Table 18.5). -/
def State.tagTake (s : State) (fr : Frame) (tag : TagCheck) (require : Bool) : Option Abort × State :=
  if !fr.tagged then
    (if require && s.feature 2 then (some .authFail, s.tagReject fr.kind false) else (none, s))
  else if !s.flag Key.KEYED then (some .authFail, s.tagReject fr.kind false)
  else if fr.epoch ≠ s.epoch then
    (some .epochStale, (s.epochHeard fr.epoch (tag != .failing)).tagReject fr.kind true)
  else if tag = .valid then (none, s)
  else (some .authFail, s.tagReject fr.kind false)

end Sys2Proof.Machine
end

