-- ==== Sys2Proof/Machine/Image.lean ====
section
/-! DEFINITION. The image engine: turns, sampling and publishing, receiving IMAGE and IMAGE_WRITE frames, the apply
instant, snapshots, imports and forces (chapter 4). -/

namespace Sys2Proof.Machine

/-! ## Sampling (R93 to R97, R101, R412) -/

/-- Fabric words that one value of object `k` takes; none for a type that a map cannot bind (R97). -/
def mapWidth (k : Nat) : Option Nat := match objRow k with
  | none => none
  | some r => match r.ty with
    | .string => none
    | .array => none
    | .octets => if r.size ≤ 32 then some ((r.size + 1) / 2) else none
    | _ => some ((8 * r.size + 15) / 16 - if r.ty = .w20 then 1 else 0)

/-- Words that each object of a map entry's run takes: the width of those that exist, one when none does (R97). -/
def entWidth (e : Nat) : Nat :=
  ((List.range (entCount e)).findSome? (fun i => mapWidth ((entIndex e + i) * 256 + entSub e))).getD 1

/-- Words that an entry covers. -/
def entSpan (e : Nat) : Nat := entCount e * entWidth e

/-- The entry that covers offset `o`, the object there and the word of its value. -/
def entAt (es : List Nat) (o : Nat) : Option (Nat × Nat × Nat) :=
  match es.find? (fun e => decide (entOffset e ≤ o) && decide (o < entOffset e + entSpan e)) with
  | none => none
  | some e =>
    let w := entWidth e
    some (e, (entIndex e + (o - entOffset e) / w) * 256 + entSub e, (o - entOffset e) % w)

/-- The quality that the channel of object `k` reports, for a source that carries none of its own (R97). -/
def State.sourceQuality (s : State) (k : Nat) : Nat :=
  let i := k / 256
  let j := k % 256
  if 0x400 ≤ i ∧ i ≤ 0x4FF ∧ j = 0x11 then s.countQuality (i - 0x400)
  else if 0x500 ≤ i ∧ i ≤ 0x51F ∧ 0x20 ≤ j ∧ j ≤ 0x6F ∧ (j - 0x20) % 5 = 4 then s.mbQuality (i - 0x500) ((j - 0x20) / 5)
  else if 0x560 ≤ i ∧ i ≤ 0x59F ∧ (j = 0x16 ∨ j = 0x17) then s.iolQuality (i - 0x560) true
  else if 0x5A0 ≤ i ∧ i ≤ 0x5BF ∧ j = 0x3B then s.whiskQuality (i - 0x5A0) true
  else 0

/-- The word that offset `o` samples from its source, before forcing (R97). -/
def State.sourceWord (s : State) (es : List Nat) (o : Nat) : Nat × State :=
  match entAt es o with
  | none => (notPresent, s)
  | some (e, k, part) => match objRow k with
    | none => (badNoSource, s)
    | some r =>
      let (v, s) := s.read k
      if r.ty = .w20 then (v, s)
      else (word20 (s.sourceQuality k) (v / 2 ^ (16 * (entWidth e - 1 - part)) % 65536), s)

/-- A bad word carries the last value that it carried with bit 19 clear (R94). -/
def lastGoodWord (good : Cells Nat) (o w : Nat) : Nat :=
  if wQual w = 15 then notPresent else if 8 ≤ wQual w then word20 (wQual w) (cellGet (fun _ => 0) good o) else w

/-- One word of the own window as sampled: forced, held after a takeover, or from its source (R93, R94, R412). -/
def State.sampleWord (s : State) (es : List Nat) (o : Nat) : Nat × State :=
  match cellGet (fun _ => none) s.img.forces o with
  | some v => (word20 1 v, s)
  | none =>
    let (w, s) := s.sourceWord es o
    match cellGet (fun _ => none) s.img.held o with
    | none => (lastGoodWord s.img.lastGood o w, s)
    | some h =>
      if wQual w = 7 ∨ wQual w = 0xD then (if wQual h = 0 then word20 2 (wVal h) else h, s)
      else (lastGoodWord s.img.lastGood o w,
        { s with img := { s.img with held := cellSet (fun _ => none) s.img.held o none } })

/-- Words from offset `o` on, `n` of them, in order. -/
def State.sampleFrom (s : State) (es : List Nat) : Nat → Nat → List Nat × State
  | 0, _ => ([], s)
  | n + 1, o =>
    let (w, s) := s.sampleWord es o
    let good := if wQual w < 8 then cellSet (fun _ => 0) s.img.lastGood o (wVal w) else s.img.lastGood
    let (ws, s) := State.sampleFrom { s with img := { s.img with lastGood := good } } es n (o + 1)
    (w :: ws, s)

/-- The exponent whose turns the hub is to run: the root's once delivered, else its own (R99). -/
def State.wantedExp (s : State) : Nat :=
  if s.disc.root then s.reg Key.IMG_TURN_PERIOD_EXP else s.img.rootExp.getD (s.reg Key.IMG_TURN_PERIOD_EXP)

/-- The next boundary and the exponent in force from it: a new exponent begins at the first boundary of its period after
its adoption (R99); a keyed hub keeps the shorter period until the next rollover (R480). -/
def State.nextBoundary (s : State) : Nat × Nat :=
  let cur := s.turnExp
  let want := s.wantedExp
  let b := (s.now / turnNs cur + 1) * turnNs cur
  if s.img.exp.isNone then ((s.now / turnNs want + 1) * turnNs want, want)
  else if want = cur ∨ (cur < want ∧ s.flag Key.KEYED) then (b, cur)
  else
    let b' := (s.now / turnNs want + 1) * turnNs want
    if b' ≤ b then (b', want) else (b, cur)

/-- R that publications use: 1 without IMAGE_ROTATION, a rule's VALUE, else {200.03} (R107, R437). -/
def State.rotationNow (s : State) : Nat :=
  if !s.feature 0 then 1 else (s.policyActs 3 0).getD (s.reg Key.IMG_REFRESH_ROTATION)

/-- TURN_BOUNDARY (R98, R99, R101): FTIME reaches b_n, the inputs of turn n are sampled. -/
def execTurnBoundary (s : State) : Res :=
  if !s.fwOn then .next s
  else
    let (b, k) := s.nextBoundary
    let s := s.untilFtime b
    let n := b / turnNs k
    let (ws, s) := s.sampleFrom (s.mapEntries 0x202) (s.reg Key.WIN_PUB_WORDS) 0
    let held := if s.img.heldEnds ≤ n then [] else s.img.held
    .next ((({ s with img := { s.img with
        exp := some k, nextExp := if k = s.wantedExp then none else s.img.nextExp, turn := some n
        before := s.img.sampled, sampled := ws, rotation := s.rotationNow, held := held } }.setReg
      Key.IMG_RING_TURN_EXP k).setReg Key.IMG_TURN_NUMBER (n % 2 ^ 32)).faultLevel 0x040
      (s.img.rootExp.isSome && s.wantedExp != k && s.flag Key.KEYED ||
        (s.img.rootExp.isSome && !s.disc.root && s.reg Key.IMG_TURN_PERIOD_EXP != s.wantedExp)) s.node 0)

/-! ## Publishing (R105 to R108) -/

/-- Consistency groups of the own window: {204} GROUPS and every mapped source wider than 16 bits (R121). -/
def State.groups (s : State) : List (Nat × Nat) :=
  let declared := ((List.range 64).map (fun i => s.reg (Key.GROUPS_ENTRY i))).filterMap (fun g =>
    if fld g 4 0 = 0 then none else some (fld g 27 16, fld g 4 0))
  let wide := (s.mapEntries 0x202).flatMap (fun e =>
    if entWidth e ≤ 1 then [] else (List.range (entCount e)).map (fun i => (entOffset e + i * entWidth e, entWidth e)))
  declared ++ wide

/-- Offset `o` lies in the rotation slice of turn `n` (R105). -/
def inSlice (words rotation n o : Nat) : Bool :=
  let size := (words + rotation - 1) / rotation
  decide (n % rotation * size ≤ o) && decide (o < (n % rotation + 1) * size) && decide (o < words)

/-- Offset `o` is a delta word of the present turn (R105). -/
def State.isDelta (s : State) (o : Nat) : Bool := s.img.allDelta || s.img.sampled.getD o 0 != s.img.before.getD o 0

/-- Offset `o` is to be sent in turn `n`, by itself or with its group (R105, R106). -/
def State.toSend (s : State) (gs : List (Nat × Nat)) (n o : Nat) : Bool :=
  let words := s.img.sampled.length
  let one (i : Nat) : Bool := s.isDelta i || inSlice words s.img.rotation n i
  one o || gs.any (fun g => decide (g.1 ≤ o) && decide (o < g.1 + g.2) && (List.range g.2).any (fun i => one (g.1 + i)))

/-- Runs of consecutive set flags from offset `o` on: first offset and length. -/
def runsOf : List Bool → Nat → List (Nat × Nat)
  | [], _ => []
  | false :: fs, o => runsOf fs (o + 1)
  | true :: fs, o => match runsOf fs (o + 1) with
    | (p, c) :: rs => if p = o + 1 then (o, c + 1) :: rs else (o, 1) :: (p, c) :: rs
    | [] => [(o, 1)]

/-- Two runs separated by a single unsent word are merged (R106). -/
def mergeRuns : List (Nat × Nat) → List (Nat × Nat)
  | [] => []
  | (o, c) :: rs => match mergeRuns rs with
    | (p, d) :: more => if p = o + c + 1 then (o, c + 1 + d) :: more else (o, c) :: (p, d) :: more
    | [] => [(o, c)]

/-- Bytes of a run of `c` words: its header and its packed words (Table 4.5). -/
def runBytes (c : Nat) : Nat := 3 + (5 * c + 1) / 2

/-- A run may be cut after `c` words: no group lies across the cut (R106). -/
def cutOk (gs : List (Nat × Nat)) (o c : Nat) : Bool :=
  gs.all (fun g => decide (o + c ≤ g.1) || decide (g.1 + g.2 ≤ o + c))

/-- The longest prefix, of at most `c` words, that fits `room` bytes and ends outside every group. -/
def fitWords (gs : List (Nat × Nat)) (room o : Nat) : Nat → Nat
  | 0 => 0
  | c + 1 => if runBytes (c + 1) ≤ room ∧ cutOk gs o (c + 1) then c + 1 else fitWords gs room o c

/-- Runs packed into frames of `limit` payload bytes after a header of `head` bytes, at most 255 runs each, splitting a run
at the limit; `fuel` bounds the cuts. -/
def packRuns (gs : List (Nat × Nat)) (limit head : Nat) : Nat → List (Nat × Nat) → List (Nat × Nat) → Nat →
    List (List (Nat × Nat))
  | 0, _, cur, _ => [cur.reverse]
  | _ + 1, [], cur, _ => [cur.reverse]
  | n + 1, (o, c) :: rs, cur, used =>
    if runBytes c + used ≤ limit ∧ cur.length < 255 then packRuns gs limit head n rs ((o, c) :: cur) (used + runBytes c)
    else
      let k := if cur.length < 255 then fitWords gs (limit - used) o c else 0
      if k = 0 then cur.reverse :: packRuns gs limit head n ((o, c) :: rs) [] head
      else ((o, k) :: cur).reverse :: packRuns gs limit head n ((o + k, c - k) :: rs) [] head

/-- A run's bytes: header and packed words. -/
def runData (ws : List Nat) (r : Nat × Nat) : List Byte :=
  beBytes 3 (r.1 * 4096 + (r.2 - 1)) ++ packWords20 ((ws.drop r.1).take r.2)

/-- The payloads of a publication, in FRAME_INDEX order (Table 4.4); one frame with RUNS 0 when nothing is to be sent. -/
def imagePayloads (ws : List Nat) (fs : List (List (Nat × Nat))) : List (List Byte) :=
  (List.range fs.length).map (fun i =>
    let rs := fs.getD i []
    beBytes 1 (16 + b2n (i + 1 == fs.length) * 8) ++ beBytes 1 rs.length ++ beBytes 1 i ++ rs.flatMap (runData ws))

/-- `n` 20-bit words unpacked from a run's bytes. -/
def unpackWords20 : Nat → List Byte → List Nat
  | n + 2, a :: b :: c :: d :: e :: r =>
    beNat [a, b, c] / 16 :: (c.toNat % 16 * 65536 + beNat [d, e]) :: unpackWords20 n r
  | 1, a :: b :: c :: _ => [beNat [a, b, c] / 16]
  | _, _ => []

/-- `n` runs read from a payload; none when they do not fit it (R47, R111). -/
def readRuns : Nat → List Byte → Option (List (Nat × List Nat))
  | 0, _ => some []
  | n + 1, p =>
    if p.length < 3 then none
    else
      let h := beAt p 0 3
      let c := h % 4096 + 1
      if p.length < runBytes c then none
      else (readRuns n (p.drop (runBytes c))).map (fun rs => (h / 4096, unpackWords20 c (p.drop 3)) :: rs)

/-- One run enters the mirror (R109): the words and the low six bits of the turn, or a discarded run. -/
def State.mirrorRun (s : State) (w : Window) (turn : Nat) (r : Nat × List Nat) : State :=
  if w.words < r.1 + r.2.length then s.bump Key.IMGCNT_RUN_RANGE_ERR
  else
    { s with mirror := ((List.range r.2.length).foldl (fun m i =>
      cellSet (fun _ => none) m (64 * w.base + r.1 + i) (some (r.2.getD i 0, turn % 64))) s.mirror) }

/-- The full turn number of a TURN field, taken nearest to the window's present turn (R98). -/
def fullTurn (now turn : Nat) : Nat :=
  let d := (turn + 2 ^ 32 - now % 2 ^ 32) % 2 ^ 32
  if d < 2 ^ 31 then now + d else now + d - 2 ^ 32

/-- A window's record after a frame of full turn `t` from station `src` with its FRAME_INDEX and LAST (R112). -/
def Window.heard (w : Window) (t src index : Nat) (last : Bool) : Window :=
  let w := { w with lastHeard := some (max t (w.lastHeard.getD t)) }
  if w.turn.any (fun u => decide (t < u)) then w
  else
    let w := if w.turn = some t then w else { w with turn := some t, sender := src, frames := [], last := none }
    let w := { w with frames := if w.frames.contains index then w.frames else index :: w.frames
                      last := if last then some index else w.last }
    match w.last with
    | some n => if w.frames.length = n + 1 ∧ w.frames.all (fun i => decide (i ≤ n)) ∧ (w.lastComplete < t ∨ w.chainStart = 0) then
        { w with chainStart := if w.lastComplete + 1 = t ∧ w.chainStart ≠ 0 then w.chainStart else max t 1, lastComplete := t }
      else w
    | none => w

/-- The first frame of turn `t` shows that an unbroken chain has ended (R112). -/
def Window.chainEnds (w : Window) (t : Nat) : Bool :=
  w.chainStart != 0 && decide (w.lastComplete + 1 < t) &&
    (match w.turn with
    | some u => decide (u < t) && decide (u ≤ w.lastComplete + 1)
    | none => true)

/-- A window is replaced by its new record. -/
def State.setWindow (s : State) (w : Window) : State :=
  { s with img := { s.img with wins := s.img.wins.map (fun x => if x.key = w.key ∧ x.imported = w.imported then w else x) } }

/-- A frame of window `w` enters the mirror. -/
def State.imageEnter (s : State) (w : Window) (t src index : Nat) (last : Bool) (rs : List (Nat × List Nat)) : State :=
  let s := if w.chainEnds t then s.bump Key.IMGCNT_INCOMPLETE_TURNS else s
  (rs.foldl (fun s r => s.mirrorRun w t r) s).setWindow (w.heard t src index last)

/-- Payload `p` of an own publication: originated, counted, and entered into the own mirror. -/
def State.publishFrame (s : State) (n index : Nat) (last : Bool) (rs : List (Nat × Nat)) (p : List Byte) : State :=
  let words := (rs.map (fun r => r.2)).foldl (· + ·) 0
  let s := (s.originate { kind := 1, prio := 6, dest := ringOf s.station * 1024 + 1023, tagged := s.flag Key.IMG_IMAGE_AUTH
                          payload := p }).bump Key.IMGCNT_FRAMES_PUBLISHED
  let s := s.addCount Key.IMGCNT_WORDS_PUBLISHED words
  match s.ownWindow with
  | some w => s.imageEnter w n s.station index last (rs.map (fun r => (r.1, (s.img.sampled.drop r.1).take r.2)))
  | none => s

/-- PUBLISH_SLOT (R100, R105 to R108, R131): at b_n + S the node publishes; a shed node only counts the turn. -/
def execPublishSlot (s : State) : Res :=
  .next (match s.img.turn with
  | none => s
  | some n =>
    if !s.fwOn ∨ s.role = .standby ∨ s.station = 0 ∨ s.ownWindow.isNone ∨ s.img.slotDone = some n then s
    else
      let s := s.untilFtime ((n * s.turnT + s.reg Key.IMG_SLOT_OFFSET : Nat) : Int)
      let s := { s with img := { s.img with slotDone := some n } }
      if s.img.shed then s.bump Key.IMGCNT_SHED_TURNS
      else
        let gs := s.groups
        let ws := s.img.sampled
        let rs := mergeRuns (runsOf ((List.range ws.length).map (s.toSend gs n)) 0)
        let limit := if s.flag Key.IMG_IMAGE_AUTH && s.feature 2 then 1460 else 1476
        let fs := packRuns gs limit 3 (2 * ws.length + 4) rs [] 3
        let ps := imagePayloads ws fs
        let s := (List.range fs.length).foldl (fun s i =>
          s.publishFrame n i (i + 1 == fs.length) (fs.getD i []) (ps.getD i [])) s
        { s with
          img := { s.img with published := some n, allDelta := false }
          hist := ((n, ws) :: s.hist).take 64 })

/-- MAP_REBUILD_TIMEOUT (R104). -/
def execMapRebuildTimeout (s : State) : Res :=
  .next (match s.img.rebuildDue with
  | some t => if s.logicOn then (s.until t).mapRebuild else s
  | none => s)

/-! ## Receiving (R109 to R112, R535) -/

/-- The window that a SOURCE names, by node address and whether it is imported (R109). -/
def State.windowOf (s : State) (src : Nat) : Option Window :=
  if ringOf src = ringOf s.station then
    match s.announce (stationOf src) with
    | none => none
    | some a =>
      let key := if a.isB then src - 1 else src
      s.img.wins.find? (fun w => w.key == key && !w.imported)
  else
    match s.img.wins.find? (fun w => w.imported && w.key == src) with
    | some w => some w
    | none => s.img.wins.find? (fun w => w.imported && w.key + 1 == src)

/-- IMAGE_FRAME_RECEIVED (R109, R110, R535). -/
def execImageFrameReceived (f : Fin 4) (fr : Frame) (tag : TagCheck) (s : State) : Res :=
  let s := s.take f fr
  .next (if !s.logicOn then s
  else if beAt fr.payload 0 1 / 16 ≠ 1 then s.bump Key.IMGCNT_FORMAT_UNKNOWN
  else
    let (bad, s) := s.tagTake fr tag (s.flag Key.IMG_IMAGE_AUTH)
    if bad.isSome then s
    else match s.windowOf fr.source with
      | none => s.bump Key.IMGCNT_UNMAPPED_FRAMES
      | some w => match readRuns (beAt fr.payload 1 1) (fr.payload.drop 3) with
        | none => s.bump (Key.COUNT_MALFORMED f)
        | some rs =>
          let t := fullTurn (s.now / turnNs w.turnExp) fr.turn
          if w.turn = some t ∧ w.sender ≠ fr.source then s.bump Key.IMGCNT_TAKEOVER_DUP
          else (s.imageEnter w t fr.source (beAt fr.payload 2 1) (bitOf (beAt fr.payload 0 1) 3) rs).bump
            Key.IMGCNT_FRAMES_RECEIVED)

/-! ## Output writes (R116, R117, R120) -/

/-- The bound object has a safe state, to which a word with quality bit 19 commands it (R116, R195, R249, R285, R465). -/
def hasSafeState (k : Nat) : Bool :=
  let i := k / 256
  let j := k % 256
  (decide (0x400 ≤ i ∧ i ≤ 0x4FF) && j == 0x12) || (decide (0x350 ≤ i ∧ i ≤ 0x35F) && j == 2) ||
    (decide (0x5C0 ≤ i ∧ i ≤ 0x5FF) && j == 4) || (decide (0x600 ≤ i ∧ i ≤ 0x63F) && j == 0x0B) ||
    (decide (0x560 ≤ i ∧ i ≤ 0x59F) && (j == 0x18 || j == 0x19))

/-- What becomes of one word of an accepted run: it enters the pending buffer, drives nothing, or is rejected (R97, R116). -/
inductive WordFate where
  | enters | ignored | rejected
  deriving DecidableEq, Repr

/-- The fate of word `w` at subscribe offset `o`. -/
def wordFate (es : List Nat) (o w : Nat) : WordFate :=
  match entAt es o with
  | none => if wQual w = 0 ∨ 8 ≤ wQual w then .enters else .rejected
  | some (_, k, _) =>
    if (objRow k).isNone then .ignored
    else if wQual w = 0 ∨ (8 ≤ wQual w ∧ hasSafeState k) then .enters
    else .rejected

/-- Words, applied so far, rejected so far and a refused quality, over the runs of a write. -/
structure WriteSum where
  buf : Cells (Option Nat)
  applied : Nat := 0
  outside : Nat := 0
  rejected : Nat := 0
  deriving DecidableEq, Repr

/-- One run of a write: within the window each word has its fate; a run past the window is not applied. -/
def takeRun (es : List Nat) (limit : Nat) (a : WriteSum) (r : Nat × List Nat) : WriteSum :=
  if limit < r.1 + r.2.length then { a with outside := a.outside + r.2.length }
  else (List.range r.2.length).foldl (fun a i =>
    let w := r.2.getD i 0
    match wordFate es (r.1 + i) w with
    | .enters => { a with buf := cellSet (fun _ => none) a.buf (r.1 + i) (some w), applied := a.applied + 1 }
    | .ignored => a
    | .rejected => { a with rejected := a.rejected + 1 }) a

/-- The payload of an acknowledgement (Table 4.7). -/
def ackPayload (a : WriteAck) (turn : Nat) : List Byte :=
  [0x20] ++ beBytes 1 a.result ++ beBytes 2 a.tag ++ beBytes 4 (turn % 2 ^ 32) ++ beBytes 2 (min a.applied 65535) ++
    beBytes 2 (min a.rejected 65535)

/-- The ACTIVE or solo hub acknowledges a write (R120); one of the hub's own writes goes to the host through ring 1. -/
def State.sendAck (s : State) (turn : Nat) (a : WriteAck) : State :=
  if s.role = .standby then s
  else if a.writer = s.station ∨ a.writer = 0 then
    { s with host := { s.host with ring1 := s.host.ring1 ++ [(2, ackPayload a turn)] } }
  else s.originate { kind := 2, prio := 5, dest := a.writer, tagged := s.flag Key.KEY_WRITE_AUTH, payload := ackPayload a turn }

/-- A write frame that parses, in a state that accepts it (R116, R117). -/
def State.takeWrite (s : State) (fr : Frame) (rs : List (Nat × List Nat)) : State :=
  let n := s.turnNow
  let late : Bool := s.ftime.toNat == s.applyAt n && s.img.applied != some n
  let s := if s.applyAt n ≤ s.now then s.bump Key.IMGCNT_WRITES_DEFERRED else s
  let a := rs.foldl (takeRun (s.mapEntries 0x203) (s.reg Key.WIN_SUB_WORDS))
    { buf := if late then s.img.waitingNext else s.img.waiting }
  let s := s.addCount Key.IMGCNT_WRITE_REJECTS a.rejected
  let ack : WriteAck := { writer := fr.source, tag := beAt fr.payload 2 2, applied := a.applied
                          rejected := a.rejected + a.outside
                          result := if a.outside ≠ 0 then 2 else if a.rejected ≠ 0 then 3 else 0 }
  let acks := if bitOf (beAt fr.payload 0 1) 3 then [ack] else []
  if late then { s with img := { s.img with waitingNext := a.buf, acksNext := s.img.acksNext ++ acks } }
  else { s with img := { s.img with waiting := a.buf, acks := s.img.acks ++ acks } }

/-- IMAGE_WRITE_RECEIVED (R116, R117, R120, R535): a write from the ring (`f` 0 to 3) or from the hub's own host through
the IMG port (4); FORMAT 2 is an acknowledgement of one of the host's writes, which goes to ring 1. -/
def execImageWriteReceived (f : Fin 5) (fr : Frame) (tag : TagCheck) (s : State) : Res :=
  let s := s.take f fr
  let fmt := beAt fr.payload 0 1 / 16
  .next (if !s.fwOn then s
  else if fmt ≠ 1 ∧ fmt ≠ 2 then s.bump Key.IMGCNT_FORMAT_UNKNOWN
  else
    let (bad, s) := if f.val = 4 then (none, s) else s.tagTake fr tag (s.flag Key.KEY_WRITE_AUTH)
    if bad.isSome then s
    else if fmt = 2 then { s with host := { s.host with ring1 := s.host.ring1 ++ [(2, fr.payload)] } }
    else match readRuns (beAt fr.payload 1 1) (fr.payload.drop 4) with
      | none => if f.val = 4 then s else s.bump (Key.COUNT_MALFORMED f)
      | some rs =>
        if s.hub.mode = .init ∨ s.hub.mode = .preop then
          let s := s.bump Key.IMGCNT_WRITE_REJECTS
          if bitOf (beAt fr.payload 0 1) 3 then
            s.sendAck s.turnFull { writer := fr.source, tag := beAt fr.payload 2 2, result := 1
                                   rejected := (rs.map (fun r => r.2.length)).foldl (· + ·) 0 }
          else s
        else s.takeWrite fr rs)

/-! ## The apply instant (R115, R118, R119) -/

/-- The apply instant to come, by its turn: that of the present turn while it lies ahead or is being reached (R115). -/
def State.nextApply (s : State) : Nat :=
  let n := s.turnNow
  if s.now ≤ s.applyAt n ∧ s.img.applied ≠ some n then n else n + 1

/-- A refresh over the logic-to-field link (R17): the field die takes the retained output registers and the hold time (R18). -/
def State.refresh (s : State) : State :=
  if !s.field.powered then s
  else
    let back := s.field.holding || s.field.safe
    let s := { s with field := { s.field with
      refreshed := true, refreshAt := s.lmc, holdMs := s.reg Key.PWR_HOLD_TIME_MS, holding := false
      safe := s.field.safe && !s.holdsClaim && decide (s.role ≠ TwinRole.solo) } }
    let s := if back then s.unsteady else s
    ((List.range 64).foldl State.fuseSync s).faultDown 0x094

/-- Words of one object: bits 16i from the top of a value of `size` bytes replaced by a word's value field. -/
def putWord (size v part w : Nat) : Nat := setFld v (8 * size - 16 * part - 1) (8 * size - 16 * part - 16) (wVal w)

/-- One pending word is committed into the output register that it is bound to (R118). Words bound to other objects drive
nothing. -/
def State.commitWord (s : State) (es : List Nat) (o w : Nat) : State :=
  match entAt es o with
  | none => s
  | some (_, k, part) =>
    let i := k / 256
    let j := k % 256
    if !hasSafeState k ∨ (objRow k).isNone then s
    else if 0x400 ≤ i ∧ i ≤ 0x4FF then (s.setReg k w).lineWord (i - 0x400) w
    else if 0x350 ≤ i ∧ i ≤ 0x35F then (s.setReg k w).packedWord (i - 0x350) w (s.packedLines (i - 0x350))
    else if 0x5C0 ≤ i ∧ i ≤ 0x5FF then (s.setReg k w).pxWord (i - 0x5C0) w
    else if 0x600 ≤ i ∧ i ≤ 0x63F then (s.setReg k w).fuseWord (i - 0x600) w
    else
      let p := i - 0x560
      if 8 ≤ wQual w then s.setIol p { s.iol p with safeCmd := true }
      else s.pdOut p (j == 0x19) (putWord (if j = 0x19 then 4 else 32) (s.reg k) part w)

/-- An accepted OPERATE request takes effect (R348): Whisks with AUTOSTART start and saved gate lists are committed. -/
def State.enterOperate (s : State) : State :=
  if s.hub.opWaits ∧ (s.hub.mode = .preop ∨ s.hub.mode = .safe) ∧ !s.hubHeld then
    (s.setMode .operate .init 0).whisksAutostart.gatesAutocommit
  else { s with hub := { s.hub with opWaits := false } }

/-- APPLY_INSTANT (R117 to R120): at a_n all pending words are committed together, a waiting OPERATE request takes effect,
the field outputs are refreshed and the writers acknowledged. -/
def execApplyInstant (s : State) : Res :=
  if !s.fwOn then .next s
  else
    let n := s.nextApply
    let s := s.untilFtime (s.applyAt n)
    let es := s.mapEntries 0x203
    let words := s.img.waiting
    let acks := s.img.acks
    let s := { s with img := { s.img with
      waiting := s.img.waitingNext, waitingNext := [], acks := s.img.acksNext, acksNext := [], applied := some n
      committedAt := s.ftime } }
    let s := words.foldl (fun s c => match c.2 with
      | some w => s.commitWord es c.1 w
      | none => s) s
    let s := s.addCount Key.IMGCNT_WORDS_APPLIED words.length
    let s := if s.hub.opWaits then s.enterOperate else s
    .next (acks.foldl (fun s a => s.sendAck n a) s.refresh)

/-- APPLY_WAKE (R22): in OPERATE every Pan that owns subscribe words is asked to be ACTIVE 5 µs before the apply instant
and stays so until the apply is complete. -/
def execApplyWake (s : State) : Res :=
  if !s.fwOn ∨ s.hub.mode ≠ .operate then .next s
  else
    let a := s.applyAt s.nextApply
    .next ((List.range 16).foldl (fun s n => if s.panSubscribes n then s.panWindow n a else s) (s.untilFtime ((a : Int) - 7000)))

/-! ## Snapshots, BAR2 and imports (R122, R124, R127) -/

/-- SNAPSHOT_COMPLETE (R122, R367): the lanes of the running snapshot are taken in one instant and SEQ advances. -/
def execSnapshotComplete (s : State) : Res :=
  .next (match s.host.snap with
  | none => s
  | some (a, n) =>
    let s := (List.range n).foldl (fun t i => t.setBar (0x240 + 4 * i) (s.lane (a + i))) s
    { s.setBar 0x204 ((s.bar 0x204 % 65536 + 1) % 65536) with host := { s.host with snap := none } })

/-- BAR2_WRITE (R124): ignored and counted. -/
def execBar2Write (s : State) : Res := .next (if s.logicOn then s.bump Key.IMGCNT_BAR2_WRITES else s)

/-- Node addresses listed in {207} IMPORTS. -/
def State.imports (s : State) : List Nat := ((List.range 64).map (fun i => s.reg (Key.IMPORTS_ENTRY i))).filter (fun a => a != 0)

/-- A link-local MGMT frame over F3. -/
def State.sendF3 (s : State) (payload : List Byte) : State :=
  s.sendLocal 3 { version := s.reg Key.LINK_RING_VERSION, kind := 10, prio := 7, payload := payload }

/-- IMPORT_REQUEST_SEND (R127): every 100 ms, and on a change of the list. -/
def execImportRequestSend (s : State) : Res :=
  .next (if !s.fwOn ∨ !s.isCoupler ∨ s.imports.isEmpty then s
  else
    let s := match s.img.requestAt with
      | some t => if s.img.requestDue then s else s.until (t + 100000000)
      | none => s
    let l := s.imports
    { s with img := { s.img with requestAt := some s.lmc, requestDue := false } }.sendF3
      ([0x10] ++ beBytes 1 l.length ++ [0, 0] ++ l.flatMap (beBytes 2)))

/-- Addresses in an IMPORT_REQUEST. -/
def requestAddrs (p : List Byte) : List Nat := (List.range (min 64 (beAt p 1 1))).map (fun i => beAt p (4 + 2 * i) 2)

/-- SERIAL that the node of a window announced; 0 when it has not. -/
def State.serialOf (s : State) (key : Nat) : Nat := ((s.announce (stationOf key)).map (fun a => a.serial)).getD 0

/-- One 16-byte entry of an IMPORT_GRANT. -/
def State.grantEntry (s : State) (a : Nat) : List Byte :=
  match s.img.wins.find? (fun w => w.key == a) with
  | some w => beBytes 2 a ++ beBytes 2 w.words ++ beBytes 1 w.turnExp ++ [0x80, 0, 0] ++ beBytes 8 (s.serialOf a)
  | none => beBytes 2 a ++ [0, 0, 0, 0, 0, 0] ++ beBytes 8 0

/-- IMPORT_REQUEST_RECEIVED (R127): answered with IMPORT_GRANT; from then on the asked windows are passed to F3. -/
def execImportRequestReceived (f : Fin 4) (fr : Frame) (s : State) : Res :=
  let s := s.take f fr
  .next (if !s.fwOn ∨ !s.isCoupler ∨ f.val ≠ 3 then s
  else
    let l := requestAddrs fr.payload
    { s with img := { s.img with asked := l } }.sendF3
      ([0x11] ++ beBytes 1 l.length ++ [0, 0] ++ l.flatMap s.grantEntry))

/-- Windows granted by an IMPORT_GRANT, by node address. -/
def grantsOf (p : List Byte) : Cells (Option Announce) :=
  (List.range (min 64 (beAt p 1 1))).foldl (fun m i =>
    let e := p.drop (4 + 16 * i)
    if bitOf (beAt e 5 1) 7 then
      cellSet (fun _ => none) m (beAt e 0 2) (some { pubWords := beAt e 2 2, turnExp := beAt e 4 1, serial := beAt e 8 8, imageFlags := 0x80 })
    else m) []

/-- IMPORT_GRANT_RECEIVED (R127, R128): the granted windows are recorded for the proxies of the next round. -/
def execImportGrantReceived (f : Fin 4) (fr : Frame) (s : State) : Res :=
  let s := s.take f fr
  .next (if !s.fwOn ∨ !s.isCoupler ∨ f.val ≠ 3 then s
  else
    let v := s.reg Key.LINK_RING_VERSION
    let g := (grantsOf fr.payload).map (fun c => (c.1, c.2.map (fun a => { a with minVer := v, maxVer := v })))
    { s with img := { s.img with granted := g } })

/-! ## Forces (R92, Table 4.11) -/

/-- FORCED_COUNT follows the forced words. -/
def State.setForces (s : State) (m : Cells (Option Nat)) : State :=
  { s with img := { s.img with forces := m } }.setReg Key.FORCED_COUNT m.length

/-- Every force is released. -/
def State.releaseForces (s : State) : State := s.setForces []

/-- FORCE_WORD: logged in the Crucible; an offset beyond the window is refused. -/
def execForceWord (w : Writer) (s : State) : Res :=
  .next (if !s.fwOn then s else s.write w Key.FORCE_COMMAND 1
    (fun s => if s.reg Key.WIN_PUB_WORDS ≤ s.reg Key.FORCE_OFFSET then some .valueRange else none)
    (fun s => (s.setForces (cellSet (fun _ => none) s.img.forces (s.reg Key.FORCE_OFFSET)
      (some (s.reg Key.FORCE_VALUE)))).logRecord Key.FORCE_COMMAND
        (beBytes 2 (s.reg Key.FORCE_OFFSET) ++ beBytes 2 (s.reg Key.FORCE_VALUE))))

/-- FORCE_RELEASE: FORCE_OFFSET's force ends. -/
def execForceRelease (w : Writer) (s : State) : Res :=
  .next (if !s.fwOn then s else s.write w Key.FORCE_COMMAND 2 noCheck
    (fun s => s.setForces (cellSet (fun _ => none) s.img.forces (s.reg Key.FORCE_OFFSET) none)))

/-- FORCE_RELEASE_ALL. -/
def execForceReleaseAll (w : Writer) (s : State) : Res :=
  .next (if !s.fwOn then s else s.write w Key.FORCE_COMMAND 3 noCheck State.releaseForces)

end Sys2Proof.Machine
end

