-- ==== Sys2Proof/Machine/Host.lean ====
section
/-! DEFINITION. Hub states on request, persistence, and the host port: mailbox completion, snapshots, DMA rings, image-write
staging and transmit descriptors (chapter 13). -/

namespace Sys2Proof.Machine

/-! ## Hub states (R347 to R349) -/

/-- SAFE_CAUSE of a state other than SAFE: 3 while the parameters are lost (R361), else 0. -/
def State.lostCause (s : State) : Nat := if s.hub.paramsLost then 3 else 0

/-- The role that a request code asks for beyond the object's own letter (Table 13.4). -/
def State.needs (s : State) (w : Writer) (r : Role) : Option Abort := if s.roleOk w r then none else some .roleDenied

/-- The hub is in one of these states, else STATE_CONFLICT (Table 13.4). -/
def State.allowedFrom (s : State) (ms : List HubMode) : Option Abort :=
  if s.hub.mode ∈ ms then none else some .stateConflict

/-- STATE_REQUEST_PREOP. -/
def execStateRequestPreop (w : Writer) (s : State) : Res :=
  .next (if s.fwOn then s.write w Key.HUB_STATE_REQUEST 1 (fun s => s.allowedFrom [.operate, .safe])
    (fun s => s.setMode .preop .init s.lostCause) else s)

/-- The checks of request 2: a fault reaction that holds SAFE refuses it, and so do lost parameters below role S (R361). -/
def operateCheck (w : Writer) (s : State) : Option Abort :=
  (s.allowedFrom [.preop, .safe]).or (if s.hubHeld || (s.hub.paramsLost && !s.roleOk w .service) then some .stateConflict
    else none)

/-- STATE_REQUEST_OPERATE: it takes effect at the next apply instant (R119); from role S it lifts PARAMS_LOST (R361). -/
def execStateRequestOperate (w : Writer) (s : State) : Res :=
  .next (if s.fwOn then s.write w Key.HUB_STATE_REQUEST 2 (operateCheck w)
    (fun s => { s with hub := { s.hub with
      opWaits := true, paramsLost := false, cause := if s.hub.mode = .safe then s.hub.cause else 0 } }) else s)

/-- STATE_REQUEST_SAFE. -/
def execStateRequestSafe (w : Writer) (s : State) : Res :=
  .next (if s.fwOn then s.write w Key.HUB_STATE_REQUEST 3 (fun s => s.allowedFrom [.operate])
    (fun s => s.setMode .safe .init 1) else s)

/-- {022.03} MAINT_OWNER for a requester. -/
def ownerWord : Path → Nat
  | .dict station client _ => station % 65536 * 65536 + client % 16 * 4096
  | _ => 1

/-- STATE_REQUEST_OPEN_MAINT: the session belongs to the requester, and the Crucible records it. -/
def execStateRequestOpenMaint (w : Writer) (s : State) : Res :=
  .next (if s.fwOn then s.write w Key.HUB_STATE_REQUEST 4
    (fun s => (s.needs w .engineer).or (s.allowedFrom [.preop, .operate, .safe]))
    (fun s =>
      let s := s.setMode .maint s.hub.mode s.hub.cause
      let s := { s with hub := { s.hub with owner := some w.path, touched := s.lmc } }
      (s.setReg Key.HUB_MAINT_OWNER (ownerWord w.path)).logRecord Key.HUB_MAINT_OWNER (beBytes 4 (ownerWord w.path))) else s)

/-- The session closes: forces released, perturbations ended, BYP_COMMAND and REVERT_PAUSE cleared, and the hub goes to
RETURN_STATE, or to SAFE where a fault reaction demands it (R349, R419). -/
def State.closeSession (s : State) : State :=
  let s := (((s.releaseForces.pertEndAll.setReg Key.BYP_COMMAND 0).bypUpdate).setReg Key.TWIN_REVERT_PAUSE 0)
  let back := s.hub.ret
  let s := if s.hubHeld then s.setMode .safe .init 2
    else s.setMode back .init (if back = .safe then s.hub.cause else s.lostCause)
  let s := { s with hub := { s.hub with owner := none } }
  (s.setReg Key.HUB_MAINT_OWNER 0).logRecord Key.HUB_MAINT_OWNER (beBytes 4 0)

/-- STATE_REQUEST_CLOSE_MAINT: by the owner, or by role S and above. -/
def execStateRequestCloseMaint (w : Writer) (s : State) : Res :=
  .next (if s.fwOn then s.write w Key.HUB_STATE_REQUEST 5
    (fun s => (s.needs w .engineer).or ((s.allowedFrom [.maint]).or
      (if s.hub.owner.any (fun o => samePath o w.path) || s.roleOk w .service then none else some .roleDenied)))
    State.closeSession else s)

/-- STATE_REQUEST_RESET: the reset takes place 10 ms after the response. -/
def execStateRequestReset (w : Writer) (s : State) : Res :=
  .next (if s.fwOn then s.write w Key.HUB_STATE_REQUEST 6 (fun s => s.needs w .service)
    (fun s => { s with hub := { s.hub with resetDue := some (s.lmc + 10000000, .commanded) } }) else s)

/-- AUTO_OPERATE_ENTRY (R348): once after reset, from PREOP, when the hub holds a station and nothing holds it out of
OPERATE. -/
def execAutoOperateEntry (s : State) : Res :=
  .next (if s.fwOn && !s.hub.autoDone && s.flag Key.HUB_AUTO_OPERATE && s.station != 0 && !s.hubHeld && !s.hub.paramsLost &&
      decide (s.hub.mode = .preop) then
    { s with hub := { s.hub with autoDone := true, opWaits := true } }.enterOperate
  else s)

/-- MAINT_IDLE_EXPIRY (R349). -/
def execMaintIdleExpiry (s : State) : Res :=
  .next (if s.fwOn ∧ s.hub.mode = .maint then
    (s.until (s.hub.touched + s.reg Key.HUB_MAINT_IDLE * 1000000000)).closeSession
  else s)

/-! ## Persistence (R359 to R363) -/

/-- Values of every persistent object that differ from their defaults: what a copy's records hold, an object that no record
names having its default (R361). -/
def State.persistent (s : State) : Cells Nat := s.regs.filter (fun c => objIsPersistent c.1)

/-- The copy that a SAVE writes (R359): the migrated one while it awaits confirmation, else the one that does not hold the
newest valid set. -/
def State.saveTarget (s : State) : Nat :=
  let a := s.reg Key.PARAM_ACTIVE_COPY
  if s.reg Key.PARAM_MIGRATION ≠ 0 ∧ (if a = 1 then s.boot.copy1 else s.boot.copy2).any (fun c => c.state == 1) then a
  else if a = 1 then 2 else 1

/-- A SAVE begins: it takes the values as they stand (R359). -/
def State.saveStart (s : State) (p : Path) : State :=
  { s with boot := { s.boot with saving := some ⟨p, s.persistent, s.saveTarget⟩ } }.setReg Key.PARAM_DIRTY 0

/-- SAVE (R359, R414): the response follows completion; the peer gets the SAVE as well. -/
def execSave (w : Writer) (v : Nat) (s : State) : Res :=
  .next (if !s.fwOn then s
    else if v ≠ 1 then s.command w Key.PARAM_SAVE v noCheck id
    else match s.permit w Key.PARAM_SAVE v with
      | some a => s.refuse w Key.PARAM_SAVE a
      | none =>
        if s.boot.saving.isSome then s.refuse w Key.PARAM_SAVE .busy
        else
          let s := s.touch w.path
          let s := if s.role = .active ∧ w.path ≠ .peer then s.sendSync Key.PARAM_SAVE [1] else s
          s.saveStart w.path)

/-- Copy `n` of the parameter set. -/
def State.copy (s : State) (n : Nat) : Option ParamCopy := if n = 1 then s.boot.copy1 else s.boot.copy2

/-- Copy `n` becomes `c`. -/
def State.setCopy (s : State) (n : Nat) (c : Option ParamCopy) : State :=
  { s with boot := if n = 1 then { s.boot with copy1 := c } else { s.boot with copy2 := c } }

/-- The parameters are no longer lost: PARAMS_LOST's condition ends, and SAFE_CAUSE 3 with it (R361). -/
def State.paramsFound (s : State) : State :=
  { s with hub := { s.hub with paramsLost := false, cause := if s.hub.cause = 3 then 0 else s.hub.cause } }.faultDown 0x068

/-- SAVE_COMPLETE (R360): records first, header last; the copy becomes the newest valid one and SAVE answers. -/
def execSaveComplete (s : State) : Res :=
  .next (match s.boot.saving with
  | none => s
  | some x =>
    if !s.fwOn then s
    else
      let n := ((s.copy (3 - x.copy)).map (fun c => c.sequence)).getD 0 + 1
      let s := s.setCopy x.copy (some {
        layout := s.reg Key.ID_LAYOUT_VERSION, state := ((s.copy x.copy).map (fun c => c.state)).getD 0 *
          b2n (x.copy == s.reg Key.PARAM_ACTIVE_COPY)
        sequence := n % 2 ^ 32, fw := s.reg Key.ID_FIRMWARE_VERSION, written := s.ftime, records := x.records })
      let s := { s with boot := { s.boot with saving := none } }
      let s := ((s.setReg Key.PARAM_ACTIVE_COPY x.copy).setReg Key.PARAM_SEQUENCE (n % 2 ^ 32)).setReg Key.PARAM_LAST_SAVE
        (ofSigned 64 s.ftime)
      (s.bump Key.PARAM_SAVES).paramsFound.answer x.path Key.PARAM_SAVE none [])

/-- Every persistent object takes its default in the running configuration (R363), and what follows a configuration
follows: tunnels close, output modes, edge ports and L+ switches take their default settings. -/
def State.restoreDefaults (s : State) : State :=
  let changed := !s.persistent.isEmpty
  let s := { s with regs := s.regs.filter (fun c => !objIsPersistent c.1), sw := { s.sw with tunnels := [] } }
  let s := (List.range 8).foldl State.edgeSync s
  let s := (List.range 64).foldl State.lpSync s
  let s := (List.range 64).foldl State.fuseSync s
  let s := s.releaseForces
  if changed then s.setReg Key.PARAM_DIRTY 1 else s

/-- RESTORE_DEFAULTS (R363): in PREOP only; nothing reaches the MRAM until a SAVE. -/
def execRestoreDefaults (w : Writer) (v : Nat) (s : State) : Res :=
  .next (if s.fwOn then s.command w Key.PARAM_RESTORE_DEFAULTS v noCheck State.restoreDefaults else s)

/-! ## The mailbox's end (R366) -/

/-- A response's bytes: the request's header with RESPONSE set, the abort code and the data (Table 13.5). -/
def respond (req : List Byte) (a : Option Abort) (data : List Byte) : List Byte :=
  beBytes 1 (beAt req 0 1) ++ beBytes 1 (beAt req 1 1 ||| 0x80) ++ beBytes 8 (beAt req 2 8) ++
    beBytes 2 ((a.map Abort.code).getD 0) ++ List.replicate 8 0 ++ data

/-- The mailbox transaction ends: BUSY clears, DONE is set with ABORT, and vector 0 fires. -/
def State.mailboxDone (s : State) (abort : Nat) (resp : List Byte) : State :=
  let s := (s.setBar 0x404 (2 ^ 30 + abort)).setBar 0x40C resp.length
  let s := { s with dict := { s.dict with transfers := s.dict.transfers.filter (fun t => decide (t.path ≠ Path.mailbox)) } }
  { s with host := { s.host with mbx := none, respBytes := resp }, msix := s.msix ++ [0] }

/-- MAILBOX_RESPONSE (R366): the response of a local transaction, once the dictionary has answered it, or the frame from the
ring that answers a remote one, by its RESPONSE flag, CLIENT and TID; segments and ACKs are no answers. -/
def execMailboxResponse (f : Fin 4) (fr : Frame) (s : State) : Res :=
  .next (match s.host.mbx with
  | none => s
  | some m =>
    if !s.logicOn then s
    else if m.dest = 0 then
      (match (s.answers.drop m.seen).find? (fun a => decide (a.path = .mailbox)) with
       | none => s
       | some a => s.mailboxDone ((a.abort.map Abort.code).getD 0) (respond m.req a.abort a.data))
    else
      let p := fr.payload
      if fr.kind = 3 ∧ bitOf (beAt p 1 1) 7 ∧ beAt p 0 1 % 16 ≠ 5 ∧ beAt p 0 1 % 16 ≠ 6 ∧ beAt p 2 1 / 16 = beAt m.req 2 1 / 16 ∧ beAt p 4 2 = beAt m.req 4 2 ∧
          fr.source = m.dest ∧ 20 ≤ p.length then
        (s.take f fr).mailboxDone (beAt p 10 2) p
      else s)

/-- MAILBOX_TIMEOUT (R366): the host-port hardware sets DONE with ABORT TIMEOUT. -/
def execMailboxTimeout (s : State) : Res :=
  .next (match s.host.mbx with
  | none => s
  | some m =>
    if !s.logicOn then s
    else ((s.until (m.startedAt + s.bar 0x41C * 1000000)).mailboxDone Abort.timeout.code []).bump Key.DICT_TIMEOUTS)

/-- MAILBOX_DONE_CLEAR: a write of 1 to DONE clears it. -/
def execMailboxDoneClear (s : State) : Res := .next (if s.logicOn then s.setBar 0x404 (setBit (s.bar 0x404) 30 false) else s)

/-! ## Snapshots and latched reads (R122, R367, R132, R133) -/

/-- SNAPSHOT_GO: ignored and counted while BUSY; a range past the mirror's end takes nothing. -/
def execSnapshotGo (v : Nat) (s : State) : Res :=
  let a := fld v 19 0
  let n := fld v 27 24
  .next (if !s.logicOn then s
    else if s.host.snap.isSome then s.bump Key.HOST_SNAP_IGNORED
    else
      let s := s.setBar 0x200 (n * 2 ^ 24 + a)
      if 2 ^ 20 ≤ a + n then s.setBar 0x204 (2 ^ 30 + s.bar 0x204 % 65536)
      else { s.setBar 0x204 (2 ^ 31 + s.bar 0x204 % 65536) with host := { s.host with snap := some (a, n + 1) } })

/-- FTIME_LO_READ: the read answers the low half and latches the high half. -/
def execFtimeLoRead (s : State) : Res :=
  let t := ofSigned 64 s.ftime
  .next (if s.logicOn then (s.setBar 0x14 (t / 2 ^ 32)).busRead 0 0x10 (t % 2 ^ 32) else s)

/-- LMC_LO_READ: the read answers the low half and latches the high half. -/
def execLmcLoRead (s : State) : Res :=
  let t := s.lmc % 2 ^ 64
  .next (if s.logicOn then (s.setBar 0x1C (t / 2 ^ 32)).busRead 0 0x18 (t % 2 ^ 32) else s)

/-! ## Watchdog and readiness (R370, R383) -/

/-- WATCHDOG_KICK. -/
def execWatchdogKick (s : State) : Res :=
  .next (if s.logicOn then { s with host := { s.host with kickAt := some s.lmc } } else s)

/-- Register 0x0024 becomes `v`: HOST's readiness moves its sources (R380, R383); enabling the watchdog starts its time. -/
def State.hostControl (s : State) (v : Nat) : State :=
  let was := s.hostReady
  let s := if bitOf v 2 && !bitOf (s.bar 0x24) 2 then { s with host := { s.host with kickAt := some s.lmc } } else s
  let s := s.setBar 0x24 (v % 8)
  if was && !s.hostReady then s.hostUnready else if !was && s.hostReady then s.settle else s

/-- HOST_READY_WRITE: the write of register 0x0024, HOST_READY in bit 1. -/
def execHostReadyWrite (v : Fin 8) (s : State) : Res := .next (if s.logicOn then s.hostControl v else s)

/-- WATCHDOG_EXPIRY: a gap longer than WDOG_MS clears HOST_READY and raises HOST_WATCHDOG. -/
def execWatchdogExpiry (s : State) : Res :=
  .next (match s.host.kickAt with
  | none => s
  | some t =>
    if !s.logicOn || !bitOf (s.bar 0x24) 2 || s.reg Key.HOST_WDOG_MS == 0 then s
    else
      let s := s.until (t + s.reg Key.HOST_WDOG_MS * 1000000)
      let s := { s with host := { s.host with kickAt := none } }
      (s.hostControl (setBit (s.bar 0x24) 1 false)).occur 0x060 0 0)

/-! ## DMA rings (R368, R369) -/

/-- DMA ring `r`. -/
def State.ring (s : State) (r : Nat) : RingSt := cellGet (fun _ => {}) s.host.rings r

/-- DMA ring `r` becomes `x`. -/
def State.setRing (s : State) (r : Nat) (x : RingSt) : State :=
  { s with host := { s.host with rings := cellSet (fun _ => {}) s.host.rings r x } }

/-- Slot bytes of ring `r`. -/
def slotBytes (r : Nat) : Nat := if r = 0 then 32 else if r = 1 then 4096 else 320

/-- Register 0x2C: TX_ERR stays until the link goes down; RING_ERR shows an enabled ring of illegal size. -/
def State.ringErr (s : State) : State :=
  s.setBar 0x2C (setBit (s.bar 0x2C) 2
    ((List.range 3).any (fun r => bitOf (s.bar (ringAt r 0x108)) 31 && !s.ringOk r)))

/-- RING_ENABLE_WRITE: enabling sets HEAD to TAIL and starts the first pass. An illegal size is a misconfigured ring. -/
def execRingEnableWrite (r : Fin 3) (v : Nat) (s : State) : Res :=
  .next (if !s.logicOn then s
    else
      let was := bitOf (s.bar (ringAt r 0x108)) 31
      let s := s.setBar (ringAt r 0x108) (v / 2 ^ 31 % 2 * 2 ^ 31 + v % 32)
      let s := if !was && bitOf v 31 then
          (s.setBar (ringAt r 0x10C) (s.bar (ringAt r 0x110) % s.ringSize r)).setRing r
            { s.ring r with phase := true, unsignalled := 0 }
        else s
      let s := s.ringErr
      if bitOf v 31 && !s.ringOk r then s.occur 0x061 0 0 else s)

/-- RING_TAIL_WRITE: taken modulo the ring's size. -/
def execRingTailWrite (r : Fin 3) (v : Nat) (s : State) : Res :=
  .next (if s.logicOn then s.setBar (ringAt r 0x110) (v % 65536 % s.ringSize r) else s)

/-- What ring `r` writes next: KIND, content, and the state that has given it up. -/
def State.ringNext (s : State) (r : Nat) : Option (Nat × List Byte × State) :=
  if r = 0 then
    match s.records with
    | [] => none
    | (n, tag, data, loss) :: rs => some (1,
        beBytes 2 n ++ beBytes 2 tag ++ beBytes 1 (b2n loss * 128) ++ [0, 0, 0] ++ beBytes 8 data, { s with records := rs })
  else if r = 1 then
    match s.host.ring1 with
    | (k, c) :: rs => some (k, c, { s with host := { s.host with ring1 := rs } })
    | [] => (s.sw.out.find? (fun o => o.1 == 12 && decide (14 ≤ o.2.ingress))).map (fun o =>
        (1, o.2.frame.data, { s with sw := { s.sw with out := s.sw.out.erase o } }))
  else
    (s.sw.samples.find? (fun x => x.1 == 1)).map (fun x =>
      (1, x.2, { s with sw := { s.sw with samples := s.sw.samples.erase x } }))

/-- Ring `r`'s vector fires. -/
def State.ringSignal (s : State) (r : Nat) : State :=
  { s.setRing r { s.ring r with unsignalled := 0 } with msix := s.msix ++ [r + 1] }

/-- RING_SLOT_WRITE (R369): content first, header last, as separate posted writes; the vector fires after MOD_COUNT
unsignalled slots. -/
def execRingSlotWrite (r : Fin 3) (s : State) : Res :=
  .next (if !s.logicOn || !s.ringOn r || s.ringFree r == 0 then s
    else match s.ringNext r with
    | none => s
    | some (kind, content, s) =>
      let s := s.coreTouch
      let x := s.ring r
      let head := s.ringHead r
      let a := (s.bar (ringAt r 0x104) * 2 ^ 32 + s.bar (ringAt r 0x100)) / 4096 * 4096 + head * slotBytes r
      let h := beBytes 2 content.length ++ beBytes 1 kind ++ beBytes 1 (b2n x.phase * 128) ++ beBytes 4 x.sequence ++
        beBytes 8 (ofSigned 64 s.ftime)
      let s := { s with host := { s.host with dma := s.host.dma ++ [(a + 16, content), (a, h)] } }
      let next := (head + 1) % s.ringSize r
      let s := (s.setBar (ringAt r 0x10C) next).setRing r { x with
        phase := if next = 0 then !x.phase else x.phase, sequence := (x.sequence + 1) % 2 ^ 32
        unsignalled := x.unsignalled + 1, firstAt := if x.unsignalled = 0 then s.lmc else x.firstAt }
      if max 1 (s.bar (ringAt r 0x114) % 65536) ≤ x.unsignalled + 1 ∨ s.bar (ringAt r 0x114) / 65536 = 0 then s.ringSignal r
      else s)

/-- MSIX_MODERATION_TIMEOUT (R369): MOD_US after the first unsignalled slot. -/
def execMsixModerationTimeout (r : Fin 3) (s : State) : Res :=
  .next (if !s.logicOn || (s.ring r).unsignalled == 0 then s
    else (s.until ((s.ring r).firstAt + s.bar (ringAt r 0x114) / 65536 * 1000)).ringSignal r)

/-! ## Image-write staging (R371) -/

/-- BAR4 register at offset `o`. -/
def State.bar4 (s : State) (o : Nat) : Nat := cellGet (fun _ => 0) s.host.bar4 o

/-- BAR4 register at offset `o` becomes `v`. -/
def State.setBar4 (s : State) (o v : Nat) : State :=
  { s with host := { s.host with bar4 := cellSet (fun _ => 0) s.host.bar4 o v } }

/-- IW_COUNT follows the stage; IW_OVERFLOW keeps. -/
def State.stageCount (s : State) : State := s.setBar4 0x2008 (s.bar4 0x2008 / 65536 * 65536 + s.host.stage.length)

/-- IW_STAGE_WRITE: up to 588 pairs; one beyond is ignored and counted. -/
def execIwStageWrite (v : Nat) (s : State) : Res :=
  .next (if !s.logicOn then s
    else if 588 ≤ s.host.stage.length then
      s.setBar4 0x2008 (min (s.bar4 0x2008 / 65536 + 1) 65535 * 65536 + s.bar4 0x2008 % 65536)
    else { s with host := { s.host with stage := s.host.stage ++ [(v / 2 ^ 20 % 4096, v % 2 ^ 20)] } }.stageCount)

/-- The staged pairs by offset, the pair written last winning. -/
def stageWords (ps : List (Nat × Nat)) : Cells (Option Nat) :=
  ps.foldl (fun m p => cellSet (fun _ => none) m p.1 (some p.2)) []

/-- Runs of consecutive offsets. -/
def stageRuns : List Nat → List (Nat × Nat)
  | [] => []
  | o :: os => match stageRuns os with
    | (p, c) :: rs => if p = o + 1 then (o, c + 1) :: rs else (o, 1) :: (p, c) :: rs
    | [] => [(o, 1)]

/-- The payloads of one SEND: runs in ascending order, each frame filled to the limits of R111. -/
def stagePayloads (ws : Cells (Option Nat)) (limit ctrl : Nat) : List (List Byte) :=
  let runs := stageRuns (ws.map (·.1))
  (packRuns [] limit 4 (2 * runs.length + 4) runs [] 4).map (fun rs =>
    beBytes 1 (16 + b2n (bitOf ctrl 30) * 8) ++ beBytes 1 rs.length ++ beBytes 2 (ctrl % 65536) ++
      rs.flatMap (fun r => beBytes 3 (r.1 * 4096 + (r.2 - 1)) ++
        packWords20 ((List.range r.2).map (fun i => (cellGet (fun _ => none) ws (r.1 + i)).getD 0))))

/-- Fewer than 10 µs remain before the next apply instant (R371). -/
def State.nearApply (s : State) : Bool :=
  let a := s.applyAt s.nextApply
  decide (s.now < a) && decide (a ≤ s.now + 10000)

/-- An image write of the host leaves (R371): for another node onto the ring; for the own node through IMG, and in a twin
pair onto the ring as well, outside the 10 µs before each apply instant. -/
def State.hostWrite (s : State) (dest : Nat) (payload : List Byte) : State :=
  let own := dest == 0 || dest == s.node
  let f : Frame := { kind := 2, prio := 5, source := s.station, dest := if own then s.node else dest
                     tagged := s.flag Key.KEY_WRITE_AUTH, payload := payload }
  if own && decide (s.role ≠ TwinRole.solo) && (s.nearApply || !s.host.stageHeld.isEmpty) then
    { s with host := { s.host with stageHeld := s.host.stageHeld ++ [f] } }
  else s.sendWrite f own (!own || decide (s.role ≠ TwinRole.solo))

/-- IW_SEND: the frames of one SEND leave back to back and the stage is emptied. -/
def execIwSend (v : Nat) (s : State) : Res :=
  .next (if !s.logicOn then s
    else
      let s := s.setBar4 0x2004 (v % 2 ^ 31 / 2 ^ 30 * 2 ^ 30 + v % 65536)
      if !bitOf v 31 || s.host.stage.isEmpty then s
      else
        let limit := if s.flag Key.KEY_WRITE_AUTH then 1460 else 1476
        let ps := stagePayloads (stageWords s.host.stage) limit v
        let s := { s with host := { s.host with stage := [] } }.stageCount.coreTouch
        ps.foldl (fun s p => s.hostWrite (s.bar4 0x2000) p) s)

/-- IW_APPLY_WINDOW_RELEASE (R371): frames that were due within the 10 µs leave at the apply instant. -/
def execIwApplyWindowRelease (s : State) : Res :=
  .next (if !s.logicOn || s.host.stageHeld.isEmpty then s
    else
      let s := if s.nearApply then s.untilFtime (s.applyAt s.nextApply) else s
      let fs := s.host.stageHeld
      fs.foldl (fun s f => s.sendWrite f true (decide (s.role ≠ TwinRole.solo))) { s with host := { s.host with stageHeld := [] } })

/-! ## Transmit descriptors (R372, R373) -/

/-- TX_TAIL_WRITE. -/
def execTxTailWrite (v : Nat) (s : State) : Res := .next (if s.logicOn then s.setBar4 0x3004 (v % 4096) else s)

/-- BAR4 offset of the descriptor at TX_HEAD. -/
def State.txDesc (s : State) : Nat := 0x10000 + 16 * s.bar4 0x3000

/-- The descriptor at TX_HEAD ends with STATUS `st`: vector 4 fires where IRQ is set, and the next one follows. -/
def State.txEnd (s : State) (st : Nat) : State :=
  let a := s.txDesc + 12
  let w := s.bar4 a
  let s := { s with host := { s.host with reading := none } }
  let s := (s.setBar4 a (setFld w 15 8 st)).setBar4 0x3000 ((s.bar4 0x3000 + 1) % 4096)
  if bitOf w 0 then { s with msix := s.msix ++ [4] } else s

/-- A DMA read fails: TX_ERR, HOST_DMA_ERROR and STATUS 4. -/
def State.txFail (s : State) : State := ((s.setBar 0x2C (setBit (s.bar 0x2C) 3 true)).txEnd 4).occur 0x061 0 0

/-- STATUS 2 or 3 of the descriptor at TX_HEAD, where it is refused without a read. -/
def State.txRefusal (s : State) : Option Nat :=
  let w2 := s.bar4 (s.txDesc + 8)
  let kind := fld w2 31 28
  let len := fld w2 12 0
  let t := fld (s.bar4 (s.txDesc + 12)) 31 16
  if kind ≠ 1 ∧ kind ≠ 2 then some 2
  else if kind = 1 ∧ (1024 ≤ t ∨ !tunEnabled (s.tunCfg t) ∨ endKind (s.tunCfg t) ≠ 7) then some 2
  else if len > (if kind = 1 then 2928 else if s.flag Key.KEY_WRITE_AUTH then 1460 else 1476) then some 3
  else none

/-- TX_DESCRIPTOR_TAKE (R372): the next descriptor is refused by its STATUS, or waits for its tunnel's transmit reserve, or
its buffer's read is issued. -/
def execTxDescriptorTake (s : State) : Res :=
  .next (if !s.logicOn || !bitOf (s.bar 0x24) 0 || s.host.reading.isSome || s.bar4 0x3000 == s.bar4 0x3004 then s
    else
      let s := s.coreTouch
      match s.txRefusal with
      | some st => s.txEnd st
      | none =>
        let w2 := s.bar4 (s.txDesc + 8)
        let t := fld (s.bar4 (s.txDesc + 12)) 31 16
        if fld w2 31 28 = 1 ∧ !s.tunRoom t (List.replicate (fld w2 12 0) 0) then s
        else { s with host := { s.host with reading := some s.lmc } })

/-- DMA_READ_COMPLETION (R372): the buffer's bytes arrive, or an unsuccessful or poisoned completion. -/
def execDmaReadCompletion (good : Bool) (data : List Byte) (s : State) : Res :=
  .next (if !s.logicOn || s.host.reading.isNone then s
    else if !good then (s.bump Key.HOST_DMA_ERRORS).txFail
    else
      let w2 := s.bar4 (s.txDesc + 8)
      let t := fld (s.bar4 (s.txDesc + 12)) 31 16
      let n := fld w2 12 0
      let b := data.take n ++ List.replicate (n - data.length) 0
      if fld w2 31 28 = 1 then
        (if s.tunRoom t b then (s.tunTake t b (s.reg Key.GENERATION)).txEnd 1
         else { s with host := { s.host with reading := none } })
      else (s.hostWrite t b).txEnd 1)

/-- DMA_COMPLETION_TIMEOUT (R373): a read unanswered within 10 ms. -/
def execDmaCompletionTimeout (s : State) : Res :=
  .next (match s.host.reading with
  | none => s
  | some t => if !s.logicOn then s else ((s.until (t + 10000000)).bump Key.HOST_COMPLETION_TIMEOUTS).txFail)

/-! ## Link loss (R374) -/

/-- A CANCEL for the far side of a remote mailbox transaction (R354, R374). -/
def State.mailboxCancel (s : State) : State := match s.host.mbx with
  | none => s
  | some m =>
    let s := { s.setBar 0x404 0 with host := { s.host with mbx := none } }
    let s := { s with dict := { s.dict with transfers := s.dict.transfers.filter (fun t => decide (t.path ≠ Path.mailbox)) } }
    if m.dest = 0 then s
    else s.originate { kind := 3, prio := 3, dest := m.dest, tagged := s.flag Key.KEYED
                       payload := [0x17] ++ beBytes 1 (beAt m.req 1 1) ++ beBytes 8 (beAt m.req 2 8) ++ List.replicate 10 0 }

/-- PCIE_LINK_DOWN (R374): DMA stops, DMA_EN, HOST_READY and the rings' ENABLE clear, a mailbox transaction is cancelled,
the stage is emptied, and the HOST switch port is down with the link. -/
def execPcieLinkDown (s : State) : Res :=
  .next (if !s.logicOn || s.reg Key.HOST_LINK == 0 then s
    else
      let was := s.hostReady
      let s := (s.setReg Key.HOST_LINK 0).bump Key.HOST_LINK_DOWNS
      let s := s.setBar 0x24 (s.bar 0x24 &&& 4)
      let s := (List.range 3).foldl (fun s r => s.setBar (ringAt r 0x108) (s.bar (ringAt r 0x108) % 32)) s
      let s := { s.mailboxCancel with host := { s.mailboxCancel.host with stage := [], reading := none } }.stageCount
      let s := { s with sw := { s.sw with busMaster := false } }
      if was then s.hostUnready else s)

end Sys2Proof.Machine
end

