-- ==== Sys2Proof/Machine/Twin.lean ====
section
/-! DEFINITION. Twin operation: the claim bus, the claim gate, roles, heartbeats, self-tests and planned handover
(chapter 15). State sync is in Sync.lean. -/

namespace Sys2Proof.Machine

/-! ## Health and the claim byte (R401, R402, R407, R408) -/

/-- GRADE: 15 less the penalties in force, 0 under a row that gives grade 0 or while COPPER_INTEGRITY is LIVE (R407). -/
def State.gradeNow (s : State) : Nat :=
  if (s.flt 0x000).live then 0 else 15 - (s.twin.penalties.map (·.2)).foldl (· + ·) 0

/-- READY (R408): a STANDBY hub that is synchronised with a grade of at least 1, unless a reaction clears it (R429). -/
def State.readyNow (s : State) : Bool :=
  decide (s.role = .standby) && s.reg Key.TWST_SYNC_STATE == 2 && decide (1 ≤ s.gradeNow) && !s.readyCleared

/-- A STANDBY that is not READY presents its reserve claim all the same (R409, step 3): no round decided with health 2 or
more in the last four valid ones, or a hard loss. -/
def State.reserveAnyway (s : State) : Bool := decide (4 ≤ s.twin.weak) || (!s.up 2 && decide (2 ≤ s.twin.empty))

/-- Presented health (Table 15.2). -/
def State.healthNow (s : State) : Nat :=
  let g := s.gradeNow
  if s.twin.posConflict || g == 0 then 0
  else if s.role = .standby then (if s.twin.seizing then 15 else if s.readyNow || s.reserveAnyway then 1 else 0)
  else if s.twin.seizing then 15
  else min 14 (max 2 g)

/-- The claim byte of a presented health (R401). -/
def State.claimByte (s : State) (health : Nat) : Nat := health * 16 + b2n s.straps.prim * 8 + b2n s.straps.twinPosA

/-- The logic die writes `c` to its Hob; it counts from the first round that starts 2 µs later (R401). -/
def State.writeClaim (s : State) (c : Nat) : State :=
  if s.twin.claim = c then s
  else { s with twin := { s.twin with
      claim := c, claimAt := s.lmc, claimOld := if s.lmc < s.twin.claimAt + 2000 then s.twin.claimOld else s.twin.claim } }.setReg
    Key.TWST_CLAIM_NOW c

/-- GRADE, READY and the claim follow the hub's condition. -/
def State.twinUpdate (s : State) : State :=
  if s.role = .solo then s.setReg Key.TWST_GRADE s.gradeNow
  else
    let s := (s.setReg Key.TWST_GRADE s.gradeNow).setReg Key.TWST_READY (b2n s.readyNow)
    s.writeClaim (s.claimByte s.healthNow)

/-! ## Changes of role (R409 to R412) -/

/-- `f` for each of `n` channels. -/
def State.each (s : State) (n : Nat) (f : State → Nat → State) : State := (List.range n).foldl f s

/-- The package no longer holds the claim: CAN and RS-485 transmissions are cut (R225, R241). -/
def State.claimLost (s : State) : State :=
  if s.role = .solo then s else (s.each 32 State.canClaimLost).each 48 State.rsClaimLost

/-- The words that R412 holds: the own window's, as the former ACTIVE hub last published them. -/
def State.heldWords (s : State) : Cells (Option Nat) := match s.ownWindow with
  | none => []
  | some w => (List.range w.words).map (fun o => (o, some (s.mirrorWord (64 * w.base + o)).1))

/-- The hub becomes ACTIVE with LAST_CAUSE `cause`: an unsynchronised takeover from a peer that had been strong is a fault
(R410), and each chapter's part of a takeover follows (R411). -/
def State.becomeActive (s : State) (cause : Nat) : State :=
  let unsync := !s.readyNow && s.twin.peerStrong && decide (cause ≠ 5 ∧ cause ≠ 6 ∧ cause ≠ 7)
  let s := if unsync then s.occur 0x086 0 0 else s
  let s := { s with
    role := .active
    img := { s.img with held := s.heldWords, heldEnds := s.turnNow + s.reg Key.TWIN_HELD_TURNS, allDelta := true } }
  let s := ((s.setReg Key.TWST_LAST_CAUSE cause).bump Key.TWST_TAKEOVERS).unsteady
  let s := (s.raise 2 s.hubState).trigger 4 0
  let s := ((s.each 32 State.canActive).each 48 State.rsActive).each 32 State.whiskActive
  (s.tunnelsResync.settle).twinUpdate

/-- Answers that wait for the peer are given (R414). -/
def State.flushWaits (s : State) : State :=
  s.twin.waits.foldl (fun s x => s.answer x.2.path x.2.object x.2.abort x.2.data) { s with twin := { s.twin with waits := [] } }

/-- A handover is over, carried out or not. -/
def State.handoverOff (s : State) : State :=
  { s with handInstant := none, twin := { s.twin with proposed := none, agreed := false } }.setReg Key.TWST_HANDOVER_AT 0

/-- The hub becomes STANDBY: by a planned handover it stays READY, any other way it is not (R408). -/
def State.becomeStandby (s : State) (planned : Bool) : State :=
  let s := { s with role := .standby, twin := { s.twin with seizing := false, revertAt := none, revertLeft := 0 } }
  let s := (s.setReg Key.TWST_SYNC_STATE (if planned then 2 else 0)).flushWaits.handoverOff
  let s := ((s.setReg Key.TWST_REVERT_STATE 0).setReg Key.TWST_REVERT_REMAINING 0).unsteady
  let s := s.raise 2 s.hubState
  let s := (s.each 32 State.whiskStandby).each 64 (fun s p => s.isduStop p 4)
  s.remotesWithdraw.twinUpdate

/-- A hub that is not READY asks for bulk sync (R413); once while one is asked for or runs. -/
def State.requestSync (s : State) : State :=
  let st := s.reg Key.TWST_SYNC_STATE
  if !s.up 2 then s.setReg Key.TWST_SYNC_STATE 0
  else if st = 1 ∨ st = 3 then s
  else
    let s := (s.setReg Key.TWST_SYNC_STATE 3).bump Key.TWC_RESYNCS
    { s with twin := { s.twin with bulkNext := 0, bulk := [], bulkQueue := [] } }.sendTwin 1 [2, 0, 0, 0]

/-! ## The claim bus (R399 to R405) -/

/-- One step of CRC-4, x^4 + x + 1 (R399). -/
def crc4Bit (c : Nat) (b : Bool) : Nat :=
  let t := c * 2 % 16
  if (c / 8 == 1) != b then t ^^^ 3 else t

/-- CRC-4 of a claim byte, most significant bit first, from 0b1111. -/
def crc4 (claim : Nat) : Nat := [7, 6, 5, 4, 3, 2, 1, 0].foldl (fun c i => crc4Bit c (bitOf claim i)) 15

/-- The claim that a round from `t` on carries for this Hob (R401). -/
def State.claimAtRound (s : State) (t : Nat) : Nat := if s.twin.claimAt + 2000 ≤ t then s.twin.claim else s.twin.claimOld

/-- A round from now on; `drives` when this Hob takes part (perturbation 5 lets it skip rounds). -/
def State.roundFrom (s : State) : State :=
  let (skip, s) : Bool × State := match s.perturbed 5 0 with
    | none => (false, s)
    | some i =>
      let n := (cellGet (fun _ => 0) s.pertCount i + 1) % max 1 (s.reg (Key.PSLOT_RECORD i) / 256 ^ 4 % 2 ^ 32)
      let s := { s with pertCount := cellSet (fun _ => 0) s.pertCount i n }
      if n < (s.pertA i).toNat then (true, s.pertActed i) else (false, s)
  { s with twin := { s.twin with startAt := some s.lmc, round := some s.lmc, driving := !skip } }

/-- CLAIM_ROUND_START (R400): 25 µs after the last START seen, or its own. A solo hub runs no rounds (R397). -/
def execClaimRoundStart (s : State) : Res :=
  .next (if !s.logicOn || s.role == TwinRole.solo || s.twin.round.isSome then s
    else (match s.twin.startAt with
      | some t => s.until (t + 25000)
      | none => s).roundFrom)

/-- CLAIM_START_EDGE (R400): a START that this Hob did not drive; it joins the round. -/
def execClaimStartEdge (s : State) : Res :=
  .next (if !s.logicOn || s.role == TwinRole.solo || s.twin.round.isSome then s else s.roundFrom)

/-- A round is valid (R400). -/
def roundValid (x : RoundWire) : Bool := x.quiet && x.start && x.stop && decide (x.claim < 256) && x.crc == crc4 x.claim

/-- Claim bits sent were not read back as sent, up to arbitration loss (Table 15.4). -/
def readBackBad (sent read : Nat) : Bool :=
  ([7, 6, 5, 4, 3, 2, 1, 0].foldl (fun (a : Bool × Bool) i =>
    if a.2 then a
    else if bitOf sent i && !bitOf read i then (true, true)
    else if !bitOf sent i && bitOf read i then (a.1, true)
    else a) (false, false)).1

/-- Row `i` of Table 15.4 has penalty `p` in force, 0 for none. -/
def State.setPenalty (s : State) (i p : Nat) : State :=
  ({ s with twin := { s.twin with penalties := cellSet (fun _ => 0) s.twin.penalties i p } }.setReg Key.TWST_SELFTEST
    (setBit (s.reg Key.TWST_SELFTEST) i (p != 0))).twinUpdate

/-- The claim gate enters `row` (Table 15.3): the frozen levels of row 3 are those driven now. -/
def State.gateTo (s : State) (row : Nat) : State :=
  if s.field.row = row then s
  else
    let had := s.holdsClaim
    let frozen : Cells Nat := if row ≠ 3 then [] else
      (List.range 256).filterMap (fun i => if s.sharedIn (Key.DL_SHARED i) then (match s.lineBall i with
        | some b => some (i, b2n b)
        | none => none) else none)
    let s := { s with field := { s.field with
      row := row, frozen := frozen, steadyAt := s.lmc
      safe := s.field.safe && !(row == 2 && s.field.refreshed && !s.field.holding) } }
    let s := s.each 64 State.fuseSync
    if had then s.claimLost else s

/-- Path B: what the peer's BEAT slot of a valid round showed (R406). -/
def State.peerBeat (s : State) (beat : Bool) : State :=
  if beat then
    { s with twin := { s.twin with pathBAt := s.lmc, empty := 0, silentAt := none } }.setReg Key.TWST_PATHS
      (s.reg Key.TWST_PATHS ||| 2) |>.faultDown 0x084 |>.faultDown 0x085
  else { s with twin := { s.twin with empty := s.twin.empty + 1 } }.bump Key.TWC_HEARTBEATS_MISSED

/-- LAST_CAUSE of a takeover that a round decides (Table 15.12). -/
def State.roundCause (s : State) : Nat :=
  if s.twin.seizing then 4 else if !s.twin.peerStrong then 1 else if !s.up 2 && decide (1 ≤ s.twin.empty) then 2 else 3

/-- What a valid round from `t` on, ended now, means for the logic die (R405, R409). -/
def State.roundRoles (s : State) (t : Nat) (mine : Option Bool) (health : Nat) : State :=
  let planned := s.twin.swapAt.any (fun x => decide (t < x + 2000))
  let s : State := match mine with
    | some true => if s.role = TwinRole.standby ∧ !planned then s.becomeActive s.roundCause else s
    | some false =>
      let s := if s.role = TwinRole.active ∧ !planned then s.becomeStandby false else s
      if 2 ≤ health ∧ s.role = TwinRole.standby ∧ !s.readyNow ∧ s.reg Key.TWST_SYNC_STATE ≠ 2 then s.requestSync else s
    | none => s
  s.twinUpdate

/-- CLAIM_ROUND_END (R400, R402, R404, R409): the round is judged by what its slots read on the wire; the field die's gate
and, within 1 µs, the hub's role follow a decisive one. -/
def execClaimRoundEnd (x : RoundWire) (s : State) : Res :=
  let t := s.twin.round.getD s.lmc
  let s := match s.twin.round with
    | some t => s.until (t + 16000)
    | none => s
  .next (if s.role = .solo ∨ s.run = .unpowered then s
  else
    let s := if s.twin.driving ∧ s.logicOn then
        s.setPenalty 7 (if readBackBad (s.claimAtRound t) x.claim then 3 else 0) else s
    let s := { s with twin := { s.twin with round := none, driving := false } }
    if !roundValid x then s.bump Key.TWC_ROUNDS_INVALID
    else
      let health := x.claim / 16
      let mine : Option Bool := if health = 0 then none else some (bitOf x.claim 0 == s.straps.twinPosA)
      let s := (s.bump Key.TWC_ROUNDS_VALID).faultDown 0x082
      let s := { s with twin := { s.twin with
        validAt := s.lmc, weak := if 2 ≤ health then 0 else s.twin.weak + 1
        peerStrong := s.twin.peerStrong || (mine == some false && decide (2 ≤ health)) } }
      let s := s.setReg Key.TWST_LAST_ROUND (x.claim * 256 + b2n (mine == some true) * 128 + b2n x.beatA * 64 + b2n x.beatB * 32)
      let s := s.peerBeat (if s.straps.twinPosA then x.beatB else x.beatA)
      let s : State := match mine with
        | some true => ({ s with twin := { s.twin with won := some true, decisiveAt := s.lmc } }.bump Key.TWC_ROUNDS_HELD).gateTo 2
        | some false => { s with twin := { s.twin with won := some false } }.gateTo 1
        | none => s
      if s.logicOn then s.roundRoles t mine health else s)

/-- CLAIM_ROW3_ENTRY (R404): 100 µs after the last decisive round won, the shared lines keep their levels. -/
def execClaimRow3Entry (s : State) : Res :=
  .next (if s.field.row ≠ 2 ∨ s.role = .solo then s
    else
      let s := s.until (s.twin.decisiveAt + 100000)
      { s with twin := { s.twin with row3At := s.lmc } }.gateTo 3)

/-- CLAIM_HOLD_EXPIRY (R404): the hold time has run out since row 3 began. -/
def execClaimHoldExpiry (s : State) : Res :=
  .next (if s.field.row ≠ 3 then s else (s.until (s.twin.row3At + s.field.holdMs * 1000000)).gateTo 4)

/-- CLAIM_BUS_TIMEOUT (R405). -/
def execClaimBusTimeout (s : State) : Res :=
  .next (if !s.logicOn || s.role == TwinRole.solo then s else (s.until (s.twin.validAt + 100000)).faultUp 0x082 0 0)

/-! ## Heartbeats (R403, R406, R414) -/

/-- HOB_HEARTBEAT_WRITE (R403, R31): the Hob drives its BEAT slot from now for 200 µs, and its health value is fresh. -/
def execHobHeartbeatWrite (s : State) : Res :=
  .next (if !s.fwOn || s.role == TwinRole.solo then s
    else match s.perturbed 4 1 with
    | some i => ({ s with healthAt := s.lmc }.pertActed i).twinUpdate
    | none => { s with healthAt := s.lmc, twin := { s.twin with beatAt := some s.lmc } }.twinUpdate)

/-- TWIN_HEARTBEAT_SEND (R406): 100 µs after the one before. -/
def execTwinHeartbeatSend (s : State) : Res :=
  .next (if !s.fwOn || s.role == TwinRole.solo then s
    else
      let s := (s.until (s.twin.sentAt + 100000)).twinUpdate
      let s := { s with twin := { s.twin with sentAt := s.lmc } }
      match s.perturbed 4 0 with
      | some i => s.pertActed i
      | none => s.sendTwin 7 s.heartbeat)

/-- Faults TWIN_PATH_A, TWIN_PATH_B and PEER_LOST follow the two paths (R406). -/
def State.pathFaults (s : State) : State :=
  let a := bitOf (s.reg Key.TWST_PATHS) 0
  let b := bitOf (s.reg Key.TWST_PATHS) 1
  let s := { s with twin := { s.twin with silentAt := if a || b then none else some (s.twin.silentAt.getD s.lmc) } }
  ((s.faultLevel 0x083 (!a && b) 0 0).faultLevel 0x084 (a && !b) 0 0).faultLevel 0x085 (!a && !b) 0 0

/-- PATH_SILENT_TIMEOUT (R406): a path has carried no heartbeat for 300 µs. -/
def execPathSilentTimeout (pathB : Bool) (s : State) : Res :=
  .next (if !s.logicOn || s.role == TwinRole.solo then s
    else
      let s := s.until ((if pathB then s.twin.pathBAt else s.twin.pathAAt) + 300000)
      (s.setReg Key.TWST_PATHS (setBit (s.reg Key.TWST_PATHS) (if pathB then 1 else 0) false)).pathFaults)

/-- A TWIN frame is taken from F2; none when its tag does not let it in (R15, Table 18.5). -/
def State.twinTake (s : State) (fr : Frame) (tag : TagCheck) (require : Bool) : Option Unit × State :=
  match (s.take 2 fr).tagTake fr tag require with
  | (none, s) => (some (), s)
  | (some _, s) => (none, s)

/-- The hub's side of R398: equal positions, both PRIM levels high, and which hub is preferred. -/
def State.peerPlace (s : State) : State :=
  let posA := bitOf s.twin.peer.flags 4
  let prim := bitOf s.twin.peer.flags 3
  let clash := posA == s.straps.twinPosA
  let s := if clash && !s.twin.posConflict then { s with twin := { s.twin with posConflict := true } } else s
  let s := s.setReg Key.TWST_PREFERRED (b2n (if prim = s.straps.prim then s.straps.twinPosA else s.straps.prim))
  (s.faultLevel 0x080 clash 0 0).faultLevel 0x081 (prim && s.straps.prim) 0 0

/-- The countdown of R419 on the ACTIVE hub. -/
def State.revertUpdate (s : State) : State :=
  let p := s.twin.peer
  let wants := s.role == TwinRole.active && !s.flag Key.TWST_PREFERRED && bitOf p.flags 5 && bitOf p.flags 2
  let runs := wants && bitOf p.flags 7 && decide (s.reg Key.TWST_GRADE ≤ p.grade)
  let left := match s.twin.revertAt with
    | some t => t - s.lmc
    | none => s.twin.revertLeft
  if s.role ≠ .active ∨ s.twin.proposed.isSome then s
  else if !runs then
    ({ s with twin := { s.twin with revertAt := none, revertLeft := 0 } }.setReg Key.TWST_REVERT_STATE (b2n wants)).setReg
      Key.TWST_REVERT_REMAINING 0
  else
    let left := if left = 0 ∧ s.twin.revertAt.isNone then s.reg Key.TWIN_REVERT_HOLDOFF * 1000000000 else left
    let paused := s.flag Key.TWIN_REVERT_PAUSE
    ({ s with twin := { s.twin with
        revertAt := if paused then none else some (s.lmc + left), revertLeft := if paused then left else 0 } }.setReg
      Key.TWST_REVERT_STATE (if paused then 3 else 2)).setReg Key.TWST_REVERT_REMAINING (left / 1000000)

/-- A handover is abandoned (R418). -/
def State.handoverFail (s : State) : State := s.handoverOff.occur 0x088 0 0

/-- A READY STANDBY takes STATE, SAFE_CAUSE and, in MAINT, RETURN_STATE from the ACTIVE hub (R414). -/
def State.followState (s : State) : State :=
  let h := s.twin.peer.hubState
  let mode : Nat → Option HubMode := fun c =>
    if c = 1 then some .preop else if c = 2 then some .operate else if c = 3 then some .safe else if c = 4 then some .maint else none
  if s.role ≠ .standby ∨ !s.flag Key.TWST_READY ∨ s.hub.mode = .init ∨ s.twin.peer.role ≠ 1 then s
  else match mode (h % 16) with
    | none => s
    | some m =>
      let ret := if m = .maint then (mode (fld h 23 20)).getD .init else .init
      if m = s.hub.mode ∧ ret = s.hub.ret ∧ fld h 15 8 = s.hub.cause then s else s.setMode m ret (fld h 15 8)

/-- TWIN_HEARTBEAT_RECEIVED (R406, R414); an untagged HEARTBEAT is accepted whatever TWIN_AUTH holds (R487). -/
def execTwinHeartbeatReceived (fr : Frame) (tag : TagCheck) (s : State) : Res :=
  .next (if !s.logicOn || s.role == TwinRole.solo then s
    else match s.twinTake fr tag false with
    | (none, s) => s
    | (some _, s) =>
      let p := fr.payload
      let s := { s with peerReady := bitOf (beAt p 3 1) 7, twin := { s.twin with
        peer := { role := beAt p 1 1, grade := beAt p 2 1, flags := beAt p 3 1, seq := beAt p 4 4, hubState := beAt p 24 4 }
        peerKnown := true, pathAAt := s.lmc
        seizing := s.twin.seizing && !(s.role == TwinRole.active && beAt p 1 1 == 2) } }
      let s := ((s.setReg Key.TWST_PEER_GRADE (beAt p 2 1)).setReg Key.TWST_PATHS (s.reg Key.TWST_PATHS ||| 1)).pathFaults
      let s := if s.peerReady then s else s.flushWaits
      let s := if s.role = .active ∧ s.twin.proposed.isSome ∧ !s.peerReady then s.handoverFail else s
      (s.peerPlace.twinUpdate.revertUpdate).followState)

/-! ## Self-tests and seizure (R407, R411) -/

/-- The penalty of row `i` of Table 15.4 for what the test found: 0 it passed. -/
def penaltyOf (i found : Nat) : Nat :=
  if found = 0 then 0
  else if i = 2 then (if found = 1 then 1 else 3)
  else if i = 3 then 4
  else if i = 5 then 2 * found
  else if i = 6 then (if found = 1 then 2 else 15)
  else if i = 7 then 3
  else if i = 8 then 15
  else 2

/-- SELFTEST_ITEM_RUN (R407): `found` is 0 for a pass; for the Stockpot 1 is more than 100 corrected words and more an
uncorrectable one, for the supplies the rails outside, for the temperature 1 is within 10 °C and more above the maximum.
The ACTIVE hub does not run rows 1 and 2. -/
def execSelftestItemRun (item : Fin 9) (found : Nat) (s : State) : Res :=
  .next (if !s.fwOn || (decide (item.val ≤ 1) && decide (s.role ≠ TwinRole.standby)) then s
    else s.setPenalty item (penaltyOf item found))

/-- LOCKSTEP_MISMATCH (R407): fault LOCKSTEP, and grade 0. -/
def execLockstepMismatch (pair : Fin 2) (s : State) : Res :=
  .next (if s.fwOn then (s.setPenalty 8 15).occur 0x0B0 pair 0 else s)

/-- SEIZE_TIMEOUT (R410, R411): both paths silent for T_FAIL_US with the tie link UP and the ACTIVE hub still claiming. -/
def execSeizeTimeout (s : State) : Res :=
  .next (match s.twin.silentAt with
  | none => s
  | some t =>
    if !s.logicOn || decide (s.role ≠ TwinRole.standby) || !s.up 2 || s.twin.weak != 0 || s.twin.won != some false ||
        s.twin.seizing then s
    else
      let s := s.until (t + s.reg Key.TWIN_T_FAIL_US * 1000)
      (({ s with twin := { s.twin with seizing := true } }).twinUpdate).occur 0x087 0 0)

/-! ## Planned handover and revert (R417 to R419) -/

/-- HANDOVER_REQUEST_WRITE (R417, R418). -/
def execHandoverRequestWrite (w : Writer) (v : Nat) (s : State) : Res :=
  .next (if s.fwOn then s.command w Key.TWIN_HANDOVER_REQUEST v
    (fun s => if s.role = .active ∧ s.peerReady then none else some .stateConflict) (fun s => s.propose 5) else s)

/-- HANDOVER_PROPOSE_RECEIVED (R417): a STANDBY agrees when it is READY with a grade of at least 1. A proposal for key loss
comes untagged (R487). -/
def execHandoverProposeReceived (fr : Frame) (tag : TagCheck) (s : State) : Res :=
  .next (if !s.fwOn || decide (s.role ≠ TwinRole.standby) then s
    else match s.twinTake fr tag (s.flag Key.KEY_TWIN_AUTH && beAt fr.payload 1 1 != 7) with
    | (none, s) => s
    | (some _, s) =>
      let cause := beAt fr.payload 1 1
      let b := beAt fr.payload 4 8
      let result := if !s.readyNow || (cause == 7 && !s.flag Key.KEYED) then (if s.gradeNow = 0 then 2 else 1) else 0
      let s := if result ≠ 0 then s else
        { s with handInstant := some (b : Int), twin := { s.twin with proposed := some ((b : Int), cause), agreed := true } }.setReg
          Key.TWST_HANDOVER_AT b
      s.sendTwinAs 7 (cause != 7) ([7] ++ beBytes 1 result ++ [0, 0] ++ beBytes 8 b))

/-- HANDOVER_AGREE_RECEIVED (R418): agreed for b_h, or abandoned when the peer cannot. -/
def execHandoverAgreeReceived (fr : Frame) (tag : TagCheck) (s : State) : Res :=
  .next (if !s.fwOn || decide (s.role ≠ TwinRole.active) then s
    else match s.twin.proposed with
    | none => s.take 2 fr
    | some (b, cause) =>
      match s.twinTake fr tag (s.flag Key.KEY_TWIN_AUTH && cause != 7) with
      | (none, s) => s
      | (some _, s) =>
        if (beAt fr.payload 4 8 : Int) ≠ b then s
        else if beAt fr.payload 1 1 ≠ 0 then s.handoverFail
        else { s with handInstant := some b, twin := { s.twin with agreed := true } })

/-- HANDOVER_BOUNDARY (R417): at b_h both hubs swap roles and write their claims. -/
def execHandoverBoundary (s : State) : Res :=
  .next (match s.twin.proposed with
  | none => s
  | some (b, cause) =>
    if !s.fwOn || !s.twin.agreed then s
    else
      let s := s.untilFtime b
      let s := { s with twin := { s.twin with swapAt := some s.lmc } }
      if s.role = .active then s.becomeStandby true
      else if s.role = .standby then (s.handoverOff.becomeActive cause)
      else s)

/-- HANDOVER_ABANDON (R418): no agreement 500 µs before b_h. -/
def execHandoverAbandon (s : State) : Res :=
  .next (match s.twin.proposed with
  | none => s
  | some (b, _) =>
    if !s.fwOn || s.twin.agreed || decide (s.role ≠ TwinRole.active) then s else (s.untilFtime (b - 500000)).handoverFail)

/-- REVERT_HOLDOFF_EXPIRY (R419). -/
def execRevertHoldoffExpiry (s : State) : Res :=
  .next (match s.twin.revertAt with
  | none => s
  | some t =>
    if !s.fwOn || decide (s.role ≠ TwinRole.active) then s
    else
      let s := s.until t
      let s := { s with twin := { s.twin with revertAt := none, revertLeft := 0 } }
      ((s.setReg Key.TWST_REVERT_STATE 4).setReg Key.TWST_REVERT_REMAINING 0).propose 6)

end Sys2Proof.Machine
end

