-- ==== Sys2Proof/Machine/Policy.lean ====
section
/-! DEFINITION. The policy engine (R435 to R438). -/

namespace Sys2Proof.Machine

/-! ## Gauges (Table 16.8) -/

/-- The counters behind the per-second gauges, in gauge order 0x00 to 0x0B and 0x10 to 0x13. -/
def State.gaugeCounters (s : State) : List Nat :=
  let four (k : Nat → Nat) : List Nat := (List.range 4).map (fun p => s.count (k p))
  four Key.COUNT_FEC_CORRECTED ++ four Key.COUNT_FEC_UNCORRECTED ++ four Key.COUNT_RX_FCS_ERR ++ four Key.COUNT_TRANSIT_DROP

/-- The increase of counter `i` over the last 1000 ms, saturating. -/
def State.gaugeRate (s : State) (i : Nat) : Int :=
  (min (s.gaugeCounters.getD i 0 - (s.gaugeLog.getD 999 []).getD i 0) (2 ^ 31 - 1) : Nat)

/-- Gauge `g`; one that needs a measurement reads as last measured. -/
def State.gauge (s : State) (g : Nat) : Int :=
  if g < 0x0C then s.gaugeRate g
  else if 0x10 ≤ g ∧ g ≤ 0x13 then s.gaugeRate (g - 4)
  else if g = 0x18 then (toSigned 64 (s.reg Key.TSTAT_OFFSET)).natAbs / 1000
  else if g = 0x19 then toSigned 32 (s.reg Key.TSTAT_RATE_ADJ)
  else if g = 0x1B then s.reg Key.TWST_GRADE
  else if g = 0x1C then s.reg Key.TWST_PEER_GRADE
  else if g = 0x1F then s.sharedFree
  else if 0x20 ≤ g ∧ g ≤ 0x2F then s.activePermille (g - 0x20) / 10
  else if 0x30 ≤ g ∧ g ≤ 0x3F then 240 - s.freeUnits (g - 0x30)
  else if 0xA0 ≤ g ∧ g ≤ 0xB2 then
    ((List.range 8).map (fun c => (s.swq (8 * (g - 0xA0) + c)).cells)).foldl (· + ·) 0
  else if 0xB3 ≤ g then 0
  else cellGet (fun _ => 0) s.gaugeIn g

/-! ## Records (Table 16.6) -/

/-- Fields of rule record `r`. -/
def ruleEnabled (r : Nat) : Bool := bitOf (octAt 24 r 0 1) 7
def ruleBelow (r : Nat) : Bool := bitOf (octAt 24 r 0 1) 6
def ruleUndo (r : Nat) : Bool := bitOf (octAt 24 r 0 1) 5
def ruleGauge (r : Nat) : Nat := octAt 24 r 1 1
def ruleAction (r : Nat) : Nat := octAt 24 r 2 1
def ruleThreshold (r : Nat) : Int := toSigned 32 (octAt 24 r 4 4)
def ruleHyst (r : Nat) : Nat := octAt 24 r 8 4
def ruleDwell (r : Nat) : Nat := octAt 24 r 12 2
def ruleTarget (r : Nat) : Nat := octAt 24 r 14 2
def ruleValue (r : Nat) : Nat := octAt 24 r 16 4

/-- A record's fields lie inside Tables 16.6 and 16.7 (R436). -/
def ruleOk (r : Nat) : Bool :=
  let a := ruleAction r
  let t := ruleTarget r
  let v := ruleValue r
  decide (a ≤ 8) && decide (ruleHyst r < 2 ^ 31) &&
    (if a = 1 then decide (t ≤ 255) && decide (1 ≤ v) && decide (v ≤ 100)
     else if a = 2 then decide (t ≤ 18) && decide (v ≤ 7)
     else if a = 3 then decide (1 ≤ v) && decide (v ≤ 64)
     else if a = 4 then decide (t ≤ 15) && decide (v ≤ 2)
     else if a = 5 then decide (t ≤ 63)
     else if a = 6 then decide (t ≤ 3)
     else true)

/-! ## Actions (Table 16.7, R436, R437) -/

/-- The effect on a meter or a Pan follows the rule that decides there now. -/
def State.policyFollow (s : State) (action target : Nat) : State :=
  let v := s.policyActs action target
  if action = 1 then
    let c := s.meterCfg target
    let r := v.map (fun p => setFld (setFld c 159 128 (mtrCir c * p / 100)) 95 64 (mtrPir c * p / 100))
    ({ s with sw := { s.sw with ruled := cellSet (fun _ => none) s.sw.ruled target r } }).meterReload target
  else if action = 4 then
    let s := s.setReg (Key.PAN_POLICY_LIMIT target) (v.getD 0)
    if v = some 2 then s.panAsk target else s
  else s

/-- The Crucible's policy entry and event source 4 (Table 16.13). -/
def State.policyLog (s : State) (i rec_ : Nat) (released : Bool) (result : Nat) : State :=
  (s.log 2 i (beBytes 1 (b2n released) ++ beBytes 1 (ruleAction rec_) ++ beBytes 2 (ruleTarget rec_) ++
    beBytes 4 (ruleValue rec_) ++ beBytes 4 (ofSigned 32 (s.gauge (ruleGauge rec_))) ++ beBytes 1 result)).raise 4 i

/-- Rule slot `i` fires (POLICY_FIRE). -/
def State.policyFire (s : State) (i : Nat) : State :=
  let r := s.ruleRec i
  let a := ruleAction r
  let t := ruleTarget r
  let refused : Bool := a == 7 && !(s.role == TwinRole.active && s.peerReady)
  let x := s.rule i
  let s := s.setRule i { x with
    fired := true, stays := false, held := 0, firings := x.firings + 1, refused := x.refused + b2n refused }
  let s := s.policyFollow a t
  let s := if a = 5 then s.fuseShed t
    else if a = 6 then s.faultUp (0x024 + t) t i
    else if a = 7 ∧ !refused then s.propose 5
    else s
  s.policyLog i r false (b2n refused)

/-- Rule slot `i` releases (POLICY_RELEASE): its action is reverted when UNDO is set, and the next fired rule takes over. -/
def State.policyRelease (s : State) (i : Nat) : State :=
  let r := s.ruleRec i
  let a := ruleAction r
  let t := ruleTarget r
  let s := s.setRule i { s.rule i with fired := false, held := 0, stays := !ruleUndo r }
  let s := s.policyFollow a t
  let s := if a = 6 ∧ ruleUndo r ∧ (s.policyActs 6 t).isNone then s.faultDown (0x024 + t) else s
  s.policyLog i r true 0

/-- Rule slot `i` is evaluated (R435). -/
def State.policyOne (s : State) (i : Nat) : State :=
  let r := s.ruleRec i
  if !ruleEnabled r then s
  else
    let g := s.gauge (ruleGauge r)
    let x := s.rule i
    let th := ruleThreshold r
    let h : Int := ruleHyst r
    let holds : Bool :=
      if x.fired then (if ruleBelow r then decide (th + h ≤ g) else decide (g ≤ th - h))
      else (if ruleBelow r then decide (g < th) else decide (th < g))
    let n := if holds then x.held + 1 else 0
    let s := s.setRule i { x with held := n, last := g }
    if n < max 1 (ruleDwell r) then s
    else if x.fired then s.policyRelease i else s.policyFire i

/-- POLICY_EVALUATION (R435): the next multiple of 1 ms of LMC; `measured` gives the gauges that need a measurement. -/
def execPolicyEvaluation (measured : List (Fin 256 × Int)) (s : State) : Res :=
  .next (if !s.fwOn then s
    else
      let s := s.until ((s.lmc / 1000000 + 1) * 1000000)
      let s := measured.foldl (fun s m => { s with gaugeIn := cellSet (fun _ => 0) s.gaugeIn m.1 m.2 }) s
      let now := s.gaugeCounters
      let s := (List.range 128).foldl State.policyOne s
      { s with gaugeLog := (now :: s.gaugeLog).take 1000 })

/-- The rule of slot `i` is written (R436): an enabled one releases first, and what it left in force ends. -/
def State.ruleWritten (s : State) (i v : Nat) : State :=
  let old := s.ruleRec i
  let s := if (s.rule i).fired then s.policyRelease i else s
  let k := Key.POL_RULE (i / 32) (i % 32)
  let s := (s.store k v).setRule i { s.rule i with stays := false, held := 0 }
  let s := s.policyFollow (ruleAction old) (ruleTarget old)
  if ruleAction old = 6 ∧ (s.policyActs 6 (ruleTarget old)).isNone then s.faultDown (0x024 + ruleTarget old) else s

/-- RULE_WRITE (R436). -/
def execRuleWrite (w : Writer) (r : Fin 128) (v : Nat) (s : State) : Res :=
  .next (if s.fwOn then s.write w (Key.POL_RULE (r / 32) (r % 32)) v
    (fun _ => if ruleOk v then none else some .valueRange) (fun s => s.ruleWritten r v) else s)

end Sys2Proof.Machine
end

