-- ==== Sys2Proof/Machine/Supply.lean ====
section
/-! DEFINITION. CORE and the controller pairs asleep and awake, and the supervision of the field supply, the rails and the
temperatures (R447 to R449, R457 to R460). -/

namespace Sys2Proof.Machine

/-! ## CORE and the controller pairs -/

/-- Local traffic is present (R447). -/
def State.localTraffic (s : State) : Bool :=
  !s.sw.arrivals.isEmpty || !s.sw.offers.isEmpty || s.host.reading.isSome || s.host.mbx.isSome || s.host.snap.isSome ||
    (List.range 19).any (fun p => s.swUp p && (s.swPick p).isSome) ||
    s.sw.tunnels.any (fun c => !c.2.tx.isEmpty || !c.2.ready.isEmpty)

/-- CORE_CLOCK_GATE (R447): no local traffic for CORE_IDLE_US. -/
def execCoreClockGate (s : State) : Res :=
  .next (if !s.logicOn || s.localTraffic || s.reg Key.PWS_CORE_STATE != 0 then s
    else
      let s := s.until (s.power.coreIdleAt + s.reg Key.PWR_CORE_IDLE_US * 1000)
      { s with power := { s.power with coreGateAt := s.lmc } }.setReg Key.PWS_CORE_STATE 1)

/-- CORE_POWER_GATE (R447): CLOCK_GATED for CORE_GATE_MS, with every buffer empty and the PCIe link down; never when
CORE_GATE_MS is 0. -/
def execCorePowerGate (s : State) : Res :=
  .next (if !s.logicOn || s.localTraffic || s.reg Key.PWS_CORE_STATE != 1 || s.reg Key.PWR_CORE_GATE_MS == 0 ||
      s.reg Key.HOST_LINK != 0 || s.sw.queues.any (fun c => c.2.present != 0) then s
    else (s.until (s.power.coreGateAt + s.reg Key.PWR_CORE_GATE_MS * 1000000)).setReg Key.PWS_CORE_STATE 2)

/-- Wake time of CORE from its present state, in ns (R448). -/
def State.coreWakeTime (s : State) : Nat :=
  if s.reg Key.PWS_CORE_STATE = 1 then 4000 else if s.reg Key.PWS_CORE_STATE = 2 then 60000 else 0

/-- CORE_WAKE (R448): a wake source brings CORE AWAKE within its wake time. -/
def execCoreWake (s : State) : Res := .next (if s.logicOn then (s.advance (2 * s.coreWakeTime)).coreTouch else s)

/-- CORE_ELIGIBILITY_WAKE (R448): a frame that a shaper or a closed gate held has become eligible. -/
def execCoreEligibilityWake (s : State) : Res :=
  .next (if s.logicOn && s.sw.queues.any (fun c => c.2.present != 0) then (s.advance (2 * s.coreWakeTime)).coreTouch else s)

/-- CP_WAKE (R449): an event wakes a clock-gated controller pair. -/
def execCpWake (pair : Fin 2) (s : State) : Res :=
  .next (if s.logicOn then { s with power := { s.power with cpGated := s.power.cpGated.filter (· != pair.val) } } else s)

/-! ## The field supply (R457 to R459) -/

/-- The Hob commits the power entry and up to 31 pending entries after it (R443). -/
def State.powerFailCommit (s : State) : State :=
  let e : CrEntry := { ftime := s.ftime, lmcUs := s.lmc / 1000, cls := 6, source := 0, data := [1] }
  let s := { s with cru := { s.cru with queue := e :: s.cru.queue } }
  (List.range (min 32 s.cru.queue.length)).foldl (fun s _ => s.commitEntry) s

/-- VFIELD_WARNING (R458, R459): VFIELD has stayed below PFW_MV for 2 µs. The field die drives PFW_nn of the masked Pans
whatever the logic die does; the hub raises source 5, opens a trigger and commits. -/
def execVfieldWarning (mv : Nat) (s : State) : Res :=
  .next (if !s.field.powered || s.flag Key.PWS_WARNING then s
    else
      let s := { s with power := { s.power with pfw := s.reg Key.PWR_PFW_MASK } }
      let s := (s.setReg Key.PWS_WARNING 1).bump Key.PWS_WARNINGS
      if !s.logicOn then s else (((s.faultUp 0x090 0 mv).raise 5 0).trigger 5 0).powerFailCommit)

/-- VFIELD_WARNING_END (R458): VFIELD has stayed above the release level for PFW_MIN_MS. -/
def execVfieldWarningEnd (s : State) : Res :=
  .next (if !s.flag Key.PWS_WARNING then s
    else ({ s with power := { s.power with pfw := 0 } }.setReg Key.PWS_WARNING 0).faultDown 0x090)

/-- VFIELD_UNDERVOLTAGE (R457): below 14 V. -/
def execVfieldUndervoltage (mv : Nat) (s : State) : Res :=
  .next (if !s.field.powered || s.power.vfieldLow then s
    else
      let s := { s with power := { s.power with vfieldLow := true } }
      if s.logicOn then s.faultUp 0x091 0 mv else s)

/-- VFIELD_UNDERVOLTAGE_END (R457): above 15 V. -/
def execVfieldUndervoltageEnd (s : State) : Res :=
  .next ({ s with power := { s.power with vfieldLow := false } }.faultDown 0x091)

/-- RAIL_MARGIN follows the items that are out of range: an occurrence for each new one, LIVE while any is left. -/
def State.railsBad (s : State) (items : List (Nat × Nat)) (keep : Nat → Bool) : State :=
  let old := s.power.badRails
  let all := (items.map (·.1)) ++ old.filter keep
  let s := { s with power := { s.power with badRails := all.dedup } }
  let s := (items.filter (fun x => !old.contains x.1)).foldl (fun s x => s.faultUp 0x092 x.1 x.2) s
  if s.power.badRails.isEmpty then s.faultDown 0x092 else s

/-- FEED_OUT_OF_RANGE (R457): item 10 for VFIELD_A, 11 for VFIELD_B. -/
def execFeedOutOfRange (feedB : Bool) (mv : Nat) (s : State) : Res :=
  .next (if s.logicOn && s.field.powered then s.railsBad [(10 + b2n feedB, mv)] (fun _ => true) else s)

/-- FEED_BACK_IN_RANGE (R457): back inside for 10 ms. -/
def execFeedBackInRange (feedB : Bool) (s : State) : Res :=
  .next (if s.logicOn then s.railsBad [] (fun i => i != 10 + b2n feedB) else s)

/-! ## Rails and temperatures (R460) -/

/-- RAIL_CHECK (R460): every 10 ms; `outside` lists the rails out of tolerance with their voltages in mV. -/
def execRailCheck (outside : List (Nat × Nat)) (s : State) : Res :=
  .next (if !s.logicOn then s
    else
      let s := s.until (s.power.railAt + 10000000)
      { s with power := { s.power with railAt := s.lmc } }.railsBad (outside.filter (fun x => decide (x.1 < 10)))
        (fun i => decide (10 ≤ i)))

/-- T_max of the ordering code, in 0.1 °C (Table 20.15). -/
def State.tMax (s : State) : Int := if s.power.extended then 1350 else 1250

/-- TEMPERATURE_CHECK (R460): every 10 ms each die is read, in 0.1 °C; OVERTEMP from T_max − 10 °C until below
T_max − 15 °C. -/
def execTemperatureCheck (logic field dram : Int) (s : State) : Res :=
  .next (if !s.logicOn then s
    else
      let s := s.until (s.power.tempAt + 10000000)
      let dies : List (Nat × Int) := [(0, logic), (1, field), (2, dram)]
      let old := s.power.hotDies
      let hot := (dies.filter (fun d => decide (s.tMax - 100 ≤ d.2) ||
        (old.contains d.1 && decide (s.tMax - 150 ≤ d.2)))).map (·.1)
      let s := { s with
        power := { s.power with tempAt := s.lmc, hotDies := hot }
        gaugeIn := dies.foldl (fun m d => cellSet (fun _ => 0) m (0x14 + d.1) d.2) s.gaugeIn }
      let s := (dies.filter (fun d => hot.contains d.1 && !old.contains d.1)).foldl
        (fun s d => s.faultUp 0x093 d.1 d.2.toNat) s
      if hot.isEmpty then s.faultDown 0x093 else s)

end Sys2Proof.Machine
end

