-- ==== Sys2Proof/Machine/KeyUnit.lean ====
section
/-! DEFINITION. The life cycle, the key slots, the working key and its epochs, and attestation (chapter 18). What a
signature, an unwrapping or a slot's HMAC check comes out as is an operand; keys themselves are not represented. -/

namespace Sys2Proof.Machine

/-! ## Slots (R474) -/

/-- Slot `i` is VALID. -/
def State.slotValid (s : State) (i : Nat) : Bool := decide (i < 16) && bitOf (s.reg Key.KEY_SLOTS) i

/-- Slot `i` is FAILED; it stays so. -/
def State.slotFailed (s : State) (i : Nat) : Bool := decide (i < 16) && bitOf (s.reg Key.KEY_SLOTS) (16 + i)

/-- A key is installed in slot `i`; a FAILED slot stays FAILED. -/
def State.slotFill (s : State) (i : Nat) : State :=
  if s.slotFailed i then s else s.setReg Key.KEY_SLOTS (setBit (s.reg Key.KEY_SLOTS) i true)

/-- Slot `i` is erased: EMPTY, unless it is FAILED. -/
def State.slotErase (s : State) (i : Nat) : State := s.setReg Key.KEY_SLOTS (setBit (s.reg Key.KEY_SLOTS) i false)

/-- Slot `i` fails its check (KEY_SLOT_FAIL). -/
def State.slotFail (s : State) (i : Nat) : State :=
  (s.setReg Key.KEY_SLOTS (setBit (setBit (s.reg Key.KEY_SLOTS) i false) (16 + i) true)).occur 0x0A0 i 0

/-- The working key comes from slot 2: TEMPERED, but for a TAKE whose root is still pending (R473, Table 18.1). -/
def State.rootInSlot (s : State) : Bool :=
  s.reg Key.LC_STATE == 2 && !(s.keys.root.any (fun r => r.1 == 2))

/-- The slot that faults about the root name: 2, or 0 for a root in ROM. -/
def State.rootSlot (s : State) : Nat := if s.rootInSlot then 2 else 0

/-! ## Zeroisation (R486, R487) -/

/-- A refusal condition of Table 18.5 is set, so authentication is required. -/
def State.authRequired (s : State) : Bool :=
  s.flag Key.ACCESS_AUTH_REQUIRED || s.flag Key.KEY_WRITE_AUTH || s.flag Key.KEY_TWIN_AUTH || s.flag Key.IMG_IMAGE_AUTH

/-- The working key register is cleared: frames queued for tagging are dropped, and an ACTIVE hub that needs its key
proposes a handover (KEY_LOSS_HANDOVER). -/
def State.zeroise (s : State) (slot : Nat) : State :=
  if !s.flag Key.KEYED then s
  else
    let s := (s.setReg Key.KEYED 0).addCount Key.KEY_UNKEYED_DROPS s.tagHeld.length
    let s := { s with tagHeld := [], keys := { s.keys with lostAt := some s.lmc } }
    let s := s.occur 0x0A1 slot s.epoch
    if s.authRequired ∧ s.role = .active then s.propose 7 else s

/-- ZEROISE_WRITE (R486). -/
def execZeroiseWrite (w : Writer) (v : Nat) (s : State) : Res :=
  .next (if s.fwOn then s.command w Key.KEY_ZEROISE v noCheck (fun s => s.zeroise s.rootSlot) else s)

/-- KEY_LOSS_SAFE (R487): still ACTIVE or SOLO when the hold time has run since zeroisation. -/
def execKeyLossSafe (s : State) : Res :=
  .next (match s.keys.lostAt with
  | none => s
  | some t =>
    if !s.fwOn || s.role == TwinRole.standby || !s.authRequired then s
    else
      let s := s.until (t + s.reg Key.PWR_HOLD_TIME_MS * 1000000)
      { s with keys := { s.keys with lostAt := none } }.enterSafe 2)

/-! ## Transitions (R469 to R473) -/

/-- Fields of a transition record (Table 18.3). -/
def trKind (v : Nat) : Nat := octAt 260 v 1 1
def trSerial (v : Nat) : Nat := octAt 260 v 2 8
def trTurn (v : Nat) : Nat := octAt 260 v 10 4
def trEpoch (v : Nat) : Nat := octAt 260 v 14 1
def trEra (v : Nat) : Nat := octAt 260 v 15 2

/-- KIND `k` is allowed from life-cycle state `lc` (Table 18.2). -/
def lifeAllows (k lc : Nat) : Bool :=
  (k == 1 && lc == 0) || (k == 2 && lc == 1) || (k == 3 && lc == 2) || (k == 4 && lc == 2) || (k == 5 && decide (lc < 4))

/-- FTIME of the boundary of full turn `n`. -/
def State.turnAt (s : State) (n : Nat) : Nat := n * s.turnLen

/-- The full turn number that a 32-bit turn field names, nearest to the present turn. -/
def State.turnNear (s : State) (t : Nat) : Nat := fullTurn s.turnFull t

/-- A boundary lies less than 10 ms ahead of FTIME. -/
def State.tooNear (s : State) (n : Nat) : Bool := decide ((s.turnAt n : Int) < s.ftime + 10000000)

/-- The checks on a record of KIND `k` (R469, R473). -/
def trCheck (w : Writer) (k v : Nat) (good : Bool) (s : State) : Option Abort :=
  if k = 1 ∧ !s.roleOk w .vendor then some .roleDenied
  else if (k = 3 ∨ k = 4) ∧ s.keys.root.isSome then some .stateConflict
  else if octAt 260 v 0 1 ≠ 1 then some .versionUnsupported
  else if trKind v ≠ k ∨ trSerial v ≠ s.reg Key.ID_SERIAL then some .valueRange
  else if !good && !(k == 5 && s.reg Key.LC_STATE == 0) then some .authFail
  else if (k = 2 ∨ k = 3) ∧ s.tooNear (s.turnNear (trTurn v)) then some .timePassed
  else none

/-- The three stages of R472: the new state marked PENDING, the keys, PENDING cleared; each writes a Crucible entry. -/
def State.stages (s : State) (k lc : Nat) (keys : State → State) : State :=
  let entry (s : State) (stage : Nat) : State := s.logRecord Key.LC_TRANSITION (beBytes 1 k ++ beBytes 1 stage ++ beBytes 1 lc)
  let s := entry (s.setReg Key.LC_STATE lc) 1
  let s := entry (keys s) 2
  entry s 3

/-- A transition record of KIND `k`: LIFECYCLE_DENIED comes before the role (R357). -/
def State.transition (s : State) (w : Writer) (k v : Nat) (good : Bool) (lc : Nat) (keys : State → State) : State :=
  if v < 2 ^ 2080 ∧ !lifeAllows k (s.reg Key.LC_STATE) then s.refuse w Key.LC_TRANSITION .lifecycleDenied
  else s.write w Key.LC_TRANSITION v (trCheck w k v good) (fun s => s.stages k lc keys)

/-- A public key generated inside: its bytes are free. -/
def State.freshKey (s : State) (k : Nat) : State :=
  let (x, s) := s.fresh
  s.setReg k (x % 2 ^ 512)

/-- TRANSITION_FORGE: the identity and transport keys are generated; debug closes with the state. -/
def execTransitionForge (w : Writer) (v : Nat) (good : Bool) (s : State) : Res :=
  .next (if s.fwOn then s.transition w 1 v good 1 (fun s =>
    let s := ((s.slotFill 0).slotFill 1).freshKey Key.ATT_IDENTITY_PUB
    let s := s.freshKey Key.ATT_TRANSPORT_PUB
    let (x, s) := s.fresh
    s.setReg Key.ATT_IDENTITY_CERT (x % 2 ^ 8192)) else s)

/-- A root and its owner key become pending until EFFECTIVE_TURN (R473). -/
def State.pendRoot (s : State) (k v : Nat) : State :=
  { (s.slotFill 5).slotFill 2 with keys := { s.keys with root := some (k, s.turnNear (trTurn v), trEpoch v, trEra v) } }.setReg
    Key.LC_PENDING_TURN (trTurn v)

/-- TRANSITION_TAKE. -/
def execTransitionTake (w : Writer) (v : Nat) (good : Bool) (s : State) : Res :=
  .next (if s.fwOn then s.transition w 2 v good 2 (fun s => s.pendRoot 2 v) else s)

/-- TRANSITION_TRANSFER. -/
def execTransitionTransfer (w : Writer) (v : Nat) (good : Bool) (s : State) : Res :=
  .next (if s.fwOn then s.transition w 3 v good 2 (fun s => s.pendRoot 3 v) else s)

/-- TRANSITION_RETURN: slots 2 to 4 are erased at once and the working key with them. -/
def execTransitionReturn (w : Writer) (v : Nat) (good : Bool) (s : State) : Res :=
  .next (if s.fwOn then s.transition w 4 v good 3 (fun s => (((s.slotErase 2).slotErase 3).slotErase 4).zeroise 2) else s)

/-- TRANSITION_SCRAP: every slot is erased; a pending root goes with them. -/
def execTransitionScrap (w : Writer) (v : Nat) (good : Bool) (s : State) : Res :=
  let slot := s.rootSlot
  .next (if s.fwOn then s.transition w 5 v good 4 (fun s =>
    let s := (List.range 16).foldl State.slotErase s
    ({ s with keys := { s.keys with root := none } }.setReg Key.LC_PENDING_TURN 0).zeroise slot) else s)

/-- ROOT_TAKEOVER (R473): at EFFECTIVE_TURN the pending root replaces the owner root and the working key is derived from it. -/
def execRootTakeover (s : State) : Res :=
  .next (match s.keys.root with
  | none => s
  | some (_, n, e, era) =>
    if !s.fwOn then s
    else
      let s := s.untilFtime (s.turnAt n)
      let s := { s with keys := { s.keys with root := none, lostAt := none, loaded := true } }
      let s := ((s.slotFill 3).slotErase 5).setReg Key.LC_PENDING_TURN 0
      let s := s.newKey e era n
      let s := if s.keys.next.isNone then s.setReg Key.KEY_EPOCH_TURN (n % 2 ^ 32) else s
      s.setReg Key.KEYED (b2n (s.slotValid 2)))

/-! ## The working key (R476, R479, R480) -/

/-- What the key load finds (R476): a keyed root in the Crucible needs no slot; an erased slot gives no key; a slot that
fails its check is FAILED. -/
def State.keyFound (s : State) (intact : Bool) : State :=
  if s.reg Key.LC_STATE = 4 then s
  else if !s.rootInSlot then s.setReg Key.KEYED 1
  else if !s.slotValid 2 then s
  else if intact then s.setReg Key.KEYED 1
  else
    let s : State := (s.slotFail 2).occur 0x0A1 2 s.epoch
    { s with keys := { s.keys with lostAt := some s.lmc } }

/-- Marks the key load of this run as done. -/
def State.keyLoaded (s : State) : State := { s with keys := { s.keys with loaded := true } }

/-- KEY_LOAD (R476): 20 ms after reset release, unless the root selected has no key; `intact` is the check of its slot. A
FAILED check also invalidates the key's parent (R486). -/
def execKeyLoad (intact : Bool) (s : State) : Res :=
  if !(s.fwOn || s.inRecovery) || s.keys.loaded then .next s
  else .next ((s.until (s.keys.since + 20000000)).keyLoaded.keyFound intact)

/-- TAG_FLOOR_ADVANCE (R480): FTIME comes within 1 s of the floor. -/
def execTagFloorAdvance (s : State) : Res :=
  .next (if !s.fwOn || !s.flag Key.KEYED then s
    else
      let s := s.untilFtime (toSigned 64 (s.reg Key.KEY_TAG_FLOOR) - 1000000000)
      s.setReg Key.KEY_TAG_FLOOR (ofSigned 64 (s.ftime + 2000000000)))

/-- TAG_WAIT_RELEASE (R479, R480): the oldest waiting frame leaves once nothing holds it. -/
def execTagWaitRelease (s : State) : Res :=
  .next (match s.tagHeld with
  | [] => s
  | f :: rest =>
    let d1 := f.kind == 7 || f.kind == 9
    if !s.logicOn || s.tagWaits || s.ivFull d1 then s
    else
      let s := { s with tagHeld := rest }
      if f.kind = 9 then
        let q := s.keys.seq1
        let s := s.ivUse true
        { s with keys := { s.keys with seq1 := (q + 1) % 65536 } }.sendLocal 2 { f with seq := q, turn := s.turn, epoch := s.epoch }
      else s.originateNow f)

/-! ## Epochs (R482 to R485) -/

/-- EPOCH_COMMIT (R482). -/
def execEpochCommit (w : Writer) (v : Nat) (s : State) : Res :=
  .next (if s.fwOn then s.command w Key.KEY_EPOCH_COMMIT v
    (fun s => if s.reg Key.KEY_EPOCH_NEXT ≠ (s.epoch + 1) % 256 then some .valueRange
      else if s.tooNear (s.turnNear (s.reg Key.KEY_EPOCH_TURN)) then some .timePassed else none)
    (fun s =>
      let n := s.turnNear (s.reg Key.KEY_EPOCH_TURN)
      let e := s.reg Key.KEY_EPOCH_NEXT
      { s with keys := { s.keys with next := some (e, s.eraOf e, n) } }.setReg Key.KEY_EPOCH_AT (s.turnAt n)) else s)

/-- EPOCH_ROLLOVER (R483): at b_r the next key is in force; a longer turn period that waited for it begins (R480). -/
def execEpochRollover (s : State) : Res :=
  .next (match s.keys.next with
  | none => s
  | some (e, era, n) =>
    if !s.fwOn then s
    else
      let s := s.untilFtime (s.turnAt n)
      let s := { s with keys := { s.keys with next := none } }
      let s := ((s.newKey e era n).setReg Key.KEY_EPOCH_AT 0).setReg Key.KEY_EPOCH_TURN (n % 2 ^ 32)
      let want := s.wantedExp
      if s.img.exp.any (fun k => decide (k < want)) then
        { s with img := { s.img with exp := some want } }.setReg Key.IMG_RING_TURN_EXP want
      else s)

/-- KEY_EPOCH_AGE (R485): 2^30 turns after EPOCH_TURN. -/
def execKeyEpochAge (s : State) : Res :=
  .next (if !s.fwOn || !s.flag Key.KEYED then s
    else (s.untilFtime (s.turnAt (s.keys.epochTurn + 2 ^ 30))).faultUp 0x0A3 0 16384)

/-- EPOCH_AGE_ZEROISE (R485): 2^31 turns after EPOCH_TURN. -/
def execEpochAgeZeroise (s : State) : Res :=
  .next (if !s.fwOn || !s.flag Key.KEYED then s
    else (s.untilFtime (s.turnAt (s.keys.epochTurn + 2 ^ 31))).zeroise s.rootSlot)

/-! ## Attestation and the countersignature key (R488, R474) -/

/-- ATTEST_REQUEST (R488). -/
def execAttestRequest (w : Writer) (v : Nat) (s : State) : Res :=
  let slot := octAt 33 v 0 1
  .next (if s.fwOn then s.write w Key.ATTEST_REQUEST v
    (fun s => if s.slotValid slot && s.slotValid 0 then none else some .stateConflict)
    (fun s => { s with keys := { s.keys with attest := some (slot, beBytes 32 v, s.lmc) } }) else s)

/-- KEY_KIND of a slot (Table 18.6). -/
def keyKind (slot : Nat) : Nat := if slot = 0 then 1 else if slot = 1 then 2 else if slot = 2 then 3 else 4

/-- ATTEST_COMPLETE (R488): the statement of Table 18.6, its digests and the signature over it being free. -/
def execAttestComplete (s : State) : Res :=
  .next (match s.keys.attest with
  | none => s
  | some (slot, nonce, _) =>
    if !s.fwOn then s
    else
      let (key, s) := s.fresh
      let (fw, s) := s.fresh
      let (sig, s) := s.fresh
      let b := beBytes 4 0x424C4741 ++ beBytes 2 1 ++ beBytes 1 slot ++ beBytes 1 (s.reg Key.LC_STATE) ++
        beBytes 8 (s.reg Key.ID_SERIAL) ++ beBytes 1 (keyKind slot) ++ beBytes 1 (if slot ≤ 1 then 3 else 0) ++ [0, 0] ++
        beBytes 32 key ++ beBytes 32 fw ++ beBytes 4 (s.reg Key.ID_FIRMWARE_VERSION) ++ beBytes 8 (ofSigned 64 s.ftime) ++ nonce
      ({ s with keys := { s.keys with attest := none } }.setReg Key.ATT_STATEMENT (beNat b)).setReg Key.ATT_SIGNATURE
        (sig % 2 ^ 512))

/-- COUNTERSIGN_KEY_WRITE (R474): a key signed by slot 3 is installed in slot 4. -/
def execCountersignKeyWrite (w : Writer) (v : Nat) (good : Bool) (s : State) : Res :=
  .next (if s.fwOn then s.write w Key.KEY_COUNTERSIGN_KEY v
    (fun s => if good && s.slotValid 3 then none else some .authFail) (fun s => s.slotFill 4) else s)

end Sys2Proof.Machine
end

