-- ==== Sys2Proof/Machine/Jtag.lean ====
section
/-! DEFINITION. Reading the Crucible's three areas, and the JTAG port (R439, R444, R516). -/

namespace Sys2Proof.Machine

/-! ## The Crucible's bytes (R439, Table 16.14) -/

/-- `n` bytes of a list from `o` on, zeros where it has none. -/
def bytesAt (b : List Byte) (o n : Nat) : List Byte :=
  let x := (b.drop o).take n
  x ++ List.replicate (n - x.length) 0

/-- `n` bytes from offset `o` of an area that holds `size`-byte slots; a slot never written reads as zeros. -/
def areaBytes (m : Cells (List Byte)) (size o n : Nat) : List Byte :=
  let first := o / size
  let k := (o % size + n + size - 1) / size
  bytesAt ((List.range k).flatMap (fun i => bytesAt (cellGet (fun _ => []) m (first + i)) 0 size)) (o % size) n

/-- `n` bytes from offset `o` of the Crucible region: the rolling log, the pinned area from 3 MiB, the snapshots from
3.5 MiB. -/
def State.crucibleBytes (s : State) (o n : Nat) : List Byte :=
  if o < 3145728 then areaBytes s.cru.log 64 o n
  else if o < 3670016 then areaBytes s.cru.pinned 64 (o - 3145728) n
  else areaBytes s.cru.snaps 2048 (o - 3670016) n

/-! ## JTAG instructions (Table 20.7) -/

/-- Instruction `op` is selected. -/
def State.jtagSelect (s : State) (op : Nat) : State := { s with jtag := { s.jtag with ir := op } }

/-- The JTAG port has power. -/
def State.jtagOn (s : State) : Bool := match s.run with
  | .unpowered => false
  | _ => true

/-- The Crucible instructions work in RETURNED only; elsewhere they select BYPASS (R516). -/
def State.jtagCrucible (s : State) : Bool := s.reg Key.LC_STATE == 3

/-- JTAG_EXTEST: boundary scan; it drives no field ball. -/
def execJtagExtest (s : State) : Res := .next (if s.jtagOn then s.jtagSelect 0x00 else s)

/-- JTAG_IDCODE: 32 bits, 0x1072_07CB. -/
def execJtagIdcode (s : State) : Res :=
  .next (if s.jtagOn then { s with jtag := { s.jtag with ir := 0x01, data := beBytes 4 0x107207CB } } else s)

/-- JTAG_SAMPLE_PRELOAD: boundary scan. -/
def execJtagSamplePreload (s : State) : Res := .next (if s.jtagOn then s.jtagSelect 0x02 else s)

/-- JTAG_CLAMP: bypass. -/
def execJtagClamp (s : State) : Res := .next (if s.jtagOn then s.jtagSelect 0x03 else s)

/-- JTAG_HIGHZ: bypass, the logic die's outputs high-impedance while it stays selected. -/
def execJtagHighz (s : State) : Res := .next (if s.jtagOn then s.jtagSelect 0x04 else s)

/-- JTAG_CRUCIBLE_ADDR: a 22-bit byte offset, bits [5:0] ignored. -/
def execJtagCrucibleAddr (v : Nat) (s : State) : Res :=
  .next (if !s.jtagOn then s
    else if s.jtagCrucible then { s with jtag := { s.jtag with ir := 0x21, addr := v % 2 ^ 22 / 64 * 64 } }
    else s.jtagSelect 0xFF)

/-- JTAG_CRUCIBLE_DATA: the 64 bytes at the offset, which then advances. -/
def execJtagCrucibleData (s : State) : Res :=
  .next (if !s.jtagOn then s
    else if s.jtagCrucible then
      { s with jtag := { ir := 0x22, addr := (s.jtag.addr + 64) % 2 ^ 22, data := s.crucibleBytes s.jtag.addr 64 } }
    else s.jtagSelect 0xFF)

/-- JTAG_BYPASS. -/
def execJtagBypass (s : State) : Res := .next (if s.jtagOn then s.jtagSelect 0xFF else s)

end Sys2Proof.Machine
end

