-- ==== Sys2Proof/Machine/Update.lean ====
section
/-! DEFINITION. Updating the firmware, and what the ROM does in RECOVERY (chapter 19). What a digest or a signature check
comes out as is an operand. Boot itself is in Boot.lean. -/

namespace Sys2Proof.Machine

/-! ## Staging (R496, R497) -/

/-- PHASE becomes `p`, with a Crucible record entry naming {E00.01} (R496). -/
def State.setPhase (s : State) (p : Nat) : State :=
  if s.reg Key.UPD_PHASE = p then s else (s.setReg Key.UPD_PHASE p).logRecord Key.UPD_PHASE (beBytes 1 p)

/-- PHASE is one of these, else STATE_CONFLICT. -/
def State.phaseIn (s : State) (ps : List Nat) : Option Abort :=
  if s.reg Key.UPD_PHASE ∈ ps then none else some .stateConflict

/-- Staging is emptied. -/
def State.stageEmpty (s : State) : State := { s with boot := { s.boot with staged := [] } }.setReg Key.UPD_STAGED 0

/-- UPDATE_BEGIN. -/
def execUpdateBegin (w : Writer) (s : State) : Res :=
  .next (if s.fwOn then s.write w Key.UPD_COMMAND 1 (fun s => s.phaseIn [0, 6]) (fun s => s.stageEmpty.setPhase 1) else s)

/-- UPDATE_ABORT. -/
def execUpdateAbort (w : Writer) (s : State) : Res :=
  .next (if s.fwOn then s.write w Key.UPD_COMMAND 4 (fun s => s.phaseIn [1])
    (fun s => (s.stageEmpty.setPhase 0).setReg Key.UPD_LAST_CAUSE 2) else s)

/-- A block of the image is staged; it is checked only by its transport CRC, before it gets here (R497). -/
def State.stageBlock (s : State) (w : Writer) (off : Nat) (data : List Byte) : State :=
  s.write w Key.UPD_STAGING 0
    (fun s => (s.phaseIn [1]).or (if s.reg Key.UPD_STAGE_LENGTH < off + data.length then some .valueRange else none))
    (fun s => { s with boot := { s.boot with staged := (off, data) :: s.boot.staged } }.setReg Key.UPD_STAGED
      (s.reg Key.UPD_STAGED + data.length))

/-- STAGING_BLOCK_WRITE (R497). -/
def execStagingBlockWrite (w : Writer) (off : Nat) (data : List Byte) (s : State) : Res :=
  .next (if s.fwOn then s.stageBlock w off data else s)

/-- The staged byte at `o`, as last received. -/
def stagedByte (bs : List (Nat × List Byte)) (o : Nat) : Byte :=
  match bs.find? (fun b => decide (b.1 ≤ o) && decide (o < b.1 + b.2.length)) with
  | none => 0
  | some b => b.2.getD (o - b.1) 0

/-- How far the staged bytes reach without a gap from `pos` on; `fuel` bounds the blocks that extend it. -/
def stagedTo (bs : List (Nat × List Byte)) : Nat → Nat → Nat
  | 0, pos => pos
  | n + 1, pos => match bs.find? (fun b => decide (b.1 ≤ pos) && decide (pos < b.1 + b.2.length)) with
    | none => pos
    | some b => stagedTo bs n (b.1 + b.2.length)

/-- Every byte of STAGE_LENGTH is staged. -/
def State.stagedWhole (s : State) : Bool :=
  decide (s.reg Key.UPD_STAGE_LENGTH ≤ stagedTo s.boot.staged s.boot.staged.length 0)

/-! ## The image header (R492, R498) -/

/-- `n` bytes of an image header from `o`, as a number. -/
def hdrAt (h : List Byte) (o n : Nat) : Nat := beAt h o n

/-- What the hub acts on of a header (Table 19.2). -/
def imageInfo (h : List Byte) : ImageInfo :=
  { version := hdrAt h 12 4, layout := hdrAt h 16 2, loaderMin := hdrAt h 20 4, length := hdrAt h 24 4, digest := hdrAt h 60 4 }

/-- MAGIC, FORMAT and PRODUCT are as in Table 19.2. -/
def hdrOk (h : List Byte) : Bool :=
  hdrAt h 0 4 == 0x42465749 && hdrAt h 4 2 == 1 && hdrAt h 8 4 == 0x720

/-- The staged header. -/
def State.stagedHeader (s : State) : List Byte := (List.range 256).map (stagedByte s.boot.staged)

/-- UPDATE_WRITE (R498): the header is checked; once it passes, the loader overwrites the slot. A refused header or digest
leaves its name in LAST_CAUSE. -/
def execUpdateWrite (w : Writer) (digestGood : Bool) (s : State) : Res :=
  let h := s.stagedHeader
  let x := imageInfo h
  let bad : Option (Abort × Nat) :=
    if !hdrOk h || x.length != s.reg Key.UPD_STAGE_LENGTH then some (.valueRange, 3)
    else if !digestGood then some (.valueRange, 4)
    else if s.reg Key.ID_LOADER_VERSION < x.loaderMin then some (.versionUnsupported, 5)
    else none
  .next (if !s.fwOn then s
    else match s.permit w Key.UPD_COMMAND 2, s.phaseIn [1], s.stagedWhole, bad with
    | none, none, true, some (a, c) => (s.setReg Key.UPD_LAST_CAUSE c).refuse w Key.UPD_COMMAND a
    | _, _, _, _ => s.write w Key.UPD_COMMAND 2
        (fun s => (s.phaseIn [1]).or (if s.stagedWhole then none else some .stateConflict))
        (fun s => (({ s with boot := { s.boot with writing := some x } }.setReg Key.UPD_PROGRESS 0).setReg
          Key.UPD_STAGED_VERSION x.version).setReg Key.UPD_PREVIOUS_VERSION s.boot.slot.version |>.setPhase 2))

/-- SECTOR_WRITTEN (R498): after the last sector the phase becomes ARMED. -/
def execSectorWritten (s : State) : Res :=
  .next (match s.boot.writing with
  | none => s
  | some x =>
    if !s.fwOn || s.reg Key.UPD_PHASE != 2 then s
    else
      let n := s.reg Key.UPD_PROGRESS + 1
      let s := s.setReg Key.UPD_PROGRESS n
      if n < (x.length + 65535) / 65536 then s
      else { s with boot := { s.boot with slot := x, writing := none } }.setPhase 3)

/-! ## Trial and confirmation (R499, R500) -/

/-- A migrated parameter copy awaiting confirmation is confirmed (R362, R500). -/
def confirmCopy (c : Option ParamCopy) : Option ParamCopy := c.map (fun x => { x with state := 0 })

/-- UPDATE_CONFIRM (R500): the digest's low 32 bits go to both copies of the confirmation word. -/
def execUpdateConfirm (w : Writer) (s : State) : Res :=
  .next (if s.fwOn then s.write w Key.UPD_COMMAND 3 (fun s => s.phaseIn [5]) (fun s =>
    let s := { s with boot := { s.boot with
      confirm1 := s.boot.slot.digest, confirm2 := s.boot.slot.digest
      copy1 := confirmCopy s.boot.copy1, copy2 := confirmCopy s.boot.copy2 } }
    let s := if s.reg Key.PARAM_MIGRATION = 1 then s.setReg Key.PARAM_MIGRATION 0 else s
    s.setPhase 6) else s)

/-- TRIAL_WINDOW_EXPIRY (R499): TRIAL_MIN minutes after the firmware's start without CONFIRM, once per boot. -/
def execTrialWindowExpiry (s : State) : Res :=
  .next (if !s.fwOn || s.reg Key.UPD_PHASE != 5 || s.boot.trialRaised then s
    else
      let s := s.until (s.boot.startedAt + s.reg Key.UPD_TRIAL_MIN * 60000000000)
      { s with boot := { s.boot with trialRaised := true } }.occur 0x0B3 0 (s.reg Key.UPD_TRIAL_BOOTS))

/-- ENTER_RECOVERY_WRITE (R506): a reset into RECOVERY with cause 6. -/
def execEnterRecoveryWrite (w : Writer) (v : Nat) (s : State) : Res :=
  .next (if s.fwOn then s.command w Key.UPD_ENTER_RECOVERY v noCheck (fun s =>
    { s with boot := { s.boot with recover := some 6 }, hub := { s.hub with resetDue := some (s.lmc, .recovery) } }) else s)

/-! ## RECOVERY (R502, R503) -/

/-- A block of RECOVERY_IMAGE has arrived: at a sector boundary inside the image slot, one being received while another is
written. Its response follows its write. -/
def State.recoveryBlock (s : State) (w : Writer) (off : Nat) (data : List Byte) : State :=
  if s.reg Key.LC_STATE = 4 then s.refuse w Key.RECOVERY_IMAGE .lifecycleDenied
  else match s.permit w Key.RECOVERY_IMAGE 0 with
  | some a => s.refuse w Key.RECOVERY_IMAGE a
  | none =>
    if off % 65536 ≠ 0 ∨ 6291456 < off + data.length ∨ 65536 < data.length then s.refuse w Key.RECOVERY_IMAGE .valueRange
    else if 2 ≤ s.boot.blocks.length then s.refuse w Key.RECOVERY_IMAGE .busy
    else { s with boot := { s.boot with blocks := s.boot.blocks ++ [(w.path, off, data)] } }

/-- RECOVERY_IMAGE_BLOCK (R503). -/
def execRecoveryImageBlock (w : Writer) (off : Nat) (data : List Byte) (s : State) : Res :=
  .next (if s.inRecovery then s.recoveryBlock w off data else s)

/-- RECOVERY_BLOCK_WRITTEN (R503). -/
def execRecoveryBlockWritten (s : State) : Res :=
  .next (match s.boot.blocks with
  | [] => s
  | (p, off, data) :: rest =>
    if !s.inRecovery then s
    else
      { s with boot := { s.boot with
          blocks := rest, written := s.boot.written + 1
          image := cellSet (fun _ => []) s.boot.image (off / 65536) data } }.answer p Key.RECOVERY_IMAGE none [])

/-- REBOOT: the written image is ARMED when at least one block was written, and the hub resets. -/
def State.reboot (s : State) : State :=
  let s := if s.boot.written = 0 then s
    else
      let h := cellGet (fun _ => []) s.boot.image 0
      let s := if h.isEmpty then s else { s with boot := { s.boot with slot := imageInfo h } }
      s.setPhase 3
  { s with hub := { s.hub with resetDue := some (s.lmc, .update) } }

/-- RECOVERY_REBOOT (R503): never in SCRAP. -/
def execRecoveryReboot (w : Writer) (s : State) : Res :=
  .next (if !s.inRecovery then s
    else if s.reg Key.LC_STATE = 4 then s.refuse w Key.RECOVERY_COMMAND .lifecycleDenied
    else s.write w Key.RECOVERY_COMMAND 1 noCheck State.reboot)

end Sys2Proof.Machine
end

