-- ==== Sys2Proof/Machine/Writes.lean ====
section
/-! DEFINITION. A write of any dictionary object: the object's own checks and effect, by its number. An object whose write
is a command of its own goes to that command's meaning; every other writable object is stored, with the checks and the
consequences that its chapter gives it. -/

namespace Sys2Proof.Machine

/-- The state that a meaning answers. -/
def resState (s : State) : Res → State
  | .next t => t
  | .fault _ => s
  | .refused _ => s

/-- Absent feature bit `f` refuses a setting (R81). -/
def State.needsFeature (s : State) (on : Bool) (f : Nat) : Option Abort :=
  if on && !s.feature f then some .versionUnsupported else none

/-! ## Objects of the low indices (chapters 2 to 5) -/

/-- The types and sizes of a run's existing objects agree, and a map can bind each (R97). -/
def runTypes (e : Nat) : Bool :=
  let rows := (List.range (entCount e)).filterMap (fun i => objRow ((entIndex e + i) * 256 + entSub e))
  rows.all (fun r => (mapWidth (r.index * 256 + r.subLo)).isSome && rows.all (fun q => q.ty == r.ty && q.size == r.size))

/-- Two intervals of words overlap. -/
def overlap (a b : Nat × Nat) : Bool := decide (a.1 < b.1 + b.2) && decide (b.1 < a.1 + a.2)

/-- Entries of map `idx` other than that of object `k`. -/
def State.otherEntries (s : State) (idx k : Nat) : List Nat := (s.setReg k 0).mapEntries idx

/-- The refusals of R97 for entry `v` of a map whose window has `words` words. -/
def State.entryCheck (s : State) (idx words k v : Nat) : Option Abort :=
  if !bitOf v 0 then none
  else if !runTypes v || decide (words < entOffset v + entSpan v) ||
      (s.otherEntries idx k).any (fun e => overlap (entOffset e, entSpan e) (entOffset v, entSpan v)) then some .valueRange
  else none

/-- Groups that {204} declares: first offset and length. -/
def State.declaredGroups (s : State) : List (Nat × Nat) :=
  ((List.range 64).map (fun i => s.reg (Key.GROUPS_ENTRY i))).filterMap (fun g =>
    if fld g 4 0 = 0 then none else some (fld g 27 16, fld g 4 0))

/-- Mapped sources wider than 16 bits: first offset and length (R121). -/
def State.wideSources (s : State) : List (Nat × Nat) :=
  (s.mapEntries 0x202).flatMap (fun e => if entWidth e ≤ 1 then []
    else (List.range (entCount e)).map (fun i => (entOffset e + i * entWidth e, entWidth e)))

/-- A group of {204} (R121). -/
def State.groupCheck (s : State) (k v : Nat) : Option Abort :=
  let n := fld v 4 0
  let g := (fld v 27 16, n)
  if n = 0 then none
  else if n = 1 ∨ 16 < n ∨ s.reg Key.WIN_PUB_WORDS < g.1 + n ∨ (s.setReg k 0).declaredGroups.any (overlap g) ∨
      s.wideSources.any (overlap g) then some .valueRange
  else none

/-- Publish map entry `v` makes a source wider than 16 bits overlap a declared group (R121). -/
def State.wideClash (s : State) (v : Nat) : Bool :=
  bitOf v 0 && decide (1 < entWidth v) && s.declaredGroups.any (overlap (entOffset v, entSpan v))

/-- The refusals of a subscribe map entry beyond R97: a line or pin that an armed timer or a Whisk holds (R154, R265), an
OUT_PACKED beside a COMMAND of its Pan (R195), a PD_OUT beside its PD_OUT4 (R248). -/
def State.subClash (s : State) (k v : Nat) : Bool :=
  let t := s.setReg k v
  let lineTaken (i : Nat) : Bool := (entBinds v (Key.DL_COMMAND i) || entBinds v (Key.PANDL_OUT_PACKED (i / 16))) &&
    (s.lineTimed i || s.whiskOwns (i / 16) 2 (i % 16))
  let pinTaken (x : Nat) : Bool := entBinds v (Key.PX_COMMAND x) && (s.timerTargets (0x2000 + x) || s.whiskOwns (x / 4) 1 (x % 4))
  let both (n : Nat) : Bool := t.subBound (Key.PANDL_OUT_PACKED n) &&
    (List.range 16).any (fun j => t.subBound (Key.DL_COMMAND (16 * n + j)))
  let twice (p : Nat) : Bool := t.subBound (Key.IOL_PD_OUT p) && t.subBound (Key.IOL_PD_OUT4 p)
  bitOf v 0 && ((List.range 256).any lineTaken || (List.range 64).any pinTaken || (List.range 16).any both ||
    (List.range 64).any twice)

/-- The bandwidth check (R130) with own window `words`, exponent `k` and tags `auth`, and `more` bits besides. -/
def State.bandwidth (s : State) (words k : Nat) (auth : Bool) (more : Nat) : Option Abort :=
  if s.loadFits (s.loadWith words auth + more) k then none else some .budgetExceeded

/-- Wire bits of the window of node `a` that an import would add: as granted, when the map does not hold it (R130). -/
def State.importBits (s : State) (a : Nat) : Nat :=
  if a = 0 ∨ s.img.wins.any (fun w => w.key == a) then 0
  else match cellGet (fun _ => none) s.img.granted a with
    | some g => windowBits g.pubWords (bitOf g.imageFlags 6)
    | none => 0

/-- The IEEE 1588 settings of {2D0} and {680} IPV4_ADDR agree (R151, R315): one port at most for an ordinary clock, and an
address for each port of the IPv4 mapping. -/
def State.ptpOk (s : State) : Bool :=
  let ports := (List.range 8).filter (fun e => bitOf (s.reg Key.PTP_PORT_MASK) e)
  (s.reg Key.PTP_CLOCK_KIND == 1 || decide (ports.length ≤ 1)) &&
    (s.reg Key.PTP_MAPPING == 0 || ports.all (fun e => s.reg (Key.EDGE_IPV4_ADDR e) != 0))

/-- A write after which the IEEE 1588 settings would not agree is refused. -/
def State.ptpCheck (s : State) (k v : Nat) : Option Abort := if (s.setReg k v).ptpOk then none else some .valueRange

/-- Own checks of the objects of indices 000 to 2FF. -/
def State.lowCheck (s : State) (k v : Nat) : Option Abort :=
  let i := k / 256
  let words := s.reg Key.WIN_PUB_WORDS
  let exp := s.reg Key.IMG_TURN_PERIOD_EXP
  let auth := s.flag Key.IMG_IMAGE_AUTH
  if k = Key.ACCESS_AUTH_REQUIRED then s.needsFeature (v == 1) 2
  else if k = Key.IMG_TURN_PERIOD_EXP then s.bandwidth words v auth 0
  else if k = Key.IMG_IMAGE_AUTH then (s.needsFeature (v == 1) 2).or (s.bandwidth words exp (v == 1) 0)
  else if k = Key.WIN_PUB_WORDS then s.bandwidth v exp auth 0
  else if i = 0x202 then (s.entryCheck 0x202 words k v).or (if s.wideClash v then some .valueRange else none)
  else if i = 0x203 then
    (s.entryCheck 0x203 (s.reg Key.WIN_SUB_WORDS) k v).or (if s.subClash k v then some .stateConflict else none)
  else if i = 0x204 then s.groupCheck k v
  else if i = 0x207 then s.bandwidth words exp auth (s.importBits v)
  else if i = 0x2D0 then s.ptpCheck k v
  else none

/-- Effect of a write to the objects of indices 000 to 2FF. -/
def State.lowEff (s : State) (k v : Nat) : State :=
  let s := s.store k v
  if k = Key.DISC_ROOT_PRIORITY ∨ k = Key.DISC_RING_NUMBER then { s with disc := { s.disc with want := true } }
  else if k = Key.WIN_PUB_WORDS then
    ({ s with img := { s.img with allDelta := true } }).setForces (s.img.forces.filter (fun c => decide (c.1 < v)))
  else if k = Key.IMG_REFRESH_ROTATION then s.unstay 3 0
  else if k / 256 = 0x207 then { s with img := { s.img with requestDue := true } }
  else s

/-- COMPAT_REQUEST_WRITE (R28, R363): written to the MRAM control block at once, it decides at the next reset. -/
def execCompatRequestWrite (w : Writer) (v : Nat) (s : State) : Res :=
  .next (if s.fwOn then s.write w Key.COMPAT_REQUEST v noCheck (fun s => s.setReg Key.COMPAT_REQUEST v) else s)

/-- A write of `v` that no row of its own names. -/
def State.plain (s : State) (w : Writer) (k v : Nat) (own : State → Option Abort) (eff : State → State) : State :=
  if s.fwOn || s.inRecovery then s.write w k v own eff else s

/-- A write of object `k`, index 000 to 2FF. -/
def State.writeLow (s : State) (w : Writer) (k v : Nat) : State :=
  let i := k / 256
  let j := k % 256
  let f := Fin.ofNat 4 (i - 0x110)
  let run (r : State → Res) : State := resState s (r s)
  if k = Key.COMPAT_REQUEST then run (execCompatRequestWrite w v)
  else if k = Key.HUB_STATE_REQUEST then
    (if v = 1 then run (execStateRequestPreop w) else if v = 2 then run (execStateRequestOperate w)
     else if v = 3 then run (execStateRequestSafe w) else if v = 4 then run (execStateRequestOpenMaint w)
     else if v = 5 then run (execStateRequestCloseMaint w) else if v = 6 then run (execStateRequestReset w)
     else s.plain w k v noCheck id)
  else if k = Key.PARAM_SAVE then run (execSave w v)
  else if k = Key.PARAM_RESTORE_DEFAULTS then run (execRestoreDefaults w v)
  else if k = Key.LINK_MIN_VERSION then run (execVersionRangeWrite w false v)
  else if k = Key.LINK_MAX_VERSION then run (execVersionRangeWrite w true v)
  else if 0x110 ≤ i ∧ i ≤ 0x113 ∧ j = 1 then run (execPortEnableWrite w f v)
  else if 0x110 ≤ i ∧ i ≤ 0x113 ∧ j = 2 then run (execPortSettingWrite w f .speed v)
  else if 0x110 ≤ i ∧ i ≤ 0x113 ∧ j = 3 then run (execPortSettingWrite w f .fec v)
  else if 0x110 ≤ i ∧ i ≤ 0x113 ∧ j = 4 then run (execPortSettingWrite w f .medium v)
  else if 0x110 ≤ i ∧ i ≤ 0x113 ∧ j = 5 then run (execPortSettingWrite w f .holdoff v)
  else if k = Key.LINK_COUNTER_CLEAR then run (execLinkCounterClearPort w v)
  else if k = Key.BYP_COMMAND then run (execBypCommandWrite w v)
  else if k = Key.BYP0_CYCLES then run (execBypCyclesWrite w 0 v)
  else if k = Key.BYP1_CYCLES then run (execBypCyclesWrite w 1 v)
  else if k = Key.BYP_RATED_CYCLES then run (execRatedCyclesWrite w false v)
  else if k = Key.BYP_WARN_PERCENT then run (execRatedCyclesWrite w true v)
  else if k = Key.FORCE_COMMAND ∧ v = 1 then run (execForceWord w)
  else if k = Key.FORCE_COMMAND ∧ v = 2 then run (execForceRelease w)
  else if k = Key.FORCE_COMMAND ∧ v = 3 then run (execForceReleaseAll w)
  else if k = Key.TIME_STEP_ACCEPT then run (execStepAcceptWrite w v)
  else if k = Key.TIME_SET_TIME then run (execSetTimeWrite w v)
  else s.plain w k v (fun s => s.lowCheck k v) (fun s => s.lowEff k v)

/-! ## Objects of the Pans and ports (chapters 6 to 10, 17) -/

/-- Own checks of discrete-line objects: the loads of R186 and the budget; a delay is written in CAL_MODE 1 only (R197). -/
def State.lineCheck (s : State) (i j k v : Nat) : Option Abort :=
  if (j = 0x0D ∨ j = 0x0E) ∧ s.reg (Key.DL_CAL_MODE i) = 0 then some .stateConflict
  else orElse (s.budgetCheck k v) (s.loadCheck i k v)

/-- Own checks of CAN objects (R206). -/
def State.canCheck (s : State) (c j k v : Nat) : Option Abort :=
  if 2 ≤ j ∧ j ≤ 0x0D ∧ s.flag (Key.CAN_ENABLE c) then some .stateConflict else s.budgetCheck k v

/-- Own checks of RS-485 objects (R230, R232, R240, Table 9.3): END_MODE has four values. -/
def State.rsCheck (s : State) (c j k v : Nat) : Option Abort :=
  let t := s.setReg k v
  if j = 6 ∧ 3 < v then some .valueRange
  else if 2 ≤ j ∧ j ≤ 0x13 ∧ s.flag (Key.RS_ENABLE c) then some .stateConflict
  else if (j = 3 ∨ j = 5) ∧ t.reg (Key.RS_STOP_BITS c) = 1 ∧ t.reg (Key.RS_DATA_BITS c) ≠ 5 then some .valueRange
  else if j = 0x11 ∧ v = 1 ∧ c % 3 ≠ 0 then some .valueRange
  else if j = 0x11 ∧ v = 1 ∧ s.flag (Key.RS_ENABLE (c + 1)) then some .stateConflict
  else s.budgetCheck k v

/-- Own checks of IO-Link objects: SAFE_MODE has the three values of R249; a bound PD_OUT or PD_OUT4 is not written
(R248). -/
def State.iolCheck (s : State) (j k v : Nat) : Option Abort :=
  if j = 0x0B ∧ 2 < v then some .valueRange
  else if (j = 0x18 ∨ j = 0x19) ∧ s.subBound k then some .stateConflict
  else s.budgetCheck k v

/-- Effect of a write to an IO-Link object: a PD_OUT is output data; a DS_IMAGE is the record of the device last seen. -/
def State.iolEff (s : State) (p j k v : Nat) : State :=
  if j = 0x18 then s.iolAct p (fun s => s.pdOut p false v)
  else if j = 0x19 then s.iolAct p (fun s => s.pdOut p true v)
  else if j = 0x20 then
    ((s.setReg k v).setReg (Key.IOL_DS_STATE p) 1).setIol p { s.iol p with
      dsVendor := s.reg (Key.IOL_DEV_VENDOR_ID p), dsDevice := s.reg (Key.IOL_DEV_DEVICE_ID p) }
  else s.iolAct p (fun s => (s.store k v).lpSync p)

/-- Field ranges of Whisk objects (R262, R263, Table 10.12). -/
def whiskRange (j v : Nat) : Bool :=
  if j = 1 then decide (1 ≤ v ∧ v ≤ 5)
  else if j = 3 then fld v 23 8 != 0
  else if j = 4 then decide (fld v 11 8 ≤ 7 ∧ fld v 7 4 ≤ 7 ∧ fld v 3 0 ≤ 7)
  else if j = 5 then decide (fld v 29 24 ≤ 32 ∧ fld v 21 16 ≤ 32)
  else if 0x0F ≤ j ∧ j ≤ 0x16 then
    decide (fld v 15 12 ≤ 5) && (fld v 15 12 != 1 || decide (fld v 11 8 ≤ 3)) &&
      (decide (fld v 15 12 < 3) || decide (fld v 11 8 ≤ 2))
  else true

/-- Own checks of Whisk objects (R273, R277). -/
def State.whiskWriteCheck (s : State) (w j v : Nat) : Option Abort :=
  let st := (s.whisk w).st
  let idleOnly := j == 3 || j == 6 || j == 0x0C || j == 0x0D || (decide (0x0F ≤ j) && decide (j ≤ 0x16))
  let halted := j == 4 || j == 5 || (decide (7 ≤ j) && decide (j ≤ 0x0B)) || (decide (0x17 ≤ j) && decide (j ≤ 0x36))
  let split := s.reg (Key.WK_STORE_SPLIT w)
  let bad := decide (0x17 ≤ j) && decide (j ≤ 0x36) &&
    ((split == 8 && fld v 11 9 == 2) || (split == 0 && (fld v 11 9 == 1 || fld v 11 9 == 3 || fld v 8 6 == 5)))
  if !whiskRange j v then some .valueRange
  else if (idleOnly && st != 0) || (halted && st != 0 && st != 4) then some .stateConflict
  else if st = 4 ∧ bad then some .valueRange
  else none

/-- A PX COMMAND (R195, R265, R285). -/
def State.pxCheck (s : State) (x j k v : Nat) : Option Abort :=
  if j ≠ 4 then none
  else orElse (commandQuality v)
    (if s.subBound k || s.timerTargets (0x2000 + x) || s.whiskOwns (x / 4) 1 (x % 4) then some .stateConflict else none)

/-- Two enabled edge ports have one PHY_ADDR (R316). -/
def State.phyClash (s : State) : Bool :=
  (List.range 8).any (fun a => (List.range 8).any (fun b => decide (a < b) && s.flag (Key.EDGE_ENABLE a) &&
    s.flag (Key.EDGE_ENABLE b) && s.reg (Key.EDGE_PHY_ADDR a) == s.reg (Key.EDGE_PHY_ADDR b)))

/-- Own checks of edge-port objects. -/
def State.edgeCheck (s : State) (j k v : Nat) : Option Abort :=
  if (j = 1 ∨ j = 2) ∧ (s.setReg k v).phyClash then some .valueRange
  else if j = 5 then s.ptpCheck k v
  else none

/-- A write of object `k`, index 300 to 3FF and 2E0 to 2EF: captures and queues. -/
def State.writeQueue (s : State) (w : Writer) (k v : Nat) : State :=
  let i := k / 256
  let j := k % 256
  let n := Fin.ofNat 16 i
  let run (r : State → Res) : State := resState s (r s)
  if i < 0x300 ∧ j = 7 then run (execCaptureFlush w n v)
  else if 0x310 ≤ i ∧ i ≤ 0x31F ∧ 1 ≤ j ∧ j ≤ 25 then run (execQueueConfigWrite w n (Fin.ofNat 25 (j - 1)) v)
  else if 0x340 ≤ i ∧ i ≤ 0x34F ∧ 1 ≤ j ∧ j ≤ 25 ∧ v = 2 then run (execQueueSkipCommand w n (Fin.ofNat 25 (j - 1)) v)
  else if 0x340 ≤ i ∧ i ≤ 0x34F ∧ 1 ≤ j ∧ j ≤ 25 then run (execQueueFlushCommand w n (Fin.ofNat 25 (j - 1)) v)
  else if 0x350 ≤ i ∧ i ≤ 0x35F ∧ j = 2 then run (execOutPackedWrite w n v)
  else s.plain w k v noCheck (fun s => s.store k v)

/-- A write of a discrete-line object. -/
def State.writeLine (s : State) (w : Writer) (k v : Nat) : State :=
  let i := Fin.ofNat 256 (k / 256)
  let j := k % 256
  let run (r : State → Res) : State := resState s (r s)
  if j = 1 then run (execDlModeWrite w i v)
  else if j = 0x12 then run (execDlCommandWrite w i v)
  else if j = 0x14 then run (execDlClear w i v)
  else s.plain w k v (fun s => s.lineCheck i j k v) (fun s => s.lineAct i (fun s => s.store k v))

/-- A write of a CAN object. -/
def State.writeCan (s : State) (w : Writer) (k v : Nat) : State :=
  let c := Fin.ofNat 32 (k / 256 - 0x500)
  let j := k % 256
  let run (r : State → Res) : State := resState s (r s)
  if j = 1 then run (execCanEnableWrite w c v)
  else if j = 0x18 then run (execMbHoldWrite w c v)
  else if j = 0x19 ∧ v = 1 then run (execCanRecoveryStart w c)
  else if j = 0x19 ∧ v = 2 then run (execCanAloneRelease w c)
  else if 0x20 ≤ j ∧ j ≤ 0x6F ∧ (j - 0x20) % 5 = 0 then run (execMbCfgWrite w c (Fin.ofNat 16 ((j - 0x20) / 5)) v)
  else if 0x70 ≤ j then
    s.plain w k v noCheck (fun s => (s.store k v).canFilterWritten c (j - 0x70) (s.reg k))
  else s.plain w k v (fun s => s.canCheck c j k v) (fun s => s.store k v)

/-- A write of an RS-485 object. -/
def State.writeRs (s : State) (w : Writer) (k v : Nat) : State :=
  let c := Fin.ofNat 48 (k / 256 - 0x520)
  let j := k % 256
  if j = 1 then resState s (execRs485EnableWrite w c v s)
  else s.plain w k v (fun s => s.rsCheck c j k v) (fun s => s.rsAct c (fun s => s.store k v))

/-- A write of an IO-Link object; `data` is the OCTETS value as it came. -/
def State.writeIol (s : State) (w : Writer) (k v : Nat) (data : List Byte) : State :=
  let p := Fin.ofNat 64 (k / 256 - 0x560)
  let j := k % 256
  let run (r : State → Res) : State := resState s (r s)
  if j = 1 then run (execIolModeWrite w p v)
  else if j = 0x1B then run (execIsduRequestWrite w p data)
  else if j = 0x1E ∧ v = 1 then run (execPortCmdRestart w p)
  else if j = 0x1E ∧ v = 2 then run (execPortCmdBackup w p)
  else if j = 0x1E ∧ v = 3 then run (execPortCmdClearDs w p)
  else s.plain w k v (fun s => s.iolCheck j k v) (fun s => s.iolEff p j k v)

/-- A write of a Whisk object. -/
def State.writeWhisk (s : State) (w : Writer) (k v : Nat) : State :=
  let n := Fin.ofNat 32 (k / 256 - 0x5A0)
  let j := k % 256
  let run (r : State → Res) : State := resState s (r s)
  if j = 1 ∧ v = 1 then run (execWhiskStart w n)
  else if j = 1 ∧ v = 2 then run (execWhiskHalt w n)
  else if j = 1 ∧ v = 3 then run (execWhiskResume w n)
  else if j = 1 ∧ v = 4 then run (execWhiskRestart w n)
  else if j = 1 ∧ v = 5 then run (execWhiskStop w n)
  else s.plain w k v (fun s => s.whiskWriteCheck n j v) (fun s => s.store k v)

/-- A write of a branch-fuse or port-fuse object. -/
def State.writeFuse (s : State) (w : Writer) (k v : Nat) : State :=
  let i := k / 256
  let j := k % 256
  let b := Fin.ofNat 64 i
  let run (r : State → Res) : State := resState s (r s)
  if i < 0x640 then
    (if j = 1 then run (execBranchEnableWrite w b v)
     else if j = 0x0B then run (execBranchCommandWrite w b v)
     else if j = 0x0C then run (execBranchClear w b v)
     else s.plain w k v (fun s => s.budgetCheck k v) (fun s => (s.store k v).fuseSync b))
  else if j = 5 then run (execLpClear w b v)
  else s.plain w k v (fun s => s.budgetCheck k v) (fun s => (s.store k v).lpSync b)

/-- A write of an edge-port or timer object. -/
def State.writeEdge (s : State) (w : Writer) (k v : Nat) : State :=
  let i := k / 256
  let j := k % 256
  let run (r : State → Res) : State := resState s (r s)
  if i < 0x690 then
    let e := Fin.ofNat 8 i
    (if j = 0x0A then run (execMdioWrite w e v)
     else s.plain w k v (fun s => s.edgeCheck j k v) (fun s => (s.store k v).edgeSync e))
  else if j = 1 then run (execArmRecordWrite w (Fin.ofNat 64 (i - 0x690)) v)
  else if j = 2 then run (execTimerDisarm w (Fin.ofNat 64 (i - 0x690)) v)
  else s.plain w k v noCheck (fun s => s.store k v)

/-! ## Objects of the high indices (chapters 11 to 19) -/

/-- A QCFG is within its ranges and leaves the sum of MIN_CELLS at 28,672 or less (R294, Table 11.7). -/
def State.qcfgOk (s : State) (k v : Nat) : Bool :=
  let t := s.setReg k v
  let least := ((List.range 19).flatMap (fun p => (List.range 8).map (fun c => fld (t.reg (Key.SWP_QCFG p c)) 63 48))).foldl
    (· + ·) 0
  decide (fld v 63 48 ≤ 4096) && decide (fld v 63 48 ≤ fld v 47 32) && decide (fld v 47 32 ≤ 32768) &&
    decide (fld v 31 0 ≤ 98304) && decide (least ≤ 28672)

/-- A binding names no meter, or one of its own role (R303). -/
def State.meterRole (s : State) (v mode : Nat) : Bool := v == 0xFFFF || (decide (v < 256) && mtrMode (s.meterRec v) == mode)

/-- Own checks of switch-port, sampler and bridge objects. -/
def State.switchCheck (s : State) (k v : Nat) : Option Abort :=
  let i := k / 256
  let j := k % 256
  if 0x710 ≤ i ∧ i ≤ 0x722 then
    (if 1 ≤ j ∧ j ≤ 8 then (if s.qcfgOk k v then none else some .valueRange)
     else if 0x11 ≤ j ∧ j ≤ 0x18 then (if s.meterRole v 2 then none else some .valueRange)
     else if 0x19 ≤ j ∧ j ≤ 0x20 then (if s.meterRole v 1 then none else some .valueRange)
     else none)
  else if 0x738 ≤ i ∧ i ≤ 0x73F ∧ s.flag (Key.SMP_ENABLE (i - 0x738)) then some .stateConflict
  else if i = 0x7E0 then
    let a := fld v 13 8
    let b := fld v 5 0
    let taken (c : Nat) : Bool := (List.range 24).any (fun n => let e := (s.setReg k 0).reg (Key.BRIDGES_ENTRY n)
      bitOf e 15 && (fld e 13 8 == c || fld e 5 0 == c))
    if bitOf v 15 ∧ (b ≤ a ∨ 47 < b) then some .valueRange
    else if bitOf v 15 ∧ (taken a ∨ taken b) then some .stateConflict
    else none
  else none

/-- A write of object `k`, index 700 to 7FF. INGRESS_ROLE is CONST on every port but E0 to E7 (Table 11.7). -/
def State.writeSwitch (s : State) (w : Writer) (k v : Nat) : State :=
  let i := k / 256
  let j := k % 256
  let run (r : State → Res) : State := resState s (r s)
  if k = Key.SW_COUNTER_CLEAR then (if s.fwOn then s.switchClear w v else s)
  else if 0x710 ≤ i ∧ i ≤ 0x722 ∧ j = 0x21 ∧ (i < 0x714 ∨ 0x71B < i) then s.refuse w k .readOnly
  else if 0x728 ≤ i ∧ i ≤ 0x72F ∧ 1 ≤ j then run (execMeterWrite w (Fin.ofNat 256 (32 * (i - 0x728) + (j - 1))) v)
  else if 0x738 ≤ i ∧ i ≤ 0x73F ∧ j = 1 then run (execSamplerEnableWrite w (Fin.ofNat 8 i) v)
  else if 0x740 ≤ i ∧ i ≤ 0x74B ∧ j = 5 then run (execGateCommit w (Fin.ofNat 12 (i - 0x740)) v)
  else if 0x780 ≤ i ∧ i ≤ 0x78F ∧ 1 ≤ j then run (execTunnelConfigWrite w (Fin.ofNat 1024 (64 * (i - 0x780) + (j - 1))) v)
  else if 0x7B0 ≤ i ∧ i ≤ 0x7CF ∧ 1 ≤ j then run (execRouteEntryWrite w (Fin.ofNat 4096 (128 * (i - 0x7B0) + (j - 1))) v)
  else s.plain w k v (fun s => s.switchCheck k v) (fun s => s.store k v)

/-- Own checks of event and fault objects (R396, R434). -/
def State.eventCheck (s : State) (k v : Nat) : Option Abort :=
  if k = Key.EVT_EVENT_AUTH then s.needsFeature (v == 1) 2
  else if 0x904 ≤ k / 256 ∧ k / 256 ≤ 0x907 then (if faultCfgOk v then none else some .valueRange)
  else none

/-- A write of object `k`, index 800 to 9FF. -/
def State.writeEvent (s : State) (w : Writer) (k v : Nat) : State :=
  let i := k / 256
  let j := k % 256
  let ticket := Fin.ofNat 65536 v
  let src := Fin.ofNat 512 (128 * (i - 0x90C) + (j - 1))
  let run (r : State → Res) : State := resState s (r s)
  if 0x810 ≤ i ∧ i ≤ 0x817 ∧ 1 ≤ j then run (execSourceCfgWrite w (Fin.ofNat 1024 (128 * (i - 0x810) + (j - 1))) v)
  else if k = Key.EVT_REMOTE_COMPLETE then run (execRemoteCompleteWrite w v)
  else if k = Key.EVT_RAISE then run (execRaiseWrite w v)
  else if i = 0x8A1 ∧ 1 ≤ j ∧ j ≤ 16 then run (execSidebandAckWrite w (Fin.ofNat 16 (j - 1)) v)
  else if k = Key.FENCE_ISSUE ∧ fld v 31 28 = 1 then run (execFenceIssueLocal w ticket)
  else if k = Key.FENCE_ISSUE ∧ fld v 31 28 = 2 then run (execFenceIssueImage w ticket)
  else if k = Key.FENCE_ISSUE ∧ fld v 31 28 = 3 then run (execFenceIssueTable w ticket)
  else if k = Key.FENCE_ISSUE ∧ fld v 31 28 = 4 then run (execFenceIssueRing w ticket)
  else if k = Key.FENCE_ISSUE then s.plain w k v (fun _ => some .valueRange) id
  else if 0x90C ≤ i ∧ i ≤ 0x90F ∧ 1 ≤ j ∧ v = 1 then run (execFaultClear w src)
  else if 0x90C ≤ i ∧ i ≤ 0x90F ∧ 1 ≤ j ∧ v = 2 then run (execFaultForce w src)
  else if 0x90C ≤ i ∧ i ≤ 0x90F ∧ 1 ≤ j ∧ v = 3 then run (execFaultLatchReset w src)
  else if 0x940 ≤ i ∧ i ≤ 0x943 ∧ 1 ≤ j then run (execRuleWrite w (Fin.ofNat 128 (32 * (i - 0x940) + (j - 1))) v)
  else s.plain w k v (fun s => s.eventCheck k v) (fun s => (s.store k v).settle)

/-- HOLD_TIME_MS_WRITE (R18): the field die takes the new hold time with its next refresh. -/
def execHoldTimeMsWrite (w : Writer) (v : Nat) (s : State) : Res :=
  .next (if s.fwOn then s.write w Key.PWR_HOLD_TIME_MS v noCheck (fun s => s.store Key.PWR_HOLD_TIME_MS v) else s)

/-- Own checks of the objects of indices A00 to FFF that have no command of their own. -/
def State.highCheck (s : State) (k v : Nat) : Option Abort :=
  if k = Key.KEY_WRITE_AUTH ∨ k = Key.KEY_TWIN_AUTH then s.needsFeature (v == 1) 2
  else if k = Key.UPD_STAGE_LENGTH then s.phaseIn [0, 6]
  else none

/-- Effect of a write to those objects: a sleep limit of 2 wakes its Pan (R452). -/
def State.highEff (s : State) (k v : Nat) : State :=
  let s := s.store k v
  if 0xC10 ≤ k / 256 ∧ k / 256 ≤ 0xC1F ∧ k % 256 = 1 ∧ v = 2 then s.panAsk (k / 256 - 0xC10) else s

/-- A TRANSITION record by its KIND (R469); whether its signature holds is decided by keys that the model does not hold. -/
def State.writeTransition (s : State) (w : Writer) (v : Nat) : State :=
  let (x, s) := s.fresh
  let good := x % 2 == 1
  let kind := trKind v
  let run (r : State → Res) : State := resState s (r s)
  if kind = 1 then run (execTransitionForge w v good)
  else if kind = 2 then run (execTransitionTake w v good)
  else if kind = 3 then run (execTransitionTransfer w v good)
  else if kind = 4 then run (execTransitionReturn w v good)
  else if kind = 5 then run (execTransitionScrap w v good)
  else s.plain w Key.LC_TRANSITION v (fun _ => some .lifecycleDenied) id

/-- An update COMMAND (Table 19.4); whether the staged DIGEST holds is free. -/
def State.writeUpdate (s : State) (w : Writer) (v : Nat) : State :=
  let run (s : State) (r : State → Res) : State := resState s (r s)
  if v = 1 then run s (execUpdateBegin w)
  else if v = 2 then
    let (x, s) := s.fresh
    run s (execUpdateWrite w (x % 2 == 1))
  else if v = 3 then run s (execUpdateConfirm w)
  else if v = 4 then run s (execUpdateAbort w)
  else s.plain w Key.UPD_COMMAND v noCheck id

/-- A write of object `k`, index A00 to FFF. -/
def State.writeHigh (s : State) (w : Writer) (k v : Nat) (data : List Byte) : State :=
  let i := k / 256
  let run (r : State → Res) : State := resState s (r s)
  if k = Key.CRU_TRIGGER then run (execCrucibleTriggerWrite w v)
  else if k = Key.TWIN_HANDOVER_REQUEST then run (execHandoverRequestWrite w v)
  else if k = Key.PWR_HOLD_TIME_MS then run (execHoldTimeMsWrite w v)
  else if k = Key.LC_TRANSITION then s.writeTransition w v
  else if k = Key.KEY_EPOCH_COMMIT then run (execEpochCommit w v)
  else if k = Key.KEY_ZEROISE then run (execZeroiseWrite w v)
  else if k = Key.ATTEST_REQUEST then run (execAttestRequest w v)
  else if k = Key.KEY_COUNTERSIGN_KEY then
    let (x, s) := s.fresh
    resState s (execCountersignKeyWrite w v (x % 2 == 1) s)
  else if k = Key.UPD_COMMAND then s.writeUpdate w v
  else if k = Key.UPD_ENTER_RECOVERY then run (execEnterRecoveryWrite w v)
  else if k = Key.UPD_STAGING then run (execStagingBlockWrite w 0 data)
  else if k = Key.RECOVERY_IMAGE then run (execRecoveryImageBlock w 0 data)
  else if k = Key.RECOVERY_COMMAND ∧ v = 1 then run (execRecoveryReboot w)
  else if k = Key.PERT_STOP_ALL then run (execPerturbationStopAll w v)
  else if 0xF10 ≤ i ∧ i ≤ 0xF1F ∧ k % 256 = 1 then
    (if pertStart v then run (execPerturbationStart w (Fin.ofNat 16 i) v)
     else run (execPerturbationStop w (Fin.ofNat 16 i) v))
  else s.plain w k v (fun s => s.highCheck k v) (fun s => s.highEff k v)

/-! ## Any object -/

/-- A write of `v` to object `k` by `w`; `data` is the value as its bytes came. -/
def State.writeObject (s : State) (w : Writer) (k v : Nat) (data : List Byte) : State :=
  let i := k / 256
  if 0x2E0 ≤ i ∧ i ≤ 0x2EF then s.writeQueue w k v
  else if i < 0x300 then s.writeLow w k v
  else if i < 0x400 then s.writeQueue w k v
  else if i < 0x500 then s.writeLine w k v
  else if i < 0x520 then s.writeCan w k v
  else if i < 0x560 then s.writeRs w k v
  else if i < 0x5A0 then s.writeIol w k v data
  else if i < 0x5C0 then s.writeWhisk w k v
  else if i < 0x600 then
    s.plain w k v (fun s => s.pxCheck (i - 0x5C0) (k % 256) k v) (fun s =>
      let t := s.store k v
      if k % 256 = 4 then t.pxWord (i - 0x5C0) v else t)
  else if i < 0x680 then s.writeFuse w k v
  else if i < 0x700 then s.writeEdge w k v
  else if i < 0x800 then s.writeSwitch w k v
  else if i < 0xA00 then s.writeEvent w k v
  else s.writeHigh w k v data

/-- A write of an object, and the wake of the Pan that serves it (R454); a refused write wakes nothing (R10). -/
def State.writeKey (s : State) (w : Writer) (k v : Nat) (data : List Byte) : State :=
  if !(s.fwOn || s.inRecovery) then s
  else
    let t := s.writeObject w k v data
    match panOfIndex (k / 256) with
    | some n => if t.rejects = s.rejects ∧ t.fwOn then t.panAsk n else t
    | none => t

end Sys2Proof.Machine
end

