-- ==== Sys2Proof/Machine/Dict.lean ====
section
/-! DEFINITION. The dictionary's transactions: taking a request and checking it, reads, writes and block transfers, the
host's mailbox, and the write of a register by its number or address (R344 to R358, R366). -/

namespace Sys2Proof.Machine

/-! ## Requests (R350, R351, R355 to R357) -/

/-- The requester of a DICT request, and whether its frame carried a valid tag. -/
def askPath (q : DictReq) : Path := match q.path with
  | .dict a c _ => .dict a c (q.tag == .valid)
  | p => p

/-- CLIENT of a request. -/
def askClient (q : DictReq) : Nat := match q.path with
  | .dict _ c _ => c % 16
  | _ => q.client % 16

/-- What a response to `q` repeats. -/
def askOf (q : DictReq) (op : Nat) : Asked :=
  { path := askPath q, client := askClient q, op := op, role := q.role % 8, tid := q.tid % 65536, object := q.object, ty := q.ty % 256 }

/-- The DICT frame of operation `op` from `p` leaves the receive queue. -/
def State.dictTaken (s : State) (p : Path) (op tid : Nat) : State := match p with
  | .dict a c _ => { s with inbox := s.inbox.eraseP (fun x => x.2.kind == 3 && x.2.source == a &&
      beAt x.2.payload 0 1 % 16 == op && beAt x.2.payload 2 1 / 16 == c && beAt x.2.payload 4 2 == tid) }
  | _ => s

/-- The abort code of Table 13.6 with this number. -/
def abortOf (n : Nat) : Option Abort :=
  [Abort.noObject, .noSubindex, .typeMismatch, .valueRange, .readOnly, .writeOnly, .roleDenied, .stateConflict,
    .lifecycleDenied, .compatDenied, .busy, .timeout, .timePassed, .budgetExceeded, .authFail, .epochStale,
    .transferSequence, .transferCrc, .hardwareFault, .versionUnsupported].find? (fun a => a.code == n)

/-- The response kept for a request, while it is less than 1 s old (R355). -/
def State.keptFor (s : State) (q : Asked) : Option (List Byte) :=
  (s.dict.kept.find? (fun x => samePath x.1 q.path && x.2.1 == keptKey q.client q.tid &&
    decide (s.lmc < x.2.2.1 + 1000000000))).map (fun x => x.2.2.2)

/-- The kept response goes to its requester again; the host's mailbox takes it from the answers (R355). -/
def State.resend (s : State) (q : Asked) (bytes : List Byte) : State :=
  let s := s.bump Key.DICT_DUPLICATES
  if q.path = .mailbox then
    { s with answers := s.answers ++ [⟨q.path, q.object, abortOf (beAt bytes 10 2), bytes.drop 20⟩] }
  else s.sendDict q.path bytes

/-- The ROM runs one transaction at a time, but while it writes a block of RECOVERY_IMAGE it accepts the next one (R502). -/
def State.romFree (s : State) (op k : Nat) : Bool :=
  s.dict.transfers.isEmpty && (s.dict.asked.isEmpty ||
    (op == 4 && k == Key.RECOVERY_IMAGE && decide (s.dict.asked.length ≤ 1) &&
      s.dict.asked.all (fun a => a.object == Key.RECOVERY_IMAGE)))

/-- A request beyond the limits of R356 and, in RECOVERY, of R502. -/
def State.dictFull (s : State) (op k : Nat) : Bool :=
  decide (64 ≤ s.dict.asked.length) || (decide (3 ≤ op) && decide (16 ≤ s.dict.transfers.length)) ||
    (s.inRecovery && !s.romFree op k)

/-- The request of `q` is answered with `a`; a refused write of an object counts in its rejections (R10, R357, R358). -/
def State.dictFail (s : State) (q : Asked) (a : Abort) : State :=
  if (q.op = 2 ∨ q.op = 4) ∧ (objRow q.object).isSome then s.refuse ⟨.pub, q.path⟩ q.object a
  else s.answer q.path q.object (some a) []

/-- Steps 1 and 2 of R357: FORMAT, then the tag and the epoch (R351, R481); AUTH_REQUIRED spares a READ of index 000 to
0FF. -/
def State.dictAuth (s : State) (q : DictReq) (op : Nat) : Option Abort × State :=
  if q.format ≠ 1 then (some .versionUnsupported, s)
  else match q.path with
    | .dict _ _ _ =>
      let spared : Bool := op == 1 && decide (q.object / 256 ≤ 0xFF)
      s.tagTake { kind := 3, tagged := q.tag != .absent, epoch := q.epoch } q.tag
        (s.flag Key.ACCESS_AUTH_REQUIRED && !spared)
    | _ => (none, s)

/-- A request is taken: discarded by a STANDBY hub when it came to the node address (R350), answered from the kept responses
when it repeats one (R355), refused when too many wait (R356), or checked for its tag. The flag says whether it goes on. -/
def State.dictOpen (s : State) (q : DictReq) (op : Nat) : Bool × State :=
  let x := askOf q op
  let s := s.dictTaken x.path op x.tid
  if !(s.fwOn || s.inRecovery) then (false, s)
  else if q.toNode && decide (s.role = .standby) then (false, s)
  else match s.keptFor x with
    | some bytes => (false, s.resend x bytes)
    | none =>
      let full := s.dictFull op x.object
      let s := s.bump Key.DICT_REQUESTS
      let s := { s with dict := { s.dict with asked := x :: s.dict.asked } }
      if full then (false, (s.bump Key.DICT_BUSY_REFUSALS).dictFail x .busy)
      else match s.dictAuth q op with
        | (some a, s) => (false, s.dictFail x a)
        | (none, s) => (true, s)

/-- A request that has not been answered at once waits behind the others. -/
def State.dictWait (s : State) (x : Asked) : State := match s.dict.asked with
  | y :: ys => if x = y then { s with dict := { s.dict with asked := ys ++ [y] } } else s
  | [] => s

/-- The request needs no answer of its own: its transfer is the answer. -/
def State.dictForget (s : State) (x : Asked) : State := { s with dict := { s.dict with asked := s.dict.asked.erase x } }

/-- A request wakes the Pan that serves its object (R454). -/
def State.dictWake (s : State) (k : Nat) : State := match panOfIndex (k / 256) with
  | some n => if s.fwOn then s.panAsk n else s
  | none => s

/-! ## Reads (R344, R345, R352) -/

/-- An object's bytes without the zeros at its end. -/
def trimZeros (b : List Byte) : List Byte := (b.reverse.dropWhile (fun x => decide (x = 0))).reverse

/-- The bytes that a READ of object `k` answers (R345), with what the read does: MB_DATA clears NEW (R213), MDIO_DATA reads
the PHY, whose answer is free (R316). A W20 in compatibility mode answers its value field (R346). -/
def State.readBytes (s : State) (k : Nat) : List Byte × State :=
  let i := k / 256
  let j := k % 256
  match objRow k with
  | none => ([], s)
  | some r =>
    if 0x500 ≤ i ∧ i ≤ 0x51F ∧ 0x20 ≤ j ∧ j ≤ 0x6F ∧ (j - 0x20) % 5 = 3 then
      let c := i - 0x500
      let m := (j - 0x20) / 5
      (s.mbData c m, s.setMailbox c m { s.mailbox c m with new := false })
    else if 0x680 ≤ i ∧ i ≤ 0x687 ∧ j = 0x0A then
      let (x, s) := s.fresh
      if x % 2 = 0 then (beBytes 2 0xFFFF, s.setEdgeStatus (i - 0x680) 0 true)
      else (beBytes 2 (x / 2 % 65536), s.setEdgeStatus (i - 0x680) 0 false)
    else if 0xA01 ≤ i ∧ i ≤ 0xA03 ∨ 0xE83 ≤ i ∧ i ≤ 0xE85 then
      let base := if i % 16 = 1 ∨ i = 0xE83 then 0 else if i = 0xA02 ∨ i = 0xE84 then 3145728 else 3670016
      (s.crucibleBytes base r.size, s)
    else
      let (v, s) := s.read k
      let b := beBytes r.size v
      match r.ty with
      | .array => (beBytes 4 0, s)
      | .string => (trimZeros b, s)
      | .w20 => (beBytes r.size (if s.compat then wVal v else v), s)
      | _ => if 0x560 ≤ i ∧ i ≤ 0x59F ∧ j = 0x1D then (b.take (s.iol (i - 0x560)).isduLen, s) else (b, s)

/-- Steps 3 to 8 of R357 for a read; a READ of an object larger than 1024 bytes is VALUE_RANGE (R352). -/
def State.readCheck (s : State) (q : DictReq) (op : Nat) : Option Abort :=
  match objRow q.object with
  | none => some (if objIndexExists q.object then .noSubindex else .noObject)
  | some r =>
    if s.inRecovery && decide (q.object / 256 < 0xE80) then some .noObject
    else match r.access with
      | .wo _ _ _ => some .writeOnly
      | _ =>
        if q.ty ≠ 0 ∧ q.ty ≠ r.ty.code then some .typeMismatch
        else match roleOfCode q.role with
          | none => some .roleDenied
          | some role =>
            if !s.roleOk ⟨role, askPath q⟩ .pub then some .roleDenied
            else if op = 1 ∧ 1024 < r.size then some .valueRange
            else none

/-- A READ. -/
def State.dictRead (s : State) (q : DictReq) : State :=
  match s.dictOpen q 1 with
  | (false, s) => s
  | (true, s) => match s.readCheck q 1 with
    | some a => s.dictFail (askOf q 1) a
    | none =>
      let (b, s) := s.readBytes q.object
      (s.dictWake q.object).answer (askPath q) q.object none b

/-- DICT_READ (R352). -/
def execDictRead (q : DictReq) (s : State) : Res := .next (s.dictRead q)

/-! ## Writes (R345, R352, R357) -/

/-- Objects whose OCTETS value may be shorter than its size: an ISDU request and the images. -/
def variableLength (k : Nat) : Bool :=
  (decide (0x560 ≤ k / 256 ∧ k / 256 ≤ 0x59F) && k % 256 == 0x1B) || k == Key.UPD_STAGING || k == Key.RECOVERY_IMAGE

/-- The value fits the object: exactly its size, or at most that for STRING and variable OCTETS (R345). -/
def sizeFits (r : ObjRow) (k n : Nat) : Bool :=
  if r.ty == .string || variableLength k then decide (n ≤ r.size) else n == r.size

/-- The number that a value's bytes make: a STRING shorter than its object is filled with zeros. -/
def valueOf (r : ObjRow) (data : List Byte) : Nat :=
  beNat (if r.ty == .string then data ++ List.replicate (r.size - data.length) 0 else data)

/-- Step 5 of R357 for a write: the type code, and for a WRITE the size; a type code in a write is never 0. -/
def State.typeCheck (k ty op n : Nat) : Option Abort := match objRow k with
  | none => none
  | some r => match r.access with
    | .ro => none
    | .const => none
    | _ => if ty ≠ r.ty.code ∨ (op = 2 ∧ !sizeFits r k n) then some .typeMismatch else none

/-- The writer of a request, where its role code exists; codes 5 to 7 rank above every ceiling. -/
def askWriter (q : DictReq) : Option Writer := (roleOfCode q.role).map (fun r => ⟨r, askPath q⟩)

/-- A WRITE. -/
def State.dictWrite (s : State) (q : DictReq) : State :=
  let k := q.object
  match s.dictOpen q 2 with
  | (false, s) => s
  | (true, s) =>
    let x := askOf q 2
    match State.typeCheck k q.ty 2 q.data.length, objRow k with
    | some a, _ => s.dictFail x a
    | none, none => s.dictFail x (if objIndexExists k then .noSubindex else .noObject)
    | none, some r =>
      match askWriter q with
      | none => s.dictFail x (((s.permit ⟨.vendor, .peer⟩ k 0).orElse (fun _ => some .roleDenied)).getD .roleDenied)
      | some w =>
        if 1024 < r.size then s.refuse w k ((s.permit w k 0).getD .valueRange)
        else (s.writeKey w k (valueOf r q.data) q.data).dictWait x

/-- DICT_WRITE (R352). -/
def execDictWrite (q : DictReq) (s : State) : Res := .next (s.dictWrite q)

/-! ## Arrays (R91, R125, R358) -/

/-- Elements of an ARRAY object (R91, R125, R358, Table 16.8). -/
def arrayLength (i : Nat) : Nat :=
  if i = 0x0F0 ∨ i = 0x210 ∨ i = 0x211 then 2 ^ 20 else if i = 0x152 then 1023 else if i = 0x153 then 2046
  else if i = 0x980 then 256 else 0

/-- {152} element `n` (Table 3.7). -/
def State.memberElement (s : State) (n : Nat) : Nat :=
  let pos := s.disc.stations.findIdx? (fun a => stationOf a == n)
  match pos with
  | none => 0
  | some p =>
    if n = 0 then 0 else match s.announce n with
    | none => 2 ^ 31 + p % 65536
    | some a => 3 * 2 ^ 30 + a.flags / 8 % 32 * 2 ^ 25 + a.minVer % 16 * 2 ^ 20 + a.maxVer % 16 * 2 ^ 16 + p % 65536

/-- {153} element `e`: a half of a station's SERIAL. -/
def State.serialElement (s : State) (e : Nat) : Nat :=
  let n := e / 2
  if n = 0 ∨ !s.disc.stations.any (fun a => stationOf a == n) then 0
  else match s.announce n with
    | none => 0
    | some a => if e % 2 = 0 then a.serial / 2 ^ 32 % 2 ^ 32 else a.serial % 2 ^ 32

/-- Element `e` of the ARRAY object of index `i`. -/
def State.element (s : State) (i e : Nat) : Nat :=
  if i = 0x0F0 then (if (objRow e).isSome then s.rejections e else 0)
  else if i = 0x152 then s.memberElement e
  else if i = 0x153 then s.serialElement e
  else if i = 0x210 ∨ i = 0x211 then s.lane e
  else if i = 0x980 then ofSigned 32 (s.gauge e)
  else 0

/-- Elements `e` to `e + n - 1`, four bytes each. -/
def State.elements (s : State) (i e n : Nat) : List Byte := (List.range n).flatMap (fun x => beBytes 4 (s.element i (e + x)))

/-! ## Segments (R353, R354) -/

/-- Transfer `t` is the one that `p` and `tid` name: with its requester, or, started by the host's mailbox, with the hub that
it is addressed to. -/
def State.transferIs (s : State) (p : Path) (tid : Nat) (t : Transfer) : Bool :=
  t.tid == tid && (samePath t.path p || (match t.path, p, s.host.mbx with
    | .mailbox, .dict a _ _, some m => decide (a = m.dest)
    | _, _, _ => false))

/-- That transfer. -/
def State.transfer (s : State) (p : Path) (tid : Nat) : Option Transfer := s.dict.transfers.find? (s.transferIs p tid)

/-- Transfer `t` is replaced by `u`. -/
def State.setTransfer (s : State) (t u : Transfer) : State :=
  { s with dict := { s.dict with transfers := s.dict.transfers.map (fun x => if x = t then u else x) } }

/-- Transfer `t` ends. -/
def State.endTransfer (s : State) (t : Transfer) : State :=
  { s with dict := { s.dict with transfers := s.dict.transfers.erase t } }

/-- The header of a frame inside transfer `t` (Table 13.5); the responder's carry RESPONSE. -/
def transferHeader (t : Transfer) (op seg paramA abort : Nat) (last : Bool) : List Byte :=
  let resp := b2n (decide (t.path ≠ .mailbox))
  beBytes 1 (0x10 + op) ++ beBytes 1 (resp * 128 + b2n last * 64 + t.role % 8 * 8) ++ beBytes 1 (t.client % 16 * 16) ++
    beBytes 1 seg ++ beBytes 2 t.tid ++ beBytes 3 t.object ++ beBytes 1 t.ty ++ beBytes 2 abort ++ beBytes 4 paramA ++
    beBytes 4 0

/-- A frame of transfer `t` leaves for its far side. -/
def State.transferSend (s : State) (t : Transfer) (bytes : List Byte) : State :=
  match t.path, s.host.mbx with
  | .mailbox, some m =>
    s.originate { kind := 3, prio := 3, dest := m.dest, tagged := s.flag Key.KEYED, payload := bytes }
  | p, _ => s.sendDict p bytes

/-- Segment `n` of transfer `t` and the transfer that has built it: an ARRAY's elements are read as the segment is built, any
other value was captured at the start. -/
def State.segment (s : State) (t : Transfer) (n : Nat) : List Byte × Transfer :=
  let len := min 1024 (t.total - 1024 * n)
  if 1024 * n + len ≤ t.data.length then ((t.data.drop (1024 * n)).take len, t)
  else
    let b := s.elements (t.object / 256) (t.offset + 256 * n) (len / 4)
    (b, { t with data := t.data ++ b })

/-- Segments leave while fewer than 8 are unacknowledged; LAST carries the CRC-32 of all the data. The first segment of a
WRITE_BLOCK that the hub makes for the host is the WRITE_BLOCK frame itself. -/
def State.pump : Nat → State → Transfer → State × Transfer
  | 0, s, t => (s, t)
  | n + 1, s, t =>
    if t.acked + 8 ≤ t.next ∨ t.total ≤ 1024 * t.next then (s, t)
    else
      let (b, u) := s.segment t t.next
      let last := decide (t.total ≤ 1024 * t.next + 1024)
      let crc := if last then crc32 u.data else 0
      let head := if t.path = .mailbox ∧ t.next = 0 then
          (transferHeader u 4 0 (if last then crc else t.offset) 0 last).take 16 ++ beBytes 4 t.total
        else transferHeader u 5 t.next crc 0 last
      State.pump n (s.transferSend u (head ++ b)) { u with next := t.next + 1 }

/-- The segments of transfer `t` that the window lets leave do so. -/
def State.pumpTransfer (s : State) (t : Transfer) : State :=
  let (s', u) := State.pump 8 s t
  s'.setTransfer t u

/-! ## READ_BLOCK (R353) -/

/-- The object's own checks of a READ_BLOCK: a range past its end (R353), at most 16 elements of {211} (R125). -/
def blockRange (r : ObjRow) (k off n : Nat) : Option Abort :=
  if n = 0 ∨ 65536 < n then some .valueRange
  else match r.ty with
    | .array =>
      if n % 4 ≠ 0 ∨ arrayLength (k / 256) < off + n / 4 ∨ (k / 256 = 0x211 ∧ 16 < n / 4) then some .valueRange else none
    | _ => if r.size < off + n then some .valueRange else none

/-- The data that a READ_BLOCK captures when it is accepted: none yet of the ARRAY objects, but {211} as one snapshot. -/
def State.capture_ (s : State) (r : ObjRow) (k off n : Nat) : List Byte × State :=
  match r.ty with
  | .array => if k / 256 = 0x211 then (s.elements 0x211 off (n / 4), s) else ([], s)
  | _ =>
    let i := k / 256
    if 0xA01 ≤ i ∧ i ≤ 0xA03 ∨ 0xE83 ≤ i ∧ i ≤ 0xE85 then
      let base := if i = 0xA01 ∨ i = 0xE83 then 0 else if i = 0xA02 ∨ i = 0xE84 then 3145728 else 3670016
      (s.crucibleBytes (base + off) n, s)
    else
      let (b, s) := s.readBytes k
      (bytesAt b off n, s)

/-- The host's block buffer address. -/
def State.blockBuffer (s : State) : Nat := s.bar 0x414 * 2 ^ 32 + s.bar 0x410

/-- Block data goes to the host's buffer by DMA (R366). -/
def State.toBuffer (s : State) (b : List Byte) : State :=
  { s with host := { s.host with dma := s.host.dma ++ [(s.blockBuffer, b)] } }

/-- A READ_BLOCK: its data leaves in segments, or, asked by this hub's own host, goes to the block buffer. -/
def State.dictReadBlock (s : State) (q : DictReq) : State :=
  let k := q.object
  match s.dictOpen q 3 with
  | (false, s) => s
  | (true, s) =>
    let x := askOf q 3
    match (s.readCheck q 3).or ((objRow k).bind (fun r => blockRange r k q.paramA q.paramB)), objRow k with
    | some a, _ => s.dictFail x a
    | none, none => s.dictFail x .noObject
    | none, some r =>
      let (b, s) := (s.dictWake k).capture_ r k q.paramA q.paramB
      if x.path = .mailbox then
        if s.bar 0x418 < q.paramB then s.dictFail x .valueRange
        else
          let all := if b.isEmpty then s.elements (k / 256) q.paramA (q.paramB / 4) else b
          (s.toBuffer all).answer x.path k none []
      else
        let t : Transfer := { path := x.path, client := x.client, tid := x.tid, role := x.role, object := k, ty := r.ty.code
                              reads := true, offset := q.paramA, total := q.paramB, data := b, advancedAt := s.lmc }
        let s := (s.dictForget x).touch x.path
        let s := { s with dict := { s.dict with transfers := s.dict.transfers ++ [t] } }
        s.pumpTransfer t

/-- DICT_READ_BLOCK (R353). -/
def execDictReadBlock (q : DictReq) (s : State) : Res := .next (s.dictReadBlock q)

/-! ## WRITE_BLOCK (R353, R354) -/

/-- The whole block is applied as one operation: an image's block at its offset, any other value with the bytes from the
offset on replaced. -/
def State.applyBlock (s : State) (w : Writer) (k off : Nat) (data : List Byte) : State :=
  if k = Key.UPD_STAGING then resState s (execStagingBlockWrite w off data s)
  else if k = Key.RECOVERY_IMAGE then resState s (execRecoveryImageBlock w off data s)
  else match objRow k with
    | none => s.refuse w k .noObject
    | some r =>
      if off = 0 ∧ (r.ty = .string ∨ variableLength k) then s.writeKey w k (valueOf r data) data
      else
        let old := beBytes r.size (s.reg k)
        let b := old.take off ++ data ++ old.drop (off + data.length)
        s.writeKey w k (beNat b) b

/-- The checks of a WRITE_BLOCK when its first frame arrives: those of a write, and its range (R353, R357). -/
def State.blockCheck (s : State) (q : DictReq) (w : Writer) (off : Nat) : Option Abort :=
  let k := q.object
  ((State.typeCheck k q.ty 4 0).or (s.permit w k 0)).or ((objRow k).bind (fun r =>
    if q.paramB = 0 ∨ 65536 < q.paramB ∨ r.size < off + q.paramB ∨ q.paramB < q.data.length then some .valueRange else none))

/-- An ACK with the next expected segment leaves. -/
def State.dictAck (s : State) (t : Transfer) : State := s.transferSend t (transferHeader t 6 0 t.next 0 false)

/-- A WRITE_BLOCK: its first frame carries segment 0. One whose data is the whole block carries LAST, and then PARAM_A is the
CRC-32 and the offset is 0 (log). -/
def State.dictWriteBlock (s : State) (q : DictReq) (buffer : Option (List Byte)) : State :=
  let k := q.object
  match s.dictOpen q 4 with
  | (false, s) => s
  | (true, s) =>
    let x := askOf q 4
    let whole := buffer.isNone && decide (q.data.length = q.paramB)
    let off := if whole then 0 else q.paramA
    match askWriter q with
    | none => s.dictFail x .roleDenied
    | some w => match s.blockCheck q w off with
      | some a => s.dictFail x a
      | none => match buffer with
        | some b =>
          if s.bar 0x418 < q.paramB then s.dictFail x .valueRange
          else (s.applyBlock w k off (bytesAt b 0 q.paramB)).dictWait x
        | none =>
          if whole then
            (if crc32 q.data ≠ q.paramA then s.dictFail x .transferCrc else (s.applyBlock w k 0 q.data).dictWait x)
          else
            let t : Transfer := { path := x.path, client := x.client, tid := x.tid, role := x.role, object := k, ty := q.ty
                                  reads := false, offset := off, total := q.paramB, data := q.data, next := 1
                                  advancedAt := s.lmc }
            ({ s with dict := { s.dict with transfers := s.dict.transfers ++ [t] } }.touch x.path).dictWait x

/-- DICT_WRITE_BLOCK (R353). -/
def execDictWriteBlock (q : DictReq) (s : State) : Res := .next (s.dictWriteBlock q none)

/-! ## Segments, ACKs and ends of a transfer (R354) -/

/-- The request that opened transfer `t`. -/
def transferAsk (t : Transfer) : Asked :=
  { path := t.path, client := t.client, op := if t.reads then 3 else 4, role := t.role, tid := t.tid, object := t.object, ty := t.ty }

/-- Transfer `t` ends with an abort code: the responder answers its request with it, the host's mailbox shows it and the far
side gets a CANCEL (R354). -/
def State.abortTransfer (s : State) (t : Transfer) (a : Abort) : State :=
  if t.path = .mailbox then
    let s := s.transferSend t (transferHeader t 7 0 0 a.code false)
    (s.endTransfer t).mailboxDone a.code []
  else if t.reads then (s.endTransfer t).transferSend t (transferHeader t 7 0 0 a.code false)
  else (s.endTransfer t).dictFail (transferAsk t) a

/-- All segments have arrived: the value is applied when its length and CRC-32 are right (R353); what the hub read for the
host goes to the block buffer. -/
def State.finishTransfer (s : State) (t : Transfer) (crc : Nat) : State :=
  if t.data.length ≠ t.total then s.abortTransfer t .valueRange
  else if crc32 t.data ≠ crc then s.abortTransfer t .transferCrc
  else
    let s := s.endTransfer t
    if t.path = .mailbox then
      match s.host.mbx with
      | some m => (s.toBuffer t.data).mailboxDone 0 (respond m.req none [])
      | none => s
    else match roleOfCode t.role with
      | some role => s.applyBlock ⟨role, t.path⟩ t.object t.offset t.data
      | none => s

/-- Segments that wait in the window follow, once the one before them has come; the flag and the number say whether the last
one has arrived and its CRC. -/
def absorb : Nat → Transfer → Option Nat → Transfer × Option Nat
  | 0, t, crc => (t, crc)
  | n + 1, t, crc => match t.early.find? (fun e => e.1 == t.next) with
    | none => (t, crc)
    | some e => absorb n { t with data := t.data ++ e.2.2.2, next := t.next + 1, early := t.early.erase e }
        (if e.2.1 then some e.2.2.1 else crc)

/-- DICT_SEGMENT: in order it is taken, with those that waited behind it, and acknowledged after every 4 and after LAST;
inside the window it is kept; beyond it the transfer ends with TRANSFER_SEQUENCE (R354). -/
def execDictSegment (p : Path) (tid seg : Nat) (last : Bool) (crc : Nat) (data : List Byte) (s : State) : Res :=
  let s := s.dictTaken p 5 tid
  .next (match s.transfer p tid with
  | none => s
  | some t =>
    if t.reads || !(s.fwOn || s.inRecovery) then s
    else
      let s := s.touch p
      if t.next + 8 ≤ seg then s.abortTransfer t .transferSequence
      else if seg ≠ t.next then
        let early := if seg < t.next ∨ t.early.any (fun e => e.1 == seg) then t.early else t.early ++ [(seg, last, crc, data)]
        s.setTransfer t { t with early := early, earlyAt := some s.lmc }
      else
        let (u, done) := absorb 8 { t with data := t.data ++ data, next := t.next + 1, advancedAt := s.lmc, earlyAt := none }
          (if last then some crc else none)
        let s := s.setTransfer t u
        let ack : Bool := done.isSome || decide (t.next / 4 ≠ u.next / 4)
        let s := if ack then s.dictAck u else s
        match done with
        | some c => s.finishTransfer u c
        | none => s)

/-- DICT_ACK: the window moves on; with everything acknowledged the transfer is over. -/
def execDictAck (p : Path) (tid next : Nat) (s : State) : Res :=
  let s := s.dictTaken p 6 tid
  .next (match s.transfer p tid with
  | none => s
  | some t =>
    if !t.reads || !(s.fwOn || s.inRecovery) || !(decide (t.acked < next) && decide (next ≤ t.next)) then s
    else
      let s := s.touch p
      let u := { t with acked := next, advancedAt := s.lmc, resends := 0 }
      let s := s.setTransfer t u
      if u.total ≤ 1024 * next then s.endTransfer u else s.pumpTransfer u)

/-- DICT_CANCEL: the transfer ends with no effect. -/
def execDictCancel (p : Path) (tid : Nat) (s : State) : Res :=
  let s := s.dictTaken p 7 tid
  .next (match s.transfer p tid with
  | none => s
  | some t => if s.fwOn || s.inRecovery then ((s.endTransfer t).dictForget (transferAsk t)).touch p else s)

/-- DICT_OUT_OF_ORDER_ACK: 1 ms after a segment that arrived out of order. -/
def execDictOutOfOrderAck (p : Path) (tid : Nat) (s : State) : Res :=
  .next (match s.transfer p tid with
  | none => s
  | some t => match t.earlyAt with
    | none => s
    | some a =>
      if s.fwOn || s.inRecovery then
        let s := (s.until (a + 1000000)).setTransfer t { t with earlyAt := none }
        s.dictAck { t with earlyAt := none }
      else s)

/-- DICT_RESEND_TIMEOUT: 10 ms without an ACK that advances; after 5 resends the sender cancels with TIMEOUT. -/
def execDictResendTimeout (p : Path) (tid : Nat) (s : State) : Res :=
  .next (match s.transfer p tid with
  | none => s
  | some t =>
    if !t.reads || !(s.fwOn || s.inRecovery) then s
    else
      let s := s.until (t.advancedAt + 10000000)
      if 5 ≤ t.resends then (s.bump Key.DICT_TIMEOUTS).abortTransfer t .timeout
      else
        let u := { t with next := t.acked, resends := t.resends + 1, advancedAt := s.lmc }
        ((s.bump Key.DICT_RESENDS).setTransfer t u).pumpTransfer u)

/-! ## The mailbox (R366) -/

/-- The request that header and data bytes make. -/
def reqOf (p : Path) (b : List Byte) : DictReq :=
  { path := p, client := beAt b 2 1 / 16, format := beAt b 0 1 / 16, role := beAt b 1 1 / 8 % 8, tid := beAt b 4 2
    object := beAt b 6 3 % 2 ^ 20, ty := beAt b 9 1, paramA := beAt b 12 4, paramB := beAt b 16 4, data := b.drop 20 }

/-- A request of this hub's own (mailbox or UART): operations that Table 13.5 reserves are answered VERSION_UNSUPPORTED. -/
def State.ownRequest (s : State) (q : DictReq) (op : Nat) (buffer : Option (List Byte)) : State :=
  if op = 1 then s.dictRead q
  else if op = 2 then s.dictWrite q
  else if op = 3 then s.dictReadBlock q
  else if op = 4 then s.dictWriteBlock q buffer
  else match s.dictOpen q op with
    | (false, s) => s
    | (true, s) => s.dictFail (askOf q op) .versionUnsupported

/-- A transfer that the hub runs for its host with the hub at `dest`. -/
def mailboxTransfer (q : DictReq) (op : Nat) (b : List Byte) (now : Nat) : Transfer :=
  { path := .mailbox, client := q.client, tid := q.tid, role := q.role, object := q.object, ty := q.ty, reads := op == 4
    offset := q.paramA, total := q.paramB, data := if op = 4 then bytesAt b 0 q.paramB else [], advancedAt := now }

/-- The request leaves for a remote hub; for block operations the hub itself runs the segments, and BUF_LEN must cover the
transfer. -/
def State.mailboxRemote (s : State) (req : List Byte) (dest : Nat) (buffer : List Byte) : State :=
  let q := reqOf .mailbox req
  let op := beAt req 0 1 % 16
  if (op = 3 ∨ op = 4) ∧ (s.bar 0x418 < q.paramB ∨ q.paramB = 0) then s.mailboxDone Abort.valueRange.code (respond req (some .valueRange) [])
  else if op = 4 then
    let t := mailboxTransfer q op buffer s.lmc
    let s := { s with dict := { s.dict with transfers := s.dict.transfers ++ [t] } }
    s.pumpTransfer t
  else
    let s := if op = 3 then
        { s with dict := { s.dict with transfers := s.dict.transfers ++ [mailboxTransfer q op [] s.lmc] } }
      else s
    s.originate { kind := 3, prio := 3, dest := dest, tagged := s.flag Key.KEYED, payload := req }

/-- A GO: ignored and counted while BUSY; local when DEST is 0 or the hub's own station, else remote. -/
def State.mailboxGo (s : State) (v : Nat) (buffer : List Byte) : State :=
  if s.host.mbx.isSome then s.bump Key.HOST_MBX_IGNORED
  else
    let s := (s.setBar 0x400 (v % 2048)).coreTouch
    let raw := bytesAt s.host.reqBytes 0 (v % 2048)
    let req := raw.take 2 ++ beBytes 1 (s.reg Key.ACCESS_HOST_CLIENT * 16) ++ raw.drop 3
    let dest := s.bar 0x408
    let local_ : Bool := dest == 0 || dest == s.station
    let run : MbxRun := { req := req, dest := if local_ then 0 else dest, startedAt := s.lmc, seen := s.answers.length }
    let s := { s.setBar 0x404 (2 ^ 31) with host := { s.host with mbx := some run } }
    if v % 2048 < 20 ∨ 1044 < v % 2048 then s.mailboxDone Abort.valueRange.code (respond req (some .valueRange) [])
    else if local_ then s.ownRequest (reqOf .mailbox req) (beAt req 0 1 % 16) (some buffer)
    else s.mailboxRemote req dest buffer

/-- MAILBOX_GO (R366). -/
def execMailboxGo (v : Fin 2048) (buffer : List Byte) (s : State) : Res :=
  .next (if s.logicOn then s.mailboxGo v buffer else s)

/-! ## Registers by number or address (R9, Tables 13.10, 13.12, 13.13) -/

/-- The four bytes of a lane at `o` of a byte store: the byte at the lowest address is bits 7 to 0. -/
def laneStore (b : List Byte) (o v : Nat) : List Byte :=
  let b := b ++ List.replicate (o + 4 - b.length) 0
  b.take o ++ (beBytes 4 v).reverse ++ b.drop (o + 4)

/-- The mailbox's registers, 0x0400 to 0x041C. -/
def State.mailboxWrite (s : State) (o v : Nat) : State :=
  if o = 0x400 then (if bitOf v 31 then s.mailboxGo (v % 2048) [] else s.setBar o (v % 2048))
  else if o = 0x404 then (if bitOf v 30 then resState s (execMailboxDoneClear s) else s)
  else if o = 0x408 then s.setBar o (v % 65536)
  else if o = 0x410 then s.setBar o (v / 4 * 4)
  else if o = 0x414 then s.setBar o v
  else if o = 0x418 then s.setBar o (v % 2 ^ 17)
  else if o = 0x41C then s.setBar o (v % 65536)
  else s

/-- The registers of ring `r` at `x` from its base. -/
def State.ringWrite (s : State) (r : Fin 3) (x v : Nat) : State :=
  if x = 0x00 then s.setBar (ringAt r 0x100) (v / 4096 * 4096)
  else if x = 0x04 then s.setBar (ringAt r 0x104) v
  else if x = 0x08 then resState s (execRingEnableWrite r v s)
  else if x = 0x10 then resState s (execRingTailWrite r v s)
  else if x = 0x14 then s.setBar (ringAt r 0x114) v
  else s

/-- A write of a BAR0 lane; read-only and reserved ones ignore it. -/
def State.bar0Write (s : State) (o v : Nat) : State :=
  if o = 0x24 then s.hostControl (v % 8)
  else if o = 0x28 then resState s (execWatchdogKick s)
  else if 0x100 ≤ o ∧ o < 0x160 then s.ringWrite (Fin.ofNat 3 ((o - 0x100) / 0x20)) (o % 0x20) v
  else if o = 0x200 then
    (if bitOf v 31 then resState s (execSnapshotGo v s) else s.setBar o (fld v 27 24 * 2 ^ 24 + fld v 19 0))
  else if o = 0x304 then resState s (execCompleteWrite 2 v s)
  else if 0x400 ≤ o ∧ o < 0x420 then s.mailboxWrite o v
  else if 0x800 ≤ o ∧ o < 0x1000 then { s with host := { s.host with reqBytes := laneStore s.host.reqBytes (o - 0x800) v } }
  else if 0xE000 ≤ o ∧ o < 0xE200 then s.setBar o v
  else s

/-- Commands of a queue block's register 0xC: FLUSH and SKIP. -/
def State.blockCommand (s : State) (n q v : Nat) : State :=
  if s.qConsumer n q ≠ 1 then s.bump (Key.PQC_COUNTS n (4 * q + 3))
  else
    let x := s.queue n q
    let s := if bitOf v 7 && !x.packets.isEmpty then s.setQueue n q { x with flushing := true } else s
    if bitOf v 8 then s.qSkip n q else s

/-- A write of a BAR4 lane; read-only and reserved ones ignore it. -/
def State.bar4Write (s : State) (o v : Nat) : State :=
  if o < 0x2000 then
    let n := Fin.ofNat 16 (o / 0x200)
    let q := Fin.ofNat 25 (o % 0x200 / 0x10)
    if 25 ≤ o % 0x200 / 0x10 then s
    else if o % 0x10 = 0 then resState s (execQueueTagWrite n q (v % 256) s)
    else if o % 0x10 = 4 then resState s (execQueueDataWrite n q true v s)
    else if o % 0x10 = 8 then resState s (execQueueDataWrite n q false v s)
    else s.blockCommand n q v
  else if o = 0x2000 then s.setBar4 o (v % 65536)
  else if o = 0x2004 then resState s (execIwSend v s)
  else if o = 0x200C then resState s (execIwStageWrite v s)
  else if o = 0x3004 then resState s (execTxTailWrite v s)
  else if 0x10000 ≤ o ∧ o < 0x20000 then s.setBar4 o v
  else s

/-- REGISTER_WRITE (R9): a dictionary object by its number, or a lane of BAR0 or BAR4. An offset outside its BAR names no
address of the hub. -/
def execRegisterWrite (w : Writer) (target : RegTarget) (v : Nat) (s : State) : Res :=
  match target with
  | .object k => .next (s.writeKey w k v (valueBytes k v))
  | .bar0 o =>
    if 0x10000 ≤ o then .fault (.outsideBar o)
    else .next (if s.logicOn then s.bar0Write (o / 4 * 4) (v % 2 ^ 32) else s)
  | .bar4 o =>
    if 0x100000 ≤ o then .fault (.outsideBar o)
    else .next (if s.logicOn then s.bar4Write (o / 4 * 4) (v % 2 ^ 32) else s)

end Sys2Proof.Machine
end

