-- ==== Sys2Proof/Machine/Sync.lean ====
section
/-! DEFINITION. State sync between the two hubs of a pair: the sync image, the writes that follow it and their
acknowledgements (R408, R413 to R416, R505). -/

namespace Sys2Proof.Machine

/-! ## The sync image (R413, Table 13.7, Table 15.9) -/

/-- The object numbers that a row of the object table covers. -/
def rowKeys (r : ObjRow) : List Nat :=
  (List.range r.count).flatMap (fun i => (List.range ((r.subHi - r.subLo) / max 1 r.stride + 1)).map (fun j =>
    obj (r.index + i) (r.subLo + j * max 1 r.stride)))

/-- A record: OBJECT, TYPE, LENGTH and the value, padded to a multiple of 4 bytes (R360). -/
def recordBytes (k ty : Nat) (value : List Byte) : List Byte :=
  beBytes 3 k ++ beBytes 1 ty ++ beBytes 2 value.length ++ value ++
    List.replicate ((4 - (6 + value.length) % 4) % 4) 0

/-- The record of object `k`. -/
def State.record (s : State) (k : Nat) : List Byte := match objRow k with
  | some r => recordBytes k r.ty.code (beBytes r.size (s.reg k))
  | none => []

/-- Every replicated object: writable and readable, and not kept per hub. -/
def syncKeys : List Nat :=
  ((List.range 16).flatMap objPage).flatMap (fun r => match r.access with
    | .rw _ _ _ => (rowKeys r).filter replicated
    | _ => [])

/-- The sync image: every replicated object (the data-storage records are among them), and for each armed timer unit its
STATE and NEXT_INSTANT. -/
def State.syncImage (s : State) : List Byte :=
  syncKeys.flatMap s.record ++ ((List.range 64).filter (fun u =>
    s.reg (Key.TIMER_STATE u) == 1 || s.reg (Key.TIMER_STATE u) == 2)).flatMap (fun u =>
      s.record (Key.TIMER_STATE u) ++ s.record (Key.TIMER_NEXT_INSTANT u))

/-- `b` in pieces of `n` bytes; `fuel` bounds their number. -/
def pieces (n : Nat) : Nat → List Byte → List (List Byte)
  | 0, _ => []
  | fuel + 1, b => if b.length ≤ n then [b] else b.take n :: pieces n fuel (b.drop n)

/-- SYNC_REQUEST_RECEIVED (R413): the ACTIVE hub sends its sync image, taken at one instant that SYNC_SEQ marks. -/
def execSyncRequestReceived (fr : Frame) (tag : TagCheck) (s : State) : Res :=
  .next (if !s.fwOn || decide (s.role ≠ TwinRole.active) then s
    else match s.twinTake fr tag (s.flag Key.KEY_TWIN_AUTH) with
    | (none, s) => s
    | (some _, s) =>
      let image := s.syncImage
      let ps := pieces 1452 (image.length / 1452 + 1) image
      ps.zipIdx.foldl (fun s p => s.sendTwin 1 ([3] ++ beBytes 1 (b2n (p.2 + 1 == ps.length)) ++ beBytes 2 p.2 ++
        beBytes 4 s.twin.seq ++ p.1)) s)

/-! ## Writes of the peer (R414, R505) -/

/-- The hub leaves READY and asks for a new bulk sync. -/
def State.syncLost (s : State) : State := ((s.setReg Key.TWST_SYNC_STATE 0).requestSync).twinUpdate

/-- A SYNC_WRITE is applied without role or state checks, with the object's own checks, and acknowledged; an object that this
firmware lacks is skipped, a refused write takes the hub out of READY. -/
def State.applySync (s : State) (p : List Byte) : State :=
  let seq := beAt p 4 4
  let k := beAt p 8 3
  let data := (p.drop 14).take (beAt p 12 2)
  let s := { s with twin := { s.twin with seq := seq } }.bump Key.TWC_SYNC_WRITES
  let ack (s : State) (result : Nat) : State := s.sendTwin 6 ([5] ++ beBytes 1 result ++ [0, 0] ++ beBytes 4 seq)
  match objRow k with
  | none => ack (s.bump Key.UPD_SYNC_SKIPPED) 0
  | some _ =>
    let t := s.writeKey ⟨.vendor, .peer⟩ k (beNat data) data
    let refused := (t.answers.drop s.answers.length).any (fun a => a.path == .peer && a.abort.isSome)
    let t := { t with answers := t.answers.filter (fun a => a.path != .peer) }
    if refused then (ack t 1).syncLost else ack t 0

/-- SYNC_WRITE_RECEIVED (R414): while a bulk sync runs it waits behind the image. -/
def execSyncWriteReceived (fr : Frame) (tag : TagCheck) (s : State) : Res :=
  .next (if !s.fwOn || decide (s.role ≠ TwinRole.standby) then s
    else match s.twinTake fr tag (s.flag Key.KEY_TWIN_AUTH) with
    | (none, s) => s
    | (some _, s) =>
      let st := s.reg Key.TWST_SYNC_STATE
      if st = 2 then s.applySync fr.payload
      else if st = 0 then s
      else { s with twin := { s.twin with bulkQueue := s.twin.bulkQueue ++ [fr] } })

/-! ## Applying the image (R413, R505) -/

/-- The records of an image; `fuel` bounds their number. -/
def recordsOf : Nat → List Byte → List (Nat × Nat × List Byte)
  | 0, _ => []
  | n + 1, b =>
    if b.length < 6 then []
    else
      let len := beAt b 4 2
      (beAt b 0 3, beAt b 3 1, (b.drop 6).take len) :: recordsOf n (b.drop ((6 + len + 3) / 4 * 4))

/-- What follows a configuration taken as a whole: tunnels that are enabled open, edge ports, L+ switches and branch fuses
take their settings, and an IO-Link port whose mode is not `was` starts afresh. -/
def State.configured (s : State) (was : Nat → Nat) : State :=
  let s := s.tunnelsOn.foldl (fun s e => if (s.tun e.1).st = 0 then s.setTun e.1 { s.tun e.1 with st := 1 } else s) s
  let s := (List.range 8).foldl State.edgeSync s
  let s := (List.range 64).foldl (fun s p => if s.iolMode p ≠ was p then s.iolStart p else s.lpSync p) s
  (List.range 64).foldl State.fuseSync s

/-- An armed unit goes on from its NEXT_INSTANT. -/
def State.timerFollows (s : State) (u : Nat) : State :=
  if s.reg (Key.TIMER_STATE u) ≠ 1 ∧ s.reg (Key.TIMER_STATE u) ≠ 2 then s
  else
    let r := s.arm u
    let d := (toSigned 64 (s.reg (Key.TIMER_NEXT_INSTANT u)) - armStart r).toNat
    (s.setReg (Key.TIMER_STATE u) 1).setTimer u { index := if armPeriodic r then d / max 1 (armPeriod r) else 0 }

/-- The image is applied whole: each record whose object exists with that type and length; one that this firmware lacks is
skipped and counted. -/
def State.applyImage (s : State) (b : List Byte) : State :=
  let was := s.iolMode
  let s := (List.range 64).foldl (fun s u => s.timerStop u 0) s
  let s := (recordsOf (b.length / 8 + 1) b).foldl (fun s x => match objRow x.1 with
    | none => s.bump Key.UPD_SYNC_SKIPPED
    | some r => if r.ty.code = x.2.1 ∧ r.size = x.2.2.length then s.setReg x.1 (beNat x.2.2) else s) s
  ((List.range 64).foldl State.timerFollows s).configured was

/-- The image is complete: it is applied, then the writes that waited; a changed persistent value is saved, and the hub is
synchronised (R413). -/
def State.bulkDone (s : State) (seq : Nat) : State :=
  let before := s.persistent
  let waiting := s.twin.bulkQueue
  let s := s.applyImage s.twin.bulk
  let s := { s with twin := { s.twin with seq := seq, bulk := [], bulkNext := 0, bulkQueue := [] } }.setReg Key.TWST_SYNC_STATE 2
  let s : State := waiting.foldl (fun (s : State) f => if s.reg Key.TWST_SYNC_STATE = 2 then s.applySync f.payload else s) s
  let s := if s.persistent ≠ before ∧ s.boot.saving.isNone then s.saveStart .peer else s
  s.twinUpdate

/-- SYNC_BULK_RECEIVED (R413): segments in order; the last one completes the image. -/
def execSyncBulkReceived (fr : Frame) (tag : TagCheck) (s : State) : Res :=
  .next (if !s.fwOn || decide (s.role ≠ TwinRole.standby) then s
    else match s.twinTake fr tag (s.flag Key.KEY_TWIN_AUTH) with
    | (none, s) => s
    | (some _, s) =>
      let p := fr.payload
      let st := s.reg Key.TWST_SYNC_STATE
      if (st ≠ 1 ∧ st ≠ 3) ∨ beAt p 2 2 ≠ s.twin.bulkNext then s
      else
        let s := { s with twin := { s.twin with bulk := s.twin.bulk ++ p.drop 8, bulkNext := s.twin.bulkNext + 1 } }
        if bitOf (beAt p 1 1) 0 then s.bulkDone (beAt p 4 4) else s.setReg Key.TWST_SYNC_STATE 1)

/-! ## Acknowledgements (R414) -/

/-- SYNC_ACK_RECEIVED: the ACTIVE hub answers the writer that waited for this acknowledgement. -/
def execSyncAckReceived (fr : Frame) (tag : TagCheck) (s : State) : Res :=
  .next (if !s.fwOn || decide (s.role ≠ TwinRole.active) then s
    else match s.twinTake fr tag (s.flag Key.KEY_TWIN_AUTH) with
    | (none, s) => s
    | (some _, s) =>
      let seq := beAt fr.payload 4 4
      match s.twin.waits.find? (fun x => x.1 == seq) with
      | none => s
      | some x => { s with twin := { s.twin with waits := s.twin.waits.erase x } }.answer x.2.path x.2.object x.2.abort x.2.data)

end Sys2Proof.Machine
end

