-- ==== Sys2Proof/Machine/Boot.lean ====
section
/-! DEFINITION. Reset and its release, the field die and its link, boot, the parameter set at start, and the maintenance
UART (chapters 1, 13, 19 and 20). -/

namespace Sys2Proof.Machine

/-! ## What a reset leaves (R12, R19, R23, R359, R490) -/

/-- Indices of the field-side channels, whose settings the field die keeps while VFIELD is present (R18, R19). -/
def fieldIndex (i : Nat) : Bool := decide (0x400 ≤ i) && decide (i ≤ 0x63F)

/-- Objects that MRAM holds outside the parameter set: identity, the control block (R490), the Crucible's places, keys and
life cycle, data storage. -/
def mramKeys : List Nat :=
  [Key.ID_FIRMWARE_VERSION, Key.ID_LOADER_VERSION, Key.ID_LAYOUT_VERSION, Key.COMPAT_REQUEST, Key.BYP0_CYCLES, Key.BYP1_CYCLES,
    Key.LC_STATE, Key.LC_PENDING_TURN, Key.KEY_SLOTS, Key.KEY_EPOCH_ERA, Key.KEY_TAG_FLOOR, Key.ATT_IDENTITY_PUB,
    Key.ATT_IDENTITY_CERT, Key.ATT_TRANSPORT_PUB, Key.UPD_PHASE, Key.UPD_TRIAL_BOOTS, Key.UPD_LAST_CAUSE,
    Key.UPD_STAGED_VERSION, Key.UPD_PREVIOUS_VERSION, Key.CRU_LOG_NEXT, Key.CRU_SEQUENCE_NEXT, Key.CRU_BOOT,
    Key.CRU_PINNED_NEXT, Key.CRU_SNAP_NEXT]

/-- A reset keeps cell `k`: MRAM holds it, or the field die does. -/
def keptReg (k : Nat) : Bool :=
  let i := k / 256
  let j := k % 256
  mramKeys.contains k || (decide (0x560 ≤ i ∧ i ≤ 0x59F) && (j == 0x1F || j == 0x20)) ||
    (fieldIndex i && (objIsPersistent k || (decide (0x600 ≤ i ∧ i ≤ 0x63F) && k == Key.BR_STATE (i - 0x600)))) ||
    (List.range 64).any (fun p => k == Key.LP_STATE p)

/-- Sequence number `a` follows `b`, modulo 2^32 (R361, R50). -/
def seqNewer (a b : Nat) : Bool := a != b && decide ((a + 2 ^ 32 - b) % 2 ^ 32 < 2 ^ 31)

/-- The valid parameter copy with the highest SEQUENCE, with its number (R361). -/
def State.newest (s : State) : Option (Nat × ParamCopy) := match s.boot.copy1, s.boot.copy2 with
  | none, none => none
  | some a, none => some (1, a)
  | none, some b => some (2, b)
  | some a, some b => if seqNewer b.sequence a.sequence then some (2, b) else some (1, a)

/-- A record names a persistent object and holds a value of its own range (R361, step 1). -/
def recordOk (c : Nat × Nat) : Bool := objIsPersistent c.1 && (match objRow c.1 with
  | some r => r.inRange c.2 && decide (c.2 < 2 ^ (8 * r.size))
  | none => false)

/-- Registers after a reset: those that MRAM or the field die keeps, and the parameter set as last saved (R12, R502). -/
def State.resetRegs (s : State) : Cells Nat :=
  let kept := s.regs.filter (fun c => keptReg c.1)
  let kept := (List.range 64).foldl (fun m p =>
    if cellGet objDefault m (Key.IOL_DS_STATE p) = 2 then
      cellSet objDefault m (Key.IOL_DS_STATE p) (b2n (decide (cellGet objDefault m (Key.IOL_DS_IMAGE p) ≠ 0)))
    else m) kept
  ((s.newest.map (fun c => c.2.records)).getD []).foldl (fun m c =>
    if recordOk c && !fieldIndex (c.1 / 256) then cellSet objDefault m c.1 c.2 else m) kept

/-- What the field die drives now: an output line or PX-independent output at high, a branch gate on (256 + b). -/
def State.drivenNow (s : State) : Cells Nat :=
  if s.field.holding then s.field.driven
  else ((List.range 256).filter (fun i => s.lineBall i == some true)).map (fun i => (i, 1)) ++
    ((List.range 64).filter (fun b => s.reg (Key.BR_STATE b) == 2 || s.reg (Key.BR_STATE b) == 3)).map (fun b => (256 + b, 1))

/-- The field die holds its outputs at their last refreshed values (R18). -/
def State.holdOutputs (s : State) : State :=
  if !s.field.powered || !s.field.refreshed || s.field.safe || s.field.holding then s
  else { s with field := { s.field with driven := s.drivenNow, holding := true, steadyAt := s.lmc } }

/-- A line after a reset of the logic die: its trips and latches are the field die's (R19); the last level driven is what HOLD
keeps (R192). -/
def State.lineReset (s : State) (i : Nat) (l : LineSt) : LineSt :=
  { l with cmd := false, safeCmd := false, seen := false, known := false, freshAt := s.lmc, rises := 0, falls := 0
           cross := none, last := (s.lineBall i).getD l.last }

/-- The field die's part of an IO-Link port after a reset: its L+ switch. -/
def iolReset (x : IolSt) : IolSt :=
  { raw := x.raw, lpTrips := x.lpTrips, lpRetryAt := x.lpRetryAt, lpHot := x.lpHot, lpOnAt := x.lpOnAt, lpRampAt := x.lpRampAt }

/-- A SAVE that a reset interrupts leaves its target copy invalid (R360). -/
def State.saveCut (s : State) : State := match s.boot.saving with
  | none => s
  | some x => s.setCopy x.copy none

/-- The hub in reset for `cause`: MRAM, the field die and LMC go on; FTIME goes on but for a loss of the logic supply; the
Crucible's entries not yet committed are lost with that supply alone (R443). -/
def State.intoReset (s : State) (cause : ResetCause) : State :=
  let lost := cause == .supply
  let s := (s.saveCut).holdOutputs
  let regs := s.resetRegs
  let lines := s.lines.foldl (fun m c => cellSet (fun _ => {}) m c.1 (s.lineReset c.1 c.2)) []
  let iols := s.iols.foldl (fun m c => cellSet (fun _ => {}) m c.1 (iolReset c.2)) []
  let fuses := s.fuses.foldl (fun m c => cellSet (fun _ => {}) m c.1 { c.2 with cmd := true, safeCmd := false }) []
  let links := s.links.foldl (fun m c => cellSet (fun _ => {}) m c.1 { attempt := c.2.attempt, signal := c.2.signal }) []
  { State.reset with
    run := if lost then .unpowered else .held
    clock := s.clock, ftimeQ := if lost then 0 else s.ftimeQ, straps := s.straps, resetCause := cause, regs := regs
    free := s.free, answers := s.answers, role := s.role, links := links, sent := s.sent, field := s.field
    healthAt := s.healthAt, msix := s.msix, busReads := s.busReads, lines := lines, rsSent := s.rsSent, iols := iols
    pxs := s.pxs.foldl (fun m c => cellSet (fun _ => {}) m c.1 { level := c.2.level }) [], fuses := fuses
    cru := { s.cru with queue := if lost then [] else s.cru.queue, filling := if lost then 0 else s.cru.filling, storm := [] }
    host := { dma := s.host.dma }, sw := { phy := s.sw.phy, mdio := s.sw.mdio }, time := { ptpSent := s.time.ptpSent }
    twin := { claim := s.twin.claim, claimAt := s.twin.claimAt, claimOld := s.twin.claimOld, won := s.twin.won
              startAt := s.twin.startAt, row3At := s.twin.row3At }
    power := { extended := s.power.extended, vfieldLow := s.power.vfieldLow, pfw := s.power.pfw }
    keys := { root := s.keys.root }
    boot := { s.boot with saving := none, staged := [], writing := none, trialRaised := false, blocks := [], written := 0
                          image := [], lost := if lost then s.cru.queue.length else s.boot.lost }
    uartSent := s.uartSent, jtag := s.jtag, pending := s.pending }

/-- RESET_ASSERT (R513). -/
def execResetAssert (cause : ResetCause) (s : State) : Res := .next (match s.run with
  | .unpowered => s
  | .held => if cause = .supply then s.intoReset .supply else s
  | _ => s.intoReset cause)

/-- Times of the field side counted from a new origin of LMC. -/
def State.rebase (s : State) : State :=
  let t := s.lmc
  { s with
    clock := 0, ftimeQ := 0, healthAt := 0
    field := { s.field with refreshAt := s.field.refreshAt - t, steadyAt := 0 }
    twin := { s.twin with claimAt := 0, startAt := none, row3At := s.twin.row3At - t }
    lines := s.lines.foldl (fun m c => cellSet (fun _ => {}) m c.1 { c.2 with
      rawAt := c.2.rawAt - t, freshAt := 0, retryAt := c.2.retryAt - t, onAt := c.2.onAt - t, wireAt := c.2.wireAt - t }) []
    iols := s.iols.foldl (fun m c => cellSet (fun _ => {}) m c.1 { c.2 with
      lpRetryAt := c.2.lpRetryAt - t, lpOnAt := c.2.lpOnAt - t, lpRampAt := c.2.lpRampAt - t }) []
    fuses := s.fuses.foldl (fun m c => cellSet (fun _ => {}) m c.1 { c.2 with
      retryAt := c.2.retryAt - t, rampAt := c.2.rampAt - t, onAt := c.2.onAt - t }) [] }

/-- VDD_AON_APPLIED (R133, R515): LMC counts from 0; both BYP_HOLD pins are high-impedance until their conditions hold. -/
def execVddAonApplied (s : State) : Res := .next (match s.run with
  | .unpowered => { s.rebase with run := .held }
  | _ => s)

/-! ## Boot (R14, R28, R494 to R501) -/

/-- The power entry of a boot (Table 16.13); the spec gives its reset cause no numbers, so that byte is free. -/
def State.powerEntry (s : State) (torn : Nat) : State :=
  let (x, s) := s.fresh
  s.log 6 0 (beBytes 1 0 ++ beBytes 1 x ++ beBytes 2 0 ++ beBytes 4 s.boot.lost ++ beBytes 4 torn)

/-- The ROM enters RECOVERY with a CAUSE of Table 19.7. -/
def State.toRecovery (s : State) (cause : Nat) : State :=
  { s with run := .recovery, boot := { s.boot with recover := none, written := 0, blocks := [], image := [] } }.setReg
    Key.REC_CAUSE cause

/-- Reset is released: the straps fix position, PRIM and compatibility mode; the ROM starts, or enters RECOVERY on BOOT_SEL, in
SCRAP or on command. -/
def State.release (s : State) (straps : Straps) : State :=
  let s := { s with
    run := .rom, straps := straps
    role := if s.reg Key.TWIN_MODE = 0 then .solo else .standby
    keys := { s.keys with floor := toSigned 64 (s.reg Key.KEY_TAG_FLOOR), since := s.lmc }
    time := { s.time with since := s.lmc }
    twin := { s.twin with pathAAt := s.lmc, pathBAt := s.lmc, validAt := s.lmc }
    power := { s.power with coreIdleAt := s.lmc } }
  let s := (s.setReg Key.COMPAT_EFFECTIVE (b2n (straps.compat || s.flag Key.COMPAT_REQUEST))).setReg Key.TWST_PREFERRED
    (b2n straps.prim)
  let s := (List.range 4).foldl (fun (s : State) f => s.setReg (Key.PORT_STATE f) (b2n (s.flag (Key.PORT_ENABLE f)))) s
  if straps.bootSel then (s.powerEntry 0).toRecovery 1
  else if s.reg Key.LC_STATE = 4 then (s.powerEntry 0).toRecovery 7
  else match s.boot.recover with
    | some c => (s.powerEntry 0).toRecovery c
    | none => s

/-- RESET_RELEASE (R14, R28, R494). -/
def execResetRelease (straps : Straps) (s : State) : Res := .next (match s.run with
  | .held => s.release straps
  | .unpowered => s.release straps
  | _ => s)

/-- DEFERRED_RESET (R348, R506): an accepted reset takes place; the straps are sampled again at its release. -/
def execDeferredReset (s : State) : Res := .next (match s.hub.resetDue with
  | none => s
  | some (t, cause) => if s.fwOn || s.inRecovery then ((s.until t).intoReset cause).release s.straps else s)

/-- The loader starts the image in the slot. -/
def State.startImage (s : State) : State :=
  ({ s with run := .loader }.setReg Key.ID_FIRMWARE_VERSION s.boot.slot.version).setReg Key.ID_LAYOUT_VERSION s.boot.slot.layout

/-- The image was confirmed by either copy of the confirmation word (R500). -/
def State.confirmed (s : State) : Bool := s.boot.confirm1 == s.boot.slot.digest || s.boot.confirm2 == s.boot.slot.digest

/-- The loader reads the journal and checks the image (R493, R494, R499, Table 19.5). -/
def State.loaderRuns (s : State) (imageGood : Bool) : State :=
  let phase := s.reg Key.UPD_PHASE
  if phase = 2 then s.toRecovery 4
  else if phase = 3 ∨ phase = 4 then
    let s := s.setPhase 4
    if imageGood then ((s.setReg Key.UPD_TRIAL_BOOTS 1).setPhase 5).startImage
    else ((s.occur 0x0B4 0 4).setReg Key.UPD_LAST_CAUSE 6).toRecovery 3
  else
    let s := if phase = 1 then (s.setPhase 0).setReg Key.UPD_LAST_CAUSE 1 else s
    let s := if phase = 5 ∧ s.confirmed then s.setPhase 6 else s
    let s := if phase = 5 ∧ !s.confirmed then s.setReg Key.UPD_TRIAL_BOOTS (s.reg Key.UPD_TRIAL_BOOTS + 1) else s
    if phase = 5 ∧ !s.confirmed ∧ 3 ≤ s.reg Key.UPD_TRIAL_BOOTS then (s.setReg Key.UPD_LAST_CAUSE 7).toRecovery 5
    else if imageGood then s.startImage
    else s.toRecovery 3

/-- BOOT_LOADER_START (R494, Table 19.3): the ROM checks the loader; the loader advances the boot count, counts torn entries
and goes on to the image. The outcomes of the two checks are operands. -/
def execBootLoaderStart (loaderGood imageGood : Bool) (torn : Nat) (s : State) : Res := .next (match s.run with
  | .rom =>
    if !loaderGood then (s.powerEntry 0).toRecovery 2
    else
      let s := (s.setReg Key.CRU_BOOT ((s.reg Key.CRU_BOOT + 1) % 65536)).setReg Key.CRU_TORN torn
      let s := s.powerEntry torn
      let s : State := if torn = 0 then s else s.occur 0x0B2 0 torn
      { s with boot := { s.boot with torn := torn, lost := 0 } }.loaderRuns imageGood
  | _ => s)

/-! ## The parameter set at start (R361, R362) -/

/-- A check that relates several objects: when it fails, and the objects it relates. -/
structure Relation where
  fails : State → Bool
  relates : Nat → Bool

/-- `k` lies in indices `a` to `b`. -/
def inIndices (a b k : Nat) : Bool := decide (a ≤ k / 256) && decide (k / 256 ≤ b)

/-- An entry of map `idx` is refused beside the others (R97). -/
def State.mapBad (s : State) (idx words : Nat) : Bool :=
  s.regs.any (fun c => c.1 / 256 == idx && decide (1 ≤ c.1 % 256) && decide (c.1 % 256 ≤ 64) && (s.entryCheck idx words c.1 c.2).isSome)

/-- A group of {204} is refused beside the others and the wide sources (R121). -/
def State.groupBad (s : State) : Bool :=
  s.regs.any (fun c => c.1 / 256 == 0x204 && decide (1 ≤ c.1 % 256) && (s.groupCheck c.1 c.2).isSome)

/-- The checks that relate several objects: versions, port settings, maps and groups, the ring image load (R130), IEEE 1588
settings, the loads of R186, the field budget (R27), PHY addresses, MIN_CELLS (R294) and tunnel reserves (R327). -/
def relations : List Relation :=
  [⟨fun s => decide (s.reg Key.LINK_MAX_VERSION < s.reg Key.LINK_MIN_VERSION),
     fun k => k == Key.LINK_MIN_VERSION || k == Key.LINK_MAX_VERSION⟩,
   ⟨fun s => s.mapBad 0x202 (s.reg Key.WIN_PUB_WORDS) || s.groupBad,
     fun k => inIndices 0x202 0x202 k || inIndices 0x204 0x204 k || k == Key.WIN_PUB_WORDS⟩,
   ⟨fun s => s.mapBad 0x203 (s.reg Key.WIN_SUB_WORDS), fun k => inIndices 0x203 0x203 k || k == Key.WIN_SUB_WORDS⟩,
   ⟨fun s => !s.loadFits (s.loadWith (s.reg Key.WIN_PUB_WORDS) (s.flag Key.IMG_IMAGE_AUTH)) (s.reg Key.IMG_TURN_PERIOD_EXP),
     fun k => k == Key.WIN_PUB_WORDS || k == Key.IMG_TURN_PERIOD_EXP || k == Key.IMG_IMAGE_AUTH || inIndices 0x207 0x207 k⟩,
   ⟨fun s => !s.ptpOk, fun k => inIndices 0x2D0 0x2D0 k || (inIndices 0x680 0x687 k && k % 256 == 5)⟩,
   ⟨fun s => s.phyClash, fun k => inIndices 0x680 0x687 k && (k % 256 == 1 || k % 256 == 2)⟩,
   ⟨fun s => decide (28672 < s.reservedCells), fun k => inIndices 0x710 0x722 k⟩,
   ⟨fun s => decide (1150000000 < s.fieldPower), fun k => fieldIndex (k / 256) || inIndices 0x640 0x67F k⟩] ++
  (List.range 4).map (fun f => ⟨fun s => s.reg (Key.PORT_SPEED f) == 2 && s.reg (Key.PORT_FEC f) == 1,
    fun k => k == Key.PORT_SPEED f || k == Key.PORT_FEC f⟩) ++
  (List.range 16).map (fun n => ⟨fun s => decide (1000 < s.loadSum n),
    fun k => inIndices (0x400 + 16 * n) (0x40F + 16 * n) k && (k % 256 == 1 || k % 256 == 7)⟩) ++
  (List.range 4).map (fun l => ⟨fun s => decide (32768 < s.reservedUnits l 1024),
    fun k => inIndices (0x780 + 4 * l) (0x783 + 4 * l) k⟩)

/-- Step 2 of R361, until no check fails: every object that a failing check relates takes its default. The number counts the
records that did. -/
def State.relax : Nat → State → Nat → State × Nat
  | 0, s, n => (s, n)
  | fuel + 1, s, n => match relations.find? (fun r => r.fails s) with
    | none => (s, n)
    | some r =>
      let out (c : Nat × Nat) : Bool := objIsPersistent c.1 && r.relates c.1
      State.relax fuel { s with regs := s.regs.filter (fun c => !out c) } (n + (s.regs.filter out).length)

/-- The records of a copy become the persistent values: those that fail step 1 of R361 take their defaults, then step 2. -/
def State.loadRecords (s : State) (c : ParamCopy) : State × Nat :=
  let good := c.records.filter recordOk
  let s := { s with regs := s.regs.filter (fun x => !objIsPersistent x.1) }
  let s := good.foldl (fun (s : State) x => s.setReg x.1 x.2) s
  State.relax (2 * relations.length) s (c.records.length - good.length)

/-- The copy of another LAYOUT is migrated into the other one, with STATE 1 and the next SEQUENCE (R362). -/
def State.migrate (s : State) (n : Nat) (c : ParamCopy) (dropped : Nat) : State :=
  let layout := s.reg Key.ID_LAYOUT_VERSION
  let older := decide (layout < c.layout)
  let copy : ParamCopy := { layout := layout, state := 1, sequence := (c.sequence + 1) % 2 ^ 32
                            fw := s.reg Key.ID_FIRMWARE_VERSION, written := s.ftime, records := s.persistent }
  let s := ((s.setCopy (3 - n) (some copy)).setReg Key.PARAM_ACTIVE_COPY (3 - n)).setReg Key.PARAM_SEQUENCE copy.sequence
  if older ∧ dropped ≠ 0 then (s.setReg Key.PARAM_MIGRATION 2).occur 0x069 0 dropped else s.setReg Key.PARAM_MIGRATION 1

/-- The parameter set is loaded at the firmware's start (R361). -/
def State.loadParams (s : State) : State := match s.newest with
  | none =>
    let s := { s with regs := s.regs.filter (fun x => !objIsPersistent x.1) }
    { s with hub := { s.hub with paramsLost := true } }.faultUp 0x068 0 0
  | some (n, c) =>
    let (s, dropped) := s.loadRecords c
    let s := ((s.setReg Key.PARAM_ACTIVE_COPY n).setReg Key.PARAM_SEQUENCE c.sequence).setReg Key.PARAM_LAST_SAVE
      (ofSigned 64 c.written)
    if c.layout ≠ s.reg Key.ID_LAYOUT_VERSION then s.migrate n c dropped
    else
      let s := if c.state = 1 then s.setReg Key.PARAM_MIGRATION 1 else s
      if dropped = 0 then s else s.occur 0x069 0 dropped

/-- FIRMWARE_START (R348, R361, Table 19.3, step 8): the parameter set is loaded, what it configures takes effect, and the hub
leaves INIT for PREOP. -/
def execFirmwareStart (s : State) : Res := .next (match s.run with
  | .loader =>
    let s := { s with run := .firmware, boot := { s.boot with startedAt := s.lmc, trialRaised := false } }.loadParams
    let s := (List.range 4).foldl (fun (s : State) f => s.portEnable f (s.reg (Key.PORT_ENABLE f))) s
    let s := { s.configured (fun _ => 0) with healthAt := s.lmc }
    (s.setMode .preop .init s.lostCause).twinUpdate
  | _ => s)

/-! ## The field die and its link (R17 to R19, R460, R519) -/

/-- FIELD_REFRESH (R17): in RECOVERY and before the firmware runs there is none (R502). -/
def execFieldRefresh (s : State) : Res := .next (if s.fwOn then s.refresh else s)

/-- FIELD_FIRST_REFRESH (R519). -/
def execFieldFirstRefresh (s : State) : Res := .next (if s.fwOn ∧ !s.field.refreshed then s.refresh else s)

/-- FIELD_REFRESH_LOSS (R18, R460): 100 µs without a refresh; FIELD_LINK occurs unless a reset or a loss of logic power is
the cause. -/
def execFieldRefreshLoss (s : State) : Res := .next (
  if !s.field.powered || !s.field.refreshed || s.field.safe then s
  else
    let s := (s.until (s.field.refreshAt + 100000)).holdOutputs
    if s.logicOn then s.faultUp 0x094 0 0 else s)

/-- FIELD_HOLD_EXPIRY (R18): each output goes to its safe state; HOLD keeps the last level driven. -/
def execFieldHoldExpiry (s : State) : Res := .next (
  if !s.field.powered || !s.field.holding then s
  else
    let s := s.until (s.field.refreshAt + 100000 + s.field.holdMs * 1000000)
    let s := { s with
      lines := s.lines.foldl (fun m c => cellSet (fun _ => {}) m c.1 { c.2 with
        last := cellGet (fun _ => 0) s.field.driven c.1 == 1 }) []
      field := { s.field with holding := false, safe := true, steadyAt := s.lmc } }
    (List.range 64).foldl State.fuseSync s)

/-- FIELD_DIE_RESET (R19): VFIELD falls below the reset level; the field die discards its state. -/
def execFieldDieReset (s : State) : Res := .next (
  if !s.field.powered then s
  else
    let s := s.gateTo 4
    let s := { s with
      field := { steadyAt := s.lmc }, twin := { s.twin with won := none }, power := { s.power with pfw := 0 }
      lines := s.lines.foldl (fun m c => cellSet (fun _ => {}) m c.1 { c.2 with
        known := false, status := 0, trips := 0, off := false, hot := false, hits := 0 }) []
      fuses := s.fuses.foldl (fun m c => cellSet (fun _ => {}) m c.1 { c.2 with hold := 0, trips := 0, hot := false }) []
      iols := s.iols.foldl (fun m c => cellSet (fun _ => {}) m c.1 { c.2 with lpTrips := 0, lpHot := false }) [] }
    let s := (List.range 64).foldl (fun (s : State) p => s.setReg (Key.LP_STATE p) 0) s
    (List.range 64).foldl State.fuseSync s)

/-- FIELD_DIE_POWER_UP (R519): VFIELD rises above 7 V; every output stays off until the first refresh. -/
def execFieldDiePowerUp (s : State) : Res := .next (
  if s.field.powered then s
  else { s with
    field := { powered := true, steadyAt := s.lmc }
    lines := s.lines.foldl (fun m c => cellSet (fun _ => {}) m c.1 { c.2 with known := false, freshAt := s.lmc }) [] })

/-- HOB_HEALTH_TIMEOUT (R31): 500 µs without a health refresh; the Hob claims with health 0. A solo hub claims nothing. -/
def execHobHealthTimeout (s : State) : Res := .next (
  if s.run = .unpowered ∨ s.role = .solo then s
  else
    let s := s.until (s.healthAt + 500000)
    s.writeClaim (s.claimByte 0))

/-! ## The maintenance UART (R504) -/

/-- The DICT header and data of a frame whose marks, LENGTH and CRC-32 are right. -/
def uartBody (b : List Byte) : Option (List Byte) :=
  let n := beAt b 2 2
  if b.length < 8 + n ∨ beAt b 0 2 ≠ 0xA55A ∨ n < 20 ∨ 1044 < n then none
  else if crc32 ((b.drop 2).take (2 + n)) ≠ beAt b (4 + n) 4 then none
  else some ((b.drop 4).take n)

/-- UART_FRAME_RECEIVED (R504): a frame that fails its checks is discarded; any other is a DICT request, segment, ACK or
CANCEL of the UART's path. -/
def execUartFrameReceived (bytes : List Byte) (s : State) : Res :=
  match uartBody bytes with
  | none => .next s
  | some d =>
    let op := beAt d 0 1 % 16
    let tid := beAt d 4 2
    if op = 5 then execDictSegment .uart tid (beAt d 3 1) (bitOf (beAt d 1 1) 6) (beAt d 12 4) (d.drop 20) s
    else if op = 6 then execDictAck .uart tid (beAt d 12 4) s
    else if op = 7 then execDictCancel .uart tid s
    else .next (s.ownRequest (reqOf .uart d) op none)

/-! ## The clock on an empty queue (R133) -/

/-- One tick of LMC: 2.5 ns while RING is on, 320 ns while only the Hob runs, none without VDD_AON. -/
def State.tick (s : State) : State := match s.run with
  | .unpowered => s
  | .held => s.advance 640
  | _ => s.advance 5

end Sys2Proof.Machine
end

