-- ==== Sys2Proof/Machine/Dispatch.lean ====
section
/-! DEFINITION. The dispatch: one arm for each command, one direct call of its meaning. -/
namespace Sys2Proof.Machine
/-- The effect of command `i` on everything but the queue of waiting commands. -/
def exec (i : Instr) (s : State) : Host.Outcome State Fault Refusal :=
  match i with
  | .registerWrite w target v => Sys2Proof.Machine.execRegisterWrite w target v s
  | .vddAonApplied => Sys2Proof.Machine.execVddAonApplied s
  | .resetAssert cause => Sys2Proof.Machine.execResetAssert cause s
  | .resetRelease straps => Sys2Proof.Machine.execResetRelease straps s
  | .compatRequestWrite w v => Sys2Proof.Machine.execCompatRequestWrite w v s
  | .fieldRefresh => Sys2Proof.Machine.execFieldRefresh s
  | .fieldFirstRefresh => Sys2Proof.Machine.execFieldFirstRefresh s
  | .fieldRefreshLoss => Sys2Proof.Machine.execFieldRefreshLoss s
  | .fieldHoldExpiry => Sys2Proof.Machine.execFieldHoldExpiry s
  | .holdTimeMsWrite w v => Sys2Proof.Machine.execHoldTimeMsWrite w v s
  | .fieldDieReset => Sys2Proof.Machine.execFieldDieReset s
  | .fieldDiePowerUp => Sys2Proof.Machine.execFieldDiePowerUp s
  | .hobHealthTimeout => Sys2Proof.Machine.execHobHealthTimeout s
  | .modulePresenceSample f absent => Sys2Proof.Machine.execModulePresenceSample f absent s
  | .moduleStartupRead f bytes => Sys2Proof.Machine.execModuleStartupRead f bytes s
  | .moduleLosChange f los => Sys2Proof.Machine.execModuleLosChange f los s
  | .moduleTxFault f => Sys2Proof.Machine.execModuleTxFault f s
  | .moduleDiagPoll f bytes => Sys2Proof.Machine.execModuleDiagPoll f bytes s
  | .portEnableWrite w f v => Sys2Proof.Machine.execPortEnableWrite w f v s
  | .portSettingWrite w f which v => Sys2Proof.Machine.execPortSettingWrite w f which v s
  | .versionRangeWrite w max v => Sys2Proof.Machine.execVersionRangeWrite w max v s
  | .signalDetected f => Sys2Proof.Machine.execSignalDetected f s
  | .signalLost f => Sys2Proof.Machine.execSignalLost f s
  | .blockLock f => Sys2Proof.Machine.execBlockLock f s
  | .modeAttemptExpiry f => Sys2Proof.Machine.execModeAttemptExpiry f s
  | .linkHelloSend f => Sys2Proof.Machine.execLinkHelloSend f s
  | .linkHelloReceived f hello => Sys2Proof.Machine.execLinkHelloReceived f hello s
  | .helloTimeout f => Sys2Proof.Machine.execHelloTimeout f s
  | .keepaliveTimeout f => Sys2Proof.Machine.execKeepaliveTimeout f s
  | .holdoffExpiry f => Sys2Proof.Machine.execHoldoffExpiry f s
  | .frameHeaderReceived f rx => Sys2Proof.Machine.execFrameHeaderReceived f rx s
  | .frameEndReceived f rx => Sys2Proof.Machine.execFrameEndReceived f rx s
  | .dupEntryAgeExpiry station => Sys2Proof.Machine.execDupEntryAgeExpiry station s
  | .frameOriginate fr => Sys2Proof.Machine.execFrameOriginate fr s
  | .origCapRelease => Sys2Proof.Machine.execOrigCapRelease s
  | .egressFrameDone f => Sys2Proof.Machine.execEgressFrameDone f s
  | .copperVote what => Sys2Proof.Machine.execCopperVote what s
  | .copperSelftestDone passed => Sys2Proof.Machine.execCopperSelftestDone passed s
  | .bypCommandWrite w v => Sys2Proof.Machine.execBypCommandWrite w v s
  | .bypCyclesWrite w pin v => Sys2Proof.Machine.execBypCyclesWrite w pin v s
  | .ratedCyclesWrite w warn v => Sys2Proof.Machine.execRatedCyclesWrite w warn v s
  | .settleTimeExpiry => Sys2Proof.Machine.execSettleTimeExpiry s
  | .creditReturnTimeout => Sys2Proof.Machine.execCreditReturnTimeout s
  | .creditReceived fr => Sys2Proof.Machine.execCreditReceived fr s
  | .creditStallTimeout => Sys2Proof.Machine.execCreditStallTimeout s
  | .linkCounterClearPort w v => Sys2Proof.Machine.execLinkCounterClearPort w v s
  | .linkCounterClearGlobal w v => Sys2Proof.Machine.execLinkCounterClearGlobal w v s
  | .discRoundStart => Sys2Proof.Machine.execDiscRoundStart s
  | .assignAbsenceTimeout => Sys2Proof.Machine.execAssignAbsenceTimeout s
  | .electReceived f fr => Sys2Proof.Machine.execElectReceived f fr s
  | .rootQuietExpiry => Sys2Proof.Machine.execRootQuietExpiry s
  | .rollReceived f fr => Sys2Proof.Machine.execRollReceived f fr s
  | .rollReturn f fr pins => Sys2Proof.Machine.execRollReturn f fr pins s
  | .assignReceived f fr => Sys2Proof.Machine.execAssignReceived f fr s
  | .restartReceived f fr => Sys2Proof.Machine.execRestartReceived f fr s
  | .restartTimeout => Sys2Proof.Machine.execRestartTimeout s
  | .assignReturn f fr => Sys2Proof.Machine.execAssignReturn f fr s
  | .lapReturn f fr => Sys2Proof.Machine.execLapReturn f fr s
  | .announceReceived f fr => Sys2Proof.Machine.execAnnounceReceived f fr s
  | .rateChangeDown => Sys2Proof.Machine.execRateChangeDown s
  | .sweepTimer => Sys2Proof.Machine.execSweepTimer s
  | .ringOpenTimeout => Sys2Proof.Machine.execRingOpenTimeout s
  | .couplerAdvertSend => Sys2Proof.Machine.execCouplerAdvertSend s
  | .couplerAdvertReceived f fr => Sys2Proof.Machine.execCouplerAdvertReceived f fr s
  | .turnBoundary => Sys2Proof.Machine.execTurnBoundary s
  | .publishSlot => Sys2Proof.Machine.execPublishSlot s
  | .mapRebuildTimeout => Sys2Proof.Machine.execMapRebuildTimeout s
  | .imageFrameReceived f fr tag => Sys2Proof.Machine.execImageFrameReceived f fr tag s
  | .imageWriteReceived f fr tag => Sys2Proof.Machine.execImageWriteReceived f fr tag s
  | .applyWake => Sys2Proof.Machine.execApplyWake s
  | .applyInstant => Sys2Proof.Machine.execApplyInstant s
  | .snapshotComplete => Sys2Proof.Machine.execSnapshotComplete s
  | .bar2Write => Sys2Proof.Machine.execBar2Write s
  | .importRequestSend => Sys2Proof.Machine.execImportRequestSend s
  | .importRequestReceived f fr => Sys2Proof.Machine.execImportRequestReceived f fr s
  | .importGrantReceived f fr => Sys2Proof.Machine.execImportGrantReceived f fr s
  | .forceWord w => Sys2Proof.Machine.execForceWord w s
  | .forceRelease w => Sys2Proof.Machine.execForceRelease w s
  | .forceReleaseAll w => Sys2Proof.Machine.execForceReleaseAll w s
  | .candidateSend => Sys2Proof.Machine.execCandidateSend s
  | .candidateReceived f fr => Sys2Proof.Machine.execCandidateReceived f fr s
  | .candidateExpiry => Sys2Proof.Machine.execCandidateExpiry s
  | .syncSend => Sys2Proof.Machine.execSyncSend s
  | .syncReceived f fr rx => Sys2Proof.Machine.execSyncReceived f fr rx s
  | .syncTimeout => Sys2Proof.Machine.execSyncTimeout s
  | .pdelayReqSend f => Sys2Proof.Machine.execPdelayReqSend f s
  | .pdelayReqReceived f fr rx => Sys2Proof.Machine.execPdelayReqReceived f fr rx s
  | .pdelayRespReceived f fr rx => Sys2Proof.Machine.execPdelayRespReceived f fr rx s
  | .pdelayTimeout f => Sys2Proof.Machine.execPdelayTimeout f s
  | .stepAcceptWrite w v => Sys2Proof.Machine.execStepAcceptWrite w v s
  | .setTimeWrite w v => Sys2Proof.Machine.execSetTimeWrite w v s
  | .couplerTimeSend => Sys2Proof.Machine.execCouplerTimeSend s
  | .ptpMessageReceived e msg => Sys2Proof.Machine.execPtpMessageReceived e msg s
  | .armRecordWrite w u record => Sys2Proof.Machine.execArmRecordWrite w u record s
  | .timerDisarm w u v => Sys2Proof.Machine.execTimerDisarm w u v s
  | .timerPrewake u => Sys2Proof.Machine.execTimerPrewake u s
  | .timerInstant u => Sys2Proof.Machine.execTimerInstant u s
  | .pulseEnd u => Sys2Proof.Machine.execPulseEnd u s
  | .pxPinEdge x rising => Sys2Proof.Machine.execPxPinEdge x rising s
  | .captureFlush w n v => Sys2Proof.Machine.execCaptureFlush w n v s
  | .queueProducerWrite n q tag data => Sys2Proof.Machine.execQueueProducerWrite n q tag data s
  | .lossMarkerWrite n q => Sys2Proof.Machine.execLossMarkerWrite n q s
  | .queueTagRead n q pointerFault => Sys2Proof.Machine.execQueueTagRead n q pointerFault s
  | .queueDataWrite n q hi v => Sys2Proof.Machine.execQueueDataWrite n q hi v s
  | .queueTagWrite n q tag => Sys2Proof.Machine.execQueueTagWrite n q tag s
  | .queueDataLoPop n q => Sys2Proof.Machine.execQueueDataLoPop n q s
  | .queueFlushCommand w n q v => Sys2Proof.Machine.execQueueFlushCommand w n q v s
  | .queueFlushComplete n q => Sys2Proof.Machine.execQueueFlushComplete n q s
  | .queueSkipCommand w n q v => Sys2Proof.Machine.execQueueSkipCommand w n q v s
  | .queueConfigWrite w n q v => Sys2Proof.Machine.execQueueConfigWrite w n q v s
  | .dlModeWrite w ix v => Sys2Proof.Machine.execDlModeWrite w ix v s
  | .dlRawCrossing ix level => Sys2Proof.Machine.execDlRawCrossing ix level s
  | .debounceComplete ix => Sys2Proof.Machine.execDebounceComplete ix s
  | .inDelayMeasure ix ps => Sys2Proof.Machine.execInDelayMeasure ix ps s
  | .dlCounterEdge ix rising => Sys2Proof.Machine.execDlCounterEdge ix rising s
  | .dlLimitTrip ix => Sys2Proof.Machine.execDlLimitTrip ix s
  | .dlThermalTrip ix => Sys2Proof.Machine.execDlThermalTrip ix s
  | .dlPanShed n currents => Sys2Proof.Machine.execDlPanShed n currents s
  | .dlRetryBackoffExpiry ix => Sys2Proof.Machine.execDlRetryBackoffExpiry ix s
  | .dlRetryCountReset ix => Sys2Proof.Machine.execDlRetryCountReset ix s
  | .dlClear w ix v => Sys2Proof.Machine.execDlClear w ix v s
  | .dlWireTest ix high => Sys2Proof.Machine.execDlWireTest ix high s
  | .dlOpenOnDetect ix => Sys2Proof.Machine.execDlOpenOnDetect ix s
  | .dlShortVfieldDetect ix => Sys2Proof.Machine.execDlShortVfieldDetect ix s
  | .dlStatusClear ix bit => Sys2Proof.Machine.execDlStatusClear ix bit s
  | .dlCommandWrite w ix v => Sys2Proof.Machine.execDlCommandWrite w ix v s
  | .outPackedWrite w n v => Sys2Proof.Machine.execOutPackedWrite w n v s
  | .canEnableWrite w c v => Sys2Proof.Machine.execCanEnableWrite w c v s
  | .canFrameReceived c ago fr => Sys2Proof.Machine.execCanFrameReceived c ago fr s
  | .mbCfgWrite w c m v => Sys2Proof.Machine.execMbCfgWrite w c m v s
  | .mbHoldWrite w c v => Sys2Proof.Machine.execMbHoldWrite w c v s
  | .mbDataRead p c m => Sys2Proof.Machine.execMbDataRead p c m s
  | .canTxAttemptStart c => Sys2Proof.Machine.execCanTxAttemptStart c s
  | .canAttemptEnd c outcome => Sys2Proof.Machine.execCanAttemptEnd c outcome s
  | .canRecoveryStart w c => Sys2Proof.Machine.execCanRecoveryStart w c s
  | .canRecoveryComplete c => Sys2Proof.Machine.execCanRecoveryComplete c s
  | .canAloneRelease w c => Sys2Proof.Machine.execCanAloneRelease w c s
  | .canDominantTimeout c => Sys2Proof.Machine.execCanDominantTimeout c s
  | .canBusJoin c => Sys2Proof.Machine.execCanBusJoin c s
  | .rs485EnableWrite w c v => Sys2Proof.Machine.execRs485EnableWrite w c v s
  | .rs485CharReceived c ch => Sys2Proof.Machine.execRs485CharReceived c ch s
  | .rs485GapExpiry c => Sys2Proof.Machine.execRs485GapExpiry c s
  | .rs485BreakReceived c ago => Sys2Proof.Machine.execRs485BreakReceived c ago s
  | .rs485TxStart c => Sys2Proof.Machine.execRs485TxStart c s
  | .rs485TxEnd c => Sys2Proof.Machine.execRs485TxEnd c s
  | .rs485DriverFault c thermal => Sys2Proof.Machine.execRs485DriverFault c thermal s
  | .rs485ReplayStart c => Sys2Proof.Machine.execRs485ReplayStart c s
  | .rs485ActiveJoin c => Sys2Proof.Machine.execRs485ActiveJoin c s
  | .iolModeWrite w p v => Sys2Proof.Machine.execIolModeWrite w p v s
  | .iolWakeSlotGrant => Sys2Proof.Machine.execIolWakeSlotGrant s
  | .iolStartupComplete p dev => Sys2Proof.Machine.execIolStartupComplete p dev s
  | .iolMSequenceStart p => Sys2Proof.Machine.execIolMSequenceStart p s
  | .iolMSequenceReply p pd valid checksumOk => Sys2Proof.Machine.execIolMSequenceReply p pd valid checksumOk s
  | .isduRequestWrite w p data => Sys2Proof.Machine.execIsduRequestWrite w p data s
  | .isduQueueRequest p => Sys2Proof.Machine.execIsduQueueRequest p s
  | .isduComplete p error data => Sys2Proof.Machine.execIsduComplete p error data s
  | .isduTimeout p => Sys2Proof.Machine.execIsduTimeout p s
  | .iolEventRead p qualifier code => Sys2Proof.Machine.execIolEventRead p qualifier code s
  | .iolEventBacklogRelease p => Sys2Proof.Machine.execIolEventBacklogRelease p s
  | .portCmdRestart w p => Sys2Proof.Machine.execPortCmdRestart w p s
  | .portCmdBackup w p => Sys2Proof.Machine.execPortCmdBackup w p s
  | .portCmdClearDs w p => Sys2Proof.Machine.execPortCmdClearDs w p s
  | .dsUploadRequest p => Sys2Proof.Machine.execDsUploadRequest p s
  | .dsCommit p data => Sys2Proof.Machine.execDsCommit p data s
  | .lpFastTrip p => Sys2Proof.Machine.execLpFastTrip p s
  | .lpSlowTrip p => Sys2Proof.Machine.execLpSlowTrip p s
  | .lpThermalTrip p => Sys2Proof.Machine.execLpThermalTrip p s
  | .lpRampComplete p => Sys2Proof.Machine.execLpRampComplete p s
  | .lpBackoffExpiry p => Sys2Proof.Machine.execLpBackoffExpiry p s
  | .lpClear w p v => Sys2Proof.Machine.execLpClear w p v s
  | .whiskStart wr w => Sys2Proof.Machine.execWhiskStart wr w s
  | .whiskHalt wr w => Sys2Proof.Machine.execWhiskHalt wr w s
  | .whiskResume wr w => Sys2Proof.Machine.execWhiskResume wr w s
  | .whiskRestart wr w => Sys2Proof.Machine.execWhiskRestart wr w s
  | .whiskStop wr w => Sys2Proof.Machine.execWhiskStop wr w s
  | .whiskStepEnter w read => Sys2Proof.Machine.execWhiskStepEnter w read s
  | .whiskDwellEnd w read => Sys2Proof.Machine.execWhiskDwellEnd w read s
  | .whiskStallClear w => Sys2Proof.Machine.execWhiskStallClear w s
  | .whiskStallLimit w => Sys2Proof.Machine.execWhiskStallLimit w s
  | .whiskStoreMove w send => Sys2Proof.Machine.execWhiskStoreMove w send s
  | .switchFrameIngress ix => Sys2Proof.Machine.execSwitchFrameIngress ix s
  | .spillPageTimeout p c => Sys2Proof.Machine.execSpillPageTimeout p c s
  | .spillPageReadback p c fixed bad => Sys2Proof.Machine.execSpillPageReadback p c fixed bad s
  | .egressFrameStart p fixed bad => Sys2Proof.Machine.execEgressFrameStart p fixed bad s
  | .portDownFlush p => Sys2Proof.Machine.execPortDownFlush p s
  | .portFlushComplete p => Sys2Proof.Machine.execPortFlushComplete p s
  | .meterWrite w m v => Sys2Proof.Machine.execMeterWrite w m v s
  | .gateCommit w g v => Sys2Proof.Machine.execGateCommit w g v s
  | .gateEntryChange g => Sys2Proof.Machine.execGateEntryChange g s
  | .gateListTakeover g => Sys2Proof.Machine.execGateListTakeover g s
  | .samplerEnableWrite w ix v => Sys2Proof.Machine.execSamplerEnableWrite w ix v s
  | .switchClearTotals w => Sys2Proof.Machine.execSwitchClearTotals w s
  | .switchClearPorts w => Sys2Proof.Machine.execSwitchClearPorts w s
  | .switchClearMeters w => Sys2Proof.Machine.execSwitchClearMeters w s
  | .switchClearSamplers w => Sys2Proof.Machine.execSwitchClearSamplers w s
  | .switchClearGates w => Sys2Proof.Machine.execSwitchClearGates w s
  | .edgeLinkChange e linked half rate => Sys2Proof.Machine.execEdgeLinkChange e linked half rate s
  | .edgeSyncLoss e => Sys2Proof.Machine.execEdgeSyncLoss e s
  | .mdioRead w e phy => Sys2Proof.Machine.execMdioRead w e phy s
  | .mdioWrite w e v => Sys2Proof.Machine.execMdioWrite w e v s
  | .tunnelConfigWrite w t v => Sys2Proof.Machine.execTunnelConfigWrite w t v s
  | .tunnelOpenSend t => Sys2Proof.Machine.execTunnelOpenSend t s
  | .tunnelOpenReceived fr => Sys2Proof.Machine.execTunnelOpenReceived fr s
  | .tunnelAcceptReceived fr => Sys2Proof.Machine.execTunnelAcceptReceived fr s
  | .tunnelRefuseReceived fr => Sys2Proof.Machine.execTunnelRefuseReceived fr s
  | .tunnelDataReceived fr => Sys2Proof.Machine.execTunnelDataReceived fr s
  | .tunnelCloseReceived fr => Sys2Proof.Machine.execTunnelCloseReceived fr s
  | .tunnelKeepaliveSend t => Sys2Proof.Machine.execTunnelKeepaliveSend t s
  | .tunnelLostTimeout t => Sys2Proof.Machine.execTunnelLostTimeout t s
  | .tunnelCreditReport t => Sys2Proof.Machine.execTunnelCreditReport t s
  | .tunnelReorderTimeout t => Sys2Proof.Machine.execTunnelReorderTimeout t s
  | .ladlePacketTake t body => Sys2Proof.Machine.execLadlePacketTake t body s
  | .tunnelDataSend t => Sys2Proof.Machine.execTunnelDataSend t s
  | .tunnelSinkDeliver t => Sys2Proof.Machine.execTunnelSinkDeliver t s
  | .sidebandPoll t edges levels => Sys2Proof.Machine.execSidebandPoll t edges levels s
  | .sidebandReceived fr => Sys2Proof.Machine.execSidebandReceived fr s
  | .routeClassify n q => Sys2Proof.Machine.execRouteClassify n q s
  | .routeFrameReceived fr => Sys2Proof.Machine.execRouteFrameReceived fr s
  | .routeEntryWrite w r v => Sys2Proof.Machine.execRouteEntryWrite w r v s
  | .generationRetire => Sys2Proof.Machine.execGenerationRetire s
  | .dictRead req => Sys2Proof.Machine.execDictRead req s
  | .dictWrite req => Sys2Proof.Machine.execDictWrite req s
  | .dictReadBlock req => Sys2Proof.Machine.execDictReadBlock req s
  | .dictWriteBlock req => Sys2Proof.Machine.execDictWriteBlock req s
  | .dictSegment p tid seg last crc data => Sys2Proof.Machine.execDictSegment p tid seg last crc data s
  | .dictAck p tid next => Sys2Proof.Machine.execDictAck p tid next s
  | .dictCancel p tid => Sys2Proof.Machine.execDictCancel p tid s
  | .dictOutOfOrderAck p tid => Sys2Proof.Machine.execDictOutOfOrderAck p tid s
  | .dictResendTimeout p tid => Sys2Proof.Machine.execDictResendTimeout p tid s
  | .stateRequestPreop w => Sys2Proof.Machine.execStateRequestPreop w s
  | .stateRequestOperate w => Sys2Proof.Machine.execStateRequestOperate w s
  | .stateRequestSafe w => Sys2Proof.Machine.execStateRequestSafe w s
  | .stateRequestOpenMaint w => Sys2Proof.Machine.execStateRequestOpenMaint w s
  | .stateRequestCloseMaint w => Sys2Proof.Machine.execStateRequestCloseMaint w s
  | .stateRequestReset w => Sys2Proof.Machine.execStateRequestReset w s
  | .deferredReset => Sys2Proof.Machine.execDeferredReset s
  | .autoOperateEntry => Sys2Proof.Machine.execAutoOperateEntry s
  | .maintIdleExpiry => Sys2Proof.Machine.execMaintIdleExpiry s
  | .save w v => Sys2Proof.Machine.execSave w v s
  | .saveComplete => Sys2Proof.Machine.execSaveComplete s
  | .restoreDefaults w v => Sys2Proof.Machine.execRestoreDefaults w v s
  | .mailboxGo v buffer => Sys2Proof.Machine.execMailboxGo v buffer s
  | .mailboxResponse f fr => Sys2Proof.Machine.execMailboxResponse f fr s
  | .mailboxTimeout => Sys2Proof.Machine.execMailboxTimeout s
  | .mailboxDoneClear => Sys2Proof.Machine.execMailboxDoneClear s
  | .snapshotGo v => Sys2Proof.Machine.execSnapshotGo v s
  | .ftimeLoRead => Sys2Proof.Machine.execFtimeLoRead s
  | .lmcLoRead => Sys2Proof.Machine.execLmcLoRead s
  | .watchdogKick => Sys2Proof.Machine.execWatchdogKick s
  | .watchdogExpiry => Sys2Proof.Machine.execWatchdogExpiry s
  | .ringEnableWrite r v => Sys2Proof.Machine.execRingEnableWrite r v s
  | .ringTailWrite r v => Sys2Proof.Machine.execRingTailWrite r v s
  | .ringSlotWrite r => Sys2Proof.Machine.execRingSlotWrite r s
  | .msixModerationTimeout r => Sys2Proof.Machine.execMsixModerationTimeout r s
  | .iwStageWrite v => Sys2Proof.Machine.execIwStageWrite v s
  | .iwSend v => Sys2Proof.Machine.execIwSend v s
  | .iwApplyWindowRelease => Sys2Proof.Machine.execIwApplyWindowRelease s
  | .txTailWrite v => Sys2Proof.Machine.execTxTailWrite v s
  | .txDescriptorTake => Sys2Proof.Machine.execTxDescriptorTake s
  | .pcieLinkDown => Sys2Proof.Machine.execPcieLinkDown s
  | .hostReadyWrite v => Sys2Proof.Machine.execHostReadyWrite v s
  | .eventRaise n data => Sys2Proof.Machine.execEventRaise n data s
  | .sourceCfgWrite w n v => Sys2Proof.Machine.execSourceCfgWrite w n v s
  | .claimRead t => Sys2Proof.Machine.execClaimRead t s
  | .completeWrite t v => Sys2Proof.Machine.execCompleteWrite t v s
  | .remoteCompleteWrite w v => Sys2Proof.Machine.execRemoteCompleteWrite w v s
  | .reofferTimeout n => Sys2Proof.Machine.execReofferTimeout n s
  | .raiseWrite w v => Sys2Proof.Machine.execRaiseWrite w v s
  | .sidebandAckWrite w k v => Sys2Proof.Machine.execSidebandAckWrite w k v s
  | .fenceIssueLocal w ticket => Sys2Proof.Machine.execFenceIssueLocal w ticket s
  | .fenceIssueImage w ticket => Sys2Proof.Machine.execFenceIssueImage w ticket s
  | .fenceIssueTable w ticket => Sys2Proof.Machine.execFenceIssueTable w ticket s
  | .fenceIssueRing w ticket => Sys2Proof.Machine.execFenceIssueRing w ticket s
  | .fenceLocalDone ix => Sys2Proof.Machine.execFenceLocalDone ix s
  | .fenceImageDone ix => Sys2Proof.Machine.execFenceImageDone ix s
  | .fenceTableDone ix => Sys2Proof.Machine.execFenceTableDone ix s
  | .fenceRingReturn ticket => Sys2Proof.Machine.execFenceRingReturn ticket s
  | .fenceTimeout ix => Sys2Proof.Machine.execFenceTimeout ix s
  | .claimRoundStart => Sys2Proof.Machine.execClaimRoundStart s
  | .claimStartEdge => Sys2Proof.Machine.execClaimStartEdge s
  | .claimRoundEnd wire => Sys2Proof.Machine.execClaimRoundEnd wire s
  | .claimRow3Entry => Sys2Proof.Machine.execClaimRow3Entry s
  | .claimHoldExpiry => Sys2Proof.Machine.execClaimHoldExpiry s
  | .claimBusTimeout => Sys2Proof.Machine.execClaimBusTimeout s
  | .hobHeartbeatWrite => Sys2Proof.Machine.execHobHeartbeatWrite s
  | .twinHeartbeatSend => Sys2Proof.Machine.execTwinHeartbeatSend s
  | .twinHeartbeatReceived fr tag => Sys2Proof.Machine.execTwinHeartbeatReceived fr tag s
  | .pathSilentTimeout pathB => Sys2Proof.Machine.execPathSilentTimeout pathB s
  | .selftestItemRun item found => Sys2Proof.Machine.execSelftestItemRun item found s
  | .seizeTimeout => Sys2Proof.Machine.execSeizeTimeout s
  | .syncRequestReceived fr tag => Sys2Proof.Machine.execSyncRequestReceived fr tag s
  | .syncBulkReceived fr tag => Sys2Proof.Machine.execSyncBulkReceived fr tag s
  | .syncWriteReceived fr tag => Sys2Proof.Machine.execSyncWriteReceived fr tag s
  | .syncAckReceived fr tag => Sys2Proof.Machine.execSyncAckReceived fr tag s
  | .handoverRequestWrite w v => Sys2Proof.Machine.execHandoverRequestWrite w v s
  | .handoverProposeReceived fr tag => Sys2Proof.Machine.execHandoverProposeReceived fr tag s
  | .handoverAgreeReceived fr tag => Sys2Proof.Machine.execHandoverAgreeReceived fr tag s
  | .handoverBoundary => Sys2Proof.Machine.execHandoverBoundary s
  | .handoverAbandon => Sys2Proof.Machine.execHandoverAbandon s
  | .revertHoldoffExpiry => Sys2Proof.Machine.execRevertHoldoffExpiry s
  | .faultOccurrence n item detail live => Sys2Proof.Machine.execFaultOccurrence n item detail live s
  | .faultLiveFall n => Sys2Proof.Machine.execFaultLiveFall n s
  | .faultQuietExpiry n => Sys2Proof.Machine.execFaultQuietExpiry n s
  | .faultClear w n => Sys2Proof.Machine.execFaultClear w n s
  | .faultForce w n => Sys2Proof.Machine.execFaultForce w n s
  | .faultLatchReset w n => Sys2Proof.Machine.execFaultLatchReset w n s
  | .stormEnd => Sys2Proof.Machine.execStormEnd s
  | .crucibleCommit => Sys2Proof.Machine.execCrucibleCommit s
  | .crucibleTriggerWrite w v => Sys2Proof.Machine.execCrucibleTriggerWrite w v s
  | .policyEvaluation measured => Sys2Proof.Machine.execPolicyEvaluation measured s
  | .ruleWrite w r v => Sys2Proof.Machine.execRuleWrite w r v s
  | .perturbationStart w ix v => Sys2Proof.Machine.execPerturbationStart w ix v s
  | .perturbationStop w ix v => Sys2Proof.Machine.execPerturbationStop w ix v s
  | .perturbationExpiry ix => Sys2Proof.Machine.execPerturbationExpiry ix s
  | .perturbationStopAll w v => Sys2Proof.Machine.execPerturbationStopAll w v s
  | .coreClockGate => Sys2Proof.Machine.execCoreClockGate s
  | .corePowerGate => Sys2Proof.Machine.execCorePowerGate s
  | .coreWake => Sys2Proof.Machine.execCoreWake s
  | .coreEligibilityWake => Sys2Proof.Machine.execCoreEligibilityWake s
  | .cpWake pair => Sys2Proof.Machine.execCpWake pair s
  | .panDozeEntry n => Sys2Proof.Machine.execPanDozeEntry n s
  | .panDarkEntry n => Sys2Proof.Machine.execPanDarkEntry n s
  | .panWake n => Sys2Proof.Machine.execPanWake n s
  | .panWakeComplete n => Sys2Proof.Machine.execPanWakeComplete n s
  | .vfieldWarning mv => Sys2Proof.Machine.execVfieldWarning mv s
  | .vfieldWarningEnd => Sys2Proof.Machine.execVfieldWarningEnd s
  | .vfieldUndervoltage mv => Sys2Proof.Machine.execVfieldUndervoltage mv s
  | .vfieldUndervoltageEnd => Sys2Proof.Machine.execVfieldUndervoltageEnd s
  | .feedOutOfRange feedB mv => Sys2Proof.Machine.execFeedOutOfRange feedB mv s
  | .feedBackInRange feedB => Sys2Proof.Machine.execFeedBackInRange feedB s
  | .railCheck outside => Sys2Proof.Machine.execRailCheck outside s
  | .temperatureCheck logic field dram => Sys2Proof.Machine.execTemperatureCheck logic field dram s
  | .branchFastTrip b => Sys2Proof.Machine.execBranchFastTrip b s
  | .branchI2tTrip b => Sys2Proof.Machine.execBranchI2tTrip b s
  | .branchSoaTrip b => Sys2Proof.Machine.execBranchSoaTrip b s
  | .branchGateTrip b => Sys2Proof.Machine.execBranchGateTrip b s
  | .branchPeerTrip b => Sys2Proof.Machine.execBranchPeerTrip b s
  | .branchRampComplete b => Sys2Proof.Machine.execBranchRampComplete b s
  | .branchBackoffExpiry b => Sys2Proof.Machine.execBranchBackoffExpiry b s
  | .branchRetryReset b => Sys2Proof.Machine.execBranchRetryReset b s
  | .branchClear w b v => Sys2Proof.Machine.execBranchClear w b v s
  | .branchEnableWrite w b v => Sys2Proof.Machine.execBranchEnableWrite w b v s
  | .branchCommandWrite w b v => Sys2Proof.Machine.execBranchCommandWrite w b v s
  | .transitionForge w v good => Sys2Proof.Machine.execTransitionForge w v good s
  | .transitionTake w v good => Sys2Proof.Machine.execTransitionTake w v good s
  | .transitionTransfer w v good => Sys2Proof.Machine.execTransitionTransfer w v good s
  | .transitionReturn w v good => Sys2Proof.Machine.execTransitionReturn w v good s
  | .transitionScrap w v good => Sys2Proof.Machine.execTransitionScrap w v good s
  | .rootTakeover => Sys2Proof.Machine.execRootTakeover s
  | .keyLoad intact => Sys2Proof.Machine.execKeyLoad intact s
  | .tagFloorAdvance => Sys2Proof.Machine.execTagFloorAdvance s
  | .tagWaitRelease => Sys2Proof.Machine.execTagWaitRelease s
  | .epochCommit w v => Sys2Proof.Machine.execEpochCommit w v s
  | .epochRollover => Sys2Proof.Machine.execEpochRollover s
  | .keyEpochAge => Sys2Proof.Machine.execKeyEpochAge s
  | .epochAgeZeroise => Sys2Proof.Machine.execEpochAgeZeroise s
  | .zeroiseWrite w v => Sys2Proof.Machine.execZeroiseWrite w v s
  | .keyLossSafe => Sys2Proof.Machine.execKeyLossSafe s
  | .attestRequest w v => Sys2Proof.Machine.execAttestRequest w v s
  | .attestComplete => Sys2Proof.Machine.execAttestComplete s
  | .countersignKeyWrite w v good => Sys2Proof.Machine.execCountersignKeyWrite w v good s
  | .bootLoaderStart loaderGood imageGood torn => Sys2Proof.Machine.execBootLoaderStart loaderGood imageGood torn s
  | .firmwareStart => Sys2Proof.Machine.execFirmwareStart s
  | .updateBegin w => Sys2Proof.Machine.execUpdateBegin w s
  | .stagingBlockWrite w off data => Sys2Proof.Machine.execStagingBlockWrite w off data s
  | .updateWrite w digestGood => Sys2Proof.Machine.execUpdateWrite w digestGood s
  | .sectorWritten => Sys2Proof.Machine.execSectorWritten s
  | .updateConfirm w => Sys2Proof.Machine.execUpdateConfirm w s
  | .updateAbort w => Sys2Proof.Machine.execUpdateAbort w s
  | .trialWindowExpiry => Sys2Proof.Machine.execTrialWindowExpiry s
  | .enterRecoveryWrite w v => Sys2Proof.Machine.execEnterRecoveryWrite w v s
  | .recoveryImageBlock w off data => Sys2Proof.Machine.execRecoveryImageBlock w off data s
  | .recoveryBlockWritten => Sys2Proof.Machine.execRecoveryBlockWritten s
  | .recoveryReboot w => Sys2Proof.Machine.execRecoveryReboot w s
  | .uartFrameReceived bytes => Sys2Proof.Machine.execUartFrameReceived bytes s
  | .jtagExtest => Sys2Proof.Machine.execJtagExtest s
  | .jtagIdcode => Sys2Proof.Machine.execJtagIdcode s
  | .jtagSamplePreload => Sys2Proof.Machine.execJtagSamplePreload s
  | .jtagClamp => Sys2Proof.Machine.execJtagClamp s
  | .jtagHighz => Sys2Proof.Machine.execJtagHighz s
  | .jtagCrucibleAddr v => Sys2Proof.Machine.execJtagCrucibleAddr v s
  | .jtagCrucibleData => Sys2Proof.Machine.execJtagCrucibleData s
  | .jtagBypass => Sys2Proof.Machine.execJtagBypass s
  | .pcieLinkUp speed width busMaster => Sys2Proof.Machine.execPcieLinkUp speed width busMaster s
  | .sgmiiSyncRegained e => Sys2Proof.Machine.execSgmiiSyncRegained e s
  | .holdoverLimitExpiry => Sys2Proof.Machine.execHoldoverLimitExpiry s
  | .candidateListenExpiry => Sys2Proof.Machine.execCandidateListenExpiry s
  | .ptpMessageSend e kind => Sys2Proof.Machine.execPtpMessageSend e kind s
  | .ptpLockLost e => Sys2Proof.Machine.execPtpLockLost e s
  | .canReceiveError c add => Sys2Proof.Machine.execCanReceiveError c add s
  | .cqInputCrossing p level => Sys2Proof.Machine.execCqInputCrossing p level s
  | .cqCurrentLimit p => Sys2Proof.Machine.execCqCurrentLimit p s
  | .iolStartupDelayExpiry p => Sys2Proof.Machine.execIolStartupDelayExpiry p s
  | .iolReplyTimeout p => Sys2Proof.Machine.execIolReplyTimeout p s
  | .iolMSequenceWake p => Sys2Proof.Machine.execIolMSequenceWake p s
  | .samplingWake n => Sys2Proof.Machine.execSamplingWake n s
  | .stageCooled ix => Sys2Proof.Machine.execStageCooled ix s
  | .i2tHalfLevelReached b => Sys2Proof.Machine.execI2tHalfLevelReached b s
  | .dlSlotChangeRelease w slot => Sys2Proof.Machine.execDlSlotChangeRelease w slot s
  | .lockstepMismatch pair => Sys2Proof.Machine.execLockstepMismatch pair s
  | .dmaReadCompletion good data => Sys2Proof.Machine.execDmaReadCompletion good data s
  | .dmaCompletionTimeout => Sys2Proof.Machine.execDmaCompletionTimeout s
end Sys2Proof.Machine
end

