-- ==== Sys2Proof/Safety.lean ====
section
/-! DEFINITION. What a safe step and a safe run are: no command ends in a fault or a refusal. -/

namespace Sys2Proof.Machine

open Sys2Proof

/-- The outcome is a next state. -/
def Completes (o : Host.Outcome State Fault Refusal) : Prop := ∃ t, o = .next t

/-- `n` steps from `s` all complete. -/
def SafeFor : Nat → State → Prop
  | 0, _ => True
  | n + 1, s => ∃ t, step s = .next t ∧ SafeFor n t

/-- `c` completes in `s`, and the state it leaves has `P`. -/
def Gives (c : Instr) (s : State) (P : State → Prop) : Prop := ∃ t, exec c s = .next t ∧ P t

/-- Writer `w` may write `v` to the object or element `k` now (R7, R9, R11): no check of its path, role, mode or value
refuses it. -/
def Accepts (s : State) (w : Writer) (k v : Nat) : Prop := s.permit w k v = none ∧ rangeCheck k v = none

/-- Counters of what is sent, answered and signalled. -/
def trafficCounter (k : Nat) : Bool :=
  (k % 256 == 0x15 && decide (0x118 ≤ k / 256)) || (k % 256 == 4 && decide (0x804 ≤ k / 256) && decide (k / 256 ≤ 0x807)) ||
    [Key.COPPER_ORIG_CAP_HOLDS, Key.KEY_UNKEYED_DROPS, Key.KEY_TAG_WAITS, Key.TWC_SYNC_WRITES, Key.DICT_ABORTS,
      Key.EVT_RECORDS_LOST].contains k

/-- A state without what sending a frame, answering a writer or signalling an event touches: queues towards the links,
answers, event sources and records, interrupts, sequence numbers and the counters of these. -/
def State.silent (s : State) : State :=
  { s with
    tx := [], tie := {}, seqNext := 0, origTimes := [], origHeld := [], cnt := s.cnt.filter (fun c => !trafficCounter c.1),
    answers := [], sources := [], records := [], recordLoss := false, recordsIn := 0, deliveries := 0, msix := [],
    tagHeld := [], writeHeld := [], uartSent := [], hub := { s.hub with touched := 0 },
    dict := { s.dict with asked := [], kept := [] }, keys := { s.keys with ivTurn := 0, iv0 := 0, iv1 := 0, seq1 := 0 },
    twin := { s.twin with seq := 0, waits := [] }, disc := { s.disc with restartHeld := [] },
    cru := { s.cru with queue := [] } }

/-- `t` is `s` but for what sending, answering and signalling touch. -/
def Quiet (s t : State) : Prop := t.silent = s.silent

/-- Counters of traffic and of what a fault does. -/
def loudCounter (k : Nat) : Bool :=
  trafficCounter k || [Key.FLT_LOST_RECORDS, Key.CRU_NESTED_TRIGGERS, Key.HUB_STATE_CHANGES].contains k

/-- Registers a fault may write: the instant of a hand-over it proposes, and the state of a fabric port that PORT_OFF
stops. -/
def loudReg (k : Nat) : Bool := k == Key.TWST_HANDOVER_AT || (k % 256 == 6 && decide (0x110 ≤ k / 256) && decide (k / 256 ≤ 0x113))

/-- A state without what a fault's occurrence touches beside `silent`: the fault table, the Crucible, the hub's mode and the
outputs and Whisks it takes to SAFE, and a proposed hand-over. -/
def State.calm (s : State) : State :=
  { s.silent with
    faults := [], cru := {}, hub := {}, lines := [], pxs := [], whisks := [], field := { s.field with steadyAt := 0 },
    regs := s.regs.filter (fun c => !loudReg c.1), cnt := s.cnt.filter (fun c => !loudCounter c.1),
    twin := { s.twin with seq := 0, waits := [], proposed := none, agreed := false } }

/-- `t` is `s` but for what an occurrence of a fault, sending, answering and signalling touch. -/
def Calm (s t : State) : Prop := t.calm = s.calm

/-- Every table of the dictionary, every counter table and the window mirror are in their one canonical form. -/
def TablesOk (s : State) : Bool :=
  cellsWf objDefault s.regs && cellsWf (fun _ => 0) s.cnt && cellsWf (fun _ => 0) s.rejects &&
    cellsWf (fun _ => none) s.mirror

/-- The bounds of the hub's finite stores: 256 kept dictionary transactions (R355), 1,024 waiting event
records (R388), 64 turns of own publication history (R108); and canonical tables. -/
def Inv (s : State) : Prop :=
  TablesOk s = true ∧ s.dict.kept.length ≤ 256 ∧ s.records.length ≤ 1024 ∧ s.hist.length ≤ 64

/-- The parts of the state, one per field of `State`. -/
inductive Part where
  | run | clock | ftimeQ | straps | resetCause | regs | cnt | rejects | free | hub | answers | role | links | tx
  | ingress | sent | inbox | landing | seqNext | origTimes | origHeld | dups | tie | settleEnds | field | healthAt
  | sources | records | recordLoss | deliveries | msix | faults | cru | copper | assigned | disc | img | mirror | hist
  | time | timers | captures | queues | busReads | lines | pxs | cans | rss | rsSent | bridges | iols | whisks | sw
  | bar0 | host | dict | recordsIn | fences | fenceOrder | writeSentAt | writeHeld | peerReady | handInstant | twin
  | pertCount | pertEnds | rules | gaugeLog | gaugeIn | pans | fuses | power | tagHeld | keys | boot | uartSent | jtag
  | pending
  deriving DecidableEq, Repr

/-- The part is the same in both states. -/
def Part.same (p : Part) (s t : State) : Prop :=
  match p with
  | .run => t.run = s.run
  | .clock => t.clock = s.clock
  | .ftimeQ => t.ftimeQ = s.ftimeQ
  | .straps => t.straps = s.straps
  | .resetCause => t.resetCause = s.resetCause
  | .regs => t.regs = s.regs
  | .cnt => t.cnt = s.cnt
  | .rejects => t.rejects = s.rejects
  | .free => t.free = s.free
  | .hub => t.hub = s.hub
  | .answers => t.answers = s.answers
  | .role => t.role = s.role
  | .links => t.links = s.links
  | .tx => t.tx = s.tx
  | .ingress => t.ingress = s.ingress
  | .sent => t.sent = s.sent
  | .inbox => t.inbox = s.inbox
  | .landing => t.landing = s.landing
  | .seqNext => t.seqNext = s.seqNext
  | .origTimes => t.origTimes = s.origTimes
  | .origHeld => t.origHeld = s.origHeld
  | .dups => t.dups = s.dups
  | .tie => t.tie = s.tie
  | .settleEnds => t.settleEnds = s.settleEnds
  | .field => t.field = s.field
  | .healthAt => t.healthAt = s.healthAt
  | .sources => t.sources = s.sources
  | .records => t.records = s.records
  | .recordLoss => t.recordLoss = s.recordLoss
  | .deliveries => t.deliveries = s.deliveries
  | .msix => t.msix = s.msix
  | .faults => t.faults = s.faults
  | .cru => t.cru = s.cru
  | .copper => t.copper = s.copper
  | .assigned => t.assigned = s.assigned
  | .disc => t.disc = s.disc
  | .img => t.img = s.img
  | .mirror => t.mirror = s.mirror
  | .hist => t.hist = s.hist
  | .time => t.time = s.time
  | .timers => t.timers = s.timers
  | .captures => t.captures = s.captures
  | .queues => t.queues = s.queues
  | .busReads => t.busReads = s.busReads
  | .lines => t.lines = s.lines
  | .pxs => t.pxs = s.pxs
  | .cans => t.cans = s.cans
  | .rss => t.rss = s.rss
  | .rsSent => t.rsSent = s.rsSent
  | .bridges => t.bridges = s.bridges
  | .iols => t.iols = s.iols
  | .whisks => t.whisks = s.whisks
  | .sw => t.sw = s.sw
  | .bar0 => t.bar0 = s.bar0
  | .host => t.host = s.host
  | .dict => t.dict = s.dict
  | .recordsIn => t.recordsIn = s.recordsIn
  | .fences => t.fences = s.fences
  | .fenceOrder => t.fenceOrder = s.fenceOrder
  | .writeSentAt => t.writeSentAt = s.writeSentAt
  | .writeHeld => t.writeHeld = s.writeHeld
  | .peerReady => t.peerReady = s.peerReady
  | .handInstant => t.handInstant = s.handInstant
  | .twin => t.twin = s.twin
  | .pertCount => t.pertCount = s.pertCount
  | .pertEnds => t.pertEnds = s.pertEnds
  | .rules => t.rules = s.rules
  | .gaugeLog => t.gaugeLog = s.gaugeLog
  | .gaugeIn => t.gaugeIn = s.gaugeIn
  | .pans => t.pans = s.pans
  | .fuses => t.fuses = s.fuses
  | .power => t.power = s.power
  | .tagHeld => t.tagHeld = s.tagHeld
  | .keys => t.keys = s.keys
  | .boot => t.boot = s.boot
  | .uartSent => t.uartSent = s.uartSent
  | .jtag => t.jtag = s.jtag
  | .pending => t.pending = s.pending

/-- Only the listed parts differ. -/
def Only (l : List Part) (s t : State) : Prop := ∀ p : Part, p ∉ l → p.same s t

/-- What a frame sent by the hub itself may change: the queues of the ports and the counters and sequence numbers of frames. -/
def sending : List Part :=
  [.cnt, .tx, .seqNext, .origTimes, .origHeld, .disc, .writeHeld, .tagHeld, .keys]

/-- What an event may change: its source, its record, the interrupt or the frame that offers it. -/
def signalling : List Part :=
  [.cnt, .tx, .seqNext, .origTimes, .origHeld, .sources, .records, .recordLoss, .deliveries, .msix, .disc, .recordsIn,
  .writeHeld, .tagHeld, .keys]

/-- What the answer to a writer may change: the answer, its frame or interrupt, the copy sent to the twin, the count of refusals. -/
def answering : List Part :=
  [.cnt, .rejects, .hub, .answers, .tx, .seqNext, .origTimes, .origHeld, .tie, .disc, .dict, .writeHeld, .twin,
  .tagHeld, .keys, .uartSent]

/-- What an occurrence of a fault may change: the fault itself, what its reactions do to mode, outputs and Whisks, the event it
raises, the Crucible entry and a proposed hand-over. -/
def faulting : List Part :=
  [.regs, .cnt, .hub, .tx, .seqNext, .origTimes, .origHeld, .tie, .field, .sources, .records, .recordLoss,
  .deliveries, .msix, .faults, .cru, .disc, .lines, .pxs, .whisks, .recordsIn, .writeHeld, .twin, .tagHeld, .keys]

/-- The parts that each command may change, whatever the state: all others it leaves as they are. -/
def mayChange : Instr → List Part
  | .registerWrite _ _ _ =>
    faulting ++ answering ++ [.ftimeQ, .free, .links, .ingress, .inbox, .settleEnds, .img, .time, .timers, .captures,
    .queues, .cans, .rss, .iols, .sw, .bar0, .host, .fences, .fenceOrder, .pertCount, .pertEnds, .rules, .pans,
    .fuses, .power, .boot]
  | .vddAonApplied => [.run, .clock, .ftimeQ, .field, .healthAt, .lines, .iols, .twin, .fuses]
  | .resetAssert _ =>
    sending ++ [.run, .ftimeQ, .resetCause, .regs, .rejects, .hub, .links, .ingress, .inbox, .landing, .dups, .tie,
    .settleEnds, .field, .sources, .records, .recordLoss, .deliveries, .faults, .cru, .copper, .assigned, .img,
    .mirror, .hist, .time, .timers, .captures, .queues, .lines, .pxs, .cans, .rss, .bridges, .iols, .whisks, .sw,
    .bar0, .host, .dict, .recordsIn, .fences, .fenceOrder, .writeSentAt, .peerReady, .handInstant, .twin, .pertCount,
    .pertEnds, .rules, .gaugeLog, .gaugeIn, .pans, .fuses, .power, .boot]
  | .resetRelease _ => [.run, .straps, .regs, .free, .role, .cru, .time, .twin, .power, .keys, .boot]
  | .compatRequestWrite _ _ => answering ++ [.regs]
  | .fieldRefresh => [.regs, .field, .faults, .fuses]
  | .fieldFirstRefresh => [.regs, .field, .faults, .fuses]
  | .fieldRefreshLoss => faulting ++ [.clock, .ftimeQ, .time]
  | .fieldHoldExpiry => [.clock, .ftimeQ, .regs, .field, .time, .lines, .fuses]
  | .holdTimeMsWrite _ _ => answering ++ [.regs]
  | .fieldDieReset => signalling ++ [.regs, .field, .queues, .lines, .cans, .rss, .iols, .twin, .fuses, .power]
  | .fieldDiePowerUp => [.field, .lines]
  | .hobHealthTimeout => [.clock, .ftimeQ, .regs, .time, .twin]
  | .modulePresenceSample _ _ => faulting ++ [.links, .ingress]
  | .moduleStartupRead _ _ => faulting ++ [.clock, .ftimeQ, .links, .ingress, .time]
  | .moduleLosChange _ _ => faulting ++ [.links, .ingress]
  | .moduleTxFault _ => faulting ++ [.links, .ingress]
  | .moduleDiagPoll _ _ => faulting ++ [.clock, .ftimeQ, .links, .time]
  | .portEnableWrite _ _ _ => faulting ++ answering ++ [.links, .ingress, .settleEnds]
  | .portSettingWrite _ _ _ _ => faulting ++ answering ++ [.links, .ingress]
  | .versionRangeWrite _ _ _ => faulting ++ answering ++ [.links, .ingress]
  | .signalDetected _ => faulting ++ [.free, .links]
  | .signalLost _ => faulting ++ [.links, .ingress]
  | .blockLock _ => faulting ++ [.links]
  | .modeAttemptExpiry _ => [.clock, .ftimeQ, .free, .links, .time]
  | .linkHelloSend _ => [.clock, .ftimeQ, .cnt, .links, .tx, .tie, .time]
  | .linkHelloReceived _ _ => faulting ++ [.links, .ingress, .copper]
  | .helloTimeout _ => faulting ++ [.clock, .ftimeQ, .links, .time]
  | .keepaliveTimeout _ => faulting ++ [.clock, .ftimeQ, .links, .ingress, .time]
  | .holdoffExpiry _ => faulting ++ [.clock, .ftimeQ, .links, .time]
  | .frameHeaderReceived _ _ => [.cnt, .free, .tx, .ingress]
  | .frameEndReceived _ _ => [.cnt, .tx, .ingress, .inbox, .landing, .dups, .tie, .sw]
  | .dupEntryAgeExpiry _ => [.clock, .ftimeQ, .dups, .time]
  | .frameOriginate _ => sending ++ [.tie]
  | .origCapRelease => [.clock, .ftimeQ, .cnt, .tx, .origTimes, .origHeld, .time]
  | .egressFrameDone _ => [.cnt, .tx, .sent, .writeSentAt]
  | .copperVote _ => faulting ++ [.settleEnds, .copper]
  | .copperSelftestDone _ => faulting ++ [.settleEnds]
  | .bypCommandWrite _ _ => faulting ++ answering ++ [.settleEnds]
  | .bypCyclesWrite _ _ _ => faulting ++ answering
  | .ratedCyclesWrite _ _ _ => faulting ++ answering
  | .settleTimeExpiry => faulting ++ [.clock, .ftimeQ, .free, .links, .settleEnds, .time]
  | .creditReturnTimeout => [.clock, .ftimeQ, .cnt, .tx, .tie, .time]
  | .creditReceived _ => [.tx, .inbox, .tie]
  | .creditStallTimeout => [.clock, .ftimeQ, .cnt, .tie, .time]
  | .linkCounterClearPort _ _ => answering ++ [.cru]
  | .linkCounterClearGlobal _ _ => answering ++ [.cru]
  | .discRoundStart => [.regs, .cnt, .tx, .tie, .disc]
  | .assignAbsenceTimeout => [.clock, .ftimeQ, .regs, .cnt, .tx, .tie, .disc, .time]
  | .electReceived _ _ => [.regs, .cnt, .tx, .inbox, .tie, .disc]
  | .rootQuietExpiry => [.clock, .ftimeQ, .regs, .cnt, .tx, .tie, .disc, .time]
  | .rollReceived _ _ => [.regs, .cnt, .tx, .inbox, .tie, .disc]
  | .rollReturn _ _ _ => [.regs, .cnt, .tx, .inbox, .tie, .disc]
  | .assignReceived _ _ => faulting ++ [.inbox, .copper, .assigned, .img, .mirror, .sw]
  | .restartReceived _ _ => [.cnt, .tx, .inbox, .seqNext, .origTimes, .origHeld, .dups, .tie, .disc, .keys]
  | .restartTimeout => faulting ++ [.clock, .ftimeQ, .time]
  | .assignReturn _ _ => faulting ++ [.inbox, .copper, .assigned, .img, .mirror, .sw]
  | .lapReturn _ _ => [.inbox, .disc]
  | .announceReceived _ _ => faulting ++ [.inbox, .img, .mirror]
  | .rateChangeDown => faulting ++ [.clock, .ftimeQ, .links, .ingress, .time]
  | .sweepTimer => [.clock, .ftimeQ, .cnt, .tx, .tie, .disc, .time]
  | .ringOpenTimeout => faulting ++ [.clock, .ftimeQ, .time]
  | .couplerAdvertSend => faulting ++ [.clock, .ftimeQ, .time]
  | .couplerAdvertReceived _ _ => faulting ++ [.inbox]
  | .turnBoundary => faulting ++ [.clock, .ftimeQ, .free, .img, .time]
  | .publishSlot => sending ++ [.clock, .ftimeQ, .img, .mirror, .hist, .time]
  | .mapRebuildTimeout => faulting ++ [.clock, .ftimeQ, .img, .mirror, .time]
  | .imageFrameReceived _ _ _ => faulting ++ [.inbox, .img, .mirror]
  | .imageWriteReceived _ _ _ => faulting ++ [.inbox, .img, .host]
  | .applyWake => [.clock, .ftimeQ, .time, .pans]
  | .applyInstant =>
    signalling ++ [.clock, .ftimeQ, .regs, .free, .hub, .tie, .field, .faults, .img, .time, .lines, .pxs, .iols,
    .whisks, .sw, .host, .pans, .fuses]
  | .snapshotComplete => [.bar0, .host]
  | .bar2Write => [.cnt]
  | .importRequestSend => [.clock, .ftimeQ, .cnt, .tx, .tie, .img, .time]
  | .importRequestReceived _ _ => [.cnt, .tx, .inbox, .tie, .img]
  | .importGrantReceived _ _ => [.inbox, .img]
  | .forceWord _ => answering ++ [.regs, .cru, .img]
  | .forceRelease _ => answering ++ [.regs, .img]
  | .forceReleaseAll _ => answering ++ [.regs, .img]
  | .candidateSend => faulting ++ [.clock, .ftimeQ, .time, .timers, .captures]
  | .candidateReceived _ _ => faulting ++ [.ftimeQ, .inbox, .time, .timers, .captures]
  | .candidateExpiry => faulting ++ [.clock, .ftimeQ, .time, .timers, .captures]
  | .syncSend => sending ++ [.clock, .ftimeQ, .free, .time]
  | .syncReceived _ _ _ => faulting ++ [.ftimeQ, .free, .inbox, .time, .timers, .captures]
  | .syncTimeout => signalling ++ [.clock, .ftimeQ, .regs, .time]
  | .pdelayReqSend _ => [.clock, .ftimeQ, .cnt, .tx, .tie, .time]
  | .pdelayReqReceived _ _ _ => [.cnt, .free, .tx, .inbox, .tie]
  | .pdelayRespReceived _ _ _ => [.regs, .inbox, .faults, .time]
  | .pdelayTimeout _ => faulting ++ [.clock, .ftimeQ, .time]
  | .stepAcceptWrite _ _ => answering ++ [.time]
  | .setTimeWrite _ _ => faulting ++ answering ++ [.ftimeQ, .timers, .captures]
  | .couplerTimeSend => [.clock, .ftimeQ, .cnt, .free, .tx, .tie, .time]
  | .ptpMessageReceived _ _ => faulting ++ [.ftimeQ, .free, .time, .timers, .captures]
  | .armRecordWrite _ _ _ => answering ++ [.regs, .timers]
  | .timerDisarm _ _ _ => answering ++ [.regs, .timers]
  | .timerPrewake _ => [.pans]
  | .timerInstant _ => faulting ++ [.clock, .ftimeQ, .free, .time, .timers]
  | .pulseEnd _ => signalling ++ [.clock, .ftimeQ, .regs, .free, .faults, .time, .timers, .lines, .pxs]
  | .pxPinEdge _ _ => faulting ++ [.captures, .queues]
  | .captureFlush _ _ _ => answering ++ [.queues]
  | .queueProducerWrite _ _ _ _ => signalling ++ [.queues]
  | .lossMarkerWrite _ _ => signalling ++ [.queues]
  | .queueTagRead _ _ _ => faulting ++ [.captures, .queues, .busReads]
  | .queueDataWrite _ _ _ _ => [.cnt, .queues]
  | .queueTagWrite _ _ _ => signalling ++ [.queues]
  | .queueDataLoPop _ _ => [.cnt, .queues, .busReads]
  | .queueFlushCommand _ _ _ _ => answering ++ [.queues]
  | .queueFlushComplete _ _ => [.queues]
  | .queueSkipCommand _ _ _ _ => answering ++ [.queues]
  | .queueConfigWrite _ _ _ _ => answering ++ [.regs, .queues]
  | .dlModeWrite _ _ _ => answering ++ signalling ++ [.regs, .free, .faults, .lines]
  | .dlRawCrossing _ _ => [.lines, .pans]
  | .debounceComplete _ => faulting ++ [.clock, .ftimeQ, .time, .captures, .queues, .pans]
  | .inDelayMeasure _ _ => [.regs]
  | .dlCounterEdge _ _ => faulting ++ [.captures, .queues, .pans]
  | .dlLimitTrip _ => faulting
  | .dlThermalTrip _ => faulting
  | .dlPanShed _ _ => faulting
  | .dlRetryBackoffExpiry _ => signalling ++ [.clock, .ftimeQ, .regs, .free, .faults, .time, .lines]
  | .dlRetryCountReset _ => [.clock, .ftimeQ, .regs, .time, .lines, .iols]
  | .dlClear _ _ _ => answering ++ signalling ++ [.regs, .free, .faults, .lines]
  | .dlWireTest _ _ => faulting ++ [.clock, .ftimeQ, .time]
  | .dlOpenOnDetect _ => faulting
  | .dlShortVfieldDetect _ => faulting
  | .dlStatusClear _ _ => signalling ++ [.clock, .ftimeQ, .faults, .time, .lines]
  | .dlCommandWrite _ _ _ => answering ++ signalling ++ [.regs, .free, .faults, .lines]
  | .outPackedWrite _ _ _ => answering ++ signalling ++ [.regs, .free, .faults, .lines]
  | .canEnableWrite _ _ _ => answering ++ signalling ++ [.regs, .faults, .cans]
  | .canFrameReceived _ _ _ => faulting ++ [.free, .queues, .cans]
  | .mbCfgWrite _ _ _ _ => answering ++ [.regs, .cans]
  | .mbHoldWrite _ _ _ => answering ++ [.regs, .cans]
  | .mbDataRead _ _ _ => sending ++ [.hub, .answers, .cans, .dict, .uartSent]
  | .canTxAttemptStart _ => signalling ++ [.queues, .cans]
  | .canAttemptEnd _ _ => faulting ++ [.queues, .cans, .pertCount]
  | .canRecoveryStart _ _ => answering ++ [.cans]
  | .canRecoveryComplete _ => signalling ++ [.regs, .faults, .cans]
  | .canAloneRelease _ _ => answering ++ signalling ++ [.faults, .cans]
  | .canDominantTimeout _ => [.cnt]
  | .canBusJoin _ => [.cans]
  | .rs485EnableWrite _ _ _ => answering ++ signalling ++ [.regs, .free, .rss]
  | .rs485CharReceived _ _ => signalling ++ [.queues, .rss, .rsSent, .bridges, .pans]
  | .rs485GapExpiry _ => signalling ++ [.clock, .ftimeQ, .time, .queues, .rss, .rsSent, .bridges]
  | .rs485BreakReceived _ _ => signalling ++ [.queues, .rss, .rsSent, .bridges]
  | .rs485TxStart _ => signalling ++ [.clock, .ftimeQ, .time, .queues, .rss, .rsSent]
  | .rs485TxEnd _ => signalling ++ [.clock, .ftimeQ, .regs, .faults, .time, .queues, .rss]
  | .rs485DriverFault _ _ => faulting ++ [.rss]
  | .rs485ReplayStart _ => [.rss, .pans]
  | .rs485ActiveJoin _ => [.clock, .ftimeQ, .time, .rss]
  | .iolModeWrite _ _ _ => answering ++ signalling ++ [.regs, .queues, .iols]
  | .iolWakeSlotGrant => [.clock, .ftimeQ, .time, .iols]
  | .iolStartupComplete _ _ => faulting ++ [.free, .queues, .iols]
  | .iolMSequenceStart _ => [.clock, .ftimeQ, .time, .iols]
  | .iolMSequenceReply _ _ _ _ => faulting ++ [.free, .queues, .iols, .pertCount]
  | .isduRequestWrite _ _ _ => answering ++ signalling ++ [.regs, .queues, .iols]
  | .isduQueueRequest _ => signalling ++ [.regs, .queues, .iols]
  | .isduComplete _ _ _ => signalling ++ [.regs, .queues, .iols]
  | .isduTimeout _ => signalling ++ [.clock, .ftimeQ, .regs, .time, .queues, .iols]
  | .iolEventRead _ _ _ => signalling ++ [.queues, .iols]
  | .iolEventBacklogRelease _ => signalling ++ [.queues, .iols]
  | .portCmdRestart _ _ => answering ++ signalling ++ [.regs, .queues, .iols]
  | .portCmdBackup _ _ => answering ++ [.regs]
  | .portCmdClearDs _ _ => answering ++ [.regs, .iols]
  | .dsUploadRequest _ => [.regs]
  | .dsCommit _ _ => [.regs, .cnt, .tx, .tie, .iols, .twin, .tagHeld, .keys]
  | .lpFastTrip _ => faulting ++ [.free, .queues, .iols]
  | .lpSlowTrip _ => faulting ++ [.free, .queues, .iols]
  | .lpThermalTrip _ => faulting ++ [.free, .queues, .iols]
  | .lpRampComplete _ => [.clock, .ftimeQ, .regs, .time, .iols]
  | .lpBackoffExpiry _ => [.clock, .ftimeQ, .regs, .time, .iols]
  | .lpClear _ _ _ => answering ++ [.regs, .iols]
  | .whiskStart _ _ => answering ++ signalling ++ [.regs, .free, .faults, .lines, .whisks, .pans]
  | .whiskHalt _ _ => answering ++ signalling ++ [.faults, .whisks]
  | .whiskResume _ _ => answering ++ signalling ++ [.whisks, .pans]
  | .whiskRestart _ _ => answering ++ signalling ++ [.regs, .free, .faults, .lines, .whisks, .pans]
  | .whiskStop _ _ => answering ++ signalling ++ [.regs, .free, .faults, .lines, .whisks]
  | .whiskStepEnter _ _ =>
    signalling ++ [.clock, .ftimeQ, .regs, .free, .faults, .time, .queues, .lines, .rss, .whisks]
  | .whiskDwellEnd _ _ => signalling ++ [.clock, .ftimeQ, .time, .whisks]
  | .whiskStallClear _ => signalling ++ [.faults, .whisks]
  | .whiskStallLimit _ => faulting ++ [.clock, .ftimeQ, .time]
  | .whiskStoreMove _ _ => signalling ++ [.queues, .whisks]
  | .switchFrameIngress _ => faulting ++ [.landing, .sw, .power]
  | .spillPageTimeout _ _ => faulting ++ [.clock, .ftimeQ, .time, .sw]
  | .spillPageReadback _ _ _ _ => faulting ++ [.clock, .ftimeQ, .time, .sw]
  | .egressFrameStart _ _ _ => faulting ++ [.clock, .ftimeQ, .time, .sw, .power]
  | .portDownFlush _ => [.cnt, .sw]
  | .portFlushComplete _ => faulting ++ [.sw]
  | .meterWrite _ _ _ => answering ++ [.regs, .cru, .sw, .rules]
  | .gateCommit _ _ _ => answering ++ [.regs, .sw]
  | .gateEntryChange _ => [.clock, .ftimeQ, .time]
  | .gateListTakeover _ => [.clock, .ftimeQ, .regs, .time, .sw]
  | .samplerEnableWrite _ _ _ => answering ++ [.regs, .sw]
  | .switchClearTotals _ => answering ++ [.regs, .cru, .sw]
  | .switchClearPorts _ => answering ++ [.regs, .cru, .sw]
  | .switchClearMeters _ => answering ++ [.regs, .cru, .sw]
  | .switchClearSamplers _ => answering ++ [.regs, .cru, .sw]
  | .switchClearGates _ => answering ++ [.regs, .cru, .sw]
  | .edgeLinkChange _ _ _ _ => signalling ++ [.regs, .sw]
  | .edgeSyncLoss _ => signalling ++ [.regs]
  | .mdioRead _ _ _ => sending ++ [.regs, .hub, .answers, .dict, .uartSent]
  | .mdioWrite _ _ _ => answering ++ [.sw]
  | .tunnelConfigWrite _ _ _ => answering ++ [.regs, .faults, .sw]
  | .tunnelOpenSend _ => sending ++ [.clock, .ftimeQ, .time, .sw]
  | .tunnelOpenReceived _ => sending ++ [.faults, .sw]
  | .tunnelAcceptReceived _ => [.cnt, .faults, .sw]
  | .tunnelRefuseReceived _ => [.cnt, .faults, .sw]
  | .tunnelDataReceived _ => [.cnt, .sw]
  | .tunnelCloseReceived _ => [.cnt, .faults, .sw]
  | .tunnelKeepaliveSend _ => sending ++ [.clock, .ftimeQ, .time, .sw]
  | .tunnelLostTimeout _ => faulting ++ [.clock, .ftimeQ, .time, .sw]
  | .tunnelCreditReport _ => sending ++ [.clock, .ftimeQ, .time, .sw]
  | .tunnelReorderTimeout _ => [.clock, .ftimeQ, .time, .sw]
  | .ladlePacketTake _ _ => [.queues, .sw]
  | .tunnelDataSend _ => sending ++ [.sw]
  | .tunnelSinkDeliver _ => faulting ++ [.queues, .sw]
  | .sidebandPoll _ _ _ => sending ++ [.clock, .ftimeQ, .time, .sw]
  | .sidebandReceived _ => signalling ++ [.regs, .sw]
  | .routeClassify _ _ => signalling ++ [.queues]
  | .routeFrameReceived _ => signalling ++ [.queues]
  | .routeEntryWrite _ _ _ => answering ++ [.regs, .sw]
  | .generationRetire => [.sw]
  | .dictRead _ => faulting ++ answering ++ [.free, .inbox, .cans, .pans]
  | .dictWrite _ =>
    faulting ++ answering ++ [.ftimeQ, .free, .links, .ingress, .inbox, .settleEnds, .img, .time, .timers, .captures,
    .queues, .cans, .rss, .iols, .sw, .fences, .fenceOrder, .pertCount, .pertEnds, .rules, .pans, .fuses, .boot]
  | .dictReadBlock _ => faulting ++ answering ++ [.free, .inbox, .cans, .host, .pans]
  | .dictWriteBlock _ =>
    faulting ++ answering ++ [.ftimeQ, .free, .links, .ingress, .inbox, .settleEnds, .img, .time, .timers, .captures,
    .queues, .cans, .rss, .iols, .sw, .fences, .fenceOrder, .pertCount, .pertEnds, .rules, .pans, .fuses, .boot]
  | .dictSegment _ _ _ _ _ _ =>
    faulting ++ answering ++ [.ftimeQ, .free, .links, .ingress, .inbox, .settleEnds, .img, .time, .timers, .captures,
    .queues, .cans, .rss, .iols, .sw, .bar0, .host, .fences, .fenceOrder, .pertCount, .pertEnds, .rules, .pans,
    .fuses, .boot]
  | .dictAck _ _ _ => sending ++ [.hub, .inbox, .dict, .uartSent]
  | .dictCancel _ _ => [.hub, .inbox, .dict]
  | .dictOutOfOrderAck _ _ => sending ++ [.clock, .ftimeQ, .time, .dict, .uartSent]
  | .dictResendTimeout _ _ =>
    sending ++ [.clock, .ftimeQ, .rejects, .hub, .answers, .msix, .time, .bar0, .host, .dict, .uartSent]
  | .stateRequestPreop _ => answering ++ signalling ++ [.field, .lines, .pxs, .whisks]
  | .stateRequestOperate _ => answering
  | .stateRequestSafe _ => answering ++ signalling ++ [.field, .lines, .pxs, .whisks]
  | .stateRequestOpenMaint _ => answering ++ signalling ++ [.regs, .field, .cru, .lines, .pxs, .whisks]
  | .stateRequestCloseMaint _ => faulting ++ answering ++ [.settleEnds, .img]
  | .stateRequestReset _ => answering
  | .deferredReset =>
    sending ++ [.run, .clock, .ftimeQ, .straps, .resetCause, .regs, .rejects, .free, .hub, .role, .links, .ingress,
    .inbox, .landing, .dups, .tie, .settleEnds, .field, .sources, .records, .recordLoss, .deliveries, .faults, .cru,
    .copper, .assigned, .img, .mirror, .hist, .time, .timers, .captures, .queues, .lines, .pxs, .cans, .rss, .bridges,
    .iols, .whisks, .sw, .bar0, .host, .dict, .recordsIn, .fences, .fenceOrder, .writeSentAt, .peerReady,
    .handInstant, .twin, .pertCount, .pertEnds, .rules, .gaugeLog, .gaugeIn, .pans, .fuses, .power, .boot]
  | .autoOperateEntry =>
    signalling ++ [.regs, .free, .hub, .tie, .field, .faults, .lines, .pxs, .whisks, .sw, .pans]
  | .maintIdleExpiry => faulting ++ [.clock, .ftimeQ, .settleEnds, .img, .time]
  | .save _ _ => answering ++ [.regs, .boot]
  | .saveComplete => sending ++ [.regs, .hub, .answers, .faults, .dict, .boot, .uartSent]
  | .restoreDefaults _ _ => answering ++ signalling ++ [.regs, .img, .iols, .sw, .fuses]
  | .mailboxGo _ _ =>
    faulting ++ answering ++ [.ftimeQ, .free, .links, .ingress, .inbox, .settleEnds, .img, .time, .timers, .captures,
    .queues, .cans, .rss, .iols, .sw, .bar0, .host, .fences, .fenceOrder, .pertCount, .pertEnds, .rules, .pans,
    .fuses, .power, .boot]
  | .mailboxResponse _ _ => [.inbox, .msix, .bar0, .host, .dict]
  | .mailboxTimeout => [.clock, .ftimeQ, .cnt, .msix, .time, .bar0, .host, .dict]
  | .mailboxDoneClear => [.bar0]
  | .snapshotGo _ => [.cnt, .bar0, .host]
  | .ftimeLoRead => [.busReads, .bar0]
  | .lmcLoRead => [.busReads, .bar0]
  | .watchdogKick => [.host]
  | .watchdogExpiry => faulting ++ [.clock, .ftimeQ, .time, .bar0, .host]
  | .ringEnableWrite _ _ => faulting ++ [.bar0, .host]
  | .ringTailWrite _ _ => [.bar0]
  | .ringSlotWrite _ => [.regs, .cnt, .records, .msix, .sw, .bar0, .host, .power]
  | .msixModerationTimeout _ => [.clock, .ftimeQ, .msix, .time, .host]
  | .iwStageWrite _ => [.host]
  | .iwSend _ => faulting ++ [.sw, .host, .power]
  | .iwApplyWindowRelease => faulting ++ [.clock, .ftimeQ, .time, .sw, .host]
  | .txTailWrite _ => [.host]
  | .txDescriptorTake => [.regs, .cnt, .msix, .host, .power]
  | .pcieLinkDown => sending ++ [.regs, .sources, .deliveries, .msix, .sw, .bar0, .host, .dict]
  | .hostReadyWrite _ => sending ++ [.sources, .deliveries, .msix, .bar0, .host]
  | .eventRaise _ _ => signalling
  | .sourceCfgWrite _ _ _ => answering ++ [.regs, .sources, .deliveries, .msix]
  | .claimRead _ => [.sources, .msix, .busReads]
  | .completeWrite _ _ => sending ++ [.sources, .deliveries, .msix]
  | .remoteCompleteWrite _ _ => answering ++ [.sources, .deliveries, .msix]
  | .reofferTimeout _ => sending ++ [.clock, .ftimeQ, .sources, .deliveries, .msix, .time]
  | .raiseWrite _ _ => answering ++ signalling
  | .sidebandAckWrite _ _ _ => answering ++ [.regs]
  | .fenceIssueLocal _ _ => answering ++ [.regs, .fences, .fenceOrder]
  | .fenceIssueImage _ _ => answering ++ [.regs, .fences, .fenceOrder]
  | .fenceIssueTable _ _ => answering ++ [.regs, .fences, .fenceOrder]
  | .fenceIssueRing _ _ => answering ++ [.regs, .fences, .fenceOrder]
  | .fenceLocalDone _ => faulting ++ [.sw, .fences, .fenceOrder]
  | .fenceImageDone _ => faulting ++ [.clock, .ftimeQ, .time, .sw, .fences, .fenceOrder]
  | .fenceTableDone _ => faulting ++ [.sw, .fences, .fenceOrder]
  | .fenceRingReturn _ => faulting ++ [.sw, .fences, .fenceOrder]
  | .fenceTimeout _ => faulting ++ [.clock, .ftimeQ, .time, .sw, .fences, .fenceOrder]
  | .claimRoundStart => [.clock, .ftimeQ, .cnt, .time, .twin, .pertCount]
  | .claimStartEdge => [.cnt, .twin, .pertCount]
  | .claimRoundEnd _ =>
    faulting ++ [.clock, .ftimeQ, .free, .answers, .role, .img, .time, .queues, .cans, .rss, .iols, .sw, .dict,
    .handInstant, .fuses, .uartSent]
  | .claimRow3Entry => signalling ++ [.clock, .ftimeQ, .regs, .field, .time, .queues, .cans, .rss, .twin, .fuses]
  | .claimHoldExpiry => signalling ++ [.clock, .ftimeQ, .regs, .field, .time, .queues, .cans, .rss, .fuses]
  | .claimBusTimeout => faulting ++ [.clock, .ftimeQ, .time]
  | .hobHeartbeatWrite => [.regs, .cnt, .healthAt, .twin]
  | .twinHeartbeatSend => [.clock, .ftimeQ, .regs, .cnt, .tx, .tie, .time, .twin, .tagHeld, .keys]
  | .twinHeartbeatReceived _ _ => faulting ++ [.answers, .inbox, .dict, .peerReady, .handInstant, .uartSent]
  | .pathSilentTimeout _ => faulting ++ [.clock, .ftimeQ, .time]
  | .selftestItemRun _ _ => [.regs, .twin]
  | .seizeTimeout => faulting ++ [.clock, .ftimeQ, .time]
  | .syncRequestReceived _ _ => faulting ++ [.inbox]
  | .syncBulkReceived _ _ =>
    faulting ++ answering ++ [.ftimeQ, .free, .links, .ingress, .inbox, .settleEnds, .img, .time, .timers, .captures,
    .queues, .cans, .rss, .iols, .sw, .fences, .fenceOrder, .pertCount, .pertEnds, .rules, .pans, .fuses, .boot]
  | .syncWriteReceived _ _ =>
    faulting ++ answering ++ [.ftimeQ, .free, .links, .ingress, .inbox, .settleEnds, .img, .time, .timers, .captures,
    .queues, .cans, .rss, .iols, .sw, .fences, .fenceOrder, .pertCount, .pertEnds, .rules, .pans, .fuses, .boot]
  | .syncAckReceived _ _ => faulting ++ [.answers, .inbox, .dict, .uartSent]
  | .handoverRequestWrite _ _ => answering ++ [.regs]
  | .handoverProposeReceived _ _ => faulting ++ [.inbox, .handInstant]
  | .handoverAgreeReceived _ _ => faulting ++ [.inbox, .handInstant]
  | .handoverBoundary =>
    faulting ++ [.clock, .ftimeQ, .free, .answers, .role, .img, .time, .queues, .cans, .rss, .iols, .sw, .dict,
    .handInstant, .uartSent]
  | .handoverAbandon => faulting ++ [.clock, .ftimeQ, .time, .handInstant]
  | .revertHoldoffExpiry => [.clock, .ftimeQ, .regs, .cnt, .tx, .tie, .time, .twin, .tagHeld, .keys]
  | .faultOccurrence _ _ _ _ => faulting
  | .faultLiveFall _ => [.faults]
  | .faultQuietExpiry _ => signalling ++ [.clock, .ftimeQ, .regs, .field, .faults, .cru, .time, .whisks]
  | .faultClear _ _ => answering ++ signalling ++ [.regs, .field, .faults, .cru, .whisks]
  | .faultForce _ _ => faulting ++ answering
  | .faultLatchReset _ _ => answering ++ [.faults]
  | .stormEnd => [.clock, .ftimeQ, .cnt, .cru, .time]
  | .crucibleCommit => [.regs, .cnt, .cru]
  | .crucibleTriggerWrite _ _ => answering ++ [.cru]
  | .policyEvaluation _ => faulting ++ [.clock, .ftimeQ, .time, .sw, .rules, .gaugeLog, .gaugeIn, .pans, .fuses]
  | .ruleWrite _ _ _ => answering ++ signalling ++ [.regs, .faults, .cru, .sw, .rules, .pans]
  | .perturbationStart _ _ _ => answering ++ [.regs, .cru, .pertCount, .pertEnds]
  | .perturbationStop _ _ _ => answering ++ [.regs, .cru, .pertCount, .pertEnds]
  | .perturbationExpiry _ => [.clock, .ftimeQ, .regs, .cru, .time]
  | .perturbationStopAll _ _ => answering ++ [.regs, .cru]
  | .coreClockGate => [.clock, .ftimeQ, .regs, .time, .power]
  | .corePowerGate => [.clock, .ftimeQ, .regs, .time]
  | .coreWake => [.clock, .ftimeQ, .regs, .cnt, .time, .power]
  | .coreEligibilityWake => [.clock, .ftimeQ, .regs, .cnt, .time, .power]
  | .cpWake _ => [.power]
  | .panDozeEntry _ => [.clock, .ftimeQ, .regs, .time, .pans]
  | .panDarkEntry _ => [.clock, .ftimeQ, .regs, .cnt, .time]
  | .panWake _ => [.pans]
  | .panWakeComplete _ => faulting ++ [.clock, .ftimeQ, .time, .captures, .queues, .rss, .pans]
  | .vfieldWarning _ => faulting ++ [.power]
  | .vfieldWarningEnd => [.regs, .faults, .power]
  | .vfieldUndervoltage _ => faulting ++ [.power]
  | .vfieldUndervoltageEnd => [.faults, .power]
  | .feedOutOfRange _ _ => faulting ++ [.power]
  | .feedBackInRange _ => faulting ++ [.power]
  | .railCheck _ => faulting ++ [.clock, .ftimeQ, .time, .power]
  | .temperatureCheck _ _ _ => faulting ++ [.clock, .ftimeQ, .time, .gaugeIn, .power]
  | .branchFastTrip _ => faulting ++ [.fuses]
  | .branchI2tTrip _ => faulting ++ [.fuses]
  | .branchSoaTrip _ => faulting ++ [.clock, .ftimeQ, .time, .fuses]
  | .branchGateTrip _ => faulting ++ [.fuses]
  | .branchPeerTrip _ => faulting ++ [.fuses]
  | .branchRampComplete _ => [.regs, .fuses]
  | .branchBackoffExpiry _ => [.clock, .ftimeQ, .regs, .time, .fuses]
  | .branchRetryReset _ => [.clock, .ftimeQ, .regs, .time, .fuses]
  | .branchClear _ _ _ => answering ++ signalling ++ [.regs, .faults, .fuses]
  | .branchEnableWrite _ _ _ => answering ++ [.regs, .fuses]
  | .branchCommandWrite _ _ _ => answering ++ [.regs, .fuses]
  | .transitionForge _ _ _ => answering ++ [.regs, .free, .cru]
  | .transitionTake _ _ _ => answering ++ [.regs, .cru]
  | .transitionTransfer _ _ _ => answering ++ [.regs, .cru]
  | .transitionReturn _ _ _ => faulting ++ answering
  | .transitionScrap _ _ _ => faulting ++ answering
  | .rootTakeover => [.clock, .ftimeQ, .regs, .faults, .time, .keys]
  | .keyLoad _ => faulting ++ [.clock, .ftimeQ, .time]
  | .tagFloorAdvance => [.clock, .ftimeQ, .regs, .time]
  | .tagWaitRelease => [.cnt, .tx, .seqNext, .origTimes, .origHeld, .tie, .disc, .tagHeld, .keys]
  | .epochCommit _ _ => answering ++ [.regs]
  | .epochRollover => [.clock, .ftimeQ, .regs, .faults, .img, .time, .keys]
  | .keyEpochAge => faulting ++ [.clock, .ftimeQ, .time]
  | .epochAgeZeroise => faulting ++ [.clock, .ftimeQ, .time]
  | .zeroiseWrite _ _ => faulting ++ answering
  | .keyLossSafe => signalling ++ [.clock, .ftimeQ, .hub, .tie, .field, .time, .lines, .pxs, .whisks]
  | .attestRequest _ _ => answering
  | .attestComplete => [.regs, .free, .keys]
  | .countersignKeyWrite _ _ _ => answering ++ [.regs]
  | .bootLoaderStart _ _ _ => faulting ++ [.run, .free, .boot]
  | .firmwareStart =>
    faulting ++ [.run, .links, .ingress, .settleEnds, .healthAt, .queues, .iols, .sw, .fuses, .boot]
  | .updateBegin _ => answering ++ [.regs, .cru, .boot]
  | .stagingBlockWrite _ _ _ => answering ++ [.regs, .boot]
  | .updateWrite _ _ => answering ++ [.regs, .cru, .boot]
  | .sectorWritten => [.regs, .cru, .boot]
  | .updateConfirm _ => answering ++ [.regs, .cru, .boot]
  | .updateAbort _ => answering ++ [.regs, .cru, .boot]
  | .trialWindowExpiry => faulting ++ [.clock, .ftimeQ, .time, .boot]
  | .enterRecoveryWrite _ _ => answering ++ [.boot]
  | .recoveryImageBlock _ _ _ => sending ++ [.rejects, .hub, .answers, .dict, .boot, .uartSent]
  | .recoveryBlockWritten => sending ++ [.hub, .answers, .dict, .boot, .uartSent]
  | .recoveryReboot _ => answering ++ [.regs, .cru, .boot]
  | .uartFrameReceived _ =>
    faulting ++ answering ++ [.ftimeQ, .free, .links, .ingress, .inbox, .settleEnds, .img, .time, .timers, .captures,
    .queues, .cans, .rss, .iols, .sw, .bar0, .host, .fences, .fenceOrder, .pertCount, .pertEnds, .rules, .pans,
    .fuses, .boot]
  | .jtagExtest => [.jtag]
  | .jtagIdcode => [.jtag]
  | .jtagSamplePreload => [.jtag]
  | .jtagClamp => [.jtag]
  | .jtagHighz => [.jtag]
  | .jtagCrucibleAddr _ => [.jtag]
  | .jtagCrucibleData => [.jtag]
  | .jtagBypass => [.jtag]
  | .pcieLinkUp _ _ _ => sending ++ [.regs, .sources, .deliveries, .msix, .sw]
  | .sgmiiSyncRegained _ => signalling ++ [.regs]
  | .holdoverLimitExpiry => faulting ++ [.clock, .ftimeQ, .time, .timers, .captures]
  | .candidateListenExpiry => faulting ++ [.clock, .ftimeQ, .time, .timers, .captures]
  | .ptpMessageSend _ _ => [.time]
  | .ptpLockLost _ => faulting ++ [.ftimeQ, .time, .timers, .captures]
  | .canReceiveError _ _ => faulting ++ [.queues, .cans]
  | .cqInputCrossing _ _ => signalling ++ [.iols, .pans]
  | .cqCurrentLimit _ => [.regs]
  | .iolStartupDelayExpiry _ => [.clock, .ftimeQ, .regs, .time, .iols]
  | .iolReplyTimeout _ => faulting ++ [.free, .queues, .iols]
  | .iolMSequenceWake _ => [.pans]
  | .samplingWake _ => [.pans]
  | .stageCooled _ => signalling ++ [.regs, .free, .faults, .lines, .iols]
  | .i2tHalfLevelReached _ => [.regs, .fuses]
  | .dlSlotChangeRelease _ _ => signalling ++ [.clock, .ftimeQ, .regs, .free, .faults, .time, .lines, .whisks]
  | .lockstepMismatch _ => faulting
  | .dmaReadCompletion _ _ => faulting ++ [.sw, .bar0, .host]
  | .dmaCompletionTimeout => faulting ++ [.clock, .ftimeQ, .time, .bar0, .host]

end Sys2Proof.Machine
end

