-- ==== Sys2Proof/WellFormed.lean ====
section
/-! DEFINITION. Well-formed commands: every field of an operand fits the width that the spec gives it. Unit numbers are bounded
by their types. -/

namespace Sys2Proof

/-- A requester's station and client fit 16 and 4 bits (Table 13.5). -/
def pathOk : Path → Bool
  | .dict station client _ => decide (station < 65536) && decide (client < 16)
  | _ => true

/-- A writer's path is well-formed. -/
def writerOk (w : Writer) : Bool := pathOk w.path

/-- Header fields fit Table 2.6, and the payload is at most 1476 bytes, 1460 in a tagged frame (Table 2.5). -/
def frameOk (f : Frame) : Bool :=
  decide (f.version < 16) && decide (f.kind < 16) && decide (f.prio < 8) && decide (f.rsvd < 4) && decide (f.source < 65536) &&
    decide (f.dest < 65536) && decide (f.seq < 65536) && decide (f.hops < 256) && decide (f.epoch < 256) &&
    decide (f.turn < 2 ^ 32) && decide (f.payload.length ≤ if f.tagged then 1460 else 1476)

/-- A received frame: its EtherType fits 16 bits, and no more than the 24 header bytes came. -/
def wireOk (w : WireFrame) : Bool :=
  w.etherType.all (fun e => decide (e < 65536)) && decide (w.headerBytes ≤ 24) && frameOk w.frame

/-- A DICT request's fields fit Table 13.5, and its data is at most 1024 bytes. -/
def reqOk (q : DictReq) : Bool :=
  pathOk q.path && decide (q.client < 16) && decide (q.format < 16) && decide (q.role < 8) && decide (q.tid < 65536) &&
    decide (q.object < 2 ^ 20) && decide (q.ty < 256) && decide (q.paramA < 2 ^ 32) && decide (q.paramB < 2 ^ 32) &&
    decide (q.epoch < 256) && decide (q.data.length ≤ 1024)

/-- A CAN frame: an 11-bit or 29-bit identifier, a DLC of 4 bits, at most 64 bytes, 8 in a classical frame. -/
def canFrameOk (f : CanFrame) : Bool :=
  decide (f.ident < if f.extended then 2 ^ 29 else 2 ^ 11) && decide (f.dlc < 16) &&
    decide (f.data.length ≤ if f.fdf then 64 else 8)

/-- A measured transmitter delay fits seven bits. -/
def canEndOk : CanEnd → Bool
  | .sent t => decide (t < 128)
  | .error _ t => decide (t < 128)
  | _ => true

/-- An RS-485 character has at most 9 bits. -/
def rsCharOk (c : RsChar) : Bool := decide (c.value < 512)

/-- A claim round reads a claim byte and a CRC-4 (R399). -/
def roundWireOk (w : RoundWire) : Bool := decide (w.claim < 256) && decide (w.crc < 16)

/-- A clock class fits a byte, a grandmaster identity 64 bits. -/
def ptpMsgOk (m : PtpMsg) : Bool := decide (m.portState < 16) && decide (m.cls < 256) && decide (m.gm < 2 ^ 64)

/-- An IO-Link device: 16-bit vendor, 24-bit device, process data of at most 32 bytes. -/
def iolDeviceOk (d : IolDevice) : Bool :=
  decide (d.vendor < 65536) && decide (d.device < 2 ^ 24) && decide (d.revision < 256) && decide (d.comRate < 4) &&
    decide (d.pdIn ≤ 32) && decide (d.pdOut ≤ 32)

/-- A frame at a switch port: an 802.1Q priority of three bits and a 16-bit EtherType. -/
def swFrameOk (f : SwFrame) : Bool :=
  f.pcp.all (fun p => decide (p < 8)) && decide (f.etherType < 65536) && f.fabric.all frameOk

/-- What comes in at a switch port. -/
def swIngressOk : SwIngress → Bool
  | .ring _ => true
  | .edge _ frame _ => swFrameOk frame
  | .own _ frame dst cls => swFrameOk frame && dst.all (fun p => decide (p < 19)) && decide (cls < 8)

/-- An object number has 20 bits; a host-port offset is that of a 32-bit lane. -/
def targetOk : RegTarget → Bool
  | .object k => decide (k < 2 ^ 20)
  | .bar0 o => o % 4 == 0
  | .bar4 o => o % 4 == 0

/-- Every operand of the command is well-formed. -/
def Instr.wf : Instr → Bool
  | .registerWrite w target _ => writerOk w && targetOk target
  | .vddAonApplied => true
  | .resetAssert _ => true
  | .resetRelease _ => true
  | .compatRequestWrite w _ => writerOk w
  | .fieldRefresh => true
  | .fieldFirstRefresh => true
  | .fieldRefreshLoss => true
  | .fieldHoldExpiry => true
  | .holdTimeMsWrite w _ => writerOk w
  | .fieldDieReset => true
  | .fieldDiePowerUp => true
  | .hobHealthTimeout => true
  | .modulePresenceSample _ _ => true
  | .moduleStartupRead _ _ => true
  | .moduleLosChange _ _ => true
  | .moduleTxFault _ => true
  | .moduleDiagPoll _ _ => true
  | .portEnableWrite w _ _ => writerOk w
  | .portSettingWrite w _ _ _ => writerOk w
  | .versionRangeWrite w _ _ => writerOk w
  | .signalDetected _ => true
  | .signalLost _ => true
  | .blockLock _ => true
  | .modeAttemptExpiry _ => true
  | .linkHelloSend _ => true
  | .linkHelloReceived _ hello => frameOk hello
  | .helloTimeout _ => true
  | .keepaliveTimeout _ => true
  | .holdoffExpiry _ => true
  | .frameHeaderReceived _ rx => wireOk rx
  | .frameEndReceived _ rx => wireOk rx
  | .dupEntryAgeExpiry _ => true
  | .frameOriginate fr => frameOk fr
  | .origCapRelease => true
  | .egressFrameDone _ => true
  | .copperVote _ => true
  | .copperSelftestDone _ => true
  | .bypCommandWrite w _ => writerOk w
  | .bypCyclesWrite w _ _ => writerOk w
  | .ratedCyclesWrite w _ _ => writerOk w
  | .settleTimeExpiry => true
  | .creditReturnTimeout => true
  | .creditReceived fr => frameOk fr
  | .creditStallTimeout => true
  | .linkCounterClearPort w _ => writerOk w
  | .linkCounterClearGlobal w _ => writerOk w
  | .discRoundStart => true
  | .assignAbsenceTimeout => true
  | .electReceived _ fr => frameOk fr
  | .rootQuietExpiry => true
  | .rollReceived _ fr => frameOk fr
  | .rollReturn _ fr _ => frameOk fr
  | .assignReceived _ fr => frameOk fr
  | .restartReceived _ fr => frameOk fr
  | .restartTimeout => true
  | .assignReturn _ fr => frameOk fr
  | .lapReturn _ fr => frameOk fr
  | .announceReceived _ fr => frameOk fr
  | .rateChangeDown => true
  | .sweepTimer => true
  | .ringOpenTimeout => true
  | .couplerAdvertSend => true
  | .couplerAdvertReceived _ fr => frameOk fr
  | .turnBoundary => true
  | .publishSlot => true
  | .mapRebuildTimeout => true
  | .imageFrameReceived _ fr _ => frameOk fr
  | .imageWriteReceived _ fr _ => frameOk fr
  | .applyWake => true
  | .applyInstant => true
  | .snapshotComplete => true
  | .bar2Write => true
  | .importRequestSend => true
  | .importRequestReceived _ fr => frameOk fr
  | .importGrantReceived _ fr => frameOk fr
  | .forceWord w => writerOk w
  | .forceRelease w => writerOk w
  | .forceReleaseAll w => writerOk w
  | .candidateSend => true
  | .candidateReceived _ fr => frameOk fr
  | .candidateExpiry => true
  | .syncSend => true
  | .syncReceived _ fr _ => frameOk fr
  | .syncTimeout => true
  | .pdelayReqSend _ => true
  | .pdelayReqReceived _ fr _ => frameOk fr
  | .pdelayRespReceived _ fr _ => frameOk fr
  | .pdelayTimeout _ => true
  | .stepAcceptWrite w _ => writerOk w
  | .setTimeWrite w _ => writerOk w
  | .couplerTimeSend => true
  | .ptpMessageReceived _ msg => ptpMsgOk msg
  | .armRecordWrite w _ _ => writerOk w
  | .timerDisarm w _ _ => writerOk w
  | .timerPrewake _ => true
  | .timerInstant _ => true
  | .pulseEnd _ => true
  | .pxPinEdge _ _ => true
  | .captureFlush w _ _ => writerOk w
  | .queueProducerWrite _ _ _ _ => true
  | .lossMarkerWrite _ _ => true
  | .queueTagRead _ _ _ => true
  | .queueDataWrite _ _ _ _ => true
  | .queueTagWrite _ _ _ => true
  | .queueDataLoPop _ _ => true
  | .queueFlushCommand w _ _ _ => writerOk w
  | .queueFlushComplete _ _ => true
  | .queueSkipCommand w _ _ _ => writerOk w
  | .queueConfigWrite w _ _ _ => writerOk w
  | .dlModeWrite w _ _ => writerOk w
  | .dlRawCrossing _ _ => true
  | .debounceComplete _ => true
  | .inDelayMeasure _ _ => true
  | .dlCounterEdge _ _ => true
  | .dlLimitTrip _ => true
  | .dlThermalTrip _ => true
  | .dlPanShed _ _ => true
  | .dlRetryBackoffExpiry _ => true
  | .dlRetryCountReset _ => true
  | .dlClear w _ _ => writerOk w
  | .dlWireTest _ _ => true
  | .dlOpenOnDetect _ => true
  | .dlShortVfieldDetect _ => true
  | .dlStatusClear _ _ => true
  | .dlCommandWrite w _ _ => writerOk w
  | .outPackedWrite w _ _ => writerOk w
  | .canEnableWrite w _ _ => writerOk w
  | .canFrameReceived _ _ fr => canFrameOk fr
  | .mbCfgWrite w _ _ _ => writerOk w
  | .mbHoldWrite w _ _ => writerOk w
  | .mbDataRead p _ _ => pathOk p
  | .canTxAttemptStart _ => true
  | .canAttemptEnd _ outcome => canEndOk outcome
  | .canRecoveryStart w _ => writerOk w
  | .canRecoveryComplete _ => true
  | .canAloneRelease w _ => writerOk w
  | .canDominantTimeout _ => true
  | .canBusJoin _ => true
  | .rs485EnableWrite w _ _ => writerOk w
  | .rs485CharReceived _ ch => rsCharOk ch
  | .rs485GapExpiry _ => true
  | .rs485BreakReceived _ _ => true
  | .rs485TxStart _ => true
  | .rs485TxEnd _ => true
  | .rs485DriverFault _ _ => true
  | .rs485ReplayStart _ => true
  | .rs485ActiveJoin _ => true
  | .iolModeWrite w _ _ => writerOk w
  | .iolWakeSlotGrant => true
  | .iolStartupComplete _ dev => iolDeviceOk dev
  | .iolMSequenceStart _ => true
  | .iolMSequenceReply _ _ _ _ => true
  | .isduRequestWrite w _ _ => writerOk w
  | .isduQueueRequest _ => true
  | .isduComplete _ _ _ => true
  | .isduTimeout _ => true
  | .iolEventRead _ _ _ => true
  | .iolEventBacklogRelease _ => true
  | .portCmdRestart w _ => writerOk w
  | .portCmdBackup w _ => writerOk w
  | .portCmdClearDs w _ => writerOk w
  | .dsUploadRequest _ => true
  | .dsCommit _ _ => true
  | .lpFastTrip _ => true
  | .lpSlowTrip _ => true
  | .lpThermalTrip _ => true
  | .lpRampComplete _ => true
  | .lpBackoffExpiry _ => true
  | .lpClear w _ _ => writerOk w
  | .whiskStart wr _ => writerOk wr
  | .whiskHalt wr _ => writerOk wr
  | .whiskResume wr _ => writerOk wr
  | .whiskRestart wr _ => writerOk wr
  | .whiskStop wr _ => writerOk wr
  | .whiskStepEnter _ _ => true
  | .whiskDwellEnd _ _ => true
  | .whiskStallClear _ => true
  | .whiskStallLimit _ => true
  | .whiskStoreMove _ _ => true
  | .switchFrameIngress i => swIngressOk i
  | .spillPageTimeout _ _ => true
  | .spillPageReadback _ _ _ _ => true
  | .egressFrameStart _ _ _ => true
  | .portDownFlush _ => true
  | .portFlushComplete _ => true
  | .meterWrite w _ _ => writerOk w
  | .gateCommit w _ _ => writerOk w
  | .gateEntryChange _ => true
  | .gateListTakeover _ => true
  | .samplerEnableWrite w _ _ => writerOk w
  | .switchClearTotals w => writerOk w
  | .switchClearPorts w => writerOk w
  | .switchClearMeters w => writerOk w
  | .switchClearSamplers w => writerOk w
  | .switchClearGates w => writerOk w
  | .edgeLinkChange _ _ _ _ => true
  | .edgeSyncLoss _ => true
  | .mdioRead w _ _ => writerOk w
  | .mdioWrite w _ _ => writerOk w
  | .tunnelConfigWrite w _ _ => writerOk w
  | .tunnelOpenSend _ => true
  | .tunnelOpenReceived fr => frameOk fr
  | .tunnelAcceptReceived fr => frameOk fr
  | .tunnelRefuseReceived fr => frameOk fr
  | .tunnelDataReceived fr => frameOk fr
  | .tunnelCloseReceived fr => frameOk fr
  | .tunnelKeepaliveSend _ => true
  | .tunnelLostTimeout _ => true
  | .tunnelCreditReport _ => true
  | .tunnelReorderTimeout _ => true
  | .ladlePacketTake _ _ => true
  | .tunnelDataSend _ => true
  | .tunnelSinkDeliver _ => true
  | .sidebandPoll _ _ _ => true
  | .sidebandReceived fr => frameOk fr
  | .routeClassify _ _ => true
  | .routeFrameReceived fr => frameOk fr
  | .routeEntryWrite w _ _ => writerOk w
  | .generationRetire => true
  | .dictRead req => reqOk req
  | .dictWrite req => reqOk req
  | .dictReadBlock req => reqOk req
  | .dictWriteBlock req => reqOk req
  | .dictSegment p _ _ _ _ _ => pathOk p
  | .dictAck p _ _ => pathOk p
  | .dictCancel p _ => pathOk p
  | .dictOutOfOrderAck p _ => pathOk p
  | .dictResendTimeout p _ => pathOk p
  | .stateRequestPreop w => writerOk w
  | .stateRequestOperate w => writerOk w
  | .stateRequestSafe w => writerOk w
  | .stateRequestOpenMaint w => writerOk w
  | .stateRequestCloseMaint w => writerOk w
  | .stateRequestReset w => writerOk w
  | .deferredReset => true
  | .autoOperateEntry => true
  | .maintIdleExpiry => true
  | .save w _ => writerOk w
  | .saveComplete => true
  | .restoreDefaults w _ => writerOk w
  | .mailboxGo _ _ => true
  | .mailboxResponse _ fr => frameOk fr
  | .mailboxTimeout => true
  | .mailboxDoneClear => true
  | .snapshotGo _ => true
  | .ftimeLoRead => true
  | .lmcLoRead => true
  | .watchdogKick => true
  | .watchdogExpiry => true
  | .ringEnableWrite _ _ => true
  | .ringTailWrite _ _ => true
  | .ringSlotWrite _ => true
  | .msixModerationTimeout _ => true
  | .iwStageWrite _ => true
  | .iwSend _ => true
  | .iwApplyWindowRelease => true
  | .txTailWrite _ => true
  | .txDescriptorTake => true
  | .pcieLinkDown => true
  | .hostReadyWrite _ => true
  | .eventRaise _ _ => true
  | .sourceCfgWrite w _ _ => writerOk w
  | .claimRead _ => true
  | .completeWrite _ _ => true
  | .remoteCompleteWrite w _ => writerOk w
  | .reofferTimeout _ => true
  | .raiseWrite w _ => writerOk w
  | .sidebandAckWrite w _ _ => writerOk w
  | .fenceIssueLocal w _ => writerOk w
  | .fenceIssueImage w _ => writerOk w
  | .fenceIssueTable w _ => writerOk w
  | .fenceIssueRing w _ => writerOk w
  | .fenceLocalDone _ => true
  | .fenceImageDone _ => true
  | .fenceTableDone _ => true
  | .fenceRingReturn _ => true
  | .fenceTimeout _ => true
  | .claimRoundStart => true
  | .claimStartEdge => true
  | .claimRoundEnd wire => roundWireOk wire
  | .claimRow3Entry => true
  | .claimHoldExpiry => true
  | .claimBusTimeout => true
  | .hobHeartbeatWrite => true
  | .twinHeartbeatSend => true
  | .twinHeartbeatReceived fr _ => frameOk fr
  | .pathSilentTimeout _ => true
  | .selftestItemRun _ _ => true
  | .seizeTimeout => true
  | .syncRequestReceived fr _ => frameOk fr
  | .syncBulkReceived fr _ => frameOk fr
  | .syncWriteReceived fr _ => frameOk fr
  | .syncAckReceived fr _ => frameOk fr
  | .handoverRequestWrite w _ => writerOk w
  | .handoverProposeReceived fr _ => frameOk fr
  | .handoverAgreeReceived fr _ => frameOk fr
  | .handoverBoundary => true
  | .handoverAbandon => true
  | .revertHoldoffExpiry => true
  | .faultOccurrence _ _ _ _ => true
  | .faultLiveFall _ => true
  | .faultQuietExpiry _ => true
  | .faultClear w _ => writerOk w
  | .faultForce w _ => writerOk w
  | .faultLatchReset w _ => writerOk w
  | .stormEnd => true
  | .crucibleCommit => true
  | .crucibleTriggerWrite w _ => writerOk w
  | .policyEvaluation _ => true
  | .ruleWrite w _ _ => writerOk w
  | .perturbationStart w _ _ => writerOk w
  | .perturbationStop w _ _ => writerOk w
  | .perturbationExpiry _ => true
  | .perturbationStopAll w _ => writerOk w
  | .coreClockGate => true
  | .corePowerGate => true
  | .coreWake => true
  | .coreEligibilityWake => true
  | .cpWake _ => true
  | .panDozeEntry _ => true
  | .panDarkEntry _ => true
  | .panWake _ => true
  | .panWakeComplete _ => true
  | .vfieldWarning _ => true
  | .vfieldWarningEnd => true
  | .vfieldUndervoltage _ => true
  | .vfieldUndervoltageEnd => true
  | .feedOutOfRange _ _ => true
  | .feedBackInRange _ => true
  | .railCheck _ => true
  | .temperatureCheck _ _ _ => true
  | .branchFastTrip _ => true
  | .branchI2tTrip _ => true
  | .branchSoaTrip _ => true
  | .branchGateTrip _ => true
  | .branchPeerTrip _ => true
  | .branchRampComplete _ => true
  | .branchBackoffExpiry _ => true
  | .branchRetryReset _ => true
  | .branchClear w _ _ => writerOk w
  | .branchEnableWrite w _ _ => writerOk w
  | .branchCommandWrite w _ _ => writerOk w
  | .transitionForge w _ _ => writerOk w
  | .transitionTake w _ _ => writerOk w
  | .transitionTransfer w _ _ => writerOk w
  | .transitionReturn w _ _ => writerOk w
  | .transitionScrap w _ _ => writerOk w
  | .rootTakeover => true
  | .keyLoad _ => true
  | .tagFloorAdvance => true
  | .tagWaitRelease => true
  | .epochCommit w _ => writerOk w
  | .epochRollover => true
  | .keyEpochAge => true
  | .epochAgeZeroise => true
  | .zeroiseWrite w _ => writerOk w
  | .keyLossSafe => true
  | .attestRequest w _ => writerOk w
  | .attestComplete => true
  | .countersignKeyWrite w _ _ => writerOk w
  | .bootLoaderStart _ _ _ => true
  | .firmwareStart => true
  | .updateBegin w => writerOk w
  | .stagingBlockWrite w _ _ => writerOk w
  | .updateWrite w _ => writerOk w
  | .sectorWritten => true
  | .updateConfirm w => writerOk w
  | .updateAbort w => writerOk w
  | .trialWindowExpiry => true
  | .enterRecoveryWrite w _ => writerOk w
  | .recoveryImageBlock w _ _ => writerOk w
  | .recoveryBlockWritten => true
  | .recoveryReboot w => writerOk w
  | .uartFrameReceived _ => true
  | .jtagExtest => true
  | .jtagIdcode => true
  | .jtagSamplePreload => true
  | .jtagClamp => true
  | .jtagHighz => true
  | .jtagCrucibleAddr _ => true
  | .jtagCrucibleData => true
  | .jtagBypass => true
  | .pcieLinkUp _ _ _ => true
  | .sgmiiSyncRegained _ => true
  | .holdoverLimitExpiry => true
  | .candidateListenExpiry => true
  | .ptpMessageSend _ _ => true
  | .ptpLockLost _ => true
  | .canReceiveError _ _ => true
  | .cqInputCrossing _ _ => true
  | .cqCurrentLimit _ => true
  | .iolStartupDelayExpiry _ => true
  | .iolReplyTimeout _ => true
  | .iolMSequenceWake _ => true
  | .samplingWake _ => true
  | .stageCooled _ => true
  | .i2tHalfLevelReached _ => true
  | .dlSlotChangeRelease _ _ => true
  | .lockstepMismatch _ => true
  | .dmaReadCompletion _ _ => true
  | .dmaCompletionTimeout => true

end Sys2Proof
end

