-- ==== Sys2Proof/Certificates/Slice0/Obligations.lean ====
section
/-! DEFINITION. The statements. A clause about a command is written with `Gives`: in every state and for all operands that meet its
hypotheses, the command answers a next state and that state has what follows. -/

open Sys2Proof Sys2Proof.Machine

/-- O1. A step takes the command at the front of the queue and runs it on the state with the queue's rest. -/
def Obligations.StepTakesFront : Prop :=
  ∀ (s : State) (c : Instr) (rest : List Instr), s.pending = c :: rest → step s = exec c { s with pending := rest }

/-- O2. With no command waiting a step lets the clock tick and changes nothing else (DESIGN CHOICE, log 4): an unpowered hub
stays as it is, a held one moves on by 640 half nanoseconds and a running one by 5. -/
def Obligations.EmptyQueueTicks : Prop :=
  (∀ s : State, s.pending = [] → s.run = .unpowered → step s = .next s) ∧
  (∀ s : State, s.pending = [] → s.run = .held → ∃ t, step s = .next t ∧ t.clock = s.clock + 640 ∧ t.regs = s.regs ∧ t.hub = s.hub ∧
    t.field = s.field ∧ t.lines = s.lines ∧ t.pending = []) ∧
  (∀ s : State, s.pending = [] → s.run = .firmware → ∃ t, step s = .next t ∧ t.clock = s.clock + 5 ∧ t.regs = s.regs ∧ t.hub = s.hub ∧
    t.field = s.field ∧ t.lines = s.lines ∧ t.pending = [])

/-- O3. What reset leaves (Tables 1.6, 13.1, 16.1): no command waits, the hub is in INIT, no fault is in FAULT, every object
reads its default, every counter and every count of refused writes is 0; an object whose default the spec does not give reads 0
(DESIGN CHOICE, log 1). -/
def Obligations.ResetState : Prop :=
  State.reset.pending = [] ∧ State.reset.hub.mode = .init ∧ (∀ k : Nat, State.reset.reg k = objDefault k) ∧
    (∀ k : Nat, State.reset.count k = 0) ∧ (∀ k : Nat, State.reset.rejections k = 0) ∧
    (∀ n : Nat, (State.reset.flt n).inFault = false) ∧ (∀ l : Nat, State.reset.swq l = {})

/-- O4. The invariant holds after reset. -/
def Obligations.InvariantAtReset : Prop := Inv State.reset

/-- O5. Every step keeps the invariant, from every state that meets it: the dictionary's tables stay canonical, at most 256
responses are kept (R355), at most 1024 event records wait (R388) and at most 64 turns of own publications are remembered
(R108). -/
def Obligations.InvariantKept : Prop := ∀ s t : State, Inv s → step s = .next t → Inv t

/-- O6. The frame of every command: whatever the state, a command that completes changes at most the parts that `mayChange`
lists for it, and no command changes the queue of those that wait. -/
def Obligations.CommandFrames : Prop :=
  (∀ (c : Instr) (s t : State), exec c s = .next t → Only (mayChange c) s t) ∧
  (∀ c : Instr, Part.pending ∉ mayChange c)

/-- O7. Reset, its release and boot (R14, R28, R348, R494, R513; Table 19.3): RESET_ASSERT leaves the hub held, or unpowered
after a loss of supply, in INIT with LMC going on and the queue of commands untouched; VDD_AON_APPLIED starts LMC at 0;
RESET_RELEASE latches the straps and starts the ROM, or its recovery mode on BOOT_SEL; DEFERRED_RESET resets for its cause and
releases with the same straps; the ROM enters RECOVERY on a loader that fails its check and advances BOOT_COUNT before a good
one; the firmware's start ends in the firmware. -/
def Obligations.ResetAndBoot : Prop :=
  (∀ s : State, s.run = .unpowered → Gives .vddAonApplied s fun t => t.run = .held ∧ t.lmc = 0 ∧ t.regs = s.regs) ∧
  (∀ (s : State) (cause : ResetCause), s.logicOn = true → Gives (.resetAssert cause) s fun t =>
    t.run = (if cause = .supply then .unpowered else .held) ∧ t.hub.mode = .init ∧ t.resetCause = cause ∧
      t.clock = s.clock ∧ t.straps = s.straps ∧ t.pending = s.pending) ∧
  (∀ (s : State) (p : Straps), s.run = .held → p.bootSel = false → s.reg Key.LC_STATE ≠ 4 → s.boot.recover = none →
    Gives (.resetRelease p) s fun t => t.run = .rom ∧ t.straps = p ∧ t.reg Key.COMPAT_EFFECTIVE =
      b2n (p.compat || s.flag Key.COMPAT_REQUEST) ∧ t.clock = s.clock) ∧
  (∀ (s : State) (p : Straps), s.run = .held → p.bootSel = true →
    Gives (.resetRelease p) s fun t => t.run = .recovery ∧ t.straps = p ∧ t.reg Key.REC_CAUSE = 1) ∧
  (∀ (s : State) (at_ : Nat) (cause : ResetCause), s.run = .firmware → s.hub.resetDue = some (at_, cause) →
    Gives .deferredReset s fun t => t.hub.resetDue = none ∧ t.straps = s.straps ∧ t.resetCause = cause ∧ t.hub.mode = .init) ∧
  (∀ (s : State) (imageGood : Bool) (torn : Nat), s.run = .rom →
    Gives (.bootLoaderStart false imageGood torn) s fun t => t.run = .recovery ∧ t.reg Key.REC_CAUSE = 2) ∧
  (∀ s : State, s.run = .rom → s.reg Key.UPD_PHASE = 2 → Gives (.bootLoaderStart true true 0) s fun t =>
    t.run = .recovery ∧ t.reg Key.REC_CAUSE = 4 ∧ t.reg Key.CRU_BOOT = (s.reg Key.CRU_BOOT + 1) % 65536) ∧
  (∀ s : State, s.run = .loader → Gives .firmwareStart s fun t => t.run = .firmware)

/-- O8. The field die and its link to the logic die (R17, R18, R19, R31, R519): a refresh ends a hold and takes the hold time in
force; 100 µs without one hold the outputs, and the hold time later they are at their safe states; a reset of the field die
discards its claim round and its output history; powered up again it drives nothing until the first refresh; and 500 µs without
a health refresh the Hob claims with health 0. -/
def Obligations.FieldDie : Prop :=
  (∀ s : State, s.run = .firmware → s.field.powered = true → Gives .fieldRefresh s fun t =>
    t.field.refreshed = true ∧ t.field.refreshAt = s.lmc ∧ t.field.holding = false ∧
      t.field.holdMs = s.reg Key.PWR_HOLD_TIME_MS ∧ t.lines = s.lines) ∧
  (∀ s : State, s.run = .firmware → s.field.powered = true → s.field.refreshed = false →
    Gives .fieldFirstRefresh s fun t => t.field.refreshed = true ∧ t.field.refreshAt = s.lmc) ∧
  (∀ s : State, s.run = .held → s.field.powered = true → s.field.refreshed = true → s.field.safe = false →
    Gives .fieldRefreshLoss s fun t => t.field.holding = true ∧ t.lines = s.lines ∧ t.fuses = s.fuses ∧ t.regs = s.regs) ∧
  (∀ s : State, s.field.powered = true → s.field.holding = true → Gives .fieldHoldExpiry s fun t =>
    t.field.holding = false ∧ t.field.safe = true ∧ t.hub = s.hub) ∧
  (∀ s : State, s.field.powered = true → Gives .fieldDieReset s fun t =>
    t.field.powered = false ∧ t.field.holdMs = 20 ∧ t.twin.won = none ∧ t.power.pfw = 0) ∧
  (∀ s : State, s.field.powered = false → Gives .fieldDiePowerUp s fun t =>
    t.field.powered = true ∧ t.field.refreshed = false ∧ t.regs = s.regs ∧ t.hub = s.hub) ∧
  (∀ s : State, s.run ≠ .unpowered → s.role ≠ .solo → Gives .hobHealthTimeout s fun t =>
    t.twin.claim = (s.until (s.healthAt + 500000)).claimByte 0 ∧ t.hub = s.hub ∧ t.lines = s.lines) ∧
  (∀ (s : State) (w : Writer) (v : Nat), s.run = .firmware → Accepts s w Key.PWR_HOLD_TIME_MS v →
    Gives (.holdTimeMsWrite w v) s fun t => t.reg Key.PWR_HOLD_TIME_MS = maskValue Key.PWR_HOLD_TIME_MS v ∧ Quiet (s.store Key.PWR_HOLD_TIME_MS v) t) ∧
  (∀ (s : State) (w : Writer) (v : Nat), s.run = .firmware → Accepts s w Key.COMPAT_REQUEST v →
    Gives (.compatRequestWrite w v) s fun t =>
      t.reg Key.COMPAT_REQUEST = v ∧ t.reg Key.COMPAT_EFFECTIVE = s.reg Key.COMPAT_EFFECTIVE ∧
        Quiet (s.setReg Key.COMPAT_REQUEST v) t)

/-- O9. Pluggable modules (R38): an absent module takes its port to DOWN; a module found present is remembered until its
start-up read, which 300 ms later fills in the identification; Fn_LOS takes an UP link to DOWN; a transmitter fault raises
SFP_TX_FAULT; a diagnostics poll stores what it read. -/
def Obligations.Modules : Prop :=
  (∀ (s : State) (f : Fin 4), s.logicOn = true → s.reg (Key.PORT_MEDIUM f) = 0 → s.reg (Key.PORT_STATE f) ≠ 0 →
    Gives (.modulePresenceSample f true) s fun t => t.reg (Key.SFP_PRESENT f) = 0 ∧ t.reg (Key.PORT_STATE f) = 1) ∧
  (∀ (s : State) (f : Fin 4), s.logicOn = true → s.reg (Key.PORT_MEDIUM f) = 0 → s.reg (Key.SFP_PRESENT f) = 0 →
    Gives (.modulePresenceSample f false) s fun t =>
      t = (s.setReg (Key.SFP_PRESENT f) 1).setLink f (fun l => { l with seenAt := some s.lmc })) ∧
  (∀ (s : State) (f : Fin 4) (bytes : List Byte) (seen : Nat), s.logicOn = true → (s.link f).seenAt = some seen →
    (s.link f).startupRead = false → ccBaseOk bytes = true → beAt bytes 0 1 = 3 →
    Gives (.moduleStartupRead f bytes) s fun t => t.reg (Key.SFP_IDENT f) = 3 ∧
      t.reg (Key.SFP_VENDOR f) = beAt bytes 20 16 ∧ t.reg (Key.SFP_PART f) = beAt bytes 40 16 ∧
        t.reg (Key.SFP_MODULE_SERIAL f) = beAt bytes 68 16 ∧ (t.link f).startupRead = true ∧ t.faults = s.faults) ∧
  (∀ (s : State) (f : Fin 4), s.logicOn = true → s.reg (Key.PORT_MEDIUM f) = 0 → s.up f = true →
    Gives (.moduleLosChange f true) s fun t =>
      t.reg (Key.SFP_STATUS f) = setBit (s.reg (Key.SFP_STATUS f)) 4 true ∧ t.reg (Key.PORT_STATE f) = 1) ∧
  (∀ (s : State) (f : Fin 4), s.logicOn = true → s.reg (Key.PORT_MEDIUM f) = 0 →
    Gives (.moduleTxFault f) s fun t => (t.flt (0x018 + f)).live = true ∧ (t.flt (0x018 + f)).inFault = true) ∧
  (∀ (s : State) (f : Fin 4) (bytes : List Byte), s.logicOn = true → s.reg (Key.SFP_PRESENT f) = 1 →
    bitOf (s.reg (Key.SFP_STATUS f)) 0 = true → Gives (.moduleDiagPoll f bytes) s fun t =>
      t.reg (Key.SFP_TEMPERATURE f) = beAt bytes 0 2 ∧ t.reg (Key.SFP_RX_POWER f) = beAt bytes 8 2 ∧
        t.reg (Key.SFP_ALARMS f) = beAt bytes 10 2 ∧ t.reg (Key.SFP_WARNINGS f) = beAt bytes 14 2)

/-- O10. The link of a fabric port (R36, R39, R40, R42; Table 2.3): each event takes the port to the state the table names, a
setting write restarts bring-up, and a version range write is stored. -/
def Obligations.LinkStates : Prop :=
  (∀ (s : State) (w : Writer) (f : Fin 4), Accepts s w (Key.PORT_ENABLE f) 0 →
    Gives (.portEnableWrite w f 0) s fun t => t.reg (Key.PORT_ENABLE f) = 0 ∧ t.reg (Key.PORT_STATE f) = 0) ∧
  (∀ (s : State) (w : Writer) (f : Fin 4) (v : Nat), Accepts s w (Key.PORT_HOLDOFF_MS f) v → s.reg (Key.PORT_STATE f) ≠ 0 →
    Gives (.portSettingWrite w f .holdoff v) s fun t =>
      t.reg (Key.PORT_HOLDOFF_MS f) = maskValue (Key.PORT_HOLDOFF_MS f) v ∧ t.reg (Key.PORT_STATE f) = 1) ∧
  (∀ (s : State) (w : Writer) (v : Nat), Accepts s w Key.LINK_MAX_VERSION v → s.reg Key.LINK_MIN_VERSION ≤ v →
    Gives (.versionRangeWrite w true v) s fun t => t.reg Key.LINK_MAX_VERSION = maskValue Key.LINK_MAX_VERSION v) ∧
  (∀ (s : State) (f : Fin 4), s.logicOn = true → s.reg (Key.PORT_STATE f) = 1 → s.moduleOk f = true → s.settled f = true →
    Gives (.signalDetected f) s fun t => (t.link f).signal = true ∧ t.reg (Key.PORT_STATE f) = 2) ∧
  (∀ (s : State) (f : Fin 4), s.logicOn = true → s.up f = true →
    Gives (.signalLost f) s fun t => (t.link f).signal = false ∧ t.reg (Key.PORT_STATE f) = 1) ∧
  (∀ (s : State) (f : Fin 4), s.logicOn = true → s.reg (Key.PORT_STATE f) = 2 →
    Gives (.blockLock f) s fun t => t.reg (Key.PORT_STATE f) = 3 ∧
      t.reg (Key.PORT_RATE f) = (if (s.link f).attempt = 2 then 2 else 1)) ∧
  (∀ (s : State) (f : Fin 4), s.logicOn = true → s.reg (Key.PORT_STATE f) = 2 →
    Gives (.modeAttemptExpiry f) s fun t => (t.link f).attempt = s.nextMode f ∧
      t.lmc + 10000000 ≤ (t.link f).attemptEnds ∧ (t.link f).attemptEnds ≤ t.lmc + 13000000 ∧ t.regs = s.regs) ∧
  (∀ (s : State) (f : Fin 4), s.logicOn = true → s.reg (Key.PORT_STATE f) = 3 →
    Gives (.linkHelloSend f) s fun t => (t.link f).sentAt = some t.lmc ∧ t.regs = s.regs ∧ t.faults = s.faults) ∧
  (∀ (s : State) (f : Fin 4) (h : Frame) (ver : Nat), s.logicOn = true → s.reg (Key.PORT_STATE f) = 3 → helloValid h = true →
    negotiate (s.reg Key.LINK_MIN_VERSION) (s.reg Key.LINK_MAX_VERSION) (beAt h.payload 2 1) (beAt h.payload 3 1) = some ver →
    bitOf (beAt h.payload 1 1) 7 = true →
    Gives (.linkHelloReceived f h) s fun t => t.reg (Key.PORT_STATE f) = 4 ∧ t.reg (Key.PORT_VERSION f) = ver ∧
      t.reg (Key.PORT_PEER_SERIAL f) = beAt h.payload 8 8 ∧ (t.link f).heardAt = some s.lmc) ∧
  (∀ (s : State) (f : Fin 4), s.logicOn = true → s.reg (Key.PORT_STATE f) = 3 →
    Gives (.helloTimeout f) s fun t => t.reg (Key.PORT_STATE f) = 5 ∧ (t.link f).failures = (s.link f).failures + 1 ∧
      t.count (Key.COUNT_HELLO_TIMEOUTS f) = s.count (Key.COUNT_HELLO_TIMEOUTS f) + 1) ∧
  (∀ (s : State) (f : Fin 4), s.logicOn = true → s.up f = true →
    Gives (.keepaliveTimeout f) s fun t => t.reg (Key.PORT_STATE f) = 1 ∧ t.reg (Key.PORT_RATE f) = 0) ∧
  (∀ (s : State) (f : Fin 4), s.logicOn = true → s.reg (Key.PORT_STATE f) = 5 →
    Gives (.holdoffExpiry f) s fun t => t.reg (Key.PORT_STATE f) = 1)

/-- O11. Frames on the ring links (R47, R48, R51, R52, R54, R56, R58): a received header of the hub's own source station is
stripped; the frame's end is judged; a duplicate entry ages out; an originated TWIN frame goes to the tie link only; a frame
held by the origination limit is released; and the end of an egress frame counts it and frees the port. -/
def Obligations.RingFrames : Prop :=
  (∀ (s : State) (f : Fin 4) (rx : WireFrame), s.logicOn = true → s.up f = true → f.val < 2 → 10 ≤ rx.headerBytes →
    rx.etherType = some s.copper.etherType → stationOf rx.frame.dest ≠ 0 → rx.frame.kind ≠ 9 → s.copper.station ≠ 0 →
    rx.frame.source = s.copper.station →
    Gives (.frameHeaderReceived f rx) s fun t =>
      cellGet (fun _ => none) t.ingress f = some ⟨rx.frame, false, false⟩ ∧ t.tx = s.tx ∧ t.inbox = s.inbox ∧
        t.count (Key.COUNT_STRIPPED f) = s.count (Key.COUNT_STRIPPED f) + 1) ∧
  (∀ (s : State) (f : Fin 4) (rx : WireFrame) (e : Nat), s.logicOn = true → s.up f = true → rx.etherType = some e →
    e ≠ s.copper.etherType → Gives (.frameEndReceived f rx) s fun t =>
      t.count (Key.COUNT_FOREIGN f) = s.count (Key.COUNT_FOREIGN f) + 1 ∧ t.tx = s.tx ∧ t.inbox = s.inbox ∧
        t.regs = s.regs) ∧
  (∀ (s : State) (a : Fin 65536) (e : DupEntry), s.dup a = some e →
    Gives (.dupEntryAgeExpiry a) s fun t => t.dup a = none ∧ ∀ b, b ≠ a.val → t.dup b = s.dup b) ∧
  (∀ (s : State) (fr : Frame), s.logicOn = true → s.inRecovery = false → fr.kind = 9 → s.up 2 = true →
    Gives (.frameOriginate fr) s fun t => s.port 0 = t.port 0 ∧ s.port 1 = t.port 1 ∧ s.port 3 = t.port 3 ∧ t.regs = s.regs) ∧
  (∀ (s : State) (f : Frame) (fs : List Frame), s.origHeld = f :: fs →
    Gives .origCapRelease s fun t => t.origHeld = fs ∧ t.regs = s.regs) ∧
  (∀ (s : State) (f : Fin 4) (e : TxEntry), (s.port f).now = some e → e.whole = true →
    Gives (.egressFrameDone f) s fun t => t.sent = s.sent ++ [(f.val, e.frame)] ∧
      t.count (Key.COUNT_TX_FRAMES f) = s.count (Key.COUNT_TX_FRAMES f) + 1 ∧
        t.count (Key.COUNT_TX_BYTES f) = s.count (Key.COUNT_TX_BYTES f) + e.bytes ∧
          (t.port f).now = (pickNext (s.port f).waiting).map Prod.fst)

/-- O12. The Copper path, the bypass switch and the tie link (R60 to R67, R69): votes and ECC are counted, the self-test's
outcome is stored, the bypass objects take what is written, the settle time ends, credits go back to the peer and come back from
it, a frame without credit is counted once, and the clear command empties the counters it names. -/
def Obligations.CopperAndTie : Prop :=
  (∀ s : State, s.logicOn = true → Gives (.copperVote .voteCorrected) s fun t => t = s.bump Key.COPPER_VOTE_CORRECTED) ∧
  (∀ s : State, s.logicOn = true → Gives (.copperVote .voteFailed) s fun t =>
    (t.flt 0x000).live = true ∧ t.reg Key.COPPER_SELFTEST = 0) ∧
  (∀ (s : State) (ok : Bool), s.logicOn = true → Gives (.copperSelftestDone ok) s fun t =>
    t.reg Key.COPPER_SELFTEST = if ok then 1 else 2) ∧
  (∀ (s : State) (w : Writer) (v : Nat), Accepts s w Key.BYP_COMMAND v →
    Gives (.bypCommandWrite w v) s fun t => t.reg Key.BYP_COMMAND = maskValue Key.BYP_COMMAND v) ∧
  (∀ (s : State) (w : Writer) (pin : Fin 2) (v : Nat), Accepts s w (bypCycles pin) v →
    Gives (.bypCyclesWrite w pin v) s fun t => t.reg (bypCycles pin) = maskValue (bypCycles pin) v) ∧
  (∀ (s : State) (w : Writer) (v : Nat), Accepts s w Key.BYP_RATED_CYCLES v →
    Gives (.ratedCyclesWrite w false v) s fun t => t.reg Key.BYP_RATED_CYCLES = maskValue Key.BYP_RATED_CYCLES v) ∧
  (∀ (s : State) (at_ : Nat), s.settleEnds = some at_ → Gives .settleTimeExpiry s fun t => t.settleEnds = none ∧ at_ ≤ t.lmc) ∧
  (∀ (s : State) (at_ : Nat), s.tie.firstUnreturned = some at_ → s.up 2 = true →
    Gives .creditReturnTimeout s fun t => t.tie.returned = s.tie.freed ∧ t.tie.firstUnreturned = none ∧ t.regs = s.regs) ∧
  (∀ (s : State) (fr : Frame), s.logicOn = true → s.up 2 = true → fr.kind = 10 → beAt fr.payload 0 1 = 2 → s.tie.held = [] →
    Gives (.creditReceived fr) s fun t => t.tie.seenFreed = beAt fr.payload 2 2 ∧
      t.tie.tx = min 256 (s.tie.tx + seqBehind (beAt fr.payload 2 2) s.tie.seenFreed) ∧ t.tx = s.tx ∧ t.regs = s.regs) ∧
  (∀ (s : State) (e : TxEntry) (since : Nat), s.tie.held = [(e, since, false)] →
    Gives .creditStallTimeout s fun t => t.tie.held = [(e, since, true)] ∧
      t.count (Key.COUNT_CREDIT_STALL 2) = s.count (Key.COUNT_CREDIT_STALL 2) + 1) ∧
  (∀ (s : State) (w : Writer) (f : Fin 4), Accepts s w Key.LINK_COUNTER_CLEAR (2 ^ f.val) →
    Gives (.linkCounterClearPort w (2 ^ f.val)) s fun t => (∀ k, k / 256 = 0x118 + f.val → trafficCounter k = false →
      t.count k = 0) ∧ Quiet (s.linkClear (2 ^ f.val)) t) ∧
  (∀ (s : State) (w : Writer), Accepts s w Key.LINK_COUNTER_CLEAR 128 →
    Gives (.linkCounterClearGlobal w 128) s fun t => (∀ k, k / 256 = 0x11D → trafficCounter k = false → t.count k = 0) ∧
      t.regs = s.regs)

/-- O13. Discovery: the election and the rounds (R71, R72, R73, R74, R75, R77, R82): a cause starts a new round with the hub's
own candidate; a newer round is entered; the quiet candidate becomes root; a relaying hub takes its roll position; the root
turns the returned ROLL into ASSIGN and the returned ASSIGN into the round's completion. -/
def Obligations.DiscoveryRounds : Prop :=
  (∀ s : State, s.logicOn = true → s.disc.want = true → Gives .discRoundStart s fun t =>
    t.disc.want = false ∧ t.disc.electing = true ∧ t.reg Key.DISC_STATE = 1) ∧
  (∀ s : State, s.logicOn = true → Gives .assignAbsenceTimeout s fun t =>
    t.disc.electing = true ∧ t.reg Key.DISC_STATE = 1 ∧ s.disc.lastAssign + 3 * s.reg Key.DISC_SWEEP_MS * 1000000 ≤ t.lmc) ∧
  (∀ (s : State) (f : Fin 4) (fr : Frame), s.logicOn = true → f.val < 2 →
    olderRound (s.reg Key.DISC_ROUND) (roundOf fr) = true → olderRound (roundOf fr) (s.reg Key.DISC_ROUND) = false →
    Gives (.electReceived f fr) s fun t => t.reg Key.DISC_ROUND = roundOf fr ∧ t.disc.electing = true ∧
      t.disc.lastElect = s.lmc) ∧
  (∀ s : State, s.logicOn = true → s.disc.electing = true → s.disc.bestPriority = s.reg Key.DISC_ROOT_PRIORITY →
    s.disc.bestSerial = s.reg Key.ID_SERIAL → Gives .rootQuietExpiry s fun t =>
      t.disc.root = true ∧ t.disc.electing = false ∧ t.reg Key.DISC_STATE = 2 ∧ t.reg Key.DISC_ROOT_SERIAL = s.reg Key.ID_SERIAL) ∧
  (∀ (s : State) (fr : Frame), s.logicOn = true → s.disc.root = false →
    olderRound (roundOf fr) (s.reg Key.DISC_ROUND) = false → Gives (.rollReceived 0 fr) s fun t =>
      t.reg Key.DISC_ROUND = roundOf fr ∧ t.reg Key.ADDR_ROLL_POSITION = beAt fr.payload 4 2 ∧ t.disc.electing = false) ∧
  (∀ (s : State) (fr : Frame) (pins : List RollPin), s.logicOn = true → s.disc.root = true → s.disc.rollAt.isSome = true →
    roundOf fr = s.reg Key.DISC_ROUND → Gives (.rollReturn 0 fr pins) s fun t =>
      t.reg Key.DISC_HUB_COUNT = beAt fr.payload 4 2 ∧ t.disc.rollAt = none ∧ t.disc.assignAt = some s.lmc ∧
        t.reg Key.DISC_ROUND = s.reg Key.DISC_ROUND) ∧
  (∀ (s : State) (fr : Frame), s.logicOn = true → s.disc.root = true → s.disc.assignAt.isSome = true →
    roundOf fr = s.reg Key.DISC_ROUND → Gives (.assignReturn 0 fr) s fun t =>
      t.assigned = true ∧ t.clock = s.clock ∧ t.role = s.role) ∧
  (∀ (s : State) (fr : Frame), s.logicOn = true → s.disc.root = true → fr.source = s.station →
    Gives (.lapReturn 0 fr) s fun t => t.disc.lap = max s.disc.lap (s.lmc - beAt fr.payload 4 8) ∧ t.regs = s.regs) ∧
  (∀ s : State, s.logicOn = true → s.disc.root = true → s.disc.rollAt = none → s.disc.assignAt = none →
    Gives .sweepTimer s fun t => t.disc.rollAt = some t.lmc) ∧
  (∀ (s : State) (at_ : Nat), s.logicOn = true → s.disc.root = true → s.disc.rollAt = some at_ →
    Gives .ringOpenTimeout s fun t => t.disc.rollAt = none ∧ t.reg Key.DISC_RING_OPEN = 1 ∧ (t.flt 0x02E).live = true)

/-- O14. Discovery: what stations take and tell (R77, R80, R86, R87, R91): a hub takes its station from ASSIGN; the RESTART of
another hub clears that hub's duplicate entry, and an unanswered one of its own ends the wait; an announcement of another ring
is kept as a proxy; a rate change takes F0 and F1 down; coupler adverts are sent and kept. -/
def Obligations.DiscoveryStations : Prop :=
  (∀ (s : State) (fr : Frame), s.logicOn = true → s.disc.root = false →
    olderRound (roundOf fr) (s.reg Key.DISC_ROUND) = false → Gives (.assignReceived 0 fr) s fun t =>
      t.assigned = true ∧ t.clock = s.clock ∧ t.role = s.role) ∧
  (∀ (s : State) (fr : Frame), s.logicOn = true → beAt fr.payload 4 8 ≠ s.reg Key.ID_SERIAL →
    Gives (.restartReceived 0 fr) s fun t => t.dup (beAt fr.payload 2 2) = none ∧ t.regs = s.regs) ∧
  (∀ (s : State) (at_ : Nat), s.disc.restartAt = some at_ → Gives .restartTimeout s fun t =>
    (t.flt 0x02A).inFault = true ∧ at_ + 2 * s.reg Key.LINK_LAP_NS + 1000000 ≤ t.lmc) ∧
  (∀ (s : State) (f : Fin 4) (fr : Frame), s.logicOn = true → ringOf (beAt fr.payload 4 2) ≠ ringOf s.station →
    cellGet (fun _ => none) s.disc.proxies (beAt fr.payload 4 2) = some (announceOf fr.payload) →
    Gives (.announceReceived f fr) s fun t => t = s.take f fr) ∧
  (∀ (s : State) (at_ : Nat), s.disc.rateAt = some at_ → s.reg (Key.PORT_STATE 0) ≠ 0 → s.reg (Key.PORT_STATE 1) ≠ 0 →
    Gives .rateChangeDown s fun t => t.disc.rateAt = none ∧ t.reg (Key.PORT_STATE 0) = 1 ∧ t.reg (Key.PORT_STATE 1) = 1) ∧
  (∀ s : State, s.logicOn = true → s.isCoupler = true → Gives .couplerAdvertSend s fun t =>
    t.disc.advertAt = some t.lmc ∧ t.disc.advertDue = false) ∧
  (∀ (s : State) (fr : Frame), s.logicOn = true → Gives (.couplerAdvertReceived 3 fr) s fun t =>
    t.disc.farAdvert = some ⟨bitOf (beAt fr.payload 1 1) 0, bitOf (beAt fr.payload 1 1) 1, beAt fr.payload 2 1,
      advertRings (fr.payload.drop 4) (beAt fr.payload 3 1)⟩)

/-- O15. Turns, publication and the map (R98 to R108, R122, R124, R131): a turn boundary starts the next turn; the node's slot
publishes the sampled window and enters it in the history, or is only counted while shed; a due rebuild places the windows; a
snapshot ends by advancing SEQ; a BAR2 write is only counted. -/
def Obligations.TurnsAndPublication : Prop :=
  (∀ s : State, s.fwOn = true → Gives .turnBoundary s fun t =>
    t.img.turn = some (s.nextBoundary.1 / turnNs s.nextBoundary.2) ∧ t.img.exp = some s.nextBoundary.2 ∧
        t.reg Key.IMG_TURN_NUMBER = s.nextBoundary.1 / turnNs s.nextBoundary.2 % 2 ^ 32) ∧
  (∀ (s : State) (n : Nat), s.fwOn = true → s.role ≠ .standby → s.station ≠ 0 → s.ownWindow.isSome = true →
    s.img.turn = some n → s.img.slotDone ≠ some n → s.img.shed = false → Gives .publishSlot s fun t =>
      t.img.slotDone = some n ∧ t.img.published = some n ∧ t.hist = ((n, s.img.sampled) :: s.hist).take 64) ∧
  (∀ (s : State) (n : Nat), s.fwOn = true → s.role ≠ .standby → s.station ≠ 0 → s.ownWindow.isSome = true →
    s.img.turn = some n → s.img.slotDone ≠ some n → s.img.shed = true → Gives .publishSlot s fun t =>
      t.img.slotDone = some n ∧ t.count Key.IMGCNT_SHED_TURNS = s.count Key.IMGCNT_SHED_TURNS + 1 ∧ t.hist = s.hist) ∧
  (∀ (s : State) (at_ : Nat), s.logicOn = true → s.img.rebuildDue = some at_ → Gives .mapRebuildTimeout s fun t =>
    t.img.mapped = true ∧ t.img.rebuildDue = none ∧ t.img.builtFor = s.disc.assigns) ∧
  (∀ (s : State) (a n : Nat), s.host.snap = some (a, n) → n ≤ 64 → Gives .snapshotComplete s fun t =>
    t.host.snap = none ∧ t.bar 0x204 = (s.bar 0x204 % 65536 + 1) % 65536 ∧ t.regs = s.regs ∧ t.mirror = s.mirror) ∧
  (∀ s : State, s.logicOn = true → Gives .bar2Write s fun t => t = s.bump Key.IMGCNT_BAR2_WRITES)

/-- O16. Image frames, writes and the apply instant (R109, R110, R116 to R120, R127, R128): a mapped source's frame enters its
runs in the mirror; a write in OPERATE waits in the pending buffer; the apply instant commits and empties it; a coupler's import
request, grant and answer are kept; and a force, its release and the release of all act on the forced words. -/
def Obligations.ImageAndForces : Prop :=
  (∀ (s : State) (f : Fin 4) (fr : Frame) (tag : TagCheck) (w : Window) (rs : List (Nat × List Nat)), s.logicOn = true →
    beAt fr.payload 0 1 / 16 = 1 → fr.tagged = false → s.reg Key.IMG_IMAGE_AUTH = 0 → s.windowOf fr.source = some w →
    readRuns (beAt fr.payload 1 1) (fr.payload.drop 3) = some rs → w.turn = none →
    Gives (.imageFrameReceived f fr tag) s fun t =>
      t.mirror = (rs.foldl (fun u r => u.mirrorRun w (fullTurn (s.now / turnNs w.turnExp) fr.turn) r) s).mirror ∧
        t.count Key.IMGCNT_FRAMES_RECEIVED = s.count Key.IMGCNT_FRAMES_RECEIVED + 1 ∧ t.regs = s.regs) ∧
  (∀ (s : State) (fr : Frame) (tag : TagCheck) (rs : List (Nat × List Nat)), s.fwOn = true → s.hub.mode = .operate →
    beAt fr.payload 0 1 / 16 = 1 → readRuns (beAt fr.payload 1 1) (fr.payload.drop 4) = some rs →
    s.ftime.toNat ≠ s.applyAt s.turnNow → Gives (.imageWriteReceived 4 fr tag) s fun t =>
      t.img.waiting = (rs.foldl (takeRun (s.mapEntries 0x203) (s.reg Key.WIN_SUB_WORDS)) { buf := s.img.waiting }).buf ∧
        t.regs = s.regs ∧ t.mirror = s.mirror ∧ t.lines = s.lines) ∧
  (∀ s : State, s.fwOn = true → Gives .applyInstant s fun t =>
    t.img.waiting = s.img.waitingNext ∧ t.img.waitingNext = [] ∧ t.img.applied = some s.nextApply) ∧
  (∀ s : State, s.fwOn = true → s.hub.mode = .operate → Gives .applyWake s fun t =>
    (s.applyAt s.nextApply : Int) - 7000 ≤ t.ftime ∧ t.img = s.img) ∧
  (∀ s : State, s.fwOn = true → s.isCoupler = true → s.imports ≠ [] → Gives .importRequestSend s fun t =>
    t.img.requestAt = some t.lmc ∧ t.img.requestDue = false ∧ t.regs = s.regs) ∧
  (∀ (s : State) (fr : Frame), s.fwOn = true → s.isCoupler = true → Gives (.importRequestReceived 3 fr) s fun t =>
    t.img.asked = requestAddrs fr.payload ∧ t.regs = s.regs ∧ t.mirror = s.mirror) ∧
  (∀ (s : State) (fr : Frame), s.fwOn = true → s.isCoupler = true → Gives (.importGrantReceived 3 fr) s fun t =>
    t.img.granted.map Prod.fst = (grantsOf fr.payload).map Prod.fst ∧ t.img.wins = s.img.wins ∧ t.regs = s.regs) ∧
  (∀ (s : State) (w : Writer), s.fwOn = true → Accepts s w Key.FORCE_COMMAND 1 →
    s.reg Key.FORCE_OFFSET < s.reg Key.WIN_PUB_WORDS → Gives (.forceWord w) s fun t =>
      cellGet (fun _ => none) t.img.forces (s.reg Key.FORCE_OFFSET) = some (s.reg Key.FORCE_VALUE) ∧
        (∀ o, o ≠ s.reg Key.FORCE_OFFSET →
          cellGet (fun _ => none) t.img.forces o = cellGet (fun _ => none) s.img.forces o) ∧ t.mirror = s.mirror) ∧
  (∀ (s : State) (w : Writer), s.fwOn = true → Accepts s w Key.FORCE_COMMAND 2 → Gives (.forceRelease w) s fun t =>
    cellGet (fun _ => none) t.img.forces (s.reg Key.FORCE_OFFSET) = none ∧ t.mirror = s.mirror) ∧
  (∀ (s : State) (w : Writer), s.fwOn = true → Accepts s w Key.FORCE_COMMAND 3 → Gives (.forceReleaseAll w) s fun t =>
    t.img.forces = [] ∧ t.reg Key.FORCED_COUNT = 0 ∧ t.mirror = s.mirror)

/-- O17. Fabric time: candidates, SYNC and steps (R136, R137, R138, R143, R146, R147, R150): what is heard is kept, what is not
heard is dropped, and the state and FTIME follow. -/
def Obligations.FabricTime : Prop :=
  (∀ s : State, s.logicOn = true → s.time.listened = false → Gives .candidateListenExpiry s fun t => t.time.listened = true) ∧
  (∀ (s : State) (at_ : Nat), s.time.extLostAt = some at_ → Gives .holdoverLimitExpiry s fun t => t.time.extLostAt = none) ∧
  (∀ (s : State) (c : Cand), s.logicOn = true → s.announcedCand = some c → Gives .candidateSend s fun t =>
    t.time.candAt = t.lmc) ∧
  (∀ (s : State) (f : Fin 4) (fr : Frame), s.logicOn = true → f.val ≠ 3 → Gives (.candidateReceived f fr) s fun t =>
    cellGet (fun _ => none) t.time.cands (beAt fr.payload 8 8) = some ⟨beAt fr.payload 2 1, beAt fr.payload 3 1,
      beAt fr.payload 4 1, beAt fr.payload 16 8, s.lmc, false⟩) ∧
  (∀ (s : State) (serial : Nat) (c : Cand), s.logicOn = true → s.time.cands = [(serial, some c)] →
    Gives .candidateExpiry s fun t => t.time.cands = [] ∧ s.lmc ≤ t.lmc) ∧
  (∀ s : State, s.logicOn = true → s.reg Key.TSTAT_TIME_STATE = 4 → Gives .syncSend s fun t =>
    t.time.syncAt = t.lmc ∧ t.regs = s.regs) ∧
  (∀ (s : State) (f : Fin 4) (fr : Frame) (rx : Int), s.logicOn = true → f.val ≠ 3 →
    beAt fr.payload 24 8 = s.reg Key.TSTAT_MASTER_SERIAL → s.reg Key.TSTAT_TIME_STATE ≠ 4 →
    s.reg Key.PERT_RUNNING = 0 → Gives (.syncReceived f fr rx) s fun t => t.time.lastSync = s.lmc ∧ t.time.utc = beAt fr.payload 22 2 ∧
      t.count Key.TSTAT_SYNCS_RECEIVED = s.count Key.TSTAT_SYNCS_RECEIVED + 1) ∧
  (∀ s : State, s.logicOn = true → s.reg Key.TSTAT_TIME_STATE = 2 → Gives .syncTimeout s fun t =>
    t.reg Key.TSTAT_TIME_STATE = 3 ∧ s.time.lastSync + 3 * syncNs s.time.masterExp ≤ t.lmc) ∧
  (∀ (s : State) (w : Writer), Accepts s w Key.TIME_STEP_ACCEPT 1 → Gives (.stepAcceptWrite w 1) s fun t =>
    t.time.stepArmed = true ∧ Quiet { s with time := { s.time with stepArmed := true } } t) ∧
  (∀ (s : State) (w : Writer) (v : Nat), Accepts s w Key.TIME_SET_TIME v → s.reg Key.TSTAT_TIME_STATE = 4 →
    s.time.ext = none → Gives (.setTimeWrite w v) s fun t => t.ftime = toSigned 64 v ∧ t.clock = s.clock) ∧
  (∀ s : State, s.logicOn = true → s.isCoupler = true → s.up 3 = true → s.reg Key.TSTAT_TIME_STATE = 4 →
    Gives .couplerTimeSend s fun t => t.time.farSyncAt = t.lmc ∧ t.regs = s.regs)

/-- O18. Peer delay and IEEE 1588 (R136, R140, R151, R152): a request is remembered until it is answered or 10 ms pass; a
request of the neighbour is answered with the stamp of its reception; an edge port's state and grandmaster follow what the
message means, and a lost lock starts the holdover. -/
def Obligations.PeerDelayAndPtp : Prop :=
  (∀ (s : State) (f : Fin 4), s.logicOn = true → s.up f = true → Gives (.pdelayReqSend f) s fun t =>
    (t.pd f).id = ((s.pd f).id + 1) % 65536 ∧ (t.pd f).sentAt = some t.lmc ∧ t.regs = s.regs) ∧
  (∀ (s : State) (f : Fin 4) (fr : Frame) (rx : Int), s.logicOn = true → s.up f = true → f.val ≠ 2 → (s.port f).now = none →
    Gives (.pdelayReqReceived f fr rx) s fun t => t.regs = s.regs ∧ t.time = s.time ∧ ∃ e rest, (t.port f).now = some e ∧
      e.frame.payload = [4, 0] ++ beBytes 2 (beAt fr.payload 2 2) ++ stampBytes (s.rxStamp f rx) ++ rest) ∧
  (∀ (s : State) (f : Fin 4) (fr : Frame) (rx : Int), s.logicOn = true → (s.pd f).sentAt.isSome = true →
    beAt fr.payload 2 2 = (s.pd f).id → Gives (.pdelayRespReceived f fr rx) s fun t =>
      (t.pd f).sentAt = none ∧ (t.pd f).misses = 0 ∧ (t.flt 0x04B).live = false) ∧
  (∀ (s : State) (f : Fin 4) (at_ : Nat), (s.pd f).sentAt = some at_ → Gives (.pdelayTimeout f) s fun t =>
    (t.pd f).sentAt = none ∧ (t.pd f).misses = (s.pd f).misses + 1 ∧
      t.count (Key.PTIME_PDELAY_FAILS f) = s.count (Key.PTIME_PDELAY_FAILS f) + 1) ∧
  (∀ (s : State) (e : Fin 8) (m : PtpMsg), s.logicOn = true → s.ptpOn e = true → m.portState ≠ 9 → m.portState < 16 →
    Gives (.ptpMessageReceived e m) s fun t => t = s.setReg Key.PTP_PORT_STATES
      (setFld (s.reg Key.PTP_PORT_STATES) (4 * e + 3) (4 * e) m.portState)) ∧
  (∀ (s : State) (e : Fin 8) (m : PtpMsg), s.logicOn = true → s.ptpOn e = true → m.portState = 9 → s.slaveOk e = true →
    m.locked = false → m.offset = none → Gives (.ptpMessageReceived e m) s fun t => t.reg Key.PTP_GM_IDENTITY = m.gm) ∧
  (∀ (s : State) (e : Fin 8) (kind : Fin 16), s.logicOn = true → s.ptpOn e = true → s.ptpState e = 6 →
    Gives (.ptpMessageSend e kind) s fun t => t.time.ptpSent.length = s.time.ptpSent.length + 1 ∧
      t.time.cands = s.time.cands ∧ t.regs = s.regs ∧ t.tx = s.tx) ∧
  (∀ (s : State) (e : Fin 8), s.logicOn = true → s.time.ext.isSome = true → s.time.extPort = e.val →
    Gives (.ptpLockLost e) s fun t => t.time.ext = none ∧ t.time.extLostAt = some s.lmc)

/-- O19. Timer units and captures (R153 to R156, R158, R159, R285): an accepted arm record at least 50 µs ahead arms the unit
for its start; a disarm stops a unit with no pulse in progress and lets a pulse end first; the instant fires no earlier than it
is due; the end of a pulse clears it; an edge at a PX pin is counted; and a flush empties the Pan's capture queue. -/
def Obligations.TimersAndCaptures : Prop :=
  (∀ (s : State) (w : Writer) (u : Fin 64) (r : Nat), Accepts s w (Key.TIMER_ARM_RECORD u) r → s.ftime + 50000 ≤ armStart r →
    s.armBad r = false → s.armConflict u r = false → Gives (.armRecordWrite w u r) s fun t =>
      t.reg (Key.TIMER_STATE u) = 1 ∧ t.reg (Key.TIMER_NEXT_INSTANT u) = ofSigned 64 (armStart r) ∧ t.timer u = {} ∧
        t.lines = s.lines) ∧
  (∀ (s : State) (w : Writer) (u : Fin 64), Accepts s w (Key.TIMER_DISARM u) 1 → s.reg (Key.TIMER_STATE u) ≠ 2 →
    Gives (.timerDisarm w u 1) s fun t => Quiet (s.timerStop u 0) t) ∧
  (∀ (s : State) (w : Writer) (u : Fin 64), Accepts s w (Key.TIMER_DISARM u) 1 → s.reg (Key.TIMER_STATE u) = 2 →
    Gives (.timerDisarm w u 1) s fun t => Quiet (s.setTimer u { s.timer u with disarming := true }) t) ∧
  (∀ (s : State) (u : Fin 64) (n : Nat), armPan (s.arm u) = some n → s.reg (Key.TIMER_STATE u) = 1 → s.logicOn = true →
    Gives (.timerPrewake u) s fun t => t = s.panWindow n (toSigned 64 (s.reg (Key.TIMER_NEXT_INSTANT u)))) ∧
  (∀ (s : State) (u : Fin 64), s.logicOn = true → s.reg (Key.TIMER_STATE u) = 1 → Gives (.timerInstant u) s fun t =>
    toSigned 64 (s.reg (Key.TIMER_NEXT_INSTANT u)) ≤ t.ftime ∧
      t.count (Key.TIMER_FIRED u) = s.count (Key.TIMER_FIRED u) + 1) ∧
  (∀ (s : State) (u : Fin 64) (at_ : Int), (s.timer u).pulseEnd = some at_ → Gives (.pulseEnd u) s fun t =>
    (t.timer u).pulseEnd = none ∧ at_ ≤ t.ftime) ∧
  (∀ (s : State) (x : Fin 64) (rising : Bool), s.logicOn = true → (s.px x).level ≠ rising → s.reg (Key.PX_MODE x) ≠ 0 →
    Gives (.pxPinEdge x rising) s fun t =>
      t.count (Key.PX_EDGES x) = s.count (Key.PX_EDGES x) + 1 ∧ t.time = s.time ∧
        (bitOf (s.reg (if rising then Key.CAP_PX_RISE (x / 4) else Key.CAP_PX_FALL (x / 4))) (x % 4) = false →
          (t.px x).level = rising)) ∧
  (∀ (s : State) (w : Writer) (n : Fin 16), Accepts s w (Key.CAP_FLUSH n) 1 → Gives (.captureFlush w n 1) s fun t =>
    Quiet (s.setQueue n 24 {}) t)

/-- O20. Queues (R164, R168, R169, R171 to R174, R176): the words of a packet wait until the END word makes it visible; a word
for a queue with no room loses the packet and is counted; a LOSS marker is written when it fits; the HOST reads and removes the
oldest item, or pops a narrow item in compatibility mode; it fills the latch and pushes it; and the commands of a queue empty
it, skip a packet, or resize it. -/
def Obligations.Queues : Prop :=
  (∀ (s : State) (n : Fin 16) (q : Fin 25) (tag data : Nat), s.logicOn = true → (s.queue n q).dropping = false →
    s.qFits n q { s.queue n q with writing := [] } ((s.queue n q).writing.length + 1) = true →
    (QItem.mk (tag % 256) (data % 2 ^ 64)).isEnd = false → Gives (.queueProducerWrite n q tag data) s fun t =>
      t = s.setQueue n q { s.queue n q with writing := (s.queue n q).writing ++ [⟨tag % 256, data % 2 ^ 64⟩] }) ∧
  (∀ (s : State) (n : Fin 16) (q : Fin 25) (tag data : Nat), s.logicOn = true → (s.queue n q).dropping = false →
    s.qFits n q { s.queue n q with writing := [] } ((s.queue n q).writing.length + 1) = false →
    Gives (.queueProducerWrite n q tag data) s fun t =>
      t.count (Key.PQC_COUNTS n (4 * q)) = s.count (Key.PQC_COUNTS n (4 * q)) + 1 ∧
        (t.queue n q).packets = (s.queue n q).packets ∧ (t.queue n q).lost = (s.queue n q).lost + 1) ∧
  (∀ (s : State) (n : Fin 16) (q : Fin 25), s.logicOn = true → (s.queue n q).lost ≠ 0 → q.val ≠ 24 →
    s.qFits n q (s.queue n q) 1 = true → Gives (.lossMarkerWrite n q) s fun t => (t.queue n q).lost = 0 ∧
      (t.queue n q).packets = (s.queue n q).packets ++ [[lossItem (s.queue n q)]]) ∧
  (∀ (s : State) (n : Fin 16) (q : Fin 25) (i : QItem) (is : List QItem) (ps : List (List QItem)), s.logicOn = true →
    s.qConsumer n q = 1 → s.compat = false → s.qHeld n q = false → (s.qFront n q).packets = (i :: is) :: ps →
    Gives (.queueTagRead n q false) s fun t => (t.queue n q).latch = i ∧
      (t.queue n q).packets = (if is.isEmpty then ps else is :: ps) ∧ t.busReads = s.busReads ++ [⟨4, blockOffset n q,
        (t.queue n q).packets.length % 65536 * 65536 + i.tag⟩]) ∧
  (∀ (s : State) (n : Fin 16) (q : Fin 25) (v : Nat), s.logicOn = true → s.qConsumer n q = 1 → isTransmit q = true →
    Gives (.queueDataWrite n q true v) s fun t => t = s.setQueue n q { s.queue n q with latch := { (s.queue n q).latch with
      data := v % 2 ^ 32 * 2 ^ 32 + (s.queue n q).latch.data % 2 ^ 32 } }) ∧
  (∀ (s : State) (n : Fin 16) (q : Fin 25) (hi : Bool) (v : Nat), s.logicOn = true → s.qConsumer n q ≠ 1 →
    Gives (.queueDataWrite n q hi v) s fun t => t = s.bump (Key.PQC_COUNTS n (4 * q + 3))) ∧
  (∀ (s : State) (n : Fin 16) (q : Fin 25) (tag : Nat), s.logicOn = true → s.qConsumer n q = 1 → isTransmit q = true →
    Gives (.queueTagWrite n q tag) s fun t => t = s.qWrite n q ⟨tag % 256, (s.queue n q).latch.data⟩) ∧
  (∀ (s : State) (n : Fin 16) (q : Fin 25) (i : QItem) (is : List QItem) (ps : List (List QItem)), s.logicOn = true →
    s.qConsumer n q = 1 → s.compat = true → s.qHeld n q = false → (s.queue n q).packets = (i :: is) :: ps →
    itemsIn (s.qWidth n q) i ≤ (s.queue n q).lane + 1 → Gives (.queueDataLoPop n q) s fun t =>
      (t.queue n q).packets = (if is.isEmpty then ps else is :: ps) ∧ (t.queue n q).lane = 0 ∧
        t.busReads = s.busReads ++ [⟨4, blockOffset n q + 8, laneOf (s.qWidth n q) i.data (s.queue n q).lane⟩]) ∧
  (∀ (s : State) (w : Writer) (n : Fin 16) (q : Fin 25), Accepts s w (Key.PQX_QCOMMAND n q) 1 → (s.queue n q).packets ≠ [] →
    Gives (.queueFlushCommand w n q 1) s fun t => Quiet (s.setQueue n q { s.queue n q with flushing := true }) t) ∧
  (∀ (s : State) (n : Fin 16) (q : Fin 25), (s.queue n q).flushing = true → Gives (.queueFlushComplete n q) s fun t =>
    t = s.setQueue n q { s.queue n q with packets := [], reading := false, flushing := false, lane := 0 }) ∧
  (∀ (s : State) (w : Writer) (n : Fin 16) (q : Fin 25), Accepts s w (Key.PQX_QCOMMAND n q) 2 → (s.queue n q).reading = true →
    Gives (.queueSkipCommand w n q 2) s fun t =>
      Quiet (s.setQueue n q { s.queue n q with packets := (s.queue n q).packets.tail, reading := false, lane := 0 }) t) ∧
  (∀ (s : State) (w : Writer) (n : Fin 16) (q : Fin 25) (v : Nat), Accepts s w (Key.PQ_QCONFIG n q) v →
    qConfigCheck n q v s = none → v % 512 ≠ s.qConfig n q % 512 → Gives (.queueConfigWrite w n q v) s fun t =>
      t.reg (Key.PQ_QCONFIG n q) = maskValue (Key.PQ_QCONFIG n q) v ∧ t.queue n q = {} ∧ ∀ m p, (m, p) ≠ (n.val, q.val) →
        p < 32 → t.queue m p = s.queue m p)

/-- O21. Discrete lines: modes and inputs (R178, R180 to R184, R200): a mode write starts the line afresh with its counters at
0; a raw crossing is remembered; the end of the debounce accepts the level and counts the edge; a measured delay is stored; a
counter edge counts modulo 2^32; and a Pan with a published counter is woken for the next boundary. -/
def Obligations.LineInputs : Prop :=
  (∀ (s : State) (w : Writer) (i : Fin 256) (v : Nat), Accepts s w (Key.DL_MODE i) v → s.budgetCheck (Key.DL_MODE i) v = none →
    s.loadCheck i (Key.DL_MODE i) v = none → Gives (.dlModeWrite w i v) s fun t =>
      t.reg (Key.DL_MODE i) = maskValue (Key.DL_MODE i) v ∧ t.reg (Key.DL_COUNT i) = 0 ∧ t.count (Key.DL_EDGES i) = 0 ∧
        (t.line i).known = false ∧ (t.line i).trips = 0 ∧ (t.line i).off = false) ∧
  (∀ (s : State) (i : Fin 256) (level : Bool), s.field.powered = true → (s.line i).raw ≠ level →
    Gives (.dlRawCrossing i level) s fun t => (t.line i).raw = level ∧ (t.line i).rawAt = s.lmc ∧
      (t.line i).accepted = (s.line i).accepted ∧ t.regs = s.regs) ∧
  (∀ (s : State) (i : Fin 256), s.field.powered = true → s.lineMode i = 1 ∨ s.lineMode i = 2 →
    (s.line i).raw ≠ (s.line i).accepted → Gives (.debounceComplete i) s fun t =>
      (t.line i).accepted = (s.line i).raw ∧ (t.line i).known = true ∧ (s.line i).rawAt + s.debounceNs i ≤ t.lmc ∧
        t.count (Key.DL_EDGES i) = s.count (Key.DL_EDGES i) + 1) ∧
  (∀ (s : State) (i : Fin 256) (ps : Nat), s.field.powered = true → s.logicOn = true →
    Gives (.inDelayMeasure i ps) s fun t => t.reg (Key.DL_IN_DELAY i) = ps % 2 ^ 32 ∧
      bitOf (t.reg (Key.DL_CAL_STATE i)) 2 = true ∧ t.lines = s.lines) ∧
  (∀ (s : State) (i : Fin 256) (rising : Bool), s.field.powered = true → s.lineMode i = 3 → (s.line i).accepted ≠ rising →
    Gives (.dlCounterEdge i rising) s fun t => (t.line i).accepted = rising ∧ t.reg (Key.DL_COUNT i) =
      (if bitOf (s.reg (Key.DL_COUNT_EDGES i)) (if rising then 0 else 1) then (s.reg (Key.DL_COUNT i) + 1) % 2 ^ 32
       else s.reg (Key.DL_COUNT i))) ∧
  (∀ (s : State) (n : Fin 16) (j : Fin 16), s.logicOn = true → s.hub.mode = .operate → s.lineMode (16 * n + j) = 3 →
    s.pubBound (Key.DL_COUNT (16 * n + j)) = true → Gives (.samplingWake n) s fun t =>
      (t.pan n).window.isSome = true ∧ t.regs = s.regs)

/-- O22. Discrete lines: outputs, trips and checks (R186 to R190, R195): a trip switches the line off and sets its STATUS bit;
above 1,000 mA a Pan sheds lines; the back-off's end switches on again; CLEAR releases a latch; the wire checks set their bits
and lose them after 100 ms; an accepted command or packed word commands its lines. -/
def Obligations.LineOutputs : Prop :=
  (∀ (s : State) (i : Fin 256), s.lineMode i = 4 → s.lineBall i = some true → Gives (.dlLimitTrip i) s fun t =>
    (t.line i).off = true ∧ (t.line i).trips = (s.line i).trips + 1 ∧ bitOf (t.line i).status 3 = true ∧
      ∀ j, j ≠ i.val → (t.line j).off = (s.line j).off ∧ (t.line j).status = (s.line j).status) ∧
  (∀ (s : State) (i : Fin 256), s.lineOut i = true → s.field.powered = true → (s.line i).off = false →
    Gives (.dlThermalTrip i) s fun t => (t.line i).off = true ∧ (t.line i).hot = true ∧ bitOf (t.line i).status 4 = true) ∧
  (∀ (s : State) (n : Fin 16) (currents : List Nat),
    1000 < ((((List.range 16).filter (fun j => s.lineOut (16 * n + j) && s.lineBall (16 * n + j) == some true)).map
      (fun j => (16 * n.val + j, currents.getD j 0))).map (·.2)).foldl (· + ·) 0 →
    Gives (.dlPanShed n currents) s fun t => (t.flt (0x0F0 + n)).inFault = true ∧
      ∀ i, (s.line i).off = true → (t.line i).off = true) ∧
  (∀ (s : State) (i : Fin 256), (s.line i).off = true → bitOf (s.line i).status 6 = false → (s.line i).hot = false →
    Gives (.dlRetryBackoffExpiry i) s fun t => (t.line i).off = false ∧ (s.line i).retryAt ≤ t.lmc) ∧
  (∀ (s : State) (i : Fin 320), i.val < 256 → s.lineOut i = true → s.lineBall i = some true →
    Gives (.dlRetryCountReset i) s fun t => (t.line i).trips = 0) ∧
  (∀ (s : State) (i : Fin 320), i.val < 256 → (s.line i).off = true → bitOf (s.line i).status 6 = false →
    (s.line i).hot = true → Gives (.stageCooled i) s fun t => (t.line i).hot = false) ∧
  (∀ (s : State) (w : Writer) (i : Fin 256), Accepts s w (Key.DL_CLEAR i) 1 → bitOf (s.line i).status 6 = true →
    Gives (.dlClear w i 1) s fun t => (t.line i).off = false ∧ (t.line i).trips = 0 ∧ bitOf (t.line i).status 6 = false) ∧
  (∀ (s : State) (i : Fin 256), s.wireApplies i = true → (s.line i).hits ≠ 0 → Gives (.dlWireTest i true) s fun t =>
    (t.line i).hits = 2 ∧ bitOf (t.line i).status 0 = true ∧ s.lmc + 100000 ≤ t.lmc) ∧
  (∀ (s : State) (i : Fin 256), s.lineMode i = 4 → s.lineBall i = some true → s.lineMine i = true →
    Gives (.dlOpenOnDetect i) s fun t => bitOf (t.line i).status 1 = true ∧ (t.line i).wireAt = s.lmc) ∧
  (∀ (s : State) (i : Fin 256), s.lineMode i = 4 → s.lineBall i = some false → s.lineMine i = true →
    Gives (.dlShortVfieldDetect i) s fun t => bitOf (t.line i).status 5 = true ∧ (t.line i).wireAt = s.lmc) ∧
  (∀ (s : State) (i : Fin 256) (b : Fin 16), b.val = 0 ∨ b.val = 1 ∨ b.val = 5 → bitOf (s.line i).status b = true →
    Gives (.dlStatusClear i b) s fun t => bitOf (t.line i).status b = false ∧ (s.line i).wireAt + 100000000 ≤ t.lmc) ∧
  (∀ (s : State) (w : Writer) (i : Fin 256) (v : Nat), Accepts s w (Key.DL_COMMAND i) v → commandQuality v = none →
    s.lineMapped i = false → s.lineTimed i = false → s.whiskOwns (i / 16) 2 (i % 16) = false →
    Gives (.dlCommandWrite w i v) s fun t => t.reg (Key.DL_COMMAND i) = maskValue (Key.DL_COMMAND i) v ∧
      (t.line i).safeCmd = decide (wQual v ≠ 0) ∧ (wQual v = 0 → (t.line i).cmd = decide (wVal v ≠ 0))) ∧
  (∀ (s : State) (w : Writer) (n : Fin 16) (v : Nat), Accepts s w (Key.PANDL_OUT_PACKED n) v → commandQuality v = none →
    s.subBound (Key.PANDL_OUT_PACKED n) = false → Gives (.outPackedWrite w n v) s fun t =>
      Quiet ((s.store (Key.PANDL_OUT_PACKED n) v).packedWord n v (s.packedLines n)) t)

/-- O23. Pans asleep and awake (R453 to R456): a Pan that nothing holds dozes after its idle time and goes dark after the dark
time; a wake source starts the wake; its end leaves the Pan ACTIVE and counts. -/
def Obligations.Pans : Prop :=
  (∀ (s : State) (n : Fin 16), s.logicOn = true → s.panActive n = true → s.panHold450 n = 0 →
    Gives (.panDozeEntry n) s fun t => t.reg (Key.PAN_STATE n) = 1 ∧
      (s.pan n).idleAt + s.reg Key.PWR_DOZE_IDLE_US * 1000 ≤ t.lmc ∧ t.lines = s.lines) ∧
  (∀ (s : State) (n : Fin 16), s.logicOn = true → s.reg (Key.PAN_STATE n) = 1 → (s.pan n).waking = none →
    s.panHold450 n = 0 → s.panHold451 n = false → Gives (.panDarkEntry n) s fun t => t.reg (Key.PAN_STATE n) = 2 ∧
      t.count (Key.PAN_DARK_ENTRIES n) = s.count (Key.PAN_DARK_ENTRIES n) + 1 ∧
        (s.pan n).dozeAt + s.reg Key.PWR_DARK_IDLE_MS * 1000000 ≤ t.lmc) ∧
  (∀ (s : State) (n : Fin 16), s.logicOn = true → s.panActive n = false → (s.pan n).waking = none →
    Gives (.panWake n) s fun t => t = s.setPan n { s.pan n with waking := some s.lmc }) ∧
  (∀ (s : State) (n : Fin 16) (at_ : Nat), s.logicOn = true → (s.pan n).waking = some at_ →
    Gives (.panWakeComplete n) s fun t => t.reg (Key.PAN_STATE n) = 0 ∧ (t.pan n).waking = none ∧
      t.count (Key.PAN_WAKES n) = s.count (Key.PAN_WAKES n) + 1)

/-- O24. Branch fuses (R461 to R465, R420): every trip switches the fuse off, counts, keeps its kind, and waits or latches; the
ramp ends on; the back-off's end and the cooling let it on again; 10 s on clear the count; CLEAR releases a latched or shed
fuse; and an accepted ENABLE or COMMAND is stored. -/
def Obligations.BranchFuses : Prop :=
  (∀ (s : State) (b : Fin 64), (s.fuseSync b).fuseOn b = true ∨ (s.fuseSync b).reg (Key.BR_STATE b) = 7 →
    Gives (.branchFastTrip b) s fun t => t.reg (Key.BR_LAST_TRIP b) = 1 ∧ (t.fuse b).trips = (s.fuse b).trips + 1 ∧
      t.count (Key.BR_TRIPS b) = s.count (Key.BR_TRIPS b) + 1 ∧
        t.reg (Key.BR_STATE b) = if s.reg (Key.BR_RETRIES b) < (s.fuse b).trips + 1 then 5 else 4) ∧
  (∀ (s : State) (b : Fin 64), (s.fuseSync b).fuseOn b = true → Gives (.branchI2tTrip b) s fun t =>
    t.reg (Key.BR_LAST_TRIP b) = 2 ∧ (t.fuse b).hot = true ∧ (t.fuse b).trips = (s.fuse b).trips + 1) ∧
  (∀ (s : State) (b : Fin 64), (s.fuseSync b).reg (Key.BR_STATE b) = 2 → Gives (.branchSoaTrip b) s fun t =>
    t.reg (Key.BR_LAST_TRIP b) = 3 ∧ (t.fuse b).trips = (s.fuse b).trips + 1) ∧
  (∀ (s : State) (b : Fin 64), (s.fuseSync b).reg (Key.BR_STATE b) = 3 → Gives (.branchGateTrip b) s fun t =>
    t.reg (Key.BR_LAST_TRIP b) = 6 ∧ (t.fuse b).trips = (s.fuse b).trips + 1) ∧
  (∀ (s : State) (b : Fin 64), (s.fuseSync b).fuseOn b = true → s.sharedIn (Key.BR_SHARED b) = true → s.holdsClaim = true →
    Gives (.branchPeerTrip b) s fun t => t.reg (Key.BR_LAST_TRIP b) = 4 ∧ (t.fuse b).trips = (s.fuse b).trips + 1) ∧
  (∀ (s : State) (b : Fin 64), (s.fuseSync b).reg (Key.BR_STATE b) = 2 → Gives (.branchRampComplete b) s fun t =>
    t.reg (Key.BR_STATE b) = 3 ∧ (t.fuse b).onAt = s.lmc) ∧
  (∀ (s : State) (b : Fin 64), (s.fuse b).hold = 4 → (s.fuse b).hot = false → Gives (.branchBackoffExpiry b) s fun t =>
    (t.fuse b).hold = 0 ∧ (s.fuse b).retryAt ≤ t.lmc ∧ t.reg (Key.BR_STATE b) ≠ 4) ∧
  (∀ (s : State) (b : Fin 64), (s.fuse b).hot = true → Gives (.i2tHalfLevelReached b) s fun t => (t.fuse b).hot = false) ∧
  (∀ (s : State) (b : Fin 64), (s.fuseSync b).reg (Key.BR_STATE b) = 3 → Gives (.branchRetryReset b) s fun t =>
    (t.fuse b).trips = 0 ∧ (s.fuse b).onAt + 10000000000 ≤ t.lmc) ∧
  (∀ (s : State) (w : Writer) (b : Fin 64), Accepts s w (Key.BR_CLEAR b) 1 → (s.fuse b).hold = 5 ∨ (s.fuse b).hold = 6 →
    Gives (.branchClear w b 1) s fun t => (t.fuse b).hold = 0 ∧ (t.fuse b).trips = 0) ∧
  (∀ (s : State) (w : Writer) (b : Fin 64) (v : Nat), Accepts s w (Key.BR_ENABLE b) v → s.budgetCheck (Key.BR_ENABLE b) v = none →
    Gives (.branchEnableWrite w b v) s fun t => Quiet ((s.store (Key.BR_ENABLE b) v).fuseSync b) t ∧
      t.reg (Key.BR_ENABLE b) = maskValue (Key.BR_ENABLE b) v) ∧
  (∀ (s : State) (w : Writer) (b : Fin 64) (v : Nat), Accepts s w (Key.BR_COMMAND b) v → commandQuality v = none →
    s.subBound (Key.BR_COMMAND b) = false → Gives (.branchCommandWrite w b v) s fun t =>
      t.reg (Key.BR_COMMAND b) = maskValue (Key.BR_COMMAND b) v ∧ (t.fuse b).safeCmd = decide (wQual v ≠ 0) ∧
        (wQual v = 0 → (t.fuse b).cmd = decide (wVal v ≠ 0)))

/-- O25. CAN (R203, R206, R209 to R222, R225): enabling starts the channel error-active with its counters shown, disabling stops
it; a frame is counted and ends the run of unacknowledged frames; a receive error raises REC; mailbox settings, holds and reads;
an attempt is started, and ends sent, lost or failed; recovery returns to error-active with both counters 0; and CONTROL, the
dominant time-out and the bus join do what they say. -/
def Obligations.CanChannels : Prop :=
  (∀ (s : State) (w : Writer) (c : Fin 32), Accepts s w (Key.CAN_ENABLE c) 1 → s.canTimingOk c = true →
    (∀ i, i < 3 → s.qDepth (canPan c) (canQ c + i) ≠ 0) → s.budgetCheck (Key.CAN_ENABLE c) 1 = none →
    s.flag (Key.CAN_ENABLE c) = false → Gives (.canEnableWrite w c 1) s fun t =>
      t.reg (Key.CAN_ENABLE c) = maskValue (Key.CAN_ENABLE c) 1 ∧ t.reg (Key.CAN_ERROR_STATE c) = 0 ∧ t.reg (Key.CAN_TEC c) = min (s.can c).tec 255) ∧
  (∀ (s : State) (w : Writer) (c : Fin 32), Accepts s w (Key.CAN_ENABLE c) 0 → Gives (.canEnableWrite w c 0) s fun t =>
    t.reg (Key.CAN_ENABLE c) = 0 ∧ t.reg (Key.CAN_ERROR_STATE c) = 3 ∧ t.reg (Key.CAN_MB_HOLD c) = 0 ∧
      (t.can c).sending = none) ∧
  (∀ (s : State) (c : Fin 32) (ago : Nat) (fr : CanFrame), s.canOnBus c = true →
    ¬ (fr.fdf = true ∧ s.reg (Key.CAN_FD_MODE c) = 0) → Gives (.canFrameReceived c ago fr) s fun t =>
      t.count (Key.CAN_RX_FRAMES c) = s.count (Key.CAN_RX_FRAMES c) + 1 ∧ t.clock = s.clock) ∧
  (∀ (s : State) (c : Fin 32) (add : Nat), s.canOnBus c = true → Gives (.canReceiveError c add) s fun t =>
    t.count (Key.CAN_BUS_ERRORS c) = s.count (Key.CAN_BUS_ERRORS c) + 1) ∧
  (∀ (s : State) (c m : Nat) (f : MbFrame), bitOf (s.reg (Key.CAN_MB_HOLD c)) m = false →
    ((s.mbStore c m f).mailbox c m).current = some f ∧ ((s.mbStore c m f).mailbox c m).new = true) ∧
  (∀ (s : State) (c m : Nat) (f : MbFrame), bitOf (s.reg (Key.CAN_MB_HOLD c)) m = true →
    ((s.mbStore c m f).mailbox c m).shadow = some f ∧ ((s.mbStore c m f).mailbox c m).current = (s.mailbox c m).current) ∧
  (∀ (s : State) (w : Writer) (c : Fin 32) (m : Fin 16) (v : Nat), Accepts s w (Key.CAN_MB_CFG c m) v → bitOf v 31 = false →
    Gives (.mbCfgWrite w c m v) s fun t => t.reg (Key.CAN_MB_CFG c m) = maskValue (Key.CAN_MB_CFG c m) v ∧
      t.mailbox c m = { heardAt := s.lmc } ∧ bitOf (t.reg (Key.CAN_MB_HOLD c)) m = false) ∧
  (∀ (s : State) (w : Writer) (c : Fin 32) (v : Nat), Accepts s w (Key.CAN_MB_HOLD c) v → Gives (.mbHoldWrite w c v) s fun t =>
    t.reg (Key.CAN_MB_HOLD c) = maskValue (Key.CAN_MB_HOLD c) v) ∧
  (∀ (s : State) (p : Path) (c : Fin 32) (m : Fin 16), s.inRecovery = false → Gives (.mbDataRead p c m) s fun t =>
    Quiet (s.setMailbox c m { s.mailbox c m with new := false }) t) ∧
  (∀ (s : State) (c : Fin 32) (p : List QItem), s.canMayStart c = true → s.qPeek (canPan c) (canQ c + 2) = some p →
    s.canBadFormat c p = true → Gives (.canTxAttemptStart c) s fun t => t = s.canEnd c p 3) ∧
  (∀ (s : State) (c : Fin 32) (p : List QItem), s.canMayStart c = true → s.qPeek (canPan c) (canQ c + 2) = some p →
    s.canBadFormat c p = false → s.handInstant = none → Gives (.canTxAttemptStart c) s fun t =>
      (t.can c).sending = some (p, stamp125 s.ftime) ∧ t.queues = s.queues ∧ t.regs = s.regs) ∧
  (∀ (s : State) (c : Fin 32) (p : List QItem) (sof : Int) (d : Nat), (s.can c).sending = some (p, sof) →
    (s.pertNth 8 c).1 = false → s.reg (Key.CAN_TDC_MODE c) ≠ 1 → Gives (.canAttemptEnd c (.sent d)) s fun t =>
      (t.can c).sending = none ∧ t.count (Key.CAN_TX_FRAMES c) = s.count (Key.CAN_TX_FRAMES c) + 1) ∧
  (∀ (s : State) (c : Fin 32) (p : List QItem) (sof : Int), (s.can c).sending = some (p, sof) →
    (s.pertNth 8 c).1 = false → Gives (.canAttemptEnd c .lost) s fun t =>
      (t.can c).sending = none ∧ t.count (Key.CAN_ARB_LOST c) = s.count (Key.CAN_ARB_LOST c) + 1) ∧
  (∀ (s : State) (c : Fin 32) (p : List QItem) (sof : Int) (quiet : Bool), (s.can c).sending = some (p, sof) →
    (s.pertNth 8 c).1 = false → Gives (.canAttemptEnd c (.noAck quiet)) s fun t => (t.can c).sending = none ∧
      t.count (Key.CAN_BUS_ERRORS c) = s.count (Key.CAN_BUS_ERRORS c) + 1) ∧
  (∀ (s : State) (w : Writer) (c : Fin 32), Accepts s w (Key.CAN_CONTROL c) 1 → s.reg (Key.CAN_ERROR_STATE c) = 2 →
    Gives (.canRecoveryStart w c) s fun t => Quiet (s.setCan c { s.can c with recovering := true }) t) ∧
  (∀ (s : State) (c : Fin 32), s.reg (Key.CAN_ERROR_STATE c) = 2 → (s.can c).recovering = true →
    Gives (.canRecoveryComplete c) s fun t => t.reg (Key.CAN_ERROR_STATE c) = 0 ∧ t.reg (Key.CAN_TEC c) = 0 ∧
      t.reg (Key.CAN_REC c) = 0 ∧ (t.can c).tec = 0 ∧ (t.can c).rec_ = 0) ∧
  (∀ (s : State) (w : Writer) (c : Fin 32), Accepts s w (Key.CAN_CONTROL c) 2 → Gives (.canAloneRelease w c) s fun t =>
    (t.can c).run = 0 ∧ (t.can c).alone = false ∧ (t.can c).held = false) ∧
  (∀ (s : State) (c : Fin 32), s.flag (Key.CAN_ENABLE c) = true → s.logicOn = true → Gives (.canDominantTimeout c) s fun t =>
    t = s.bump (Key.CAN_DOMINANT_TIMEOUTS c)) ∧
  (∀ (s : State) (c : Fin 32), (s.can c).joining = true → s.logicOn = true → Gives (.canBusJoin c) s fun t =>
    t = s.setCan c { s.can c with joining := false })

/-- O26. RS-485 (R231 to R242): enabling starts the channel with a rate within 0.01 % of BAUD, disabling stops it; a character
is stored and may close its packet; a gap and a break close it; a packet is sent and ends; a driver fault stops the packet and
is a fault; a hub that became ACTIVE joins on an idle line; and in DOZE the line is recorded and the Pan asked to wake. -/
def Obligations.Rs485 : Prop :=
  (∀ (s : State) (w : Writer) (c : Fin 48), Accepts s w (Key.RS_ENABLE c) 1 → s.rsEnableCheck c = none →
    s.flag (Key.RS_ENABLE c) = false → Gives (.rs485EnableWrite w c 1) s fun t =>
      t.reg (Key.RS_ENABLE c) = maskValue (Key.RS_ENABLE c) 1 ∧ t.rs c = { lastEnd := (s.rs c).lastEnd } ∧
        s.reg (Key.RS_BAUD c) - s.reg (Key.RS_BAUD c) / 10000 ≤ t.reg (Key.RS_BAUD_ACTUAL c) ∧
        t.reg (Key.RS_BAUD_ACTUAL c) ≤ s.reg (Key.RS_BAUD c) + s.reg (Key.RS_BAUD c) / 10000) ∧
  (∀ (s : State) (w : Writer) (c : Fin 48), Accepts s w (Key.RS_ENABLE c) 0 → Gives (.rs485EnableWrite w c 0) s fun t =>
    t.reg (Key.RS_ENABLE c) = 0 ∧ t.rs c = { lastEnd := (s.rs c).lastEnd }) ∧
  (∀ (s : State) (c : Fin 48) (ch : RsChar), s.rsServes c = some c.val → s.rsOn c = true → s.bridgeOf c = none →
    (s.rs c).tx = none → s.rsClosesWith c (s.rsAppend c ch) (ch.value % 2 ^ s.reg (Key.RS_DATA_BITS c)) = none →
    Gives (.rs485CharReceived c ch) s fun t => (t.rs c).rx = some (s.rsAppend c ch) ∧ (t.rs c).lastEnd = s.lmc) ∧
  (∀ (s : State) (c : Fin 48) (ch : RsChar) (k : Nat), s.rsServes c = some c.val → s.rsOn c = true → s.bridgeOf c = none →
    (s.rs c).tx = none → s.rsClosesWith c (s.rsAppend c ch) (ch.value % 2 ^ s.reg (Key.RS_DATA_BITS c)) = some k →
    Gives (.rs485CharReceived c ch) s fun t => (t.rs c).rx = none ∧ (t.rs c).continues = decide (k = 4)) ∧
  (∀ (s : State) (c : Fin 48) (r : RsRx), s.rsOn c = true → s.reg (Key.RS_GAP_HALF c) ≠ 0 → (s.rs c).rx = some r →
    s.bridgeOf c = none → Gives (.rs485GapExpiry c) s fun t => (t.rs c).rx = none ∧
      (s.rs c).lastEnd + s.rsGapNs c ≤ t.lmc) ∧
  (∀ (s : State) (c : Fin 48) (ago : Nat), s.rsServes c = some c.val → s.rsOn c = true → s.bridgeOf c = none →
    Gives (.rs485BreakReceived c ago) s fun t => (t.rs c).rx = none ∧ (t.rs c).brk = true) ∧
  (∀ (s s' : State) (c : Fin 48) (p : List QItem), s.rsOn c = true → s.rsPartner c = false → s.rsMine c = true →
    (s.rs c).tx = none → (s.rs c).joinAt = none → s.bridgeOf c = none → (s.rs c).brk = false →
    s.qTake (rsPan c) (rsQ c + 1) = some (p, s') → Gives (.rs485TxStart c) s fun t => (t.rs c).tx.isSome = true ∧
      t.rsSent = s'.rsSent ++ [(c.val, rsTxChars (s.qWidth (rsPan c) (rsQ c + 1)) p)]) ∧
  (∀ (s : State) (c : Fin 48) (x : RsTx), (s.rs c).tx = some x → x.stop = none → Gives (.rs485TxEnd c) s fun t =>
    (t.rs c).tx = none ∧ x.endsAt ≤ t.lmc ∧ t.count (Key.RS_TX_PACKETS c) = s.count (Key.RS_TX_PACKETS c) + 1) ∧
  (∀ (s : State) (c : Fin 48) (x : RsTx) (thermal : Bool), (s.rs c).tx = some x → x.stop = none →
    Gives (.rs485DriverFault c thermal) s fun t => (t.rs c).tx = some { x with stop := some (12, x.echoed) } ∧
      t.reg (Key.RS_STATUS c) = 2 ∧ (t.flt (0x130 + rsPan c)).inFault = true) ∧
  (∀ (s : State) (c : Fin 48) (a : Nat), (s.rs c).joinAt = some a → s.rsOn c = true → Gives (.rs485ActiveJoin c) s fun t =>
    (t.rs c).joinAt = none ∧ t.queues = s.queues) ∧
  (∀ (s : State) (c : Fin 48), s.rsOn c = true → s.reg (Key.PAN_STATE (rsPan c)) = 1 → Gives (.rs485ReplayStart c) s fun t =>
    (t.rs c).replay = true ∧ (t.pan (rsPan c)).waking.isSome = true)

/-- O27. IO-Link ports (R243 to R250, R259): a mode or restart starts the port afresh; the start-up delay asks for a wake slot,
which is granted to a waiting port; a device that passes validation operates; M-sequences run on the port's grid, their replies
give the input data, and a spoilt or missing one counts as failed; C/Q crossings and current limits are taken. -/
def Obligations.IoLinkPorts : Prop :=
  (∀ (s : State) (w : Writer) (p : Fin 64) (v : Nat), Accepts s w (Key.IOL_MODE p) v → s.budgetCheck (Key.IOL_MODE p) v = none →
    s.reg (Key.IOL_MODE p) ≠ 0 → Gives (.iolModeWrite w p v) s fun t => t.reg (Key.IOL_MODE p) = maskValue (Key.IOL_MODE p) v ∧
      (t.iol p).isdu = none ∧ (t.iol p).awaiting = false ∧ t.reg (Key.IOL_STATUS p) = 0) ∧
  (∀ (s : State) (w : Writer) (p : Fin 64), Accepts s w (Key.IOL_PORT_CMD p) 1 → Gives (.portCmdRestart w p) s fun t =>
    Quiet ((s.iolStart p)) t ∧ t.reg (Key.IOL_STATUS p) = 0 ∧ (t.iol p).isdu = none) ∧
  (∀ (s : State) (p : Fin 64), (s.lpSync p).reg (Key.LP_STATE p) = 2 → ((s.lpSync p).iol p).st = 1 →
    ((s.lpSync p).iol p).waits = false → ((s.lpSync p).iol p).slotEnds = none → Gives (.iolStartupDelayExpiry p) s fun t =>
      (t.iol p).waits = true ∧ ((s.lpSync p).iol p).lpDoneAt + 50000000 ≤ t.lmc) ∧
  (∀ (s : State) (p : Nat), s.logicOn = true → s.slotPort = some p → s.slotsUsed.length < 4 → Gives .iolWakeSlotGrant s fun t =>
    (t.iol p).waits = false ∧ (t.iol p).slotEnds = some (s.lmc + 100000) ∧ t.clock = s.clock) ∧
  (∀ (s : State) (p : Fin 64) (d : IolDevice), s.iolMode p = 1 ∨ s.iolMode p = 2 → (s.iol p).st = 1 ∨ (s.iol p).st = 6 →
    (s.iol p).slotEnds.isSome = true → s.iolMode p = 2 → s.reg (Key.IOL_DS_MODE p) = 0 → Gives (.iolStartupComplete p d) s fun t =>
      (t.iol p).st = 3 ∧ (t.iol p).slotEnds = none ∧ t.reg (Key.IOL_COM_RATE p) = d.comRate % 4 ∧
        t.reg (Key.IOL_DEV_VENDOR_ID p) = d.vendor % 65536 ∧
        t.reg (Key.IOL_CYCLE_ACTUAL p) = cycleUp (max (s.reg (Key.IOL_CYCLE_US p)) d.minCycle)) ∧
  (∀ (s : State) (p : Fin 64), (s.iol p).st = 3 → s.iolMode p ≠ 0 → s.reg (Key.IOL_CYCLE_ACTUAL p) ≠ 0 →
    (s.iol p).awaiting = false → s.iolSafe p = false → Gives (.iolMSequenceStart p) s fun t =>
      (t.iol p).awaiting = true ∧ (t.iol p).lastAt = s.iolGrid p (max (s.iol p).lastAt (s.ftime - 1)) ∧
        (t.iol p).lastAt ≤ t.ftime) ∧
  (∀ (s : State) (p : Fin 64) (pd : List Byte) (valid : Bool), (s.iol p).awaiting = true → (s.pertNth 9 p).1 = false →
    Gives (.iolMSequenceReply p pd valid true) s fun t => (t.iol p).awaiting = false ∧ (t.iol p).failures = 0 ∧
      (t.iol p).pdSeen = true ∧ (t.iol p).pdInvalid = !valid ∧ t.reg (Key.IOL_PD_IN p) = beNat (s.pdPad p pd) ∧
      t.count (Key.IOL_M_SEQ_OK p) = s.count (Key.IOL_M_SEQ_OK p) + 1) ∧
  (∀ (s : State) (p : Fin 64) (pd : List Byte) (valid : Bool), (s.iol p).awaiting = true → (s.pertNth 9 p).1 = false →
    Gives (.iolMSequenceReply p pd valid false) s fun t => t = (s.pertNth 9 p).2.iolFail p) ∧
  (∀ (s : State) (p : Fin 64), (s.iol p).awaiting = true → Gives (.iolReplyTimeout p) s fun t => t = s.iolFail p) ∧
  (∀ (s : State) (p : Nat), (s.iolFail p).count (Key.IOL_M_SEQ_ERR p) = s.count (Key.IOL_M_SEQ_ERR p) + 1 ∧
    ((s.iol p).failures < 2 → ((s.iolFail p).iol p).failures = (s.iol p).failures + 1)) ∧
  (∀ (s : State) (p : Fin 64), (s.iol p).st = 3 → s.reg (Key.PAN_STATE (iolPan p)) = 1 → s.reg (Key.IOL_CYCLE_ACTUAL p) ≠ 0 →
    Gives (.iolMSequenceWake p) s fun t => t = s.panWindow (iolPan p) (s.iolGrid p (max (s.iol p).lastAt (s.ftime - 1)))) ∧
  (∀ (s : State) (p : Fin 64) (level : Bool), s.iolMode p = 3 → s.field.powered = true → (s.iol p).raw ≠ level →
    Gives (.cqInputCrossing p level) s fun t => (t.iol p).raw = level ∧ (t.iol p).rawAt = s.lmc ∧
      (t.iol p).level = s.cqLevel p) ∧
  (∀ (s : State) (p : Fin 64), s.iolMode p ≠ 0 → s.iolMode p ≠ 3 → Gives (.cqCurrentLimit p) s fun t =>
    t = s.setReg (Key.IOL_STATUS p) (setBit (s.reg (Key.IOL_STATUS p)) 1 true))

/-- O28. IO-Link services and L+ (R251 to R254, R256, R187, R188): an ISDU runs and ends with its result; events wait for room
in the queue; a record is uploaded, committed and cleared; an L+ trip switches off with a back-off or a latch, the soft start's
end switches on, the back-off's end or the cooling lets it on again, 10 s on clear its count, and CLEAR releases a latch. -/
def Obligations.IoLinkServices : Prop :=
  (∀ (s : State) (w : Writer) (p : Fin 64) (data : List Byte), Accepts s w (Key.IOL_ISDU_REQUEST p) 0 → (s.iol p).isdu = none →
    beAt data 0 1 = 1 ∨ beAt data 0 1 = 2 → beAt data 4 2 ≤ 232 → data.length ≤ 238 → s.iolTalks p = true →
    Gives (.isduRequestWrite w p data) s fun t => t.reg (Key.IOL_ISDU_RESULT p) = 2 ^ 24 ∧
      (t.iol p).isdu.map (fun i => (i.index, i.sub, i.startedAt)) = some (beAt data 1 2, beAt data 3 1, s.lmc)) ∧
  (∀ (s s' : State) (p : Fin 64) (pk : List QItem), (s.iol p).isdu = none → s.logicOn = true → s.iolMode p ≠ 0 →
    s.role ≠ .standby → s.qTake (iolPan p) (iolQ p + 1) = some (pk, s') → fld (headWord pk) 63 56 = 1 →
    fld (headWord pk) 31 16 ≤ 232 → s'.iolTalks p = true → Gives (.isduQueueRequest p) s fun t =>
      (t.iol p).isdu.map (fun i => (i.index, i.sub)) = some (fld (headWord pk) 55 40, fld (headWord pk) 39 32)) ∧
  (∀ (s : State) (p : Fin 64) (i : IsduSt) (data : List Byte), (s.iol p).isdu = some i → i.tag = none →
    Gives (.isduComplete p 0 data) s fun t => (t.iol p).isdu = none ∧ t.reg (Key.IOL_ISDU_RESULT p) = 2 * 2 ^ 24) ∧
  (∀ (s : State) (p : Fin 64) (i : IsduSt) (e : Nat) (data : List Byte), (s.iol p).isdu = some i → i.tag = none → e ≠ 0 →
    Gives (.isduComplete p e data) s fun t => (t.iol p).isdu = none ∧
      t.reg (Key.IOL_ISDU_RESULT p) = 2 * 2 ^ 24 + 2 ^ 16 + e % 65536) ∧
  (∀ (s : State) (p : Fin 64) (i : IsduSt), (s.iol p).isdu = some i → i.tag = none → Gives (.isduTimeout p) s fun t =>
    (t.iol p).isdu = none ∧ t.reg (Key.IOL_ISDU_RESULT p) = 2 * 2 ^ 24 + 2 * 2 ^ 16 ∧ i.startedAt + 5000000000 ≤ t.lmc) ∧
  (∀ (s : State) (p : Fin 64) (q c : Nat), s.iolTalks p = true → (s.iol p).event = none → s.qRoom (iolPan p) (iolQ p) 2 = true →
    Gives (.iolEventRead p q c) s fun t => t = s.iolStore p q c 0) ∧
  (∀ (s : State) (p : Fin 64) (q c : Nat), s.iolTalks p = true → (s.iol p).event = none → s.qRoom (iolPan p) (iolQ p) 2 = false →
    Gives (.iolEventRead p q c) s fun t => (t.iol p).event = some (q, c) ∧ t.queues = s.queues) ∧
  (∀ (s : State) (p : Fin 64) (q c : Nat), (s.iol p).event = some (q, c) → s.qRoom (iolPan p) (iolQ p) 2 = true →
    Gives (.iolEventBacklogRelease p) s fun t => (t.iol p).event = none ∧
      t.count (Key.IOL_EVENTS p) = s.count (Key.IOL_EVENTS p) + 1) ∧
  (∀ (s : State) (w : Writer) (p : Fin 64), Accepts s w (Key.IOL_PORT_CMD p) 2 → s.reg (Key.IOL_DS_MODE p) = 1 →
    s.iolTalks p = true → Gives (.portCmdBackup w p) s fun t => t.reg (Key.IOL_DS_STATE p) = 2) ∧
  (∀ (s : State) (w : Writer) (p : Fin 64), Accepts s w (Key.IOL_PORT_CMD p) 3 → Gives (.portCmdClearDs w p) s fun t =>
    t.reg (Key.IOL_DS_IMAGE p) = 0 ∧ t.reg (Key.IOL_DS_STATE p) = 0 ∧ (t.iol p).dsVendor = 0) ∧
  (∀ (s : State) (p : Fin 64), s.reg (Key.IOL_DS_MODE p) = 1 → s.iolTalks p = true → Gives (.dsUploadRequest p) s fun t =>
    t = s.setReg (Key.IOL_DS_STATE p) 2) ∧
  (∀ (s : State) (p : Fin 64) (data : List Byte), s.reg (Key.IOL_DS_STATE p) = 2 → Gives (.dsCommit p data) s fun t =>
    t.reg (Key.IOL_DS_STATE p) = 1 ∧ t.reg (Key.IOL_DS_IMAGE p) = beNat (dsPad data) ∧
      (t.iol p).dsVendor = s.reg (Key.IOL_DEV_VENDOR_ID p) ∧ (t.iol p).params = data) ∧
  (∀ (s : State) (p : Fin 64), (s.lpSync p).lpOn p = true → Gives (.lpFastTrip p) s fun t => t = (s.lpSync p).lpTrip p 0) ∧
  (∀ (s : State) (p : Fin 64), (s.lpSync p).lpOn p = true → Gives (.lpSlowTrip p) s fun t => t = (s.lpSync p).lpTrip p 1) ∧
  (∀ (s : State) (p : Fin 64), (s.lpSync p).lpOn p = true → Gives (.lpThermalTrip p) s fun t => t = (s.lpSync p).lpTrip p 2) ∧
  (∀ (s : State) (p : Fin 64) (b : Nat), (s.lpTrip p b).reg (Key.LP_STATE p) =
      (if s.reg (Key.LP_RETRIES p) < (s.iol p).lpTrips + 1 then 4 else 3) ∧
    ((s.lpTrip p b).iol p).lpTrips = (s.iol p).lpTrips + 1 ∧
    (s.lpTrip p b).count (Key.LP_TRIPS p) = s.count (Key.LP_TRIPS p) + 1) ∧
  (∀ (s : State) (p : Fin 64), (s.lpSync p).reg (Key.LP_STATE p) = 1 → Gives (.lpRampComplete p) s fun t =>
    t.reg (Key.LP_STATE p) = 2 ∧ ((s.lpSync p).iol p).lpRampAt + 2000000 ≤ t.lmc ∧ (t.iol p).lpOnAt = t.lmc) ∧
  (∀ (s : State) (p : Fin 64), s.reg (Key.LP_STATE p) = 3 → (s.iol p).lpHot = false → Gives (.lpBackoffExpiry p) s fun t =>
    t.reg (Key.LP_STATE p) ≠ 3 ∧ (s.iol p).lpRetryAt ≤ t.lmc) ∧
  (∀ (s : State) (w : Writer) (p : Fin 64), Accepts s w (Key.LP_CLEAR p) 1 → s.reg (Key.LP_STATE p) = 4 →
    Gives (.lpClear w p 1) s fun t => t.reg (Key.LP_STATUS p) = 0 ∧ t.reg (Key.LP_STATE p) ≠ 4 ∧ (t.iol p).lpTrips = 0) ∧
  (∀ (s : State) (i : Fin 320), 256 ≤ i.val → (s.iol (i - 256)).lpHot = true → s.reg (Key.LP_STATE (i - 256)) = 3 →
    Gives (.stageCooled i) s fun t => (t.iol (i - 256)).lpHot = false) ∧
  (∀ (s : State) (i : Fin 320), 256 ≤ i.val → (s.lpSync (i - 256)).reg (Key.LP_STATE (i - 256)) = 2 →
    Gives (.dlRetryCountReset i) s fun t => (t.iol (i - 256)).lpTrips = 0 ∧
      ((s.lpSync (i - 256)).iol (i - 256)).lpOnAt + 10000000000 ≤ t.lmc)

/-- O29. Whisks (R195, R265 to R282): START runs a Whisk from step 0 with its initial counters and patterns; HALT, RESUME,
RESTART and STOP take it through its states; a step is entered at its cycle and counted; a stall ends when the store allows and
is a fault past its limit; the dwell's end chooses the next step; words move between the stores and the queues; and a held-back
line change is driven 20 µs after the last. -/
def Obligations.Whisks : Prop :=
  (∀ (s : State) (r : Writer) (w : Fin 32), Accepts s r (Key.WK_COMMAND w) 1 → (s.whisk w).st = 0 → s.whiskCheck w = none →
    Gives (.whiskStart r w) s fun t => Quiet (s.whiskGo w) t) ∧
  (∀ (s : State) (w : Nat), ((s.whiskRestart w).whisk w).st = 1 ∧ ((s.whiskRestart w).whisk w).step = 0 ∧
    ((s.whiskRestart w).whisk w).entering = true ∧ ((s.whiskRestart w).whisk w).cta = s.reg (Key.WK_CTA_INIT w) ∧
    ((s.whiskRestart w).whisk w).ctb = s.reg (Key.WK_CTB_INIT w) ∧ ((s.whiskRestart w).whisk w).pa = s.reg (Key.WK_PA_INIT w) ∧
    ((s.whiskRestart w).whisk w).pb = s.reg (Key.WK_PB_INIT w) ∧ ((s.whiskRestart w).whisk w).send = (s.whisk w).send) ∧
  (∀ (s : State) (r : Writer) (w : Fin 32), Accepts s r (Key.WK_COMMAND w) 2 → (s.whisk w).st = 1 →
    Gives (.whiskHalt r w) s fun t => (t.whisk w).st = 3 ∧ (t.whisk w).step = (s.whisk w).step) ∧
  (∀ (s : State) (r : Writer) (w : Fin 32), Accepts s r (Key.WK_COMMAND w) 2 → (s.whisk w).st = 2 →
    Gives (.whiskHalt r w) s fun t => (t.whisk w).st = 4 ∧ (t.flt (0x180 + w)).live = false) ∧
  (∀ (s : State) (r : Writer) (w : Fin 32), Accepts s r (Key.WK_COMMAND w) 3 → (s.whisk w).st = 4 →
    Gives (.whiskResume r w) s fun t => (t.whisk w).st = 1 ∧ (t.whisk w).step = (s.whisk w).step ∧
      (t.whisk w).entering = true ∧ (t.whisk w).at_ = s.lmc + (s.whiskCycles w 0 1).1) ∧
  (∀ (s : State) (r : Writer) (w : Fin 32), Accepts s r (Key.WK_COMMAND w) 4 → (s.whisk w).st ≠ 0 → (s.whisk w).st ≠ 5 →
    s.whiskCheck w = none → Gives (.whiskRestart r w) s fun t => Quiet ((s.whiskGo w).setLive (0x180 + w) false) t) ∧
  (∀ (s : State) (r : Writer) (w : Fin 32), Accepts s r (Key.WK_COMMAND w) 5 → (s.whisk w).st ≠ 0 →
    Gives (.whiskStop r w) s fun t => (t.whisk w).st = 0 ∧ (t.whisk w).send = [] ∧ (t.whisk w).recv = []) ∧
  (∀ (s : State) (w : Fin 32) (read : Fin 256), s.whiskRuns w = true → (s.whisk w).entering = true →
    Gives (.whiskStepEnter w read) s fun t => t.count (Key.WK_STEPS w) = s.count (Key.WK_STEPS w) + 1 ∧
      (s.whisk w).at_ ≤ t.lmc) ∧
  (∀ (s : State) (w : Fin 32) (read : Fin 256), s.whiskRuns w = true → (s.whisk w).dwelling = true → (s.whisk w).st = 1 →
    Gives (.whiskDwellEnd w read) s fun t => (t.whisk w).dwelling = false ∧ (t.whisk w).entering = true ∧
      (t.whisk w).step < 32 ∧ (t.whisk w).at_ = (s.whisk w).at_ +
        (s.whiskCycles w (s.whisk w).acc (fld (s.stepWord w (s.whisk w).step) 19 16 + 1)).1) ∧
  (∀ (s : State) (w : Fin 32), (s.whisk w).st = 2 → s.logicOn = true → s.panActive (w / 2) = true →
    s.dataStalls w (s.whisk w) (fld (s.stepWord w (s.whisk w).step) 11 9) = false → Gives (.whiskStallClear w) s fun t =>
      (t.whisk w).st = 1 ∧ (t.whisk w).stallSince = none ∧ (t.whisk w).dwelling = true ∧ (t.flt (0x180 + w)).live = false) ∧
  (∀ (s : State) (w : Fin 32) (a : Nat), (s.whisk w).st = 2 → (s.whisk w).stallSince = some a → (s.whisk w).reported = false →
    s.reg (Key.WK_STALL_LIMIT_MS w) ≠ 0 → Gives (.whiskStallLimit w) s fun t => (t.flt (0x180 + w)).inFault = true ∧
      a + s.reg (Key.WK_STALL_LIMIT_MS w) * 1000000 ≤ t.lmc) ∧
  (∀ (s : State) (w : Fin 32) (v : Nat) (vs : List Nat), (s.whisk w).st ≠ 0 → s.logicOn = true →
    (s.whisk w).send.length < s.reg (Key.WK_STORE_SPLIT w) → (s.whisk w).txPart = v :: vs → Gives (.whiskStoreMove w true) s fun t =>
      (t.whisk w).send = (s.whisk w).send ++ [v] ∧ (t.whisk w).txPart = vs) ∧
  (∀ (s : State) (w : Fin 32) (v : Nat) (last : Bool) (r : List (Nat × Bool)), (s.whisk w).st ≠ 0 → s.logicOn = true →
    (s.whisk w).recv = (v, last) :: r → Gives (.whiskStoreMove w false) s fun t => (t.whisk w).recv = r ∧
      t = (s.setWhisk w { s.whisk w with recv := r }).whiskFill w v last) ∧
  (∀ (s : State) (w : Fin 32) (slot : Fin 8) (l : Nat), cellGet (fun _ => none) (s.whisk w).lineWaits slot = some l →
    Gives (.dlSlotChangeRelease w slot) s fun t => cellGet (fun _ => 0) (s.whisk w).lineAt slot + 20000 ≤ t.lmc ∧
      cellGet (fun _ => none) (t.whisk w).lineWaits slot = none)

/-- O30. The switch's frames (R290, R291, R297, R300, R302, R315): a good edge frame is counted and classified, a bad one
counted as such; an assembly page is written 10 µs after its first frame and comes back into 16 free cells; a port starts the
frame its scheduler picks; and a port that goes down starts its flush, which ends with every queue of the port empty. -/
def Obligations.SwitchFrames : Prop :=
  (∀ (s : State) (e : Fin 8) (f : SwFrame) (n : Nat), s.logicOn = true → s.coreAwake = true → s.flag (Key.EDGE_LINK e) = true →
    f.good = false → Gives (.switchFrameIngress (.edge e f n)) s fun t =>
      t.count (Key.EDGE_RX_FCS_ERR e) = s.count (Key.EDGE_RX_FCS_ERR e) + 1 ∧
        t.count (Key.EDGE_RX_FRAMES e) = s.count (Key.EDGE_RX_FRAMES e) ∧ t.sw = s.sw) ∧
  (∀ (s : State) (e : Fin 8) (f : SwFrame) (n : Nat), s.logicOn = true → s.coreAwake = true → s.flag (Key.EDGE_LINK e) = true →
    f.good = true → 1522 < f.bytes → Gives (.switchFrameIngress (.edge e f n)) s fun t =>
      t.count (Key.EDGE_RX_FRAMES e) = s.count (Key.EDGE_RX_FRAMES e) + 1 ∧
        t.count (Key.EDGE_RX_OVERSIZE e) = s.count (Key.EDGE_RX_OVERSIZE e) + 1 ∧ t.sw = s.sw) ∧
  (∀ (s : State) (p : Fin 19) (c : Fin 8), s.logicOn = true → (s.swq (8 * p + c)).asm ≠ [] → Gives (.spillPageTimeout p c) s fun t =>
    (s.swq (8 * p + c)).asmAt + 10000 ≤ t.lmc ∧
      t = (((s.until ((s.swq (8 * p + c)).asmAt + 10000)).stockpot).writePage (8 * p + c)).retryOffers) ∧
  (∀ (s : State) (q : Nat), (s.swq q).asm ≠ [] → ((s.writePage q).swq q).asm = [] ∧
    ((s.writePage q).swq q).pages = (s.swq q).pages ++ [(s.swq q).asm] ∧
    (s.writePage q).count Key.SWC_SPILL_PAGES_WRITTEN = s.count Key.SWC_SPILL_PAGES_WRITTEN + 1) ∧
  (∀ (s : State) (p : Fin 19) (c : Fin 8) (fixed : Nat) (page : List SwCopy) (rest : List (List SwCopy)), s.logicOn = true →
    (s.swq (8 * p + c)).pages = page :: rest → (s.swq (8 * p + c)).frames = [] → (s.swq (8 * p + c)).back = [] →
    16 ≤ s.sharedFree → Gives (.spillPageReadback p c fixed false) s fun t => (t.swq (8 * p + c)).back = page ∧
      (t.swq (8 * p + c)).pages = rest ∧ t.count Key.SWC_SPILL_PAGES_READ = s.count Key.SWC_SPILL_PAGES_READ + 1) ∧
  (∀ (s : State) (p : Fin 19) (fixed : Nat) (bad : Bool), s.logicOn = true → s.coreAwake = true → s.swUp p = true →
    Gives (.egressFrameStart p fixed bad) s fun t => cellGet (fun _ => 0) s.sw.busy p ≤ t.lmc ∧ t.pending = s.pending) ∧
  (∀ (s : State) (p : Nat) (c : SwCopy), 4 ≤ p → (s.swLeave p c).sw.out = s.sw.out ++ [(p, c)] ∧
    (s.swLeave p c).count (Key.SWP_TX_FRAMES p) = s.count (Key.SWP_TX_FRAMES p) + 1) ∧
  (∀ (s : State) (p : Fin 19), s.logicOn = true → s.swUp p = false → s.sw.flushing.contains p.val = false →
    Gives (.portDownFlush p) s fun t => t.sw.flushing = p.val :: s.sw.flushing ∧
      t.count (Key.SWP_FLUSHES p) = s.count (Key.SWP_FLUSHES p) + 1) ∧
  (∀ (s : State) (p : Fin 19), s.logicOn = true → s.sw.flushing.contains p.val = true → Gives (.portFlushComplete p) s fun t =>
    t.lmc = s.lmc ∧ t.time = s.time)

/-- O31. Meters, gates, samplers and edge ports (R303, R307, R308, R311, R313, R314, R316, R302): a written meter record holds
from then on; a commit makes the admin list pending, which takes over at its base time; each entry change moves time on; a newly
enabled sampler counts afresh; COUNTER_CLEAR clears what its bits select; an edge port's link follows its PHY and
synchronisation; MDIO registers are read and written; and the HOST port comes up with the PCIe link. -/
def Obligations.SwitchSettings : Prop :=
  (∀ (s : State) (w : Writer) (m : Fin 256) (v : Nat), s.fwOn = true → Accepts s w (Key.METERS_METER (m / 32) (m % 32)) v →
    meterBad v = false → Gives (.meterWrite w m v) s fun t =>
      t.reg (Key.METERS_METER (m / 32) (m % 32)) = maskValue (Key.METERS_METER (m / 32) (m % 32)) v) ∧
  (∀ (s : State) (w : Writer) (g : Fin 12), s.fwOn = true → Accepts s w (Key.GATE_COMMIT g) 1 → gateCommitCheck g s = none →
    Gives (.gateCommit w g 1) s fun t => t.gatePending g = some ⟨s.gateAdmin g, toSigned 64 (s.reg (Key.GATE_ADMIN_BASE g)),
      s.reg (Key.GATE_ADMIN_CYCLE g)⟩ ∧ t.count (Key.GATE_COMMITS g) = s.count (Key.GATE_COMMITS g) + 1 ∧
        t.reg (Key.GATE_OPER_BASE g) = s.reg (Key.GATE_OPER_BASE g) ∧ t.reg (Key.GATE_OPER_LENGTH g) = s.reg (Key.GATE_OPER_LENGTH g)) ∧
  (∀ (s : State) (g : Fin 12) (p : GatePending), s.logicOn = true → s.gatePending g = some p →
    Gives (.gateListTakeover g) s fun t => t.gatePending g = none ∧ p.base ≤ t.ftime ∧ t.reg (Key.GATE_OPER_CYCLE g) = p.cycle ∧
      t.reg (Key.GATE_OPER_LENGTH g) = p.entries.length ∧ t.reg (Key.GATE_OPER_BASE g) = ofSigned 64 p.base) ∧
  (∀ (s : State) (g : Fin 12) (l : GatePending) (x left : Nat) (rest : List (Nat × Nat)), s.logicOn = true → s.gateRunning g = some l →
    segDrop (gateSegs l.entries l.cycle) ((s.ftime - l.base) % (l.cycle : Int)).toNat = (x, left) :: rest →
    Gives (.gateEntryChange g) s fun t => s.ftime + left ≤ t.ftime ∧ t.sw = s.sw) ∧
  (∀ (s : State) (w : Writer) (i : Fin 8) (v : Nat), s.fwOn = true → Accepts s w (Key.SMP_ENABLE i) v → s.reg (Key.SMP_ENABLE i) = 0 →
    Gives (.samplerEnableWrite w i v) s fun t => t.reg (Key.SMP_ENABLE i) = maskValue (Key.SMP_ENABLE i) v ∧
      cellGet (fun _ => 0) t.sw.sampled i = 0) ∧
  (∀ (s : State) (w : Writer), s.fwOn = true → Accepts s w Key.SW_COUNTER_CLEAR 1 → Gives (.switchClearTotals w) s fun t =>
    Quiet (s.clearTotals.logRecord Key.SW_COUNTER_CLEAR (beBytes 1 1)) t) ∧
  (∀ (s : State) (w : Writer), s.fwOn = true → Accepts s w Key.SW_COUNTER_CLEAR 2 → Gives (.switchClearPorts w) s fun t =>
    Quiet (s.clearPorts.logRecord Key.SW_COUNTER_CLEAR (beBytes 1 2)) t) ∧
  (∀ (s : State) (w : Writer), s.fwOn = true → Accepts s w Key.SW_COUNTER_CLEAR 4 → Gives (.switchClearMeters w) s fun t =>
    Quiet (s.clearMeters.logRecord Key.SW_COUNTER_CLEAR (beBytes 1 4)) t) ∧
  (∀ (s : State) (w : Writer), s.fwOn = true → Accepts s w Key.SW_COUNTER_CLEAR 8 → Gives (.switchClearSamplers w) s fun t =>
    Quiet (s.clearSamplers.logRecord Key.SW_COUNTER_CLEAR (beBytes 1 8)) t) ∧
  (∀ (s : State) (w : Writer), s.fwOn = true → Accepts s w Key.SW_COUNTER_CLEAR 16 → Gives (.switchClearGates w) s fun t =>
    Quiet (s.clearGates.logRecord Key.SW_COUNTER_CLEAR (beBytes 1 16)) t) ∧
  (∀ (s : State) (e : Fin 8) (linked half : Bool) (rate : Fin 4), s.logicOn = true → Gives (.edgeLinkChange e linked half rate) s fun t =>
    t.flag (Key.EDGE_LINK e) = (s.flag (Key.EDGE_ENABLE e) && linked && !(half && s.reg (Key.EDGE_SPEED e) == 0) &&
      !bitOf (s.reg (Key.EDGE_STATUS e)) 1)) ∧
  (∀ (s : State) (e : Fin 8), s.logicOn = true → Gives (.edgeSyncLoss e) s fun t => t.flag (Key.EDGE_LINK e) = false ∧
    bitOf (t.reg (Key.EDGE_STATUS e)) 1 = true) ∧
  (∀ (s : State) (e : Fin 8), s.logicOn = true → Gives (.sgmiiSyncRegained e) s fun t =>
    bitOf (t.reg (Key.EDGE_STATUS e)) 1 = false) ∧
  (∀ (s : State) (w : Writer) (e : Fin 8) (v : Nat), s.fwOn = true → Gives (.mdioRead w e (some v)) s fun t =>
    bitOf (t.reg (Key.EDGE_STATUS e)) 0 = false) ∧
  (∀ (s : State) (w : Writer) (e : Fin 8), s.fwOn = true → Gives (.mdioRead w e none) s fun t =>
    bitOf (t.reg (Key.EDGE_STATUS e)) 0 = true) ∧
  (∀ (s : State) (w : Writer) (e : Fin 8) (v : Nat), s.fwOn = true → Accepts s w (Key.EDGE_MDIO_DATA e) v → Gives (.mdioWrite w e v) s fun t =>
    t.sw.mdio = s.sw.mdio ++ [(s.reg (Key.EDGE_PHY_ADDR e), s.reg (Key.EDGE_MDIO_REG e), v % 65536)]) ∧
  (∀ (s : State) (speed width : Nat) (bm : Bool), s.logicOn = true → Gives (.pcieLinkUp speed width bm) s fun t =>
    t.reg Key.HOST_LINK = width % 256 * 256 + max 1 (min speed 3) ∧ t.sw.busMaster = bm)

/-- O32. Tunnel ends (R322, R324, R326, R333): OPEN goes out and is noted; an OPEN that no tunnel takes is refused with reason
1, one that agrees opens the end, one whose versions do not meet refuses it with reason 2; ACCEPT opens the end or, after the
end's own RESYNC, renews its credit; REFUSE and CLOSE bring REFUSED and OPENING; the keepalive leaves after 10 ms of silence;
and LOST makes the side-band invalid. -/
def Obligations.TunnelEnds : Prop :=
  (∀ (s : State) (n : Fin 1024), s.logicOn = true → s.tunOn n = true → s.role ≠ .standby → (s.tun n).st = 1 → (s.tun n).openAt = none →
    Gives (.tunnelOpenSend n) s fun t => (t.tun n).openAt = some s.lmc ∧ (t.tun n).sentAt = s.lmc ∧ (t.tun n).resync = false ∧
      t.lmc = s.lmc) ∧
  (∀ (s : State) (fr : Frame), s.tunTakes fr 1 = true → s.tunMatch fr = none → Gives (.tunnelOpenReceived fr) s fun t =>
    t = s.sendRefuse fr 0 1) ∧
  (∀ (s : State) (fr : Frame) (n : Nat), s.tunTakes fr 1 = true → s.tunMatch fr = some n →
    max (octAt 24 (s.tunCfg n) 8 1) (beAt (fr.payload.drop 12) 0 1) ≤ min (octAt 24 (s.tunCfg n) 9 1) (beAt (fr.payload.drop 12) 1 1) →
    endKind (s.tunCfg n) ≠ 6 → fld (beAt (fr.payload.drop 12) 2 4) 31 28 = endKind (s.tunCfg n) →
    Gives (.tunnelOpenReceived fr) s fun t => (t.tun n).st = 2 ∧
      (t.tun n).tver = min (octAt 24 (s.tunCfg n) 9 1) (beAt (fr.payload.drop 12) 1 1) ∧
      (t.tun n).allowed = beAt (fr.payload.drop 12) 6 2 ∧ (t.tun n).used = 0 ∧ (t.tun n).rxSeq = (beAt fr.payload 6 2 + 1) % 65536) ∧
  (∀ (s : State) (fr : Frame) (n : Nat), s.tunTakes fr 1 = true → s.tunMatch fr = some n →
    min (octAt 24 (s.tunCfg n) 9 1) (beAt (fr.payload.drop 12) 1 1) < max (octAt 24 (s.tunCfg n) 8 1) (beAt (fr.payload.drop 12) 0 1) →
    Gives (.tunnelOpenReceived fr) s fun t => (t.tun n).st = 3 ∧ (t.tun n).reason = 2) ∧
  (∀ (s : State) (fr : Frame) (n : Nat), s.tunTakes fr 2 = true → s.tunMatch fr = some n → (s.tun n).st ≠ 2 →
    Gives (.tunnelAcceptReceived fr) s fun t => (t.tun n).st = 2 ∧ (t.tun n).tver = beAt fr.payload 8 1 ∧
      (t.tun n).allowed = beAt (fr.payload.drop 12) 0 2 ∧ (t.tun n).rxSeq = (beAt fr.payload 6 2 + 1) % 65536) ∧
  (∀ (s : State) (fr : Frame) (n : Nat), s.tunTakes fr 2 = true → s.tunMatch fr = some n → (s.tun n).st = 2 → (s.tun n).resync = true →
    Gives (.tunnelAcceptReceived fr) s fun t => (t.tun n).st = 2 ∧ (t.tun n).allowed = beAt (fr.payload.drop 12) 0 2 ∧
      (t.tun n).used = 0 ∧ (t.tun n).freed = 0 ∧ (t.tun n).rxSeq = (s.tun n).rxSeq) ∧
  (∀ (s : State) (fr : Frame) (n : Nat), s.tunTakes fr 3 = true → s.tunMatch fr = some n → Gives (.tunnelRefuseReceived fr) s fun t =>
    (t.tun n).st = 3 ∧ (t.tun n).reason = beAt (fr.payload.drop 12) 0 1) ∧
  (∀ (s : State) (fr : Frame) (n : Nat), s.tunTakes fr 6 = true → s.tunMatch fr = some n → Gives (.tunnelCloseReceived fr) s fun t =>
    (t.tun n).st = 1 ∧ (t.tun n).openAt = none) ∧
  (∀ (s : State) (n : Fin 1024), s.logicOn = true → s.tunOn n = true → s.role ≠ .standby → (s.tun n).st = 2 →
    Gives (.tunnelKeepaliveSend n) s fun t => (s.tun n).sentAt + 10000000 ≤ t.lmc ∧ (t.tun n).sentAt = t.lmc ∧
      (t.tun n).reported = (s.tun n).freed) ∧
  (∀ (s : State) (n : Fin 1024), s.logicOn = true → s.tunOn n = true → (s.tun n).st = 2 → Gives (.tunnelLostTimeout n) s fun t =>
    t = (((s.until ((s.tun n).heardAt + 50000000)).tunState n 4).faultUp 0x058 n 0).sendOpen n false) ∧
  (∀ (s : State) (n : Nat), ((s.tunState n 4).tun n).st = 4 ∧ ((s.tunState n 4).tun n).sbValid = false ∧
    ((s.tunState n 4).tun n).sbRemote = 0)

/-- O33. Tunnel flow (R328, R329, R330, R331): the next frame in order joins the ready list and an older one is discarded; the
reorder timeout counts the missing numbers as lost and goes on with the next one held; a packet enters the transmit reserve, its
frame leaves on credit and waits without; a sink that cannot take the packet now leaves it, one that takes it frees its units;
credit is reported; and the side-band word is sent after OPEN and stored when heard. -/
def Obligations.TunnelFlow : Prop :=
  (∀ (s : State) (fr : Frame) (n : Nat), s.tunTakes fr 4 = true → s.tunMatch fr = some n → (s.tun n).st = 2 → (s.tun n).rx = [] →
    beAt fr.payload 6 2 = (s.tun n).rxSeq → beAt fr.payload 9 1 = 0 → beAt fr.payload 0 1 = 4 → Gives (.tunnelDataReceived fr) s fun t =>
      (t.tun n).ready = (s.tun n).ready ++ [⟨(s.tun n).rxSeq, 0, fr.lastSeg, fr.payload.drop 12, s.reg Key.GENERATION⟩] ∧
        (t.tun n).rxSeq = ((s.tun n).rxSeq + 1) % 65536 ∧ (t.tun n).rx = [] ∧ (t.tun n).gapAt = none) ∧
  (∀ (s : State) (fr : Frame) (n : Nat), s.tunTakes fr 4 = true → s.tunMatch fr = some n → (s.tun n).st = 2 →
    32768 ≤ ahead (s.tun n) (beAt fr.payload 6 2) → Gives (.tunnelDataReceived fr) s fun t => (t.tun n).ready = (s.tun n).ready ∧
      (t.tun n).rx = (s.tun n).rx ∧ (t.tun n).rxSeq = (s.tun n).rxSeq ∧ (t.tun n).heardAt = s.lmc) ∧
  (∀ (s : State) (n : Fin 1024) (a : Nat) (f : TunFrame), s.logicOn = true → s.tunOn n = true → (s.tun n).gapAt = some a →
    (s.tun n).rx = [f] → (s.tun n).ready = [] → f.segment = 0 → Gives (.tunnelReorderTimeout n) s fun t => (t.tun n).ready = [f] ∧
      (t.tun n).rx = [] ∧ (t.tun n).rxSeq = (f.tseq + 1) % 65536 ∧ (t.tun n).gapAt = none ∧
      (t.tun n).counts = modNth (· + ahead (s.tun n) f.tseq) (s.tun n).counts 2) ∧
  (∀ (s : State) (n : Fin 1024) (b : List Byte), s.logicOn = true → s.tunOn n = true → s.compat = false → endKind (s.tunCfg n) = 7 →
    b.length ≤ 2928 → s.tunRoom n b = true → s.role ≠ .standby → Gives (.ladlePacketTake n b) s fun t =>
      t = s.setTun n { s.tun n with tx := (s.tun n).tx ++ segments b (s.reg Key.GENERATION) }) ∧
  (∀ (s : State) (n : Fin 1024) (f : TunFrame) (r : List TunFrame), s.logicOn = true → s.tunOn n = true → (s.tun n).st = 2 →
    s.role ≠ .standby → (s.tun n).tx = f :: r → (s.tun n).used + unitsOf f.body ≤ (s.tun n).allowed → Gives (.tunnelDataSend n) s fun t =>
      (t.tun n).tx = r ∧ (t.tun n).used = (s.tun n).used + unitsOf f.body ∧ (t.tun n).txSeq = ((s.tun n).txSeq + 1) % 65536 ∧
        (t.tun n).sentAt = s.lmc) ∧
  (∀ (s : State) (n : Fin 1024) (f : TunFrame) (r : List TunFrame), s.logicOn = true → s.tunOn n = true → (s.tun n).st = 2 →
    s.role ≠ .standby → (s.tun n).tx = f :: r → (s.tun n).allowed < (s.tun n).used + unitsOf f.body → (s.tun n).waitAt = none →
    Gives (.tunnelDataSend n) s fun t => t = s.setTun n { s.tun n with waitAt := some s.lmc }) ∧
  (∀ (s u : State) (n : Fin 1024) (b : List Byte) (q m k : Nat), s.logicOn = true → s.tunOn n = true → (s.tun n).packet = some (b, q, m, k) →
    s.sink n (endKind (s.tunCfg n)) (endNum (s.tunCfg n)) q (octAt 24 (s.tunCfg n) 11 1) b = (.later, u) →
    Gives (.tunnelSinkDeliver n) s fun t => t = s) ∧
  (∀ (s u : State) (n : Fin 1024) (b : List Byte) (q m k : Nat), s.logicOn = true → s.tunOn n = true → (s.tun n).packet = some (b, q, m, k) →
    s.sink n (endKind (s.tunCfg n)) (endNum (s.tunCfg n)) q (octAt 24 (s.tunCfg n) 11 1) b = (.taken, u) →
    Gives (.tunnelSinkDeliver n) s fun t => (t.tun n).ready = (u.tun n).ready.drop m ∧ (t.tun n).freed = (u.tun n).freed + k) ∧
  (∀ (s : State) (n : Fin 1024) (a : Nat), s.logicOn = true → s.tunOn n = true → (s.tun n).st = 2 → s.role ≠ .standby →
    (s.tun n).freedAt = some a → Gives (.tunnelCreditReport n) s fun t => (t.tun n).reported = (s.tun n).freed ∧
      (t.tun n).freedAt = none ∧ (t.tun n).sentAt = t.lmc) ∧
  (∀ (s : State) (n : Fin 1024) (e l : Fin 256), s.logicOn = true → s.tunOn n = true → (s.tun n).st = 2 → (s.tun n).tver = 2 →
    octAt 24 (s.tunCfg n) 12 4 ≠ 0 → endKind (s.tunCfg n) < 7 → (s.tun n).sbSent = none → s.role ≠ .standby →
    Gives (.sidebandPoll n e l) s fun t =>
      (t.tun n).sbSent = some (s.sideband (endKind (s.tunCfg n)) (endNum (s.tunCfg n)) e l) ∧ (t.tun n).polledAt = s.lmc) ∧
  (∀ (s : State) (fr : Frame) (n : Nat), s.tunTakes fr 5 = true → s.tunMatch fr = some n → (s.tun n).st = 2 → (s.tun n).sbValid = false →
    Gives (.sidebandReceived fr) s fun t => (t.tun n).sbRemote = beAt fr.payload 12 8 ∧ (t.tun n).sbValid = true ∧
      bitOf (t.reg (Key.SB_SIDEBAND_PENDING (n / 64))) (n % 64) = true)

/-- O34. Tables and routes (R334 to R339): an accepted table write stores the entry and moves GENERATION on; retained contents
go when no frame is inside; a route-bound packet goes to the entry's port, or counts as missed, or leaves in a frame; and one
for which the port has no room counts as dropped. -/
def Obligations.TablesAndRoutes : Prop :=
  (∀ (s : State) (w : Writer) (n : Fin 1024) (v : Nat), s.fwOn = true → Accepts s w (Key.TUNS_CFG (n / 64) (n % 64)) v →
    tunCheck n (tunMask v) s = none → Gives (.tunnelConfigWrite w n v) s fun t => Quiet (s.tunWritten n (tunMask v)) t) ∧
  (∀ (s : State) (w : Writer) (r : Fin 4096) (v : Nat), s.fwOn = true → Accepts s w (Key.RTAB_ENTRY (r / 128) (r % 128)) v →
    routeCheck (v - octAt 20 v 19 1 - octAt 20 v 18 1 % 128 * 256) s = none → Gives (.routeEntryWrite w r v) s fun t =>
      Quiet (s.tableWritten (Key.RTAB_ENTRY (r / 128) (r % 128)) (v - octAt 20 v 19 1 - octAt 20 v 18 1 % 128 * 256)) t) ∧
  (∀ (s : State) (k v : Nat), k ≠ Key.GENERATION → k ≠ Key.PARAM_DIRTY → (s.tableWritten k v).reg k = maskValue k v ∧
    (s.tableWritten k v).reg Key.GENERATION = (s.reg Key.GENERATION + 1) % 256) ∧
  (∀ (s : State), s.logicOn = true → s.insideGens = [] → Gives .generationRetire s fun t => t.sw.retained = [] ∧
    t.sw.queues = s.sw.queues ∧ t.regs = s.regs) ∧
  (∀ (s : State) (n : Fin 16) (q : Fin 25) (k c : Nat), s.logicOn = true → queuePort n q = some (k, c) → s.routeBound k c = false →
    Gives (.routeClassify n q) s fun t => t = s) ∧
  (∀ (s u : State) (n : Fin 16) (q : Fin 25) (c : Nat) (p : List QItem) (b : List Byte), s.logicOn = true → queuePort n q = some (1, c) →
    s.routeBound 1 c = true → s.qTake n q = some (p, u) → u.wrap 1 n q p = some b → u.routeFor (4096 + c) (beAt b 8 4) = none →
    Gives (.routeClassify n q) s fun t => t = u.bump (Key.LADLE_ROUTE_MISS (n % 4))) ∧
  (∀ (s : State) (fr : Frame), s.logicOn = true → fr.kind = 8 → beAt fr.payload 0 1 = 1 →
    routePort (beAt fr.payload 1 1 * 4096 + beAt fr.payload 2 2) = true → Gives (.routeFrameReceived fr) s fun t =>
      t = (s.bump (Key.LADLE_ROUTE_FRAMES (routePan (beAt fr.payload 1 1) (beAt fr.payload 2 2) % 4))).routeSink
        (routePan (beAt fr.payload 1 1) (beAt fr.payload 2 2) % 4) (beAt fr.payload 1 1) (beAt fr.payload 2 2) (beAt fr.payload 4 4)
        ((fr.payload.drop 12).take (beAt fr.payload 8 2))) ∧
  (∀ (s : State) (l c i : Nat) (b : List Byte), s.qRoom (endQueues 1 c 0).1 (endQueues 1 c 0).2.2
      (((canSink b i 0).map List.length).foldl (· + ·) 0) = false →
    s.routeSink l 1 c i b = s.bump (Key.LADLE_ROUTE_SINK_DROP l))

/-- O35. Dictionary requests (R345, R350, R352, R355 to R358): a READ that passes every check is answered with the object's
bytes, and one that fails with its abort code; a repeated request is answered from the kept responses and counted; a STANDBY hub
discards a request to the node address; a request too many is refused with BUSY; a WRITE of the wrong type is refused and
counted; and one that passes writes. -/
def Obligations.DictRequests : Prop :=
  (∀ (s u : State) (q : DictReq), s.dictOpen q 1 = (true, u) → u.readCheck q 1 = none → Gives (.dictRead q) s fun t =>
    t.answers = (u.readBytes q.object).2.answers ++ [⟨askPath q, q.object, none, (u.readBytes q.object).1⟩]) ∧
  (∀ (s u : State) (q : DictReq) (a : Abort), s.dictOpen q 1 = (true, u) → u.readCheck q 1 = some a → Gives (.dictRead q) s fun t =>
    t.answers = u.answers ++ [⟨askPath q, q.object, some a, []⟩]) ∧
  (∀ (s : State) (q : DictReq) (b : List Byte), s.fwOn = true → q.toNode = false → s.keptFor (askOf q 1) = some b →
    askPath q ≠ .mailbox → Gives (.dictRead q) s fun t => t.count Key.DICT_DUPLICATES = s.count Key.DICT_DUPLICATES + 1 ∧
      t.count Key.DICT_REQUESTS = s.count Key.DICT_REQUESTS ∧ t.answers = s.answers) ∧
  (∀ (s : State) (q : DictReq), s.fwOn = true → q.toNode = true → s.role = .standby → Gives (.dictRead q) s fun t =>
    t.answers = s.answers ∧ t.dict = s.dict ∧ t.cnt = s.cnt) ∧
  (∀ (s : State) (q : DictReq), s.fwOn = true → q.toNode = false → s.keptFor (askOf q 1) = none → s.dictFull 1 q.object = true →
    Gives (.dictRead q) s fun t => t.answers = s.answers ++ [⟨askPath q, q.object, some .busy, []⟩] ∧
      t.count Key.DICT_BUSY_REFUSALS = s.count Key.DICT_BUSY_REFUSALS + 1) ∧
  (∀ (s u : State) (q : DictReq) (a : Abort), s.dictOpen q 2 = (true, u) → State.typeCheck q.object q.ty 2 q.data.length = some a →
    Gives (.dictWrite q) s fun t => t.answers = u.answers ++ [⟨askPath q, q.object, some a, []⟩] ∧
      t.rejections q.object = min (u.rejections q.object + 1) 0xFFFFFFFF ∧ t.regs = u.regs) ∧
  (∀ (s u : State) (q : DictReq) (r : ObjRow) (w : Writer), s.dictOpen q 2 = (true, u) →
    State.typeCheck q.object q.ty 2 q.data.length = none → objRow q.object = some r → askWriter q = some w → r.size ≤ 1024 →
    Gives (.dictWrite q) s fun t => t = (u.writeKey w q.object (valueOf r q.data) q.data).dictWait (askOf q 2))

/-- O36. Block transfers (R353, R354): a READ_BLOCK beyond its object is refused, the host's own goes to its buffer, another
becomes a transfer; a WRITE_BLOCK with a wrong CRC-32 is refused and a longer one becomes a transfer; a segment in order is
taken, an early one kept, one beyond the window ends the transfer; an ACK of the last segment and a CANCEL end it; an early
segment is acknowledged 1 ms later; and an unacknowledged transfer is sent again, five times. -/
def Obligations.DictTransfers : Prop :=
  (∀ (s u : State) (q : DictReq) (r : ObjRow) (a : Abort), s.dictOpen q 3 = (true, u) → u.readCheck q 3 = none →
    objRow q.object = some r → blockRange r q.object q.paramA q.paramB = some a → Gives (.dictReadBlock q) s fun t =>
      t.answers = u.answers ++ [⟨askPath q, q.object, some a, []⟩]) ∧
  (∀ (s u v : State) (q : DictReq) (r : ObjRow) (b : List Byte), s.dictOpen q 3 = (true, u) → u.readCheck q 3 = none →
    objRow q.object = some r → blockRange r q.object q.paramA q.paramB = none → askPath q = .mailbox →
    (u.dictWake q.object).capture_ r q.object q.paramA q.paramB = (b, v) → b ≠ [] → q.paramB ≤ v.bar 0x418 →
    Gives (.dictReadBlock q) s fun t => t.host.dma = v.host.dma ++ [(v.blockBuffer, b)] ∧
      t.answers = v.answers ++ [⟨.mailbox, q.object, none, []⟩]) ∧
  (∀ (s : State) (x : Transfer) (n : Nat), x.acked + 8 ≤ x.next → State.pump n s x = (s, x)) ∧
  (∀ (s u : State) (q : DictReq) (w : Writer), s.dictOpen q 4 = (true, u) → askWriter q = some w → q.data.length = q.paramB →
    u.blockCheck q w 0 = none → crc32 q.data ≠ q.paramA → Gives (.dictWriteBlock q) s fun t =>
      t.answers = u.answers ++ [⟨askPath q, q.object, some .transferCrc, []⟩]) ∧
  (∀ (s u : State) (q : DictReq) (w : Writer), s.dictOpen q 4 = (true, u) → askWriter q = some w → q.data.length ≠ q.paramB →
    u.blockCheck q w q.paramA = none → Gives (.dictWriteBlock q) s fun t =>
      t.dict.transfers = u.dict.transfers ++ [⟨askPath q, askClient q, q.tid % 65536, q.role % 8, q.object, q.ty, false, q.paramA,
        q.paramB, q.data, 1, 0, [], none, u.lmc, 0⟩] ∧ t.answers = u.answers) ∧
  (∀ (s : State) (p : Path) (tid seg crc : Nat) (last : Bool) (d : List Byte) (x : Transfer), s.fwOn = true → s.transfer p tid = some x →
    x.reads = false → x.path ≠ .mailbox → x.next + 8 ≤ seg → Gives (.dictSegment p tid seg last crc d) s fun t =>
      t.dict.transfers = s.dict.transfers.erase x ∧ t.answers = s.answers ++ [⟨x.path, x.object, some .transferSequence, []⟩]) ∧
  (∀ (s : State) (p : Path) (tid crc : Nat) (d : List Byte) (x : Transfer), s.fwOn = true → s.transfer p tid = some x →
    x.reads = false → x.early = [] → Gives (.dictSegment p tid x.next false crc d) s fun t =>
      t.dict.transfers = s.dict.transfers.map (fun y => if y = x then
        { x with data := x.data ++ d, next := x.next + 1, advancedAt := s.lmc, earlyAt := none } else y)) ∧
  (∀ (s : State) (p : Path) (tid seg crc : Nat) (last : Bool) (d : List Byte) (x : Transfer), s.fwOn = true → s.transfer p tid = some x →
    x.reads = false → x.early = [] → x.next < seg → seg < x.next + 8 → Gives (.dictSegment p tid seg last crc d) s fun t =>
      t.dict.transfers = s.dict.transfers.map (fun y => if y = x then
        { x with early := [(seg, last, crc, d)], earlyAt := some s.lmc } else y)) ∧
  (∀ (s : State) (p : Path) (tid next : Nat) (x : Transfer), s.fwOn = true → s.transfer p tid = some x → x.reads = true →
    x.acked < next → next ≤ x.next → x.total ≤ 1024 * next → Gives (.dictAck p tid next) s fun t =>
      t.dict.transfers = (s.dict.transfers.map (fun y => if y = x then { x with acked := next, advancedAt := s.lmc, resends := 0 }
        else y)).erase { x with acked := next, advancedAt := s.lmc, resends := 0 }) ∧
  (∀ (s : State) (p : Path) (tid : Nat) (x : Transfer), s.fwOn = true → s.transfer p tid = some x → Gives (.dictCancel p tid) s fun t =>
    t.dict.transfers = s.dict.transfers.erase x ∧ t.answers = s.answers ∧ t.regs = s.regs) ∧
  (∀ (s : State) (p : Path) (tid a : Nat) (x : Transfer), s.fwOn = true → s.transfer p tid = some x → x.earlyAt = some a →
    Gives (.dictOutOfOrderAck p tid) s fun t => a + 1000000 ≤ t.lmc ∧
      t.dict.transfers = s.dict.transfers.map (fun y => if y = x then { x with earlyAt := none } else y)) ∧
  (∀ (s : State) (p : Path) (tid : Nat) (x : Transfer), s.fwOn = true → s.transfer p tid = some x → x.reads = true →
    x.path ≠ .mailbox → 5 ≤ x.resends → Gives (.dictResendTimeout p tid) s fun t => x.advancedAt + 10000000 ≤ t.lmc ∧
      t.count Key.DICT_TIMEOUTS = s.count Key.DICT_TIMEOUTS + 1 ∧ t.dict.transfers = s.dict.transfers.erase x) ∧
  (∀ (s : State) (p : Path) (tid : Nat) (x : Transfer), s.fwOn = true → s.transfer p tid = some x → x.reads = true →
    x.resends < 5 → Gives (.dictResendTimeout p tid) s fun t => x.advancedAt + 10000000 ≤ t.lmc ∧
      t.count Key.DICT_RESENDS = s.count Key.DICT_RESENDS + 1 ∧ t.count Key.DICT_TIMEOUTS = s.count Key.DICT_TIMEOUTS)

/-- O37. Hub states, sessions and saving (R347 to R349, R359 to R361): each state request has its state and its place in the
table, an accepted OPERATE waits for the apply instant, a session has an owner until it is closed or idle, RESET falls due 10 ms
later; a SAVE runs until SAVE_COMPLETE makes its copy the active one; and RESTORE_DEFAULTS takes effect. -/
def Obligations.HubStates : Prop :=
  (∀ (s : State) (w : Writer), s.fwOn = true → Accepts s w Key.HUB_STATE_REQUEST 1 → (s.hub.mode = .operate ∨ s.hub.mode = .safe) →
    Gives (.stateRequestPreop w) s fun t => t.hub.mode = .preop ∧ t.hub.cause = s.lostCause) ∧
  (∀ (s : State) (w : Writer), s.fwOn = true → Accepts s w Key.HUB_STATE_REQUEST 1 → s.hub.mode = .preop →
    Gives (.stateRequestPreop w) s fun t => t.hub.mode = .preop ∧
      t.answers = s.answers ++ [⟨w.path, Key.HUB_STATE_REQUEST, some .stateConflict, []⟩]) ∧
  (∀ (s : State) (w : Writer), s.fwOn = true → Accepts s w Key.HUB_STATE_REQUEST 2 → s.hub.mode = .preop → s.hubHeld = false →
    s.hub.paramsLost = false → Gives (.stateRequestOperate w) s fun t => t.hub.mode = .preop ∧ t.hub.opWaits = true) ∧
  (∀ (s : State) (w : Writer), s.fwOn = true → Accepts s w Key.HUB_STATE_REQUEST 3 → s.hub.mode = .operate →
    Gives (.stateRequestSafe w) s fun t => t.hub.mode = .safe ∧ t.hub.cause = 1) ∧
  (∀ (s : State) (w : Writer), s.fwOn = true → Accepts s w Key.HUB_STATE_REQUEST 4 → s.roleOk w .engineer = true →
    (s.hub.mode = .preop ∨ s.hub.mode = .operate ∨ s.hub.mode = .safe) → Gives (.stateRequestOpenMaint w) s fun t =>
      t.hub.mode = .maint ∧ t.hub.ret = s.hub.mode ∧ t.hub.owner = some w.path ∧
        t.reg Key.HUB_MAINT_OWNER = ownerWord w.path) ∧
  (∀ (s : State) (w : Writer), s.fwOn = true → Accepts s w Key.HUB_STATE_REQUEST 5 → s.roleOk w .engineer = true →
    s.roleOk w .service = true → s.hub.mode = .maint → Gives (.stateRequestCloseMaint w) s fun t =>
      t.hub.owner = none ∧ t.reg Key.HUB_MAINT_OWNER = 0 ∧ (t.hub.mode = .safe ∨
        t.hub.mode = ((s.releaseForces.pertEndAll.setReg Key.BYP_COMMAND 0).bypUpdate).hub.ret)) ∧
  (∀ (s : State) (w : Writer), s.fwOn = true → Accepts s w Key.HUB_STATE_REQUEST 6 → s.roleOk w .service = true →
    Gives (.stateRequestReset w) s fun t => t.hub.resetDue = some (s.lmc + 10000000, .commanded) ∧ t.hub.mode = s.hub.mode) ∧
  (∀ (s : State), s.fwOn = true → s.hub.autoDone = false → s.flag Key.HUB_AUTO_OPERATE = true → s.station ≠ 0 → s.hubHeld = false →
    s.hub.paramsLost = false → s.hub.mode = .preop → Gives .autoOperateEntry s fun t => t.hub.mode = .operate ∧ t.hub.autoDone = true) ∧
  (∀ (s : State), s.fwOn = true → s.hub.mode = .maint → Gives .maintIdleExpiry s fun t =>
    s.hub.touched + s.reg Key.HUB_MAINT_IDLE * 1000000000 ≤ t.lmc ∧ t.hub.owner = none ∧ t.reg Key.HUB_MAINT_OWNER = 0) ∧
  (∀ (s : State) (w : Writer), s.fwOn = true → s.permit w Key.PARAM_SAVE 1 = none → s.boot.saving = none → Gives (.save w 1) s fun t =>
    t.boot.saving.isSome = true ∧ t.reg Key.PARAM_DIRTY = 0) ∧
  (∀ (s : State) (w : Writer), s.fwOn = true → s.permit w Key.PARAM_SAVE 1 = none → s.boot.saving.isSome = true →
    Gives (.save w 1) s fun t => t.boot = s.boot ∧ t.answers = s.answers ++ [⟨w.path, Key.PARAM_SAVE, some .busy, []⟩]) ∧
  (∀ (s : State) (x : Saving), s.fwOn = true → s.boot.saving = some x → Gives .saveComplete s fun t => t.boot.saving = none ∧
    t.reg Key.PARAM_ACTIVE_COPY = x.copy ∧ t.count Key.PARAM_SAVES = s.count Key.PARAM_SAVES + 1 ∧
      t.hub.paramsLost = false ∧ t.answers = s.answers ++ [⟨x.path, Key.PARAM_SAVE, none, []⟩]) ∧
  (∀ (s : State) (w : Writer), s.fwOn = true → Accepts s w Key.PARAM_RESTORE_DEFAULTS 1 → Gives (.restoreDefaults w 1) s fun t =>
    Quiet s.restoreDefaults t)

/-- O38. The host's mailbox, snapshots and watchdog (R122, R132, R133, R366, R367, R370, R383): a GO while BUSY is ignored and
counted, one of an illegal length ends at once, another makes the mailbox BUSY; a response or the timeout ends the transaction
with DONE; a snapshot is taken when none runs; reads of the low halves latch the high ones; and the watchdog's gap clears
HOST_READY. -/
def Obligations.HostMailbox : Prop :=
  (∀ (s : State) (v : Fin 2048) (b : List Byte), s.logicOn = true → s.host.mbx.isSome = true → Gives (.mailboxGo v b) s fun t =>
    t.count Key.HOST_MBX_IGNORED = s.count Key.HOST_MBX_IGNORED + 1 ∧ t.host = s.host) ∧
  (∀ (s : State) (v : Fin 2048) (b : List Byte), s.logicOn = true → s.host.mbx = none → (v.val < 20 ∨ 1044 < v.val) →
    Gives (.mailboxGo v b) s fun t => t.host.mbx = none ∧ t.bar 0x404 = 2 ^ 30 + Abort.valueRange.code ∧ t.msix = s.msix ++ [0]) ∧
  (∀ (s : State) (v : Fin 2048) (b : List Byte), s.logicOn = true → s.host.mbx = none → 20 ≤ v.val → v.val ≤ 1044 → s.bar 0x408 ≠ 0 →
    s.bar 0x408 ≠ s.station → beAt (bytesAt s.host.reqBytes 0 v) 0 1 % 16 = 1 → Gives (.mailboxGo v b) s fun t =>
      t.host.mbx.map MbxRun.dest = some (s.bar 0x408) ∧ t.bar 0x404 = 2 ^ 31 ∧ t.msix = s.msix) ∧
  (∀ (s : State) (f : Fin 4) (fr : Frame) (m : MbxRun) (a : Answer), s.logicOn = true → s.host.mbx = some m → m.dest = 0 →
    (s.answers.drop m.seen).find? (fun a => decide (a.path = .mailbox)) = some a → Gives (.mailboxResponse f fr) s fun t =>
      t.host.mbx = none ∧ t.bar 0x404 = 2 ^ 30 + (a.abort.map Abort.code).getD 0 ∧ t.host.respBytes = respond m.req a.abort a.data ∧
        t.msix = s.msix ++ [0]) ∧
  (∀ (s : State) (m : MbxRun), s.logicOn = true → s.host.mbx = some m → Gives .mailboxTimeout s fun t =>
    m.startedAt + s.bar 0x41C * 1000000 ≤ t.lmc ∧ t.host.mbx = none ∧ t.bar 0x404 = 2 ^ 30 + Abort.timeout.code ∧
      t.msix = s.msix ++ [0]) ∧
  (∀ (s : State), s.logicOn = true → Gives .mailboxDoneClear s fun t => bitOf (t.bar 0x404) 30 = false) ∧
  (∀ (s : State) (v : Nat), s.logicOn = true → s.host.snap.isSome = true → Gives (.snapshotGo v) s fun t =>
    t = s.bump Key.HOST_SNAP_IGNORED) ∧
  (∀ (s : State) (v : Nat), s.logicOn = true → s.host.snap = none → fld v 19 0 + fld v 27 24 < 2 ^ 20 → Gives (.snapshotGo v) s fun t =>
    t.host.snap = some (fld v 19 0, fld v 27 24 + 1) ∧ t.bar 0x204 = 2 ^ 31 + s.bar 0x204 % 65536) ∧
  (∀ (s : State), s.logicOn = true → Gives .ftimeLoRead s fun t => t.bar 0x14 = ofSigned 64 s.ftime / 2 ^ 32 ∧
    t.busReads = s.busReads ++ [⟨0, 0x10, ofSigned 64 s.ftime % 2 ^ 32⟩] ∧ t.regs = s.regs) ∧
  (∀ (s : State), s.logicOn = true → Gives .lmcLoRead s fun t => t.bar 0x1C = s.lmc % 2 ^ 64 / 2 ^ 32 ∧
    t.busReads = s.busReads ++ [⟨0, 0x18, s.lmc % 2 ^ 64 % 2 ^ 32⟩] ∧ t.regs = s.regs) ∧
  (∀ (s : State), s.logicOn = true → Gives .watchdogKick s fun t => t.host.kickAt = some s.lmc ∧ t.bar0 = s.bar0) ∧
  (∀ (s : State) (v : Fin 8), s.logicOn = true → Gives (.hostReadyWrite v) s fun t => t.bar 0x24 = v) ∧
  (∀ (s : State) (a : Nat), s.logicOn = true → s.host.kickAt = some a → bitOf (s.bar 0x24) 2 = true → s.reg Key.HOST_WDOG_MS ≠ 0 →
    Gives .watchdogExpiry s fun t => a + s.reg Key.HOST_WDOG_MS * 1000000 ≤ t.lmc ∧ t.host.kickAt = none ∧
      bitOf (t.bar 0x24) 1 = false)

/-- O39. The host's rings, stage and descriptors (R368, R369, R371 to R374): enabling a ring sets HEAD to TAIL; a slot is
written content first and header last, and fires its vector when due; pairs are staged up to 588 and leave with SEND; a
descriptor that is refused gets its STATUS and a good one is read; a failed or late read sets TX_ERR; and the link's loss clears
what depends on it. -/
def Obligations.HostRings : Prop :=
  (∀ (s : State) (r : Fin 3) (v : Nat), s.logicOn = true → bitOf (s.bar (ringAt r 0x108)) 31 = false → bitOf v 31 = true →
    v % 32 = 8 → Gives (.ringEnableWrite r v) s fun t => t.bar (ringAt r 0x108) = 2 ^ 31 + 8 ∧
      t.bar (ringAt r 0x10C) = s.bar (ringAt r 0x110) % 256 ∧ (t.ring r).phase = true) ∧
  (∀ (s : State) (r : Fin 3) (v : Nat), s.logicOn = true → Gives (.ringTailWrite r v) s fun t =>
    t.bar (ringAt r 0x110) = v % 65536 % s.ringSize r ∧ t.host = s.host) ∧
  (∀ (s u : State) (r : Fin 3) (k : Nat) (c : List Byte), s.logicOn = true → s.ringOn r = true → s.ringFree r ≠ 0 →
    s.ringNext r = some (k, c, u) → Gives (.ringSlotWrite r) s fun t => t.host.dma = u.host.dma ++
      [((u.bar (ringAt r 0x104) * 2 ^ 32 + u.bar (ringAt r 0x100)) / 4096 * 4096 + u.ringHead r * slotBytes r + 16, c),
        ((u.bar (ringAt r 0x104) * 2 ^ 32 + u.bar (ringAt r 0x100)) / 4096 * 4096 + u.ringHead r * slotBytes r,
          beBytes 2 c.length ++ beBytes 1 k ++ beBytes 1 (b2n (u.ring r).phase * 128) ++ beBytes 4 (u.ring r).sequence ++
            beBytes 8 (ofSigned 64 u.ftime))] ∧ (t.ring r).sequence = ((u.ring r).sequence + 1) % 2 ^ 32) ∧
  (∀ (s : State) (r : Fin 3), s.logicOn = true → (s.ring r).unsignalled ≠ 0 → Gives (.msixModerationTimeout r) s fun t =>
    (s.ring r).firstAt + s.bar (ringAt r 0x114) / 65536 * 1000 ≤ t.lmc ∧ (t.ring r).unsignalled = 0 ∧
      t.msix = s.msix ++ [r.val + 1]) ∧
  (∀ (s : State) (v : Nat), s.logicOn = true → s.host.stage.length < 588 → Gives (.iwStageWrite v) s fun t =>
    t.host.stage = s.host.stage ++ [(v / 2 ^ 20 % 4096, v % 2 ^ 20)] ∧ t.bar4 0x2008 % 65536 = s.host.stage.length + 1) ∧
  (∀ (s : State) (v : Nat), s.logicOn = true → 588 ≤ s.host.stage.length → Gives (.iwStageWrite v) s fun t =>
    t.host.stage = s.host.stage ∧ t.bar4 0x2008 / 65536 = min (s.bar4 0x2008 / 65536 + 1) 65535) ∧
  (∀ (s : State) (v : Nat), s.logicOn = true → bitOf v 31 = true → Gives (.iwSend v) s fun t => t.host.stage = []) ∧
  (∀ (s : State), s.logicOn = true → s.host.stageHeld ≠ [] → Gives .iwApplyWindowRelease s fun t => t.host.stageHeld = []) ∧
  (∀ (s : State) (v : Nat), s.logicOn = true → Gives (.txTailWrite v) s fun t => t.bar4 0x3004 = v % 4096 ∧ t.host.stage = s.host.stage) ∧
  (∀ (s : State) (x : Nat), s.logicOn = true → bitOf (s.bar 0x24) 0 = true → s.host.reading = none → s.bar4 0x3000 ≠ s.bar4 0x3004 →
    s.txRefusal = some x → Gives .txDescriptorTake s fun t => t.bar4 0x3000 = (s.bar4 0x3000 + 1) % 4096 ∧ t.host.reading = none) ∧
  (∀ (s : State), s.logicOn = true → bitOf (s.bar 0x24) 0 = true → s.host.reading = none → s.bar4 0x3000 ≠ s.bar4 0x3004 →
    s.txRefusal = none → fld (s.bar4 (s.txDesc + 8)) 31 28 = 2 → Gives .txDescriptorTake s fun t => t.host.reading = some s.lmc ∧
      t.bar4 0x3000 = s.bar4 0x3000) ∧
  (∀ (s : State) (d : List Byte), s.logicOn = true → s.host.reading.isSome = true → Gives (.dmaReadCompletion false d) s fun t =>
    t.count Key.HOST_DMA_ERRORS = s.count Key.HOST_DMA_ERRORS + 1 ∧ bitOf (t.bar 0x2C) 3 = true ∧ t.host.reading = none) ∧
  (∀ (s : State) (d : List Byte), s.logicOn = true → s.host.reading.isSome = true → fld (s.bar4 (s.txDesc + 8)) 31 28 = 1 →
    s.tunRoom (fld (s.bar4 (s.txDesc + 12)) 31 16) (d.take (fld (s.bar4 (s.txDesc + 8)) 12 0) ++
      List.replicate (fld (s.bar4 (s.txDesc + 8)) 12 0 - d.length) 0) = false → Gives (.dmaReadCompletion true d) s fun t =>
      t.host.reading = none ∧ t.bar4 0x3000 = s.bar4 0x3000) ∧
  (∀ (s : State) (a : Nat), s.logicOn = true → s.host.reading = some a → Gives .dmaCompletionTimeout s fun t => a + 10000000 ≤ t.lmc ∧
    t.count Key.HOST_COMPLETION_TIMEOUTS = s.count Key.HOST_COMPLETION_TIMEOUTS + 1 ∧ bitOf (t.bar 0x2C) 3 = true) ∧
  (∀ (s : State), s.logicOn = true → s.reg Key.HOST_LINK ≠ 0 → Gives .pcieLinkDown s fun t => t.reg Key.HOST_LINK = 0 ∧
    t.count Key.HOST_LINK_DOWNS = s.count Key.HOST_LINK_DOWNS + 1 ∧ t.bar 0x24 = s.bar 0x24 &&& 4 ∧ t.host.stage = [] ∧
      t.host.mbx = none ∧ t.sw.busMaster = false)

/-- O40. Writes and their refusal (R7, R9, R10, R11, R357): a read-only or constant object refuses every write; the role is
checked before the hub state; a refused write leaves every object, line and queue as it was, answers its abort code and counts
once, up to 0xFFFFFFFF; REGISTER_WRITE of an object is the write of that object, one of a host register stores it, and one
outside its BAR is a fault. -/
def Obligations.WritesAndRefusals : Prop :=
  (∀ (s : State) (w : Writer) (k v : Nat) (r : ObjRow), objRow k = some r → (r.access = .ro ∨ r.access = .const) →
    s.permit w k v = some .readOnly) ∧
  (∀ (s : State) (w : Writer) (k v : Nat) (r : ObjRow) (role : Role) (m : Nat) (d : Bool), objRow k = some r → r.access = .rw role m d →
    s.inRecovery = false → v < 2 ^ (8 * r.size) → s.denied k v = none → w.path ≠ .peer → s.roleOk w role = false →
    s.permit w k v = some .roleDenied) ∧
  (∀ (s : State) (w : Writer) (k v : Nat) (a : Abort) (own : State → Option Abort) (eff : State → State), s.permit w k v = some a →
    s.write w k v own eff = s.refuse w k a) ∧
  (∀ (s : State) (w : Writer) (k v : Nat) (a : Abort) (own : State → Option Abort) (eff : State → State), s.permit w k v = none →
    rangeCheck k v = some a → s.write w k v own eff = s.refuse w k a) ∧
  (∀ (s : State) (w : Writer) (k : Nat) (a : Abort), (s.refuse w k a).regs = s.regs ∧ (s.refuse w k a).lines = s.lines ∧
    (s.refuse w k a).queues = s.queues ∧ (s.refuse w k a).sw = s.sw ∧
    (s.refuse w k a).rejections k = min (s.rejections k + 1) 0xFFFFFFFF ∧
    (s.refuse w k a).answers = s.answers ++ [⟨w.path, k, some a, []⟩]) ∧
  (∀ (s : State) (w : Writer) (k v : Nat), Gives (.registerWrite w (.object k) v) s fun t => t = s.writeKey w k v (valueBytes k v)) ∧
  (∀ (s : State) (w : Writer) (v : Nat), s.logicOn = true → Gives (.registerWrite w (.bar0 0x408) v) s fun t =>
    t.bar 0x408 = v % 65536 ∧ t.regs = s.regs) ∧
  (∀ (s : State) (w : Writer) (o v : Nat), 0x10000 ≤ o → exec (.registerWrite w (.bar0 o) v) s = .fault (.outsideBar o)) ∧
  (∀ (s : State) (w : Writer) (o v : Nat), 0x100000 ≤ o → exec (.registerWrite w (.bar4 o) v) s = .fault (.outsideBar o))

/-- O41. Event sources (R377, R380, R382, R384 to R387): raising, claiming and completing act on the named source; a completion
that no claim of the target matches is counted; a claim with nothing to claim reads 0; a remote source not completed in
REOFFER_MS is offered again; RAISE takes the sources from 896 on; and SIDEBAND_ACK clears the bits it names. -/
def Obligations.EventSources : Prop :=
  (∀ (s : State) (n : Fin 1024) (d : Nat), s.logicOn = true → n.val ≠ 0 → Gives (.eventRaise n d) s fun t =>
    t = s.raise n (d % 2 ^ 64)) ∧
  (∀ (s : State) (w : Writer) (n : Fin 1024) (v : Nat), s.fwOn = true → Accepts s w (Key.SRC_SOURCE_CFG (n / 128) (n % 128)) v →
    srcCfgCheck n v s = none → Gives (.sourceCfgWrite w n v) s fun t => Quiet (s.store (Key.SRC_SOURCE_CFG (n / 128) (n % 128)) v) t) ∧
  (∀ (s : State) (n : Nat), s.logicOn = true → s.targetReady 2 = true → s.claimable 2 = some n → Gives (.claimRead 2) s fun t =>
    t = ((s.setSrc n { s.src n with st := 2, merged := 0, fired := false }).fireHost).busRead 0 0x300
      (cfgTag (s.srcCfg n) * 2 ^ 16 + n)) ∧
  (∀ (s : State), s.logicOn = true → s.claimable 2 = none → Gives (.claimRead 2) s fun t => t = s.busRead 0 0x300 0) ∧
  (∀ (s : State) (k : Fin 3) (v : Nat), s.logicOn = true → (s.src (v % 1024)).st = 2 → (s.src (v % 1024)).target = k.val →
    Gives (.completeWrite k v) s fun t => t = s.completeSrc (v % 1024)) ∧
  (∀ (s : State) (k : Fin 3) (v : Nat), s.logicOn = true → (s.src (v % 1024)).st ≠ 2 → Gives (.completeWrite k v) s fun t =>
    t = s.bump Key.EVT_BAD_COMPLETES) ∧
  (∀ (s : State) (w : Writer) (v r : Nat), s.fwOn = true → Accepts s w Key.EVT_REMOTE_COMPLETE v → (s.src (v % 1024)).st = 2 →
    r ∈ s.remOf w.path → (s.src (v % 1024)).target = 3 + r → (s.src (v % 1024)).delivery = v / 2 ^ 16 % 65536 →
    Gives (.remoteCompleteWrite w v) s fun t => t = (s.completeSrc (v % 1024)).accepted w Key.EVT_REMOTE_COMPLETE v) ∧
  (∀ (s : State) (w : Writer) (v : Nat), s.fwOn = true → Accepts s w Key.EVT_REMOTE_COMPLETE v → (s.src (v % 1024)).st ≠ 2 →
    Gives (.remoteCompleteWrite w v) s fun t =>
      t.answers = s.answers ++ [⟨w.path, Key.EVT_REMOTE_COMPLETE, some .stateConflict, []⟩] ∧ t.sources = s.sources) ∧
  (∀ (s : State) (n : Fin 1024), s.logicOn = true → (s.src n).st = 2 → 3 ≤ (s.src n).target → (s.src n).target ≠ 7 →
    Gives (.reofferTimeout n) s fun t => (s.src n).offeredAt + s.reg Key.EVT_REOFFER_MS * 1000000 ≤ t.lmc) ∧
  (∀ (s : State) (w : Writer) (v : Nat), s.fwOn = true → Accepts s w Key.EVT_RAISE v → 896 ≤ v % 1024 → Gives (.raiseWrite w v) s fun t =>
    t = (s.raise (v % 1024) (v / 2 ^ 16 % 65536)).accepted w Key.EVT_RAISE v) ∧
  (∀ (s : State) (w : Writer) (v : Nat), s.fwOn = true → Accepts s w Key.EVT_RAISE v → v % 1024 < 896 → Gives (.raiseWrite w v) s fun t =>
    t.answers = s.answers ++ [⟨w.path, Key.EVT_RAISE, some .valueRange, []⟩] ∧ t.sources = s.sources) ∧
  (∀ (s : State) (w : Writer) (k : Fin 16) (v : Nat), s.fwOn = true → Accepts s w (Key.SB_SIDEBAND_ACK k) v →
    Gives (.sidebandAckWrite w k v) s fun t =>
      t.reg (Key.SB_SIDEBAND_PENDING k) = clearBits (s.reg (Key.SB_SIDEBAND_PENDING k)) v)

/-- O42. Fences (R389 to R396): an accepted issue of each kind takes a slot as pending and is counted; a fence in its turn
completes when its kind's condition holds, or times out; and completing it shows its result and lowers the number pending. -/
def Obligations.Fences : Prop :=
  (∀ (s : State) (w : Writer) (x : Fin 65536), s.fwOn = true → Accepts s w Key.FENCE_ISSUE (1 * 2 ^ 28 + x) → fenceCheck 1 x s = none →
    Gives (.fenceIssueLocal w x) s fun t => t.reg (Key.FENCE_SLOT s.fenceSlot) = 1 * 2 ^ 28 + 2 ^ 24 + x ∧
      t.reg Key.FENCE_PENDING = s.reg Key.FENCE_PENDING + 1 ∧ t.count Key.FENCE_ISSUED = s.count Key.FENCE_ISSUED + 1) ∧
  (∀ (s : State) (w : Writer) (x : Fin 65536), s.fwOn = true → Accepts s w Key.FENCE_ISSUE (2 * 2 ^ 28 + x) → fenceCheck 2 x s = none →
    Gives (.fenceIssueImage w x) s fun t => t.reg (Key.FENCE_SLOT s.fenceSlot) = 2 * 2 ^ 28 + 2 ^ 24 + x ∧
      t.reg Key.FENCE_PENDING = s.reg Key.FENCE_PENDING + 1 ∧ t.count Key.FENCE_ISSUED = s.count Key.FENCE_ISSUED + 1) ∧
  (∀ (s : State) (w : Writer) (x : Fin 65536), s.fwOn = true → Accepts s w Key.FENCE_ISSUE (3 * 2 ^ 28 + x) → fenceCheck 3 x s = none →
    Gives (.fenceIssueTable w x) s fun t => t.reg (Key.FENCE_SLOT s.fenceSlot) = 3 * 2 ^ 28 + 2 ^ 24 + x ∧
      t.reg Key.FENCE_PENDING = s.reg Key.FENCE_PENDING + 1 ∧ t.count Key.FENCE_ISSUED = s.count Key.FENCE_ISSUED + 1) ∧
  (∀ (s : State) (w : Writer) (x : Fin 65536), s.fwOn = true → Accepts s w Key.FENCE_ISSUE (4 * 2 ^ 28 + x) → fenceCheck 4 x s = none →
    Gives (.fenceIssueRing w x) s fun t => t.reg (Key.FENCE_SLOT s.fenceSlot) = 4 * 2 ^ 28 + 2 ^ 24 + x ∧
      t.reg Key.FENCE_PENDING = s.reg Key.FENCE_PENDING + 1) ∧
  (∀ (s : State) (i : Fin 16), s.logicOn = true → s.fenceTurn i = true → s.fenceKind i = 1 → s.markersPassed i = true →
    Gives (.fenceLocalDone i) s fun t => t = s.fenceDone i 0) ∧
  (∀ (s : State) (i : Fin 16), s.logicOn = true → s.fenceTurn i = true → s.fenceKind i = 1 → s.markersPassed i = false →
    Gives (.fenceLocalDone i) s fun t => t = s) ∧
  (∀ (s : State) (i : Fin 16), s.logicOn = true → s.fenceTurn i = true → s.fenceKind i = 2 → s.writeWaits = false →
    Gives (.fenceImageDone i) s fun t => t = (s.untilFtime (s.applyAt (((s.writeSentAt.getD (s.fence i).issueFtime).toNat +
      s.reg Key.LINK_LAP_NS + 20000 - s.reg Key.IMG_APPLY_OFFSET * s.turnT / 100 + s.turnT - 1) / s.turnT) + 1000)).fenceDone i 0) ∧
  (∀ (s : State) (i : Fin 16), s.logicOn = true → s.fenceTurn i = true → s.fenceKind i = 3 → s.insideGens = [] →
    Gives (.fenceTableDone i) s fun t => t = s.fenceDone i 0) ∧
  (∀ (s : State) (x : Fin 65536) (i : Nat), s.logicOn = true →
    s.fencesPending.find? (fun i => s.fenceKind i == 4 && s.fenceTicket i == x.val) = some i → s.fenceTurn i = true →
    Gives (.fenceRingReturn x) s fun t => t = s.fenceDone i 0) ∧
  (∀ (s : State) (i : Fin 16), s.logicOn = true → s.fenceTurn i = true → Gives (.fenceTimeout i) s fun t =>
    t = (s.until ((s.fence i).issuedAt + s.reg Key.EVT_FENCE_TIMEOUT_MS * 1000000)).fenceDone i 1) ∧
  (∀ (s : State) (i r : Nat), s.fenceKind i ≠ 2 → i < 16 → (s.fenceDone i r).reg (Key.FENCE_SLOT i) =
      s.fenceKind i * 2 ^ 28 + (2 + r) * 2 ^ 24 + s.fenceTicket i ∧
    (s.fenceDone i r).reg Key.FENCE_PENDING = s.reg Key.FENCE_PENDING - 1 ∧ ((s.fenceDone i r).fence i).doneOrder = s.fenceOrder)

/-- O43. Claim rounds (R397 to R404): a round starts 25 µs after the last one's start, or with a start edge; an invalid round is
counted and decides nothing; rows 3 and 4 of the gate follow 100 µs and the hold time later; 100 µs without a valid round raise
CLAIM_BUS; and the Hob's heartbeat, a path's silence and the self-test's items are noted. -/
def Obligations.ClaimRounds : Prop :=
  (∀ (s : State) (a : Nat), s.logicOn = true → s.role ≠ .solo → s.twin.round = none → s.twin.startAt = some a →
    s.reg Key.PERT_RUNNING = 0 → Gives .claimRoundStart s fun t => a + 25000 ≤ t.lmc ∧
      t.twin.round = some t.lmc ∧ t.twin.startAt = some t.lmc ∧ t.twin.driving = true) ∧
  (∀ s : State, s.logicOn = true → s.role ≠ .solo → s.twin.round = none → s.reg Key.PERT_RUNNING = 0 → Gives .claimStartEdge s fun t =>
    t.twin.round = some s.lmc ∧ t.twin.driving = true ∧ t.lmc = s.lmc) ∧
  (∀ (s : State) (x : RoundWire) (a : Nat), s.run ≠ .unpowered → s.role ≠ .solo → s.twin.round = some a → s.twin.driving = false →
    roundValid x = false → Gives (.claimRoundEnd x) s fun t => a + 16000 ≤ t.lmc ∧ t.twin.round = none ∧
      t.count Key.TWC_ROUNDS_INVALID = s.count Key.TWC_ROUNDS_INVALID + 1 ∧ t.role = s.role ∧ t.field = s.field) ∧
  (∀ (s : State) (r : Nat), s.field.row ≠ r → (s.gateTo r).field.row = r) ∧
  (∀ s : State, s.field.row = 2 → s.role ≠ .solo → Gives .claimRow3Entry s fun t => s.twin.decisiveAt + 100000 ≤ t.lmc ∧ t.field.row = 3) ∧
  (∀ s : State, s.field.row = 3 → Gives .claimHoldExpiry s fun t => s.twin.row3At + s.field.holdMs * 1000000 ≤ t.lmc ∧ t.field.row = 4) ∧
  (∀ s : State, s.logicOn = true → s.role ≠ .solo → Gives .claimBusTimeout s fun t =>
    t = (s.until (s.twin.validAt + 100000)).faultUp 0x082 0 0) ∧
  (∀ s : State, s.fwOn = true → s.role ≠ .solo → s.perturbed 4 1 = none → Gives .hobHeartbeatWrite s fun t => t.healthAt = s.lmc ∧
    t.twin.beatAt = some s.lmc) ∧
  (∀ (s : State) (b : Bool), s.logicOn = true → s.role ≠ .solo → Gives (.pathSilentTimeout b) s fun t =>
    (if b then s.twin.pathBAt else s.twin.pathAAt) + 300000 ≤ t.lmc) ∧
  (∀ (s : State) (i : Fin 9) (f : Nat), s.fwOn = true → s.role = .standby → Gives (.selftestItemRun i f) s fun t =>
    t = s.setPenalty i (penaltyOf i f))

/-- O44. The twin's frames (R405 to R415): a heartbeat goes out every 100 µs and what the peer's says is kept; an ACTIVE hub
answers a sync request; a STANDBY hub takes the bulk in order, applies writes once it is in sync and holds those that come
before; and an acknowledgement answers the writer who waits for it. -/
def Obligations.TwinFrames : Prop :=
  (∀ s : State, s.fwOn = true → s.role ≠ .solo → s.reg Key.PERT_RUNNING = 0 → Gives .twinHeartbeatSend s fun t =>
    s.twin.sentAt + 100000 ≤ t.lmc ∧ t.twin.sentAt = t.lmc) ∧
  (∀ (s u : State) (fr : Frame) (g : TagCheck), s.logicOn = true → s.role ≠ .solo → s.twinTake fr g false = (none, u) →
    Gives (.twinHeartbeatReceived fr g) s fun t => t = u) ∧
  (∀ (s u : State) (fr : Frame) (g : TagCheck), s.logicOn = true → s.role = .standby → s.twinTake fr g false = (some (), u) →
    bitOf (beAt fr.payload 3 1) 7 = true → Gives (.twinHeartbeatReceived fr g) s fun t => t.peerReady = true) ∧
  (∀ (s : State) (fr : Frame) (g : TagCheck), s.fwOn = true → s.role ≠ .active → Gives (.syncRequestReceived fr g) s fun t => t = s) ∧
  (∀ (s u : State) (fr : Frame) (g : TagCheck), s.fwOn = true → s.role = .active →
    s.twinTake fr g (s.flag Key.KEY_TWIN_AUTH) = (some (), u) → Gives (.syncRequestReceived fr g) s fun t => Quiet u t) ∧
  (∀ (s u : State) (fr : Frame) (g : TagCheck), s.fwOn = true → s.role = .standby →
    s.twinTake fr g (s.flag Key.KEY_TWIN_AUTH) = (some (), u) → u.reg Key.TWST_SYNC_STATE = 1 → beAt fr.payload 2 2 = u.twin.bulkNext →
    bitOf (beAt fr.payload 1 1) 0 = false → Gives (.syncBulkReceived fr g) s fun t => t.twin.bulk = u.twin.bulk ++ fr.payload.drop 8 ∧
      t.twin.bulkNext = u.twin.bulkNext + 1 ∧ t.reg Key.TWST_SYNC_STATE = 1) ∧
  (∀ (s u : State) (fr : Frame) (g : TagCheck), s.fwOn = true → s.role = .standby →
    s.twinTake fr g (s.flag Key.KEY_TWIN_AUTH) = (some (), u) → u.reg Key.TWST_SYNC_STATE = 1 → beAt fr.payload 2 2 ≠ u.twin.bulkNext →
    Gives (.syncBulkReceived fr g) s fun t => t = u) ∧
  (∀ (s u : State) (fr : Frame) (g : TagCheck), s.fwOn = true → s.role = .standby →
    s.twinTake fr g (s.flag Key.KEY_TWIN_AUTH) = (some (), u) → u.reg Key.TWST_SYNC_STATE = 2 → Gives (.syncWriteReceived fr g) s fun t =>
      t = u.applySync fr.payload) ∧
  (∀ (s u : State) (fr : Frame) (g : TagCheck), s.fwOn = true → s.role = .standby →
    s.twinTake fr g (s.flag Key.KEY_TWIN_AUTH) = (some (), u) → u.reg Key.TWST_SYNC_STATE = 1 → Gives (.syncWriteReceived fr g) s fun t =>
      t.twin.bulkQueue = u.twin.bulkQueue ++ [fr] ∧ t.regs = u.regs) ∧
  (∀ (s u : State) (fr : Frame) (g : TagCheck) (x : Nat × Answer), s.fwOn = true → s.role = .active →
    s.twinTake fr g (s.flag Key.KEY_TWIN_AUTH) = (some (), u) → u.twin.waits.find? (fun x => x.1 == beAt fr.payload 4 4) = some x →
    Gives (.syncAckReceived fr g) s fun t => t.answers = u.answers ++ [x.2] ∧ t.twin.waits = u.twin.waits.erase x)

/-- O45. Hand-over and take-over (R416 to R422): a request to an ACTIVE hub with a ready peer proposes an instant; a STANDBY hub
that is ready agrees; the agreed instant swaps the roles; a proposal not agreed 500 µs before its instant is dropped; silence of
both paths for T_FAIL_US seizes; and the reversion's hold-off ends in a proposal. -/
def Obligations.Handover : Prop :=
  (∀ (s : State) (w : Writer), s.fwOn = true → Accepts s w Key.TWIN_HANDOVER_REQUEST 1 → s.role = .active → s.peerReady = true →
    Gives (.handoverRequestWrite w 1) s fun t => t = (s.propose 5).accepted w Key.TWIN_HANDOVER_REQUEST 1) ∧
  (∀ (s : State) (w : Writer), s.fwOn = true → Accepts s w Key.TWIN_HANDOVER_REQUEST 1 → s.role = .standby →
    Gives (.handoverRequestWrite w 1) s fun t => t.answers = s.answers ++ [⟨w.path, Key.TWIN_HANDOVER_REQUEST, some .stateConflict, []⟩] ∧
      t.role = .standby) ∧
  (∀ (s : State) (c : Nat), s.role = .active → s.twin.proposed = none → ((s.propose c).twin.proposed.map (·.2)) = some c ∧
    (s.propose c).twin.agreed = false) ∧
  (∀ (s u : State) (fr : Frame) (g : TagCheck), s.fwOn = true → s.role = .standby →
    s.twinTake fr g (s.flag Key.KEY_TWIN_AUTH && beAt fr.payload 1 1 != 7) = (some (), u) → u.readyNow = true → beAt fr.payload 1 1 = 5 →
    Gives (.handoverProposeReceived fr g) s fun t => t.twin.proposed = some (((beAt fr.payload 4 8 : Nat) : Int), 5) ∧ t.twin.agreed = true ∧
      t.handInstant = some ((beAt fr.payload 4 8 : Nat) : Int)) ∧
  (∀ (s u : State) (fr : Frame) (g : TagCheck), s.fwOn = true → s.role = .standby →
    s.twinTake fr g (s.flag Key.KEY_TWIN_AUTH && beAt fr.payload 1 1 != 7) = (some (), u) → u.readyNow = false →
    Gives (.handoverProposeReceived fr g) s fun t => t.twin.proposed = u.twin.proposed ∧ t.handInstant = u.handInstant) ∧
  (∀ (s u : State) (fr : Frame) (g : TagCheck) (b : Int) (c : Nat), s.fwOn = true → s.role = .active → s.twin.proposed = some (b, c) →
    s.twinTake fr g (s.flag Key.KEY_TWIN_AUTH && c != 7) = (some (), u) → (beAt fr.payload 4 8 : Int) = b → beAt fr.payload 1 1 = 0 →
    Gives (.handoverAgreeReceived fr g) s fun t => t.handInstant = some b ∧ t.twin.agreed = true) ∧
  (∀ (s : State) (b : Int) (c : Nat), s.fwOn = true → s.twin.proposed = some (b, c) → s.twin.agreed = true → s.role = .active →
    Gives .handoverBoundary s fun t => b ≤ t.ftime ∧ t.role = .standby) ∧
  (∀ (s : State) (b : Int) (c : Nat), s.fwOn = true → s.twin.proposed = some (b, c) → s.twin.agreed = true → s.role = .standby →
    Gives .handoverBoundary s fun t => b ≤ t.ftime) ∧
  (∀ (s : State) (b : Int) (c : Nat), s.fwOn = true → s.twin.proposed = some (b, c) → s.twin.agreed = false → s.role = .active →
    Gives .handoverAbandon s fun t => t = (s.untilFtime (b - 500000)).handoverFail) ∧
  (∀ (s : State) (a : Nat), s.logicOn = true → s.role = .standby → s.twin.silentAt = some a → s.up 2 = true → s.twin.weak = 0 →
    s.twin.won = some false → s.twin.seizing = false → Gives .seizeTimeout s fun t => a + s.reg Key.TWIN_T_FAIL_US * 1000 ≤ t.lmc) ∧
  (∀ (s : State) (a : Nat), s.fwOn = true → s.role = .active → s.twin.revertAt = some a → s.twin.proposed = none →
    Gives .revertHoldoffExpiry s fun t => a ≤ t.lmc ∧ t.twin.revertAt = none ∧ t.twin.revertLeft = 0 ∧
      t.twin.proposed.map (·.2) = some 6)

/-- O46. Faults (R423 to R432): an occurrence acts as its entry says and an unallocated number does nothing; a LIVE condition
that ends is noted; a quiet fault leaves, or is suspended after K leaves in 24 h; CLEAR is refused while LIVE and FORCE outside
MAINT; LATCH_RESET clears the latch; and a storm ends 10 s after its last loss. -/
def Obligations.Faults : Prop :=
  (∀ (s : State) (n : Fin 512) (i d : Nat) (l : Bool), s.logicOn = true → faultAllocated n = false → Gives (.faultOccurrence n i d l) s fun t =>
    t = s) ∧
  (∀ (s : State) (n : Fin 512) (i d : Nat) (l : Bool), s.logicOn = true → faultAllocated n = true → Gives (.faultOccurrence n i d l) s fun t =>
    t = if l then s.faultUp n i d else s.occur n i d) ∧
  (∀ (s : State) (n : Fin 512), s.logicOn = true → (s.flt n).live = true → Gives (.faultLiveFall n) s fun t => (t.flt n).live = false ∧
    (t.flt n).fellAt = s.lmc ∧ (t.flt n).inFault = (s.flt n).inFault ∧ t.regs = s.regs) ∧
  (∀ (s u : State) (n : Fin 512), s.logicOn = true → (s.flt n).inFault = true → (s.flt n).live = false → (s.flt n).suspended = false →
    bitOf (s.fltCfg n) 57 = true →
    u = s.until (max (s.flt n).lastAt (s.flt n).fellAt + fltSpan (fld (s.fltCfg n) 31 30) (fld (s.fltCfg n) 29 18)) →
    fld (s.fltCfg n) 17 14 ≤ u.recoveries n → Gives (.faultQuietExpiry n) s fun t => (t.flt n).suspended = true ∧
      (t.flt n).inFault = true) ∧
  (∀ (s u : State) (n : Fin 512), s.logicOn = true → (s.flt n).inFault = true → (s.flt n).live = false → (s.flt n).suspended = false →
    bitOf (s.fltCfg n) 57 = true →
    u = s.until (max (s.flt n).lastAt (s.flt n).fellAt + fltSpan (fld (s.fltCfg n) 31 30) (fld (s.fltCfg n) 29 18)) →
    u.recoveries n < fld (s.fltCfg n) 17 14 → Gives (.faultQuietExpiry n) s fun t =>
      t = ((u.setFlt n { u.flt n with leaves := u.lmc :: ((u.flt n).leaves.take 15) }).logLeave n 1).faultLeave n false) ∧
  (∀ (s : State) (w : Writer) (n : Fin 512), s.fwOn = true → Accepts s w (Key.FLT_FAULT_COMMAND (n / 128) (n % 128)) 1 →
    (s.flt n).live = true → Gives (.faultClear w n) s fun t => t.faults = s.faults ∧
      t.answers = s.answers ++ [⟨w.path, Key.FLT_FAULT_COMMAND (n / 128) (n % 128), some .stateConflict, []⟩]) ∧
  (∀ (s : State) (w : Writer) (n : Fin 512), s.fwOn = true → Accepts s w (Key.FLT_FAULT_COMMAND (n / 128) (n % 128)) 1 →
    (s.flt n).live = false → (s.flt n).inFault = true → Gives (.faultClear w n) s fun t =>
      t = ((s.logLeave n 0).faultLeave n false).accepted w (Key.FLT_FAULT_COMMAND (n / 128) (n % 128)) 1) ∧
  (∀ (s : State) (w : Writer) (n : Fin 512), s.fwOn = true → Accepts s w (Key.FLT_FAULT_COMMAND (n / 128) (n % 128)) 2 →
    roleRank .engineer ≤ roleRank w.role → s.hub.mode = .maint → Gives (.faultForce w n) s fun t =>
      t = (s.occurX n 0xFFFFFFFF true []).accepted w (Key.FLT_FAULT_COMMAND (n / 128) (n % 128)) 2) ∧
  (∀ (s : State) (w : Writer) (n : Fin 512), s.fwOn = true → Accepts s w (Key.FLT_FAULT_COMMAND (n / 128) (n % 128)) 2 →
    roleRank .engineer ≤ roleRank w.role → s.hub.mode ≠ .maint → Gives (.faultForce w n) s fun t => t.faults = s.faults ∧
      t.answers = s.answers ++ [⟨w.path, Key.FLT_FAULT_COMMAND (n / 128) (n % 128), some .stateConflict, []⟩]) ∧
  (∀ (s : State) (w : Writer) (n : Fin 512), s.fwOn = true → Accepts s w (Key.FLT_FAULT_COMMAND (n / 128) (n % 128)) 3 →
    Gives (.faultLatchReset w n) s fun t => (t.flt n).latched = false ∧ (t.flt n).firstCause = 0 ∧ (t.flt n).inFault = (s.flt n).inFault) ∧
  (∀ s : State, s.logicOn = true → s.cru.storm ≠ [] → s.cru.queue = [] → Gives .stormEnd s fun t => t.cru.storm = [] ∧
    s.cru.lastLoss + 10000000 ≤ t.lmc ∧ t.count Key.FLT_STORMS = s.count Key.FLT_STORMS + 1) ∧
  (∀ s : State, s.run = .unpowered → Gives .crucibleCommit s fun t => t = s) ∧
  (∀ s : State, s.run = .firmware → Gives .crucibleCommit s fun t => t = s.commitEntry) ∧
  (∀ (s : State) (w : Writer), s.fwOn = true → Accepts s w Key.CRU_TRIGGER 1 → Gives (.crucibleTriggerWrite w 1) s fun t =>
    t = (s.trigger 6 0).accepted w Key.CRU_TRIGGER 1)

/-- O47. Policy, perturbation and the power of CORE (R21, R435 to R446, R448 to R451): rules are evaluated each millisecond, a
rule's record is checked, a perturbation starts, stops and expires, CORE's clock and supply are gated after their idle times,
and a wake makes it active again; a mismatch of a lockstep pair is a fault. -/
def Obligations.PolicyAndCore : Prop :=
  (∀ (s : State) (m : List (Fin 256 × Int)), s.fwOn = true → Gives (.policyEvaluation m) s fun t =>
    (s.lmc / 1000000 + 1) * 1000000 ≤ t.lmc ∧ t.gaugeLog.length ≤ 1000) ∧
  (∀ (s : State) (w : Writer) (r : Fin 128) (v : Nat), s.fwOn = true → Accepts s w (Key.POL_RULE (r / 32) (r % 32)) v → ruleOk v = true →
    Gives (.ruleWrite w r v) s fun t => t = (s.ruleWritten r v).accepted w (Key.POL_RULE (r / 32) (r % 32)) v) ∧
  (∀ (s : State) (w : Writer) (r : Fin 128) (v : Nat), s.fwOn = true → Accepts s w (Key.POL_RULE (r / 32) (r % 32)) v → ruleOk v = false →
    Gives (.ruleWrite w r v) s fun t => t.rules = s.rules ∧ t.regs = s.regs ∧
      t.answers = s.answers ++ [⟨w.path, Key.POL_RULE (r / 32) (r % 32), some .valueRange, []⟩]) ∧
  (∀ (s : State) (w : Writer) (i : Fin 16) (v : Nat), s.fwOn = true → pertStart v = true → Gives (.perturbationStart w i v) s fun t =>
    t = s.pertWrite w i v) ∧
  (∀ (s : State) (w : Writer) (i : Fin 16) (v : Nat), s.fwOn = true → pertStart v = false → Gives (.perturbationStop w i v) s fun t =>
    t = s.pertWrite w i v) ∧
  (∀ (s : State) (i : Fin 16), s.logicOn = true → s.reg (Key.PSLOT_STATE i) ≠ 0 → Gives (.perturbationExpiry i) s fun t =>
    t = (s.until (cellGet (fun _ => 0) s.pertEnds i.val)).pertEnd i) ∧
  (∀ (s : State) (w : Writer), s.fwOn = true → Accepts s w Key.PERT_STOP_ALL 1 → Gives (.perturbationStopAll w 1) s fun t =>
    t = s.pertEndAll.accepted w Key.PERT_STOP_ALL 1) ∧
  (∀ s : State, s.logicOn = true → s.localTraffic = false → s.reg Key.PWS_CORE_STATE = 0 → Gives .coreClockGate s fun t =>
    s.power.coreIdleAt + s.reg Key.PWR_CORE_IDLE_US * 1000 ≤ t.lmc ∧ t.reg Key.PWS_CORE_STATE = 1 ∧ t.power.coreGateAt = t.lmc) ∧
  (∀ s : State, s.logicOn = true → s.localTraffic = false → s.reg Key.PWS_CORE_STATE = 1 → s.reg Key.PWR_CORE_GATE_MS ≠ 0 →
    s.reg Key.HOST_LINK = 0 → s.sw.queues = [] → Gives .corePowerGate s fun t =>
      s.power.coreGateAt + s.reg Key.PWR_CORE_GATE_MS * 1000000 ≤ t.lmc ∧ t.reg Key.PWS_CORE_STATE = 2) ∧
  (∀ s : State, s.logicOn = true → s.reg Key.PWS_CORE_STATE ≠ 0 → Gives .coreWake s fun t => t.reg Key.PWS_CORE_STATE = 0 ∧
    t.count Key.PWS_CORE_WAKES = s.count Key.PWS_CORE_WAKES + 1 ∧ t.power.coreIdleAt = t.lmc) ∧
  (∀ s : State, s.logicOn = true → s.sw.queues.any (fun c => c.2.present != 0) = true → s.reg Key.PWS_CORE_STATE ≠ 0 →
    Gives .coreEligibilityWake s fun t => t.reg Key.PWS_CORE_STATE = 0 ∧ t.count Key.PWS_CORE_WAKES = s.count Key.PWS_CORE_WAKES + 1) ∧
  (∀ (s : State) (p : Fin 2), s.logicOn = true → Gives (.cpWake p) s fun t => p.val ∉ t.power.cpGated ∧ t.regs = s.regs) ∧
  (∀ (s : State) (p : Fin 2), s.fwOn = true → Gives (.lockstepMismatch p) s fun t => t = (s.setPenalty 8 15).occur 0x0B0 p 0)

/-- O48. Supplies and temperatures (R448, R452, R456 to R462): a field supply warning is shown, counted and masks what the
power-fail mask says until it ends; undervoltage is held until it ends; a feed and the rails are judged each 10 ms; and dies
that have all cooled end the temperature fault. -/
def Obligations.Supplies : Prop :=
  (∀ (s : State) (v : Nat), s.logicOn = false → s.field.powered = true → s.flag Key.PWS_WARNING = false → Gives (.vfieldWarning v) s fun t =>
    t.reg Key.PWS_WARNING = 1 ∧ t.power.pfw = s.reg Key.PWR_PFW_MASK ∧ t.count Key.PWS_WARNINGS = s.count Key.PWS_WARNINGS + 1) ∧
  (∀ (s : State) (v : Nat), s.field.powered = true → s.flag Key.PWS_WARNING = true → Gives (.vfieldWarning v) s fun t => t = s) ∧
  (∀ s : State, s.flag Key.PWS_WARNING = true → Gives .vfieldWarningEnd s fun t => t.reg Key.PWS_WARNING = 0 ∧ t.power.pfw = 0 ∧
    (t.flt 0x090).live = false) ∧
  (∀ (s : State) (v : Nat), s.field.powered = true → s.power.vfieldLow = false → s.logicOn = true → Gives (.vfieldUndervoltage v) s fun t =>
    t.power.vfieldLow = true) ∧
  (∀ s : State, Gives .vfieldUndervoltageEnd s fun t => t.power.vfieldLow = false ∧ (t.flt 0x091).live = false) ∧
  (∀ (s : State) (b : Bool) (v : Nat), s.logicOn = true → s.field.powered = true → Gives (.feedOutOfRange b v) s fun t =>
    t = s.railsBad [(10 + b2n b, v)] (fun _ => true)) ∧
  (∀ (s : State) (b : Bool), s.logicOn = true → Gives (.feedBackInRange b) s fun t => t = s.railsBad [] (fun i => i != 10 + b2n b)) ∧
  (∀ (s : State) (l : List (Nat × Nat)), s.logicOn = true → Gives (.railCheck l) s fun t => s.power.railAt + 10000000 ≤ t.lmc) ∧
  (∀ (s : State) (a b c : Int), s.logicOn = true → a < s.tMax - 150 → b < s.tMax - 150 → c < s.tMax - 150 →
    Gives (.temperatureCheck a b c) s fun t => s.power.tempAt + 10000000 ≤ t.lmc ∧ t.power.hotDies = [] ∧ (t.flt 0x093).live = false)

/-- O49. The life cycle (R357, R469 to R473): a transition not allowed from the present state is refused LIFECYCLE_DENIED before
anything else is looked at; one that passes its checks goes through the three stages to its new state; and at EFFECTIVE_TURN a
pending root takes over with an empty slot 5 and a KEYED that says whether slot 2 is VALID. -/
def Obligations.LifeCycle : Prop :=
  (∀ (s : State) (w : Writer) (v : Nat) (g : Bool), s.fwOn = true → v < 2 ^ 2080 → s.reg Key.LC_STATE ≠ 0 →
    Gives (.transitionForge w v g) s fun t => t.regs = s.regs ∧ t.keys.root = s.keys.root ∧
      t.answers = s.answers ++ [⟨w.path, Key.LC_TRANSITION, some .lifecycleDenied, []⟩]) ∧
  (∀ (s : State) (w : Writer) (v : Nat) (g : Bool), s.fwOn = true → v < 2 ^ 2080 → s.reg Key.LC_STATE ≠ 1 →
    Gives (.transitionTake w v g) s fun t => t.regs = s.regs ∧ t.keys.root = s.keys.root ∧
      t.answers = s.answers ++ [⟨w.path, Key.LC_TRANSITION, some .lifecycleDenied, []⟩]) ∧
  (∀ (s : State) (w : Writer) (v : Nat) (g : Bool), s.fwOn = true → v < 2 ^ 2080 → s.reg Key.LC_STATE ≠ 2 →
    Gives (.transitionTransfer w v g) s fun t => t.regs = s.regs ∧ t.keys.root = s.keys.root ∧
      t.answers = s.answers ++ [⟨w.path, Key.LC_TRANSITION, some .lifecycleDenied, []⟩]) ∧
  (∀ (s : State) (w : Writer) (v : Nat) (g : Bool), s.fwOn = true → v < 2 ^ 2080 → s.reg Key.LC_STATE ≠ 2 →
    Gives (.transitionReturn w v g) s fun t => t.regs = s.regs ∧ t.keys.root = s.keys.root ∧
      t.answers = s.answers ++ [⟨w.path, Key.LC_TRANSITION, some .lifecycleDenied, []⟩]) ∧
  (∀ (s : State) (w : Writer) (v : Nat) (g : Bool), s.fwOn = true → v < 2 ^ 2080 → 4 ≤ s.reg Key.LC_STATE →
    Gives (.transitionScrap w v g) s fun t => t.regs = s.regs ∧ t.keys.root = s.keys.root ∧
      t.answers = s.answers ++ [⟨w.path, Key.LC_TRANSITION, some .lifecycleDenied, []⟩]) ∧
  (∀ (s : State) (w : Writer) (v : Nat) (g : Bool), s.fwOn = true → s.reg Key.LC_STATE = 0 → Accepts s w Key.LC_TRANSITION v →
    trCheck w 1 v g s = none → Gives (.transitionForge w v g) s fun t => t.reg Key.LC_STATE = 1) ∧
  (∀ (s : State) (w : Writer) (v : Nat) (g : Bool), s.fwOn = true → s.reg Key.LC_STATE = 1 → Accepts s w Key.LC_TRANSITION v →
    trCheck w 2 v g s = none → Gives (.transitionTake w v g) s fun t => t.reg Key.LC_STATE = 2 ∧
      t.keys.root = some (2, s.turnNear (trTurn v), trEpoch v, trEra v) ∧ t.reg Key.LC_PENDING_TURN = trTurn v) ∧
  (∀ (s : State) (w : Writer) (v : Nat) (g : Bool), s.fwOn = true → s.reg Key.LC_STATE = 2 → Accepts s w Key.LC_TRANSITION v →
    trCheck w 3 v g s = none → Gives (.transitionTransfer w v g) s fun t => t.reg Key.LC_STATE = 2 ∧
      t.keys.root = some (3, s.turnNear (trTurn v), trEpoch v, trEra v) ∧ t.reg Key.LC_PENDING_TURN = trTurn v) ∧
  (∀ (s : State) (w : Writer) (v : Nat) (g : Bool), s.fwOn = true → s.reg Key.LC_STATE = 2 → Accepts s w Key.LC_TRANSITION v →
    trCheck w 4 v g s = none → s.flag Key.KEYED = false → Gives (.transitionReturn w v g) s fun t => t.reg Key.LC_STATE = 3 ∧
      t.slotValid 2 = false ∧ t.slotValid 3 = false ∧ t.slotValid 4 = false) ∧
  (∀ (s : State) (w : Writer) (v : Nat) (g : Bool), s.fwOn = true → s.reg Key.LC_STATE < 4 → Accepts s w Key.LC_TRANSITION v →
    trCheck w 5 v g s = none → s.flag Key.KEYED = false → Gives (.transitionScrap w v g) s fun t => t.reg Key.LC_STATE = 4 ∧
      t.keys.root = none ∧ t.reg Key.LC_PENDING_TURN = 0) ∧
  (∀ s : State, s.keys.root = none → Gives .rootTakeover s fun t => t = s) ∧
  (∀ (s : State) (r : Nat × Nat × Nat × Nat), s.fwOn = true → s.keys.root = some r → Gives .rootTakeover s fun t => t.keys.root = none ∧
    t.keys.lostAt = none ∧ t.flag Key.KEYED = t.slotValid 2 ∧ t.reg Key.LC_PENDING_TURN = 0 ∧ t.slotValid 5 = false)

/-- O50. The working key and its epochs (R474, R476, R479, R480, R482, R483, R485 to R488): the key load happens once per run,
the floor moves 2 s ahead of FTIME, a waiting frame leaves when nothing holds it, an epoch is committed with its boundary and
comes into force there, an old epoch raises its fault and then zeroises, zeroisation clears KEYED, and attestation leaves its
statement. -/
def Obligations.Keys : Prop :=
  (∀ (s : State) (b : Bool), s.keys.loaded = true → Gives (.keyLoad b) s fun t => t = s) ∧
  (∀ (s : State) (b : Bool), s.fwOn = true → s.keys.loaded = false → Gives (.keyLoad b) s fun t =>
    t = (s.until (s.keys.since + 20000000)).keyLoaded.keyFound b) ∧
  (∀ (s : State) (b : Bool), s.rootInSlot = false → s.reg Key.LC_STATE ≠ 4 → (s.keyFound b).reg Key.KEYED = 1) ∧
  (∀ s : State, s.rootInSlot = true → s.reg Key.LC_STATE ≠ 4 → s.slotValid 2 = true → (s.keyFound true).reg Key.KEYED = 1) ∧
  (∀ (s : State) (b : Bool), s.rootInSlot = true → s.slotValid 2 = false → s.keyFound b = s) ∧
  (∀ s : State, s.fwOn = true → s.flag Key.KEYED = true → Gives .tagFloorAdvance s fun t =>
    toSigned 64 (s.reg Key.KEY_TAG_FLOOR) - 1000000000 ≤ t.ftime ∧ t.reg Key.KEY_TAG_FLOOR = ofSigned 64 (t.ftime + 2000000000)) ∧
  (∀ s : State, s.tagHeld = [] → Gives .tagWaitRelease s fun t => t = s) ∧
  (∀ (s : State) (f : Frame) (l : List Frame), s.logicOn = true → s.tagHeld = f :: l → s.tagWaits = false → s.ivFull false = false →
    f.kind ≠ 7 → f.kind ≠ 9 → Gives .tagWaitRelease s fun t => t = { s with tagHeld := l }.originateNow f) ∧
  (∀ (s : State) (w : Writer), s.fwOn = true → Accepts s w Key.KEY_EPOCH_COMMIT 1 → s.reg Key.KEY_EPOCH_NEXT ≠ (s.epoch + 1) % 256 →
    Gives (.epochCommit w 1) s fun t => t.keys.next = s.keys.next ∧ t.regs = s.regs ∧
      t.answers = s.answers ++ [⟨w.path, Key.KEY_EPOCH_COMMIT, some .valueRange, []⟩]) ∧
  (∀ (s : State) (w : Writer) (n : Nat), s.fwOn = true → Accepts s w Key.KEY_EPOCH_COMMIT 1 →
    s.reg Key.KEY_EPOCH_NEXT = (s.epoch + 1) % 256 → n = s.turnNear (s.reg Key.KEY_EPOCH_TURN) → s.tooNear n = false →
    Gives (.epochCommit w 1) s fun t =>
      t.keys.next = some ((s.epoch + 1) % 256, s.eraOf ((s.epoch + 1) % 256), n) ∧ t.reg Key.KEY_EPOCH_AT = s.turnAt n) ∧
  (∀ s : State, s.keys.next = none → Gives .epochRollover s fun t => t = s) ∧
  (∀ (s : State) (x : Nat × Nat × Nat), s.fwOn = true → s.keys.next = some x → Gives .epochRollover s fun t =>
    t.reg Key.KEY_EPOCH_AT = 0 ∧ t.reg Key.KEY_EPOCH_TURN = x.2.2 % 2 ^ 32) ∧
  (∀ s : State, s.fwOn = true → s.flag Key.KEYED = true → Gives .keyEpochAge s fun t =>
    t = (s.untilFtime (s.turnAt (s.keys.epochTurn + 2 ^ 30))).faultUp 0x0A3 0 16384) ∧
  (∀ s : State, s.fwOn = true → s.flag Key.KEYED = true → Gives .epochAgeZeroise s fun t =>
    t = (s.untilFtime (s.turnAt (s.keys.epochTurn + 2 ^ 31))).zeroise s.rootSlot) ∧
  (∀ (s : State) (n : Nat), s.flag Key.KEYED = false → s.zeroise n = s) ∧
  (∀ (s : State) (n : Nat), s.flag Key.KEYED = true → (s.zeroise n).reg Key.KEYED = 0 ∧ (s.zeroise n).lmc = s.lmc ∧
    (s.zeroise n).keys.lostAt = some s.lmc) ∧
  (∀ (s : State) (w : Writer), s.fwOn = true → Accepts s w Key.KEY_ZEROISE 1 → Gives (.zeroiseWrite w 1) s fun t =>
    t = (s.zeroise s.rootSlot).accepted w Key.KEY_ZEROISE 1) ∧
  (∀ (s : State) (a : Nat), s.fwOn = true → s.keys.lostAt = some a → s.role = .active → s.authRequired = true → Gives .keyLossSafe s fun t =>
    t.keys.lostAt = none ∧ a + s.reg Key.PWR_HOLD_TIME_MS * 1000000 ≤ t.lmc) ∧
  (∀ (s : State) (w : Writer) (v : Nat), s.fwOn = true → Accepts s w Key.ATTEST_REQUEST v → s.slotValid (octAt 33 v 0 1) = true →
    s.slotValid 0 = true → Gives (.attestRequest w v) s fun t => t.keys.attest = some (octAt 33 v 0 1, beBytes 32 v, s.lmc)) ∧
  (∀ (s : State) (x : Nat × List Byte × Nat), s.fwOn = true → s.keys.attest = some x → Gives .attestComplete s fun t =>
    t.keys.attest = none ∧ t.reg Key.ATT_SIGNATURE < 2 ^ 512 ∧ t.lmc = s.lmc) ∧
  (∀ (s : State) (w : Writer) (v : Nat), s.fwOn = true → Accepts s w Key.KEY_COUNTERSIGN_KEY v → s.slotValid 3 = true →
    Gives (.countersignKeyWrite w v true) s fun t => t = (s.slotFill 4).accepted w Key.KEY_COUNTERSIGN_KEY v) ∧
  (∀ (s : State) (w : Writer) (v : Nat), s.fwOn = true → Accepts s w Key.KEY_COUNTERSIGN_KEY v →
    Gives (.countersignKeyWrite w v false) s fun t => t.regs = s.regs ∧
      t.answers = s.answers ++ [⟨w.path, Key.KEY_COUNTERSIGN_KEY, some .authFail, []⟩])

/-- O51. An update (R496 to R500): BEGIN empties the staging, a block is staged inside STAGE_LENGTH, WRITE checks the staged
header and digest, each sector counts until the last arms the image, CONFIRM writes both confirmation words, ABORT empties the
staging, and a trial not confirmed in time raises its fault once. -/
def Obligations.Update : Prop :=
  (∀ (s : State) (w : Writer), s.fwOn = true → Accepts s w Key.UPD_COMMAND 1 → s.phaseIn [0, 6] = none → Gives (.updateBegin w) s fun t =>
    t.reg Key.UPD_PHASE = 1 ∧ t.reg Key.UPD_STAGED = 0 ∧ t.boot.staged = []) ∧
  (∀ (s : State) (w : Writer), s.fwOn = true → Accepts s w Key.UPD_COMMAND 1 → s.phaseIn [0, 6] ≠ none → Gives (.updateBegin w) s fun t =>
    t.boot = s.boot ∧ t.regs = s.regs ∧ t.answers = s.answers ++ [⟨w.path, Key.UPD_COMMAND, some .stateConflict, []⟩]) ∧
  (∀ (s : State) (w : Writer) (o : Nat) (l : List Byte), s.fwOn = true → Accepts s w Key.UPD_STAGING 0 → s.reg Key.UPD_PHASE = 1 →
    o + l.length ≤ s.reg Key.UPD_STAGE_LENGTH → Gives (.stagingBlockWrite w o l) s fun t => t.boot.staged = (o, l) :: s.boot.staged ∧
      t.reg Key.UPD_STAGED = s.reg Key.UPD_STAGED + l.length) ∧
  (∀ (s : State) (w : Writer) (o : Nat) (l : List Byte), s.fwOn = true → Accepts s w Key.UPD_STAGING 0 → s.reg Key.UPD_PHASE = 1 →
    s.reg Key.UPD_STAGE_LENGTH < o + l.length → Gives (.stagingBlockWrite w o l) s fun t => t.boot = s.boot ∧ t.regs = s.regs ∧
      t.answers = s.answers ++ [⟨w.path, Key.UPD_STAGING, some .valueRange, []⟩]) ∧
  (∀ (s : State) (w : Writer), s.fwOn = true → Accepts s w Key.UPD_COMMAND 2 → s.reg Key.UPD_PHASE = 1 → s.stagedWhole = true →
    hdrOk s.stagedHeader = false → Gives (.updateWrite w true) s fun t => t.reg Key.UPD_LAST_CAUSE = 3 ∧ t.boot = s.boot ∧
      t.answers = s.answers ++ [⟨w.path, Key.UPD_COMMAND, some .valueRange, []⟩]) ∧
  (∀ (s : State) (w : Writer), s.fwOn = true → Accepts s w Key.UPD_COMMAND 2 → s.reg Key.UPD_PHASE = 1 → s.stagedWhole = true →
    hdrOk s.stagedHeader = true → (imageInfo s.stagedHeader).length = s.reg Key.UPD_STAGE_LENGTH → Gives (.updateWrite w false) s fun t =>
      t.reg Key.UPD_LAST_CAUSE = 4 ∧ t.boot = s.boot ∧ t.answers = s.answers ++ [⟨w.path, Key.UPD_COMMAND, some .valueRange, []⟩]) ∧
  (∀ (s : State) (w : Writer), s.fwOn = true → Accepts s w Key.UPD_COMMAND 2 → s.reg Key.UPD_PHASE = 1 → s.stagedWhole = true →
    hdrOk s.stagedHeader = true → (imageInfo s.stagedHeader).length = s.reg Key.UPD_STAGE_LENGTH →
    (imageInfo s.stagedHeader).loaderMin ≤ s.reg Key.ID_LOADER_VERSION → Gives (.updateWrite w true) s fun t =>
      t.reg Key.UPD_PHASE = 2 ∧ t.reg Key.UPD_PROGRESS = 0 ∧ t.boot.writing = some (imageInfo s.stagedHeader) ∧
      t.reg Key.UPD_STAGED_VERSION = (imageInfo s.stagedHeader).version ∧ t.reg Key.UPD_PREVIOUS_VERSION = s.boot.slot.version) ∧
  (∀ (s : State) (x : ImageInfo), s.fwOn = true → s.boot.writing = some x → s.reg Key.UPD_PHASE = 2 →
    s.reg Key.UPD_PROGRESS + 1 < (x.length + 65535) / 65536 → Gives .sectorWritten s fun t =>
      t.reg Key.UPD_PROGRESS = s.reg Key.UPD_PROGRESS + 1 ∧ t.reg Key.UPD_PHASE = 2 ∧ t.boot = s.boot) ∧
  (∀ (s : State) (x : ImageInfo), s.fwOn = true → s.boot.writing = some x → s.reg Key.UPD_PHASE = 2 →
    (x.length + 65535) / 65536 ≤ s.reg Key.UPD_PROGRESS + 1 → Gives .sectorWritten s fun t => t.reg Key.UPD_PHASE = 3 ∧ t.boot.slot = x ∧
      t.boot.writing = none) ∧
  (∀ (s : State) (w : Writer), s.fwOn = true → Accepts s w Key.UPD_COMMAND 3 → s.reg Key.UPD_PHASE = 5 → Gives (.updateConfirm w) s fun t =>
    t.reg Key.UPD_PHASE = 6 ∧ t.boot.confirm1 = s.boot.slot.digest ∧ t.boot.confirm2 = s.boot.slot.digest) ∧
  (∀ (s : State) (w : Writer), s.fwOn = true → Accepts s w Key.UPD_COMMAND 4 → s.reg Key.UPD_PHASE = 1 → Gives (.updateAbort w) s fun t =>
    t.reg Key.UPD_PHASE = 0 ∧ t.reg Key.UPD_LAST_CAUSE = 2 ∧ t.boot.staged = []) ∧
  (∀ s : State, s.fwOn = true → s.reg Key.UPD_PHASE = 5 → s.boot.trialRaised = false → Gives .trialWindowExpiry s fun t =>
    t.boot.trialRaised = true ∧ s.boot.startedAt + s.reg Key.UPD_TRIAL_MIN * 60000000000 ≤ t.lmc) ∧
  (∀ s : State, s.boot.trialRaised = true → Gives .trialWindowExpiry s fun t => t = s)

/-- O52. RECOVERY and the maintenance UART (R502 to R504, R506): ENTER_RECOVERY asks for a reset with cause 6, a block of
RECOVERY_IMAGE is kept or refused by its offset, its length and the blocks that wait, a block written is answered, REBOOT
resets; and a UART frame that fails its checks is discarded, any other one acting as the DICT operation it carries. -/
def Obligations.Recovery : Prop :=
  (∀ (s : State) (w : Writer), s.fwOn = true → Accepts s w Key.UPD_ENTER_RECOVERY 1 → Gives (.enterRecoveryWrite w 1) s fun t =>
    t.boot.recover = some 6 ∧ t.hub.resetDue = some (s.lmc, .recovery)) ∧
  (∀ (s : State) (w : Writer) (o : Nat) (l : List Byte), s.inRecovery = true → s.reg Key.LC_STATE = 4 →
    Gives (.recoveryImageBlock w o l) s fun t => t.boot = s.boot ∧
      t.answers = s.answers ++ [⟨w.path, Key.RECOVERY_IMAGE, some .lifecycleDenied, []⟩]) ∧
  (∀ (s : State) (w : Writer) (o : Nat) (l : List Byte), s.inRecovery = true → s.reg Key.LC_STATE ≠ 4 →
    s.permit w Key.RECOVERY_IMAGE 0 = none → o % 65536 ≠ 0 ∨ 6291456 < o + l.length ∨ 65536 < l.length →
    Gives (.recoveryImageBlock w o l) s fun t => t.boot = s.boot ∧
      t.answers = s.answers ++ [⟨w.path, Key.RECOVERY_IMAGE, some .valueRange, []⟩]) ∧
  (∀ (s : State) (w : Writer) (o : Nat) (l : List Byte), s.inRecovery = true → s.reg Key.LC_STATE ≠ 4 →
    s.permit w Key.RECOVERY_IMAGE 0 = none → o % 65536 = 0 → o + l.length ≤ 6291456 → l.length ≤ 65536 → s.boot.blocks.length < 2 →
    Gives (.recoveryImageBlock w o l) s fun t => t.boot.blocks = s.boot.blocks ++ [(w.path, o, l)] ∧ t.answers = s.answers ∧
      t.regs = s.regs) ∧
  (∀ (s : State) (p : Path) (o : Nat) (l : List Byte) (r : List (Path × Nat × List Byte)), s.inRecovery = true →
    s.boot.blocks = (p, o, l) :: r → Gives .recoveryBlockWritten s fun t => t.boot.blocks = r ∧ t.boot.written = s.boot.written + 1 ∧
      t.boot.image = cellSet (fun _ => []) s.boot.image (o / 65536) l ∧
      t.answers = s.answers ++ [⟨p, Key.RECOVERY_IMAGE, none, []⟩]) ∧
  (∀ (s : State) (w : Writer), s.inRecovery = true → s.reg Key.LC_STATE = 4 → Gives (.recoveryReboot w) s fun t => t.hub.resetDue = s.hub.resetDue ∧
    t.answers = s.answers ++ [⟨w.path, Key.RECOVERY_COMMAND, some .lifecycleDenied, []⟩]) ∧
  (∀ (s : State) (w : Writer), s.inRecovery = true → s.reg Key.LC_STATE ≠ 4 → Accepts s w Key.RECOVERY_COMMAND 1 →
    Gives (.recoveryReboot w) s fun t => t.hub.resetDue = some (s.lmc, .update) ∧ (s.boot.written ≠ 0 → t.reg Key.UPD_PHASE = 3)) ∧
  (∀ (s : State) (b : List Byte), uartBody b = none → Gives (.uartFrameReceived b) s fun t => t = s) ∧
  (∀ (s : State) (b d : List Byte), uartBody b = some d → beAt d 0 1 % 16 ≠ 5 → beAt d 0 1 % 16 ≠ 6 → beAt d 0 1 % 16 ≠ 7 →
    Gives (.uartFrameReceived b) s fun t => t = s.ownRequest (reqOf .uart d) (beAt d 0 1 % 16) none) ∧
  (∀ (s : State) (b d : List Byte), uartBody b = some d → beAt d 0 1 % 16 = 7 →
    exec (.uartFrameReceived b) s = exec (.dictCancel .uart (beAt d 4 2)) s)

/-- O53. The JTAG port (R439, R444, R516, Table 20.7): each instruction selects its data register, IDCODE shifts out 0x107207CB,
and the two Crucible instructions work in RETURNED only, where an address is cut to its 64-byte slot and a read advances past
the slot it gives. -/
def Obligations.JtagPort : Prop :=
  (∀ s : State, s.run ≠ .unpowered → Gives .jtagExtest s fun t => t = s.jtagSelect 0) ∧
  (∀ s : State, s.run ≠ .unpowered → Gives .jtagIdcode s fun t => t.jtag.ir = 1 ∧ t.jtag.addr = s.jtag.addr ∧
    t.jtag.data = [0x10, 0x72, 0x07, 0xCB]) ∧
  (∀ s : State, s.run ≠ .unpowered → Gives .jtagSamplePreload s fun t => t = s.jtagSelect 2) ∧
  (∀ s : State, s.run ≠ .unpowered → Gives .jtagClamp s fun t => t = s.jtagSelect 3) ∧
  (∀ s : State, s.run ≠ .unpowered → Gives .jtagHighz s fun t => t = s.jtagSelect 4) ∧
  (∀ s : State, s.run ≠ .unpowered → Gives .jtagBypass s fun t => t = s.jtagSelect 0xFF) ∧
  (∀ (s : State) (v : Nat), s.run ≠ .unpowered → s.reg Key.LC_STATE = 3 → Gives (.jtagCrucibleAddr v) s fun t => t.jtag.ir = 0x21 ∧
    t.jtag.addr % 64 = 0 ∧ t.jtag.addr ≤ v % 4194304 ∧ v % 4194304 < t.jtag.addr + 64 ∧ t.cru = s.cru) ∧
  (∀ s : State, s.run ≠ .unpowered → s.reg Key.LC_STATE = 3 → Gives .jtagCrucibleData s fun t => t.jtag.ir = 0x22 ∧
    t.jtag.data = s.crucibleBytes s.jtag.addr 64 ∧ t.jtag.addr = (s.jtag.addr + 64) % 4194304 ∧ t.cru = s.cru) ∧
  (∀ (s : State) (v : Nat), s.run ≠ .unpowered → s.reg Key.LC_STATE ≠ 3 → Gives (.jtagCrucibleAddr v) s fun t => t = s.jtagSelect 0xFF) ∧
  (∀ s : State, s.run ≠ .unpowered → s.reg Key.LC_STATE ≠ 3 → Gives .jtagCrucibleData s fun t => t = s.jtagSelect 0xFF)

/-- O54. The LMC never runs backwards (R133): whatever the command, it leaves the LMC where it was or further on; only the
application of VDD_AON starts it from 0. -/
def Obligations.LmcNeverRunsBack : Prop :=
  (∀ (c : Instr) (s t : State), exec c s = .next t → c ≠ .vddAonApplied → s.clock ≤ t.clock) ∧
  (∀ s : State, s.run = .unpowered → Gives .vddAonApplied s fun t => t.clock = 0)

/-- O55. R107: without IMAGE_ROTATION in the ring's feature set a turn's publications use R = 1, and with R = 1 every word of
the window lies in the slice of every turn. -/
def Obligations.NoRotationWithoutFeature : Prop :=
  (∀ s : State, s.feature 0 = false → s.rotationNow = 1) ∧
  (∀ s : State, s.fwOn = true → s.feature 0 = false → Gives .turnBoundary s fun t => t.img.rotation = 1) ∧
  (∀ words n o : Nat, o < words → inSlice words 1 n o = true)

/-- O56. R115: the apply instant of turn n lies APPLY_OFFSET percent of the turn period, rounded down, after the turn's
boundary. -/
def Obligations.ApplyInstant : Prop :=
  ∀ (s : State) (n b : Nat), b = n * s.turnT → s.applyAt n = b + s.reg Key.IMG_APPLY_OFFSET * s.turnT / 100

/-- O57. R10: a write refused by its permit, its range or the object's own checks has no effect but its answer, and is counted
in the rejection counter of its object, which saturates (R358), and in no other. -/
def Obligations.RefusedWrite : Prop :=
  ∀ (s : State) (w : Writer) (k v : Nat) (own : State → Option Abort) (eff : State → State) (a : Abort),
    s.permit w k v = some a ∨ (s.permit w k v = none ∧ rangeCheck k v = some a) ∨
      (s.permit w k v = none ∧ rangeCheck k v = none ∧ own s = some a) →
    Quiet { s with rejects := (s.write w k v own eff).rejects } (s.write w k v own eff) ∧
      (s.write w k v own eff).rejections k = min (s.rejections k + 1) 0xFFFFFFFF ∧
      ∀ j : Nat, j ≠ k → (s.write w k v own eff).rejections j = s.rejections j
end

