-- ==== Sys2Proof/Laws/Cells.lean ====
section
/-! SUPPORT. The laws of the sparse tables: a read after a write, and the one canonical form that every write keeps. -/

namespace Sys2Proof

theorem cellGet_cellErase_same {α} (d : Nat → α) (m : Cells α) (k : Nat) : cellGet d (cellErase m k) k = d k := by
  induction m with
  | nil => rfl
  | cons p m ih =>
    obtain ⟨j, v⟩ := p
    unfold cellErase
    split
    · exact ih
    · rename_i h; simp [cellGet, h, ih]

theorem cellGet_cellErase_ne {α} (d : Nat → α) (m : Cells α) {k j : Nat} (h : j ≠ k) :
    cellGet d (cellErase m k) j = cellGet d m j := by
  induction m with
  | nil => rfl
  | cons p m ih =>
    obtain ⟨i, v⟩ := p
    unfold cellErase
    split
    · rename_i hi; subst hi; rw [ih]; simp [cellGet, h.symm]
    · simp only [cellGet, ih]

theorem cellGet_cellInsert_same {α} (d : Nat → α) (m : Cells α) (k : Nat) (v : α) (hm : ∀ c ∈ m, c.1 ≠ k) :
    cellGet d (cellInsert m k v) k = v := by
  induction m with
  | nil => simp [cellInsert, cellGet]
  | cons p m ih =>
    obtain ⟨j, u⟩ := p
    unfold cellInsert
    split
    · simp [cellGet]
    · have := hm (j, u) List.mem_cons_self
      simp only at this
      simp [cellGet, this, ih (fun c hc => hm c (List.mem_cons_of_mem _ hc))]

theorem cellGet_cellInsert_ne {α} (d : Nat → α) (m : Cells α) {k j : Nat} (v : α) (h : j ≠ k) :
    cellGet d (cellInsert m k v) j = cellGet d m j := by
  induction m with
  | nil => simp [cellInsert, cellGet, h.symm]
  | cons p m ih =>
    obtain ⟨i, u⟩ := p
    unfold cellInsert
    split
    · simp [cellGet, h.symm]
    · simp only [cellGet, ih]

/-- Erasing adds no entry. -/
theorem cellErase_mem {α} {m : Cells α} {k : Nat} : ∀ c ∈ cellErase m k, c ∈ m := by
  induction m with
  | nil => simp [cellErase]
  | cons p m ih =>
    obtain ⟨j, v⟩ := p
    unfold cellErase
    split
    · intro c hc; exact List.mem_cons_of_mem _ (ih c hc)
    · intro c hc
      rcases List.mem_cons.1 hc with h | h
      · exact h ▸ List.mem_cons_self
      · exact List.mem_cons_of_mem _ (ih c h)

/-- The canonical form, said of all entries: none is the default, and keys strictly rise. -/
theorem cellsWf_iff {α} [DecidableEq α] (d : Nat → α) (m : Cells α) :
    cellsWf d m = true ↔ (∀ c ∈ m, c.2 ≠ d c.1) ∧ m.Pairwise (fun a b => a.1 < b.1) := by
  induction m with
  | nil => simp [cellsWf]
  | cons p m ih =>
    obtain ⟨j, v⟩ := p
    cases m with
    | nil => simp [cellsWf]
    | cons q m =>
      obtain ⟨j', v'⟩ := q
      simp only [cellsWf, Bool.and_eq_true, decide_eq_true_eq, ih]
      constructor
      · rintro ⟨⟨a, b⟩, c, e⟩
        refine ⟨?_, ?_⟩
        · intro x hx; rcases List.mem_cons.1 hx with rfl | hx
          · exact a
          · exact c x hx
        · refine List.pairwise_cons.2 ⟨?_, e⟩
          intro y hy
          rcases List.mem_cons.1 hy with rfl | hy
          · exact b
          · exact Nat.lt_trans b ((List.pairwise_cons.1 e).1 y hy)
      · rintro ⟨a, b⟩
        have hb := List.pairwise_cons.1 b
        exact ⟨⟨a _ List.mem_cons_self, hb.1 _ List.mem_cons_self⟩, fun y hy => a y (List.mem_cons_of_mem _ hy), hb.2⟩

/-- Erasing keeps the order. -/
theorem cellErase_sub {α} (m : Cells α) (k : Nat) : (cellErase m k).Sublist m := by
  induction m with
  | nil => exact List.Sublist.refl _
  | cons p m ih =>
    obtain ⟨j, v⟩ := p
    unfold cellErase
    split
    · exact ih.cons _
    · exact ih.cons_cons _

/-- After erasing `k` no entry has the key `k`. -/
theorem cellErase_ne {α} (m : Cells α) (k : Nat) : ∀ c ∈ cellErase m k, c.1 ≠ k := by
  induction m with
  | nil => simp [cellErase]
  | cons p m ih =>
    obtain ⟨j, v⟩ := p
    unfold cellErase
    split
    · exact ih
    · intro c hc
      rcases List.mem_cons.1 hc with rfl | h
      · assumption
      · exact ih c h

/-- Inserting adds one entry. -/
theorem cellInsert_mem {α} (m : Cells α) (k : Nat) (v : α) : ∀ c ∈ cellInsert m k v, c = (k, v) ∨ c ∈ m := by
  induction m with
  | nil => simp [cellInsert]
  | cons p m ih =>
    obtain ⟨j, u⟩ := p
    unfold cellInsert
    split
    · intro c hc
      rcases List.mem_cons.1 hc with h | h
      · exact .inl h
      · exact .inr h
    · intro c hc
      rcases List.mem_cons.1 hc with h | h
      · exact .inr (h ▸ List.mem_cons_self)
      · rcases ih c h with h | h
        · exact .inl h
        · exact .inr (List.mem_cons_of_mem _ h)

/-- Inserting an absent key keeps the keys rising. -/
theorem cellInsert_sorted {α} (m : Cells α) (k : Nat) (v : α) (hm : m.Pairwise (fun a b => a.1 < b.1))
    (hk : ∀ c ∈ m, c.1 ≠ k) : (cellInsert m k v).Pairwise (fun a b => a.1 < b.1) := by
  induction m with
  | nil => simp [cellInsert]
  | cons p m ih =>
    obtain ⟨j, u⟩ := p
    have hp := List.pairwise_cons.1 hm
    unfold cellInsert
    split
    · rename_i h
      refine List.pairwise_cons.2 ⟨?_, hm⟩
      intro y hy
      rcases List.mem_cons.1 hy with rfl | hy
      · exact h
      · exact Nat.lt_trans h (hp.1 y hy)
    · rename_i h
      refine List.pairwise_cons.2 ⟨?_, ih hp.2 (fun c hc => hk c (List.mem_cons_of_mem _ hc))⟩
      intro y hy
      rcases cellInsert_mem m k v y hy with rfl | hy
      · have := hk (j, u) List.mem_cons_self
        simp only at this ⊢; omega
      · exact hp.1 y hy

/-- A write keeps the canonical form. -/
theorem cellsWf_cellSet {α} [DecidableEq α] (d : Nat → α) {m : Cells α} (h : cellsWf d m = true) (k : Nat) (v : α) :
    cellsWf d (cellSet d m k v) = true := by
  rw [cellsWf_iff] at *
  unfold cellSet
  split
  · exact ⟨fun c hc => h.1 c (cellErase_mem c hc), h.2.sublist (cellErase_sub m k)⟩
  · rename_i hv
    refine ⟨?_, cellInsert_sorted _ k v (h.2.sublist (cellErase_sub m k)) (cellErase_ne m k)⟩
    intro c hc
    rcases cellInsert_mem _ k v c hc with rfl | hc
    · exact hv
    · exact h.1 c (cellErase_mem c hc)

/-- Dropping entries keeps the canonical form. -/
theorem cellsWf_filter {α} [DecidableEq α] (d : Nat → α) {m : Cells α} (h : cellsWf d m = true) (p : Nat × α → Bool) :
    cellsWf d (m.filter p) = true := by
  rw [cellsWf_iff] at *
  exact ⟨fun c hc => h.1 c (List.mem_filter.1 hc).1, h.2.sublist List.filter_sublist⟩

/-- A read after a write to the same cell gives what was written. -/
@[simp] theorem cellGet_cellSet_same {α} [DecidableEq α] (d : Nat → α) (m : Cells α) (k : Nat) (v : α) :
    cellGet d (cellSet d m k v) k = v := by
  unfold cellSet
  split
  · rename_i h; rw [cellGet_cellErase_same, h]
  · exact cellGet_cellInsert_same _ _ _ _ (cellErase_ne m k)

/-- A write leaves every other cell alone. -/
theorem cellGet_cellSet_ne {α} [DecidableEq α] (d : Nat → α) (m : Cells α) {k j : Nat} (v : α) (h : j ≠ k) :
    cellGet d (cellSet d m k v) j = cellGet d m j := by
  unfold cellSet
  split
  · exact cellGet_cellErase_ne _ _ h
  · rw [cellGet_cellInsert_ne _ _ _ h, cellGet_cellErase_ne _ _ h]

/-- A read after a write, at any cell. -/
theorem cellGet_cellSet {α} [DecidableEq α] (d : Nat → α) (m : Cells α) (k j : Nat) (v : α) :
    cellGet d (cellSet d m k v) j = if j = k then v else cellGet d m j := by
  split
  · rename_i h; subst h; exact cellGet_cellSet_same _ _ _ _
  · rename_i h; exact cellGet_cellSet_ne _ _ _ h

end Sys2Proof
end

