-- ==== Sys2Proof/Laws/Quiet.lean ====
section
/-! SUPPORT. Sending a frame, answering a writer and signalling an event each change only what `State.silent` leaves out: one lemma
per operation, to be chained through a command's meaning. -/

namespace Sys2Proof.Machine
open Sys2Proof

/-- HubCtl without what sending touches. -/
def unquiet_hub (x : HubCtl) : HubCtl := { x with touched := 0 }
/-- DictSt without what sending touches. -/
def unquiet_dict (x : DictSt) : DictSt := { x with asked := [], kept := [] }
/-- KeySt without what sending touches. -/
def unquiet_keys (x : KeySt) : KeySt := { x with ivTurn := 0, iv0 := 0, iv1 := 0, seq1 := 0 }
/-- TwinSt without what sending touches. -/
def unquiet_twin (x : TwinSt) : TwinSt := { x with seq := 0, waits := [] }
/-- DiscSt without what sending touches. -/
def unquiet_disc (x : DiscSt) : DiscSt := { x with restartHeld := [] }
/-- Crucible without what sending touches. -/
def unquiet_cru (x : Crucible) : Crucible := { x with queue := [] }

/-- The fields of a state that `Quiet` keeps, one equation each. -/
def QuietSame (x0 : State) (a_run : RunMode) (a_clock : Nat) (a_ftimeQ : Int) (a_straps : Straps) (a_resetCause : ResetCause) (a_regs : Cells Nat) (a_cnt : Cells Nat) (a_rejects : Cells Nat) (a_free : Nat) (a_hub : HubCtl) (a_role : TwinRole) (a_links : Cells LinkSt) (a_ingress : Cells (Option Ingress)) (a_sent : List (Nat × Frame)) (a_inbox : List (Nat × Frame)) (a_landing : Nat) (a_dups : Cells (Option DupEntry)) (a_settleEnds : Option Nat) (a_field : FieldDie) (a_healthAt : Nat) (a_faults : Cells FltSt) (a_cru : Crucible) (a_copper : CopperCfg) (a_assigned : Bool) (a_disc : DiscSt) (a_img : ImgSt) (a_mirror : Cells (Option (Nat × Nat))) (a_hist : List (Nat × List Nat)) (a_time : TimeSt) (a_timers : Cells TimerSt) (a_captures : Cells CaptureSt) (a_queues : Cells QSt) (a_busReads : List BusRead) (a_lines : Cells LineSt) (a_pxs : Cells PxSt) (a_cans : Cells CanSt) (a_rss : Cells RsSt) (a_rsSent : List (Nat × List Nat)) (a_bridges : Cells BridgeSt) (a_iols : Cells IolSt) (a_whisks : Cells WhiskSt) (a_sw : SwitchSt) (a_bar0 : Cells Nat) (a_host : HostSt) (a_dict : DictSt) (a_fences : Cells FenceSt) (a_fenceOrder : Nat) (a_writeSentAt : Option Int) (a_peerReady : Bool) (a_handInstant : Option Int) (a_twin : TwinSt) (a_pertCount : Cells Nat) (a_pertEnds : Cells Nat) (a_rules : Cells RuleSt) (a_gaugeLog : List (List Nat)) (a_gaugeIn : Cells Int) (a_pans : Cells PanSt) (a_fuses : Cells FuseSt) (a_power : PowerSt) (a_keys : KeySt) (a_boot : BootSt) (a_jtag : JtagSt) (a_pending : List Instr) : Prop :=
  a_run = x0.run ∧ a_clock = x0.clock ∧ a_ftimeQ = x0.ftimeQ ∧ a_straps = x0.straps ∧ a_resetCause = x0.resetCause ∧ a_regs = x0.regs ∧ a_cnt = (x0.cnt.filter (fun c => !trafficCounter c.1)) ∧ a_rejects = x0.rejects ∧ a_free = x0.free ∧ a_hub = (unquiet_hub x0.hub) ∧ a_role = x0.role ∧ a_links = x0.links ∧ a_ingress = x0.ingress ∧ a_sent = x0.sent ∧ a_inbox = x0.inbox ∧ a_landing = x0.landing ∧ a_dups = x0.dups ∧ a_settleEnds = x0.settleEnds ∧ a_field = x0.field ∧ a_healthAt = x0.healthAt ∧ a_faults = x0.faults ∧ a_cru = (unquiet_cru x0.cru) ∧ a_copper = x0.copper ∧ a_assigned = x0.assigned ∧ a_disc = (unquiet_disc x0.disc) ∧ a_img = x0.img ∧ a_mirror = x0.mirror ∧ a_hist = x0.hist ∧ a_time = x0.time ∧ a_timers = x0.timers ∧ a_captures = x0.captures ∧ a_queues = x0.queues ∧ a_busReads = x0.busReads ∧ a_lines = x0.lines ∧ a_pxs = x0.pxs ∧ a_cans = x0.cans ∧ a_rss = x0.rss ∧ a_rsSent = x0.rsSent ∧ a_bridges = x0.bridges ∧ a_iols = x0.iols ∧ a_whisks = x0.whisks ∧ a_sw = x0.sw ∧ a_bar0 = x0.bar0 ∧ a_host = x0.host ∧ a_dict = (unquiet_dict x0.dict) ∧ a_fences = x0.fences ∧ a_fenceOrder = x0.fenceOrder ∧ a_writeSentAt = x0.writeSentAt ∧ a_peerReady = x0.peerReady ∧ a_handInstant = x0.handInstant ∧ a_twin = (unquiet_twin x0.twin) ∧ a_pertCount = x0.pertCount ∧ a_pertEnds = x0.pertEnds ∧ a_rules = x0.rules ∧ a_gaugeLog = x0.gaugeLog ∧ a_gaugeIn = x0.gaugeIn ∧ a_pans = x0.pans ∧ a_fuses = x0.fuses ∧ a_power = x0.power ∧ a_keys = (unquiet_keys x0.keys) ∧ a_boot = x0.boot ∧ a_jtag = x0.jtag ∧ a_pending = x0.pending

theorem Quiet.iff {x0 s : State} : Quiet x0 s ↔ QuietSame x0 s.run s.clock s.ftimeQ s.straps s.resetCause s.regs (s.cnt.filter (fun c => !trafficCounter c.1)) s.rejects s.free (unquiet_hub s.hub) s.role s.links s.ingress s.sent s.inbox s.landing s.dups s.settleEnds s.field s.healthAt s.faults (unquiet_cru s.cru) s.copper s.assigned (unquiet_disc s.disc) s.img s.mirror s.hist s.time s.timers s.captures s.queues s.busReads s.lines s.pxs s.cans s.rss s.rsSent s.bridges s.iols s.whisks s.sw s.bar0 s.host (unquiet_dict s.dict) s.fences s.fenceOrder s.writeSentAt s.peerReady s.handInstant (unquiet_twin s.twin) s.pertCount s.pertEnds s.rules s.gaugeLog s.gaugeIn s.pans s.fuses s.power (unquiet_keys s.keys) s.boot s.jtag s.pending := by
  unfold Quiet QuietSame State.silent unquiet_hub unquiet_dict unquiet_keys unquiet_twin unquiet_disc unquiet_cru
  simp only [State.mk.injEq]
  simp

theorem Quiet.kc {x0 s : State} (h : Quiet x0 s) :
    QuietSame x0 s.run s.clock s.ftimeQ s.straps s.resetCause s.regs (s.cnt.filter (fun c => !trafficCounter c.1)) s.rejects s.free (unquiet_hub s.hub) s.role s.links s.ingress s.sent s.inbox s.landing s.dups s.settleEnds s.field s.healthAt s.faults (unquiet_cru s.cru) s.copper s.assigned (unquiet_disc s.disc) s.img s.mirror s.hist s.time s.timers s.captures s.queues s.busReads s.lines s.pxs s.cans s.rss s.rsSent s.bridges s.iols s.whisks s.sw s.bar0 s.host (unquiet_dict s.dict) s.fences s.fenceOrder s.writeSentAt s.peerReady s.handInstant (unquiet_twin s.twin) s.pertCount s.pertEnds s.rules s.gaugeLog s.gaugeIn s.pans s.fuses s.power (unquiet_keys s.keys) s.boot s.jtag s.pending :=
  Quiet.iff.1 h

theorem quiet_mk {x0 : State} {a_run a_clock a_ftimeQ a_straps a_resetCause a_regs a_cnt a_rejects a_free a_hub a_answers a_role a_links a_tx a_ingress a_sent a_inbox a_landing a_seqNext a_origTimes a_origHeld a_dups a_tie a_settleEnds a_field a_healthAt a_sources a_records a_recordLoss a_deliveries a_msix a_faults a_cru a_copper a_assigned a_disc a_img a_mirror a_hist a_time a_timers a_captures a_queues a_busReads a_lines a_pxs a_cans a_rss a_rsSent a_bridges a_iols a_whisks a_sw a_bar0 a_host a_dict a_recordsIn a_fences a_fenceOrder a_writeSentAt a_writeHeld a_peerReady a_handInstant a_twin a_pertCount a_pertEnds a_rules a_gaugeLog a_gaugeIn a_pans a_fuses a_power a_tagHeld a_keys a_boot a_uartSent a_jtag a_pending} :
    Quiet x0 (State.mk a_run a_clock a_ftimeQ a_straps a_resetCause a_regs a_cnt a_rejects a_free a_hub a_answers a_role a_links a_tx a_ingress a_sent a_inbox a_landing a_seqNext a_origTimes a_origHeld a_dups a_tie a_settleEnds a_field a_healthAt a_sources a_records a_recordLoss a_deliveries a_msix a_faults a_cru a_copper a_assigned a_disc a_img a_mirror a_hist a_time a_timers a_captures a_queues a_busReads a_lines a_pxs a_cans a_rss a_rsSent a_bridges a_iols a_whisks a_sw a_bar0 a_host a_dict a_recordsIn a_fences a_fenceOrder a_writeSentAt a_writeHeld a_peerReady a_handInstant a_twin a_pertCount a_pertEnds a_rules a_gaugeLog a_gaugeIn a_pans a_fuses a_power a_tagHeld a_keys a_boot a_uartSent a_jtag a_pending) =
      QuietSame x0 a_run a_clock a_ftimeQ a_straps a_resetCause a_regs (a_cnt.filter (fun c => !trafficCounter c.1)) a_rejects a_free (unquiet_hub a_hub) a_role a_links a_ingress a_sent a_inbox a_landing a_dups a_settleEnds a_field a_healthAt a_faults (unquiet_cru a_cru) a_copper a_assigned (unquiet_disc a_disc) a_img a_mirror a_hist a_time a_timers a_captures a_queues a_busReads a_lines a_pxs a_cans a_rss a_rsSent a_bridges a_iols a_whisks a_sw a_bar0 a_host (unquiet_dict a_dict) a_fences a_fenceOrder a_writeSentAt a_peerReady a_handInstant (unquiet_twin a_twin) a_pertCount a_pertEnds a_rules a_gaugeLog a_gaugeIn a_pans a_fuses a_power (unquiet_keys a_keys) a_boot a_jtag a_pending :=
  propext Quiet.iff

theorem Quiet.refl (s : State) : Quiet s s := rfl

theorem Quiet.trans {s t u : State} (h : Quiet s t) (h' : Quiet t u) : Quiet s u := Eq.trans h' h

theorem Quiet.twin {x0 s : State} (h : Quiet x0 s) : unquiet_twin s.twin = unquiet_twin x0.twin := by
  have := h.kc; unfold QuietSame at this; simp_all

theorem set_filter (q : Nat → Bool) (d : Nat → Nat) (k : Nat) (hk : q k = true) (m : Cells Nat) (v : Nat) :
    (cellSet d m k v).filter (fun c => !q c.1) = m.filter (fun c => !q c.1) := by
  have he : ∀ m : Cells Nat, (cellErase m k).filter (fun c => !q c.1) = m.filter (fun c => !q c.1) := by
    intro m
    induction m with
    | nil => rfl
    | cons p m ih =>
      obtain ⟨j, u⟩ := p
      unfold cellErase
      split
      · rename_i h; subst h
        rw [ih]; simp [hk]
      · simp only [List.filter_cons, ih]
  have hi : ∀ m : Cells Nat, (cellInsert m k v).filter (fun c => !q c.1) = m.filter (fun c => !q c.1) := by
    intro m
    induction m with
    | nil => simp [cellInsert, hk]
    | cons p m ih =>
      obtain ⟨j, u⟩ := p
      unfold cellInsert
      split
      · rw [List.filter_cons]; simp [hk]
      · simp only [List.filter_cons, ih]
  unfold cellSet
  split
  · exact he m
  · rw [hi, he]

theorem quiet_bumpT {x0 : State} (s : State) (k : Nat) (hk : trafficCounter k = true) (hs : Quiet x0 s) : Quiet x0 (s.bump k) := by
  have e : Quiet x0 (s.bump k) = Quiet x0 { s with cnt := cellSet (fun _ => 0) s.cnt k (s.count k + 1) } := rfl
  rw [e]
  simp -zeta only [quiet_mk]
  rw [set_filter trafficCounter _ k hk]
  exact hs.kc

theorem quiet_foldl {α : Type} {x0 : State} {f : State → α → State} (hf : ∀ s a, Quiet x0 s → Quiet x0 (f s a)) (l : List α) :
    ∀ {s : State}, Quiet x0 s → Quiet x0 (l.foldl f s) := by
  induction l with
  | nil => intro s h; exact h
  | cons a l ih => intro s h; exact ih (hf s a h)

theorem quiet_snd {x0 s : State} {α : Type} {p : α × State} {a : α} (h : p = (a, s)) (hp : Quiet x0 p.2) : Quiet x0 s := by
  subst h; exact hp

theorem quiet_fst {x0 s : State} {α : Type} {p : State × α} {a : α} (h : p = (s, a)) (hp : Quiet x0 p.1) : Quiet x0 s := by
  subst h; exact hp

theorem quiet_id {x0 s : State} (h : Quiet x0 s) : Quiet x0 (id s) := h

theorem quiet_ite {x0 : State} {c : Prop} [Decidable c] {A B : State} (hA : Quiet x0 A) (hB : Quiet x0 B) : Quiet x0 (if c then A else B) := by
  split <;> assumption

theorem quiet_tc_find {p : Nat → Bool} {f : Nat → Nat} (hf : ∀ i, f i < 7) {t : Nat} :
    ∀ l : List Nat, (l.map f).find? p = some t → t < 7 := by
  intro l h
  have := List.mem_of_find?_eq_some h
  obtain ⟨i, _, hi⟩ := List.mem_map.1 this
  exact hi ▸ hf i

theorem quiet_tc_down (p : Nat) : trafficCounter (Key.COUNT_TX_DOWN_DROP p) = true := by
  have h1 : (obj (280 + p) 21) % 256 = 21 := by unfold obj; omega
  have h2 : 280 ≤ (obj (280 + p) 21) / 256 := by unfold obj; omega
  unfold trafficCounter
  simp [Key.COUNT_TX_DOWN_DROP, h1, h2]

theorem quiet_tc_rem (r : Nat) (h : r ≤ 3) : trafficCounter (Key.REM_OFFERS r) = true := by
  have h1 : (obj (2052 + r) 4) % 256 = 4 := by unfold obj; omega
  have h2 : 2052 ≤ (obj (2052 + r) 4) / 256 := by unfold obj; omega
  have h3 : (obj (2052 + r) 4) / 256 ≤ 2055 := by unfold obj; omega
  unfold trafficCounter
  simp [Key.REM_OFFERS, h1, h2, h3]

theorem quiet_setPort {x0 : State} (s : State) (f : Nat) (p : PortTx) (hs : Quiet x0 s) : Quiet x0 (State.setPort s f p) := by
  unfold State.setPort
  try dsimp only
  repeat' first
    | intro _
    | (simp -zeta only [quiet_mk]; refine Quiet.kc ?_)
    | with_reducible refine quiet_ite ?_ ?_
    | with_reducible apply quiet_id
    | with_reducible refine quiet_foldl (fun _ _ _ => ?_) _ ?_
    | with_reducible assumption

theorem quiet_log {x0 : State} (s : State) (cls : Nat) (source : Nat) (data : List Byte) (hs : Quiet x0 s) : Quiet x0 (State.log s cls source data) := by
  unfold State.log
  try dsimp only
  repeat' first
    | intro _
    | (simp -zeta only [quiet_mk]; refine Quiet.kc ?_)
    | with_reducible refine quiet_ite ?_ ?_
    | with_reducible apply quiet_id
    | with_reducible refine quiet_foldl (fun _ _ _ => ?_) _ ?_
    | with_reducible assumption

theorem quiet_logRecord {x0 : State} (s : State) (k : Nat) (data : List Byte) (hs : Quiet x0 s) : Quiet x0 (State.logRecord s k data) := by
  unfold State.logRecord
  try dsimp only
  repeat' first
    | intro _
    | with_reducible refine quiet_ite ?_ ?_
    | with_reducible apply quiet_log
    | with_reducible apply quiet_id
    | with_reducible refine quiet_foldl (fun _ _ _ => ?_) _ ?_
    | with_reducible assumption

theorem quiet_enqueue {x0 : State} (s : State) (p : Nat) (e : TxEntry) (hs : Quiet x0 s) : Quiet x0 (State.enqueue s p e) := by
  unfold State.enqueue
  try dsimp only
  repeat' first
    | intro _
    | with_reducible refine quiet_ite ?_ ?_
    | with_reducible apply quiet_setPort
    | with_reducible apply quiet_id
    | with_reducible refine quiet_foldl (fun _ _ _ => ?_) _ ?_
    | with_reducible assumption
    | with_reducible refine quiet_snd (by with_reducible assumption) ?_
    | with_reducible refine quiet_fst (by with_reducible assumption) ?_
    | split

theorem quiet_sendCopy {x0 : State} (s : State) (p : Nat) (f : Frame) (hs : Quiet x0 s) : Quiet x0 (State.sendCopy s p f) := by
  unfold State.sendCopy
  try dsimp only
  repeat' first
    | intro _
    | with_reducible refine quiet_ite ?_ ?_
    | with_reducible apply quiet_enqueue
    | with_reducible apply quiet_id
    | with_reducible apply quiet_bumpT
    | exact quiet_tc_down _
    | with_reducible refine quiet_foldl (fun _ _ _ => ?_) _ ?_
    | with_reducible assumption

theorem quiet_sendTie {x0 : State} (s : State) (f : Frame) (hs : Quiet x0 s) : Quiet x0 (State.sendTie s f) := by
  unfold State.sendTie
  try dsimp only
  repeat' first
    | intro _
    | (simp -zeta only [quiet_mk]; refine Quiet.kc ?_)
    | with_reducible refine quiet_ite ?_ ?_
    | with_reducible apply quiet_enqueue
    | with_reducible apply quiet_id
    | with_reducible apply quiet_bumpT
    | exact quiet_tc_down _
    | with_reducible refine quiet_foldl (fun _ _ _ => ?_) _ ?_
    | with_reducible assumption

theorem quiet_sendLocal {x0 : State} (s : State) (p : Nat) (f : Frame) (hs : Quiet x0 s) : Quiet x0 (State.sendLocal s p f) := by
  unfold State.sendLocal
  try dsimp only
  repeat' first
    | intro _
    | with_reducible refine quiet_ite ?_ ?_
    | with_reducible apply quiet_sendCopy
    | with_reducible apply quiet_sendTie
    | with_reducible apply quiet_id
    | with_reducible refine quiet_foldl (fun _ _ _ => ?_) _ ?_
    | with_reducible assumption

theorem quiet_sendBoth {x0 : State} (s : State) (f : Frame) (hs : Quiet x0 s) : Quiet x0 (State.sendBoth s f) := by
  unfold State.sendBoth
  try dsimp only
  repeat' first
    | intro _
    | (simp -zeta only [quiet_mk]; refine Quiet.kc ?_)
    | with_reducible refine quiet_ite ?_ ?_
    | with_reducible apply quiet_sendCopy
    | with_reducible apply quiet_id
    | with_reducible refine quiet_foldl (fun _ _ _ => ?_) _ ?_
    | with_reducible assumption

theorem quiet_ivUse {x0 : State} (s : State) (d1 : Bool) (hs : Quiet x0 s) : Quiet x0 (State.ivUse s d1) := by
  unfold State.ivUse
  try dsimp only
  repeat' first
    | intro _
    | (simp -zeta only [quiet_mk]; refine Quiet.kc ?_)
    | with_reducible refine quiet_ite ?_ ?_
    | with_reducible apply quiet_id
    | with_reducible refine quiet_foldl (fun _ _ _ => ?_) _ ?_
    | with_reducible assumption
    | with_reducible refine quiet_snd (by with_reducible assumption) ?_
    | with_reducible refine quiet_fst (by with_reducible assumption) ?_
    | split

theorem quiet_originateNow {x0 : State} (s : State) (f : Frame) (hs : Quiet x0 s) : Quiet x0 (State.originateNow s f) := by
  unfold State.originateNow
  try dsimp only
  repeat' first
    | intro _
    | (simp -zeta only [quiet_mk]; refine Quiet.kc ?_)
    | with_reducible refine quiet_ite ?_ ?_
    | with_reducible apply quiet_ivUse
    | with_reducible apply quiet_sendBoth
    | with_reducible apply quiet_sendCopy
    | with_reducible apply quiet_id
    | with_reducible apply quiet_bumpT
    | exact quiet_tc_down _
    | (show trafficCounter _ = true; decide)
    | with_reducible refine quiet_foldl (fun _ _ _ => ?_) _ ?_
    | with_reducible assumption

theorem quiet_originate {x0 : State} (s : State) (f : Frame) (hs : Quiet x0 s) : Quiet x0 (State.originate s f) := by
  unfold State.originate
  try dsimp only
  repeat' first
    | intro _
    | (simp -zeta only [quiet_mk]; refine Quiet.kc ?_)
    | with_reducible refine quiet_ite ?_ ?_
    | with_reducible apply quiet_originateNow
    | with_reducible apply quiet_id
    | with_reducible apply quiet_bumpT
    | exact quiet_tc_down _
    | (show trafficCounter _ = true; decide)
    | with_reducible refine quiet_foldl (fun _ _ _ => ?_) _ ?_
    | with_reducible assumption

theorem quiet_touch {x0 : State} (s : State) (p : Path) (hs : Quiet x0 s) : Quiet x0 (State.touch s p) := by
  unfold State.touch
  try dsimp only
  repeat' first
    | intro _
    | (simp -zeta only [quiet_mk]; refine Quiet.kc ?_)
    | with_reducible refine quiet_ite ?_ ?_
    | with_reducible apply quiet_id
    | with_reducible refine quiet_foldl (fun _ _ _ => ?_) _ ?_
    | with_reducible assumption
    | with_reducible refine quiet_snd (by with_reducible assumption) ?_
    | with_reducible refine quiet_fst (by with_reducible assumption) ?_
    | split

theorem quiet_sendDict {x0 : State} (s : State) (p : Path) (dict : List Byte) (hs : Quiet x0 s) : Quiet x0 (State.sendDict s p dict) := by
  unfold State.sendDict
  try dsimp only
  repeat' first
    | intro _
    | (simp -zeta only [quiet_mk]; refine Quiet.kc ?_)
    | with_reducible refine quiet_ite ?_ ?_
    | with_reducible apply quiet_originate
    | with_reducible apply quiet_id
    | with_reducible refine quiet_foldl (fun _ _ _ => ?_) _ ?_
    | with_reducible assumption
    | with_reducible refine quiet_snd (by with_reducible assumption) ?_
    | with_reducible refine quiet_fst (by with_reducible assumption) ?_
    | split

theorem quiet_answer {x0 : State} (s : State) (p : Path) (k : Nat) (a : Option Abort) (data : List Byte) (hs : Quiet x0 s) : Quiet x0 (State.answer s p k a data) := by
  unfold State.answer
  try dsimp only
  repeat' first
    | intro _
    | (simp -zeta only [quiet_mk]; refine Quiet.kc ?_)
    | with_reducible refine quiet_ite ?_ ?_
    | with_reducible apply quiet_sendDict
    | with_reducible apply quiet_touch
    | with_reducible apply quiet_id
    | with_reducible apply quiet_bumpT
    | exact quiet_tc_down _
    | (show trafficCounter _ = true; decide)
    | with_reducible refine quiet_foldl (fun _ _ _ => ?_) _ ?_
    | with_reducible assumption
    | with_reducible refine quiet_snd (by with_reducible assumption) ?_
    | with_reducible refine quiet_fst (by with_reducible assumption) ?_
    | split

theorem quiet_sendTwinAs {x0 : State} (s : State) (prio : Nat) (mayTag : Bool) (payload : List Byte) (hs : Quiet x0 s) : Quiet x0 (State.sendTwinAs s prio mayTag payload) := by
  unfold State.sendTwinAs
  try dsimp only
  repeat' first
    | intro _
    | (simp -zeta only [quiet_mk]; refine Quiet.kc ?_)
    | with_reducible refine quiet_ite ?_ ?_
    | with_reducible apply quiet_ivUse
    | with_reducible apply quiet_sendLocal
    | with_reducible apply quiet_id
    | with_reducible apply quiet_bumpT
    | exact quiet_tc_down _
    | (show trafficCounter _ = true; decide)
    | with_reducible refine quiet_foldl (fun _ _ _ => ?_) _ ?_
    | with_reducible assumption

theorem quiet_sendTwin {x0 : State} (s : State) (prio : Nat) (payload : List Byte) (hs : Quiet x0 s) : Quiet x0 (State.sendTwin s prio payload) := by
  unfold State.sendTwin
  try dsimp only
  repeat' first
    | intro _
    | with_reducible refine quiet_ite ?_ ?_
    | with_reducible apply quiet_sendTwinAs
    | with_reducible apply quiet_id
    | with_reducible refine quiet_foldl (fun _ _ _ => ?_) _ ?_
    | with_reducible assumption

theorem quiet_sendSync {x0 : State} (s : State) (k : Nat) (value : List Byte) (hs : Quiet x0 s) : Quiet x0 (State.sendSync s k value) := by
  unfold State.sendSync
  try dsimp only
  repeat' first
    | intro _
    | (simp -zeta only [quiet_mk]; refine Quiet.kc ?_)
    | with_reducible refine quiet_ite ?_ ?_
    | with_reducible apply quiet_sendTwin
    | with_reducible apply quiet_id
    | with_reducible apply quiet_bumpT
    | exact quiet_tc_down _
    | (show trafficCounter _ = true; decide)
    | with_reducible refine quiet_foldl (fun _ _ _ => ?_) _ ?_
    | with_reducible assumption

theorem quiet_accepted {x0 : State} (s : State) (w : Writer) (k v : Nat) (hs : Quiet x0 s) : Quiet x0 (State.accepted s w k v) := by
  unfold State.accepted
  dsimp only
  have h1 := quiet_sendSync s k (valueBytes k (maskValue k v)) hs
  generalize s.sendSync k (valueBytes k (maskValue k v)) = t at h1 ⊢
  have h2 := quiet_touch t w.path h1
  generalize t.touch w.path = u at h2 ⊢
  refine quiet_ite (quiet_answer _ _ _ _ _ hs) (quiet_ite ?_ (quiet_answer _ _ _ _ _ h1))
  have e : unquiet_twin { t.twin with waits := t.twin.waits ++ [(t.twin.seq, ⟨w.path, k, none, []⟩)] } = unquiet_twin t.twin := rfl
  have e2 : unquiet_twin t.twin = unquiet_twin x0.twin := h1.twin
  simp -zeta only [quiet_mk]
  have hc := h2.kc
  rw [h2.twin, ← e2, ← e] at hc
  exact hc

theorem quiet_setSrc {x0 : State} (s : State) (n : Nat) (e : SrcSt) (hs : Quiet x0 s) : Quiet x0 (State.setSrc s n e) := by
  unfold State.setSrc
  try dsimp only
  repeat' first
    | intro _
    | (simp -zeta only [quiet_mk]; refine Quiet.kc ?_)
    | with_reducible refine quiet_ite ?_ ?_
    | with_reducible apply quiet_id
    | with_reducible refine quiet_foldl (fun _ _ _ => ?_) _ ?_
    | with_reducible assumption

theorem quiet_assign {x0 : State} (s : State) (n : Nat) (hs : Quiet x0 s) : Quiet x0 (State.assign s n) := by
  unfold State.assign
  dsimp only
  split
  · split
    · exact hs
    · rename_i t ht
      have h7 : t < 7 := quiet_tc_find (f := fun i => ((s.src n).rot + i) % 7) (fun i => by omega) _ ht
      split
      · exact quiet_setSrc _ _ _ hs
      · refine quiet_bumpT _ _ (quiet_tc_rem _ (by omega)) ?_
        refine quiet_originate _ _ (quiet_setSrc _ _ _ ?_)
        simp -zeta only [quiet_mk]; exact hs.kc
  · exact hs

theorem quiet_fireHost {x0 : State} (s : State) (hs : Quiet x0 s) : Quiet x0 (State.fireHost s) := by
  unfold State.fireHost
  try dsimp only
  repeat' first
    | intro _
    | (simp -zeta only [quiet_mk]; refine Quiet.kc ?_)
    | with_reducible refine quiet_ite ?_ ?_
    | with_reducible apply quiet_setSrc
    | with_reducible apply quiet_id
    | with_reducible refine quiet_foldl (fun _ _ _ => ?_) _ ?_
    | with_reducible assumption
    | with_reducible refine quiet_snd (by with_reducible assumption) ?_
    | with_reducible refine quiet_fst (by with_reducible assumption) ?_
    | split

theorem quiet_settle {x0 : State} (s : State) (hs : Quiet x0 s) : Quiet x0 (State.settle s) := by
  unfold State.settle
  try dsimp only
  repeat' first
    | intro _
    | with_reducible refine quiet_ite ?_ ?_
    | with_reducible apply quiet_assign
    | with_reducible apply quiet_fireHost
    | with_reducible apply quiet_id
    | with_reducible refine quiet_foldl (fun _ _ _ => ?_) _ ?_
    | with_reducible assumption

theorem quiet_queueRecord {x0 : State} (s : State) (n : Nat) (data : Nat) (hs : Quiet x0 s) : Quiet x0 (State.queueRecord s n data) := by
  unfold State.queueRecord
  try dsimp only
  repeat' first
    | intro _
    | (simp -zeta only [quiet_mk]; refine Quiet.kc ?_)
    | with_reducible refine quiet_ite ?_ ?_
    | with_reducible apply quiet_id
    | with_reducible apply quiet_bumpT
    | exact quiet_tc_down _
    | (show trafficCounter _ = true; decide)
    | with_reducible refine quiet_foldl (fun _ _ _ => ?_) _ ?_
    | with_reducible assumption

theorem quiet_raise {x0 : State} (s : State) (n : Nat) (data : Nat) (hs : Quiet x0 s) : Quiet x0 (State.raise s n data) := by
  unfold State.raise
  try dsimp only
  repeat' first
    | intro _
    | with_reducible refine quiet_ite ?_ ?_
    | with_reducible apply quiet_assign
    | with_reducible apply quiet_fireHost
    | with_reducible apply quiet_queueRecord
    | with_reducible apply quiet_setSrc
    | with_reducible apply quiet_id
    | with_reducible refine quiet_foldl (fun _ _ _ => ?_) _ ?_
    | with_reducible assumption

theorem quiet_completeSrc {x0 : State} (s : State) (n : Nat) (hs : Quiet x0 s) : Quiet x0 (State.completeSrc s n) := by
  unfold State.completeSrc
  try dsimp only
  repeat' first
    | intro _
    | with_reducible refine quiet_ite ?_ ?_
    | with_reducible apply quiet_setSrc
    | with_reducible apply quiet_settle
    | with_reducible apply quiet_id
    | with_reducible refine quiet_foldl (fun _ _ _ => ?_) _ ?_
    | with_reducible assumption


end Sys2Proof.Machine
end

