-- ==== Sys2Proof/Laws/Calm.lean ====
section
/-! SUPPORT. An occurrence of a fault, and everything it sets off, changes only what `State.calm` leaves out: one lemma per operation,
to be chained through a command's meaning. -/

namespace Sys2Proof.Machine
open Sys2Proof

/-- DictSt without what a fault touches. -/
def uncalm_dict (x : DictSt) : DictSt := { x with asked := [], kept := [] }
/-- KeySt without what a fault touches. -/
def uncalm_keys (x : KeySt) : KeySt := { x with ivTurn := 0, iv0 := 0, iv1 := 0, seq1 := 0 }
/-- TwinSt without what a fault touches. -/
def uncalm_twin (x : TwinSt) : TwinSt := { x with seq := 0, waits := [], proposed := none, agreed := false }
/-- DiscSt without what a fault touches. -/
def uncalm_disc (x : DiscSt) : DiscSt := { x with restartHeld := [] }
/-- FieldDie without what a fault touches. -/
def uncalm_field (x : FieldDie) : FieldDie := { x with steadyAt := 0 }

/-- The fields of a state that `Calm` keeps, one equation each. -/
def CalmSame (x0 : State) (a_run : RunMode) (a_clock : Nat) (a_ftimeQ : Int) (a_straps : Straps) (a_resetCause : ResetCause) (a_regs : Cells Nat) (a_cnt : Cells Nat) (a_rejects : Cells Nat) (a_free : Nat) (a_role : TwinRole) (a_links : Cells LinkSt) (a_ingress : Cells (Option Ingress)) (a_sent : List (Nat × Frame)) (a_inbox : List (Nat × Frame)) (a_landing : Nat) (a_dups : Cells (Option DupEntry)) (a_settleEnds : Option Nat) (a_field : FieldDie) (a_healthAt : Nat) (a_copper : CopperCfg) (a_assigned : Bool) (a_disc : DiscSt) (a_img : ImgSt) (a_mirror : Cells (Option (Nat × Nat))) (a_hist : List (Nat × List Nat)) (a_time : TimeSt) (a_timers : Cells TimerSt) (a_captures : Cells CaptureSt) (a_queues : Cells QSt) (a_busReads : List BusRead) (a_cans : Cells CanSt) (a_rss : Cells RsSt) (a_rsSent : List (Nat × List Nat)) (a_bridges : Cells BridgeSt) (a_iols : Cells IolSt) (a_sw : SwitchSt) (a_bar0 : Cells Nat) (a_host : HostSt) (a_dict : DictSt) (a_fences : Cells FenceSt) (a_fenceOrder : Nat) (a_writeSentAt : Option Int) (a_peerReady : Bool) (a_handInstant : Option Int) (a_twin : TwinSt) (a_pertCount : Cells Nat) (a_pertEnds : Cells Nat) (a_rules : Cells RuleSt) (a_gaugeLog : List (List Nat)) (a_gaugeIn : Cells Int) (a_pans : Cells PanSt) (a_fuses : Cells FuseSt) (a_power : PowerSt) (a_keys : KeySt) (a_boot : BootSt) (a_jtag : JtagSt) (a_pending : List Instr) : Prop :=
  a_run = x0.run ∧ a_clock = x0.clock ∧ a_ftimeQ = x0.ftimeQ ∧ a_straps = x0.straps ∧ a_resetCause = x0.resetCause ∧ a_regs = (x0.regs.filter (fun c => !loudReg c.1)) ∧ a_cnt = (x0.cnt.filter (fun c => !loudCounter c.1)) ∧ a_rejects = x0.rejects ∧ a_free = x0.free ∧ a_role = x0.role ∧ a_links = x0.links ∧ a_ingress = x0.ingress ∧ a_sent = x0.sent ∧ a_inbox = x0.inbox ∧ a_landing = x0.landing ∧ a_dups = x0.dups ∧ a_settleEnds = x0.settleEnds ∧ a_field = (uncalm_field x0.field) ∧ a_healthAt = x0.healthAt ∧ a_copper = x0.copper ∧ a_assigned = x0.assigned ∧ a_disc = (uncalm_disc x0.disc) ∧ a_img = x0.img ∧ a_mirror = x0.mirror ∧ a_hist = x0.hist ∧ a_time = x0.time ∧ a_timers = x0.timers ∧ a_captures = x0.captures ∧ a_queues = x0.queues ∧ a_busReads = x0.busReads ∧ a_cans = x0.cans ∧ a_rss = x0.rss ∧ a_rsSent = x0.rsSent ∧ a_bridges = x0.bridges ∧ a_iols = x0.iols ∧ a_sw = x0.sw ∧ a_bar0 = x0.bar0 ∧ a_host = x0.host ∧ a_dict = (uncalm_dict x0.dict) ∧ a_fences = x0.fences ∧ a_fenceOrder = x0.fenceOrder ∧ a_writeSentAt = x0.writeSentAt ∧ a_peerReady = x0.peerReady ∧ a_handInstant = x0.handInstant ∧ a_twin = (uncalm_twin x0.twin) ∧ a_pertCount = x0.pertCount ∧ a_pertEnds = x0.pertEnds ∧ a_rules = x0.rules ∧ a_gaugeLog = x0.gaugeLog ∧ a_gaugeIn = x0.gaugeIn ∧ a_pans = x0.pans ∧ a_fuses = x0.fuses ∧ a_power = x0.power ∧ a_keys = (uncalm_keys x0.keys) ∧ a_boot = x0.boot ∧ a_jtag = x0.jtag ∧ a_pending = x0.pending

theorem Calm.iff {x0 s : State} : Calm x0 s ↔ CalmSame x0 s.run s.clock s.ftimeQ s.straps s.resetCause (s.regs.filter (fun c => !loudReg c.1)) (s.cnt.filter (fun c => !loudCounter c.1)) s.rejects s.free s.role s.links s.ingress s.sent s.inbox s.landing s.dups s.settleEnds (uncalm_field s.field) s.healthAt s.copper s.assigned (uncalm_disc s.disc) s.img s.mirror s.hist s.time s.timers s.captures s.queues s.busReads s.cans s.rss s.rsSent s.bridges s.iols s.sw s.bar0 s.host (uncalm_dict s.dict) s.fences s.fenceOrder s.writeSentAt s.peerReady s.handInstant (uncalm_twin s.twin) s.pertCount s.pertEnds s.rules s.gaugeLog s.gaugeIn s.pans s.fuses s.power (uncalm_keys s.keys) s.boot s.jtag s.pending := by
  unfold Calm CalmSame State.calm State.silent uncalm_dict uncalm_keys uncalm_twin uncalm_disc uncalm_field
  simp only [State.mk.injEq]
  simp

theorem Calm.kc {x0 s : State} (h : Calm x0 s) :
    CalmSame x0 s.run s.clock s.ftimeQ s.straps s.resetCause (s.regs.filter (fun c => !loudReg c.1)) (s.cnt.filter (fun c => !loudCounter c.1)) s.rejects s.free s.role s.links s.ingress s.sent s.inbox s.landing s.dups s.settleEnds (uncalm_field s.field) s.healthAt s.copper s.assigned (uncalm_disc s.disc) s.img s.mirror s.hist s.time s.timers s.captures s.queues s.busReads s.cans s.rss s.rsSent s.bridges s.iols s.sw s.bar0 s.host (uncalm_dict s.dict) s.fences s.fenceOrder s.writeSentAt s.peerReady s.handInstant (uncalm_twin s.twin) s.pertCount s.pertEnds s.rules s.gaugeLog s.gaugeIn s.pans s.fuses s.power (uncalm_keys s.keys) s.boot s.jtag s.pending :=
  Calm.iff.1 h

theorem calm_mk {x0 : State} {a_run a_clock a_ftimeQ a_straps a_resetCause a_regs a_cnt a_rejects a_free a_hub a_answers a_role a_links a_tx a_ingress a_sent a_inbox a_landing a_seqNext a_origTimes a_origHeld a_dups a_tie a_settleEnds a_field a_healthAt a_sources a_records a_recordLoss a_deliveries a_msix a_faults a_cru a_copper a_assigned a_disc a_img a_mirror a_hist a_time a_timers a_captures a_queues a_busReads a_lines a_pxs a_cans a_rss a_rsSent a_bridges a_iols a_whisks a_sw a_bar0 a_host a_dict a_recordsIn a_fences a_fenceOrder a_writeSentAt a_writeHeld a_peerReady a_handInstant a_twin a_pertCount a_pertEnds a_rules a_gaugeLog a_gaugeIn a_pans a_fuses a_power a_tagHeld a_keys a_boot a_uartSent a_jtag a_pending} :
    Calm x0 (State.mk a_run a_clock a_ftimeQ a_straps a_resetCause a_regs a_cnt a_rejects a_free a_hub a_answers a_role a_links a_tx a_ingress a_sent a_inbox a_landing a_seqNext a_origTimes a_origHeld a_dups a_tie a_settleEnds a_field a_healthAt a_sources a_records a_recordLoss a_deliveries a_msix a_faults a_cru a_copper a_assigned a_disc a_img a_mirror a_hist a_time a_timers a_captures a_queues a_busReads a_lines a_pxs a_cans a_rss a_rsSent a_bridges a_iols a_whisks a_sw a_bar0 a_host a_dict a_recordsIn a_fences a_fenceOrder a_writeSentAt a_writeHeld a_peerReady a_handInstant a_twin a_pertCount a_pertEnds a_rules a_gaugeLog a_gaugeIn a_pans a_fuses a_power a_tagHeld a_keys a_boot a_uartSent a_jtag a_pending) =
      CalmSame x0 a_run a_clock a_ftimeQ a_straps a_resetCause (a_regs.filter (fun c => !loudReg c.1)) (a_cnt.filter (fun c => !loudCounter c.1)) a_rejects a_free a_role a_links a_ingress a_sent a_inbox a_landing a_dups a_settleEnds (uncalm_field a_field) a_healthAt a_copper a_assigned (uncalm_disc a_disc) a_img a_mirror a_hist a_time a_timers a_captures a_queues a_busReads a_cans a_rss a_rsSent a_bridges a_iols a_sw a_bar0 a_host (uncalm_dict a_dict) a_fences a_fenceOrder a_writeSentAt a_peerReady a_handInstant (uncalm_twin a_twin) a_pertCount a_pertEnds a_rules a_gaugeLog a_gaugeIn a_pans a_fuses a_power (uncalm_keys a_keys) a_boot a_jtag a_pending :=
  propext Calm.iff

theorem Calm.refl (s : State) : Calm s s := rfl

theorem Calm.trans {s t u : State} (h : Calm s t) (h' : Calm t u) : Calm s u := Eq.trans h' h

theorem Calm.twin {x0 s : State} (h : Calm x0 s) : uncalm_twin s.twin = uncalm_twin x0.twin := by
  have := h.kc; unfold CalmSame at this; simp_all

theorem Quiet.calm {s t : State} (h : Quiet s t) : Calm s t := by
  have h := h.kc
  unfold QuietSame at h
  have hc : ∀ m : Cells Nat, m.filter (fun c => !loudCounter c.1) =
      (m.filter (fun c => !trafficCounter c.1)).filter (fun c => !loudCounter c.1) := by
    intro m
    rw [List.filter_filter]
    congr 1
    funext c
    unfold loudCounter
    cases trafficCounter c.1 <;> simp
  rw [Calm.iff]
  unfold CalmSame uncalm_dict uncalm_keys uncalm_twin uncalm_disc uncalm_field
  unfold unquiet_hub unquiet_dict unquiet_keys unquiet_twin unquiet_disc unquiet_cru at h
  rw [hc t.cnt, hc s.cnt]
  simp_all

theorem Calm.quiet {x0 s t : State} (h : Calm x0 s) (q : Quiet s t) : Calm x0 t := h.trans q.calm

theorem calm_foldl {α : Type} {x0 : State} {f : State → α → State} (hf : ∀ s a, Calm x0 s → Calm x0 (f s a)) (l : List α) :
    ∀ {s : State}, Calm x0 s → Calm x0 (l.foldl f s) := by
  induction l with
  | nil => intro s h; exact h
  | cons a l ih => intro s h; exact ih (hf s a h)

theorem calm_snd {x0 s : State} {α : Type} {p : α × State} {a : α} (h : p = (a, s)) (hp : Calm x0 p.2) : Calm x0 s := by
  subst h; exact hp

theorem calm_fst {x0 s : State} {α : Type} {p : State × α} {a : α} (h : p = (s, a)) (hp : Calm x0 p.1) : Calm x0 s := by
  subst h; exact hp

theorem calm_id {x0 s : State} (h : Calm x0 s) : Calm x0 (id s) := h

theorem calm_ite {x0 : State} {c : Prop} [Decidable c] {A B : State} (hA : Calm x0 A) (hB : Calm x0 B) : Calm x0 (if c then A else B) := by
  split <;> assumption

theorem calm_bumpT {x0 : State} (s : State) (k : Nat) (hk : loudCounter k = true) (hs : Calm x0 s) : Calm x0 (s.bump k) := by
  have e : Calm x0 (s.bump k) = Calm x0 { s with cnt := cellSet (fun _ => 0) s.cnt k (s.count k + 1) } := rfl
  rw [e]
  simp -zeta only [calm_mk]
  rw [set_filter loudCounter _ k hk]
  exact hs.kc

theorem calm_setRegL {x0 : State} (s : State) (k v : Nat) (hk : loudReg k = true) (hs : Calm x0 s) : Calm x0 (s.setReg k v) := by
  have e : Calm x0 (s.setReg k v) = Calm x0 { s with regs := cellSet objDefault s.regs k v } := rfl
  rw [e]
  simp -zeta only [calm_mk]
  rw [set_filter loudReg _ k hk]
  exact hs.kc

theorem faultPort_lt {n item f : Nat} (h : faultPort n item = some (0, f)) : f < 4 := by
  unfold faultPort at h
  repeat' split at h
  all_goals simp at h
  omega

theorem lr_port (f : Nat) (hf : f < 4) : loudReg (Key.PORT_STATE f) = true := by
  have h1 : (obj (272 + f) 6) % 256 = 6 := by unfold obj; omega
  have h2 : 272 ≤ (obj (272 + f) 6) / 256 := by unfold obj; omega
  have h3 : (obj (272 + f) 6) / 256 ≤ 275 := by unfold obj; omega
  unfold loudReg
  simp [Key.PORT_STATE, h1, h2, h3]

theorem calm_tc_down (p : Nat) : loudCounter (Key.COUNT_TX_DOWN_DROP p) = true := by
  have h1 : (obj (280 + p) 21) % 256 = 21 := by unfold obj; omega
  have h2 : 280 ≤ (obj (280 + p) 21) / 256 := by unfold obj; omega
  unfold loudCounter trafficCounter
  simp [Key.COUNT_TX_DOWN_DROP, h1, h2]

theorem calm_tc_rem (r : Nat) (h : r ≤ 3) : loudCounter (Key.REM_OFFERS r) = true := by
  have h1 : (obj (2052 + r) 4) % 256 = 4 := by unfold obj; omega
  have h2 : 2052 ≤ (obj (2052 + r) 4) / 256 := by unfold obj; omega
  have h3 : (obj (2052 + r) 4) / 256 ≤ 2055 := by unfold obj; omega
  unfold loudCounter trafficCounter
  simp [Key.REM_OFFERS, h1, h2, h3]

theorem calm_setPort {x0 : State} (s : State) (f : Nat) (p : PortTx) (hs : Calm x0 s) : Calm x0 (State.setPort s f p) :=
  hs.quiet (quiet_setPort s f p (Quiet.refl s))

theorem calm_log {x0 : State} (s : State) (cls : Nat) (source : Nat) (data : List Byte) (hs : Calm x0 s) : Calm x0 (State.log s cls source data) :=
  hs.quiet (quiet_log s cls source data (Quiet.refl s))

theorem calm_logRecord {x0 : State} (s : State) (k : Nat) (data : List Byte) (hs : Calm x0 s) : Calm x0 (State.logRecord s k data) :=
  hs.quiet (quiet_logRecord s k data (Quiet.refl s))

theorem calm_enqueue {x0 : State} (s : State) (p : Nat) (e : TxEntry) (hs : Calm x0 s) : Calm x0 (State.enqueue s p e) :=
  hs.quiet (quiet_enqueue s p e (Quiet.refl s))

theorem calm_sendCopy {x0 : State} (s : State) (p : Nat) (f : Frame) (hs : Calm x0 s) : Calm x0 (State.sendCopy s p f) :=
  hs.quiet (quiet_sendCopy s p f (Quiet.refl s))

theorem calm_sendTie {x0 : State} (s : State) (f : Frame) (hs : Calm x0 s) : Calm x0 (State.sendTie s f) :=
  hs.quiet (quiet_sendTie s f (Quiet.refl s))

theorem calm_sendLocal {x0 : State} (s : State) (p : Nat) (f : Frame) (hs : Calm x0 s) : Calm x0 (State.sendLocal s p f) :=
  hs.quiet (quiet_sendLocal s p f (Quiet.refl s))

theorem calm_sendBoth {x0 : State} (s : State) (f : Frame) (hs : Calm x0 s) : Calm x0 (State.sendBoth s f) :=
  hs.quiet (quiet_sendBoth s f (Quiet.refl s))

theorem calm_ivUse {x0 : State} (s : State) (d1 : Bool) (hs : Calm x0 s) : Calm x0 (State.ivUse s d1) :=
  hs.quiet (quiet_ivUse s d1 (Quiet.refl s))

theorem calm_originateNow {x0 : State} (s : State) (f : Frame) (hs : Calm x0 s) : Calm x0 (State.originateNow s f) :=
  hs.quiet (quiet_originateNow s f (Quiet.refl s))

theorem calm_originate {x0 : State} (s : State) (f : Frame) (hs : Calm x0 s) : Calm x0 (State.originate s f) :=
  hs.quiet (quiet_originate s f (Quiet.refl s))

theorem calm_touch {x0 : State} (s : State) (p : Path) (hs : Calm x0 s) : Calm x0 (State.touch s p) :=
  hs.quiet (quiet_touch s p (Quiet.refl s))

theorem calm_sendDict {x0 : State} (s : State) (p : Path) (dict : List Byte) (hs : Calm x0 s) : Calm x0 (State.sendDict s p dict) :=
  hs.quiet (quiet_sendDict s p dict (Quiet.refl s))

theorem calm_answer {x0 : State} (s : State) (p : Path) (k : Nat) (a : Option Abort) (data : List Byte) (hs : Calm x0 s) : Calm x0 (State.answer s p k a data) :=
  hs.quiet (quiet_answer s p k a data (Quiet.refl s))

theorem calm_sendTwinAs {x0 : State} (s : State) (prio : Nat) (mayTag : Bool) (payload : List Byte) (hs : Calm x0 s) : Calm x0 (State.sendTwinAs s prio mayTag payload) :=
  hs.quiet (quiet_sendTwinAs s prio mayTag payload (Quiet.refl s))

theorem calm_sendTwin {x0 : State} (s : State) (prio : Nat) (payload : List Byte) (hs : Calm x0 s) : Calm x0 (State.sendTwin s prio payload) :=
  hs.quiet (quiet_sendTwin s prio payload (Quiet.refl s))

theorem calm_sendSync {x0 : State} (s : State) (k : Nat) (value : List Byte) (hs : Calm x0 s) : Calm x0 (State.sendSync s k value) :=
  hs.quiet (quiet_sendSync s k value (Quiet.refl s))

theorem calm_accepted {x0 : State} (s : State) (w : Writer) (k v : Nat) (hs : Calm x0 s) : Calm x0 (State.accepted s w k v) :=
  hs.quiet (quiet_accepted s w k v (Quiet.refl s))

theorem calm_propose {x0 : State} (s : State) (cause : Nat) (hs : Calm x0 s) : Calm x0 (State.propose s cause) := by
  unfold State.propose
  try dsimp only
  repeat' first
    | intro _
    | (simp -zeta only [calm_mk]; refine Calm.kc ?_)
    | with_reducible refine calm_ite ?_ ?_
    | with_reducible apply calm_sendTwinAs
    | with_reducible apply calm_id
    | with_reducible apply calm_setRegL
    | (show loudReg _ = true; decide)
    | with_reducible exact lr_port _ (faultPort_lt (by assumption))
    | with_reducible refine calm_foldl (fun _ _ _ => ?_) _ ?_
    | with_reducible assumption

theorem calm_setSrc {x0 : State} (s : State) (n : Nat) (e : SrcSt) (hs : Calm x0 s) : Calm x0 (State.setSrc s n e) :=
  hs.quiet (quiet_setSrc s n e (Quiet.refl s))

theorem calm_assign {x0 : State} (s : State) (n : Nat) (hs : Calm x0 s) : Calm x0 (State.assign s n) :=
  hs.quiet (quiet_assign s n (Quiet.refl s))

theorem calm_fireHost {x0 : State} (s : State) (hs : Calm x0 s) : Calm x0 (State.fireHost s) :=
  hs.quiet (quiet_fireHost s (Quiet.refl s))

theorem calm_settle {x0 : State} (s : State) (hs : Calm x0 s) : Calm x0 (State.settle s) :=
  hs.quiet (quiet_settle s (Quiet.refl s))

theorem calm_queueRecord {x0 : State} (s : State) (n : Nat) (data : Nat) (hs : Calm x0 s) : Calm x0 (State.queueRecord s n data) :=
  hs.quiet (quiet_queueRecord s n data (Quiet.refl s))

theorem calm_raise {x0 : State} (s : State) (n : Nat) (data : Nat) (hs : Calm x0 s) : Calm x0 (State.raise s n data) :=
  hs.quiet (quiet_raise s n data (Quiet.refl s))

theorem calm_completeSrc {x0 : State} (s : State) (n : Nat) (hs : Calm x0 s) : Calm x0 (State.completeSrc s n) :=
  hs.quiet (quiet_completeSrc s n (Quiet.refl s))

theorem calm_setWhisk {x0 : State} (s : State) (w : Nat) (x : WhiskSt) (hs : Calm x0 s) : Calm x0 (State.setWhisk s w x) := by
  unfold State.setWhisk
  try dsimp only
  repeat' first
    | intro _
    | (simp -zeta only [calm_mk]; refine Calm.kc ?_)
    | with_reducible refine calm_ite ?_ ?_
    | with_reducible apply calm_id
    | with_reducible refine calm_foldl (fun _ _ _ => ?_) _ ?_
    | with_reducible assumption

theorem calm_whiskTo {x0 : State} (s : State) (w : Nat) (x : WhiskSt) (hs : Calm x0 s) : Calm x0 (State.whiskTo s w x) := by
  unfold State.whiskTo
  try dsimp only
  repeat' first
    | intro _
    | (simp -zeta only [calm_mk]; refine Calm.kc ?_)
    | with_reducible refine calm_ite ?_ ?_
    | with_reducible apply calm_raise
    | with_reducible apply calm_setWhisk
    | with_reducible apply calm_id
    | with_reducible refine calm_foldl (fun _ _ _ => ?_) _ ?_
    | with_reducible assumption

theorem calm_whiskRestart {x0 : State} (s : State) (w : Nat) (hs : Calm x0 s) : Calm x0 (State.whiskRestart s w) := by
  unfold State.whiskRestart
  try dsimp only
  repeat' first
    | intro _
    | (simp -zeta only [calm_mk]; refine Calm.kc ?_)
    | with_reducible refine calm_ite ?_ ?_
    | with_reducible apply calm_whiskTo
    | with_reducible apply calm_id
    | with_reducible refine calm_foldl (fun _ _ _ => ?_) _ ?_
    | with_reducible assumption

theorem calm_whiskSafe {x0 : State} (s : State) (w : Nat) (hs : Calm x0 s) : Calm x0 (State.whiskSafe s w) := by
  unfold State.whiskSafe
  try dsimp only
  repeat' first
    | intro _
    | (simp -zeta only [calm_mk]; refine Calm.kc ?_)
    | with_reducible refine calm_ite ?_ ?_
    | with_reducible apply calm_whiskTo
    | with_reducible apply calm_id
    | with_reducible refine calm_foldl (fun _ _ _ => ?_) _ ?_
    | with_reducible assumption

theorem calm_whiskUnsafe {x0 : State} (s : State) (w : Nat) (hs : Calm x0 s) : Calm x0 (State.whiskUnsafe s w) := by
  unfold State.whiskUnsafe
  try dsimp only
  repeat' first
    | intro _
    | (simp -zeta only [calm_mk]; refine Calm.kc ?_)
    | with_reducible refine calm_ite ?_ ?_
    | with_reducible apply calm_whiskRestart
    | with_reducible apply calm_id
    | with_reducible refine calm_foldl (fun _ _ _ => ?_) _ ?_
    | with_reducible assumption

theorem calm_eachWhisk {x0 : State} (s : State) (ws : List Nat) (f : State → Nat → State) (hs : Calm x0 s) (hf : ∀ s (v0 : Nat), Calm x0 s → Calm x0 (f s v0)) : Calm x0 (State.eachWhisk s ws f) := by
  unfold State.eachWhisk
  try dsimp only
  repeat' first
    | intro _
    | (simp -zeta only [calm_mk]; refine Calm.kc ?_)
    | with_reducible refine calm_ite ?_ ?_
    | with_reducible apply hf
    | with_reducible apply calm_id
    | with_reducible refine calm_foldl (fun _ _ _ => ?_) _ ?_
    | with_reducible assumption

theorem calm_setFlt {x0 : State} (s : State) (n : Nat) (f : FltSt) (hs : Calm x0 s) : Calm x0 (State.setFlt s n f) := by
  unfold State.setFlt
  try dsimp only
  repeat' first
    | intro _
    | (simp -zeta only [calm_mk]; refine Calm.kc ?_)
    | with_reducible refine calm_ite ?_ ?_
    | with_reducible apply calm_id
    | with_reducible refine calm_foldl (fun _ _ _ => ?_) _ ?_
    | with_reducible assumption

theorem calm_setLine {x0 : State} (s : State) (i : Nat) (l : LineSt) (hs : Calm x0 s) : Calm x0 (State.setLine s i l) := by
  unfold State.setLine
  try dsimp only
  repeat' first
    | intro _
    | (simp -zeta only [calm_mk]; refine Calm.kc ?_)
    | with_reducible refine calm_ite ?_ ?_
    | with_reducible apply calm_id
    | with_reducible refine calm_foldl (fun _ _ _ => ?_) _ ?_
    | with_reducible assumption

theorem calm_setPx {x0 : State} (s : State) (x : Nat) (p : PxSt) (hs : Calm x0 s) : Calm x0 (State.setPx s x p) := by
  unfold State.setPx
  try dsimp only
  repeat' first
    | intro _
    | (simp -zeta only [calm_mk]; refine Calm.kc ?_)
    | with_reducible refine calm_ite ?_ ?_
    | with_reducible apply calm_id
    | with_reducible refine calm_foldl (fun _ _ _ => ?_) _ ?_
    | with_reducible assumption

theorem calm_keepLast {x0 : State} (s : State) (p : Nat → Bool) (hs : Calm x0 s) : Calm x0 (State.keepLast s p) := by
  unfold State.keepLast
  try dsimp only
  repeat' first
    | intro _
    | (simp -zeta only [calm_mk]; refine Calm.kc ?_)
    | with_reducible refine calm_ite ?_ ?_
    | with_reducible apply calm_setLine
    | with_reducible apply calm_setPx
    | with_reducible apply calm_id
    | with_reducible refine calm_foldl (fun _ _ _ => ?_) _ ?_
    | with_reducible assumption

theorem calm_unsteady {x0 : State} (s : State) (hs : Calm x0 s) : Calm x0 (State.unsteady s) := by
  unfold State.unsteady
  try dsimp only
  repeat' first
    | intro _
    | (simp -zeta only [calm_mk]; refine Calm.kc ?_)
    | with_reducible refine calm_ite ?_ ?_
    | with_reducible apply calm_id
    | with_reducible refine calm_foldl (fun _ _ _ => ?_) _ ?_
    | with_reducible assumption

theorem calm_setMode {x0 : State} (s : State) (m : HubMode) (ret : HubMode) (cause : Nat) (hs : Calm x0 s) : Calm x0 (State.setMode s m ret cause) := by
  unfold State.setMode
  try dsimp only
  repeat' first
    | intro _
    | (simp -zeta only [calm_mk]; refine Calm.kc ?_)
    | with_reducible refine calm_ite ?_ ?_
    | with_reducible apply calm_eachWhisk
    | with_reducible apply calm_keepLast
    | with_reducible apply calm_raise
    | with_reducible apply calm_sendTwin
    | with_reducible apply calm_unsteady
    | with_reducible apply calm_whiskSafe
    | with_reducible apply calm_whiskUnsafe
    | with_reducible apply calm_id
    | with_reducible apply calm_bumpT
    | with_reducible exact calm_tc_down _
    | (show loudCounter _ = true; decide)
    | with_reducible refine calm_foldl (fun _ _ _ => ?_) _ ?_
    | with_reducible assumption

theorem calm_enterSafe {x0 : State} (s : State) (cause : Nat) (hs : Calm x0 s) : Calm x0 (State.enterSafe s cause) := by
  unfold State.enterSafe
  try dsimp only
  repeat' first
    | intro _
    | (simp -zeta only [calm_mk]; refine Calm.kc ?_)
    | with_reducible refine calm_ite ?_ ?_
    | with_reducible apply calm_setMode
    | with_reducible apply calm_id
    | with_reducible refine calm_foldl (fun _ _ _ => ?_) _ ?_
    | with_reducible assumption
    | with_reducible refine calm_snd (by with_reducible assumption) ?_
    | with_reducible refine calm_fst (by with_reducible assumption) ?_
    | split

theorem calm_panEnterSafe {x0 : State} (s : State) (p : Nat) (hs : Calm x0 s) : Calm x0 (State.panEnterSafe s p) := by
  unfold State.panEnterSafe
  try dsimp only
  repeat' first
    | intro _
    | (simp -zeta only [calm_mk]; refine Calm.kc ?_)
    | with_reducible refine calm_ite ?_ ?_
    | with_reducible apply calm_eachWhisk
    | with_reducible apply calm_unsteady
    | with_reducible apply calm_whiskSafe
    | with_reducible apply calm_id
    | with_reducible refine calm_foldl (fun _ _ _ => ?_) _ ?_
    | with_reducible assumption

theorem calm_portStop {x0 : State} (s : State) (n : Nat) (item : Nat) (hs : Calm x0 s) : Calm x0 (State.portStop s n item) := by
  unfold State.portStop
  try dsimp only
  repeat' first
    | intro _
    | (simp -zeta only [calm_mk]; refine Calm.kc ?_)
    | with_reducible refine calm_ite ?_ ?_
    | with_reducible apply calm_id
    | with_reducible apply calm_setRegL
    | (show loudReg _ = true; decide)
    | with_reducible exact lr_port _ (faultPort_lt (by assumption))
    | with_reducible refine calm_foldl (fun _ _ _ => ?_) _ ?_
    | with_reducible assumption
    | with_reducible refine calm_snd (by with_reducible assumption) ?_
    | with_reducible refine calm_fst (by with_reducible assumption) ?_
    | split

theorem calm_react {x0 : State} (s : State) (n : Nat) (item : Nat) (r : Nat) (hs : Calm x0 s) : Calm x0 (State.react s n item r) := by
  unfold State.react
  try dsimp only
  repeat' first
    | intro _
    | (simp -zeta only [calm_mk]; refine Calm.kc ?_)
    | with_reducible refine calm_ite ?_ ?_
    | with_reducible apply calm_enterSafe
    | with_reducible apply calm_keepLast
    | with_reducible apply calm_panEnterSafe
    | with_reducible apply calm_portStop
    | with_reducible apply calm_propose
    | with_reducible apply calm_raise
    | with_reducible apply calm_setFlt
    | with_reducible apply calm_id
    | with_reducible refine calm_foldl (fun _ _ _ => ?_) _ ?_
    | with_reducible assumption
    | with_reducible refine calm_snd (by with_reducible assumption) ?_
    | with_reducible refine calm_fst (by with_reducible assumption) ?_
    | split

theorem calm_trigger {x0 : State} (s : State) (kind : Nat) (source : Nat) (hs : Calm x0 s) : Calm x0 (State.trigger s kind source) := by
  unfold State.trigger
  try dsimp only
  repeat' first
    | intro _
    | (simp -zeta only [calm_mk]; refine Calm.kc ?_)
    | with_reducible refine calm_ite ?_ ?_
    | with_reducible apply calm_log
    | with_reducible apply calm_id
    | with_reducible apply calm_bumpT
    | with_reducible exact calm_tc_down _
    | (show loudCounter _ = true; decide)
    | with_reducible refine calm_foldl (fun _ _ _ => ?_) _ ?_
    | with_reducible assumption

theorem calm_occurX {x0 : State} (s : State) (n : Nat) (cause : Nat) (forced : Bool) (detail : List Byte) (hs : Calm x0 s) : Calm x0 (State.occurX s n cause forced detail) := by
  unfold State.occurX
  try dsimp only
  repeat' first
    | intro _
    | (simp -zeta only [calm_mk]; refine Calm.kc ?_)
    | with_reducible refine calm_ite ?_ ?_
    | with_reducible apply calm_log
    | with_reducible apply calm_raise
    | with_reducible apply calm_react
    | with_reducible apply calm_setFlt
    | with_reducible apply calm_trigger
    | with_reducible apply calm_id
    | with_reducible apply calm_bumpT
    | with_reducible exact calm_tc_down _
    | (show loudCounter _ = true; decide)
    | with_reducible refine calm_foldl (fun _ _ _ => ?_) _ ?_
    | with_reducible assumption

theorem calm_occur {x0 : State} (s : State) (n : Nat) (item : Nat) (detail : Nat) (hs : Calm x0 s) : Calm x0 (State.occur s n item detail) := by
  unfold State.occur
  try dsimp only
  repeat' first
    | intro _
    | (simp -zeta only [calm_mk]; refine Calm.kc ?_)
    | with_reducible refine calm_ite ?_ ?_
    | with_reducible apply calm_occurX
    | with_reducible apply calm_id
    | with_reducible refine calm_foldl (fun _ _ _ => ?_) _ ?_
    | with_reducible assumption

theorem calm_faultUp {x0 : State} (s : State) (n : Nat) (item : Nat) (detail : Nat) (hs : Calm x0 s) : Calm x0 (State.faultUp s n item detail) := by
  unfold State.faultUp
  try dsimp only
  repeat' first
    | intro _
    | (simp -zeta only [calm_mk]; refine Calm.kc ?_)
    | with_reducible refine calm_ite ?_ ?_
    | with_reducible apply calm_occur
    | with_reducible apply calm_raise
    | with_reducible apply calm_setFlt
    | with_reducible apply calm_id
    | with_reducible refine calm_foldl (fun _ _ _ => ?_) _ ?_
    | with_reducible assumption

theorem calm_faultDown {x0 : State} (s : State) (n : Nat) (hs : Calm x0 s) : Calm x0 (State.faultDown s n) := by
  unfold State.faultDown
  try dsimp only
  repeat' first
    | intro _
    | (simp -zeta only [calm_mk]; refine Calm.kc ?_)
    | with_reducible refine calm_ite ?_ ?_
    | with_reducible apply calm_setFlt
    | with_reducible apply calm_id
    | with_reducible refine calm_foldl (fun _ _ _ => ?_) _ ?_
    | with_reducible assumption

theorem calm_portResume {x0 : State} (s : State) (n : Nat) (rs : List (Nat × Nat)) (hs : Calm x0 s) : Calm x0 (State.portResume s n rs) := by
  unfold State.portResume
  try dsimp only
  repeat' first
    | intro _
    | (simp -zeta only [calm_mk]; refine Calm.kc ?_)
    | with_reducible refine calm_ite ?_ ?_
    | with_reducible apply calm_id
    | with_reducible apply calm_setRegL
    | (show loudReg _ = true; decide)
    | with_reducible exact lr_port _ (faultPort_lt (by assumption))
    | with_reducible refine calm_foldl (fun _ _ _ => ?_) _ ?_
    | with_reducible assumption
    | with_reducible refine calm_snd (by with_reducible assumption) ?_
    | with_reducible refine calm_fst (by with_reducible assumption) ?_
    | split

theorem calm_faultLeave {x0 : State} (s : State) (n : Nat) (suspended : Bool) (hs : Calm x0 s) : Calm x0 (State.faultLeave s n suspended) := by
  unfold State.faultLeave
  try dsimp only
  repeat' first
    | intro _
    | (simp -zeta only [calm_mk]; refine Calm.kc ?_)
    | with_reducible refine calm_ite ?_ ?_
    | with_reducible apply calm_eachWhisk
    | with_reducible apply calm_portResume
    | with_reducible apply calm_setFlt
    | with_reducible apply calm_unsteady
    | with_reducible apply calm_whiskUnsafe
    | with_reducible apply calm_id
    | with_reducible refine calm_foldl (fun _ _ _ => ?_) _ ?_
    | with_reducible assumption
    | with_reducible refine calm_snd (by with_reducible assumption) ?_
    | with_reducible refine calm_fst (by with_reducible assumption) ?_
    | split


end Sys2Proof.Machine
end

