-- ==== Sys2Proof/Laws/Keep.lean ====
section
/-! SUPPORT. `Keep m s t`: going from `s` to `t` changed only the parts of the state in the mask `m` (bit i stands for
`Part` number i), and kept the invariant. One lemma per shape of state update, and the ways to chain them. -/

namespace Sys2Proof.Machine
open Sys2Proof

/-- Only the parts in `m` differ. -/
def Same (m : Nat) (s t : State) : Prop := ∀ p : Part, m.testBit p.ctorIdx = false → p.same s t

/-- Only the parts in `m` differ, and the invariant goes on to hold. -/
structure Keep (m : Nat) (s t : State) : Prop where
  same : Same m s t
  inv : Inv s → Inv t

/-- The mask of a list of parts. -/
def maskOf : List Part → Nat
  | [] => 0
  | p :: l => (1 <<< p.ctorIdx) ||| maskOf l

theorem maskOf_testBit (l : List Part) (p : Part) : (maskOf l).testBit p.ctorIdx = decide (p ∈ l) := by
  have hinj : ∀ p q : Part, p.ctorIdx = q.ctorIdx → p = q := by
    intro p q h; cases p <;> cases q <;> first | rfl | (exact absurd h (by decide))
  induction l with
  | nil => simp [maskOf]
  | cons q l ih =>
    rw [maskOf, Nat.testBit_or, ih, Nat.one_shiftLeft, Nat.testBit_two_pow]
    by_cases h : q.ctorIdx = p.ctorIdx
    · have := hinj _ _ h; subst this; simp
    · have h2 : p ≠ q := fun e => h (e ▸ rfl)
      simp [h, h2]

/-- The mask form says what the list form says. -/
theorem only_iff (l : List Part) (s t : State) : Only l s t ↔ Same (maskOf l) s t := by
  constructor
  · intro h p hp; refine h p ?_; rw [maskOf_testBit] at hp; simpa using hp
  · intro h p hp; refine h p ?_; rw [maskOf_testBit]; simpa using hp

theorem Part.same_refl (p : Part) (s : State) : p.same s s := by cases p <;> rfl

theorem Part.same_trans (p : Part) {s t u : State} (h : p.same s t) (h' : p.same t u) : p.same s u := by
  cases p <;> exact Eq.trans h' h

theorem Keep.refl (m : Nat) (s : State) : Keep m s s := ⟨fun p _ => p.same_refl s, id⟩

theorem Same.mono {m n : Nat} {s t : State} (h : Same m s t) (hm : Nat.land m n = m) : Same n s t := by
  intro p hp
  refine h p ?_
  have : (m &&& n).testBit p.ctorIdx = m.testBit p.ctorIdx := congrArg (fun x => Nat.testBit x p.ctorIdx) hm
  rw [Nat.testBit_and, hp] at this
  simpa using this.symm

theorem Same.trans {m : Nat} {s t u : State} (h : Same m s t) (h' : Same m t u) : Same m s u :=
  fun p hp => p.same_trans (h p hp) (h' p hp)

theorem Keep.mono {m n : Nat} {s t : State} (h : Keep m s t) (hm : Nat.land m n = m) : Keep n s t := ⟨h.same.mono hm, h.inv⟩

/-- One more operation at the end of a chain. -/
theorem Keep.step {m n : Nat} {x s t : State} (h' : Keep n s t) (hm : Nat.land n m = n) (h : Keep m x s) : Keep m x t :=
  ⟨h.same.trans (h'.same.mono hm), fun hi => h'.inv (h.inv hi)⟩

theorem keep_snd {m : Nat} {x s : State} {α : Type} {p : α × State} {a : α} (h : p = (a, s)) (hp : Keep m x p.2) : Keep m x s := by
  subst h; exact hp

theorem keep_fst {m : Nat} {x s : State} {α : Type} {p : State × α} {a : α} (h : p = (s, a)) (hp : Keep m x p.1) : Keep m x s := by
  subst h; exact hp

theorem keep_ite {m : Nat} {x : State} {c : Prop} [Decidable c] {A B : State} (hA : Keep m x A) (hB : Keep m x B) :
    Keep m x (if c then A else B) := by
  split <;> assumption

theorem keep_foldl {m : Nat} {α : Type} {f : State → α → State} {x : State} (hf : ∀ s a, Keep m x s → Keep m x (f s a))
    (l : List α) : ∀ {s : State}, Keep m x s → Keep m x (l.foldl f s) := by
  induction l with
  | nil => intro s h; exact h
  | cons a l ih => intro s h; exact ih (hf s a h)

/-- What a command's outcome keeps. -/
structure KeepR (m : Nat) (s : State) (r : Res) : Prop where
  keep : ∀ t, r = .next t → Keep m s t

theorem keepr_next {m : Nat} {x s : State} (h : Keep m x s) : KeepR m x (.next s) := ⟨by
  intro t ht; cases ht; exact h⟩

theorem keepr_fault {m : Nat} {x : State} {r : Fault} : KeepR m x (.fault r) := ⟨by
  intro t ht; cases ht⟩

theorem keepr_ite {m : Nat} {x : State} {c : Prop} [Decidable c] {A B : Res} (hA : KeepR m x A) (hB : KeepR m x B) :
    KeepR m x (if c then A else B) := by
  split <;> assumption

theorem keepr_mono {m n : Nat} {x : State} {r : Res} (h : KeepR m x r) (hm : Nat.land m n = m) : KeepR n x r :=
  ⟨fun t ht => (h.keep t ht).mono hm⟩

/-- `Keep` of a state written out field by field. -/
structure KeepAt (m : Nat) (s t : State) : Prop where
  keep : Keep m s t

theorem keepAt_mk {m : Nat} {x : State} {a0 a1 a2 a3 a4 a5 a6 a7 a8 a9 a10 a11 a12 a13 a14 a15 a16 a17 a18 a19 a20 a21 a22 a23 a24 a25 a26 a27 a28 a29 a30 a31 a32 a33 a34 a35 a36 a37 a38 a39 a40 a41 a42 a43 a44 a45 a46 a47 a48 a49 a50 a51 a52 a53 a54 a55 a56 a57 a58 a59 a60 a61 a62 a63 a64 a65 a66 a67 a68 a69 a70 a71 a72 a73 a74 a75 a76 a77} :
    Keep m x (State.mk a0 a1 a2 a3 a4 a5 a6 a7 a8 a9 a10 a11 a12 a13 a14 a15 a16 a17 a18 a19 a20 a21 a22 a23 a24 a25 a26 a27 a28 a29 a30 a31 a32 a33 a34 a35 a36 a37 a38 a39 a40 a41 a42 a43 a44 a45 a46 a47 a48 a49 a50 a51 a52 a53 a54 a55 a56 a57 a58 a59 a60 a61 a62 a63 a64 a65 a66 a67 a68 a69 a70 a71 a72 a73 a74 a75 a76 a77) =
      KeepAt m x (State.mk a0 a1 a2 a3 a4 a5 a6 a7 a8 a9 a10 a11 a12 a13 a14 a15 a16 a17 a18 a19 a20 a21 a22 a23 a24 a25 a26 a27 a28 a29 a30 a31 a32 a33 a34 a35 a36 a37 a38 a39 a40 a41 a42 a43 a44 a45 a46 a47 a48 a49 a50 a51 a52 a53 a54 a55 a56 a57 a58 a59 a60 a61 a62 a63 a64 a65 a66 a67 a68 a69 a70 a71 a72 a73 a74 a75 a76 a77) :=
  propext ⟨fun h => ⟨h⟩, fun h => h.keep⟩

theorem keep_id (s : State) : Keep 0 s (id s) := Keep.refl _ _

theorem keep_self (m : Nat) : Nat.land m m = m := Nat.and_self m

theorem keep_sub {F M m : Nat} (h1 : Nat.land F M = F) (h2 : Nat.land M m = M) : Nat.land F m = F := by
  have e : ∀ a b : Nat, Nat.land a b = a &&& b := fun _ _ => rfl
  rw [e] at *
  rw [← h1, Nat.and_assoc, h2]

theorem Same.upd {F m : Nat} {x s t : State} (hu : Same F s t) (h : Keep m x s) (hm : Nat.land F m = F) : Same m x t :=
  h.same.trans (hu.mono hm)

theorem keep_mk_run {m : Nat} {x s : State} {v0} (h : Keep m x s)
    (hm : Nat.land 0x1 m = 0x1) : KeepAt m x { s with run := v0 } := by
  constructor
  have hu : Same 0x1 s { s with run := v0 } := by
    intro p hp; cases p <;> first | rfl | (exact absurd hp (by decide))
  refine ⟨hu.upd h hm, fun hi => ?_⟩
  exact h.inv hi

theorem keep_mk_run_clock_ftimeQ_straps_resetCause_regs_free_answers_role_links_sent_field_healthAt_msix_cru_time_busReads_lines_pxs_rsSent_iols_sw_host_twin_fuses_power_keys_boot_uartSent_jtag_pending {m : Nat} {x s : State} {v0 v1 v2 v3 v4 v5 v6 v7 v8 v9 v10 v11 v12 v13 v14 v15 v16 v17 v18 v19 v20 v21 v22 v23 v24 v25 v26 v27 v28 v29 v30} (g5 : cellsWf objDefault s.regs = true → cellsWf objDefault v5 = true) (h : Keep m x s)
    (hm : Nat.land 0x3ec08055388143009d3f m = 0x3ec08055388143009d3f) : KeepAt m x { s with run := v0, clock := v1, ftimeQ := v2, straps := v3, resetCause := v4, regs := v5, free := v6, answers := v7, role := v8, links := v9, sent := v10, field := v11, healthAt := v12, msix := v13, cru := v14, time := v15, busReads := v16, lines := v17, pxs := v18, rsSent := v19, iols := v20, sw := v21, host := v22, twin := v23, fuses := v24, power := v25, keys := v26, boot := v27, uartSent := v28, jtag := v29, pending := v30 } := by
  constructor
  have hu : Same 0x3ec08055388143009d3f s { s with run := v0, clock := v1, ftimeQ := v2, straps := v3, resetCause := v4, regs := v5, free := v6, answers := v7, role := v8, links := v9, sent := v10, field := v11, healthAt := v12, msix := v13, cru := v14, time := v15, busReads := v16, lines := v17, pxs := v18, rsSent := v19, iols := v20, sw := v21, host := v22, twin := v23, fuses := v24, power := v25, keys := v26, boot := v27, uartSent := v28, jtag := v29, pending := v30 } := by
    intro p hp; cases p <;> first | rfl | (exact absurd hp (by decide))
  refine ⟨hu.upd h hm, fun hi => ?_⟩
  obtain ⟨h1, h2, h3, h4⟩ := h.inv hi
  simp only [TablesOk, Bool.and_eq_true] at h1
  obtain ⟨⟨⟨r1, r2⟩, r3⟩, r4⟩ := h1
  have r1 := g5 r1
  refine ⟨?_, h2, h3, h4⟩
  simp only [TablesOk, Bool.and_eq_true]
  exact ⟨⟨⟨r1, r2⟩, r3⟩, r4⟩

theorem keep_mk_run_straps_role_time_twin_power_keys {m : Nat} {x s : State} {v0 v1 v2 v3 v4 v5 v6} (h : Keep m x s)
    (hm : Nat.land 0x2808000008000000809 m = 0x2808000008000000809) : KeepAt m x { s with run := v0, straps := v1, role := v2, time := v3, twin := v4, power := v5, keys := v6 } := by
  constructor
  have hu : Same 0x2808000008000000809 s { s with run := v0, straps := v1, role := v2, time := v3, twin := v4, power := v5, keys := v6 } := by
    intro p hp; cases p <;> first | rfl | (exact absurd hp (by decide))
  refine ⟨hu.upd h hm, fun hi => ?_⟩
  exact h.inv hi

theorem keep_mk_run_boot {m : Nat} {x s : State} {v0 v1} (h : Keep m x s)
    (hm : Nat.land 0x4000000000000000001 m = 0x4000000000000000001) : KeepAt m x { s with run := v0, boot := v1 } := by
  constructor
  have hu : Same 0x4000000000000000001 s { s with run := v0, boot := v1 } := by
    intro p hp; cases p <;> first | rfl | (exact absurd hp (by decide))
  refine ⟨hu.upd h hm, fun hi => ?_⟩
  exact h.inv hi

theorem keep_mk_clock_ftimeQ_field_healthAt_lines_iols_twin_fuses {m : Nat} {x s : State} {v0 v1 v2 v3 v4 v5 v6 v7} (h : Keep m x s)
    (hm : Nat.land 0x408004100003000006 m = 0x408004100003000006) : KeepAt m x { s with clock := v0, ftimeQ := v1, field := v2, healthAt := v3, lines := v4, iols := v5, twin := v6, fuses := v7 } := by
  constructor
  have hu : Same 0x408004100003000006 s { s with clock := v0, ftimeQ := v1, field := v2, healthAt := v3, lines := v4, iols := v5, twin := v6, fuses := v7 } := by
    intro p hp; cases p <;> first | rfl | (exact absurd hp (by decide))
  refine ⟨hu.upd h hm, fun hi => ?_⟩
  exact h.inv hi

theorem keep_mk_clock_ftimeQ_time {m : Nat} {x s : State} {v0 v1 v2} (h : Keep m x s)
    (hm : Nat.land 0x8000000006 m = 0x8000000006) : KeepAt m x { s with clock := v0, ftimeQ := v1, time := v2 } := by
  constructor
  have hu : Same 0x8000000006 s { s with clock := v0, ftimeQ := v1, time := v2 } := by
    intro p hp; cases p <;> first | rfl | (exact absurd hp (by decide))
  refine ⟨hu.upd h hm, fun hi => ?_⟩
  exact h.inv hi

theorem keep_mk_ftimeQ {m : Nat} {x s : State} {v0} (h : Keep m x s)
    (hm : Nat.land 0x4 m = 0x4) : KeepAt m x { s with ftimeQ := v0 } := by
  constructor
  have hu : Same 0x4 s { s with ftimeQ := v0 } := by
    intro p hp; cases p <;> first | rfl | (exact absurd hp (by decide))
  refine ⟨hu.upd h hm, fun hi => ?_⟩
  exact h.inv hi

theorem keep_mk_regs {m : Nat} {x s : State} {v0} (g0 : cellsWf objDefault s.regs = true → cellsWf objDefault v0 = true) (h : Keep m x s)
    (hm : Nat.land 0x20 m = 0x20) : KeepAt m x { s with regs := v0 } := by
  constructor
  have hu : Same 0x20 s { s with regs := v0 } := by
    intro p hp; cases p <;> first | rfl | (exact absurd hp (by decide))
  refine ⟨hu.upd h hm, fun hi => ?_⟩
  obtain ⟨h1, h2, h3, h4⟩ := h.inv hi
  simp only [TablesOk, Bool.and_eq_true] at h1
  obtain ⟨⟨⟨r1, r2⟩, r3⟩, r4⟩ := h1
  have r1 := g0 r1
  refine ⟨?_, h2, h3, h4⟩
  simp only [TablesOk, Bool.and_eq_true]
  exact ⟨⟨⟨r1, r2⟩, r3⟩, r4⟩

theorem keep_mk_regs_hub {m : Nat} {x s : State} {v0 v1} (g0 : cellsWf objDefault s.regs = true → cellsWf objDefault v0 = true) (h : Keep m x s)
    (hm : Nat.land 0x220 m = 0x220) : KeepAt m x { s with regs := v0, hub := v1 } := by
  constructor
  have hu : Same 0x220 s { s with regs := v0, hub := v1 } := by
    intro p hp; cases p <;> first | rfl | (exact absurd hp (by decide))
  refine ⟨hu.upd h hm, fun hi => ?_⟩
  obtain ⟨h1, h2, h3, h4⟩ := h.inv hi
  simp only [TablesOk, Bool.and_eq_true] at h1
  obtain ⟨⟨⟨r1, r2⟩, r3⟩, r4⟩ := h1
  have r1 := g0 r1
  refine ⟨?_, h2, h3, h4⟩
  simp only [TablesOk, Bool.and_eq_true]
  exact ⟨⟨⟨r1, r2⟩, r3⟩, r4⟩

theorem keep_mk_regs_sw {m : Nat} {x s : State} {v0 v1} (g0 : cellsWf objDefault s.regs = true → cellsWf objDefault v0 = true) (h : Keep m x s)
    (hm : Nat.land 0x10000000000020 m = 0x10000000000020) : KeepAt m x { s with regs := v0, sw := v1 } := by
  constructor
  have hu : Same 0x10000000000020 s { s with regs := v0, sw := v1 } := by
    intro p hp; cases p <;> first | rfl | (exact absurd hp (by decide))
  refine ⟨hu.upd h hm, fun hi => ?_⟩
  obtain ⟨h1, h2, h3, h4⟩ := h.inv hi
  simp only [TablesOk, Bool.and_eq_true] at h1
  obtain ⟨⟨⟨r1, r2⟩, r3⟩, r4⟩ := h1
  have r1 := g0 r1
  refine ⟨?_, h2, h3, h4⟩
  simp only [TablesOk, Bool.and_eq_true]
  exact ⟨⟨⟨r1, r2⟩, r3⟩, r4⟩

theorem keep_mk_cnt {m : Nat} {x s : State} {v0} (g0 : cellsWf (fun _ => 0) s.cnt = true → cellsWf (fun _ => 0) v0 = true) (h : Keep m x s)
    (hm : Nat.land 0x40 m = 0x40) : KeepAt m x { s with cnt := v0 } := by
  constructor
  have hu : Same 0x40 s { s with cnt := v0 } := by
    intro p hp; cases p <;> first | rfl | (exact absurd hp (by decide))
  refine ⟨hu.upd h hm, fun hi => ?_⟩
  obtain ⟨h1, h2, h3, h4⟩ := h.inv hi
  simp only [TablesOk, Bool.and_eq_true] at h1
  obtain ⟨⟨⟨r1, r2⟩, r3⟩, r4⟩ := h1
  have r2 := g0 r2
  refine ⟨?_, h2, h3, h4⟩
  simp only [TablesOk, Bool.and_eq_true]
  exact ⟨⟨⟨r1, r2⟩, r3⟩, r4⟩

theorem keep_mk_rejects {m : Nat} {x s : State} {v0} (g0 : cellsWf (fun _ => 0) s.rejects = true → cellsWf (fun _ => 0) v0 = true) (h : Keep m x s)
    (hm : Nat.land 0x80 m = 0x80) : KeepAt m x { s with rejects := v0 } := by
  constructor
  have hu : Same 0x80 s { s with rejects := v0 } := by
    intro p hp; cases p <;> first | rfl | (exact absurd hp (by decide))
  refine ⟨hu.upd h hm, fun hi => ?_⟩
  obtain ⟨h1, h2, h3, h4⟩ := h.inv hi
  simp only [TablesOk, Bool.and_eq_true] at h1
  obtain ⟨⟨⟨r1, r2⟩, r3⟩, r4⟩ := h1
  have r3 := g0 r3
  refine ⟨?_, h2, h3, h4⟩
  simp only [TablesOk, Bool.and_eq_true]
  exact ⟨⟨⟨r1, r2⟩, r3⟩, r4⟩

theorem keep_mk_free {m : Nat} {x s : State} {v0} (h : Keep m x s)
    (hm : Nat.land 0x100 m = 0x100) : KeepAt m x { s with free := v0 } := by
  constructor
  have hu : Same 0x100 s { s with free := v0 } := by
    intro p hp; cases p <;> first | rfl | (exact absurd hp (by decide))
  refine ⟨hu.upd h hm, fun hi => ?_⟩
  exact h.inv hi

theorem keep_mk_hub {m : Nat} {x s : State} {v0} (h : Keep m x s)
    (hm : Nat.land 0x200 m = 0x200) : KeepAt m x { s with hub := v0 } := by
  constructor
  have hu : Same 0x200 s { s with hub := v0 } := by
    intro p hp; cases p <;> first | rfl | (exact absurd hp (by decide))
  refine ⟨hu.upd h hm, fun hi => ?_⟩
  exact h.inv hi

theorem keep_mk_hub_boot {m : Nat} {x s : State} {v0 v1} (h : Keep m x s)
    (hm : Nat.land 0x4000000000000000200 m = 0x4000000000000000200) : KeepAt m x { s with hub := v0, boot := v1 } := by
  constructor
  have hu : Same 0x4000000000000000200 s { s with hub := v0, boot := v1 } := by
    intro p hp; cases p <;> first | rfl | (exact absurd hp (by decide))
  refine ⟨hu.upd h hm, fun hi => ?_⟩
  exact h.inv hi

theorem keep_mk_answers {m : Nat} {x s : State} {v0} (h : Keep m x s)
    (hm : Nat.land 0x400 m = 0x400) : KeepAt m x { s with answers := v0 } := by
  constructor
  have hu : Same 0x400 s { s with answers := v0 } := by
    intro p hp; cases p <;> first | rfl | (exact absurd hp (by decide))
  refine ⟨hu.upd h hm, fun hi => ?_⟩
  exact h.inv hi

theorem keep_mk_role_img {m : Nat} {x s : State} {v0 v1} (h : Keep m x s)
    (hm : Nat.land 0x1000000800 m = 0x1000000800) : KeepAt m x { s with role := v0, img := v1 } := by
  constructor
  have hu : Same 0x1000000800 s { s with role := v0, img := v1 } := by
    intro p hp; cases p <;> first | rfl | (exact absurd hp (by decide))
  refine ⟨hu.upd h hm, fun hi => ?_⟩
  exact h.inv hi

theorem keep_mk_role_twin {m : Nat} {x s : State} {v0 v1} (h : Keep m x s)
    (hm : Nat.land 0x8000000000000800 m = 0x8000000000000800) : KeepAt m x { s with role := v0, twin := v1 } := by
  constructor
  have hu : Same 0x8000000000000800 s { s with role := v0, twin := v1 } := by
    intro p hp; cases p <;> first | rfl | (exact absurd hp (by decide))
  refine ⟨hu.upd h hm, fun hi => ?_⟩
  exact h.inv hi

theorem keep_mk_links {m : Nat} {x s : State} {v0} (h : Keep m x s)
    (hm : Nat.land 0x1000 m = 0x1000) : KeepAt m x { s with links := v0 } := by
  constructor
  have hu : Same 0x1000 s { s with links := v0 } := by
    intro p hp; cases p <;> first | rfl | (exact absurd hp (by decide))
  refine ⟨hu.upd h hm, fun hi => ?_⟩
  exact h.inv hi

theorem keep_mk_tx {m : Nat} {x s : State} {v0} (h : Keep m x s)
    (hm : Nat.land 0x2000 m = 0x2000) : KeepAt m x { s with tx := v0 } := by
  constructor
  have hu : Same 0x2000 s { s with tx := v0 } := by
    intro p hp; cases p <;> first | rfl | (exact absurd hp (by decide))
  refine ⟨hu.upd h hm, fun hi => ?_⟩
  exact h.inv hi

theorem keep_mk_ingress {m : Nat} {x s : State} {v0} (h : Keep m x s)
    (hm : Nat.land 0x4000 m = 0x4000) : KeepAt m x { s with ingress := v0 } := by
  constructor
  have hu : Same 0x4000 s { s with ingress := v0 } := by
    intro p hp; cases p <;> first | rfl | (exact absurd hp (by decide))
  refine ⟨hu.upd h hm, fun hi => ?_⟩
  exact h.inv hi

theorem keep_mk_sent {m : Nat} {x s : State} {v0} (h : Keep m x s)
    (hm : Nat.land 0x8000 m = 0x8000) : KeepAt m x { s with sent := v0 } := by
  constructor
  have hu : Same 0x8000 s { s with sent := v0 } := by
    intro p hp; cases p <;> first | rfl | (exact absurd hp (by decide))
  refine ⟨hu.upd h hm, fun hi => ?_⟩
  exact h.inv hi

theorem keep_mk_inbox {m : Nat} {x s : State} {v0} (h : Keep m x s)
    (hm : Nat.land 0x10000 m = 0x10000) : KeepAt m x { s with inbox := v0 } := by
  constructor
  have hu : Same 0x10000 s { s with inbox := v0 } := by
    intro p hp; cases p <;> first | rfl | (exact absurd hp (by decide))
  refine ⟨hu.upd h hm, fun hi => ?_⟩
  exact h.inv hi

theorem keep_mk_inbox_tie {m : Nat} {x s : State} {v0 v1} (h : Keep m x s)
    (hm : Nat.land 0x410000 m = 0x410000) : KeepAt m x { s with inbox := v0, tie := v1 } := by
  constructor
  have hu : Same 0x410000 s { s with inbox := v0, tie := v1 } := by
    intro p hp; cases p <;> first | rfl | (exact absurd hp (by decide))
  refine ⟨hu.upd h hm, fun hi => ?_⟩
  exact h.inv hi

theorem keep_mk_landing_sw {m : Nat} {x s : State} {v0 v1} (h : Keep m x s)
    (hm : Nat.land 0x10000000020000 m = 0x10000000020000) : KeepAt m x { s with landing := v0, sw := v1 } := by
  constructor
  have hu : Same 0x10000000020000 s { s with landing := v0, sw := v1 } := by
    intro p hp; cases p <;> first | rfl | (exact absurd hp (by decide))
  refine ⟨hu.upd h hm, fun hi => ?_⟩
  exact h.inv hi

theorem keep_mk_seqNext {m : Nat} {x s : State} {v0} (h : Keep m x s)
    (hm : Nat.land 0x40000 m = 0x40000) : KeepAt m x { s with seqNext := v0 } := by
  constructor
  have hu : Same 0x40000 s { s with seqNext := v0 } := by
    intro p hp; cases p <;> first | rfl | (exact absurd hp (by decide))
  refine ⟨hu.upd h hm, fun hi => ?_⟩
  exact h.inv hi

theorem keep_mk_seqNext_origTimes {m : Nat} {x s : State} {v0 v1} (h : Keep m x s)
    (hm : Nat.land 0xc0000 m = 0xc0000) : KeepAt m x { s with seqNext := v0, origTimes := v1 } := by
  constructor
  have hu : Same 0xc0000 s { s with seqNext := v0, origTimes := v1 } := by
    intro p hp; cases p <;> first | rfl | (exact absurd hp (by decide))
  refine ⟨hu.upd h hm, fun hi => ?_⟩
  exact h.inv hi

theorem keep_mk_origTimes {m : Nat} {x s : State} {v0} (h : Keep m x s)
    (hm : Nat.land 0x80000 m = 0x80000) : KeepAt m x { s with origTimes := v0 } := by
  constructor
  have hu : Same 0x80000 s { s with origTimes := v0 } := by
    intro p hp; cases p <;> first | rfl | (exact absurd hp (by decide))
  refine ⟨hu.upd h hm, fun hi => ?_⟩
  exact h.inv hi

theorem keep_mk_origHeld {m : Nat} {x s : State} {v0} (h : Keep m x s)
    (hm : Nat.land 0x100000 m = 0x100000) : KeepAt m x { s with origHeld := v0 } := by
  constructor
  have hu : Same 0x100000 s { s with origHeld := v0 } := by
    intro p hp; cases p <;> first | rfl | (exact absurd hp (by decide))
  refine ⟨hu.upd h hm, fun hi => ?_⟩
  exact h.inv hi

theorem keep_mk_dups {m : Nat} {x s : State} {v0} (h : Keep m x s)
    (hm : Nat.land 0x200000 m = 0x200000) : KeepAt m x { s with dups := v0 } := by
  constructor
  have hu : Same 0x200000 s { s with dups := v0 } := by
    intro p hp; cases p <;> first | rfl | (exact absurd hp (by decide))
  refine ⟨hu.upd h hm, fun hi => ?_⟩
  exact h.inv hi

theorem keep_mk_tie {m : Nat} {x s : State} {v0} (h : Keep m x s)
    (hm : Nat.land 0x400000 m = 0x400000) : KeepAt m x { s with tie := v0 } := by
  constructor
  have hu : Same 0x400000 s { s with tie := v0 } := by
    intro p hp; cases p <;> first | rfl | (exact absurd hp (by decide))
  refine ⟨hu.upd h hm, fun hi => ?_⟩
  exact h.inv hi

theorem keep_mk_settleEnds {m : Nat} {x s : State} {v0} (h : Keep m x s)
    (hm : Nat.land 0x800000 m = 0x800000) : KeepAt m x { s with settleEnds := v0 } := by
  constructor
  have hu : Same 0x800000 s { s with settleEnds := v0 } := by
    intro p hp; cases p <;> first | rfl | (exact absurd hp (by decide))
  refine ⟨hu.upd h hm, fun hi => ?_⟩
  exact h.inv hi

theorem keep_mk_field {m : Nat} {x s : State} {v0} (h : Keep m x s)
    (hm : Nat.land 0x1000000 m = 0x1000000) : KeepAt m x { s with field := v0 } := by
  constructor
  have hu : Same 0x1000000 s { s with field := v0 } := by
    intro p hp; cases p <;> first | rfl | (exact absurd hp (by decide))
  refine ⟨hu.upd h hm, fun hi => ?_⟩
  exact h.inv hi

theorem keep_mk_field_lines {m : Nat} {x s : State} {v0 v1} (h : Keep m x s)
    (hm : Nat.land 0x100001000000 m = 0x100001000000) : KeepAt m x { s with field := v0, lines := v1 } := by
  constructor
  have hu : Same 0x100001000000 s { s with field := v0, lines := v1 } := by
    intro p hp; cases p <;> first | rfl | (exact absurd hp (by decide))
  refine ⟨hu.upd h hm, fun hi => ?_⟩
  exact h.inv hi

theorem keep_mk_field_lines_iols_twin_fuses_power {m : Nat} {x s : State} {v0 v1 v2 v3 v4 v5} (h : Keep m x s)
    (hm : Nat.land 0xc08004100001000000 m = 0xc08004100001000000) : KeepAt m x { s with field := v0, lines := v1, iols := v2, twin := v3, fuses := v4, power := v5 } := by
  constructor
  have hu : Same 0xc08004100001000000 s { s with field := v0, lines := v1, iols := v2, twin := v3, fuses := v4, power := v5 } := by
    intro p hp; cases p <;> first | rfl | (exact absurd hp (by decide))
  refine ⟨hu.upd h hm, fun hi => ?_⟩
  exact h.inv hi

theorem keep_mk_healthAt {m : Nat} {x s : State} {v0} (h : Keep m x s)
    (hm : Nat.land 0x2000000 m = 0x2000000) : KeepAt m x { s with healthAt := v0 } := by
  constructor
  have hu : Same 0x2000000 s { s with healthAt := v0 } := by
    intro p hp; cases p <;> first | rfl | (exact absurd hp (by decide))
  refine ⟨hu.upd h hm, fun hi => ?_⟩
  exact h.inv hi

theorem keep_mk_healthAt_twin {m : Nat} {x s : State} {v0 v1} (h : Keep m x s)
    (hm : Nat.land 0x8000000002000000 m = 0x8000000002000000) : KeepAt m x { s with healthAt := v0, twin := v1 } := by
  constructor
  have hu : Same 0x8000000002000000 s { s with healthAt := v0, twin := v1 } := by
    intro p hp; cases p <;> first | rfl | (exact absurd hp (by decide))
  refine ⟨hu.upd h hm, fun hi => ?_⟩
  exact h.inv hi

theorem keep_mk_sources {m : Nat} {x s : State} {v0} (h : Keep m x s)
    (hm : Nat.land 0x4000000 m = 0x4000000) : KeepAt m x { s with sources := v0 } := by
  constructor
  have hu : Same 0x4000000 s { s with sources := v0 } := by
    intro p hp; cases p <;> first | rfl | (exact absurd hp (by decide))
  refine ⟨hu.upd h hm, fun hi => ?_⟩
  exact h.inv hi

theorem keep_mk_records {m : Nat} {x s : State} {v0} (g0 : s.records.length ≤ 1024 → v0.length ≤ 1024) (h : Keep m x s)
    (hm : Nat.land 0x8000000 m = 0x8000000) : KeepAt m x { s with records := v0 } := by
  constructor
  have hu : Same 0x8000000 s { s with records := v0 } := by
    intro p hp; cases p <;> first | rfl | (exact absurd hp (by decide))
  refine ⟨hu.upd h hm, fun hi => ?_⟩
  obtain ⟨h1, h2, h3, h4⟩ := h.inv hi
  simp only [TablesOk, Bool.and_eq_true] at h1
  obtain ⟨⟨⟨r1, r2⟩, r3⟩, r4⟩ := h1
  have h3 := g0 h3
  refine ⟨?_, h2, h3, h4⟩
  simp only [TablesOk, Bool.and_eq_true]
  exact ⟨⟨⟨r1, r2⟩, r3⟩, r4⟩

theorem keep_mk_records_recordLoss_recordsIn {m : Nat} {x s : State} {v0 v1 v2} (g0 : s.records.length ≤ 1024 → v0.length ≤ 1024) (h : Keep m x s)
    (hm : Nat.land 0x100000018000000 m = 0x100000018000000) : KeepAt m x { s with records := v0, recordLoss := v1, recordsIn := v2 } := by
  constructor
  have hu : Same 0x100000018000000 s { s with records := v0, recordLoss := v1, recordsIn := v2 } := by
    intro p hp; cases p <;> first | rfl | (exact absurd hp (by decide))
  refine ⟨hu.upd h hm, fun hi => ?_⟩
  obtain ⟨h1, h2, h3, h4⟩ := h.inv hi
  simp only [TablesOk, Bool.and_eq_true] at h1
  obtain ⟨⟨⟨r1, r2⟩, r3⟩, r4⟩ := h1
  have h3 := g0 h3
  refine ⟨?_, h2, h3, h4⟩
  simp only [TablesOk, Bool.and_eq_true]
  exact ⟨⟨⟨r1, r2⟩, r3⟩, r4⟩

theorem keep_mk_recordLoss {m : Nat} {x s : State} {v0} (h : Keep m x s)
    (hm : Nat.land 0x10000000 m = 0x10000000) : KeepAt m x { s with recordLoss := v0 } := by
  constructor
  have hu : Same 0x10000000 s { s with recordLoss := v0 } := by
    intro p hp; cases p <;> first | rfl | (exact absurd hp (by decide))
  refine ⟨hu.upd h hm, fun hi => ?_⟩
  exact h.inv hi

theorem keep_mk_deliveries {m : Nat} {x s : State} {v0} (h : Keep m x s)
    (hm : Nat.land 0x20000000 m = 0x20000000) : KeepAt m x { s with deliveries := v0 } := by
  constructor
  have hu : Same 0x20000000 s { s with deliveries := v0 } := by
    intro p hp; cases p <;> first | rfl | (exact absurd hp (by decide))
  refine ⟨hu.upd h hm, fun hi => ?_⟩
  exact h.inv hi

theorem keep_mk_msix {m : Nat} {x s : State} {v0} (h : Keep m x s)
    (hm : Nat.land 0x40000000 m = 0x40000000) : KeepAt m x { s with msix := v0 } := by
  constructor
  have hu : Same 0x40000000 s { s with msix := v0 } := by
    intro p hp; cases p <;> first | rfl | (exact absurd hp (by decide))
  refine ⟨hu.upd h hm, fun hi => ?_⟩
  exact h.inv hi

theorem keep_mk_msix_host {m : Nat} {x s : State} {v0 v1} (h : Keep m x s)
    (hm : Nat.land 0x40000040000000 m = 0x40000040000000) : KeepAt m x { s with msix := v0, host := v1 } := by
  constructor
  have hu : Same 0x40000040000000 s { s with msix := v0, host := v1 } := by
    intro p hp; cases p <;> first | rfl | (exact absurd hp (by decide))
  refine ⟨hu.upd h hm, fun hi => ?_⟩
  exact h.inv hi

theorem keep_mk_msix_host_dict {m : Nat} {x s : State} {v0 v1 v2} (g2 : DictSt.kept v2 = s.dict.kept) (h : Keep m x s)
    (hm : Nat.land 0xc0000040000000 m = 0xc0000040000000) : KeepAt m x { s with msix := v0, host := v1, dict := v2 } := by
  constructor
  have hu : Same 0xc0000040000000 s { s with msix := v0, host := v1, dict := v2 } := by
    intro p hp; cases p <;> first | rfl | (exact absurd hp (by decide))
  refine ⟨hu.upd h hm, fun hi => ?_⟩
  obtain ⟨h1, h2, h3, h4⟩ := h.inv hi
  simp only [TablesOk, Bool.and_eq_true] at h1
  obtain ⟨⟨⟨r1, r2⟩, r3⟩, r4⟩ := h1
  have h2 : v2.kept.length ≤ 256 := by rw [g2]; exact h2
  refine ⟨?_, h2, h3, h4⟩
  simp only [TablesOk, Bool.and_eq_true]
  exact ⟨⟨⟨r1, r2⟩, r3⟩, r4⟩

theorem keep_mk_faults {m : Nat} {x s : State} {v0} (h : Keep m x s)
    (hm : Nat.land 0x80000000 m = 0x80000000) : KeepAt m x { s with faults := v0 } := by
  constructor
  have hu : Same 0x80000000 s { s with faults := v0 } := by
    intro p hp; cases p <;> first | rfl | (exact absurd hp (by decide))
  refine ⟨hu.upd h hm, fun hi => ?_⟩
  exact h.inv hi

theorem keep_mk_cru {m : Nat} {x s : State} {v0} (h : Keep m x s)
    (hm : Nat.land 0x100000000 m = 0x100000000) : KeepAt m x { s with cru := v0 } := by
  constructor
  have hu : Same 0x100000000 s { s with cru := v0 } := by
    intro p hp; cases p <;> first | rfl | (exact absurd hp (by decide))
  refine ⟨hu.upd h hm, fun hi => ?_⟩
  exact h.inv hi

theorem keep_mk_copper {m : Nat} {x s : State} {v0} (h : Keep m x s)
    (hm : Nat.land 0x200000000 m = 0x200000000) : KeepAt m x { s with copper := v0 } := by
  constructor
  have hu : Same 0x200000000 s { s with copper := v0 } := by
    intro p hp; cases p <;> first | rfl | (exact absurd hp (by decide))
  refine ⟨hu.upd h hm, fun hi => ?_⟩
  exact h.inv hi

theorem keep_mk_assigned_disc_img {m : Nat} {x s : State} {v0 v1 v2} (h : Keep m x s)
    (hm : Nat.land 0x1c00000000 m = 0x1c00000000) : KeepAt m x { s with assigned := v0, disc := v1, img := v2 } := by
  constructor
  have hu : Same 0x1c00000000 s { s with assigned := v0, disc := v1, img := v2 } := by
    intro p hp; cases p <;> first | rfl | (exact absurd hp (by decide))
  refine ⟨hu.upd h hm, fun hi => ?_⟩
  exact h.inv hi

theorem keep_mk_disc {m : Nat} {x s : State} {v0} (h : Keep m x s)
    (hm : Nat.land 0x800000000 m = 0x800000000) : KeepAt m x { s with disc := v0 } := by
  constructor
  have hu : Same 0x800000000 s { s with disc := v0 } := by
    intro p hp; cases p <;> first | rfl | (exact absurd hp (by decide))
  refine ⟨hu.upd h hm, fun hi => ?_⟩
  exact h.inv hi

theorem keep_mk_disc_img {m : Nat} {x s : State} {v0 v1} (h : Keep m x s)
    (hm : Nat.land 0x1800000000 m = 0x1800000000) : KeepAt m x { s with disc := v0, img := v1 } := by
  constructor
  have hu : Same 0x1800000000 s { s with disc := v0, img := v1 } := by
    intro p hp; cases p <;> first | rfl | (exact absurd hp (by decide))
  refine ⟨hu.upd h hm, fun hi => ?_⟩
  exact h.inv hi

theorem keep_mk_img {m : Nat} {x s : State} {v0} (h : Keep m x s)
    (hm : Nat.land 0x1000000000 m = 0x1000000000) : KeepAt m x { s with img := v0 } := by
  constructor
  have hu : Same 0x1000000000 s { s with img := v0 } := by
    intro p hp; cases p <;> first | rfl | (exact absurd hp (by decide))
  refine ⟨hu.upd h hm, fun hi => ?_⟩
  exact h.inv hi

theorem keep_mk_img_mirror {m : Nat} {x s : State} {v0 v1} (g1 : cellsWf (fun _ => none) s.mirror = true → cellsWf (fun _ => none) v1 = true) (h : Keep m x s)
    (hm : Nat.land 0x3000000000 m = 0x3000000000) : KeepAt m x { s with img := v0, mirror := v1 } := by
  constructor
  have hu : Same 0x3000000000 s { s with img := v0, mirror := v1 } := by
    intro p hp; cases p <;> first | rfl | (exact absurd hp (by decide))
  refine ⟨hu.upd h hm, fun hi => ?_⟩
  obtain ⟨h1, h2, h3, h4⟩ := h.inv hi
  simp only [TablesOk, Bool.and_eq_true] at h1
  obtain ⟨⟨⟨r1, r2⟩, r3⟩, r4⟩ := h1
  have r4 := g1 r4
  refine ⟨?_, h2, h3, h4⟩
  simp only [TablesOk, Bool.and_eq_true]
  exact ⟨⟨⟨r1, r2⟩, r3⟩, r4⟩

theorem keep_mk_img_hist {m : Nat} {x s : State} {v0 v1} (g1 : v1.length ≤ 64) (h : Keep m x s)
    (hm : Nat.land 0x5000000000 m = 0x5000000000) : KeepAt m x { s with img := v0, hist := v1 } := by
  constructor
  have hu : Same 0x5000000000 s { s with img := v0, hist := v1 } := by
    intro p hp; cases p <;> first | rfl | (exact absurd hp (by decide))
  refine ⟨hu.upd h hm, fun hi => ?_⟩
  obtain ⟨h1, h2, h3, h4⟩ := h.inv hi
  simp only [TablesOk, Bool.and_eq_true] at h1
  obtain ⟨⟨⟨r1, r2⟩, r3⟩, r4⟩ := h1
  have h4 := g1
  refine ⟨?_, h2, h3, h4⟩
  simp only [TablesOk, Bool.and_eq_true]
  exact ⟨⟨⟨r1, r2⟩, r3⟩, r4⟩

theorem keep_mk_mirror {m : Nat} {x s : State} {v0} (g0 : cellsWf (fun _ => none) s.mirror = true → cellsWf (fun _ => none) v0 = true) (h : Keep m x s)
    (hm : Nat.land 0x2000000000 m = 0x2000000000) : KeepAt m x { s with mirror := v0 } := by
  constructor
  have hu : Same 0x2000000000 s { s with mirror := v0 } := by
    intro p hp; cases p <;> first | rfl | (exact absurd hp (by decide))
  refine ⟨hu.upd h hm, fun hi => ?_⟩
  obtain ⟨h1, h2, h3, h4⟩ := h.inv hi
  simp only [TablesOk, Bool.and_eq_true] at h1
  obtain ⟨⟨⟨r1, r2⟩, r3⟩, r4⟩ := h1
  have r4 := g0 r4
  refine ⟨?_, h2, h3, h4⟩
  simp only [TablesOk, Bool.and_eq_true]
  exact ⟨⟨⟨r1, r2⟩, r3⟩, r4⟩

theorem keep_mk_time {m : Nat} {x s : State} {v0} (h : Keep m x s)
    (hm : Nat.land 0x8000000000 m = 0x8000000000) : KeepAt m x { s with time := v0 } := by
  constructor
  have hu : Same 0x8000000000 s { s with time := v0 } := by
    intro p hp; cases p <;> first | rfl | (exact absurd hp (by decide))
  refine ⟨hu.upd h hm, fun hi => ?_⟩
  exact h.inv hi

theorem keep_mk_timers {m : Nat} {x s : State} {v0} (h : Keep m x s)
    (hm : Nat.land 0x10000000000 m = 0x10000000000) : KeepAt m x { s with timers := v0 } := by
  constructor
  have hu : Same 0x10000000000 s { s with timers := v0 } := by
    intro p hp; cases p <;> first | rfl | (exact absurd hp (by decide))
  refine ⟨hu.upd h hm, fun hi => ?_⟩
  exact h.inv hi

theorem keep_mk_captures {m : Nat} {x s : State} {v0} (h : Keep m x s)
    (hm : Nat.land 0x20000000000 m = 0x20000000000) : KeepAt m x { s with captures := v0 } := by
  constructor
  have hu : Same 0x20000000000 s { s with captures := v0 } := by
    intro p hp; cases p <;> first | rfl | (exact absurd hp (by decide))
  refine ⟨hu.upd h hm, fun hi => ?_⟩
  exact h.inv hi

theorem keep_mk_queues {m : Nat} {x s : State} {v0} (h : Keep m x s)
    (hm : Nat.land 0x40000000000 m = 0x40000000000) : KeepAt m x { s with queues := v0 } := by
  constructor
  have hu : Same 0x40000000000 s { s with queues := v0 } := by
    intro p hp; cases p <;> first | rfl | (exact absurd hp (by decide))
  refine ⟨hu.upd h hm, fun hi => ?_⟩
  exact h.inv hi

theorem keep_mk_busReads {m : Nat} {x s : State} {v0} (h : Keep m x s)
    (hm : Nat.land 0x80000000000 m = 0x80000000000) : KeepAt m x { s with busReads := v0 } := by
  constructor
  have hu : Same 0x80000000000 s { s with busReads := v0 } := by
    intro p hp; cases p <;> first | rfl | (exact absurd hp (by decide))
  refine ⟨hu.upd h hm, fun hi => ?_⟩
  exact h.inv hi

theorem keep_mk_lines {m : Nat} {x s : State} {v0} (h : Keep m x s)
    (hm : Nat.land 0x100000000000 m = 0x100000000000) : KeepAt m x { s with lines := v0 } := by
  constructor
  have hu : Same 0x100000000000 s { s with lines := v0 } := by
    intro p hp; cases p <;> first | rfl | (exact absurd hp (by decide))
  refine ⟨hu.upd h hm, fun hi => ?_⟩
  exact h.inv hi

theorem keep_mk_pxs {m : Nat} {x s : State} {v0} (h : Keep m x s)
    (hm : Nat.land 0x200000000000 m = 0x200000000000) : KeepAt m x { s with pxs := v0 } := by
  constructor
  have hu : Same 0x200000000000 s { s with pxs := v0 } := by
    intro p hp; cases p <;> first | rfl | (exact absurd hp (by decide))
  refine ⟨hu.upd h hm, fun hi => ?_⟩
  exact h.inv hi

theorem keep_mk_cans {m : Nat} {x s : State} {v0} (h : Keep m x s)
    (hm : Nat.land 0x400000000000 m = 0x400000000000) : KeepAt m x { s with cans := v0 } := by
  constructor
  have hu : Same 0x400000000000 s { s with cans := v0 } := by
    intro p hp; cases p <;> first | rfl | (exact absurd hp (by decide))
  refine ⟨hu.upd h hm, fun hi => ?_⟩
  exact h.inv hi

theorem keep_mk_rss {m : Nat} {x s : State} {v0} (h : Keep m x s)
    (hm : Nat.land 0x800000000000 m = 0x800000000000) : KeepAt m x { s with rss := v0 } := by
  constructor
  have hu : Same 0x800000000000 s { s with rss := v0 } := by
    intro p hp; cases p <;> first | rfl | (exact absurd hp (by decide))
  refine ⟨hu.upd h hm, fun hi => ?_⟩
  exact h.inv hi

theorem keep_mk_rsSent {m : Nat} {x s : State} {v0} (h : Keep m x s)
    (hm : Nat.land 0x1000000000000 m = 0x1000000000000) : KeepAt m x { s with rsSent := v0 } := by
  constructor
  have hu : Same 0x1000000000000 s { s with rsSent := v0 } := by
    intro p hp; cases p <;> first | rfl | (exact absurd hp (by decide))
  refine ⟨hu.upd h hm, fun hi => ?_⟩
  exact h.inv hi

theorem keep_mk_bridges {m : Nat} {x s : State} {v0} (h : Keep m x s)
    (hm : Nat.land 0x2000000000000 m = 0x2000000000000) : KeepAt m x { s with bridges := v0 } := by
  constructor
  have hu : Same 0x2000000000000 s { s with bridges := v0 } := by
    intro p hp; cases p <;> first | rfl | (exact absurd hp (by decide))
  refine ⟨hu.upd h hm, fun hi => ?_⟩
  exact h.inv hi

theorem keep_mk_iols {m : Nat} {x s : State} {v0} (h : Keep m x s)
    (hm : Nat.land 0x4000000000000 m = 0x4000000000000) : KeepAt m x { s with iols := v0 } := by
  constructor
  have hu : Same 0x4000000000000 s { s with iols := v0 } := by
    intro p hp; cases p <;> first | rfl | (exact absurd hp (by decide))
  refine ⟨hu.upd h hm, fun hi => ?_⟩
  exact h.inv hi

theorem keep_mk_whisks {m : Nat} {x s : State} {v0} (h : Keep m x s)
    (hm : Nat.land 0x8000000000000 m = 0x8000000000000) : KeepAt m x { s with whisks := v0 } := by
  constructor
  have hu : Same 0x8000000000000 s { s with whisks := v0 } := by
    intro p hp; cases p <;> first | rfl | (exact absurd hp (by decide))
  refine ⟨hu.upd h hm, fun hi => ?_⟩
  exact h.inv hi

theorem keep_mk_sw {m : Nat} {x s : State} {v0} (h : Keep m x s)
    (hm : Nat.land 0x10000000000000 m = 0x10000000000000) : KeepAt m x { s with sw := v0 } := by
  constructor
  have hu : Same 0x10000000000000 s { s with sw := v0 } := by
    intro p hp; cases p <;> first | rfl | (exact absurd hp (by decide))
  refine ⟨hu.upd h hm, fun hi => ?_⟩
  exact h.inv hi

theorem keep_mk_bar0 {m : Nat} {x s : State} {v0} (h : Keep m x s)
    (hm : Nat.land 0x20000000000000 m = 0x20000000000000) : KeepAt m x { s with bar0 := v0 } := by
  constructor
  have hu : Same 0x20000000000000 s { s with bar0 := v0 } := by
    intro p hp; cases p <;> first | rfl | (exact absurd hp (by decide))
  refine ⟨hu.upd h hm, fun hi => ?_⟩
  exact h.inv hi

theorem keep_mk_host {m : Nat} {x s : State} {v0} (h : Keep m x s)
    (hm : Nat.land 0x40000000000000 m = 0x40000000000000) : KeepAt m x { s with host := v0 } := by
  constructor
  have hu : Same 0x40000000000000 s { s with host := v0 } := by
    intro p hp; cases p <;> first | rfl | (exact absurd hp (by decide))
  refine ⟨hu.upd h hm, fun hi => ?_⟩
  exact h.inv hi

theorem keep_mk_host_dict {m : Nat} {x s : State} {v0 v1} (g1 : DictSt.kept v1 = s.dict.kept) (h : Keep m x s)
    (hm : Nat.land 0xc0000000000000 m = 0xc0000000000000) : KeepAt m x { s with host := v0, dict := v1 } := by
  constructor
  have hu : Same 0xc0000000000000 s { s with host := v0, dict := v1 } := by
    intro p hp; cases p <;> first | rfl | (exact absurd hp (by decide))
  refine ⟨hu.upd h hm, fun hi => ?_⟩
  obtain ⟨h1, h2, h3, h4⟩ := h.inv hi
  simp only [TablesOk, Bool.and_eq_true] at h1
  obtain ⟨⟨⟨r1, r2⟩, r3⟩, r4⟩ := h1
  have h2 : v1.kept.length ≤ 256 := by rw [g1]; exact h2
  refine ⟨?_, h2, h3, h4⟩
  simp only [TablesOk, Bool.and_eq_true]
  exact ⟨⟨⟨r1, r2⟩, r3⟩, r4⟩

theorem keep_mk_dict {m : Nat} {x s : State} {v0} (g0 : DictSt.kept v0 = s.dict.kept) (h : Keep m x s)
    (hm : Nat.land 0x80000000000000 m = 0x80000000000000) : KeepAt m x { s with dict := v0 } := by
  constructor
  have hu : Same 0x80000000000000 s { s with dict := v0 } := by
    intro p hp; cases p <;> first | rfl | (exact absurd hp (by decide))
  refine ⟨hu.upd h hm, fun hi => ?_⟩
  obtain ⟨h1, h2, h3, h4⟩ := h.inv hi
  simp only [TablesOk, Bool.and_eq_true] at h1
  obtain ⟨⟨⟨r1, r2⟩, r3⟩, r4⟩ := h1
  have h2 : v0.kept.length ≤ 256 := by rw [g0]; exact h2
  refine ⟨?_, h2, h3, h4⟩
  simp only [TablesOk, Bool.and_eq_true]
  exact ⟨⟨⟨r1, r2⟩, r3⟩, r4⟩

theorem keep_mk_fences_fenceOrder {m : Nat} {x s : State} {v0 v1} (h : Keep m x s)
    (hm : Nat.land 0x600000000000000 m = 0x600000000000000) : KeepAt m x { s with fences := v0, fenceOrder := v1 } := by
  constructor
  have hu : Same 0x600000000000000 s { s with fences := v0, fenceOrder := v1 } := by
    intro p hp; cases p <;> first | rfl | (exact absurd hp (by decide))
  refine ⟨hu.upd h hm, fun hi => ?_⟩
  exact h.inv hi

theorem keep_mk_writeSentAt {m : Nat} {x s : State} {v0} (h : Keep m x s)
    (hm : Nat.land 0x800000000000000 m = 0x800000000000000) : KeepAt m x { s with writeSentAt := v0 } := by
  constructor
  have hu : Same 0x800000000000000 s { s with writeSentAt := v0 } := by
    intro p hp; cases p <;> first | rfl | (exact absurd hp (by decide))
  refine ⟨hu.upd h hm, fun hi => ?_⟩
  exact h.inv hi

theorem keep_mk_writeHeld {m : Nat} {x s : State} {v0} (h : Keep m x s)
    (hm : Nat.land 0x1000000000000000 m = 0x1000000000000000) : KeepAt m x { s with writeHeld := v0 } := by
  constructor
  have hu : Same 0x1000000000000000 s { s with writeHeld := v0 } := by
    intro p hp; cases p <;> first | rfl | (exact absurd hp (by decide))
  refine ⟨hu.upd h hm, fun hi => ?_⟩
  exact h.inv hi

theorem keep_mk_peerReady_twin {m : Nat} {x s : State} {v0 v1} (h : Keep m x s)
    (hm : Nat.land 0xa000000000000000 m = 0xa000000000000000) : KeepAt m x { s with peerReady := v0, twin := v1 } := by
  constructor
  have hu : Same 0xa000000000000000 s { s with peerReady := v0, twin := v1 } := by
    intro p hp; cases p <;> first | rfl | (exact absurd hp (by decide))
  refine ⟨hu.upd h hm, fun hi => ?_⟩
  exact h.inv hi

theorem keep_mk_handInstant_twin {m : Nat} {x s : State} {v0 v1} (h : Keep m x s)
    (hm : Nat.land 0xc000000000000000 m = 0xc000000000000000) : KeepAt m x { s with handInstant := v0, twin := v1 } := by
  constructor
  have hu : Same 0xc000000000000000 s { s with handInstant := v0, twin := v1 } := by
    intro p hp; cases p <;> first | rfl | (exact absurd hp (by decide))
  refine ⟨hu.upd h hm, fun hi => ?_⟩
  exact h.inv hi

theorem keep_mk_twin {m : Nat} {x s : State} {v0} (h : Keep m x s)
    (hm : Nat.land 0x8000000000000000 m = 0x8000000000000000) : KeepAt m x { s with twin := v0 } := by
  constructor
  have hu : Same 0x8000000000000000 s { s with twin := v0 } := by
    intro p hp; cases p <;> first | rfl | (exact absurd hp (by decide))
  refine ⟨hu.upd h hm, fun hi => ?_⟩
  exact h.inv hi

theorem keep_mk_pertCount {m : Nat} {x s : State} {v0} (h : Keep m x s)
    (hm : Nat.land 0x10000000000000000 m = 0x10000000000000000) : KeepAt m x { s with pertCount := v0 } := by
  constructor
  have hu : Same 0x10000000000000000 s { s with pertCount := v0 } := by
    intro p hp; cases p <;> first | rfl | (exact absurd hp (by decide))
  refine ⟨hu.upd h hm, fun hi => ?_⟩
  exact h.inv hi

theorem keep_mk_pertCount_pertEnds {m : Nat} {x s : State} {v0 v1} (h : Keep m x s)
    (hm : Nat.land 0x30000000000000000 m = 0x30000000000000000) : KeepAt m x { s with pertCount := v0, pertEnds := v1 } := by
  constructor
  have hu : Same 0x30000000000000000 s { s with pertCount := v0, pertEnds := v1 } := by
    intro p hp; cases p <;> first | rfl | (exact absurd hp (by decide))
  refine ⟨hu.upd h hm, fun hi => ?_⟩
  exact h.inv hi

theorem keep_mk_rules {m : Nat} {x s : State} {v0} (h : Keep m x s)
    (hm : Nat.land 0x40000000000000000 m = 0x40000000000000000) : KeepAt m x { s with rules := v0 } := by
  constructor
  have hu : Same 0x40000000000000000 s { s with rules := v0 } := by
    intro p hp; cases p <;> first | rfl | (exact absurd hp (by decide))
  refine ⟨hu.upd h hm, fun hi => ?_⟩
  exact h.inv hi

theorem keep_mk_gaugeLog {m : Nat} {x s : State} {v0} (h : Keep m x s)
    (hm : Nat.land 0x80000000000000000 m = 0x80000000000000000) : KeepAt m x { s with gaugeLog := v0 } := by
  constructor
  have hu : Same 0x80000000000000000 s { s with gaugeLog := v0 } := by
    intro p hp; cases p <;> first | rfl | (exact absurd hp (by decide))
  refine ⟨hu.upd h hm, fun hi => ?_⟩
  exact h.inv hi

theorem keep_mk_gaugeIn {m : Nat} {x s : State} {v0} (h : Keep m x s)
    (hm : Nat.land 0x100000000000000000 m = 0x100000000000000000) : KeepAt m x { s with gaugeIn := v0 } := by
  constructor
  have hu : Same 0x100000000000000000 s { s with gaugeIn := v0 } := by
    intro p hp; cases p <;> first | rfl | (exact absurd hp (by decide))
  refine ⟨hu.upd h hm, fun hi => ?_⟩
  exact h.inv hi

theorem keep_mk_gaugeIn_power {m : Nat} {x s : State} {v0 v1} (h : Keep m x s)
    (hm : Nat.land 0x900000000000000000 m = 0x900000000000000000) : KeepAt m x { s with gaugeIn := v0, power := v1 } := by
  constructor
  have hu : Same 0x900000000000000000 s { s with gaugeIn := v0, power := v1 } := by
    intro p hp; cases p <;> first | rfl | (exact absurd hp (by decide))
  refine ⟨hu.upd h hm, fun hi => ?_⟩
  exact h.inv hi

theorem keep_mk_pans {m : Nat} {x s : State} {v0} (h : Keep m x s)
    (hm : Nat.land 0x200000000000000000 m = 0x200000000000000000) : KeepAt m x { s with pans := v0 } := by
  constructor
  have hu : Same 0x200000000000000000 s { s with pans := v0 } := by
    intro p hp; cases p <;> first | rfl | (exact absurd hp (by decide))
  refine ⟨hu.upd h hm, fun hi => ?_⟩
  exact h.inv hi

theorem keep_mk_fuses {m : Nat} {x s : State} {v0} (h : Keep m x s)
    (hm : Nat.land 0x400000000000000000 m = 0x400000000000000000) : KeepAt m x { s with fuses := v0 } := by
  constructor
  have hu : Same 0x400000000000000000 s { s with fuses := v0 } := by
    intro p hp; cases p <;> first | rfl | (exact absurd hp (by decide))
  refine ⟨hu.upd h hm, fun hi => ?_⟩
  exact h.inv hi

theorem keep_mk_power {m : Nat} {x s : State} {v0} (h : Keep m x s)
    (hm : Nat.land 0x800000000000000000 m = 0x800000000000000000) : KeepAt m x { s with power := v0 } := by
  constructor
  have hu : Same 0x800000000000000000 s { s with power := v0 } := by
    intro p hp; cases p <;> first | rfl | (exact absurd hp (by decide))
  refine ⟨hu.upd h hm, fun hi => ?_⟩
  exact h.inv hi

theorem keep_mk_tagHeld {m : Nat} {x s : State} {v0} (h : Keep m x s)
    (hm : Nat.land 0x1000000000000000000 m = 0x1000000000000000000) : KeepAt m x { s with tagHeld := v0 } := by
  constructor
  have hu : Same 0x1000000000000000000 s { s with tagHeld := v0 } := by
    intro p hp; cases p <;> first | rfl | (exact absurd hp (by decide))
  refine ⟨hu.upd h hm, fun hi => ?_⟩
  exact h.inv hi

theorem keep_mk_tagHeld_keys {m : Nat} {x s : State} {v0 v1} (h : Keep m x s)
    (hm : Nat.land 0x3000000000000000000 m = 0x3000000000000000000) : KeepAt m x { s with tagHeld := v0, keys := v1 } := by
  constructor
  have hu : Same 0x3000000000000000000 s { s with tagHeld := v0, keys := v1 } := by
    intro p hp; cases p <;> first | rfl | (exact absurd hp (by decide))
  refine ⟨hu.upd h hm, fun hi => ?_⟩
  exact h.inv hi

theorem keep_mk_keys {m : Nat} {x s : State} {v0} (h : Keep m x s)
    (hm : Nat.land 0x2000000000000000000 m = 0x2000000000000000000) : KeepAt m x { s with keys := v0 } := by
  constructor
  have hu : Same 0x2000000000000000000 s { s with keys := v0 } := by
    intro p hp; cases p <;> first | rfl | (exact absurd hp (by decide))
  refine ⟨hu.upd h hm, fun hi => ?_⟩
  exact h.inv hi

theorem keep_mk_boot {m : Nat} {x s : State} {v0} (h : Keep m x s)
    (hm : Nat.land 0x4000000000000000000 m = 0x4000000000000000000) : KeepAt m x { s with boot := v0 } := by
  constructor
  have hu : Same 0x4000000000000000000 s { s with boot := v0 } := by
    intro p hp; cases p <;> first | rfl | (exact absurd hp (by decide))
  refine ⟨hu.upd h hm, fun hi => ?_⟩
  exact h.inv hi

theorem keep_mk_uartSent {m : Nat} {x s : State} {v0} (h : Keep m x s)
    (hm : Nat.land 0x8000000000000000000 m = 0x8000000000000000000) : KeepAt m x { s with uartSent := v0 } := by
  constructor
  have hu : Same 0x8000000000000000000 s { s with uartSent := v0 } := by
    intro p hp; cases p <;> first | rfl | (exact absurd hp (by decide))
  refine ⟨hu.upd h hm, fun hi => ?_⟩
  exact h.inv hi

theorem keep_mk_jtag {m : Nat} {x s : State} {v0} (h : Keep m x s)
    (hm : Nat.land 0x10000000000000000000 m = 0x10000000000000000000) : KeepAt m x { s with jtag := v0 } := by
  constructor
  have hu : Same 0x10000000000000000000 s { s with jtag := v0 } := by
    intro p hp; cases p <;> first | rfl | (exact absurd hp (by decide))
  refine ⟨hu.upd h hm, fun hi => ?_⟩
  exact h.inv hi

end Sys2Proof.Machine
end

