-- ==== Sys2Proof/Laws/KeepOps.lean ====
section
/-! SUPPORT. What each operation and each command of `Machine/Ops.lean` keeps: the parts of the state outside its mask, and
the invariant. -/

namespace Sys2Proof.Machine
open Sys2Proof

theorem keep_advance (s : State) (half : Nat) : Keep 0x8000000006 s (State.advance s half) := by
  unfold State.advance
  repeat' first
    | intro _
    | with_reducible assumption
    | with_reducible exact Keep.refl _ _
    | (extract_lets +onlyGivenNames vv; clear_value vv)
    | extract_lets +onlyGivenNames vv
    | (simp -zeta only [keepAt_mk]; with_reducible refine keep_mk_clock_ftimeQ_time ?_ ?_)
    | with_reducible refine keep_ite ?_ ?_
    | exact rfl

theorem keep_until (s : State) (t : Nat) : Keep 0x8000000006 s (State.until s t) := by
  unfold State.until
  repeat' first
    | intro _
    | with_reducible assumption
    | with_reducible exact Keep.refl _ _
    | (extract_lets +onlyGivenNames vv; clear_value vv)
    | extract_lets +onlyGivenNames vv
    | with_reducible refine keep_ite ?_ ?_
    | with_reducible apply Keep.step (keep_advance _ _)
    | exact rfl

theorem keep_untilFtime (s : State) (t : Int) : Keep 0x8000000006 s (State.untilFtime s t) := by
  unfold State.untilFtime
  repeat' first
    | intro _
    | with_reducible assumption
    | with_reducible exact Keep.refl _ _
    | (extract_lets +onlyGivenNames vv; clear_value vv)
    | extract_lets +onlyGivenNames vv
    | (simp -zeta only [keepAt_mk]; with_reducible refine keep_mk_clock_ftimeQ_time ?_ ?_)
    | with_reducible refine keep_ite ?_ ?_
    | exact rfl

theorem keep_setReg (s : State) (k v : Nat) : Keep 0x20 s (s.setReg k v) :=
  (keep_mk_regs (fun h => cellsWf_cellSet _ h k v) (Keep.refl _ _) rfl).keep

theorem keep_setCount (s : State) (k v : Nat) : Keep 0x40 s (s.setCount k v) :=
  (keep_mk_cnt (fun h => cellsWf_cellSet _ h k v) (Keep.refl _ _) rfl).keep

theorem keep_addCount (s : State) (k n : Nat) : Keep 0x40 s (State.addCount s k n) := by
  unfold State.addCount
  repeat' first
    | intro _
    | with_reducible assumption
    | with_reducible exact Keep.refl _ _
    | (extract_lets +onlyGivenNames vv; clear_value vv)
    | extract_lets +onlyGivenNames vv
    | with_reducible refine keep_ite ?_ ?_
    | with_reducible apply Keep.step (keep_setCount _ _ _)
    | exact rfl

theorem keep_bump (s : State) (k : Nat) : Keep 0x40 s (State.bump s k) := by
  unfold State.bump
  repeat' first
    | intro _
    | with_reducible assumption
    | with_reducible exact Keep.refl _ _
    | (extract_lets +onlyGivenNames vv; clear_value vv)
    | extract_lets +onlyGivenNames vv
    | with_reducible refine keep_ite ?_ ?_
    | with_reducible apply Keep.step (keep_addCount _ _ _)
    | exact rfl

theorem keep_clearIndex (s : State) (i : Nat) : Keep 0x40 s (s.clearIndex i) :=
  (keep_mk_cnt (fun h => cellsWf_filter _ h _) (Keep.refl _ _) rfl).keep

theorem keep_fresh (s : State) : Keep 0x100 s (State.fresh s).2 := by
  unfold State.fresh
  repeat' first
    | intro _
    | with_reducible assumption
    | with_reducible exact Keep.refl _ _
    | (extract_lets +onlyGivenNames vv; clear_value vv)
    | extract_lets +onlyGivenNames vv
    | (simp -zeta only [keepAt_mk]; with_reducible refine keep_mk_free ?_ ?_)
    | with_reducible refine keep_ite ?_ ?_
    | exact rfl

theorem keep_setLink (s : State) (f : Nat) (g : LinkSt → LinkSt) : Keep 0x1000 s (State.setLink s f g) := by
  unfold State.setLink
  repeat' first
    | intro _
    | with_reducible assumption
    | with_reducible exact Keep.refl _ _
    | (extract_lets +onlyGivenNames vv; clear_value vv)
    | extract_lets +onlyGivenNames vv
    | (simp -zeta only [keepAt_mk]; with_reducible refine keep_mk_links ?_ ?_)
    | with_reducible refine keep_ite ?_ ?_
    | exact rfl

theorem keep_setPort (s : State) (f : Nat) (p : PortTx) : Keep 0x2000 s (State.setPort s f p) := by
  unfold State.setPort
  repeat' first
    | intro _
    | with_reducible assumption
    | with_reducible exact Keep.refl _ _
    | (extract_lets +onlyGivenNames vv; clear_value vv)
    | extract_lets +onlyGivenNames vv
    | (simp -zeta only [keepAt_mk]; with_reducible refine keep_mk_tx ?_ ?_)
    | with_reducible refine keep_ite ?_ ?_
    | exact rfl

theorem keep_log (s : State) (cls source : Nat) (data : List Byte) : Keep 0x100000000 s (State.log s cls source data) := by
  unfold State.log
  repeat' first
    | intro _
    | with_reducible assumption
    | with_reducible exact Keep.refl _ _
    | (extract_lets +onlyGivenNames vv; clear_value vv)
    | extract_lets +onlyGivenNames vv
    | (simp -zeta only [keepAt_mk]; with_reducible refine keep_mk_cru ?_ ?_)
    | with_reducible refine keep_ite ?_ ?_
    | exact rfl

theorem keep_logRecord (s : State) (k : Nat) (data : List Byte) : Keep 0x100000000 s (State.logRecord s k data) := by
  unfold State.logRecord
  repeat' first
    | intro _
    | with_reducible assumption
    | with_reducible exact Keep.refl _ _
    | (extract_lets +onlyGivenNames vv; clear_value vv)
    | extract_lets +onlyGivenNames vv
    | with_reducible refine keep_ite ?_ ?_
    | with_reducible apply Keep.step (keep_log _ _ _ _)
    | exact rfl

theorem keep_pertActed (s : State) (i : Nat) : Keep 0x40 s (State.pertActed s i) := by
  unfold State.pertActed
  repeat' first
    | intro _
    | with_reducible assumption
    | with_reducible exact Keep.refl _ _
    | (extract_lets +onlyGivenNames vv; clear_value vv)
    | extract_lets +onlyGivenNames vv
    | with_reducible refine keep_ite ?_ ?_
    | with_reducible apply Keep.step (keep_bump _ _)
    | exact rfl

theorem keep_pertNth (s : State) (kind target : Nat) : Keep 0x10000000000000040 s (State.pertNth s kind target).2 := by
  unfold State.pertNth
  repeat' first
    | intro _
    | with_reducible assumption
    | with_reducible exact Keep.refl _ _
    | (extract_lets +onlyGivenNames vv; clear_value vv)
    | extract_lets +onlyGivenNames vv
    | (simp -zeta only [keepAt_mk]; with_reducible refine keep_mk_pertCount ?_ ?_)
    | with_reducible refine keep_ite ?_ ?_
    | with_reducible apply Keep.step (keep_pertActed _ _)
    | exact rfl
    | with_reducible refine keep_foldl (fun _ _ _ => ?_) _ ?_
    | with_reducible exact cellsWf_filter _ (by assumption) _
    | with_reducible exact cellsWf_cellSet _ (by assumption) _ _
    | with_reducible refine keep_snd (by with_reducible assumption) ?_
    | with_reducible refine keep_fst (by with_reducible assumption) ?_
    | split

theorem keep_setRule (s : State) (r : Nat) (x : RuleSt) : Keep 0x40000000000000000 s (State.setRule s r x) := by
  unfold State.setRule
  repeat' first
    | intro _
    | with_reducible assumption
    | with_reducible exact Keep.refl _ _
    | (extract_lets +onlyGivenNames vv; clear_value vv)
    | extract_lets +onlyGivenNames vv
    | (simp -zeta only [keepAt_mk]; with_reducible refine keep_mk_rules ?_ ?_)
    | with_reducible refine keep_ite ?_ ?_
    | exact rfl

theorem keep_unstay (s : State) (action target : Nat) : Keep 0x40000000000000000 s (State.unstay s action target) := by
  unfold State.unstay
  repeat' first
    | intro _
    | with_reducible assumption
    | with_reducible exact Keep.refl _ _
    | (extract_lets +onlyGivenNames vv; clear_value vv)
    | extract_lets +onlyGivenNames vv
    | with_reducible refine keep_ite ?_ ?_
    | with_reducible apply Keep.step (keep_setRule _ _ _)
    | exact rfl
    | with_reducible refine keep_foldl (fun _ _ _ => ?_) _ ?_

theorem keep_enqueue (s : State) (p : Nat) (e : TxEntry) : Keep 0x2000 s (State.enqueue s p e) := by
  unfold State.enqueue
  repeat' first
    | intro _
    | with_reducible assumption
    | with_reducible exact Keep.refl _ _
    | (extract_lets +onlyGivenNames vv; clear_value vv)
    | extract_lets +onlyGivenNames vv
    | with_reducible refine keep_ite ?_ ?_
    | with_reducible apply Keep.step (keep_setPort _ _ _)
    | exact rfl
    | with_reducible refine keep_foldl (fun _ _ _ => ?_) _ ?_
    | with_reducible exact cellsWf_filter _ (by assumption) _
    | with_reducible exact cellsWf_cellSet _ (by assumption) _ _
    | with_reducible refine keep_snd (by with_reducible assumption) ?_
    | with_reducible refine keep_fst (by with_reducible assumption) ?_
    | split

theorem keep_sendCopy (s : State) (p : Nat) (f : Frame) : Keep 0x2040 s (State.sendCopy s p f) := by
  unfold State.sendCopy
  repeat' first
    | intro _
    | with_reducible assumption
    | with_reducible exact Keep.refl _ _
    | (extract_lets +onlyGivenNames vv; clear_value vv)
    | extract_lets +onlyGivenNames vv
    | with_reducible refine keep_ite ?_ ?_
    | with_reducible apply Keep.step (keep_bump _ _)
    | with_reducible apply Keep.step (keep_enqueue _ _ _)
    | exact rfl

theorem keep_sendTie (s : State) (f : Frame) : Keep 0x402040 s (State.sendTie s f) := by
  unfold State.sendTie
  repeat' first
    | intro _
    | with_reducible assumption
    | with_reducible exact Keep.refl _ _
    | (extract_lets +onlyGivenNames vv; clear_value vv)
    | extract_lets +onlyGivenNames vv
    | (simp -zeta only [keepAt_mk]; with_reducible refine keep_mk_tie ?_ ?_)
    | with_reducible refine keep_ite ?_ ?_
    | with_reducible apply Keep.step (keep_bump _ _)
    | with_reducible apply Keep.step (keep_enqueue _ _ _)
    | exact rfl

theorem keep_sendLocal (s : State) (p : Nat) (f : Frame) : Keep 0x402040 s (State.sendLocal s p f) := by
  unfold State.sendLocal
  repeat' first
    | intro _
    | with_reducible assumption
    | with_reducible exact Keep.refl _ _
    | (extract_lets +onlyGivenNames vv; clear_value vv)
    | extract_lets +onlyGivenNames vv
    | with_reducible refine keep_ite ?_ ?_
    | with_reducible apply Keep.step (keep_sendCopy _ _ _)
    | with_reducible apply Keep.step (keep_sendTie _ _)
    | exact rfl

theorem keep_sendBoth (s : State) (f : Frame) : Keep 0x82040 s (State.sendBoth s f) := by
  unfold State.sendBoth
  repeat' first
    | intro _
    | with_reducible assumption
    | with_reducible exact Keep.refl _ _
    | (extract_lets +onlyGivenNames vv; clear_value vv)
    | extract_lets +onlyGivenNames vv
    | (simp -zeta only [keepAt_mk]; with_reducible refine keep_mk_origTimes ?_ ?_)
    | with_reducible refine keep_ite ?_ ?_
    | with_reducible apply Keep.step (keep_sendCopy _ _ _)
    | exact rfl

theorem keep_ivUse (s : State) (d1 : Bool) : Keep 0x2000000000000000000 s (State.ivUse s d1) := by
  unfold State.ivUse
  repeat' first
    | intro _
    | with_reducible assumption
    | with_reducible exact Keep.refl _ _
    | (extract_lets +onlyGivenNames vv; clear_value vv)
    | extract_lets +onlyGivenNames vv
    | (simp -zeta only [keepAt_mk]; with_reducible refine keep_mk_keys ?_ ?_)
    | with_reducible refine keep_ite ?_ ?_
    | exact rfl

theorem keep_originateNow (s : State) (f : Frame) : Keep 0x20000000008001c2040 s (State.originateNow s f) := by
  unfold State.originateNow
  repeat' first
    | intro _
    | with_reducible assumption
    | with_reducible exact Keep.refl _ _
    | (extract_lets +onlyGivenNames vv; have hv : Keep 0x20000000008001c2040 s vv; unfold vv; clear vv; rotate_left; try clear_value vv; rotate_left)
    | (extract_lets +onlyGivenNames vv; clear_value vv)
    | extract_lets +onlyGivenNames vv
    | (simp -zeta only [keepAt_mk]; first | with_reducible refine keep_mk_seqNext ?_ ?_ | with_reducible refine keep_mk_origHeld ?_ ?_ | with_reducible refine keep_mk_disc ?_ ?_ | with_reducible refine keep_mk_keys ?_ ?_)
    | with_reducible refine keep_ite ?_ ?_
    | with_reducible apply Keep.step (keep_bump _ _)
    | with_reducible apply Keep.step (keep_ivUse _ _)
    | with_reducible apply Keep.step (keep_sendBoth _ _)
    | with_reducible apply Keep.step (keep_sendCopy _ _ _)
    | exact rfl

theorem keep_originate (s : State) (f : Frame) : Keep 0x30010000008001c2040 s (State.originate s f) := by
  unfold State.originate
  repeat' first
    | intro _
    | with_reducible assumption
    | with_reducible exact Keep.refl _ _
    | (extract_lets +onlyGivenNames vv; clear_value vv)
    | extract_lets +onlyGivenNames vv
    | (simp -zeta only [keepAt_mk]; first | with_reducible refine keep_mk_writeHeld ?_ ?_ | with_reducible refine keep_mk_tagHeld ?_ ?_)
    | with_reducible refine keep_ite ?_ ?_
    | with_reducible apply Keep.step (keep_bump _ _)
    | with_reducible apply Keep.step (keep_originateNow _ _)
    | exact rfl

theorem keep_touch (s : State) (p : Path) : Keep 0x200 s (State.touch s p) := by
  unfold State.touch
  repeat' first
    | intro _
    | with_reducible assumption
    | with_reducible exact Keep.refl _ _
    | (extract_lets +onlyGivenNames vv; clear_value vv)
    | extract_lets +onlyGivenNames vv
    | (simp -zeta only [keepAt_mk]; with_reducible refine keep_mk_hub ?_ ?_)
    | with_reducible refine keep_ite ?_ ?_
    | exact rfl
    | with_reducible refine keep_foldl (fun _ _ _ => ?_) _ ?_
    | with_reducible exact cellsWf_filter _ (by assumption) _
    | with_reducible exact cellsWf_cellSet _ (by assumption) _ _
    | with_reducible refine keep_snd (by with_reducible assumption) ?_
    | with_reducible refine keep_fst (by with_reducible assumption) ?_
    | split

theorem keep_sendDict (s : State) (p : Path) (dict : List Byte) : Keep 0xb0010000008001c2040 s (State.sendDict s p dict) := by
  unfold State.sendDict
  repeat' first
    | intro _
    | with_reducible assumption
    | with_reducible exact Keep.refl _ _
    | (extract_lets +onlyGivenNames vv; clear_value vv)
    | extract_lets +onlyGivenNames vv
    | (simp -zeta only [keepAt_mk]; with_reducible refine keep_mk_uartSent ?_ ?_)
    | with_reducible refine keep_ite ?_ ?_
    | with_reducible apply Keep.step (keep_originate _ _)
    | exact rfl
    | with_reducible refine keep_foldl (fun _ _ _ => ?_) _ ?_
    | with_reducible exact cellsWf_filter _ (by assumption) _
    | with_reducible exact cellsWf_cellSet _ (by assumption) _ _
    | with_reducible refine keep_snd (by with_reducible assumption) ?_
    | with_reducible refine keep_fst (by with_reducible assumption) ?_
    | split

theorem keep_answer (s : State) (p : Path) (k : Nat) (a : Option Abort) (data : List Byte) :
    Keep 0xb0010800008001c2640 s (State.answer s p k a data) := by
  unfold State.answer
  have h1 : Keep 0xb0010800008001c2640 s (s.touch p) := (keep_touch s p).mono rfl
  generalize s.touch p = t at h1 ⊢
  dsimp only
  split
  · exact (keep_mk_answers h1 rfl).keep
  · refine Keep.step (keep_sendDict _ _ _) rfl ?_
    have h2 : ∀ (d : DictSt) (l : List Answer), d.kept.length ≤ 256 → Keep 0xb0010800008001c2640 s { t with answers := l, dict := d } := by
      intro d l hd
      have hu : Same (1 <<< 10 ||| 1 <<< 55) t { t with answers := l, dict := d } := by
        intro p hp; cases p <;> first | rfl | (exact absurd hp (by decide))
      refine ⟨hu.upd h1 rfl, fun hi => ?_⟩
      obtain ⟨c1, c2, c3, c4⟩ := h1.inv hi
      exact ⟨c1, hd, c3, c4⟩
    have h3 : ∀ l : List (Path × Nat × Nat × List Byte), (l.take 256).length ≤ 256 := by intro l; simp
    split
    · exact Keep.step (keep_bump _ _) rfl (h2 _ _ (h3 _))
    · exact h2 _ _ (h3 _)

theorem keep_refuse (s : State) (w : Writer) (k : Nat) (a : Abort) : Keep 0xb0010800008001c26c0 s (s.refuse w k a) := by
  have h1 := keep_answer s w.path k (some a) []
  have e : (s.answer w.path k (some a) []).rejects = s.rejects := h1.same .rejects (by decide)
  exact (keep_mk_rejects (fun h => cellsWf_cellSet _ (e ▸ h) _ _) (h1.mono rfl) rfl).keep

theorem keep_store (s : State) (k v : Nat) : Keep 0x20 s (State.store s k v) := by
  unfold State.store
  repeat' first
    | intro _
    | with_reducible assumption
    | with_reducible exact Keep.refl _ _
    | (extract_lets +onlyGivenNames vv; have hv : Keep 0x20 s vv; unfold vv; clear vv; rotate_left; try clear_value vv; rotate_left)
    | (extract_lets +onlyGivenNames vv; clear_value vv)
    | extract_lets +onlyGivenNames vv
    | with_reducible refine keep_ite ?_ ?_
    | with_reducible apply Keep.step (keep_setReg _ _ _)
    | exact rfl

theorem keep_sendTwinAs (s : State) (prio : Nat) (mayTag : Bool) (payload : List Byte) : Keep 0x3000000000000402040 s (State.sendTwinAs s prio mayTag payload) := by
  unfold State.sendTwinAs
  repeat' first
    | intro _
    | with_reducible assumption
    | with_reducible exact Keep.refl _ _
    | (extract_lets +onlyGivenNames vv; have hv : Keep 0x3000000000000402040 s vv; unfold vv; clear vv; rotate_left; try clear_value vv; rotate_left)
    | (extract_lets +onlyGivenNames vv; clear_value vv)
    | extract_lets +onlyGivenNames vv
    | (simp -zeta only [keepAt_mk]; first | with_reducible refine keep_mk_tagHeld ?_ ?_ | with_reducible refine keep_mk_keys ?_ ?_)
    | with_reducible refine keep_ite ?_ ?_
    | with_reducible apply Keep.step (keep_bump _ _)
    | with_reducible apply Keep.step (keep_ivUse _ _)
    | with_reducible apply Keep.step (keep_sendLocal _ _ _)
    | exact rfl

theorem keep_sendTwin (s : State) (prio : Nat) (payload : List Byte) : Keep 0x3000000000000402040 s (State.sendTwin s prio payload) := by
  unfold State.sendTwin
  repeat' first
    | intro _
    | with_reducible assumption
    | with_reducible exact Keep.refl _ _
    | (extract_lets +onlyGivenNames vv; clear_value vv)
    | extract_lets +onlyGivenNames vv
    | with_reducible refine keep_ite ?_ ?_
    | with_reducible apply Keep.step (keep_sendTwinAs _ _ _ _)
    | exact rfl

theorem keep_sendSync (s : State) (k : Nat) (value : List Byte) : Keep 0x3008000000000402040 s (State.sendSync s k value) := by
  unfold State.sendSync
  repeat' first
    | intro _
    | with_reducible assumption
    | with_reducible exact Keep.refl _ _
    | (extract_lets +onlyGivenNames vv; clear_value vv)
    | extract_lets +onlyGivenNames vv
    | (simp -zeta only [keepAt_mk]; with_reducible refine keep_mk_twin ?_ ?_)
    | with_reducible refine keep_ite ?_ ?_
    | with_reducible apply Keep.step (keep_bump _ _)
    | with_reducible apply Keep.step (keep_sendTwin _ _ _)
    | exact rfl

theorem keep_accepted (s : State) (w : Writer) (k v : Nat) : Keep 0xb0090800008005c2640 s (State.accepted s w k v) := by
  unfold State.accepted
  repeat' first
    | intro _
    | with_reducible assumption
    | with_reducible exact Keep.refl _ _
    | (extract_lets +onlyGivenNames vv; have hv : Keep 0xb0090800008005c2640 s vv; unfold vv; clear vv; rotate_left; try clear_value vv; rotate_left)
    | (extract_lets +onlyGivenNames vv; clear_value vv)
    | extract_lets +onlyGivenNames vv
    | (simp -zeta only [keepAt_mk]; with_reducible refine keep_mk_twin ?_ ?_)
    | with_reducible refine keep_ite ?_ ?_
    | with_reducible apply Keep.step (keep_answer _ _ _ _ _)
    | with_reducible apply Keep.step (keep_sendSync _ _ _)
    | with_reducible apply Keep.step (keep_touch _ _)
    | exact rfl

theorem keep_propose (s : State) (cause : Nat) : Keep 0x3008000000000402060 s (State.propose s cause) := by
  unfold State.propose
  repeat' first
    | intro _
    | with_reducible assumption
    | with_reducible exact Keep.refl _ _
    | (extract_lets +onlyGivenNames vv; clear_value vv)
    | extract_lets +onlyGivenNames vv
    | (simp -zeta only [keepAt_mk]; with_reducible refine keep_mk_twin ?_ ?_)
    | with_reducible refine keep_ite ?_ ?_
    | with_reducible apply Keep.step (keep_sendTwinAs _ _ _ _)
    | with_reducible apply Keep.step (keep_setReg _ _ _)
    | exact rfl

theorem keep_write {m : Nat} (s : State) (w : Writer) (k v : Nat) (own : State → Option Abort) (eff : State → State) (heff : ∀ s , Keep m s (eff s )) (hm : Nat.land 0xb0090800008005c26c0 m = 0xb0090800008005c26c0) : Keep m s (State.write s w k v own eff) := by
  unfold State.write
  repeat' first
    | intro _
    | with_reducible assumption
    | with_reducible exact Keep.refl _ _
    | (extract_lets +onlyGivenNames vv; clear_value vv)
    | extract_lets +onlyGivenNames vv
    | with_reducible refine keep_ite ?_ ?_
    | with_reducible apply Keep.step (keep_accepted _ _ _ _)
    | with_reducible apply Keep.step (keep_refuse _ _ _ _)
    | with_reducible apply Keep.step (heff _)
    | with_reducible apply Keep.step (keep_id _)
    | with_reducible exact keep_self _
    | exact keep_sub rfl hm
    | with_reducible refine keep_foldl (fun _ _ _ => ?_) _ ?_
    | with_reducible exact cellsWf_filter _ (by assumption) _
    | with_reducible exact cellsWf_cellSet _ (by assumption) _ _
    | with_reducible refine keep_snd (by with_reducible assumption) ?_
    | with_reducible refine keep_fst (by with_reducible assumption) ?_
    | split

theorem keep_command {m : Nat} (s : State) (w : Writer) (k v : Nat) (own : State → Option Abort) (eff : State → State) (heff : ∀ s , Keep m s (eff s )) (hm : Nat.land 0xb0090800008005c26c0 m = 0xb0090800008005c26c0) : Keep m s (State.command s w k v own eff) := by
  unfold State.command
  repeat' first
    | intro _
    | with_reducible assumption
    | with_reducible exact Keep.refl _ _
    | (extract_lets +onlyGivenNames vv; clear_value vv)
    | extract_lets +onlyGivenNames vv
    | with_reducible refine keep_ite ?_ ?_
    | with_reducible apply Keep.step (n := m) (keep_write _ _ _ _ _ _ ?_ ?_)
    | with_reducible apply Keep.step (heff _)
    | with_reducible apply Keep.step (keep_id _)
    | with_reducible exact keep_self _
    | exact keep_sub rfl hm

theorem keep_setSrc (s : State) (n : Nat) (e : SrcSt) : Keep 0x4000000 s (State.setSrc s n e) := by
  unfold State.setSrc
  repeat' first
    | intro _
    | with_reducible assumption
    | with_reducible exact Keep.refl _ _
    | (extract_lets +onlyGivenNames vv; clear_value vv)
    | extract_lets +onlyGivenNames vv
    | (simp -zeta only [keepAt_mk]; with_reducible refine keep_mk_sources ?_ ?_)
    | with_reducible refine keep_ite ?_ ?_
    | exact rfl

theorem keep_setBar (s : State) (o v : Nat) : Keep 0x20000000000000 s (State.setBar s o v) := by
  unfold State.setBar
  repeat' first
    | intro _
    | with_reducible assumption
    | with_reducible exact Keep.refl _ _
    | (extract_lets +onlyGivenNames vv; clear_value vv)
    | extract_lets +onlyGivenNames vv
    | (simp -zeta only [keepAt_mk]; with_reducible refine keep_mk_bar0 ?_ ?_)
    | with_reducible refine keep_ite ?_ ?_
    | exact rfl

theorem keep_assign (s : State) (n : Nat) : Keep 0x30010000008241c2040 s (State.assign s n) := by
  unfold State.assign
  repeat' first
    | intro _
    | with_reducible assumption
    | with_reducible exact Keep.refl _ _
    | (extract_lets +onlyGivenNames vv; clear_value vv)
    | extract_lets +onlyGivenNames vv
    | (simp -zeta only [keepAt_mk]; with_reducible refine keep_mk_deliveries ?_ ?_)
    | with_reducible refine keep_ite ?_ ?_
    | with_reducible apply Keep.step (keep_bump _ _)
    | with_reducible apply Keep.step (keep_originate _ _)
    | with_reducible apply Keep.step (keep_setSrc _ _ _)
    | exact rfl
    | with_reducible refine keep_foldl (fun _ _ _ => ?_) _ ?_
    | with_reducible exact cellsWf_filter _ (by assumption) _
    | with_reducible exact cellsWf_cellSet _ (by assumption) _ _
    | with_reducible refine keep_snd (by with_reducible assumption) ?_
    | with_reducible refine keep_fst (by with_reducible assumption) ?_
    | split

theorem keep_fireHost (s : State) : Keep 0x44000000 s (State.fireHost s) := by
  unfold State.fireHost
  repeat' first
    | intro _
    | with_reducible assumption
    | with_reducible exact Keep.refl _ _
    | (extract_lets +onlyGivenNames vv; clear_value vv)
    | extract_lets +onlyGivenNames vv
    | (simp -zeta only [keepAt_mk]; with_reducible refine keep_mk_msix ?_ ?_)
    | with_reducible refine keep_ite ?_ ?_
    | with_reducible apply Keep.step (keep_setSrc _ _ _)
    | exact rfl
    | with_reducible refine keep_foldl (fun _ _ _ => ?_) _ ?_
    | with_reducible exact cellsWf_filter _ (by assumption) _
    | with_reducible exact cellsWf_cellSet _ (by assumption) _ _
    | with_reducible refine keep_snd (by with_reducible assumption) ?_
    | with_reducible refine keep_fst (by with_reducible assumption) ?_
    | split

theorem keep_settle (s : State) : Keep 0x30010000008641c2040 s (State.settle s) := by
  unfold State.settle
  repeat' first
    | intro _
    | with_reducible assumption
    | with_reducible exact Keep.refl _ _
    | (extract_lets +onlyGivenNames vv; clear_value vv)
    | extract_lets +onlyGivenNames vv
    | with_reducible refine keep_ite ?_ ?_
    | with_reducible apply Keep.step (keep_assign _ _)
    | with_reducible apply Keep.step (keep_fireHost _)
    | exact rfl
    | with_reducible refine keep_foldl (fun _ _ _ => ?_) _ ?_

theorem keep_queueRecord (s : State) (n data : Nat) : Keep 0x100000018000040 s (s.queueRecord n data) := by
  unfold State.queueRecord
  split
  · exact Keep.refl _ _
  · split
    · exact Keep.step (keep_bump _ _) rfl ((keep_mk_recordLoss (Keep.refl _ _) rfl).keep)
    · rename_i h
      refine (keep_mk_records_recordLoss_recordsIn (fun _ => ?_) (Keep.refl _ _) rfl).keep
      simp; omega

theorem keep_raise (s : State) (n data : Nat) : Keep 0x300110000087c1c2040 s (State.raise s n data) := by
  unfold State.raise
  repeat' first
    | intro _
    | with_reducible assumption
    | with_reducible exact Keep.refl _ _
    | (extract_lets +onlyGivenNames vv; clear_value vv)
    | extract_lets +onlyGivenNames vv
    | with_reducible refine keep_ite ?_ ?_
    | with_reducible apply Keep.step (keep_assign _ _)
    | with_reducible apply Keep.step (keep_fireHost _)
    | with_reducible apply Keep.step (keep_queueRecord _ _ _)
    | with_reducible apply Keep.step (keep_setSrc _ _ _)
    | exact rfl

theorem keep_completeSrc (s : State) (n : Nat) : Keep 0x30010000008641c2040 s (State.completeSrc s n) := by
  unfold State.completeSrc
  repeat' first
    | intro _
    | with_reducible assumption
    | with_reducible exact Keep.refl _ _
    | (extract_lets +onlyGivenNames vv; clear_value vv)
    | extract_lets +onlyGivenNames vv
    | with_reducible refine keep_ite ?_ ?_
    | with_reducible apply Keep.step (keep_setSrc _ _ _)
    | with_reducible apply Keep.step (keep_settle _)
    | exact rfl

theorem keep_setWhisk (s : State) (w : Nat) (x : WhiskSt) : Keep 0x8000000000000 s (State.setWhisk s w x) := by
  unfold State.setWhisk
  repeat' first
    | intro _
    | with_reducible assumption
    | with_reducible exact Keep.refl _ _
    | (extract_lets +onlyGivenNames vv; clear_value vv)
    | extract_lets +onlyGivenNames vv
    | (simp -zeta only [keepAt_mk]; with_reducible refine keep_mk_whisks ?_ ?_)
    | with_reducible refine keep_ite ?_ ?_
    | exact rfl

theorem keep_whiskTo (s : State) (w : Nat) (x : WhiskSt) : Keep 0x300110800087c1c2040 s (State.whiskTo s w x) := by
  unfold State.whiskTo
  repeat' first
    | intro _
    | with_reducible assumption
    | with_reducible exact Keep.refl _ _
    | (extract_lets +onlyGivenNames vv; clear_value vv)
    | extract_lets +onlyGivenNames vv
    | with_reducible refine keep_ite ?_ ?_
    | with_reducible apply Keep.step (keep_raise _ _ _)
    | with_reducible apply Keep.step (keep_setWhisk _ _ _)
    | exact rfl

theorem keep_whiskRestart (s : State) (w : Nat) : Keep 0x300110800087c1c2040 s (State.whiskRestart s w) := by
  unfold State.whiskRestart
  repeat' first
    | intro _
    | with_reducible assumption
    | with_reducible exact Keep.refl _ _
    | (extract_lets +onlyGivenNames vv; clear_value vv)
    | extract_lets +onlyGivenNames vv
    | with_reducible refine keep_ite ?_ ?_
    | with_reducible apply Keep.step (keep_whiskTo _ _ _)
    | exact rfl

theorem keep_whiskSafe (s : State) (w : Nat) : Keep 0x300110800087c1c2040 s (State.whiskSafe s w) := by
  unfold State.whiskSafe
  repeat' first
    | intro _
    | with_reducible assumption
    | with_reducible exact Keep.refl _ _
    | (extract_lets +onlyGivenNames vv; clear_value vv)
    | extract_lets +onlyGivenNames vv
    | with_reducible refine keep_ite ?_ ?_
    | with_reducible apply Keep.step (keep_whiskTo _ _ _)
    | exact rfl

theorem keep_whiskUnsafe (s : State) (w : Nat) : Keep 0x300110800087c1c2040 s (State.whiskUnsafe s w) := by
  unfold State.whiskUnsafe
  repeat' first
    | intro _
    | with_reducible assumption
    | with_reducible exact Keep.refl _ _
    | (extract_lets +onlyGivenNames vv; clear_value vv)
    | extract_lets +onlyGivenNames vv
    | with_reducible refine keep_ite ?_ ?_
    | with_reducible apply Keep.step (keep_whiskRestart _ _)
    | exact rfl

theorem keep_eachWhisk {m : Nat} (s : State) (ws : List Nat) (f : State → Nat → State) (hf : ∀ s (v0 : Nat), Keep m s (f s v0)) (hm : Nat.land 0x0 m = 0x0) : Keep m s (State.eachWhisk s ws f) := by
  unfold State.eachWhisk
  repeat' first
    | intro _
    | with_reducible assumption
    | with_reducible exact Keep.refl _ _
    | (extract_lets +onlyGivenNames vv; clear_value vv)
    | extract_lets +onlyGivenNames vv
    | with_reducible refine keep_ite ?_ ?_
    | with_reducible apply Keep.step (hf _ _)
    | with_reducible apply Keep.step (keep_id _)
    | with_reducible exact keep_self _
    | exact keep_sub rfl hm
    | with_reducible refine keep_foldl (fun _ _ _ => ?_) _ ?_

theorem keep_setFlt (s : State) (n : Nat) (f : FltSt) : Keep 0x80000000 s (State.setFlt s n f) := by
  unfold State.setFlt
  repeat' first
    | intro _
    | with_reducible assumption
    | with_reducible exact Keep.refl _ _
    | (extract_lets +onlyGivenNames vv; clear_value vv)
    | extract_lets +onlyGivenNames vv
    | (simp -zeta only [keepAt_mk]; with_reducible refine keep_mk_faults ?_ ?_)
    | with_reducible refine keep_ite ?_ ?_
    | exact rfl

theorem keep_setLine (s : State) (i : Nat) (l : LineSt) : Keep 0x100000000000 s (State.setLine s i l) := by
  unfold State.setLine
  repeat' first
    | intro _
    | with_reducible assumption
    | with_reducible exact Keep.refl _ _
    | (extract_lets +onlyGivenNames vv; clear_value vv)
    | extract_lets +onlyGivenNames vv
    | (simp -zeta only [keepAt_mk]; with_reducible refine keep_mk_lines ?_ ?_)
    | with_reducible refine keep_ite ?_ ?_
    | exact rfl

theorem keep_setPx (s : State) (x : Nat) (p : PxSt) : Keep 0x200000000000 s (State.setPx s x p) := by
  unfold State.setPx
  repeat' first
    | intro _
    | with_reducible assumption
    | with_reducible exact Keep.refl _ _
    | (extract_lets +onlyGivenNames vv; clear_value vv)
    | extract_lets +onlyGivenNames vv
    | (simp -zeta only [keepAt_mk]; with_reducible refine keep_mk_pxs ?_ ?_)
    | with_reducible refine keep_ite ?_ ?_
    | exact rfl

theorem keep_keepLast (s : State) (p : Nat → Bool) : Keep 0x300000000000 s (State.keepLast s p) := by
  unfold State.keepLast
  repeat' first
    | intro _
    | with_reducible assumption
    | with_reducible exact Keep.refl _ _
    | (extract_lets +onlyGivenNames vv; have hv : Keep 0x300000000000 s vv; unfold vv; clear vv; rotate_left; try clear_value vv; rotate_left)
    | (extract_lets +onlyGivenNames vv; clear_value vv)
    | extract_lets +onlyGivenNames vv
    | with_reducible refine keep_ite ?_ ?_
    | with_reducible apply Keep.step (keep_setLine _ _ _)
    | with_reducible apply Keep.step (keep_setPx _ _ _)
    | exact rfl
    | with_reducible refine keep_foldl (fun _ _ _ => ?_) _ ?_

theorem keep_unsteady (s : State) : Keep 0x1000000 s (State.unsteady s) := by
  unfold State.unsteady
  repeat' first
    | intro _
    | with_reducible assumption
    | with_reducible exact Keep.refl _ _
    | (extract_lets +onlyGivenNames vv; clear_value vv)
    | extract_lets +onlyGivenNames vv
    | (simp -zeta only [keepAt_mk]; with_reducible refine keep_mk_field ?_ ?_)
    | with_reducible refine keep_ite ?_ ?_
    | exact rfl

theorem keep_setMode (s : State) (m ret : HubMode) (cause : Nat) : Keep 0x300110830087d5c2240 s (State.setMode s m ret cause) := by
  unfold State.setMode
  try dsimp only
  repeat' first
    | intro _
    | with_reducible assumption
    | with_reducible exact Keep.refl _ _
    | (simp -zeta only [keepAt_mk]; with_reducible refine keep_mk_hub ?_ ?_)
    | with_reducible refine keep_ite ?_ ?_
    | with_reducible apply Keep.step (keep_bump _ _)
    | with_reducible apply Keep.step (n := 0x300110830087d5c2240) (keep_eachWhisk _ _ _ ?_ ?_)
    | with_reducible apply Keep.step (keep_keepLast _ _)
    | with_reducible apply Keep.step (keep_raise _ _ _)
    | with_reducible apply Keep.step (keep_sendTwin _ _ _)
    | with_reducible apply Keep.step (keep_unsteady _)
    | with_reducible apply Keep.step (keep_whiskSafe _ _)
    | with_reducible apply Keep.step (keep_whiskUnsafe _ _)
    | exact rfl

theorem keep_enterSafe (s : State) (cause : Nat) : Keep 0x300110830087d5c2240 s (State.enterSafe s cause) := by
  unfold State.enterSafe
  repeat' first
    | intro _
    | with_reducible assumption
    | with_reducible exact Keep.refl _ _
    | (extract_lets +onlyGivenNames vv; clear_value vv)
    | extract_lets +onlyGivenNames vv
    | with_reducible refine keep_ite ?_ ?_
    | with_reducible apply Keep.step (keep_setMode _ _ _ _)
    | exact rfl
    | with_reducible refine keep_foldl (fun _ _ _ => ?_) _ ?_
    | with_reducible exact cellsWf_filter _ (by assumption) _
    | with_reducible exact cellsWf_cellSet _ (by assumption) _ _
    | with_reducible refine keep_snd (by with_reducible assumption) ?_
    | with_reducible refine keep_fst (by with_reducible assumption) ?_
    | split

theorem keep_panEnterSafe (s : State) (p : Nat) : Keep 0x300110800087d1c2040 s (State.panEnterSafe s p) := by
  unfold State.panEnterSafe
  repeat' first
    | intro _
    | with_reducible assumption
    | with_reducible exact Keep.refl _ _
    | (extract_lets +onlyGivenNames vv; clear_value vv)
    | extract_lets +onlyGivenNames vv
    | with_reducible refine keep_ite ?_ ?_
    | with_reducible apply Keep.step (n := 0x300110800087d1c2040) (keep_eachWhisk _ _ _ ?_ ?_)
    | with_reducible apply Keep.step (keep_unsteady _)
    | with_reducible apply Keep.step (keep_whiskSafe _ _)
    | exact rfl

theorem keep_portStop (s : State) (n item : Nat) : Keep 0x20 s (State.portStop s n item) := by
  unfold State.portStop
  repeat' first
    | intro _
    | with_reducible assumption
    | with_reducible exact Keep.refl _ _
    | (extract_lets +onlyGivenNames vv; clear_value vv)
    | extract_lets +onlyGivenNames vv
    | with_reducible refine keep_ite ?_ ?_
    | with_reducible apply Keep.step (keep_setReg _ _ _)
    | exact rfl
    | with_reducible refine keep_foldl (fun _ _ _ => ?_) _ ?_
    | with_reducible exact cellsWf_filter _ (by assumption) _
    | with_reducible exact cellsWf_cellSet _ (by assumption) _ _
    | with_reducible refine keep_snd (by with_reducible assumption) ?_
    | with_reducible refine keep_fst (by with_reducible assumption) ?_
    | split

theorem keep_react (s : State) (n item r : Nat) : Keep 0x30091083008fd5c2260 s (State.react s n item r) := by
  unfold State.react
  repeat' first
    | intro _
    | with_reducible assumption
    | with_reducible exact Keep.refl _ _
    | (extract_lets +onlyGivenNames vv; have hv : Keep 0x30091083008fd5c2260 s vv; unfold vv; clear vv; rotate_left; try clear_value vv; rotate_left)
    | (extract_lets +onlyGivenNames vv; clear_value vv)
    | extract_lets +onlyGivenNames vv
    | with_reducible refine keep_ite ?_ ?_
    | with_reducible apply Keep.step (keep_enterSafe _ _)
    | with_reducible apply Keep.step (keep_keepLast _ _)
    | with_reducible apply Keep.step (keep_panEnterSafe _ _)
    | with_reducible apply Keep.step (keep_portStop _ _ _)
    | with_reducible apply Keep.step (keep_propose _ _)
    | with_reducible apply Keep.step (keep_raise _ _ _)
    | with_reducible apply Keep.step (keep_setFlt _ _ _)
    | exact rfl
    | with_reducible refine keep_foldl (fun _ _ _ => ?_) _ ?_
    | with_reducible exact cellsWf_filter _ (by assumption) _
    | with_reducible exact cellsWf_cellSet _ (by assumption) _ _
    | with_reducible refine keep_snd (by with_reducible assumption) ?_
    | with_reducible refine keep_fst (by with_reducible assumption) ?_
    | split

theorem keep_trigger (s : State) (kind source : Nat) : Keep 0x100000040 s (State.trigger s kind source) := by
  unfold State.trigger
  repeat' first
    | intro _
    | with_reducible assumption
    | with_reducible exact Keep.refl _ _
    | (extract_lets +onlyGivenNames vv; have hv : Keep 0x100000040 s vv; unfold vv; clear vv; rotate_left; try clear_value vv; rotate_left)
    | (extract_lets +onlyGivenNames vv; clear_value vv)
    | extract_lets +onlyGivenNames vv
    | (simp -zeta only [keepAt_mk]; with_reducible refine keep_mk_cru ?_ ?_)
    | with_reducible refine keep_ite ?_ ?_
    | with_reducible apply Keep.step (keep_bump _ _)
    | with_reducible apply Keep.step (keep_log _ _ _ _)
    | exact rfl

theorem keep_occurX (s : State) (n cause : Nat) (forced : Bool) (detail : List Byte) : Keep 0x30091083009fd5c2260 s (State.occurX s n cause forced detail) := by
  unfold State.occurX
  repeat' first
    | intro _
    | with_reducible assumption
    | with_reducible exact Keep.refl _ _
    | (extract_lets +onlyGivenNames vv; have hv : Keep 0x30091083009fd5c2260 s vv; unfold vv; clear vv; rotate_left; try clear_value vv; rotate_left)
    | (extract_lets +onlyGivenNames vv; clear_value vv)
    | extract_lets +onlyGivenNames vv
    | (simp -zeta only [keepAt_mk]; with_reducible refine keep_mk_cru ?_ ?_)
    | with_reducible refine keep_ite ?_ ?_
    | with_reducible apply Keep.step (keep_bump _ _)
    | with_reducible apply Keep.step (keep_log _ _ _ _)
    | with_reducible apply Keep.step (keep_raise _ _ _)
    | with_reducible apply Keep.step (keep_react _ _ _ _)
    | with_reducible apply Keep.step (keep_setFlt _ _ _)
    | with_reducible apply Keep.step (keep_trigger _ _ _)
    | exact rfl

theorem keep_occur (s : State) (n item detail : Nat) : Keep 0x30091083009fd5c2260 s (State.occur s n item detail) := by
  unfold State.occur
  repeat' first
    | intro _
    | with_reducible assumption
    | with_reducible exact Keep.refl _ _
    | (extract_lets +onlyGivenNames vv; clear_value vv)
    | extract_lets +onlyGivenNames vv
    | with_reducible refine keep_ite ?_ ?_
    | with_reducible apply Keep.step (keep_occurX _ _ _ _ _)
    | exact rfl

theorem keep_faultUp (s : State) (n item detail : Nat) : Keep 0x30091083009fd5c2260 s (State.faultUp s n item detail) := by
  unfold State.faultUp
  repeat' first
    | intro _
    | with_reducible assumption
    | with_reducible exact Keep.refl _ _
    | (extract_lets +onlyGivenNames vv; have hv : Keep 0x30091083009fd5c2260 s vv; unfold vv; clear vv; rotate_left; try clear_value vv; rotate_left)
    | (extract_lets +onlyGivenNames vv; clear_value vv)
    | extract_lets +onlyGivenNames vv
    | with_reducible refine keep_ite ?_ ?_
    | with_reducible apply Keep.step (keep_occur _ _ _ _)
    | with_reducible apply Keep.step (keep_raise _ _ _)
    | with_reducible apply Keep.step (keep_setFlt _ _ _)
    | exact rfl

theorem keep_faultDown (s : State) (n : Nat) : Keep 0x80000000 s (State.faultDown s n) := by
  unfold State.faultDown
  repeat' first
    | intro _
    | with_reducible assumption
    | with_reducible exact Keep.refl _ _
    | (extract_lets +onlyGivenNames vv; clear_value vv)
    | extract_lets +onlyGivenNames vv
    | with_reducible refine keep_ite ?_ ?_
    | with_reducible apply Keep.step (keep_setFlt _ _ _)
    | exact rfl

theorem keep_portResume (s : State) (n : Nat) (rs : List (Nat × Nat)) : Keep 0x20 s (State.portResume s n rs) := by
  unfold State.portResume
  repeat' first
    | intro _
    | with_reducible assumption
    | with_reducible exact Keep.refl _ _
    | (extract_lets +onlyGivenNames vv; clear_value vv)
    | extract_lets +onlyGivenNames vv
    | with_reducible refine keep_ite ?_ ?_
    | with_reducible apply Keep.step (keep_setReg _ _ _)
    | exact rfl
    | with_reducible refine keep_foldl (fun _ _ _ => ?_) _ ?_
    | with_reducible exact cellsWf_filter _ (by assumption) _
    | with_reducible exact cellsWf_cellSet _ (by assumption) _ _
    | with_reducible refine keep_snd (by with_reducible assumption) ?_
    | with_reducible refine keep_fst (by with_reducible assumption) ?_
    | split

theorem keep_faultLeave (s : State) (n : Nat) (suspended : Bool) : Keep 0x30011080008fd1c2060 s (State.faultLeave s n suspended) := by
  unfold State.faultLeave
  try dsimp only
  repeat' first
    | intro _
    | with_reducible assumption
    | with_reducible exact Keep.refl _ _
    | with_reducible refine keep_ite ?_ ?_
    | with_reducible apply Keep.step (n := 0x30011080008fd1c2060) (keep_eachWhisk _ _ _ ?_ ?_)
    | with_reducible apply Keep.step (keep_portResume _ _ _)
    | with_reducible apply Keep.step (keep_setFlt _ _ _)
    | with_reducible apply Keep.step (keep_unsteady _)
    | with_reducible apply Keep.step (keep_whiskUnsafe _ _)
    | exact rfl
    | with_reducible refine keep_foldl (fun _ _ _ => ?_) _ ?_
    | with_reducible exact cellsWf_filter _ (by assumption) _
    | with_reducible exact cellsWf_cellSet _ (by assumption) _ _
    | with_reducible refine keep_snd (by with_reducible assumption) ?_
    | with_reducible refine keep_fst (by with_reducible assumption) ?_
    | split

end Sys2Proof.Machine
end

