-- ==== Sys2Proof/Laws/KeepCoupler.lean ====
section
/-! SUPPORT. What each operation and each command of `Machine/Coupler.lean` keeps: the parts of the state outside its mask, and
the invariant. -/

namespace Sys2Proof.Machine
open Sys2Proof

theorem keep_faultLevel (s : State) (n : Nat) (cond : Bool) (item detail : Nat) : Keep 0x30091083009fd5c2260 s (State.faultLevel s n cond item detail) := by
  unfold State.faultLevel
  repeat' first
    | intro _
    | with_reducible assumption
    | with_reducible exact Keep.refl _ _
    | (extract_lets +onlyGivenNames vv; clear_value vv)
    | extract_lets +onlyGivenNames vv
    | with_reducible refine keep_ite ?_ ?_
    | with_reducible apply Keep.step (keep_faultDown _ _)
    | with_reducible apply Keep.step (keep_faultUp _ _ _ _)
    | exact rfl

theorem keep_routesUpdate (s : State) : Keep 0x800000020 s (State.routesUpdate s) := by
  unfold State.routesUpdate
  repeat' first
    | intro _
    | with_reducible assumption
    | with_reducible exact Keep.refl _ _
    | (extract_lets +onlyGivenNames vv; have hv : Keep 0x800000020 s vv; unfold vv; clear vv; rotate_left; try clear_value vv; rotate_left)
    | (extract_lets +onlyGivenNames vv; clear_value vv)
    | extract_lets +onlyGivenNames vv
    | (simp -zeta only [keepAt_mk]; with_reducible refine keep_mk_disc ?_ ?_)
    | with_reducible refine keep_ite ?_ ?_
    | with_reducible apply Keep.step (keep_setReg _ _ _)
    | exact rfl
    | with_reducible refine keep_foldl (fun _ _ _ => ?_) _ ?_

theorem keep_couplerUpdate (s : State) : Keep 0x30091083009fd5c2260 s (State.couplerUpdate s) := by
  unfold State.couplerUpdate
  repeat' first
    | intro _
    | with_reducible assumption
    | with_reducible exact Keep.refl _ _
    | (extract_lets +onlyGivenNames vv; have hv : Keep 0x30091083009fd5c2260 s vv; unfold vv; clear vv; rotate_left; try clear_value vv; rotate_left)
    | (extract_lets +onlyGivenNames vv; clear_value vv)
    | extract_lets +onlyGivenNames vv
    | (simp -zeta only [keepAt_mk]; with_reducible refine keep_mk_disc ?_ ?_)
    | with_reducible refine keep_ite ?_ ?_
    | with_reducible apply Keep.step (keep_faultDown _ _)
    | with_reducible apply Keep.step (keep_faultLevel _ _ _ _ _)
    | with_reducible apply Keep.step (keep_routesUpdate _)
    | with_reducible apply Keep.step (keep_setReg _ _ _)
    | exact rfl
    | with_reducible refine keep_foldl (fun _ _ _ => ?_) _ ?_
    | with_reducible exact cellsWf_filter _ (by assumption) _
    | with_reducible exact cellsWf_cellSet _ (by assumption) _ _
    | with_reducible refine keep_snd (by with_reducible assumption) ?_
    | with_reducible refine keep_fst (by with_reducible assumption) ?_
    | split

end Sys2Proof.Machine
end

