-- ==== Sys2Proof/Laws/KeepLinks.lean ====
section
/-! SUPPORT. What each operation and each command of `Machine/Links.lean` keeps: the parts of the state outside its mask, and
the invariant. -/

namespace Sys2Proof.Machine
open Sys2Proof

theorem keep_loadCopper (s : State) : Keep 0x200000000 s (State.loadCopper s) := by
  unfold State.loadCopper
  repeat' first
    | intro _
    | with_reducible assumption
    | with_reducible exact Keep.refl _ _
    | (extract_lets +onlyGivenNames vv; clear_value vv)
    | extract_lets +onlyGivenNames vv
    | (simp -zeta only [keepAt_mk]; with_reducible refine keep_mk_copper ?_ ?_)
    | with_reducible refine keep_ite ?_ ?_
    | exact rfl

theorem keep_cutIngress (s : State) (f : Nat) : Keep 0x6000 s (State.cutIngress s f) := by
  unfold State.cutIngress
  repeat' first
    | intro _
    | with_reducible assumption
    | with_reducible exact Keep.refl _ _
    | (extract_lets +onlyGivenNames vv; have hv : Keep 0x6000 s vv; unfold vv; clear vv; rotate_left; try clear_value vv; rotate_left)
    | (extract_lets +onlyGivenNames vv; clear_value vv)
    | extract_lets +onlyGivenNames vv
    | (simp -zeta only [keepAt_mk]; with_reducible refine keep_mk_ingress ?_ ?_)
    | with_reducible refine keep_ite ?_ ?_
    | with_reducible apply Keep.step (keep_setPort _ _ _)
    | exact rfl
    | with_reducible refine keep_foldl (fun _ _ _ => ?_) _ ?_
    | with_reducible exact cellsWf_filter _ (by assumption) _
    | with_reducible exact cellsWf_cellSet _ (by assumption) _ _
    | with_reducible refine keep_snd (by with_reducible assumption) ?_
    | with_reducible refine keep_fst (by with_reducible assumption) ?_
    | split

theorem keep_linkTo (s : State) (f st : Nat) : Keep 0x30091083009fd5c3260 s (State.linkTo s f st) := by
  unfold State.linkTo
  repeat' first
    | intro _
    | with_reducible assumption
    | with_reducible exact Keep.refl _ _
    | (extract_lets +onlyGivenNames vv; have hv : Keep 0x30091083009fd5c3260 s vv; unfold vv; clear vv; rotate_left; try clear_value vv; rotate_left)
    | (extract_lets +onlyGivenNames vv; clear_value vv)
    | extract_lets +onlyGivenNames vv
    | (simp -zeta only [keepAt_mk]; with_reducible refine keep_mk_disc ?_ ?_)
    | with_reducible refine keep_ite ?_ ?_
    | with_reducible apply Keep.step (keep_couplerUpdate _)
    | with_reducible apply Keep.step (keep_raise _ _ _)
    | with_reducible apply Keep.step (keep_setLink _ _ _)
    | with_reducible apply Keep.step (keep_setReg _ _ _)
    | exact rfl

theorem keep_leaveUp (s : State) (f : Nat) : Keep 0x30091083009fd5c6260 s (State.leaveUp s f) := by
  unfold State.leaveUp
  repeat' first
    | intro _
    | with_reducible assumption
    | with_reducible exact Keep.refl _ _
    | (extract_lets +onlyGivenNames vv; clear_value vv)
    | extract_lets +onlyGivenNames vv
    | with_reducible refine keep_ite ?_ ?_
    | with_reducible apply Keep.step (keep_bump _ _)
    | with_reducible apply Keep.step (keep_cutIngress _ _)
    | with_reducible apply Keep.step (keep_faultUp _ _ _ _)
    | with_reducible apply Keep.step (keep_setReg _ _ _)
    | exact rfl

theorem keep_linkDown (s : State) (f : Nat) : Keep 0x30091083009fd5c7260 s (State.linkDown s f) := by
  unfold State.linkDown
  repeat' first
    | intro _
    | with_reducible assumption
    | with_reducible exact Keep.refl _ _
    | (extract_lets +onlyGivenNames vv; have hv : Keep 0x30091083009fd5c7260 s vv; unfold vv; clear vv; rotate_left; try clear_value vv; rotate_left)
    | (extract_lets +onlyGivenNames vv; clear_value vv)
    | extract_lets +onlyGivenNames vv
    | with_reducible refine keep_ite ?_ ?_
    | with_reducible apply Keep.step (keep_faultDown _ _)
    | with_reducible apply Keep.step (keep_leaveUp _ _)
    | with_reducible apply Keep.step (keep_linkTo _ _ _)
    | with_reducible apply Keep.step (keep_setReg _ _ _)
    | exact rfl

theorem keep_linkDisable (s : State) (f : Nat) : Keep 0x30091083009fd5c7260 s (State.linkDisable s f) := by
  unfold State.linkDisable
  repeat' first
    | intro _
    | with_reducible assumption
    | with_reducible exact Keep.refl _ _
    | (extract_lets +onlyGivenNames vv; clear_value vv)
    | extract_lets +onlyGivenNames vv
    | with_reducible refine keep_ite ?_ ?_
    | with_reducible apply Keep.step (keep_faultDown _ _)
    | with_reducible apply Keep.step (keep_linkDown _ _)
    | with_reducible apply Keep.step (keep_linkTo _ _ _)
    | exact rfl

theorem keep_attempt (s : State) (f m : Nat) : Keep 0x1100 s (State.attempt s f m) := by
  unfold State.attempt
  repeat' first
    | intro _
    | with_reducible assumption
    | with_reducible exact Keep.refl _ _
    | (extract_lets +onlyGivenNames vv; clear_value vv)
    | extract_lets +onlyGivenNames vv
    | with_reducible refine keep_ite ?_ ?_
    | with_reducible apply Keep.step (keep_fresh _)
    | with_reducible apply Keep.step (keep_setLink _ _ _)
    | exact rfl

theorem keep_tryLock (s : State) (f : Nat) : Keep 0x30091083009fd5c3360 s (State.tryLock s f) := by
  unfold State.tryLock
  repeat' first
    | intro _
    | with_reducible assumption
    | with_reducible exact Keep.refl _ _
    | (extract_lets +onlyGivenNames vv; clear_value vv)
    | extract_lets +onlyGivenNames vv
    | with_reducible refine keep_ite ?_ ?_
    | with_reducible apply Keep.step (keep_attempt _ _ _)
    | with_reducible apply Keep.step (keep_linkTo _ _ _)
    | exact rfl

theorem keep_wearPass (s old : State) (pin : Nat) : Keep 0x30091083009fd5c2260 s (State.wearPass s old pin) := by
  unfold State.wearPass
  try dsimp only
  repeat' first
    | intro _
    | with_reducible assumption
    | with_reducible exact Keep.refl _ _
    | with_reducible refine keep_ite ?_ ?_
    | with_reducible apply Keep.step (keep_logRecord _ _ _)
    | with_reducible apply Keep.step (keep_occur _ _ _ _)
    | exact rfl

theorem keep_bypPin (s : State) (pin : Nat) : Keep 0x30091083009fddc2260 s (State.bypPin s pin) := by
  unfold State.bypPin
  repeat' first
    | intro _
    | with_reducible assumption
    | with_reducible exact Keep.refl _ _
    | (extract_lets +onlyGivenNames vv; have hv : Keep 0x30091083009fddc2260 s vv; unfold vv; clear vv; rotate_left; try clear_value vv; rotate_left)
    | (extract_lets +onlyGivenNames vv; clear_value vv)
    | extract_lets +onlyGivenNames vv
    | (simp -zeta only [keepAt_mk]; with_reducible refine keep_mk_settleEnds ?_ ?_)
    | with_reducible refine keep_ite ?_ ?_
    | with_reducible apply Keep.step (keep_logRecord _ _ _)
    | with_reducible apply Keep.step (keep_setReg _ _ _)
    | with_reducible apply Keep.step (keep_wearPass _ _ _)
    | exact rfl

theorem keep_bypUpdate (s : State) : Keep 0x30091083009fddc2260 s (State.bypUpdate s) := by
  unfold State.bypUpdate
  repeat' first
    | intro _
    | with_reducible assumption
    | with_reducible exact Keep.refl _ _
    | (extract_lets +onlyGivenNames vv; clear_value vv)
    | extract_lets +onlyGivenNames vv
    | with_reducible refine keep_ite ?_ ?_
    | with_reducible apply Keep.step (keep_bypPin _ _)
    | exact rfl

theorem keep_execModulePresenceSample (f : Fin 4) (absent : Bool) (s : State) : KeepR 0x30091083009fd5c7260 s (execModulePresenceSample f absent s) := by
  unfold execModulePresenceSample
  repeat' first
    | intro _
    | with_reducible assumption
    | with_reducible exact Keep.refl _ _
    | (extract_lets +onlyGivenNames vv; clear_value vv)
    | extract_lets +onlyGivenNames vv
    | with_reducible refine keep_ite ?_ ?_
    | with_reducible apply Keep.step (keep_linkDown _ _)
    | with_reducible apply Keep.step (keep_setLink _ _ _)
    | with_reducible apply Keep.step (keep_setReg _ _ _)
    | exact rfl
    | with_reducible refine keepr_next ?_

theorem keep_execModuleStartupRead (f : Fin 4) (bytes : List Byte) (s : State) : KeepR 0x30091083089fd5c7266 s (execModuleStartupRead f bytes s) := by
  unfold execModuleStartupRead
  repeat' first
    | intro _
    | with_reducible assumption
    | with_reducible exact Keep.refl _ _
    | (extract_lets +onlyGivenNames vv; have hv : Keep 0x30091083089fd5c7266 s vv; unfold vv; clear vv; rotate_left; try clear_value vv; rotate_left)
    | (extract_lets +onlyGivenNames vv; clear_value vv)
    | extract_lets +onlyGivenNames vv
    | with_reducible refine keep_ite ?_ ?_
    | with_reducible apply Keep.step (keep_linkDown _ _)
    | with_reducible apply Keep.step (keep_occur _ _ _ _)
    | with_reducible apply Keep.step (keep_setLink _ _ _)
    | with_reducible apply Keep.step (keep_setReg _ _ _)
    | with_reducible apply Keep.step (keep_until _ _)
    | exact rfl
    | with_reducible refine keepr_next ?_
    | with_reducible exact keepr_fault
    | with_reducible refine keepr_ite ?_ ?_
    | with_reducible refine keep_foldl (fun _ _ _ => ?_) _ ?_
    | with_reducible exact cellsWf_filter _ (by assumption) _
    | with_reducible exact cellsWf_cellSet _ (by assumption) _ _
    | with_reducible refine keep_snd (by with_reducible assumption) ?_
    | with_reducible refine keep_fst (by with_reducible assumption) ?_
    | split

theorem keep_execModuleLosChange (f : Fin 4) (los : Bool) (s : State) : KeepR 0x30091083009fd5c7260 s (execModuleLosChange f los s) := by
  unfold execModuleLosChange
  repeat' first
    | intro _
    | with_reducible assumption
    | with_reducible exact Keep.refl _ _
    | (extract_lets +onlyGivenNames vv; have hv : Keep 0x30091083009fd5c7260 s vv; unfold vv; clear vv; rotate_left; try clear_value vv; rotate_left)
    | (extract_lets +onlyGivenNames vv; clear_value vv)
    | extract_lets +onlyGivenNames vv
    | with_reducible refine keep_ite ?_ ?_
    | with_reducible apply Keep.step (keep_linkDown _ _)
    | with_reducible apply Keep.step (keep_setReg _ _ _)
    | exact rfl
    | with_reducible refine keepr_next ?_

theorem keep_holdoff (s : State) (f : Nat) (txFault : Bool) : Keep 0x30091083009fd5c3260 s (State.holdoff s f txFault) := by
  unfold State.holdoff
  repeat' first
    | intro _
    | with_reducible assumption
    | with_reducible exact Keep.refl _ _
    | (extract_lets +onlyGivenNames vv; clear_value vv)
    | extract_lets +onlyGivenNames vv
    | with_reducible refine keep_ite ?_ ?_
    | with_reducible apply Keep.step (keep_linkTo _ _ _)
    | with_reducible apply Keep.step (keep_setLink _ _ _)
    | exact rfl

theorem keep_execModuleTxFault (f : Fin 4) (s : State) : KeepR 0x30091083009fd5c7260 s (execModuleTxFault f s) := by
  unfold execModuleTxFault
  repeat' first
    | intro _
    | with_reducible assumption
    | with_reducible exact Keep.refl _ _
    | (extract_lets +onlyGivenNames vv; have hv : Keep 0x30091083009fd5c7260 s vv; unfold vv; clear vv; rotate_left; try clear_value vv; rotate_left)
    | (extract_lets +onlyGivenNames vv; clear_value vv)
    | extract_lets +onlyGivenNames vv
    | with_reducible refine keep_ite ?_ ?_
    | with_reducible apply Keep.step (keep_faultUp _ _ _ _)
    | with_reducible apply Keep.step (keep_holdoff _ _ _)
    | with_reducible apply Keep.step (keep_linkDown _ _)
    | with_reducible apply Keep.step (keep_setReg _ _ _)
    | exact rfl
    | with_reducible refine keepr_next ?_

theorem keep_execModuleDiagPoll (f : Fin 4) (bytes : List Byte) (s : State) : KeepR 0x30091083089fd5c3266 s (execModuleDiagPoll f bytes s) := by
  unfold execModuleDiagPoll
  repeat' first
    | intro _
    | with_reducible assumption
    | with_reducible exact Keep.refl _ _
    | (extract_lets +onlyGivenNames vv; have hv : Keep 0x30091083089fd5c3266 s vv; unfold vv; clear vv; rotate_left; try clear_value vv; rotate_left)
    | (extract_lets +onlyGivenNames vv; clear_value vv)
    | extract_lets +onlyGivenNames vv
    | with_reducible refine keep_ite ?_ ?_
    | with_reducible apply Keep.step (keep_faultLevel _ _ _ _ _)
    | with_reducible apply Keep.step (keep_setLink _ _ _)
    | with_reducible apply Keep.step (keep_setReg _ _ _)
    | with_reducible apply Keep.step (keep_until _ _)
    | exact rfl
    | with_reducible refine keepr_next ?_

theorem keep_portEnable (s : State) (f v : Nat) : Keep 0x30091083009fddc7260 s (State.portEnable s f v) := by
  unfold State.portEnable
  repeat' first
    | intro _
    | with_reducible assumption
    | with_reducible exact Keep.refl _ _
    | (extract_lets +onlyGivenNames vv; have hv : Keep 0x30091083009fddc7260 s vv; unfold vv; clear vv; rotate_left; try clear_value vv; rotate_left)
    | (extract_lets +onlyGivenNames vv; clear_value vv)
    | extract_lets +onlyGivenNames vv
    | with_reducible refine keep_ite ?_ ?_
    | with_reducible apply Keep.step (keep_bypUpdate _)
    | with_reducible apply Keep.step (keep_linkDisable _ _)
    | with_reducible apply Keep.step (keep_linkTo _ _ _)
    | with_reducible apply Keep.step (keep_store _ _ _)
    | exact rfl

theorem keep_execPortEnableWrite (w : Writer) (f : Fin 4) (v : Nat) (s : State) : KeepR 0xb0091883009fddc76e0 s (execPortEnableWrite w f v s) := by
  unfold execPortEnableWrite
  repeat' first
    | intro _
    | with_reducible assumption
    | with_reducible exact Keep.refl _ _
    | (extract_lets +onlyGivenNames vv; clear_value vv)
    | extract_lets +onlyGivenNames vv
    | with_reducible refine keep_ite ?_ ?_
    | with_reducible apply Keep.step (keep_portEnable _ _ _)
    | with_reducible apply Keep.step (n := 0xb0091883009fddc76e0) (keep_write _ _ _ _ _ _ ?_ ?_)
    | with_reducible apply Keep.step (keep_id _)
    | exact rfl
    | with_reducible refine keepr_next ?_

theorem keep_execPortSettingWrite (w : Writer) (f : Fin 4) (which : PortSetting) (v : Nat) (s : State) : KeepR 0xb0091883009fd5c76e0 s (execPortSettingWrite w f which v s) := by
  unfold execPortSettingWrite
  repeat' first
    | intro _
    | with_reducible assumption
    | with_reducible exact Keep.refl _ _
    | (extract_lets +onlyGivenNames vv; clear_value vv)
    | extract_lets +onlyGivenNames vv
    | with_reducible refine keep_ite ?_ ?_
    | with_reducible apply Keep.step (keep_linkDown _ _)
    | with_reducible apply Keep.step (keep_store _ _ _)
    | with_reducible apply Keep.step (n := 0xb0091883009fd5c76e0) (keep_write _ _ _ _ _ _ ?_ ?_)
    | with_reducible apply Keep.step (keep_id _)
    | exact rfl
    | with_reducible refine keepr_next ?_

theorem keep_retryVersions (s : State) : Keep 0x30091083009fd5c7260 s (State.retryVersions s) := by
  unfold State.retryVersions
  repeat' first
    | intro _
    | with_reducible assumption
    | with_reducible exact Keep.refl _ _
    | (extract_lets +onlyGivenNames vv; clear_value vv)
    | extract_lets +onlyGivenNames vv
    | with_reducible refine keep_ite ?_ ?_
    | with_reducible apply Keep.step (keep_linkDown _ _)
    | exact rfl
    | with_reducible refine keep_foldl (fun _ _ _ => ?_) _ ?_

theorem keep_execVersionRangeWrite (w : Writer) (max : Bool) (v : Nat) (s : State) : KeepR 0xb0091883009fd5c76e0 s (execVersionRangeWrite w max v s) := by
  unfold execVersionRangeWrite
  try dsimp only
  repeat' first
    | intro _
    | with_reducible assumption
    | with_reducible exact Keep.refl _ _
    | with_reducible refine keep_ite ?_ ?_
    | with_reducible apply Keep.step (keep_retryVersions _)
    | with_reducible apply Keep.step (keep_store _ _ _)
    | with_reducible apply Keep.step (n := 0xb0091883009fd5c76e0) (keep_write _ _ _ _ _ _ ?_ ?_)
    | with_reducible apply Keep.step (keep_id _)
    | exact rfl
    | with_reducible refine keepr_next ?_

theorem keep_execSignalDetected (f : Fin 4) (s : State) : KeepR 0x30091083009fd5c3360 s (execSignalDetected f s) := by
  unfold execSignalDetected
  repeat' first
    | intro _
    | with_reducible assumption
    | with_reducible exact Keep.refl _ _
    | (extract_lets +onlyGivenNames vv; clear_value vv)
    | extract_lets +onlyGivenNames vv
    | with_reducible refine keep_ite ?_ ?_
    | with_reducible apply Keep.step (keep_setLink _ _ _)
    | with_reducible apply Keep.step (keep_tryLock _ _)
    | exact rfl
    | with_reducible refine keepr_next ?_

theorem keep_execSignalLost (f : Fin 4) (s : State) : KeepR 0x30091083009fd5c7260 s (execSignalLost f s) := by
  unfold execSignalLost
  repeat' first
    | intro _
    | with_reducible assumption
    | with_reducible exact Keep.refl _ _
    | (extract_lets +onlyGivenNames vv; have hv : Keep 0x30091083009fd5c7260 s vv; unfold vv; clear vv; rotate_left; try clear_value vv; rotate_left)
    | (extract_lets +onlyGivenNames vv; clear_value vv)
    | extract_lets +onlyGivenNames vv
    | with_reducible refine keep_ite ?_ ?_
    | with_reducible apply Keep.step (keep_linkDown _ _)
    | with_reducible apply Keep.step (keep_setLink _ _ _)
    | exact rfl
    | with_reducible refine keepr_next ?_

theorem keep_execBlockLock (f : Fin 4) (s : State) : KeepR 0x30091083009fd5c3260 s (execBlockLock f s) := by
  unfold execBlockLock
  repeat' first
    | intro _
    | with_reducible assumption
    | with_reducible exact Keep.refl _ _
    | (extract_lets +onlyGivenNames vv; clear_value vv)
    | extract_lets +onlyGivenNames vv
    | with_reducible refine keep_ite ?_ ?_
    | with_reducible apply Keep.step (keep_linkTo _ _ _)
    | with_reducible apply Keep.step (keep_setLink _ _ _)
    | with_reducible apply Keep.step (keep_setReg _ _ _)
    | exact rfl
    | with_reducible refine keepr_next ?_

theorem keep_execModeAttemptExpiry (f : Fin 4) (s : State) : KeepR 0x8000001106 s (execModeAttemptExpiry f s) := by
  unfold execModeAttemptExpiry
  repeat' first
    | intro _
    | with_reducible assumption
    | with_reducible exact Keep.refl _ _
    | (extract_lets +onlyGivenNames vv; clear_value vv)
    | extract_lets +onlyGivenNames vv
    | with_reducible refine keep_ite ?_ ?_
    | with_reducible apply Keep.step (keep_attempt _ _ _)
    | with_reducible apply Keep.step (keep_until _ _)
    | exact rfl
    | with_reducible refine keepr_next ?_

theorem keep_execLinkHelloSend (f : Fin 4) (s : State) : KeepR 0x8000403046 s (execLinkHelloSend f s) := by
  unfold execLinkHelloSend
  repeat' first
    | intro _
    | with_reducible assumption
    | with_reducible exact Keep.refl _ _
    | (extract_lets +onlyGivenNames vv; have hv : Keep 0x8000403046 s vv; unfold vv; clear vv; rotate_left; try clear_value vv; rotate_left)
    | (extract_lets +onlyGivenNames vv; clear_value vv)
    | extract_lets +onlyGivenNames vv
    | with_reducible refine keep_ite ?_ ?_
    | with_reducible apply Keep.step (keep_enqueue _ _ _)
    | with_reducible apply Keep.step (keep_sendTie _ _)
    | with_reducible apply Keep.step (keep_setLink _ _ _)
    | with_reducible apply Keep.step (keep_until _ _)
    | exact rfl
    | with_reducible refine keepr_next ?_
    | with_reducible exact keepr_fault
    | with_reducible refine keepr_ite ?_ ?_
    | with_reducible refine keep_foldl (fun _ _ _ => ?_) _ ?_
    | with_reducible exact cellsWf_filter _ (by assumption) _
    | with_reducible exact cellsWf_cellSet _ (by assumption) _ _
    | with_reducible refine keep_snd (by with_reducible assumption) ?_
    | with_reducible refine keep_fst (by with_reducible assumption) ?_
    | split

theorem keep_linkUp (s : State) (f ver : Nat) : Keep 0x3009108300bfd5c3260 s (State.linkUp s f ver) := by
  unfold State.linkUp
  repeat' first
    | intro _
    | with_reducible assumption
    | with_reducible exact Keep.refl _ _
    | (extract_lets +onlyGivenNames vv; have hv : Keep 0x3009108300bfd5c3260 s vv; unfold vv; clear vv; rotate_left; try clear_value vv; rotate_left)
    | (extract_lets +onlyGivenNames vv; clear_value vv)
    | extract_lets +onlyGivenNames vv
    | (simp -zeta only [keepAt_mk]; with_reducible refine keep_mk_tie ?_ ?_)
    | with_reducible refine keep_ite ?_ ?_
    | with_reducible apply Keep.step (keep_faultDown _ _)
    | with_reducible apply Keep.step (keep_linkTo _ _ _)
    | with_reducible apply Keep.step (keep_loadCopper _)
    | with_reducible apply Keep.step (keep_setLink _ _ _)
    | with_reducible apply Keep.step (keep_setReg _ _ _)
    | exact rfl

theorem keep_execLinkHelloReceived (f : Fin 4) (hello : Frame) (s : State) : KeepR 0x3009108300bfd5c7260 s (execLinkHelloReceived f hello s) := by
  unfold execLinkHelloReceived
  repeat' first
    | intro _
    | with_reducible assumption
    | with_reducible exact Keep.refl _ _
    | (extract_lets +onlyGivenNames vv; have hv : Keep 0x3009108300bfd5c7260 s vv; unfold vv; clear vv; rotate_left; try clear_value vv; rotate_left)
    | (extract_lets +onlyGivenNames vv; clear_value vv)
    | extract_lets +onlyGivenNames vv
    | with_reducible refine keep_ite ?_ ?_
    | with_reducible apply Keep.step (keep_bump _ _)
    | with_reducible apply Keep.step (keep_faultUp _ _ _ _)
    | with_reducible apply Keep.step (keep_linkDown _ _)
    | with_reducible apply Keep.step (keep_linkTo _ _ _)
    | with_reducible apply Keep.step (keep_linkUp _ _ _)
    | with_reducible apply Keep.step (keep_setLink _ _ _)
    | with_reducible apply Keep.step (keep_setReg _ _ _)
    | exact rfl
    | with_reducible refine keepr_next ?_
    | with_reducible exact keepr_fault
    | with_reducible refine keepr_ite ?_ ?_
    | with_reducible refine keep_foldl (fun _ _ _ => ?_) _ ?_
    | with_reducible exact cellsWf_filter _ (by assumption) _
    | with_reducible exact cellsWf_cellSet _ (by assumption) _ _
    | with_reducible refine keep_snd (by with_reducible assumption) ?_
    | with_reducible refine keep_fst (by with_reducible assumption) ?_
    | split

theorem keep_execHelloTimeout (f : Fin 4) (s : State) : KeepR 0x30091083089fd5c3266 s (execHelloTimeout f s) := by
  unfold execHelloTimeout
  repeat' first
    | intro _
    | with_reducible assumption
    | with_reducible exact Keep.refl _ _
    | (extract_lets +onlyGivenNames vv; have hv : Keep 0x30091083089fd5c3266 s vv; unfold vv; clear vv; rotate_left; try clear_value vv; rotate_left)
    | (extract_lets +onlyGivenNames vv; clear_value vv)
    | extract_lets +onlyGivenNames vv
    | with_reducible refine keep_ite ?_ ?_
    | with_reducible apply Keep.step (keep_bump _ _)
    | with_reducible apply Keep.step (keep_holdoff _ _ _)
    | with_reducible apply Keep.step (keep_setLink _ _ _)
    | with_reducible apply Keep.step (keep_until _ _)
    | exact rfl
    | with_reducible refine keepr_next ?_

theorem keep_execKeepaliveTimeout (f : Fin 4) (s : State) : KeepR 0x30091083089fd5c7266 s (execKeepaliveTimeout f s) := by
  unfold execKeepaliveTimeout
  repeat' first
    | intro _
    | with_reducible assumption
    | with_reducible exact Keep.refl _ _
    | (extract_lets +onlyGivenNames vv; clear_value vv)
    | extract_lets +onlyGivenNames vv
    | with_reducible refine keep_ite ?_ ?_
    | with_reducible apply Keep.step (keep_linkDown _ _)
    | with_reducible apply Keep.step (keep_until _ _)
    | exact rfl
    | with_reducible refine keepr_next ?_

theorem keep_execHoldoffExpiry (f : Fin 4) (s : State) : KeepR 0x30091083089fd5c3266 s (execHoldoffExpiry f s) := by
  unfold execHoldoffExpiry
  repeat' first
    | intro _
    | with_reducible assumption
    | with_reducible exact Keep.refl _ _
    | (extract_lets +onlyGivenNames vv; have hv : Keep 0x30091083089fd5c3266 s vv; unfold vv; clear vv; rotate_left; try clear_value vv; rotate_left)
    | (extract_lets +onlyGivenNames vv; clear_value vv)
    | extract_lets +onlyGivenNames vv
    | with_reducible refine keep_ite ?_ ?_
    | with_reducible apply Keep.step (keep_linkTo _ _ _)
    | with_reducible apply Keep.step (keep_setLink _ _ _)
    | with_reducible apply Keep.step (keep_until _ _)
    | exact rfl
    | with_reducible refine keepr_next ?_

theorem keep_setDup (s : State) (a : Nat) (e : Option DupEntry) : Keep 0x200000 s (State.setDup s a e) := by
  unfold State.setDup
  repeat' first
    | intro _
    | with_reducible assumption
    | with_reducible exact Keep.refl _ _
    | (extract_lets +onlyGivenNames vv; clear_value vv)
    | extract_lets +onlyGivenNames vv
    | (simp -zeta only [keepAt_mk]; with_reducible refine keep_mk_dups ?_ ?_)
    | with_reducible refine keep_ite ?_ ?_
    | exact rfl

theorem keep_evictForeign (s : State) : Keep 0x200040 s (State.evictForeign s) := by
  unfold State.evictForeign
  repeat' first
    | intro _
    | with_reducible assumption
    | with_reducible exact Keep.refl _ _
    | (extract_lets +onlyGivenNames vv; clear_value vv)
    | extract_lets +onlyGivenNames vv
    | with_reducible refine keep_ite ?_ ?_
    | with_reducible apply Keep.step (keep_bump _ _)
    | with_reducible apply Keep.step (keep_setDup _ _ _)
    | exact rfl
    | with_reducible refine keep_foldl (fun _ _ _ => ?_) _ ?_
    | with_reducible exact cellsWf_filter _ (by assumption) _
    | with_reducible exact cellsWf_cellSet _ (by assumption) _ _
    | with_reducible refine keep_snd (by with_reducible assumption) ?_
    | with_reducible refine keep_fst (by with_reducible assumption) ?_
    | split

theorem keep_execDupEntryAgeExpiry (station : Fin 65536) (s : State) : KeepR 0x8000200006 s (execDupEntryAgeExpiry station s) := by
  unfold execDupEntryAgeExpiry
  repeat' first
    | intro _
    | with_reducible assumption
    | with_reducible exact Keep.refl _ _
    | (extract_lets +onlyGivenNames vv; clear_value vv)
    | extract_lets +onlyGivenNames vv
    | with_reducible refine keep_ite ?_ ?_
    | with_reducible apply Keep.step (keep_setDup _ _ _)
    | with_reducible apply Keep.step (keep_until _ _)
    | exact rfl
    | with_reducible refine keepr_next ?_
    | with_reducible exact keepr_fault
    | with_reducible refine keepr_ite ?_ ?_
    | with_reducible refine keep_foldl (fun _ _ _ => ?_) _ ?_
    | with_reducible exact cellsWf_filter _ (by assumption) _
    | with_reducible exact cellsWf_cellSet _ (by assumption) _ _
    | with_reducible refine keep_snd (by with_reducible assumption) ?_
    | with_reducible refine keep_fst (by with_reducible assumption) ?_
    | split

theorem keep_timeTransit (s : State) (f : Nat) (fr : Frame) : Keep 0x100 s (State.timeTransit s f fr).2 := by
  unfold State.timeTransit
  repeat' first
    | intro _
    | with_reducible assumption
    | with_reducible exact Keep.refl _ _
    | (extract_lets +onlyGivenNames vv; clear_value vv)
    | extract_lets +onlyGivenNames vv
    | with_reducible refine keep_ite ?_ ?_
    | with_reducible apply Keep.step (keep_fresh _)
    | exact rfl
    | with_reducible refine keep_foldl (fun _ _ _ => ?_) _ ?_
    | with_reducible exact cellsWf_filter _ (by assumption) _
    | with_reducible exact cellsWf_cellSet _ (by assumption) _ _
    | with_reducible refine keep_snd (by with_reducible assumption) ?_
    | with_reducible refine keep_fst (by with_reducible assumption) ?_
    | split

theorem keep_forward (s : State) (f o : Nat) (fr : Frame) (bytes : Nat) : Keep 0x2140 s (State.forward s f o fr bytes).2 := by
  unfold State.forward
  repeat' first
    | intro _
    | with_reducible assumption
    | with_reducible exact Keep.refl _ _
    | (extract_lets +onlyGivenNames vv; clear_value vv)
    | extract_lets +onlyGivenNames vv
    | with_reducible refine keep_ite ?_ ?_
    | with_reducible apply Keep.step (keep_bump _ _)
    | with_reducible apply Keep.step (keep_enqueue _ _ _)
    | with_reducible apply Keep.step (keep_setCount _ _ _)
    | with_reducible apply Keep.step (keep_timeTransit _ _ _)
    | exact rfl
    | with_reducible refine keep_foldl (fun _ _ _ => ?_) _ ?_
    | with_reducible exact cellsWf_filter _ (by assumption) _
    | with_reducible exact cellsWf_cellSet _ (by assumption) _ _
    | with_reducible refine keep_snd (by with_reducible assumption) ?_
    | with_reducible refine keep_fst (by with_reducible assumption) ?_
    | split

theorem keep_execFrameHeaderReceived (f : Fin 4) (rx : WireFrame) (s : State) : KeepR 0x6140 s (execFrameHeaderReceived f rx s) := by
  unfold execFrameHeaderReceived
  try dsimp only
  repeat' first
    | intro _
    | with_reducible assumption
    | with_reducible exact Keep.refl _ _
    | (simp -zeta only [keepAt_mk]; with_reducible refine keep_mk_ingress ?_ ?_)
    | with_reducible refine keep_ite ?_ ?_
    | with_reducible apply Keep.step (keep_bump _ _)
    | with_reducible apply Keep.step (keep_forward _ _ _ _ _)
    | exact rfl
    | with_reducible refine keepr_next ?_

theorem keep_finishTransit (s : State) (f : Nat) (rx : WireFrame) (stomp : Bool) : Keep 0x2000 s (State.finishTransit s f rx stomp) := by
  unfold State.finishTransit
  repeat' first
    | intro _
    | with_reducible assumption
    | with_reducible exact Keep.refl _ _
    | (extract_lets +onlyGivenNames vv; clear_value vv)
    | extract_lets +onlyGivenNames vv
    | with_reducible refine keep_ite ?_ ?_
    | with_reducible apply Keep.step (keep_setPort _ _ _)
    | exact rfl

theorem keep_handOver (s : State) (a : SwArrival) : Keep 0x10000000020040 s (State.handOver s a) := by
  unfold State.handOver
  repeat' first
    | intro _
    | with_reducible assumption
    | with_reducible exact Keep.refl _ _
    | (extract_lets +onlyGivenNames vv; clear_value vv)
    | extract_lets +onlyGivenNames vv
    | (simp -zeta only [keepAt_mk]; first | with_reducible refine keep_mk_sw ?_ ?_ | with_reducible refine keep_mk_landing_sw ?_ ?_)
    | with_reducible refine keep_ite ?_ ?_
    | with_reducible apply Keep.step (keep_bump _ _)
    | exact rfl

theorem keep_deliver (s : State) (f : Nat) (fr : Frame) (bytes : Nat) : Keep 0x10000000030040 s (State.deliver s f fr bytes) := by
  unfold State.deliver
  repeat' first
    | intro _
    | with_reducible assumption
    | with_reducible exact Keep.refl _ _
    | (extract_lets +onlyGivenNames vv; have hv : Keep 0x10000000030040 s vv; unfold vv; clear vv; rotate_left; try clear_value vv; rotate_left)
    | (extract_lets +onlyGivenNames vv; clear_value vv)
    | extract_lets +onlyGivenNames vv
    | (simp -zeta only [keepAt_mk]; with_reducible refine keep_mk_inbox ?_ ?_)
    | with_reducible refine keep_ite ?_ ?_
    | with_reducible apply Keep.step (keep_handOver _ _)
    | exact rfl

theorem keep_frameIn (s : State) (f : Nat) (fr : Frame) (bytes : Nat) : Keep 0x10000000230040 s (State.frameIn s f fr bytes) := by
  unfold State.frameIn
  repeat' first
    | intro _
    | with_reducible assumption
    | with_reducible exact Keep.refl _ _
    | (extract_lets +onlyGivenNames vv; have hv : Keep 0x10000000230040 s vv; unfold vv; clear vv; rotate_left; try clear_value vv; rotate_left)
    | (extract_lets +onlyGivenNames vv; clear_value vv)
    | extract_lets +onlyGivenNames vv
    | with_reducible refine keep_ite ?_ ?_
    | with_reducible apply Keep.step (keep_bump _ _)
    | with_reducible apply Keep.step (keep_deliver _ _ _ _)
    | with_reducible apply Keep.step (keep_evictForeign _)
    | with_reducible apply Keep.step (keep_setDup _ _ _)
    | exact rfl
    | with_reducible refine keep_foldl (fun _ _ _ => ?_) _ ?_
    | with_reducible exact cellsWf_filter _ (by assumption) _
    | with_reducible exact cellsWf_cellSet _ (by assumption) _ _
    | with_reducible refine keep_snd (by with_reducible assumption) ?_
    | with_reducible refine keep_fst (by with_reducible assumption) ?_
    | split

theorem keep_freeCredits (s : State) (fr : Frame) (bytes : Nat) : Keep 0x400000 s (State.freeCredits s fr bytes) := by
  unfold State.freeCredits
  repeat' first
    | intro _
    | with_reducible assumption
    | with_reducible exact Keep.refl _ _
    | (extract_lets +onlyGivenNames vv; clear_value vv)
    | extract_lets +onlyGivenNames vv
    | (simp -zeta only [keepAt_mk]; with_reducible refine keep_mk_tie ?_ ?_)
    | with_reducible refine keep_ite ?_ ?_
    | exact rfl

theorem keep_receiveOff (s : State) (f : Nat) (rx : WireFrame) : Keep 0x10000000630040 s (State.receiveOff s f rx) := by
  unfold State.receiveOff
  repeat' first
    | intro _
    | with_reducible assumption
    | with_reducible exact Keep.refl _ _
    | (extract_lets +onlyGivenNames vv; have hv : Keep 0x10000000630040 s vv; unfold vv; clear vv; rotate_left; try clear_value vv; rotate_left)
    | (extract_lets +onlyGivenNames vv; clear_value vv)
    | extract_lets +onlyGivenNames vv
    | (simp -zeta only [keepAt_mk]; with_reducible refine keep_mk_inbox ?_ ?_)
    | with_reducible refine keep_ite ?_ ?_
    | with_reducible apply Keep.step (keep_bump _ _)
    | with_reducible apply Keep.step (keep_frameIn _ _ _ _)
    | with_reducible apply Keep.step (keep_freeCredits _ _ _)
    | exact rfl

theorem keep_receiveWhole (s : State) (f : Nat) (rx : WireFrame) (i : Option Ingress) : Keep 0x10000000632040 s (State.receiveWhole s f rx i) := by
  unfold State.receiveWhole
  repeat' first
    | intro _
    | with_reducible assumption
    | with_reducible exact Keep.refl _ _
    | (extract_lets +onlyGivenNames vv; have hv : Keep 0x10000000632040 s vv; unfold vv; clear vv; rotate_left; try clear_value vv; rotate_left)
    | (extract_lets +onlyGivenNames vv; clear_value vv)
    | extract_lets +onlyGivenNames vv
    | (simp -zeta only [keepAt_mk]; with_reducible refine keep_mk_inbox ?_ ?_)
    | with_reducible refine keep_ite ?_ ?_
    | with_reducible apply Keep.step (keep_addCount _ _ _)
    | with_reducible apply Keep.step (keep_bump _ _)
    | with_reducible apply Keep.step (keep_finishTransit _ _ _ _)
    | with_reducible apply Keep.step (keep_frameIn _ _ _ _)
    | with_reducible apply Keep.step (keep_receiveOff _ _ _)
    | exact rfl
    | with_reducible refine keep_foldl (fun _ _ _ => ?_) _ ?_
    | with_reducible exact cellsWf_filter _ (by assumption) _
    | with_reducible exact cellsWf_cellSet _ (by assumption) _ _
    | with_reducible refine keep_snd (by with_reducible assumption) ?_
    | with_reducible refine keep_fst (by with_reducible assumption) ?_
    | split

theorem keep_execFrameEndReceived (f : Fin 4) (rx : WireFrame) (s : State) : KeepR 0x10000000636040 s (execFrameEndReceived f rx s) := by
  unfold execFrameEndReceived
  repeat' first
    | intro _
    | with_reducible assumption
    | with_reducible exact Keep.refl _ _
    | (extract_lets +onlyGivenNames vv; have hv : Keep 0x10000000636040 s vv; unfold vv; clear vv; rotate_left; try clear_value vv; rotate_left)
    | (extract_lets +onlyGivenNames vv; clear_value vv)
    | extract_lets +onlyGivenNames vv
    | (simp -zeta only [keepAt_mk]; with_reducible refine keep_mk_ingress ?_ ?_)
    | with_reducible refine keep_ite ?_ ?_
    | with_reducible apply Keep.step (keep_bump _ _)
    | with_reducible apply Keep.step (keep_finishTransit _ _ _ _)
    | with_reducible apply Keep.step (keep_receiveWhole _ _ _ _)
    | exact rfl
    | with_reducible refine keepr_next ?_
    | with_reducible exact keepr_fault
    | with_reducible refine keepr_ite ?_ ?_
    | with_reducible refine keep_foldl (fun _ _ _ => ?_) _ ?_
    | with_reducible exact cellsWf_filter _ (by assumption) _
    | with_reducible exact cellsWf_cellSet _ (by assumption) _ _
    | with_reducible refine keep_snd (by with_reducible assumption) ?_
    | with_reducible refine keep_fst (by with_reducible assumption) ?_
    | split

theorem keep_execFrameOriginate (fr : Frame) (s : State) : KeepR 0x30010000008005c2040 s (execFrameOriginate fr s) := by
  unfold execFrameOriginate
  repeat' first
    | intro _
    | with_reducible assumption
    | with_reducible exact Keep.refl _ _
    | (extract_lets +onlyGivenNames vv; clear_value vv)
    | extract_lets +onlyGivenNames vv
    | with_reducible refine keep_ite ?_ ?_
    | with_reducible apply Keep.step (keep_originate _ _)
    | with_reducible apply Keep.step (keep_sendTie _ _)
    | exact rfl
    | with_reducible refine keepr_next ?_

theorem keep_execOrigCapRelease (s : State) : KeepR 0x8000182046 s (execOrigCapRelease s) := by
  unfold execOrigCapRelease
  repeat' first
    | intro _
    | with_reducible assumption
    | with_reducible exact Keep.refl _ _
    | (extract_lets +onlyGivenNames vv; have hv : Keep 0x8000182046 s vv; unfold vv; clear vv; rotate_left; try clear_value vv; rotate_left)
    | (extract_lets +onlyGivenNames vv; clear_value vv)
    | extract_lets +onlyGivenNames vv
    | (simp -zeta only [keepAt_mk]; with_reducible refine keep_mk_origHeld ?_ ?_)
    | with_reducible refine keep_ite ?_ ?_
    | with_reducible apply Keep.step (keep_sendBoth _ _)
    | with_reducible apply Keep.step (keep_until _ _)
    | exact rfl
    | with_reducible refine keepr_next ?_
    | with_reducible exact keepr_fault
    | with_reducible refine keepr_ite ?_ ?_
    | with_reducible refine keep_foldl (fun _ _ _ => ?_) _ ?_
    | with_reducible exact cellsWf_filter _ (by assumption) _
    | with_reducible exact cellsWf_cellSet _ (by assumption) _ _
    | with_reducible refine keep_snd (by with_reducible assumption) ?_
    | with_reducible refine keep_fst (by with_reducible assumption) ?_
    | split

theorem keep_execEgressFrameDone (f : Fin 4) (s : State) : KeepR 0x80000000000a040 s (execEgressFrameDone f s) := by
  unfold execEgressFrameDone
  repeat' first
    | intro _
    | with_reducible assumption
    | with_reducible exact Keep.refl _ _
    | (extract_lets +onlyGivenNames vv; have hv : Keep 0x80000000000a040 s vv; unfold vv; clear vv; rotate_left; try clear_value vv; rotate_left)
    | (extract_lets +onlyGivenNames vv; clear_value vv)
    | extract_lets +onlyGivenNames vv
    | (simp -zeta only [keepAt_mk]; first | with_reducible refine keep_mk_sent ?_ ?_ | with_reducible refine keep_mk_writeSentAt ?_ ?_)
    | with_reducible refine keep_ite ?_ ?_
    | with_reducible apply Keep.step (keep_addCount _ _ _)
    | with_reducible apply Keep.step (keep_bump _ _)
    | with_reducible apply Keep.step (keep_setPort _ _ _)
    | exact rfl
    | with_reducible refine keepr_next ?_
    | with_reducible exact keepr_fault
    | with_reducible refine keepr_ite ?_ ?_
    | with_reducible refine keep_foldl (fun _ _ _ => ?_) _ ?_
    | with_reducible exact cellsWf_filter _ (by assumption) _
    | with_reducible exact cellsWf_cellSet _ (by assumption) _ _
    | with_reducible refine keep_snd (by with_reducible assumption) ?_
    | with_reducible refine keep_fst (by with_reducible assumption) ?_
    | split

theorem keep_copperFail (s : State) (detail : Nat) : Keep 0x3009108300bfddc2260 s (State.copperFail s detail) := by
  unfold State.copperFail
  repeat' first
    | intro _
    | with_reducible assumption
    | with_reducible exact Keep.refl _ _
    | (extract_lets +onlyGivenNames vv; clear_value vv)
    | extract_lets +onlyGivenNames vv
    | with_reducible refine keep_ite ?_ ?_
    | with_reducible apply Keep.step (keep_bypUpdate _)
    | with_reducible apply Keep.step (keep_faultUp _ _ _ _)
    | with_reducible apply Keep.step (keep_loadCopper _)
    | with_reducible apply Keep.step (keep_setReg _ _ _)
    | exact rfl

theorem keep_execCopperVote (what : CopperEvent) (s : State) : KeepR 0x3009108300bfddc2260 s (execCopperVote what s) := by
  unfold execCopperVote
  repeat' first
    | intro _
    | with_reducible assumption
    | with_reducible exact Keep.refl _ _
    | (extract_lets +onlyGivenNames vv; clear_value vv)
    | extract_lets +onlyGivenNames vv
    | with_reducible refine keep_ite ?_ ?_
    | with_reducible apply Keep.step (keep_bump _ _)
    | with_reducible apply Keep.step (keep_copperFail _ _)
    | exact rfl
    | with_reducible refine keepr_next ?_
    | with_reducible exact keepr_fault
    | with_reducible refine keepr_ite ?_ ?_
    | with_reducible refine keep_foldl (fun _ _ _ => ?_) _ ?_
    | with_reducible exact cellsWf_filter _ (by assumption) _
    | with_reducible exact cellsWf_cellSet _ (by assumption) _ _
    | with_reducible refine keep_snd (by with_reducible assumption) ?_
    | with_reducible refine keep_fst (by with_reducible assumption) ?_
    | split

theorem keep_execCopperSelftestDone (passed : Bool) (s : State) : KeepR 0x30091083009fddc2260 s (execCopperSelftestDone passed s) := by
  unfold execCopperSelftestDone
  repeat' first
    | intro _
    | with_reducible assumption
    | with_reducible exact Keep.refl _ _
    | (extract_lets +onlyGivenNames vv; have hv : Keep 0x30091083009fddc2260 s vv; unfold vv; clear vv; rotate_left; try clear_value vv; rotate_left)
    | (extract_lets +onlyGivenNames vv; clear_value vv)
    | extract_lets +onlyGivenNames vv
    | with_reducible refine keep_ite ?_ ?_
    | with_reducible apply Keep.step (keep_bypUpdate _)
    | with_reducible apply Keep.step (keep_faultDown _ _)
    | with_reducible apply Keep.step (keep_setReg _ _ _)
    | exact rfl
    | with_reducible refine keepr_next ?_

theorem keep_execBypCommandWrite (w : Writer) (v : Nat) (s : State) : KeepR 0xb0091883009fddc26e0 s (execBypCommandWrite w v s) := by
  unfold execBypCommandWrite
  repeat' first
    | intro _
    | with_reducible assumption
    | with_reducible exact Keep.refl _ _
    | (extract_lets +onlyGivenNames vv; clear_value vv)
    | extract_lets +onlyGivenNames vv
    | with_reducible refine keep_ite ?_ ?_
    | with_reducible apply Keep.step (keep_bypUpdate _)
    | with_reducible apply Keep.step (keep_store _ _ _)
    | with_reducible apply Keep.step (n := 0xb0091883009fddc26e0) (keep_write _ _ _ _ _ _ ?_ ?_)
    | with_reducible apply Keep.step (keep_id _)
    | exact rfl
    | with_reducible refine keepr_next ?_

theorem keep_execBypCyclesWrite (w : Writer) (pin : Fin 2) (v : Nat) (s : State) : KeepR 0xb0091883009fd5c26e0 s (execBypCyclesWrite w pin v s) := by
  unfold execBypCyclesWrite
  repeat' first
    | intro _
    | with_reducible assumption
    | with_reducible exact Keep.refl _ _
    | (extract_lets +onlyGivenNames vv; clear_value vv)
    | extract_lets +onlyGivenNames vv
    | with_reducible refine keep_ite ?_ ?_
    | with_reducible apply Keep.step (keep_logRecord _ _ _)
    | with_reducible apply Keep.step (keep_store _ _ _)
    | with_reducible apply Keep.step (keep_wearPass _ _ _)
    | with_reducible apply Keep.step (n := 0xb0091883009fd5c26e0) (keep_write _ _ _ _ _ _ ?_ ?_)
    | with_reducible apply Keep.step (keep_id _)
    | exact rfl
    | with_reducible refine keepr_next ?_

theorem keep_execRatedCyclesWrite (w : Writer) (warn : Bool) (v : Nat) (s : State) : KeepR 0xb0091883009fd5c26e0 s (execRatedCyclesWrite w warn v s) := by
  unfold execRatedCyclesWrite
  try dsimp only
  repeat' first
    | intro _
    | with_reducible assumption
    | with_reducible exact Keep.refl _ _
    | with_reducible refine keep_ite ?_ ?_
    | with_reducible apply Keep.step (keep_store _ _ _)
    | with_reducible apply Keep.step (keep_wearPass _ _ _)
    | with_reducible apply Keep.step (n := 0xb0091883009fd5c26e0) (keep_write _ _ _ _ _ _ ?_ ?_)
    | with_reducible apply Keep.step (keep_id _)
    | exact rfl
    | with_reducible refine keepr_next ?_

theorem keep_execSettleTimeExpiry (s : State) : KeepR 0x30091083089fddc3366 s (execSettleTimeExpiry s) := by
  unfold execSettleTimeExpiry
  repeat' first
    | intro _
    | with_reducible assumption
    | with_reducible exact Keep.refl _ _
    | (extract_lets +onlyGivenNames vv; have hv : Keep 0x30091083089fddc3366 s vv; unfold vv; clear vv; rotate_left; try clear_value vv; rotate_left)
    | (extract_lets +onlyGivenNames vv; clear_value vv)
    | extract_lets +onlyGivenNames vv
    | (simp -zeta only [keepAt_mk]; with_reducible refine keep_mk_settleEnds ?_ ?_)
    | with_reducible refine keep_ite ?_ ?_
    | with_reducible apply Keep.step (keep_tryLock _ _)
    | with_reducible apply Keep.step (keep_until _ _)
    | exact rfl
    | with_reducible refine keepr_next ?_
    | with_reducible exact keepr_fault
    | with_reducible refine keepr_ite ?_ ?_
    | with_reducible refine keep_foldl (fun _ _ _ => ?_) _ ?_
    | with_reducible exact cellsWf_filter _ (by assumption) _
    | with_reducible exact cellsWf_cellSet _ (by assumption) _ _
    | with_reducible refine keep_snd (by with_reducible assumption) ?_
    | with_reducible refine keep_fst (by with_reducible assumption) ?_
    | split

theorem keep_execCreditReturnTimeout (s : State) : KeepR 0x8000402046 s (execCreditReturnTimeout s) := by
  unfold execCreditReturnTimeout
  repeat' first
    | intro _
    | with_reducible assumption
    | with_reducible exact Keep.refl _ _
    | (extract_lets +onlyGivenNames vv; have hv : Keep 0x8000402046 s vv; unfold vv; clear vv; rotate_left; try clear_value vv; rotate_left)
    | (extract_lets +onlyGivenNames vv; clear_value vv)
    | extract_lets +onlyGivenNames vv
    | (simp -zeta only [keepAt_mk]; with_reducible refine keep_mk_tie ?_ ?_)
    | with_reducible refine keep_ite ?_ ?_
    | with_reducible apply Keep.step (keep_sendTie _ _)
    | with_reducible apply Keep.step (keep_until _ _)
    | exact rfl
    | with_reducible refine keepr_next ?_
    | with_reducible exact keepr_fault
    | with_reducible refine keepr_ite ?_ ?_
    | with_reducible refine keep_foldl (fun _ _ _ => ?_) _ ?_
    | with_reducible exact cellsWf_filter _ (by assumption) _
    | with_reducible exact cellsWf_cellSet _ (by assumption) _ _
    | with_reducible refine keep_snd (by with_reducible assumption) ?_
    | with_reducible refine keep_fst (by with_reducible assumption) ?_
    | split

theorem keep_releaseTie (l : List (TxEntry × Nat × Bool)) : ∀ (s : State), Keep 0x402000 s (releaseTie s l) := by
  induction l with
  | nil => intro s; exact Keep.refl _ _
  | cons a l ih =>
    obtain ⟨e, t, c⟩ := a
    intro s
    unfold releaseTie
    dsimp only
    refine keep_ite ?_ ?_
    · exact Keep.step (ih _) rfl (Keep.step (keep_enqueue _ _ _) rfl ((keep_mk_tie (Keep.refl _ _) rfl).keep))
    · exact (keep_mk_tie (Keep.refl _ _) rfl).keep

theorem keep_execCreditReceived (fr : Frame) (s : State) : KeepR 0x412000 s (execCreditReceived fr s) := by
  unfold execCreditReceived
  repeat' first
    | intro _
    | with_reducible assumption
    | with_reducible exact Keep.refl _ _
    | (extract_lets +onlyGivenNames vv; have hv : Keep 0x412000 s vv; unfold vv; clear vv; rotate_left; try clear_value vv; rotate_left)
    | (extract_lets +onlyGivenNames vv; clear_value vv)
    | extract_lets +onlyGivenNames vv
    | (simp -zeta only [keepAt_mk]; first | with_reducible refine keep_mk_tie ?_ ?_ | with_reducible refine keep_mk_inbox_tie ?_ ?_)
    | with_reducible refine keep_ite ?_ ?_
    | with_reducible apply Keep.step (keep_releaseTie _ _)
    | exact rfl
    | with_reducible refine keepr_next ?_

theorem keep_execCreditStallTimeout (s : State) : KeepR 0x8000400046 s (execCreditStallTimeout s) := by
  unfold execCreditStallTimeout
  repeat' first
    | intro _
    | with_reducible assumption
    | with_reducible exact Keep.refl _ _
    | (extract_lets +onlyGivenNames vv; have hv : Keep 0x8000400046 s vv; unfold vv; clear vv; rotate_left; try clear_value vv; rotate_left)
    | (extract_lets +onlyGivenNames vv; clear_value vv)
    | extract_lets +onlyGivenNames vv
    | (simp -zeta only [keepAt_mk]; with_reducible refine keep_mk_tie ?_ ?_)
    | with_reducible refine keep_ite ?_ ?_
    | with_reducible apply Keep.step (keep_addCount _ _ _)
    | with_reducible apply Keep.step (keep_until _ _)
    | exact rfl
    | with_reducible refine keepr_next ?_
    | with_reducible exact keepr_fault
    | with_reducible refine keepr_ite ?_ ?_
    | with_reducible refine keep_foldl (fun _ _ _ => ?_) _ ?_
    | with_reducible exact cellsWf_filter _ (by assumption) _
    | with_reducible exact cellsWf_cellSet _ (by assumption) _ _
    | with_reducible refine keep_snd (by with_reducible assumption) ?_
    | with_reducible refine keep_fst (by with_reducible assumption) ?_
    | split

theorem keep_linkClear (s : State) (v : Nat) : Keep 0x100000040 s (State.linkClear s v) := by
  unfold State.linkClear
  repeat' first
    | intro _
    | with_reducible assumption
    | with_reducible exact Keep.refl _ _
    | (extract_lets +onlyGivenNames vv; have hv : Keep 0x100000040 s vv; unfold vv; clear vv; rotate_left; try clear_value vv; rotate_left)
    | (extract_lets +onlyGivenNames vv; clear_value vv)
    | extract_lets +onlyGivenNames vv
    | with_reducible refine keep_ite ?_ ?_
    | with_reducible apply Keep.step (keep_clearIndex _ _)
    | with_reducible apply Keep.step (keep_logRecord _ _ _)
    | exact rfl
    | with_reducible refine keep_foldl (fun _ _ _ => ?_) _ ?_

theorem keep_execLinkCounterClearPort (w : Writer) (v : Nat) (s : State) : KeepR 0xb0090800009005c26c0 s (execLinkCounterClearPort w v s) := by
  unfold execLinkCounterClearPort
  repeat' first
    | intro _
    | with_reducible assumption
    | with_reducible exact Keep.refl _ _
    | (extract_lets +onlyGivenNames vv; clear_value vv)
    | extract_lets +onlyGivenNames vv
    | with_reducible refine keep_ite ?_ ?_
    | with_reducible apply Keep.step (keep_linkClear _ _)
    | with_reducible apply Keep.step (n := 0xb0090800009005c26c0) (keep_write _ _ _ _ _ _ ?_ ?_)
    | with_reducible apply Keep.step (keep_id _)
    | exact rfl
    | with_reducible refine keepr_next ?_

theorem keep_execLinkCounterClearGlobal (w : Writer) (v : Nat) (s : State) : KeepR 0xb0090800009005c26c0 s (execLinkCounterClearGlobal w v s) := by
  unfold execLinkCounterClearGlobal
  repeat' first
    | intro _
    | with_reducible assumption
    | with_reducible exact Keep.refl _ _
    | (extract_lets +onlyGivenNames vv; clear_value vv)
    | extract_lets +onlyGivenNames vv
    | with_reducible refine keep_ite ?_ ?_
    | with_reducible apply Keep.step (keep_linkClear _ _)
    | with_reducible apply Keep.step (n := 0xb0090800009005c26c0) (keep_write _ _ _ _ _ _ ?_ ?_)
    | with_reducible apply Keep.step (keep_id _)
    | exact rfl
    | with_reducible refine keepr_next ?_

end Sys2Proof.Machine
end

