-- ==== Sys2Proof/Laws/KeepMap.lean ====
section
/-! SUPPORT. What each operation and each command of `Machine/Map.lean` keeps: the parts of the state outside its mask, and
the invariant. -/

namespace Sys2Proof.Machine
open Sys2Proof

theorem keep_mapReport (s : State) : Keep 0x30091083019fd5c2260 s (State.mapReport s) := by
  unfold State.mapReport
  repeat' first
    | intro _
    | with_reducible assumption
    | with_reducible exact Keep.refl _ _
    | (extract_lets +onlyGivenNames vv; clear_value vv)
    | extract_lets +onlyGivenNames vv
    | (simp -zeta only [keepAt_mk]; with_reducible refine keep_mk_img ?_ ?_)
    | with_reducible refine keep_ite ?_ ?_
    | with_reducible apply Keep.step (keep_faultLevel _ _ _ _ _)
    | with_reducible apply Keep.step (keep_setReg _ _ _)
    | exact rfl

theorem keep_mapRebuild (s : State) : Keep 0x30091083039fd5c2260 s (State.mapRebuild s) := by
  unfold State.mapRebuild
  try dsimp only
  repeat' first
    | intro _
    | with_reducible assumption
    | with_reducible exact Keep.refl _ _
    | (simp -zeta only [keepAt_mk]; first | with_reducible refine keep_mk_img ?_ ?_ | with_reducible refine keep_mk_img_mirror ?_ ?_ ?_)
    | with_reducible refine keep_ite ?_ ?_
    | with_reducible apply Keep.step (keep_faultDown _ _)
    | with_reducible apply Keep.step (keep_faultLevel _ _ _ _ _)
    | with_reducible apply Keep.step (keep_mapReport _)
    | exact rfl
    | with_reducible refine keep_foldl (fun _ _ _ => ?_) _ ?_
    | with_reducible exact cellsWf_filter _ (by assumption) _

end Sys2Proof.Machine
end

