-- ==== Sys2Proof/Laws/KeepDiscovery.lean ====
section
/-! SUPPORT. What each operation and each command of `Machine/Discovery.lean` keeps: the parts of the state outside its mask, and
the invariant. -/

namespace Sys2Proof.Machine
open Sys2Proof

theorem keep_sendElect (s : State) : Keep 0x402040 s (State.sendElect s) := by
  unfold State.sendElect
  repeat' first
    | intro _
    | with_reducible assumption
    | with_reducible exact Keep.refl _ _
    | (extract_lets +onlyGivenNames vv; clear_value vv)
    | extract_lets +onlyGivenNames vv
    | with_reducible refine keep_ite ?_ ?_
    | with_reducible apply Keep.step (keep_sendLocal _ _ _)
    | exact rfl

theorem keep_enterRound (s : State) (r : Nat) : Keep 0x800000060 s (State.enterRound s r) := by
  unfold State.enterRound
  repeat' first
    | intro _
    | with_reducible assumption
    | with_reducible exact Keep.refl _ _
    | (extract_lets +onlyGivenNames vv; have hv : Keep 0x800000060 s vv; unfold vv; clear vv; rotate_left; try clear_value vv; rotate_left)
    | (extract_lets +onlyGivenNames vv; clear_value vv)
    | extract_lets +onlyGivenNames vv
    | (simp -zeta only [keepAt_mk]; with_reducible refine keep_mk_disc ?_ ?_)
    | with_reducible refine keep_ite ?_ ?_
    | with_reducible apply Keep.step (keep_bump _ _)
    | with_reducible apply Keep.step (keep_setReg _ _ _)
    | exact rfl

theorem keep_roundStart (s : State) : Keep 0x800402060 s (State.roundStart s) := by
  unfold State.roundStart
  repeat' first
    | intro _
    | with_reducible assumption
    | with_reducible exact Keep.refl _ _
    | (extract_lets +onlyGivenNames vv; clear_value vv)
    | extract_lets +onlyGivenNames vv
    | with_reducible refine keep_ite ?_ ?_
    | with_reducible apply Keep.step (keep_enterRound _ _)
    | with_reducible apply Keep.step (keep_sendElect _)
    | exact rfl

theorem keep_execDiscRoundStart (s : State) : KeepR 0x800402060 s (execDiscRoundStart s) := by
  unfold execDiscRoundStart
  repeat' first
    | intro _
    | with_reducible assumption
    | with_reducible exact Keep.refl _ _
    | (extract_lets +onlyGivenNames vv; clear_value vv)
    | extract_lets +onlyGivenNames vv
    | with_reducible refine keep_ite ?_ ?_
    | with_reducible apply Keep.step (keep_roundStart _)
    | exact rfl
    | with_reducible refine keepr_next ?_

theorem keep_execAssignAbsenceTimeout (s : State) : KeepR 0x8800402066 s (execAssignAbsenceTimeout s) := by
  unfold execAssignAbsenceTimeout
  repeat' first
    | intro _
    | with_reducible assumption
    | with_reducible exact Keep.refl _ _
    | (extract_lets +onlyGivenNames vv; have hv : Keep 0x8800402066 s vv; unfold vv; clear vv; rotate_left; try clear_value vv; rotate_left)
    | (extract_lets +onlyGivenNames vv; clear_value vv)
    | extract_lets +onlyGivenNames vv
    | (simp -zeta only [keepAt_mk]; with_reducible refine keep_mk_disc ?_ ?_)
    | with_reducible refine keep_ite ?_ ?_
    | with_reducible apply Keep.step (keep_roundStart _)
    | with_reducible apply Keep.step (keep_until _ _)
    | exact rfl
    | with_reducible refine keepr_next ?_

theorem keep_take (s : State) (f : Nat) (fr : Frame) : Keep 0x10000 s (State.take s f fr) := by
  unfold State.take
  repeat' first
    | intro _
    | with_reducible assumption
    | with_reducible exact Keep.refl _ _
    | (extract_lets +onlyGivenNames vv; clear_value vv)
    | extract_lets +onlyGivenNames vv
    | (simp -zeta only [keepAt_mk]; with_reducible refine keep_mk_inbox ?_ ?_)
    | with_reducible refine keep_ite ?_ ?_
    | exact rfl

theorem keep_execElectReceived (f : Fin 4) (fr : Frame) (s : State) : KeepR 0x800412060 s (execElectReceived f fr s) := by
  unfold execElectReceived
  repeat' first
    | intro _
    | with_reducible assumption
    | with_reducible exact Keep.refl _ _
    | (extract_lets +onlyGivenNames vv; have hv : Keep 0x800412060 s vv; unfold vv; clear vv; rotate_left; try clear_value vv; rotate_left)
    | (extract_lets +onlyGivenNames vv; clear_value vv)
    | extract_lets +onlyGivenNames vv
    | (simp -zeta only [keepAt_mk]; with_reducible refine keep_mk_disc ?_ ?_)
    | with_reducible refine keep_ite ?_ ?_
    | with_reducible apply Keep.step (keep_enterRound _ _)
    | with_reducible apply Keep.step (keep_sendElect _)
    | with_reducible apply Keep.step (keep_take _ _ _)
    | exact rfl
    | with_reducible refine keepr_next ?_

theorem keep_sendRoll (s : State) : Keep 0x800402040 s (State.sendRoll s) := by
  unfold State.sendRoll
  repeat' first
    | intro _
    | with_reducible assumption
    | with_reducible exact Keep.refl _ _
    | (extract_lets +onlyGivenNames vv; clear_value vv)
    | extract_lets +onlyGivenNames vv
    | (simp -zeta only [keepAt_mk]; with_reducible refine keep_mk_disc ?_ ?_)
    | with_reducible refine keep_ite ?_ ?_
    | with_reducible apply Keep.step (keep_sendLocal _ _ _)
    | exact rfl

theorem keep_execRootQuietExpiry (s : State) : KeepR 0x8800402066 s (execRootQuietExpiry s) := by
  unfold execRootQuietExpiry
  repeat' first
    | intro _
    | with_reducible assumption
    | with_reducible exact Keep.refl _ _
    | (extract_lets +onlyGivenNames vv; have hv : Keep 0x8800402066 s vv; unfold vv; clear vv; rotate_left; try clear_value vv; rotate_left)
    | (extract_lets +onlyGivenNames vv; clear_value vv)
    | extract_lets +onlyGivenNames vv
    | (simp -zeta only [keepAt_mk]; with_reducible refine keep_mk_disc ?_ ?_)
    | with_reducible refine keep_ite ?_ ?_
    | with_reducible apply Keep.step (keep_sendRoll _)
    | with_reducible apply Keep.step (keep_setReg _ _ _)
    | with_reducible apply Keep.step (keep_until _ _)
    | exact rfl
    | with_reducible refine keepr_next ?_

theorem keep_execRollReceived (f : Fin 4) (fr : Frame) (s : State) : KeepR 0x800412060 s (execRollReceived f fr s) := by
  unfold execRollReceived
  try dsimp only
  repeat' first
    | intro _
    | with_reducible assumption
    | with_reducible exact Keep.refl _ _
    | (simp -zeta only [keepAt_mk]; with_reducible refine keep_mk_disc ?_ ?_)
    | with_reducible refine keep_ite ?_ ?_
    | with_reducible apply Keep.step (keep_sendLocal _ _ _)
    | with_reducible apply Keep.step (keep_setReg _ _ _)
    | with_reducible apply Keep.step (keep_take _ _ _)
    | exact rfl
    | with_reducible refine keepr_next ?_

theorem keep_execRollReturn (f : Fin 4) (fr : Frame) (pins : List RollPin) (s : State) : KeepR 0x800412060 s (execRollReturn f fr pins s) := by
  unfold execRollReturn
  repeat' first
    | intro _
    | with_reducible assumption
    | with_reducible exact Keep.refl _ _
    | (extract_lets +onlyGivenNames vv; have hv : Keep 0x800412060 s vv; unfold vv; clear vv; rotate_left; try clear_value vv; rotate_left)
    | (extract_lets +onlyGivenNames vv; clear_value vv)
    | extract_lets +onlyGivenNames vv
    | (simp -zeta only [keepAt_mk]; with_reducible refine keep_mk_disc ?_ ?_)
    | with_reducible refine keep_ite ?_ ?_
    | with_reducible apply Keep.step (keep_sendLocal _ _ _)
    | with_reducible apply Keep.step (keep_setReg _ _ _)
    | with_reducible apply Keep.step (keep_take _ _ _)
    | exact rfl
    | with_reducible refine keepr_next ?_

theorem keep_setTun (s : State) (t : Nat) (x : TunnelSt) : Keep 0x10000000000000 s (State.setTun s t x) := by
  unfold State.setTun
  repeat' first
    | intro _
    | with_reducible assumption
    | with_reducible exact Keep.refl _ _
    | (extract_lets +onlyGivenNames vv; clear_value vv)
    | extract_lets +onlyGivenNames vv
    | (simp -zeta only [keepAt_mk]; with_reducible refine keep_mk_sw ?_ ?_)
    | with_reducible refine keep_ite ?_ ?_
    | exact rfl

theorem keep_tunnelsFollow (s : State) : Keep 0x10000000000000 s (State.tunnelsFollow s) := by
  unfold State.tunnelsFollow
  repeat' first
    | intro _
    | with_reducible assumption
    | with_reducible exact Keep.refl _ _
    | (extract_lets +onlyGivenNames vv; clear_value vv)
    | extract_lets +onlyGivenNames vv
    | with_reducible refine keep_ite ?_ ?_
    | with_reducible apply Keep.step (keep_setTun _ _ _)
    | exact rfl
    | with_reducible refine keep_foldl (fun _ _ _ => ?_) _ ?_

theorem keep_originateDisc (s : State) (fr : Frame) : Keep 0x8000c2040 s (State.originateDisc s fr) := by
  unfold State.originateDisc
  repeat' first
    | intro _
    | with_reducible assumption
    | with_reducible exact Keep.refl _ _
    | (extract_lets +onlyGivenNames vv; clear_value vv)
    | extract_lets +onlyGivenNames vv
    | (simp -zeta only [keepAt_mk]; first | with_reducible refine keep_mk_seqNext ?_ ?_ | with_reducible refine keep_mk_disc ?_ ?_)
    | with_reducible refine keep_ite ?_ ?_
    | with_reducible apply Keep.step (keep_sendBoth _ _)
    | exact rfl

theorem keep_noteOwn (s : State) : Keep 0x800000000 s (State.noteOwn s) := by
  unfold State.noteOwn
  repeat' first
    | intro _
    | with_reducible assumption
    | with_reducible exact Keep.refl _ _
    | (extract_lets +onlyGivenNames vv; clear_value vv)
    | extract_lets +onlyGivenNames vv
    | (simp -zeta only [keepAt_mk]; with_reducible refine keep_mk_disc ?_ ?_)
    | with_reducible refine keep_ite ?_ ?_
    | exact rfl

theorem keep_rebuildIfWhole (s : State) : Keep 0x30091083039fd5c2260 s (State.rebuildIfWhole s) := by
  unfold State.rebuildIfWhole
  repeat' first
    | intro _
    | with_reducible assumption
    | with_reducible exact Keep.refl _ _
    | (extract_lets +onlyGivenNames vv; clear_value vv)
    | extract_lets +onlyGivenNames vv
    | with_reducible refine keep_ite ?_ ?_
    | with_reducible apply Keep.step (keep_mapRebuild _)
    | exact rfl

theorem keep_announceAll (s : State) : Keep 0x30091083039fd5c2260 s (State.announceAll s) := by
  unfold State.announceAll
  repeat' first
    | intro _
    | with_reducible assumption
    | with_reducible exact Keep.refl _ _
    | (extract_lets +onlyGivenNames vv; have hv : Keep 0x30091083039fd5c2260 s vv; unfold vv; clear vv; rotate_left; try clear_value vv; rotate_left)
    | (extract_lets +onlyGivenNames vv; clear_value vv)
    | extract_lets +onlyGivenNames vv
    | with_reducible refine keep_ite ?_ ?_
    | with_reducible apply Keep.step (keep_noteOwn _)
    | with_reducible apply Keep.step (keep_originateDisc _ _)
    | with_reducible apply Keep.step (keep_rebuildIfWhole _)
    | exact rfl
    | with_reducible refine keep_foldl (fun _ _ _ => ?_) _ ?_
    | with_reducible exact cellsWf_filter _ (by assumption) _
    | with_reducible exact cellsWf_cellSet _ (by assumption) _ _
    | with_reducible refine keep_snd (by with_reducible assumption) ?_
    | with_reducible refine keep_fst (by with_reducible assumption) ?_
    | split

theorem keep_restartDone (s : State) : Keep 0x20000000008001c2040 s (State.restartDone s) := by
  unfold State.restartDone
  repeat' first
    | intro _
    | with_reducible assumption
    | with_reducible exact Keep.refl _ _
    | (extract_lets +onlyGivenNames vv; have hv : Keep 0x20000000008001c2040 s vv; unfold vv; clear vv; rotate_left; try clear_value vv; rotate_left)
    | (extract_lets +onlyGivenNames vv; clear_value vv)
    | extract_lets +onlyGivenNames vv
    | (simp -zeta only [keepAt_mk]; with_reducible refine keep_mk_disc ?_ ?_)
    | with_reducible refine keep_ite ?_ ?_
    | with_reducible apply Keep.step (keep_originateDisc _ _)
    | with_reducible apply Keep.step (keep_originateNow _ _)
    | exact rfl
    | with_reducible refine keep_foldl (fun _ _ _ => ?_) _ ?_

theorem keep_takeAssign (s : State) (p : List Byte) : Keep 0x3009118301ffd5c2260 s (State.takeAssign s p) := by
  unfold State.takeAssign
  repeat' first
    | intro _
    | with_reducible assumption
    | with_reducible exact Keep.refl _ _
    | (extract_lets +onlyGivenNames vv; have hv : Keep 0x3009118301ffd5c2260 s vv; unfold vv; clear vv; rotate_left; try clear_value vv; rotate_left)
    | (extract_lets +onlyGivenNames vv; clear_value vv)
    | extract_lets +onlyGivenNames vv
    | (simp -zeta only [keepAt_mk]; first | with_reducible refine keep_mk_disc ?_ ?_ | with_reducible refine keep_mk_assigned_disc_img ?_ ?_)
    | with_reducible refine keep_ite ?_ ?_
    | with_reducible apply Keep.step (keep_couplerUpdate _)
    | with_reducible apply Keep.step (keep_faultLevel _ _ _ _ _)
    | with_reducible apply Keep.step (keep_loadCopper _)
    | with_reducible apply Keep.step (keep_sendLocal _ _ _)
    | with_reducible apply Keep.step (keep_setReg _ _ _)
    | with_reducible apply Keep.step (keep_settle _)
    | with_reducible apply Keep.step (keep_tunnelsFollow _)
    | exact rfl

theorem keep_execAssignReceived (f : Fin 4) (fr : Frame) (s : State) : KeepR 0x3009118303ffd5d2260 s (execAssignReceived f fr s) := by
  unfold execAssignReceived
  repeat' first
    | intro _
    | with_reducible assumption
    | with_reducible exact Keep.refl _ _
    | (extract_lets +onlyGivenNames vv; have hv : Keep 0x3009118303ffd5d2260 s vv; unfold vv; clear vv; rotate_left; try clear_value vv; rotate_left)
    | (extract_lets +onlyGivenNames vv; clear_value vv)
    | extract_lets +onlyGivenNames vv
    | with_reducible refine keep_ite ?_ ?_
    | with_reducible apply Keep.step (keep_announceAll _)
    | with_reducible apply Keep.step (keep_sendLocal _ _ _)
    | with_reducible apply Keep.step (keep_take _ _ _)
    | with_reducible apply Keep.step (keep_takeAssign _ _)
    | exact rfl
    | with_reducible refine keepr_next ?_

theorem keep_execRestartReceived (f : Fin 4) (fr : Frame) (s : State) : KeepR 0x20000000008007d2040 s (execRestartReceived f fr s) := by
  unfold execRestartReceived
  repeat' first
    | intro _
    | with_reducible assumption
    | with_reducible exact Keep.refl _ _
    | (extract_lets +onlyGivenNames vv; have hv : Keep 0x20000000008007d2040 s vv; unfold vv; clear vv; rotate_left; try clear_value vv; rotate_left)
    | (extract_lets +onlyGivenNames vv; clear_value vv)
    | extract_lets +onlyGivenNames vv
    | with_reducible refine keep_ite ?_ ?_
    | with_reducible apply Keep.step (keep_restartDone _)
    | with_reducible apply Keep.step (keep_sendLocal _ _ _)
    | with_reducible apply Keep.step (keep_setDup _ _ _)
    | with_reducible apply Keep.step (keep_take _ _ _)
    | exact rfl
    | with_reducible refine keepr_next ?_

theorem keep_execRestartTimeout (s : State) : KeepR 0x30091083089fd5c2266 s (execRestartTimeout s) := by
  unfold execRestartTimeout
  repeat' first
    | intro _
    | with_reducible assumption
    | with_reducible exact Keep.refl _ _
    | (extract_lets +onlyGivenNames vv; clear_value vv)
    | extract_lets +onlyGivenNames vv
    | with_reducible refine keep_ite ?_ ?_
    | with_reducible apply Keep.step (keep_occur _ _ _ _)
    | with_reducible apply Keep.step (keep_restartDone _)
    | with_reducible apply Keep.step (keep_until _ _)
    | exact rfl
    | with_reducible refine keepr_next ?_
    | with_reducible exact keepr_fault
    | with_reducible refine keepr_ite ?_ ?_
    | with_reducible refine keep_foldl (fun _ _ _ => ?_) _ ?_
    | with_reducible exact cellsWf_filter _ (by assumption) _
    | with_reducible exact cellsWf_cellSet _ (by assumption) _ _
    | with_reducible refine keep_snd (by with_reducible assumption) ?_
    | with_reducible refine keep_fst (by with_reducible assumption) ?_
    | split

theorem keep_execAssignReturn (f : Fin 4) (fr : Frame) (s : State) : KeepR 0x3009118303ffd5d2260 s (execAssignReturn f fr s) := by
  unfold execAssignReturn
  repeat' first
    | intro _
    | with_reducible assumption
    | with_reducible exact Keep.refl _ _
    | (extract_lets +onlyGivenNames vv; have hv : Keep 0x3009118303ffd5d2260 s vv; unfold vv; clear vv; rotate_left; try clear_value vv; rotate_left)
    | (extract_lets +onlyGivenNames vv; clear_value vv)
    | extract_lets +onlyGivenNames vv
    | (simp -zeta only [keepAt_mk]; with_reducible refine keep_mk_disc ?_ ?_)
    | with_reducible refine keep_ite ?_ ?_
    | with_reducible apply Keep.step (keep_announceAll _)
    | with_reducible apply Keep.step (keep_faultDown _ _)
    | with_reducible apply Keep.step (keep_originateDisc _ _)
    | with_reducible apply Keep.step (keep_raise _ _ _)
    | with_reducible apply Keep.step (keep_setReg _ _ _)
    | with_reducible apply Keep.step (keep_take _ _ _)
    | with_reducible apply Keep.step (keep_takeAssign _ _)
    | exact rfl
    | with_reducible refine keepr_next ?_

theorem keep_execLapReturn (f : Fin 4) (fr : Frame) (s : State) : KeepR 0x800010000 s (execLapReturn f fr s) := by
  unfold execLapReturn
  repeat' first
    | intro _
    | with_reducible assumption
    | with_reducible exact Keep.refl _ _
    | (extract_lets +onlyGivenNames vv; have hv : Keep 0x800010000 s vv; unfold vv; clear vv; rotate_left; try clear_value vv; rotate_left)
    | (extract_lets +onlyGivenNames vv; clear_value vv)
    | extract_lets +onlyGivenNames vv
    | (simp -zeta only [keepAt_mk]; with_reducible refine keep_mk_disc ?_ ?_)
    | with_reducible refine keep_ite ?_ ?_
    | with_reducible apply Keep.step (keep_take _ _ _)
    | exact rfl
    | with_reducible refine keepr_next ?_

theorem keep_noteRootExp (s : State) (k : Nat) : Keep 0x30091083019fd5c2260 s (State.noteRootExp s k) := by
  unfold State.noteRootExp
  repeat' first
    | intro _
    | with_reducible assumption
    | with_reducible exact Keep.refl _ _
    | (extract_lets +onlyGivenNames vv; have hv : Keep 0x30091083019fd5c2260 s vv; unfold vv; clear vv; rotate_left; try clear_value vv; rotate_left)
    | (extract_lets +onlyGivenNames vv; clear_value vv)
    | extract_lets +onlyGivenNames vv
    | (simp -zeta only [keepAt_mk]; with_reducible refine keep_mk_img ?_ ?_)
    | with_reducible refine keep_ite ?_ ?_
    | with_reducible apply Keep.step (keep_faultLevel _ _ _ _ _)
    | exact rfl

theorem keep_execAnnounceReceived (f : Fin 4) (fr : Frame) (s : State) : KeepR 0x30091083039fd5d2260 s (execAnnounceReceived f fr s) := by
  unfold execAnnounceReceived
  try dsimp only
  repeat' first
    | intro _
    | with_reducible assumption
    | with_reducible exact Keep.refl _ _
    | (simp -zeta only [keepAt_mk]; first | with_reducible refine keep_mk_disc ?_ ?_ | with_reducible refine keep_mk_img ?_ ?_ | with_reducible refine keep_mk_disc_img ?_ ?_)
    | with_reducible refine keep_ite ?_ ?_
    | with_reducible apply Keep.step (keep_faultLevel _ _ _ _ _)
    | with_reducible apply Keep.step (keep_mapRebuild _)
    | with_reducible apply Keep.step (keep_noteRootExp _ _)
    | with_reducible apply Keep.step (keep_rebuildIfWhole _)
    | with_reducible apply Keep.step (keep_take _ _ _)
    | exact rfl
    | with_reducible refine keepr_next ?_

theorem keep_execRateChangeDown (s : State) : KeepR 0x30091083089fd5c7266 s (execRateChangeDown s) := by
  unfold execRateChangeDown
  repeat' first
    | intro _
    | with_reducible assumption
    | with_reducible exact Keep.refl _ _
    | (extract_lets +onlyGivenNames vv; have hv : Keep 0x30091083089fd5c7266 s vv; unfold vv; clear vv; rotate_left; try clear_value vv; rotate_left)
    | (extract_lets +onlyGivenNames vv; clear_value vv)
    | extract_lets +onlyGivenNames vv
    | (simp -zeta only [keepAt_mk]; with_reducible refine keep_mk_disc ?_ ?_)
    | with_reducible refine keep_ite ?_ ?_
    | with_reducible apply Keep.step (keep_linkDown _ _)
    | with_reducible apply Keep.step (keep_until _ _)
    | exact rfl
    | with_reducible refine keepr_next ?_
    | with_reducible exact keepr_fault
    | with_reducible refine keepr_ite ?_ ?_
    | with_reducible refine keep_foldl (fun _ _ _ => ?_) _ ?_
    | with_reducible exact cellsWf_filter _ (by assumption) _
    | with_reducible exact cellsWf_cellSet _ (by assumption) _ _
    | with_reducible refine keep_snd (by with_reducible assumption) ?_
    | with_reducible refine keep_fst (by with_reducible assumption) ?_
    | split

theorem keep_execSweepTimer (s : State) : KeepR 0x8800402046 s (execSweepTimer s) := by
  unfold execSweepTimer
  repeat' first
    | intro _
    | with_reducible assumption
    | with_reducible exact Keep.refl _ _
    | (extract_lets +onlyGivenNames vv; clear_value vv)
    | extract_lets +onlyGivenNames vv
    | with_reducible refine keep_ite ?_ ?_
    | with_reducible apply Keep.step (keep_sendRoll _)
    | with_reducible apply Keep.step (keep_until _ _)
    | exact rfl
    | with_reducible refine keepr_next ?_

theorem keep_execRingOpenTimeout (s : State) : KeepR 0x30091083089fd5c2266 s (execRingOpenTimeout s) := by
  unfold execRingOpenTimeout
  repeat' first
    | intro _
    | with_reducible assumption
    | with_reducible exact Keep.refl _ _
    | (extract_lets +onlyGivenNames vv; have hv : Keep 0x30091083089fd5c2266 s vv; unfold vv; clear vv; rotate_left; try clear_value vv; rotate_left)
    | (extract_lets +onlyGivenNames vv; clear_value vv)
    | extract_lets +onlyGivenNames vv
    | (simp -zeta only [keepAt_mk]; with_reducible refine keep_mk_disc ?_ ?_)
    | with_reducible refine keep_ite ?_ ?_
    | with_reducible apply Keep.step (keep_faultLevel _ _ _ _ _)
    | with_reducible apply Keep.step (keep_setReg _ _ _)
    | with_reducible apply Keep.step (keep_until _ _)
    | exact rfl
    | with_reducible refine keepr_next ?_
    | with_reducible exact keepr_fault
    | with_reducible refine keepr_ite ?_ ?_
    | with_reducible refine keep_foldl (fun _ _ _ => ?_) _ ?_
    | with_reducible exact cellsWf_filter _ (by assumption) _
    | with_reducible exact cellsWf_cellSet _ (by assumption) _ _
    | with_reducible refine keep_snd (by with_reducible assumption) ?_
    | with_reducible refine keep_fst (by with_reducible assumption) ?_
    | split

theorem keep_execCouplerAdvertSend (s : State) : KeepR 0x30091083089fd5c2266 s (execCouplerAdvertSend s) := by
  unfold execCouplerAdvertSend
  repeat' first
    | intro _
    | with_reducible assumption
    | with_reducible exact Keep.refl _ _
    | (extract_lets +onlyGivenNames vv; have hv : Keep 0x30091083089fd5c2266 s vv; unfold vv; clear vv; rotate_left; try clear_value vv; rotate_left)
    | (extract_lets +onlyGivenNames vv; clear_value vv)
    | extract_lets +onlyGivenNames vv
    | (simp -zeta only [keepAt_mk]; with_reducible refine keep_mk_disc ?_ ?_)
    | with_reducible refine keep_ite ?_ ?_
    | with_reducible apply Keep.step (keep_couplerUpdate _)
    | with_reducible apply Keep.step (keep_originateDisc _ _)
    | with_reducible apply Keep.step (keep_until _ _)
    | exact rfl
    | with_reducible refine keepr_next ?_
    | with_reducible exact keepr_fault
    | with_reducible refine keepr_ite ?_ ?_
    | with_reducible refine keep_foldl (fun _ _ _ => ?_) _ ?_
    | with_reducible exact cellsWf_filter _ (by assumption) _
    | with_reducible exact cellsWf_cellSet _ (by assumption) _ _
    | with_reducible refine keep_snd (by with_reducible assumption) ?_
    | with_reducible refine keep_fst (by with_reducible assumption) ?_
    | split

theorem keep_execCouplerAdvertReceived (f : Fin 4) (fr : Frame) (s : State) : KeepR 0x30091083009fd5d2260 s (execCouplerAdvertReceived f fr s) := by
  unfold execCouplerAdvertReceived
  repeat' first
    | intro _
    | with_reducible assumption
    | with_reducible exact Keep.refl _ _
    | (extract_lets +onlyGivenNames vv; have hv : Keep 0x30091083009fd5d2260 s vv; unfold vv; clear vv; rotate_left; try clear_value vv; rotate_left)
    | (extract_lets +onlyGivenNames vv; clear_value vv)
    | extract_lets +onlyGivenNames vv
    | (simp -zeta only [keepAt_mk]; with_reducible refine keep_mk_disc ?_ ?_)
    | with_reducible refine keep_ite ?_ ?_
    | with_reducible apply Keep.step (keep_couplerUpdate _)
    | with_reducible apply Keep.step (keep_routesUpdate _)
    | with_reducible apply Keep.step (keep_take _ _ _)
    | exact rfl
    | with_reducible refine keepr_next ?_

end Sys2Proof.Machine
end

