-- ==== Sys2Proof/Laws/KeepTime.lean ====
section
/-! SUPPORT. What each operation and each command of `Machine/Time.lean` keeps: the parts of the state outside its mask, and
the invariant. -/

namespace Sys2Proof.Machine
open Sys2Proof

theorem keep_timeTo (s : State) (v : Nat) : Keep 0x300110000887c1c2060 s (State.timeTo s v) := by
  unfold State.timeTo
  repeat' first
    | intro _
    | with_reducible assumption
    | with_reducible exact Keep.refl _ _
    | (extract_lets +onlyGivenNames vv; have hv : Keep 0x300110000887c1c2060 s vv; unfold vv; clear vv; rotate_left; try clear_value vv; rotate_left)
    | (extract_lets +onlyGivenNames vv; clear_value vv)
    | extract_lets +onlyGivenNames vv
    | (simp -zeta only [keepAt_mk]; with_reducible refine keep_mk_time ?_ ?_)
    | with_reducible refine keep_ite ?_ ?_
    | with_reducible apply Keep.step (keep_raise _ _ _)
    | with_reducible apply Keep.step (keep_setReg _ _ _)
    | exact rfl

theorem keep_setTimer (s : State) (u : Nat) (t : TimerSt) : Keep 0x10000000000 s (State.setTimer s u t) := by
  unfold State.setTimer
  repeat' first
    | intro _
    | with_reducible assumption
    | with_reducible exact Keep.refl _ _
    | (extract_lets +onlyGivenNames vv; clear_value vv)
    | extract_lets +onlyGivenNames vv
    | (simp -zeta only [keepAt_mk]; with_reducible refine keep_mk_timers ?_ ?_)
    | with_reducible refine keep_ite ?_ ?_
    | exact rfl

theorem keep_setCapture (s : State) (n : Nat) (c : CaptureSt) : Keep 0x20000000000 s (State.setCapture s n c) := by
  unfold State.setCapture
  repeat' first
    | intro _
    | with_reducible assumption
    | with_reducible exact Keep.refl _ _
    | (extract_lets +onlyGivenNames vv; clear_value vv)
    | extract_lets +onlyGivenNames vv
    | (simp -zeta only [keepAt_mk]; with_reducible refine keep_mk_captures ?_ ?_)
    | with_reducible refine keep_ite ?_ ?_
    | exact rfl

theorem keep_stepTime (s : State) (d : Int) : Keep 0x30091083309fd5c2264 s (State.stepTime s d) := by
  unfold State.stepTime
  repeat' first
    | intro _
    | with_reducible assumption
    | with_reducible exact Keep.refl _ _
    | (extract_lets +onlyGivenNames vv; have hv : Keep 0x30091083309fd5c2264 s vv; unfold vv; clear vv; rotate_left; try clear_value vv; rotate_left)
    | (extract_lets +onlyGivenNames vv; clear_value vv)
    | extract_lets +onlyGivenNames vv
    | (simp -zeta only [keepAt_mk]; with_reducible refine keep_mk_ftimeQ ?_ ?_)
    | with_reducible refine keep_ite ?_ ?_
    | with_reducible apply Keep.step (keep_bump _ _)
    | with_reducible apply Keep.step (keep_logRecord _ _ _)
    | with_reducible apply Keep.step (keep_occur _ _ _ _)
    | with_reducible apply Keep.step (keep_setCapture _ _ _)
    | with_reducible apply Keep.step (keep_setReg _ _ _)
    | with_reducible apply Keep.step (keep_setTimer _ _ _)
    | exact rfl
    | with_reducible refine keep_foldl (fun _ _ _ => ?_) _ ?_

theorem keep_elect (s : State) : Keep 0x30091083389fd5c2264 s (State.elect s) := by
  unfold State.elect
  repeat' first
    | intro _
    | with_reducible assumption
    | with_reducible exact Keep.refl _ _
    | (extract_lets +onlyGivenNames vv; have hv : Keep 0x30091083389fd5c2264 s vv; unfold vv; clear vv; rotate_left; try clear_value vv; rotate_left)
    | (extract_lets +onlyGivenNames vv; clear_value vv)
    | extract_lets +onlyGivenNames vv
    | with_reducible refine keep_ite ?_ ?_
    | with_reducible apply Keep.step (keep_setReg _ _ _)
    | with_reducible apply Keep.step (keep_stepTime _ _)
    | with_reducible apply Keep.step (keep_timeTo _ _)
    | exact rfl
    | with_reducible refine keep_foldl (fun _ _ _ => ?_) _ ?_
    | with_reducible exact cellsWf_filter _ (by assumption) _
    | with_reducible exact cellsWf_cellSet _ (by assumption) _ _
    | with_reducible refine keep_snd (by with_reducible assumption) ?_
    | with_reducible refine keep_fst (by with_reducible assumption) ?_
    | split

theorem keep_execCandidateListenExpiry (s : State) : KeepR 0x30091083389fd5c2266 s (execCandidateListenExpiry s) := by
  unfold execCandidateListenExpiry
  repeat' first
    | intro _
    | with_reducible assumption
    | with_reducible exact Keep.refl _ _
    | (extract_lets +onlyGivenNames vv; have hv : Keep 0x30091083389fd5c2266 s vv; unfold vv; clear vv; rotate_left; try clear_value vv; rotate_left)
    | (extract_lets +onlyGivenNames vv; clear_value vv)
    | extract_lets +onlyGivenNames vv
    | (simp -zeta only [keepAt_mk]; with_reducible refine keep_mk_time ?_ ?_)
    | with_reducible refine keep_ite ?_ ?_
    | with_reducible apply Keep.step (keep_elect _)
    | with_reducible apply Keep.step (keep_until _ _)
    | exact rfl
    | with_reducible refine keepr_next ?_

theorem keep_execHoldoverLimitExpiry (s : State) : KeepR 0x30091083389fd5c2266 s (execHoldoverLimitExpiry s) := by
  unfold execHoldoverLimitExpiry
  repeat' first
    | intro _
    | with_reducible assumption
    | with_reducible exact Keep.refl _ _
    | (extract_lets +onlyGivenNames vv; have hv : Keep 0x30091083389fd5c2266 s vv; unfold vv; clear vv; rotate_left; try clear_value vv; rotate_left)
    | (extract_lets +onlyGivenNames vv; clear_value vv)
    | extract_lets +onlyGivenNames vv
    | (simp -zeta only [keepAt_mk]; with_reducible refine keep_mk_time ?_ ?_)
    | with_reducible refine keep_ite ?_ ?_
    | with_reducible apply Keep.step (keep_elect _)
    | with_reducible apply Keep.step (keep_until _ _)
    | exact rfl
    | with_reducible refine keepr_next ?_
    | with_reducible exact keepr_fault
    | with_reducible refine keepr_ite ?_ ?_
    | with_reducible refine keep_foldl (fun _ _ _ => ?_) _ ?_
    | with_reducible exact cellsWf_filter _ (by assumption) _
    | with_reducible exact cellsWf_cellSet _ (by assumption) _ _
    | with_reducible refine keep_snd (by with_reducible assumption) ?_
    | with_reducible refine keep_fst (by with_reducible assumption) ?_
    | split

theorem keep_execCandidateSend (s : State) : KeepR 0x30091083389fd5c2266 s (execCandidateSend s) := by
  unfold execCandidateSend
  repeat' first
    | intro _
    | with_reducible assumption
    | with_reducible exact Keep.refl _ _
    | (extract_lets +onlyGivenNames vv; have hv : Keep 0x30091083389fd5c2266 s vv; unfold vv; clear vv; rotate_left; try clear_value vv; rotate_left)
    | (extract_lets +onlyGivenNames vv; clear_value vv)
    | extract_lets +onlyGivenNames vv
    | (simp -zeta only [keepAt_mk]; with_reducible refine keep_mk_time ?_ ?_)
    | with_reducible refine keep_ite ?_ ?_
    | with_reducible apply Keep.step (keep_elect _)
    | with_reducible apply Keep.step (keep_originate _ _)
    | with_reducible apply Keep.step (keep_until _ _)
    | exact rfl
    | with_reducible refine keepr_next ?_
    | with_reducible exact keepr_fault
    | with_reducible refine keepr_ite ?_ ?_
    | with_reducible refine keep_foldl (fun _ _ _ => ?_) _ ?_
    | with_reducible exact cellsWf_filter _ (by assumption) _
    | with_reducible exact cellsWf_cellSet _ (by assumption) _ _
    | with_reducible refine keep_snd (by with_reducible assumption) ?_
    | with_reducible refine keep_fst (by with_reducible assumption) ?_
    | split

theorem keep_execCandidateReceived (f : Fin 4) (fr : Frame) (s : State) : KeepR 0x30091083389fd5d2264 s (execCandidateReceived f fr s) := by
  unfold execCandidateReceived
  repeat' first
    | intro _
    | with_reducible assumption
    | with_reducible exact Keep.refl _ _
    | (extract_lets +onlyGivenNames vv; have hv : Keep 0x30091083389fd5d2264 s vv; unfold vv; clear vv; rotate_left; try clear_value vv; rotate_left)
    | (extract_lets +onlyGivenNames vv; clear_value vv)
    | extract_lets +onlyGivenNames vv
    | (simp -zeta only [keepAt_mk]; with_reducible refine keep_mk_time ?_ ?_)
    | with_reducible refine keep_ite ?_ ?_
    | with_reducible apply Keep.step (keep_elect _)
    | with_reducible apply Keep.step (keep_take _ _ _)
    | exact rfl
    | with_reducible refine keepr_next ?_

theorem keep_execCandidateExpiry (s : State) : KeepR 0x30091083389fd5c2266 s (execCandidateExpiry s) := by
  unfold execCandidateExpiry
  repeat' first
    | intro _
    | with_reducible assumption
    | with_reducible exact Keep.refl _ _
    | (extract_lets +onlyGivenNames vv; have hv : Keep 0x30091083389fd5c2266 s vv; unfold vv; clear vv; rotate_left; try clear_value vv; rotate_left)
    | (extract_lets +onlyGivenNames vv; clear_value vv)
    | extract_lets +onlyGivenNames vv
    | (simp -zeta only [keepAt_mk]; with_reducible refine keep_mk_time ?_ ?_)
    | with_reducible refine keep_ite ?_ ?_
    | with_reducible apply Keep.step (keep_elect _)
    | with_reducible apply Keep.step (keep_occur _ _ _ _)
    | with_reducible apply Keep.step (keep_until _ _)
    | exact rfl
    | with_reducible refine keepr_next ?_
    | with_reducible exact keepr_fault
    | with_reducible refine keepr_ite ?_ ?_
    | with_reducible refine keep_foldl (fun _ _ _ => ?_) _ ?_
    | with_reducible exact cellsWf_filter _ (by assumption) _
    | with_reducible exact cellsWf_cellSet _ (by assumption) _ _
    | with_reducible refine keep_snd (by with_reducible assumption) ?_
    | with_reducible refine keep_fst (by with_reducible assumption) ?_
    | split

theorem keep_execSyncSend (s : State) : KeepR 0x30010000088001c2146 s (execSyncSend s) := by
  unfold execSyncSend
  repeat' first
    | intro _
    | with_reducible assumption
    | with_reducible exact Keep.refl _ _
    | (extract_lets +onlyGivenNames vv; have hv : Keep 0x30010000088001c2146 s vv; unfold vv; clear vv; rotate_left; try clear_value vv; rotate_left)
    | (extract_lets +onlyGivenNames vv; clear_value vv)
    | extract_lets +onlyGivenNames vv
    | (simp -zeta only [keepAt_mk]; with_reducible refine keep_mk_time ?_ ?_)
    | with_reducible refine keep_ite ?_ ?_
    | with_reducible apply Keep.step (keep_fresh _)
    | with_reducible apply Keep.step (keep_originate _ _)
    | with_reducible apply Keep.step (keep_until _ _)
    | exact rfl
    | with_reducible refine keepr_next ?_

theorem keep_servo (s : State) (off : Int) : Keep 0x300110000887c1c2160 s (State.servo s off) := by
  unfold State.servo
  repeat' first
    | intro _
    | with_reducible assumption
    | with_reducible exact Keep.refl _ _
    | (extract_lets +onlyGivenNames vv; have hv : Keep 0x300110000887c1c2160 s vv; unfold vv; clear vv; rotate_left; try clear_value vv; rotate_left)
    | (extract_lets +onlyGivenNames vv; clear_value vv)
    | extract_lets +onlyGivenNames vv
    | (simp -zeta only [keepAt_mk]; with_reducible refine keep_mk_time ?_ ?_)
    | with_reducible refine keep_ite ?_ ?_
    | with_reducible apply Keep.step (keep_fresh _)
    | with_reducible apply Keep.step (keep_setReg _ _ _)
    | with_reducible apply Keep.step (keep_timeTo _ _)
    | exact rfl

theorem keep_applyOffset (s : State) (off : Int) : Keep 0x30091083389fd5c2364 s (State.applyOffset s off) := by
  unfold State.applyOffset
  repeat' first
    | intro _
    | with_reducible assumption
    | with_reducible exact Keep.refl _ _
    | (extract_lets +onlyGivenNames vv; have hv : Keep 0x30091083389fd5c2364 s vv; unfold vv; clear vv; rotate_left; try clear_value vv; rotate_left)
    | (extract_lets +onlyGivenNames vv; clear_value vv)
    | extract_lets +onlyGivenNames vv
    | (simp -zeta only [keepAt_mk]; with_reducible refine keep_mk_time ?_ ?_)
    | with_reducible refine keep_ite ?_ ?_
    | with_reducible apply Keep.step (keep_bump _ _)
    | with_reducible apply Keep.step (keep_occur _ _ _ _)
    | with_reducible apply Keep.step (keep_servo _ _)
    | with_reducible apply Keep.step (keep_setReg _ _ _)
    | with_reducible apply Keep.step (keep_stepTime _ _)
    | with_reducible apply Keep.step (keep_timeTo _ _)
    | exact rfl

theorem keep_execSyncReceived (f : Fin 4) (fr : Frame) (rx : Int) (s : State) : KeepR 0x30091083389fd5d2364 s (execSyncReceived f fr rx s) := by
  unfold execSyncReceived
  repeat' first
    | intro _
    | with_reducible assumption
    | with_reducible exact Keep.refl _ _
    | (extract_lets +onlyGivenNames vv; have hv : Keep 0x30091083389fd5d2364 s vv; unfold vv; clear vv; rotate_left; try clear_value vv; rotate_left)
    | (extract_lets +onlyGivenNames vv; clear_value vv)
    | extract_lets +onlyGivenNames vv
    | (simp -zeta only [keepAt_mk]; with_reducible refine keep_mk_time ?_ ?_)
    | with_reducible refine keep_ite ?_ ?_
    | with_reducible apply Keep.step (keep_applyOffset _ _)
    | with_reducible apply Keep.step (keep_bump _ _)
    | with_reducible apply Keep.step (keep_pertActed _ _)
    | with_reducible apply Keep.step (keep_take _ _ _)
    | exact rfl
    | with_reducible refine keepr_next ?_
    | with_reducible exact keepr_fault
    | with_reducible refine keepr_ite ?_ ?_
    | with_reducible refine keep_foldl (fun _ _ _ => ?_) _ ?_
    | with_reducible exact cellsWf_filter _ (by assumption) _
    | with_reducible exact cellsWf_cellSet _ (by assumption) _ _
    | with_reducible refine keep_snd (by with_reducible assumption) ?_
    | with_reducible refine keep_fst (by with_reducible assumption) ?_
    | split

theorem keep_execSyncTimeout (s : State) : KeepR 0x300110000887c1c2066 s (execSyncTimeout s) := by
  unfold execSyncTimeout
  repeat' first
    | intro _
    | with_reducible assumption
    | with_reducible exact Keep.refl _ _
    | (extract_lets +onlyGivenNames vv; clear_value vv)
    | extract_lets +onlyGivenNames vv
    | with_reducible refine keep_ite ?_ ?_
    | with_reducible apply Keep.step (keep_timeTo _ _)
    | with_reducible apply Keep.step (keep_until _ _)
    | exact rfl
    | with_reducible refine keepr_next ?_

theorem keep_execStepAcceptWrite (w : Writer) (v : Nat) (s : State) : KeepR 0xb0090800088005c26c0 s (execStepAcceptWrite w v s) := by
  unfold execStepAcceptWrite
  repeat' first
    | intro _
    | with_reducible assumption
    | with_reducible exact Keep.refl _ _
    | (extract_lets +onlyGivenNames vv; clear_value vv)
    | extract_lets +onlyGivenNames vv
    | (simp -zeta only [keepAt_mk]; with_reducible refine keep_mk_time ?_ ?_)
    | with_reducible refine keep_ite ?_ ?_
    | with_reducible apply Keep.step (n := 0xb0090800088005c26c0) (keep_command _ _ _ _ _ _ ?_ ?_)
    | with_reducible apply Keep.step (keep_id _)
    | exact rfl
    | with_reducible refine keepr_next ?_

theorem keep_execSetTimeWrite (w : Writer) (v : Nat) (s : State) : KeepR 0xb0091883309fd5c26e4 s (execSetTimeWrite w v s) := by
  unfold execSetTimeWrite
  repeat' first
    | intro _
    | with_reducible assumption
    | with_reducible exact Keep.refl _ _
    | (extract_lets +onlyGivenNames vv; clear_value vv)
    | extract_lets +onlyGivenNames vv
    | with_reducible refine keep_ite ?_ ?_
    | with_reducible apply Keep.step (keep_stepTime _ _)
    | with_reducible apply Keep.step (n := 0xb0091883309fd5c26e4) (keep_write _ _ _ _ _ _ ?_ ?_)
    | with_reducible apply Keep.step (keep_id _)
    | exact rfl
    | with_reducible refine keepr_next ?_

theorem keep_setPd (s : State) (f : Nat) (d : PdelaySt) : Keep 0x8000000000 s (State.setPd s f d) := by
  unfold State.setPd
  repeat' first
    | intro _
    | with_reducible assumption
    | with_reducible exact Keep.refl _ _
    | (extract_lets +onlyGivenNames vv; clear_value vv)
    | extract_lets +onlyGivenNames vv
    | (simp -zeta only [keepAt_mk]; with_reducible refine keep_mk_time ?_ ?_)
    | with_reducible refine keep_ite ?_ ?_
    | exact rfl

theorem keep_execPdelayReqSend (f : Fin 4) (s : State) : KeepR 0x8000402046 s (execPdelayReqSend f s) := by
  unfold execPdelayReqSend
  repeat' first
    | intro _
    | with_reducible assumption
    | with_reducible exact Keep.refl _ _
    | (extract_lets +onlyGivenNames vv; have hv : Keep 0x8000402046 s vv; unfold vv; clear vv; rotate_left; try clear_value vv; rotate_left)
    | (extract_lets +onlyGivenNames vv; clear_value vv)
    | extract_lets +onlyGivenNames vv
    | with_reducible refine keep_ite ?_ ?_
    | with_reducible apply Keep.step (keep_sendLocal _ _ _)
    | with_reducible apply Keep.step (keep_setPd _ _ _)
    | with_reducible apply Keep.step (keep_until _ _)
    | with_reducible apply Keep.step (keep_id _)
    | exact rfl
    | with_reducible refine keepr_next ?_

theorem keep_execPdelayReqReceived (f : Fin 4) (fr : Frame) (rx : Int) (s : State) : KeepR 0x412140 s (execPdelayReqReceived f fr rx s) := by
  unfold execPdelayReqReceived
  repeat' first
    | intro _
    | with_reducible assumption
    | with_reducible exact Keep.refl _ _
    | (extract_lets +onlyGivenNames vv; have hv : Keep 0x412140 s vv; unfold vv; clear vv; rotate_left; try clear_value vv; rotate_left)
    | (extract_lets +onlyGivenNames vv; clear_value vv)
    | extract_lets +onlyGivenNames vv
    | with_reducible refine keep_ite ?_ ?_
    | with_reducible apply Keep.step (keep_fresh _)
    | with_reducible apply Keep.step (keep_sendLocal _ _ _)
    | with_reducible apply Keep.step (keep_take _ _ _)
    | exact rfl
    | with_reducible refine keepr_next ?_

theorem keep_execPdelayRespReceived (f : Fin 4) (fr : Frame) (rx : Int) (s : State) : KeepR 0x8080010020 s (execPdelayRespReceived f fr rx s) := by
  unfold execPdelayRespReceived
  repeat' first
    | intro _
    | with_reducible assumption
    | with_reducible exact Keep.refl _ _
    | (extract_lets +onlyGivenNames vv; have hv : Keep 0x8080010020 s vv; unfold vv; clear vv; rotate_left; try clear_value vv; rotate_left)
    | (extract_lets +onlyGivenNames vv; clear_value vv)
    | extract_lets +onlyGivenNames vv
    | with_reducible refine keep_ite ?_ ?_
    | with_reducible apply Keep.step (keep_faultDown _ _)
    | with_reducible apply Keep.step (keep_setPd _ _ _)
    | with_reducible apply Keep.step (keep_setReg _ _ _)
    | with_reducible apply Keep.step (keep_take _ _ _)
    | with_reducible apply Keep.step (keep_id _)
    | exact rfl
    | with_reducible refine keepr_next ?_

theorem keep_execPdelayTimeout (f : Fin 4) (s : State) : KeepR 0x30091083089fd5c2266 s (execPdelayTimeout f s) := by
  unfold execPdelayTimeout
  repeat' first
    | intro _
    | with_reducible assumption
    | with_reducible exact Keep.refl _ _
    | (extract_lets +onlyGivenNames vv; have hv : Keep 0x30091083089fd5c2266 s vv; unfold vv; clear vv; rotate_left; try clear_value vv; rotate_left)
    | (extract_lets +onlyGivenNames vv; clear_value vv)
    | extract_lets +onlyGivenNames vv
    | with_reducible refine keep_ite ?_ ?_
    | with_reducible apply Keep.step (keep_bump _ _)
    | with_reducible apply Keep.step (keep_faultLevel _ _ _ _ _)
    | with_reducible apply Keep.step (keep_setPd _ _ _)
    | with_reducible apply Keep.step (keep_until _ _)
    | exact rfl
    | with_reducible refine keepr_next ?_
    | with_reducible exact keepr_fault
    | with_reducible refine keepr_ite ?_ ?_
    | with_reducible refine keep_foldl (fun _ _ _ => ?_) _ ?_
    | with_reducible exact cellsWf_filter _ (by assumption) _
    | with_reducible exact cellsWf_cellSet _ (by assumption) _ _
    | with_reducible refine keep_snd (by with_reducible assumption) ?_
    | with_reducible refine keep_fst (by with_reducible assumption) ?_
    | split

theorem keep_execCouplerTimeSend (s : State) : KeepR 0x8000402146 s (execCouplerTimeSend s) := by
  unfold execCouplerTimeSend
  repeat' first
    | intro _
    | with_reducible assumption
    | with_reducible exact Keep.refl _ _
    | (extract_lets +onlyGivenNames vv; have hv : Keep 0x8000402146 s vv; unfold vv; clear vv; rotate_left; try clear_value vv; rotate_left)
    | (extract_lets +onlyGivenNames vv; clear_value vv)
    | extract_lets +onlyGivenNames vv
    | (simp -zeta only [keepAt_mk]; with_reducible refine keep_mk_time ?_ ?_)
    | with_reducible refine keep_ite ?_ ?_
    | with_reducible apply Keep.step (keep_fresh _)
    | with_reducible apply Keep.step (keep_sendLocal _ _ _)
    | with_reducible apply Keep.step (keep_until _ _)
    | exact rfl
    | with_reducible refine keepr_next ?_
    | with_reducible exact keepr_fault
    | with_reducible refine keepr_ite ?_ ?_
    | with_reducible refine keep_foldl (fun _ _ _ => ?_) _ ?_
    | with_reducible exact cellsWf_filter _ (by assumption) _
    | with_reducible exact cellsWf_cellSet _ (by assumption) _ _
    | with_reducible refine keep_snd (by with_reducible assumption) ?_
    | with_reducible refine keep_fst (by with_reducible assumption) ?_
    | split

theorem keep_execPtpMessageReceived (e : Fin 8) (msg : PtpMsg) (s : State) : KeepR 0x30091083389fd5c2364 s (execPtpMessageReceived e msg s) := by
  unfold execPtpMessageReceived
  repeat' first
    | intro _
    | with_reducible assumption
    | with_reducible exact Keep.refl _ _
    | (extract_lets +onlyGivenNames vv; have hv : Keep 0x30091083389fd5c2364 s vv; unfold vv; clear vv; rotate_left; try clear_value vv; rotate_left)
    | (extract_lets +onlyGivenNames vv; clear_value vv)
    | extract_lets +onlyGivenNames vv
    | (simp -zeta only [keepAt_mk]; with_reducible refine keep_mk_time ?_ ?_)
    | with_reducible refine keep_ite ?_ ?_
    | with_reducible apply Keep.step (keep_applyOffset _ _)
    | with_reducible apply Keep.step (keep_elect _)
    | with_reducible apply Keep.step (keep_setReg _ _ _)
    | exact rfl
    | with_reducible refine keepr_next ?_
    | with_reducible exact keepr_fault
    | with_reducible refine keepr_ite ?_ ?_
    | with_reducible refine keep_foldl (fun _ _ _ => ?_) _ ?_
    | with_reducible exact cellsWf_filter _ (by assumption) _
    | with_reducible exact cellsWf_cellSet _ (by assumption) _ _
    | with_reducible refine keep_snd (by with_reducible assumption) ?_
    | with_reducible refine keep_fst (by with_reducible assumption) ?_
    | split

theorem keep_execPtpMessageSend (e : Fin 8) (kind : Fin 16) (s : State) : KeepR 0x8000000000 s (execPtpMessageSend e kind s) := by
  unfold execPtpMessageSend
  repeat' first
    | intro _
    | with_reducible assumption
    | with_reducible exact Keep.refl _ _
    | (extract_lets +onlyGivenNames vv; clear_value vv)
    | extract_lets +onlyGivenNames vv
    | (simp -zeta only [keepAt_mk]; with_reducible refine keep_mk_time ?_ ?_)
    | with_reducible refine keep_ite ?_ ?_
    | exact rfl
    | with_reducible refine keepr_next ?_

theorem keep_execPtpLockLost (e : Fin 8) (s : State) : KeepR 0x30091083389fd5c2264 s (execPtpLockLost e s) := by
  unfold execPtpLockLost
  repeat' first
    | intro _
    | with_reducible assumption
    | with_reducible exact Keep.refl _ _
    | (extract_lets +onlyGivenNames vv; clear_value vv)
    | extract_lets +onlyGivenNames vv
    | (simp -zeta only [keepAt_mk]; with_reducible refine keep_mk_time ?_ ?_)
    | with_reducible refine keep_ite ?_ ?_
    | with_reducible apply Keep.step (keep_elect _)
    | exact rfl
    | with_reducible refine keepr_next ?_

end Sys2Proof.Machine
end

