-- ==== Sys2Proof/Laws/KeepQueues.lean ====
section
/-! SUPPORT. What each operation and each command of `Machine/Queues.lean` keeps: the parts of the state outside its mask, and
the invariant. -/

namespace Sys2Proof.Machine
open Sys2Proof

theorem keep_setQueue (s : State) (n q : Nat) (x : QSt) : Keep 0x40000000000 s (State.setQueue s n q x) := by
  unfold State.setQueue
  repeat' first
    | intro _
    | with_reducible assumption
    | with_reducible exact Keep.refl _ _
    | (extract_lets +onlyGivenNames vv; clear_value vv)
    | extract_lets +onlyGivenNames vv
    | (simp -zeta only [keepAt_mk]; with_reducible refine keep_mk_queues ?_ ?_)
    | with_reducible refine keep_ite ?_ ?_
    | exact rfl

theorem keep_qAppend (s : State) (n q : Nat) (x : QSt) (p : List QItem) : Keep 0x300110004087c1c2040 s (State.qAppend s n q x p) := by
  unfold State.qAppend
  repeat' first
    | intro _
    | with_reducible assumption
    | with_reducible exact Keep.refl _ _
    | (extract_lets +onlyGivenNames vv; have hv : Keep 0x300110004087c1c2040 s vv; unfold vv; clear vv; rotate_left; try clear_value vv; rotate_left)
    | (extract_lets +onlyGivenNames vv; clear_value vv)
    | extract_lets +onlyGivenNames vv
    | with_reducible refine keep_ite ?_ ?_
    | with_reducible apply Keep.step (keep_raise _ _ _)
    | with_reducible apply Keep.step (keep_setQueue _ _ _ _)
    | exact rfl

theorem keep_qMark (s : State) (n q : Nat) (k : Nat) : Keep 0x300110004087c1c2040 s (State.qMark s n q k) := by
  unfold State.qMark
  repeat' first
    | intro _
    | with_reducible assumption
    | with_reducible exact Keep.refl _ _
    | (extract_lets +onlyGivenNames vv; clear_value vv)
    | extract_lets +onlyGivenNames vv
    | with_reducible refine keep_ite ?_ ?_
    | with_reducible apply Keep.step (keep_qAppend _ _ _ _ _)
    | exact rfl

theorem keep_qLose (s : State) (n q : Nat) : Keep 0x40000000040 s (State.qLose s n q) := by
  unfold State.qLose
  repeat' first
    | intro _
    | with_reducible assumption
    | with_reducible exact Keep.refl _ _
    | (extract_lets +onlyGivenNames vv; clear_value vv)
    | extract_lets +onlyGivenNames vv
    | with_reducible refine keep_ite ?_ ?_
    | with_reducible apply Keep.step (keep_bump _ _)
    | with_reducible apply Keep.step (keep_setQueue _ _ _ _)
    | exact rfl

theorem keep_qPush (s : State) (n q : Nat) (p : List QItem) : Keep 0x300110004087c1c2040 s (State.qPush s n q p) := by
  unfold State.qPush
  repeat' first
    | intro _
    | with_reducible assumption
    | with_reducible exact Keep.refl _ _
    | (extract_lets +onlyGivenNames vv; have hv : Keep 0x300110004087c1c2040 s vv; unfold vv; clear vv; rotate_left; try clear_value vv; rotate_left)
    | (extract_lets +onlyGivenNames vv; clear_value vv)
    | extract_lets +onlyGivenNames vv
    | with_reducible refine keep_ite ?_ ?_
    | with_reducible apply Keep.step (keep_qAppend _ _ _ _ _)
    | with_reducible apply Keep.step (keep_qLose _ _ _)
    | with_reducible apply Keep.step (keep_qMark _ _ _ _)
    | exact rfl

theorem keep_qWrite (s : State) (n q : Nat) (i : QItem) : Keep 0x300110004087c1c2040 s (State.qWrite s n q i) := by
  unfold State.qWrite
  repeat' first
    | intro _
    | with_reducible assumption
    | with_reducible exact Keep.refl _ _
    | (extract_lets +onlyGivenNames vv; have hv : Keep 0x300110004087c1c2040 s vv; unfold vv; clear vv; rotate_left; try clear_value vv; rotate_left)
    | (extract_lets +onlyGivenNames vv; clear_value vv)
    | extract_lets +onlyGivenNames vv
    | with_reducible refine keep_ite ?_ ?_
    | with_reducible apply Keep.step (keep_qLose _ _ _)
    | with_reducible apply Keep.step (keep_qPush _ _ _ _)
    | with_reducible apply Keep.step (keep_setQueue _ _ _ _)
    | exact rfl

theorem keep_execQueueProducerWrite (n : Fin 16) (q : Fin 25) (tag data : Nat) (s : State) : KeepR 0x300110004087c1c2040 s (execQueueProducerWrite n q tag data s) := by
  unfold execQueueProducerWrite
  repeat' first
    | intro _
    | with_reducible assumption
    | with_reducible exact Keep.refl _ _
    | (extract_lets +onlyGivenNames vv; clear_value vv)
    | extract_lets +onlyGivenNames vv
    | with_reducible refine keep_ite ?_ ?_
    | with_reducible apply Keep.step (keep_qWrite _ _ _ _)
    | exact rfl
    | with_reducible refine keepr_next ?_

theorem keep_execLossMarkerWrite (n : Fin 16) (q : Fin 25) (s : State) : KeepR 0x300110004087c1c2040 s (execLossMarkerWrite n q s) := by
  unfold execLossMarkerWrite
  repeat' first
    | intro _
    | with_reducible assumption
    | with_reducible exact Keep.refl _ _
    | (extract_lets +onlyGivenNames vv; clear_value vv)
    | extract_lets +onlyGivenNames vv
    | with_reducible refine keep_ite ?_ ?_
    | with_reducible apply Keep.step (keep_qMark _ _ _ _)
    | exact rfl
    | with_reducible refine keepr_next ?_

theorem keep_qPop (s : State) (n q : Nat) : Keep 0x40000000000 s (State.qPop s n q).2 := by
  unfold State.qPop
  repeat' first
    | intro _
    | with_reducible assumption
    | with_reducible exact Keep.refl _ _
    | (extract_lets +onlyGivenNames vv; clear_value vv)
    | extract_lets +onlyGivenNames vv
    | with_reducible refine keep_ite ?_ ?_
    | with_reducible apply Keep.step (keep_setQueue _ _ _ _)
    | exact rfl
    | with_reducible refine keep_foldl (fun _ _ _ => ?_) _ ?_
    | with_reducible exact cellsWf_filter _ (by assumption) _
    | with_reducible exact cellsWf_cellSet _ (by assumption) _ _
    | with_reducible refine keep_snd (by with_reducible assumption) ?_
    | with_reducible refine keep_fst (by with_reducible assumption) ?_
    | split

theorem keep_qTake {s : State} {n q : Nat} : ∀ {p t}, s.qTake n q = some (p, t) → Keep 0x40000000000 s t := by
  intro p t h
  unfold State.qTake at h
  dsimp only at h
  split at h
  · cases h; exact keep_setQueue _ _ _ _
  · cases h

theorem keep_busRead (s : State) (bar offset v : Nat) : Keep 0x80000000000 s (State.busRead s bar offset v) := by
  unfold State.busRead
  repeat' first
    | intro _
    | with_reducible assumption
    | with_reducible exact Keep.refl _ _
    | (extract_lets +onlyGivenNames vv; clear_value vv)
    | extract_lets +onlyGivenNames vv
    | (simp -zeta only [keepAt_mk]; with_reducible refine keep_mk_busReads ?_ ?_)
    | with_reducible refine keep_ite ?_ ?_
    | exact rfl

theorem keep_qReset (s : State) (n q : Nat) : Keep 0x30091083609fd5c2260 s (State.qReset s n q) := by
  unfold State.qReset
  repeat' first
    | intro _
    | with_reducible assumption
    | with_reducible exact Keep.refl _ _
    | (extract_lets +onlyGivenNames vv; have hv : Keep 0x30091083609fd5c2260 s vv; unfold vv; clear vv; rotate_left; try clear_value vv; rotate_left)
    | (extract_lets +onlyGivenNames vv; clear_value vv)
    | extract_lets +onlyGivenNames vv
    | with_reducible refine keep_ite ?_ ?_
    | with_reducible apply Keep.step (keep_bump _ _)
    | with_reducible apply Keep.step (keep_logRecord _ _ _)
    | with_reducible apply Keep.step (keep_occur _ _ _ _)
    | with_reducible apply Keep.step (keep_setCapture _ _ _)
    | with_reducible apply Keep.step (keep_setQueue _ _ _ _)
    | exact rfl

theorem keep_execQueueTagRead (n : Fin 16) (q : Fin 25) (pointerFault : Bool) (s : State) : KeepR 0x30091083e09fd5c2260 s (execQueueTagRead n q pointerFault s) := by
  unfold execQueueTagRead
  repeat' first
    | intro _
    | with_reducible assumption
    | with_reducible exact Keep.refl _ _
    | (extract_lets +onlyGivenNames vv; have hv : Keep 0x30091083e09fd5c2260 s vv; unfold vv; clear vv; rotate_left; try clear_value vv; rotate_left)
    | (extract_lets +onlyGivenNames vv; clear_value vv)
    | extract_lets +onlyGivenNames vv
    | with_reducible refine keep_ite ?_ ?_
    | with_reducible apply Keep.step (keep_bump _ _)
    | with_reducible apply Keep.step (keep_busRead _ _ _ _)
    | with_reducible apply Keep.step (keep_qPop _ _ _)
    | with_reducible apply Keep.step (keep_qReset _ _ _)
    | with_reducible apply Keep.step (keep_setQueue _ _ _ _)
    | exact rfl
    | with_reducible refine keepr_next ?_

theorem keep_execQueueDataWrite (n : Fin 16) (q : Fin 25) (hi : Bool) (v : Nat) (s : State) : KeepR 0x40000000040 s (execQueueDataWrite n q hi v s) := by
  unfold execQueueDataWrite
  repeat' first
    | intro _
    | with_reducible assumption
    | with_reducible exact Keep.refl _ _
    | (extract_lets +onlyGivenNames vv; clear_value vv)
    | extract_lets +onlyGivenNames vv
    | with_reducible refine keep_ite ?_ ?_
    | with_reducible apply Keep.step (keep_bump _ _)
    | with_reducible apply Keep.step (keep_setQueue _ _ _ _)
    | exact rfl
    | with_reducible refine keepr_next ?_

theorem keep_execQueueTagWrite (n : Fin 16) (q : Fin 25) (tag : Nat) (s : State) : KeepR 0x300110004087c1c2040 s (execQueueTagWrite n q tag s) := by
  unfold execQueueTagWrite
  repeat' first
    | intro _
    | with_reducible assumption
    | with_reducible exact Keep.refl _ _
    | (extract_lets +onlyGivenNames vv; clear_value vv)
    | extract_lets +onlyGivenNames vv
    | with_reducible refine keep_ite ?_ ?_
    | with_reducible apply Keep.step (keep_bump _ _)
    | with_reducible apply Keep.step (keep_qWrite _ _ _ _)
    | exact rfl
    | with_reducible refine keepr_next ?_

theorem keep_execQueueDataLoPop (n : Fin 16) (q : Fin 25) (s : State) : KeepR 0xc0000000040 s (execQueueDataLoPop n q s) := by
  unfold execQueueDataLoPop
  repeat' first
    | intro _
    | with_reducible assumption
    | with_reducible exact Keep.refl _ _
    | (extract_lets +onlyGivenNames vv; clear_value vv)
    | extract_lets +onlyGivenNames vv
    | with_reducible refine keep_ite ?_ ?_
    | with_reducible apply Keep.step (keep_bump _ _)
    | with_reducible apply Keep.step (keep_busRead _ _ _ _)
    | with_reducible apply Keep.step (keep_setQueue _ _ _ _)
    | exact rfl
    | with_reducible refine keepr_next ?_
    | with_reducible exact keepr_fault
    | with_reducible refine keepr_ite ?_ ?_
    | with_reducible refine keep_foldl (fun _ _ _ => ?_) _ ?_
    | with_reducible exact cellsWf_filter _ (by assumption) _
    | with_reducible exact cellsWf_cellSet _ (by assumption) _ _
    | with_reducible refine keep_snd (by with_reducible assumption) ?_
    | with_reducible refine keep_fst (by with_reducible assumption) ?_
    | split

theorem keep_execQueueFlushCommand (w : Writer) (n : Fin 16) (q : Fin 25) (v : Nat) (s : State) : KeepR 0xb0090800408005c26c0 s (execQueueFlushCommand w n q v s) := by
  unfold execQueueFlushCommand
  try dsimp only
  repeat' first
    | intro _
    | with_reducible assumption
    | with_reducible exact Keep.refl _ _
    | with_reducible refine keep_ite ?_ ?_
    | with_reducible apply Keep.step (keep_setQueue _ _ _ _)
    | with_reducible apply Keep.step (n := 0xb0090800408005c26c0) (keep_write _ _ _ _ _ _ ?_ ?_)
    | with_reducible apply Keep.step (keep_id _)
    | exact rfl
    | with_reducible refine keepr_next ?_

theorem keep_execQueueFlushComplete (n : Fin 16) (q : Fin 25) (s : State) : KeepR 0x40000000000 s (execQueueFlushComplete n q s) := by
  unfold execQueueFlushComplete
  repeat' first
    | intro _
    | with_reducible assumption
    | with_reducible exact Keep.refl _ _
    | (extract_lets +onlyGivenNames vv; clear_value vv)
    | extract_lets +onlyGivenNames vv
    | with_reducible refine keep_ite ?_ ?_
    | with_reducible apply Keep.step (keep_setQueue _ _ _ _)
    | exact rfl
    | with_reducible refine keepr_next ?_

theorem keep_qSkip (s : State) (n q : Nat) : Keep 0x40000000000 s (State.qSkip s n q) := by
  unfold State.qSkip
  repeat' first
    | intro _
    | with_reducible assumption
    | with_reducible exact Keep.refl _ _
    | (extract_lets +onlyGivenNames vv; clear_value vv)
    | extract_lets +onlyGivenNames vv
    | with_reducible refine keep_ite ?_ ?_
    | with_reducible apply Keep.step (keep_setQueue _ _ _ _)
    | exact rfl

theorem keep_execQueueSkipCommand (w : Writer) (n : Fin 16) (q : Fin 25) (v : Nat) (s : State) : KeepR 0xb0090800408005c26c0 s (execQueueSkipCommand w n q v s) := by
  unfold execQueueSkipCommand
  repeat' first
    | intro _
    | with_reducible assumption
    | with_reducible exact Keep.refl _ _
    | (extract_lets +onlyGivenNames vv; clear_value vv)
    | extract_lets +onlyGivenNames vv
    | with_reducible refine keep_ite ?_ ?_
    | with_reducible apply Keep.step (keep_qSkip _ _ _)
    | with_reducible apply Keep.step (n := 0xb0090800408005c26c0) (keep_write _ _ _ _ _ _ ?_ ?_)
    | with_reducible apply Keep.step (keep_id _)
    | exact rfl
    | with_reducible refine keepr_next ?_

theorem keep_execQueueConfigWrite (w : Writer) (n : Fin 16) (q : Fin 25) (v : Nat) (s : State) : KeepR 0xb0090800408005c26e0 s (execQueueConfigWrite w n q v s) := by
  unfold execQueueConfigWrite
  try dsimp only
  repeat' first
    | intro _
    | with_reducible assumption
    | with_reducible exact Keep.refl _ _
    | with_reducible refine keep_ite ?_ ?_
    | with_reducible apply Keep.step (keep_setQueue _ _ _ _)
    | with_reducible apply Keep.step (keep_setReg _ _ _)
    | with_reducible apply Keep.step (keep_store _ _ _)
    | with_reducible apply Keep.step (n := 0xb0090800408005c26e0) (keep_write _ _ _ _ _ _ ?_ ?_)
    | with_reducible apply Keep.step (keep_id _)
    | exact rfl
    | with_reducible refine keepr_next ?_

end Sys2Proof.Machine
end

