-- ==== Sys2Proof/Laws/KeepPans.lean ====
section
/-! SUPPORT. What each operation and each command of `Machine/Pans.lean` keeps: the parts of the state outside its mask, and
the invariant. -/

namespace Sys2Proof.Machine
open Sys2Proof

theorem keep_setPan (s : State) (n : Nat) (p : PanSt) : Keep 0x200000000000000000 s (State.setPan s n p) := by
  unfold State.setPan
  repeat' first
    | intro _
    | with_reducible assumption
    | with_reducible exact Keep.refl _ _
    | (extract_lets +onlyGivenNames vv; clear_value vv)
    | extract_lets +onlyGivenNames vv
    | (simp -zeta only [keepAt_mk]; with_reducible refine keep_mk_pans ?_ ?_)
    | with_reducible refine keep_ite ?_ ?_
    | exact rfl

theorem keep_panAsk (s : State) (n : Nat) : Keep 0x200000000000000000 s (State.panAsk s n) := by
  unfold State.panAsk
  repeat' first
    | intro _
    | with_reducible assumption
    | with_reducible exact Keep.refl _ _
    | (extract_lets +onlyGivenNames vv; clear_value vv)
    | extract_lets +onlyGivenNames vv
    | with_reducible refine keep_ite ?_ ?_
    | with_reducible apply Keep.step (keep_setPan _ _ _)
    | exact rfl

theorem keep_panWindow (s : State) (n : Nat) (t : Int) : Keep 0x200000000000000000 s (State.panWindow s n t) := by
  unfold State.panWindow
  repeat' first
    | intro _
    | with_reducible assumption
    | with_reducible exact Keep.refl _ _
    | (extract_lets +onlyGivenNames vv; have hv : Keep 0x200000000000000000 s vv; unfold vv; clear vv; rotate_left; try clear_value vv; rotate_left)
    | (extract_lets +onlyGivenNames vv; clear_value vv)
    | extract_lets +onlyGivenNames vv
    | with_reducible refine keep_ite ?_ ?_
    | with_reducible apply Keep.step (keep_panAsk _ _)
    | with_reducible apply Keep.step (keep_setPan _ _ _)
    | exact rfl

theorem keep_setLive (s : State) (n : Nat) (b : Bool) : Keep 0x30011000008fc1c2040 s (State.setLive s n b) := by
  unfold State.setLive
  repeat' first
    | intro _
    | with_reducible assumption
    | with_reducible exact Keep.refl _ _
    | (extract_lets +onlyGivenNames vv; clear_value vv)
    | extract_lets +onlyGivenNames vv
    | with_reducible refine keep_ite ?_ ?_
    | with_reducible apply Keep.step (keep_faultDown _ _)
    | with_reducible apply Keep.step (keep_raise _ _ _)
    | with_reducible apply Keep.step (keep_setFlt _ _ _)
    | exact rfl

end Sys2Proof.Machine
end

