-- ==== Sys2Proof/Laws/KeepLines.lean ====
section
/-! SUPPORT. What each operation and each command of `Machine/Lines.lean` keeps: the parts of the state outside its mask, and
the invariant. -/

namespace Sys2Proof.Machine
open Sys2Proof

theorem keep_linesLive (s : State) (n : Nat) : Keep 0x30011000008fc1c2040 s (State.linesLive s n) := by
  unfold State.linesLive
  repeat' first
    | intro _
    | with_reducible assumption
    | with_reducible exact Keep.refl _ _
    | (extract_lets +onlyGivenNames vv; clear_value vv)
    | extract_lets +onlyGivenNames vv
    | with_reducible refine keep_ite ?_ ?_
    | with_reducible apply Keep.step (keep_setLive _ _ _)
    | exact rfl

theorem keep_lineBit (s : State) (i b : Nat) : Keep 0x30091083009fd5c2260 s (State.lineBit s i b) := by
  unfold State.lineBit
  repeat' first
    | intro _
    | with_reducible assumption
    | with_reducible exact Keep.refl _ _
    | (extract_lets +onlyGivenNames vv; have hv : Keep 0x30091083009fd5c2260 s vv; unfold vv; clear vv; rotate_left; try clear_value vv; rotate_left)
    | (extract_lets +onlyGivenNames vv; clear_value vv)
    | extract_lets +onlyGivenNames vv
    | with_reducible refine keep_ite ?_ ?_
    | with_reducible apply Keep.step (keep_linesLive _ _)
    | with_reducible apply Keep.step (keep_occur _ _ _ _)
    | with_reducible apply Keep.step (keep_setLine _ _ _)
    | exact rfl

theorem keep_lineAct {m : Nat} (s : State) (i : Nat) (f : State → State) (hf : ∀ s , Keep m s (f s )) (hm : Nat.land 0x30011001008fc1c2160 m = 0x30011001008fc1c2160) : Keep m s (State.lineAct s i f) := by
  unfold State.lineAct
  repeat' first
    | intro _
    | with_reducible assumption
    | with_reducible exact Keep.refl _ _
    | (extract_lets +onlyGivenNames vv; have hv : Keep m s vv; unfold vv; clear vv; rotate_left; try clear_value vv; rotate_left)
    | (extract_lets +onlyGivenNames vv; clear_value vv)
    | extract_lets +onlyGivenNames vv
    | with_reducible refine keep_ite ?_ ?_
    | with_reducible apply Keep.step (keep_fresh _)
    | with_reducible apply Keep.step (keep_linesLive _ _)
    | with_reducible apply Keep.step (keep_setLine _ _ _)
    | with_reducible apply Keep.step (keep_setReg _ _ _)
    | with_reducible apply Keep.step (hf _)
    | with_reducible apply Keep.step (keep_id _)
    | with_reducible exact keep_self _
    | exact keep_sub rfl hm

theorem keep_lineTrip (s : State) (i b : Nat) : Keep 0x30091083009fd5c2260 s (State.lineTrip s i b) := by
  unfold State.lineTrip
  repeat' first
    | intro _
    | with_reducible assumption
    | with_reducible exact Keep.refl _ _
    | (extract_lets +onlyGivenNames vv; have hv : Keep 0x30091083009fd5c2260 s vv; unfold vv; clear vv; rotate_left; try clear_value vv; rotate_left)
    | (extract_lets +onlyGivenNames vv; clear_value vv)
    | extract_lets +onlyGivenNames vv
    | with_reducible refine keep_ite ?_ ?_
    | with_reducible apply Keep.step (keep_lineBit _ _ _)
    | with_reducible apply Keep.step (keep_setLine _ _ _)
    | exact rfl

theorem keep_lineRetry (s : State) (i : Nat) : Keep 0x30011001008fc1c2160 s (State.lineRetry s i) := by
  unfold State.lineRetry
  repeat' first
    | intro _
    | with_reducible assumption
    | with_reducible exact Keep.refl _ _
    | (extract_lets +onlyGivenNames vv; clear_value vv)
    | extract_lets +onlyGivenNames vv
    | with_reducible refine keep_ite ?_ ?_
    | with_reducible apply Keep.step (n := 0x30011001008fc1c2160) (keep_lineAct _ _ _ ?_ ?_)
    | with_reducible apply Keep.step (keep_setLine _ _ _)
    | exact rfl

theorem keep_capture1 (s : State) (n kind num : Nat) (rising : Bool) (stamp : Int) : Keep 0x30091083609fd5c2260 s (State.capture1 s n kind num rising stamp) := by
  unfold State.capture1
  repeat' first
    | intro _
    | with_reducible assumption
    | with_reducible exact Keep.refl _ _
    | (extract_lets +onlyGivenNames vv; have hv : Keep 0x30091083609fd5c2260 s vv; unfold vv; clear vv; rotate_left; try clear_value vv; rotate_left)
    | (extract_lets +onlyGivenNames vv; clear_value vv)
    | extract_lets +onlyGivenNames vv
    | with_reducible refine keep_ite ?_ ?_
    | with_reducible apply Keep.step (keep_bump _ _)
    | with_reducible apply Keep.step (keep_occur _ _ _ _)
    | with_reducible apply Keep.step (keep_qPush _ _ _ _)
    | with_reducible apply Keep.step (keep_setCapture _ _ _)
    | exact rfl

theorem keep_lineDeliver (s : State) (c : Nat × Bool × Int) : Keep 0x30091083609fd5c2260 s (State.lineDeliver s c) := by
  unfold State.lineDeliver
  repeat' first
    | intro _
    | with_reducible assumption
    | with_reducible exact Keep.refl _ _
    | (extract_lets +onlyGivenNames vv; have hv : Keep 0x30091083609fd5c2260 s vv; unfold vv; clear vv; rotate_left; try clear_value vv; rotate_left)
    | (extract_lets +onlyGivenNames vv; clear_value vv)
    | extract_lets +onlyGivenNames vv
    | with_reducible refine keep_ite ?_ ?_
    | with_reducible apply Keep.step (keep_capture1 _ _ _ _ _ _)
    | with_reducible apply Keep.step (keep_raise _ _ _)
    | with_reducible apply Keep.step (keep_setLine _ _ _)
    | exact rfl

theorem keep_lineAccept (s : State) (i : Nat) (level : Bool) (stamp : Int) : Keep 0x32091083609fd5c2260 s (State.lineAccept s i level stamp) := by
  unfold State.lineAccept
  repeat' first
    | intro _
    | with_reducible assumption
    | with_reducible exact Keep.refl _ _
    | (extract_lets +onlyGivenNames vv; have hv : Keep 0x32091083609fd5c2260 s vv; unfold vv; clear vv; rotate_left; try clear_value vv; rotate_left)
    | (extract_lets +onlyGivenNames vv; clear_value vv)
    | extract_lets +onlyGivenNames vv
    | with_reducible refine keep_ite ?_ ?_
    | with_reducible apply Keep.step (keep_bump _ _)
    | with_reducible apply Keep.step (keep_lineDeliver _ _)
    | with_reducible apply Keep.step (keep_setCapture _ _ _)
    | with_reducible apply Keep.step (keep_setLine _ _ _)
    | with_reducible apply Keep.step (keep_setPan _ _ _)
    | exact rfl

theorem keep_linesWake (s : State) (n : Nat) : Keep 0x32091083609fd5c2260 s (State.linesWake s n) := by
  unfold State.linesWake
  repeat' first
    | intro _
    | with_reducible assumption
    | with_reducible exact Keep.refl _ _
    | (extract_lets +onlyGivenNames vv; have hv : Keep 0x32091083609fd5c2260 s vv; unfold vv; clear vv; rotate_left; try clear_value vv; rotate_left)
    | (extract_lets +onlyGivenNames vv; clear_value vv)
    | extract_lets +onlyGivenNames vv
    | with_reducible refine keep_ite ?_ ?_
    | with_reducible apply Keep.step (keep_lineDeliver _ _)
    | with_reducible apply Keep.step (keep_setLine _ _ _)
    | with_reducible apply Keep.step (keep_setPan _ _ _)
    | exact rfl
    | with_reducible refine keep_foldl (fun _ _ _ => ?_) _ ?_

theorem keep_execDlModeWrite (w : Writer) (i : Fin 256) (v : Nat) (s : State) : KeepR 0xb0091801008fc5c27e0 s (execDlModeWrite w i v s) := by
  unfold execDlModeWrite
  try dsimp only
  repeat' first
    | intro _
    | with_reducible assumption
    | with_reducible exact Keep.refl _ _
    | with_reducible refine keep_ite ?_ ?_
    | with_reducible apply Keep.step (n := 0xb0091801008fc5c27e0) (keep_lineAct _ _ _ ?_ ?_)
    | with_reducible apply Keep.step (keep_setCount _ _ _)
    | with_reducible apply Keep.step (keep_setLine _ _ _)
    | with_reducible apply Keep.step (keep_setReg _ _ _)
    | with_reducible apply Keep.step (keep_store _ _ _)
    | with_reducible apply Keep.step (n := 0xb0091801008fc5c27e0) (keep_write _ _ _ _ _ _ ?_ ?_)
    | with_reducible apply Keep.step (keep_id _)
    | exact rfl
    | with_reducible refine keepr_next ?_

theorem keep_execDlRawCrossing (i : Fin 256) (level : Bool) (s : State) : KeepR 0x200000100000000000 s (execDlRawCrossing i level s) := by
  unfold execDlRawCrossing
  repeat' first
    | intro _
    | with_reducible assumption
    | with_reducible exact Keep.refl _ _
    | (extract_lets +onlyGivenNames vv; have hv : Keep 0x200000100000000000 s vv; unfold vv; clear vv; rotate_left; try clear_value vv; rotate_left)
    | (extract_lets +onlyGivenNames vv; clear_value vv)
    | extract_lets +onlyGivenNames vv
    | with_reducible refine keep_ite ?_ ?_
    | with_reducible apply Keep.step (keep_panAsk _ _)
    | with_reducible apply Keep.step (keep_setLine _ _ _)
    | exact rfl
    | with_reducible refine keepr_next ?_
    | with_reducible exact keepr_fault
    | with_reducible refine keepr_ite ?_ ?_

theorem keep_execDebounceComplete (i : Fin 256) (s : State) : KeepR 0x32091083689fd5c2266 s (execDebounceComplete i s) := by
  unfold execDebounceComplete
  repeat' first
    | intro _
    | with_reducible assumption
    | with_reducible exact Keep.refl _ _
    | (extract_lets +onlyGivenNames vv; have hv : Keep 0x32091083689fd5c2266 s vv; unfold vv; clear vv; rotate_left; try clear_value vv; rotate_left)
    | (extract_lets +onlyGivenNames vv; clear_value vv)
    | extract_lets +onlyGivenNames vv
    | with_reducible refine keep_ite ?_ ?_
    | with_reducible apply Keep.step (keep_lineAccept _ _ _ _)
    | with_reducible apply Keep.step (keep_setLine _ _ _)
    | with_reducible apply Keep.step (keep_until _ _)
    | exact rfl
    | with_reducible refine keepr_next ?_
    | with_reducible exact keepr_fault
    | with_reducible refine keepr_ite ?_ ?_

theorem keep_execInDelayMeasure (i : Fin 256) (ps : Nat) (s : State) : KeepR 0x20 s (execInDelayMeasure i ps s) := by
  unfold execInDelayMeasure
  repeat' first
    | intro _
    | with_reducible assumption
    | with_reducible exact Keep.refl _ _
    | (extract_lets +onlyGivenNames vv; clear_value vv)
    | extract_lets +onlyGivenNames vv
    | with_reducible refine keep_ite ?_ ?_
    | with_reducible apply Keep.step (keep_setReg _ _ _)
    | exact rfl
    | with_reducible refine keepr_next ?_
    | with_reducible exact keepr_fault
    | with_reducible refine keepr_ite ?_ ?_

theorem keep_execDlCounterEdge (i : Fin 256) (rising : Bool) (s : State) : KeepR 0x32091083609fd5c2260 s (execDlCounterEdge i rising s) := by
  unfold execDlCounterEdge
  repeat' first
    | intro _
    | with_reducible assumption
    | with_reducible exact Keep.refl _ _
    | (extract_lets +onlyGivenNames vv; have hv : Keep 0x32091083609fd5c2260 s vv; unfold vv; clear vv; rotate_left; try clear_value vv; rotate_left)
    | (extract_lets +onlyGivenNames vv; clear_value vv)
    | extract_lets +onlyGivenNames vv
    | with_reducible refine keep_ite ?_ ?_
    | with_reducible apply Keep.step (keep_lineAccept _ _ _ _)
    | with_reducible apply Keep.step (keep_setLine _ _ _)
    | with_reducible apply Keep.step (keep_setReg _ _ _)
    | exact rfl
    | with_reducible refine keepr_next ?_
    | with_reducible exact keepr_fault
    | with_reducible refine keepr_ite ?_ ?_

theorem keep_execDlLimitTrip (i : Fin 256) (s : State) : KeepR 0x30091083009fd5c2260 s (execDlLimitTrip i s) := by
  unfold execDlLimitTrip
  repeat' first
    | intro _
    | with_reducible assumption
    | with_reducible exact Keep.refl _ _
    | (extract_lets +onlyGivenNames vv; clear_value vv)
    | extract_lets +onlyGivenNames vv
    | with_reducible refine keep_ite ?_ ?_
    | with_reducible apply Keep.step (keep_lineTrip _ _ _)
    | exact rfl
    | with_reducible refine keepr_next ?_

theorem keep_execDlThermalTrip (i : Fin 256) (s : State) : KeepR 0x30091083009fd5c2260 s (execDlThermalTrip i s) := by
  unfold execDlThermalTrip
  repeat' first
    | intro _
    | with_reducible assumption
    | with_reducible exact Keep.refl _ _
    | (extract_lets +onlyGivenNames vv; clear_value vv)
    | extract_lets +onlyGivenNames vv
    | with_reducible refine keep_ite ?_ ?_
    | with_reducible apply Keep.step (keep_lineTrip _ _ _)
    | exact rfl
    | with_reducible refine keepr_next ?_

theorem keep_shedLines (l : List (Nat × Nat)) : ∀ (s : State) (n : Nat), Keep 0x30091083009fd5c2260 s (s.shedLines l n) := by
  induction l with
  | nil => intro s n; exact Keep.refl _ _
  | cons a l ih =>
    intro s n
    unfold State.shedLines
    split
    · exact Keep.refl _ _
    · exact Keep.step (ih _ _) rfl ((keep_lineTrip _ _ _).mono rfl)

theorem keep_execDlPanShed (n : Fin 16) (currents : List Nat) (s : State) : KeepR 0x30091083009fd5c2260 s (execDlPanShed n currents s) := by
  unfold execDlPanShed
  repeat' first
    | intro _
    | with_reducible assumption
    | with_reducible exact Keep.refl _ _
    | (extract_lets +onlyGivenNames vv; clear_value vv)
    | extract_lets +onlyGivenNames vv
    | with_reducible refine keep_ite ?_ ?_
    | with_reducible apply Keep.step (keep_occur _ _ _ _)
    | with_reducible apply Keep.step (keep_shedLines _ _ _)
    | exact rfl
    | with_reducible refine keepr_next ?_
    | with_reducible exact keepr_fault
    | with_reducible refine keepr_ite ?_ ?_

theorem keep_execDlRetryBackoffExpiry (i : Fin 256) (s : State) : KeepR 0x30011001088fc1c2166 s (execDlRetryBackoffExpiry i s) := by
  unfold execDlRetryBackoffExpiry
  repeat' first
    | intro _
    | with_reducible assumption
    | with_reducible exact Keep.refl _ _
    | (extract_lets +onlyGivenNames vv; have hv : Keep 0x30011001088fc1c2166 s vv; unfold vv; clear vv; rotate_left; try clear_value vv; rotate_left)
    | (extract_lets +onlyGivenNames vv; clear_value vv)
    | extract_lets +onlyGivenNames vv
    | with_reducible refine keep_ite ?_ ?_
    | with_reducible apply Keep.step (keep_lineRetry _ _)
    | with_reducible apply Keep.step (keep_until _ _)
    | exact rfl
    | with_reducible refine keepr_next ?_
    | with_reducible exact keepr_fault
    | with_reducible refine keepr_ite ?_ ?_

theorem keep_lineCooled (s : State) (i : Nat) : Keep 0x30011001008fc1c2160 s (State.lineCooled s i) := by
  unfold State.lineCooled
  repeat' first
    | intro _
    | with_reducible assumption
    | with_reducible exact Keep.refl _ _
    | (extract_lets +onlyGivenNames vv; have hv : Keep 0x30011001008fc1c2160 s vv; unfold vv; clear vv; rotate_left; try clear_value vv; rotate_left)
    | (extract_lets +onlyGivenNames vv; clear_value vv)
    | extract_lets +onlyGivenNames vv
    | with_reducible refine keep_ite ?_ ?_
    | with_reducible apply Keep.step (keep_lineRetry _ _)
    | with_reducible apply Keep.step (keep_setLine _ _ _)
    | exact rfl

theorem keep_lineSteady (s : State) (i : Nat) : Keep 0x108000000006 s (State.lineSteady s i) := by
  unfold State.lineSteady
  repeat' first
    | intro _
    | with_reducible assumption
    | with_reducible exact Keep.refl _ _
    | (extract_lets +onlyGivenNames vv; clear_value vv)
    | extract_lets +onlyGivenNames vv
    | with_reducible refine keep_ite ?_ ?_
    | with_reducible apply Keep.step (keep_setLine _ _ _)
    | with_reducible apply Keep.step (keep_until _ _)
    | exact rfl

theorem keep_execDlClear (w : Writer) (i : Fin 256) (v : Nat) (s : State) : KeepR 0xb0091801008fc5c27e0 s (execDlClear w i v s) := by
  unfold execDlClear
  try dsimp only
  repeat' first
    | intro _
    | with_reducible assumption
    | with_reducible exact Keep.refl _ _
    | with_reducible refine keep_ite ?_ ?_
    | with_reducible apply Keep.step (n := 0xb0091801008fc5c27e0) (keep_command _ _ _ _ _ _ ?_ ?_)
    | with_reducible apply Keep.step (n := 0xb0091801008fc5c27e0) (keep_lineAct _ _ _ ?_ ?_)
    | with_reducible apply Keep.step (keep_setLine _ _ _)
    | with_reducible apply Keep.step (keep_id _)
    | exact rfl
    | with_reducible refine keepr_next ?_

theorem keep_execDlWireTest (i : Fin 256) (high : Bool) (s : State) : KeepR 0x30091083089fd5c2266 s (execDlWireTest i high s) := by
  unfold execDlWireTest
  repeat' first
    | intro _
    | with_reducible assumption
    | with_reducible exact Keep.refl _ _
    | (extract_lets +onlyGivenNames vv; have hv : Keep 0x30091083089fd5c2266 s vv; unfold vv; clear vv; rotate_left; try clear_value vv; rotate_left)
    | (extract_lets +onlyGivenNames vv; clear_value vv)
    | extract_lets +onlyGivenNames vv
    | with_reducible refine keep_ite ?_ ?_
    | with_reducible apply Keep.step (keep_lineBit _ _ _)
    | with_reducible apply Keep.step (keep_setLine _ _ _)
    | with_reducible apply Keep.step (keep_until _ _)
    | exact rfl
    | with_reducible refine keepr_next ?_
    | with_reducible exact keepr_fault
    | with_reducible refine keepr_ite ?_ ?_

theorem keep_execDlOpenOnDetect (i : Fin 256) (s : State) : KeepR 0x30091083009fd5c2260 s (execDlOpenOnDetect i s) := by
  unfold execDlOpenOnDetect
  repeat' first
    | intro _
    | with_reducible assumption
    | with_reducible exact Keep.refl _ _
    | (extract_lets +onlyGivenNames vv; clear_value vv)
    | extract_lets +onlyGivenNames vv
    | with_reducible refine keep_ite ?_ ?_
    | with_reducible apply Keep.step (keep_lineBit _ _ _)
    | with_reducible apply Keep.step (keep_setLine _ _ _)
    | exact rfl
    | with_reducible refine keepr_next ?_
    | with_reducible exact keepr_fault
    | with_reducible refine keepr_ite ?_ ?_

theorem keep_execDlShortVfieldDetect (i : Fin 256) (s : State) : KeepR 0x30091083009fd5c2260 s (execDlShortVfieldDetect i s) := by
  unfold execDlShortVfieldDetect
  repeat' first
    | intro _
    | with_reducible assumption
    | with_reducible exact Keep.refl _ _
    | (extract_lets +onlyGivenNames vv; clear_value vv)
    | extract_lets +onlyGivenNames vv
    | with_reducible refine keep_ite ?_ ?_
    | with_reducible apply Keep.step (keep_lineBit _ _ _)
    | with_reducible apply Keep.step (keep_setLine _ _ _)
    | exact rfl
    | with_reducible refine keepr_next ?_
    | with_reducible exact keepr_fault
    | with_reducible refine keepr_ite ?_ ?_

theorem keep_execDlStatusClear (i : Fin 256) (bit : Fin 16) (s : State) : KeepR 0x30011001088fc1c2046 s (execDlStatusClear i bit s) := by
  unfold execDlStatusClear
  repeat' first
    | intro _
    | with_reducible assumption
    | with_reducible exact Keep.refl _ _
    | (extract_lets +onlyGivenNames vv; clear_value vv)
    | extract_lets +onlyGivenNames vv
    | with_reducible refine keep_ite ?_ ?_
    | with_reducible apply Keep.step (keep_linesLive _ _)
    | with_reducible apply Keep.step (keep_setLine _ _ _)
    | with_reducible apply Keep.step (keep_until _ _)
    | exact rfl
    | with_reducible refine keepr_next ?_
    | with_reducible exact keepr_fault
    | with_reducible refine keepr_ite ?_ ?_

theorem keep_lineWord (s : State) (i v : Nat) : Keep 0x30011001008fc1c2160 s (State.lineWord s i v) := by
  unfold State.lineWord
  try dsimp only
  repeat' first
    | intro _
    | with_reducible assumption
    | with_reducible exact Keep.refl _ _
    | with_reducible refine keep_ite ?_ ?_
    | with_reducible apply Keep.step (n := 0x30011001008fc1c2160) (keep_lineAct _ _ _ ?_ ?_)
    | with_reducible apply Keep.step (keep_setLine _ _ _)
    | exact rfl

theorem keep_lineDrive (s : State) (i : Nat) (level : Bool) : Keep 0x30011001008fc1c2160 s (State.lineDrive s i level) := by
  unfold State.lineDrive
  repeat' first
    | intro _
    | with_reducible assumption
    | with_reducible exact Keep.refl _ _
    | (extract_lets +onlyGivenNames vv; clear_value vv)
    | extract_lets +onlyGivenNames vv
    | with_reducible refine keep_ite ?_ ?_
    | with_reducible apply Keep.step (n := 0x30011001008fc1c2160) (keep_lineAct _ _ _ ?_ ?_)
    | with_reducible apply Keep.step (keep_setLine _ _ _)
    | with_reducible apply Keep.step (keep_setReg _ _ _)
    | exact rfl

theorem keep_execDlCommandWrite (w : Writer) (i : Fin 256) (v : Nat) (s : State) : KeepR 0xb0091801008fc5c27e0 s (execDlCommandWrite w i v s) := by
  unfold execDlCommandWrite
  try dsimp only
  repeat' first
    | intro _
    | with_reducible assumption
    | with_reducible exact Keep.refl _ _
    | with_reducible refine keep_ite ?_ ?_
    | with_reducible apply Keep.step (keep_lineWord _ _ _)
    | with_reducible apply Keep.step (keep_store _ _ _)
    | with_reducible apply Keep.step (n := 0xb0091801008fc5c27e0) (keep_write _ _ _ _ _ _ ?_ ?_)
    | with_reducible apply Keep.step (keep_id _)
    | exact rfl
    | with_reducible refine keepr_next ?_

theorem keep_packedWord (s : State) (n v : Nat) (js : List Nat) : Keep 0x30011001008fc1c2160 s (State.packedWord s n v js) := by
  unfold State.packedWord
  repeat' first
    | intro _
    | with_reducible assumption
    | with_reducible exact Keep.refl _ _
    | (extract_lets +onlyGivenNames vv; clear_value vv)
    | extract_lets +onlyGivenNames vv
    | with_reducible refine keep_ite ?_ ?_
    | with_reducible apply Keep.step (keep_lineWord _ _ _)
    | exact rfl
    | with_reducible refine keep_foldl (fun _ _ _ => ?_) _ ?_

theorem keep_execOutPackedWrite (w : Writer) (n : Fin 16) (v : Nat) (s : State) : KeepR 0xb0091801008fc5c27e0 s (execOutPackedWrite w n v s) := by
  unfold execOutPackedWrite
  try dsimp only
  repeat' first
    | intro _
    | with_reducible assumption
    | with_reducible exact Keep.refl _ _
    | with_reducible refine keep_ite ?_ ?_
    | with_reducible apply Keep.step (keep_packedWord _ _ _ _)
    | with_reducible apply Keep.step (keep_store _ _ _)
    | with_reducible apply Keep.step (n := 0xb0091801008fc5c27e0) (keep_write _ _ _ _ _ _ ?_ ?_)
    | with_reducible apply Keep.step (keep_id _)
    | exact rfl
    | with_reducible refine keepr_next ?_

theorem keep_execSamplingWake (n : Fin 16) (s : State) : KeepR 0x200000000000000000 s (execSamplingWake n s) := by
  unfold execSamplingWake
  repeat' first
    | intro _
    | with_reducible assumption
    | with_reducible exact Keep.refl _ _
    | (extract_lets +onlyGivenNames vv; clear_value vv)
    | extract_lets +onlyGivenNames vv
    | with_reducible refine keep_ite ?_ ?_
    | with_reducible apply Keep.step (keep_panWindow _ _ _)
    | exact rfl
    | with_reducible refine keepr_next ?_

end Sys2Proof.Machine
end

