-- ==== Sys2Proof/Laws/KeepCan.lean ====
section
/-! SUPPORT. What each operation and each command of `Machine/Can.lean` keeps: the parts of the state outside its mask, and
the invariant. -/

namespace Sys2Proof.Machine
open Sys2Proof

theorem keep_setCan (s : State) (c : Nat) (x : CanSt) : Keep 0x400000000000 s (State.setCan s c x) := by
  unfold State.setCan
  repeat' first
    | intro _
    | with_reducible assumption
    | with_reducible exact Keep.refl _ _
    | (extract_lets +onlyGivenNames vv; clear_value vv)
    | extract_lets +onlyGivenNames vv
    | (simp -zeta only [keepAt_mk]; with_reducible refine keep_mk_cans ?_ ?_)
    | with_reducible refine keep_ite ?_ ?_
    | exact rfl

theorem keep_setMailbox (s : State) (c m : Nat) (x : MbSt) : Keep 0x400000000000 s (State.setMailbox s c m x) := by
  unfold State.setMailbox
  repeat' first
    | intro _
    | with_reducible assumption
    | with_reducible exact Keep.refl _ _
    | (extract_lets +onlyGivenNames vv; clear_value vv)
    | extract_lets +onlyGivenNames vv
    | with_reducible refine keep_ite ?_ ?_
    | with_reducible apply Keep.step (keep_setCan _ _ _)
    | exact rfl

theorem keep_canNotify (s : State) (c : Nat) (old : Nat) : Keep 0x30011000008fc1c2040 s (State.canNotify s c old) := by
  unfold State.canNotify
  repeat' first
    | intro _
    | with_reducible assumption
    | with_reducible exact Keep.refl _ _
    | (extract_lets +onlyGivenNames vv; have hv : Keep 0x30011000008fc1c2040 s vv; unfold vv; clear vv; rotate_left; try clear_value vv; rotate_left)
    | (extract_lets +onlyGivenNames vv; clear_value vv)
    | extract_lets +onlyGivenNames vv
    | with_reducible refine keep_ite ?_ ?_
    | with_reducible apply Keep.step (keep_raise _ _ _)
    | with_reducible apply Keep.step (keep_setLive _ _ _)
    | exact rfl

theorem keep_canCounters (s : State) (c : Nat) : Keep 0x20 s (State.canCounters s c) := by
  unfold State.canCounters
  repeat' first
    | intro _
    | with_reducible assumption
    | with_reducible exact Keep.refl _ _
    | (extract_lets +onlyGivenNames vv; clear_value vv)
    | extract_lets +onlyGivenNames vv
    | with_reducible refine keep_ite ?_ ?_
    | with_reducible apply Keep.step (keep_setReg _ _ _)
    | exact rfl

theorem keep_canEnd (s : State) (c : Nat) (p : List QItem) (cause : Nat) : Keep 0x300110044087c1c2040 s (State.canEnd s c p cause) := by
  unfold State.canEnd
  repeat' first
    | intro _
    | with_reducible assumption
    | with_reducible exact Keep.refl _ _
    | (extract_lets +onlyGivenNames vv; have hv : Keep 0x300110044087c1c2040 s vv; unfold vv; clear vv; rotate_left; try clear_value vv; rotate_left)
    | (extract_lets +onlyGivenNames vv; clear_value vv)
    | extract_lets +onlyGivenNames vv
    | with_reducible refine keep_ite ?_ ?_
    | with_reducible apply Keep.step (keep_bump _ _)
    | with_reducible apply Keep.step (keep_qPush _ _ _ _)
    | with_reducible apply Keep.step (keep_setCan _ _ _)
    | with_reducible apply Keep.step (keep_setQueue _ _ _ _)
    | exact rfl

theorem keep_canRunReset (s : State) (c : Nat) : Keep 0x400000000000 s (State.canRunReset s c) := by
  unfold State.canRunReset
  repeat' first
    | intro _
    | with_reducible assumption
    | with_reducible exact Keep.refl _ _
    | (extract_lets +onlyGivenNames vv; clear_value vv)
    | extract_lets +onlyGivenNames vv
    | with_reducible refine keep_ite ?_ ?_
    | with_reducible apply Keep.step (keep_setCan _ _ _)
    | exact rfl

theorem keep_canAlone (s : State) (c : Nat) : Keep 0x30091087009fd5c2260 s (State.canAlone s c) := by
  unfold State.canAlone
  repeat' first
    | intro _
    | with_reducible assumption
    | with_reducible exact Keep.refl _ _
    | (extract_lets +onlyGivenNames vv; clear_value vv)
    | extract_lets +onlyGivenNames vv
    | with_reducible refine keep_ite ?_ ?_
    | with_reducible apply Keep.step (keep_occur _ _ _ _)
    | with_reducible apply Keep.step (keep_setCan _ _ _)
    | exact rfl

theorem keep_canState (s : State) (c : Nat) : Keep 0x30091087409fd5c2260 s (State.canState s c) := by
  unfold State.canState
  repeat' first
    | intro _
    | with_reducible assumption
    | with_reducible exact Keep.refl _ _
    | (extract_lets +onlyGivenNames vv; have hv : Keep 0x30091087409fd5c2260 s vv; unfold vv; clear vv; rotate_left; try clear_value vv; rotate_left)
    | (extract_lets +onlyGivenNames vv; clear_value vv)
    | extract_lets +onlyGivenNames vv
    | with_reducible refine keep_ite ?_ ?_
    | with_reducible apply Keep.step (keep_bump _ _)
    | with_reducible apply Keep.step (keep_canCounters _ _)
    | with_reducible apply Keep.step (keep_canEnd _ _ _ _)
    | with_reducible apply Keep.step (keep_occur _ _ _ _)
    | with_reducible apply Keep.step (keep_setCan _ _ _)
    | with_reducible apply Keep.step (keep_setReg _ _ _)
    | exact rfl
    | with_reducible refine keep_foldl (fun _ _ _ => ?_) _ ?_
    | with_reducible exact cellsWf_filter _ (by assumption) _
    | with_reducible exact cellsWf_cellSet _ (by assumption) _ _
    | with_reducible refine keep_snd (by with_reducible assumption) ?_
    | with_reducible refine keep_fst (by with_reducible assumption) ?_
    | split

theorem keep_canStop (s : State) (c : Nat) : Keep 0x400000000020 s (State.canStop s c) := by
  unfold State.canStop
  repeat' first
    | intro _
    | with_reducible assumption
    | with_reducible exact Keep.refl _ _
    | (extract_lets +onlyGivenNames vv; clear_value vv)
    | extract_lets +onlyGivenNames vv
    | with_reducible refine keep_ite ?_ ?_
    | with_reducible apply Keep.step (keep_canCounters _ _)
    | with_reducible apply Keep.step (keep_setCan _ _ _)
    | with_reducible apply Keep.step (keep_setReg _ _ _)
    | exact rfl

theorem keep_execCanEnableWrite (w : Writer) (c : Fin 32) (v : Nat) (s : State) : KeepR 0xb0091804008fc5c26e0 s (execCanEnableWrite w c v s) := by
  unfold execCanEnableWrite
  try dsimp only
  repeat' first
    | intro _
    | with_reducible assumption
    | with_reducible exact Keep.refl _ _
    | with_reducible refine keep_ite ?_ ?_
    | with_reducible apply Keep.step (keep_canCounters _ _)
    | with_reducible apply Keep.step (keep_canNotify _ _ _)
    | with_reducible apply Keep.step (keep_canStop _ _)
    | with_reducible apply Keep.step (keep_setReg _ _ _)
    | with_reducible apply Keep.step (keep_store _ _ _)
    | with_reducible apply Keep.step (n := 0xb0091804008fc5c26e0) (keep_write _ _ _ _ _ _ ?_ ?_)
    | with_reducible apply Keep.step (keep_id _)
    | exact rfl
    | with_reducible refine keepr_next ?_

theorem keep_canFilterWritten (s : State) (c f old : Nat) : Keep 0x400000000000 s (State.canFilterWritten s c f old) := by
  unfold State.canFilterWritten
  repeat' first
    | intro _
    | with_reducible assumption
    | with_reducible exact Keep.refl _ _
    | (extract_lets +onlyGivenNames vv; clear_value vv)
    | extract_lets +onlyGivenNames vv
    | with_reducible refine keep_ite ?_ ?_
    | with_reducible apply Keep.step (keep_setCan _ _ _)
    | exact rfl

theorem keep_mbStore (s : State) (c m : Nat) (f : MbFrame) : Keep 0x400000000000 s (State.mbStore s c m f) := by
  unfold State.mbStore
  repeat' first
    | intro _
    | with_reducible assumption
    | with_reducible exact Keep.refl _ _
    | (extract_lets +onlyGivenNames vv; clear_value vv)
    | extract_lets +onlyGivenNames vv
    | with_reducible refine keep_ite ?_ ?_
    | with_reducible apply Keep.step (keep_setMailbox _ _ _ _)
    | exact rfl

theorem keep_canByPeer (s : State) (c : Nat) (fr : CanFrame) : Keep 0x300110044087c1c2040 s (State.canByPeer s c fr) := by
  unfold State.canByPeer
  repeat' first
    | intro _
    | with_reducible assumption
    | with_reducible exact Keep.refl _ _
    | (extract_lets +onlyGivenNames vv; clear_value vv)
    | extract_lets +onlyGivenNames vv
    | with_reducible refine keep_ite ?_ ?_
    | with_reducible apply Keep.step (keep_canEnd _ _ _ _)
    | exact rfl
    | with_reducible refine keep_foldl (fun _ _ _ => ?_) _ ?_
    | with_reducible exact cellsWf_filter _ (by assumption) _
    | with_reducible exact cellsWf_cellSet _ (by assumption) _ _
    | with_reducible refine keep_snd (by with_reducible assumption) ?_
    | with_reducible refine keep_fst (by with_reducible assumption) ?_
    | split

theorem keep_canRecDown (s : State) (c : Nat) : Keep 0x400000000100 s (State.canRecDown s c) := by
  unfold State.canRecDown
  repeat' first
    | intro _
    | with_reducible assumption
    | with_reducible exact Keep.refl _ _
    | (extract_lets +onlyGivenNames vv; clear_value vv)
    | extract_lets +onlyGivenNames vv
    | with_reducible refine keep_ite ?_ ?_
    | with_reducible apply Keep.step (keep_fresh _)
    | with_reducible apply Keep.step (keep_setCan _ _ _)
    | exact rfl

theorem keep_canRxError (s : State) (c add : Nat) : Keep 0x30091087409fd5c2260 s (State.canRxError s c add) := by
  unfold State.canRxError
  repeat' first
    | intro _
    | with_reducible assumption
    | with_reducible exact Keep.refl _ _
    | (extract_lets +onlyGivenNames vv; have hv : Keep 0x30091087409fd5c2260 s vv; unfold vv; clear vv; rotate_left; try clear_value vv; rotate_left)
    | (extract_lets +onlyGivenNames vv; clear_value vv)
    | extract_lets +onlyGivenNames vv
    | with_reducible refine keep_ite ?_ ?_
    | with_reducible apply Keep.step (keep_bump _ _)
    | with_reducible apply Keep.step (keep_canNotify _ _ _)
    | with_reducible apply Keep.step (keep_canState _ _)
    | with_reducible apply Keep.step (keep_setCan _ _ _)
    | exact rfl

theorem keep_execCanFrameReceived (c : Fin 32) (ago : Nat) (fr : CanFrame) (s : State) : KeepR 0x30091087409fd5c2360 s (execCanFrameReceived c ago fr s) := by
  unfold execCanFrameReceived
  repeat' first
    | intro _
    | with_reducible assumption
    | with_reducible exact Keep.refl _ _
    | (extract_lets +onlyGivenNames vv; have hv : Keep 0x30091087409fd5c2360 s vv; unfold vv; clear vv; rotate_left; try clear_value vv; rotate_left)
    | (extract_lets +onlyGivenNames vv; clear_value vv)
    | extract_lets +onlyGivenNames vv
    | with_reducible refine keep_ite ?_ ?_
    | with_reducible apply Keep.step (keep_bump _ _)
    | with_reducible apply Keep.step (keep_canByPeer _ _ _)
    | with_reducible apply Keep.step (keep_canNotify _ _ _)
    | with_reducible apply Keep.step (keep_canRecDown _ _)
    | with_reducible apply Keep.step (keep_canRunReset _ _)
    | with_reducible apply Keep.step (keep_canRxError _ _ _)
    | with_reducible apply Keep.step (keep_canState _ _)
    | with_reducible apply Keep.step (keep_mbStore _ _ _ _)
    | with_reducible apply Keep.step (keep_qPush _ _ _ _)
    | exact rfl
    | with_reducible refine keepr_next ?_
    | with_reducible exact keepr_fault
    | with_reducible refine keepr_ite ?_ ?_
    | with_reducible refine keep_foldl (fun _ _ _ => ?_) _ ?_
    | with_reducible exact cellsWf_filter _ (by assumption) _
    | with_reducible exact cellsWf_cellSet _ (by assumption) _ _
    | with_reducible refine keep_snd (by with_reducible assumption) ?_
    | with_reducible refine keep_fst (by with_reducible assumption) ?_
    | split

theorem keep_execCanReceiveError (c : Fin 32) (add : Nat) (s : State) : KeepR 0x30091087409fd5c2260 s (execCanReceiveError c add s) := by
  unfold execCanReceiveError
  repeat' first
    | intro _
    | with_reducible assumption
    | with_reducible exact Keep.refl _ _
    | (extract_lets +onlyGivenNames vv; clear_value vv)
    | extract_lets +onlyGivenNames vv
    | with_reducible refine keep_ite ?_ ?_
    | with_reducible apply Keep.step (keep_canRxError _ _ _)
    | exact rfl
    | with_reducible refine keepr_next ?_

theorem keep_execMbCfgWrite (w : Writer) (c : Fin 32) (m : Fin 16) (v : Nat) (s : State) : KeepR 0xb0090804008005c26e0 s (execMbCfgWrite w c m v s) := by
  unfold execMbCfgWrite
  try dsimp only
  repeat' first
    | intro _
    | with_reducible assumption
    | with_reducible exact Keep.refl _ _
    | with_reducible refine keep_ite ?_ ?_
    | with_reducible apply Keep.step (keep_setMailbox _ _ _ _)
    | with_reducible apply Keep.step (keep_setReg _ _ _)
    | with_reducible apply Keep.step (keep_store _ _ _)
    | with_reducible apply Keep.step (n := 0xb0090804008005c26e0) (keep_write _ _ _ _ _ _ ?_ ?_)
    | with_reducible apply Keep.step (keep_id _)
    | exact rfl
    | with_reducible refine keepr_next ?_

theorem keep_execMbHoldWrite (w : Writer) (c : Fin 32) (v : Nat) (s : State) : KeepR 0xb0090804008005c26e0 s (execMbHoldWrite w c v s) := by
  unfold execMbHoldWrite
  try dsimp only
  repeat' first
    | intro _
    | with_reducible assumption
    | with_reducible exact Keep.refl _ _
    | with_reducible refine keep_ite ?_ ?_
    | with_reducible apply Keep.step (keep_setMailbox _ _ _ _)
    | with_reducible apply Keep.step (keep_store _ _ _)
    | with_reducible apply Keep.step (n := 0xb0090804008005c26e0) (keep_write _ _ _ _ _ _ ?_ ?_)
    | with_reducible apply Keep.step (keep_id _)
    | exact rfl
    | with_reducible refine keepr_next ?_
    | with_reducible exact keepr_fault
    | with_reducible refine keepr_ite ?_ ?_
    | with_reducible refine keep_foldl (fun _ _ _ => ?_) _ ?_
    | with_reducible exact cellsWf_filter _ (by assumption) _
    | with_reducible exact cellsWf_cellSet _ (by assumption) _ _
    | with_reducible refine keep_snd (by with_reducible assumption) ?_
    | with_reducible refine keep_fst (by with_reducible assumption) ?_
    | split

theorem keep_execMbDataRead (p : Path) (c : Fin 32) (m : Fin 16) (s : State) : KeepR 0xb0010804008001c2640 s (execMbDataRead p c m s) := by
  unfold execMbDataRead
  repeat' first
    | intro _
    | with_reducible assumption
    | with_reducible exact Keep.refl _ _
    | (extract_lets +onlyGivenNames vv; clear_value vv)
    | extract_lets +onlyGivenNames vv
    | with_reducible refine keep_ite ?_ ?_
    | with_reducible apply Keep.step (keep_answer _ _ _ _ _)
    | with_reducible apply Keep.step (keep_setMailbox _ _ _ _)
    | exact rfl
    | with_reducible refine keepr_next ?_
    | with_reducible exact keepr_fault
    | with_reducible refine keepr_ite ?_ ?_

theorem keep_execCanTxAttemptStart (c : Fin 32) (s : State) : KeepR 0x300110044087c1c2040 s (execCanTxAttemptStart c s) := by
  unfold execCanTxAttemptStart
  repeat' first
    | intro _
    | with_reducible assumption
    | with_reducible exact Keep.refl _ _
    | (extract_lets +onlyGivenNames vv; clear_value vv)
    | extract_lets +onlyGivenNames vv
    | with_reducible refine keep_ite ?_ ?_
    | with_reducible apply Keep.step (keep_canEnd _ _ _ _)
    | with_reducible apply Keep.step (keep_setCan _ _ _)
    | exact rfl
    | with_reducible refine keepr_next ?_
    | with_reducible exact keepr_fault
    | with_reducible refine keepr_ite ?_ ?_
    | with_reducible refine keep_foldl (fun _ _ _ => ?_) _ ?_
    | with_reducible exact cellsWf_filter _ (by assumption) _
    | with_reducible exact cellsWf_cellSet _ (by assumption) _ _
    | with_reducible refine keep_snd (by with_reducible assumption) ?_
    | with_reducible refine keep_fst (by with_reducible assumption) ?_
    | split

theorem keep_canFail (s : State) (c : Nat) (p : List QItem) (up : Nat) (ack : Bool) : Keep 0x30091087409fd5c2260 s (State.canFail s c p up ack) := by
  unfold State.canFail
  repeat' first
    | intro _
    | with_reducible assumption
    | with_reducible exact Keep.refl _ _
    | (extract_lets +onlyGivenNames vv; have hv : Keep 0x30091087409fd5c2260 s vv; unfold vv; clear vv; rotate_left; try clear_value vv; rotate_left)
    | (extract_lets +onlyGivenNames vv; clear_value vv)
    | extract_lets +onlyGivenNames vv
    | with_reducible refine keep_ite ?_ ?_
    | with_reducible apply Keep.step (keep_bump _ _)
    | with_reducible apply Keep.step (keep_canAlone _ _)
    | with_reducible apply Keep.step (keep_canEnd _ _ _ _)
    | with_reducible apply Keep.step (keep_canState _ _)
    | with_reducible apply Keep.step (keep_setCan _ _ _)
    | exact rfl
    | with_reducible refine keep_foldl (fun _ _ _ => ?_) _ ?_
    | with_reducible exact cellsWf_filter _ (by assumption) _
    | with_reducible exact cellsWf_cellSet _ (by assumption) _ _
    | with_reducible refine keep_snd (by with_reducible assumption) ?_
    | with_reducible refine keep_fst (by with_reducible assumption) ?_
    | split

theorem keep_canSent (s : State) (c : Nat) (p : List QItem) : Keep 0x30091087409fd5c2260 s (State.canSent s c p) := by
  unfold State.canSent
  repeat' first
    | intro _
    | with_reducible assumption
    | with_reducible exact Keep.refl _ _
    | (extract_lets +onlyGivenNames vv; have hv : Keep 0x30091087409fd5c2260 s vv; unfold vv; clear vv; rotate_left; try clear_value vv; rotate_left)
    | (extract_lets +onlyGivenNames vv; clear_value vv)
    | extract_lets +onlyGivenNames vv
    | with_reducible refine keep_ite ?_ ?_
    | with_reducible apply Keep.step (keep_canEnd _ _ _ _)
    | with_reducible apply Keep.step (keep_canRunReset _ _)
    | with_reducible apply Keep.step (keep_canState _ _)
    | with_reducible apply Keep.step (keep_setCan _ _ _)
    | exact rfl

theorem keep_canTdc (s : State) (c : Nat) (p : List QItem) (tdcv : Nat) : Keep 0x20 s (State.canTdc s c p tdcv) := by
  unfold State.canTdc
  repeat' first
    | intro _
    | with_reducible assumption
    | with_reducible exact Keep.refl _ _
    | (extract_lets +onlyGivenNames vv; clear_value vv)
    | extract_lets +onlyGivenNames vv
    | with_reducible refine keep_ite ?_ ?_
    | with_reducible apply Keep.step (keep_setReg _ _ _)
    | exact rfl

theorem keep_execCanAttemptEnd (c : Fin 32) (outcome : CanEnd) (s : State) : KeepR 0x30191087409fd5c2260 s (execCanAttemptEnd c outcome s) := by
  unfold execCanAttemptEnd
  repeat' first
    | intro _
    | with_reducible assumption
    | with_reducible exact Keep.refl _ _
    | (extract_lets +onlyGivenNames vv; have hv : Keep 0x30191087409fd5c2260 s vv; unfold vv; clear vv; rotate_left; try clear_value vv; rotate_left)
    | (extract_lets +onlyGivenNames vv; clear_value vv)
    | extract_lets +onlyGivenNames vv
    | with_reducible refine keep_ite ?_ ?_
    | with_reducible apply Keep.step (keep_bump _ _)
    | with_reducible apply Keep.step (keep_canFail _ _ _ _ _)
    | with_reducible apply Keep.step (keep_canNotify _ _ _)
    | with_reducible apply Keep.step (keep_canSent _ _ _)
    | with_reducible apply Keep.step (keep_canTdc _ _ _ _)
    | with_reducible apply Keep.step (keep_pertNth _ _ _)
    | with_reducible apply Keep.step (keep_setCan _ _ _)
    | exact rfl
    | with_reducible refine keepr_next ?_
    | with_reducible exact keepr_fault
    | with_reducible refine keepr_ite ?_ ?_
    | with_reducible refine keep_foldl (fun _ _ _ => ?_) _ ?_
    | with_reducible exact cellsWf_filter _ (by assumption) _
    | with_reducible exact cellsWf_cellSet _ (by assumption) _ _
    | with_reducible refine keep_snd (by with_reducible assumption) ?_
    | with_reducible refine keep_fst (by with_reducible assumption) ?_
    | split

theorem keep_canClaimLost (s : State) (c : Nat) : Keep 0x300110044087c1c2040 s (State.canClaimLost s c) := by
  unfold State.canClaimLost
  repeat' first
    | intro _
    | with_reducible assumption
    | with_reducible exact Keep.refl _ _
    | (extract_lets +onlyGivenNames vv; clear_value vv)
    | extract_lets +onlyGivenNames vv
    | with_reducible refine keep_ite ?_ ?_
    | with_reducible apply Keep.step (keep_canEnd _ _ _ _)
    | exact rfl
    | with_reducible refine keep_foldl (fun _ _ _ => ?_) _ ?_
    | with_reducible exact cellsWf_filter _ (by assumption) _
    | with_reducible exact cellsWf_cellSet _ (by assumption) _ _
    | with_reducible refine keep_snd (by with_reducible assumption) ?_
    | with_reducible refine keep_fst (by with_reducible assumption) ?_
    | split

theorem keep_canActive (s : State) (c : Nat) : Keep 0x30091087409fd5c2260 s (State.canActive s c) := by
  unfold State.canActive
  repeat' first
    | intro _
    | with_reducible assumption
    | with_reducible exact Keep.refl _ _
    | (extract_lets +onlyGivenNames vv; clear_value vv)
    | extract_lets +onlyGivenNames vv
    | with_reducible refine keep_ite ?_ ?_
    | with_reducible apply Keep.step (keep_canNotify _ _ _)
    | with_reducible apply Keep.step (keep_canState _ _)
    | with_reducible apply Keep.step (keep_setCan _ _ _)
    | exact rfl

theorem keep_execCanBusJoin (c : Fin 32) (s : State) : KeepR 0x400000000000 s (execCanBusJoin c s) := by
  unfold execCanBusJoin
  repeat' first
    | intro _
    | with_reducible assumption
    | with_reducible exact Keep.refl _ _
    | (extract_lets +onlyGivenNames vv; clear_value vv)
    | extract_lets +onlyGivenNames vv
    | with_reducible refine keep_ite ?_ ?_
    | with_reducible apply Keep.step (keep_setCan _ _ _)
    | exact rfl
    | with_reducible refine keepr_next ?_

theorem keep_execCanRecoveryStart (w : Writer) (c : Fin 32) (s : State) : KeepR 0xb0090804008005c26c0 s (execCanRecoveryStart w c s) := by
  unfold execCanRecoveryStart
  repeat' first
    | intro _
    | with_reducible assumption
    | with_reducible exact Keep.refl _ _
    | (extract_lets +onlyGivenNames vv; clear_value vv)
    | extract_lets +onlyGivenNames vv
    | with_reducible refine keep_ite ?_ ?_
    | with_reducible apply Keep.step (keep_setCan _ _ _)
    | with_reducible apply Keep.step (n := 0xb0090804008005c26c0) (keep_write _ _ _ _ _ _ ?_ ?_)
    | with_reducible apply Keep.step (keep_id _)
    | exact rfl
    | with_reducible refine keepr_next ?_

theorem keep_execCanRecoveryComplete (c : Fin 32) (s : State) : KeepR 0x30011004008fc1c2060 s (execCanRecoveryComplete c s) := by
  unfold execCanRecoveryComplete
  repeat' first
    | intro _
    | with_reducible assumption
    | with_reducible exact Keep.refl _ _
    | (extract_lets +onlyGivenNames vv; have hv : Keep 0x30011004008fc1c2060 s vv; unfold vv; clear vv; rotate_left; try clear_value vv; rotate_left)
    | (extract_lets +onlyGivenNames vv; clear_value vv)
    | extract_lets +onlyGivenNames vv
    | with_reducible refine keep_ite ?_ ?_
    | with_reducible apply Keep.step (keep_canCounters _ _)
    | with_reducible apply Keep.step (keep_canNotify _ _ _)
    | with_reducible apply Keep.step (keep_setCan _ _ _)
    | with_reducible apply Keep.step (keep_setReg _ _ _)
    | exact rfl
    | with_reducible refine keepr_next ?_
    | with_reducible exact keepr_fault
    | with_reducible refine keepr_ite ?_ ?_

theorem keep_execCanAloneRelease (w : Writer) (c : Fin 32) (s : State) : KeepR 0xb0091804008fc5c26c0 s (execCanAloneRelease w c s) := by
  unfold execCanAloneRelease
  repeat' first
    | intro _
    | with_reducible assumption
    | with_reducible exact Keep.refl _ _
    | (extract_lets +onlyGivenNames vv; clear_value vv)
    | extract_lets +onlyGivenNames vv
    | with_reducible refine keep_ite ?_ ?_
    | with_reducible apply Keep.step (keep_canNotify _ _ _)
    | with_reducible apply Keep.step (keep_canRunReset _ _)
    | with_reducible apply Keep.step (n := 0xb0091804008fc5c26c0) (keep_write _ _ _ _ _ _ ?_ ?_)
    | with_reducible apply Keep.step (keep_id _)
    | exact rfl
    | with_reducible refine keepr_next ?_

theorem keep_execCanDominantTimeout (c : Fin 32) (s : State) : KeepR 0x40 s (execCanDominantTimeout c s) := by
  unfold execCanDominantTimeout
  repeat' first
    | intro _
    | with_reducible assumption
    | with_reducible exact Keep.refl _ _
    | (extract_lets +onlyGivenNames vv; clear_value vv)
    | extract_lets +onlyGivenNames vv
    | with_reducible refine keep_ite ?_ ?_
    | with_reducible apply Keep.step (keep_bump _ _)
    | exact rfl
    | with_reducible refine keepr_next ?_

end Sys2Proof.Machine
end

