-- ==== Sys2Proof/Laws/KeepSerial.lean ====
section
/-! SUPPORT. What each operation and each command of `Machine/Serial.lean` keeps: the parts of the state outside its mask, and
the invariant. -/

namespace Sys2Proof.Machine
open Sys2Proof

theorem keep_setRs (s : State) (c : Nat) (x : RsSt) : Keep 0x800000000000 s (State.setRs s c x) := by
  unfold State.setRs
  repeat' first
    | intro _
    | with_reducible assumption
    | with_reducible exact Keep.refl _ _
    | (extract_lets +onlyGivenNames vv; clear_value vv)
    | extract_lets +onlyGivenNames vv
    | (simp -zeta only [keepAt_mk]; with_reducible refine keep_mk_rss ?_ ?_)
    | with_reducible refine keep_ite ?_ ?_
    | exact rfl

theorem keep_rsAct {m : Nat} (s : State) (c : Nat) (f : State → State) (hf : ∀ s , Keep m s (f s )) (hm : Nat.land 0x300110000087c1c2040 m = 0x300110000087c1c2040) : Keep m s (State.rsAct s c f) := by
  unfold State.rsAct
  repeat' first
    | intro _
    | with_reducible assumption
    | with_reducible exact Keep.refl _ _
    | (extract_lets +onlyGivenNames vv; have hv : Keep m s vv; unfold vv; clear vv; rotate_left; try clear_value vv; rotate_left)
    | (extract_lets +onlyGivenNames vv; clear_value vv)
    | extract_lets +onlyGivenNames vv
    | with_reducible refine keep_ite ?_ ?_
    | with_reducible apply Keep.step (keep_raise _ _ _)
    | with_reducible apply Keep.step (hf _)
    | with_reducible apply Keep.step (keep_id _)
    | with_reducible exact keep_self _

theorem keep_rsEnd (s : State) (c : Nat) (t : RsTx) (cause sent : Nat) : Keep 0x300110084087c1c2040 s (State.rsEnd s c t cause sent) := by
  unfold State.rsEnd
  repeat' first
    | intro _
    | with_reducible assumption
    | with_reducible exact Keep.refl _ _
    | (extract_lets +onlyGivenNames vv; have hv : Keep 0x300110084087c1c2040 s vv; unfold vv; clear vv; rotate_left; try clear_value vv; rotate_left)
    | (extract_lets +onlyGivenNames vv; clear_value vv)
    | extract_lets +onlyGivenNames vv
    | with_reducible refine keep_ite ?_ ?_
    | with_reducible apply Keep.step (keep_bump _ _)
    | with_reducible apply Keep.step (keep_qPush _ _ _ _)
    | with_reducible apply Keep.step (keep_setRs _ _ _)
    | exact rfl

theorem keep_rsByPeer (s : State) (c : Nat) (chars : List Nat) : Keep 0x300110004087c1c2040 s (State.rsByPeer s c chars) := by
  unfold State.rsByPeer
  repeat' first
    | intro _
    | with_reducible assumption
    | with_reducible exact Keep.refl _ _
    | (extract_lets +onlyGivenNames vv; clear_value vv)
    | extract_lets +onlyGivenNames vv
    | with_reducible refine keep_ite ?_ ?_
    | with_reducible apply Keep.step (keep_qPush _ _ _ _)
    | with_reducible refine Keep.step (keep_qTake (by with_reducible assumption)) ?_ ?_
    | exact rfl
    | with_reducible refine keep_foldl (fun _ _ _ => ?_) _ ?_
    | with_reducible exact cellsWf_filter _ (by assumption) _
    | with_reducible exact cellsWf_cellSet _ (by assumption) _ _
    | with_reducible refine keep_snd (by with_reducible assumption) ?_
    | with_reducible refine keep_fst (by with_reducible assumption) ?_
    | split

theorem keep_rsClose (s : State) (c cause : Nat) : Keep 0x300110084087c1c2040 s (State.rsClose s c cause) := by
  unfold State.rsClose
  repeat' first
    | intro _
    | with_reducible assumption
    | with_reducible exact Keep.refl _ _
    | (extract_lets +onlyGivenNames vv; have hv : Keep 0x300110084087c1c2040 s vv; unfold vv; clear vv; rotate_left; try clear_value vv; rotate_left)
    | (extract_lets +onlyGivenNames vv; clear_value vv)
    | extract_lets +onlyGivenNames vv
    | with_reducible refine keep_ite ?_ ?_
    | with_reducible apply Keep.step (keep_bump _ _)
    | with_reducible apply Keep.step (keep_qPush _ _ _ _)
    | with_reducible apply Keep.step (keep_rsByPeer _ _ _)
    | with_reducible apply Keep.step (keep_setRs _ _ _)
    | exact rfl
    | with_reducible refine keep_foldl (fun _ _ _ => ?_) _ ?_
    | with_reducible exact cellsWf_filter _ (by assumption) _
    | with_reducible exact cellsWf_cellSet _ (by assumption) _ _
    | with_reducible refine keep_snd (by with_reducible assumption) ?_
    | with_reducible refine keep_fst (by with_reducible assumption) ?_
    | split

theorem keep_rsStrobe (s : State) (w : Nat) : Keep 0x300110084087c1c2040 s (State.rsStrobe s w) := by
  unfold State.rsStrobe
  try dsimp only
  repeat' first
    | intro _
    | with_reducible assumption
    | with_reducible exact Keep.refl _ _
    | with_reducible refine keep_ite ?_ ?_
    | with_reducible apply Keep.step (n := 0x300110084087c1c2040) (keep_rsAct _ _ _ ?_ ?_)
    | with_reducible apply Keep.step (keep_rsClose _ _ _)
    | exact rfl
    | with_reducible refine keep_foldl (fun _ _ _ => ?_) _ ?_

theorem keep_setBridge (s : State) (j : Nat) (x : BridgeSt) : Keep 0x2000000000000 s (State.setBridge s j x) := by
  unfold State.setBridge
  repeat' first
    | intro _
    | with_reducible assumption
    | with_reducible exact Keep.refl _ _
    | (extract_lets +onlyGivenNames vv; clear_value vv)
    | extract_lets +onlyGivenNames vv
    | (simp -zeta only [keepAt_mk]; with_reducible refine keep_mk_bridges ?_ ?_)
    | with_reducible refine keep_ite ?_ ?_
    | exact rfl

theorem keep_rsDrive (s : State) (c : Nat) (chars : List Nat) : Keep 0x1000000000000 s (State.rsDrive s c chars) := by
  unfold State.rsDrive
  repeat' first
    | intro _
    | with_reducible assumption
    | with_reducible exact Keep.refl _ _
    | (extract_lets +onlyGivenNames vv; clear_value vv)
    | extract_lets +onlyGivenNames vv
    | (simp -zeta only [keepAt_mk]; with_reducible refine keep_mk_rsSent ?_ ?_)
    | with_reducible refine keep_ite ?_ ?_
    | exact rfl

theorem keep_bridgeSend (s : State) (j a b : Nat) : Keep 0x3000000000000 s (State.bridgeSend s j a b) := by
  unfold State.bridgeSend
  repeat' first
    | intro _
    | with_reducible assumption
    | with_reducible exact Keep.refl _ _
    | (extract_lets +onlyGivenNames vv; clear_value vv)
    | extract_lets +onlyGivenNames vv
    | with_reducible refine keep_ite ?_ ?_
    | with_reducible apply Keep.step (keep_rsDrive _ _ _)
    | with_reducible apply Keep.step (keep_setBridge _ _ _)
    | exact rfl
    | with_reducible refine keep_foldl (fun _ _ _ => ?_) _ ?_
    | with_reducible exact cellsWf_filter _ (by assumption) _
    | with_reducible exact cellsWf_cellSet _ (by assumption) _ _
    | with_reducible refine keep_snd (by with_reducible assumption) ?_
    | with_reducible refine keep_fst (by with_reducible assumption) ?_
    | split

theorem keep_bridgeChar (s : State) (j a b c v : Nat) (crossing : Bool) : Keep 0x3000000000040 s (State.bridgeChar s j a b c v crossing) := by
  unfold State.bridgeChar
  repeat' first
    | intro _
    | with_reducible assumption
    | with_reducible exact Keep.refl _ _
    | (extract_lets +onlyGivenNames vv; have hv : Keep 0x3000000000040 s vv; unfold vv; clear vv; rotate_left; try clear_value vv; rotate_left)
    | (extract_lets +onlyGivenNames vv; clear_value vv)
    | extract_lets +onlyGivenNames vv
    | with_reducible refine keep_ite ?_ ?_
    | with_reducible apply Keep.step (keep_bump _ _)
    | with_reducible apply Keep.step (keep_rsDrive _ _ _)
    | with_reducible apply Keep.step (keep_setBridge _ _ _)
    | exact rfl

theorem keep_bridgeClose (s : State) (j a b c : Nat) : Keep 0x3000000000000 s (State.bridgeClose s j a b c) := by
  unfold State.bridgeClose
  repeat' first
    | intro _
    | with_reducible assumption
    | with_reducible exact Keep.refl _ _
    | (extract_lets +onlyGivenNames vv; have hv : Keep 0x3000000000000 s vv; unfold vv; clear vv; rotate_left; try clear_value vv; rotate_left)
    | (extract_lets +onlyGivenNames vv; clear_value vv)
    | extract_lets +onlyGivenNames vv
    | with_reducible refine keep_ite ?_ ?_
    | with_reducible apply Keep.step (keep_bridgeSend _ _ _ _)
    | with_reducible apply Keep.step (keep_setBridge _ _ _)
    | exact rfl

theorem keep_rsStore (s : State) (c : Nat) (ch : RsChar) : Keep 0x300110084087c1c2040 s (State.rsStore s c ch) := by
  unfold State.rsStore
  repeat' first
    | intro _
    | with_reducible assumption
    | with_reducible exact Keep.refl _ _
    | (extract_lets +onlyGivenNames vv; have hv : Keep 0x300110084087c1c2040 s vv; unfold vv; clear vv; rotate_left; try clear_value vv; rotate_left)
    | (extract_lets +onlyGivenNames vv; clear_value vv)
    | extract_lets +onlyGivenNames vv
    | with_reducible refine keep_ite ?_ ?_
    | with_reducible apply Keep.step (keep_bump _ _)
    | with_reducible apply Keep.step (keep_rsClose _ _ _)
    | with_reducible apply Keep.step (keep_setRs _ _ _)
    | exact rfl
    | with_reducible refine keep_foldl (fun _ _ _ => ?_) _ ?_
    | with_reducible exact cellsWf_filter _ (by assumption) _
    | with_reducible exact cellsWf_cellSet _ (by assumption) _ _
    | with_reducible refine keep_snd (by with_reducible assumption) ?_
    | with_reducible refine keep_fst (by with_reducible assumption) ?_
    | split

theorem keep_rsCompare (s : State) (c : Nat) (t : RsTx) (v : Nat) : Keep 0x800000000040 s (State.rsCompare s c t v) := by
  unfold State.rsCompare
  repeat' first
    | intro _
    | with_reducible assumption
    | with_reducible exact Keep.refl _ _
    | (extract_lets +onlyGivenNames vv; have hv : Keep 0x800000000040 s vv; unfold vv; clear vv; rotate_left; try clear_value vv; rotate_left)
    | (extract_lets +onlyGivenNames vv; clear_value vv)
    | extract_lets +onlyGivenNames vv
    | with_reducible refine keep_ite ?_ ?_
    | with_reducible apply Keep.step (keep_bump _ _)
    | with_reducible apply Keep.step (keep_setRs _ _ _)
    | exact rfl

theorem keep_execRs485CharReceived (c : Fin 48) (ch : RsChar) (s : State) : KeepR 0x320110384087c1c2040 s (execRs485CharReceived c ch s) := by
  unfold execRs485CharReceived
  try dsimp only
  repeat' first
    | intro _
    | with_reducible assumption
    | with_reducible exact Keep.refl _ _
    | with_reducible refine keep_ite ?_ ?_
    | with_reducible apply Keep.step (keep_bridgeChar _ _ _ _ _ _ _)
    | with_reducible apply Keep.step (keep_bridgeClose _ _ _ _ _)
    | with_reducible apply Keep.step (keep_panAsk _ _)
    | with_reducible apply Keep.step (n := 0x320110384087c1c2040) (keep_rsAct _ _ _ ?_ ?_)
    | with_reducible apply Keep.step (keep_rsCompare _ _ _ _)
    | with_reducible apply Keep.step (keep_rsStore _ _ _)
    | with_reducible apply Keep.step (keep_setRs _ _ _)
    | exact rfl
    | with_reducible refine keepr_next ?_
    | with_reducible exact keepr_fault
    | with_reducible refine keepr_ite ?_ ?_
    | with_reducible refine keep_foldl (fun _ _ _ => ?_) _ ?_
    | with_reducible exact cellsWf_filter _ (by assumption) _
    | with_reducible exact cellsWf_cellSet _ (by assumption) _ _
    | with_reducible refine keep_snd (by with_reducible assumption) ?_
    | with_reducible refine keep_fst (by with_reducible assumption) ?_
    | split

theorem keep_execRs485GapExpiry (c : Fin 48) (s : State) : KeepR 0x300110384887c1c2046 s (execRs485GapExpiry c s) := by
  unfold execRs485GapExpiry
  try dsimp only
  repeat' first
    | intro _
    | with_reducible assumption
    | with_reducible exact Keep.refl _ _
    | with_reducible refine keep_ite ?_ ?_
    | with_reducible apply Keep.step (keep_bridgeClose _ _ _ _ _)
    | with_reducible apply Keep.step (n := 0x300110384887c1c2046) (keep_rsAct _ _ _ ?_ ?_)
    | with_reducible apply Keep.step (keep_rsClose _ _ _)
    | with_reducible apply Keep.step (keep_setRs _ _ _)
    | with_reducible apply Keep.step (keep_until _ _)
    | exact rfl
    | with_reducible refine keepr_next ?_
    | with_reducible exact keepr_fault
    | with_reducible refine keepr_ite ?_ ?_
    | with_reducible refine keep_foldl (fun _ _ _ => ?_) _ ?_
    | with_reducible exact cellsWf_filter _ (by assumption) _
    | with_reducible exact cellsWf_cellSet _ (by assumption) _ _
    | with_reducible refine keep_snd (by with_reducible assumption) ?_
    | with_reducible refine keep_fst (by with_reducible assumption) ?_
    | split

theorem keep_execRs485BreakReceived (c : Fin 48) (ago : Nat) (s : State) : KeepR 0x300110384087c1c2040 s (execRs485BreakReceived c ago s) := by
  unfold execRs485BreakReceived
  try dsimp only
  repeat' first
    | intro _
    | with_reducible assumption
    | with_reducible exact Keep.refl _ _
    | with_reducible refine keep_ite ?_ ?_
    | with_reducible apply Keep.step (keep_bridgeClose _ _ _ _ _)
    | with_reducible apply Keep.step (n := 0x300110384087c1c2040) (keep_rsAct _ _ _ ?_ ?_)
    | with_reducible apply Keep.step (keep_rsClose _ _ _)
    | with_reducible apply Keep.step (keep_setRs _ _ _)
    | exact rfl
    | with_reducible refine keepr_next ?_
    | with_reducible exact keepr_fault
    | with_reducible refine keepr_ite ?_ ?_
    | with_reducible refine keep_foldl (fun _ _ _ => ?_) _ ?_
    | with_reducible exact cellsWf_filter _ (by assumption) _
    | with_reducible exact cellsWf_cellSet _ (by assumption) _ _
    | with_reducible refine keep_snd (by with_reducible assumption) ?_
    | with_reducible refine keep_fst (by with_reducible assumption) ?_
    | split

theorem keep_execRs485TxStart (c : Fin 48) (s : State) : KeepR 0x300110184887c1c2046 s (execRs485TxStart c s) := by
  unfold execRs485TxStart
  try dsimp only
  repeat' first
    | intro _
    | with_reducible assumption
    | with_reducible exact Keep.refl _ _
    | with_reducible refine keep_ite ?_ ?_
    | with_reducible refine Keep.step (keep_qTake (by with_reducible assumption)) ?_ ?_
    | with_reducible apply Keep.step (n := 0x300110184887c1c2046) (keep_rsAct _ _ _ ?_ ?_)
    | with_reducible apply Keep.step (keep_rsDrive _ _ _)
    | with_reducible apply Keep.step (keep_setRs _ _ _)
    | with_reducible apply Keep.step (keep_until _ _)
    | exact rfl
    | with_reducible refine keepr_next ?_
    | with_reducible exact keepr_fault
    | with_reducible refine keepr_ite ?_ ?_
    | with_reducible refine keep_foldl (fun _ _ _ => ?_) _ ?_
    | with_reducible exact cellsWf_filter _ (by assumption) _
    | with_reducible exact cellsWf_cellSet _ (by assumption) _ _
    | with_reducible refine keep_snd (by with_reducible assumption) ?_
    | with_reducible refine keep_fst (by with_reducible assumption) ?_
    | split

theorem keep_execRs485TxEnd (c : Fin 48) (s : State) : KeepR 0x30011008488fc1c2066 s (execRs485TxEnd c s) := by
  unfold execRs485TxEnd
  try dsimp only
  repeat' first
    | intro _
    | with_reducible assumption
    | with_reducible exact Keep.refl _ _
    | with_reducible refine keep_ite ?_ ?_
    | with_reducible apply Keep.step (n := 0x30011008488fc1c2066) (keep_rsAct _ _ _ ?_ ?_)
    | with_reducible apply Keep.step (keep_rsEnd _ _ _ _ _)
    | with_reducible apply Keep.step (keep_setLive _ _ _)
    | with_reducible apply Keep.step (keep_setReg _ _ _)
    | with_reducible apply Keep.step (keep_until _ _)
    | exact rfl
    | with_reducible refine keepr_next ?_
    | with_reducible exact keepr_fault
    | with_reducible refine keepr_ite ?_ ?_
    | with_reducible refine keep_foldl (fun _ _ _ => ?_) _ ?_
    | with_reducible exact cellsWf_filter _ (by assumption) _
    | with_reducible exact cellsWf_cellSet _ (by assumption) _ _
    | with_reducible refine keep_snd (by with_reducible assumption) ?_
    | with_reducible refine keep_fst (by with_reducible assumption) ?_
    | split

theorem keep_execRs485DriverFault (c : Fin 48) (thermal : Bool) (s : State) : KeepR 0x3009108b009fd5c2260 s (execRs485DriverFault c thermal s) := by
  unfold execRs485DriverFault
  try dsimp only
  repeat' first
    | intro _
    | with_reducible assumption
    | with_reducible exact Keep.refl _ _
    | with_reducible refine keep_ite ?_ ?_
    | with_reducible apply Keep.step (keep_occur _ _ _ _)
    | with_reducible apply Keep.step (n := 0x3009108b009fd5c2260) (keep_rsAct _ _ _ ?_ ?_)
    | with_reducible apply Keep.step (keep_setLive _ _ _)
    | with_reducible apply Keep.step (keep_setReg _ _ _)
    | with_reducible apply Keep.step (keep_setRs _ _ _)
    | exact rfl
    | with_reducible refine keepr_next ?_
    | with_reducible exact keepr_fault
    | with_reducible refine keepr_ite ?_ ?_
    | with_reducible refine keep_foldl (fun _ _ _ => ?_) _ ?_
    | with_reducible exact cellsWf_filter _ (by assumption) _
    | with_reducible exact cellsWf_cellSet _ (by assumption) _ _
    | with_reducible refine keep_snd (by with_reducible assumption) ?_
    | with_reducible refine keep_fst (by with_reducible assumption) ?_
    | split

theorem keep_rsClaimLost (s : State) (c : Nat) : Keep 0x300110084087c1c2040 s (State.rsClaimLost s c) := by
  unfold State.rsClaimLost
  repeat' first
    | intro _
    | with_reducible assumption
    | with_reducible exact Keep.refl _ _
    | (extract_lets +onlyGivenNames vv; clear_value vv)
    | extract_lets +onlyGivenNames vv
    | with_reducible refine keep_ite ?_ ?_
    | with_reducible apply Keep.step (n := 0x300110084087c1c2040) (keep_rsAct _ _ _ ?_ ?_)
    | with_reducible apply Keep.step (keep_rsEnd _ _ _ _ _)
    | exact rfl
    | with_reducible refine keep_foldl (fun _ _ _ => ?_) _ ?_
    | with_reducible exact cellsWf_filter _ (by assumption) _
    | with_reducible exact cellsWf_cellSet _ (by assumption) _ _
    | with_reducible refine keep_snd (by with_reducible assumption) ?_
    | with_reducible refine keep_fst (by with_reducible assumption) ?_
    | split

theorem keep_rsActive (s : State) (c : Nat) : Keep 0x800000000000 s (State.rsActive s c) := by
  unfold State.rsActive
  repeat' first
    | intro _
    | with_reducible assumption
    | with_reducible exact Keep.refl _ _
    | (extract_lets +onlyGivenNames vv; clear_value vv)
    | extract_lets +onlyGivenNames vv
    | with_reducible refine keep_ite ?_ ?_
    | with_reducible apply Keep.step (keep_setRs _ _ _)
    | exact rfl

theorem keep_execRs485ActiveJoin (c : Fin 48) (s : State) : KeepR 0x808000000006 s (execRs485ActiveJoin c s) := by
  unfold execRs485ActiveJoin
  repeat' first
    | intro _
    | with_reducible assumption
    | with_reducible exact Keep.refl _ _
    | (extract_lets +onlyGivenNames vv; have hv : Keep 0x808000000006 s vv; unfold vv; clear vv; rotate_left; try clear_value vv; rotate_left)
    | (extract_lets +onlyGivenNames vv; clear_value vv)
    | extract_lets +onlyGivenNames vv
    | with_reducible refine keep_ite ?_ ?_
    | with_reducible apply Keep.step (keep_setRs _ _ _)
    | with_reducible apply Keep.step (keep_until _ _)
    | exact rfl
    | with_reducible refine keepr_next ?_
    | with_reducible exact keepr_fault
    | with_reducible refine keepr_ite ?_ ?_
    | with_reducible refine keep_foldl (fun _ _ _ => ?_) _ ?_
    | with_reducible exact cellsWf_filter _ (by assumption) _
    | with_reducible exact cellsWf_cellSet _ (by assumption) _ _
    | with_reducible refine keep_snd (by with_reducible assumption) ?_
    | with_reducible refine keep_fst (by with_reducible assumption) ?_
    | split

theorem keep_execRs485ReplayStart (c : Fin 48) (s : State) : KeepR 0x200000800000000000 s (execRs485ReplayStart c s) := by
  unfold execRs485ReplayStart
  repeat' first
    | intro _
    | with_reducible assumption
    | with_reducible exact Keep.refl _ _
    | (extract_lets +onlyGivenNames vv; clear_value vv)
    | extract_lets +onlyGivenNames vv
    | with_reducible refine keep_ite ?_ ?_
    | with_reducible apply Keep.step (keep_panAsk _ _)
    | with_reducible apply Keep.step (keep_setRs _ _ _)
    | exact rfl
    | with_reducible refine keepr_next ?_
    | with_reducible exact keepr_fault
    | with_reducible refine keepr_ite ?_ ?_

theorem keep_rsRate (s : State) (c : Nat) : Keep 0x120 s (State.rsRate s c) := by
  unfold State.rsRate
  repeat' first
    | intro _
    | with_reducible assumption
    | with_reducible exact Keep.refl _ _
    | (extract_lets +onlyGivenNames vv; clear_value vv)
    | extract_lets +onlyGivenNames vv
    | with_reducible refine keep_ite ?_ ?_
    | with_reducible apply Keep.step (keep_fresh _)
    | with_reducible apply Keep.step (keep_setReg _ _ _)
    | exact rfl

theorem keep_execRs485EnableWrite (w : Writer) (c : Fin 48) (v : Nat) (s : State) : KeepR 0xb00918080087c5c27e0 s (execRs485EnableWrite w c v s) := by
  unfold execRs485EnableWrite
  try dsimp only
  repeat' first
    | intro _
    | with_reducible assumption
    | with_reducible exact Keep.refl _ _
    | with_reducible refine keep_ite ?_ ?_
    | with_reducible apply Keep.step (n := 0xb00918080087c5c27e0) (keep_rsAct _ _ _ ?_ ?_)
    | with_reducible apply Keep.step (keep_rsRate _ _)
    | with_reducible apply Keep.step (keep_setRs _ _ _)
    | with_reducible apply Keep.step (keep_store _ _ _)
    | with_reducible apply Keep.step (n := 0xb00918080087c5c27e0) (keep_write _ _ _ _ _ _ ?_ ?_)
    | with_reducible apply Keep.step (keep_id _)
    | exact rfl
    | with_reducible refine keepr_next ?_

end Sys2Proof.Machine
end

