-- ==== Sys2Proof/Laws/KeepIoLink.lean ====
section
/-! SUPPORT. What each operation and each command of `Machine/IoLink.lean` keeps: the parts of the state outside its mask, and
the invariant. -/

namespace Sys2Proof.Machine
open Sys2Proof

theorem keep_setIol (s : State) (p : Nat) (x : IolSt) : Keep 0x4000000000000 s (State.setIol s p x) := by
  unfold State.setIol
  repeat' first
    | intro _
    | with_reducible assumption
    | with_reducible exact Keep.refl _ _
    | (extract_lets +onlyGivenNames vv; clear_value vv)
    | extract_lets +onlyGivenNames vv
    | (simp -zeta only [keepAt_mk]; with_reducible refine keep_mk_iols ?_ ?_)
    | with_reducible refine keep_ite ?_ ?_
    | exact rfl

theorem keep_iolAct {m : Nat} (s : State) (p : Nat) (f : State → State) (hf : ∀ s , Keep m s (f s )) (hm : Nat.land 0x300110000087c1c2040 m = 0x300110000087c1c2040) : Keep m s (State.iolAct s p f) := by
  unfold State.iolAct
  repeat' first
    | intro _
    | with_reducible assumption
    | with_reducible exact Keep.refl _ _
    | (extract_lets +onlyGivenNames vv; have hv : Keep m s vv; unfold vv; clear vv; rotate_left; try clear_value vv; rotate_left)
    | (extract_lets +onlyGivenNames vv; clear_value vv)
    | extract_lets +onlyGivenNames vv
    | with_reducible refine keep_ite ?_ ?_
    | with_reducible apply Keep.step (keep_raise _ _ _)
    | with_reducible apply Keep.step (hf _)
    | with_reducible apply Keep.step (keep_id _)
    | with_reducible exact keep_self _

theorem keep_iolStore (s : State) (p qualifier code source : Nat) : Keep 0x300110004087c1c2040 s (State.iolStore s p qualifier code source) := by
  unfold State.iolStore
  repeat' first
    | intro _
    | with_reducible assumption
    | with_reducible exact Keep.refl _ _
    | (extract_lets +onlyGivenNames vv; clear_value vv)
    | extract_lets +onlyGivenNames vv
    | with_reducible refine keep_ite ?_ ?_
    | with_reducible apply Keep.step (keep_bump _ _)
    | with_reducible apply Keep.step (keep_qPush _ _ _ _)
    | with_reducible apply Keep.step (keep_raise _ _ _)
    | exact rfl

theorem keep_portEvent (s : State) (p : Nat) : Keep 0x300110004087c1c2140 s (State.portEvent s p) := by
  unfold State.portEvent
  repeat' first
    | intro _
    | with_reducible assumption
    | with_reducible exact Keep.refl _ _
    | (extract_lets +onlyGivenNames vv; clear_value vv)
    | extract_lets +onlyGivenNames vv
    | with_reducible refine keep_ite ?_ ?_
    | with_reducible apply Keep.step (keep_fresh _)
    | with_reducible apply Keep.step (keep_iolStore _ _ _ _ _)
    | exact rfl

theorem keep_isduEnd (s : State) (p : Nat) (i : IsduSt) (result error : Nat) (data : List Byte) : Keep 0x300110404087c1c2060 s (State.isduEnd s p i result error data) := by
  unfold State.isduEnd
  repeat' first
    | intro _
    | with_reducible assumption
    | with_reducible exact Keep.refl _ _
    | (extract_lets +onlyGivenNames vv; have hv : Keep 0x300110404087c1c2060 s vv; unfold vv; clear vv; rotate_left; try clear_value vv; rotate_left)
    | (extract_lets +onlyGivenNames vv; clear_value vv)
    | extract_lets +onlyGivenNames vv
    | with_reducible refine keep_ite ?_ ?_
    | with_reducible apply Keep.step (keep_qPush _ _ _ _)
    | with_reducible apply Keep.step (keep_setIol _ _ _)
    | with_reducible apply Keep.step (keep_setReg _ _ _)
    | exact rfl
    | with_reducible refine keep_foldl (fun _ _ _ => ?_) _ ?_
    | with_reducible exact cellsWf_filter _ (by assumption) _
    | with_reducible exact cellsWf_cellSet _ (by assumption) _ _
    | with_reducible refine keep_snd (by with_reducible assumption) ?_
    | with_reducible refine keep_fst (by with_reducible assumption) ?_
    | split

theorem keep_isduStop (s : State) (p r : Nat) : Keep 0x300110404087c1c2060 s (State.isduStop s p r) := by
  unfold State.isduStop
  repeat' first
    | intro _
    | with_reducible assumption
    | with_reducible exact Keep.refl _ _
    | (extract_lets +onlyGivenNames vv; clear_value vv)
    | extract_lets +onlyGivenNames vv
    | with_reducible refine keep_ite ?_ ?_
    | with_reducible apply Keep.step (keep_isduEnd _ _ _ _ _ _)
    | exact rfl
    | with_reducible refine keep_foldl (fun _ _ _ => ?_) _ ?_
    | with_reducible exact cellsWf_filter _ (by assumption) _
    | with_reducible exact cellsWf_cellSet _ (by assumption) _ _
    | with_reducible refine keep_snd (by with_reducible assumption) ?_
    | with_reducible refine keep_fst (by with_reducible assumption) ?_
    | split

theorem keep_lpSync (s : State) (p : Nat) : Keep 0x4000000000020 s (State.lpSync s p) := by
  unfold State.lpSync
  repeat' first
    | intro _
    | with_reducible assumption
    | with_reducible exact Keep.refl _ _
    | (extract_lets +onlyGivenNames vv; clear_value vv)
    | extract_lets +onlyGivenNames vv
    | with_reducible refine keep_ite ?_ ?_
    | with_reducible apply Keep.step (keep_setIol _ _ _)
    | with_reducible apply Keep.step (keep_setReg _ _ _)
    | exact rfl

theorem keep_iolStart (s : State) (p : Nat) : Keep 0x300110404087c1c2060 s (State.iolStart s p) := by
  unfold State.iolStart
  repeat' first
    | intro _
    | with_reducible assumption
    | with_reducible exact Keep.refl _ _
    | (extract_lets +onlyGivenNames vv; have hv : Keep 0x300110404087c1c2060 s vv; unfold vv; clear vv; rotate_left; try clear_value vv; rotate_left)
    | (extract_lets +onlyGivenNames vv; clear_value vv)
    | extract_lets +onlyGivenNames vv
    | with_reducible refine keep_ite ?_ ?_
    | with_reducible apply Keep.step (keep_isduStop _ _ _)
    | with_reducible apply Keep.step (keep_lpSync _ _)
    | with_reducible apply Keep.step (keep_setIol _ _ _)
    | with_reducible apply Keep.step (keep_setReg _ _ _)
    | exact rfl

theorem keep_iolLost (s : State) (p : Nat) : Keep 0x300910c3409fd5c2360 s (State.iolLost s p) := by
  unfold State.iolLost
  repeat' first
    | intro _
    | with_reducible assumption
    | with_reducible exact Keep.refl _ _
    | (extract_lets +onlyGivenNames vv; have hv : Keep 0x300910c3409fd5c2360 s vv; unfold vv; clear vv; rotate_left; try clear_value vv; rotate_left)
    | (extract_lets +onlyGivenNames vv; clear_value vv)
    | extract_lets +onlyGivenNames vv
    | with_reducible refine keep_ite ?_ ?_
    | with_reducible apply Keep.step (keep_bump _ _)
    | with_reducible apply Keep.step (keep_faultUp _ _ _ _)
    | with_reducible apply Keep.step (keep_isduStop _ _ _)
    | with_reducible apply Keep.step (keep_portEvent _ _)
    | with_reducible apply Keep.step (keep_setIol _ _ _)
    | exact rfl

theorem keep_execIolModeWrite (w : Writer) (p : Fin 64) (v : Nat) (s : State) : KeepR 0xb00918404087c5c26e0 s (execIolModeWrite w p v s) := by
  unfold execIolModeWrite
  try dsimp only
  repeat' first
    | intro _
    | with_reducible assumption
    | with_reducible exact Keep.refl _ _
    | with_reducible refine keep_ite ?_ ?_
    | with_reducible apply Keep.step (n := 0xb00918404087c5c26e0) (keep_iolAct _ _ _ ?_ ?_)
    | with_reducible apply Keep.step (keep_iolStart _ _)
    | with_reducible apply Keep.step (keep_store _ _ _)
    | with_reducible apply Keep.step (n := 0xb00918404087c5c26e0) (keep_write _ _ _ _ _ _ ?_ ?_)
    | with_reducible apply Keep.step (keep_id _)
    | exact rfl
    | with_reducible refine keepr_next ?_

theorem keep_execIolStartupDelayExpiry (p : Fin 64) (s : State) : KeepR 0x4008000000026 s (execIolStartupDelayExpiry p s) := by
  unfold execIolStartupDelayExpiry
  repeat' first
    | intro _
    | with_reducible assumption
    | with_reducible exact Keep.refl _ _
    | (extract_lets +onlyGivenNames vv; have hv : Keep 0x4008000000026 s vv; unfold vv; clear vv; rotate_left; try clear_value vv; rotate_left)
    | (extract_lets +onlyGivenNames vv; clear_value vv)
    | extract_lets +onlyGivenNames vv
    | with_reducible refine keep_ite ?_ ?_
    | with_reducible apply Keep.step (keep_lpSync _ _)
    | with_reducible apply Keep.step (keep_setIol _ _ _)
    | with_reducible apply Keep.step (keep_until _ _)
    | exact rfl
    | with_reducible refine keepr_next ?_
    | with_reducible exact keepr_fault
    | with_reducible refine keepr_ite ?_ ?_

theorem keep_execIolWakeSlotGrant (s : State) : KeepR 0x4008000000006 s (execIolWakeSlotGrant s) := by
  unfold execIolWakeSlotGrant
  repeat' first
    | intro _
    | with_reducible assumption
    | with_reducible exact Keep.refl _ _
    | (extract_lets +onlyGivenNames vv; have hv : Keep 0x4008000000006 s vv; unfold vv; clear vv; rotate_left; try clear_value vv; rotate_left)
    | (extract_lets +onlyGivenNames vv; clear_value vv)
    | extract_lets +onlyGivenNames vv
    | with_reducible refine keep_ite ?_ ?_
    | with_reducible apply Keep.step (keep_setIol _ _ _)
    | with_reducible apply Keep.step (keep_until _ _)
    | exact rfl
    | with_reducible refine keepr_next ?_
    | with_reducible exact keepr_fault
    | with_reducible refine keepr_ite ?_ ?_
    | with_reducible refine keep_foldl (fun _ _ _ => ?_) _ ?_
    | with_reducible exact cellsWf_filter _ (by assumption) _
    | with_reducible exact cellsWf_cellSet _ (by assumption) _ _
    | with_reducible refine keep_snd (by with_reducible assumption) ?_
    | with_reducible refine keep_fst (by with_reducible assumption) ?_
    | split

theorem keep_dsRestore (s : State) (p : Nat) (d : IolDevice) : Keep 0x300910c3409fd5c2360 s (State.dsRestore s p d) := by
  unfold State.dsRestore
  repeat' first
    | intro _
    | with_reducible assumption
    | with_reducible exact Keep.refl _ _
    | (extract_lets +onlyGivenNames vv; clear_value vv)
    | extract_lets +onlyGivenNames vv
    | with_reducible refine keep_ite ?_ ?_
    | with_reducible apply Keep.step (keep_occur _ _ _ _)
    | with_reducible apply Keep.step (keep_portEvent _ _)
    | with_reducible apply Keep.step (keep_setIol _ _ _)
    | with_reducible apply Keep.step (keep_setReg _ _ _)
    | exact rfl

theorem keep_execIolStartupComplete (p : Fin 64) (d : IolDevice) (s : State) : KeepR 0x300910c3409fd5c2360 s (execIolStartupComplete p d s) := by
  unfold execIolStartupComplete
  try dsimp only
  repeat' first
    | intro _
    | with_reducible assumption
    | with_reducible exact Keep.refl _ _
    | with_reducible refine keep_ite ?_ ?_
    | with_reducible apply Keep.step (keep_dsRestore _ _ _)
    | with_reducible apply Keep.step (n := 0x300910c3409fd5c2360) (keep_iolAct _ _ _ ?_ ?_)
    | with_reducible apply Keep.step (keep_occur _ _ _ _)
    | with_reducible apply Keep.step (keep_portEvent _ _)
    | with_reducible apply Keep.step (keep_setIol _ _ _)
    | with_reducible apply Keep.step (keep_setLive _ _ _)
    | with_reducible apply Keep.step (keep_setReg _ _ _)
    | exact rfl
    | with_reducible refine keepr_next ?_
    | with_reducible exact keepr_fault
    | with_reducible refine keepr_ite ?_ ?_

theorem keep_execIolMSequenceStart (p : Fin 64) (s : State) : KeepR 0x4008000000006 s (execIolMSequenceStart p s) := by
  unfold execIolMSequenceStart
  repeat' first
    | intro _
    | with_reducible assumption
    | with_reducible exact Keep.refl _ _
    | (extract_lets +onlyGivenNames vv; have hv : Keep 0x4008000000006 s vv; unfold vv; clear vv; rotate_left; try clear_value vv; rotate_left)
    | (extract_lets +onlyGivenNames vv; clear_value vv)
    | extract_lets +onlyGivenNames vv
    | with_reducible refine keep_ite ?_ ?_
    | with_reducible apply Keep.step (keep_setIol _ _ _)
    | with_reducible apply Keep.step (keep_untilFtime _ _)
    | exact rfl
    | with_reducible refine keepr_next ?_
    | with_reducible exact keepr_fault
    | with_reducible refine keepr_ite ?_ ?_

theorem keep_iolFail (s : State) (p : Nat) : Keep 0x300910c3409fd5c2360 s (State.iolFail s p) := by
  unfold State.iolFail
  try dsimp only
  repeat' first
    | intro _
    | with_reducible assumption
    | with_reducible exact Keep.refl _ _
    | with_reducible refine keep_ite ?_ ?_
    | with_reducible apply Keep.step (keep_bump _ _)
    | with_reducible apply Keep.step (n := 0x300910c3409fd5c2360) (keep_iolAct _ _ _ ?_ ?_)
    | with_reducible apply Keep.step (keep_iolLost _ _)
    | with_reducible apply Keep.step (keep_setIol _ _ _)
    | exact rfl

theorem keep_execIolMSequenceReply (p : Fin 64) (pd : List Byte) (valid checksumOk : Bool) (s : State) : KeepR 0x301910c3409fd5c2360 s (execIolMSequenceReply p pd valid checksumOk s) := by
  unfold execIolMSequenceReply
  try dsimp only
  repeat' first
    | intro _
    | with_reducible assumption
    | with_reducible exact Keep.refl _ _
    | with_reducible refine keep_ite ?_ ?_
    | with_reducible apply Keep.step (keep_bump _ _)
    | with_reducible apply Keep.step (n := 0x301910c3409fd5c2360) (keep_iolAct _ _ _ ?_ ?_)
    | with_reducible apply Keep.step (keep_iolFail _ _)
    | with_reducible apply Keep.step (keep_pertNth _ _ _)
    | with_reducible apply Keep.step (keep_setIol _ _ _)
    | with_reducible apply Keep.step (keep_setReg _ _ _)
    | exact rfl
    | with_reducible refine keepr_next ?_
    | with_reducible exact keepr_fault
    | with_reducible refine keepr_ite ?_ ?_

theorem keep_execIolReplyTimeout (p : Fin 64) (s : State) : KeepR 0x300910c3409fd5c2360 s (execIolReplyTimeout p s) := by
  unfold execIolReplyTimeout
  repeat' first
    | intro _
    | with_reducible assumption
    | with_reducible exact Keep.refl _ _
    | (extract_lets +onlyGivenNames vv; clear_value vv)
    | extract_lets +onlyGivenNames vv
    | with_reducible refine keep_ite ?_ ?_
    | with_reducible apply Keep.step (keep_iolFail _ _)
    | exact rfl
    | with_reducible refine keepr_next ?_

theorem keep_execIolMSequenceWake (p : Fin 64) (s : State) : KeepR 0x200000000000000000 s (execIolMSequenceWake p s) := by
  unfold execIolMSequenceWake
  repeat' first
    | intro _
    | with_reducible assumption
    | with_reducible exact Keep.refl _ _
    | (extract_lets +onlyGivenNames vv; clear_value vv)
    | extract_lets +onlyGivenNames vv
    | with_reducible refine keep_ite ?_ ?_
    | with_reducible apply Keep.step (keep_panWindow _ _ _)
    | exact rfl
    | with_reducible refine keepr_next ?_
    | with_reducible exact keepr_fault
    | with_reducible refine keepr_ite ?_ ?_

theorem keep_isduBegin (s : State) (p : Nat) (i : IsduSt) : Keep 0x300110404087c1c2060 s (State.isduBegin s p i) := by
  unfold State.isduBegin
  repeat' first
    | intro _
    | with_reducible assumption
    | with_reducible exact Keep.refl _ _
    | (extract_lets +onlyGivenNames vv; have hv : Keep 0x300110404087c1c2060 s vv; unfold vv; clear vv; rotate_left; try clear_value vv; rotate_left)
    | (extract_lets +onlyGivenNames vv; clear_value vv)
    | extract_lets +onlyGivenNames vv
    | with_reducible refine keep_ite ?_ ?_
    | with_reducible apply Keep.step (keep_isduEnd _ _ _ _ _ _)
    | with_reducible apply Keep.step (keep_setIol _ _ _)
    | with_reducible apply Keep.step (keep_setReg _ _ _)
    | exact rfl
    | with_reducible refine keep_foldl (fun _ _ _ => ?_) _ ?_
    | with_reducible exact cellsWf_filter _ (by assumption) _
    | with_reducible exact cellsWf_cellSet _ (by assumption) _ _
    | with_reducible refine keep_snd (by with_reducible assumption) ?_
    | with_reducible refine keep_fst (by with_reducible assumption) ?_
    | split

theorem keep_execIsduRequestWrite (w : Writer) (p : Fin 64) (data : List Byte) (s : State) : KeepR 0xb00918404087c5c26e0 s (execIsduRequestWrite w p data s) := by
  unfold execIsduRequestWrite
  try dsimp only
  repeat' first
    | intro _
    | with_reducible assumption
    | with_reducible exact Keep.refl _ _
    | with_reducible refine keep_ite ?_ ?_
    | with_reducible apply Keep.step (keep_isduBegin _ _ _)
    | with_reducible apply Keep.step (keep_isduEnd _ _ _ _ _ _)
    | with_reducible apply Keep.step (n := 0xb00918404087c5c26e0) (keep_write _ _ _ _ _ _ ?_ ?_)
    | with_reducible apply Keep.step (keep_id _)
    | exact rfl
    | with_reducible refine keepr_next ?_

theorem keep_execIsduQueueRequest (p : Fin 64) (s : State) : KeepR 0x300110404087c1c2060 s (execIsduQueueRequest p s) := by
  unfold execIsduQueueRequest
  repeat' first
    | intro _
    | with_reducible assumption
    | with_reducible exact Keep.refl _ _
    | (extract_lets +onlyGivenNames vv; clear_value vv)
    | extract_lets +onlyGivenNames vv
    | with_reducible refine keep_ite ?_ ?_
    | with_reducible apply Keep.step (keep_isduBegin _ _ _)
    | with_reducible apply Keep.step (keep_isduEnd _ _ _ _ _ _)
    | with_reducible refine Keep.step (keep_qTake (by with_reducible assumption)) ?_ ?_
    | exact rfl
    | with_reducible refine keepr_next ?_
    | with_reducible exact keepr_fault
    | with_reducible refine keepr_ite ?_ ?_
    | with_reducible refine keep_foldl (fun _ _ _ => ?_) _ ?_
    | with_reducible exact cellsWf_filter _ (by assumption) _
    | with_reducible exact cellsWf_cellSet _ (by assumption) _ _
    | with_reducible refine keep_snd (by with_reducible assumption) ?_
    | with_reducible refine keep_fst (by with_reducible assumption) ?_
    | split

theorem keep_execIsduComplete (p : Fin 64) (error : Nat) (data : List Byte) (s : State) : KeepR 0x300110404087c1c2060 s (execIsduComplete p error data s) := by
  unfold execIsduComplete
  repeat' first
    | intro _
    | with_reducible assumption
    | with_reducible exact Keep.refl _ _
    | (extract_lets +onlyGivenNames vv; clear_value vv)
    | extract_lets +onlyGivenNames vv
    | with_reducible refine keep_ite ?_ ?_
    | with_reducible apply Keep.step (keep_isduEnd _ _ _ _ _ _)
    | exact rfl
    | with_reducible refine keepr_next ?_
    | with_reducible exact keepr_fault
    | with_reducible refine keepr_ite ?_ ?_
    | with_reducible refine keep_foldl (fun _ _ _ => ?_) _ ?_
    | with_reducible exact cellsWf_filter _ (by assumption) _
    | with_reducible exact cellsWf_cellSet _ (by assumption) _ _
    | with_reducible refine keep_snd (by with_reducible assumption) ?_
    | with_reducible refine keep_fst (by with_reducible assumption) ?_
    | split

theorem keep_execIsduTimeout (p : Fin 64) (s : State) : KeepR 0x300110404887c1c2066 s (execIsduTimeout p s) := by
  unfold execIsduTimeout
  repeat' first
    | intro _
    | with_reducible assumption
    | with_reducible exact Keep.refl _ _
    | (extract_lets +onlyGivenNames vv; clear_value vv)
    | extract_lets +onlyGivenNames vv
    | with_reducible refine keep_ite ?_ ?_
    | with_reducible apply Keep.step (keep_isduEnd _ _ _ _ _ _)
    | with_reducible apply Keep.step (keep_until _ _)
    | exact rfl
    | with_reducible refine keepr_next ?_
    | with_reducible exact keepr_fault
    | with_reducible refine keepr_ite ?_ ?_
    | with_reducible refine keep_foldl (fun _ _ _ => ?_) _ ?_
    | with_reducible exact cellsWf_filter _ (by assumption) _
    | with_reducible exact cellsWf_cellSet _ (by assumption) _ _
    | with_reducible refine keep_snd (by with_reducible assumption) ?_
    | with_reducible refine keep_fst (by with_reducible assumption) ?_
    | split

theorem keep_execIolEventRead (p : Fin 64) (qualifier code : Nat) (s : State) : KeepR 0x300110404087c1c2040 s (execIolEventRead p qualifier code s) := by
  unfold execIolEventRead
  try dsimp only
  repeat' first
    | intro _
    | with_reducible assumption
    | with_reducible exact Keep.refl _ _
    | with_reducible refine keep_ite ?_ ?_
    | with_reducible apply Keep.step (n := 0x300110404087c1c2040) (keep_iolAct _ _ _ ?_ ?_)
    | with_reducible apply Keep.step (keep_iolStore _ _ _ _ _)
    | with_reducible apply Keep.step (keep_setIol _ _ _)
    | exact rfl
    | with_reducible refine keepr_next ?_
    | with_reducible exact keepr_fault
    | with_reducible refine keepr_ite ?_ ?_

theorem keep_execIolEventBacklogRelease (p : Fin 64) (s : State) : KeepR 0x300110404087c1c2040 s (execIolEventBacklogRelease p s) := by
  unfold execIolEventBacklogRelease
  try dsimp only
  repeat' first
    | intro _
    | with_reducible assumption
    | with_reducible exact Keep.refl _ _
    | with_reducible refine keep_ite ?_ ?_
    | with_reducible apply Keep.step (n := 0x300110404087c1c2040) (keep_iolAct _ _ _ ?_ ?_)
    | with_reducible apply Keep.step (keep_iolStore _ _ _ _ _)
    | with_reducible apply Keep.step (keep_setIol _ _ _)
    | exact rfl
    | with_reducible refine keepr_next ?_
    | with_reducible exact keepr_fault
    | with_reducible refine keepr_ite ?_ ?_
    | with_reducible refine keep_foldl (fun _ _ _ => ?_) _ ?_
    | with_reducible exact cellsWf_filter _ (by assumption) _
    | with_reducible exact cellsWf_cellSet _ (by assumption) _ _
    | with_reducible refine keep_snd (by with_reducible assumption) ?_
    | with_reducible refine keep_fst (by with_reducible assumption) ?_
    | split

theorem keep_execPortCmdRestart (w : Writer) (p : Fin 64) (s : State) : KeepR 0xb00918404087c5c26e0 s (execPortCmdRestart w p s) := by
  unfold execPortCmdRestart
  repeat' first
    | intro _
    | with_reducible assumption
    | with_reducible exact Keep.refl _ _
    | (extract_lets +onlyGivenNames vv; clear_value vv)
    | extract_lets +onlyGivenNames vv
    | with_reducible refine keep_ite ?_ ?_
    | with_reducible apply Keep.step (n := 0xb00918404087c5c26e0) (keep_iolAct _ _ _ ?_ ?_)
    | with_reducible apply Keep.step (keep_iolStart _ _)
    | with_reducible apply Keep.step (n := 0xb00918404087c5c26e0) (keep_write _ _ _ _ _ _ ?_ ?_)
    | with_reducible apply Keep.step (keep_id _)
    | exact rfl
    | with_reducible refine keepr_next ?_

theorem keep_dsUpload (s : State) (p : Nat) : Keep 0x20 s (State.dsUpload s p) := by
  unfold State.dsUpload
  repeat' first
    | intro _
    | with_reducible assumption
    | with_reducible exact Keep.refl _ _
    | (extract_lets +onlyGivenNames vv; clear_value vv)
    | extract_lets +onlyGivenNames vv
    | with_reducible refine keep_ite ?_ ?_
    | with_reducible apply Keep.step (keep_setReg _ _ _)
    | exact rfl

theorem keep_execPortCmdBackup (w : Writer) (p : Fin 64) (s : State) : KeepR 0xb0090800008005c26e0 s (execPortCmdBackup w p s) := by
  unfold execPortCmdBackup
  repeat' first
    | intro _
    | with_reducible assumption
    | with_reducible exact Keep.refl _ _
    | (extract_lets +onlyGivenNames vv; clear_value vv)
    | extract_lets +onlyGivenNames vv
    | with_reducible refine keep_ite ?_ ?_
    | with_reducible apply Keep.step (keep_dsUpload _ _)
    | with_reducible apply Keep.step (n := 0xb0090800008005c26e0) (keep_write _ _ _ _ _ _ ?_ ?_)
    | with_reducible apply Keep.step (keep_id _)
    | exact rfl
    | with_reducible refine keepr_next ?_

theorem keep_execPortCmdClearDs (w : Writer) (p : Fin 64) (s : State) : KeepR 0xb0090840008005c26e0 s (execPortCmdClearDs w p s) := by
  unfold execPortCmdClearDs
  repeat' first
    | intro _
    | with_reducible assumption
    | with_reducible exact Keep.refl _ _
    | (extract_lets +onlyGivenNames vv; clear_value vv)
    | extract_lets +onlyGivenNames vv
    | with_reducible refine keep_ite ?_ ?_
    | with_reducible apply Keep.step (keep_setIol _ _ _)
    | with_reducible apply Keep.step (keep_setReg _ _ _)
    | with_reducible apply Keep.step (n := 0xb0090840008005c26e0) (keep_write _ _ _ _ _ _ ?_ ?_)
    | with_reducible apply Keep.step (keep_id _)
    | exact rfl
    | with_reducible refine keepr_next ?_

theorem keep_execDsUploadRequest (p : Fin 64) (s : State) : KeepR 0x20 s (execDsUploadRequest p s) := by
  unfold execDsUploadRequest
  repeat' first
    | intro _
    | with_reducible assumption
    | with_reducible exact Keep.refl _ _
    | (extract_lets +onlyGivenNames vv; clear_value vv)
    | extract_lets +onlyGivenNames vv
    | with_reducible refine keep_ite ?_ ?_
    | with_reducible apply Keep.step (keep_dsUpload _ _)
    | exact rfl
    | with_reducible refine keepr_next ?_

theorem keep_execDsCommit (p : Fin 64) (data : List Byte) (s : State) : KeepR 0x3008004000000402060 s (execDsCommit p data s) := by
  unfold execDsCommit
  repeat' first
    | intro _
    | with_reducible assumption
    | with_reducible exact Keep.refl _ _
    | (extract_lets +onlyGivenNames vv; have hv : Keep 0x3008004000000402060 s vv; unfold vv; clear vv; rotate_left; try clear_value vv; rotate_left)
    | (extract_lets +onlyGivenNames vv; clear_value vv)
    | extract_lets +onlyGivenNames vv
    | with_reducible refine keep_ite ?_ ?_
    | with_reducible apply Keep.step (keep_sendSync _ _ _)
    | with_reducible apply Keep.step (keep_setIol _ _ _)
    | with_reducible apply Keep.step (keep_setReg _ _ _)
    | exact rfl
    | with_reducible refine keepr_next ?_
    | with_reducible exact keepr_fault
    | with_reducible refine keepr_ite ?_ ?_

theorem keep_lpTrip (s : State) (p b : Nat) : Keep 0x300910c3409fd5c2360 s (State.lpTrip s p b) := by
  unfold State.lpTrip
  try dsimp only
  repeat' first
    | intro _
    | with_reducible assumption
    | with_reducible exact Keep.refl _ _
    | with_reducible refine keep_ite ?_ ?_
    | with_reducible apply Keep.step (keep_bump _ _)
    | with_reducible apply Keep.step (n := 0x300910c3409fd5c2360) (keep_iolAct _ _ _ ?_ ?_)
    | with_reducible apply Keep.step (keep_iolLost _ _)
    | with_reducible apply Keep.step (keep_occur _ _ _ _)
    | with_reducible apply Keep.step (keep_raise _ _ _)
    | with_reducible apply Keep.step (keep_setIol _ _ _)
    | with_reducible apply Keep.step (keep_setReg _ _ _)
    | exact rfl

theorem keep_execLpFastTrip (p : Fin 64) (s : State) : KeepR 0x300910c3409fd5c2360 s (execLpFastTrip p s) := by
  unfold execLpFastTrip
  repeat' first
    | intro _
    | with_reducible assumption
    | with_reducible exact Keep.refl _ _
    | (extract_lets +onlyGivenNames vv; have hv : Keep 0x300910c3409fd5c2360 s vv; unfold vv; clear vv; rotate_left; try clear_value vv; rotate_left)
    | (extract_lets +onlyGivenNames vv; clear_value vv)
    | extract_lets +onlyGivenNames vv
    | with_reducible refine keep_ite ?_ ?_
    | with_reducible apply Keep.step (keep_lpSync _ _)
    | with_reducible apply Keep.step (keep_lpTrip _ _ _)
    | exact rfl
    | with_reducible refine keepr_next ?_

theorem keep_execLpSlowTrip (p : Fin 64) (s : State) : KeepR 0x300910c3409fd5c2360 s (execLpSlowTrip p s) := by
  unfold execLpSlowTrip
  repeat' first
    | intro _
    | with_reducible assumption
    | with_reducible exact Keep.refl _ _
    | (extract_lets +onlyGivenNames vv; have hv : Keep 0x300910c3409fd5c2360 s vv; unfold vv; clear vv; rotate_left; try clear_value vv; rotate_left)
    | (extract_lets +onlyGivenNames vv; clear_value vv)
    | extract_lets +onlyGivenNames vv
    | with_reducible refine keep_ite ?_ ?_
    | with_reducible apply Keep.step (keep_lpSync _ _)
    | with_reducible apply Keep.step (keep_lpTrip _ _ _)
    | exact rfl
    | with_reducible refine keepr_next ?_

theorem keep_execLpThermalTrip (p : Fin 64) (s : State) : KeepR 0x300910c3409fd5c2360 s (execLpThermalTrip p s) := by
  unfold execLpThermalTrip
  repeat' first
    | intro _
    | with_reducible assumption
    | with_reducible exact Keep.refl _ _
    | (extract_lets +onlyGivenNames vv; have hv : Keep 0x300910c3409fd5c2360 s vv; unfold vv; clear vv; rotate_left; try clear_value vv; rotate_left)
    | (extract_lets +onlyGivenNames vv; clear_value vv)
    | extract_lets +onlyGivenNames vv
    | with_reducible refine keep_ite ?_ ?_
    | with_reducible apply Keep.step (keep_lpSync _ _)
    | with_reducible apply Keep.step (keep_lpTrip _ _ _)
    | exact rfl
    | with_reducible refine keepr_next ?_

theorem keep_execLpRampComplete (p : Fin 64) (s : State) : KeepR 0x4008000000026 s (execLpRampComplete p s) := by
  unfold execLpRampComplete
  repeat' first
    | intro _
    | with_reducible assumption
    | with_reducible exact Keep.refl _ _
    | (extract_lets +onlyGivenNames vv; have hv : Keep 0x4008000000026 s vv; unfold vv; clear vv; rotate_left; try clear_value vv; rotate_left)
    | (extract_lets +onlyGivenNames vv; clear_value vv)
    | extract_lets +onlyGivenNames vv
    | with_reducible refine keep_ite ?_ ?_
    | with_reducible apply Keep.step (keep_lpSync _ _)
    | with_reducible apply Keep.step (keep_setIol _ _ _)
    | with_reducible apply Keep.step (keep_setReg _ _ _)
    | with_reducible apply Keep.step (keep_until _ _)
    | exact rfl
    | with_reducible refine keepr_next ?_
    | with_reducible exact keepr_fault
    | with_reducible refine keepr_ite ?_ ?_

theorem keep_lpRetry (s : State) (p : Nat) : Keep 0x4000000000020 s (State.lpRetry s p) := by
  unfold State.lpRetry
  repeat' first
    | intro _
    | with_reducible assumption
    | with_reducible exact Keep.refl _ _
    | (extract_lets +onlyGivenNames vv; have hv : Keep 0x4000000000020 s vv; unfold vv; clear vv; rotate_left; try clear_value vv; rotate_left)
    | (extract_lets +onlyGivenNames vv; clear_value vv)
    | extract_lets +onlyGivenNames vv
    | with_reducible refine keep_ite ?_ ?_
    | with_reducible apply Keep.step (keep_lpSync _ _)
    | with_reducible apply Keep.step (keep_setReg _ _ _)
    | exact rfl

theorem keep_execLpBackoffExpiry (p : Fin 64) (s : State) : KeepR 0x4008000000026 s (execLpBackoffExpiry p s) := by
  unfold execLpBackoffExpiry
  repeat' first
    | intro _
    | with_reducible assumption
    | with_reducible exact Keep.refl _ _
    | (extract_lets +onlyGivenNames vv; have hv : Keep 0x4008000000026 s vv; unfold vv; clear vv; rotate_left; try clear_value vv; rotate_left)
    | (extract_lets +onlyGivenNames vv; clear_value vv)
    | extract_lets +onlyGivenNames vv
    | with_reducible refine keep_ite ?_ ?_
    | with_reducible apply Keep.step (keep_lpRetry _ _)
    | with_reducible apply Keep.step (keep_until _ _)
    | exact rfl
    | with_reducible refine keepr_next ?_
    | with_reducible exact keepr_fault
    | with_reducible refine keepr_ite ?_ ?_

theorem keep_execLpClear (w : Writer) (p : Fin 64) (v : Nat) (s : State) : KeepR 0xb0090840008005c26e0 s (execLpClear w p v s) := by
  unfold execLpClear
  try dsimp only
  repeat' first
    | intro _
    | with_reducible assumption
    | with_reducible exact Keep.refl _ _
    | with_reducible refine keep_ite ?_ ?_
    | with_reducible apply Keep.step (n := 0xb0090840008005c26e0) (keep_command _ _ _ _ _ _ ?_ ?_)
    | with_reducible apply Keep.step (keep_lpSync _ _)
    | with_reducible apply Keep.step (keep_setIol _ _ _)
    | with_reducible apply Keep.step (keep_setReg _ _ _)
    | with_reducible apply Keep.step (keep_id _)
    | exact rfl
    | with_reducible refine keepr_next ?_

theorem keep_execStageCooled (i : Fin 320) (s : State) : KeepR 0x30011041008fc1c2160 s (execStageCooled i s) := by
  unfold execStageCooled
  repeat' first
    | intro _
    | with_reducible assumption
    | with_reducible exact Keep.refl _ _
    | (extract_lets +onlyGivenNames vv; have hv : Keep 0x30011041008fc1c2160 s vv; unfold vv; clear vv; rotate_left; try clear_value vv; rotate_left)
    | (extract_lets +onlyGivenNames vv; clear_value vv)
    | extract_lets +onlyGivenNames vv
    | with_reducible refine keep_ite ?_ ?_
    | with_reducible apply Keep.step (keep_lineCooled _ _)
    | with_reducible apply Keep.step (keep_lpRetry _ _)
    | with_reducible apply Keep.step (keep_setIol _ _ _)
    | exact rfl
    | with_reducible refine keepr_next ?_
    | with_reducible exact keepr_fault
    | with_reducible refine keepr_ite ?_ ?_

theorem keep_execDlRetryCountReset (i : Fin 320) (s : State) : KeepR 0x4108000000026 s (execDlRetryCountReset i s) := by
  unfold execDlRetryCountReset
  repeat' first
    | intro _
    | with_reducible assumption
    | with_reducible exact Keep.refl _ _
    | (extract_lets +onlyGivenNames vv; have hv : Keep 0x4108000000026 s vv; unfold vv; clear vv; rotate_left; try clear_value vv; rotate_left)
    | (extract_lets +onlyGivenNames vv; clear_value vv)
    | extract_lets +onlyGivenNames vv
    | with_reducible refine keep_ite ?_ ?_
    | with_reducible apply Keep.step (keep_lineSteady _ _)
    | with_reducible apply Keep.step (keep_lpSync _ _)
    | with_reducible apply Keep.step (keep_setIol _ _ _)
    | with_reducible apply Keep.step (keep_until _ _)
    | exact rfl
    | with_reducible refine keepr_next ?_
    | with_reducible exact keepr_fault
    | with_reducible refine keepr_ite ?_ ?_

theorem keep_execCqInputCrossing (p : Fin 64) (level : Bool) (s : State) : KeepR 0x320110400087c1c2040 s (execCqInputCrossing p level s) := by
  unfold execCqInputCrossing
  try dsimp only
  repeat' first
    | intro _
    | with_reducible assumption
    | with_reducible exact Keep.refl _ _
    | with_reducible refine keep_ite ?_ ?_
    | with_reducible apply Keep.step (n := 0x320110400087c1c2040) (keep_iolAct _ _ _ ?_ ?_)
    | with_reducible apply Keep.step (keep_panAsk _ _)
    | with_reducible apply Keep.step (keep_setIol _ _ _)
    | exact rfl
    | with_reducible refine keepr_next ?_
    | with_reducible exact keepr_fault
    | with_reducible refine keepr_ite ?_ ?_

theorem keep_execCqCurrentLimit (p : Fin 64) (s : State) : KeepR 0x20 s (execCqCurrentLimit p s) := by
  unfold execCqCurrentLimit
  repeat' first
    | intro _
    | with_reducible assumption
    | with_reducible exact Keep.refl _ _
    | (extract_lets +onlyGivenNames vv; clear_value vv)
    | extract_lets +onlyGivenNames vv
    | with_reducible refine keep_ite ?_ ?_
    | with_reducible apply Keep.step (keep_setReg _ _ _)
    | exact rfl
    | with_reducible refine keepr_next ?_

theorem keep_pdOut (s : State) (p : Nat) (four : Bool) (v : Nat) : Keep 0x4000000000020 s (State.pdOut s p four v) := by
  unfold State.pdOut
  repeat' first
    | intro _
    | with_reducible assumption
    | with_reducible exact Keep.refl _ _
    | (extract_lets +onlyGivenNames vv; have hv : Keep 0x4000000000020 s vv; unfold vv; clear vv; rotate_left; try clear_value vv; rotate_left)
    | (extract_lets +onlyGivenNames vv; clear_value vv)
    | extract_lets +onlyGivenNames vv
    | with_reducible refine keep_ite ?_ ?_
    | with_reducible apply Keep.step (keep_setIol _ _ _)
    | with_reducible apply Keep.step (keep_setReg _ _ _)
    | exact rfl

end Sys2Proof.Machine
end

