-- ==== Sys2Proof/Laws/KeepWhisks.lean ====
section
/-! SUPPORT. What each operation and each command of `Machine/Whisks.lean` keeps: the parts of the state outside its mask, and
the invariant. -/

namespace Sys2Proof.Machine
open Sys2Proof

theorem keep_pxWord (s : State) (x v : Nat) : Keep 0x200000000000 s (State.pxWord s x v) := by
  unfold State.pxWord
  repeat' first
    | intro _
    | with_reducible assumption
    | with_reducible exact Keep.refl _ _
    | (extract_lets +onlyGivenNames vv; clear_value vv)
    | extract_lets +onlyGivenNames vv
    | with_reducible refine keep_ite ?_ ?_
    | with_reducible apply Keep.step (keep_setPx _ _ _)
    | exact rfl

theorem keep_whiskLines (s : State) (w : Nat) : Keep 0x30011081008fc1c2160 s (State.whiskLines s w) := by
  unfold State.whiskLines
  repeat' first
    | intro _
    | with_reducible assumption
    | with_reducible exact Keep.refl _ _
    | (extract_lets +onlyGivenNames vv; clear_value vv)
    | extract_lets +onlyGivenNames vv
    | with_reducible refine keep_ite ?_ ?_
    | with_reducible apply Keep.step (keep_lineDrive _ _ _)
    | with_reducible apply Keep.step (keep_setWhisk _ _ _)
    | exact rfl
    | with_reducible refine keep_foldl (fun _ _ _ => ?_) _ ?_

theorem keep_execDlSlotChangeRelease (w : Fin 32) (slot : Fin 8) (s : State) : KeepR 0x30011081088fc1c2166 s (execDlSlotChangeRelease w slot s) := by
  unfold execDlSlotChangeRelease
  repeat' first
    | intro _
    | with_reducible assumption
    | with_reducible exact Keep.refl _ _
    | (extract_lets +onlyGivenNames vv; have hv : Keep 0x30011081088fc1c2166 s vv; unfold vv; clear vv; rotate_left; try clear_value vv; rotate_left)
    | (extract_lets +onlyGivenNames vv; clear_value vv)
    | extract_lets +onlyGivenNames vv
    | with_reducible refine keep_ite ?_ ?_
    | with_reducible apply Keep.step (keep_lineDrive _ _ _)
    | with_reducible apply Keep.step (keep_setWhisk _ _ _)
    | with_reducible apply Keep.step (keep_until _ _)
    | exact rfl
    | with_reducible refine keepr_next ?_
    | with_reducible exact keepr_fault
    | with_reducible refine keepr_ite ?_ ?_
    | with_reducible refine keep_foldl (fun _ _ _ => ?_) _ ?_
    | with_reducible exact cellsWf_filter _ (by assumption) _
    | with_reducible exact cellsWf_cellSet _ (by assumption) _ _
    | with_reducible refine keep_snd (by with_reducible assumption) ?_
    | with_reducible refine keep_fst (by with_reducible assumption) ?_
    | split

theorem keep_whiskFill (s : State) (w v : Nat) (last : Bool) : Keep 0x300110804087c1c2040 s (State.whiskFill s w v last) := by
  unfold State.whiskFill
  repeat' first
    | intro _
    | with_reducible assumption
    | with_reducible exact Keep.refl _ _
    | (extract_lets +onlyGivenNames vv; have hv : Keep 0x300110804087c1c2040 s vv; unfold vv; clear vv; rotate_left; try clear_value vv; rotate_left)
    | (extract_lets +onlyGivenNames vv; clear_value vv)
    | extract_lets +onlyGivenNames vv
    | with_reducible refine keep_ite ?_ ?_
    | with_reducible apply Keep.step (keep_qWrite _ _ _ _)
    | with_reducible apply Keep.step (keep_setWhisk _ _ _)
    | exact rfl

theorem keep_whiskEnd (s : State) (w : Nat) : Keep 0x300110884087c1c2040 s (State.whiskEnd s w) := by
  unfold State.whiskEnd
  repeat' first
    | intro _
    | with_reducible assumption
    | with_reducible exact Keep.refl _ _
    | (extract_lets +onlyGivenNames vv; have hv : Keep 0x300110884087c1c2040 s vv; unfold vv; clear vv; rotate_left; try clear_value vv; rotate_left)
    | (extract_lets +onlyGivenNames vv; clear_value vv)
    | extract_lets +onlyGivenNames vv
    | with_reducible refine keep_ite ?_ ?_
    | with_reducible apply Keep.step (keep_qWrite _ _ _ _)
    | with_reducible apply Keep.step (keep_rsStrobe _ _)
    | with_reducible apply Keep.step (keep_setWhisk _ _ _)
    | exact rfl
    | with_reducible refine keep_foldl (fun _ _ _ => ?_) _ ?_
    | with_reducible exact cellsWf_filter _ (by assumption) _
    | with_reducible exact cellsWf_cellSet _ (by assumption) _ _
    | with_reducible refine keep_snd (by with_reducible assumption) ?_
    | with_reducible refine keep_fst (by with_reducible assumption) ?_
    | split

theorem keep_execWhiskStoreMove (w : Fin 32) (send : Bool) (s : State) : KeepR 0x300110804087c1c2040 s (execWhiskStoreMove w send s) := by
  unfold execWhiskStoreMove
  repeat' first
    | intro _
    | with_reducible assumption
    | with_reducible exact Keep.refl _ _
    | (extract_lets +onlyGivenNames vv; clear_value vv)
    | extract_lets +onlyGivenNames vv
    | with_reducible refine keep_ite ?_ ?_
    | with_reducible apply Keep.step (keep_qPop _ _ _)
    | with_reducible apply Keep.step (keep_setWhisk _ _ _)
    | with_reducible apply Keep.step (keep_whiskFill _ _ _ _)
    | exact rfl
    | with_reducible refine keepr_next ?_
    | with_reducible exact keepr_fault
    | with_reducible refine keepr_ite ?_ ?_
    | with_reducible refine keep_foldl (fun _ _ _ => ?_) _ ?_
    | with_reducible exact cellsWf_filter _ (by assumption) _
    | with_reducible exact cellsWf_cellSet _ (by assumption) _ _
    | with_reducible refine keep_snd (by with_reducible assumption) ?_
    | with_reducible refine keep_fst (by with_reducible assumption) ?_
    | split

theorem keep_whiskDwell (s : State) (w code : Nat) : Keep 0x300110800087c1c2040 s (State.whiskDwell s w code) := by
  unfold State.whiskDwell
  repeat' first
    | intro _
    | with_reducible assumption
    | with_reducible exact Keep.refl _ _
    | (extract_lets +onlyGivenNames vv; clear_value vv)
    | extract_lets +onlyGivenNames vv
    | with_reducible refine keep_ite ?_ ?_
    | with_reducible apply Keep.step (keep_whiskTo _ _ _)
    | exact rfl

theorem keep_whiskStall (s : State) (w : Nat) : Keep 0x300110800087c1c2040 s (State.whiskStall s w) := by
  unfold State.whiskStall
  repeat' first
    | intro _
    | with_reducible assumption
    | with_reducible exact Keep.refl _ _
    | (extract_lets +onlyGivenNames vv; clear_value vv)
    | extract_lets +onlyGivenNames vv
    | with_reducible refine keep_ite ?_ ?_
    | with_reducible apply Keep.step (keep_bump _ _)
    | with_reducible apply Keep.step (keep_whiskTo _ _ _)
    | exact rfl

theorem keep_execWhiskStepEnter (w : Fin 32) (read : Fin 256) (s : State) : KeepR 0x30011089488fc1c2166 s (execWhiskStepEnter w read s) := by
  unfold execWhiskStepEnter
  repeat' first
    | intro _
    | with_reducible assumption
    | with_reducible exact Keep.refl _ _
    | (extract_lets +onlyGivenNames vv; have hv : Keep 0x30011089488fc1c2166 s vv; unfold vv; clear vv; rotate_left; try clear_value vv; rotate_left)
    | (extract_lets +onlyGivenNames vv; clear_value vv)
    | extract_lets +onlyGivenNames vv
    | with_reducible refine keep_ite ?_ ?_
    | with_reducible apply Keep.step (keep_bump _ _)
    | with_reducible apply Keep.step (keep_setWhisk _ _ _)
    | with_reducible apply Keep.step (keep_until _ _)
    | with_reducible apply Keep.step (keep_whiskDwell _ _ _)
    | with_reducible apply Keep.step (keep_whiskEnd _ _)
    | with_reducible apply Keep.step (keep_whiskLines _ _)
    | with_reducible apply Keep.step (keep_whiskStall _ _)
    | exact rfl
    | with_reducible refine keepr_next ?_
    | with_reducible exact keepr_fault
    | with_reducible refine keepr_ite ?_ ?_

theorem keep_execWhiskStallClear (w : Fin 32) (s : State) : KeepR 0x30011080008fc1c2040 s (execWhiskStallClear w s) := by
  unfold execWhiskStallClear
  repeat' first
    | intro _
    | with_reducible assumption
    | with_reducible exact Keep.refl _ _
    | (extract_lets +onlyGivenNames vv; clear_value vv)
    | extract_lets +onlyGivenNames vv
    | with_reducible refine keep_ite ?_ ?_
    | with_reducible apply Keep.step (keep_setLive _ _ _)
    | with_reducible apply Keep.step (keep_setWhisk _ _ _)
    | with_reducible apply Keep.step (keep_whiskDwell _ _ _)
    | exact rfl
    | with_reducible refine keepr_next ?_
    | with_reducible exact keepr_fault
    | with_reducible refine keepr_ite ?_ ?_

theorem keep_execWhiskStallLimit (w : Fin 32) (s : State) : KeepR 0x30091083089fd5c2266 s (execWhiskStallLimit w s) := by
  unfold execWhiskStallLimit
  repeat' first
    | intro _
    | with_reducible assumption
    | with_reducible exact Keep.refl _ _
    | (extract_lets +onlyGivenNames vv; have hv : Keep 0x30091083089fd5c2266 s vv; unfold vv; clear vv; rotate_left; try clear_value vv; rotate_left)
    | (extract_lets +onlyGivenNames vv; clear_value vv)
    | extract_lets +onlyGivenNames vv
    | with_reducible refine keep_ite ?_ ?_
    | with_reducible apply Keep.step (keep_faultUp _ _ _ _)
    | with_reducible apply Keep.step (keep_setWhisk _ _ _)
    | with_reducible apply Keep.step (keep_until _ _)
    | exact rfl
    | with_reducible refine keepr_next ?_
    | with_reducible exact keepr_fault
    | with_reducible refine keepr_ite ?_ ?_
    | with_reducible refine keep_foldl (fun _ _ _ => ?_) _ ?_
    | with_reducible exact cellsWf_filter _ (by assumption) _
    | with_reducible exact cellsWf_cellSet _ (by assumption) _ _
    | with_reducible refine keep_snd (by with_reducible assumption) ?_
    | with_reducible refine keep_fst (by with_reducible assumption) ?_
    | split

theorem keep_execWhiskDwellEnd (w : Fin 32) (read : Fin 256) (s : State) : KeepR 0x300110800887c1c2046 s (execWhiskDwellEnd w read s) := by
  unfold execWhiskDwellEnd
  repeat' first
    | intro _
    | with_reducible assumption
    | with_reducible exact Keep.refl _ _
    | (extract_lets +onlyGivenNames vv; have hv : Keep 0x300110800887c1c2046 s vv; unfold vv; clear vv; rotate_left; try clear_value vv; rotate_left)
    | (extract_lets +onlyGivenNames vv; clear_value vv)
    | extract_lets +onlyGivenNames vv
    | with_reducible refine keep_ite ?_ ?_
    | with_reducible apply Keep.step (keep_until _ _)
    | with_reducible apply Keep.step (keep_whiskTo _ _ _)
    | exact rfl
    | with_reducible refine keepr_next ?_
    | with_reducible exact keepr_fault
    | with_reducible refine keepr_ite ?_ ?_

theorem keep_whiskGo (s : State) (w : Nat) : Keep 0x32011081008fc1c2160 s (State.whiskGo s w) := by
  unfold State.whiskGo
  repeat' first
    | intro _
    | with_reducible assumption
    | with_reducible exact Keep.refl _ _
    | (extract_lets +onlyGivenNames vv; have hv : Keep 0x32011081008fc1c2160 s vv; unfold vv; clear vv; rotate_left; try clear_value vv; rotate_left)
    | (extract_lets +onlyGivenNames vv; clear_value vv)
    | extract_lets +onlyGivenNames vv
    | with_reducible refine keep_ite ?_ ?_
    | with_reducible apply Keep.step (keep_panAsk _ _)
    | with_reducible apply Keep.step (keep_whiskLines _ _)
    | with_reducible apply Keep.step (keep_whiskRestart _ _)
    | with_reducible apply Keep.step (keep_whiskSafe _ _)
    | with_reducible apply Keep.step (keep_whiskTo _ _ _)
    | exact rfl

theorem keep_execWhiskStart (wr : Writer) (w : Fin 32) (s : State) : KeepR 0xb2091881008fc5c27e0 s (execWhiskStart wr w s) := by
  unfold execWhiskStart
  repeat' first
    | intro _
    | with_reducible assumption
    | with_reducible exact Keep.refl _ _
    | (extract_lets +onlyGivenNames vv; clear_value vv)
    | extract_lets +onlyGivenNames vv
    | with_reducible refine keep_ite ?_ ?_
    | with_reducible apply Keep.step (keep_whiskGo _ _)
    | with_reducible apply Keep.step (n := 0xb2091881008fc5c27e0) (keep_write _ _ _ _ _ _ ?_ ?_)
    | with_reducible apply Keep.step (keep_id _)
    | exact rfl
    | with_reducible refine keepr_next ?_

theorem keep_execWhiskHalt (wr : Writer) (w : Fin 32) (s : State) : KeepR 0xb0091880008fc5c26c0 s (execWhiskHalt wr w s) := by
  unfold execWhiskHalt
  try dsimp only
  repeat' first
    | intro _
    | with_reducible assumption
    | with_reducible exact Keep.refl _ _
    | with_reducible refine keep_ite ?_ ?_
    | with_reducible apply Keep.step (keep_setLive _ _ _)
    | with_reducible apply Keep.step (keep_whiskTo _ _ _)
    | with_reducible apply Keep.step (n := 0xb0091880008fc5c26c0) (keep_write _ _ _ _ _ _ ?_ ?_)
    | with_reducible apply Keep.step (keep_id _)
    | exact rfl
    | with_reducible refine keepr_next ?_

theorem keep_execWhiskResume (wr : Writer) (w : Fin 32) (s : State) : KeepR 0xb20918800087c5c26c0 s (execWhiskResume wr w s) := by
  unfold execWhiskResume
  repeat' first
    | intro _
    | with_reducible assumption
    | with_reducible exact Keep.refl _ _
    | (extract_lets +onlyGivenNames vv; clear_value vv)
    | extract_lets +onlyGivenNames vv
    | with_reducible refine keep_ite ?_ ?_
    | with_reducible apply Keep.step (keep_panAsk _ _)
    | with_reducible apply Keep.step (keep_whiskTo _ _ _)
    | with_reducible apply Keep.step (n := 0xb20918800087c5c26c0) (keep_write _ _ _ _ _ _ ?_ ?_)
    | with_reducible apply Keep.step (keep_id _)
    | exact rfl
    | with_reducible refine keepr_next ?_

theorem keep_execWhiskRestart (wr : Writer) (w : Fin 32) (s : State) : KeepR 0xb2091881008fc5c27e0 s (execWhiskRestart wr w s) := by
  unfold execWhiskRestart
  try dsimp only
  repeat' first
    | intro _
    | with_reducible assumption
    | with_reducible exact Keep.refl _ _
    | with_reducible refine keep_ite ?_ ?_
    | with_reducible apply Keep.step (keep_setLive _ _ _)
    | with_reducible apply Keep.step (keep_whiskGo _ _)
    | with_reducible apply Keep.step (n := 0xb2091881008fc5c27e0) (keep_write _ _ _ _ _ _ ?_ ?_)
    | with_reducible apply Keep.step (keep_id _)
    | exact rfl
    | with_reducible refine keepr_next ?_

theorem keep_whiskIdle (s : State) (w : Nat) : Keep 0x30011081008fc1c2160 s (State.whiskIdle s w) := by
  unfold State.whiskIdle
  repeat' first
    | intro _
    | with_reducible assumption
    | with_reducible exact Keep.refl _ _
    | (extract_lets +onlyGivenNames vv; have hv : Keep 0x30011081008fc1c2160 s vv; unfold vv; clear vv; rotate_left; try clear_value vv; rotate_left)
    | (extract_lets +onlyGivenNames vv; clear_value vv)
    | extract_lets +onlyGivenNames vv
    | with_reducible refine keep_ite ?_ ?_
    | with_reducible apply Keep.step (keep_setWhisk _ _ _)
    | with_reducible apply Keep.step (keep_whiskLines _ _)
    | with_reducible apply Keep.step (keep_whiskTo _ _ _)
    | exact rfl

theorem keep_execWhiskStop (wr : Writer) (w : Fin 32) (s : State) : KeepR 0xb0091881008fc5c27e0 s (execWhiskStop wr w s) := by
  unfold execWhiskStop
  repeat' first
    | intro _
    | with_reducible assumption
    | with_reducible exact Keep.refl _ _
    | (extract_lets +onlyGivenNames vv; clear_value vv)
    | extract_lets +onlyGivenNames vv
    | with_reducible refine keep_ite ?_ ?_
    | with_reducible apply Keep.step (keep_setLive _ _ _)
    | with_reducible apply Keep.step (keep_whiskIdle _ _)
    | with_reducible apply Keep.step (n := 0xb0091881008fc5c27e0) (keep_write _ _ _ _ _ _ ?_ ?_)
    | with_reducible apply Keep.step (keep_id _)
    | exact rfl
    | with_reducible refine keepr_next ?_

theorem keep_whiskActive (s : State) (w : Nat) : Keep 0x30011081008fc1c2160 s (State.whiskActive s w) := by
  unfold State.whiskActive
  repeat' first
    | intro _
    | with_reducible assumption
    | with_reducible exact Keep.refl _ _
    | (extract_lets +onlyGivenNames vv; clear_value vv)
    | extract_lets +onlyGivenNames vv
    | with_reducible refine keep_ite ?_ ?_
    | with_reducible apply Keep.step (keep_whiskLines _ _)
    | with_reducible apply Keep.step (keep_whiskRestart _ _)
    | exact rfl

theorem keep_whiskStandby (s : State) (w : Nat) : Keep 0x300110800087c1c2040 s (State.whiskStandby s w) := by
  unfold State.whiskStandby
  repeat' first
    | intro _
    | with_reducible assumption
    | with_reducible exact Keep.refl _ _
    | (extract_lets +onlyGivenNames vv; clear_value vv)
    | extract_lets +onlyGivenNames vv
    | with_reducible refine keep_ite ?_ ?_
    | with_reducible apply Keep.step (keep_whiskTo _ _ _)
    | exact rfl

theorem keep_whisksAutostart (s : State) : Keep 0x32011081008fc1c2160 s (State.whisksAutostart s) := by
  unfold State.whisksAutostart
  repeat' first
    | intro _
    | with_reducible assumption
    | with_reducible exact Keep.refl _ _
    | (extract_lets +onlyGivenNames vv; clear_value vv)
    | extract_lets +onlyGivenNames vv
    | with_reducible refine keep_ite ?_ ?_
    | with_reducible apply Keep.step (keep_whiskGo _ _)
    | exact rfl
    | with_reducible refine keep_foldl (fun _ _ _ => ?_) _ ?_

end Sys2Proof.Machine
end

