-- ==== Sys2Proof/Laws/KeepTimers.lean ====
section
/-! SUPPORT. What each operation and each command of `Machine/Timers.lean` keeps: the parts of the state outside its mask, and
the invariant. -/

namespace Sys2Proof.Machine
open Sys2Proof

theorem keep_setNext (s : State) (u : Nat) (t : Int) : Keep 0x20 s (State.setNext s u t) := by
  unfold State.setNext
  repeat' first
    | intro _
    | with_reducible assumption
    | with_reducible exact Keep.refl _ _
    | (extract_lets +onlyGivenNames vv; clear_value vv)
    | extract_lets +onlyGivenNames vv
    | with_reducible refine keep_ite ?_ ?_
    | with_reducible apply Keep.step (keep_setReg _ _ _)
    | exact rfl

theorem keep_execArmRecordWrite (w : Writer) (u : Fin 64) (record : Nat) (s : State) : KeepR 0xb0090800108005c26e0 s (execArmRecordWrite w u record s) := by
  unfold execArmRecordWrite
  try dsimp only
  repeat' first
    | intro _
    | with_reducible assumption
    | with_reducible exact Keep.refl _ _
    | with_reducible refine keep_ite ?_ ?_
    | with_reducible apply Keep.step (keep_setNext _ _ _)
    | with_reducible apply Keep.step (keep_setReg _ _ _)
    | with_reducible apply Keep.step (keep_setTimer _ _ _)
    | with_reducible apply Keep.step (keep_store _ _ _)
    | with_reducible apply Keep.step (n := 0xb0090800108005c26e0) (keep_write _ _ _ _ _ _ ?_ ?_)
    | with_reducible apply Keep.step (keep_id _)
    | exact rfl
    | with_reducible refine keepr_next ?_

theorem keep_timerStop (s : State) (u st : Nat) : Keep 0x10000000020 s (State.timerStop s u st) := by
  unfold State.timerStop
  repeat' first
    | intro _
    | with_reducible assumption
    | with_reducible exact Keep.refl _ _
    | (extract_lets +onlyGivenNames vv; clear_value vv)
    | extract_lets +onlyGivenNames vv
    | with_reducible refine keep_ite ?_ ?_
    | with_reducible apply Keep.step (keep_setReg _ _ _)
    | with_reducible apply Keep.step (keep_setTimer _ _ _)
    | exact rfl

theorem keep_execTimerDisarm (w : Writer) (u : Fin 64) (v : Nat) (s : State) : KeepR 0xb0090800108005c26e0 s (execTimerDisarm w u v s) := by
  unfold execTimerDisarm
  try dsimp only
  repeat' first
    | intro _
    | with_reducible assumption
    | with_reducible exact Keep.refl _ _
    | with_reducible refine keep_ite ?_ ?_
    | with_reducible apply Keep.step (n := 0xb0090800108005c26e0) (keep_command _ _ _ _ _ _ ?_ ?_)
    | with_reducible apply Keep.step (keep_setTimer _ _ _)
    | with_reducible apply Keep.step (keep_timerStop _ _ _)
    | with_reducible apply Keep.step (keep_id _)
    | exact rfl
    | with_reducible refine keepr_next ?_

theorem keep_execTimerPrewake (u : Fin 64) (s : State) : KeepR 0x200000000000000000 s (execTimerPrewake u s) := by
  unfold execTimerPrewake
  repeat' first
    | intro _
    | with_reducible assumption
    | with_reducible exact Keep.refl _ _
    | (extract_lets +onlyGivenNames vv; clear_value vv)
    | extract_lets +onlyGivenNames vv
    | with_reducible refine keep_ite ?_ ?_
    | with_reducible apply Keep.step (keep_panWindow _ _ _)
    | exact rfl
    | with_reducible refine keepr_next ?_
    | with_reducible exact keepr_fault
    | with_reducible refine keepr_ite ?_ ?_
    | with_reducible refine keep_foldl (fun _ _ _ => ?_) _ ?_
    | with_reducible exact cellsWf_filter _ (by assumption) _
    | with_reducible exact cellsWf_cellSet _ (by assumption) _ _
    | with_reducible refine keep_snd (by with_reducible assumption) ?_
    | with_reducible refine keep_fst (by with_reducible assumption) ?_
    | split

theorem keep_armDrive (s : State) (r : Nat) (b : Bool) : Keep 0x30011003008fc1c2160 s (State.armDrive s r b) := by
  unfold State.armDrive
  repeat' first
    | intro _
    | with_reducible assumption
    | with_reducible exact Keep.refl _ _
    | (extract_lets +onlyGivenNames vv; clear_value vv)
    | extract_lets +onlyGivenNames vv
    | with_reducible refine keep_ite ?_ ?_
    | with_reducible apply Keep.step (keep_lineDrive _ _ _)
    | with_reducible apply Keep.step (keep_setPx _ _ _)
    | with_reducible apply Keep.step (keep_setReg _ _ _)
    | exact rfl

theorem keep_timerAct (s : State) (u : Nat) (t : Int) : Keep 0x30011083108fc1c2160 s (State.timerAct s u t) := by
  unfold State.timerAct
  repeat' first
    | intro _
    | with_reducible assumption
    | with_reducible exact Keep.refl _ _
    | (extract_lets +onlyGivenNames vv; clear_value vv)
    | extract_lets +onlyGivenNames vv
    | with_reducible refine keep_ite ?_ ?_
    | with_reducible apply Keep.step (keep_armDrive _ _ _)
    | with_reducible apply Keep.step (keep_bump _ _)
    | with_reducible apply Keep.step (keep_raise _ _ _)
    | with_reducible apply Keep.step (keep_setReg _ _ _)
    | with_reducible apply Keep.step (keep_setTimer _ _ _)
    | with_reducible apply Keep.step (keep_setWhisk _ _ _)
    | exact rfl
    | with_reducible refine keep_foldl (fun _ _ _ => ?_) _ ?_
    | with_reducible exact cellsWf_filter _ (by assumption) _
    | with_reducible exact cellsWf_cellSet _ (by assumption) _ _
    | with_reducible refine keep_snd (by with_reducible assumption) ?_
    | with_reducible refine keep_fst (by with_reducible assumption) ?_
    | split

theorem keep_timerGoOn (s : State) (u : Nat) : Keep 0x10000000020 s (State.timerGoOn s u) := by
  unfold State.timerGoOn
  repeat' first
    | intro _
    | with_reducible assumption
    | with_reducible exact Keep.refl _ _
    | (extract_lets +onlyGivenNames vv; clear_value vv)
    | extract_lets +onlyGivenNames vv
    | with_reducible refine keep_ite ?_ ?_
    | with_reducible apply Keep.step (keep_setReg _ _ _)
    | with_reducible apply Keep.step (keep_timerStop _ _ _)
    | exact rfl

theorem keep_execTimerInstant (u : Fin 64) (s : State) : KeepR 0x30091083189fd5c2366 s (execTimerInstant u s) := by
  unfold execTimerInstant
  repeat' first
    | intro _
    | with_reducible assumption
    | with_reducible exact Keep.refl _ _
    | (extract_lets +onlyGivenNames vv; have hv : Keep 0x30091083189fd5c2366 s vv; unfold vv; clear vv; rotate_left; try clear_value vv; rotate_left)
    | (extract_lets +onlyGivenNames vv; clear_value vv)
    | extract_lets +onlyGivenNames vv
    | with_reducible refine keep_ite ?_ ?_
    | with_reducible apply Keep.step (keep_addCount _ _ _)
    | with_reducible apply Keep.step (keep_bump _ _)
    | with_reducible apply Keep.step (keep_occur _ _ _ _)
    | with_reducible apply Keep.step (keep_setNext _ _ _)
    | with_reducible apply Keep.step (keep_setTimer _ _ _)
    | with_reducible apply Keep.step (keep_timerAct _ _ _)
    | with_reducible apply Keep.step (keep_timerGoOn _ _)
    | with_reducible apply Keep.step (keep_untilFtime _ _)
    | exact rfl
    | with_reducible refine keepr_next ?_
    | with_reducible exact keepr_fault
    | with_reducible refine keepr_ite ?_ ?_

theorem keep_execPulseEnd (u : Fin 64) (s : State) : KeepR 0x30011003188fc1c2166 s (execPulseEnd u s) := by
  unfold execPulseEnd
  repeat' first
    | intro _
    | with_reducible assumption
    | with_reducible exact Keep.refl _ _
    | (extract_lets +onlyGivenNames vv; have hv : Keep 0x30011003188fc1c2166 s vv; unfold vv; clear vv; rotate_left; try clear_value vv; rotate_left)
    | (extract_lets +onlyGivenNames vv; clear_value vv)
    | extract_lets +onlyGivenNames vv
    | with_reducible refine keep_ite ?_ ?_
    | with_reducible apply Keep.step (keep_armDrive _ _ _)
    | with_reducible apply Keep.step (keep_bump _ _)
    | with_reducible apply Keep.step (keep_setTimer _ _ _)
    | with_reducible apply Keep.step (keep_timerGoOn _ _)
    | with_reducible apply Keep.step (keep_untilFtime _ _)
    | exact rfl
    | with_reducible refine keepr_next ?_
    | with_reducible exact keepr_fault
    | with_reducible refine keepr_ite ?_ ?_
    | with_reducible refine keep_foldl (fun _ _ _ => ?_) _ ?_
    | with_reducible exact cellsWf_filter _ (by assumption) _
    | with_reducible exact cellsWf_cellSet _ (by assumption) _ _
    | with_reducible refine keep_snd (by with_reducible assumption) ?_
    | with_reducible refine keep_fst (by with_reducible assumption) ?_
    | split

theorem keep_execPxPinEdge (x : Fin 64) (rising : Bool) (s : State) : KeepR 0x30091083609fd5c2260 s (execPxPinEdge x rising s) := by
  unfold execPxPinEdge
  repeat' first
    | intro _
    | with_reducible assumption
    | with_reducible exact Keep.refl _ _
    | (extract_lets +onlyGivenNames vv; have hv : Keep 0x30091083609fd5c2260 s vv; unfold vv; clear vv; rotate_left; try clear_value vv; rotate_left)
    | (extract_lets +onlyGivenNames vv; clear_value vv)
    | extract_lets +onlyGivenNames vv
    | with_reducible refine keep_ite ?_ ?_
    | with_reducible apply Keep.step (keep_bump _ _)
    | with_reducible apply Keep.step (keep_capture1 _ _ _ _ _ _)
    | with_reducible apply Keep.step (keep_setPx _ _ _)
    | exact rfl
    | with_reducible refine keepr_next ?_
    | with_reducible exact keepr_fault
    | with_reducible refine keepr_ite ?_ ?_

theorem keep_execCaptureFlush (w : Writer) (n : Fin 16) (v : Nat) (s : State) : KeepR 0xb0090800408005c26c0 s (execCaptureFlush w n v s) := by
  unfold execCaptureFlush
  repeat' first
    | intro _
    | with_reducible assumption
    | with_reducible exact Keep.refl _ _
    | (extract_lets +onlyGivenNames vv; clear_value vv)
    | extract_lets +onlyGivenNames vv
    | with_reducible refine keep_ite ?_ ?_
    | with_reducible apply Keep.step (n := 0xb0090800408005c26c0) (keep_command _ _ _ _ _ _ ?_ ?_)
    | with_reducible apply Keep.step (keep_setQueue _ _ _ _)
    | with_reducible apply Keep.step (keep_id _)
    | exact rfl
    | with_reducible refine keepr_next ?_

end Sys2Proof.Machine
end

