-- ==== Sys2Proof/Laws/KeepPower.lean ====
section
/-! SUPPORT. What each operation and each command of `Machine/Power.lean` keeps: the parts of the state outside its mask, and
the invariant. -/

namespace Sys2Proof.Machine
open Sys2Proof

theorem keep_execPanDozeEntry (n : Fin 16) (s : State) : KeepR 0x200000008000000026 s (execPanDozeEntry n s) := by
  unfold execPanDozeEntry
  repeat' first
    | intro _
    | with_reducible assumption
    | with_reducible exact Keep.refl _ _
    | (extract_lets +onlyGivenNames vv; have hv : Keep 0x200000008000000026 s vv; unfold vv; clear vv; rotate_left; try clear_value vv; rotate_left)
    | (extract_lets +onlyGivenNames vv; clear_value vv)
    | extract_lets +onlyGivenNames vv
    | with_reducible refine keep_ite ?_ ?_
    | with_reducible apply Keep.step (keep_setPan _ _ _)
    | with_reducible apply Keep.step (keep_setReg _ _ _)
    | with_reducible apply Keep.step (keep_until _ _)
    | exact rfl
    | with_reducible refine keepr_next ?_
    | with_reducible exact keepr_fault
    | with_reducible refine keepr_ite ?_ ?_

theorem keep_execPanDarkEntry (n : Fin 16) (s : State) : KeepR 0x8000000066 s (execPanDarkEntry n s) := by
  unfold execPanDarkEntry
  repeat' first
    | intro _
    | with_reducible assumption
    | with_reducible exact Keep.refl _ _
    | (extract_lets +onlyGivenNames vv; have hv : Keep 0x8000000066 s vv; unfold vv; clear vv; rotate_left; try clear_value vv; rotate_left)
    | (extract_lets +onlyGivenNames vv; clear_value vv)
    | extract_lets +onlyGivenNames vv
    | with_reducible refine keep_ite ?_ ?_
    | with_reducible apply Keep.step (keep_bump _ _)
    | with_reducible apply Keep.step (keep_setReg _ _ _)
    | with_reducible apply Keep.step (keep_until _ _)
    | exact rfl
    | with_reducible refine keepr_next ?_
    | with_reducible exact keepr_fault
    | with_reducible refine keepr_ite ?_ ?_

theorem keep_execPanWake (n : Fin 16) (s : State) : KeepR 0x200000000000000000 s (execPanWake n s) := by
  unfold execPanWake
  repeat' first
    | intro _
    | with_reducible assumption
    | with_reducible exact Keep.refl _ _
    | (extract_lets +onlyGivenNames vv; clear_value vv)
    | extract_lets +onlyGivenNames vv
    | with_reducible refine keep_ite ?_ ?_
    | with_reducible apply Keep.step (keep_panAsk _ _)
    | exact rfl
    | with_reducible refine keepr_next ?_

theorem keep_linesFresh (s : State) (n : Nat) : Keep 0x100000000000 s (State.linesFresh s n) := by
  unfold State.linesFresh
  repeat' first
    | intro _
    | with_reducible assumption
    | with_reducible exact Keep.refl _ _
    | (extract_lets +onlyGivenNames vv; clear_value vv)
    | extract_lets +onlyGivenNames vv
    | with_reducible refine keep_ite ?_ ?_
    | with_reducible apply Keep.step (keep_setLine _ _ _)
    | exact rfl
    | with_reducible refine keep_foldl (fun _ _ _ => ?_) _ ?_

theorem keep_execPanWakeComplete (n : Fin 16) (s : State) : KeepR 0x3209108b689fd5c2266 s (execPanWakeComplete n s) := by
  unfold execPanWakeComplete
  repeat' first
    | intro _
    | with_reducible assumption
    | with_reducible exact Keep.refl _ _
    | (extract_lets +onlyGivenNames vv; have hv : Keep 0x3209108b689fd5c2266 s vv; unfold vv; clear vv; rotate_left; try clear_value vv; rotate_left)
    | (extract_lets +onlyGivenNames vv; clear_value vv)
    | extract_lets +onlyGivenNames vv
    | with_reducible refine keep_ite ?_ ?_
    | with_reducible apply Keep.step (keep_bump _ _)
    | with_reducible apply Keep.step (keep_linesFresh _ _)
    | with_reducible apply Keep.step (keep_linesWake _ _)
    | with_reducible apply Keep.step (keep_pertActed _ _)
    | with_reducible apply Keep.step (keep_setPan _ _ _)
    | with_reducible apply Keep.step (keep_setReg _ _ _)
    | with_reducible apply Keep.step (keep_setRs _ _ _)
    | with_reducible apply Keep.step (keep_until _ _)
    | exact rfl
    | with_reducible refine keepr_next ?_
    | with_reducible exact keepr_fault
    | with_reducible refine keepr_ite ?_ ?_
    | with_reducible refine keep_foldl (fun _ _ _ => ?_) _ ?_
    | with_reducible exact cellsWf_filter _ (by assumption) _
    | with_reducible exact cellsWf_cellSet _ (by assumption) _ _
    | with_reducible refine keep_snd (by with_reducible assumption) ?_
    | with_reducible refine keep_fst (by with_reducible assumption) ?_
    | split

theorem keep_setFuse (s : State) (b : Nat) (f : FuseSt) : Keep 0x400000000000000000 s (State.setFuse s b f) := by
  unfold State.setFuse
  repeat' first
    | intro _
    | with_reducible assumption
    | with_reducible exact Keep.refl _ _
    | (extract_lets +onlyGivenNames vv; clear_value vv)
    | extract_lets +onlyGivenNames vv
    | (simp -zeta only [keepAt_mk]; with_reducible refine keep_mk_fuses ?_ ?_)
    | with_reducible refine keep_ite ?_ ?_
    | exact rfl

theorem keep_fuseSync (s : State) (b : Nat) : Keep 0x400000000000000020 s (State.fuseSync s b) := by
  unfold State.fuseSync
  repeat' first
    | intro _
    | with_reducible assumption
    | with_reducible exact Keep.refl _ _
    | (extract_lets +onlyGivenNames vv; clear_value vv)
    | extract_lets +onlyGivenNames vv
    | with_reducible refine keep_ite ?_ ?_
    | with_reducible apply Keep.step (keep_setFuse _ _ _)
    | with_reducible apply Keep.step (keep_setReg _ _ _)
    | exact rfl

theorem keep_fuseLive (s : State) (n : Nat) : Keep 0x30011000008fc1c2040 s (State.fuseLive s n) := by
  unfold State.fuseLive
  repeat' first
    | intro _
    | with_reducible assumption
    | with_reducible exact Keep.refl _ _
    | (extract_lets +onlyGivenNames vv; clear_value vv)
    | extract_lets +onlyGivenNames vv
    | with_reducible refine keep_ite ?_ ?_
    | with_reducible apply Keep.step (keep_setLive _ _ _)
    | exact rfl

theorem keep_fuseReport (s : State) (b kind : Nat) : Keep 0x30091083009fd5c2260 s (State.fuseReport s b kind) := by
  unfold State.fuseReport
  repeat' first
    | intro _
    | with_reducible assumption
    | with_reducible exact Keep.refl _ _
    | (extract_lets +onlyGivenNames vv; clear_value vv)
    | extract_lets +onlyGivenNames vv
    | with_reducible refine keep_ite ?_ ?_
    | with_reducible apply Keep.step (keep_bump _ _)
    | with_reducible apply Keep.step (keep_occur _ _ _ _)
    | with_reducible apply Keep.step (keep_raise _ _ _)
    | with_reducible apply Keep.step (keep_setReg _ _ _)
    | exact rfl

theorem keep_fuseTrip (s : State) (b kind : Nat) : Keep 0x34091083009fd5c2260 s (State.fuseTrip s b kind) := by
  unfold State.fuseTrip
  repeat' first
    | intro _
    | with_reducible assumption
    | with_reducible exact Keep.refl _ _
    | (extract_lets +onlyGivenNames vv; have hv : Keep 0x34091083009fd5c2260 s vv; unfold vv; clear vv; rotate_left; try clear_value vv; rotate_left)
    | (extract_lets +onlyGivenNames vv; clear_value vv)
    | extract_lets +onlyGivenNames vv
    | with_reducible refine keep_ite ?_ ?_
    | with_reducible apply Keep.step (keep_fuseLive _ _)
    | with_reducible apply Keep.step (keep_fuseReport _ _ _)
    | with_reducible apply Keep.step (keep_occur _ _ _ _)
    | with_reducible apply Keep.step (keep_setFuse _ _ _)
    | with_reducible apply Keep.step (keep_setReg _ _ _)
    | exact rfl

theorem keep_fuseShed (s : State) (b : Nat) : Keep 0x34091083009fd5c2260 s (State.fuseShed s b) := by
  unfold State.fuseShed
  repeat' first
    | intro _
    | with_reducible assumption
    | with_reducible exact Keep.refl _ _
    | (extract_lets +onlyGivenNames vv; have hv : Keep 0x34091083009fd5c2260 s vv; unfold vv; clear vv; rotate_left; try clear_value vv; rotate_left)
    | (extract_lets +onlyGivenNames vv; clear_value vv)
    | extract_lets +onlyGivenNames vv
    | with_reducible refine keep_ite ?_ ?_
    | with_reducible apply Keep.step (keep_fuseReport _ _ _)
    | with_reducible apply Keep.step (keep_fuseSync _ _)
    | with_reducible apply Keep.step (keep_setFuse _ _ _)
    | with_reducible apply Keep.step (keep_setReg _ _ _)
    | exact rfl

theorem keep_execBranchFastTrip (b : Fin 64) (s : State) : KeepR 0x34091083009fd5c2260 s (execBranchFastTrip b s) := by
  unfold execBranchFastTrip
  repeat' first
    | intro _
    | with_reducible assumption
    | with_reducible exact Keep.refl _ _
    | (extract_lets +onlyGivenNames vv; have hv : Keep 0x34091083009fd5c2260 s vv; unfold vv; clear vv; rotate_left; try clear_value vv; rotate_left)
    | (extract_lets +onlyGivenNames vv; clear_value vv)
    | extract_lets +onlyGivenNames vv
    | with_reducible refine keep_ite ?_ ?_
    | with_reducible apply Keep.step (keep_fuseSync _ _)
    | with_reducible apply Keep.step (keep_fuseTrip _ _ _)
    | exact rfl
    | with_reducible refine keepr_next ?_

theorem keep_execBranchI2tTrip (b : Fin 64) (s : State) : KeepR 0x34091083009fd5c2260 s (execBranchI2tTrip b s) := by
  unfold execBranchI2tTrip
  repeat' first
    | intro _
    | with_reducible assumption
    | with_reducible exact Keep.refl _ _
    | (extract_lets +onlyGivenNames vv; have hv : Keep 0x34091083009fd5c2260 s vv; unfold vv; clear vv; rotate_left; try clear_value vv; rotate_left)
    | (extract_lets +onlyGivenNames vv; clear_value vv)
    | extract_lets +onlyGivenNames vv
    | with_reducible refine keep_ite ?_ ?_
    | with_reducible apply Keep.step (keep_fuseSync _ _)
    | with_reducible apply Keep.step (keep_fuseTrip _ _ _)
    | exact rfl
    | with_reducible refine keepr_next ?_

theorem keep_execBranchSoaTrip (b : Fin 64) (s : State) : KeepR 0x34091083089fd5c2266 s (execBranchSoaTrip b s) := by
  unfold execBranchSoaTrip
  repeat' first
    | intro _
    | with_reducible assumption
    | with_reducible exact Keep.refl _ _
    | (extract_lets +onlyGivenNames vv; have hv : Keep 0x34091083089fd5c2266 s vv; unfold vv; clear vv; rotate_left; try clear_value vv; rotate_left)
    | (extract_lets +onlyGivenNames vv; clear_value vv)
    | extract_lets +onlyGivenNames vv
    | with_reducible refine keep_ite ?_ ?_
    | with_reducible apply Keep.step (keep_fuseSync _ _)
    | with_reducible apply Keep.step (keep_fuseTrip _ _ _)
    | with_reducible apply Keep.step (keep_until _ _)
    | exact rfl
    | with_reducible refine keepr_next ?_
    | with_reducible exact keepr_fault
    | with_reducible refine keepr_ite ?_ ?_

theorem keep_execBranchGateTrip (b : Fin 64) (s : State) : KeepR 0x34091083009fd5c2260 s (execBranchGateTrip b s) := by
  unfold execBranchGateTrip
  repeat' first
    | intro _
    | with_reducible assumption
    | with_reducible exact Keep.refl _ _
    | (extract_lets +onlyGivenNames vv; have hv : Keep 0x34091083009fd5c2260 s vv; unfold vv; clear vv; rotate_left; try clear_value vv; rotate_left)
    | (extract_lets +onlyGivenNames vv; clear_value vv)
    | extract_lets +onlyGivenNames vv
    | with_reducible refine keep_ite ?_ ?_
    | with_reducible apply Keep.step (keep_fuseSync _ _)
    | with_reducible apply Keep.step (keep_fuseTrip _ _ _)
    | exact rfl
    | with_reducible refine keepr_next ?_

theorem keep_execBranchPeerTrip (b : Fin 64) (s : State) : KeepR 0x34091083009fd5c2260 s (execBranchPeerTrip b s) := by
  unfold execBranchPeerTrip
  repeat' first
    | intro _
    | with_reducible assumption
    | with_reducible exact Keep.refl _ _
    | (extract_lets +onlyGivenNames vv; have hv : Keep 0x34091083009fd5c2260 s vv; unfold vv; clear vv; rotate_left; try clear_value vv; rotate_left)
    | (extract_lets +onlyGivenNames vv; clear_value vv)
    | extract_lets +onlyGivenNames vv
    | with_reducible refine keep_ite ?_ ?_
    | with_reducible apply Keep.step (keep_fuseSync _ _)
    | with_reducible apply Keep.step (keep_fuseTrip _ _ _)
    | exact rfl
    | with_reducible refine keepr_next ?_

theorem keep_execBranchRampComplete (b : Fin 64) (s : State) : KeepR 0x400000000000000020 s (execBranchRampComplete b s) := by
  unfold execBranchRampComplete
  repeat' first
    | intro _
    | with_reducible assumption
    | with_reducible exact Keep.refl _ _
    | (extract_lets +onlyGivenNames vv; have hv : Keep 0x400000000000000020 s vv; unfold vv; clear vv; rotate_left; try clear_value vv; rotate_left)
    | (extract_lets +onlyGivenNames vv; clear_value vv)
    | extract_lets +onlyGivenNames vv
    | with_reducible refine keep_ite ?_ ?_
    | with_reducible apply Keep.step (keep_fuseSync _ _)
    | with_reducible apply Keep.step (keep_setFuse _ _ _)
    | with_reducible apply Keep.step (keep_setReg _ _ _)
    | exact rfl
    | with_reducible refine keepr_next ?_

theorem keep_fuseRetry (s : State) (b : Nat) : Keep 0x400000000000000020 s (State.fuseRetry s b) := by
  unfold State.fuseRetry
  repeat' first
    | intro _
    | with_reducible assumption
    | with_reducible exact Keep.refl _ _
    | (extract_lets +onlyGivenNames vv; clear_value vv)
    | extract_lets +onlyGivenNames vv
    | with_reducible refine keep_ite ?_ ?_
    | with_reducible apply Keep.step (keep_fuseSync _ _)
    | with_reducible apply Keep.step (keep_setFuse _ _ _)
    | with_reducible apply Keep.step (keep_setReg _ _ _)
    | exact rfl

theorem keep_execBranchBackoffExpiry (b : Fin 64) (s : State) : KeepR 0x400000008000000026 s (execBranchBackoffExpiry b s) := by
  unfold execBranchBackoffExpiry
  repeat' first
    | intro _
    | with_reducible assumption
    | with_reducible exact Keep.refl _ _
    | (extract_lets +onlyGivenNames vv; have hv : Keep 0x400000008000000026 s vv; unfold vv; clear vv; rotate_left; try clear_value vv; rotate_left)
    | (extract_lets +onlyGivenNames vv; clear_value vv)
    | extract_lets +onlyGivenNames vv
    | with_reducible refine keep_ite ?_ ?_
    | with_reducible apply Keep.step (keep_fuseRetry _ _)
    | with_reducible apply Keep.step (keep_until _ _)
    | exact rfl
    | with_reducible refine keepr_next ?_
    | with_reducible exact keepr_fault
    | with_reducible refine keepr_ite ?_ ?_

theorem keep_execI2tHalfLevelReached (b : Fin 64) (s : State) : KeepR 0x400000000000000020 s (execI2tHalfLevelReached b s) := by
  unfold execI2tHalfLevelReached
  repeat' first
    | intro _
    | with_reducible assumption
    | with_reducible exact Keep.refl _ _
    | (extract_lets +onlyGivenNames vv; have hv : Keep 0x400000000000000020 s vv; unfold vv; clear vv; rotate_left; try clear_value vv; rotate_left)
    | (extract_lets +onlyGivenNames vv; clear_value vv)
    | extract_lets +onlyGivenNames vv
    | with_reducible refine keep_ite ?_ ?_
    | with_reducible apply Keep.step (keep_fuseRetry _ _)
    | with_reducible apply Keep.step (keep_setFuse _ _ _)
    | exact rfl
    | with_reducible refine keepr_next ?_
    | with_reducible exact keepr_fault
    | with_reducible refine keepr_ite ?_ ?_

theorem keep_execBranchRetryReset (b : Fin 64) (s : State) : KeepR 0x400000008000000026 s (execBranchRetryReset b s) := by
  unfold execBranchRetryReset
  repeat' first
    | intro _
    | with_reducible assumption
    | with_reducible exact Keep.refl _ _
    | (extract_lets +onlyGivenNames vv; have hv : Keep 0x400000008000000026 s vv; unfold vv; clear vv; rotate_left; try clear_value vv; rotate_left)
    | (extract_lets +onlyGivenNames vv; clear_value vv)
    | extract_lets +onlyGivenNames vv
    | with_reducible refine keep_ite ?_ ?_
    | with_reducible apply Keep.step (keep_fuseSync _ _)
    | with_reducible apply Keep.step (keep_setFuse _ _ _)
    | with_reducible apply Keep.step (keep_until _ _)
    | exact rfl
    | with_reducible refine keepr_next ?_
    | with_reducible exact keepr_fault
    | with_reducible refine keepr_ite ?_ ?_

theorem keep_execBranchClear (w : Writer) (b : Fin 64) (v : Nat) (s : State) : KeepR 0xb4091800008fc5c26e0 s (execBranchClear w b v s) := by
  unfold execBranchClear
  try dsimp only
  repeat' first
    | intro _
    | with_reducible assumption
    | with_reducible exact Keep.refl _ _
    | with_reducible refine keep_ite ?_ ?_
    | with_reducible apply Keep.step (n := 0xb4091800008fc5c26e0) (keep_command _ _ _ _ _ _ ?_ ?_)
    | with_reducible apply Keep.step (keep_fuseLive _ _)
    | with_reducible apply Keep.step (keep_fuseSync _ _)
    | with_reducible apply Keep.step (keep_setFuse _ _ _)
    | with_reducible apply Keep.step (keep_setReg _ _ _)
    | with_reducible apply Keep.step (keep_id _)
    | exact rfl
    | with_reducible refine keepr_next ?_

theorem keep_execBranchEnableWrite (w : Writer) (b : Fin 64) (v : Nat) (s : State) : KeepR 0xb4090800008005c26e0 s (execBranchEnableWrite w b v s) := by
  unfold execBranchEnableWrite
  try dsimp only
  repeat' first
    | intro _
    | with_reducible assumption
    | with_reducible exact Keep.refl _ _
    | with_reducible refine keep_ite ?_ ?_
    | with_reducible apply Keep.step (keep_fuseSync _ _)
    | with_reducible apply Keep.step (keep_store _ _ _)
    | with_reducible apply Keep.step (n := 0xb4090800008005c26e0) (keep_write _ _ _ _ _ _ ?_ ?_)
    | with_reducible apply Keep.step (keep_id _)
    | exact rfl
    | with_reducible refine keepr_next ?_

theorem keep_fuseWord (s : State) (b v : Nat) : Keep 0x400000000000000020 s (State.fuseWord s b v) := by
  unfold State.fuseWord
  repeat' first
    | intro _
    | with_reducible assumption
    | with_reducible exact Keep.refl _ _
    | (extract_lets +onlyGivenNames vv; clear_value vv)
    | extract_lets +onlyGivenNames vv
    | with_reducible refine keep_ite ?_ ?_
    | with_reducible apply Keep.step (keep_fuseSync _ _)
    | with_reducible apply Keep.step (keep_setFuse _ _ _)
    | exact rfl

theorem keep_execBranchCommandWrite (w : Writer) (b : Fin 64) (v : Nat) (s : State) : KeepR 0xb4090800008005c26e0 s (execBranchCommandWrite w b v s) := by
  unfold execBranchCommandWrite
  try dsimp only
  repeat' first
    | intro _
    | with_reducible assumption
    | with_reducible exact Keep.refl _ _
    | with_reducible refine keep_ite ?_ ?_
    | with_reducible apply Keep.step (keep_fuseWord _ _ _)
    | with_reducible apply Keep.step (keep_store _ _ _)
    | with_reducible apply Keep.step (n := 0xb4090800008005c26e0) (keep_write _ _ _ _ _ _ ?_ ?_)
    | with_reducible apply Keep.step (keep_id _)
    | exact rfl
    | with_reducible refine keepr_next ?_

end Sys2Proof.Machine
end

