-- ==== Sys2Proof/Laws/KeepSwitch.lean ====
section
/-! SUPPORT. What each operation and each command of `Machine/Switch.lean` keeps: the parts of the state outside its mask, and
the invariant. -/

namespace Sys2Proof.Machine
open Sys2Proof

theorem keep_coreTouch (s : State) : Keep 0x800000000000000060 s (State.coreTouch s) := by
  unfold State.coreTouch
  repeat' first
    | intro _
    | with_reducible assumption
    | with_reducible exact Keep.refl _ _
    | (extract_lets +onlyGivenNames vv; have hv : Keep 0x800000000000000060 s vv; unfold vv; clear vv; rotate_left; try clear_value vv; rotate_left)
    | (extract_lets +onlyGivenNames vv; clear_value vv)
    | extract_lets +onlyGivenNames vv
    | (simp -zeta only [keepAt_mk]; with_reducible refine keep_mk_power ?_ ?_)
    | with_reducible refine keep_ite ?_ ?_
    | with_reducible apply Keep.step (keep_bump _ _)
    | with_reducible apply Keep.step (keep_setReg _ _ _)
    | exact rfl

theorem keep_setSwq (s : State) (q : Nat) (x : SwQ) : Keep 0x10000000000000 s (State.setSwq s q x) := by
  unfold State.setSwq
  repeat' first
    | intro _
    | with_reducible assumption
    | with_reducible exact Keep.refl _ _
    | (extract_lets +onlyGivenNames vv; clear_value vv)
    | extract_lets +onlyGivenNames vv
    | (simp -zeta only [keepAt_mk]; with_reducible refine keep_mk_sw ?_ ?_)
    | with_reducible refine keep_ite ?_ ?_
    | exact rfl

theorem keep_highwater (s : State) : Keep 0x20 s (State.highwater s) := by
  unfold State.highwater
  repeat' first
    | intro _
    | with_reducible assumption
    | with_reducible exact Keep.refl _ _
    | (extract_lets +onlyGivenNames vv; clear_value vv)
    | extract_lets +onlyGivenNames vv
    | with_reducible refine keep_ite ?_ ?_
    | with_reducible apply Keep.step (keep_setReg _ _ _)
    | exact rfl

theorem keep_sampleOne (s : State) (i : Nat) (c : SwCopy) (port drop : Nat) : Keep 0x10000000000040 s (State.sampleOne s i c port drop) := by
  unfold State.sampleOne
  repeat' first
    | intro _
    | with_reducible assumption
    | with_reducible exact Keep.refl _ _
    | (extract_lets +onlyGivenNames vv; have hv : Keep 0x10000000000040 s vv; unfold vv; clear vv; rotate_left; try clear_value vv; rotate_left)
    | (extract_lets +onlyGivenNames vv; clear_value vv)
    | extract_lets +onlyGivenNames vv
    | (simp -zeta only [keepAt_mk]; with_reducible refine keep_mk_sw ?_ ?_)
    | with_reducible refine keep_ite ?_ ?_
    | with_reducible apply Keep.step (keep_bump _ _)
    | exact rfl

theorem keep_sample (s : State) (kind num port drop : Nat) (c : SwCopy) : Keep 0x10000000000040 s (State.sample s kind num port drop c) := by
  unfold State.sample
  repeat' first
    | intro _
    | with_reducible assumption
    | with_reducible exact Keep.refl _ _
    | (extract_lets +onlyGivenNames vv; clear_value vv)
    | extract_lets +onlyGivenNames vv
    | with_reducible refine keep_ite ?_ ?_
    | with_reducible apply Keep.step (keep_sampleOne _ _ _ _ _)
    | exact rfl
    | with_reducible refine keep_foldl (fun _ _ _ => ?_) _ ?_

theorem keep_dropSeen (s : State) (p reason : Nat) (c : SwCopy) : Keep 0x10000000000040 s (State.dropSeen s p reason c) := by
  unfold State.dropSeen
  repeat' first
    | intro _
    | with_reducible assumption
    | with_reducible exact Keep.refl _ _
    | (extract_lets +onlyGivenNames vv; have hv : Keep 0x10000000000040 s vv; unfold vv; clear vv; rotate_left; try clear_value vv; rotate_left)
    | (extract_lets +onlyGivenNames vv; clear_value vv)
    | extract_lets +onlyGivenNames vv
    | with_reducible refine keep_ite ?_ ?_
    | with_reducible apply Keep.step (keep_bump _ _)
    | with_reducible apply Keep.step (keep_sample _ _ _ _ _ _)
    | exact rfl

theorem keep_swDrop (s : State) (p reason : Nat) (c : SwCopy) : Keep 0x30091183009fd5c2260 s (State.swDrop s p reason c) := by
  unfold State.swDrop
  repeat' first
    | intro _
    | with_reducible assumption
    | with_reducible exact Keep.refl _ _
    | (extract_lets +onlyGivenNames vv; have hv : Keep 0x30091183009fd5c2260 s vv; unfold vv; clear vv; rotate_left; try clear_value vv; rotate_left)
    | (extract_lets +onlyGivenNames vv; clear_value vv)
    | extract_lets +onlyGivenNames vv
    | with_reducible refine keep_ite ?_ ?_
    | with_reducible apply Keep.step (keep_bump _ _)
    | with_reducible apply Keep.step (keep_dropSeen _ _ _ _)
    | with_reducible apply Keep.step (keep_occur _ _ _ _)
    | with_reducible apply Keep.step (keep_setSwq _ _ _)
    | exact rfl

theorem keep_writePage (s : State) (q : Nat) : Keep 0x10000000000040 s (State.writePage s q) := by
  unfold State.writePage
  repeat' first
    | intro _
    | with_reducible assumption
    | with_reducible exact Keep.refl _ _
    | (extract_lets +onlyGivenNames vv; clear_value vv)
    | extract_lets +onlyGivenNames vv
    | with_reducible refine keep_ite ?_ ?_
    | with_reducible apply Keep.step (keep_bump _ _)
    | with_reducible apply Keep.step (keep_setSwq _ _ _)
    | exact rfl

theorem keep_spillCopy (s : State) (q : Nat) (c : SwCopy) : Keep 0x10000000000040 s (State.spillCopy s q c).2 := by
  unfold State.spillCopy
  repeat' first
    | intro _
    | with_reducible assumption
    | with_reducible exact Keep.refl _ _
    | (extract_lets +onlyGivenNames vv; have hv : Keep 0x10000000000040 s vv; unfold vv; clear vv; rotate_left; try clear_value vv; rotate_left)
    | (extract_lets +onlyGivenNames vv; clear_value vv)
    | extract_lets +onlyGivenNames vv
    | with_reducible refine keep_ite ?_ ?_
    | with_reducible apply Keep.step (keep_setSwq _ _ _)
    | with_reducible apply Keep.step (keep_writePage _ _)
    | exact rfl
    | with_reducible refine keep_foldl (fun _ _ _ => ?_) _ ?_
    | with_reducible exact cellsWf_filter _ (by assumption) _
    | with_reducible exact cellsWf_cellSet _ (by assumption) _ _
    | with_reducible refine keep_snd (by with_reducible assumption) ?_
    | with_reducible refine keep_fst (by with_reducible assumption) ?_
    | split

theorem keep_tryAdmit (s : State) (p : Nat) (c : SwCopy) : Keep 0x10000000000040 s (State.tryAdmit s p c).2 := by
  unfold State.tryAdmit
  repeat' first
    | intro _
    | with_reducible assumption
    | with_reducible exact Keep.refl _ _
    | (extract_lets +onlyGivenNames vv; clear_value vv)
    | extract_lets +onlyGivenNames vv
    | with_reducible refine keep_ite ?_ ?_
    | with_reducible apply Keep.step (keep_setSwq _ _ _)
    | with_reducible apply Keep.step (keep_spillCopy _ _ _)
    | exact rfl
    | with_reducible refine keep_foldl (fun _ _ _ => ?_) _ ?_
    | with_reducible exact cellsWf_filter _ (by assumption) _
    | with_reducible exact cellsWf_cellSet _ (by assumption) _ _
    | with_reducible refine keep_snd (by with_reducible assumption) ?_
    | with_reducible refine keep_fst (by with_reducible assumption) ?_
    | split

theorem keep_admitted (s : State) (c : SwCopy) (p : Nat) : Keep 0x10000000000060 s (State.admitted s c p) := by
  unfold State.admitted
  repeat' first
    | intro _
    | with_reducible assumption
    | with_reducible exact Keep.refl _ _
    | (extract_lets +onlyGivenNames vv; have hv : Keep 0x10000000000060 s vv; unfold vv; clear vv; rotate_left; try clear_value vv; rotate_left)
    | (extract_lets +onlyGivenNames vv; clear_value vv)
    | extract_lets +onlyGivenNames vv
    | with_reducible refine keep_ite ?_ ?_
    | with_reducible apply Keep.step (keep_bump _ _)
    | with_reducible apply Keep.step (keep_highwater _)
    | with_reducible apply Keep.step (keep_sample _ _ _ _ _ _)
    | exact rfl

theorem keep_swAdmit (s : State) (p : Nat) (c : SwCopy) : Keep 0x30091183009fd5c2260 s (State.swAdmit s p c) := by
  unfold State.swAdmit
  repeat' first
    | intro _
    | with_reducible assumption
    | with_reducible exact Keep.refl _ _
    | (extract_lets +onlyGivenNames vv; clear_value vv)
    | extract_lets +onlyGivenNames vv
    | with_reducible refine keep_ite ?_ ?_
    | with_reducible apply Keep.step (keep_admitted _ _ _)
    | with_reducible apply Keep.step (keep_swDrop _ _ _ _)
    | with_reducible apply Keep.step (keep_tryAdmit _ _ _)
    | exact rfl

theorem keep_offer (s : State) (o : SwOffer) : Keep 0x30091183009fd5c2260 s (State.offer s o) := by
  unfold State.offer
  repeat' first
    | intro _
    | with_reducible assumption
    | with_reducible exact Keep.refl _ _
    | (extract_lets +onlyGivenNames vv; clear_value vv)
    | extract_lets +onlyGivenNames vv
    | (simp -zeta only [keepAt_mk]; with_reducible refine keep_mk_sw ?_ ?_)
    | with_reducible refine keep_ite ?_ ?_
    | with_reducible apply Keep.step (keep_swAdmit _ _ _)
    | exact rfl
    | with_reducible refine keep_foldl (fun _ _ _ => ?_) _ ?_

theorem keep_retryOffers (s : State) : Keep 0x30091183009fd5c2260 s (State.retryOffers s) := by
  unfold State.retryOffers
  repeat' first
    | intro _
    | with_reducible assumption
    | with_reducible exact Keep.refl _ _
    | (extract_lets +onlyGivenNames vv; clear_value vv)
    | extract_lets +onlyGivenNames vv
    | (simp -zeta only [keepAt_mk]; with_reducible refine keep_mk_sw ?_ ?_)
    | with_reducible refine keep_ite ?_ ?_
    | with_reducible apply Keep.step (keep_offer _ _)
    | exact rfl
    | with_reducible refine keep_foldl (fun _ _ _ => ?_) _ ?_

theorem keep_setMeter (s : State) (m : Nat) (x : MeterSt) : Keep 0x10000000000000 s (State.setMeter s m x) := by
  unfold State.setMeter
  repeat' first
    | intro _
    | with_reducible assumption
    | with_reducible exact Keep.refl _ _
    | (extract_lets +onlyGivenNames vv; clear_value vv)
    | extract_lets +onlyGivenNames vv
    | (simp -zeta only [keepAt_mk]; with_reducible refine keep_mk_sw ?_ ?_)
    | with_reducible refine keep_ite ?_ ?_
    | exact rfl

theorem keep_police (s : State) (m bytes : Nat) : Keep 0x10000000000000 s (State.police s m bytes).2 := by
  unfold State.police
  repeat' first
    | intro _
    | with_reducible assumption
    | with_reducible exact Keep.refl _ _
    | (extract_lets +onlyGivenNames vv; clear_value vv)
    | extract_lets +onlyGivenNames vv
    | with_reducible refine keep_ite ?_ ?_
    | with_reducible apply Keep.step (keep_setMeter _ _ _)
    | exact rfl
    | with_reducible refine keep_foldl (fun _ _ _ => ?_) _ ?_
    | with_reducible exact cellsWf_filter _ (by assumption) _
    | with_reducible exact cellsWf_cellSet _ (by assumption) _ _
    | with_reducible refine keep_snd (by with_reducible assumption) ?_
    | with_reducible refine keep_fst (by with_reducible assumption) ?_
    | split

theorem keep_meterReload (s : State) (m : Nat) : Keep 0x10000000000000 s (State.meterReload s m) := by
  unfold State.meterReload
  repeat' first
    | intro _
    | with_reducible assumption
    | with_reducible exact Keep.refl _ _
    | (extract_lets +onlyGivenNames vv; clear_value vv)
    | extract_lets +onlyGivenNames vv
    | with_reducible refine keep_ite ?_ ?_
    | with_reducible apply Keep.step (keep_setMeter _ _ _)
    | exact rfl

theorem keep_execMeterWrite (w : Writer) (m : Fin 256) (v : Nat) (s : State) : KeepR 0xb0490900009005c26e0 s (execMeterWrite w m v s) := by
  unfold execMeterWrite
  try dsimp only
  repeat' first
    | intro _
    | with_reducible assumption
    | with_reducible exact Keep.refl _ _
    | (simp -zeta only [keepAt_mk]; with_reducible refine keep_mk_sw ?_ ?_)
    | with_reducible refine keep_ite ?_ ?_
    | with_reducible apply Keep.step (keep_logRecord _ _ _)
    | with_reducible apply Keep.step (keep_meterReload _ _)
    | with_reducible apply Keep.step (keep_store _ _ _)
    | with_reducible apply Keep.step (keep_unstay _ _ _)
    | with_reducible apply Keep.step (n := 0xb0490900009005c26e0) (keep_write _ _ _ _ _ _ ?_ ?_)
    | with_reducible apply Keep.step (keep_id _)
    | exact rfl
    | with_reducible refine keepr_next ?_

theorem keep_gateCommit (s : State) (g : Nat) (base : Int) : Keep 0x10000000000060 s (State.gateCommit s g base) := by
  unfold State.gateCommit
  repeat' first
    | intro _
    | with_reducible assumption
    | with_reducible exact Keep.refl _ _
    | (extract_lets +onlyGivenNames vv; clear_value vv)
    | extract_lets +onlyGivenNames vv
    | (simp -zeta only [keepAt_mk]; with_reducible refine keep_mk_sw ?_ ?_)
    | with_reducible refine keep_ite ?_ ?_
    | with_reducible apply Keep.step (keep_bump _ _)
    | with_reducible apply Keep.step (keep_setReg _ _ _)
    | exact rfl

theorem keep_execGateCommit (w : Writer) (g : Fin 12) (v : Nat) (s : State) : KeepR 0xb0090900008005c26e0 s (execGateCommit w g v s) := by
  unfold execGateCommit
  repeat' first
    | intro _
    | with_reducible assumption
    | with_reducible exact Keep.refl _ _
    | (extract_lets +onlyGivenNames vv; clear_value vv)
    | extract_lets +onlyGivenNames vv
    | with_reducible refine keep_ite ?_ ?_
    | with_reducible apply Keep.step (n := 0xb0090900008005c26e0) (keep_command _ _ _ _ _ _ ?_ ?_)
    | with_reducible apply Keep.step (keep_gateCommit _ _ _)
    | with_reducible apply Keep.step (keep_id _)
    | exact rfl
    | with_reducible refine keepr_next ?_

theorem keep_gatesAutocommit (s : State) : Keep 0x10000000000060 s (State.gatesAutocommit s) := by
  unfold State.gatesAutocommit
  repeat' first
    | intro _
    | with_reducible assumption
    | with_reducible exact Keep.refl _ _
    | (extract_lets +onlyGivenNames vv; clear_value vv)
    | extract_lets +onlyGivenNames vv
    | (simp -zeta only [keepAt_mk]; with_reducible refine keep_mk_sw ?_ ?_)
    | with_reducible refine keep_ite ?_ ?_
    | with_reducible apply Keep.step (keep_gateCommit _ _ _)
    | exact rfl
    | with_reducible refine keep_foldl (fun _ _ _ => ?_) _ ?_

theorem keep_gateTakeover (s : State) (g : Nat) (p : GatePending) : Keep 0x10000000000020 s (State.gateTakeover s g p) := by
  unfold State.gateTakeover
  repeat' first
    | intro _
    | with_reducible assumption
    | with_reducible exact Keep.refl _ _
    | (extract_lets +onlyGivenNames vv; have hv : Keep 0x10000000000020 s vv; unfold vv; clear vv; rotate_left; try clear_value vv; rotate_left)
    | (extract_lets +onlyGivenNames vv; clear_value vv)
    | extract_lets +onlyGivenNames vv
    | (simp -zeta only [keepAt_mk]; with_reducible refine keep_mk_sw ?_ ?_)
    | with_reducible refine keep_ite ?_ ?_
    | with_reducible apply Keep.step (keep_setReg _ _ _)
    | exact rfl
    | with_reducible refine keep_foldl (fun _ _ _ => ?_) _ ?_

theorem keep_execGateListTakeover (g : Fin 12) (s : State) : KeepR 0x10008000000026 s (execGateListTakeover g s) := by
  unfold execGateListTakeover
  repeat' first
    | intro _
    | with_reducible assumption
    | with_reducible exact Keep.refl _ _
    | (extract_lets +onlyGivenNames vv; clear_value vv)
    | extract_lets +onlyGivenNames vv
    | with_reducible refine keep_ite ?_ ?_
    | with_reducible apply Keep.step (keep_gateTakeover _ _ _)
    | with_reducible apply Keep.step (keep_untilFtime _ _)
    | exact rfl
    | with_reducible refine keepr_next ?_
    | with_reducible exact keepr_fault
    | with_reducible refine keepr_ite ?_ ?_
    | with_reducible refine keep_foldl (fun _ _ _ => ?_) _ ?_
    | with_reducible exact cellsWf_filter _ (by assumption) _
    | with_reducible exact cellsWf_cellSet _ (by assumption) _ _
    | with_reducible refine keep_snd (by with_reducible assumption) ?_
    | with_reducible refine keep_fst (by with_reducible assumption) ?_
    | split

theorem keep_execGateEntryChange (g : Fin 12) (s : State) : KeepR 0x8000000006 s (execGateEntryChange g s) := by
  unfold execGateEntryChange
  repeat' first
    | intro _
    | with_reducible assumption
    | with_reducible exact Keep.refl _ _
    | (extract_lets +onlyGivenNames vv; clear_value vv)
    | extract_lets +onlyGivenNames vv
    | with_reducible refine keep_ite ?_ ?_
    | with_reducible apply Keep.step (keep_untilFtime _ _)
    | exact rfl
    | with_reducible refine keepr_next ?_
    | with_reducible exact keepr_fault
    | with_reducible refine keepr_ite ?_ ?_
    | with_reducible refine keep_foldl (fun _ _ _ => ?_) _ ?_
    | with_reducible exact cellsWf_filter _ (by assumption) _
    | with_reducible exact cellsWf_cellSet _ (by assumption) _ _
    | with_reducible refine keep_snd (by with_reducible assumption) ?_
    | with_reducible refine keep_fst (by with_reducible assumption) ?_
    | split

theorem keep_classified (s : State) (p : Nat) (f : SwFrame) (at_ : Int) (dst : List Nat) (cls : Nat) : Keep 0x10000000000040 s (State.classified s p f at_ dst cls).2 := by
  unfold State.classified
  repeat' first
    | intro _
    | with_reducible assumption
    | with_reducible exact Keep.refl _ _
    | (extract_lets +onlyGivenNames vv; clear_value vv)
    | extract_lets +onlyGivenNames vv
    | with_reducible refine keep_ite ?_ ?_
    | with_reducible apply Keep.step (keep_bump _ _)
    | with_reducible apply Keep.step (keep_dropSeen _ _ _ _)
    | with_reducible apply Keep.step (keep_police _ _ _)
    | with_reducible apply Keep.step (keep_sample _ _ _ _ _ _)
    | exact rfl
    | with_reducible refine keep_foldl (fun _ _ _ => ?_) _ ?_
    | with_reducible exact cellsWf_filter _ (by assumption) _
    | with_reducible exact cellsWf_cellSet _ (by assumption) _ _
    | with_reducible refine keep_snd (by with_reducible assumption) ?_
    | with_reducible refine keep_fst (by with_reducible assumption) ?_
    | split

theorem keep_swReceived (s : State) (p : Nat) : Keep 0x40 s (State.swReceived s p) := by
  unfold State.swReceived
  repeat' first
    | intro _
    | with_reducible assumption
    | with_reducible exact Keep.refl _ _
    | (extract_lets +onlyGivenNames vv; clear_value vv)
    | extract_lets +onlyGivenNames vv
    | with_reducible refine keep_ite ?_ ?_
    | with_reducible apply Keep.step (keep_bump _ _)
    | exact rfl

theorem keep_swNetwork (s : State) (p : Nat) (f : SwFrame) (at_ : Int) (dst : List Nat) (cls : Nat) : Keep 0x30091183009fd5c2260 s (State.swNetwork s p f at_ dst cls) := by
  unfold State.swNetwork
  repeat' first
    | intro _
    | with_reducible assumption
    | with_reducible exact Keep.refl _ _
    | (extract_lets +onlyGivenNames vv; clear_value vv)
    | extract_lets +onlyGivenNames vv
    | with_reducible refine keep_ite ?_ ?_
    | with_reducible apply Keep.step (keep_classified _ _ _ _ _ _)
    | with_reducible apply Keep.step (keep_swAdmit _ _ _)
    | with_reducible apply Keep.step (keep_swReceived _ _)
    | exact rfl
    | with_reducible refine keep_foldl (fun _ _ _ => ?_) _ ?_
    | with_reducible exact cellsWf_filter _ (by assumption) _
    | with_reducible exact cellsWf_cellSet _ (by assumption) _ _
    | with_reducible refine keep_snd (by with_reducible assumption) ?_
    | with_reducible refine keep_fst (by with_reducible assumption) ?_
    | split

theorem keep_swRing (s : State) (a : SwArrival) : Keep 0x30091183009fd5c2260 s (State.swRing s a) := by
  unfold State.swRing
  repeat' first
    | intro _
    | with_reducible assumption
    | with_reducible exact Keep.refl _ _
    | (extract_lets +onlyGivenNames vv; clear_value vv)
    | extract_lets +onlyGivenNames vv
    | with_reducible refine keep_ite ?_ ?_
    | with_reducible apply Keep.step (keep_swNetwork _ _ _ _ _ _)
    | exact rfl

theorem keep_swEdge (s : State) (e : Nat) (f : SwFrame) (symbols : Nat) : Keep 0x30091183009fd5c2260 s (State.swEdge s e f symbols) := by
  unfold State.swEdge
  repeat' first
    | intro _
    | with_reducible assumption
    | with_reducible exact Keep.refl _ _
    | (extract_lets +onlyGivenNames vv; have hv : Keep 0x30091183009fd5c2260 s vv; unfold vv; clear vv; rotate_left; try clear_value vv; rotate_left)
    | (extract_lets +onlyGivenNames vv; clear_value vv)
    | extract_lets +onlyGivenNames vv
    | with_reducible refine keep_ite ?_ ?_
    | with_reducible apply Keep.step (keep_addCount _ _ _)
    | with_reducible apply Keep.step (keep_bump _ _)
    | with_reducible apply Keep.step (keep_swNetwork _ _ _ _ _ _)
    | exact rfl

theorem keep_swNumber (s : State) (f : Frame) : Keep 0xc0000 s (State.swNumber s f).2 := by
  unfold State.swNumber
  repeat' first
    | intro _
    | with_reducible assumption
    | with_reducible exact Keep.refl _ _
    | (extract_lets +onlyGivenNames vv; clear_value vv)
    | extract_lets +onlyGivenNames vv
    | (simp -zeta only [keepAt_mk]; with_reducible refine keep_mk_seqNext_origTimes ?_ ?_)
    | with_reducible refine keep_ite ?_ ?_
    | exact rfl

theorem keep_swOwn (s : State) (p : Nat) (f : SwFrame) (dst : List Nat) (cls : Nat) : Keep 0x30091183009fd5c2260 s (State.swOwn s p f dst cls) := by
  unfold State.swOwn
  repeat' first
    | intro _
    | with_reducible assumption
    | with_reducible exact Keep.refl _ _
    | (extract_lets +onlyGivenNames vv; clear_value vv)
    | extract_lets +onlyGivenNames vv
    | with_reducible refine keep_ite ?_ ?_
    | with_reducible apply Keep.step (keep_classified _ _ _ _ _ _)
    | with_reducible apply Keep.step (keep_offer _ _)
    | with_reducible apply Keep.step (keep_originate _ _)
    | with_reducible apply Keep.step (keep_swNumber _ _)
    | with_reducible apply Keep.step (keep_swReceived _ _)
    | exact rfl
    | with_reducible refine keep_foldl (fun _ _ _ => ?_) _ ?_
    | with_reducible exact cellsWf_filter _ (by assumption) _
    | with_reducible exact cellsWf_cellSet _ (by assumption) _ _
    | with_reducible refine keep_snd (by with_reducible assumption) ?_
    | with_reducible refine keep_fst (by with_reducible assumption) ?_
    | split

theorem keep_execSwitchFrameIngress (i : SwIngress) (s : State) : KeepR 0x38091183009fd5e2260 s (execSwitchFrameIngress i s) := by
  unfold execSwitchFrameIngress
  repeat' first
    | intro _
    | with_reducible assumption
    | with_reducible exact Keep.refl _ _
    | (extract_lets +onlyGivenNames vv; clear_value vv)
    | extract_lets +onlyGivenNames vv
    | (simp -zeta only [keepAt_mk]; with_reducible refine keep_mk_landing_sw ?_ ?_)
    | with_reducible refine keep_ite ?_ ?_
    | with_reducible apply Keep.step (keep_coreTouch _)
    | with_reducible apply Keep.step (keep_swEdge _ _ _ _)
    | with_reducible apply Keep.step (keep_swOwn _ _ _ _ _)
    | with_reducible apply Keep.step (keep_swRing _ _)
    | exact rfl
    | with_reducible refine keepr_next ?_
    | with_reducible exact keepr_fault
    | with_reducible refine keepr_ite ?_ ?_
    | with_reducible refine keep_foldl (fun _ _ _ => ?_) _ ?_
    | with_reducible exact cellsWf_filter _ (by assumption) _
    | with_reducible exact cellsWf_cellSet _ (by assumption) _ _
    | with_reducible refine keep_snd (by with_reducible assumption) ?_
    | with_reducible refine keep_fst (by with_reducible assumption) ?_
    | split

theorem keep_stockpot (s : State) : Keep 0x8000000046 s (State.stockpot s) := by
  unfold State.stockpot
  repeat' first
    | intro _
    | with_reducible assumption
    | with_reducible exact Keep.refl _ _
    | (extract_lets +onlyGivenNames vv; clear_value vv)
    | extract_lets +onlyGivenNames vv
    | with_reducible refine keep_ite ?_ ?_
    | with_reducible apply Keep.step (keep_pertActed _ _)
    | with_reducible apply Keep.step (keep_until _ _)
    | exact rfl
    | with_reducible refine keep_foldl (fun _ _ _ => ?_) _ ?_
    | with_reducible exact cellsWf_filter _ (by assumption) _
    | with_reducible exact cellsWf_cellSet _ (by assumption) _ _
    | with_reducible refine keep_snd (by with_reducible assumption) ?_
    | with_reducible refine keep_fst (by with_reducible assumption) ?_
    | split

theorem keep_execSpillPageTimeout (p : Fin 19) (c : Fin 8) (s : State) : KeepR 0x30091183089fd5c2266 s (execSpillPageTimeout p c s) := by
  unfold execSpillPageTimeout
  repeat' first
    | intro _
    | with_reducible assumption
    | with_reducible exact Keep.refl _ _
    | (extract_lets +onlyGivenNames vv; clear_value vv)
    | extract_lets +onlyGivenNames vv
    | with_reducible refine keep_ite ?_ ?_
    | with_reducible apply Keep.step (keep_retryOffers _)
    | with_reducible apply Keep.step (keep_stockpot _)
    | with_reducible apply Keep.step (keep_until _ _)
    | with_reducible apply Keep.step (keep_writePage _ _)
    | exact rfl
    | with_reducible refine keepr_next ?_

theorem keep_execSpillPageReadback (p : Fin 19) (c : Fin 8) (fixed : Nat) (bad : Bool) (s : State) : KeepR 0x30091183089fd5c2266 s (execSpillPageReadback p c fixed bad s) := by
  unfold execSpillPageReadback
  repeat' first
    | intro _
    | with_reducible assumption
    | with_reducible exact Keep.refl _ _
    | (extract_lets +onlyGivenNames vv; have hv : Keep 0x30091183089fd5c2266 s vv; unfold vv; clear vv; rotate_left; try clear_value vv; rotate_left)
    | (extract_lets +onlyGivenNames vv; clear_value vv)
    | extract_lets +onlyGivenNames vv
    | with_reducible refine keep_ite ?_ ?_
    | with_reducible apply Keep.step (keep_addCount _ _ _)
    | with_reducible apply Keep.step (keep_bump _ _)
    | with_reducible apply Keep.step (keep_highwater _)
    | with_reducible apply Keep.step (keep_occur _ _ _ _)
    | with_reducible apply Keep.step (keep_setSwq _ _ _)
    | with_reducible apply Keep.step (keep_stockpot _)
    | with_reducible apply Keep.step (keep_swDrop _ _ _ _)
    | exact rfl
    | with_reducible refine keepr_next ?_
    | with_reducible exact keepr_fault
    | with_reducible refine keepr_ite ?_ ?_
    | with_reducible refine keep_foldl (fun _ _ _ => ?_) _ ?_
    | with_reducible exact cellsWf_filter _ (by assumption) _
    | with_reducible exact cellsWf_cellSet _ (by assumption) _ _
    | with_reducible refine keep_snd (by with_reducible assumption) ?_
    | with_reducible refine keep_fst (by with_reducible assumption) ?_
    | split

theorem keep_dropTooLong (q : Nat) (n : Nat) : ∀ (s : State), Keep 0x30091183009fd5c2260 s (s.dropTooLong q n) := by
  induction n with
  | zero => intro s; exact Keep.refl _ _
  | succ n ih =>
    intro s
    unfold State.dropTooLong
    split
    · exact Keep.refl _ _
    · split
      · exact Keep.step (ih _) rfl (Keep.step (keep_swDrop _ _ _ _) rfl (Keep.step (keep_bump _ _) rfl
          ((keep_setSwq _ _ _).mono rfl)))
      · exact Keep.refl _ _

theorem keep_shaped (s : State) (q : Nat) (c : SwCopy) : Keep 0x10000000000000 s (State.shaped s q c).2 := by
  unfold State.shaped
  repeat' first
    | intro _
    | with_reducible assumption
    | with_reducible exact Keep.refl _ _
    | (extract_lets +onlyGivenNames vv; clear_value vv)
    | extract_lets +onlyGivenNames vv
    | with_reducible refine keep_ite ?_ ?_
    | with_reducible apply Keep.step (keep_setMeter _ _ _)
    | exact rfl
    | with_reducible refine keep_foldl (fun _ _ _ => ?_) _ ?_
    | with_reducible exact cellsWf_filter _ (by assumption) _
    | with_reducible exact cellsWf_cellSet _ (by assumption) _ _
    | with_reducible refine keep_snd (by with_reducible assumption) ?_
    | with_reducible refine keep_fst (by with_reducible assumption) ?_
    | split

theorem keep_swLeave (s : State) (p : Nat) (c : SwCopy) : Keep 0x10000000402040 s (State.swLeave s p c) := by
  unfold State.swLeave
  repeat' first
    | intro _
    | with_reducible assumption
    | with_reducible exact Keep.refl _ _
    | (extract_lets +onlyGivenNames vv; have hv : Keep 0x10000000402040 s vv; unfold vv; clear vv; rotate_left; try clear_value vv; rotate_left)
    | (extract_lets +onlyGivenNames vv; clear_value vv)
    | extract_lets +onlyGivenNames vv
    | (simp -zeta only [keepAt_mk]; with_reducible refine keep_mk_sw ?_ ?_)
    | with_reducible refine keep_ite ?_ ?_
    | with_reducible apply Keep.step (keep_addCount _ _ _)
    | with_reducible apply Keep.step (keep_bump _ _)
    | with_reducible apply Keep.step (keep_sendCopy _ _ _)
    | with_reducible apply Keep.step (keep_sendTie _ _)
    | exact rfl
    | with_reducible refine keep_foldl (fun _ _ _ => ?_) _ ?_
    | with_reducible exact cellsWf_filter _ (by assumption) _
    | with_reducible exact cellsWf_cellSet _ (by assumption) _ _
    | with_reducible refine keep_snd (by with_reducible assumption) ?_
    | with_reducible refine keep_fst (by with_reducible assumption) ?_
    | split

theorem keep_execEgressFrameStart (p : Fin 19) (fixed : Nat) (bad : Bool) (s : State) : KeepR 0x38091183089fd5c2266 s (execEgressFrameStart p fixed bad s) := by
  unfold execEgressFrameStart
  repeat' first
    | intro _
    | with_reducible assumption
    | with_reducible exact Keep.refl _ _
    | (extract_lets +onlyGivenNames vv; have hv : Keep 0x38091183089fd5c2266 s vv; unfold vv; clear vv; rotate_left; try clear_value vv; rotate_left)
    | (extract_lets +onlyGivenNames vv; clear_value vv)
    | extract_lets +onlyGivenNames vv
    | with_reducible refine keep_ite ?_ ?_
    | with_reducible apply Keep.step (keep_addCount _ _ _)
    | with_reducible apply Keep.step (keep_coreTouch _)
    | with_reducible apply Keep.step (keep_dropTooLong _ _ _)
    | with_reducible apply Keep.step (keep_occur _ _ _ _)
    | with_reducible apply Keep.step (keep_retryOffers _)
    | with_reducible apply Keep.step (keep_sample _ _ _ _ _ _)
    | with_reducible apply Keep.step (keep_setSwq _ _ _)
    | with_reducible apply Keep.step (keep_shaped _ _ _)
    | with_reducible apply Keep.step (keep_swDrop _ _ _ _)
    | with_reducible apply Keep.step (keep_swLeave _ _ _)
    | with_reducible apply Keep.step (keep_until _ _)
    | exact rfl
    | with_reducible refine keepr_next ?_
    | with_reducible exact keepr_fault
    | with_reducible refine keepr_ite ?_ ?_
    | with_reducible refine keep_foldl (fun _ _ _ => ?_) _ ?_
    | with_reducible exact cellsWf_filter _ (by assumption) _
    | with_reducible exact cellsWf_cellSet _ (by assumption) _ _
    | with_reducible refine keep_snd (by with_reducible assumption) ?_
    | with_reducible refine keep_fst (by with_reducible assumption) ?_
    | split

theorem keep_execPortDownFlush (p : Fin 19) (s : State) : KeepR 0x10000000000040 s (execPortDownFlush p s) := by
  unfold execPortDownFlush
  repeat' first
    | intro _
    | with_reducible assumption
    | with_reducible exact Keep.refl _ _
    | (extract_lets +onlyGivenNames vv; clear_value vv)
    | extract_lets +onlyGivenNames vv
    | (simp -zeta only [keepAt_mk]; with_reducible refine keep_mk_sw ?_ ?_)
    | with_reducible refine keep_ite ?_ ?_
    | with_reducible apply Keep.step (keep_bump _ _)
    | exact rfl
    | with_reducible refine keepr_next ?_

theorem keep_flushOne (s : State) (p : Nat) (c : SwCopy) : Keep 0x30091183009fd5c2260 s (State.flushOne s p c) := by
  unfold State.flushOne
  repeat' first
    | intro _
    | with_reducible assumption
    | with_reducible exact Keep.refl _ _
    | (extract_lets +onlyGivenNames vv; have hv : Keep 0x30091183009fd5c2260 s vv; unfold vv; clear vv; rotate_left; try clear_value vv; rotate_left)
    | (extract_lets +onlyGivenNames vv; clear_value vv)
    | extract_lets +onlyGivenNames vv
    | with_reducible refine keep_ite ?_ ?_
    | with_reducible apply Keep.step (keep_addCount _ _ _)
    | with_reducible apply Keep.step (keep_bump _ _)
    | with_reducible apply Keep.step (keep_swDrop _ _ _ _)
    | exact rfl

theorem keep_execPortFlushComplete (p : Fin 19) (s : State) : KeepR 0x30091183009fd5c2260 s (execPortFlushComplete p s) := by
  unfold execPortFlushComplete
  repeat' first
    | intro _
    | with_reducible assumption
    | with_reducible exact Keep.refl _ _
    | (extract_lets +onlyGivenNames vv; have hv : Keep 0x30091183009fd5c2260 s vv; unfold vv; clear vv; rotate_left; try clear_value vv; rotate_left)
    | (extract_lets +onlyGivenNames vv; clear_value vv)
    | extract_lets +onlyGivenNames vv
    | (simp -zeta only [keepAt_mk]; with_reducible refine keep_mk_sw ?_ ?_)
    | with_reducible refine keep_ite ?_ ?_
    | with_reducible apply Keep.step (keep_flushOne _ _ _)
    | with_reducible apply Keep.step (keep_retryOffers _)
    | with_reducible apply Keep.step (keep_setSwq _ _ _)
    | exact rfl
    | with_reducible refine keepr_next ?_
    | with_reducible exact keepr_fault
    | with_reducible refine keepr_ite ?_ ?_
    | with_reducible refine keep_foldl (fun _ _ _ => ?_) _ ?_

theorem keep_execSamplerEnableWrite (w : Writer) (i : Fin 8) (v : Nat) (s : State) : KeepR 0xb0090900008005c26e0 s (execSamplerEnableWrite w i v s) := by
  unfold execSamplerEnableWrite
  try dsimp only
  repeat' first
    | intro _
    | with_reducible assumption
    | with_reducible exact Keep.refl _ _
    | (simp -zeta only [keepAt_mk]; with_reducible refine keep_mk_sw ?_ ?_)
    | with_reducible refine keep_ite ?_ ?_
    | with_reducible apply Keep.step (keep_store _ _ _)
    | with_reducible apply Keep.step (n := 0xb0090900008005c26e0) (keep_write _ _ _ _ _ _ ?_ ?_)
    | with_reducible apply Keep.step (keep_id _)
    | exact rfl
    | with_reducible refine keepr_next ?_

theorem keep_clearRange (s : State) (lo hi : Nat) : Keep 0x40 s (State.clearRange s lo hi) := by
  unfold State.clearRange
  repeat' first
    | intro _
    | with_reducible assumption
    | with_reducible exact Keep.refl _ _
    | (extract_lets +onlyGivenNames vv; clear_value vv)
    | extract_lets +onlyGivenNames vv
    | (simp -zeta only [keepAt_mk]; with_reducible refine keep_mk_cnt ?_ ?_ ?_)
    | with_reducible refine keep_ite ?_ ?_
    | exact rfl
    | with_reducible refine keep_foldl (fun _ _ _ => ?_) _ ?_
    | with_reducible exact cellsWf_filter _ (by assumption) _

theorem keep_clearTunnelCounts (s : State) : Keep 0x10000000000000 s (State.clearTunnelCounts s) := by
  unfold State.clearTunnelCounts
  repeat' first
    | intro _
    | with_reducible assumption
    | with_reducible exact Keep.refl _ _
    | (extract_lets +onlyGivenNames vv; clear_value vv)
    | extract_lets +onlyGivenNames vv
    | with_reducible refine keep_ite ?_ ?_
    | with_reducible apply Keep.step (keep_setTun _ _ _)
    | exact rfl
    | with_reducible refine keep_foldl (fun _ _ _ => ?_) _ ?_

theorem keep_clearTotals (s : State) : Keep 0x10000000000060 s (State.clearTotals s) := by
  unfold State.clearTotals
  repeat' first
    | intro _
    | with_reducible assumption
    | with_reducible exact Keep.refl _ _
    | (extract_lets +onlyGivenNames vv; clear_value vv)
    | extract_lets +onlyGivenNames vv
    | with_reducible refine keep_ite ?_ ?_
    | with_reducible apply Keep.step (keep_clearRange _ _ _)
    | with_reducible apply Keep.step (keep_clearTunnelCounts _)
    | with_reducible apply Keep.step (keep_setReg _ _ _)
    | exact rfl

theorem keep_clearPorts (s : State) : Keep 0x40 s (State.clearPorts s) := by
  unfold State.clearPorts
  repeat' first
    | intro _
    | with_reducible assumption
    | with_reducible exact Keep.refl _ _
    | (extract_lets +onlyGivenNames vv; clear_value vv)
    | extract_lets +onlyGivenNames vv
    | with_reducible refine keep_ite ?_ ?_
    | with_reducible apply Keep.step (keep_clearRange _ _ _)
    | exact rfl

theorem keep_clearMeters (s : State) : Keep 0x10000000000000 s (State.clearMeters s) := by
  unfold State.clearMeters
  repeat' first
    | intro _
    | with_reducible assumption
    | with_reducible exact Keep.refl _ _
    | (extract_lets +onlyGivenNames vv; clear_value vv)
    | extract_lets +onlyGivenNames vv
    | with_reducible refine keep_ite ?_ ?_
    | with_reducible apply Keep.step (keep_setMeter _ _ _)
    | exact rfl
    | with_reducible refine keep_foldl (fun _ _ _ => ?_) _ ?_

theorem keep_clearSamplers (s : State) : Keep 0x40 s (State.clearSamplers s) := by
  unfold State.clearSamplers
  repeat' first
    | intro _
    | with_reducible assumption
    | with_reducible exact Keep.refl _ _
    | (extract_lets +onlyGivenNames vv; clear_value vv)
    | extract_lets +onlyGivenNames vv
    | with_reducible refine keep_ite ?_ ?_
    | with_reducible apply Keep.step (keep_clearRange _ _ _)
    | exact rfl

theorem keep_clearGates (s : State) : Keep 0x40 s (State.clearGates s) := by
  unfold State.clearGates
  repeat' first
    | intro _
    | with_reducible assumption
    | with_reducible exact Keep.refl _ _
    | (extract_lets +onlyGivenNames vv; clear_value vv)
    | extract_lets +onlyGivenNames vv
    | with_reducible refine keep_ite ?_ ?_
    | with_reducible apply Keep.step (keep_clearRange _ _ _)
    | exact rfl

theorem keep_switchClear (s : State) (w : Writer) (v : Nat) : Keep 0xb0090900009005c26e0 s (State.switchClear s w v) := by
  unfold State.switchClear
  try dsimp only
  repeat' first
    | intro _
    | with_reducible assumption
    | with_reducible exact Keep.refl _ _
    | with_reducible refine keep_ite ?_ ?_
    | with_reducible apply Keep.step (keep_clearGates _)
    | with_reducible apply Keep.step (keep_clearMeters _)
    | with_reducible apply Keep.step (keep_clearPorts _)
    | with_reducible apply Keep.step (keep_clearSamplers _)
    | with_reducible apply Keep.step (keep_clearTotals _)
    | with_reducible apply Keep.step (keep_logRecord _ _ _)
    | with_reducible apply Keep.step (n := 0xb0090900009005c26e0) (keep_write _ _ _ _ _ _ ?_ ?_)
    | with_reducible apply Keep.step (keep_id _)
    | exact rfl

theorem keep_execSwitchClearTotals (w : Writer) (s : State) : KeepR 0xb0090900009005c26e0 s (execSwitchClearTotals w s) := by
  unfold execSwitchClearTotals
  repeat' first
    | intro _
    | with_reducible assumption
    | with_reducible exact Keep.refl _ _
    | (extract_lets +onlyGivenNames vv; clear_value vv)
    | extract_lets +onlyGivenNames vv
    | with_reducible refine keep_ite ?_ ?_
    | with_reducible apply Keep.step (keep_switchClear _ _ _)
    | exact rfl
    | with_reducible refine keepr_next ?_

theorem keep_execSwitchClearPorts (w : Writer) (s : State) : KeepR 0xb0090900009005c26e0 s (execSwitchClearPorts w s) := by
  unfold execSwitchClearPorts
  repeat' first
    | intro _
    | with_reducible assumption
    | with_reducible exact Keep.refl _ _
    | (extract_lets +onlyGivenNames vv; clear_value vv)
    | extract_lets +onlyGivenNames vv
    | with_reducible refine keep_ite ?_ ?_
    | with_reducible apply Keep.step (keep_switchClear _ _ _)
    | exact rfl
    | with_reducible refine keepr_next ?_

theorem keep_execSwitchClearMeters (w : Writer) (s : State) : KeepR 0xb0090900009005c26e0 s (execSwitchClearMeters w s) := by
  unfold execSwitchClearMeters
  repeat' first
    | intro _
    | with_reducible assumption
    | with_reducible exact Keep.refl _ _
    | (extract_lets +onlyGivenNames vv; clear_value vv)
    | extract_lets +onlyGivenNames vv
    | with_reducible refine keep_ite ?_ ?_
    | with_reducible apply Keep.step (keep_switchClear _ _ _)
    | exact rfl
    | with_reducible refine keepr_next ?_

theorem keep_execSwitchClearSamplers (w : Writer) (s : State) : KeepR 0xb0090900009005c26e0 s (execSwitchClearSamplers w s) := by
  unfold execSwitchClearSamplers
  repeat' first
    | intro _
    | with_reducible assumption
    | with_reducible exact Keep.refl _ _
    | (extract_lets +onlyGivenNames vv; clear_value vv)
    | extract_lets +onlyGivenNames vv
    | with_reducible refine keep_ite ?_ ?_
    | with_reducible apply Keep.step (keep_switchClear _ _ _)
    | exact rfl
    | with_reducible refine keepr_next ?_

theorem keep_execSwitchClearGates (w : Writer) (s : State) : KeepR 0xb0090900009005c26e0 s (execSwitchClearGates w s) := by
  unfold execSwitchClearGates
  repeat' first
    | intro _
    | with_reducible assumption
    | with_reducible exact Keep.refl _ _
    | (extract_lets +onlyGivenNames vv; clear_value vv)
    | extract_lets +onlyGivenNames vv
    | with_reducible refine keep_ite ?_ ?_
    | with_reducible apply Keep.step (keep_switchClear _ _ _)
    | exact rfl
    | with_reducible refine keepr_next ?_

theorem keep_setEdgeStatus (s : State) (e i : Nat) (b : Bool) : Keep 0x20 s (State.setEdgeStatus s e i b) := by
  unfold State.setEdgeStatus
  repeat' first
    | intro _
    | with_reducible assumption
    | with_reducible exact Keep.refl _ _
    | (extract_lets +onlyGivenNames vv; clear_value vv)
    | extract_lets +onlyGivenNames vv
    | with_reducible refine keep_ite ?_ ?_
    | with_reducible apply Keep.step (keep_setReg _ _ _)
    | exact rfl

theorem keep_edgeSync (s : State) (e : Nat) : Keep 0x300110000087c1c2060 s (State.edgeSync s e) := by
  unfold State.edgeSync
  repeat' first
    | intro _
    | with_reducible assumption
    | with_reducible exact Keep.refl _ _
    | (extract_lets +onlyGivenNames vv; have hv : Keep 0x300110000087c1c2060 s vv; unfold vv; clear vv; rotate_left; try clear_value vv; rotate_left)
    | (extract_lets +onlyGivenNames vv; clear_value vv)
    | extract_lets +onlyGivenNames vv
    | with_reducible refine keep_ite ?_ ?_
    | with_reducible apply Keep.step (keep_bump _ _)
    | with_reducible apply Keep.step (keep_raise _ _ _)
    | with_reducible apply Keep.step (keep_setEdgeStatus _ _ _ _)
    | with_reducible apply Keep.step (keep_setReg _ _ _)
    | exact rfl

theorem keep_execEdgeLinkChange (e : Fin 8) (linked half : Bool) (rate : Fin 4) (s : State) : KeepR 0x300111000087c1c2060 s (execEdgeLinkChange e linked half rate s) := by
  unfold execEdgeLinkChange
  repeat' first
    | intro _
    | with_reducible assumption
    | with_reducible exact Keep.refl _ _
    | (extract_lets +onlyGivenNames vv; clear_value vv)
    | extract_lets +onlyGivenNames vv
    | (simp -zeta only [keepAt_mk]; with_reducible refine keep_mk_sw ?_ ?_)
    | with_reducible refine keep_ite ?_ ?_
    | with_reducible apply Keep.step (keep_edgeSync _ _)
    | exact rfl
    | with_reducible refine keepr_next ?_

theorem keep_execEdgeSyncLoss (e : Fin 8) (s : State) : KeepR 0x300110000087c1c2060 s (execEdgeSyncLoss e s) := by
  unfold execEdgeSyncLoss
  repeat' first
    | intro _
    | with_reducible assumption
    | with_reducible exact Keep.refl _ _
    | (extract_lets +onlyGivenNames vv; clear_value vv)
    | extract_lets +onlyGivenNames vv
    | with_reducible refine keep_ite ?_ ?_
    | with_reducible apply Keep.step (keep_edgeSync _ _)
    | with_reducible apply Keep.step (keep_setEdgeStatus _ _ _ _)
    | exact rfl
    | with_reducible refine keepr_next ?_

theorem keep_execSgmiiSyncRegained (e : Fin 8) (s : State) : KeepR 0x300110000087c1c2060 s (execSgmiiSyncRegained e s) := by
  unfold execSgmiiSyncRegained
  repeat' first
    | intro _
    | with_reducible assumption
    | with_reducible exact Keep.refl _ _
    | (extract_lets +onlyGivenNames vv; clear_value vv)
    | extract_lets +onlyGivenNames vv
    | with_reducible refine keep_ite ?_ ?_
    | with_reducible apply Keep.step (keep_edgeSync _ _)
    | with_reducible apply Keep.step (keep_setEdgeStatus _ _ _ _)
    | exact rfl
    | with_reducible refine keepr_next ?_

theorem keep_execMdioRead (w : Writer) (e : Fin 8) (phy : Option Nat) (s : State) : KeepR 0xb0010800008001c2660 s (execMdioRead w e phy s) := by
  unfold execMdioRead
  repeat' first
    | intro _
    | with_reducible assumption
    | with_reducible exact Keep.refl _ _
    | (extract_lets +onlyGivenNames vv; clear_value vv)
    | extract_lets +onlyGivenNames vv
    | with_reducible refine keep_ite ?_ ?_
    | with_reducible apply Keep.step (keep_answer _ _ _ _ _)
    | with_reducible apply Keep.step (keep_setEdgeStatus _ _ _ _)
    | exact rfl
    | with_reducible refine keepr_next ?_
    | with_reducible exact keepr_fault
    | with_reducible refine keepr_ite ?_ ?_
    | with_reducible refine keep_foldl (fun _ _ _ => ?_) _ ?_
    | with_reducible exact cellsWf_filter _ (by assumption) _
    | with_reducible exact cellsWf_cellSet _ (by assumption) _ _
    | with_reducible refine keep_snd (by with_reducible assumption) ?_
    | with_reducible refine keep_fst (by with_reducible assumption) ?_
    | split

theorem keep_execMdioWrite (w : Writer) (e : Fin 8) (v : Nat) (s : State) : KeepR 0xb0090900008005c26c0 s (execMdioWrite w e v s) := by
  unfold execMdioWrite
  repeat' first
    | intro _
    | with_reducible assumption
    | with_reducible exact Keep.refl _ _
    | (extract_lets +onlyGivenNames vv; clear_value vv)
    | extract_lets +onlyGivenNames vv
    | (simp -zeta only [keepAt_mk]; with_reducible refine keep_mk_sw ?_ ?_)
    | with_reducible refine keep_ite ?_ ?_
    | with_reducible apply Keep.step (n := 0xb0090900008005c26c0) (keep_write _ _ _ _ _ _ ?_ ?_)
    | with_reducible apply Keep.step (keep_id _)
    | exact rfl
    | with_reducible refine keepr_next ?_

theorem keep_execPcieLinkUp (speed width : Nat) (busMaster : Bool) (s : State) : KeepR 0x30010100008641c2060 s (execPcieLinkUp speed width busMaster s) := by
  unfold execPcieLinkUp
  repeat' first
    | intro _
    | with_reducible assumption
    | with_reducible exact Keep.refl _ _
    | (extract_lets +onlyGivenNames vv; clear_value vv)
    | extract_lets +onlyGivenNames vv
    | (simp -zeta only [keepAt_mk]; with_reducible refine keep_mk_sw ?_ ?_)
    | with_reducible refine keep_ite ?_ ?_
    | with_reducible apply Keep.step (keep_setReg _ _ _)
    | with_reducible apply Keep.step (keep_settle _)
    | exact rfl
    | with_reducible refine keepr_next ?_

end Sys2Proof.Machine
end

