-- ==== Sys2Proof/Laws/KeepTunnels.lean ====
section
/-! SUPPORT. What each operation and each command of `Machine/Tunnels.lean` keeps: the parts of the state outside its mask, and
the invariant. -/

namespace Sys2Proof.Machine
open Sys2Proof

theorem keep_tableWritten (s : State) (k v : Nat) : Keep 0x10000000000020 s (State.tableWritten s k v) := by
  unfold State.tableWritten
  repeat' first
    | intro _
    | with_reducible assumption
    | with_reducible exact Keep.refl _ _
    | (extract_lets +onlyGivenNames vv; have hv : Keep 0x10000000000020 s vv; unfold vv; clear vv; rotate_left; try clear_value vv; rotate_left)
    | (extract_lets +onlyGivenNames vv; clear_value vv)
    | extract_lets +onlyGivenNames vv
    | (simp -zeta only [keepAt_mk]; with_reducible refine keep_mk_sw ?_ ?_)
    | with_reducible refine keep_ite ?_ ?_
    | with_reducible apply Keep.step (keep_setReg _ _ _)
    | with_reducible apply Keep.step (keep_store _ _ _)
    | exact rfl

theorem keep_execGenerationRetire (s : State) : KeepR 0x10000000000000 s (execGenerationRetire s) := by
  unfold execGenerationRetire
  repeat' first
    | intro _
    | with_reducible assumption
    | with_reducible exact Keep.refl _ _
    | (extract_lets +onlyGivenNames vv; clear_value vv)
    | extract_lets +onlyGivenNames vv
    | (simp -zeta only [keepAt_mk]; with_reducible refine keep_mk_sw ?_ ?_)
    | with_reducible refine keep_ite ?_ ?_
    | exact rfl
    | with_reducible refine keepr_next ?_

theorem keep_tunSend (s : State) (t sub tseq seg : Nat) (last : Bool) (body : List Byte) : Keep 0x30010100008001c2040 s (State.tunSend s t sub tseq seg last body) := by
  unfold State.tunSend
  repeat' first
    | intro _
    | with_reducible assumption
    | with_reducible exact Keep.refl _ _
    | (extract_lets +onlyGivenNames vv; have hv : Keep 0x30010100008001c2040 s vv; unfold vv; clear vv; rotate_left; try clear_value vv; rotate_left)
    | (extract_lets +onlyGivenNames vv; clear_value vv)
    | extract_lets +onlyGivenNames vv
    | with_reducible refine keep_ite ?_ ?_
    | with_reducible apply Keep.step (keep_originate _ _)
    | with_reducible apply Keep.step (keep_setTun _ _ _)
    | exact rfl

theorem keep_sendOpen (s : State) (t : Nat) (resync : Bool) : Keep 0x30010100008001c2040 s (State.sendOpen s t resync) := by
  unfold State.sendOpen
  repeat' first
    | intro _
    | with_reducible assumption
    | with_reducible exact Keep.refl _ _
    | (extract_lets +onlyGivenNames vv; clear_value vv)
    | extract_lets +onlyGivenNames vv
    | with_reducible refine keep_ite ?_ ?_
    | with_reducible apply Keep.step (keep_setTun _ _ _)
    | with_reducible apply Keep.step (keep_tunSend _ _ _ _ _ _ _)
    | exact rfl

theorem keep_tunHeard (s : State) (t : Nat) (fr : Frame) : Keep 0x10000000000000 s (State.tunHeard s t fr) := by
  unfold State.tunHeard
  repeat' first
    | intro _
    | with_reducible assumption
    | with_reducible exact Keep.refl _ _
    | (extract_lets +onlyGivenNames vv; clear_value vv)
    | extract_lets +onlyGivenNames vv
    | with_reducible refine keep_ite ?_ ?_
    | with_reducible apply Keep.step (keep_setTun _ _ _)
    | exact rfl

theorem keep_lostSync (s : State) : Keep 0x80000000 s (State.lostSync s) := by
  unfold State.lostSync
  repeat' first
    | intro _
    | with_reducible assumption
    | with_reducible exact Keep.refl _ _
    | (extract_lets +onlyGivenNames vv; clear_value vv)
    | extract_lets +onlyGivenNames vv
    | with_reducible refine keep_ite ?_ ?_
    | with_reducible apply Keep.step (keep_faultDown _ _)
    | exact rfl

theorem keep_tunState (s : State) (t st : Nat) : Keep 0x10000080000000 s (State.tunState s t st) := by
  unfold State.tunState
  repeat' first
    | intro _
    | with_reducible assumption
    | with_reducible exact Keep.refl _ _
    | (extract_lets +onlyGivenNames vv; clear_value vv)
    | extract_lets +onlyGivenNames vv
    | with_reducible refine keep_ite ?_ ?_
    | with_reducible apply Keep.step (keep_lostSync _)
    | with_reducible apply Keep.step (keep_setTun _ _ _)
    | exact rfl

theorem keep_tunOpen (s : State) (t tver reserve tseq : Nat) : Keep 0x10000080000000 s (State.tunOpen s t tver reserve tseq) := by
  unfold State.tunOpen
  repeat' first
    | intro _
    | with_reducible assumption
    | with_reducible exact Keep.refl _ _
    | (extract_lets +onlyGivenNames vv; clear_value vv)
    | extract_lets +onlyGivenNames vv
    | with_reducible refine keep_ite ?_ ?_
    | with_reducible apply Keep.step (keep_lostSync _)
    | with_reducible apply Keep.step (keep_setTun _ _ _)
    | exact rfl

theorem keep_sendRefuse (s : State) (fr : Frame) (kind reason : Nat) : Keep 0x30010000008001c2040 s (State.sendRefuse s fr kind reason) := by
  unfold State.sendRefuse
  repeat' first
    | intro _
    | with_reducible assumption
    | with_reducible exact Keep.refl _ _
    | (extract_lets +onlyGivenNames vv; clear_value vv)
    | extract_lets +onlyGivenNames vv
    | with_reducible refine keep_ite ?_ ?_
    | with_reducible apply Keep.step (keep_originate _ _)
    | exact rfl

theorem keep_unmatched (s : State) (fr : Frame) : Keep 0x40 s (State.unmatched s fr) := by
  unfold State.unmatched
  repeat' first
    | intro _
    | with_reducible assumption
    | with_reducible exact Keep.refl _ _
    | (extract_lets +onlyGivenNames vv; clear_value vv)
    | extract_lets +onlyGivenNames vv
    | with_reducible refine keep_ite ?_ ?_
    | with_reducible apply Keep.step (keep_bump _ _)
    | exact rfl

theorem keep_execTunnelOpenSend (t : Fin 1024) (s : State) : KeepR 0x30010100088001c2046 s (execTunnelOpenSend t s) := by
  unfold execTunnelOpenSend
  repeat' first
    | intro _
    | with_reducible assumption
    | with_reducible exact Keep.refl _ _
    | (extract_lets +onlyGivenNames vv; clear_value vv)
    | extract_lets +onlyGivenNames vv
    | with_reducible refine keep_ite ?_ ?_
    | with_reducible apply Keep.step (keep_sendOpen _ _ _)
    | with_reducible apply Keep.step (keep_until _ _)
    | exact rfl
    | with_reducible refine keepr_next ?_
    | with_reducible exact keepr_fault
    | with_reducible refine keepr_ite ?_ ?_
    | with_reducible refine keep_foldl (fun _ _ _ => ?_) _ ?_
    | with_reducible exact cellsWf_filter _ (by assumption) _
    | with_reducible exact cellsWf_cellSet _ (by assumption) _ _
    | with_reducible refine keep_snd (by with_reducible assumption) ?_
    | with_reducible refine keep_fst (by with_reducible assumption) ?_
    | split

theorem keep_execTunnelOpenReceived (fr : Frame) (s : State) : KeepR 0x30010100008801c2040 s (execTunnelOpenReceived fr s) := by
  unfold execTunnelOpenReceived
  repeat' first
    | intro _
    | with_reducible assumption
    | with_reducible exact Keep.refl _ _
    | (extract_lets +onlyGivenNames vv; have hv : Keep 0x30010100008801c2040 s vv; unfold vv; clear vv; rotate_left; try clear_value vv; rotate_left)
    | (extract_lets +onlyGivenNames vv; clear_value vv)
    | extract_lets +onlyGivenNames vv
    | with_reducible refine keep_ite ?_ ?_
    | with_reducible apply Keep.step (keep_sendRefuse _ _ _ _)
    | with_reducible apply Keep.step (keep_setTun _ _ _)
    | with_reducible apply Keep.step (keep_tunHeard _ _ _)
    | with_reducible apply Keep.step (keep_tunOpen _ _ _ _ _)
    | with_reducible apply Keep.step (keep_tunSend _ _ _ _ _ _ _)
    | with_reducible apply Keep.step (keep_tunState _ _ _)
    | exact rfl
    | with_reducible refine keepr_next ?_
    | with_reducible exact keepr_fault
    | with_reducible refine keepr_ite ?_ ?_
    | with_reducible refine keep_foldl (fun _ _ _ => ?_) _ ?_
    | with_reducible exact cellsWf_filter _ (by assumption) _
    | with_reducible exact cellsWf_cellSet _ (by assumption) _ _
    | with_reducible refine keep_snd (by with_reducible assumption) ?_
    | with_reducible refine keep_fst (by with_reducible assumption) ?_
    | split

theorem keep_execTunnelAcceptReceived (fr : Frame) (s : State) : KeepR 0x10000080000040 s (execTunnelAcceptReceived fr s) := by
  unfold execTunnelAcceptReceived
  repeat' first
    | intro _
    | with_reducible assumption
    | with_reducible exact Keep.refl _ _
    | (extract_lets +onlyGivenNames vv; have hv : Keep 0x10000080000040 s vv; unfold vv; clear vv; rotate_left; try clear_value vv; rotate_left)
    | (extract_lets +onlyGivenNames vv; clear_value vv)
    | extract_lets +onlyGivenNames vv
    | with_reducible refine keep_ite ?_ ?_
    | with_reducible apply Keep.step (keep_setTun _ _ _)
    | with_reducible apply Keep.step (keep_tunHeard _ _ _)
    | with_reducible apply Keep.step (keep_tunOpen _ _ _ _ _)
    | with_reducible apply Keep.step (keep_unmatched _ _)
    | exact rfl
    | with_reducible refine keepr_next ?_
    | with_reducible exact keepr_fault
    | with_reducible refine keepr_ite ?_ ?_
    | with_reducible refine keep_foldl (fun _ _ _ => ?_) _ ?_
    | with_reducible exact cellsWf_filter _ (by assumption) _
    | with_reducible exact cellsWf_cellSet _ (by assumption) _ _
    | with_reducible refine keep_snd (by with_reducible assumption) ?_
    | with_reducible refine keep_fst (by with_reducible assumption) ?_
    | split

theorem keep_execTunnelRefuseReceived (fr : Frame) (s : State) : KeepR 0x10000080000040 s (execTunnelRefuseReceived fr s) := by
  unfold execTunnelRefuseReceived
  repeat' first
    | intro _
    | with_reducible assumption
    | with_reducible exact Keep.refl _ _
    | (extract_lets +onlyGivenNames vv; have hv : Keep 0x10000080000040 s vv; unfold vv; clear vv; rotate_left; try clear_value vv; rotate_left)
    | (extract_lets +onlyGivenNames vv; clear_value vv)
    | extract_lets +onlyGivenNames vv
    | with_reducible refine keep_ite ?_ ?_
    | with_reducible apply Keep.step (keep_setTun _ _ _)
    | with_reducible apply Keep.step (keep_tunHeard _ _ _)
    | with_reducible apply Keep.step (keep_tunState _ _ _)
    | with_reducible apply Keep.step (keep_unmatched _ _)
    | exact rfl
    | with_reducible refine keepr_next ?_
    | with_reducible exact keepr_fault
    | with_reducible refine keepr_ite ?_ ?_
    | with_reducible refine keep_foldl (fun _ _ _ => ?_) _ ?_
    | with_reducible exact cellsWf_filter _ (by assumption) _
    | with_reducible exact cellsWf_cellSet _ (by assumption) _ _
    | with_reducible refine keep_snd (by with_reducible assumption) ?_
    | with_reducible refine keep_fst (by with_reducible assumption) ?_
    | split

theorem keep_execTunnelCloseReceived (fr : Frame) (s : State) : KeepR 0x10000080000040 s (execTunnelCloseReceived fr s) := by
  unfold execTunnelCloseReceived
  repeat' first
    | intro _
    | with_reducible assumption
    | with_reducible exact Keep.refl _ _
    | (extract_lets +onlyGivenNames vv; have hv : Keep 0x10000080000040 s vv; unfold vv; clear vv; rotate_left; try clear_value vv; rotate_left)
    | (extract_lets +onlyGivenNames vv; clear_value vv)
    | extract_lets +onlyGivenNames vv
    | with_reducible refine keep_ite ?_ ?_
    | with_reducible apply Keep.step (keep_setTun _ _ _)
    | with_reducible apply Keep.step (keep_tunHeard _ _ _)
    | with_reducible apply Keep.step (keep_tunState _ _ _)
    | with_reducible apply Keep.step (keep_unmatched _ _)
    | exact rfl
    | with_reducible refine keepr_next ?_
    | with_reducible exact keepr_fault
    | with_reducible refine keepr_ite ?_ ?_
    | with_reducible refine keep_foldl (fun _ _ _ => ?_) _ ?_
    | with_reducible exact cellsWf_filter _ (by assumption) _
    | with_reducible exact cellsWf_cellSet _ (by assumption) _ _
    | with_reducible refine keep_snd (by with_reducible assumption) ?_
    | with_reducible refine keep_fst (by with_reducible assumption) ?_
    | split

theorem keep_execTunnelKeepaliveSend (t : Fin 1024) (s : State) : KeepR 0x30010100088001c2046 s (execTunnelKeepaliveSend t s) := by
  unfold execTunnelKeepaliveSend
  repeat' first
    | intro _
    | with_reducible assumption
    | with_reducible exact Keep.refl _ _
    | (extract_lets +onlyGivenNames vv; clear_value vv)
    | extract_lets +onlyGivenNames vv
    | with_reducible refine keep_ite ?_ ?_
    | with_reducible apply Keep.step (keep_tunSend _ _ _ _ _ _ _)
    | with_reducible apply Keep.step (keep_until _ _)
    | exact rfl
    | with_reducible refine keepr_next ?_

theorem keep_execTunnelLostTimeout (t : Fin 1024) (s : State) : KeepR 0x30091183089fd5c2266 s (execTunnelLostTimeout t s) := by
  unfold execTunnelLostTimeout
  repeat' first
    | intro _
    | with_reducible assumption
    | with_reducible exact Keep.refl _ _
    | (extract_lets +onlyGivenNames vv; clear_value vv)
    | extract_lets +onlyGivenNames vv
    | with_reducible refine keep_ite ?_ ?_
    | with_reducible apply Keep.step (keep_faultUp _ _ _ _)
    | with_reducible apply Keep.step (keep_sendOpen _ _ _)
    | with_reducible apply Keep.step (keep_tunState _ _ _)
    | with_reducible apply Keep.step (keep_until _ _)
    | exact rfl
    | with_reducible refine keepr_next ?_

theorem keep_tunFree (s : State) (t n : Nat) : Keep 0x10000000000000 s (State.tunFree s t n) := by
  unfold State.tunFree
  repeat' first
    | intro _
    | with_reducible assumption
    | with_reducible exact Keep.refl _ _
    | (extract_lets +onlyGivenNames vv; clear_value vv)
    | extract_lets +onlyGivenNames vv
    | with_reducible refine keep_ite ?_ ?_
    | with_reducible apply Keep.step (keep_setTun _ _ _)
    | exact rfl

theorem keep_execTunnelCreditReport (t : Fin 1024) (s : State) : KeepR 0x30010100088001c2046 s (execTunnelCreditReport t s) := by
  unfold execTunnelCreditReport
  repeat' first
    | intro _
    | with_reducible assumption
    | with_reducible exact Keep.refl _ _
    | (extract_lets +onlyGivenNames vv; clear_value vv)
    | extract_lets +onlyGivenNames vv
    | with_reducible refine keep_ite ?_ ?_
    | with_reducible apply Keep.step (keep_tunSend _ _ _ _ _ _ _)
    | with_reducible apply Keep.step (keep_until _ _)
    | exact rfl
    | with_reducible refine keepr_next ?_
    | with_reducible exact keepr_fault
    | with_reducible refine keepr_ite ?_ ?_
    | with_reducible refine keep_foldl (fun _ _ _ => ?_) _ ?_
    | with_reducible exact cellsWf_filter _ (by assumption) _
    | with_reducible exact cellsWf_cellSet _ (by assumption) _ _
    | with_reducible refine keep_snd (by with_reducible assumption) ?_
    | with_reducible refine keep_fst (by with_reducible assumption) ?_
    | split

theorem keep_tunAdvance (t : Nat) (n : Nat) : ∀ (s : State), Keep 0x10000000000000 s (s.tunAdvance t n) := by
  induction n with
  | zero => intro s; exact Keep.refl _ _
  | succ n ih =>
    intro s
    unfold State.tunAdvance
    dsimp only
    split
    · split
      · exact Keep.refl _ _
      · refine Keep.step (ih _) rfl ?_
        repeat' first
          | with_reducible exact Keep.refl _ _
          | with_reducible refine keep_ite ?_ ?_
          | with_reducible refine Keep.step (keep_tunFree _ _ _) ?_ ?_
          | with_reducible refine Keep.step (keep_setTun _ _ _) ?_ ?_
          | exact rfl
          | split
    · exact Keep.refl _ _

theorem keep_tunGap (s : State) (t : Nat) : Keep 0x10000000000000 s (State.tunGap s t) := by
  unfold State.tunGap
  repeat' first
    | intro _
    | with_reducible assumption
    | with_reducible exact Keep.refl _ _
    | (extract_lets +onlyGivenNames vv; clear_value vv)
    | extract_lets +onlyGivenNames vv
    | with_reducible refine keep_ite ?_ ?_
    | with_reducible apply Keep.step (keep_setTun _ _ _)
    | exact rfl

theorem keep_execTunnelDataReceived (fr : Frame) (s : State) : KeepR 0x10000000000040 s (execTunnelDataReceived fr s) := by
  unfold execTunnelDataReceived
  repeat' first
    | intro _
    | with_reducible assumption
    | with_reducible exact Keep.refl _ _
    | (extract_lets +onlyGivenNames vv; have hv : Keep 0x10000000000040 s vv; unfold vv; clear vv; rotate_left; try clear_value vv; rotate_left)
    | (extract_lets +onlyGivenNames vv; clear_value vv)
    | extract_lets +onlyGivenNames vv
    | with_reducible refine keep_ite ?_ ?_
    | with_reducible apply Keep.step (keep_setTun _ _ _)
    | with_reducible apply Keep.step (keep_tunAdvance _ _ _)
    | with_reducible apply Keep.step (keep_tunGap _ _)
    | with_reducible apply Keep.step (keep_tunHeard _ _ _)
    | with_reducible apply Keep.step (keep_unmatched _ _)
    | exact rfl
    | with_reducible refine keepr_next ?_
    | with_reducible exact keepr_fault
    | with_reducible refine keepr_ite ?_ ?_
    | with_reducible refine keep_foldl (fun _ _ _ => ?_) _ ?_
    | with_reducible exact cellsWf_filter _ (by assumption) _
    | with_reducible exact cellsWf_cellSet _ (by assumption) _ _
    | with_reducible refine keep_snd (by with_reducible assumption) ?_
    | with_reducible refine keep_fst (by with_reducible assumption) ?_
    | split

theorem keep_execTunnelReorderTimeout (t : Fin 1024) (s : State) : KeepR 0x10008000000006 s (execTunnelReorderTimeout t s) := by
  unfold execTunnelReorderTimeout
  repeat' first
    | intro _
    | with_reducible assumption
    | with_reducible exact Keep.refl _ _
    | (extract_lets +onlyGivenNames vv; have hv : Keep 0x10008000000006 s vv; unfold vv; clear vv; rotate_left; try clear_value vv; rotate_left)
    | (extract_lets +onlyGivenNames vv; clear_value vv)
    | extract_lets +onlyGivenNames vv
    | with_reducible refine keep_ite ?_ ?_
    | with_reducible apply Keep.step (keep_setTun _ _ _)
    | with_reducible apply Keep.step (keep_tunAdvance _ _ _)
    | with_reducible apply Keep.step (keep_tunFree _ _ _)
    | with_reducible apply Keep.step (keep_tunGap _ _)
    | with_reducible apply Keep.step (keep_until _ _)
    | exact rfl
    | with_reducible refine keepr_next ?_
    | with_reducible exact keepr_fault
    | with_reducible refine keepr_ite ?_ ?_
    | with_reducible refine keep_foldl (fun _ _ _ => ?_) _ ?_
    | with_reducible exact cellsWf_filter _ (by assumption) _
    | with_reducible exact cellsWf_cellSet _ (by assumption) _ _
    | with_reducible refine keep_snd (by with_reducible assumption) ?_
    | with_reducible refine keep_fst (by with_reducible assumption) ?_
    | split

theorem keep_tunTake (s : State) (t : Nat) (body : List Byte) (gen : Nat) : Keep 0x10000000000000 s (State.tunTake s t body gen) := by
  unfold State.tunTake
  repeat' first
    | intro _
    | with_reducible assumption
    | with_reducible exact Keep.refl _ _
    | (extract_lets +onlyGivenNames vv; clear_value vv)
    | extract_lets +onlyGivenNames vv
    | with_reducible refine keep_ite ?_ ?_
    | with_reducible apply Keep.step (keep_setTun _ _ _)
    | exact rfl

theorem keep_execLadlePacketTake (t : Fin 1024) (body : List Byte) (s : State) : KeepR 0x10040000000000 s (execLadlePacketTake t body s) := by
  unfold execLadlePacketTake
  repeat' first
    | intro _
    | with_reducible assumption
    | with_reducible exact Keep.refl _ _
    | (extract_lets +onlyGivenNames vv; clear_value vv)
    | extract_lets +onlyGivenNames vv
    | (simp -zeta only [keepAt_mk]; with_reducible refine keep_mk_sw ?_ ?_)
    | with_reducible refine keep_ite ?_ ?_
    | with_reducible refine Keep.step (keep_qTake (by with_reducible assumption)) ?_ ?_
    | with_reducible apply Keep.step (keep_setTun _ _ _)
    | with_reducible apply Keep.step (keep_tunTake _ _ _ _)
    | exact rfl
    | with_reducible refine keepr_next ?_
    | with_reducible exact keepr_fault
    | with_reducible refine keepr_ite ?_ ?_
    | with_reducible refine keep_foldl (fun _ _ _ => ?_) _ ?_
    | with_reducible exact cellsWf_filter _ (by assumption) _
    | with_reducible exact cellsWf_cellSet _ (by assumption) _ _
    | with_reducible refine keep_snd (by with_reducible assumption) ?_
    | with_reducible refine keep_fst (by with_reducible assumption) ?_
    | split

theorem keep_execTunnelDataSend (t : Fin 1024) (s : State) : KeepR 0x30010100008001c2040 s (execTunnelDataSend t s) := by
  unfold execTunnelDataSend
  repeat' first
    | intro _
    | with_reducible assumption
    | with_reducible exact Keep.refl _ _
    | (extract_lets +onlyGivenNames vv; clear_value vv)
    | extract_lets +onlyGivenNames vv
    | with_reducible refine keep_ite ?_ ?_
    | with_reducible apply Keep.step (keep_setTun _ _ _)
    | with_reducible apply Keep.step (keep_tunSend _ _ _ _ _ _ _)
    | exact rfl
    | with_reducible refine keepr_next ?_
    | with_reducible exact keepr_fault
    | with_reducible refine keepr_ite ?_ ?_
    | with_reducible refine keep_foldl (fun _ _ _ => ?_) _ ?_
    | with_reducible exact cellsWf_filter _ (by assumption) _
    | with_reducible exact cellsWf_cellSet _ (by assumption) _ _
    | with_reducible refine keep_snd (by with_reducible assumption) ?_
    | with_reducible refine keep_fst (by with_reducible assumption) ?_
    | split

theorem keep_sink (s : State) (t kind num tag cls : Nat) (b : List Byte) : Keep 0x30091183409fd5c2260 s (State.sink s t kind num tag cls b).2 := by
  unfold State.sink
  repeat' first
    | intro _
    | with_reducible assumption
    | with_reducible exact Keep.refl _ _
    | (extract_lets +onlyGivenNames vv; clear_value vv)
    | extract_lets +onlyGivenNames vv
    | with_reducible refine keep_ite ?_ ?_
    | with_reducible apply Keep.step (keep_qPush _ _ _ _)
    | with_reducible apply Keep.step (keep_swOwn _ _ _ _ _)
    | exact rfl
    | with_reducible refine keep_foldl (fun _ _ _ => ?_) _ ?_
    | with_reducible exact cellsWf_filter _ (by assumption) _
    | with_reducible exact cellsWf_cellSet _ (by assumption) _ _
    | with_reducible refine keep_snd (by with_reducible assumption) ?_
    | with_reducible refine keep_fst (by with_reducible assumption) ?_
    | split

theorem keep_execTunnelSinkDeliver (t : Fin 1024) (s : State) : KeepR 0x30091183409fd5c2260 s (execTunnelSinkDeliver t s) := by
  unfold execTunnelSinkDeliver
  try dsimp only
  repeat' first
    | intro _
    | with_reducible assumption
    | with_reducible exact Keep.refl _ _
    | with_reducible refine keep_ite ?_ ?_
    | with_reducible apply Keep.step (keep_setTun _ _ _)
    | with_reducible apply Keep.step (keep_sink _ _ _ _ _ _ _)
    | with_reducible apply Keep.step (keep_tunFree _ _ _)
    | exact rfl
    | with_reducible refine keepr_next ?_
    | with_reducible exact keepr_fault
    | with_reducible refine keepr_ite ?_ ?_
    | with_reducible refine keep_foldl (fun _ _ _ => ?_) _ ?_
    | with_reducible exact cellsWf_filter _ (by assumption) _
    | with_reducible exact cellsWf_cellSet _ (by assumption) _ _
    | with_reducible refine keep_snd (by with_reducible assumption) ?_
    | with_reducible refine keep_fst (by with_reducible assumption) ?_
    | split

theorem keep_tunWritten (s : State) (t v : Nat) : Keep 0x30010100008801c2060 s (State.tunWritten s t v) := by
  unfold State.tunWritten
  repeat' first
    | intro _
    | with_reducible assumption
    | with_reducible exact Keep.refl _ _
    | (extract_lets +onlyGivenNames vv; have hv : Keep 0x30010100008801c2060 s vv; unfold vv; clear vv; rotate_left; try clear_value vv; rotate_left)
    | (extract_lets +onlyGivenNames vv; clear_value vv)
    | extract_lets +onlyGivenNames vv
    | with_reducible refine keep_ite ?_ ?_
    | with_reducible apply Keep.step (keep_lostSync _)
    | with_reducible apply Keep.step (keep_setReg _ _ _)
    | with_reducible apply Keep.step (keep_setTun _ _ _)
    | with_reducible apply Keep.step (keep_tableWritten _ _ _)
    | with_reducible apply Keep.step (keep_tunSend _ _ _ _ _ _ _)
    | exact rfl

theorem keep_execTunnelConfigWrite (w : Writer) (t : Fin 1024) (v : Nat) (s : State) : KeepR 0xb0090900008805c26e0 s (execTunnelConfigWrite w t v s) := by
  unfold execTunnelConfigWrite
  repeat' first
    | intro _
    | with_reducible assumption
    | with_reducible exact Keep.refl _ _
    | (extract_lets +onlyGivenNames vv; clear_value vv)
    | extract_lets +onlyGivenNames vv
    | with_reducible refine keep_ite ?_ ?_
    | with_reducible apply Keep.step (keep_tunWritten _ _ _)
    | with_reducible apply Keep.step (n := 0xb0090900008805c26e0) (keep_write _ _ _ _ _ _ ?_ ?_)
    | with_reducible apply Keep.step (keep_id _)
    | exact rfl
    | with_reducible refine keepr_next ?_

theorem keep_tunnelsResync (s : State) : Keep 0x30010100008001c2040 s (State.tunnelsResync s) := by
  unfold State.tunnelsResync
  repeat' first
    | intro _
    | with_reducible assumption
    | with_reducible exact Keep.refl _ _
    | (extract_lets +onlyGivenNames vv; clear_value vv)
    | extract_lets +onlyGivenNames vv
    | with_reducible refine keep_ite ?_ ?_
    | with_reducible apply Keep.step (keep_sendOpen _ _ _)
    | exact rfl
    | with_reducible refine keep_foldl (fun _ _ _ => ?_) _ ?_

theorem keep_execSidebandPoll (t : Fin 1024) (edges levels : Fin 256) (s : State) : KeepR 0x30010100088001c2046 s (execSidebandPoll t edges levels s) := by
  unfold execSidebandPoll
  repeat' first
    | intro _
    | with_reducible assumption
    | with_reducible exact Keep.refl _ _
    | (extract_lets +onlyGivenNames vv; have hv : Keep 0x30010100088001c2046 s vv; unfold vv; clear vv; rotate_left; try clear_value vv; rotate_left)
    | (extract_lets +onlyGivenNames vv; clear_value vv)
    | extract_lets +onlyGivenNames vv
    | with_reducible refine keep_ite ?_ ?_
    | with_reducible apply Keep.step (keep_setTun _ _ _)
    | with_reducible apply Keep.step (keep_tunSend _ _ _ _ _ _ _)
    | with_reducible apply Keep.step (keep_until _ _)
    | exact rfl
    | with_reducible refine keepr_next ?_

theorem keep_execSidebandReceived (fr : Frame) (s : State) : KeepR 0x300111000087c1c2060 s (execSidebandReceived fr s) := by
  unfold execSidebandReceived
  repeat' first
    | intro _
    | with_reducible assumption
    | with_reducible exact Keep.refl _ _
    | (extract_lets +onlyGivenNames vv; have hv : Keep 0x300111000087c1c2060 s vv; unfold vv; clear vv; rotate_left; try clear_value vv; rotate_left)
    | (extract_lets +onlyGivenNames vv; clear_value vv)
    | extract_lets +onlyGivenNames vv
    | with_reducible refine keep_ite ?_ ?_
    | with_reducible apply Keep.step (keep_raise _ _ _)
    | with_reducible apply Keep.step (keep_setReg _ _ _)
    | with_reducible apply Keep.step (keep_setTun _ _ _)
    | with_reducible apply Keep.step (keep_tunHeard _ _ _)
    | with_reducible apply Keep.step (keep_unmatched _ _)
    | exact rfl
    | with_reducible refine keepr_next ?_
    | with_reducible exact keepr_fault
    | with_reducible refine keepr_ite ?_ ?_
    | with_reducible refine keep_foldl (fun _ _ _ => ?_) _ ?_
    | with_reducible exact cellsWf_filter _ (by assumption) _
    | with_reducible exact cellsWf_cellSet _ (by assumption) _ _
    | with_reducible refine keep_snd (by with_reducible assumption) ?_
    | with_reducible refine keep_fst (by with_reducible assumption) ?_
    | split

theorem keep_routeSink (s : State) (l kind ch ident : Nat) (b : List Byte) : Keep 0x300110004087c1c2040 s (State.routeSink s l kind ch ident b) := by
  unfold State.routeSink
  repeat' first
    | intro _
    | with_reducible assumption
    | with_reducible exact Keep.refl _ _
    | (extract_lets +onlyGivenNames vv; clear_value vv)
    | extract_lets +onlyGivenNames vv
    | with_reducible refine keep_ite ?_ ?_
    | with_reducible apply Keep.step (keep_bump _ _)
    | with_reducible apply Keep.step (keep_qPush _ _ _ _)
    | exact rfl
    | with_reducible refine keep_foldl (fun _ _ _ => ?_) _ ?_

theorem keep_execRouteClassify (n : Fin 16) (q : Fin 25) (s : State) : KeepR 0x300110004087c1c2040 s (execRouteClassify n q s) := by
  unfold execRouteClassify
  repeat' first
    | intro _
    | with_reducible assumption
    | with_reducible exact Keep.refl _ _
    | (extract_lets +onlyGivenNames vv; clear_value vv)
    | extract_lets +onlyGivenNames vv
    | with_reducible refine keep_ite ?_ ?_
    | with_reducible apply Keep.step (keep_bump _ _)
    | with_reducible apply Keep.step (keep_originate _ _)
    | with_reducible refine Keep.step (keep_qTake (by with_reducible assumption)) ?_ ?_
    | with_reducible apply Keep.step (keep_routeSink _ _ _ _ _ _)
    | exact rfl
    | with_reducible refine keepr_next ?_
    | with_reducible exact keepr_fault
    | with_reducible refine keepr_ite ?_ ?_
    | with_reducible refine keep_foldl (fun _ _ _ => ?_) _ ?_
    | with_reducible exact cellsWf_filter _ (by assumption) _
    | with_reducible exact cellsWf_cellSet _ (by assumption) _ _
    | with_reducible refine keep_snd (by with_reducible assumption) ?_
    | with_reducible refine keep_fst (by with_reducible assumption) ?_
    | split

theorem keep_execRouteFrameReceived (fr : Frame) (s : State) : KeepR 0x300110004087c1c2040 s (execRouteFrameReceived fr s) := by
  unfold execRouteFrameReceived
  repeat' first
    | intro _
    | with_reducible assumption
    | with_reducible exact Keep.refl _ _
    | (extract_lets +onlyGivenNames vv; clear_value vv)
    | extract_lets +onlyGivenNames vv
    | with_reducible refine keep_ite ?_ ?_
    | with_reducible apply Keep.step (keep_bump _ _)
    | with_reducible apply Keep.step (keep_routeSink _ _ _ _ _ _)
    | exact rfl
    | with_reducible refine keepr_next ?_

theorem keep_execRouteEntryWrite (w : Writer) (r : Fin 4096) (v : Nat) (s : State) : KeepR 0xb0090900008005c26e0 s (execRouteEntryWrite w r v s) := by
  unfold execRouteEntryWrite
  try dsimp only
  repeat' first
    | intro _
    | with_reducible assumption
    | with_reducible exact Keep.refl _ _
    | with_reducible refine keep_ite ?_ ?_
    | with_reducible apply Keep.step (keep_tableWritten _ _ _)
    | with_reducible apply Keep.step (n := 0xb0090900008005c26e0) (keep_write _ _ _ _ _ _ ?_ ?_)
    | with_reducible apply Keep.step (keep_id _)
    | exact rfl
    | with_reducible refine keepr_next ?_

end Sys2Proof.Machine
end

