-- ==== Sys2Proof/Laws/KeepFaults.lean ====
section
/-! SUPPORT. What each operation and each command of `Machine/Faults.lean` keeps: the parts of the state outside its mask, and
the invariant. -/

namespace Sys2Proof.Machine
open Sys2Proof

theorem keep_logLeave (s : State) (n mode : Nat) : Keep 0x100000000 s (State.logLeave s n mode) := by
  unfold State.logLeave
  repeat' first
    | intro _
    | with_reducible assumption
    | with_reducible exact Keep.refl _ _
    | (extract_lets +onlyGivenNames vv; clear_value vv)
    | extract_lets +onlyGivenNames vv
    | with_reducible refine keep_ite ?_ ?_
    | with_reducible apply Keep.step (keep_log _ _ _ _)
    | exact rfl

theorem keep_execFaultOccurrence (n : Fin 512) (item detail : Nat) (live : Bool) (s : State) : KeepR 0x30091083009fd5c2260 s (execFaultOccurrence n item detail live s) := by
  unfold execFaultOccurrence
  repeat' first
    | intro _
    | with_reducible assumption
    | with_reducible exact Keep.refl _ _
    | (extract_lets +onlyGivenNames vv; clear_value vv)
    | extract_lets +onlyGivenNames vv
    | with_reducible refine keep_ite ?_ ?_
    | with_reducible apply Keep.step (keep_faultUp _ _ _ _)
    | with_reducible apply Keep.step (keep_occur _ _ _ _)
    | exact rfl
    | with_reducible refine keepr_next ?_

theorem keep_execFaultLiveFall (n : Fin 512) (s : State) : KeepR 0x80000000 s (execFaultLiveFall n s) := by
  unfold execFaultLiveFall
  repeat' first
    | intro _
    | with_reducible assumption
    | with_reducible exact Keep.refl _ _
    | (extract_lets +onlyGivenNames vv; clear_value vv)
    | extract_lets +onlyGivenNames vv
    | with_reducible refine keep_ite ?_ ?_
    | with_reducible apply Keep.step (keep_faultDown _ _)
    | exact rfl
    | with_reducible refine keepr_next ?_

theorem keep_execFaultQuietExpiry (n : Fin 512) (s : State) : KeepR 0x30011080089fd1c2066 s (execFaultQuietExpiry n s) := by
  unfold execFaultQuietExpiry
  repeat' first
    | intro _
    | with_reducible assumption
    | with_reducible exact Keep.refl _ _
    | (extract_lets +onlyGivenNames vv; have hv : Keep 0x30011080089fd1c2066 s vv; unfold vv; clear vv; rotate_left; try clear_value vv; rotate_left)
    | (extract_lets +onlyGivenNames vv; clear_value vv)
    | extract_lets +onlyGivenNames vv
    | with_reducible refine keep_ite ?_ ?_
    | with_reducible apply Keep.step (keep_faultLeave _ _ _)
    | with_reducible apply Keep.step (keep_logLeave _ _ _)
    | with_reducible apply Keep.step (keep_setFlt _ _ _)
    | with_reducible apply Keep.step (keep_until _ _)
    | exact rfl
    | with_reducible refine keepr_next ?_

theorem keep_execFaultClear (w : Writer) (n : Fin 512) (s : State) : KeepR 0xb0091880009fd5c26e0 s (execFaultClear w n s) := by
  unfold execFaultClear
  repeat' first
    | intro _
    | with_reducible assumption
    | with_reducible exact Keep.refl _ _
    | (extract_lets +onlyGivenNames vv; clear_value vv)
    | extract_lets +onlyGivenNames vv
    | with_reducible refine keep_ite ?_ ?_
    | with_reducible apply Keep.step (keep_faultLeave _ _ _)
    | with_reducible apply Keep.step (keep_logLeave _ _ _)
    | with_reducible apply Keep.step (n := 0xb0091880009fd5c26e0) (keep_write _ _ _ _ _ _ ?_ ?_)
    | with_reducible apply Keep.step (keep_id _)
    | exact rfl
    | with_reducible refine keepr_next ?_

theorem keep_execFaultForce (w : Writer) (n : Fin 512) (s : State) : KeepR 0xb0091883009fd5c26e0 s (execFaultForce w n s) := by
  unfold execFaultForce
  repeat' first
    | intro _
    | with_reducible assumption
    | with_reducible exact Keep.refl _ _
    | (extract_lets +onlyGivenNames vv; clear_value vv)
    | extract_lets +onlyGivenNames vv
    | with_reducible refine keep_ite ?_ ?_
    | with_reducible apply Keep.step (keep_occurX _ _ _ _ _)
    | with_reducible apply Keep.step (n := 0xb0091883009fd5c26e0) (keep_write _ _ _ _ _ _ ?_ ?_)
    | with_reducible apply Keep.step (keep_id _)
    | exact rfl
    | with_reducible refine keepr_next ?_

theorem keep_execFaultLatchReset (w : Writer) (n : Fin 512) (s : State) : KeepR 0xb0090800008805c26c0 s (execFaultLatchReset w n s) := by
  unfold execFaultLatchReset
  repeat' first
    | intro _
    | with_reducible assumption
    | with_reducible exact Keep.refl _ _
    | (extract_lets +onlyGivenNames vv; clear_value vv)
    | extract_lets +onlyGivenNames vv
    | with_reducible refine keep_ite ?_ ?_
    | with_reducible apply Keep.step (keep_setFlt _ _ _)
    | with_reducible apply Keep.step (n := 0xb0090800008805c26c0) (keep_write _ _ _ _ _ _ ?_ ?_)
    | with_reducible apply Keep.step (keep_id _)
    | exact rfl
    | with_reducible refine keepr_next ?_

theorem keep_execStormEnd (s : State) : KeepR 0x8100000046 s (execStormEnd s) := by
  unfold execStormEnd
  repeat' first
    | intro _
    | with_reducible assumption
    | with_reducible exact Keep.refl _ _
    | (extract_lets +onlyGivenNames vv; have hv : Keep 0x8100000046 s vv; unfold vv; clear vv; rotate_left; try clear_value vv; rotate_left)
    | (extract_lets +onlyGivenNames vv; clear_value vv)
    | extract_lets +onlyGivenNames vv
    | (simp -zeta only [keepAt_mk]; with_reducible refine keep_mk_cru ?_ ?_)
    | with_reducible refine keep_ite ?_ ?_
    | with_reducible apply Keep.step (keep_bump _ _)
    | with_reducible apply Keep.step (keep_log _ _ _ _)
    | with_reducible apply Keep.step (keep_until _ _)
    | exact rfl
    | with_reducible refine keepr_next ?_

theorem keep_commitEntry (s : State) : Keep 0x100000060 s (State.commitEntry s) := by
  unfold State.commitEntry
  repeat' first
    | intro _
    | with_reducible assumption
    | with_reducible exact Keep.refl _ _
    | (extract_lets +onlyGivenNames vv; have hv : Keep 0x100000060 s vv; unfold vv; clear vv; rotate_left; try clear_value vv; rotate_left)
    | (extract_lets +onlyGivenNames vv; clear_value vv)
    | extract_lets +onlyGivenNames vv
    | (simp -zeta only [keepAt_mk]; with_reducible refine keep_mk_cru ?_ ?_)
    | with_reducible refine keep_ite ?_ ?_
    | with_reducible apply Keep.step (keep_bump _ _)
    | with_reducible apply Keep.step (keep_setReg _ _ _)
    | exact rfl
    | with_reducible refine keep_foldl (fun _ _ _ => ?_) _ ?_
    | with_reducible exact cellsWf_filter _ (by assumption) _
    | with_reducible exact cellsWf_cellSet _ (by assumption) _ _
    | with_reducible refine keep_snd (by with_reducible assumption) ?_
    | with_reducible refine keep_fst (by with_reducible assumption) ?_
    | split

theorem keep_execCrucibleCommit (s : State) : KeepR 0x100000060 s (execCrucibleCommit s) := by
  unfold execCrucibleCommit
  repeat' first
    | intro _
    | with_reducible assumption
    | with_reducible exact Keep.refl _ _
    | (extract_lets +onlyGivenNames vv; clear_value vv)
    | extract_lets +onlyGivenNames vv
    | with_reducible refine keep_ite ?_ ?_
    | with_reducible apply Keep.step (keep_commitEntry _)
    | exact rfl
    | with_reducible refine keepr_next ?_
    | with_reducible exact keepr_fault
    | with_reducible refine keepr_ite ?_ ?_
    | with_reducible refine keep_foldl (fun _ _ _ => ?_) _ ?_
    | with_reducible exact cellsWf_filter _ (by assumption) _
    | with_reducible exact cellsWf_cellSet _ (by assumption) _ _
    | with_reducible refine keep_snd (by with_reducible assumption) ?_
    | with_reducible refine keep_fst (by with_reducible assumption) ?_
    | split

theorem keep_execCrucibleTriggerWrite (w : Writer) (v : Nat) (s : State) : KeepR 0xb0090800009005c26c0 s (execCrucibleTriggerWrite w v s) := by
  unfold execCrucibleTriggerWrite
  repeat' first
    | intro _
    | with_reducible assumption
    | with_reducible exact Keep.refl _ _
    | (extract_lets +onlyGivenNames vv; clear_value vv)
    | extract_lets +onlyGivenNames vv
    | with_reducible refine keep_ite ?_ ?_
    | with_reducible apply Keep.step (n := 0xb0090800009005c26c0) (keep_command _ _ _ _ _ _ ?_ ?_)
    | with_reducible apply Keep.step (keep_trigger _ _ _)
    | with_reducible apply Keep.step (keep_id _)
    | exact rfl
    | with_reducible refine keepr_next ?_

theorem keep_logPert (s : State) (stop i : Nat) : Keep 0x100000000 s (State.logPert s stop i) := by
  unfold State.logPert
  repeat' first
    | intro _
    | with_reducible assumption
    | with_reducible exact Keep.refl _ _
    | (extract_lets +onlyGivenNames vv; clear_value vv)
    | extract_lets +onlyGivenNames vv
    | with_reducible refine keep_ite ?_ ?_
    | with_reducible apply Keep.step (keep_log _ _ _ _)
    | exact rfl

theorem keep_pertEnd (s : State) (i : Nat) : Keep 0x100000020 s (State.pertEnd s i) := by
  unfold State.pertEnd
  repeat' first
    | intro _
    | with_reducible assumption
    | with_reducible exact Keep.refl _ _
    | (extract_lets +onlyGivenNames vv; clear_value vv)
    | extract_lets +onlyGivenNames vv
    | with_reducible refine keep_ite ?_ ?_
    | with_reducible apply Keep.step (keep_logPert _ _ _)
    | with_reducible apply Keep.step (keep_setReg _ _ _)
    | exact rfl

theorem keep_pertEndAll (s : State) : Keep 0x100000020 s (State.pertEndAll s) := by
  unfold State.pertEndAll
  repeat' first
    | intro _
    | with_reducible assumption
    | with_reducible exact Keep.refl _ _
    | (extract_lets +onlyGivenNames vv; clear_value vv)
    | extract_lets +onlyGivenNames vv
    | with_reducible refine keep_ite ?_ ?_
    | with_reducible apply Keep.step (keep_pertEnd _ _)
    | exact rfl
    | with_reducible refine keep_foldl (fun _ _ _ => ?_) _ ?_

theorem keep_pertWrite (s : State) (w : Writer) (i v : Nat) : Keep 0xb0390800009005c26e0 s (State.pertWrite s w i v) := by
  unfold State.pertWrite
  try dsimp only
  repeat' first
    | intro _
    | with_reducible assumption
    | with_reducible exact Keep.refl _ _
    | (simp -zeta only [keepAt_mk]; with_reducible refine keep_mk_pertCount_pertEnds ?_ ?_)
    | with_reducible refine keep_ite ?_ ?_
    | with_reducible apply Keep.step (keep_logPert _ _ _)
    | with_reducible apply Keep.step (keep_pertEnd _ _)
    | with_reducible apply Keep.step (keep_setReg _ _ _)
    | with_reducible apply Keep.step (keep_store _ _ _)
    | with_reducible apply Keep.step (n := 0xb0390800009005c26e0) (keep_write _ _ _ _ _ _ ?_ ?_)
    | with_reducible apply Keep.step (keep_id _)
    | exact rfl

theorem keep_execPerturbationStart (w : Writer) (i : Fin 16) (v : Nat) (s : State) : KeepR 0xb0390800009005c26e0 s (execPerturbationStart w i v s) := by
  unfold execPerturbationStart
  repeat' first
    | intro _
    | with_reducible assumption
    | with_reducible exact Keep.refl _ _
    | (extract_lets +onlyGivenNames vv; clear_value vv)
    | extract_lets +onlyGivenNames vv
    | with_reducible refine keep_ite ?_ ?_
    | with_reducible apply Keep.step (keep_pertWrite _ _ _ _)
    | exact rfl
    | with_reducible refine keepr_next ?_

theorem keep_execPerturbationStop (w : Writer) (i : Fin 16) (v : Nat) (s : State) : KeepR 0xb0390800009005c26e0 s (execPerturbationStop w i v s) := by
  unfold execPerturbationStop
  repeat' first
    | intro _
    | with_reducible assumption
    | with_reducible exact Keep.refl _ _
    | (extract_lets +onlyGivenNames vv; clear_value vv)
    | extract_lets +onlyGivenNames vv
    | with_reducible refine keep_ite ?_ ?_
    | with_reducible apply Keep.step (keep_pertWrite _ _ _ _)
    | exact rfl
    | with_reducible refine keepr_next ?_

theorem keep_execPerturbationExpiry (i : Fin 16) (s : State) : KeepR 0x8100000026 s (execPerturbationExpiry i s) := by
  unfold execPerturbationExpiry
  repeat' first
    | intro _
    | with_reducible assumption
    | with_reducible exact Keep.refl _ _
    | (extract_lets +onlyGivenNames vv; clear_value vv)
    | extract_lets +onlyGivenNames vv
    | with_reducible refine keep_ite ?_ ?_
    | with_reducible apply Keep.step (keep_pertEnd _ _)
    | with_reducible apply Keep.step (keep_until _ _)
    | exact rfl
    | with_reducible refine keepr_next ?_

theorem keep_execPerturbationStopAll (w : Writer) (v : Nat) (s : State) : KeepR 0xb0090800009005c26e0 s (execPerturbationStopAll w v s) := by
  unfold execPerturbationStopAll
  repeat' first
    | intro _
    | with_reducible assumption
    | with_reducible exact Keep.refl _ _
    | (extract_lets +onlyGivenNames vv; clear_value vv)
    | extract_lets +onlyGivenNames vv
    | with_reducible refine keep_ite ?_ ?_
    | with_reducible apply Keep.step (n := 0xb0090800009005c26e0) (keep_command _ _ _ _ _ _ ?_ ?_)
    | with_reducible apply Keep.step (keep_pertEndAll _)
    | with_reducible apply Keep.step (keep_id _)
    | exact rfl
    | with_reducible refine keepr_next ?_

end Sys2Proof.Machine
end

