-- ==== Sys2Proof/Laws/KeepEvents.lean ====
section
/-! SUPPORT. What each operation and each command of `Machine/Events.lean` keeps: the parts of the state outside its mask, and
the invariant. -/

namespace Sys2Proof.Machine
open Sys2Proof

theorem keep_execEventRaise (n : Fin 1024) (data : Nat) (s : State) : KeepR 0x300110000087c1c2040 s (execEventRaise n data s) := by
  unfold execEventRaise
  repeat' first
    | intro _
    | with_reducible assumption
    | with_reducible exact Keep.refl _ _
    | (extract_lets +onlyGivenNames vv; clear_value vv)
    | extract_lets +onlyGivenNames vv
    | with_reducible refine keep_ite ?_ ?_
    | with_reducible apply Keep.step (keep_raise _ _ _)
    | exact rfl
    | with_reducible refine keepr_next ?_

theorem keep_execSourceCfgWrite (w : Writer) (n : Fin 1024) (v : Nat) (s : State) : KeepR 0xb0090800008645c26e0 s (execSourceCfgWrite w n v s) := by
  unfold execSourceCfgWrite
  try dsimp only
  repeat' first
    | intro _
    | with_reducible assumption
    | with_reducible exact Keep.refl _ _
    | with_reducible refine keep_ite ?_ ?_
    | with_reducible apply Keep.step (keep_settle _)
    | with_reducible apply Keep.step (keep_store _ _ _)
    | with_reducible apply Keep.step (n := 0xb0090800008645c26e0) (keep_write _ _ _ _ _ _ ?_ ?_)
    | with_reducible apply Keep.step (keep_id _)
    | exact rfl
    | with_reducible refine keepr_next ?_

theorem keep_execClaimRead (t : Fin 3) (s : State) : KeepR 0x80044000000 s (execClaimRead t s) := by
  unfold execClaimRead
  repeat' first
    | intro _
    | with_reducible assumption
    | with_reducible exact Keep.refl _ _
    | (extract_lets +onlyGivenNames vv; have hv : Keep 0x80044000000 s vv; unfold vv; clear vv; rotate_left; try clear_value vv; rotate_left)
    | (extract_lets +onlyGivenNames vv; clear_value vv)
    | extract_lets +onlyGivenNames vv
    | with_reducible refine keep_ite ?_ ?_
    | with_reducible apply Keep.step (keep_busRead _ _ _ _)
    | with_reducible apply Keep.step (keep_fireHost _)
    | with_reducible apply Keep.step (keep_setSrc _ _ _)
    | exact rfl
    | with_reducible refine keepr_next ?_
    | with_reducible exact keepr_fault
    | with_reducible refine keepr_ite ?_ ?_
    | with_reducible refine keep_foldl (fun _ _ _ => ?_) _ ?_
    | with_reducible exact cellsWf_filter _ (by assumption) _
    | with_reducible exact cellsWf_cellSet _ (by assumption) _ _
    | with_reducible refine keep_snd (by with_reducible assumption) ?_
    | with_reducible refine keep_fst (by with_reducible assumption) ?_
    | split

theorem keep_execCompleteWrite (t : Fin 3) (v : Nat) (s : State) : KeepR 0x30010000008641c2040 s (execCompleteWrite t v s) := by
  unfold execCompleteWrite
  repeat' first
    | intro _
    | with_reducible assumption
    | with_reducible exact Keep.refl _ _
    | (extract_lets +onlyGivenNames vv; clear_value vv)
    | extract_lets +onlyGivenNames vv
    | with_reducible refine keep_ite ?_ ?_
    | with_reducible apply Keep.step (keep_bump _ _)
    | with_reducible apply Keep.step (keep_completeSrc _ _)
    | exact rfl
    | with_reducible refine keepr_next ?_

theorem keep_execRemoteCompleteWrite (w : Writer) (v : Nat) (s : State) : KeepR 0xb0090800008645c26c0 s (execRemoteCompleteWrite w v s) := by
  unfold execRemoteCompleteWrite
  try dsimp only
  repeat' first
    | intro _
    | with_reducible assumption
    | with_reducible exact Keep.refl _ _
    | with_reducible refine keep_ite ?_ ?_
    | with_reducible apply Keep.step (keep_completeSrc _ _)
    | with_reducible apply Keep.step (n := 0xb0090800008645c26c0) (keep_write _ _ _ _ _ _ ?_ ?_)
    | with_reducible apply Keep.step (keep_id _)
    | exact rfl
    | with_reducible refine keepr_next ?_

theorem keep_withdraw (s : State) (n : Nat) : Keep 0x4000000 s (State.withdraw s n) := by
  unfold State.withdraw
  repeat' first
    | intro _
    | with_reducible assumption
    | with_reducible exact Keep.refl _ _
    | (extract_lets +onlyGivenNames vv; clear_value vv)
    | extract_lets +onlyGivenNames vv
    | with_reducible refine keep_ite ?_ ?_
    | with_reducible apply Keep.step (keep_setSrc _ _ _)
    | exact rfl

theorem keep_execReofferTimeout (n : Fin 1024) (s : State) : KeepR 0x30010000088641c2046 s (execReofferTimeout n s) := by
  unfold execReofferTimeout
  repeat' first
    | intro _
    | with_reducible assumption
    | with_reducible exact Keep.refl _ _
    | (extract_lets +onlyGivenNames vv; have hv : Keep 0x30010000088641c2046 s vv; unfold vv; clear vv; rotate_left; try clear_value vv; rotate_left)
    | (extract_lets +onlyGivenNames vv; clear_value vv)
    | extract_lets +onlyGivenNames vv
    | with_reducible refine keep_ite ?_ ?_
    | with_reducible apply Keep.step (keep_bump _ _)
    | with_reducible apply Keep.step (keep_settle _)
    | with_reducible apply Keep.step (keep_until _ _)
    | with_reducible apply Keep.step (keep_withdraw _ _)
    | exact rfl
    | with_reducible refine keepr_next ?_

theorem keep_remotesWithdraw (s : State) : Keep 0x30010000008641c2040 s (State.remotesWithdraw s) := by
  unfold State.remotesWithdraw
  repeat' first
    | intro _
    | with_reducible assumption
    | with_reducible exact Keep.refl _ _
    | (extract_lets +onlyGivenNames vv; clear_value vv)
    | extract_lets +onlyGivenNames vv
    | with_reducible refine keep_ite ?_ ?_
    | with_reducible apply Keep.step (keep_settle _)
    | with_reducible apply Keep.step (keep_withdraw _ _)
    | exact rfl
    | with_reducible refine keep_foldl (fun _ _ _ => ?_) _ ?_

theorem keep_hostUnready (s : State) : Keep 0x30010000008641c2040 s (State.hostUnready s) := by
  unfold State.hostUnready
  repeat' first
    | intro _
    | with_reducible assumption
    | with_reducible exact Keep.refl _ _
    | (extract_lets +onlyGivenNames vv; have hv : Keep 0x30010000008641c2040 s vv; unfold vv; clear vv; rotate_left; try clear_value vv; rotate_left)
    | (extract_lets +onlyGivenNames vv; clear_value vv)
    | extract_lets +onlyGivenNames vv
    | with_reducible refine keep_ite ?_ ?_
    | with_reducible apply Keep.step (keep_bump _ _)
    | with_reducible apply Keep.step (keep_completeSrc _ _)
    | with_reducible apply Keep.step (keep_setSrc _ _ _)
    | with_reducible apply Keep.step (keep_settle _)
    | exact rfl
    | with_reducible refine keep_foldl (fun _ _ _ => ?_) _ ?_

theorem keep_execRaiseWrite (w : Writer) (v : Nat) (s : State) : KeepR 0xb00918000087c5c26c0 s (execRaiseWrite w v s) := by
  unfold execRaiseWrite
  repeat' first
    | intro _
    | with_reducible assumption
    | with_reducible exact Keep.refl _ _
    | (extract_lets +onlyGivenNames vv; clear_value vv)
    | extract_lets +onlyGivenNames vv
    | with_reducible refine keep_ite ?_ ?_
    | with_reducible apply Keep.step (keep_raise _ _ _)
    | with_reducible apply Keep.step (n := 0xb00918000087c5c26c0) (keep_write _ _ _ _ _ _ ?_ ?_)
    | with_reducible apply Keep.step (keep_id _)
    | exact rfl
    | with_reducible refine keepr_next ?_

theorem keep_execSidebandAckWrite (w : Writer) (k : Fin 16) (v : Nat) (s : State) : KeepR 0xb0090800008005c26e0 s (execSidebandAckWrite w k v s) := by
  unfold execSidebandAckWrite
  repeat' first
    | intro _
    | with_reducible assumption
    | with_reducible exact Keep.refl _ _
    | (extract_lets +onlyGivenNames vv; clear_value vv)
    | extract_lets +onlyGivenNames vv
    | with_reducible refine keep_ite ?_ ?_
    | with_reducible apply Keep.step (keep_setReg _ _ _)
    | with_reducible apply Keep.step (n := 0xb0090800008005c26e0) (keep_write _ _ _ _ _ _ ?_ ?_)
    | with_reducible apply Keep.step (keep_id _)
    | exact rfl
    | with_reducible refine keepr_next ?_

theorem keep_fenceIssue {m : Nat} (s : State) (w : Writer) (kind ticket : Nat) (eff : State → State) (heff : ∀ s , Keep m s (eff s )) (hm : Nat.land 0xb0096800008005c26e0 m = 0xb0096800008005c26e0) : Keep m s (State.fenceIssue s w kind ticket eff) := by
  unfold State.fenceIssue
  try dsimp only
  repeat' first
    | intro _
    | with_reducible assumption
    | with_reducible exact Keep.refl _ _
    | (simp -zeta only [keepAt_mk]; with_reducible refine keep_mk_fences_fenceOrder ?_ ?_)
    | with_reducible refine keep_ite ?_ ?_
    | with_reducible apply Keep.step (keep_bump _ _)
    | with_reducible apply Keep.step (keep_setReg _ _ _)
    | with_reducible apply Keep.step (n := m) (keep_write _ _ _ _ _ _ ?_ ?_)
    | with_reducible apply Keep.step (heff _)
    | with_reducible apply Keep.step (keep_id _)
    | with_reducible exact keep_self _
    | exact keep_sub rfl hm

theorem keep_sendWrite (s : State) (f : Frame) (own ring : Bool) : Keep 0x30091183009fd5c2260 s (State.sendWrite s f own ring) := by
  unfold State.sendWrite
  repeat' first
    | intro _
    | with_reducible assumption
    | with_reducible exact Keep.refl _ _
    | (extract_lets +onlyGivenNames vv; have hv : Keep 0x30091183009fd5c2260 s vv; unfold vv; clear vv; rotate_left; try clear_value vv; rotate_left)
    | (extract_lets +onlyGivenNames vv; clear_value vv)
    | extract_lets +onlyGivenNames vv
    | (simp -zeta only [keepAt_mk]; with_reducible refine keep_mk_writeHeld ?_ ?_)
    | with_reducible refine keep_ite ?_ ?_
    | with_reducible apply Keep.step (keep_originate _ _)
    | with_reducible apply Keep.step (keep_swOwn _ _ _ _ _)
    | exact rfl

theorem keep_fenceDone (s : State) (i result : Nat) : Keep 0x30097183009fd5c2260 s (State.fenceDone s i result) := by
  unfold State.fenceDone
  repeat' first
    | intro _
    | with_reducible assumption
    | with_reducible exact Keep.refl _ _
    | (extract_lets +onlyGivenNames vv; have hv : Keep 0x30097183009fd5c2260 s vv; unfold vv; clear vv; rotate_left; try clear_value vv; rotate_left)
    | (extract_lets +onlyGivenNames vv; clear_value vv)
    | extract_lets +onlyGivenNames vv
    | (simp -zeta only [keepAt_mk]; first | with_reducible refine keep_mk_writeHeld ?_ ?_ | with_reducible refine keep_mk_fences_fenceOrder ?_ ?_)
    | with_reducible refine keep_ite ?_ ?_
    | with_reducible apply Keep.step (keep_bump _ _)
    | with_reducible apply Keep.step (keep_raise _ _ _)
    | with_reducible apply Keep.step (keep_sendWrite _ _ _ _)
    | with_reducible apply Keep.step (keep_setReg _ _ _)
    | exact rfl
    | with_reducible refine keep_foldl (fun _ _ _ => ?_) _ ?_

theorem keep_execFenceIssueLocal (w : Writer) (ticket : Fin 65536) (s : State) : KeepR 0xb0096800008005c26e0 s (execFenceIssueLocal w ticket s) := by
  unfold execFenceIssueLocal
  repeat' first
    | intro _
    | with_reducible assumption
    | with_reducible exact Keep.refl _ _
    | (extract_lets +onlyGivenNames vv; clear_value vv)
    | extract_lets +onlyGivenNames vv
    | with_reducible refine keep_ite ?_ ?_
    | with_reducible apply Keep.step (n := 0xb0096800008005c26e0) (keep_fenceIssue _ _ _ _ _ ?_ ?_)
    | with_reducible apply Keep.step (keep_id _)
    | exact rfl
    | with_reducible refine keepr_next ?_

theorem keep_execFenceIssueImage (w : Writer) (ticket : Fin 65536) (s : State) : KeepR 0xb0096800008005c26e0 s (execFenceIssueImage w ticket s) := by
  unfold execFenceIssueImage
  repeat' first
    | intro _
    | with_reducible assumption
    | with_reducible exact Keep.refl _ _
    | (extract_lets +onlyGivenNames vv; clear_value vv)
    | extract_lets +onlyGivenNames vv
    | with_reducible refine keep_ite ?_ ?_
    | with_reducible apply Keep.step (n := 0xb0096800008005c26e0) (keep_fenceIssue _ _ _ _ _ ?_ ?_)
    | with_reducible apply Keep.step (keep_id _)
    | exact rfl
    | with_reducible refine keepr_next ?_

theorem keep_execFenceIssueTable (w : Writer) (ticket : Fin 65536) (s : State) : KeepR 0xb0096800008005c26e0 s (execFenceIssueTable w ticket s) := by
  unfold execFenceIssueTable
  repeat' first
    | intro _
    | with_reducible assumption
    | with_reducible exact Keep.refl _ _
    | (extract_lets +onlyGivenNames vv; clear_value vv)
    | extract_lets +onlyGivenNames vv
    | with_reducible refine keep_ite ?_ ?_
    | with_reducible apply Keep.step (n := 0xb0096800008005c26e0) (keep_fenceIssue _ _ _ _ _ ?_ ?_)
    | with_reducible apply Keep.step (keep_id _)
    | exact rfl
    | with_reducible refine keepr_next ?_

theorem keep_execFenceIssueRing (w : Writer) (ticket : Fin 65536) (s : State) : KeepR 0xb0096800008005c26e0 s (execFenceIssueRing w ticket s) := by
  unfold execFenceIssueRing
  repeat' first
    | intro _
    | with_reducible assumption
    | with_reducible exact Keep.refl _ _
    | (extract_lets +onlyGivenNames vv; clear_value vv)
    | extract_lets +onlyGivenNames vv
    | with_reducible refine keep_ite ?_ ?_
    | with_reducible apply Keep.step (n := 0xb0096800008005c26e0) (keep_fenceIssue _ _ _ _ _ ?_ ?_)
    | with_reducible apply Keep.step (keep_originate _ _)
    | exact rfl
    | with_reducible refine keepr_next ?_

theorem keep_execFenceLocalDone (i : Fin 16) (s : State) : KeepR 0x30097183009fd5c2260 s (execFenceLocalDone i s) := by
  unfold execFenceLocalDone
  repeat' first
    | intro _
    | with_reducible assumption
    | with_reducible exact Keep.refl _ _
    | (extract_lets +onlyGivenNames vv; clear_value vv)
    | extract_lets +onlyGivenNames vv
    | with_reducible refine keep_ite ?_ ?_
    | with_reducible apply Keep.step (keep_fenceDone _ _ _)
    | exact rfl
    | with_reducible refine keepr_next ?_

theorem keep_execFenceImageDone (i : Fin 16) (s : State) : KeepR 0x30097183089fd5c2266 s (execFenceImageDone i s) := by
  unfold execFenceImageDone
  repeat' first
    | intro _
    | with_reducible assumption
    | with_reducible exact Keep.refl _ _
    | (extract_lets +onlyGivenNames vv; clear_value vv)
    | extract_lets +onlyGivenNames vv
    | with_reducible refine keep_ite ?_ ?_
    | with_reducible apply Keep.step (keep_fenceDone _ _ _)
    | with_reducible apply Keep.step (keep_untilFtime _ _)
    | exact rfl
    | with_reducible refine keepr_next ?_

theorem keep_execFenceTableDone (i : Fin 16) (s : State) : KeepR 0x30097183009fd5c2260 s (execFenceTableDone i s) := by
  unfold execFenceTableDone
  repeat' first
    | intro _
    | with_reducible assumption
    | with_reducible exact Keep.refl _ _
    | (extract_lets +onlyGivenNames vv; clear_value vv)
    | extract_lets +onlyGivenNames vv
    | with_reducible refine keep_ite ?_ ?_
    | with_reducible apply Keep.step (keep_fenceDone _ _ _)
    | exact rfl
    | with_reducible refine keepr_next ?_

theorem keep_execFenceRingReturn (ticket : Fin 65536) (s : State) : KeepR 0x30097183009fd5c2260 s (execFenceRingReturn ticket s) := by
  unfold execFenceRingReturn
  repeat' first
    | intro _
    | with_reducible assumption
    | with_reducible exact Keep.refl _ _
    | (extract_lets +onlyGivenNames vv; clear_value vv)
    | extract_lets +onlyGivenNames vv
    | with_reducible refine keep_ite ?_ ?_
    | with_reducible apply Keep.step (keep_fenceDone _ _ _)
    | exact rfl
    | with_reducible refine keepr_next ?_
    | with_reducible exact keepr_fault
    | with_reducible refine keepr_ite ?_ ?_
    | with_reducible refine keep_foldl (fun _ _ _ => ?_) _ ?_
    | with_reducible exact cellsWf_filter _ (by assumption) _
    | with_reducible exact cellsWf_cellSet _ (by assumption) _ _
    | with_reducible refine keep_snd (by with_reducible assumption) ?_
    | with_reducible refine keep_fst (by with_reducible assumption) ?_
    | split

theorem keep_execFenceTimeout (i : Fin 16) (s : State) : KeepR 0x30097183089fd5c2266 s (execFenceTimeout i s) := by
  unfold execFenceTimeout
  repeat' first
    | intro _
    | with_reducible assumption
    | with_reducible exact Keep.refl _ _
    | (extract_lets +onlyGivenNames vv; clear_value vv)
    | extract_lets +onlyGivenNames vv
    | with_reducible refine keep_ite ?_ ?_
    | with_reducible apply Keep.step (keep_fenceDone _ _ _)
    | with_reducible apply Keep.step (keep_until _ _)
    | exact rfl
    | with_reducible refine keepr_next ?_

end Sys2Proof.Machine
end

