-- ==== Sys2Proof/Laws/KeepImage.lean ====
section
/-! SUPPORT. What each operation and each command of `Machine/Image.lean` keeps: the parts of the state outside its mask, and
the invariant. -/

namespace Sys2Proof.Machine
open Sys2Proof

theorem keep_sourceWord (s : State) (es : List Nat) (o : Nat) : Keep 0x100 s (State.sourceWord s es o).2 := by
  unfold State.sourceWord
  repeat' first
    | intro _
    | with_reducible assumption
    | with_reducible exact Keep.refl _ _
    | (extract_lets +onlyGivenNames vv; clear_value vv)
    | extract_lets +onlyGivenNames vv
    | with_reducible refine keep_ite ?_ ?_
    | with_reducible apply Keep.step (keep_read _ _)
    | exact rfl
    | with_reducible refine keep_foldl (fun _ _ _ => ?_) _ ?_
    | with_reducible exact cellsWf_filter _ (by assumption) _
    | with_reducible exact cellsWf_cellSet _ (by assumption) _ _
    | with_reducible refine keep_snd (by with_reducible assumption) ?_
    | with_reducible refine keep_fst (by with_reducible assumption) ?_
    | split

theorem keep_sampleWord (s : State) (es : List Nat) (o : Nat) : Keep 0x1000000100 s (State.sampleWord s es o).2 := by
  unfold State.sampleWord
  repeat' first
    | intro _
    | with_reducible assumption
    | with_reducible exact Keep.refl _ _
    | (extract_lets +onlyGivenNames vv; clear_value vv)
    | extract_lets +onlyGivenNames vv
    | (simp -zeta only [keepAt_mk]; with_reducible refine keep_mk_img ?_ ?_)
    | with_reducible refine keep_ite ?_ ?_
    | with_reducible apply Keep.step (keep_sourceWord _ _ _)
    | exact rfl
    | with_reducible refine keep_foldl (fun _ _ _ => ?_) _ ?_
    | with_reducible exact cellsWf_filter _ (by assumption) _
    | with_reducible exact cellsWf_cellSet _ (by assumption) _ _
    | with_reducible refine keep_snd (by with_reducible assumption) ?_
    | with_reducible refine keep_fst (by with_reducible assumption) ?_
    | split

theorem keep_sampleFrom (es : List Nat) (n : Nat) : ∀ (s : State) (o : Nat), Keep 0x1000000100 s (s.sampleFrom es n o).2 := by
  induction n with
  | zero => intro s o; exact Keep.refl _ _
  | succ n ih =>
    intro s o
    have h : Keep 0x1000000100 s (s.sampleWord es o).2 := (keep_sampleWord s es o).mono rfl
    unfold State.sampleFrom
    generalize s.sampleWord es o = p at h ⊢
    dsimp only
    exact Keep.step (ih _ _) rfl ((keep_mk_img h rfl).keep)

theorem keep_execTurnBoundary (s : State) : KeepR 0x30091083099fd5c2366 s (execTurnBoundary s) := by
  unfold execTurnBoundary
  repeat' first
    | intro _
    | with_reducible assumption
    | with_reducible exact Keep.refl _ _
    | (extract_lets +onlyGivenNames vv; clear_value vv)
    | extract_lets +onlyGivenNames vv
    | (simp -zeta only [keepAt_mk]; with_reducible refine keep_mk_img ?_ ?_)
    | with_reducible refine keep_ite ?_ ?_
    | with_reducible apply Keep.step (keep_faultLevel _ _ _ _ _)
    | with_reducible apply Keep.step (keep_sampleFrom _ _ _ _)
    | with_reducible apply Keep.step (keep_setReg _ _ _)
    | with_reducible apply Keep.step (keep_untilFtime _ _)
    | exact rfl
    | with_reducible refine keepr_next ?_
    | with_reducible exact keepr_fault
    | with_reducible refine keepr_ite ?_ ?_

theorem cellsWf_foldl_cellSet {α β : Type} [DecidableEq α] (d : Nat → α) (f : β → Nat) (g : β → α) (l : List β) :
    ∀ m : Cells α, cellsWf d m = true → cellsWf d (l.foldl (fun m b => cellSet d m (f b) (g b)) m) = true := by
  induction l with
  | nil => intro m h; exact h
  | cons b l ih => intro m h; exact ih _ (cellsWf_cellSet d h _ _)

theorem keep_mirrorRun (s : State) (w : Window) (turn : Nat) (r : Nat × List Nat) : Keep 0x2000000040 s (s.mirrorRun w turn r) := by
  unfold State.mirrorRun
  split
  · exact (keep_bump _ _).mono rfl
  · exact (keep_mk_mirror (fun h => cellsWf_foldl_cellSet _ _ _ _ _ h) (Keep.refl _ _) rfl).keep

theorem keep_setWindow (s : State) (w : Window) : Keep 0x1000000000 s (State.setWindow s w) := by
  unfold State.setWindow
  repeat' first
    | intro _
    | with_reducible assumption
    | with_reducible exact Keep.refl _ _
    | (extract_lets +onlyGivenNames vv; clear_value vv)
    | extract_lets +onlyGivenNames vv
    | (simp -zeta only [keepAt_mk]; with_reducible refine keep_mk_img ?_ ?_)
    | with_reducible refine keep_ite ?_ ?_
    | exact rfl

theorem keep_imageEnter (s : State) (w : Window) (t src index : Nat) (last : Bool) (rs : List (Nat × List Nat)) : Keep 0x3000000040 s (State.imageEnter s w t src index last rs) := by
  unfold State.imageEnter
  repeat' first
    | intro _
    | with_reducible assumption
    | with_reducible exact Keep.refl _ _
    | (extract_lets +onlyGivenNames vv; have hv : Keep 0x3000000040 s vv; unfold vv; clear vv; rotate_left; try clear_value vv; rotate_left)
    | (extract_lets +onlyGivenNames vv; clear_value vv)
    | extract_lets +onlyGivenNames vv
    | with_reducible refine keep_ite ?_ ?_
    | with_reducible apply Keep.step (keep_bump _ _)
    | with_reducible apply Keep.step (keep_mirrorRun _ _ _ _)
    | with_reducible apply Keep.step (keep_setWindow _ _)
    | exact rfl
    | with_reducible refine keep_foldl (fun _ _ _ => ?_) _ ?_

theorem keep_publishFrame (s : State) (n index : Nat) (last : Bool) (rs : List (Nat × Nat)) (p : List Byte) : Keep 0x30010000038001c2040 s (State.publishFrame s n index last rs p) := by
  unfold State.publishFrame
  repeat' first
    | intro _
    | with_reducible assumption
    | with_reducible exact Keep.refl _ _
    | (extract_lets +onlyGivenNames vv; have hv : Keep 0x30010000038001c2040 s vv; unfold vv; clear vv; rotate_left; try clear_value vv; rotate_left)
    | (extract_lets +onlyGivenNames vv; clear_value vv)
    | extract_lets +onlyGivenNames vv
    | with_reducible refine keep_ite ?_ ?_
    | with_reducible apply Keep.step (keep_addCount _ _ _)
    | with_reducible apply Keep.step (keep_bump _ _)
    | with_reducible apply Keep.step (keep_imageEnter _ _ _ _ _ _ _)
    | with_reducible apply Keep.step (keep_originate _ _)
    | exact rfl
    | with_reducible refine keep_foldl (fun _ _ _ => ?_) _ ?_
    | with_reducible exact cellsWf_filter _ (by assumption) _
    | with_reducible exact cellsWf_cellSet _ (by assumption) _ _
    | with_reducible refine keep_snd (by with_reducible assumption) ?_
    | with_reducible refine keep_fst (by with_reducible assumption) ?_
    | split

theorem keep_execPublishSlot (s : State) : KeepR 0x300100000f8001c2046 s (execPublishSlot s) := by
  unfold execPublishSlot
  repeat' first
    | intro _
    | with_reducible assumption
    | with_reducible exact Keep.refl _ _
    | (extract_lets +onlyGivenNames vv; have hv : Keep 0x300100000f8001c2046 s vv; unfold vv; clear vv; rotate_left; try clear_value vv; rotate_left)
    | (extract_lets +onlyGivenNames vv; clear_value vv)
    | extract_lets +onlyGivenNames vv
    | (simp -zeta only [keepAt_mk]; first | with_reducible refine keep_mk_img ?_ ?_ | with_reducible refine keep_mk_img_hist ?_ ?_ ?_)
    | with_reducible refine keep_ite ?_ ?_
    | with_reducible apply Keep.step (keep_bump _ _)
    | with_reducible apply Keep.step (keep_publishFrame _ _ _ _ _ _)
    | with_reducible apply Keep.step (keep_untilFtime _ _)
    | exact rfl
    | with_reducible refine keepr_next ?_
    | with_reducible exact keepr_fault
    | with_reducible refine keepr_ite ?_ ?_
    | with_reducible refine keep_foldl (fun _ _ _ => ?_) _ ?_
    | with_reducible exact cellsWf_filter _ (by assumption) _
    | with_reducible exact cellsWf_cellSet _ (by assumption) _ _
    | (show List.length _ ≤ 64; simp)
    | with_reducible refine keep_snd (by with_reducible assumption) ?_
    | with_reducible refine keep_fst (by with_reducible assumption) ?_
    | split

theorem keep_execMapRebuildTimeout (s : State) : KeepR 0x300910830b9fd5c2266 s (execMapRebuildTimeout s) := by
  unfold execMapRebuildTimeout
  repeat' first
    | intro _
    | with_reducible assumption
    | with_reducible exact Keep.refl _ _
    | (extract_lets +onlyGivenNames vv; clear_value vv)
    | extract_lets +onlyGivenNames vv
    | with_reducible refine keep_ite ?_ ?_
    | with_reducible apply Keep.step (keep_mapRebuild _)
    | with_reducible apply Keep.step (keep_until _ _)
    | exact rfl
    | with_reducible refine keepr_next ?_
    | with_reducible exact keepr_fault
    | with_reducible refine keepr_ite ?_ ?_
    | with_reducible refine keep_foldl (fun _ _ _ => ?_) _ ?_
    | with_reducible exact cellsWf_filter _ (by assumption) _
    | with_reducible exact cellsWf_cellSet _ (by assumption) _ _
    | with_reducible refine keep_snd (by with_reducible assumption) ?_
    | with_reducible refine keep_fst (by with_reducible assumption) ?_
    | split

theorem keep_execImageFrameReceived (f : Fin 4) (fr : Frame) (tag : TagCheck) (s : State) : KeepR 0x30091083039fd5d2260 s (execImageFrameReceived f fr tag s) := by
  unfold execImageFrameReceived
  repeat' first
    | intro _
    | with_reducible assumption
    | with_reducible exact Keep.refl _ _
    | (extract_lets +onlyGivenNames vv; have hv : Keep 0x30091083039fd5d2260 s vv; unfold vv; clear vv; rotate_left; try clear_value vv; rotate_left)
    | (extract_lets +onlyGivenNames vv; clear_value vv)
    | extract_lets +onlyGivenNames vv
    | with_reducible refine keep_ite ?_ ?_
    | with_reducible apply Keep.step (keep_bump _ _)
    | with_reducible apply Keep.step (keep_imageEnter _ _ _ _ _ _ _)
    | with_reducible apply Keep.step (keep_tagTake _ _ _ _)
    | with_reducible apply Keep.step (keep_take _ _ _)
    | exact rfl
    | with_reducible refine keepr_next ?_
    | with_reducible exact keepr_fault
    | with_reducible refine keepr_ite ?_ ?_
    | with_reducible refine keep_foldl (fun _ _ _ => ?_) _ ?_
    | with_reducible exact cellsWf_filter _ (by assumption) _
    | with_reducible exact cellsWf_cellSet _ (by assumption) _ _
    | with_reducible refine keep_snd (by with_reducible assumption) ?_
    | with_reducible refine keep_fst (by with_reducible assumption) ?_
    | split

theorem keep_sendAck (s : State) (turn : Nat) (a : WriteAck) : Keep 0x30010400008001c2040 s (State.sendAck s turn a) := by
  unfold State.sendAck
  repeat' first
    | intro _
    | with_reducible assumption
    | with_reducible exact Keep.refl _ _
    | (extract_lets +onlyGivenNames vv; clear_value vv)
    | extract_lets +onlyGivenNames vv
    | (simp -zeta only [keepAt_mk]; with_reducible refine keep_mk_host ?_ ?_)
    | with_reducible refine keep_ite ?_ ?_
    | with_reducible apply Keep.step (keep_originate _ _)
    | exact rfl

theorem keep_takeWrite (s : State) (fr : Frame) (rs : List (Nat × List Nat)) : Keep 0x1000000040 s (State.takeWrite s fr rs) := by
  unfold State.takeWrite
  repeat' first
    | intro _
    | with_reducible assumption
    | with_reducible exact Keep.refl _ _
    | (extract_lets +onlyGivenNames vv; have hv : Keep 0x1000000040 s vv; unfold vv; clear vv; rotate_left; try clear_value vv; rotate_left)
    | (extract_lets +onlyGivenNames vv; clear_value vv)
    | extract_lets +onlyGivenNames vv
    | (simp -zeta only [keepAt_mk]; with_reducible refine keep_mk_img ?_ ?_)
    | with_reducible refine keep_ite ?_ ?_
    | with_reducible apply Keep.step (keep_addCount _ _ _)
    | with_reducible apply Keep.step (keep_bump _ _)
    | exact rfl

theorem keep_execImageWriteReceived (f : Fin 5) (fr : Frame) (tag : TagCheck) (s : State) : KeepR 0x30091483019fd5d2260 s (execImageWriteReceived f fr tag s) := by
  unfold execImageWriteReceived
  repeat' first
    | intro _
    | with_reducible assumption
    | with_reducible exact Keep.refl _ _
    | (extract_lets +onlyGivenNames vv; have hv : Keep 0x30091483019fd5d2260 s vv; unfold vv; clear vv; rotate_left; try clear_value vv; rotate_left)
    | (extract_lets +onlyGivenNames vv; clear_value vv)
    | extract_lets +onlyGivenNames vv
    | (simp -zeta only [keepAt_mk]; with_reducible refine keep_mk_host ?_ ?_)
    | with_reducible refine keep_ite ?_ ?_
    | with_reducible apply Keep.step (keep_bump _ _)
    | with_reducible apply Keep.step (keep_sendAck _ _ _)
    | with_reducible apply Keep.step (keep_tagTake _ _ _ _)
    | with_reducible apply Keep.step (keep_take _ _ _)
    | with_reducible apply Keep.step (keep_takeWrite _ _ _)
    | exact rfl
    | with_reducible refine keepr_next ?_
    | with_reducible exact keepr_fault
    | with_reducible refine keepr_ite ?_ ?_
    | with_reducible refine keep_foldl (fun _ _ _ => ?_) _ ?_
    | with_reducible exact cellsWf_filter _ (by assumption) _
    | with_reducible exact cellsWf_cellSet _ (by assumption) _ _
    | with_reducible refine keep_snd (by with_reducible assumption) ?_
    | with_reducible refine keep_fst (by with_reducible assumption) ?_
    | split

theorem keep_refresh (s : State) : Keep 0x400000000081000020 s (State.refresh s) := by
  unfold State.refresh
  repeat' first
    | intro _
    | with_reducible assumption
    | with_reducible exact Keep.refl _ _
    | (extract_lets +onlyGivenNames vv; have hv : Keep 0x400000000081000020 s vv; unfold vv; clear vv; rotate_left; try clear_value vv; rotate_left)
    | (extract_lets +onlyGivenNames vv; clear_value vv)
    | extract_lets +onlyGivenNames vv
    | (simp -zeta only [keepAt_mk]; with_reducible refine keep_mk_field ?_ ?_)
    | with_reducible refine keep_ite ?_ ?_
    | with_reducible apply Keep.step (keep_faultDown _ _)
    | with_reducible apply Keep.step (keep_fuseSync _ _)
    | with_reducible apply Keep.step (keep_unsteady _)
    | exact rfl
    | with_reducible refine keep_foldl (fun _ _ _ => ?_) _ ?_

theorem keep_commitWord (s : State) (es : List Nat) (o w : Nat) : Keep 0x34011043008fc1c2160 s (State.commitWord s es o w) := by
  unfold State.commitWord
  repeat' first
    | intro _
    | with_reducible assumption
    | with_reducible exact Keep.refl _ _
    | (extract_lets +onlyGivenNames vv; clear_value vv)
    | extract_lets +onlyGivenNames vv
    | with_reducible refine keep_ite ?_ ?_
    | with_reducible apply Keep.step (keep_fuseWord _ _ _)
    | with_reducible apply Keep.step (keep_lineWord _ _ _)
    | with_reducible apply Keep.step (keep_packedWord _ _ _ _)
    | with_reducible apply Keep.step (keep_pdOut _ _ _ _)
    | with_reducible apply Keep.step (keep_pxWord _ _ _)
    | with_reducible apply Keep.step (keep_setIol _ _ _)
    | with_reducible apply Keep.step (keep_setReg _ _ _)
    | exact rfl
    | with_reducible refine keep_foldl (fun _ _ _ => ?_) _ ?_
    | with_reducible exact cellsWf_filter _ (by assumption) _
    | with_reducible exact cellsWf_cellSet _ (by assumption) _ _
    | with_reducible refine keep_snd (by with_reducible assumption) ?_
    | with_reducible refine keep_fst (by with_reducible assumption) ?_
    | split

theorem keep_enterOperate (s : State) : Keep 0x32011183008fd5c2360 s (State.enterOperate s) := by
  unfold State.enterOperate
  repeat' first
    | intro _
    | with_reducible assumption
    | with_reducible exact Keep.refl _ _
    | (extract_lets +onlyGivenNames vv; clear_value vv)
    | extract_lets +onlyGivenNames vv
    | (simp -zeta only [keepAt_mk]; with_reducible refine keep_mk_hub ?_ ?_)
    | with_reducible refine keep_ite ?_ ?_
    | with_reducible apply Keep.step (keep_gatesAutocommit _)
    | with_reducible apply Keep.step (keep_setMode _ _ _ _)
    | with_reducible apply Keep.step (keep_whisksAutostart _)
    | exact rfl

theorem keep_execApplyInstant (s : State) : KeepR 0x360115c3098fd5c2366 s (execApplyInstant s) := by
  unfold execApplyInstant
  repeat' first
    | intro _
    | with_reducible assumption
    | with_reducible exact Keep.refl _ _
    | (extract_lets +onlyGivenNames vv; have hv : Keep 0x360115c3098fd5c2366 s vv; unfold vv; clear vv; rotate_left; try clear_value vv; rotate_left)
    | (extract_lets +onlyGivenNames vv; clear_value vv)
    | extract_lets +onlyGivenNames vv
    | (simp -zeta only [keepAt_mk]; with_reducible refine keep_mk_img ?_ ?_)
    | with_reducible refine keep_ite ?_ ?_
    | with_reducible apply Keep.step (keep_addCount _ _ _)
    | with_reducible apply Keep.step (keep_commitWord _ _ _ _)
    | with_reducible apply Keep.step (keep_enterOperate _)
    | with_reducible apply Keep.step (keep_refresh _)
    | with_reducible apply Keep.step (keep_sendAck _ _ _)
    | with_reducible apply Keep.step (keep_untilFtime _ _)
    | exact rfl
    | with_reducible refine keepr_next ?_
    | with_reducible exact keepr_fault
    | with_reducible refine keepr_ite ?_ ?_
    | with_reducible refine keep_foldl (fun _ _ _ => ?_) _ ?_
    | with_reducible exact cellsWf_filter _ (by assumption) _
    | with_reducible exact cellsWf_cellSet _ (by assumption) _ _
    | with_reducible refine keep_snd (by with_reducible assumption) ?_
    | with_reducible refine keep_fst (by with_reducible assumption) ?_
    | split

theorem keep_execApplyWake (s : State) : KeepR 0x200000008000000006 s (execApplyWake s) := by
  unfold execApplyWake
  repeat' first
    | intro _
    | with_reducible assumption
    | with_reducible exact Keep.refl _ _
    | (extract_lets +onlyGivenNames vv; clear_value vv)
    | extract_lets +onlyGivenNames vv
    | with_reducible refine keep_ite ?_ ?_
    | with_reducible apply Keep.step (keep_panWindow _ _ _)
    | with_reducible apply Keep.step (keep_untilFtime _ _)
    | exact rfl
    | with_reducible refine keepr_next ?_
    | with_reducible exact keepr_fault
    | with_reducible refine keepr_ite ?_ ?_
    | with_reducible refine keep_foldl (fun _ _ _ => ?_) _ ?_

theorem keep_execSnapshotComplete (s : State) : KeepR 0x60000000000000 s (execSnapshotComplete s) := by
  unfold execSnapshotComplete
  repeat' first
    | intro _
    | with_reducible assumption
    | with_reducible exact Keep.refl _ _
    | (extract_lets +onlyGivenNames vv; have hv : Keep 0x60000000000000 s vv; unfold vv; clear vv; rotate_left; try clear_value vv; rotate_left)
    | (extract_lets +onlyGivenNames vv; clear_value vv)
    | extract_lets +onlyGivenNames vv
    | (simp -zeta only [keepAt_mk]; with_reducible refine keep_mk_host ?_ ?_)
    | with_reducible refine keep_ite ?_ ?_
    | with_reducible apply Keep.step (keep_setBar _ _ _)
    | exact rfl
    | with_reducible refine keepr_next ?_
    | with_reducible exact keepr_fault
    | with_reducible refine keepr_ite ?_ ?_
    | with_reducible refine keep_foldl (fun _ _ _ => ?_) _ ?_
    | with_reducible exact cellsWf_filter _ (by assumption) _
    | with_reducible exact cellsWf_cellSet _ (by assumption) _ _
    | with_reducible refine keep_snd (by with_reducible assumption) ?_
    | with_reducible refine keep_fst (by with_reducible assumption) ?_
    | split

theorem keep_execBar2Write (s : State) : KeepR 0x40 s (execBar2Write s) := by
  unfold execBar2Write
  repeat' first
    | intro _
    | with_reducible assumption
    | with_reducible exact Keep.refl _ _
    | (extract_lets +onlyGivenNames vv; clear_value vv)
    | extract_lets +onlyGivenNames vv
    | with_reducible refine keep_ite ?_ ?_
    | with_reducible apply Keep.step (keep_bump _ _)
    | exact rfl
    | with_reducible refine keepr_next ?_

theorem keep_sendF3 (s : State) (payload : List Byte) : Keep 0x402040 s (State.sendF3 s payload) := by
  unfold State.sendF3
  repeat' first
    | intro _
    | with_reducible assumption
    | with_reducible exact Keep.refl _ _
    | (extract_lets +onlyGivenNames vv; clear_value vv)
    | extract_lets +onlyGivenNames vv
    | with_reducible refine keep_ite ?_ ?_
    | with_reducible apply Keep.step (keep_sendLocal _ _ _)
    | exact rfl

theorem keep_execImportRequestSend (s : State) : KeepR 0x9000402046 s (execImportRequestSend s) := by
  unfold execImportRequestSend
  repeat' first
    | intro _
    | with_reducible assumption
    | with_reducible exact Keep.refl _ _
    | (extract_lets +onlyGivenNames vv; have hv : Keep 0x9000402046 s vv; unfold vv; clear vv; rotate_left; try clear_value vv; rotate_left)
    | (extract_lets +onlyGivenNames vv; clear_value vv)
    | extract_lets +onlyGivenNames vv
    | (simp -zeta only [keepAt_mk]; with_reducible refine keep_mk_img ?_ ?_)
    | with_reducible refine keep_ite ?_ ?_
    | with_reducible apply Keep.step (keep_sendF3 _ _)
    | with_reducible apply Keep.step (keep_until _ _)
    | exact rfl
    | with_reducible refine keepr_next ?_
    | with_reducible exact keepr_fault
    | with_reducible refine keepr_ite ?_ ?_
    | with_reducible refine keep_foldl (fun _ _ _ => ?_) _ ?_
    | with_reducible exact cellsWf_filter _ (by assumption) _
    | with_reducible exact cellsWf_cellSet _ (by assumption) _ _
    | with_reducible refine keep_snd (by with_reducible assumption) ?_
    | with_reducible refine keep_fst (by with_reducible assumption) ?_
    | split

theorem keep_execImportRequestReceived (f : Fin 4) (fr : Frame) (s : State) : KeepR 0x1000412040 s (execImportRequestReceived f fr s) := by
  unfold execImportRequestReceived
  repeat' first
    | intro _
    | with_reducible assumption
    | with_reducible exact Keep.refl _ _
    | (extract_lets +onlyGivenNames vv; have hv : Keep 0x1000412040 s vv; unfold vv; clear vv; rotate_left; try clear_value vv; rotate_left)
    | (extract_lets +onlyGivenNames vv; clear_value vv)
    | extract_lets +onlyGivenNames vv
    | (simp -zeta only [keepAt_mk]; with_reducible refine keep_mk_img ?_ ?_)
    | with_reducible refine keep_ite ?_ ?_
    | with_reducible apply Keep.step (keep_sendF3 _ _)
    | with_reducible apply Keep.step (keep_take _ _ _)
    | exact rfl
    | with_reducible refine keepr_next ?_

theorem keep_execImportGrantReceived (f : Fin 4) (fr : Frame) (s : State) : KeepR 0x1000010000 s (execImportGrantReceived f fr s) := by
  unfold execImportGrantReceived
  repeat' first
    | intro _
    | with_reducible assumption
    | with_reducible exact Keep.refl _ _
    | (extract_lets +onlyGivenNames vv; have hv : Keep 0x1000010000 s vv; unfold vv; clear vv; rotate_left; try clear_value vv; rotate_left)
    | (extract_lets +onlyGivenNames vv; clear_value vv)
    | extract_lets +onlyGivenNames vv
    | (simp -zeta only [keepAt_mk]; with_reducible refine keep_mk_img ?_ ?_)
    | with_reducible refine keep_ite ?_ ?_
    | with_reducible apply Keep.step (keep_take _ _ _)
    | exact rfl
    | with_reducible refine keepr_next ?_

theorem keep_setForces (s : State) (m : Cells (Option Nat)) : Keep 0x1000000020 s (State.setForces s m) := by
  unfold State.setForces
  repeat' first
    | intro _
    | with_reducible assumption
    | with_reducible exact Keep.refl _ _
    | (extract_lets +onlyGivenNames vv; clear_value vv)
    | extract_lets +onlyGivenNames vv
    | (simp -zeta only [keepAt_mk]; with_reducible refine keep_mk_img ?_ ?_)
    | with_reducible refine keep_ite ?_ ?_
    | with_reducible apply Keep.step (keep_setReg _ _ _)
    | exact rfl

theorem keep_releaseForces (s : State) : Keep 0x1000000020 s (State.releaseForces s) := by
  unfold State.releaseForces
  repeat' first
    | intro _
    | with_reducible assumption
    | with_reducible exact Keep.refl _ _
    | (extract_lets +onlyGivenNames vv; clear_value vv)
    | extract_lets +onlyGivenNames vv
    | with_reducible refine keep_ite ?_ ?_
    | with_reducible apply Keep.step (keep_setForces _ _)
    | exact rfl

theorem keep_execForceWord (w : Writer) (s : State) : KeepR 0xb0090800019005c26e0 s (execForceWord w s) := by
  unfold execForceWord
  repeat' first
    | intro _
    | with_reducible assumption
    | with_reducible exact Keep.refl _ _
    | (extract_lets +onlyGivenNames vv; clear_value vv)
    | extract_lets +onlyGivenNames vv
    | with_reducible refine keep_ite ?_ ?_
    | with_reducible apply Keep.step (keep_logRecord _ _ _)
    | with_reducible apply Keep.step (keep_setForces _ _)
    | with_reducible apply Keep.step (n := 0xb0090800019005c26e0) (keep_write _ _ _ _ _ _ ?_ ?_)
    | with_reducible apply Keep.step (keep_id _)
    | exact rfl
    | with_reducible refine keepr_next ?_

theorem keep_execForceRelease (w : Writer) (s : State) : KeepR 0xb0090800018005c26e0 s (execForceRelease w s) := by
  unfold execForceRelease
  repeat' first
    | intro _
    | with_reducible assumption
    | with_reducible exact Keep.refl _ _
    | (extract_lets +onlyGivenNames vv; clear_value vv)
    | extract_lets +onlyGivenNames vv
    | with_reducible refine keep_ite ?_ ?_
    | with_reducible apply Keep.step (keep_setForces _ _)
    | with_reducible apply Keep.step (n := 0xb0090800018005c26e0) (keep_write _ _ _ _ _ _ ?_ ?_)
    | with_reducible apply Keep.step (keep_id _)
    | exact rfl
    | with_reducible refine keepr_next ?_

theorem keep_execForceReleaseAll (w : Writer) (s : State) : KeepR 0xb0090800018005c26e0 s (execForceReleaseAll w s) := by
  unfold execForceReleaseAll
  repeat' first
    | intro _
    | with_reducible assumption
    | with_reducible exact Keep.refl _ _
    | (extract_lets +onlyGivenNames vv; clear_value vv)
    | extract_lets +onlyGivenNames vv
    | with_reducible refine keep_ite ?_ ?_
    | with_reducible apply Keep.step (keep_releaseForces _)
    | with_reducible apply Keep.step (n := 0xb0090800018005c26e0) (keep_write _ _ _ _ _ _ ?_ ?_)
    | with_reducible apply Keep.step (keep_id _)
    | exact rfl
    | with_reducible refine keepr_next ?_

end Sys2Proof.Machine
end

