-- ==== Sys2Proof/Laws/KeepHost.lean ====
section
/-! SUPPORT. What each operation and each command of `Machine/Host.lean` keeps: the parts of the state outside its mask, and
the invariant. -/

namespace Sys2Proof.Machine
open Sys2Proof

theorem keep_execStateRequestPreop (w : Writer) (s : State) : KeepR 0xb00918830087d5c26c0 s (execStateRequestPreop w s) := by
  unfold execStateRequestPreop
  repeat' first
    | intro _
    | with_reducible assumption
    | with_reducible exact Keep.refl _ _
    | (extract_lets +onlyGivenNames vv; clear_value vv)
    | extract_lets +onlyGivenNames vv
    | with_reducible refine keep_ite ?_ ?_
    | with_reducible apply Keep.step (keep_setMode _ _ _ _)
    | with_reducible apply Keep.step (n := 0xb00918830087d5c26c0) (keep_write _ _ _ _ _ _ ?_ ?_)
    | with_reducible apply Keep.step (keep_id _)
    | exact rfl
    | with_reducible refine keepr_next ?_

theorem keep_execStateRequestOperate (w : Writer) (s : State) : KeepR 0xb0090800008005c26c0 s (execStateRequestOperate w s) := by
  unfold execStateRequestOperate
  repeat' first
    | intro _
    | with_reducible assumption
    | with_reducible exact Keep.refl _ _
    | (extract_lets +onlyGivenNames vv; clear_value vv)
    | extract_lets +onlyGivenNames vv
    | (simp -zeta only [keepAt_mk]; with_reducible refine keep_mk_hub ?_ ?_)
    | with_reducible refine keep_ite ?_ ?_
    | with_reducible apply Keep.step (n := 0xb0090800008005c26c0) (keep_write _ _ _ _ _ _ ?_ ?_)
    | with_reducible apply Keep.step (keep_id _)
    | exact rfl
    | with_reducible refine keepr_next ?_

theorem keep_execStateRequestSafe (w : Writer) (s : State) : KeepR 0xb00918830087d5c26c0 s (execStateRequestSafe w s) := by
  unfold execStateRequestSafe
  repeat' first
    | intro _
    | with_reducible assumption
    | with_reducible exact Keep.refl _ _
    | (extract_lets +onlyGivenNames vv; clear_value vv)
    | extract_lets +onlyGivenNames vv
    | with_reducible refine keep_ite ?_ ?_
    | with_reducible apply Keep.step (keep_setMode _ _ _ _)
    | with_reducible apply Keep.step (n := 0xb00918830087d5c26c0) (keep_write _ _ _ _ _ _ ?_ ?_)
    | with_reducible apply Keep.step (keep_id _)
    | exact rfl
    | with_reducible refine keepr_next ?_

theorem keep_execStateRequestOpenMaint (w : Writer) (s : State) : KeepR 0xb00918830097d5c26e0 s (execStateRequestOpenMaint w s) := by
  unfold execStateRequestOpenMaint
  try dsimp only
  repeat' first
    | intro _
    | with_reducible assumption
    | with_reducible exact Keep.refl _ _
    | (simp -zeta only [keepAt_mk]; with_reducible refine keep_mk_hub ?_ ?_)
    | with_reducible refine keep_ite ?_ ?_
    | with_reducible apply Keep.step (keep_logRecord _ _ _)
    | with_reducible apply Keep.step (keep_setMode _ _ _ _)
    | with_reducible apply Keep.step (keep_setReg _ _ _)
    | with_reducible apply Keep.step (n := 0xb00918830097d5c26e0) (keep_write _ _ _ _ _ _ ?_ ?_)
    | with_reducible apply Keep.step (keep_id _)
    | exact rfl
    | with_reducible refine keepr_next ?_

theorem keep_closeSession (s : State) : Keep 0x30091083019fddc2260 s (State.closeSession s) := by
  unfold State.closeSession
  repeat' first
    | intro _
    | with_reducible assumption
    | with_reducible exact Keep.refl _ _
    | (extract_lets +onlyGivenNames vv; have hv : Keep 0x30091083019fddc2260 s vv; unfold vv; clear vv; rotate_left; try clear_value vv; rotate_left)
    | (extract_lets +onlyGivenNames vv; clear_value vv)
    | extract_lets +onlyGivenNames vv
    | (simp -zeta only [keepAt_mk]; with_reducible refine keep_mk_hub ?_ ?_)
    | with_reducible refine keep_ite ?_ ?_
    | with_reducible apply Keep.step (keep_bypUpdate _)
    | with_reducible apply Keep.step (keep_logRecord _ _ _)
    | with_reducible apply Keep.step (keep_pertEndAll _)
    | with_reducible apply Keep.step (keep_releaseForces _)
    | with_reducible apply Keep.step (keep_setMode _ _ _ _)
    | with_reducible apply Keep.step (keep_setReg _ _ _)
    | exact rfl

theorem keep_execStateRequestCloseMaint (w : Writer) (s : State) : KeepR 0xb0091883019fddc26e0 s (execStateRequestCloseMaint w s) := by
  unfold execStateRequestCloseMaint
  repeat' first
    | intro _
    | with_reducible assumption
    | with_reducible exact Keep.refl _ _
    | (extract_lets +onlyGivenNames vv; clear_value vv)
    | extract_lets +onlyGivenNames vv
    | with_reducible refine keep_ite ?_ ?_
    | with_reducible apply Keep.step (keep_closeSession _)
    | with_reducible apply Keep.step (n := 0xb0091883019fddc26e0) (keep_write _ _ _ _ _ _ ?_ ?_)
    | with_reducible apply Keep.step (keep_id _)
    | exact rfl
    | with_reducible refine keepr_next ?_

theorem keep_execStateRequestReset (w : Writer) (s : State) : KeepR 0xb0090800008005c26c0 s (execStateRequestReset w s) := by
  unfold execStateRequestReset
  repeat' first
    | intro _
    | with_reducible assumption
    | with_reducible exact Keep.refl _ _
    | (extract_lets +onlyGivenNames vv; clear_value vv)
    | extract_lets +onlyGivenNames vv
    | (simp -zeta only [keepAt_mk]; with_reducible refine keep_mk_hub ?_ ?_)
    | with_reducible refine keep_ite ?_ ?_
    | with_reducible apply Keep.step (n := 0xb0090800008005c26c0) (keep_write _ _ _ _ _ _ ?_ ?_)
    | with_reducible apply Keep.step (keep_id _)
    | exact rfl
    | with_reducible refine keepr_next ?_

theorem keep_execAutoOperateEntry (s : State) : KeepR 0x32011183008fd5c2360 s (execAutoOperateEntry s) := by
  unfold execAutoOperateEntry
  repeat' first
    | intro _
    | with_reducible assumption
    | with_reducible exact Keep.refl _ _
    | (extract_lets +onlyGivenNames vv; clear_value vv)
    | extract_lets +onlyGivenNames vv
    | (simp -zeta only [keepAt_mk]; with_reducible refine keep_mk_hub ?_ ?_)
    | with_reducible refine keep_ite ?_ ?_
    | with_reducible apply Keep.step (keep_enterOperate _)
    | exact rfl
    | with_reducible refine keepr_next ?_

theorem keep_execMaintIdleExpiry (s : State) : KeepR 0x30091083099fddc2266 s (execMaintIdleExpiry s) := by
  unfold execMaintIdleExpiry
  repeat' first
    | intro _
    | with_reducible assumption
    | with_reducible exact Keep.refl _ _
    | (extract_lets +onlyGivenNames vv; clear_value vv)
    | extract_lets +onlyGivenNames vv
    | with_reducible refine keep_ite ?_ ?_
    | with_reducible apply Keep.step (keep_closeSession _)
    | with_reducible apply Keep.step (keep_until _ _)
    | exact rfl
    | with_reducible refine keepr_next ?_

theorem keep_saveStart (s : State) (p : Path) : Keep 0x4000000000000000020 s (State.saveStart s p) := by
  unfold State.saveStart
  repeat' first
    | intro _
    | with_reducible assumption
    | with_reducible exact Keep.refl _ _
    | (extract_lets +onlyGivenNames vv; clear_value vv)
    | extract_lets +onlyGivenNames vv
    | (simp -zeta only [keepAt_mk]; with_reducible refine keep_mk_boot ?_ ?_)
    | with_reducible refine keep_ite ?_ ?_
    | with_reducible apply Keep.step (keep_setReg _ _ _)
    | exact rfl

theorem keep_execSave (w : Writer) (v : Nat) (s : State) : KeepR 0xf0090800008005c26e0 s (execSave w v s) := by
  unfold execSave
  try dsimp only
  repeat' first
    | intro _
    | with_reducible assumption
    | with_reducible exact Keep.refl _ _
    | with_reducible refine keep_ite ?_ ?_
    | with_reducible apply Keep.step (n := 0xf0090800008005c26e0) (keep_command _ _ _ _ _ _ ?_ ?_)
    | with_reducible apply Keep.step (keep_refuse _ _ _ _)
    | with_reducible apply Keep.step (keep_saveStart _ _)
    | with_reducible apply Keep.step (keep_sendSync _ _ _)
    | with_reducible apply Keep.step (keep_touch _ _)
    | with_reducible apply Keep.step (keep_id _)
    | exact rfl
    | with_reducible refine keepr_next ?_
    | with_reducible exact keepr_fault
    | with_reducible refine keepr_ite ?_ ?_
    | with_reducible refine keep_foldl (fun _ _ _ => ?_) _ ?_
    | with_reducible exact cellsWf_filter _ (by assumption) _
    | with_reducible exact cellsWf_cellSet _ (by assumption) _ _
    | with_reducible refine keep_snd (by with_reducible assumption) ?_
    | with_reducible refine keep_fst (by with_reducible assumption) ?_
    | split

theorem keep_setCopy (s : State) (n : Nat) (c : Option ParamCopy) : Keep 0x4000000000000000000 s (State.setCopy s n c) := by
  unfold State.setCopy
  repeat' first
    | intro _
    | with_reducible assumption
    | with_reducible exact Keep.refl _ _
    | (extract_lets +onlyGivenNames vv; clear_value vv)
    | extract_lets +onlyGivenNames vv
    | (simp -zeta only [keepAt_mk]; with_reducible refine keep_mk_boot ?_ ?_)
    | with_reducible refine keep_ite ?_ ?_
    | exact rfl

theorem keep_paramsFound (s : State) : Keep 0x80000200 s (State.paramsFound s) := by
  unfold State.paramsFound
  repeat' first
    | intro _
    | with_reducible assumption
    | with_reducible exact Keep.refl _ _
    | (extract_lets +onlyGivenNames vv; clear_value vv)
    | extract_lets +onlyGivenNames vv
    | (simp -zeta only [keepAt_mk]; with_reducible refine keep_mk_hub ?_ ?_)
    | with_reducible refine keep_ite ?_ ?_
    | with_reducible apply Keep.step (keep_faultDown _ _)
    | exact rfl

theorem keep_execSaveComplete (s : State) : KeepR 0xf0010800008801c2660 s (execSaveComplete s) := by
  unfold execSaveComplete
  repeat' first
    | intro _
    | with_reducible assumption
    | with_reducible exact Keep.refl _ _
    | (extract_lets +onlyGivenNames vv; have hv : Keep 0xf0010800008801c2660 s vv; unfold vv; clear vv; rotate_left; try clear_value vv; rotate_left)
    | (extract_lets +onlyGivenNames vv; clear_value vv)
    | extract_lets +onlyGivenNames vv
    | (simp -zeta only [keepAt_mk]; with_reducible refine keep_mk_boot ?_ ?_)
    | with_reducible refine keep_ite ?_ ?_
    | with_reducible apply Keep.step (keep_answer _ _ _ _ _)
    | with_reducible apply Keep.step (keep_bump _ _)
    | with_reducible apply Keep.step (keep_paramsFound _)
    | with_reducible apply Keep.step (keep_setCopy _ _ _)
    | with_reducible apply Keep.step (keep_setReg _ _ _)
    | exact rfl
    | with_reducible refine keepr_next ?_
    | with_reducible exact keepr_fault
    | with_reducible refine keepr_ite ?_ ?_
    | with_reducible refine keep_foldl (fun _ _ _ => ?_) _ ?_
    | with_reducible exact cellsWf_filter _ (by assumption) _
    | with_reducible exact cellsWf_cellSet _ (by assumption) _ _
    | with_reducible refine keep_snd (by with_reducible assumption) ?_
    | with_reducible refine keep_fst (by with_reducible assumption) ?_
    | split

theorem keep_restoreDefaults (s : State) : Keep 0x340111400187c1c2060 s (State.restoreDefaults s) := by
  unfold State.restoreDefaults
  repeat' first
    | intro _
    | with_reducible assumption
    | with_reducible exact Keep.refl _ _
    | (extract_lets +onlyGivenNames vv; have hv : Keep 0x340111400187c1c2060 s vv; unfold vv; clear vv; rotate_left; try clear_value vv; rotate_left)
    | (extract_lets +onlyGivenNames vv; clear_value vv)
    | extract_lets +onlyGivenNames vv
    | (simp -zeta only [keepAt_mk]; with_reducible refine keep_mk_regs_sw ?_ ?_ ?_)
    | with_reducible refine keep_ite ?_ ?_
    | with_reducible apply Keep.step (keep_edgeSync _ _)
    | with_reducible apply Keep.step (keep_fuseSync _ _)
    | with_reducible apply Keep.step (keep_lpSync _ _)
    | with_reducible apply Keep.step (keep_releaseForces _)
    | with_reducible apply Keep.step (keep_setReg _ _ _)
    | exact rfl
    | with_reducible refine keep_foldl (fun _ _ _ => ?_) _ ?_
    | with_reducible exact cellsWf_filter _ (by assumption) _

theorem keep_execRestoreDefaults (w : Writer) (v : Nat) (s : State) : KeepR 0xb40919400187c5c26e0 s (execRestoreDefaults w v s) := by
  unfold execRestoreDefaults
  repeat' first
    | intro _
    | with_reducible assumption
    | with_reducible exact Keep.refl _ _
    | (extract_lets +onlyGivenNames vv; clear_value vv)
    | extract_lets +onlyGivenNames vv
    | with_reducible refine keep_ite ?_ ?_
    | with_reducible apply Keep.step (n := 0xb40919400187c5c26e0) (keep_command _ _ _ _ _ _ ?_ ?_)
    | with_reducible apply Keep.step (keep_restoreDefaults _)
    | with_reducible apply Keep.step (keep_id _)
    | exact rfl
    | with_reducible refine keepr_next ?_

theorem keep_mailboxDone (s : State) (abort : Nat) (resp : List Byte) : Keep 0xe0000040000000 s (State.mailboxDone s abort resp) := by
  unfold State.mailboxDone
  try dsimp only
  repeat' first
    | intro _
    | with_reducible assumption
    | with_reducible exact Keep.refl _ _
    | (simp -zeta only [keepAt_mk]; first | with_reducible refine keep_mk_dict ?_ ?_ ?_ | with_reducible refine keep_mk_msix_host ?_ ?_ | with_reducible refine keep_mk_msix_host_dict ?_ ?_ ?_)
    | with_reducible refine keep_ite ?_ ?_
    | with_reducible apply Keep.step (keep_setBar _ _ _)
    | exact rfl

theorem keep_execMailboxResponse (f : Fin 4) (fr : Frame) (s : State) : KeepR 0xe0000040010000 s (execMailboxResponse f fr s) := by
  unfold execMailboxResponse
  repeat' first
    | intro _
    | with_reducible assumption
    | with_reducible exact Keep.refl _ _
    | (extract_lets +onlyGivenNames vv; clear_value vv)
    | extract_lets +onlyGivenNames vv
    | with_reducible refine keep_ite ?_ ?_
    | with_reducible apply Keep.step (keep_mailboxDone _ _ _)
    | with_reducible apply Keep.step (keep_take _ _ _)
    | exact rfl
    | with_reducible refine keepr_next ?_
    | with_reducible exact keepr_fault
    | with_reducible refine keepr_ite ?_ ?_
    | with_reducible refine keep_foldl (fun _ _ _ => ?_) _ ?_
    | with_reducible exact cellsWf_filter _ (by assumption) _
    | with_reducible exact cellsWf_cellSet _ (by assumption) _ _
    | with_reducible refine keep_snd (by with_reducible assumption) ?_
    | with_reducible refine keep_fst (by with_reducible assumption) ?_
    | split

theorem keep_execMailboxTimeout (s : State) : KeepR 0xe0008040000046 s (execMailboxTimeout s) := by
  unfold execMailboxTimeout
  repeat' first
    | intro _
    | with_reducible assumption
    | with_reducible exact Keep.refl _ _
    | (extract_lets +onlyGivenNames vv; clear_value vv)
    | extract_lets +onlyGivenNames vv
    | with_reducible refine keep_ite ?_ ?_
    | with_reducible apply Keep.step (keep_bump _ _)
    | with_reducible apply Keep.step (keep_mailboxDone _ _ _)
    | with_reducible apply Keep.step (keep_until _ _)
    | exact rfl
    | with_reducible refine keepr_next ?_
    | with_reducible exact keepr_fault
    | with_reducible refine keepr_ite ?_ ?_
    | with_reducible refine keep_foldl (fun _ _ _ => ?_) _ ?_
    | with_reducible exact cellsWf_filter _ (by assumption) _
    | with_reducible exact cellsWf_cellSet _ (by assumption) _ _
    | with_reducible refine keep_snd (by with_reducible assumption) ?_
    | with_reducible refine keep_fst (by with_reducible assumption) ?_
    | split

theorem keep_execMailboxDoneClear (s : State) : KeepR 0x20000000000000 s (execMailboxDoneClear s) := by
  unfold execMailboxDoneClear
  repeat' first
    | intro _
    | with_reducible assumption
    | with_reducible exact Keep.refl _ _
    | (extract_lets +onlyGivenNames vv; clear_value vv)
    | extract_lets +onlyGivenNames vv
    | (simp -zeta only [keepAt_mk]; first | with_reducible refine keep_mk_host_dict ?_ ?_ ?_ | with_reducible refine keep_mk_msix_host_dict ?_ ?_ ?_)
    | with_reducible refine keep_ite ?_ ?_
    | with_reducible apply Keep.step (keep_setBar _ _ _)
    | exact rfl
    | with_reducible refine keepr_next ?_

theorem keep_execSnapshotGo (v : Nat) (s : State) : KeepR 0x60000000000040 s (execSnapshotGo v s) := by
  unfold execSnapshotGo
  repeat' first
    | intro _
    | with_reducible assumption
    | with_reducible exact Keep.refl _ _
    | (extract_lets +onlyGivenNames vv; have hv : Keep 0x60000000000040 s vv; unfold vv; clear vv; rotate_left; try clear_value vv; rotate_left)
    | (extract_lets +onlyGivenNames vv; clear_value vv)
    | extract_lets +onlyGivenNames vv
    | (simp -zeta only [keepAt_mk]; with_reducible refine keep_mk_host ?_ ?_)
    | with_reducible refine keep_ite ?_ ?_
    | with_reducible apply Keep.step (keep_bump _ _)
    | with_reducible apply Keep.step (keep_setBar _ _ _)
    | exact rfl
    | with_reducible refine keepr_next ?_

theorem keep_execFtimeLoRead (s : State) : KeepR 0x20080000000000 s (execFtimeLoRead s) := by
  unfold execFtimeLoRead
  repeat' first
    | intro _
    | with_reducible assumption
    | with_reducible exact Keep.refl _ _
    | (extract_lets +onlyGivenNames vv; clear_value vv)
    | extract_lets +onlyGivenNames vv
    | with_reducible refine keep_ite ?_ ?_
    | with_reducible apply Keep.step (keep_busRead _ _ _ _)
    | with_reducible apply Keep.step (keep_setBar _ _ _)
    | exact rfl
    | with_reducible refine keepr_next ?_

theorem keep_execLmcLoRead (s : State) : KeepR 0x20080000000000 s (execLmcLoRead s) := by
  unfold execLmcLoRead
  repeat' first
    | intro _
    | with_reducible assumption
    | with_reducible exact Keep.refl _ _
    | (extract_lets +onlyGivenNames vv; clear_value vv)
    | extract_lets +onlyGivenNames vv
    | with_reducible refine keep_ite ?_ ?_
    | with_reducible apply Keep.step (keep_busRead _ _ _ _)
    | with_reducible apply Keep.step (keep_setBar _ _ _)
    | exact rfl
    | with_reducible refine keepr_next ?_

theorem keep_execWatchdogKick (s : State) : KeepR 0x40000000000000 s (execWatchdogKick s) := by
  unfold execWatchdogKick
  repeat' first
    | intro _
    | with_reducible assumption
    | with_reducible exact Keep.refl _ _
    | (extract_lets +onlyGivenNames vv; clear_value vv)
    | extract_lets +onlyGivenNames vv
    | (simp -zeta only [keepAt_mk]; with_reducible refine keep_mk_host ?_ ?_)
    | with_reducible refine keep_ite ?_ ?_
    | exact rfl
    | with_reducible refine keepr_next ?_

theorem keep_hostControl (s : State) (v : Nat) : Keep 0x30010600008641c2040 s (State.hostControl s v) := by
  unfold State.hostControl
  repeat' first
    | intro _
    | with_reducible assumption
    | with_reducible exact Keep.refl _ _
    | (extract_lets +onlyGivenNames vv; have hv : Keep 0x30010600008641c2040 s vv; unfold vv; clear vv; rotate_left; try clear_value vv; rotate_left)
    | (extract_lets +onlyGivenNames vv; clear_value vv)
    | extract_lets +onlyGivenNames vv
    | (simp -zeta only [keepAt_mk]; with_reducible refine keep_mk_host ?_ ?_)
    | with_reducible refine keep_ite ?_ ?_
    | with_reducible apply Keep.step (keep_hostUnready _)
    | with_reducible apply Keep.step (keep_setBar _ _ _)
    | with_reducible apply Keep.step (keep_settle _)
    | exact rfl

theorem keep_execHostReadyWrite (v : Fin 8) (s : State) : KeepR 0x30010600008641c2040 s (execHostReadyWrite v s) := by
  unfold execHostReadyWrite
  repeat' first
    | intro _
    | with_reducible assumption
    | with_reducible exact Keep.refl _ _
    | (extract_lets +onlyGivenNames vv; clear_value vv)
    | extract_lets +onlyGivenNames vv
    | with_reducible refine keep_ite ?_ ?_
    | with_reducible apply Keep.step (keep_hostControl _ _)
    | exact rfl
    | with_reducible refine keepr_next ?_

theorem keep_execWatchdogExpiry (s : State) : KeepR 0x30091683089fd5c2266 s (execWatchdogExpiry s) := by
  unfold execWatchdogExpiry
  repeat' first
    | intro _
    | with_reducible assumption
    | with_reducible exact Keep.refl _ _
    | (extract_lets +onlyGivenNames vv; have hv : Keep 0x30091683089fd5c2266 s vv; unfold vv; clear vv; rotate_left; try clear_value vv; rotate_left)
    | (extract_lets +onlyGivenNames vv; clear_value vv)
    | extract_lets +onlyGivenNames vv
    | (simp -zeta only [keepAt_mk]; with_reducible refine keep_mk_host ?_ ?_)
    | with_reducible refine keep_ite ?_ ?_
    | with_reducible apply Keep.step (keep_hostControl _ _)
    | with_reducible apply Keep.step (keep_occur _ _ _ _)
    | with_reducible apply Keep.step (keep_until _ _)
    | exact rfl
    | with_reducible refine keepr_next ?_
    | with_reducible exact keepr_fault
    | with_reducible refine keepr_ite ?_ ?_
    | with_reducible refine keep_foldl (fun _ _ _ => ?_) _ ?_
    | with_reducible exact cellsWf_filter _ (by assumption) _
    | with_reducible exact cellsWf_cellSet _ (by assumption) _ _
    | with_reducible refine keep_snd (by with_reducible assumption) ?_
    | with_reducible refine keep_fst (by with_reducible assumption) ?_
    | split

theorem keep_setRing (s : State) (r : Nat) (x : RingSt) : Keep 0x40000000000000 s (State.setRing s r x) := by
  unfold State.setRing
  repeat' first
    | intro _
    | with_reducible assumption
    | with_reducible exact Keep.refl _ _
    | (extract_lets +onlyGivenNames vv; clear_value vv)
    | extract_lets +onlyGivenNames vv
    | (simp -zeta only [keepAt_mk]; with_reducible refine keep_mk_host ?_ ?_)
    | with_reducible refine keep_ite ?_ ?_
    | exact rfl

theorem keep_ringErr (s : State) : Keep 0x20000000000000 s (State.ringErr s) := by
  unfold State.ringErr
  repeat' first
    | intro _
    | with_reducible assumption
    | with_reducible exact Keep.refl _ _
    | (extract_lets +onlyGivenNames vv; clear_value vv)
    | extract_lets +onlyGivenNames vv
    | with_reducible refine keep_ite ?_ ?_
    | with_reducible apply Keep.step (keep_setBar _ _ _)
    | exact rfl

theorem keep_execRingEnableWrite (r : Fin 3) (v : Nat) (s : State) : KeepR 0x30091683009fd5c2260 s (execRingEnableWrite r v s) := by
  unfold execRingEnableWrite
  repeat' first
    | intro _
    | with_reducible assumption
    | with_reducible exact Keep.refl _ _
    | (extract_lets +onlyGivenNames vv; have hv : Keep 0x30091683009fd5c2260 s vv; unfold vv; clear vv; rotate_left; try clear_value vv; rotate_left)
    | (extract_lets +onlyGivenNames vv; clear_value vv)
    | extract_lets +onlyGivenNames vv
    | with_reducible refine keep_ite ?_ ?_
    | with_reducible apply Keep.step (keep_occur _ _ _ _)
    | with_reducible apply Keep.step (keep_ringErr _)
    | with_reducible apply Keep.step (keep_setBar _ _ _)
    | with_reducible apply Keep.step (keep_setRing _ _ _)
    | exact rfl
    | with_reducible refine keepr_next ?_

theorem keep_execRingTailWrite (r : Fin 3) (v : Nat) (s : State) : KeepR 0x20000000000000 s (execRingTailWrite r v s) := by
  unfold execRingTailWrite
  repeat' first
    | intro _
    | with_reducible assumption
    | with_reducible exact Keep.refl _ _
    | (extract_lets +onlyGivenNames vv; clear_value vv)
    | extract_lets +onlyGivenNames vv
    | with_reducible refine keep_ite ?_ ?_
    | with_reducible apply Keep.step (keep_setBar _ _ _)
    | exact rfl
    | with_reducible refine keepr_next ?_

theorem keep_ringNext {s : State} {r : Nat} : ∀ {k c t}, s.ringNext r = some (k, c, t) → Keep 0x50000008000000 s t := by
  intro k c t h
  unfold State.ringNext at h
  have map : ∀ {α : Type} (o : Option α) (f : α → Nat × List Byte × State), (∀ a, Keep 0x50000008000000 s (f a).2.2) →
      o.map f = some (k, c, t) → Keep 0x50000008000000 s t := by
    intro α o f hf ho
    cases o with
    | none => cases ho
    | some a =>
      have h2 := hf a
      simp only [Option.map_some, Option.some.injEq] at ho
      rw [ho] at h2; exact h2
  repeat' split at h
  all_goals first
    | (cases h; done)
    | skip
  · rename_i hr
    cases h
    refine (keep_mk_records (fun h8 => ?_) (Keep.refl 0x50000008000000 s) rfl).keep
    rw [hr] at h8
    simp at h8 ⊢; omega
  · cases h; exact (keep_mk_host (Keep.refl 0x50000008000000 s) rfl).keep
  · exact map _ _ (fun a => (keep_mk_sw (Keep.refl 0x50000008000000 s) rfl).keep) h
  · exact map _ _ (fun a => (keep_mk_sw (Keep.refl 0x50000008000000 s) rfl).keep) h

theorem keep_ringSignal (s : State) (r : Nat) : Keep 0x40000040000000 s (State.ringSignal s r) := by
  unfold State.ringSignal
  repeat' first
    | intro _
    | with_reducible assumption
    | with_reducible exact Keep.refl _ _
    | (extract_lets +onlyGivenNames vv; have hv : Keep 0x40000040000000 s vv; unfold vv; clear vv; rotate_left; try clear_value vv; rotate_left)
    | (extract_lets +onlyGivenNames vv; clear_value vv)
    | extract_lets +onlyGivenNames vv
    | (simp -zeta only [keepAt_mk]; with_reducible refine keep_mk_msix ?_ ?_)
    | with_reducible refine keep_ite ?_ ?_
    | with_reducible apply Keep.step (keep_setRing _ _ _)
    | exact rfl

theorem keep_execRingSlotWrite (r : Fin 3) (s : State) : KeepR 0x800070000048000060 s (execRingSlotWrite r s) := by
  unfold execRingSlotWrite
  try dsimp only
  repeat' first
    | intro _
    | with_reducible assumption
    | with_reducible exact Keep.refl _ _
    | (simp -zeta only [keepAt_mk]; with_reducible refine keep_mk_host ?_ ?_)
    | with_reducible refine keep_ite ?_ ?_
    | with_reducible apply Keep.step (keep_coreTouch _)
    | with_reducible refine Keep.step (keep_ringNext (by with_reducible assumption)) ?_ ?_
    | with_reducible apply Keep.step (keep_ringSignal _ _)
    | with_reducible apply Keep.step (keep_setBar _ _ _)
    | with_reducible apply Keep.step (keep_setRing _ _ _)
    | exact rfl
    | with_reducible refine keepr_next ?_
    | with_reducible exact keepr_fault
    | with_reducible refine keepr_ite ?_ ?_
    | with_reducible refine keep_foldl (fun _ _ _ => ?_) _ ?_
    | with_reducible exact cellsWf_filter _ (by assumption) _
    | with_reducible exact cellsWf_cellSet _ (by assumption) _ _
    | with_reducible refine keep_snd (by with_reducible assumption) ?_
    | with_reducible refine keep_fst (by with_reducible assumption) ?_
    | split

theorem keep_execMsixModerationTimeout (r : Fin 3) (s : State) : KeepR 0x40008040000006 s (execMsixModerationTimeout r s) := by
  unfold execMsixModerationTimeout
  repeat' first
    | intro _
    | with_reducible assumption
    | with_reducible exact Keep.refl _ _
    | (extract_lets +onlyGivenNames vv; clear_value vv)
    | extract_lets +onlyGivenNames vv
    | with_reducible refine keep_ite ?_ ?_
    | with_reducible apply Keep.step (keep_ringSignal _ _)
    | with_reducible apply Keep.step (keep_until _ _)
    | exact rfl
    | with_reducible refine keepr_next ?_

theorem keep_setBar4 (s : State) (o v : Nat) : Keep 0x40000000000000 s (State.setBar4 s o v) := by
  unfold State.setBar4
  repeat' first
    | intro _
    | with_reducible assumption
    | with_reducible exact Keep.refl _ _
    | (extract_lets +onlyGivenNames vv; clear_value vv)
    | extract_lets +onlyGivenNames vv
    | (simp -zeta only [keepAt_mk]; with_reducible refine keep_mk_host ?_ ?_)
    | with_reducible refine keep_ite ?_ ?_
    | exact rfl

theorem keep_stageCount (s : State) : Keep 0x40000000000000 s (State.stageCount s) := by
  unfold State.stageCount
  repeat' first
    | intro _
    | with_reducible assumption
    | with_reducible exact Keep.refl _ _
    | (extract_lets +onlyGivenNames vv; clear_value vv)
    | extract_lets +onlyGivenNames vv
    | with_reducible refine keep_ite ?_ ?_
    | with_reducible apply Keep.step (keep_setBar4 _ _ _)
    | exact rfl

theorem keep_execIwStageWrite (v : Nat) (s : State) : KeepR 0x40000000000000 s (execIwStageWrite v s) := by
  unfold execIwStageWrite
  repeat' first
    | intro _
    | with_reducible assumption
    | with_reducible exact Keep.refl _ _
    | (extract_lets +onlyGivenNames vv; clear_value vv)
    | extract_lets +onlyGivenNames vv
    | (simp -zeta only [keepAt_mk]; with_reducible refine keep_mk_host ?_ ?_)
    | with_reducible refine keep_ite ?_ ?_
    | with_reducible apply Keep.step (keep_setBar4 _ _ _)
    | with_reducible apply Keep.step (keep_stageCount _)
    | exact rfl
    | with_reducible refine keepr_next ?_

theorem keep_hostWrite (s : State) (dest : Nat) (payload : List Byte) : Keep 0x30091583009fd5c2260 s (State.hostWrite s dest payload) := by
  unfold State.hostWrite
  repeat' first
    | intro _
    | with_reducible assumption
    | with_reducible exact Keep.refl _ _
    | (extract_lets +onlyGivenNames vv; clear_value vv)
    | extract_lets +onlyGivenNames vv
    | (simp -zeta only [keepAt_mk]; with_reducible refine keep_mk_host ?_ ?_)
    | with_reducible refine keep_ite ?_ ?_
    | with_reducible apply Keep.step (keep_sendWrite _ _ _ _)
    | exact rfl

theorem keep_execIwSend (v : Nat) (s : State) : KeepR 0x38091583009fd5c2260 s (execIwSend v s) := by
  unfold execIwSend
  repeat' first
    | intro _
    | with_reducible assumption
    | with_reducible exact Keep.refl _ _
    | (extract_lets +onlyGivenNames vv; have hv : Keep 0x38091583009fd5c2260 s vv; unfold vv; clear vv; rotate_left; try clear_value vv; rotate_left)
    | (extract_lets +onlyGivenNames vv; clear_value vv)
    | extract_lets +onlyGivenNames vv
    | (simp -zeta only [keepAt_mk]; with_reducible refine keep_mk_host ?_ ?_)
    | with_reducible refine keep_ite ?_ ?_
    | with_reducible apply Keep.step (keep_coreTouch _)
    | with_reducible apply Keep.step (keep_hostWrite _ _ _)
    | with_reducible apply Keep.step (keep_setBar4 _ _ _)
    | with_reducible apply Keep.step (keep_stageCount _)
    | exact rfl
    | with_reducible refine keepr_next ?_
    | with_reducible exact keepr_fault
    | with_reducible refine keepr_ite ?_ ?_
    | with_reducible refine keep_foldl (fun _ _ _ => ?_) _ ?_

theorem keep_execIwApplyWindowRelease (s : State) : KeepR 0x30091583089fd5c2266 s (execIwApplyWindowRelease s) := by
  unfold execIwApplyWindowRelease
  repeat' first
    | intro _
    | with_reducible assumption
    | with_reducible exact Keep.refl _ _
    | (extract_lets +onlyGivenNames vv; have hv : Keep 0x30091583089fd5c2266 s vv; unfold vv; clear vv; rotate_left; try clear_value vv; rotate_left)
    | (extract_lets +onlyGivenNames vv; clear_value vv)
    | extract_lets +onlyGivenNames vv
    | (simp -zeta only [keepAt_mk]; with_reducible refine keep_mk_host ?_ ?_)
    | with_reducible refine keep_ite ?_ ?_
    | with_reducible apply Keep.step (keep_sendWrite _ _ _ _)
    | with_reducible apply Keep.step (keep_untilFtime _ _)
    | exact rfl
    | with_reducible refine keepr_next ?_
    | with_reducible exact keepr_fault
    | with_reducible refine keepr_ite ?_ ?_
    | with_reducible refine keep_foldl (fun _ _ _ => ?_) _ ?_

theorem keep_execTxTailWrite (v : Nat) (s : State) : KeepR 0x40000000000000 s (execTxTailWrite v s) := by
  unfold execTxTailWrite
  repeat' first
    | intro _
    | with_reducible assumption
    | with_reducible exact Keep.refl _ _
    | (extract_lets +onlyGivenNames vv; clear_value vv)
    | extract_lets +onlyGivenNames vv
    | with_reducible refine keep_ite ?_ ?_
    | with_reducible apply Keep.step (keep_setBar4 _ _ _)
    | exact rfl
    | with_reducible refine keepr_next ?_

theorem keep_txEnd (s : State) (st : Nat) : Keep 0x40000040000000 s (State.txEnd s st) := by
  unfold State.txEnd
  repeat' first
    | intro _
    | with_reducible assumption
    | with_reducible exact Keep.refl _ _
    | (extract_lets +onlyGivenNames vv; have hv : Keep 0x40000040000000 s vv; unfold vv; clear vv; rotate_left; try clear_value vv; rotate_left)
    | (extract_lets +onlyGivenNames vv; clear_value vv)
    | extract_lets +onlyGivenNames vv
    | (simp -zeta only [keepAt_mk]; first | with_reducible refine keep_mk_msix ?_ ?_ | with_reducible refine keep_mk_host ?_ ?_)
    | with_reducible refine keep_ite ?_ ?_
    | with_reducible apply Keep.step (keep_setBar4 _ _ _)
    | exact rfl

theorem keep_txFail (s : State) : Keep 0x30091683009fd5c2260 s (State.txFail s) := by
  unfold State.txFail
  repeat' first
    | intro _
    | with_reducible assumption
    | with_reducible exact Keep.refl _ _
    | (extract_lets +onlyGivenNames vv; clear_value vv)
    | extract_lets +onlyGivenNames vv
    | with_reducible refine keep_ite ?_ ?_
    | with_reducible apply Keep.step (keep_occur _ _ _ _)
    | with_reducible apply Keep.step (keep_setBar _ _ _)
    | with_reducible apply Keep.step (keep_txEnd _ _)
    | exact rfl

theorem keep_execTxDescriptorTake (s : State) : KeepR 0x800040000040000060 s (execTxDescriptorTake s) := by
  unfold execTxDescriptorTake
  repeat' first
    | intro _
    | with_reducible assumption
    | with_reducible exact Keep.refl _ _
    | (extract_lets +onlyGivenNames vv; have hv : Keep 0x800040000040000060 s vv; unfold vv; clear vv; rotate_left; try clear_value vv; rotate_left)
    | (extract_lets +onlyGivenNames vv; clear_value vv)
    | extract_lets +onlyGivenNames vv
    | (simp -zeta only [keepAt_mk]; with_reducible refine keep_mk_host ?_ ?_)
    | with_reducible refine keep_ite ?_ ?_
    | with_reducible apply Keep.step (keep_coreTouch _)
    | with_reducible apply Keep.step (keep_txEnd _ _)
    | exact rfl
    | with_reducible refine keepr_next ?_
    | with_reducible exact keepr_fault
    | with_reducible refine keepr_ite ?_ ?_
    | with_reducible refine keep_foldl (fun _ _ _ => ?_) _ ?_
    | with_reducible exact cellsWf_filter _ (by assumption) _
    | with_reducible exact cellsWf_cellSet _ (by assumption) _ _
    | with_reducible refine keep_snd (by with_reducible assumption) ?_
    | with_reducible refine keep_fst (by with_reducible assumption) ?_
    | split

theorem keep_execDmaReadCompletion (good : Bool) (data : List Byte) (s : State) : KeepR 0x30091783009fd5c2260 s (execDmaReadCompletion good data s) := by
  unfold execDmaReadCompletion
  repeat' first
    | intro _
    | with_reducible assumption
    | with_reducible exact Keep.refl _ _
    | (extract_lets +onlyGivenNames vv; clear_value vv)
    | extract_lets +onlyGivenNames vv
    | (simp -zeta only [keepAt_mk]; with_reducible refine keep_mk_host ?_ ?_)
    | with_reducible refine keep_ite ?_ ?_
    | with_reducible apply Keep.step (keep_bump _ _)
    | with_reducible apply Keep.step (keep_hostWrite _ _ _)
    | with_reducible apply Keep.step (keep_tunTake _ _ _ _)
    | with_reducible apply Keep.step (keep_txEnd _ _)
    | with_reducible apply Keep.step (keep_txFail _)
    | exact rfl
    | with_reducible refine keepr_next ?_

theorem keep_execDmaCompletionTimeout (s : State) : KeepR 0x30091683089fd5c2266 s (execDmaCompletionTimeout s) := by
  unfold execDmaCompletionTimeout
  repeat' first
    | intro _
    | with_reducible assumption
    | with_reducible exact Keep.refl _ _
    | (extract_lets +onlyGivenNames vv; clear_value vv)
    | extract_lets +onlyGivenNames vv
    | with_reducible refine keep_ite ?_ ?_
    | with_reducible apply Keep.step (keep_bump _ _)
    | with_reducible apply Keep.step (keep_txFail _)
    | with_reducible apply Keep.step (keep_until _ _)
    | exact rfl
    | with_reducible refine keepr_next ?_
    | with_reducible exact keepr_fault
    | with_reducible refine keepr_ite ?_ ?_
    | with_reducible refine keep_foldl (fun _ _ _ => ?_) _ ?_
    | with_reducible exact cellsWf_filter _ (by assumption) _
    | with_reducible exact cellsWf_cellSet _ (by assumption) _ _
    | with_reducible refine keep_snd (by with_reducible assumption) ?_
    | with_reducible refine keep_fst (by with_reducible assumption) ?_
    | split

theorem keep_mailboxCancel (s : State) : Keep 0x30010e00008001c2040 s (State.mailboxCancel s) := by
  unfold State.mailboxCancel
  try dsimp only
  repeat' first
    | intro _
    | with_reducible assumption
    | with_reducible exact Keep.refl _ _
    | (simp -zeta only [keepAt_mk]; first | with_reducible refine keep_mk_host ?_ ?_ | with_reducible refine keep_mk_dict ?_ ?_ ?_ | with_reducible refine keep_mk_host_dict ?_ ?_ ?_ | with_reducible refine keep_mk_msix_host_dict ?_ ?_ ?_)
    | with_reducible refine keep_ite ?_ ?_
    | with_reducible apply Keep.step (keep_originate _ _)
    | with_reducible apply Keep.step (keep_setBar _ _ _)
    | exact rfl
    | with_reducible refine keep_foldl (fun _ _ _ => ?_) _ ?_
    | with_reducible exact cellsWf_filter _ (by assumption) _
    | with_reducible exact cellsWf_cellSet _ (by assumption) _ _
    | with_reducible refine keep_snd (by with_reducible assumption) ?_
    | with_reducible refine keep_fst (by with_reducible assumption) ?_
    | split

theorem keep_execPcieLinkDown (s : State) : KeepR 0x30010f00008641c2060 s (execPcieLinkDown s) := by
  unfold execPcieLinkDown
  repeat' first
    | intro _
    | with_reducible assumption
    | with_reducible exact Keep.refl _ _
    | (extract_lets +onlyGivenNames vv; have hv : Keep 0x30010f00008641c2060 s vv; unfold vv; clear vv; rotate_left; try clear_value vv; rotate_left)
    | (extract_lets +onlyGivenNames vv; clear_value vv)
    | extract_lets +onlyGivenNames vv
    | (simp -zeta only [keepAt_mk]; first | with_reducible refine keep_mk_sw ?_ ?_ | with_reducible refine keep_mk_host ?_ ?_)
    | with_reducible refine keep_ite ?_ ?_
    | with_reducible apply Keep.step (keep_bump _ _)
    | with_reducible apply Keep.step (keep_hostUnready _)
    | with_reducible apply Keep.step (keep_mailboxCancel _)
    | with_reducible apply Keep.step (keep_setBar _ _ _)
    | with_reducible apply Keep.step (keep_setReg _ _ _)
    | with_reducible apply Keep.step (keep_stageCount _)
    | exact rfl
    | with_reducible refine keepr_next ?_
    | with_reducible exact keepr_fault
    | with_reducible refine keepr_ite ?_ ?_
    | with_reducible refine keep_foldl (fun _ _ _ => ?_) _ ?_

end Sys2Proof.Machine
end

