-- ==== Sys2Proof/Laws/KeepPolicy.lean ====
section
/-! SUPPORT. What each operation and each command of `Machine/Policy.lean` keeps: the parts of the state outside its mask, and
the invariant. -/

namespace Sys2Proof.Machine
open Sys2Proof

theorem keep_policyFollow (s : State) (action target : Nat) : Keep 0x200010000000000020 s (State.policyFollow s action target) := by
  unfold State.policyFollow
  repeat' first
    | intro _
    | with_reducible assumption
    | with_reducible exact Keep.refl _ _
    | (extract_lets +onlyGivenNames vv; have hv : Keep 0x200010000000000020 s vv; unfold vv; clear vv; rotate_left; try clear_value vv; rotate_left)
    | (extract_lets +onlyGivenNames vv; clear_value vv)
    | extract_lets +onlyGivenNames vv
    | (simp -zeta only [keepAt_mk]; with_reducible refine keep_mk_sw ?_ ?_)
    | with_reducible refine keep_ite ?_ ?_
    | with_reducible apply Keep.step (keep_meterReload _ _)
    | with_reducible apply Keep.step (keep_panAsk _ _)
    | with_reducible apply Keep.step (keep_setReg _ _ _)
    | exact rfl

theorem keep_policyLog (s : State) (i rec_ : Nat) (released : Bool) (result : Nat) : Keep 0x300110000097c1c2040 s (State.policyLog s i rec_ released result) := by
  unfold State.policyLog
  repeat' first
    | intro _
    | with_reducible assumption
    | with_reducible exact Keep.refl _ _
    | (extract_lets +onlyGivenNames vv; clear_value vv)
    | extract_lets +onlyGivenNames vv
    | with_reducible refine keep_ite ?_ ?_
    | with_reducible apply Keep.step (keep_log _ _ _ _)
    | with_reducible apply Keep.step (keep_raise _ _ _)
    | exact rfl

theorem keep_policyFire (s : State) (i : Nat) : Keep 0x36491183009fd5c2260 s (State.policyFire s i) := by
  unfold State.policyFire
  repeat' first
    | intro _
    | with_reducible assumption
    | with_reducible exact Keep.refl _ _
    | (extract_lets +onlyGivenNames vv; have hv : Keep 0x36491183009fd5c2260 s vv; unfold vv; clear vv; rotate_left; try clear_value vv; rotate_left)
    | (extract_lets +onlyGivenNames vv; clear_value vv)
    | extract_lets +onlyGivenNames vv
    | with_reducible refine keep_ite ?_ ?_
    | with_reducible apply Keep.step (keep_faultUp _ _ _ _)
    | with_reducible apply Keep.step (keep_fuseShed _ _)
    | with_reducible apply Keep.step (keep_policyFollow _ _ _)
    | with_reducible apply Keep.step (keep_policyLog _ _ _ _ _)
    | with_reducible apply Keep.step (keep_propose _ _)
    | with_reducible apply Keep.step (keep_setRule _ _ _)
    | exact rfl

theorem keep_policyRelease (s : State) (i : Nat) : Keep 0x32411100009fc1c2060 s (State.policyRelease s i) := by
  unfold State.policyRelease
  repeat' first
    | intro _
    | with_reducible assumption
    | with_reducible exact Keep.refl _ _
    | (extract_lets +onlyGivenNames vv; have hv : Keep 0x32411100009fc1c2060 s vv; unfold vv; clear vv; rotate_left; try clear_value vv; rotate_left)
    | (extract_lets +onlyGivenNames vv; clear_value vv)
    | extract_lets +onlyGivenNames vv
    | with_reducible refine keep_ite ?_ ?_
    | with_reducible apply Keep.step (keep_faultDown _ _)
    | with_reducible apply Keep.step (keep_policyFollow _ _ _)
    | with_reducible apply Keep.step (keep_policyLog _ _ _ _ _)
    | with_reducible apply Keep.step (keep_setRule _ _ _)
    | exact rfl

theorem keep_policyOne (s : State) (i : Nat) : Keep 0x36491183009fd5c2260 s (State.policyOne s i) := by
  unfold State.policyOne
  repeat' first
    | intro _
    | with_reducible assumption
    | with_reducible exact Keep.refl _ _
    | (extract_lets +onlyGivenNames vv; have hv : Keep 0x36491183009fd5c2260 s vv; unfold vv; clear vv; rotate_left; try clear_value vv; rotate_left)
    | (extract_lets +onlyGivenNames vv; clear_value vv)
    | extract_lets +onlyGivenNames vv
    | with_reducible refine keep_ite ?_ ?_
    | with_reducible apply Keep.step (keep_policyFire _ _)
    | with_reducible apply Keep.step (keep_policyRelease _ _)
    | with_reducible apply Keep.step (keep_setRule _ _ _)
    | exact rfl

theorem keep_execPolicyEvaluation (measured : List (Fin 256 × Int)) (s : State) : KeepR 0x37c91183089fd5c2266 s (execPolicyEvaluation measured s) := by
  unfold execPolicyEvaluation
  repeat' first
    | intro _
    | with_reducible assumption
    | with_reducible exact Keep.refl _ _
    | (extract_lets +onlyGivenNames vv; have hv : Keep 0x37c91183089fd5c2266 s vv; unfold vv; clear vv; rotate_left; try clear_value vv; rotate_left)
    | (extract_lets +onlyGivenNames vv; clear_value vv)
    | extract_lets +onlyGivenNames vv
    | (simp -zeta only [keepAt_mk]; first | with_reducible refine keep_mk_gaugeLog ?_ ?_ | with_reducible refine keep_mk_gaugeIn ?_ ?_)
    | with_reducible refine keep_ite ?_ ?_
    | with_reducible apply Keep.step (keep_policyOne _ _)
    | with_reducible apply Keep.step (keep_until _ _)
    | exact rfl
    | with_reducible refine keepr_next ?_
    | with_reducible exact keepr_fault
    | with_reducible refine keepr_ite ?_ ?_
    | with_reducible refine keep_foldl (fun _ _ _ => ?_) _ ?_

theorem keep_ruleWritten (s : State) (i v : Nat) : Keep 0x32411100009fc1c2060 s (State.ruleWritten s i v) := by
  unfold State.ruleWritten
  repeat' first
    | intro _
    | with_reducible assumption
    | with_reducible exact Keep.refl _ _
    | (extract_lets +onlyGivenNames vv; have hv : Keep 0x32411100009fc1c2060 s vv; unfold vv; clear vv; rotate_left; try clear_value vv; rotate_left)
    | (extract_lets +onlyGivenNames vv; clear_value vv)
    | extract_lets +onlyGivenNames vv
    | with_reducible refine keep_ite ?_ ?_
    | with_reducible apply Keep.step (keep_faultDown _ _)
    | with_reducible apply Keep.step (keep_policyFollow _ _ _)
    | with_reducible apply Keep.step (keep_policyRelease _ _)
    | with_reducible apply Keep.step (keep_setRule _ _ _)
    | with_reducible apply Keep.step (keep_store _ _ _)
    | exact rfl

theorem keep_execRuleWrite (w : Writer) (r : Fin 128) (v : Nat) (s : State) : KeepR 0xb2491900009fc5c26e0 s (execRuleWrite w r v s) := by
  unfold execRuleWrite
  repeat' first
    | intro _
    | with_reducible assumption
    | with_reducible exact Keep.refl _ _
    | (extract_lets +onlyGivenNames vv; clear_value vv)
    | extract_lets +onlyGivenNames vv
    | with_reducible refine keep_ite ?_ ?_
    | with_reducible apply Keep.step (keep_ruleWritten _ _ _)
    | with_reducible apply Keep.step (n := 0xb2491900009fc5c26e0) (keep_write _ _ _ _ _ _ ?_ ?_)
    | with_reducible apply Keep.step (keep_id _)
    | exact rfl
    | with_reducible refine keepr_next ?_

end Sys2Proof.Machine
end

