-- ==== Sys2Proof/Laws/KeepKeyUnit.lean ====
section
/-! SUPPORT. What each operation and each command of `Machine/KeyUnit.lean` keeps: the parts of the state outside its mask, and
the invariant. -/

namespace Sys2Proof.Machine
open Sys2Proof

theorem keep_slotFill (s : State) (i : Nat) : Keep 0x20 s (State.slotFill s i) := by
  unfold State.slotFill
  repeat' first
    | intro _
    | with_reducible assumption
    | with_reducible exact Keep.refl _ _
    | (extract_lets +onlyGivenNames vv; clear_value vv)
    | extract_lets +onlyGivenNames vv
    | with_reducible refine keep_ite ?_ ?_
    | with_reducible apply Keep.step (keep_setReg _ _ _)
    | exact rfl

theorem keep_slotErase (s : State) (i : Nat) : Keep 0x20 s (State.slotErase s i) := by
  unfold State.slotErase
  repeat' first
    | intro _
    | with_reducible assumption
    | with_reducible exact Keep.refl _ _
    | (extract_lets +onlyGivenNames vv; clear_value vv)
    | extract_lets +onlyGivenNames vv
    | with_reducible refine keep_ite ?_ ?_
    | with_reducible apply Keep.step (keep_setReg _ _ _)
    | exact rfl

theorem keep_slotFail (s : State) (i : Nat) : Keep 0x30091083009fd5c2260 s (State.slotFail s i) := by
  unfold State.slotFail
  repeat' first
    | intro _
    | with_reducible assumption
    | with_reducible exact Keep.refl _ _
    | (extract_lets +onlyGivenNames vv; clear_value vv)
    | extract_lets +onlyGivenNames vv
    | with_reducible refine keep_ite ?_ ?_
    | with_reducible apply Keep.step (keep_occur _ _ _ _)
    | with_reducible apply Keep.step (keep_setReg _ _ _)
    | exact rfl

theorem keep_zeroise (s : State) (slot : Nat) : Keep 0x30091083009fd5c2260 s (State.zeroise s slot) := by
  unfold State.zeroise
  try dsimp only
  repeat' first
    | intro _
    | with_reducible assumption
    | with_reducible exact Keep.refl _ _
    | (simp -zeta only [keepAt_mk]; with_reducible refine keep_mk_tagHeld_keys ?_ ?_)
    | with_reducible refine keep_ite ?_ ?_
    | with_reducible apply Keep.step (keep_addCount _ _ _)
    | with_reducible apply Keep.step (keep_occur _ _ _ _)
    | with_reducible apply Keep.step (keep_propose _ _)
    | with_reducible apply Keep.step (keep_setReg _ _ _)
    | exact rfl

theorem keep_execZeroiseWrite (w : Writer) (v : Nat) (s : State) : KeepR 0xb0091883009fd5c26e0 s (execZeroiseWrite w v s) := by
  unfold execZeroiseWrite
  repeat' first
    | intro _
    | with_reducible assumption
    | with_reducible exact Keep.refl _ _
    | (extract_lets +onlyGivenNames vv; clear_value vv)
    | extract_lets +onlyGivenNames vv
    | with_reducible refine keep_ite ?_ ?_
    | with_reducible apply Keep.step (n := 0xb0091883009fd5c26e0) (keep_command _ _ _ _ _ _ ?_ ?_)
    | with_reducible apply Keep.step (keep_zeroise _ _)
    | with_reducible apply Keep.step (keep_id _)
    | exact rfl
    | with_reducible refine keepr_next ?_

theorem keep_execKeyLossSafe (s : State) : KeepR 0x300110830887d5c2246 s (execKeyLossSafe s) := by
  unfold execKeyLossSafe
  repeat' first
    | intro _
    | with_reducible assumption
    | with_reducible exact Keep.refl _ _
    | (extract_lets +onlyGivenNames vv; have hv : Keep 0x300110830887d5c2246 s vv; unfold vv; clear vv; rotate_left; try clear_value vv; rotate_left)
    | (extract_lets +onlyGivenNames vv; clear_value vv)
    | extract_lets +onlyGivenNames vv
    | (simp -zeta only [keepAt_mk]; with_reducible refine keep_mk_keys ?_ ?_)
    | with_reducible refine keep_ite ?_ ?_
    | with_reducible apply Keep.step (keep_enterSafe _ _)
    | with_reducible apply Keep.step (keep_until _ _)
    | exact rfl
    | with_reducible refine keepr_next ?_
    | with_reducible exact keepr_fault
    | with_reducible refine keepr_ite ?_ ?_
    | with_reducible refine keep_foldl (fun _ _ _ => ?_) _ ?_
    | with_reducible exact cellsWf_filter _ (by assumption) _
    | with_reducible exact cellsWf_cellSet _ (by assumption) _ _
    | with_reducible refine keep_snd (by with_reducible assumption) ?_
    | with_reducible refine keep_fst (by with_reducible assumption) ?_
    | split

theorem keep_stages {m : Nat} (s : State) (k lc : Nat) (keys : State → State) (hkeys : ∀ s , Keep m s (keys s )) (hm : Nat.land 0x100000020 m = 0x100000020) : Keep m s (State.stages s k lc keys) := by
  unfold State.stages
  try dsimp only
  repeat' first
    | intro _
    | with_reducible assumption
    | with_reducible exact Keep.refl _ _
    | with_reducible refine keep_ite ?_ ?_
    | with_reducible apply Keep.step (keep_logRecord _ _ _)
    | with_reducible apply Keep.step (keep_setReg _ _ _)
    | with_reducible apply Keep.step (hkeys _)
    | with_reducible apply Keep.step (keep_id _)
    | with_reducible exact keep_self _
    | exact keep_sub rfl hm

theorem keep_transition {m : Nat} (s : State) (w : Writer) (k v : Nat) (good : Bool) (lc : Nat) (keys : State → State) (hkeys : ∀ s , Keep m s (keys s )) (hm : Nat.land 0xb0090800009005c26e0 m = 0xb0090800009005c26e0) : Keep m s (State.transition s w k v good lc keys) := by
  unfold State.transition
  repeat' first
    | intro _
    | with_reducible assumption
    | with_reducible exact Keep.refl _ _
    | (extract_lets +onlyGivenNames vv; clear_value vv)
    | extract_lets +onlyGivenNames vv
    | with_reducible refine keep_ite ?_ ?_
    | with_reducible apply Keep.step (keep_refuse _ _ _ _)
    | with_reducible apply Keep.step (n := m) (keep_stages _ _ _ _ ?_ ?_)
    | with_reducible apply Keep.step (n := m) (keep_write _ _ _ _ _ _ ?_ ?_)
    | with_reducible apply Keep.step (hkeys _)
    | with_reducible apply Keep.step (keep_id _)
    | with_reducible exact keep_self _
    | exact keep_sub rfl hm

theorem keep_freshKey (s : State) (k : Nat) : Keep 0x120 s (State.freshKey s k) := by
  unfold State.freshKey
  repeat' first
    | intro _
    | with_reducible assumption
    | with_reducible exact Keep.refl _ _
    | (extract_lets +onlyGivenNames vv; clear_value vv)
    | extract_lets +onlyGivenNames vv
    | with_reducible refine keep_ite ?_ ?_
    | with_reducible apply Keep.step (keep_fresh _)
    | with_reducible apply Keep.step (keep_setReg _ _ _)
    | exact rfl

theorem keep_execTransitionForge (w : Writer) (v : Nat) (good : Bool) (s : State) : KeepR 0xb0090800009005c27e0 s (execTransitionForge w v good s) := by
  unfold execTransitionForge
  try dsimp only
  repeat' first
    | intro _
    | with_reducible assumption
    | with_reducible exact Keep.refl _ _
    | with_reducible refine keep_ite ?_ ?_
    | with_reducible apply Keep.step (keep_fresh _)
    | with_reducible apply Keep.step (keep_freshKey _ _)
    | with_reducible apply Keep.step (keep_setReg _ _ _)
    | with_reducible apply Keep.step (keep_slotFill _ _)
    | with_reducible apply Keep.step (n := 0xb0090800009005c27e0) (keep_transition _ _ _ _ _ _ _ ?_ ?_)
    | exact rfl
    | with_reducible refine keepr_next ?_

theorem keep_pendRoot (s : State) (k v : Nat) : Keep 0x2000000000000000020 s (State.pendRoot s k v) := by
  unfold State.pendRoot
  repeat' first
    | intro _
    | with_reducible assumption
    | with_reducible exact Keep.refl _ _
    | (extract_lets +onlyGivenNames vv; have hv : Keep 0x2000000000000000020 s vv; unfold vv; clear vv; rotate_left; try clear_value vv; rotate_left)
    | (extract_lets +onlyGivenNames vv; clear_value vv)
    | extract_lets +onlyGivenNames vv
    | (simp -zeta only [keepAt_mk]; with_reducible refine keep_mk_keys ?_ ?_)
    | with_reducible refine keep_ite ?_ ?_
    | with_reducible apply Keep.step (keep_setReg _ _ _)
    | with_reducible apply Keep.step (keep_slotFill _ _)
    | exact rfl

theorem keep_execTransitionTake (w : Writer) (v : Nat) (good : Bool) (s : State) : KeepR 0xb0090800009005c26e0 s (execTransitionTake w v good s) := by
  unfold execTransitionTake
  repeat' first
    | intro _
    | with_reducible assumption
    | with_reducible exact Keep.refl _ _
    | (extract_lets +onlyGivenNames vv; clear_value vv)
    | extract_lets +onlyGivenNames vv
    | with_reducible refine keep_ite ?_ ?_
    | with_reducible apply Keep.step (keep_pendRoot _ _ _)
    | with_reducible apply Keep.step (n := 0xb0090800009005c26e0) (keep_transition _ _ _ _ _ _ _ ?_ ?_)
    | exact rfl
    | with_reducible refine keepr_next ?_

theorem keep_execTransitionTransfer (w : Writer) (v : Nat) (good : Bool) (s : State) : KeepR 0xb0090800009005c26e0 s (execTransitionTransfer w v good s) := by
  unfold execTransitionTransfer
  repeat' first
    | intro _
    | with_reducible assumption
    | with_reducible exact Keep.refl _ _
    | (extract_lets +onlyGivenNames vv; clear_value vv)
    | extract_lets +onlyGivenNames vv
    | with_reducible refine keep_ite ?_ ?_
    | with_reducible apply Keep.step (keep_pendRoot _ _ _)
    | with_reducible apply Keep.step (n := 0xb0090800009005c26e0) (keep_transition _ _ _ _ _ _ _ ?_ ?_)
    | exact rfl
    | with_reducible refine keepr_next ?_

theorem keep_execTransitionReturn (w : Writer) (v : Nat) (good : Bool) (s : State) : KeepR 0xb0091883009fd5c26e0 s (execTransitionReturn w v good s) := by
  unfold execTransitionReturn
  repeat' first
    | intro _
    | with_reducible assumption
    | with_reducible exact Keep.refl _ _
    | (extract_lets +onlyGivenNames vv; clear_value vv)
    | extract_lets +onlyGivenNames vv
    | with_reducible refine keep_ite ?_ ?_
    | with_reducible apply Keep.step (keep_slotErase _ _)
    | with_reducible apply Keep.step (n := 0xb0091883009fd5c26e0) (keep_transition _ _ _ _ _ _ _ ?_ ?_)
    | with_reducible apply Keep.step (keep_zeroise _ _)
    | exact rfl
    | with_reducible refine keepr_next ?_

theorem keep_execTransitionScrap (w : Writer) (v : Nat) (good : Bool) (s : State) : KeepR 0xb0091883009fd5c26e0 s (execTransitionScrap w v good s) := by
  unfold execTransitionScrap
  try dsimp only
  repeat' first
    | intro _
    | with_reducible assumption
    | with_reducible exact Keep.refl _ _
    | (simp -zeta only [keepAt_mk]; with_reducible refine keep_mk_keys ?_ ?_)
    | with_reducible refine keep_ite ?_ ?_
    | with_reducible apply Keep.step (keep_setReg _ _ _)
    | with_reducible apply Keep.step (keep_slotErase _ _)
    | with_reducible apply Keep.step (n := 0xb0091883009fd5c26e0) (keep_transition _ _ _ _ _ _ _ ?_ ?_)
    | with_reducible apply Keep.step (keep_zeroise _ _)
    | exact rfl
    | with_reducible refine keepr_next ?_
    | with_reducible exact keepr_fault
    | with_reducible refine keepr_ite ?_ ?_
    | with_reducible refine keep_foldl (fun _ _ _ => ?_) _ ?_

theorem keep_execRootTakeover (s : State) : KeepR 0x2000000008080000026 s (execRootTakeover s) := by
  unfold execRootTakeover
  repeat' first
    | intro _
    | with_reducible assumption
    | with_reducible exact Keep.refl _ _
    | (extract_lets +onlyGivenNames vv; have hv : Keep 0x2000000008080000026 s vv; unfold vv; clear vv; rotate_left; try clear_value vv; rotate_left)
    | (extract_lets +onlyGivenNames vv; clear_value vv)
    | extract_lets +onlyGivenNames vv
    | (simp -zeta only [keepAt_mk]; with_reducible refine keep_mk_keys ?_ ?_)
    | with_reducible refine keep_ite ?_ ?_
    | with_reducible apply Keep.step (keep_newKey _ _ _ _)
    | with_reducible apply Keep.step (keep_setReg _ _ _)
    | with_reducible apply Keep.step (keep_slotErase _ _)
    | with_reducible apply Keep.step (keep_slotFill _ _)
    | with_reducible apply Keep.step (keep_untilFtime _ _)
    | exact rfl
    | with_reducible refine keepr_next ?_
    | with_reducible exact keepr_fault
    | with_reducible refine keepr_ite ?_ ?_
    | with_reducible refine keep_foldl (fun _ _ _ => ?_) _ ?_
    | with_reducible exact cellsWf_filter _ (by assumption) _
    | with_reducible exact cellsWf_cellSet _ (by assumption) _ _
    | with_reducible refine keep_snd (by with_reducible assumption) ?_
    | with_reducible refine keep_fst (by with_reducible assumption) ?_
    | split

theorem keep_keyFound (s : State) (intact : Bool) : Keep 0x30091083009fd5c2260 s (State.keyFound s intact) := by
  unfold State.keyFound
  repeat' first
    | intro _
    | with_reducible assumption
    | with_reducible exact Keep.refl _ _
    | (extract_lets +onlyGivenNames vv; have hv : Keep 0x30091083009fd5c2260 s vv; unfold vv; clear vv; rotate_left; try clear_value vv; rotate_left)
    | (extract_lets +onlyGivenNames vv; clear_value vv)
    | extract_lets +onlyGivenNames vv
    | (simp -zeta only [keepAt_mk]; with_reducible refine keep_mk_keys ?_ ?_)
    | with_reducible refine keep_ite ?_ ?_
    | with_reducible apply Keep.step (keep_occur _ _ _ _)
    | with_reducible apply Keep.step (keep_setReg _ _ _)
    | with_reducible apply Keep.step (keep_slotFail _ _)
    | exact rfl

theorem keep_keyLoaded (s : State) : Keep 0x2000000000000000000 s (State.keyLoaded s) := by
  unfold State.keyLoaded
  repeat' first
    | intro _
    | with_reducible assumption
    | with_reducible exact Keep.refl _ _
    | (extract_lets +onlyGivenNames vv; clear_value vv)
    | extract_lets +onlyGivenNames vv
    | (simp -zeta only [keepAt_mk]; with_reducible refine keep_mk_keys ?_ ?_)
    | with_reducible refine keep_ite ?_ ?_
    | exact rfl

theorem keep_execKeyLoad (intact : Bool) (s : State) : KeepR 0x30091083089fd5c2266 s (execKeyLoad intact s) := by
  unfold execKeyLoad
  repeat' first
    | intro _
    | with_reducible assumption
    | with_reducible exact Keep.refl _ _
    | (extract_lets +onlyGivenNames vv; clear_value vv)
    | extract_lets +onlyGivenNames vv
    | with_reducible refine keep_ite ?_ ?_
    | with_reducible apply Keep.step (keep_keyFound _ _)
    | with_reducible apply Keep.step (keep_keyLoaded _)
    | with_reducible apply Keep.step (keep_until _ _)
    | exact rfl
    | with_reducible refine keepr_next ?_
    | with_reducible exact keepr_fault
    | with_reducible refine keepr_ite ?_ ?_

theorem keep_execTagFloorAdvance (s : State) : KeepR 0x8000000026 s (execTagFloorAdvance s) := by
  unfold execTagFloorAdvance
  repeat' first
    | intro _
    | with_reducible assumption
    | with_reducible exact Keep.refl _ _
    | (extract_lets +onlyGivenNames vv; have hv : Keep 0x8000000026 s vv; unfold vv; clear vv; rotate_left; try clear_value vv; rotate_left)
    | (extract_lets +onlyGivenNames vv; clear_value vv)
    | extract_lets +onlyGivenNames vv
    | with_reducible refine keep_ite ?_ ?_
    | with_reducible apply Keep.step (keep_setReg _ _ _)
    | with_reducible apply Keep.step (keep_untilFtime _ _)
    | exact rfl
    | with_reducible refine keepr_next ?_

theorem keep_execTagWaitRelease (s : State) : KeepR 0x30000000008005c2040 s (execTagWaitRelease s) := by
  unfold execTagWaitRelease
  repeat' first
    | intro _
    | with_reducible assumption
    | with_reducible exact Keep.refl _ _
    | (extract_lets +onlyGivenNames vv; have hv : Keep 0x30000000008005c2040 s vv; unfold vv; clear vv; rotate_left; try clear_value vv; rotate_left)
    | (extract_lets +onlyGivenNames vv; clear_value vv)
    | extract_lets +onlyGivenNames vv
    | (simp -zeta only [keepAt_mk]; first | with_reducible refine keep_mk_tagHeld ?_ ?_ | with_reducible refine keep_mk_keys ?_ ?_)
    | with_reducible refine keep_ite ?_ ?_
    | with_reducible apply Keep.step (keep_ivUse _ _)
    | with_reducible apply Keep.step (keep_originateNow _ _)
    | with_reducible apply Keep.step (keep_sendLocal _ _ _)
    | exact rfl
    | with_reducible refine keepr_next ?_
    | with_reducible exact keepr_fault
    | with_reducible refine keepr_ite ?_ ?_
    | with_reducible refine keep_foldl (fun _ _ _ => ?_) _ ?_
    | with_reducible exact cellsWf_filter _ (by assumption) _
    | with_reducible exact cellsWf_cellSet _ (by assumption) _ _
    | with_reducible refine keep_snd (by with_reducible assumption) ?_
    | with_reducible refine keep_fst (by with_reducible assumption) ?_
    | split

theorem keep_execEpochCommit (w : Writer) (v : Nat) (s : State) : KeepR 0xb0090800008005c26e0 s (execEpochCommit w v s) := by
  unfold execEpochCommit
  try dsimp only
  repeat' first
    | intro _
    | with_reducible assumption
    | with_reducible exact Keep.refl _ _
    | (simp -zeta only [keepAt_mk]; with_reducible refine keep_mk_keys ?_ ?_)
    | with_reducible refine keep_ite ?_ ?_
    | with_reducible apply Keep.step (n := 0xb0090800008005c26e0) (keep_command _ _ _ _ _ _ ?_ ?_)
    | with_reducible apply Keep.step (keep_setReg _ _ _)
    | with_reducible apply Keep.step (keep_id _)
    | exact rfl
    | with_reducible refine keepr_next ?_

theorem keep_execEpochRollover (s : State) : KeepR 0x2000000009080000026 s (execEpochRollover s) := by
  unfold execEpochRollover
  repeat' first
    | intro _
    | with_reducible assumption
    | with_reducible exact Keep.refl _ _
    | (extract_lets +onlyGivenNames vv; have hv : Keep 0x2000000009080000026 s vv; unfold vv; clear vv; rotate_left; try clear_value vv; rotate_left)
    | (extract_lets +onlyGivenNames vv; clear_value vv)
    | extract_lets +onlyGivenNames vv
    | (simp -zeta only [keepAt_mk]; first | with_reducible refine keep_mk_img ?_ ?_ | with_reducible refine keep_mk_keys ?_ ?_)
    | with_reducible refine keep_ite ?_ ?_
    | with_reducible apply Keep.step (keep_newKey _ _ _ _)
    | with_reducible apply Keep.step (keep_setReg _ _ _)
    | with_reducible apply Keep.step (keep_untilFtime _ _)
    | exact rfl
    | with_reducible refine keepr_next ?_
    | with_reducible exact keepr_fault
    | with_reducible refine keepr_ite ?_ ?_
    | with_reducible refine keep_foldl (fun _ _ _ => ?_) _ ?_
    | with_reducible exact cellsWf_filter _ (by assumption) _
    | with_reducible exact cellsWf_cellSet _ (by assumption) _ _
    | with_reducible refine keep_snd (by with_reducible assumption) ?_
    | with_reducible refine keep_fst (by with_reducible assumption) ?_
    | split

theorem keep_execKeyEpochAge (s : State) : KeepR 0x30091083089fd5c2266 s (execKeyEpochAge s) := by
  unfold execKeyEpochAge
  repeat' first
    | intro _
    | with_reducible assumption
    | with_reducible exact Keep.refl _ _
    | (extract_lets +onlyGivenNames vv; clear_value vv)
    | extract_lets +onlyGivenNames vv
    | with_reducible refine keep_ite ?_ ?_
    | with_reducible apply Keep.step (keep_faultUp _ _ _ _)
    | with_reducible apply Keep.step (keep_untilFtime _ _)
    | exact rfl
    | with_reducible refine keepr_next ?_

theorem keep_execEpochAgeZeroise (s : State) : KeepR 0x30091083089fd5c2266 s (execEpochAgeZeroise s) := by
  unfold execEpochAgeZeroise
  repeat' first
    | intro _
    | with_reducible assumption
    | with_reducible exact Keep.refl _ _
    | (extract_lets +onlyGivenNames vv; clear_value vv)
    | extract_lets +onlyGivenNames vv
    | with_reducible refine keep_ite ?_ ?_
    | with_reducible apply Keep.step (keep_untilFtime _ _)
    | with_reducible apply Keep.step (keep_zeroise _ _)
    | exact rfl
    | with_reducible refine keepr_next ?_

theorem keep_execAttestRequest (w : Writer) (v : Nat) (s : State) : KeepR 0xb0090800008005c26c0 s (execAttestRequest w v s) := by
  unfold execAttestRequest
  try dsimp only
  repeat' first
    | intro _
    | with_reducible assumption
    | with_reducible exact Keep.refl _ _
    | (simp -zeta only [keepAt_mk]; with_reducible refine keep_mk_keys ?_ ?_)
    | with_reducible refine keep_ite ?_ ?_
    | with_reducible apply Keep.step (n := 0xb0090800008005c26c0) (keep_write _ _ _ _ _ _ ?_ ?_)
    | with_reducible apply Keep.step (keep_id _)
    | exact rfl
    | with_reducible refine keepr_next ?_

theorem keep_execAttestComplete (s : State) : KeepR 0x2000000000000000120 s (execAttestComplete s) := by
  unfold execAttestComplete
  repeat' first
    | intro _
    | with_reducible assumption
    | with_reducible exact Keep.refl _ _
    | (extract_lets +onlyGivenNames vv; clear_value vv)
    | extract_lets +onlyGivenNames vv
    | (simp -zeta only [keepAt_mk]; with_reducible refine keep_mk_keys ?_ ?_)
    | with_reducible refine keep_ite ?_ ?_
    | with_reducible apply Keep.step (keep_fresh _)
    | with_reducible apply Keep.step (keep_setReg _ _ _)
    | exact rfl
    | with_reducible refine keepr_next ?_
    | with_reducible exact keepr_fault
    | with_reducible refine keepr_ite ?_ ?_
    | with_reducible refine keep_foldl (fun _ _ _ => ?_) _ ?_
    | with_reducible exact cellsWf_filter _ (by assumption) _
    | with_reducible exact cellsWf_cellSet _ (by assumption) _ _
    | with_reducible refine keep_snd (by with_reducible assumption) ?_
    | with_reducible refine keep_fst (by with_reducible assumption) ?_
    | split

theorem keep_execCountersignKeyWrite (w : Writer) (v : Nat) (good : Bool) (s : State) : KeepR 0xb0090800008005c26e0 s (execCountersignKeyWrite w v good s) := by
  unfold execCountersignKeyWrite
  repeat' first
    | intro _
    | with_reducible assumption
    | with_reducible exact Keep.refl _ _
    | (extract_lets +onlyGivenNames vv; clear_value vv)
    | extract_lets +onlyGivenNames vv
    | with_reducible refine keep_ite ?_ ?_
    | with_reducible apply Keep.step (keep_slotFill _ _)
    | with_reducible apply Keep.step (n := 0xb0090800008005c26e0) (keep_write _ _ _ _ _ _ ?_ ?_)
    | with_reducible apply Keep.step (keep_id _)
    | exact rfl
    | with_reducible refine keepr_next ?_

end Sys2Proof.Machine
end

