-- ==== Sys2Proof/Laws/KeepJtag.lean ====
section
/-! SUPPORT. What each operation and each command of `Machine/Jtag.lean` keeps: the parts of the state outside its mask, and
the invariant. -/

namespace Sys2Proof.Machine
open Sys2Proof

theorem keep_jtagSelect (s : State) (op : Nat) : Keep 0x10000000000000000000 s (State.jtagSelect s op) := by
  unfold State.jtagSelect
  repeat' first
    | intro _
    | with_reducible assumption
    | with_reducible exact Keep.refl _ _
    | (extract_lets +onlyGivenNames vv; clear_value vv)
    | extract_lets +onlyGivenNames vv
    | (simp -zeta only [keepAt_mk]; with_reducible refine keep_mk_jtag ?_ ?_)
    | with_reducible refine keep_ite ?_ ?_
    | exact rfl

theorem keep_execJtagExtest (s : State) : KeepR 0x10000000000000000000 s (execJtagExtest s) := by
  unfold execJtagExtest
  repeat' first
    | intro _
    | with_reducible assumption
    | with_reducible exact Keep.refl _ _
    | (extract_lets +onlyGivenNames vv; clear_value vv)
    | extract_lets +onlyGivenNames vv
    | with_reducible refine keep_ite ?_ ?_
    | with_reducible apply Keep.step (keep_jtagSelect _ _)
    | exact rfl
    | with_reducible refine keepr_next ?_

theorem keep_execJtagIdcode (s : State) : KeepR 0x10000000000000000000 s (execJtagIdcode s) := by
  unfold execJtagIdcode
  repeat' first
    | intro _
    | with_reducible assumption
    | with_reducible exact Keep.refl _ _
    | (extract_lets +onlyGivenNames vv; clear_value vv)
    | extract_lets +onlyGivenNames vv
    | (simp -zeta only [keepAt_mk]; with_reducible refine keep_mk_jtag ?_ ?_)
    | with_reducible refine keep_ite ?_ ?_
    | exact rfl
    | with_reducible refine keepr_next ?_

theorem keep_execJtagSamplePreload (s : State) : KeepR 0x10000000000000000000 s (execJtagSamplePreload s) := by
  unfold execJtagSamplePreload
  repeat' first
    | intro _
    | with_reducible assumption
    | with_reducible exact Keep.refl _ _
    | (extract_lets +onlyGivenNames vv; clear_value vv)
    | extract_lets +onlyGivenNames vv
    | with_reducible refine keep_ite ?_ ?_
    | with_reducible apply Keep.step (keep_jtagSelect _ _)
    | exact rfl
    | with_reducible refine keepr_next ?_

theorem keep_execJtagClamp (s : State) : KeepR 0x10000000000000000000 s (execJtagClamp s) := by
  unfold execJtagClamp
  repeat' first
    | intro _
    | with_reducible assumption
    | with_reducible exact Keep.refl _ _
    | (extract_lets +onlyGivenNames vv; clear_value vv)
    | extract_lets +onlyGivenNames vv
    | with_reducible refine keep_ite ?_ ?_
    | with_reducible apply Keep.step (keep_jtagSelect _ _)
    | exact rfl
    | with_reducible refine keepr_next ?_

theorem keep_execJtagHighz (s : State) : KeepR 0x10000000000000000000 s (execJtagHighz s) := by
  unfold execJtagHighz
  repeat' first
    | intro _
    | with_reducible assumption
    | with_reducible exact Keep.refl _ _
    | (extract_lets +onlyGivenNames vv; clear_value vv)
    | extract_lets +onlyGivenNames vv
    | with_reducible refine keep_ite ?_ ?_
    | with_reducible apply Keep.step (keep_jtagSelect _ _)
    | exact rfl
    | with_reducible refine keepr_next ?_

theorem keep_execJtagCrucibleAddr (v : Nat) (s : State) : KeepR 0x10000000000000000000 s (execJtagCrucibleAddr v s) := by
  unfold execJtagCrucibleAddr
  repeat' first
    | intro _
    | with_reducible assumption
    | with_reducible exact Keep.refl _ _
    | (extract_lets +onlyGivenNames vv; clear_value vv)
    | extract_lets +onlyGivenNames vv
    | (simp -zeta only [keepAt_mk]; with_reducible refine keep_mk_jtag ?_ ?_)
    | with_reducible refine keep_ite ?_ ?_
    | with_reducible apply Keep.step (keep_jtagSelect _ _)
    | exact rfl
    | with_reducible refine keepr_next ?_

theorem keep_execJtagCrucibleData (s : State) : KeepR 0x10000000000000000000 s (execJtagCrucibleData s) := by
  unfold execJtagCrucibleData
  repeat' first
    | intro _
    | with_reducible assumption
    | with_reducible exact Keep.refl _ _
    | (extract_lets +onlyGivenNames vv; clear_value vv)
    | extract_lets +onlyGivenNames vv
    | (simp -zeta only [keepAt_mk]; with_reducible refine keep_mk_jtag ?_ ?_)
    | with_reducible refine keep_ite ?_ ?_
    | with_reducible apply Keep.step (keep_jtagSelect _ _)
    | exact rfl
    | with_reducible refine keepr_next ?_

theorem keep_execJtagBypass (s : State) : KeepR 0x10000000000000000000 s (execJtagBypass s) := by
  unfold execJtagBypass
  repeat' first
    | intro _
    | with_reducible assumption
    | with_reducible exact Keep.refl _ _
    | (extract_lets +onlyGivenNames vv; clear_value vv)
    | extract_lets +onlyGivenNames vv
    | with_reducible refine keep_ite ?_ ?_
    | with_reducible apply Keep.step (keep_jtagSelect _ _)
    | exact rfl
    | with_reducible refine keepr_next ?_

end Sys2Proof.Machine
end

