-- ==== Sys2Proof/Laws/KeepWrites.lean ====
section
/-! SUPPORT. What each operation and each command of `Machine/Writes.lean` keeps: the parts of the state outside its mask, and
the invariant. -/

namespace Sys2Proof.Machine
open Sys2Proof

theorem keep_resState {m : Nat} {x s : State} {r : Res} (hs : Keep m x s) (h : KeepR m s r) : Keep m x (resState s r) := by
  unfold resState
  split
  · exact Keep.step (h.keep _ rfl) (Nat.and_self _) hs
  · exact hs
  · exact hs

theorem keep_lowEff (s : State) (k v : Nat) : Keep 0x40000001800000020 s (State.lowEff s k v) := by
  unfold State.lowEff
  repeat' first
    | intro _
    | with_reducible assumption
    | with_reducible exact Keep.refl _ _
    | (extract_lets +onlyGivenNames vv; have hv : Keep 0x40000001800000020 s vv; unfold vv; clear vv; rotate_left; try clear_value vv; rotate_left)
    | (extract_lets +onlyGivenNames vv; clear_value vv)
    | extract_lets +onlyGivenNames vv
    | (simp -zeta only [keepAt_mk]; first | with_reducible refine keep_mk_disc ?_ ?_ | with_reducible refine keep_mk_img ?_ ?_)
    | with_reducible refine keep_ite ?_ ?_
    | with_reducible apply Keep.step (keep_setForces _ _)
    | with_reducible apply Keep.step (keep_store _ _ _)
    | with_reducible apply Keep.step (keep_unstay _ _ _)
    | exact rfl

theorem keep_execCompatRequestWrite (w : Writer) (v : Nat) (s : State) : KeepR 0xb0090800008005c26e0 s (execCompatRequestWrite w v s) := by
  unfold execCompatRequestWrite
  repeat' first
    | intro _
    | with_reducible assumption
    | with_reducible exact Keep.refl _ _
    | (extract_lets +onlyGivenNames vv; clear_value vv)
    | extract_lets +onlyGivenNames vv
    | with_reducible refine keep_ite ?_ ?_
    | with_reducible apply Keep.step (keep_setReg _ _ _)
    | with_reducible apply Keep.step (n := 0xb0090800008005c26e0) (keep_write _ _ _ _ _ _ ?_ ?_)
    | with_reducible apply Keep.step (keep_id _)
    | exact rfl
    | with_reducible refine keepr_next ?_

theorem keep_plain {m : Nat} (s : State) (w : Writer) (k v : Nat) (own : State → Option Abort) (eff : State → State) (heff : ∀ s , Keep m s (eff s )) (hm : Nat.land 0xb0090800008005c26c0 m = 0xb0090800008005c26c0) : Keep m s (State.plain s w k v own eff) := by
  unfold State.plain
  repeat' first
    | intro _
    | with_reducible assumption
    | with_reducible exact Keep.refl _ _
    | (extract_lets +onlyGivenNames vv; clear_value vv)
    | extract_lets +onlyGivenNames vv
    | with_reducible refine keep_ite ?_ ?_
    | with_reducible apply Keep.step (n := m) (keep_write _ _ _ _ _ _ ?_ ?_)
    | with_reducible apply Keep.step (heff _)
    | with_reducible apply Keep.step (keep_id _)
    | with_reducible exact keep_self _

theorem keep_writeLow (s : State) (w : Writer) (k v : Nat) : Keep 0xf44919c3399fddc76e4 s (State.writeLow s w k v) := by
  unfold State.writeLow
  try dsimp only
  repeat' first
    | intro _
    | with_reducible assumption
    | with_reducible exact Keep.refl _ _
    | with_reducible refine keep_ite ?_ ?_
    | with_reducible apply Keep.step (keep_lowEff _ _ _)
    | with_reducible apply Keep.step (n := 0xf44919c3399fddc76e4) (keep_plain _ _ _ _ _ _ ?_ ?_)
    | with_reducible refine keep_resState ?_ ?_
    | with_reducible apply Keep.step (keep_id _)
    | exact rfl
    | with_reducible apply keepr_mono (keep_execBypCommandWrite _ _ _)
    | with_reducible apply keepr_mono (keep_execBypCyclesWrite _ _ _ _)
    | with_reducible apply keepr_mono (keep_execCompatRequestWrite _ _ _)
    | with_reducible apply keepr_mono (keep_execForceRelease _ _)
    | with_reducible apply keepr_mono (keep_execForceReleaseAll _ _)
    | with_reducible apply keepr_mono (keep_execForceWord _ _)
    | with_reducible apply keepr_mono (keep_execLinkCounterClearPort _ _ _)
    | with_reducible apply keepr_mono (keep_execPortEnableWrite _ _ _ _)
    | with_reducible apply keepr_mono (keep_execPortSettingWrite _ _ _ _ _)
    | with_reducible apply keepr_mono (keep_execRatedCyclesWrite _ _ _ _)
    | with_reducible apply keepr_mono (keep_execRestoreDefaults _ _ _)
    | with_reducible apply keepr_mono (keep_execSave _ _ _)
    | with_reducible apply keepr_mono (keep_execSetTimeWrite _ _ _)
    | with_reducible apply keepr_mono (keep_execStateRequestCloseMaint _ _)
    | with_reducible apply keepr_mono (keep_execStateRequestOpenMaint _ _)
    | with_reducible apply keepr_mono (keep_execStateRequestOperate _ _)
    | with_reducible apply keepr_mono (keep_execStateRequestPreop _ _)
    | with_reducible apply keepr_mono (keep_execStateRequestReset _ _)
    | with_reducible apply keepr_mono (keep_execStateRequestSafe _ _)
    | with_reducible apply keepr_mono (keep_execStepAcceptWrite _ _ _)
    | with_reducible apply keepr_mono (keep_execVersionRangeWrite _ _ _ _)

theorem keep_iolEff (s : State) (p j k v : Nat) : Keep 0x300110400087c1c2060 s (State.iolEff s p j k v) := by
  unfold State.iolEff
  repeat' first
    | intro _
    | with_reducible assumption
    | with_reducible exact Keep.refl _ _
    | (extract_lets +onlyGivenNames vv; clear_value vv)
    | extract_lets +onlyGivenNames vv
    | with_reducible refine keep_ite ?_ ?_
    | with_reducible apply Keep.step (n := 0x300110400087c1c2060) (keep_iolAct _ _ _ ?_ ?_)
    | with_reducible apply Keep.step (keep_lpSync _ _)
    | with_reducible apply Keep.step (keep_pdOut _ _ _ _)
    | with_reducible apply Keep.step (keep_setIol _ _ _)
    | with_reducible apply Keep.step (keep_setReg _ _ _)
    | with_reducible apply Keep.step (keep_store _ _ _)
    | exact rfl

theorem keep_writeQueue (s : State) (w : Writer) (k v : Nat) : Keep 0xb0091801408fc5c27e0 s (State.writeQueue s w k v) := by
  unfold State.writeQueue
  try dsimp only
  repeat' first
    | intro _
    | with_reducible assumption
    | with_reducible exact Keep.refl _ _
    | with_reducible refine keep_ite ?_ ?_
    | with_reducible apply Keep.step (n := 0xb0091801408fc5c27e0) (keep_plain _ _ _ _ _ _ ?_ ?_)
    | with_reducible apply Keep.step (keep_store _ _ _)
    | with_reducible refine keep_resState ?_ ?_
    | exact rfl
    | with_reducible apply keepr_mono (keep_execCaptureFlush _ _ _ _)
    | with_reducible apply keepr_mono (keep_execOutPackedWrite _ _ _ _)
    | with_reducible apply keepr_mono (keep_execQueueConfigWrite _ _ _ _ _)
    | with_reducible apply keepr_mono (keep_execQueueFlushCommand _ _ _ _ _)
    | with_reducible apply keepr_mono (keep_execQueueSkipCommand _ _ _ _ _)

theorem keep_writeLine (s : State) (w : Writer) (k v : Nat) : Keep 0xb0091801008fc5c27e0 s (State.writeLine s w k v) := by
  unfold State.writeLine
  try dsimp only
  repeat' first
    | intro _
    | with_reducible assumption
    | with_reducible exact Keep.refl _ _
    | with_reducible refine keep_ite ?_ ?_
    | with_reducible apply Keep.step (n := 0xb0091801008fc5c27e0) (keep_lineAct _ _ _ ?_ ?_)
    | with_reducible apply Keep.step (n := 0xb0091801008fc5c27e0) (keep_plain _ _ _ _ _ _ ?_ ?_)
    | with_reducible apply Keep.step (keep_store _ _ _)
    | with_reducible refine keep_resState ?_ ?_
    | exact rfl
    | with_reducible apply keepr_mono (keep_execDlClear _ _ _ _)
    | with_reducible apply keepr_mono (keep_execDlCommandWrite _ _ _ _)
    | with_reducible apply keepr_mono (keep_execDlModeWrite _ _ _ _)

theorem keep_writeCan (s : State) (w : Writer) (k v : Nat) : Keep 0xb0091804008fc5c26e0 s (State.writeCan s w k v) := by
  unfold State.writeCan
  try dsimp only
  repeat' first
    | intro _
    | with_reducible assumption
    | with_reducible exact Keep.refl _ _
    | with_reducible refine keep_ite ?_ ?_
    | with_reducible apply Keep.step (keep_canFilterWritten _ _ _ _)
    | with_reducible apply Keep.step (n := 0xb0091804008fc5c26e0) (keep_plain _ _ _ _ _ _ ?_ ?_)
    | with_reducible apply Keep.step (keep_store _ _ _)
    | with_reducible refine keep_resState ?_ ?_
    | exact rfl
    | with_reducible apply keepr_mono (keep_execCanAloneRelease _ _ _)
    | with_reducible apply keepr_mono (keep_execCanEnableWrite _ _ _ _)
    | with_reducible apply keepr_mono (keep_execCanRecoveryStart _ _ _)
    | with_reducible apply keepr_mono (keep_execMbCfgWrite _ _ _ _ _)
    | with_reducible apply keepr_mono (keep_execMbHoldWrite _ _ _ _)

theorem keep_writeRs (s : State) (w : Writer) (k v : Nat) : Keep 0xb00918080087c5c27e0 s (State.writeRs s w k v) := by
  unfold State.writeRs
  try dsimp only
  repeat' first
    | intro _
    | with_reducible assumption
    | with_reducible exact Keep.refl _ _
    | with_reducible refine keep_ite ?_ ?_
    | with_reducible apply Keep.step (n := 0xb00918080087c5c27e0) (keep_plain _ _ _ _ _ _ ?_ ?_)
    | with_reducible apply Keep.step (n := 0xb00918080087c5c27e0) (keep_rsAct _ _ _ ?_ ?_)
    | with_reducible apply Keep.step (keep_store _ _ _)
    | with_reducible refine keep_resState ?_ ?_
    | exact rfl
    | with_reducible apply keepr_mono (keep_execRs485EnableWrite _ _ _ _)

theorem keep_writeIol (s : State) (w : Writer) (k v : Nat) (data : List Byte) : Keep 0xb00918404087c5c26e0 s (State.writeIol s w k v data) := by
  unfold State.writeIol
  try dsimp only
  repeat' first
    | intro _
    | with_reducible assumption
    | with_reducible exact Keep.refl _ _
    | with_reducible refine keep_ite ?_ ?_
    | with_reducible apply Keep.step (keep_iolEff _ _ _ _ _)
    | with_reducible apply Keep.step (n := 0xb00918404087c5c26e0) (keep_plain _ _ _ _ _ _ ?_ ?_)
    | with_reducible refine keep_resState ?_ ?_
    | exact rfl
    | with_reducible apply keepr_mono (keep_execIolModeWrite _ _ _ _)
    | with_reducible apply keepr_mono (keep_execIsduRequestWrite _ _ _ _)
    | with_reducible apply keepr_mono (keep_execPortCmdBackup _ _ _)
    | with_reducible apply keepr_mono (keep_execPortCmdClearDs _ _ _)
    | with_reducible apply keepr_mono (keep_execPortCmdRestart _ _ _)

theorem keep_writeWhisk (s : State) (w : Writer) (k v : Nat) : Keep 0xb2091881008fc5c27e0 s (State.writeWhisk s w k v) := by
  unfold State.writeWhisk
  try dsimp only
  repeat' first
    | intro _
    | with_reducible assumption
    | with_reducible exact Keep.refl _ _
    | with_reducible refine keep_ite ?_ ?_
    | with_reducible apply Keep.step (n := 0xb2091881008fc5c27e0) (keep_plain _ _ _ _ _ _ ?_ ?_)
    | with_reducible apply Keep.step (keep_store _ _ _)
    | with_reducible refine keep_resState ?_ ?_
    | exact rfl
    | with_reducible apply keepr_mono (keep_execWhiskHalt _ _ _)
    | with_reducible apply keepr_mono (keep_execWhiskRestart _ _ _)
    | with_reducible apply keepr_mono (keep_execWhiskResume _ _ _)
    | with_reducible apply keepr_mono (keep_execWhiskStart _ _ _)
    | with_reducible apply keepr_mono (keep_execWhiskStop _ _ _)

theorem keep_writeFuse (s : State) (w : Writer) (k v : Nat) : Keep 0xb4091840008fc5c26e0 s (State.writeFuse s w k v) := by
  unfold State.writeFuse
  try dsimp only
  repeat' first
    | intro _
    | with_reducible assumption
    | with_reducible exact Keep.refl _ _
    | with_reducible refine keep_ite ?_ ?_
    | with_reducible apply Keep.step (keep_fuseSync _ _)
    | with_reducible apply Keep.step (keep_lpSync _ _)
    | with_reducible apply Keep.step (n := 0xb4091840008fc5c26e0) (keep_plain _ _ _ _ _ _ ?_ ?_)
    | with_reducible apply Keep.step (keep_store _ _ _)
    | with_reducible refine keep_resState ?_ ?_
    | exact rfl
    | with_reducible apply keepr_mono (keep_execBranchClear _ _ _ _)
    | with_reducible apply keepr_mono (keep_execBranchCommandWrite _ _ _ _)
    | with_reducible apply keepr_mono (keep_execBranchEnableWrite _ _ _ _)
    | with_reducible apply keepr_mono (keep_execLpClear _ _ _ _)

theorem keep_writeEdge (s : State) (w : Writer) (k v : Nat) : Keep 0xb00919001087c5c26e0 s (State.writeEdge s w k v) := by
  unfold State.writeEdge
  try dsimp only
  repeat' first
    | intro _
    | with_reducible assumption
    | with_reducible exact Keep.refl _ _
    | with_reducible refine keep_ite ?_ ?_
    | with_reducible apply Keep.step (keep_edgeSync _ _)
    | with_reducible apply Keep.step (n := 0xb00919001087c5c26e0) (keep_plain _ _ _ _ _ _ ?_ ?_)
    | with_reducible apply Keep.step (keep_store _ _ _)
    | with_reducible refine keep_resState ?_ ?_
    | exact rfl
    | with_reducible apply keepr_mono (keep_execArmRecordWrite _ _ _ _)
    | with_reducible apply keepr_mono (keep_execMdioWrite _ _ _ _)
    | with_reducible apply keepr_mono (keep_execTimerDisarm _ _ _ _)

theorem keep_writeSwitch (s : State) (w : Writer) (k v : Nat) : Keep 0xb0490900009805c26e0 s (State.writeSwitch s w k v) := by
  unfold State.writeSwitch
  try dsimp only
  repeat' first
    | intro _
    | with_reducible assumption
    | with_reducible exact Keep.refl _ _
    | with_reducible refine keep_ite ?_ ?_
    | with_reducible apply Keep.step (n := 0xb0490900009805c26e0) (keep_plain _ _ _ _ _ _ ?_ ?_)
    | with_reducible apply Keep.step (keep_refuse _ _ _ _)
    | with_reducible apply Keep.step (keep_store _ _ _)
    | with_reducible apply Keep.step (keep_switchClear _ _ _)
    | with_reducible refine keep_resState ?_ ?_
    | exact rfl
    | with_reducible apply keepr_mono (keep_execGateCommit _ _ _ _)
    | with_reducible apply keepr_mono (keep_execMeterWrite _ _ _ _)
    | with_reducible apply keepr_mono (keep_execRouteEntryWrite _ _ _ _)
    | with_reducible apply keepr_mono (keep_execSamplerEnableWrite _ _ _ _)
    | with_reducible apply keepr_mono (keep_execTunnelConfigWrite _ _ _ _)

theorem keep_writeEvent (s : State) (w : Writer) (k v : Nat) : Keep 0xb2497983009fd5c26e0 s (State.writeEvent s w k v) := by
  unfold State.writeEvent
  try dsimp only
  repeat' first
    | intro _
    | with_reducible assumption
    | with_reducible exact Keep.refl _ _
    | with_reducible refine keep_ite ?_ ?_
    | with_reducible apply Keep.step (n := 0xb2497983009fd5c26e0) (keep_plain _ _ _ _ _ _ ?_ ?_)
    | with_reducible apply Keep.step (keep_settle _)
    | with_reducible apply Keep.step (keep_store _ _ _)
    | with_reducible refine keep_resState ?_ ?_
    | with_reducible apply Keep.step (keep_id _)
    | exact rfl
    | with_reducible apply keepr_mono (keep_execFaultClear _ _ _)
    | with_reducible apply keepr_mono (keep_execFaultForce _ _ _)
    | with_reducible apply keepr_mono (keep_execFaultLatchReset _ _ _)
    | with_reducible apply keepr_mono (keep_execFenceIssueImage _ _ _)
    | with_reducible apply keepr_mono (keep_execFenceIssueLocal _ _ _)
    | with_reducible apply keepr_mono (keep_execFenceIssueRing _ _ _)
    | with_reducible apply keepr_mono (keep_execFenceIssueTable _ _ _)
    | with_reducible apply keepr_mono (keep_execRaiseWrite _ _ _)
    | with_reducible apply keepr_mono (keep_execRemoteCompleteWrite _ _ _)
    | with_reducible apply keepr_mono (keep_execRuleWrite _ _ _ _)
    | with_reducible apply keepr_mono (keep_execSidebandAckWrite _ _ _ _)
    | with_reducible apply keepr_mono (keep_execSourceCfgWrite _ _ _ _)

theorem keep_execHoldTimeMsWrite (w : Writer) (v : Nat) (s : State) : KeepR 0xb0090800008005c26e0 s (execHoldTimeMsWrite w v s) := by
  unfold execHoldTimeMsWrite
  repeat' first
    | intro _
    | with_reducible assumption
    | with_reducible exact Keep.refl _ _
    | (extract_lets +onlyGivenNames vv; clear_value vv)
    | extract_lets +onlyGivenNames vv
    | with_reducible refine keep_ite ?_ ?_
    | with_reducible apply Keep.step (keep_store _ _ _)
    | with_reducible apply Keep.step (n := 0xb0090800008005c26e0) (keep_write _ _ _ _ _ _ ?_ ?_)
    | with_reducible apply Keep.step (keep_id _)
    | exact rfl
    | with_reducible refine keepr_next ?_

theorem keep_highEff (s : State) (k v : Nat) : Keep 0x200000000000000020 s (State.highEff s k v) := by
  unfold State.highEff
  repeat' first
    | intro _
    | with_reducible assumption
    | with_reducible exact Keep.refl _ _
    | (extract_lets +onlyGivenNames vv; have hv : Keep 0x200000000000000020 s vv; unfold vv; clear vv; rotate_left; try clear_value vv; rotate_left)
    | (extract_lets +onlyGivenNames vv; clear_value vv)
    | extract_lets +onlyGivenNames vv
    | with_reducible refine keep_ite ?_ ?_
    | with_reducible apply Keep.step (keep_panAsk _ _)
    | with_reducible apply Keep.step (keep_store _ _ _)
    | exact rfl

theorem keep_writeTransition (s : State) (w : Writer) (v : Nat) : Keep 0xb0091883009fd5c27e0 s (State.writeTransition s w v) := by
  unfold State.writeTransition
  try dsimp only
  repeat' first
    | intro _
    | with_reducible assumption
    | with_reducible exact Keep.refl _ _
    | with_reducible refine keep_ite ?_ ?_
    | with_reducible apply Keep.step (keep_fresh _)
    | with_reducible apply Keep.step (n := 0xb0091883009fd5c27e0) (keep_plain _ _ _ _ _ _ ?_ ?_)
    | with_reducible refine keep_resState ?_ ?_
    | with_reducible apply Keep.step (keep_id _)
    | exact rfl
    | with_reducible apply keepr_mono (keep_execTransitionForge _ _ _ _)
    | with_reducible apply keepr_mono (keep_execTransitionReturn _ _ _ _)
    | with_reducible apply keepr_mono (keep_execTransitionScrap _ _ _ _)
    | with_reducible apply keepr_mono (keep_execTransitionTake _ _ _ _)
    | with_reducible apply keepr_mono (keep_execTransitionTransfer _ _ _ _)

theorem keep_writeUpdate (s : State) (w : Writer) (v : Nat) : Keep 0xf0090800009005c27e0 s (State.writeUpdate s w v) := by
  unfold State.writeUpdate
  try dsimp only
  repeat' first
    | intro _
    | with_reducible assumption
    | with_reducible exact Keep.refl _ _
    | with_reducible refine keep_ite ?_ ?_
    | with_reducible apply Keep.step (keep_fresh _)
    | with_reducible apply Keep.step (n := 0xf0090800009005c27e0) (keep_plain _ _ _ _ _ _ ?_ ?_)
    | with_reducible refine keep_resState ?_ ?_
    | with_reducible apply Keep.step (keep_id _)
    | exact rfl
    | with_reducible apply keepr_mono (keep_execUpdateAbort _ _)
    | with_reducible apply keepr_mono (keep_execUpdateBegin _ _)
    | with_reducible apply keepr_mono (keep_execUpdateConfirm _ _)
    | with_reducible apply keepr_mono (keep_execUpdateWrite _ _ _)

theorem keep_writeHigh (s : State) (w : Writer) (k v : Nat) (data : List Byte) : Keep 0xf2391883009fd5c27e0 s (State.writeHigh s w k v data) := by
  unfold State.writeHigh
  try dsimp only
  repeat' first
    | intro _
    | with_reducible assumption
    | with_reducible exact Keep.refl _ _
    | with_reducible refine keep_ite ?_ ?_
    | with_reducible apply Keep.step (keep_fresh _)
    | with_reducible apply Keep.step (keep_highEff _ _ _)
    | with_reducible apply Keep.step (n := 0xf2391883009fd5c27e0) (keep_plain _ _ _ _ _ _ ?_ ?_)
    | with_reducible apply Keep.step (keep_writeTransition _ _ _)
    | with_reducible apply Keep.step (keep_writeUpdate _ _ _)
    | with_reducible refine keep_resState ?_ ?_
    | exact rfl
    | with_reducible apply keepr_mono (keep_execAttestRequest _ _ _)
    | with_reducible apply keepr_mono (keep_execCountersignKeyWrite _ _ _ _)
    | with_reducible apply keepr_mono (keep_execCrucibleTriggerWrite _ _ _)
    | with_reducible apply keepr_mono (keep_execEnterRecoveryWrite _ _ _)
    | with_reducible apply keepr_mono (keep_execEpochCommit _ _ _)
    | with_reducible apply keepr_mono (keep_execHandoverRequestWrite _ _ _)
    | with_reducible apply keepr_mono (keep_execHoldTimeMsWrite _ _ _)
    | with_reducible apply keepr_mono (keep_execPerturbationStart _ _ _ _)
    | with_reducible apply keepr_mono (keep_execPerturbationStop _ _ _ _)
    | with_reducible apply keepr_mono (keep_execPerturbationStopAll _ _ _)
    | with_reducible apply keepr_mono (keep_execRecoveryImageBlock _ _ _ _)
    | with_reducible apply keepr_mono (keep_execRecoveryReboot _ _)
    | with_reducible apply keepr_mono (keep_execStagingBlockWrite _ _ _ _)
    | with_reducible apply keepr_mono (keep_execZeroiseWrite _ _ _)

theorem keep_writeObject (s : State) (w : Writer) (k v : Nat) (data : List Byte) : Keep 0xf67979cf799fddc77e4 s (State.writeObject s w k v data) := by
  unfold State.writeObject
  try dsimp only
  repeat' first
    | intro _
    | with_reducible assumption
    | with_reducible exact Keep.refl _ _
    | with_reducible refine keep_ite ?_ ?_
    | with_reducible apply Keep.step (n := 0xf67979cf799fddc77e4) (keep_plain _ _ _ _ _ _ ?_ ?_)
    | with_reducible apply Keep.step (keep_pxWord _ _ _)
    | with_reducible apply Keep.step (keep_store _ _ _)
    | with_reducible apply Keep.step (keep_writeCan _ _ _ _)
    | with_reducible apply Keep.step (keep_writeEdge _ _ _ _)
    | with_reducible apply Keep.step (keep_writeEvent _ _ _ _)
    | with_reducible apply Keep.step (keep_writeFuse _ _ _ _)
    | with_reducible apply Keep.step (keep_writeHigh _ _ _ _ _)
    | with_reducible apply Keep.step (keep_writeIol _ _ _ _ _)
    | with_reducible apply Keep.step (keep_writeLine _ _ _ _)
    | with_reducible apply Keep.step (keep_writeLow _ _ _ _)
    | with_reducible apply Keep.step (keep_writeQueue _ _ _ _)
    | with_reducible apply Keep.step (keep_writeRs _ _ _ _)
    | with_reducible apply Keep.step (keep_writeSwitch _ _ _ _)
    | with_reducible apply Keep.step (keep_writeWhisk _ _ _ _)
    | exact rfl

theorem keep_writeKey (s : State) (w : Writer) (k v : Nat) (data : List Byte) : Keep 0xf67979cf799fddc77e4 s (State.writeKey s w k v data) := by
  unfold State.writeKey
  repeat' first
    | intro _
    | with_reducible assumption
    | with_reducible exact Keep.refl _ _
    | (extract_lets +onlyGivenNames vv; have hv : Keep 0xf67979cf799fddc77e4 s vv; unfold vv; clear vv; rotate_left; try clear_value vv; rotate_left)
    | (extract_lets +onlyGivenNames vv; clear_value vv)
    | extract_lets +onlyGivenNames vv
    | with_reducible refine keep_ite ?_ ?_
    | with_reducible apply Keep.step (keep_panAsk _ _)
    | with_reducible apply Keep.step (keep_writeObject _ _ _ _ _)
    | exact rfl
    | with_reducible refine keep_foldl (fun _ _ _ => ?_) _ ?_
    | with_reducible exact cellsWf_filter _ (by assumption) _
    | with_reducible exact cellsWf_cellSet _ (by assumption) _ _
    | with_reducible refine keep_snd (by with_reducible assumption) ?_
    | with_reducible refine keep_fst (by with_reducible assumption) ?_
    | split

end Sys2Proof.Machine
end

