-- ==== Sys2Proof/Laws/KeepDict.lean ====
section
/-! SUPPORT. What each operation and each command of `Machine/Dict.lean` keeps: the parts of the state outside its mask, and
the invariant. -/

namespace Sys2Proof.Machine
open Sys2Proof

theorem keep_dictTaken (s : State) (p : Path) (op tid : Nat) : Keep 0x10000 s (State.dictTaken s p op tid) := by
  unfold State.dictTaken
  try dsimp only
  repeat' first
    | intro _
    | with_reducible assumption
    | with_reducible exact Keep.refl _ _
    | (simp -zeta only [keepAt_mk]; with_reducible refine keep_mk_inbox ?_ ?_)
    | with_reducible refine keep_ite ?_ ?_
    | exact rfl
    | with_reducible refine keep_foldl (fun _ _ _ => ?_) _ ?_
    | with_reducible exact cellsWf_filter _ (by assumption) _
    | with_reducible exact cellsWf_cellSet _ (by assumption) _ _
    | with_reducible refine keep_snd (by with_reducible assumption) ?_
    | with_reducible refine keep_fst (by with_reducible assumption) ?_
    | split

theorem keep_resend (s : State) (q : Asked) (bytes : List Byte) : Keep 0xb0010000008001c2440 s (State.resend s q bytes) := by
  unfold State.resend
  try dsimp only
  repeat' first
    | intro _
    | with_reducible assumption
    | with_reducible exact Keep.refl _ _
    | (simp -zeta only [keepAt_mk]; with_reducible refine keep_mk_answers ?_ ?_)
    | with_reducible refine keep_ite ?_ ?_
    | with_reducible apply Keep.step (keep_bump _ _)
    | with_reducible apply Keep.step (keep_sendDict _ _ _)
    | exact rfl

theorem keep_dictFail (s : State) (q : Asked) (a : Abort) : Keep 0xb0010800008001c26c0 s (State.dictFail s q a) := by
  unfold State.dictFail
  try dsimp only
  repeat' first
    | intro _
    | with_reducible assumption
    | with_reducible exact Keep.refl _ _
    | with_reducible refine keep_ite ?_ ?_
    | with_reducible apply Keep.step (keep_answer _ _ _ _ _)
    | with_reducible apply Keep.step (keep_refuse _ _ _ _)
    | exact rfl

theorem keep_dictAuth (s : State) (q : DictReq) (op : Nat) : Keep 0x30091083009fd5c2260 s (State.dictAuth s q op).2 := by
  unfold State.dictAuth
  try dsimp only
  repeat' first
    | intro _
    | with_reducible assumption
    | with_reducible exact Keep.refl _ _
    | with_reducible refine keep_ite ?_ ?_
    | with_reducible apply Keep.step (keep_tagTake _ _ _ _)
    | exact rfl
    | with_reducible refine keep_foldl (fun _ _ _ => ?_) _ ?_
    | with_reducible exact cellsWf_filter _ (by assumption) _
    | with_reducible exact cellsWf_cellSet _ (by assumption) _ _
    | with_reducible refine keep_snd (by with_reducible assumption) ?_
    | with_reducible refine keep_fst (by with_reducible assumption) ?_
    | split

theorem keep_dictOpen (s : State) (q : DictReq) (op : Nat) : Keep 0xb0091883009fd5d26e0 s (State.dictOpen s q op).2 := by
  unfold State.dictOpen
  try dsimp only
  repeat' first
    | intro _
    | with_reducible assumption
    | with_reducible exact Keep.refl _ _
    | (simp -zeta only [keepAt_mk]; with_reducible refine keep_mk_dict ?_ ?_ ?_)
    | with_reducible refine keep_ite ?_ ?_
    | with_reducible apply Keep.step (keep_bump _ _)
    | with_reducible apply Keep.step (keep_dictAuth _ _ _)
    | with_reducible apply Keep.step (keep_dictFail _ _ _)
    | with_reducible apply Keep.step (keep_dictTaken _ _ _ _)
    | with_reducible apply Keep.step (keep_resend _ _ _)
    | exact rfl
    | with_reducible refine keep_foldl (fun _ _ _ => ?_) _ ?_
    | with_reducible exact cellsWf_filter _ (by assumption) _
    | with_reducible exact cellsWf_cellSet _ (by assumption) _ _
    | with_reducible refine keep_snd (by with_reducible assumption) ?_
    | with_reducible refine keep_fst (by with_reducible assumption) ?_
    | split

theorem keep_dictWait (s : State) (x : Asked) : Keep 0x80000000000000 s (State.dictWait s x) := by
  unfold State.dictWait
  try dsimp only
  repeat' first
    | intro _
    | with_reducible assumption
    | with_reducible exact Keep.refl _ _
    | (simp -zeta only [keepAt_mk]; with_reducible refine keep_mk_dict ?_ ?_ ?_)
    | with_reducible refine keep_ite ?_ ?_
    | exact rfl
    | with_reducible refine keep_foldl (fun _ _ _ => ?_) _ ?_
    | with_reducible exact cellsWf_filter _ (by assumption) _
    | with_reducible exact cellsWf_cellSet _ (by assumption) _ _
    | with_reducible refine keep_snd (by with_reducible assumption) ?_
    | with_reducible refine keep_fst (by with_reducible assumption) ?_
    | split

theorem keep_dictForget (s : State) (x : Asked) : Keep 0x80000000000000 s (State.dictForget s x) := by
  unfold State.dictForget
  try dsimp only
  repeat' first
    | intro _
    | with_reducible assumption
    | with_reducible exact Keep.refl _ _
    | (simp -zeta only [keepAt_mk]; with_reducible refine keep_mk_dict ?_ ?_ ?_)
    | with_reducible refine keep_ite ?_ ?_
    | exact rfl

theorem keep_dictWake (s : State) (k : Nat) : Keep 0x200000000000000000 s (State.dictWake s k) := by
  unfold State.dictWake
  try dsimp only
  repeat' first
    | intro _
    | with_reducible assumption
    | with_reducible exact Keep.refl _ _
    | with_reducible refine keep_ite ?_ ?_
    | with_reducible apply Keep.step (keep_panAsk _ _)
    | exact rfl
    | with_reducible refine keep_foldl (fun _ _ _ => ?_) _ ?_
    | with_reducible exact cellsWf_filter _ (by assumption) _
    | with_reducible exact cellsWf_cellSet _ (by assumption) _ _
    | with_reducible refine keep_snd (by with_reducible assumption) ?_
    | with_reducible refine keep_fst (by with_reducible assumption) ?_
    | split

theorem keep_readBytes (s : State) (k : Nat) : Keep 0x400000000120 s (State.readBytes s k).2 := by
  unfold State.readBytes
  try dsimp only
  repeat' first
    | intro _
    | with_reducible assumption
    | with_reducible exact Keep.refl _ _
    | with_reducible refine keep_ite ?_ ?_
    | with_reducible apply Keep.step (keep_fresh _)
    | with_reducible apply Keep.step (keep_read _ _)
    | with_reducible apply Keep.step (keep_setEdgeStatus _ _ _ _)
    | with_reducible apply Keep.step (keep_setMailbox _ _ _ _)
    | exact rfl
    | with_reducible refine keep_foldl (fun _ _ _ => ?_) _ ?_
    | with_reducible exact cellsWf_filter _ (by assumption) _
    | with_reducible exact cellsWf_cellSet _ (by assumption) _ _
    | with_reducible refine keep_snd (by with_reducible assumption) ?_
    | with_reducible refine keep_fst (by with_reducible assumption) ?_
    | split

theorem keep_dictRead (s : State) (q : DictReq) : Keep 0xb2091887009fd5d27e0 s (State.dictRead s q) := by
  unfold State.dictRead
  try dsimp only
  repeat' first
    | intro _
    | with_reducible assumption
    | with_reducible exact Keep.refl _ _
    | with_reducible refine keep_ite ?_ ?_
    | with_reducible apply Keep.step (keep_answer _ _ _ _ _)
    | with_reducible apply Keep.step (keep_dictFail _ _ _)
    | with_reducible apply Keep.step (keep_dictOpen _ _ _)
    | with_reducible apply Keep.step (keep_dictWake _ _)
    | with_reducible apply Keep.step (keep_readBytes _ _)
    | exact rfl
    | with_reducible refine keep_foldl (fun _ _ _ => ?_) _ ?_
    | with_reducible exact cellsWf_filter _ (by assumption) _
    | with_reducible exact cellsWf_cellSet _ (by assumption) _ _
    | with_reducible refine keep_snd (by with_reducible assumption) ?_
    | with_reducible refine keep_fst (by with_reducible assumption) ?_
    | split

theorem keep_execDictRead (q : DictReq) (s : State) : KeepR 0xb2091887009fd5d27e0 s (execDictRead q s) := by
  unfold execDictRead
  try dsimp only
  repeat' first
    | intro _
    | with_reducible assumption
    | with_reducible exact Keep.refl _ _
    | with_reducible refine keep_ite ?_ ?_
    | with_reducible apply Keep.step (keep_dictRead _ _)
    | exact rfl
    | with_reducible refine keepr_next ?_

theorem keep_dictWrite (s : State) (q : DictReq) : Keep 0xf67979cf799fddd77e4 s (State.dictWrite s q) := by
  unfold State.dictWrite
  try dsimp only
  repeat' first
    | intro _
    | with_reducible assumption
    | with_reducible exact Keep.refl _ _
    | with_reducible refine keep_ite ?_ ?_
    | with_reducible apply Keep.step (keep_dictFail _ _ _)
    | with_reducible apply Keep.step (keep_dictOpen _ _ _)
    | with_reducible apply Keep.step (keep_dictWait _ _)
    | with_reducible apply Keep.step (keep_refuse _ _ _ _)
    | with_reducible apply Keep.step (keep_writeKey _ _ _ _ _)
    | exact rfl
    | with_reducible refine keep_foldl (fun _ _ _ => ?_) _ ?_
    | with_reducible exact cellsWf_filter _ (by assumption) _
    | with_reducible exact cellsWf_cellSet _ (by assumption) _ _
    | with_reducible refine keep_snd (by with_reducible assumption) ?_
    | with_reducible refine keep_fst (by with_reducible assumption) ?_
    | split

theorem keep_execDictWrite (q : DictReq) (s : State) : KeepR 0xf67979cf799fddd77e4 s (execDictWrite q s) := by
  unfold execDictWrite
  try dsimp only
  repeat' first
    | intro _
    | with_reducible assumption
    | with_reducible exact Keep.refl _ _
    | with_reducible refine keep_ite ?_ ?_
    | with_reducible apply Keep.step (keep_dictWrite _ _)
    | exact rfl
    | with_reducible refine keepr_next ?_

theorem keep_setTransfer (s : State) (t u : Transfer) : Keep 0x80000000000000 s (State.setTransfer s t u) := by
  unfold State.setTransfer
  try dsimp only
  repeat' first
    | intro _
    | with_reducible assumption
    | with_reducible exact Keep.refl _ _
    | (simp -zeta only [keepAt_mk]; with_reducible refine keep_mk_dict ?_ ?_ ?_)
    | with_reducible refine keep_ite ?_ ?_
    | exact rfl

theorem keep_endTransfer (s : State) (t : Transfer) : Keep 0x80000000000000 s (State.endTransfer s t) := by
  unfold State.endTransfer
  try dsimp only
  repeat' first
    | intro _
    | with_reducible assumption
    | with_reducible exact Keep.refl _ _
    | (simp -zeta only [keepAt_mk]; with_reducible refine keep_mk_dict ?_ ?_ ?_)
    | with_reducible refine keep_ite ?_ ?_
    | exact rfl

theorem keep_transferSend (s : State) (t : Transfer) (bytes : List Byte) : Keep 0xb0010000008001c2040 s (State.transferSend s t bytes) := by
  unfold State.transferSend
  try dsimp only
  repeat' first
    | intro _
    | with_reducible assumption
    | with_reducible exact Keep.refl _ _
    | with_reducible refine keep_ite ?_ ?_
    | with_reducible apply Keep.step (keep_originate _ _)
    | with_reducible apply Keep.step (keep_sendDict _ _ _)
    | exact rfl
    | with_reducible refine keep_foldl (fun _ _ _ => ?_) _ ?_
    | with_reducible exact cellsWf_filter _ (by assumption) _
    | with_reducible exact cellsWf_cellSet _ (by assumption) _ _
    | with_reducible refine keep_snd (by with_reducible assumption) ?_
    | with_reducible refine keep_fst (by with_reducible assumption) ?_
    | split

theorem keep_pump (n : Nat) : ∀ (s : State) (t : Transfer), Keep 0xb0010000008001c2040 s (State.pump n s t).1 := by
  induction n with
  | zero => intro s t; exact Keep.refl _ _
  | succ n ih =>
    intro s t
    unfold State.pump
    split
    · exact Keep.refl _ _
    · generalize s.segment t t.next = p
      obtain ⟨b, u⟩ := p
      dsimp only
      exact Keep.step (ih _ _) rfl ((keep_transferSend _ _ _).mono rfl)

theorem keep_pumpTransfer (s : State) (t : Transfer) : Keep 0xb0010800008001c2040 s (State.pumpTransfer s t) := by
  unfold State.pumpTransfer
  try dsimp only
  repeat' first
    | intro _
    | with_reducible assumption
    | with_reducible exact Keep.refl _ _
    | with_reducible refine keep_ite ?_ ?_
    | with_reducible apply Keep.step (keep_pump _ _ _)
    | with_reducible apply Keep.step (keep_setTransfer _ _ _)
    | exact rfl

theorem keep_capture_ (s : State) (r : ObjRow) (k off n : Nat) : Keep 0x400000000120 s (State.capture_ s r k off n).2 := by
  unfold State.capture_
  try dsimp only
  repeat' first
    | intro _
    | with_reducible assumption
    | with_reducible exact Keep.refl _ _
    | with_reducible refine keep_ite ?_ ?_
    | with_reducible apply Keep.step (keep_readBytes _ _)
    | exact rfl
    | with_reducible refine keep_foldl (fun _ _ _ => ?_) _ ?_
    | with_reducible exact cellsWf_filter _ (by assumption) _
    | with_reducible exact cellsWf_cellSet _ (by assumption) _ _
    | with_reducible refine keep_snd (by with_reducible assumption) ?_
    | with_reducible refine keep_fst (by with_reducible assumption) ?_
    | split

theorem keep_toBuffer (s : State) (b : List Byte) : Keep 0x40000000000000 s (State.toBuffer s b) := by
  unfold State.toBuffer
  try dsimp only
  repeat' first
    | intro _
    | with_reducible assumption
    | with_reducible exact Keep.refl _ _
    | (simp -zeta only [keepAt_mk]; with_reducible refine keep_mk_host ?_ ?_)
    | with_reducible refine keep_ite ?_ ?_
    | exact rfl

theorem keep_dictReadBlock (s : State) (q : DictReq) : Keep 0xb2091c87009fd5d27e0 s (State.dictReadBlock s q) := by
  unfold State.dictReadBlock
  try dsimp only
  repeat' first
    | intro _
    | with_reducible assumption
    | with_reducible exact Keep.refl _ _
    | (simp -zeta only [keepAt_mk]; with_reducible refine keep_mk_dict ?_ ?_ ?_)
    | with_reducible refine keep_ite ?_ ?_
    | with_reducible apply Keep.step (keep_answer _ _ _ _ _)
    | with_reducible apply Keep.step (keep_capture_ _ _ _ _ _)
    | with_reducible apply Keep.step (keep_dictFail _ _ _)
    | with_reducible apply Keep.step (keep_dictForget _ _)
    | with_reducible apply Keep.step (keep_dictOpen _ _ _)
    | with_reducible apply Keep.step (keep_dictWake _ _)
    | with_reducible apply Keep.step (keep_pumpTransfer _ _)
    | with_reducible apply Keep.step (keep_toBuffer _ _)
    | with_reducible apply Keep.step (keep_touch _ _)
    | exact rfl
    | with_reducible refine keep_foldl (fun _ _ _ => ?_) _ ?_
    | with_reducible exact cellsWf_filter _ (by assumption) _
    | with_reducible exact cellsWf_cellSet _ (by assumption) _ _
    | with_reducible refine keep_snd (by with_reducible assumption) ?_
    | with_reducible refine keep_fst (by with_reducible assumption) ?_
    | split

theorem keep_execDictReadBlock (q : DictReq) (s : State) : KeepR 0xb2091c87009fd5d27e0 s (execDictReadBlock q s) := by
  unfold execDictReadBlock
  try dsimp only
  repeat' first
    | intro _
    | with_reducible assumption
    | with_reducible exact Keep.refl _ _
    | with_reducible refine keep_ite ?_ ?_
    | with_reducible apply Keep.step (keep_dictReadBlock _ _)
    | exact rfl
    | with_reducible refine keepr_next ?_

theorem keep_applyBlock (s : State) (w : Writer) (k off : Nat) (data : List Byte) : Keep 0xf67979cf799fddc77e4 s (State.applyBlock s w k off data) := by
  unfold State.applyBlock
  try dsimp only
  repeat' first
    | intro _
    | with_reducible assumption
    | with_reducible exact Keep.refl _ _
    | with_reducible refine keep_ite ?_ ?_
    | with_reducible apply Keep.step (keep_refuse _ _ _ _)
    | with_reducible apply Keep.step (keep_writeKey _ _ _ _ _)
    | with_reducible refine keep_resState ?_ ?_
    | exact rfl
    | with_reducible apply keepr_mono (keep_execRecoveryImageBlock _ _ _ _)
    | with_reducible apply keepr_mono (keep_execStagingBlockWrite _ _ _ _)
    | with_reducible refine keep_foldl (fun _ _ _ => ?_) _ ?_
    | with_reducible exact cellsWf_filter _ (by assumption) _
    | with_reducible exact cellsWf_cellSet _ (by assumption) _ _
    | with_reducible refine keep_snd (by with_reducible assumption) ?_
    | with_reducible refine keep_fst (by with_reducible assumption) ?_
    | split

theorem keep_dictAck (s : State) (t : Transfer) : Keep 0xb0010000008001c2040 s (State.dictAck s t) := by
  unfold State.dictAck
  try dsimp only
  repeat' first
    | intro _
    | with_reducible assumption
    | with_reducible exact Keep.refl _ _
    | with_reducible refine keep_ite ?_ ?_
    | with_reducible apply Keep.step (keep_transferSend _ _ _)
    | exact rfl

theorem keep_dictWriteBlock (s : State) (q : DictReq) (buffer : Option (List Byte)) : Keep 0xf67979cf799fddd77e4 s (State.dictWriteBlock s q buffer) := by
  unfold State.dictWriteBlock
  try dsimp only
  repeat' first
    | intro _
    | with_reducible assumption
    | with_reducible exact Keep.refl _ _
    | (simp -zeta only [keepAt_mk]; with_reducible refine keep_mk_dict ?_ ?_ ?_)
    | with_reducible refine keep_ite ?_ ?_
    | with_reducible apply Keep.step (keep_applyBlock _ _ _ _ _)
    | with_reducible apply Keep.step (keep_dictFail _ _ _)
    | with_reducible apply Keep.step (keep_dictOpen _ _ _)
    | with_reducible apply Keep.step (keep_dictWait _ _)
    | with_reducible apply Keep.step (keep_touch _ _)
    | exact rfl
    | with_reducible refine keep_foldl (fun _ _ _ => ?_) _ ?_
    | with_reducible exact cellsWf_filter _ (by assumption) _
    | with_reducible exact cellsWf_cellSet _ (by assumption) _ _
    | with_reducible refine keep_snd (by with_reducible assumption) ?_
    | with_reducible refine keep_fst (by with_reducible assumption) ?_
    | split

theorem keep_execDictWriteBlock (q : DictReq) (s : State) : KeepR 0xf67979cf799fddd77e4 s (execDictWriteBlock q s) := by
  unfold execDictWriteBlock
  try dsimp only
  repeat' first
    | intro _
    | with_reducible assumption
    | with_reducible exact Keep.refl _ _
    | with_reducible refine keep_ite ?_ ?_
    | with_reducible apply Keep.step (keep_dictWriteBlock _ _ _)
    | exact rfl
    | with_reducible refine keepr_next ?_

theorem keep_abortTransfer (s : State) (t : Transfer) (a : Abort) : Keep 0xb0010e00008401c26c0 s (State.abortTransfer s t a) := by
  unfold State.abortTransfer
  try dsimp only
  repeat' first
    | intro _
    | with_reducible assumption
    | with_reducible exact Keep.refl _ _
    | with_reducible refine keep_ite ?_ ?_
    | with_reducible apply Keep.step (keep_dictFail _ _ _)
    | with_reducible apply Keep.step (keep_endTransfer _ _)
    | with_reducible apply Keep.step (keep_mailboxDone _ _ _)
    | with_reducible apply Keep.step (keep_transferSend _ _ _)
    | exact rfl

theorem keep_finishTransfer (s : State) (t : Transfer) (crc : Nat) : Keep 0xf6797fcf799fddc77e4 s (State.finishTransfer s t crc) := by
  unfold State.finishTransfer
  try dsimp only
  repeat' first
    | intro _
    | with_reducible assumption
    | with_reducible exact Keep.refl _ _
    | with_reducible refine keep_ite ?_ ?_
    | with_reducible apply Keep.step (keep_abortTransfer _ _ _)
    | with_reducible apply Keep.step (keep_applyBlock _ _ _ _ _)
    | with_reducible apply Keep.step (keep_endTransfer _ _)
    | with_reducible apply Keep.step (keep_mailboxDone _ _ _)
    | with_reducible apply Keep.step (keep_toBuffer _ _)
    | exact rfl
    | with_reducible refine keep_foldl (fun _ _ _ => ?_) _ ?_
    | with_reducible exact cellsWf_filter _ (by assumption) _
    | with_reducible exact cellsWf_cellSet _ (by assumption) _ _
    | with_reducible refine keep_snd (by with_reducible assumption) ?_
    | with_reducible refine keep_fst (by with_reducible assumption) ?_
    | split

theorem keep_execDictSegment (p : Path) (tid seg : Nat) (last : Bool) (crc : Nat) (data : List Byte) (s : State) : KeepR 0xf6797fcf799fddd77e4 s (execDictSegment p tid seg last crc data s) := by
  unfold execDictSegment
  try dsimp only
  repeat' first
    | intro _
    | with_reducible assumption
    | with_reducible exact Keep.refl _ _
    | with_reducible refine keep_ite ?_ ?_
    | with_reducible apply Keep.step (keep_abortTransfer _ _ _)
    | with_reducible apply Keep.step (keep_dictAck _ _)
    | with_reducible apply Keep.step (keep_dictTaken _ _ _ _)
    | with_reducible apply Keep.step (keep_finishTransfer _ _ _)
    | with_reducible apply Keep.step (keep_setTransfer _ _ _)
    | with_reducible apply Keep.step (keep_touch _ _)
    | exact rfl
    | with_reducible refine keepr_next ?_
    | with_reducible exact keepr_fault
    | with_reducible refine keepr_ite ?_ ?_
    | with_reducible refine keep_foldl (fun _ _ _ => ?_) _ ?_
    | with_reducible exact cellsWf_filter _ (by assumption) _
    | with_reducible exact cellsWf_cellSet _ (by assumption) _ _
    | with_reducible refine keep_snd (by with_reducible assumption) ?_
    | with_reducible refine keep_fst (by with_reducible assumption) ?_
    | split

theorem keep_execDictAck (p : Path) (tid next : Nat) (s : State) : KeepR 0xb0010800008001d2240 s (execDictAck p tid next s) := by
  unfold execDictAck
  try dsimp only
  repeat' first
    | intro _
    | with_reducible assumption
    | with_reducible exact Keep.refl _ _
    | with_reducible refine keep_ite ?_ ?_
    | with_reducible apply Keep.step (keep_dictTaken _ _ _ _)
    | with_reducible apply Keep.step (keep_endTransfer _ _)
    | with_reducible apply Keep.step (keep_pumpTransfer _ _)
    | with_reducible apply Keep.step (keep_setTransfer _ _ _)
    | with_reducible apply Keep.step (keep_touch _ _)
    | exact rfl
    | with_reducible refine keepr_next ?_
    | with_reducible exact keepr_fault
    | with_reducible refine keepr_ite ?_ ?_
    | with_reducible refine keep_foldl (fun _ _ _ => ?_) _ ?_
    | with_reducible exact cellsWf_filter _ (by assumption) _
    | with_reducible exact cellsWf_cellSet _ (by assumption) _ _
    | with_reducible refine keep_snd (by with_reducible assumption) ?_
    | with_reducible refine keep_fst (by with_reducible assumption) ?_
    | split

theorem keep_execDictCancel (p : Path) (tid : Nat) (s : State) : KeepR 0x80000000010200 s (execDictCancel p tid s) := by
  unfold execDictCancel
  try dsimp only
  repeat' first
    | intro _
    | with_reducible assumption
    | with_reducible exact Keep.refl _ _
    | with_reducible refine keep_ite ?_ ?_
    | with_reducible apply Keep.step (keep_dictForget _ _)
    | with_reducible apply Keep.step (keep_dictTaken _ _ _ _)
    | with_reducible apply Keep.step (keep_endTransfer _ _)
    | with_reducible apply Keep.step (keep_touch _ _)
    | exact rfl
    | with_reducible refine keepr_next ?_
    | with_reducible exact keepr_fault
    | with_reducible refine keepr_ite ?_ ?_
    | with_reducible refine keep_foldl (fun _ _ _ => ?_) _ ?_
    | with_reducible exact cellsWf_filter _ (by assumption) _
    | with_reducible exact cellsWf_cellSet _ (by assumption) _ _
    | with_reducible refine keep_snd (by with_reducible assumption) ?_
    | with_reducible refine keep_fst (by with_reducible assumption) ?_
    | split

theorem keep_execDictOutOfOrderAck (p : Path) (tid : Nat) (s : State) : KeepR 0xb0010800088001c2046 s (execDictOutOfOrderAck p tid s) := by
  unfold execDictOutOfOrderAck
  try dsimp only
  repeat' first
    | intro _
    | with_reducible assumption
    | with_reducible exact Keep.refl _ _
    | with_reducible refine keep_ite ?_ ?_
    | with_reducible apply Keep.step (keep_dictAck _ _)
    | with_reducible apply Keep.step (keep_setTransfer _ _ _)
    | with_reducible apply Keep.step (keep_until _ _)
    | exact rfl
    | with_reducible refine keepr_next ?_
    | with_reducible exact keepr_fault
    | with_reducible refine keepr_ite ?_ ?_
    | with_reducible refine keep_foldl (fun _ _ _ => ?_) _ ?_
    | with_reducible exact cellsWf_filter _ (by assumption) _
    | with_reducible exact cellsWf_cellSet _ (by assumption) _ _
    | with_reducible refine keep_snd (by with_reducible assumption) ?_
    | with_reducible refine keep_fst (by with_reducible assumption) ?_
    | split

theorem keep_execDictResendTimeout (p : Path) (tid : Nat) (s : State) : KeepR 0xb0010e00088401c26c6 s (execDictResendTimeout p tid s) := by
  unfold execDictResendTimeout
  try dsimp only
  repeat' first
    | intro _
    | with_reducible assumption
    | with_reducible exact Keep.refl _ _
    | with_reducible refine keep_ite ?_ ?_
    | with_reducible apply Keep.step (keep_abortTransfer _ _ _)
    | with_reducible apply Keep.step (keep_bump _ _)
    | with_reducible apply Keep.step (keep_pumpTransfer _ _)
    | with_reducible apply Keep.step (keep_setTransfer _ _ _)
    | with_reducible apply Keep.step (keep_until _ _)
    | exact rfl
    | with_reducible refine keepr_next ?_
    | with_reducible exact keepr_fault
    | with_reducible refine keepr_ite ?_ ?_
    | with_reducible refine keep_foldl (fun _ _ _ => ?_) _ ?_
    | with_reducible exact cellsWf_filter _ (by assumption) _
    | with_reducible exact cellsWf_cellSet _ (by assumption) _ _
    | with_reducible refine keep_snd (by with_reducible assumption) ?_
    | with_reducible refine keep_fst (by with_reducible assumption) ?_
    | split

theorem keep_ownRequest (s : State) (q : DictReq) (op : Nat) (buffer : Option (List Byte)) : Keep 0xf6797dcf799fddd77e4 s (State.ownRequest s q op buffer) := by
  unfold State.ownRequest
  try dsimp only
  repeat' first
    | intro _
    | with_reducible assumption
    | with_reducible exact Keep.refl _ _
    | with_reducible refine keep_ite ?_ ?_
    | with_reducible apply Keep.step (keep_dictFail _ _ _)
    | with_reducible apply Keep.step (keep_dictOpen _ _ _)
    | with_reducible apply Keep.step (keep_dictRead _ _)
    | with_reducible apply Keep.step (keep_dictReadBlock _ _)
    | with_reducible apply Keep.step (keep_dictWrite _ _)
    | with_reducible apply Keep.step (keep_dictWriteBlock _ _ _)
    | exact rfl
    | with_reducible refine keep_foldl (fun _ _ _ => ?_) _ ?_
    | with_reducible exact cellsWf_filter _ (by assumption) _
    | with_reducible exact cellsWf_cellSet _ (by assumption) _ _
    | with_reducible refine keep_snd (by with_reducible assumption) ?_
    | with_reducible refine keep_fst (by with_reducible assumption) ?_
    | split

theorem keep_mailboxRemote (s : State) (req : List Byte) (dest : Nat) (buffer : List Byte) : Keep 0xb0010e00008401c2040 s (State.mailboxRemote s req dest buffer) := by
  unfold State.mailboxRemote
  try dsimp only
  repeat' first
    | intro _
    | with_reducible assumption
    | with_reducible exact Keep.refl _ _
    | (simp -zeta only [keepAt_mk]; with_reducible refine keep_mk_dict ?_ ?_ ?_)
    | with_reducible refine keep_ite ?_ ?_
    | with_reducible apply Keep.step (keep_mailboxDone _ _ _)
    | with_reducible apply Keep.step (keep_originate _ _)
    | with_reducible apply Keep.step (keep_pumpTransfer _ _)
    | exact rfl

theorem keep_mailboxGo (s : State) (v : Nat) (buffer : List Byte) : Keep 0xfe797fcf799fddd77e4 s (State.mailboxGo s v buffer) := by
  unfold State.mailboxGo
  try dsimp only
  repeat' first
    | intro _
    | with_reducible assumption
    | with_reducible exact Keep.refl _ _
    | (simp -zeta only [keepAt_mk]; with_reducible refine keep_mk_host ?_ ?_)
    | with_reducible refine keep_ite ?_ ?_
    | with_reducible apply Keep.step (keep_bump _ _)
    | with_reducible apply Keep.step (keep_coreTouch _)
    | with_reducible apply Keep.step (keep_mailboxDone _ _ _)
    | with_reducible apply Keep.step (keep_mailboxRemote _ _ _ _)
    | with_reducible apply Keep.step (keep_ownRequest _ _ _ _)
    | with_reducible apply Keep.step (keep_setBar _ _ _)
    | exact rfl

theorem keep_execMailboxGo (v : Fin 2048) (buffer : List Byte) (s : State) : KeepR 0xfe797fcf799fddd77e4 s (execMailboxGo v buffer s) := by
  unfold execMailboxGo
  try dsimp only
  repeat' first
    | intro _
    | with_reducible assumption
    | with_reducible exact Keep.refl _ _
    | with_reducible refine keep_ite ?_ ?_
    | with_reducible apply Keep.step (keep_mailboxGo _ _ _)
    | exact rfl
    | with_reducible refine keepr_next ?_

theorem keep_mailboxWrite (s : State) (o v : Nat) : Keep 0xfe797fcf799fddd77e4 s (State.mailboxWrite s o v) := by
  unfold State.mailboxWrite
  try dsimp only
  repeat' first
    | intro _
    | with_reducible assumption
    | with_reducible exact Keep.refl _ _
    | with_reducible refine keep_ite ?_ ?_
    | with_reducible apply Keep.step (keep_mailboxGo _ _ _)
    | with_reducible apply Keep.step (keep_setBar _ _ _)
    | with_reducible refine keep_resState ?_ ?_
    | exact rfl
    | with_reducible apply keepr_mono (keep_execMailboxDoneClear _)

theorem keep_ringWrite (s : State) (r : Fin 3) (x v : Nat) : Keep 0x30091683009fd5c2260 s (State.ringWrite s r x v) := by
  unfold State.ringWrite
  try dsimp only
  repeat' first
    | intro _
    | with_reducible assumption
    | with_reducible exact Keep.refl _ _
    | with_reducible refine keep_ite ?_ ?_
    | with_reducible apply Keep.step (keep_setBar _ _ _)
    | with_reducible refine keep_resState ?_ ?_
    | exact rfl
    | with_reducible apply keepr_mono (keep_execRingEnableWrite _ _ _)
    | with_reducible apply keepr_mono (keep_execRingTailWrite _ _ _)

theorem keep_bar0Write (s : State) (o v : Nat) : Keep 0xfe797fcf799fddd77e4 s (State.bar0Write s o v) := by
  unfold State.bar0Write
  try dsimp only
  repeat' first
    | intro _
    | with_reducible assumption
    | with_reducible exact Keep.refl _ _
    | (simp -zeta only [keepAt_mk]; with_reducible refine keep_mk_host ?_ ?_)
    | with_reducible refine keep_ite ?_ ?_
    | with_reducible apply Keep.step (keep_hostControl _ _)
    | with_reducible apply Keep.step (keep_mailboxWrite _ _ _)
    | with_reducible apply Keep.step (keep_ringWrite _ _ _ _)
    | with_reducible apply Keep.step (keep_setBar _ _ _)
    | with_reducible refine keep_resState ?_ ?_
    | exact rfl
    | with_reducible apply keepr_mono (keep_execCompleteWrite _ _ _)
    | with_reducible apply keepr_mono (keep_execSnapshotGo _ _)
    | with_reducible apply keepr_mono (keep_execWatchdogKick _)

theorem keep_blockCommand (s : State) (n q v : Nat) : Keep 0x40000000040 s (State.blockCommand s n q v) := by
  unfold State.blockCommand
  try dsimp only
  repeat' first
    | intro _
    | with_reducible assumption
    | with_reducible exact Keep.refl _ _
    | with_reducible refine keep_ite ?_ ?_
    | with_reducible apply Keep.step (keep_bump _ _)
    | with_reducible apply Keep.step (keep_qSkip _ _ _)
    | with_reducible apply Keep.step (keep_setQueue _ _ _ _)
    | exact rfl

theorem keep_bar4Write (s : State) (o v : Nat) : Keep 0x38091583409fd5c2260 s (State.bar4Write s o v) := by
  unfold State.bar4Write
  try dsimp only
  repeat' first
    | intro _
    | with_reducible assumption
    | with_reducible exact Keep.refl _ _
    | with_reducible refine keep_ite ?_ ?_
    | with_reducible apply Keep.step (keep_blockCommand _ _ _ _)
    | with_reducible apply Keep.step (keep_setBar4 _ _ _)
    | with_reducible refine keep_resState ?_ ?_
    | exact rfl
    | with_reducible apply keepr_mono (keep_execIwSend _ _)
    | with_reducible apply keepr_mono (keep_execIwStageWrite _ _)
    | with_reducible apply keepr_mono (keep_execQueueDataWrite _ _ _ _ _)
    | with_reducible apply keepr_mono (keep_execQueueTagWrite _ _ _ _)
    | with_reducible apply keepr_mono (keep_execTxTailWrite _ _)

theorem keep_execRegisterWrite (w : Writer) (target : RegTarget) (v : Nat) (s : State) : KeepR 0xfe797fcf799fddd77e4 s (execRegisterWrite w target v s) := by
  unfold execRegisterWrite
  try dsimp only
  repeat' first
    | intro _
    | with_reducible assumption
    | with_reducible exact Keep.refl _ _
    | with_reducible refine keep_ite ?_ ?_
    | with_reducible apply Keep.step (keep_bar0Write _ _ _)
    | with_reducible apply Keep.step (keep_bar4Write _ _ _)
    | with_reducible apply Keep.step (keep_writeKey _ _ _ _ _)
    | exact rfl
    | with_reducible refine keepr_next ?_
    | with_reducible exact keepr_fault
    | with_reducible refine keepr_ite ?_ ?_
    | with_reducible refine keep_foldl (fun _ _ _ => ?_) _ ?_
    | with_reducible exact cellsWf_filter _ (by assumption) _
    | with_reducible exact cellsWf_cellSet _ (by assumption) _ _
    | with_reducible refine keep_snd (by with_reducible assumption) ?_
    | with_reducible refine keep_fst (by with_reducible assumption) ?_
    | split

end Sys2Proof.Machine
end

