-- ==== Sys2Proof/Laws/KeepBoot.lean ====
section
/-! SUPPORT. What each operation and each command of `Machine/Boot.lean` keeps: the parts of the state outside its mask, and
the invariant. -/

namespace Sys2Proof.Machine
open Sys2Proof

theorem keep_holdOutputs (s : State) : Keep 0x1000000 s (State.holdOutputs s) := by
  unfold State.holdOutputs
  try dsimp only
  repeat' first
    | intro _
    | with_reducible assumption
    | with_reducible exact Keep.refl _ _
    | (simp -zeta only [keepAt_mk]; with_reducible refine keep_mk_field ?_ ?_)
    | with_reducible refine keep_ite ?_ ?_
    | exact rfl

theorem keep_saveCut (s : State) : Keep 0x4000000000000000000 s (State.saveCut s) := by
  unfold State.saveCut
  try dsimp only
  repeat' first
    | intro _
    | with_reducible assumption
    | with_reducible exact Keep.refl _ _
    | with_reducible refine keep_ite ?_ ?_
    | with_reducible apply Keep.step (keep_setCopy _ _ _)
    | exact rfl
    | with_reducible refine keep_foldl (fun _ _ _ => ?_) _ ?_
    | with_reducible exact cellsWf_filter _ (by assumption) _
    | with_reducible exact cellsWf_cellSet _ (by assumption) _ _
    | with_reducible refine keep_snd (by with_reducible assumption) ?_
    | with_reducible refine keep_fst (by with_reducible assumption) ?_
    | split

theorem cellsWf_foldl {α β : Type} [DecidableEq α] (d : Nat → α) (g : Cells α → β → Cells α)
    (hg : ∀ m b, cellsWf d m = true → cellsWf d (g m b) = true) (l : List β) :
    ∀ m : Cells α, cellsWf d m = true → cellsWf d (l.foldl g m) = true := by
  induction l with
  | nil => intro m h; exact h
  | cons b l ih => intro m h; exact ih _ (hg _ _ h)

theorem cellsWf_resetRegs (s : State) (h : cellsWf objDefault s.regs = true) : cellsWf objDefault s.resetRegs = true := by
  unfold State.resetRegs
  dsimp only
  refine cellsWf_foldl _ _ (fun m b hm => ?_) _ _ (cellsWf_foldl _ _ (fun m b hm => ?_) _ _ (cellsWf_filter _ h _))
  · split
    · exact cellsWf_cellSet _ hm _ _
    · exact hm
  · split
    · exact cellsWf_cellSet _ hm _ _
    · exact hm

theorem keep_intoReset (s : State) (cause : ResetCause) : Keep 0x7fffffef7ffbdff72f5 s (s.intoReset cause) := by
  have h : Keep 0x7fffffef7ffbdff72f5 s s.saveCut.holdOutputs := Keep.step (keep_holdOutputs _) rfl ((keep_saveCut _).mono rfl)
  unfold State.intoReset
  generalize s.saveCut.holdOutputs = t at h
  dsimp only
  constructor
  · intro p hp
    cases p <;> first | (exact absurd hp (by decide)) | (have e := h.same _ hp; exact e)
  · intro hi
    obtain ⟨h1, -, -, -⟩ := h.inv hi
    simp only [TablesOk, Bool.and_eq_true] at h1
    refine ⟨?_, Nat.zero_le _, Nat.zero_le _, Nat.zero_le _⟩
    simp only [TablesOk, Bool.and_eq_true]
    exact ⟨⟨⟨cellsWf_resetRegs t h1.1.1.1, rfl⟩, rfl⟩, rfl⟩

theorem keep_execResetAssert (cause : ResetCause) (s : State) : KeepR 0x7fffffef7ffbdff72f5 s (execResetAssert cause s) := by
  unfold execResetAssert
  try dsimp only
  repeat' first
    | intro _
    | with_reducible assumption
    | with_reducible exact Keep.refl _ _
    | with_reducible refine keep_ite ?_ ?_
    | with_reducible apply Keep.step (keep_intoReset _ _)
    | exact rfl
    | with_reducible refine keepr_next ?_
    | with_reducible exact keepr_fault
    | with_reducible refine keepr_ite ?_ ?_
    | with_reducible refine keep_foldl (fun _ _ _ => ?_) _ ?_
    | with_reducible exact cellsWf_filter _ (by assumption) _
    | with_reducible exact cellsWf_cellSet _ (by assumption) _ _
    | with_reducible refine keep_snd (by with_reducible assumption) ?_
    | with_reducible refine keep_fst (by with_reducible assumption) ?_
    | split

theorem keep_rebase (s : State) : Keep 0x408004100003000006 s (State.rebase s) := by
  unfold State.rebase
  try dsimp only
  repeat' first
    | intro _
    | with_reducible assumption
    | with_reducible exact Keep.refl _ _
    | (simp -zeta only [keepAt_mk]; with_reducible refine keep_mk_clock_ftimeQ_field_healthAt_lines_iols_twin_fuses ?_ ?_)
    | with_reducible refine keep_ite ?_ ?_
    | exact rfl

theorem keep_execVddAonApplied (s : State) : KeepR 0x408004100003000007 s (execVddAonApplied s) := by
  unfold execVddAonApplied
  try dsimp only
  repeat' first
    | intro _
    | with_reducible assumption
    | with_reducible exact Keep.refl _ _
    | (simp -zeta only [keepAt_mk]; with_reducible refine keep_mk_run ?_ ?_)
    | with_reducible refine keep_ite ?_ ?_
    | with_reducible apply Keep.step (keep_rebase _)
    | exact rfl
    | with_reducible refine keepr_next ?_
    | with_reducible exact keepr_fault
    | with_reducible refine keepr_ite ?_ ?_
    | with_reducible refine keep_foldl (fun _ _ _ => ?_) _ ?_
    | with_reducible exact cellsWf_filter _ (by assumption) _
    | with_reducible exact cellsWf_cellSet _ (by assumption) _ _
    | with_reducible refine keep_snd (by with_reducible assumption) ?_
    | with_reducible refine keep_fst (by with_reducible assumption) ?_
    | split

theorem keep_powerEntry (s : State) (torn : Nat) : Keep 0x100000100 s (State.powerEntry s torn) := by
  unfold State.powerEntry
  try dsimp only
  repeat' first
    | intro _
    | with_reducible assumption
    | with_reducible exact Keep.refl _ _
    | with_reducible refine keep_ite ?_ ?_
    | with_reducible apply Keep.step (keep_fresh _)
    | with_reducible apply Keep.step (keep_log _ _ _ _)
    | exact rfl

theorem keep_toRecovery (s : State) (cause : Nat) : Keep 0x4000000000000000021 s (State.toRecovery s cause) := by
  unfold State.toRecovery
  try dsimp only
  repeat' first
    | intro _
    | with_reducible assumption
    | with_reducible exact Keep.refl _ _
    | (simp -zeta only [keepAt_mk]; with_reducible refine keep_mk_run_boot ?_ ?_)
    | with_reducible refine keep_ite ?_ ?_
    | with_reducible apply Keep.step (keep_setReg _ _ _)
    | exact rfl

theorem keep_release (s : State) (straps : Straps) : Keep 0x6808000008100000929 s (State.release s straps) := by
  unfold State.release
  try dsimp only
  repeat' first
    | intro _
    | with_reducible assumption
    | with_reducible exact Keep.refl _ _
    | (simp -zeta only [keepAt_mk]; with_reducible refine keep_mk_run_straps_role_time_twin_power_keys ?_ ?_)
    | with_reducible refine keep_ite ?_ ?_
    | with_reducible apply Keep.step (keep_powerEntry _ _)
    | with_reducible apply Keep.step (keep_setReg _ _ _)
    | with_reducible apply Keep.step (keep_toRecovery _ _)
    | exact rfl
    | with_reducible refine keep_foldl (fun _ _ _ => ?_) _ ?_
    | with_reducible exact cellsWf_filter _ (by assumption) _
    | with_reducible exact cellsWf_cellSet _ (by assumption) _ _
    | with_reducible refine keep_snd (by with_reducible assumption) ?_
    | with_reducible refine keep_fst (by with_reducible assumption) ?_
    | split

theorem keep_execResetRelease (straps : Straps) (s : State) : KeepR 0x6808000008100000929 s (execResetRelease straps s) := by
  unfold execResetRelease
  try dsimp only
  repeat' first
    | intro _
    | with_reducible assumption
    | with_reducible exact Keep.refl _ _
    | with_reducible refine keep_ite ?_ ?_
    | with_reducible apply Keep.step (keep_release _ _)
    | exact rfl
    | with_reducible refine keepr_next ?_
    | with_reducible exact keepr_fault
    | with_reducible refine keepr_ite ?_ ?_
    | with_reducible refine keep_foldl (fun _ _ _ => ?_) _ ?_
    | with_reducible exact cellsWf_filter _ (by assumption) _
    | with_reducible exact cellsWf_cellSet _ (by assumption) _ _
    | with_reducible refine keep_snd (by with_reducible assumption) ?_
    | with_reducible refine keep_fst (by with_reducible assumption) ?_
    | split

theorem keep_execDeferredReset (s : State) : KeepR 0x7fffffef7ffbdff7bff s (execDeferredReset s) := by
  unfold execDeferredReset
  try dsimp only
  repeat' first
    | intro _
    | with_reducible assumption
    | with_reducible exact Keep.refl _ _
    | with_reducible refine keep_ite ?_ ?_
    | with_reducible apply Keep.step (keep_intoReset _ _)
    | with_reducible apply Keep.step (keep_release _ _)
    | with_reducible apply Keep.step (keep_until _ _)
    | exact rfl
    | with_reducible refine keepr_next ?_
    | with_reducible exact keepr_fault
    | with_reducible refine keepr_ite ?_ ?_
    | with_reducible refine keep_foldl (fun _ _ _ => ?_) _ ?_
    | with_reducible exact cellsWf_filter _ (by assumption) _
    | with_reducible exact cellsWf_cellSet _ (by assumption) _ _
    | with_reducible refine keep_snd (by with_reducible assumption) ?_
    | with_reducible refine keep_fst (by with_reducible assumption) ?_
    | split

theorem keep_startImage (s : State) : Keep 0x21 s (State.startImage s) := by
  unfold State.startImage
  try dsimp only
  repeat' first
    | intro _
    | with_reducible assumption
    | with_reducible exact Keep.refl _ _
    | (simp -zeta only [keepAt_mk]; with_reducible refine keep_mk_run ?_ ?_)
    | with_reducible refine keep_ite ?_ ?_
    | with_reducible apply Keep.step (keep_setReg _ _ _)
    | exact rfl

theorem keep_loaderRuns (s : State) (imageGood : Bool) : Keep 0x70091083009fd5c2261 s (State.loaderRuns s imageGood) := by
  unfold State.loaderRuns
  try dsimp only
  repeat' first
    | intro _
    | with_reducible assumption
    | with_reducible exact Keep.refl _ _
    | with_reducible refine keep_ite ?_ ?_
    | with_reducible apply Keep.step (keep_occur _ _ _ _)
    | with_reducible apply Keep.step (keep_setPhase _ _)
    | with_reducible apply Keep.step (keep_setReg _ _ _)
    | with_reducible apply Keep.step (keep_startImage _)
    | with_reducible apply Keep.step (keep_toRecovery _ _)
    | exact rfl

theorem keep_execBootLoaderStart (loaderGood imageGood : Bool) (torn : Nat) (s : State) : KeepR 0x70091083009fd5c2361 s (execBootLoaderStart loaderGood imageGood torn s) := by
  unfold execBootLoaderStart
  try dsimp only
  repeat' first
    | intro _
    | with_reducible assumption
    | with_reducible exact Keep.refl _ _
    | (simp -zeta only [keepAt_mk]; with_reducible refine keep_mk_boot ?_ ?_)
    | with_reducible refine keep_ite ?_ ?_
    | with_reducible apply Keep.step (keep_loaderRuns _ _)
    | with_reducible apply Keep.step (keep_occur _ _ _ _)
    | with_reducible apply Keep.step (keep_powerEntry _ _)
    | with_reducible apply Keep.step (keep_setReg _ _ _)
    | with_reducible apply Keep.step (keep_toRecovery _ _)
    | exact rfl
    | with_reducible refine keepr_next ?_
    | with_reducible exact keepr_fault
    | with_reducible refine keepr_ite ?_ ?_
    | with_reducible refine keep_foldl (fun _ _ _ => ?_) _ ?_
    | with_reducible exact cellsWf_filter _ (by assumption) _
    | with_reducible exact cellsWf_cellSet _ (by assumption) _ _
    | with_reducible refine keep_snd (by with_reducible assumption) ?_
    | with_reducible refine keep_fst (by with_reducible assumption) ?_
    | split

theorem keep_relax (n : Nat) : ∀ (s : State) (k : Nat), Keep 0x20 s (State.relax n s k).1 := by
  induction n with
  | zero => intro s k; exact Keep.refl _ _
  | succ n ih =>
    intro s k
    unfold State.relax
    split
    · exact Keep.refl _ _
    · exact Keep.step (ih _ _) rfl (keep_mk_regs (fun h => cellsWf_filter _ h _) (Keep.refl _ _) rfl).keep

theorem keep_loadRecords (s : State) (c : ParamCopy) : Keep 0x20 s (State.loadRecords s c).1 := by
  unfold State.loadRecords
  dsimp only
  refine Keep.step (keep_relax _ _ _) rfl (keep_foldl (fun t a h => Keep.step (keep_setReg _ _ _) rfl h) _ ?_)
  exact (keep_mk_regs (fun h => cellsWf_filter _ h _) (Keep.refl _ _) rfl).keep

theorem keep_migrate (s : State) (n : Nat) (c : ParamCopy) (dropped : Nat) : Keep 0x70091083009fd5c2260 s (State.migrate s n c dropped) := by
  unfold State.migrate
  try dsimp only
  repeat' first
    | intro _
    | with_reducible assumption
    | with_reducible exact Keep.refl _ _
    | with_reducible refine keep_ite ?_ ?_
    | with_reducible apply Keep.step (keep_occur _ _ _ _)
    | with_reducible apply Keep.step (keep_setCopy _ _ _)
    | with_reducible apply Keep.step (keep_setReg _ _ _)
    | exact rfl

theorem keep_loadParams (s : State) : Keep 0x70091083009fd5c2260 s (State.loadParams s) := by
  unfold State.loadParams
  try dsimp only
  repeat' first
    | intro _
    | with_reducible assumption
    | with_reducible exact Keep.refl _ _
    | (simp -zeta only [keepAt_mk]; first | with_reducible refine keep_mk_regs ?_ ?_ ?_ | with_reducible refine keep_mk_hub ?_ ?_ | with_reducible refine keep_mk_regs_hub ?_ ?_ ?_)
    | with_reducible refine keep_ite ?_ ?_
    | with_reducible apply Keep.step (keep_faultUp _ _ _ _)
    | with_reducible apply Keep.step (keep_loadRecords _ _)
    | with_reducible apply Keep.step (keep_migrate _ _ _ _)
    | with_reducible apply Keep.step (keep_occur _ _ _ _)
    | with_reducible apply Keep.step (keep_setReg _ _ _)
    | exact rfl
    | with_reducible refine keep_foldl (fun _ _ _ => ?_) _ ?_
    | with_reducible exact cellsWf_filter _ (by assumption) _
    | with_reducible exact cellsWf_cellSet _ (by assumption) _ _
    | with_reducible refine keep_snd (by with_reducible assumption) ?_
    | with_reducible refine keep_fst (by with_reducible assumption) ?_
    | split

theorem keep_execFirmwareStart (s : State) : KeepR 0x740911c3409ffdc7261 s (execFirmwareStart s) := by
  unfold execFirmwareStart
  try dsimp only
  repeat' first
    | intro _
    | with_reducible assumption
    | with_reducible exact Keep.refl _ _
    | (simp -zeta only [keepAt_mk]; first | with_reducible refine keep_mk_healthAt ?_ ?_ | with_reducible refine keep_mk_run_boot ?_ ?_)
    | with_reducible refine keep_ite ?_ ?_
    | with_reducible apply Keep.step (keep_configured _ _)
    | with_reducible apply Keep.step (keep_loadParams _)
    | with_reducible apply Keep.step (keep_portEnable _ _ _)
    | with_reducible apply Keep.step (keep_setMode _ _ _ _)
    | with_reducible apply Keep.step (keep_twinUpdate _)
    | exact rfl
    | with_reducible refine keepr_next ?_
    | with_reducible exact keepr_fault
    | with_reducible refine keepr_ite ?_ ?_
    | with_reducible refine keep_foldl (fun _ _ _ => ?_) _ ?_
    | with_reducible exact cellsWf_filter _ (by assumption) _
    | with_reducible exact cellsWf_cellSet _ (by assumption) _ _
    | with_reducible refine keep_snd (by with_reducible assumption) ?_
    | with_reducible refine keep_fst (by with_reducible assumption) ?_
    | split

theorem keep_execFieldRefresh (s : State) : KeepR 0x400000000081000020 s (execFieldRefresh s) := by
  unfold execFieldRefresh
  try dsimp only
  repeat' first
    | intro _
    | with_reducible assumption
    | with_reducible exact Keep.refl _ _
    | with_reducible refine keep_ite ?_ ?_
    | with_reducible apply Keep.step (keep_refresh _)
    | exact rfl
    | with_reducible refine keepr_next ?_

theorem keep_execFieldFirstRefresh (s : State) : KeepR 0x400000000081000020 s (execFieldFirstRefresh s) := by
  unfold execFieldFirstRefresh
  try dsimp only
  repeat' first
    | intro _
    | with_reducible assumption
    | with_reducible exact Keep.refl _ _
    | with_reducible refine keep_ite ?_ ?_
    | with_reducible apply Keep.step (keep_refresh _)
    | exact rfl
    | with_reducible refine keepr_next ?_

theorem keep_execFieldRefreshLoss (s : State) : KeepR 0x30091083089fd5c2266 s (execFieldRefreshLoss s) := by
  unfold execFieldRefreshLoss
  try dsimp only
  repeat' first
    | intro _
    | with_reducible assumption
    | with_reducible exact Keep.refl _ _
    | with_reducible refine keep_ite ?_ ?_
    | with_reducible apply Keep.step (keep_faultUp _ _ _ _)
    | with_reducible apply Keep.step (keep_holdOutputs _)
    | with_reducible apply Keep.step (keep_until _ _)
    | exact rfl
    | with_reducible refine keepr_next ?_

theorem keep_execFieldHoldExpiry (s : State) : KeepR 0x400000108001000026 s (execFieldHoldExpiry s) := by
  unfold execFieldHoldExpiry
  try dsimp only
  repeat' first
    | intro _
    | with_reducible assumption
    | with_reducible exact Keep.refl _ _
    | (simp -zeta only [keepAt_mk]; with_reducible refine keep_mk_field_lines ?_ ?_)
    | with_reducible refine keep_ite ?_ ?_
    | with_reducible apply Keep.step (keep_fuseSync _ _)
    | with_reducible apply Keep.step (keep_until _ _)
    | exact rfl
    | with_reducible refine keepr_next ?_
    | with_reducible exact keepr_fault
    | with_reducible refine keepr_ite ?_ ?_
    | with_reducible refine keep_foldl (fun _ _ _ => ?_) _ ?_

theorem keep_execFieldDieReset (s : State) : KeepR 0x3c09104d4087d1c2060 s (execFieldDieReset s) := by
  unfold execFieldDieReset
  try dsimp only
  repeat' first
    | intro _
    | with_reducible assumption
    | with_reducible exact Keep.refl _ _
    | (simp -zeta only [keepAt_mk]; with_reducible refine keep_mk_field_lines_iols_twin_fuses_power ?_ ?_)
    | with_reducible refine keep_ite ?_ ?_
    | with_reducible apply Keep.step (keep_fuseSync _ _)
    | with_reducible apply Keep.step (keep_gateTo _ _)
    | with_reducible apply Keep.step (keep_setReg _ _ _)
    | exact rfl
    | with_reducible refine keepr_next ?_
    | with_reducible exact keepr_fault
    | with_reducible refine keepr_ite ?_ ?_
    | with_reducible refine keep_foldl (fun _ _ _ => ?_) _ ?_

theorem keep_execFieldDiePowerUp (s : State) : KeepR 0x100001000000 s (execFieldDiePowerUp s) := by
  unfold execFieldDiePowerUp
  try dsimp only
  repeat' first
    | intro _
    | with_reducible assumption
    | with_reducible exact Keep.refl _ _
    | (simp -zeta only [keepAt_mk]; with_reducible refine keep_mk_field_lines ?_ ?_)
    | with_reducible refine keep_ite ?_ ?_
    | exact rfl
    | with_reducible refine keepr_next ?_

theorem keep_execHobHealthTimeout (s : State) : KeepR 0x8000008000000026 s (execHobHealthTimeout s) := by
  unfold execHobHealthTimeout
  try dsimp only
  repeat' first
    | intro _
    | with_reducible assumption
    | with_reducible exact Keep.refl _ _
    | with_reducible refine keep_ite ?_ ?_
    | with_reducible apply Keep.step (keep_until _ _)
    | with_reducible apply Keep.step (keep_writeClaim _ _)
    | exact rfl
    | with_reducible refine keepr_next ?_

theorem keep_execUartFrameReceived (bytes : List Byte) (s : State) : KeepR 0xf6797fcf799fddd77e4 s (execUartFrameReceived bytes s) := by
  unfold execUartFrameReceived
  try dsimp only
  repeat' first
    | intro _
    | with_reducible assumption
    | with_reducible exact Keep.refl _ _
    | with_reducible refine keep_ite ?_ ?_
    | with_reducible apply Keep.step (keep_ownRequest _ _ _ _)
    | exact rfl
    | with_reducible refine keepr_next ?_
    | with_reducible exact keepr_fault
    | with_reducible refine keepr_ite ?_ ?_
    | with_reducible apply keepr_mono (keep_execDictAck _ _ _ _)
    | with_reducible apply keepr_mono (keep_execDictCancel _ _ _)
    | with_reducible apply keepr_mono (keep_execDictSegment _ _ _ _ _ _ _)
    | with_reducible refine keep_foldl (fun _ _ _ => ?_) _ ?_
    | with_reducible exact cellsWf_filter _ (by assumption) _
    | with_reducible exact cellsWf_cellSet _ (by assumption) _ _
    | with_reducible refine keep_snd (by with_reducible assumption) ?_
    | with_reducible refine keep_fst (by with_reducible assumption) ?_
    | split

theorem keep_tick (s : State) : Keep 0x8000000006 s (State.tick s) := by
  unfold State.tick
  try dsimp only
  repeat' first
    | intro _
    | with_reducible assumption
    | with_reducible exact Keep.refl _ _
    | with_reducible refine keep_ite ?_ ?_
    | with_reducible apply Keep.step (keep_advance _ _)
    | exact rfl
    | with_reducible refine keep_foldl (fun _ _ _ => ?_) _ ?_
    | with_reducible exact cellsWf_filter _ (by assumption) _
    | with_reducible exact cellsWf_cellSet _ (by assumption) _ _
    | with_reducible refine keep_snd (by with_reducible assumption) ?_
    | with_reducible refine keep_fst (by with_reducible assumption) ?_
    | split

end Sys2Proof.Machine
end

