-- ==== Sys2Proof/Laws/State.lean ====
section
/-! SUPPORT. What each small update of the state leaves alone, one equation per field and per reader, and what its own reader
then gives. -/

namespace Sys2Proof.Machine
open Sys2Proof

@[simp] theorem State.setReg_fields (s : State) (k v : Nat) :
    (s.setReg k v).run = s.run ∧ (s.setReg k v).clock = s.clock ∧ (s.setReg k v).ftimeQ = s.ftimeQ ∧
    (s.setReg k v).straps = s.straps ∧ (s.setReg k v).resetCause = s.resetCause ∧ (s.setReg k v).cnt = s.cnt ∧
    (s.setReg k v).rejects = s.rejects ∧ (s.setReg k v).free = s.free ∧ (s.setReg k v).hub = s.hub ∧
    (s.setReg k v).answers = s.answers ∧ (s.setReg k v).role = s.role ∧ (s.setReg k v).links = s.links ∧
    (s.setReg k v).tx = s.tx ∧ (s.setReg k v).ingress = s.ingress ∧ (s.setReg k v).sent = s.sent ∧
    (s.setReg k v).inbox = s.inbox ∧ (s.setReg k v).landing = s.landing ∧ (s.setReg k v).seqNext = s.seqNext ∧
    (s.setReg k v).origTimes = s.origTimes ∧ (s.setReg k v).origHeld = s.origHeld ∧ (s.setReg k v).dups = s.dups ∧
    (s.setReg k v).tie = s.tie ∧ (s.setReg k v).settleEnds = s.settleEnds ∧ (s.setReg k v).field = s.field ∧
    (s.setReg k v).healthAt = s.healthAt ∧ (s.setReg k v).sources = s.sources ∧ (s.setReg k v).records = s.records ∧
    (s.setReg k v).recordLoss = s.recordLoss ∧ (s.setReg k v).deliveries = s.deliveries ∧ (s.setReg k v).msix = s.msix ∧
    (s.setReg k v).faults = s.faults ∧ (s.setReg k v).cru = s.cru ∧ (s.setReg k v).copper = s.copper ∧
    (s.setReg k v).assigned = s.assigned ∧ (s.setReg k v).disc = s.disc ∧ (s.setReg k v).img = s.img ∧
    (s.setReg k v).mirror = s.mirror ∧ (s.setReg k v).hist = s.hist ∧ (s.setReg k v).time = s.time ∧
    (s.setReg k v).timers = s.timers ∧ (s.setReg k v).captures = s.captures ∧ (s.setReg k v).queues = s.queues ∧
    (s.setReg k v).busReads = s.busReads ∧ (s.setReg k v).lines = s.lines ∧ (s.setReg k v).pxs = s.pxs ∧
    (s.setReg k v).cans = s.cans ∧ (s.setReg k v).rss = s.rss ∧ (s.setReg k v).rsSent = s.rsSent ∧
    (s.setReg k v).bridges = s.bridges ∧ (s.setReg k v).iols = s.iols ∧ (s.setReg k v).whisks = s.whisks ∧
    (s.setReg k v).sw = s.sw ∧ (s.setReg k v).bar0 = s.bar0 ∧ (s.setReg k v).host = s.host ∧ (s.setReg k v).dict = s.dict ∧
    (s.setReg k v).recordsIn = s.recordsIn ∧ (s.setReg k v).fences = s.fences ∧ (s.setReg k v).fenceOrder = s.fenceOrder ∧
    (s.setReg k v).writeSentAt = s.writeSentAt ∧ (s.setReg k v).writeHeld = s.writeHeld ∧
    (s.setReg k v).peerReady = s.peerReady ∧ (s.setReg k v).handInstant = s.handInstant ∧ (s.setReg k v).twin = s.twin ∧
    (s.setReg k v).pertCount = s.pertCount ∧ (s.setReg k v).pertEnds = s.pertEnds ∧ (s.setReg k v).rules = s.rules ∧
    (s.setReg k v).gaugeLog = s.gaugeLog ∧ (s.setReg k v).gaugeIn = s.gaugeIn ∧ (s.setReg k v).pans = s.pans ∧
    (s.setReg k v).fuses = s.fuses ∧ (s.setReg k v).power = s.power ∧ (s.setReg k v).tagHeld = s.tagHeld ∧
    (s.setReg k v).keys = s.keys ∧ (s.setReg k v).boot = s.boot ∧ (s.setReg k v).uartSent = s.uartSent ∧
    (s.setReg k v).jtag = s.jtag ∧ (s.setReg k v).pending = s.pending := by
  refine ⟨rfl, rfl, rfl, rfl, rfl, rfl, rfl, rfl, rfl, rfl, rfl, rfl, rfl, rfl, rfl, rfl, rfl, rfl, rfl, rfl, rfl, rfl, rfl, rfl, rfl, rfl, rfl, rfl, rfl, rfl, rfl, rfl, rfl, rfl, rfl, rfl, rfl, rfl, rfl, rfl, rfl, rfl, rfl, rfl, rfl, rfl, rfl, rfl, rfl, rfl, rfl, rfl, rfl, rfl, rfl, rfl, rfl, rfl, rfl, rfl, rfl, rfl, rfl, rfl, rfl, rfl, rfl, rfl, rfl, rfl, rfl, rfl, rfl, rfl, rfl, rfl, rfl⟩

@[simp] theorem State.setReg_readers (s : State) (k v : Nat) :
    (s.setReg k v).count = s.count ∧ (s.setReg k v).rejections = s.rejections ∧ (s.setReg k v).link = s.link ∧
    (s.setReg k v).port = s.port ∧ (s.setReg k v).rule = s.rule ∧ (s.setReg k v).src = s.src ∧ (s.setReg k v).bar = s.bar ∧
    (s.setReg k v).whisk = s.whisk ∧ (s.setReg k v).flt = s.flt ∧ (s.setReg k v).line = s.line ∧ (s.setReg k v).px = s.px ∧
    (s.setReg k v).can = s.can ∧ (s.setReg k v).fence = s.fence ∧ (s.setReg k v).ring = s.ring ∧
    (s.setReg k v).bar4 = s.bar4 ∧ (s.setReg k v).iol = s.iol ∧ (s.setReg k v).dup = s.dup ∧ (s.setReg k v).pan = s.pan ∧
    (s.setReg k v).fuse = s.fuse ∧ (s.setReg k v).queue = s.queue ∧ (s.setReg k v).rs = s.rs ∧
    (s.setReg k v).bridge = s.bridge ∧ (s.setReg k v).timer = s.timer ∧ (s.setReg k v).capture = s.capture ∧
    (s.setReg k v).pd = s.pd ∧ (s.setReg k v).tun = s.tun ∧ (s.setReg k v).swq = s.swq ∧ (s.setReg k v).meter = s.meter ∧
    (s.setReg k v).gatePending = s.gatePending ∧ (s.setReg k v).announce = s.announce ∧
    (s.setReg k v).mailbox = s.mailbox := by
  refine ⟨rfl, rfl, rfl, rfl, rfl, rfl, rfl, rfl, rfl, rfl, rfl, rfl, rfl, rfl, rfl, rfl, rfl, rfl, rfl, rfl, rfl, rfl, rfl, rfl, rfl, rfl, rfl, rfl, rfl, rfl, rfl⟩

@[simp] theorem State.setCount_fields (s : State) (k v : Nat) :
    (s.setCount k v).run = s.run ∧ (s.setCount k v).clock = s.clock ∧ (s.setCount k v).ftimeQ = s.ftimeQ ∧
    (s.setCount k v).straps = s.straps ∧ (s.setCount k v).resetCause = s.resetCause ∧ (s.setCount k v).regs = s.regs ∧
    (s.setCount k v).rejects = s.rejects ∧ (s.setCount k v).free = s.free ∧ (s.setCount k v).hub = s.hub ∧
    (s.setCount k v).answers = s.answers ∧ (s.setCount k v).role = s.role ∧ (s.setCount k v).links = s.links ∧
    (s.setCount k v).tx = s.tx ∧ (s.setCount k v).ingress = s.ingress ∧ (s.setCount k v).sent = s.sent ∧
    (s.setCount k v).inbox = s.inbox ∧ (s.setCount k v).landing = s.landing ∧ (s.setCount k v).seqNext = s.seqNext ∧
    (s.setCount k v).origTimes = s.origTimes ∧ (s.setCount k v).origHeld = s.origHeld ∧ (s.setCount k v).dups = s.dups ∧
    (s.setCount k v).tie = s.tie ∧ (s.setCount k v).settleEnds = s.settleEnds ∧ (s.setCount k v).field = s.field ∧
    (s.setCount k v).healthAt = s.healthAt ∧ (s.setCount k v).sources = s.sources ∧ (s.setCount k v).records = s.records ∧
    (s.setCount k v).recordLoss = s.recordLoss ∧ (s.setCount k v).deliveries = s.deliveries ∧
    (s.setCount k v).msix = s.msix ∧ (s.setCount k v).faults = s.faults ∧ (s.setCount k v).cru = s.cru ∧
    (s.setCount k v).copper = s.copper ∧ (s.setCount k v).assigned = s.assigned ∧ (s.setCount k v).disc = s.disc ∧
    (s.setCount k v).img = s.img ∧ (s.setCount k v).mirror = s.mirror ∧ (s.setCount k v).hist = s.hist ∧
    (s.setCount k v).time = s.time ∧ (s.setCount k v).timers = s.timers ∧ (s.setCount k v).captures = s.captures ∧
    (s.setCount k v).queues = s.queues ∧ (s.setCount k v).busReads = s.busReads ∧ (s.setCount k v).lines = s.lines ∧
    (s.setCount k v).pxs = s.pxs ∧ (s.setCount k v).cans = s.cans ∧ (s.setCount k v).rss = s.rss ∧
    (s.setCount k v).rsSent = s.rsSent ∧ (s.setCount k v).bridges = s.bridges ∧ (s.setCount k v).iols = s.iols ∧
    (s.setCount k v).whisks = s.whisks ∧ (s.setCount k v).sw = s.sw ∧ (s.setCount k v).bar0 = s.bar0 ∧
    (s.setCount k v).host = s.host ∧ (s.setCount k v).dict = s.dict ∧ (s.setCount k v).recordsIn = s.recordsIn ∧
    (s.setCount k v).fences = s.fences ∧ (s.setCount k v).fenceOrder = s.fenceOrder ∧
    (s.setCount k v).writeSentAt = s.writeSentAt ∧ (s.setCount k v).writeHeld = s.writeHeld ∧
    (s.setCount k v).peerReady = s.peerReady ∧ (s.setCount k v).handInstant = s.handInstant ∧
    (s.setCount k v).twin = s.twin ∧ (s.setCount k v).pertCount = s.pertCount ∧ (s.setCount k v).pertEnds = s.pertEnds ∧
    (s.setCount k v).rules = s.rules ∧ (s.setCount k v).gaugeLog = s.gaugeLog ∧ (s.setCount k v).gaugeIn = s.gaugeIn ∧
    (s.setCount k v).pans = s.pans ∧ (s.setCount k v).fuses = s.fuses ∧ (s.setCount k v).power = s.power ∧
    (s.setCount k v).tagHeld = s.tagHeld ∧ (s.setCount k v).keys = s.keys ∧ (s.setCount k v).boot = s.boot ∧
    (s.setCount k v).uartSent = s.uartSent ∧ (s.setCount k v).jtag = s.jtag ∧ (s.setCount k v).pending = s.pending := by
  refine ⟨rfl, rfl, rfl, rfl, rfl, rfl, rfl, rfl, rfl, rfl, rfl, rfl, rfl, rfl, rfl, rfl, rfl, rfl, rfl, rfl, rfl, rfl, rfl, rfl, rfl, rfl, rfl, rfl, rfl, rfl, rfl, rfl, rfl, rfl, rfl, rfl, rfl, rfl, rfl, rfl, rfl, rfl, rfl, rfl, rfl, rfl, rfl, rfl, rfl, rfl, rfl, rfl, rfl, rfl, rfl, rfl, rfl, rfl, rfl, rfl, rfl, rfl, rfl, rfl, rfl, rfl, rfl, rfl, rfl, rfl, rfl, rfl, rfl, rfl, rfl, rfl, rfl⟩

@[simp] theorem State.setCount_readers (s : State) (k v : Nat) :
    (s.setCount k v).reg = s.reg ∧ (s.setCount k v).rejections = s.rejections ∧ (s.setCount k v).link = s.link ∧
    (s.setCount k v).port = s.port ∧ (s.setCount k v).rule = s.rule ∧ (s.setCount k v).src = s.src ∧
    (s.setCount k v).bar = s.bar ∧ (s.setCount k v).whisk = s.whisk ∧ (s.setCount k v).flt = s.flt ∧
    (s.setCount k v).line = s.line ∧ (s.setCount k v).px = s.px ∧ (s.setCount k v).can = s.can ∧
    (s.setCount k v).fence = s.fence ∧ (s.setCount k v).ring = s.ring ∧ (s.setCount k v).bar4 = s.bar4 ∧
    (s.setCount k v).iol = s.iol ∧ (s.setCount k v).dup = s.dup ∧ (s.setCount k v).pan = s.pan ∧
    (s.setCount k v).fuse = s.fuse ∧ (s.setCount k v).queue = s.queue ∧ (s.setCount k v).rs = s.rs ∧
    (s.setCount k v).bridge = s.bridge ∧ (s.setCount k v).timer = s.timer ∧ (s.setCount k v).capture = s.capture ∧
    (s.setCount k v).pd = s.pd ∧ (s.setCount k v).tun = s.tun ∧ (s.setCount k v).swq = s.swq ∧
    (s.setCount k v).meter = s.meter ∧ (s.setCount k v).gatePending = s.gatePending ∧
    (s.setCount k v).announce = s.announce ∧ (s.setCount k v).mailbox = s.mailbox := by
  refine ⟨rfl, rfl, rfl, rfl, rfl, rfl, rfl, rfl, rfl, rfl, rfl, rfl, rfl, rfl, rfl, rfl, rfl, rfl, rfl, rfl, rfl, rfl, rfl, rfl, rfl, rfl, rfl, rfl, rfl, rfl, rfl⟩

@[simp] theorem State.addCount_fields (s : State) (k n : Nat) :
    (s.addCount k n).run = s.run ∧ (s.addCount k n).clock = s.clock ∧ (s.addCount k n).ftimeQ = s.ftimeQ ∧
    (s.addCount k n).straps = s.straps ∧ (s.addCount k n).resetCause = s.resetCause ∧ (s.addCount k n).regs = s.regs ∧
    (s.addCount k n).rejects = s.rejects ∧ (s.addCount k n).free = s.free ∧ (s.addCount k n).hub = s.hub ∧
    (s.addCount k n).answers = s.answers ∧ (s.addCount k n).role = s.role ∧ (s.addCount k n).links = s.links ∧
    (s.addCount k n).tx = s.tx ∧ (s.addCount k n).ingress = s.ingress ∧ (s.addCount k n).sent = s.sent ∧
    (s.addCount k n).inbox = s.inbox ∧ (s.addCount k n).landing = s.landing ∧ (s.addCount k n).seqNext = s.seqNext ∧
    (s.addCount k n).origTimes = s.origTimes ∧ (s.addCount k n).origHeld = s.origHeld ∧ (s.addCount k n).dups = s.dups ∧
    (s.addCount k n).tie = s.tie ∧ (s.addCount k n).settleEnds = s.settleEnds ∧ (s.addCount k n).field = s.field ∧
    (s.addCount k n).healthAt = s.healthAt ∧ (s.addCount k n).sources = s.sources ∧ (s.addCount k n).records = s.records ∧
    (s.addCount k n).recordLoss = s.recordLoss ∧ (s.addCount k n).deliveries = s.deliveries ∧
    (s.addCount k n).msix = s.msix ∧ (s.addCount k n).faults = s.faults ∧ (s.addCount k n).cru = s.cru ∧
    (s.addCount k n).copper = s.copper ∧ (s.addCount k n).assigned = s.assigned ∧ (s.addCount k n).disc = s.disc ∧
    (s.addCount k n).img = s.img ∧ (s.addCount k n).mirror = s.mirror ∧ (s.addCount k n).hist = s.hist ∧
    (s.addCount k n).time = s.time ∧ (s.addCount k n).timers = s.timers ∧ (s.addCount k n).captures = s.captures ∧
    (s.addCount k n).queues = s.queues ∧ (s.addCount k n).busReads = s.busReads ∧ (s.addCount k n).lines = s.lines ∧
    (s.addCount k n).pxs = s.pxs ∧ (s.addCount k n).cans = s.cans ∧ (s.addCount k n).rss = s.rss ∧
    (s.addCount k n).rsSent = s.rsSent ∧ (s.addCount k n).bridges = s.bridges ∧ (s.addCount k n).iols = s.iols ∧
    (s.addCount k n).whisks = s.whisks ∧ (s.addCount k n).sw = s.sw ∧ (s.addCount k n).bar0 = s.bar0 ∧
    (s.addCount k n).host = s.host ∧ (s.addCount k n).dict = s.dict ∧ (s.addCount k n).recordsIn = s.recordsIn ∧
    (s.addCount k n).fences = s.fences ∧ (s.addCount k n).fenceOrder = s.fenceOrder ∧
    (s.addCount k n).writeSentAt = s.writeSentAt ∧ (s.addCount k n).writeHeld = s.writeHeld ∧
    (s.addCount k n).peerReady = s.peerReady ∧ (s.addCount k n).handInstant = s.handInstant ∧
    (s.addCount k n).twin = s.twin ∧ (s.addCount k n).pertCount = s.pertCount ∧ (s.addCount k n).pertEnds = s.pertEnds ∧
    (s.addCount k n).rules = s.rules ∧ (s.addCount k n).gaugeLog = s.gaugeLog ∧ (s.addCount k n).gaugeIn = s.gaugeIn ∧
    (s.addCount k n).pans = s.pans ∧ (s.addCount k n).fuses = s.fuses ∧ (s.addCount k n).power = s.power ∧
    (s.addCount k n).tagHeld = s.tagHeld ∧ (s.addCount k n).keys = s.keys ∧ (s.addCount k n).boot = s.boot ∧
    (s.addCount k n).uartSent = s.uartSent ∧ (s.addCount k n).jtag = s.jtag ∧ (s.addCount k n).pending = s.pending := by
  refine ⟨rfl, rfl, rfl, rfl, rfl, rfl, rfl, rfl, rfl, rfl, rfl, rfl, rfl, rfl, rfl, rfl, rfl, rfl, rfl, rfl, rfl, rfl, rfl, rfl, rfl, rfl, rfl, rfl, rfl, rfl, rfl, rfl, rfl, rfl, rfl, rfl, rfl, rfl, rfl, rfl, rfl, rfl, rfl, rfl, rfl, rfl, rfl, rfl, rfl, rfl, rfl, rfl, rfl, rfl, rfl, rfl, rfl, rfl, rfl, rfl, rfl, rfl, rfl, rfl, rfl, rfl, rfl, rfl, rfl, rfl, rfl, rfl, rfl, rfl, rfl, rfl, rfl⟩

@[simp] theorem State.addCount_readers (s : State) (k n : Nat) :
    (s.addCount k n).reg = s.reg ∧ (s.addCount k n).rejections = s.rejections ∧ (s.addCount k n).link = s.link ∧
    (s.addCount k n).port = s.port ∧ (s.addCount k n).rule = s.rule ∧ (s.addCount k n).src = s.src ∧
    (s.addCount k n).bar = s.bar ∧ (s.addCount k n).whisk = s.whisk ∧ (s.addCount k n).flt = s.flt ∧
    (s.addCount k n).line = s.line ∧ (s.addCount k n).px = s.px ∧ (s.addCount k n).can = s.can ∧
    (s.addCount k n).fence = s.fence ∧ (s.addCount k n).ring = s.ring ∧ (s.addCount k n).bar4 = s.bar4 ∧
    (s.addCount k n).iol = s.iol ∧ (s.addCount k n).dup = s.dup ∧ (s.addCount k n).pan = s.pan ∧
    (s.addCount k n).fuse = s.fuse ∧ (s.addCount k n).queue = s.queue ∧ (s.addCount k n).rs = s.rs ∧
    (s.addCount k n).bridge = s.bridge ∧ (s.addCount k n).timer = s.timer ∧ (s.addCount k n).capture = s.capture ∧
    (s.addCount k n).pd = s.pd ∧ (s.addCount k n).tun = s.tun ∧ (s.addCount k n).swq = s.swq ∧
    (s.addCount k n).meter = s.meter ∧ (s.addCount k n).gatePending = s.gatePending ∧
    (s.addCount k n).announce = s.announce ∧ (s.addCount k n).mailbox = s.mailbox := by
  refine ⟨rfl, rfl, rfl, rfl, rfl, rfl, rfl, rfl, rfl, rfl, rfl, rfl, rfl, rfl, rfl, rfl, rfl, rfl, rfl, rfl, rfl, rfl, rfl, rfl, rfl, rfl, rfl, rfl, rfl, rfl, rfl⟩

@[simp] theorem State.bump_fields (s : State) (k : Nat) :
    (s.bump k).run = s.run ∧ (s.bump k).clock = s.clock ∧ (s.bump k).ftimeQ = s.ftimeQ ∧ (s.bump k).straps = s.straps ∧
    (s.bump k).resetCause = s.resetCause ∧ (s.bump k).regs = s.regs ∧ (s.bump k).rejects = s.rejects ∧
    (s.bump k).free = s.free ∧ (s.bump k).hub = s.hub ∧ (s.bump k).answers = s.answers ∧ (s.bump k).role = s.role ∧
    (s.bump k).links = s.links ∧ (s.bump k).tx = s.tx ∧ (s.bump k).ingress = s.ingress ∧ (s.bump k).sent = s.sent ∧
    (s.bump k).inbox = s.inbox ∧ (s.bump k).landing = s.landing ∧ (s.bump k).seqNext = s.seqNext ∧
    (s.bump k).origTimes = s.origTimes ∧ (s.bump k).origHeld = s.origHeld ∧ (s.bump k).dups = s.dups ∧
    (s.bump k).tie = s.tie ∧ (s.bump k).settleEnds = s.settleEnds ∧ (s.bump k).field = s.field ∧
    (s.bump k).healthAt = s.healthAt ∧ (s.bump k).sources = s.sources ∧ (s.bump k).records = s.records ∧
    (s.bump k).recordLoss = s.recordLoss ∧ (s.bump k).deliveries = s.deliveries ∧ (s.bump k).msix = s.msix ∧
    (s.bump k).faults = s.faults ∧ (s.bump k).cru = s.cru ∧ (s.bump k).copper = s.copper ∧
    (s.bump k).assigned = s.assigned ∧ (s.bump k).disc = s.disc ∧ (s.bump k).img = s.img ∧ (s.bump k).mirror = s.mirror ∧
    (s.bump k).hist = s.hist ∧ (s.bump k).time = s.time ∧ (s.bump k).timers = s.timers ∧ (s.bump k).captures = s.captures ∧
    (s.bump k).queues = s.queues ∧ (s.bump k).busReads = s.busReads ∧ (s.bump k).lines = s.lines ∧ (s.bump k).pxs = s.pxs ∧
    (s.bump k).cans = s.cans ∧ (s.bump k).rss = s.rss ∧ (s.bump k).rsSent = s.rsSent ∧ (s.bump k).bridges = s.bridges ∧
    (s.bump k).iols = s.iols ∧ (s.bump k).whisks = s.whisks ∧ (s.bump k).sw = s.sw ∧ (s.bump k).bar0 = s.bar0 ∧
    (s.bump k).host = s.host ∧ (s.bump k).dict = s.dict ∧ (s.bump k).recordsIn = s.recordsIn ∧
    (s.bump k).fences = s.fences ∧ (s.bump k).fenceOrder = s.fenceOrder ∧ (s.bump k).writeSentAt = s.writeSentAt ∧
    (s.bump k).writeHeld = s.writeHeld ∧ (s.bump k).peerReady = s.peerReady ∧ (s.bump k).handInstant = s.handInstant ∧
    (s.bump k).twin = s.twin ∧ (s.bump k).pertCount = s.pertCount ∧ (s.bump k).pertEnds = s.pertEnds ∧
    (s.bump k).rules = s.rules ∧ (s.bump k).gaugeLog = s.gaugeLog ∧ (s.bump k).gaugeIn = s.gaugeIn ∧
    (s.bump k).pans = s.pans ∧ (s.bump k).fuses = s.fuses ∧ (s.bump k).power = s.power ∧ (s.bump k).tagHeld = s.tagHeld ∧
    (s.bump k).keys = s.keys ∧ (s.bump k).boot = s.boot ∧ (s.bump k).uartSent = s.uartSent ∧ (s.bump k).jtag = s.jtag ∧
    (s.bump k).pending = s.pending := by
  refine ⟨rfl, rfl, rfl, rfl, rfl, rfl, rfl, rfl, rfl, rfl, rfl, rfl, rfl, rfl, rfl, rfl, rfl, rfl, rfl, rfl, rfl, rfl, rfl, rfl, rfl, rfl, rfl, rfl, rfl, rfl, rfl, rfl, rfl, rfl, rfl, rfl, rfl, rfl, rfl, rfl, rfl, rfl, rfl, rfl, rfl, rfl, rfl, rfl, rfl, rfl, rfl, rfl, rfl, rfl, rfl, rfl, rfl, rfl, rfl, rfl, rfl, rfl, rfl, rfl, rfl, rfl, rfl, rfl, rfl, rfl, rfl, rfl, rfl, rfl, rfl, rfl, rfl⟩

@[simp] theorem State.bump_readers (s : State) (k : Nat) :
    (s.bump k).reg = s.reg ∧ (s.bump k).rejections = s.rejections ∧ (s.bump k).link = s.link ∧ (s.bump k).port = s.port ∧
    (s.bump k).rule = s.rule ∧ (s.bump k).src = s.src ∧ (s.bump k).bar = s.bar ∧ (s.bump k).whisk = s.whisk ∧
    (s.bump k).flt = s.flt ∧ (s.bump k).line = s.line ∧ (s.bump k).px = s.px ∧ (s.bump k).can = s.can ∧
    (s.bump k).fence = s.fence ∧ (s.bump k).ring = s.ring ∧ (s.bump k).bar4 = s.bar4 ∧ (s.bump k).iol = s.iol ∧
    (s.bump k).dup = s.dup ∧ (s.bump k).pan = s.pan ∧ (s.bump k).fuse = s.fuse ∧ (s.bump k).queue = s.queue ∧
    (s.bump k).rs = s.rs ∧ (s.bump k).bridge = s.bridge ∧ (s.bump k).timer = s.timer ∧ (s.bump k).capture = s.capture ∧
    (s.bump k).pd = s.pd ∧ (s.bump k).tun = s.tun ∧ (s.bump k).swq = s.swq ∧ (s.bump k).meter = s.meter ∧
    (s.bump k).gatePending = s.gatePending ∧ (s.bump k).announce = s.announce ∧ (s.bump k).mailbox = s.mailbox := by
  refine ⟨rfl, rfl, rfl, rfl, rfl, rfl, rfl, rfl, rfl, rfl, rfl, rfl, rfl, rfl, rfl, rfl, rfl, rfl, rfl, rfl, rfl, rfl, rfl, rfl, rfl, rfl, rfl, rfl, rfl, rfl, rfl⟩

@[simp] theorem State.clearIndex_fields (s : State) (i : Nat) :
    (s.clearIndex i).run = s.run ∧ (s.clearIndex i).clock = s.clock ∧ (s.clearIndex i).ftimeQ = s.ftimeQ ∧
    (s.clearIndex i).straps = s.straps ∧ (s.clearIndex i).resetCause = s.resetCause ∧ (s.clearIndex i).regs = s.regs ∧
    (s.clearIndex i).rejects = s.rejects ∧ (s.clearIndex i).free = s.free ∧ (s.clearIndex i).hub = s.hub ∧
    (s.clearIndex i).answers = s.answers ∧ (s.clearIndex i).role = s.role ∧ (s.clearIndex i).links = s.links ∧
    (s.clearIndex i).tx = s.tx ∧ (s.clearIndex i).ingress = s.ingress ∧ (s.clearIndex i).sent = s.sent ∧
    (s.clearIndex i).inbox = s.inbox ∧ (s.clearIndex i).landing = s.landing ∧ (s.clearIndex i).seqNext = s.seqNext ∧
    (s.clearIndex i).origTimes = s.origTimes ∧ (s.clearIndex i).origHeld = s.origHeld ∧ (s.clearIndex i).dups = s.dups ∧
    (s.clearIndex i).tie = s.tie ∧ (s.clearIndex i).settleEnds = s.settleEnds ∧ (s.clearIndex i).field = s.field ∧
    (s.clearIndex i).healthAt = s.healthAt ∧ (s.clearIndex i).sources = s.sources ∧ (s.clearIndex i).records = s.records ∧
    (s.clearIndex i).recordLoss = s.recordLoss ∧ (s.clearIndex i).deliveries = s.deliveries ∧
    (s.clearIndex i).msix = s.msix ∧ (s.clearIndex i).faults = s.faults ∧ (s.clearIndex i).cru = s.cru ∧
    (s.clearIndex i).copper = s.copper ∧ (s.clearIndex i).assigned = s.assigned ∧ (s.clearIndex i).disc = s.disc ∧
    (s.clearIndex i).img = s.img ∧ (s.clearIndex i).mirror = s.mirror ∧ (s.clearIndex i).hist = s.hist ∧
    (s.clearIndex i).time = s.time ∧ (s.clearIndex i).timers = s.timers ∧ (s.clearIndex i).captures = s.captures ∧
    (s.clearIndex i).queues = s.queues ∧ (s.clearIndex i).busReads = s.busReads ∧ (s.clearIndex i).lines = s.lines ∧
    (s.clearIndex i).pxs = s.pxs ∧ (s.clearIndex i).cans = s.cans ∧ (s.clearIndex i).rss = s.rss ∧
    (s.clearIndex i).rsSent = s.rsSent ∧ (s.clearIndex i).bridges = s.bridges ∧ (s.clearIndex i).iols = s.iols ∧
    (s.clearIndex i).whisks = s.whisks ∧ (s.clearIndex i).sw = s.sw ∧ (s.clearIndex i).bar0 = s.bar0 ∧
    (s.clearIndex i).host = s.host ∧ (s.clearIndex i).dict = s.dict ∧ (s.clearIndex i).recordsIn = s.recordsIn ∧
    (s.clearIndex i).fences = s.fences ∧ (s.clearIndex i).fenceOrder = s.fenceOrder ∧
    (s.clearIndex i).writeSentAt = s.writeSentAt ∧ (s.clearIndex i).writeHeld = s.writeHeld ∧
    (s.clearIndex i).peerReady = s.peerReady ∧ (s.clearIndex i).handInstant = s.handInstant ∧
    (s.clearIndex i).twin = s.twin ∧ (s.clearIndex i).pertCount = s.pertCount ∧ (s.clearIndex i).pertEnds = s.pertEnds ∧
    (s.clearIndex i).rules = s.rules ∧ (s.clearIndex i).gaugeLog = s.gaugeLog ∧ (s.clearIndex i).gaugeIn = s.gaugeIn ∧
    (s.clearIndex i).pans = s.pans ∧ (s.clearIndex i).fuses = s.fuses ∧ (s.clearIndex i).power = s.power ∧
    (s.clearIndex i).tagHeld = s.tagHeld ∧ (s.clearIndex i).keys = s.keys ∧ (s.clearIndex i).boot = s.boot ∧
    (s.clearIndex i).uartSent = s.uartSent ∧ (s.clearIndex i).jtag = s.jtag ∧ (s.clearIndex i).pending = s.pending := by
  refine ⟨rfl, rfl, rfl, rfl, rfl, rfl, rfl, rfl, rfl, rfl, rfl, rfl, rfl, rfl, rfl, rfl, rfl, rfl, rfl, rfl, rfl, rfl, rfl, rfl, rfl, rfl, rfl, rfl, rfl, rfl, rfl, rfl, rfl, rfl, rfl, rfl, rfl, rfl, rfl, rfl, rfl, rfl, rfl, rfl, rfl, rfl, rfl, rfl, rfl, rfl, rfl, rfl, rfl, rfl, rfl, rfl, rfl, rfl, rfl, rfl, rfl, rfl, rfl, rfl, rfl, rfl, rfl, rfl, rfl, rfl, rfl, rfl, rfl, rfl, rfl, rfl, rfl⟩

@[simp] theorem State.clearIndex_readers (s : State) (i : Nat) :
    (s.clearIndex i).reg = s.reg ∧ (s.clearIndex i).rejections = s.rejections ∧ (s.clearIndex i).link = s.link ∧
    (s.clearIndex i).port = s.port ∧ (s.clearIndex i).rule = s.rule ∧ (s.clearIndex i).src = s.src ∧
    (s.clearIndex i).bar = s.bar ∧ (s.clearIndex i).whisk = s.whisk ∧ (s.clearIndex i).flt = s.flt ∧
    (s.clearIndex i).line = s.line ∧ (s.clearIndex i).px = s.px ∧ (s.clearIndex i).can = s.can ∧
    (s.clearIndex i).fence = s.fence ∧ (s.clearIndex i).ring = s.ring ∧ (s.clearIndex i).bar4 = s.bar4 ∧
    (s.clearIndex i).iol = s.iol ∧ (s.clearIndex i).dup = s.dup ∧ (s.clearIndex i).pan = s.pan ∧
    (s.clearIndex i).fuse = s.fuse ∧ (s.clearIndex i).queue = s.queue ∧ (s.clearIndex i).rs = s.rs ∧
    (s.clearIndex i).bridge = s.bridge ∧ (s.clearIndex i).timer = s.timer ∧ (s.clearIndex i).capture = s.capture ∧
    (s.clearIndex i).pd = s.pd ∧ (s.clearIndex i).tun = s.tun ∧ (s.clearIndex i).swq = s.swq ∧
    (s.clearIndex i).meter = s.meter ∧ (s.clearIndex i).gatePending = s.gatePending ∧
    (s.clearIndex i).announce = s.announce ∧ (s.clearIndex i).mailbox = s.mailbox := by
  refine ⟨rfl, rfl, rfl, rfl, rfl, rfl, rfl, rfl, rfl, rfl, rfl, rfl, rfl, rfl, rfl, rfl, rfl, rfl, rfl, rfl, rfl, rfl, rfl, rfl, rfl, rfl, rfl, rfl, rfl, rfl, rfl⟩

@[simp] theorem State.setLink_fields (s : State) (f : Nat) (g : LinkSt → LinkSt) :
    (s.setLink f g).run = s.run ∧ (s.setLink f g).clock = s.clock ∧ (s.setLink f g).ftimeQ = s.ftimeQ ∧
    (s.setLink f g).straps = s.straps ∧ (s.setLink f g).resetCause = s.resetCause ∧ (s.setLink f g).regs = s.regs ∧
    (s.setLink f g).cnt = s.cnt ∧ (s.setLink f g).rejects = s.rejects ∧ (s.setLink f g).free = s.free ∧
    (s.setLink f g).hub = s.hub ∧ (s.setLink f g).answers = s.answers ∧ (s.setLink f g).role = s.role ∧
    (s.setLink f g).tx = s.tx ∧ (s.setLink f g).ingress = s.ingress ∧ (s.setLink f g).sent = s.sent ∧
    (s.setLink f g).inbox = s.inbox ∧ (s.setLink f g).landing = s.landing ∧ (s.setLink f g).seqNext = s.seqNext ∧
    (s.setLink f g).origTimes = s.origTimes ∧ (s.setLink f g).origHeld = s.origHeld ∧ (s.setLink f g).dups = s.dups ∧
    (s.setLink f g).tie = s.tie ∧ (s.setLink f g).settleEnds = s.settleEnds ∧ (s.setLink f g).field = s.field ∧
    (s.setLink f g).healthAt = s.healthAt ∧ (s.setLink f g).sources = s.sources ∧ (s.setLink f g).records = s.records ∧
    (s.setLink f g).recordLoss = s.recordLoss ∧ (s.setLink f g).deliveries = s.deliveries ∧ (s.setLink f g).msix = s.msix ∧
    (s.setLink f g).faults = s.faults ∧ (s.setLink f g).cru = s.cru ∧ (s.setLink f g).copper = s.copper ∧
    (s.setLink f g).assigned = s.assigned ∧ (s.setLink f g).disc = s.disc ∧ (s.setLink f g).img = s.img ∧
    (s.setLink f g).mirror = s.mirror ∧ (s.setLink f g).hist = s.hist ∧ (s.setLink f g).time = s.time ∧
    (s.setLink f g).timers = s.timers ∧ (s.setLink f g).captures = s.captures ∧ (s.setLink f g).queues = s.queues ∧
    (s.setLink f g).busReads = s.busReads ∧ (s.setLink f g).lines = s.lines ∧ (s.setLink f g).pxs = s.pxs ∧
    (s.setLink f g).cans = s.cans ∧ (s.setLink f g).rss = s.rss ∧ (s.setLink f g).rsSent = s.rsSent ∧
    (s.setLink f g).bridges = s.bridges ∧ (s.setLink f g).iols = s.iols ∧ (s.setLink f g).whisks = s.whisks ∧
    (s.setLink f g).sw = s.sw ∧ (s.setLink f g).bar0 = s.bar0 ∧ (s.setLink f g).host = s.host ∧
    (s.setLink f g).dict = s.dict ∧ (s.setLink f g).recordsIn = s.recordsIn ∧ (s.setLink f g).fences = s.fences ∧
    (s.setLink f g).fenceOrder = s.fenceOrder ∧ (s.setLink f g).writeSentAt = s.writeSentAt ∧
    (s.setLink f g).writeHeld = s.writeHeld ∧ (s.setLink f g).peerReady = s.peerReady ∧
    (s.setLink f g).handInstant = s.handInstant ∧ (s.setLink f g).twin = s.twin ∧ (s.setLink f g).pertCount = s.pertCount ∧
    (s.setLink f g).pertEnds = s.pertEnds ∧ (s.setLink f g).rules = s.rules ∧ (s.setLink f g).gaugeLog = s.gaugeLog ∧
    (s.setLink f g).gaugeIn = s.gaugeIn ∧ (s.setLink f g).pans = s.pans ∧ (s.setLink f g).fuses = s.fuses ∧
    (s.setLink f g).power = s.power ∧ (s.setLink f g).tagHeld = s.tagHeld ∧ (s.setLink f g).keys = s.keys ∧
    (s.setLink f g).boot = s.boot ∧ (s.setLink f g).uartSent = s.uartSent ∧ (s.setLink f g).jtag = s.jtag ∧
    (s.setLink f g).pending = s.pending := by
  refine ⟨rfl, rfl, rfl, rfl, rfl, rfl, rfl, rfl, rfl, rfl, rfl, rfl, rfl, rfl, rfl, rfl, rfl, rfl, rfl, rfl, rfl, rfl, rfl, rfl, rfl, rfl, rfl, rfl, rfl, rfl, rfl, rfl, rfl, rfl, rfl, rfl, rfl, rfl, rfl, rfl, rfl, rfl, rfl, rfl, rfl, rfl, rfl, rfl, rfl, rfl, rfl, rfl, rfl, rfl, rfl, rfl, rfl, rfl, rfl, rfl, rfl, rfl, rfl, rfl, rfl, rfl, rfl, rfl, rfl, rfl, rfl, rfl, rfl, rfl, rfl, rfl, rfl⟩

@[simp] theorem State.setLink_readers (s : State) (f : Nat) (g : LinkSt → LinkSt) :
    (s.setLink f g).reg = s.reg ∧ (s.setLink f g).count = s.count ∧ (s.setLink f g).rejections = s.rejections ∧
    (s.setLink f g).port = s.port ∧ (s.setLink f g).rule = s.rule ∧ (s.setLink f g).src = s.src ∧
    (s.setLink f g).bar = s.bar ∧ (s.setLink f g).whisk = s.whisk ∧ (s.setLink f g).flt = s.flt ∧
    (s.setLink f g).line = s.line ∧ (s.setLink f g).px = s.px ∧ (s.setLink f g).can = s.can ∧
    (s.setLink f g).fence = s.fence ∧ (s.setLink f g).ring = s.ring ∧ (s.setLink f g).bar4 = s.bar4 ∧
    (s.setLink f g).iol = s.iol ∧ (s.setLink f g).dup = s.dup ∧ (s.setLink f g).pan = s.pan ∧
    (s.setLink f g).fuse = s.fuse ∧ (s.setLink f g).queue = s.queue ∧ (s.setLink f g).rs = s.rs ∧
    (s.setLink f g).bridge = s.bridge ∧ (s.setLink f g).timer = s.timer ∧ (s.setLink f g).capture = s.capture ∧
    (s.setLink f g).pd = s.pd ∧ (s.setLink f g).tun = s.tun ∧ (s.setLink f g).swq = s.swq ∧
    (s.setLink f g).meter = s.meter ∧ (s.setLink f g).gatePending = s.gatePending ∧ (s.setLink f g).announce = s.announce ∧
    (s.setLink f g).mailbox = s.mailbox := by
  refine ⟨rfl, rfl, rfl, rfl, rfl, rfl, rfl, rfl, rfl, rfl, rfl, rfl, rfl, rfl, rfl, rfl, rfl, rfl, rfl, rfl, rfl, rfl, rfl, rfl, rfl, rfl, rfl, rfl, rfl, rfl, rfl⟩

@[simp] theorem State.setPort_fields (s : State) (f : Nat) (p : PortTx) :
    (s.setPort f p).run = s.run ∧ (s.setPort f p).clock = s.clock ∧ (s.setPort f p).ftimeQ = s.ftimeQ ∧
    (s.setPort f p).straps = s.straps ∧ (s.setPort f p).resetCause = s.resetCause ∧ (s.setPort f p).regs = s.regs ∧
    (s.setPort f p).cnt = s.cnt ∧ (s.setPort f p).rejects = s.rejects ∧ (s.setPort f p).free = s.free ∧
    (s.setPort f p).hub = s.hub ∧ (s.setPort f p).answers = s.answers ∧ (s.setPort f p).role = s.role ∧
    (s.setPort f p).links = s.links ∧ (s.setPort f p).ingress = s.ingress ∧ (s.setPort f p).sent = s.sent ∧
    (s.setPort f p).inbox = s.inbox ∧ (s.setPort f p).landing = s.landing ∧ (s.setPort f p).seqNext = s.seqNext ∧
    (s.setPort f p).origTimes = s.origTimes ∧ (s.setPort f p).origHeld = s.origHeld ∧ (s.setPort f p).dups = s.dups ∧
    (s.setPort f p).tie = s.tie ∧ (s.setPort f p).settleEnds = s.settleEnds ∧ (s.setPort f p).field = s.field ∧
    (s.setPort f p).healthAt = s.healthAt ∧ (s.setPort f p).sources = s.sources ∧ (s.setPort f p).records = s.records ∧
    (s.setPort f p).recordLoss = s.recordLoss ∧ (s.setPort f p).deliveries = s.deliveries ∧ (s.setPort f p).msix = s.msix ∧
    (s.setPort f p).faults = s.faults ∧ (s.setPort f p).cru = s.cru ∧ (s.setPort f p).copper = s.copper ∧
    (s.setPort f p).assigned = s.assigned ∧ (s.setPort f p).disc = s.disc ∧ (s.setPort f p).img = s.img ∧
    (s.setPort f p).mirror = s.mirror ∧ (s.setPort f p).hist = s.hist ∧ (s.setPort f p).time = s.time ∧
    (s.setPort f p).timers = s.timers ∧ (s.setPort f p).captures = s.captures ∧ (s.setPort f p).queues = s.queues ∧
    (s.setPort f p).busReads = s.busReads ∧ (s.setPort f p).lines = s.lines ∧ (s.setPort f p).pxs = s.pxs ∧
    (s.setPort f p).cans = s.cans ∧ (s.setPort f p).rss = s.rss ∧ (s.setPort f p).rsSent = s.rsSent ∧
    (s.setPort f p).bridges = s.bridges ∧ (s.setPort f p).iols = s.iols ∧ (s.setPort f p).whisks = s.whisks ∧
    (s.setPort f p).sw = s.sw ∧ (s.setPort f p).bar0 = s.bar0 ∧ (s.setPort f p).host = s.host ∧
    (s.setPort f p).dict = s.dict ∧ (s.setPort f p).recordsIn = s.recordsIn ∧ (s.setPort f p).fences = s.fences ∧
    (s.setPort f p).fenceOrder = s.fenceOrder ∧ (s.setPort f p).writeSentAt = s.writeSentAt ∧
    (s.setPort f p).writeHeld = s.writeHeld ∧ (s.setPort f p).peerReady = s.peerReady ∧
    (s.setPort f p).handInstant = s.handInstant ∧ (s.setPort f p).twin = s.twin ∧ (s.setPort f p).pertCount = s.pertCount ∧
    (s.setPort f p).pertEnds = s.pertEnds ∧ (s.setPort f p).rules = s.rules ∧ (s.setPort f p).gaugeLog = s.gaugeLog ∧
    (s.setPort f p).gaugeIn = s.gaugeIn ∧ (s.setPort f p).pans = s.pans ∧ (s.setPort f p).fuses = s.fuses ∧
    (s.setPort f p).power = s.power ∧ (s.setPort f p).tagHeld = s.tagHeld ∧ (s.setPort f p).keys = s.keys ∧
    (s.setPort f p).boot = s.boot ∧ (s.setPort f p).uartSent = s.uartSent ∧ (s.setPort f p).jtag = s.jtag ∧
    (s.setPort f p).pending = s.pending := by
  refine ⟨rfl, rfl, rfl, rfl, rfl, rfl, rfl, rfl, rfl, rfl, rfl, rfl, rfl, rfl, rfl, rfl, rfl, rfl, rfl, rfl, rfl, rfl, rfl, rfl, rfl, rfl, rfl, rfl, rfl, rfl, rfl, rfl, rfl, rfl, rfl, rfl, rfl, rfl, rfl, rfl, rfl, rfl, rfl, rfl, rfl, rfl, rfl, rfl, rfl, rfl, rfl, rfl, rfl, rfl, rfl, rfl, rfl, rfl, rfl, rfl, rfl, rfl, rfl, rfl, rfl, rfl, rfl, rfl, rfl, rfl, rfl, rfl, rfl, rfl, rfl, rfl, rfl⟩

@[simp] theorem State.setPort_readers (s : State) (f : Nat) (p : PortTx) :
    (s.setPort f p).reg = s.reg ∧ (s.setPort f p).count = s.count ∧ (s.setPort f p).rejections = s.rejections ∧
    (s.setPort f p).link = s.link ∧ (s.setPort f p).rule = s.rule ∧ (s.setPort f p).src = s.src ∧
    (s.setPort f p).bar = s.bar ∧ (s.setPort f p).whisk = s.whisk ∧ (s.setPort f p).flt = s.flt ∧
    (s.setPort f p).line = s.line ∧ (s.setPort f p).px = s.px ∧ (s.setPort f p).can = s.can ∧
    (s.setPort f p).fence = s.fence ∧ (s.setPort f p).ring = s.ring ∧ (s.setPort f p).bar4 = s.bar4 ∧
    (s.setPort f p).iol = s.iol ∧ (s.setPort f p).dup = s.dup ∧ (s.setPort f p).pan = s.pan ∧
    (s.setPort f p).fuse = s.fuse ∧ (s.setPort f p).queue = s.queue ∧ (s.setPort f p).rs = s.rs ∧
    (s.setPort f p).bridge = s.bridge ∧ (s.setPort f p).timer = s.timer ∧ (s.setPort f p).capture = s.capture ∧
    (s.setPort f p).pd = s.pd ∧ (s.setPort f p).tun = s.tun ∧ (s.setPort f p).swq = s.swq ∧
    (s.setPort f p).meter = s.meter ∧ (s.setPort f p).gatePending = s.gatePending ∧ (s.setPort f p).announce = s.announce ∧
    (s.setPort f p).mailbox = s.mailbox := by
  refine ⟨rfl, rfl, rfl, rfl, rfl, rfl, rfl, rfl, rfl, rfl, rfl, rfl, rfl, rfl, rfl, rfl, rfl, rfl, rfl, rfl, rfl, rfl, rfl, rfl, rfl, rfl, rfl, rfl, rfl, rfl, rfl⟩

@[simp] theorem State.setRule_fields (s : State) (r : Nat) (x : RuleSt) :
    (s.setRule r x).run = s.run ∧ (s.setRule r x).clock = s.clock ∧ (s.setRule r x).ftimeQ = s.ftimeQ ∧
    (s.setRule r x).straps = s.straps ∧ (s.setRule r x).resetCause = s.resetCause ∧ (s.setRule r x).regs = s.regs ∧
    (s.setRule r x).cnt = s.cnt ∧ (s.setRule r x).rejects = s.rejects ∧ (s.setRule r x).free = s.free ∧
    (s.setRule r x).hub = s.hub ∧ (s.setRule r x).answers = s.answers ∧ (s.setRule r x).role = s.role ∧
    (s.setRule r x).links = s.links ∧ (s.setRule r x).tx = s.tx ∧ (s.setRule r x).ingress = s.ingress ∧
    (s.setRule r x).sent = s.sent ∧ (s.setRule r x).inbox = s.inbox ∧ (s.setRule r x).landing = s.landing ∧
    (s.setRule r x).seqNext = s.seqNext ∧ (s.setRule r x).origTimes = s.origTimes ∧ (s.setRule r x).origHeld = s.origHeld ∧
    (s.setRule r x).dups = s.dups ∧ (s.setRule r x).tie = s.tie ∧ (s.setRule r x).settleEnds = s.settleEnds ∧
    (s.setRule r x).field = s.field ∧ (s.setRule r x).healthAt = s.healthAt ∧ (s.setRule r x).sources = s.sources ∧
    (s.setRule r x).records = s.records ∧ (s.setRule r x).recordLoss = s.recordLoss ∧
    (s.setRule r x).deliveries = s.deliveries ∧ (s.setRule r x).msix = s.msix ∧ (s.setRule r x).faults = s.faults ∧
    (s.setRule r x).cru = s.cru ∧ (s.setRule r x).copper = s.copper ∧ (s.setRule r x).assigned = s.assigned ∧
    (s.setRule r x).disc = s.disc ∧ (s.setRule r x).img = s.img ∧ (s.setRule r x).mirror = s.mirror ∧
    (s.setRule r x).hist = s.hist ∧ (s.setRule r x).time = s.time ∧ (s.setRule r x).timers = s.timers ∧
    (s.setRule r x).captures = s.captures ∧ (s.setRule r x).queues = s.queues ∧ (s.setRule r x).busReads = s.busReads ∧
    (s.setRule r x).lines = s.lines ∧ (s.setRule r x).pxs = s.pxs ∧ (s.setRule r x).cans = s.cans ∧
    (s.setRule r x).rss = s.rss ∧ (s.setRule r x).rsSent = s.rsSent ∧ (s.setRule r x).bridges = s.bridges ∧
    (s.setRule r x).iols = s.iols ∧ (s.setRule r x).whisks = s.whisks ∧ (s.setRule r x).sw = s.sw ∧
    (s.setRule r x).bar0 = s.bar0 ∧ (s.setRule r x).host = s.host ∧ (s.setRule r x).dict = s.dict ∧
    (s.setRule r x).recordsIn = s.recordsIn ∧ (s.setRule r x).fences = s.fences ∧
    (s.setRule r x).fenceOrder = s.fenceOrder ∧ (s.setRule r x).writeSentAt = s.writeSentAt ∧
    (s.setRule r x).writeHeld = s.writeHeld ∧ (s.setRule r x).peerReady = s.peerReady ∧
    (s.setRule r x).handInstant = s.handInstant ∧ (s.setRule r x).twin = s.twin ∧ (s.setRule r x).pertCount = s.pertCount ∧
    (s.setRule r x).pertEnds = s.pertEnds ∧ (s.setRule r x).gaugeLog = s.gaugeLog ∧ (s.setRule r x).gaugeIn = s.gaugeIn ∧
    (s.setRule r x).pans = s.pans ∧ (s.setRule r x).fuses = s.fuses ∧ (s.setRule r x).power = s.power ∧
    (s.setRule r x).tagHeld = s.tagHeld ∧ (s.setRule r x).keys = s.keys ∧ (s.setRule r x).boot = s.boot ∧
    (s.setRule r x).uartSent = s.uartSent ∧ (s.setRule r x).jtag = s.jtag ∧ (s.setRule r x).pending = s.pending := by
  refine ⟨rfl, rfl, rfl, rfl, rfl, rfl, rfl, rfl, rfl, rfl, rfl, rfl, rfl, rfl, rfl, rfl, rfl, rfl, rfl, rfl, rfl, rfl, rfl, rfl, rfl, rfl, rfl, rfl, rfl, rfl, rfl, rfl, rfl, rfl, rfl, rfl, rfl, rfl, rfl, rfl, rfl, rfl, rfl, rfl, rfl, rfl, rfl, rfl, rfl, rfl, rfl, rfl, rfl, rfl, rfl, rfl, rfl, rfl, rfl, rfl, rfl, rfl, rfl, rfl, rfl, rfl, rfl, rfl, rfl, rfl, rfl, rfl, rfl, rfl, rfl, rfl, rfl⟩

@[simp] theorem State.setRule_readers (s : State) (r : Nat) (x : RuleSt) :
    (s.setRule r x).reg = s.reg ∧ (s.setRule r x).count = s.count ∧ (s.setRule r x).rejections = s.rejections ∧
    (s.setRule r x).link = s.link ∧ (s.setRule r x).port = s.port ∧ (s.setRule r x).src = s.src ∧
    (s.setRule r x).bar = s.bar ∧ (s.setRule r x).whisk = s.whisk ∧ (s.setRule r x).flt = s.flt ∧
    (s.setRule r x).line = s.line ∧ (s.setRule r x).px = s.px ∧ (s.setRule r x).can = s.can ∧
    (s.setRule r x).fence = s.fence ∧ (s.setRule r x).ring = s.ring ∧ (s.setRule r x).bar4 = s.bar4 ∧
    (s.setRule r x).iol = s.iol ∧ (s.setRule r x).dup = s.dup ∧ (s.setRule r x).pan = s.pan ∧
    (s.setRule r x).fuse = s.fuse ∧ (s.setRule r x).queue = s.queue ∧ (s.setRule r x).rs = s.rs ∧
    (s.setRule r x).bridge = s.bridge ∧ (s.setRule r x).timer = s.timer ∧ (s.setRule r x).capture = s.capture ∧
    (s.setRule r x).pd = s.pd ∧ (s.setRule r x).tun = s.tun ∧ (s.setRule r x).swq = s.swq ∧
    (s.setRule r x).meter = s.meter ∧ (s.setRule r x).gatePending = s.gatePending ∧ (s.setRule r x).announce = s.announce ∧
    (s.setRule r x).mailbox = s.mailbox := by
  refine ⟨rfl, rfl, rfl, rfl, rfl, rfl, rfl, rfl, rfl, rfl, rfl, rfl, rfl, rfl, rfl, rfl, rfl, rfl, rfl, rfl, rfl, rfl, rfl, rfl, rfl, rfl, rfl, rfl, rfl, rfl, rfl⟩

@[simp] theorem State.setSrc_fields (s : State) (n : Nat) (e : SrcSt) :
    (s.setSrc n e).run = s.run ∧ (s.setSrc n e).clock = s.clock ∧ (s.setSrc n e).ftimeQ = s.ftimeQ ∧
    (s.setSrc n e).straps = s.straps ∧ (s.setSrc n e).resetCause = s.resetCause ∧ (s.setSrc n e).regs = s.regs ∧
    (s.setSrc n e).cnt = s.cnt ∧ (s.setSrc n e).rejects = s.rejects ∧ (s.setSrc n e).free = s.free ∧
    (s.setSrc n e).hub = s.hub ∧ (s.setSrc n e).answers = s.answers ∧ (s.setSrc n e).role = s.role ∧
    (s.setSrc n e).links = s.links ∧ (s.setSrc n e).tx = s.tx ∧ (s.setSrc n e).ingress = s.ingress ∧
    (s.setSrc n e).sent = s.sent ∧ (s.setSrc n e).inbox = s.inbox ∧ (s.setSrc n e).landing = s.landing ∧
    (s.setSrc n e).seqNext = s.seqNext ∧ (s.setSrc n e).origTimes = s.origTimes ∧ (s.setSrc n e).origHeld = s.origHeld ∧
    (s.setSrc n e).dups = s.dups ∧ (s.setSrc n e).tie = s.tie ∧ (s.setSrc n e).settleEnds = s.settleEnds ∧
    (s.setSrc n e).field = s.field ∧ (s.setSrc n e).healthAt = s.healthAt ∧ (s.setSrc n e).records = s.records ∧
    (s.setSrc n e).recordLoss = s.recordLoss ∧ (s.setSrc n e).deliveries = s.deliveries ∧ (s.setSrc n e).msix = s.msix ∧
    (s.setSrc n e).faults = s.faults ∧ (s.setSrc n e).cru = s.cru ∧ (s.setSrc n e).copper = s.copper ∧
    (s.setSrc n e).assigned = s.assigned ∧ (s.setSrc n e).disc = s.disc ∧ (s.setSrc n e).img = s.img ∧
    (s.setSrc n e).mirror = s.mirror ∧ (s.setSrc n e).hist = s.hist ∧ (s.setSrc n e).time = s.time ∧
    (s.setSrc n e).timers = s.timers ∧ (s.setSrc n e).captures = s.captures ∧ (s.setSrc n e).queues = s.queues ∧
    (s.setSrc n e).busReads = s.busReads ∧ (s.setSrc n e).lines = s.lines ∧ (s.setSrc n e).pxs = s.pxs ∧
    (s.setSrc n e).cans = s.cans ∧ (s.setSrc n e).rss = s.rss ∧ (s.setSrc n e).rsSent = s.rsSent ∧
    (s.setSrc n e).bridges = s.bridges ∧ (s.setSrc n e).iols = s.iols ∧ (s.setSrc n e).whisks = s.whisks ∧
    (s.setSrc n e).sw = s.sw ∧ (s.setSrc n e).bar0 = s.bar0 ∧ (s.setSrc n e).host = s.host ∧ (s.setSrc n e).dict = s.dict ∧
    (s.setSrc n e).recordsIn = s.recordsIn ∧ (s.setSrc n e).fences = s.fences ∧ (s.setSrc n e).fenceOrder = s.fenceOrder ∧
    (s.setSrc n e).writeSentAt = s.writeSentAt ∧ (s.setSrc n e).writeHeld = s.writeHeld ∧
    (s.setSrc n e).peerReady = s.peerReady ∧ (s.setSrc n e).handInstant = s.handInstant ∧ (s.setSrc n e).twin = s.twin ∧
    (s.setSrc n e).pertCount = s.pertCount ∧ (s.setSrc n e).pertEnds = s.pertEnds ∧ (s.setSrc n e).rules = s.rules ∧
    (s.setSrc n e).gaugeLog = s.gaugeLog ∧ (s.setSrc n e).gaugeIn = s.gaugeIn ∧ (s.setSrc n e).pans = s.pans ∧
    (s.setSrc n e).fuses = s.fuses ∧ (s.setSrc n e).power = s.power ∧ (s.setSrc n e).tagHeld = s.tagHeld ∧
    (s.setSrc n e).keys = s.keys ∧ (s.setSrc n e).boot = s.boot ∧ (s.setSrc n e).uartSent = s.uartSent ∧
    (s.setSrc n e).jtag = s.jtag ∧ (s.setSrc n e).pending = s.pending := by
  refine ⟨rfl, rfl, rfl, rfl, rfl, rfl, rfl, rfl, rfl, rfl, rfl, rfl, rfl, rfl, rfl, rfl, rfl, rfl, rfl, rfl, rfl, rfl, rfl, rfl, rfl, rfl, rfl, rfl, rfl, rfl, rfl, rfl, rfl, rfl, rfl, rfl, rfl, rfl, rfl, rfl, rfl, rfl, rfl, rfl, rfl, rfl, rfl, rfl, rfl, rfl, rfl, rfl, rfl, rfl, rfl, rfl, rfl, rfl, rfl, rfl, rfl, rfl, rfl, rfl, rfl, rfl, rfl, rfl, rfl, rfl, rfl, rfl, rfl, rfl, rfl, rfl, rfl⟩

@[simp] theorem State.setSrc_readers (s : State) (n : Nat) (e : SrcSt) :
    (s.setSrc n e).reg = s.reg ∧ (s.setSrc n e).count = s.count ∧ (s.setSrc n e).rejections = s.rejections ∧
    (s.setSrc n e).link = s.link ∧ (s.setSrc n e).port = s.port ∧ (s.setSrc n e).rule = s.rule ∧
    (s.setSrc n e).bar = s.bar ∧ (s.setSrc n e).whisk = s.whisk ∧ (s.setSrc n e).flt = s.flt ∧
    (s.setSrc n e).line = s.line ∧ (s.setSrc n e).px = s.px ∧ (s.setSrc n e).can = s.can ∧ (s.setSrc n e).fence = s.fence ∧
    (s.setSrc n e).ring = s.ring ∧ (s.setSrc n e).bar4 = s.bar4 ∧ (s.setSrc n e).iol = s.iol ∧ (s.setSrc n e).dup = s.dup ∧
    (s.setSrc n e).pan = s.pan ∧ (s.setSrc n e).fuse = s.fuse ∧ (s.setSrc n e).queue = s.queue ∧ (s.setSrc n e).rs = s.rs ∧
    (s.setSrc n e).bridge = s.bridge ∧ (s.setSrc n e).timer = s.timer ∧ (s.setSrc n e).capture = s.capture ∧
    (s.setSrc n e).pd = s.pd ∧ (s.setSrc n e).tun = s.tun ∧ (s.setSrc n e).swq = s.swq ∧ (s.setSrc n e).meter = s.meter ∧
    (s.setSrc n e).gatePending = s.gatePending ∧ (s.setSrc n e).announce = s.announce ∧
    (s.setSrc n e).mailbox = s.mailbox := by
  refine ⟨rfl, rfl, rfl, rfl, rfl, rfl, rfl, rfl, rfl, rfl, rfl, rfl, rfl, rfl, rfl, rfl, rfl, rfl, rfl, rfl, rfl, rfl, rfl, rfl, rfl, rfl, rfl, rfl, rfl, rfl, rfl⟩

@[simp] theorem State.setBar_fields (s : State) (o v : Nat) :
    (s.setBar o v).run = s.run ∧ (s.setBar o v).clock = s.clock ∧ (s.setBar o v).ftimeQ = s.ftimeQ ∧
    (s.setBar o v).straps = s.straps ∧ (s.setBar o v).resetCause = s.resetCause ∧ (s.setBar o v).regs = s.regs ∧
    (s.setBar o v).cnt = s.cnt ∧ (s.setBar o v).rejects = s.rejects ∧ (s.setBar o v).free = s.free ∧
    (s.setBar o v).hub = s.hub ∧ (s.setBar o v).answers = s.answers ∧ (s.setBar o v).role = s.role ∧
    (s.setBar o v).links = s.links ∧ (s.setBar o v).tx = s.tx ∧ (s.setBar o v).ingress = s.ingress ∧
    (s.setBar o v).sent = s.sent ∧ (s.setBar o v).inbox = s.inbox ∧ (s.setBar o v).landing = s.landing ∧
    (s.setBar o v).seqNext = s.seqNext ∧ (s.setBar o v).origTimes = s.origTimes ∧ (s.setBar o v).origHeld = s.origHeld ∧
    (s.setBar o v).dups = s.dups ∧ (s.setBar o v).tie = s.tie ∧ (s.setBar o v).settleEnds = s.settleEnds ∧
    (s.setBar o v).field = s.field ∧ (s.setBar o v).healthAt = s.healthAt ∧ (s.setBar o v).sources = s.sources ∧
    (s.setBar o v).records = s.records ∧ (s.setBar o v).recordLoss = s.recordLoss ∧
    (s.setBar o v).deliveries = s.deliveries ∧ (s.setBar o v).msix = s.msix ∧ (s.setBar o v).faults = s.faults ∧
    (s.setBar o v).cru = s.cru ∧ (s.setBar o v).copper = s.copper ∧ (s.setBar o v).assigned = s.assigned ∧
    (s.setBar o v).disc = s.disc ∧ (s.setBar o v).img = s.img ∧ (s.setBar o v).mirror = s.mirror ∧
    (s.setBar o v).hist = s.hist ∧ (s.setBar o v).time = s.time ∧ (s.setBar o v).timers = s.timers ∧
    (s.setBar o v).captures = s.captures ∧ (s.setBar o v).queues = s.queues ∧ (s.setBar o v).busReads = s.busReads ∧
    (s.setBar o v).lines = s.lines ∧ (s.setBar o v).pxs = s.pxs ∧ (s.setBar o v).cans = s.cans ∧
    (s.setBar o v).rss = s.rss ∧ (s.setBar o v).rsSent = s.rsSent ∧ (s.setBar o v).bridges = s.bridges ∧
    (s.setBar o v).iols = s.iols ∧ (s.setBar o v).whisks = s.whisks ∧ (s.setBar o v).sw = s.sw ∧
    (s.setBar o v).host = s.host ∧ (s.setBar o v).dict = s.dict ∧ (s.setBar o v).recordsIn = s.recordsIn ∧
    (s.setBar o v).fences = s.fences ∧ (s.setBar o v).fenceOrder = s.fenceOrder ∧
    (s.setBar o v).writeSentAt = s.writeSentAt ∧ (s.setBar o v).writeHeld = s.writeHeld ∧
    (s.setBar o v).peerReady = s.peerReady ∧ (s.setBar o v).handInstant = s.handInstant ∧ (s.setBar o v).twin = s.twin ∧
    (s.setBar o v).pertCount = s.pertCount ∧ (s.setBar o v).pertEnds = s.pertEnds ∧ (s.setBar o v).rules = s.rules ∧
    (s.setBar o v).gaugeLog = s.gaugeLog ∧ (s.setBar o v).gaugeIn = s.gaugeIn ∧ (s.setBar o v).pans = s.pans ∧
    (s.setBar o v).fuses = s.fuses ∧ (s.setBar o v).power = s.power ∧ (s.setBar o v).tagHeld = s.tagHeld ∧
    (s.setBar o v).keys = s.keys ∧ (s.setBar o v).boot = s.boot ∧ (s.setBar o v).uartSent = s.uartSent ∧
    (s.setBar o v).jtag = s.jtag ∧ (s.setBar o v).pending = s.pending := by
  refine ⟨rfl, rfl, rfl, rfl, rfl, rfl, rfl, rfl, rfl, rfl, rfl, rfl, rfl, rfl, rfl, rfl, rfl, rfl, rfl, rfl, rfl, rfl, rfl, rfl, rfl, rfl, rfl, rfl, rfl, rfl, rfl, rfl, rfl, rfl, rfl, rfl, rfl, rfl, rfl, rfl, rfl, rfl, rfl, rfl, rfl, rfl, rfl, rfl, rfl, rfl, rfl, rfl, rfl, rfl, rfl, rfl, rfl, rfl, rfl, rfl, rfl, rfl, rfl, rfl, rfl, rfl, rfl, rfl, rfl, rfl, rfl, rfl, rfl, rfl, rfl, rfl, rfl⟩

@[simp] theorem State.setBar_readers (s : State) (o v : Nat) :
    (s.setBar o v).reg = s.reg ∧ (s.setBar o v).count = s.count ∧ (s.setBar o v).rejections = s.rejections ∧
    (s.setBar o v).link = s.link ∧ (s.setBar o v).port = s.port ∧ (s.setBar o v).rule = s.rule ∧
    (s.setBar o v).src = s.src ∧ (s.setBar o v).whisk = s.whisk ∧ (s.setBar o v).flt = s.flt ∧
    (s.setBar o v).line = s.line ∧ (s.setBar o v).px = s.px ∧ (s.setBar o v).can = s.can ∧ (s.setBar o v).fence = s.fence ∧
    (s.setBar o v).ring = s.ring ∧ (s.setBar o v).bar4 = s.bar4 ∧ (s.setBar o v).iol = s.iol ∧ (s.setBar o v).dup = s.dup ∧
    (s.setBar o v).pan = s.pan ∧ (s.setBar o v).fuse = s.fuse ∧ (s.setBar o v).queue = s.queue ∧ (s.setBar o v).rs = s.rs ∧
    (s.setBar o v).bridge = s.bridge ∧ (s.setBar o v).timer = s.timer ∧ (s.setBar o v).capture = s.capture ∧
    (s.setBar o v).pd = s.pd ∧ (s.setBar o v).tun = s.tun ∧ (s.setBar o v).swq = s.swq ∧ (s.setBar o v).meter = s.meter ∧
    (s.setBar o v).gatePending = s.gatePending ∧ (s.setBar o v).announce = s.announce ∧
    (s.setBar o v).mailbox = s.mailbox := by
  refine ⟨rfl, rfl, rfl, rfl, rfl, rfl, rfl, rfl, rfl, rfl, rfl, rfl, rfl, rfl, rfl, rfl, rfl, rfl, rfl, rfl, rfl, rfl, rfl, rfl, rfl, rfl, rfl, rfl, rfl, rfl, rfl⟩

@[simp] theorem State.setWhisk_fields (s : State) (w : Nat) (x : WhiskSt) :
    (s.setWhisk w x).run = s.run ∧ (s.setWhisk w x).clock = s.clock ∧ (s.setWhisk w x).ftimeQ = s.ftimeQ ∧
    (s.setWhisk w x).straps = s.straps ∧ (s.setWhisk w x).resetCause = s.resetCause ∧ (s.setWhisk w x).regs = s.regs ∧
    (s.setWhisk w x).cnt = s.cnt ∧ (s.setWhisk w x).rejects = s.rejects ∧ (s.setWhisk w x).free = s.free ∧
    (s.setWhisk w x).hub = s.hub ∧ (s.setWhisk w x).answers = s.answers ∧ (s.setWhisk w x).role = s.role ∧
    (s.setWhisk w x).links = s.links ∧ (s.setWhisk w x).tx = s.tx ∧ (s.setWhisk w x).ingress = s.ingress ∧
    (s.setWhisk w x).sent = s.sent ∧ (s.setWhisk w x).inbox = s.inbox ∧ (s.setWhisk w x).landing = s.landing ∧
    (s.setWhisk w x).seqNext = s.seqNext ∧ (s.setWhisk w x).origTimes = s.origTimes ∧
    (s.setWhisk w x).origHeld = s.origHeld ∧ (s.setWhisk w x).dups = s.dups ∧ (s.setWhisk w x).tie = s.tie ∧
    (s.setWhisk w x).settleEnds = s.settleEnds ∧ (s.setWhisk w x).field = s.field ∧ (s.setWhisk w x).healthAt = s.healthAt ∧
    (s.setWhisk w x).sources = s.sources ∧ (s.setWhisk w x).records = s.records ∧
    (s.setWhisk w x).recordLoss = s.recordLoss ∧ (s.setWhisk w x).deliveries = s.deliveries ∧
    (s.setWhisk w x).msix = s.msix ∧ (s.setWhisk w x).faults = s.faults ∧ (s.setWhisk w x).cru = s.cru ∧
    (s.setWhisk w x).copper = s.copper ∧ (s.setWhisk w x).assigned = s.assigned ∧ (s.setWhisk w x).disc = s.disc ∧
    (s.setWhisk w x).img = s.img ∧ (s.setWhisk w x).mirror = s.mirror ∧ (s.setWhisk w x).hist = s.hist ∧
    (s.setWhisk w x).time = s.time ∧ (s.setWhisk w x).timers = s.timers ∧ (s.setWhisk w x).captures = s.captures ∧
    (s.setWhisk w x).queues = s.queues ∧ (s.setWhisk w x).busReads = s.busReads ∧ (s.setWhisk w x).lines = s.lines ∧
    (s.setWhisk w x).pxs = s.pxs ∧ (s.setWhisk w x).cans = s.cans ∧ (s.setWhisk w x).rss = s.rss ∧
    (s.setWhisk w x).rsSent = s.rsSent ∧ (s.setWhisk w x).bridges = s.bridges ∧ (s.setWhisk w x).iols = s.iols ∧
    (s.setWhisk w x).sw = s.sw ∧ (s.setWhisk w x).bar0 = s.bar0 ∧ (s.setWhisk w x).host = s.host ∧
    (s.setWhisk w x).dict = s.dict ∧ (s.setWhisk w x).recordsIn = s.recordsIn ∧ (s.setWhisk w x).fences = s.fences ∧
    (s.setWhisk w x).fenceOrder = s.fenceOrder ∧ (s.setWhisk w x).writeSentAt = s.writeSentAt ∧
    (s.setWhisk w x).writeHeld = s.writeHeld ∧ (s.setWhisk w x).peerReady = s.peerReady ∧
    (s.setWhisk w x).handInstant = s.handInstant ∧ (s.setWhisk w x).twin = s.twin ∧
    (s.setWhisk w x).pertCount = s.pertCount ∧ (s.setWhisk w x).pertEnds = s.pertEnds ∧ (s.setWhisk w x).rules = s.rules ∧
    (s.setWhisk w x).gaugeLog = s.gaugeLog ∧ (s.setWhisk w x).gaugeIn = s.gaugeIn ∧ (s.setWhisk w x).pans = s.pans ∧
    (s.setWhisk w x).fuses = s.fuses ∧ (s.setWhisk w x).power = s.power ∧ (s.setWhisk w x).tagHeld = s.tagHeld ∧
    (s.setWhisk w x).keys = s.keys ∧ (s.setWhisk w x).boot = s.boot ∧ (s.setWhisk w x).uartSent = s.uartSent ∧
    (s.setWhisk w x).jtag = s.jtag ∧ (s.setWhisk w x).pending = s.pending := by
  refine ⟨rfl, rfl, rfl, rfl, rfl, rfl, rfl, rfl, rfl, rfl, rfl, rfl, rfl, rfl, rfl, rfl, rfl, rfl, rfl, rfl, rfl, rfl, rfl, rfl, rfl, rfl, rfl, rfl, rfl, rfl, rfl, rfl, rfl, rfl, rfl, rfl, rfl, rfl, rfl, rfl, rfl, rfl, rfl, rfl, rfl, rfl, rfl, rfl, rfl, rfl, rfl, rfl, rfl, rfl, rfl, rfl, rfl, rfl, rfl, rfl, rfl, rfl, rfl, rfl, rfl, rfl, rfl, rfl, rfl, rfl, rfl, rfl, rfl, rfl, rfl, rfl, rfl⟩

@[simp] theorem State.setWhisk_readers (s : State) (w : Nat) (x : WhiskSt) :
    (s.setWhisk w x).reg = s.reg ∧ (s.setWhisk w x).count = s.count ∧ (s.setWhisk w x).rejections = s.rejections ∧
    (s.setWhisk w x).link = s.link ∧ (s.setWhisk w x).port = s.port ∧ (s.setWhisk w x).rule = s.rule ∧
    (s.setWhisk w x).src = s.src ∧ (s.setWhisk w x).bar = s.bar ∧ (s.setWhisk w x).flt = s.flt ∧
    (s.setWhisk w x).line = s.line ∧ (s.setWhisk w x).px = s.px ∧ (s.setWhisk w x).can = s.can ∧
    (s.setWhisk w x).fence = s.fence ∧ (s.setWhisk w x).ring = s.ring ∧ (s.setWhisk w x).bar4 = s.bar4 ∧
    (s.setWhisk w x).iol = s.iol ∧ (s.setWhisk w x).dup = s.dup ∧ (s.setWhisk w x).pan = s.pan ∧
    (s.setWhisk w x).fuse = s.fuse ∧ (s.setWhisk w x).queue = s.queue ∧ (s.setWhisk w x).rs = s.rs ∧
    (s.setWhisk w x).bridge = s.bridge ∧ (s.setWhisk w x).timer = s.timer ∧ (s.setWhisk w x).capture = s.capture ∧
    (s.setWhisk w x).pd = s.pd ∧ (s.setWhisk w x).tun = s.tun ∧ (s.setWhisk w x).swq = s.swq ∧
    (s.setWhisk w x).meter = s.meter ∧ (s.setWhisk w x).gatePending = s.gatePending ∧
    (s.setWhisk w x).announce = s.announce ∧ (s.setWhisk w x).mailbox = s.mailbox := by
  refine ⟨rfl, rfl, rfl, rfl, rfl, rfl, rfl, rfl, rfl, rfl, rfl, rfl, rfl, rfl, rfl, rfl, rfl, rfl, rfl, rfl, rfl, rfl, rfl, rfl, rfl, rfl, rfl, rfl, rfl, rfl, rfl⟩

@[simp] theorem State.setFlt_fields (s : State) (n : Nat) (f : FltSt) :
    (s.setFlt n f).run = s.run ∧ (s.setFlt n f).clock = s.clock ∧ (s.setFlt n f).ftimeQ = s.ftimeQ ∧
    (s.setFlt n f).straps = s.straps ∧ (s.setFlt n f).resetCause = s.resetCause ∧ (s.setFlt n f).regs = s.regs ∧
    (s.setFlt n f).cnt = s.cnt ∧ (s.setFlt n f).rejects = s.rejects ∧ (s.setFlt n f).free = s.free ∧
    (s.setFlt n f).hub = s.hub ∧ (s.setFlt n f).answers = s.answers ∧ (s.setFlt n f).role = s.role ∧
    (s.setFlt n f).links = s.links ∧ (s.setFlt n f).tx = s.tx ∧ (s.setFlt n f).ingress = s.ingress ∧
    (s.setFlt n f).sent = s.sent ∧ (s.setFlt n f).inbox = s.inbox ∧ (s.setFlt n f).landing = s.landing ∧
    (s.setFlt n f).seqNext = s.seqNext ∧ (s.setFlt n f).origTimes = s.origTimes ∧ (s.setFlt n f).origHeld = s.origHeld ∧
    (s.setFlt n f).dups = s.dups ∧ (s.setFlt n f).tie = s.tie ∧ (s.setFlt n f).settleEnds = s.settleEnds ∧
    (s.setFlt n f).field = s.field ∧ (s.setFlt n f).healthAt = s.healthAt ∧ (s.setFlt n f).sources = s.sources ∧
    (s.setFlt n f).records = s.records ∧ (s.setFlt n f).recordLoss = s.recordLoss ∧
    (s.setFlt n f).deliveries = s.deliveries ∧ (s.setFlt n f).msix = s.msix ∧ (s.setFlt n f).cru = s.cru ∧
    (s.setFlt n f).copper = s.copper ∧ (s.setFlt n f).assigned = s.assigned ∧ (s.setFlt n f).disc = s.disc ∧
    (s.setFlt n f).img = s.img ∧ (s.setFlt n f).mirror = s.mirror ∧ (s.setFlt n f).hist = s.hist ∧
    (s.setFlt n f).time = s.time ∧ (s.setFlt n f).timers = s.timers ∧ (s.setFlt n f).captures = s.captures ∧
    (s.setFlt n f).queues = s.queues ∧ (s.setFlt n f).busReads = s.busReads ∧ (s.setFlt n f).lines = s.lines ∧
    (s.setFlt n f).pxs = s.pxs ∧ (s.setFlt n f).cans = s.cans ∧ (s.setFlt n f).rss = s.rss ∧
    (s.setFlt n f).rsSent = s.rsSent ∧ (s.setFlt n f).bridges = s.bridges ∧ (s.setFlt n f).iols = s.iols ∧
    (s.setFlt n f).whisks = s.whisks ∧ (s.setFlt n f).sw = s.sw ∧ (s.setFlt n f).bar0 = s.bar0 ∧
    (s.setFlt n f).host = s.host ∧ (s.setFlt n f).dict = s.dict ∧ (s.setFlt n f).recordsIn = s.recordsIn ∧
    (s.setFlt n f).fences = s.fences ∧ (s.setFlt n f).fenceOrder = s.fenceOrder ∧
    (s.setFlt n f).writeSentAt = s.writeSentAt ∧ (s.setFlt n f).writeHeld = s.writeHeld ∧
    (s.setFlt n f).peerReady = s.peerReady ∧ (s.setFlt n f).handInstant = s.handInstant ∧ (s.setFlt n f).twin = s.twin ∧
    (s.setFlt n f).pertCount = s.pertCount ∧ (s.setFlt n f).pertEnds = s.pertEnds ∧ (s.setFlt n f).rules = s.rules ∧
    (s.setFlt n f).gaugeLog = s.gaugeLog ∧ (s.setFlt n f).gaugeIn = s.gaugeIn ∧ (s.setFlt n f).pans = s.pans ∧
    (s.setFlt n f).fuses = s.fuses ∧ (s.setFlt n f).power = s.power ∧ (s.setFlt n f).tagHeld = s.tagHeld ∧
    (s.setFlt n f).keys = s.keys ∧ (s.setFlt n f).boot = s.boot ∧ (s.setFlt n f).uartSent = s.uartSent ∧
    (s.setFlt n f).jtag = s.jtag ∧ (s.setFlt n f).pending = s.pending := by
  refine ⟨rfl, rfl, rfl, rfl, rfl, rfl, rfl, rfl, rfl, rfl, rfl, rfl, rfl, rfl, rfl, rfl, rfl, rfl, rfl, rfl, rfl, rfl, rfl, rfl, rfl, rfl, rfl, rfl, rfl, rfl, rfl, rfl, rfl, rfl, rfl, rfl, rfl, rfl, rfl, rfl, rfl, rfl, rfl, rfl, rfl, rfl, rfl, rfl, rfl, rfl, rfl, rfl, rfl, rfl, rfl, rfl, rfl, rfl, rfl, rfl, rfl, rfl, rfl, rfl, rfl, rfl, rfl, rfl, rfl, rfl, rfl, rfl, rfl, rfl, rfl, rfl, rfl⟩

@[simp] theorem State.setFlt_readers (s : State) (n : Nat) (f : FltSt) :
    (s.setFlt n f).reg = s.reg ∧ (s.setFlt n f).count = s.count ∧ (s.setFlt n f).rejections = s.rejections ∧
    (s.setFlt n f).link = s.link ∧ (s.setFlt n f).port = s.port ∧ (s.setFlt n f).rule = s.rule ∧
    (s.setFlt n f).src = s.src ∧ (s.setFlt n f).bar = s.bar ∧ (s.setFlt n f).whisk = s.whisk ∧
    (s.setFlt n f).line = s.line ∧ (s.setFlt n f).px = s.px ∧ (s.setFlt n f).can = s.can ∧ (s.setFlt n f).fence = s.fence ∧
    (s.setFlt n f).ring = s.ring ∧ (s.setFlt n f).bar4 = s.bar4 ∧ (s.setFlt n f).iol = s.iol ∧ (s.setFlt n f).dup = s.dup ∧
    (s.setFlt n f).pan = s.pan ∧ (s.setFlt n f).fuse = s.fuse ∧ (s.setFlt n f).queue = s.queue ∧ (s.setFlt n f).rs = s.rs ∧
    (s.setFlt n f).bridge = s.bridge ∧ (s.setFlt n f).timer = s.timer ∧ (s.setFlt n f).capture = s.capture ∧
    (s.setFlt n f).pd = s.pd ∧ (s.setFlt n f).tun = s.tun ∧ (s.setFlt n f).swq = s.swq ∧ (s.setFlt n f).meter = s.meter ∧
    (s.setFlt n f).gatePending = s.gatePending ∧ (s.setFlt n f).announce = s.announce ∧
    (s.setFlt n f).mailbox = s.mailbox := by
  refine ⟨rfl, rfl, rfl, rfl, rfl, rfl, rfl, rfl, rfl, rfl, rfl, rfl, rfl, rfl, rfl, rfl, rfl, rfl, rfl, rfl, rfl, rfl, rfl, rfl, rfl, rfl, rfl, rfl, rfl, rfl, rfl⟩

@[simp] theorem State.setLine_fields (s : State) (i : Nat) (l : LineSt) :
    (s.setLine i l).run = s.run ∧ (s.setLine i l).clock = s.clock ∧ (s.setLine i l).ftimeQ = s.ftimeQ ∧
    (s.setLine i l).straps = s.straps ∧ (s.setLine i l).resetCause = s.resetCause ∧ (s.setLine i l).regs = s.regs ∧
    (s.setLine i l).cnt = s.cnt ∧ (s.setLine i l).rejects = s.rejects ∧ (s.setLine i l).free = s.free ∧
    (s.setLine i l).hub = s.hub ∧ (s.setLine i l).answers = s.answers ∧ (s.setLine i l).role = s.role ∧
    (s.setLine i l).links = s.links ∧ (s.setLine i l).tx = s.tx ∧ (s.setLine i l).ingress = s.ingress ∧
    (s.setLine i l).sent = s.sent ∧ (s.setLine i l).inbox = s.inbox ∧ (s.setLine i l).landing = s.landing ∧
    (s.setLine i l).seqNext = s.seqNext ∧ (s.setLine i l).origTimes = s.origTimes ∧ (s.setLine i l).origHeld = s.origHeld ∧
    (s.setLine i l).dups = s.dups ∧ (s.setLine i l).tie = s.tie ∧ (s.setLine i l).settleEnds = s.settleEnds ∧
    (s.setLine i l).field = s.field ∧ (s.setLine i l).healthAt = s.healthAt ∧ (s.setLine i l).sources = s.sources ∧
    (s.setLine i l).records = s.records ∧ (s.setLine i l).recordLoss = s.recordLoss ∧
    (s.setLine i l).deliveries = s.deliveries ∧ (s.setLine i l).msix = s.msix ∧ (s.setLine i l).faults = s.faults ∧
    (s.setLine i l).cru = s.cru ∧ (s.setLine i l).copper = s.copper ∧ (s.setLine i l).assigned = s.assigned ∧
    (s.setLine i l).disc = s.disc ∧ (s.setLine i l).img = s.img ∧ (s.setLine i l).mirror = s.mirror ∧
    (s.setLine i l).hist = s.hist ∧ (s.setLine i l).time = s.time ∧ (s.setLine i l).timers = s.timers ∧
    (s.setLine i l).captures = s.captures ∧ (s.setLine i l).queues = s.queues ∧ (s.setLine i l).busReads = s.busReads ∧
    (s.setLine i l).pxs = s.pxs ∧ (s.setLine i l).cans = s.cans ∧ (s.setLine i l).rss = s.rss ∧
    (s.setLine i l).rsSent = s.rsSent ∧ (s.setLine i l).bridges = s.bridges ∧ (s.setLine i l).iols = s.iols ∧
    (s.setLine i l).whisks = s.whisks ∧ (s.setLine i l).sw = s.sw ∧ (s.setLine i l).bar0 = s.bar0 ∧
    (s.setLine i l).host = s.host ∧ (s.setLine i l).dict = s.dict ∧ (s.setLine i l).recordsIn = s.recordsIn ∧
    (s.setLine i l).fences = s.fences ∧ (s.setLine i l).fenceOrder = s.fenceOrder ∧
    (s.setLine i l).writeSentAt = s.writeSentAt ∧ (s.setLine i l).writeHeld = s.writeHeld ∧
    (s.setLine i l).peerReady = s.peerReady ∧ (s.setLine i l).handInstant = s.handInstant ∧ (s.setLine i l).twin = s.twin ∧
    (s.setLine i l).pertCount = s.pertCount ∧ (s.setLine i l).pertEnds = s.pertEnds ∧ (s.setLine i l).rules = s.rules ∧
    (s.setLine i l).gaugeLog = s.gaugeLog ∧ (s.setLine i l).gaugeIn = s.gaugeIn ∧ (s.setLine i l).pans = s.pans ∧
    (s.setLine i l).fuses = s.fuses ∧ (s.setLine i l).power = s.power ∧ (s.setLine i l).tagHeld = s.tagHeld ∧
    (s.setLine i l).keys = s.keys ∧ (s.setLine i l).boot = s.boot ∧ (s.setLine i l).uartSent = s.uartSent ∧
    (s.setLine i l).jtag = s.jtag ∧ (s.setLine i l).pending = s.pending := by
  refine ⟨rfl, rfl, rfl, rfl, rfl, rfl, rfl, rfl, rfl, rfl, rfl, rfl, rfl, rfl, rfl, rfl, rfl, rfl, rfl, rfl, rfl, rfl, rfl, rfl, rfl, rfl, rfl, rfl, rfl, rfl, rfl, rfl, rfl, rfl, rfl, rfl, rfl, rfl, rfl, rfl, rfl, rfl, rfl, rfl, rfl, rfl, rfl, rfl, rfl, rfl, rfl, rfl, rfl, rfl, rfl, rfl, rfl, rfl, rfl, rfl, rfl, rfl, rfl, rfl, rfl, rfl, rfl, rfl, rfl, rfl, rfl, rfl, rfl, rfl, rfl, rfl, rfl⟩

@[simp] theorem State.setLine_readers (s : State) (i : Nat) (l : LineSt) :
    (s.setLine i l).reg = s.reg ∧ (s.setLine i l).count = s.count ∧ (s.setLine i l).rejections = s.rejections ∧
    (s.setLine i l).link = s.link ∧ (s.setLine i l).port = s.port ∧ (s.setLine i l).rule = s.rule ∧
    (s.setLine i l).src = s.src ∧ (s.setLine i l).bar = s.bar ∧ (s.setLine i l).whisk = s.whisk ∧
    (s.setLine i l).flt = s.flt ∧ (s.setLine i l).px = s.px ∧ (s.setLine i l).can = s.can ∧
    (s.setLine i l).fence = s.fence ∧ (s.setLine i l).ring = s.ring ∧ (s.setLine i l).bar4 = s.bar4 ∧
    (s.setLine i l).iol = s.iol ∧ (s.setLine i l).dup = s.dup ∧ (s.setLine i l).pan = s.pan ∧
    (s.setLine i l).fuse = s.fuse ∧ (s.setLine i l).queue = s.queue ∧ (s.setLine i l).rs = s.rs ∧
    (s.setLine i l).bridge = s.bridge ∧ (s.setLine i l).timer = s.timer ∧ (s.setLine i l).capture = s.capture ∧
    (s.setLine i l).pd = s.pd ∧ (s.setLine i l).tun = s.tun ∧ (s.setLine i l).swq = s.swq ∧
    (s.setLine i l).meter = s.meter ∧ (s.setLine i l).gatePending = s.gatePending ∧ (s.setLine i l).announce = s.announce ∧
    (s.setLine i l).mailbox = s.mailbox := by
  refine ⟨rfl, rfl, rfl, rfl, rfl, rfl, rfl, rfl, rfl, rfl, rfl, rfl, rfl, rfl, rfl, rfl, rfl, rfl, rfl, rfl, rfl, rfl, rfl, rfl, rfl, rfl, rfl, rfl, rfl, rfl, rfl⟩

@[simp] theorem State.setPx_fields (s : State) (x : Nat) (p : PxSt) :
    (s.setPx x p).run = s.run ∧ (s.setPx x p).clock = s.clock ∧ (s.setPx x p).ftimeQ = s.ftimeQ ∧
    (s.setPx x p).straps = s.straps ∧ (s.setPx x p).resetCause = s.resetCause ∧ (s.setPx x p).regs = s.regs ∧
    (s.setPx x p).cnt = s.cnt ∧ (s.setPx x p).rejects = s.rejects ∧ (s.setPx x p).free = s.free ∧
    (s.setPx x p).hub = s.hub ∧ (s.setPx x p).answers = s.answers ∧ (s.setPx x p).role = s.role ∧
    (s.setPx x p).links = s.links ∧ (s.setPx x p).tx = s.tx ∧ (s.setPx x p).ingress = s.ingress ∧
    (s.setPx x p).sent = s.sent ∧ (s.setPx x p).inbox = s.inbox ∧ (s.setPx x p).landing = s.landing ∧
    (s.setPx x p).seqNext = s.seqNext ∧ (s.setPx x p).origTimes = s.origTimes ∧ (s.setPx x p).origHeld = s.origHeld ∧
    (s.setPx x p).dups = s.dups ∧ (s.setPx x p).tie = s.tie ∧ (s.setPx x p).settleEnds = s.settleEnds ∧
    (s.setPx x p).field = s.field ∧ (s.setPx x p).healthAt = s.healthAt ∧ (s.setPx x p).sources = s.sources ∧
    (s.setPx x p).records = s.records ∧ (s.setPx x p).recordLoss = s.recordLoss ∧ (s.setPx x p).deliveries = s.deliveries ∧
    (s.setPx x p).msix = s.msix ∧ (s.setPx x p).faults = s.faults ∧ (s.setPx x p).cru = s.cru ∧
    (s.setPx x p).copper = s.copper ∧ (s.setPx x p).assigned = s.assigned ∧ (s.setPx x p).disc = s.disc ∧
    (s.setPx x p).img = s.img ∧ (s.setPx x p).mirror = s.mirror ∧ (s.setPx x p).hist = s.hist ∧
    (s.setPx x p).time = s.time ∧ (s.setPx x p).timers = s.timers ∧ (s.setPx x p).captures = s.captures ∧
    (s.setPx x p).queues = s.queues ∧ (s.setPx x p).busReads = s.busReads ∧ (s.setPx x p).lines = s.lines ∧
    (s.setPx x p).cans = s.cans ∧ (s.setPx x p).rss = s.rss ∧ (s.setPx x p).rsSent = s.rsSent ∧
    (s.setPx x p).bridges = s.bridges ∧ (s.setPx x p).iols = s.iols ∧ (s.setPx x p).whisks = s.whisks ∧
    (s.setPx x p).sw = s.sw ∧ (s.setPx x p).bar0 = s.bar0 ∧ (s.setPx x p).host = s.host ∧ (s.setPx x p).dict = s.dict ∧
    (s.setPx x p).recordsIn = s.recordsIn ∧ (s.setPx x p).fences = s.fences ∧ (s.setPx x p).fenceOrder = s.fenceOrder ∧
    (s.setPx x p).writeSentAt = s.writeSentAt ∧ (s.setPx x p).writeHeld = s.writeHeld ∧
    (s.setPx x p).peerReady = s.peerReady ∧ (s.setPx x p).handInstant = s.handInstant ∧ (s.setPx x p).twin = s.twin ∧
    (s.setPx x p).pertCount = s.pertCount ∧ (s.setPx x p).pertEnds = s.pertEnds ∧ (s.setPx x p).rules = s.rules ∧
    (s.setPx x p).gaugeLog = s.gaugeLog ∧ (s.setPx x p).gaugeIn = s.gaugeIn ∧ (s.setPx x p).pans = s.pans ∧
    (s.setPx x p).fuses = s.fuses ∧ (s.setPx x p).power = s.power ∧ (s.setPx x p).tagHeld = s.tagHeld ∧
    (s.setPx x p).keys = s.keys ∧ (s.setPx x p).boot = s.boot ∧ (s.setPx x p).uartSent = s.uartSent ∧
    (s.setPx x p).jtag = s.jtag ∧ (s.setPx x p).pending = s.pending := by
  refine ⟨rfl, rfl, rfl, rfl, rfl, rfl, rfl, rfl, rfl, rfl, rfl, rfl, rfl, rfl, rfl, rfl, rfl, rfl, rfl, rfl, rfl, rfl, rfl, rfl, rfl, rfl, rfl, rfl, rfl, rfl, rfl, rfl, rfl, rfl, rfl, rfl, rfl, rfl, rfl, rfl, rfl, rfl, rfl, rfl, rfl, rfl, rfl, rfl, rfl, rfl, rfl, rfl, rfl, rfl, rfl, rfl, rfl, rfl, rfl, rfl, rfl, rfl, rfl, rfl, rfl, rfl, rfl, rfl, rfl, rfl, rfl, rfl, rfl, rfl, rfl, rfl, rfl⟩

@[simp] theorem State.setPx_readers (s : State) (x : Nat) (p : PxSt) :
    (s.setPx x p).reg = s.reg ∧ (s.setPx x p).count = s.count ∧ (s.setPx x p).rejections = s.rejections ∧
    (s.setPx x p).link = s.link ∧ (s.setPx x p).port = s.port ∧ (s.setPx x p).rule = s.rule ∧ (s.setPx x p).src = s.src ∧
    (s.setPx x p).bar = s.bar ∧ (s.setPx x p).whisk = s.whisk ∧ (s.setPx x p).flt = s.flt ∧ (s.setPx x p).line = s.line ∧
    (s.setPx x p).can = s.can ∧ (s.setPx x p).fence = s.fence ∧ (s.setPx x p).ring = s.ring ∧ (s.setPx x p).bar4 = s.bar4 ∧
    (s.setPx x p).iol = s.iol ∧ (s.setPx x p).dup = s.dup ∧ (s.setPx x p).pan = s.pan ∧ (s.setPx x p).fuse = s.fuse ∧
    (s.setPx x p).queue = s.queue ∧ (s.setPx x p).rs = s.rs ∧ (s.setPx x p).bridge = s.bridge ∧
    (s.setPx x p).timer = s.timer ∧ (s.setPx x p).capture = s.capture ∧ (s.setPx x p).pd = s.pd ∧
    (s.setPx x p).tun = s.tun ∧ (s.setPx x p).swq = s.swq ∧ (s.setPx x p).meter = s.meter ∧
    (s.setPx x p).gatePending = s.gatePending ∧ (s.setPx x p).announce = s.announce ∧ (s.setPx x p).mailbox = s.mailbox := by
  refine ⟨rfl, rfl, rfl, rfl, rfl, rfl, rfl, rfl, rfl, rfl, rfl, rfl, rfl, rfl, rfl, rfl, rfl, rfl, rfl, rfl, rfl, rfl, rfl, rfl, rfl, rfl, rfl, rfl, rfl, rfl, rfl⟩

@[simp] theorem State.unsteady_fields (s : State) :
    (s.unsteady).run = s.run ∧ (s.unsteady).clock = s.clock ∧ (s.unsteady).ftimeQ = s.ftimeQ ∧
    (s.unsteady).straps = s.straps ∧ (s.unsteady).resetCause = s.resetCause ∧ (s.unsteady).regs = s.regs ∧
    (s.unsteady).cnt = s.cnt ∧ (s.unsteady).rejects = s.rejects ∧ (s.unsteady).free = s.free ∧ (s.unsteady).hub = s.hub ∧
    (s.unsteady).answers = s.answers ∧ (s.unsteady).role = s.role ∧ (s.unsteady).links = s.links ∧ (s.unsteady).tx = s.tx ∧
    (s.unsteady).ingress = s.ingress ∧ (s.unsteady).sent = s.sent ∧ (s.unsteady).inbox = s.inbox ∧
    (s.unsteady).landing = s.landing ∧ (s.unsteady).seqNext = s.seqNext ∧ (s.unsteady).origTimes = s.origTimes ∧
    (s.unsteady).origHeld = s.origHeld ∧ (s.unsteady).dups = s.dups ∧ (s.unsteady).tie = s.tie ∧
    (s.unsteady).settleEnds = s.settleEnds ∧ (s.unsteady).healthAt = s.healthAt ∧ (s.unsteady).sources = s.sources ∧
    (s.unsteady).records = s.records ∧ (s.unsteady).recordLoss = s.recordLoss ∧ (s.unsteady).deliveries = s.deliveries ∧
    (s.unsteady).msix = s.msix ∧ (s.unsteady).faults = s.faults ∧ (s.unsteady).cru = s.cru ∧
    (s.unsteady).copper = s.copper ∧ (s.unsteady).assigned = s.assigned ∧ (s.unsteady).disc = s.disc ∧
    (s.unsteady).img = s.img ∧ (s.unsteady).mirror = s.mirror ∧ (s.unsteady).hist = s.hist ∧ (s.unsteady).time = s.time ∧
    (s.unsteady).timers = s.timers ∧ (s.unsteady).captures = s.captures ∧ (s.unsteady).queues = s.queues ∧
    (s.unsteady).busReads = s.busReads ∧ (s.unsteady).lines = s.lines ∧ (s.unsteady).pxs = s.pxs ∧
    (s.unsteady).cans = s.cans ∧ (s.unsteady).rss = s.rss ∧ (s.unsteady).rsSent = s.rsSent ∧
    (s.unsteady).bridges = s.bridges ∧ (s.unsteady).iols = s.iols ∧ (s.unsteady).whisks = s.whisks ∧
    (s.unsteady).sw = s.sw ∧ (s.unsteady).bar0 = s.bar0 ∧ (s.unsteady).host = s.host ∧ (s.unsteady).dict = s.dict ∧
    (s.unsteady).recordsIn = s.recordsIn ∧ (s.unsteady).fences = s.fences ∧ (s.unsteady).fenceOrder = s.fenceOrder ∧
    (s.unsteady).writeSentAt = s.writeSentAt ∧ (s.unsteady).writeHeld = s.writeHeld ∧ (s.unsteady).peerReady = s.peerReady ∧
    (s.unsteady).handInstant = s.handInstant ∧ (s.unsteady).twin = s.twin ∧ (s.unsteady).pertCount = s.pertCount ∧
    (s.unsteady).pertEnds = s.pertEnds ∧ (s.unsteady).rules = s.rules ∧ (s.unsteady).gaugeLog = s.gaugeLog ∧
    (s.unsteady).gaugeIn = s.gaugeIn ∧ (s.unsteady).pans = s.pans ∧ (s.unsteady).fuses = s.fuses ∧
    (s.unsteady).power = s.power ∧ (s.unsteady).tagHeld = s.tagHeld ∧ (s.unsteady).keys = s.keys ∧
    (s.unsteady).boot = s.boot ∧ (s.unsteady).uartSent = s.uartSent ∧ (s.unsteady).jtag = s.jtag ∧
    (s.unsteady).pending = s.pending := by
  refine ⟨rfl, rfl, rfl, rfl, rfl, rfl, rfl, rfl, rfl, rfl, rfl, rfl, rfl, rfl, rfl, rfl, rfl, rfl, rfl, rfl, rfl, rfl, rfl, rfl, rfl, rfl, rfl, rfl, rfl, rfl, rfl, rfl, rfl, rfl, rfl, rfl, rfl, rfl, rfl, rfl, rfl, rfl, rfl, rfl, rfl, rfl, rfl, rfl, rfl, rfl, rfl, rfl, rfl, rfl, rfl, rfl, rfl, rfl, rfl, rfl, rfl, rfl, rfl, rfl, rfl, rfl, rfl, rfl, rfl, rfl, rfl, rfl, rfl, rfl, rfl, rfl, rfl⟩

@[simp] theorem State.unsteady_readers (s : State) :
    (s.unsteady).reg = s.reg ∧ (s.unsteady).count = s.count ∧ (s.unsteady).rejections = s.rejections ∧
    (s.unsteady).link = s.link ∧ (s.unsteady).port = s.port ∧ (s.unsteady).rule = s.rule ∧ (s.unsteady).src = s.src ∧
    (s.unsteady).bar = s.bar ∧ (s.unsteady).whisk = s.whisk ∧ (s.unsteady).flt = s.flt ∧ (s.unsteady).line = s.line ∧
    (s.unsteady).px = s.px ∧ (s.unsteady).can = s.can ∧ (s.unsteady).fence = s.fence ∧ (s.unsteady).ring = s.ring ∧
    (s.unsteady).bar4 = s.bar4 ∧ (s.unsteady).iol = s.iol ∧ (s.unsteady).dup = s.dup ∧ (s.unsteady).pan = s.pan ∧
    (s.unsteady).fuse = s.fuse ∧ (s.unsteady).queue = s.queue ∧ (s.unsteady).rs = s.rs ∧ (s.unsteady).bridge = s.bridge ∧
    (s.unsteady).timer = s.timer ∧ (s.unsteady).capture = s.capture ∧ (s.unsteady).pd = s.pd ∧ (s.unsteady).tun = s.tun ∧
    (s.unsteady).swq = s.swq ∧ (s.unsteady).meter = s.meter ∧ (s.unsteady).gatePending = s.gatePending ∧
    (s.unsteady).announce = s.announce ∧ (s.unsteady).mailbox = s.mailbox := by
  refine ⟨rfl, rfl, rfl, rfl, rfl, rfl, rfl, rfl, rfl, rfl, rfl, rfl, rfl, rfl, rfl, rfl, rfl, rfl, rfl, rfl, rfl, rfl, rfl, rfl, rfl, rfl, rfl, rfl, rfl, rfl, rfl, rfl⟩

@[simp] theorem State.log_fields (s : State) (cls source : Nat) (data : List Byte) :
    (s.log cls source data).run = s.run ∧ (s.log cls source data).clock = s.clock ∧
    (s.log cls source data).ftimeQ = s.ftimeQ ∧ (s.log cls source data).straps = s.straps ∧
    (s.log cls source data).resetCause = s.resetCause ∧ (s.log cls source data).regs = s.regs ∧
    (s.log cls source data).cnt = s.cnt ∧ (s.log cls source data).rejects = s.rejects ∧
    (s.log cls source data).free = s.free ∧ (s.log cls source data).hub = s.hub ∧
    (s.log cls source data).answers = s.answers ∧ (s.log cls source data).role = s.role ∧
    (s.log cls source data).links = s.links ∧ (s.log cls source data).tx = s.tx ∧
    (s.log cls source data).ingress = s.ingress ∧ (s.log cls source data).sent = s.sent ∧
    (s.log cls source data).inbox = s.inbox ∧ (s.log cls source data).landing = s.landing ∧
    (s.log cls source data).seqNext = s.seqNext ∧ (s.log cls source data).origTimes = s.origTimes ∧
    (s.log cls source data).origHeld = s.origHeld ∧ (s.log cls source data).dups = s.dups ∧
    (s.log cls source data).tie = s.tie ∧ (s.log cls source data).settleEnds = s.settleEnds ∧
    (s.log cls source data).field = s.field ∧ (s.log cls source data).healthAt = s.healthAt ∧
    (s.log cls source data).sources = s.sources ∧ (s.log cls source data).records = s.records ∧
    (s.log cls source data).recordLoss = s.recordLoss ∧ (s.log cls source data).deliveries = s.deliveries ∧
    (s.log cls source data).msix = s.msix ∧ (s.log cls source data).faults = s.faults ∧
    (s.log cls source data).copper = s.copper ∧ (s.log cls source data).assigned = s.assigned ∧
    (s.log cls source data).disc = s.disc ∧ (s.log cls source data).img = s.img ∧
    (s.log cls source data).mirror = s.mirror ∧ (s.log cls source data).hist = s.hist ∧
    (s.log cls source data).time = s.time ∧ (s.log cls source data).timers = s.timers ∧
    (s.log cls source data).captures = s.captures ∧ (s.log cls source data).queues = s.queues ∧
    (s.log cls source data).busReads = s.busReads ∧ (s.log cls source data).lines = s.lines ∧
    (s.log cls source data).pxs = s.pxs ∧ (s.log cls source data).cans = s.cans ∧ (s.log cls source data).rss = s.rss ∧
    (s.log cls source data).rsSent = s.rsSent ∧ (s.log cls source data).bridges = s.bridges ∧
    (s.log cls source data).iols = s.iols ∧ (s.log cls source data).whisks = s.whisks ∧ (s.log cls source data).sw = s.sw ∧
    (s.log cls source data).bar0 = s.bar0 ∧ (s.log cls source data).host = s.host ∧ (s.log cls source data).dict = s.dict ∧
    (s.log cls source data).recordsIn = s.recordsIn ∧ (s.log cls source data).fences = s.fences ∧
    (s.log cls source data).fenceOrder = s.fenceOrder ∧ (s.log cls source data).writeSentAt = s.writeSentAt ∧
    (s.log cls source data).writeHeld = s.writeHeld ∧ (s.log cls source data).peerReady = s.peerReady ∧
    (s.log cls source data).handInstant = s.handInstant ∧ (s.log cls source data).twin = s.twin ∧
    (s.log cls source data).pertCount = s.pertCount ∧ (s.log cls source data).pertEnds = s.pertEnds ∧
    (s.log cls source data).rules = s.rules ∧ (s.log cls source data).gaugeLog = s.gaugeLog ∧
    (s.log cls source data).gaugeIn = s.gaugeIn ∧ (s.log cls source data).pans = s.pans ∧
    (s.log cls source data).fuses = s.fuses ∧ (s.log cls source data).power = s.power ∧
    (s.log cls source data).tagHeld = s.tagHeld ∧ (s.log cls source data).keys = s.keys ∧
    (s.log cls source data).boot = s.boot ∧ (s.log cls source data).uartSent = s.uartSent ∧
    (s.log cls source data).jtag = s.jtag ∧ (s.log cls source data).pending = s.pending := by
  refine ⟨rfl, rfl, rfl, rfl, rfl, rfl, rfl, rfl, rfl, rfl, rfl, rfl, rfl, rfl, rfl, rfl, rfl, rfl, rfl, rfl, rfl, rfl, rfl, rfl, rfl, rfl, rfl, rfl, rfl, rfl, rfl, rfl, rfl, rfl, rfl, rfl, rfl, rfl, rfl, rfl, rfl, rfl, rfl, rfl, rfl, rfl, rfl, rfl, rfl, rfl, rfl, rfl, rfl, rfl, rfl, rfl, rfl, rfl, rfl, rfl, rfl, rfl, rfl, rfl, rfl, rfl, rfl, rfl, rfl, rfl, rfl, rfl, rfl, rfl, rfl, rfl, rfl⟩

@[simp] theorem State.log_readers (s : State) (cls source : Nat) (data : List Byte) :
    (s.log cls source data).reg = s.reg ∧ (s.log cls source data).count = s.count ∧
    (s.log cls source data).rejections = s.rejections ∧ (s.log cls source data).link = s.link ∧
    (s.log cls source data).port = s.port ∧ (s.log cls source data).rule = s.rule ∧ (s.log cls source data).src = s.src ∧
    (s.log cls source data).bar = s.bar ∧ (s.log cls source data).whisk = s.whisk ∧ (s.log cls source data).flt = s.flt ∧
    (s.log cls source data).line = s.line ∧ (s.log cls source data).px = s.px ∧ (s.log cls source data).can = s.can ∧
    (s.log cls source data).fence = s.fence ∧ (s.log cls source data).ring = s.ring ∧
    (s.log cls source data).bar4 = s.bar4 ∧ (s.log cls source data).iol = s.iol ∧ (s.log cls source data).dup = s.dup ∧
    (s.log cls source data).pan = s.pan ∧ (s.log cls source data).fuse = s.fuse ∧ (s.log cls source data).queue = s.queue ∧
    (s.log cls source data).rs = s.rs ∧ (s.log cls source data).bridge = s.bridge ∧
    (s.log cls source data).timer = s.timer ∧ (s.log cls source data).capture = s.capture ∧
    (s.log cls source data).pd = s.pd ∧ (s.log cls source data).tun = s.tun ∧ (s.log cls source data).swq = s.swq ∧
    (s.log cls source data).meter = s.meter ∧ (s.log cls source data).gatePending = s.gatePending ∧
    (s.log cls source data).announce = s.announce ∧ (s.log cls source data).mailbox = s.mailbox := by
  refine ⟨rfl, rfl, rfl, rfl, rfl, rfl, rfl, rfl, rfl, rfl, rfl, rfl, rfl, rfl, rfl, rfl, rfl, rfl, rfl, rfl, rfl, rfl, rfl, rfl, rfl, rfl, rfl, rfl, rfl, rfl, rfl, rfl⟩

@[simp] theorem State.setCan_fields (s : State) (c : Nat) (x : CanSt) :
    (s.setCan c x).run = s.run ∧ (s.setCan c x).clock = s.clock ∧ (s.setCan c x).ftimeQ = s.ftimeQ ∧
    (s.setCan c x).straps = s.straps ∧ (s.setCan c x).resetCause = s.resetCause ∧ (s.setCan c x).regs = s.regs ∧
    (s.setCan c x).cnt = s.cnt ∧ (s.setCan c x).rejects = s.rejects ∧ (s.setCan c x).free = s.free ∧
    (s.setCan c x).hub = s.hub ∧ (s.setCan c x).answers = s.answers ∧ (s.setCan c x).role = s.role ∧
    (s.setCan c x).links = s.links ∧ (s.setCan c x).tx = s.tx ∧ (s.setCan c x).ingress = s.ingress ∧
    (s.setCan c x).sent = s.sent ∧ (s.setCan c x).inbox = s.inbox ∧ (s.setCan c x).landing = s.landing ∧
    (s.setCan c x).seqNext = s.seqNext ∧ (s.setCan c x).origTimes = s.origTimes ∧ (s.setCan c x).origHeld = s.origHeld ∧
    (s.setCan c x).dups = s.dups ∧ (s.setCan c x).tie = s.tie ∧ (s.setCan c x).settleEnds = s.settleEnds ∧
    (s.setCan c x).field = s.field ∧ (s.setCan c x).healthAt = s.healthAt ∧ (s.setCan c x).sources = s.sources ∧
    (s.setCan c x).records = s.records ∧ (s.setCan c x).recordLoss = s.recordLoss ∧
    (s.setCan c x).deliveries = s.deliveries ∧ (s.setCan c x).msix = s.msix ∧ (s.setCan c x).faults = s.faults ∧
    (s.setCan c x).cru = s.cru ∧ (s.setCan c x).copper = s.copper ∧ (s.setCan c x).assigned = s.assigned ∧
    (s.setCan c x).disc = s.disc ∧ (s.setCan c x).img = s.img ∧ (s.setCan c x).mirror = s.mirror ∧
    (s.setCan c x).hist = s.hist ∧ (s.setCan c x).time = s.time ∧ (s.setCan c x).timers = s.timers ∧
    (s.setCan c x).captures = s.captures ∧ (s.setCan c x).queues = s.queues ∧ (s.setCan c x).busReads = s.busReads ∧
    (s.setCan c x).lines = s.lines ∧ (s.setCan c x).pxs = s.pxs ∧ (s.setCan c x).rss = s.rss ∧
    (s.setCan c x).rsSent = s.rsSent ∧ (s.setCan c x).bridges = s.bridges ∧ (s.setCan c x).iols = s.iols ∧
    (s.setCan c x).whisks = s.whisks ∧ (s.setCan c x).sw = s.sw ∧ (s.setCan c x).bar0 = s.bar0 ∧
    (s.setCan c x).host = s.host ∧ (s.setCan c x).dict = s.dict ∧ (s.setCan c x).recordsIn = s.recordsIn ∧
    (s.setCan c x).fences = s.fences ∧ (s.setCan c x).fenceOrder = s.fenceOrder ∧
    (s.setCan c x).writeSentAt = s.writeSentAt ∧ (s.setCan c x).writeHeld = s.writeHeld ∧
    (s.setCan c x).peerReady = s.peerReady ∧ (s.setCan c x).handInstant = s.handInstant ∧ (s.setCan c x).twin = s.twin ∧
    (s.setCan c x).pertCount = s.pertCount ∧ (s.setCan c x).pertEnds = s.pertEnds ∧ (s.setCan c x).rules = s.rules ∧
    (s.setCan c x).gaugeLog = s.gaugeLog ∧ (s.setCan c x).gaugeIn = s.gaugeIn ∧ (s.setCan c x).pans = s.pans ∧
    (s.setCan c x).fuses = s.fuses ∧ (s.setCan c x).power = s.power ∧ (s.setCan c x).tagHeld = s.tagHeld ∧
    (s.setCan c x).keys = s.keys ∧ (s.setCan c x).boot = s.boot ∧ (s.setCan c x).uartSent = s.uartSent ∧
    (s.setCan c x).jtag = s.jtag ∧ (s.setCan c x).pending = s.pending := by
  refine ⟨rfl, rfl, rfl, rfl, rfl, rfl, rfl, rfl, rfl, rfl, rfl, rfl, rfl, rfl, rfl, rfl, rfl, rfl, rfl, rfl, rfl, rfl, rfl, rfl, rfl, rfl, rfl, rfl, rfl, rfl, rfl, rfl, rfl, rfl, rfl, rfl, rfl, rfl, rfl, rfl, rfl, rfl, rfl, rfl, rfl, rfl, rfl, rfl, rfl, rfl, rfl, rfl, rfl, rfl, rfl, rfl, rfl, rfl, rfl, rfl, rfl, rfl, rfl, rfl, rfl, rfl, rfl, rfl, rfl, rfl, rfl, rfl, rfl, rfl, rfl, rfl, rfl⟩

@[simp] theorem State.setCan_readers (s : State) (c : Nat) (x : CanSt) :
    (s.setCan c x).reg = s.reg ∧ (s.setCan c x).count = s.count ∧ (s.setCan c x).rejections = s.rejections ∧
    (s.setCan c x).link = s.link ∧ (s.setCan c x).port = s.port ∧ (s.setCan c x).rule = s.rule ∧
    (s.setCan c x).src = s.src ∧ (s.setCan c x).bar = s.bar ∧ (s.setCan c x).whisk = s.whisk ∧ (s.setCan c x).flt = s.flt ∧
    (s.setCan c x).line = s.line ∧ (s.setCan c x).px = s.px ∧ (s.setCan c x).fence = s.fence ∧
    (s.setCan c x).ring = s.ring ∧ (s.setCan c x).bar4 = s.bar4 ∧ (s.setCan c x).iol = s.iol ∧ (s.setCan c x).dup = s.dup ∧
    (s.setCan c x).pan = s.pan ∧ (s.setCan c x).fuse = s.fuse ∧ (s.setCan c x).queue = s.queue ∧ (s.setCan c x).rs = s.rs ∧
    (s.setCan c x).bridge = s.bridge ∧ (s.setCan c x).timer = s.timer ∧ (s.setCan c x).capture = s.capture ∧
    (s.setCan c x).pd = s.pd ∧ (s.setCan c x).tun = s.tun ∧ (s.setCan c x).swq = s.swq ∧ (s.setCan c x).meter = s.meter ∧
    (s.setCan c x).gatePending = s.gatePending ∧ (s.setCan c x).announce = s.announce := by
  refine ⟨rfl, rfl, rfl, rfl, rfl, rfl, rfl, rfl, rfl, rfl, rfl, rfl, rfl, rfl, rfl, rfl, rfl, rfl, rfl, rfl, rfl, rfl, rfl, rfl, rfl, rfl, rfl, rfl, rfl, rfl⟩

@[simp] theorem State.setRing_fields (s : State) (r : Nat) (x : RingSt) :
    (s.setRing r x).run = s.run ∧ (s.setRing r x).clock = s.clock ∧ (s.setRing r x).ftimeQ = s.ftimeQ ∧
    (s.setRing r x).straps = s.straps ∧ (s.setRing r x).resetCause = s.resetCause ∧ (s.setRing r x).regs = s.regs ∧
    (s.setRing r x).cnt = s.cnt ∧ (s.setRing r x).rejects = s.rejects ∧ (s.setRing r x).free = s.free ∧
    (s.setRing r x).hub = s.hub ∧ (s.setRing r x).answers = s.answers ∧ (s.setRing r x).role = s.role ∧
    (s.setRing r x).links = s.links ∧ (s.setRing r x).tx = s.tx ∧ (s.setRing r x).ingress = s.ingress ∧
    (s.setRing r x).sent = s.sent ∧ (s.setRing r x).inbox = s.inbox ∧ (s.setRing r x).landing = s.landing ∧
    (s.setRing r x).seqNext = s.seqNext ∧ (s.setRing r x).origTimes = s.origTimes ∧ (s.setRing r x).origHeld = s.origHeld ∧
    (s.setRing r x).dups = s.dups ∧ (s.setRing r x).tie = s.tie ∧ (s.setRing r x).settleEnds = s.settleEnds ∧
    (s.setRing r x).field = s.field ∧ (s.setRing r x).healthAt = s.healthAt ∧ (s.setRing r x).sources = s.sources ∧
    (s.setRing r x).records = s.records ∧ (s.setRing r x).recordLoss = s.recordLoss ∧
    (s.setRing r x).deliveries = s.deliveries ∧ (s.setRing r x).msix = s.msix ∧ (s.setRing r x).faults = s.faults ∧
    (s.setRing r x).cru = s.cru ∧ (s.setRing r x).copper = s.copper ∧ (s.setRing r x).assigned = s.assigned ∧
    (s.setRing r x).disc = s.disc ∧ (s.setRing r x).img = s.img ∧ (s.setRing r x).mirror = s.mirror ∧
    (s.setRing r x).hist = s.hist ∧ (s.setRing r x).time = s.time ∧ (s.setRing r x).timers = s.timers ∧
    (s.setRing r x).captures = s.captures ∧ (s.setRing r x).queues = s.queues ∧ (s.setRing r x).busReads = s.busReads ∧
    (s.setRing r x).lines = s.lines ∧ (s.setRing r x).pxs = s.pxs ∧ (s.setRing r x).cans = s.cans ∧
    (s.setRing r x).rss = s.rss ∧ (s.setRing r x).rsSent = s.rsSent ∧ (s.setRing r x).bridges = s.bridges ∧
    (s.setRing r x).iols = s.iols ∧ (s.setRing r x).whisks = s.whisks ∧ (s.setRing r x).sw = s.sw ∧
    (s.setRing r x).bar0 = s.bar0 ∧ (s.setRing r x).dict = s.dict ∧ (s.setRing r x).recordsIn = s.recordsIn ∧
    (s.setRing r x).fences = s.fences ∧ (s.setRing r x).fenceOrder = s.fenceOrder ∧
    (s.setRing r x).writeSentAt = s.writeSentAt ∧ (s.setRing r x).writeHeld = s.writeHeld ∧
    (s.setRing r x).peerReady = s.peerReady ∧ (s.setRing r x).handInstant = s.handInstant ∧ (s.setRing r x).twin = s.twin ∧
    (s.setRing r x).pertCount = s.pertCount ∧ (s.setRing r x).pertEnds = s.pertEnds ∧ (s.setRing r x).rules = s.rules ∧
    (s.setRing r x).gaugeLog = s.gaugeLog ∧ (s.setRing r x).gaugeIn = s.gaugeIn ∧ (s.setRing r x).pans = s.pans ∧
    (s.setRing r x).fuses = s.fuses ∧ (s.setRing r x).power = s.power ∧ (s.setRing r x).tagHeld = s.tagHeld ∧
    (s.setRing r x).keys = s.keys ∧ (s.setRing r x).boot = s.boot ∧ (s.setRing r x).uartSent = s.uartSent ∧
    (s.setRing r x).jtag = s.jtag ∧ (s.setRing r x).pending = s.pending := by
  refine ⟨rfl, rfl, rfl, rfl, rfl, rfl, rfl, rfl, rfl, rfl, rfl, rfl, rfl, rfl, rfl, rfl, rfl, rfl, rfl, rfl, rfl, rfl, rfl, rfl, rfl, rfl, rfl, rfl, rfl, rfl, rfl, rfl, rfl, rfl, rfl, rfl, rfl, rfl, rfl, rfl, rfl, rfl, rfl, rfl, rfl, rfl, rfl, rfl, rfl, rfl, rfl, rfl, rfl, rfl, rfl, rfl, rfl, rfl, rfl, rfl, rfl, rfl, rfl, rfl, rfl, rfl, rfl, rfl, rfl, rfl, rfl, rfl, rfl, rfl, rfl, rfl, rfl⟩

@[simp] theorem State.setRing_readers (s : State) (r : Nat) (x : RingSt) :
    (s.setRing r x).reg = s.reg ∧ (s.setRing r x).count = s.count ∧ (s.setRing r x).rejections = s.rejections ∧
    (s.setRing r x).link = s.link ∧ (s.setRing r x).port = s.port ∧ (s.setRing r x).rule = s.rule ∧
    (s.setRing r x).src = s.src ∧ (s.setRing r x).bar = s.bar ∧ (s.setRing r x).whisk = s.whisk ∧
    (s.setRing r x).flt = s.flt ∧ (s.setRing r x).line = s.line ∧ (s.setRing r x).px = s.px ∧ (s.setRing r x).can = s.can ∧
    (s.setRing r x).fence = s.fence ∧ (s.setRing r x).iol = s.iol ∧ (s.setRing r x).dup = s.dup ∧
    (s.setRing r x).pan = s.pan ∧ (s.setRing r x).fuse = s.fuse ∧ (s.setRing r x).queue = s.queue ∧
    (s.setRing r x).rs = s.rs ∧ (s.setRing r x).bridge = s.bridge ∧ (s.setRing r x).timer = s.timer ∧
    (s.setRing r x).capture = s.capture ∧ (s.setRing r x).pd = s.pd ∧ (s.setRing r x).tun = s.tun ∧
    (s.setRing r x).swq = s.swq ∧ (s.setRing r x).meter = s.meter ∧ (s.setRing r x).gatePending = s.gatePending ∧
    (s.setRing r x).announce = s.announce ∧ (s.setRing r x).mailbox = s.mailbox := by
  refine ⟨rfl, rfl, rfl, rfl, rfl, rfl, rfl, rfl, rfl, rfl, rfl, rfl, rfl, rfl, rfl, rfl, rfl, rfl, rfl, rfl, rfl, rfl, rfl, rfl, rfl, rfl, rfl, rfl, rfl, rfl⟩

@[simp] theorem State.setBar4_fields (s : State) (o v : Nat) :
    (s.setBar4 o v).run = s.run ∧ (s.setBar4 o v).clock = s.clock ∧ (s.setBar4 o v).ftimeQ = s.ftimeQ ∧
    (s.setBar4 o v).straps = s.straps ∧ (s.setBar4 o v).resetCause = s.resetCause ∧ (s.setBar4 o v).regs = s.regs ∧
    (s.setBar4 o v).cnt = s.cnt ∧ (s.setBar4 o v).rejects = s.rejects ∧ (s.setBar4 o v).free = s.free ∧
    (s.setBar4 o v).hub = s.hub ∧ (s.setBar4 o v).answers = s.answers ∧ (s.setBar4 o v).role = s.role ∧
    (s.setBar4 o v).links = s.links ∧ (s.setBar4 o v).tx = s.tx ∧ (s.setBar4 o v).ingress = s.ingress ∧
    (s.setBar4 o v).sent = s.sent ∧ (s.setBar4 o v).inbox = s.inbox ∧ (s.setBar4 o v).landing = s.landing ∧
    (s.setBar4 o v).seqNext = s.seqNext ∧ (s.setBar4 o v).origTimes = s.origTimes ∧ (s.setBar4 o v).origHeld = s.origHeld ∧
    (s.setBar4 o v).dups = s.dups ∧ (s.setBar4 o v).tie = s.tie ∧ (s.setBar4 o v).settleEnds = s.settleEnds ∧
    (s.setBar4 o v).field = s.field ∧ (s.setBar4 o v).healthAt = s.healthAt ∧ (s.setBar4 o v).sources = s.sources ∧
    (s.setBar4 o v).records = s.records ∧ (s.setBar4 o v).recordLoss = s.recordLoss ∧
    (s.setBar4 o v).deliveries = s.deliveries ∧ (s.setBar4 o v).msix = s.msix ∧ (s.setBar4 o v).faults = s.faults ∧
    (s.setBar4 o v).cru = s.cru ∧ (s.setBar4 o v).copper = s.copper ∧ (s.setBar4 o v).assigned = s.assigned ∧
    (s.setBar4 o v).disc = s.disc ∧ (s.setBar4 o v).img = s.img ∧ (s.setBar4 o v).mirror = s.mirror ∧
    (s.setBar4 o v).hist = s.hist ∧ (s.setBar4 o v).time = s.time ∧ (s.setBar4 o v).timers = s.timers ∧
    (s.setBar4 o v).captures = s.captures ∧ (s.setBar4 o v).queues = s.queues ∧ (s.setBar4 o v).busReads = s.busReads ∧
    (s.setBar4 o v).lines = s.lines ∧ (s.setBar4 o v).pxs = s.pxs ∧ (s.setBar4 o v).cans = s.cans ∧
    (s.setBar4 o v).rss = s.rss ∧ (s.setBar4 o v).rsSent = s.rsSent ∧ (s.setBar4 o v).bridges = s.bridges ∧
    (s.setBar4 o v).iols = s.iols ∧ (s.setBar4 o v).whisks = s.whisks ∧ (s.setBar4 o v).sw = s.sw ∧
    (s.setBar4 o v).bar0 = s.bar0 ∧ (s.setBar4 o v).dict = s.dict ∧ (s.setBar4 o v).recordsIn = s.recordsIn ∧
    (s.setBar4 o v).fences = s.fences ∧ (s.setBar4 o v).fenceOrder = s.fenceOrder ∧
    (s.setBar4 o v).writeSentAt = s.writeSentAt ∧ (s.setBar4 o v).writeHeld = s.writeHeld ∧
    (s.setBar4 o v).peerReady = s.peerReady ∧ (s.setBar4 o v).handInstant = s.handInstant ∧ (s.setBar4 o v).twin = s.twin ∧
    (s.setBar4 o v).pertCount = s.pertCount ∧ (s.setBar4 o v).pertEnds = s.pertEnds ∧ (s.setBar4 o v).rules = s.rules ∧
    (s.setBar4 o v).gaugeLog = s.gaugeLog ∧ (s.setBar4 o v).gaugeIn = s.gaugeIn ∧ (s.setBar4 o v).pans = s.pans ∧
    (s.setBar4 o v).fuses = s.fuses ∧ (s.setBar4 o v).power = s.power ∧ (s.setBar4 o v).tagHeld = s.tagHeld ∧
    (s.setBar4 o v).keys = s.keys ∧ (s.setBar4 o v).boot = s.boot ∧ (s.setBar4 o v).uartSent = s.uartSent ∧
    (s.setBar4 o v).jtag = s.jtag ∧ (s.setBar4 o v).pending = s.pending := by
  refine ⟨rfl, rfl, rfl, rfl, rfl, rfl, rfl, rfl, rfl, rfl, rfl, rfl, rfl, rfl, rfl, rfl, rfl, rfl, rfl, rfl, rfl, rfl, rfl, rfl, rfl, rfl, rfl, rfl, rfl, rfl, rfl, rfl, rfl, rfl, rfl, rfl, rfl, rfl, rfl, rfl, rfl, rfl, rfl, rfl, rfl, rfl, rfl, rfl, rfl, rfl, rfl, rfl, rfl, rfl, rfl, rfl, rfl, rfl, rfl, rfl, rfl, rfl, rfl, rfl, rfl, rfl, rfl, rfl, rfl, rfl, rfl, rfl, rfl, rfl, rfl, rfl, rfl⟩

@[simp] theorem State.setBar4_readers (s : State) (o v : Nat) :
    (s.setBar4 o v).reg = s.reg ∧ (s.setBar4 o v).count = s.count ∧ (s.setBar4 o v).rejections = s.rejections ∧
    (s.setBar4 o v).link = s.link ∧ (s.setBar4 o v).port = s.port ∧ (s.setBar4 o v).rule = s.rule ∧
    (s.setBar4 o v).src = s.src ∧ (s.setBar4 o v).bar = s.bar ∧ (s.setBar4 o v).whisk = s.whisk ∧
    (s.setBar4 o v).flt = s.flt ∧ (s.setBar4 o v).line = s.line ∧ (s.setBar4 o v).px = s.px ∧ (s.setBar4 o v).can = s.can ∧
    (s.setBar4 o v).fence = s.fence ∧ (s.setBar4 o v).iol = s.iol ∧ (s.setBar4 o v).dup = s.dup ∧
    (s.setBar4 o v).pan = s.pan ∧ (s.setBar4 o v).fuse = s.fuse ∧ (s.setBar4 o v).queue = s.queue ∧
    (s.setBar4 o v).rs = s.rs ∧ (s.setBar4 o v).bridge = s.bridge ∧ (s.setBar4 o v).timer = s.timer ∧
    (s.setBar4 o v).capture = s.capture ∧ (s.setBar4 o v).pd = s.pd ∧ (s.setBar4 o v).tun = s.tun ∧
    (s.setBar4 o v).swq = s.swq ∧ (s.setBar4 o v).meter = s.meter ∧ (s.setBar4 o v).gatePending = s.gatePending ∧
    (s.setBar4 o v).announce = s.announce ∧ (s.setBar4 o v).mailbox = s.mailbox := by
  refine ⟨rfl, rfl, rfl, rfl, rfl, rfl, rfl, rfl, rfl, rfl, rfl, rfl, rfl, rfl, rfl, rfl, rfl, rfl, rfl, rfl, rfl, rfl, rfl, rfl, rfl, rfl, rfl, rfl, rfl, rfl⟩

@[simp] theorem State.setWindow_fields (s : State) (w : Window) :
    (s.setWindow w).run = s.run ∧ (s.setWindow w).clock = s.clock ∧ (s.setWindow w).ftimeQ = s.ftimeQ ∧
    (s.setWindow w).straps = s.straps ∧ (s.setWindow w).resetCause = s.resetCause ∧ (s.setWindow w).regs = s.regs ∧
    (s.setWindow w).cnt = s.cnt ∧ (s.setWindow w).rejects = s.rejects ∧ (s.setWindow w).free = s.free ∧
    (s.setWindow w).hub = s.hub ∧ (s.setWindow w).answers = s.answers ∧ (s.setWindow w).role = s.role ∧
    (s.setWindow w).links = s.links ∧ (s.setWindow w).tx = s.tx ∧ (s.setWindow w).ingress = s.ingress ∧
    (s.setWindow w).sent = s.sent ∧ (s.setWindow w).inbox = s.inbox ∧ (s.setWindow w).landing = s.landing ∧
    (s.setWindow w).seqNext = s.seqNext ∧ (s.setWindow w).origTimes = s.origTimes ∧ (s.setWindow w).origHeld = s.origHeld ∧
    (s.setWindow w).dups = s.dups ∧ (s.setWindow w).tie = s.tie ∧ (s.setWindow w).settleEnds = s.settleEnds ∧
    (s.setWindow w).field = s.field ∧ (s.setWindow w).healthAt = s.healthAt ∧ (s.setWindow w).sources = s.sources ∧
    (s.setWindow w).records = s.records ∧ (s.setWindow w).recordLoss = s.recordLoss ∧
    (s.setWindow w).deliveries = s.deliveries ∧ (s.setWindow w).msix = s.msix ∧ (s.setWindow w).faults = s.faults ∧
    (s.setWindow w).cru = s.cru ∧ (s.setWindow w).copper = s.copper ∧ (s.setWindow w).assigned = s.assigned ∧
    (s.setWindow w).disc = s.disc ∧ (s.setWindow w).mirror = s.mirror ∧ (s.setWindow w).hist = s.hist ∧
    (s.setWindow w).time = s.time ∧ (s.setWindow w).timers = s.timers ∧ (s.setWindow w).captures = s.captures ∧
    (s.setWindow w).queues = s.queues ∧ (s.setWindow w).busReads = s.busReads ∧ (s.setWindow w).lines = s.lines ∧
    (s.setWindow w).pxs = s.pxs ∧ (s.setWindow w).cans = s.cans ∧ (s.setWindow w).rss = s.rss ∧
    (s.setWindow w).rsSent = s.rsSent ∧ (s.setWindow w).bridges = s.bridges ∧ (s.setWindow w).iols = s.iols ∧
    (s.setWindow w).whisks = s.whisks ∧ (s.setWindow w).sw = s.sw ∧ (s.setWindow w).bar0 = s.bar0 ∧
    (s.setWindow w).host = s.host ∧ (s.setWindow w).dict = s.dict ∧ (s.setWindow w).recordsIn = s.recordsIn ∧
    (s.setWindow w).fences = s.fences ∧ (s.setWindow w).fenceOrder = s.fenceOrder ∧
    (s.setWindow w).writeSentAt = s.writeSentAt ∧ (s.setWindow w).writeHeld = s.writeHeld ∧
    (s.setWindow w).peerReady = s.peerReady ∧ (s.setWindow w).handInstant = s.handInstant ∧ (s.setWindow w).twin = s.twin ∧
    (s.setWindow w).pertCount = s.pertCount ∧ (s.setWindow w).pertEnds = s.pertEnds ∧ (s.setWindow w).rules = s.rules ∧
    (s.setWindow w).gaugeLog = s.gaugeLog ∧ (s.setWindow w).gaugeIn = s.gaugeIn ∧ (s.setWindow w).pans = s.pans ∧
    (s.setWindow w).fuses = s.fuses ∧ (s.setWindow w).power = s.power ∧ (s.setWindow w).tagHeld = s.tagHeld ∧
    (s.setWindow w).keys = s.keys ∧ (s.setWindow w).boot = s.boot ∧ (s.setWindow w).uartSent = s.uartSent ∧
    (s.setWindow w).jtag = s.jtag ∧ (s.setWindow w).pending = s.pending := by
  refine ⟨rfl, rfl, rfl, rfl, rfl, rfl, rfl, rfl, rfl, rfl, rfl, rfl, rfl, rfl, rfl, rfl, rfl, rfl, rfl, rfl, rfl, rfl, rfl, rfl, rfl, rfl, rfl, rfl, rfl, rfl, rfl, rfl, rfl, rfl, rfl, rfl, rfl, rfl, rfl, rfl, rfl, rfl, rfl, rfl, rfl, rfl, rfl, rfl, rfl, rfl, rfl, rfl, rfl, rfl, rfl, rfl, rfl, rfl, rfl, rfl, rfl, rfl, rfl, rfl, rfl, rfl, rfl, rfl, rfl, rfl, rfl, rfl, rfl, rfl, rfl, rfl, rfl⟩

@[simp] theorem State.setWindow_readers (s : State) (w : Window) :
    (s.setWindow w).reg = s.reg ∧ (s.setWindow w).count = s.count ∧ (s.setWindow w).rejections = s.rejections ∧
    (s.setWindow w).link = s.link ∧ (s.setWindow w).port = s.port ∧ (s.setWindow w).rule = s.rule ∧
    (s.setWindow w).src = s.src ∧ (s.setWindow w).bar = s.bar ∧ (s.setWindow w).whisk = s.whisk ∧
    (s.setWindow w).flt = s.flt ∧ (s.setWindow w).line = s.line ∧ (s.setWindow w).px = s.px ∧ (s.setWindow w).can = s.can ∧
    (s.setWindow w).fence = s.fence ∧ (s.setWindow w).ring = s.ring ∧ (s.setWindow w).bar4 = s.bar4 ∧
    (s.setWindow w).iol = s.iol ∧ (s.setWindow w).dup = s.dup ∧ (s.setWindow w).pan = s.pan ∧
    (s.setWindow w).fuse = s.fuse ∧ (s.setWindow w).queue = s.queue ∧ (s.setWindow w).rs = s.rs ∧
    (s.setWindow w).bridge = s.bridge ∧ (s.setWindow w).timer = s.timer ∧ (s.setWindow w).capture = s.capture ∧
    (s.setWindow w).pd = s.pd ∧ (s.setWindow w).tun = s.tun ∧ (s.setWindow w).swq = s.swq ∧
    (s.setWindow w).meter = s.meter ∧ (s.setWindow w).gatePending = s.gatePending ∧ (s.setWindow w).announce = s.announce ∧
    (s.setWindow w).mailbox = s.mailbox := by
  refine ⟨rfl, rfl, rfl, rfl, rfl, rfl, rfl, rfl, rfl, rfl, rfl, rfl, rfl, rfl, rfl, rfl, rfl, rfl, rfl, rfl, rfl, rfl, rfl, rfl, rfl, rfl, rfl, rfl, rfl, rfl, rfl, rfl⟩

@[simp] theorem State.setIol_fields (s : State) (p : Nat) (x : IolSt) :
    (s.setIol p x).run = s.run ∧ (s.setIol p x).clock = s.clock ∧ (s.setIol p x).ftimeQ = s.ftimeQ ∧
    (s.setIol p x).straps = s.straps ∧ (s.setIol p x).resetCause = s.resetCause ∧ (s.setIol p x).regs = s.regs ∧
    (s.setIol p x).cnt = s.cnt ∧ (s.setIol p x).rejects = s.rejects ∧ (s.setIol p x).free = s.free ∧
    (s.setIol p x).hub = s.hub ∧ (s.setIol p x).answers = s.answers ∧ (s.setIol p x).role = s.role ∧
    (s.setIol p x).links = s.links ∧ (s.setIol p x).tx = s.tx ∧ (s.setIol p x).ingress = s.ingress ∧
    (s.setIol p x).sent = s.sent ∧ (s.setIol p x).inbox = s.inbox ∧ (s.setIol p x).landing = s.landing ∧
    (s.setIol p x).seqNext = s.seqNext ∧ (s.setIol p x).origTimes = s.origTimes ∧ (s.setIol p x).origHeld = s.origHeld ∧
    (s.setIol p x).dups = s.dups ∧ (s.setIol p x).tie = s.tie ∧ (s.setIol p x).settleEnds = s.settleEnds ∧
    (s.setIol p x).field = s.field ∧ (s.setIol p x).healthAt = s.healthAt ∧ (s.setIol p x).sources = s.sources ∧
    (s.setIol p x).records = s.records ∧ (s.setIol p x).recordLoss = s.recordLoss ∧
    (s.setIol p x).deliveries = s.deliveries ∧ (s.setIol p x).msix = s.msix ∧ (s.setIol p x).faults = s.faults ∧
    (s.setIol p x).cru = s.cru ∧ (s.setIol p x).copper = s.copper ∧ (s.setIol p x).assigned = s.assigned ∧
    (s.setIol p x).disc = s.disc ∧ (s.setIol p x).img = s.img ∧ (s.setIol p x).mirror = s.mirror ∧
    (s.setIol p x).hist = s.hist ∧ (s.setIol p x).time = s.time ∧ (s.setIol p x).timers = s.timers ∧
    (s.setIol p x).captures = s.captures ∧ (s.setIol p x).queues = s.queues ∧ (s.setIol p x).busReads = s.busReads ∧
    (s.setIol p x).lines = s.lines ∧ (s.setIol p x).pxs = s.pxs ∧ (s.setIol p x).cans = s.cans ∧
    (s.setIol p x).rss = s.rss ∧ (s.setIol p x).rsSent = s.rsSent ∧ (s.setIol p x).bridges = s.bridges ∧
    (s.setIol p x).whisks = s.whisks ∧ (s.setIol p x).sw = s.sw ∧ (s.setIol p x).bar0 = s.bar0 ∧
    (s.setIol p x).host = s.host ∧ (s.setIol p x).dict = s.dict ∧ (s.setIol p x).recordsIn = s.recordsIn ∧
    (s.setIol p x).fences = s.fences ∧ (s.setIol p x).fenceOrder = s.fenceOrder ∧
    (s.setIol p x).writeSentAt = s.writeSentAt ∧ (s.setIol p x).writeHeld = s.writeHeld ∧
    (s.setIol p x).peerReady = s.peerReady ∧ (s.setIol p x).handInstant = s.handInstant ∧ (s.setIol p x).twin = s.twin ∧
    (s.setIol p x).pertCount = s.pertCount ∧ (s.setIol p x).pertEnds = s.pertEnds ∧ (s.setIol p x).rules = s.rules ∧
    (s.setIol p x).gaugeLog = s.gaugeLog ∧ (s.setIol p x).gaugeIn = s.gaugeIn ∧ (s.setIol p x).pans = s.pans ∧
    (s.setIol p x).fuses = s.fuses ∧ (s.setIol p x).power = s.power ∧ (s.setIol p x).tagHeld = s.tagHeld ∧
    (s.setIol p x).keys = s.keys ∧ (s.setIol p x).boot = s.boot ∧ (s.setIol p x).uartSent = s.uartSent ∧
    (s.setIol p x).jtag = s.jtag ∧ (s.setIol p x).pending = s.pending := by
  refine ⟨rfl, rfl, rfl, rfl, rfl, rfl, rfl, rfl, rfl, rfl, rfl, rfl, rfl, rfl, rfl, rfl, rfl, rfl, rfl, rfl, rfl, rfl, rfl, rfl, rfl, rfl, rfl, rfl, rfl, rfl, rfl, rfl, rfl, rfl, rfl, rfl, rfl, rfl, rfl, rfl, rfl, rfl, rfl, rfl, rfl, rfl, rfl, rfl, rfl, rfl, rfl, rfl, rfl, rfl, rfl, rfl, rfl, rfl, rfl, rfl, rfl, rfl, rfl, rfl, rfl, rfl, rfl, rfl, rfl, rfl, rfl, rfl, rfl, rfl, rfl, rfl, rfl⟩

@[simp] theorem State.setIol_readers (s : State) (p : Nat) (x : IolSt) :
    (s.setIol p x).reg = s.reg ∧ (s.setIol p x).count = s.count ∧ (s.setIol p x).rejections = s.rejections ∧
    (s.setIol p x).link = s.link ∧ (s.setIol p x).port = s.port ∧ (s.setIol p x).rule = s.rule ∧
    (s.setIol p x).src = s.src ∧ (s.setIol p x).bar = s.bar ∧ (s.setIol p x).whisk = s.whisk ∧ (s.setIol p x).flt = s.flt ∧
    (s.setIol p x).line = s.line ∧ (s.setIol p x).px = s.px ∧ (s.setIol p x).can = s.can ∧ (s.setIol p x).fence = s.fence ∧
    (s.setIol p x).ring = s.ring ∧ (s.setIol p x).bar4 = s.bar4 ∧ (s.setIol p x).dup = s.dup ∧ (s.setIol p x).pan = s.pan ∧
    (s.setIol p x).fuse = s.fuse ∧ (s.setIol p x).queue = s.queue ∧ (s.setIol p x).rs = s.rs ∧
    (s.setIol p x).bridge = s.bridge ∧ (s.setIol p x).timer = s.timer ∧ (s.setIol p x).capture = s.capture ∧
    (s.setIol p x).pd = s.pd ∧ (s.setIol p x).tun = s.tun ∧ (s.setIol p x).swq = s.swq ∧ (s.setIol p x).meter = s.meter ∧
    (s.setIol p x).gatePending = s.gatePending ∧ (s.setIol p x).announce = s.announce ∧
    (s.setIol p x).mailbox = s.mailbox := by
  refine ⟨rfl, rfl, rfl, rfl, rfl, rfl, rfl, rfl, rfl, rfl, rfl, rfl, rfl, rfl, rfl, rfl, rfl, rfl, rfl, rfl, rfl, rfl, rfl, rfl, rfl, rfl, rfl, rfl, rfl, rfl, rfl⟩

@[simp] theorem State.setDup_fields (s : State) (a : Nat) (e : Option DupEntry) :
    (s.setDup a e).run = s.run ∧ (s.setDup a e).clock = s.clock ∧ (s.setDup a e).ftimeQ = s.ftimeQ ∧
    (s.setDup a e).straps = s.straps ∧ (s.setDup a e).resetCause = s.resetCause ∧ (s.setDup a e).regs = s.regs ∧
    (s.setDup a e).cnt = s.cnt ∧ (s.setDup a e).rejects = s.rejects ∧ (s.setDup a e).free = s.free ∧
    (s.setDup a e).hub = s.hub ∧ (s.setDup a e).answers = s.answers ∧ (s.setDup a e).role = s.role ∧
    (s.setDup a e).links = s.links ∧ (s.setDup a e).tx = s.tx ∧ (s.setDup a e).ingress = s.ingress ∧
    (s.setDup a e).sent = s.sent ∧ (s.setDup a e).inbox = s.inbox ∧ (s.setDup a e).landing = s.landing ∧
    (s.setDup a e).seqNext = s.seqNext ∧ (s.setDup a e).origTimes = s.origTimes ∧ (s.setDup a e).origHeld = s.origHeld ∧
    (s.setDup a e).tie = s.tie ∧ (s.setDup a e).settleEnds = s.settleEnds ∧ (s.setDup a e).field = s.field ∧
    (s.setDup a e).healthAt = s.healthAt ∧ (s.setDup a e).sources = s.sources ∧ (s.setDup a e).records = s.records ∧
    (s.setDup a e).recordLoss = s.recordLoss ∧ (s.setDup a e).deliveries = s.deliveries ∧ (s.setDup a e).msix = s.msix ∧
    (s.setDup a e).faults = s.faults ∧ (s.setDup a e).cru = s.cru ∧ (s.setDup a e).copper = s.copper ∧
    (s.setDup a e).assigned = s.assigned ∧ (s.setDup a e).disc = s.disc ∧ (s.setDup a e).img = s.img ∧
    (s.setDup a e).mirror = s.mirror ∧ (s.setDup a e).hist = s.hist ∧ (s.setDup a e).time = s.time ∧
    (s.setDup a e).timers = s.timers ∧ (s.setDup a e).captures = s.captures ∧ (s.setDup a e).queues = s.queues ∧
    (s.setDup a e).busReads = s.busReads ∧ (s.setDup a e).lines = s.lines ∧ (s.setDup a e).pxs = s.pxs ∧
    (s.setDup a e).cans = s.cans ∧ (s.setDup a e).rss = s.rss ∧ (s.setDup a e).rsSent = s.rsSent ∧
    (s.setDup a e).bridges = s.bridges ∧ (s.setDup a e).iols = s.iols ∧ (s.setDup a e).whisks = s.whisks ∧
    (s.setDup a e).sw = s.sw ∧ (s.setDup a e).bar0 = s.bar0 ∧ (s.setDup a e).host = s.host ∧ (s.setDup a e).dict = s.dict ∧
    (s.setDup a e).recordsIn = s.recordsIn ∧ (s.setDup a e).fences = s.fences ∧ (s.setDup a e).fenceOrder = s.fenceOrder ∧
    (s.setDup a e).writeSentAt = s.writeSentAt ∧ (s.setDup a e).writeHeld = s.writeHeld ∧
    (s.setDup a e).peerReady = s.peerReady ∧ (s.setDup a e).handInstant = s.handInstant ∧ (s.setDup a e).twin = s.twin ∧
    (s.setDup a e).pertCount = s.pertCount ∧ (s.setDup a e).pertEnds = s.pertEnds ∧ (s.setDup a e).rules = s.rules ∧
    (s.setDup a e).gaugeLog = s.gaugeLog ∧ (s.setDup a e).gaugeIn = s.gaugeIn ∧ (s.setDup a e).pans = s.pans ∧
    (s.setDup a e).fuses = s.fuses ∧ (s.setDup a e).power = s.power ∧ (s.setDup a e).tagHeld = s.tagHeld ∧
    (s.setDup a e).keys = s.keys ∧ (s.setDup a e).boot = s.boot ∧ (s.setDup a e).uartSent = s.uartSent ∧
    (s.setDup a e).jtag = s.jtag ∧ (s.setDup a e).pending = s.pending := by
  refine ⟨rfl, rfl, rfl, rfl, rfl, rfl, rfl, rfl, rfl, rfl, rfl, rfl, rfl, rfl, rfl, rfl, rfl, rfl, rfl, rfl, rfl, rfl, rfl, rfl, rfl, rfl, rfl, rfl, rfl, rfl, rfl, rfl, rfl, rfl, rfl, rfl, rfl, rfl, rfl, rfl, rfl, rfl, rfl, rfl, rfl, rfl, rfl, rfl, rfl, rfl, rfl, rfl, rfl, rfl, rfl, rfl, rfl, rfl, rfl, rfl, rfl, rfl, rfl, rfl, rfl, rfl, rfl, rfl, rfl, rfl, rfl, rfl, rfl, rfl, rfl, rfl, rfl⟩

@[simp] theorem State.setDup_readers (s : State) (a : Nat) (e : Option DupEntry) :
    (s.setDup a e).reg = s.reg ∧ (s.setDup a e).count = s.count ∧ (s.setDup a e).rejections = s.rejections ∧
    (s.setDup a e).link = s.link ∧ (s.setDup a e).port = s.port ∧ (s.setDup a e).rule = s.rule ∧
    (s.setDup a e).src = s.src ∧ (s.setDup a e).bar = s.bar ∧ (s.setDup a e).whisk = s.whisk ∧ (s.setDup a e).flt = s.flt ∧
    (s.setDup a e).line = s.line ∧ (s.setDup a e).px = s.px ∧ (s.setDup a e).can = s.can ∧ (s.setDup a e).fence = s.fence ∧
    (s.setDup a e).ring = s.ring ∧ (s.setDup a e).bar4 = s.bar4 ∧ (s.setDup a e).iol = s.iol ∧ (s.setDup a e).pan = s.pan ∧
    (s.setDup a e).fuse = s.fuse ∧ (s.setDup a e).queue = s.queue ∧ (s.setDup a e).rs = s.rs ∧
    (s.setDup a e).bridge = s.bridge ∧ (s.setDup a e).timer = s.timer ∧ (s.setDup a e).capture = s.capture ∧
    (s.setDup a e).pd = s.pd ∧ (s.setDup a e).tun = s.tun ∧ (s.setDup a e).swq = s.swq ∧ (s.setDup a e).meter = s.meter ∧
    (s.setDup a e).gatePending = s.gatePending ∧ (s.setDup a e).announce = s.announce ∧
    (s.setDup a e).mailbox = s.mailbox := by
  refine ⟨rfl, rfl, rfl, rfl, rfl, rfl, rfl, rfl, rfl, rfl, rfl, rfl, rfl, rfl, rfl, rfl, rfl, rfl, rfl, rfl, rfl, rfl, rfl, rfl, rfl, rfl, rfl, rfl, rfl, rfl, rfl⟩

@[simp] theorem State.setPan_fields (s : State) (n : Nat) (p : PanSt) :
    (s.setPan n p).run = s.run ∧ (s.setPan n p).clock = s.clock ∧ (s.setPan n p).ftimeQ = s.ftimeQ ∧
    (s.setPan n p).straps = s.straps ∧ (s.setPan n p).resetCause = s.resetCause ∧ (s.setPan n p).regs = s.regs ∧
    (s.setPan n p).cnt = s.cnt ∧ (s.setPan n p).rejects = s.rejects ∧ (s.setPan n p).free = s.free ∧
    (s.setPan n p).hub = s.hub ∧ (s.setPan n p).answers = s.answers ∧ (s.setPan n p).role = s.role ∧
    (s.setPan n p).links = s.links ∧ (s.setPan n p).tx = s.tx ∧ (s.setPan n p).ingress = s.ingress ∧
    (s.setPan n p).sent = s.sent ∧ (s.setPan n p).inbox = s.inbox ∧ (s.setPan n p).landing = s.landing ∧
    (s.setPan n p).seqNext = s.seqNext ∧ (s.setPan n p).origTimes = s.origTimes ∧ (s.setPan n p).origHeld = s.origHeld ∧
    (s.setPan n p).dups = s.dups ∧ (s.setPan n p).tie = s.tie ∧ (s.setPan n p).settleEnds = s.settleEnds ∧
    (s.setPan n p).field = s.field ∧ (s.setPan n p).healthAt = s.healthAt ∧ (s.setPan n p).sources = s.sources ∧
    (s.setPan n p).records = s.records ∧ (s.setPan n p).recordLoss = s.recordLoss ∧
    (s.setPan n p).deliveries = s.deliveries ∧ (s.setPan n p).msix = s.msix ∧ (s.setPan n p).faults = s.faults ∧
    (s.setPan n p).cru = s.cru ∧ (s.setPan n p).copper = s.copper ∧ (s.setPan n p).assigned = s.assigned ∧
    (s.setPan n p).disc = s.disc ∧ (s.setPan n p).img = s.img ∧ (s.setPan n p).mirror = s.mirror ∧
    (s.setPan n p).hist = s.hist ∧ (s.setPan n p).time = s.time ∧ (s.setPan n p).timers = s.timers ∧
    (s.setPan n p).captures = s.captures ∧ (s.setPan n p).queues = s.queues ∧ (s.setPan n p).busReads = s.busReads ∧
    (s.setPan n p).lines = s.lines ∧ (s.setPan n p).pxs = s.pxs ∧ (s.setPan n p).cans = s.cans ∧
    (s.setPan n p).rss = s.rss ∧ (s.setPan n p).rsSent = s.rsSent ∧ (s.setPan n p).bridges = s.bridges ∧
    (s.setPan n p).iols = s.iols ∧ (s.setPan n p).whisks = s.whisks ∧ (s.setPan n p).sw = s.sw ∧
    (s.setPan n p).bar0 = s.bar0 ∧ (s.setPan n p).host = s.host ∧ (s.setPan n p).dict = s.dict ∧
    (s.setPan n p).recordsIn = s.recordsIn ∧ (s.setPan n p).fences = s.fences ∧ (s.setPan n p).fenceOrder = s.fenceOrder ∧
    (s.setPan n p).writeSentAt = s.writeSentAt ∧ (s.setPan n p).writeHeld = s.writeHeld ∧
    (s.setPan n p).peerReady = s.peerReady ∧ (s.setPan n p).handInstant = s.handInstant ∧ (s.setPan n p).twin = s.twin ∧
    (s.setPan n p).pertCount = s.pertCount ∧ (s.setPan n p).pertEnds = s.pertEnds ∧ (s.setPan n p).rules = s.rules ∧
    (s.setPan n p).gaugeLog = s.gaugeLog ∧ (s.setPan n p).gaugeIn = s.gaugeIn ∧ (s.setPan n p).fuses = s.fuses ∧
    (s.setPan n p).power = s.power ∧ (s.setPan n p).tagHeld = s.tagHeld ∧ (s.setPan n p).keys = s.keys ∧
    (s.setPan n p).boot = s.boot ∧ (s.setPan n p).uartSent = s.uartSent ∧ (s.setPan n p).jtag = s.jtag ∧
    (s.setPan n p).pending = s.pending := by
  refine ⟨rfl, rfl, rfl, rfl, rfl, rfl, rfl, rfl, rfl, rfl, rfl, rfl, rfl, rfl, rfl, rfl, rfl, rfl, rfl, rfl, rfl, rfl, rfl, rfl, rfl, rfl, rfl, rfl, rfl, rfl, rfl, rfl, rfl, rfl, rfl, rfl, rfl, rfl, rfl, rfl, rfl, rfl, rfl, rfl, rfl, rfl, rfl, rfl, rfl, rfl, rfl, rfl, rfl, rfl, rfl, rfl, rfl, rfl, rfl, rfl, rfl, rfl, rfl, rfl, rfl, rfl, rfl, rfl, rfl, rfl, rfl, rfl, rfl, rfl, rfl, rfl, rfl⟩

@[simp] theorem State.setPan_readers (s : State) (n : Nat) (p : PanSt) :
    (s.setPan n p).reg = s.reg ∧ (s.setPan n p).count = s.count ∧ (s.setPan n p).rejections = s.rejections ∧
    (s.setPan n p).link = s.link ∧ (s.setPan n p).port = s.port ∧ (s.setPan n p).rule = s.rule ∧
    (s.setPan n p).src = s.src ∧ (s.setPan n p).bar = s.bar ∧ (s.setPan n p).whisk = s.whisk ∧ (s.setPan n p).flt = s.flt ∧
    (s.setPan n p).line = s.line ∧ (s.setPan n p).px = s.px ∧ (s.setPan n p).can = s.can ∧ (s.setPan n p).fence = s.fence ∧
    (s.setPan n p).ring = s.ring ∧ (s.setPan n p).bar4 = s.bar4 ∧ (s.setPan n p).iol = s.iol ∧ (s.setPan n p).dup = s.dup ∧
    (s.setPan n p).fuse = s.fuse ∧ (s.setPan n p).queue = s.queue ∧ (s.setPan n p).rs = s.rs ∧
    (s.setPan n p).bridge = s.bridge ∧ (s.setPan n p).timer = s.timer ∧ (s.setPan n p).capture = s.capture ∧
    (s.setPan n p).pd = s.pd ∧ (s.setPan n p).tun = s.tun ∧ (s.setPan n p).swq = s.swq ∧ (s.setPan n p).meter = s.meter ∧
    (s.setPan n p).gatePending = s.gatePending ∧ (s.setPan n p).announce = s.announce ∧
    (s.setPan n p).mailbox = s.mailbox := by
  refine ⟨rfl, rfl, rfl, rfl, rfl, rfl, rfl, rfl, rfl, rfl, rfl, rfl, rfl, rfl, rfl, rfl, rfl, rfl, rfl, rfl, rfl, rfl, rfl, rfl, rfl, rfl, rfl, rfl, rfl, rfl, rfl⟩

@[simp] theorem State.setFuse_fields (s : State) (b : Nat) (f : FuseSt) :
    (s.setFuse b f).run = s.run ∧ (s.setFuse b f).clock = s.clock ∧ (s.setFuse b f).ftimeQ = s.ftimeQ ∧
    (s.setFuse b f).straps = s.straps ∧ (s.setFuse b f).resetCause = s.resetCause ∧ (s.setFuse b f).regs = s.regs ∧
    (s.setFuse b f).cnt = s.cnt ∧ (s.setFuse b f).rejects = s.rejects ∧ (s.setFuse b f).free = s.free ∧
    (s.setFuse b f).hub = s.hub ∧ (s.setFuse b f).answers = s.answers ∧ (s.setFuse b f).role = s.role ∧
    (s.setFuse b f).links = s.links ∧ (s.setFuse b f).tx = s.tx ∧ (s.setFuse b f).ingress = s.ingress ∧
    (s.setFuse b f).sent = s.sent ∧ (s.setFuse b f).inbox = s.inbox ∧ (s.setFuse b f).landing = s.landing ∧
    (s.setFuse b f).seqNext = s.seqNext ∧ (s.setFuse b f).origTimes = s.origTimes ∧ (s.setFuse b f).origHeld = s.origHeld ∧
    (s.setFuse b f).dups = s.dups ∧ (s.setFuse b f).tie = s.tie ∧ (s.setFuse b f).settleEnds = s.settleEnds ∧
    (s.setFuse b f).field = s.field ∧ (s.setFuse b f).healthAt = s.healthAt ∧ (s.setFuse b f).sources = s.sources ∧
    (s.setFuse b f).records = s.records ∧ (s.setFuse b f).recordLoss = s.recordLoss ∧
    (s.setFuse b f).deliveries = s.deliveries ∧ (s.setFuse b f).msix = s.msix ∧ (s.setFuse b f).faults = s.faults ∧
    (s.setFuse b f).cru = s.cru ∧ (s.setFuse b f).copper = s.copper ∧ (s.setFuse b f).assigned = s.assigned ∧
    (s.setFuse b f).disc = s.disc ∧ (s.setFuse b f).img = s.img ∧ (s.setFuse b f).mirror = s.mirror ∧
    (s.setFuse b f).hist = s.hist ∧ (s.setFuse b f).time = s.time ∧ (s.setFuse b f).timers = s.timers ∧
    (s.setFuse b f).captures = s.captures ∧ (s.setFuse b f).queues = s.queues ∧ (s.setFuse b f).busReads = s.busReads ∧
    (s.setFuse b f).lines = s.lines ∧ (s.setFuse b f).pxs = s.pxs ∧ (s.setFuse b f).cans = s.cans ∧
    (s.setFuse b f).rss = s.rss ∧ (s.setFuse b f).rsSent = s.rsSent ∧ (s.setFuse b f).bridges = s.bridges ∧
    (s.setFuse b f).iols = s.iols ∧ (s.setFuse b f).whisks = s.whisks ∧ (s.setFuse b f).sw = s.sw ∧
    (s.setFuse b f).bar0 = s.bar0 ∧ (s.setFuse b f).host = s.host ∧ (s.setFuse b f).dict = s.dict ∧
    (s.setFuse b f).recordsIn = s.recordsIn ∧ (s.setFuse b f).fences = s.fences ∧
    (s.setFuse b f).fenceOrder = s.fenceOrder ∧ (s.setFuse b f).writeSentAt = s.writeSentAt ∧
    (s.setFuse b f).writeHeld = s.writeHeld ∧ (s.setFuse b f).peerReady = s.peerReady ∧
    (s.setFuse b f).handInstant = s.handInstant ∧ (s.setFuse b f).twin = s.twin ∧ (s.setFuse b f).pertCount = s.pertCount ∧
    (s.setFuse b f).pertEnds = s.pertEnds ∧ (s.setFuse b f).rules = s.rules ∧ (s.setFuse b f).gaugeLog = s.gaugeLog ∧
    (s.setFuse b f).gaugeIn = s.gaugeIn ∧ (s.setFuse b f).pans = s.pans ∧ (s.setFuse b f).power = s.power ∧
    (s.setFuse b f).tagHeld = s.tagHeld ∧ (s.setFuse b f).keys = s.keys ∧ (s.setFuse b f).boot = s.boot ∧
    (s.setFuse b f).uartSent = s.uartSent ∧ (s.setFuse b f).jtag = s.jtag ∧ (s.setFuse b f).pending = s.pending := by
  refine ⟨rfl, rfl, rfl, rfl, rfl, rfl, rfl, rfl, rfl, rfl, rfl, rfl, rfl, rfl, rfl, rfl, rfl, rfl, rfl, rfl, rfl, rfl, rfl, rfl, rfl, rfl, rfl, rfl, rfl, rfl, rfl, rfl, rfl, rfl, rfl, rfl, rfl, rfl, rfl, rfl, rfl, rfl, rfl, rfl, rfl, rfl, rfl, rfl, rfl, rfl, rfl, rfl, rfl, rfl, rfl, rfl, rfl, rfl, rfl, rfl, rfl, rfl, rfl, rfl, rfl, rfl, rfl, rfl, rfl, rfl, rfl, rfl, rfl, rfl, rfl, rfl, rfl⟩

@[simp] theorem State.setFuse_readers (s : State) (b : Nat) (f : FuseSt) :
    (s.setFuse b f).reg = s.reg ∧ (s.setFuse b f).count = s.count ∧ (s.setFuse b f).rejections = s.rejections ∧
    (s.setFuse b f).link = s.link ∧ (s.setFuse b f).port = s.port ∧ (s.setFuse b f).rule = s.rule ∧
    (s.setFuse b f).src = s.src ∧ (s.setFuse b f).bar = s.bar ∧ (s.setFuse b f).whisk = s.whisk ∧
    (s.setFuse b f).flt = s.flt ∧ (s.setFuse b f).line = s.line ∧ (s.setFuse b f).px = s.px ∧ (s.setFuse b f).can = s.can ∧
    (s.setFuse b f).fence = s.fence ∧ (s.setFuse b f).ring = s.ring ∧ (s.setFuse b f).bar4 = s.bar4 ∧
    (s.setFuse b f).iol = s.iol ∧ (s.setFuse b f).dup = s.dup ∧ (s.setFuse b f).pan = s.pan ∧
    (s.setFuse b f).queue = s.queue ∧ (s.setFuse b f).rs = s.rs ∧ (s.setFuse b f).bridge = s.bridge ∧
    (s.setFuse b f).timer = s.timer ∧ (s.setFuse b f).capture = s.capture ∧ (s.setFuse b f).pd = s.pd ∧
    (s.setFuse b f).tun = s.tun ∧ (s.setFuse b f).swq = s.swq ∧ (s.setFuse b f).meter = s.meter ∧
    (s.setFuse b f).gatePending = s.gatePending ∧ (s.setFuse b f).announce = s.announce ∧
    (s.setFuse b f).mailbox = s.mailbox := by
  refine ⟨rfl, rfl, rfl, rfl, rfl, rfl, rfl, rfl, rfl, rfl, rfl, rfl, rfl, rfl, rfl, rfl, rfl, rfl, rfl, rfl, rfl, rfl, rfl, rfl, rfl, rfl, rfl, rfl, rfl, rfl, rfl⟩

@[simp] theorem State.setQueue_fields (s : State) (n q : Nat) (x : QSt) :
    (s.setQueue n q x).run = s.run ∧ (s.setQueue n q x).clock = s.clock ∧ (s.setQueue n q x).ftimeQ = s.ftimeQ ∧
    (s.setQueue n q x).straps = s.straps ∧ (s.setQueue n q x).resetCause = s.resetCause ∧ (s.setQueue n q x).regs = s.regs ∧
    (s.setQueue n q x).cnt = s.cnt ∧ (s.setQueue n q x).rejects = s.rejects ∧ (s.setQueue n q x).free = s.free ∧
    (s.setQueue n q x).hub = s.hub ∧ (s.setQueue n q x).answers = s.answers ∧ (s.setQueue n q x).role = s.role ∧
    (s.setQueue n q x).links = s.links ∧ (s.setQueue n q x).tx = s.tx ∧ (s.setQueue n q x).ingress = s.ingress ∧
    (s.setQueue n q x).sent = s.sent ∧ (s.setQueue n q x).inbox = s.inbox ∧ (s.setQueue n q x).landing = s.landing ∧
    (s.setQueue n q x).seqNext = s.seqNext ∧ (s.setQueue n q x).origTimes = s.origTimes ∧
    (s.setQueue n q x).origHeld = s.origHeld ∧ (s.setQueue n q x).dups = s.dups ∧ (s.setQueue n q x).tie = s.tie ∧
    (s.setQueue n q x).settleEnds = s.settleEnds ∧ (s.setQueue n q x).field = s.field ∧
    (s.setQueue n q x).healthAt = s.healthAt ∧ (s.setQueue n q x).sources = s.sources ∧
    (s.setQueue n q x).records = s.records ∧ (s.setQueue n q x).recordLoss = s.recordLoss ∧
    (s.setQueue n q x).deliveries = s.deliveries ∧ (s.setQueue n q x).msix = s.msix ∧ (s.setQueue n q x).faults = s.faults ∧
    (s.setQueue n q x).cru = s.cru ∧ (s.setQueue n q x).copper = s.copper ∧ (s.setQueue n q x).assigned = s.assigned ∧
    (s.setQueue n q x).disc = s.disc ∧ (s.setQueue n q x).img = s.img ∧ (s.setQueue n q x).mirror = s.mirror ∧
    (s.setQueue n q x).hist = s.hist ∧ (s.setQueue n q x).time = s.time ∧ (s.setQueue n q x).timers = s.timers ∧
    (s.setQueue n q x).captures = s.captures ∧ (s.setQueue n q x).busReads = s.busReads ∧
    (s.setQueue n q x).lines = s.lines ∧ (s.setQueue n q x).pxs = s.pxs ∧ (s.setQueue n q x).cans = s.cans ∧
    (s.setQueue n q x).rss = s.rss ∧ (s.setQueue n q x).rsSent = s.rsSent ∧ (s.setQueue n q x).bridges = s.bridges ∧
    (s.setQueue n q x).iols = s.iols ∧ (s.setQueue n q x).whisks = s.whisks ∧ (s.setQueue n q x).sw = s.sw ∧
    (s.setQueue n q x).bar0 = s.bar0 ∧ (s.setQueue n q x).host = s.host ∧ (s.setQueue n q x).dict = s.dict ∧
    (s.setQueue n q x).recordsIn = s.recordsIn ∧ (s.setQueue n q x).fences = s.fences ∧
    (s.setQueue n q x).fenceOrder = s.fenceOrder ∧ (s.setQueue n q x).writeSentAt = s.writeSentAt ∧
    (s.setQueue n q x).writeHeld = s.writeHeld ∧ (s.setQueue n q x).peerReady = s.peerReady ∧
    (s.setQueue n q x).handInstant = s.handInstant ∧ (s.setQueue n q x).twin = s.twin ∧
    (s.setQueue n q x).pertCount = s.pertCount ∧ (s.setQueue n q x).pertEnds = s.pertEnds ∧
    (s.setQueue n q x).rules = s.rules ∧ (s.setQueue n q x).gaugeLog = s.gaugeLog ∧ (s.setQueue n q x).gaugeIn = s.gaugeIn ∧
    (s.setQueue n q x).pans = s.pans ∧ (s.setQueue n q x).fuses = s.fuses ∧ (s.setQueue n q x).power = s.power ∧
    (s.setQueue n q x).tagHeld = s.tagHeld ∧ (s.setQueue n q x).keys = s.keys ∧ (s.setQueue n q x).boot = s.boot ∧
    (s.setQueue n q x).uartSent = s.uartSent ∧ (s.setQueue n q x).jtag = s.jtag ∧
    (s.setQueue n q x).pending = s.pending := by
  refine ⟨rfl, rfl, rfl, rfl, rfl, rfl, rfl, rfl, rfl, rfl, rfl, rfl, rfl, rfl, rfl, rfl, rfl, rfl, rfl, rfl, rfl, rfl, rfl, rfl, rfl, rfl, rfl, rfl, rfl, rfl, rfl, rfl, rfl, rfl, rfl, rfl, rfl, rfl, rfl, rfl, rfl, rfl, rfl, rfl, rfl, rfl, rfl, rfl, rfl, rfl, rfl, rfl, rfl, rfl, rfl, rfl, rfl, rfl, rfl, rfl, rfl, rfl, rfl, rfl, rfl, rfl, rfl, rfl, rfl, rfl, rfl, rfl, rfl, rfl, rfl, rfl, rfl⟩

@[simp] theorem State.setQueue_readers (s : State) (n q : Nat) (x : QSt) :
    (s.setQueue n q x).reg = s.reg ∧ (s.setQueue n q x).count = s.count ∧ (s.setQueue n q x).rejections = s.rejections ∧
    (s.setQueue n q x).link = s.link ∧ (s.setQueue n q x).port = s.port ∧ (s.setQueue n q x).rule = s.rule ∧
    (s.setQueue n q x).src = s.src ∧ (s.setQueue n q x).bar = s.bar ∧ (s.setQueue n q x).whisk = s.whisk ∧
    (s.setQueue n q x).flt = s.flt ∧ (s.setQueue n q x).line = s.line ∧ (s.setQueue n q x).px = s.px ∧
    (s.setQueue n q x).can = s.can ∧ (s.setQueue n q x).fence = s.fence ∧ (s.setQueue n q x).ring = s.ring ∧
    (s.setQueue n q x).bar4 = s.bar4 ∧ (s.setQueue n q x).iol = s.iol ∧ (s.setQueue n q x).dup = s.dup ∧
    (s.setQueue n q x).pan = s.pan ∧ (s.setQueue n q x).fuse = s.fuse ∧ (s.setQueue n q x).rs = s.rs ∧
    (s.setQueue n q x).bridge = s.bridge ∧ (s.setQueue n q x).timer = s.timer ∧ (s.setQueue n q x).capture = s.capture ∧
    (s.setQueue n q x).pd = s.pd ∧ (s.setQueue n q x).tun = s.tun ∧ (s.setQueue n q x).swq = s.swq ∧
    (s.setQueue n q x).meter = s.meter ∧ (s.setQueue n q x).gatePending = s.gatePending ∧
    (s.setQueue n q x).announce = s.announce ∧ (s.setQueue n q x).mailbox = s.mailbox := by
  refine ⟨rfl, rfl, rfl, rfl, rfl, rfl, rfl, rfl, rfl, rfl, rfl, rfl, rfl, rfl, rfl, rfl, rfl, rfl, rfl, rfl, rfl, rfl, rfl, rfl, rfl, rfl, rfl, rfl, rfl, rfl, rfl⟩

@[simp] theorem State.busRead_fields (s : State) (bar offset v : Nat) :
    (s.busRead bar offset v).run = s.run ∧ (s.busRead bar offset v).clock = s.clock ∧
    (s.busRead bar offset v).ftimeQ = s.ftimeQ ∧ (s.busRead bar offset v).straps = s.straps ∧
    (s.busRead bar offset v).resetCause = s.resetCause ∧ (s.busRead bar offset v).regs = s.regs ∧
    (s.busRead bar offset v).cnt = s.cnt ∧ (s.busRead bar offset v).rejects = s.rejects ∧
    (s.busRead bar offset v).free = s.free ∧ (s.busRead bar offset v).hub = s.hub ∧
    (s.busRead bar offset v).answers = s.answers ∧ (s.busRead bar offset v).role = s.role ∧
    (s.busRead bar offset v).links = s.links ∧ (s.busRead bar offset v).tx = s.tx ∧
    (s.busRead bar offset v).ingress = s.ingress ∧ (s.busRead bar offset v).sent = s.sent ∧
    (s.busRead bar offset v).inbox = s.inbox ∧ (s.busRead bar offset v).landing = s.landing ∧
    (s.busRead bar offset v).seqNext = s.seqNext ∧ (s.busRead bar offset v).origTimes = s.origTimes ∧
    (s.busRead bar offset v).origHeld = s.origHeld ∧ (s.busRead bar offset v).dups = s.dups ∧
    (s.busRead bar offset v).tie = s.tie ∧ (s.busRead bar offset v).settleEnds = s.settleEnds ∧
    (s.busRead bar offset v).field = s.field ∧ (s.busRead bar offset v).healthAt = s.healthAt ∧
    (s.busRead bar offset v).sources = s.sources ∧ (s.busRead bar offset v).records = s.records ∧
    (s.busRead bar offset v).recordLoss = s.recordLoss ∧ (s.busRead bar offset v).deliveries = s.deliveries ∧
    (s.busRead bar offset v).msix = s.msix ∧ (s.busRead bar offset v).faults = s.faults ∧
    (s.busRead bar offset v).cru = s.cru ∧ (s.busRead bar offset v).copper = s.copper ∧
    (s.busRead bar offset v).assigned = s.assigned ∧ (s.busRead bar offset v).disc = s.disc ∧
    (s.busRead bar offset v).img = s.img ∧ (s.busRead bar offset v).mirror = s.mirror ∧
    (s.busRead bar offset v).hist = s.hist ∧ (s.busRead bar offset v).time = s.time ∧
    (s.busRead bar offset v).timers = s.timers ∧ (s.busRead bar offset v).captures = s.captures ∧
    (s.busRead bar offset v).queues = s.queues ∧ (s.busRead bar offset v).lines = s.lines ∧
    (s.busRead bar offset v).pxs = s.pxs ∧ (s.busRead bar offset v).cans = s.cans ∧ (s.busRead bar offset v).rss = s.rss ∧
    (s.busRead bar offset v).rsSent = s.rsSent ∧ (s.busRead bar offset v).bridges = s.bridges ∧
    (s.busRead bar offset v).iols = s.iols ∧ (s.busRead bar offset v).whisks = s.whisks ∧
    (s.busRead bar offset v).sw = s.sw ∧ (s.busRead bar offset v).bar0 = s.bar0 ∧ (s.busRead bar offset v).host = s.host ∧
    (s.busRead bar offset v).dict = s.dict ∧ (s.busRead bar offset v).recordsIn = s.recordsIn ∧
    (s.busRead bar offset v).fences = s.fences ∧ (s.busRead bar offset v).fenceOrder = s.fenceOrder ∧
    (s.busRead bar offset v).writeSentAt = s.writeSentAt ∧ (s.busRead bar offset v).writeHeld = s.writeHeld ∧
    (s.busRead bar offset v).peerReady = s.peerReady ∧ (s.busRead bar offset v).handInstant = s.handInstant ∧
    (s.busRead bar offset v).twin = s.twin ∧ (s.busRead bar offset v).pertCount = s.pertCount ∧
    (s.busRead bar offset v).pertEnds = s.pertEnds ∧ (s.busRead bar offset v).rules = s.rules ∧
    (s.busRead bar offset v).gaugeLog = s.gaugeLog ∧ (s.busRead bar offset v).gaugeIn = s.gaugeIn ∧
    (s.busRead bar offset v).pans = s.pans ∧ (s.busRead bar offset v).fuses = s.fuses ∧
    (s.busRead bar offset v).power = s.power ∧ (s.busRead bar offset v).tagHeld = s.tagHeld ∧
    (s.busRead bar offset v).keys = s.keys ∧ (s.busRead bar offset v).boot = s.boot ∧
    (s.busRead bar offset v).uartSent = s.uartSent ∧ (s.busRead bar offset v).jtag = s.jtag ∧
    (s.busRead bar offset v).pending = s.pending := by
  refine ⟨rfl, rfl, rfl, rfl, rfl, rfl, rfl, rfl, rfl, rfl, rfl, rfl, rfl, rfl, rfl, rfl, rfl, rfl, rfl, rfl, rfl, rfl, rfl, rfl, rfl, rfl, rfl, rfl, rfl, rfl, rfl, rfl, rfl, rfl, rfl, rfl, rfl, rfl, rfl, rfl, rfl, rfl, rfl, rfl, rfl, rfl, rfl, rfl, rfl, rfl, rfl, rfl, rfl, rfl, rfl, rfl, rfl, rfl, rfl, rfl, rfl, rfl, rfl, rfl, rfl, rfl, rfl, rfl, rfl, rfl, rfl, rfl, rfl, rfl, rfl, rfl, rfl⟩

@[simp] theorem State.busRead_readers (s : State) (bar offset v : Nat) :
    (s.busRead bar offset v).reg = s.reg ∧ (s.busRead bar offset v).count = s.count ∧
    (s.busRead bar offset v).rejections = s.rejections ∧ (s.busRead bar offset v).link = s.link ∧
    (s.busRead bar offset v).port = s.port ∧ (s.busRead bar offset v).rule = s.rule ∧ (s.busRead bar offset v).src = s.src ∧
    (s.busRead bar offset v).bar = s.bar ∧ (s.busRead bar offset v).whisk = s.whisk ∧ (s.busRead bar offset v).flt = s.flt ∧
    (s.busRead bar offset v).line = s.line ∧ (s.busRead bar offset v).px = s.px ∧ (s.busRead bar offset v).can = s.can ∧
    (s.busRead bar offset v).fence = s.fence ∧ (s.busRead bar offset v).ring = s.ring ∧
    (s.busRead bar offset v).bar4 = s.bar4 ∧ (s.busRead bar offset v).iol = s.iol ∧ (s.busRead bar offset v).dup = s.dup ∧
    (s.busRead bar offset v).pan = s.pan ∧ (s.busRead bar offset v).fuse = s.fuse ∧
    (s.busRead bar offset v).queue = s.queue ∧ (s.busRead bar offset v).rs = s.rs ∧
    (s.busRead bar offset v).bridge = s.bridge ∧ (s.busRead bar offset v).timer = s.timer ∧
    (s.busRead bar offset v).capture = s.capture ∧ (s.busRead bar offset v).pd = s.pd ∧
    (s.busRead bar offset v).tun = s.tun ∧ (s.busRead bar offset v).swq = s.swq ∧ (s.busRead bar offset v).meter = s.meter ∧
    (s.busRead bar offset v).gatePending = s.gatePending ∧ (s.busRead bar offset v).announce = s.announce ∧
    (s.busRead bar offset v).mailbox = s.mailbox := by
  refine ⟨rfl, rfl, rfl, rfl, rfl, rfl, rfl, rfl, rfl, rfl, rfl, rfl, rfl, rfl, rfl, rfl, rfl, rfl, rfl, rfl, rfl, rfl, rfl, rfl, rfl, rfl, rfl, rfl, rfl, rfl, rfl, rfl⟩

@[simp] theorem State.setRs_fields (s : State) (c : Nat) (x : RsSt) :
    (s.setRs c x).run = s.run ∧ (s.setRs c x).clock = s.clock ∧ (s.setRs c x).ftimeQ = s.ftimeQ ∧
    (s.setRs c x).straps = s.straps ∧ (s.setRs c x).resetCause = s.resetCause ∧ (s.setRs c x).regs = s.regs ∧
    (s.setRs c x).cnt = s.cnt ∧ (s.setRs c x).rejects = s.rejects ∧ (s.setRs c x).free = s.free ∧
    (s.setRs c x).hub = s.hub ∧ (s.setRs c x).answers = s.answers ∧ (s.setRs c x).role = s.role ∧
    (s.setRs c x).links = s.links ∧ (s.setRs c x).tx = s.tx ∧ (s.setRs c x).ingress = s.ingress ∧
    (s.setRs c x).sent = s.sent ∧ (s.setRs c x).inbox = s.inbox ∧ (s.setRs c x).landing = s.landing ∧
    (s.setRs c x).seqNext = s.seqNext ∧ (s.setRs c x).origTimes = s.origTimes ∧ (s.setRs c x).origHeld = s.origHeld ∧
    (s.setRs c x).dups = s.dups ∧ (s.setRs c x).tie = s.tie ∧ (s.setRs c x).settleEnds = s.settleEnds ∧
    (s.setRs c x).field = s.field ∧ (s.setRs c x).healthAt = s.healthAt ∧ (s.setRs c x).sources = s.sources ∧
    (s.setRs c x).records = s.records ∧ (s.setRs c x).recordLoss = s.recordLoss ∧ (s.setRs c x).deliveries = s.deliveries ∧
    (s.setRs c x).msix = s.msix ∧ (s.setRs c x).faults = s.faults ∧ (s.setRs c x).cru = s.cru ∧
    (s.setRs c x).copper = s.copper ∧ (s.setRs c x).assigned = s.assigned ∧ (s.setRs c x).disc = s.disc ∧
    (s.setRs c x).img = s.img ∧ (s.setRs c x).mirror = s.mirror ∧ (s.setRs c x).hist = s.hist ∧
    (s.setRs c x).time = s.time ∧ (s.setRs c x).timers = s.timers ∧ (s.setRs c x).captures = s.captures ∧
    (s.setRs c x).queues = s.queues ∧ (s.setRs c x).busReads = s.busReads ∧ (s.setRs c x).lines = s.lines ∧
    (s.setRs c x).pxs = s.pxs ∧ (s.setRs c x).cans = s.cans ∧ (s.setRs c x).rsSent = s.rsSent ∧
    (s.setRs c x).bridges = s.bridges ∧ (s.setRs c x).iols = s.iols ∧ (s.setRs c x).whisks = s.whisks ∧
    (s.setRs c x).sw = s.sw ∧ (s.setRs c x).bar0 = s.bar0 ∧ (s.setRs c x).host = s.host ∧ (s.setRs c x).dict = s.dict ∧
    (s.setRs c x).recordsIn = s.recordsIn ∧ (s.setRs c x).fences = s.fences ∧ (s.setRs c x).fenceOrder = s.fenceOrder ∧
    (s.setRs c x).writeSentAt = s.writeSentAt ∧ (s.setRs c x).writeHeld = s.writeHeld ∧
    (s.setRs c x).peerReady = s.peerReady ∧ (s.setRs c x).handInstant = s.handInstant ∧ (s.setRs c x).twin = s.twin ∧
    (s.setRs c x).pertCount = s.pertCount ∧ (s.setRs c x).pertEnds = s.pertEnds ∧ (s.setRs c x).rules = s.rules ∧
    (s.setRs c x).gaugeLog = s.gaugeLog ∧ (s.setRs c x).gaugeIn = s.gaugeIn ∧ (s.setRs c x).pans = s.pans ∧
    (s.setRs c x).fuses = s.fuses ∧ (s.setRs c x).power = s.power ∧ (s.setRs c x).tagHeld = s.tagHeld ∧
    (s.setRs c x).keys = s.keys ∧ (s.setRs c x).boot = s.boot ∧ (s.setRs c x).uartSent = s.uartSent ∧
    (s.setRs c x).jtag = s.jtag ∧ (s.setRs c x).pending = s.pending := by
  refine ⟨rfl, rfl, rfl, rfl, rfl, rfl, rfl, rfl, rfl, rfl, rfl, rfl, rfl, rfl, rfl, rfl, rfl, rfl, rfl, rfl, rfl, rfl, rfl, rfl, rfl, rfl, rfl, rfl, rfl, rfl, rfl, rfl, rfl, rfl, rfl, rfl, rfl, rfl, rfl, rfl, rfl, rfl, rfl, rfl, rfl, rfl, rfl, rfl, rfl, rfl, rfl, rfl, rfl, rfl, rfl, rfl, rfl, rfl, rfl, rfl, rfl, rfl, rfl, rfl, rfl, rfl, rfl, rfl, rfl, rfl, rfl, rfl, rfl, rfl, rfl, rfl, rfl⟩

@[simp] theorem State.setRs_readers (s : State) (c : Nat) (x : RsSt) :
    (s.setRs c x).reg = s.reg ∧ (s.setRs c x).count = s.count ∧ (s.setRs c x).rejections = s.rejections ∧
    (s.setRs c x).link = s.link ∧ (s.setRs c x).port = s.port ∧ (s.setRs c x).rule = s.rule ∧ (s.setRs c x).src = s.src ∧
    (s.setRs c x).bar = s.bar ∧ (s.setRs c x).whisk = s.whisk ∧ (s.setRs c x).flt = s.flt ∧ (s.setRs c x).line = s.line ∧
    (s.setRs c x).px = s.px ∧ (s.setRs c x).can = s.can ∧ (s.setRs c x).fence = s.fence ∧ (s.setRs c x).ring = s.ring ∧
    (s.setRs c x).bar4 = s.bar4 ∧ (s.setRs c x).iol = s.iol ∧ (s.setRs c x).dup = s.dup ∧ (s.setRs c x).pan = s.pan ∧
    (s.setRs c x).fuse = s.fuse ∧ (s.setRs c x).queue = s.queue ∧ (s.setRs c x).bridge = s.bridge ∧
    (s.setRs c x).timer = s.timer ∧ (s.setRs c x).capture = s.capture ∧ (s.setRs c x).pd = s.pd ∧
    (s.setRs c x).tun = s.tun ∧ (s.setRs c x).swq = s.swq ∧ (s.setRs c x).meter = s.meter ∧
    (s.setRs c x).gatePending = s.gatePending ∧ (s.setRs c x).announce = s.announce ∧ (s.setRs c x).mailbox = s.mailbox := by
  refine ⟨rfl, rfl, rfl, rfl, rfl, rfl, rfl, rfl, rfl, rfl, rfl, rfl, rfl, rfl, rfl, rfl, rfl, rfl, rfl, rfl, rfl, rfl, rfl, rfl, rfl, rfl, rfl, rfl, rfl, rfl, rfl⟩

@[simp] theorem State.setBridge_fields (s : State) (j : Nat) (x : BridgeSt) :
    (s.setBridge j x).run = s.run ∧ (s.setBridge j x).clock = s.clock ∧ (s.setBridge j x).ftimeQ = s.ftimeQ ∧
    (s.setBridge j x).straps = s.straps ∧ (s.setBridge j x).resetCause = s.resetCause ∧ (s.setBridge j x).regs = s.regs ∧
    (s.setBridge j x).cnt = s.cnt ∧ (s.setBridge j x).rejects = s.rejects ∧ (s.setBridge j x).free = s.free ∧
    (s.setBridge j x).hub = s.hub ∧ (s.setBridge j x).answers = s.answers ∧ (s.setBridge j x).role = s.role ∧
    (s.setBridge j x).links = s.links ∧ (s.setBridge j x).tx = s.tx ∧ (s.setBridge j x).ingress = s.ingress ∧
    (s.setBridge j x).sent = s.sent ∧ (s.setBridge j x).inbox = s.inbox ∧ (s.setBridge j x).landing = s.landing ∧
    (s.setBridge j x).seqNext = s.seqNext ∧ (s.setBridge j x).origTimes = s.origTimes ∧
    (s.setBridge j x).origHeld = s.origHeld ∧ (s.setBridge j x).dups = s.dups ∧ (s.setBridge j x).tie = s.tie ∧
    (s.setBridge j x).settleEnds = s.settleEnds ∧ (s.setBridge j x).field = s.field ∧
    (s.setBridge j x).healthAt = s.healthAt ∧ (s.setBridge j x).sources = s.sources ∧
    (s.setBridge j x).records = s.records ∧ (s.setBridge j x).recordLoss = s.recordLoss ∧
    (s.setBridge j x).deliveries = s.deliveries ∧ (s.setBridge j x).msix = s.msix ∧ (s.setBridge j x).faults = s.faults ∧
    (s.setBridge j x).cru = s.cru ∧ (s.setBridge j x).copper = s.copper ∧ (s.setBridge j x).assigned = s.assigned ∧
    (s.setBridge j x).disc = s.disc ∧ (s.setBridge j x).img = s.img ∧ (s.setBridge j x).mirror = s.mirror ∧
    (s.setBridge j x).hist = s.hist ∧ (s.setBridge j x).time = s.time ∧ (s.setBridge j x).timers = s.timers ∧
    (s.setBridge j x).captures = s.captures ∧ (s.setBridge j x).queues = s.queues ∧
    (s.setBridge j x).busReads = s.busReads ∧ (s.setBridge j x).lines = s.lines ∧ (s.setBridge j x).pxs = s.pxs ∧
    (s.setBridge j x).cans = s.cans ∧ (s.setBridge j x).rss = s.rss ∧ (s.setBridge j x).rsSent = s.rsSent ∧
    (s.setBridge j x).iols = s.iols ∧ (s.setBridge j x).whisks = s.whisks ∧ (s.setBridge j x).sw = s.sw ∧
    (s.setBridge j x).bar0 = s.bar0 ∧ (s.setBridge j x).host = s.host ∧ (s.setBridge j x).dict = s.dict ∧
    (s.setBridge j x).recordsIn = s.recordsIn ∧ (s.setBridge j x).fences = s.fences ∧
    (s.setBridge j x).fenceOrder = s.fenceOrder ∧ (s.setBridge j x).writeSentAt = s.writeSentAt ∧
    (s.setBridge j x).writeHeld = s.writeHeld ∧ (s.setBridge j x).peerReady = s.peerReady ∧
    (s.setBridge j x).handInstant = s.handInstant ∧ (s.setBridge j x).twin = s.twin ∧
    (s.setBridge j x).pertCount = s.pertCount ∧ (s.setBridge j x).pertEnds = s.pertEnds ∧
    (s.setBridge j x).rules = s.rules ∧ (s.setBridge j x).gaugeLog = s.gaugeLog ∧ (s.setBridge j x).gaugeIn = s.gaugeIn ∧
    (s.setBridge j x).pans = s.pans ∧ (s.setBridge j x).fuses = s.fuses ∧ (s.setBridge j x).power = s.power ∧
    (s.setBridge j x).tagHeld = s.tagHeld ∧ (s.setBridge j x).keys = s.keys ∧ (s.setBridge j x).boot = s.boot ∧
    (s.setBridge j x).uartSent = s.uartSent ∧ (s.setBridge j x).jtag = s.jtag ∧ (s.setBridge j x).pending = s.pending := by
  refine ⟨rfl, rfl, rfl, rfl, rfl, rfl, rfl, rfl, rfl, rfl, rfl, rfl, rfl, rfl, rfl, rfl, rfl, rfl, rfl, rfl, rfl, rfl, rfl, rfl, rfl, rfl, rfl, rfl, rfl, rfl, rfl, rfl, rfl, rfl, rfl, rfl, rfl, rfl, rfl, rfl, rfl, rfl, rfl, rfl, rfl, rfl, rfl, rfl, rfl, rfl, rfl, rfl, rfl, rfl, rfl, rfl, rfl, rfl, rfl, rfl, rfl, rfl, rfl, rfl, rfl, rfl, rfl, rfl, rfl, rfl, rfl, rfl, rfl, rfl, rfl, rfl, rfl⟩

@[simp] theorem State.setBridge_readers (s : State) (j : Nat) (x : BridgeSt) :
    (s.setBridge j x).reg = s.reg ∧ (s.setBridge j x).count = s.count ∧ (s.setBridge j x).rejections = s.rejections ∧
    (s.setBridge j x).link = s.link ∧ (s.setBridge j x).port = s.port ∧ (s.setBridge j x).rule = s.rule ∧
    (s.setBridge j x).src = s.src ∧ (s.setBridge j x).bar = s.bar ∧ (s.setBridge j x).whisk = s.whisk ∧
    (s.setBridge j x).flt = s.flt ∧ (s.setBridge j x).line = s.line ∧ (s.setBridge j x).px = s.px ∧
    (s.setBridge j x).can = s.can ∧ (s.setBridge j x).fence = s.fence ∧ (s.setBridge j x).ring = s.ring ∧
    (s.setBridge j x).bar4 = s.bar4 ∧ (s.setBridge j x).iol = s.iol ∧ (s.setBridge j x).dup = s.dup ∧
    (s.setBridge j x).pan = s.pan ∧ (s.setBridge j x).fuse = s.fuse ∧ (s.setBridge j x).queue = s.queue ∧
    (s.setBridge j x).rs = s.rs ∧ (s.setBridge j x).timer = s.timer ∧ (s.setBridge j x).capture = s.capture ∧
    (s.setBridge j x).pd = s.pd ∧ (s.setBridge j x).tun = s.tun ∧ (s.setBridge j x).swq = s.swq ∧
    (s.setBridge j x).meter = s.meter ∧ (s.setBridge j x).gatePending = s.gatePending ∧
    (s.setBridge j x).announce = s.announce ∧ (s.setBridge j x).mailbox = s.mailbox := by
  refine ⟨rfl, rfl, rfl, rfl, rfl, rfl, rfl, rfl, rfl, rfl, rfl, rfl, rfl, rfl, rfl, rfl, rfl, rfl, rfl, rfl, rfl, rfl, rfl, rfl, rfl, rfl, rfl, rfl, rfl, rfl, rfl⟩

@[simp] theorem State.rsDrive_fields (s : State) (c : Nat) (chars : List Nat) :
    (s.rsDrive c chars).run = s.run ∧ (s.rsDrive c chars).clock = s.clock ∧ (s.rsDrive c chars).ftimeQ = s.ftimeQ ∧
    (s.rsDrive c chars).straps = s.straps ∧ (s.rsDrive c chars).resetCause = s.resetCause ∧
    (s.rsDrive c chars).regs = s.regs ∧ (s.rsDrive c chars).cnt = s.cnt ∧ (s.rsDrive c chars).rejects = s.rejects ∧
    (s.rsDrive c chars).free = s.free ∧ (s.rsDrive c chars).hub = s.hub ∧ (s.rsDrive c chars).answers = s.answers ∧
    (s.rsDrive c chars).role = s.role ∧ (s.rsDrive c chars).links = s.links ∧ (s.rsDrive c chars).tx = s.tx ∧
    (s.rsDrive c chars).ingress = s.ingress ∧ (s.rsDrive c chars).sent = s.sent ∧ (s.rsDrive c chars).inbox = s.inbox ∧
    (s.rsDrive c chars).landing = s.landing ∧ (s.rsDrive c chars).seqNext = s.seqNext ∧
    (s.rsDrive c chars).origTimes = s.origTimes ∧ (s.rsDrive c chars).origHeld = s.origHeld ∧
    (s.rsDrive c chars).dups = s.dups ∧ (s.rsDrive c chars).tie = s.tie ∧ (s.rsDrive c chars).settleEnds = s.settleEnds ∧
    (s.rsDrive c chars).field = s.field ∧ (s.rsDrive c chars).healthAt = s.healthAt ∧
    (s.rsDrive c chars).sources = s.sources ∧ (s.rsDrive c chars).records = s.records ∧
    (s.rsDrive c chars).recordLoss = s.recordLoss ∧ (s.rsDrive c chars).deliveries = s.deliveries ∧
    (s.rsDrive c chars).msix = s.msix ∧ (s.rsDrive c chars).faults = s.faults ∧ (s.rsDrive c chars).cru = s.cru ∧
    (s.rsDrive c chars).copper = s.copper ∧ (s.rsDrive c chars).assigned = s.assigned ∧ (s.rsDrive c chars).disc = s.disc ∧
    (s.rsDrive c chars).img = s.img ∧ (s.rsDrive c chars).mirror = s.mirror ∧ (s.rsDrive c chars).hist = s.hist ∧
    (s.rsDrive c chars).time = s.time ∧ (s.rsDrive c chars).timers = s.timers ∧ (s.rsDrive c chars).captures = s.captures ∧
    (s.rsDrive c chars).queues = s.queues ∧ (s.rsDrive c chars).busReads = s.busReads ∧
    (s.rsDrive c chars).lines = s.lines ∧ (s.rsDrive c chars).pxs = s.pxs ∧ (s.rsDrive c chars).cans = s.cans ∧
    (s.rsDrive c chars).rss = s.rss ∧ (s.rsDrive c chars).bridges = s.bridges ∧ (s.rsDrive c chars).iols = s.iols ∧
    (s.rsDrive c chars).whisks = s.whisks ∧ (s.rsDrive c chars).sw = s.sw ∧ (s.rsDrive c chars).bar0 = s.bar0 ∧
    (s.rsDrive c chars).host = s.host ∧ (s.rsDrive c chars).dict = s.dict ∧ (s.rsDrive c chars).recordsIn = s.recordsIn ∧
    (s.rsDrive c chars).fences = s.fences ∧ (s.rsDrive c chars).fenceOrder = s.fenceOrder ∧
    (s.rsDrive c chars).writeSentAt = s.writeSentAt ∧ (s.rsDrive c chars).writeHeld = s.writeHeld ∧
    (s.rsDrive c chars).peerReady = s.peerReady ∧ (s.rsDrive c chars).handInstant = s.handInstant ∧
    (s.rsDrive c chars).twin = s.twin ∧ (s.rsDrive c chars).pertCount = s.pertCount ∧
    (s.rsDrive c chars).pertEnds = s.pertEnds ∧ (s.rsDrive c chars).rules = s.rules ∧
    (s.rsDrive c chars).gaugeLog = s.gaugeLog ∧ (s.rsDrive c chars).gaugeIn = s.gaugeIn ∧
    (s.rsDrive c chars).pans = s.pans ∧ (s.rsDrive c chars).fuses = s.fuses ∧ (s.rsDrive c chars).power = s.power ∧
    (s.rsDrive c chars).tagHeld = s.tagHeld ∧ (s.rsDrive c chars).keys = s.keys ∧ (s.rsDrive c chars).boot = s.boot ∧
    (s.rsDrive c chars).uartSent = s.uartSent ∧ (s.rsDrive c chars).jtag = s.jtag ∧
    (s.rsDrive c chars).pending = s.pending := by
  refine ⟨rfl, rfl, rfl, rfl, rfl, rfl, rfl, rfl, rfl, rfl, rfl, rfl, rfl, rfl, rfl, rfl, rfl, rfl, rfl, rfl, rfl, rfl, rfl, rfl, rfl, rfl, rfl, rfl, rfl, rfl, rfl, rfl, rfl, rfl, rfl, rfl, rfl, rfl, rfl, rfl, rfl, rfl, rfl, rfl, rfl, rfl, rfl, rfl, rfl, rfl, rfl, rfl, rfl, rfl, rfl, rfl, rfl, rfl, rfl, rfl, rfl, rfl, rfl, rfl, rfl, rfl, rfl, rfl, rfl, rfl, rfl, rfl, rfl, rfl, rfl, rfl, rfl⟩

@[simp] theorem State.rsDrive_readers (s : State) (c : Nat) (chars : List Nat) :
    (s.rsDrive c chars).reg = s.reg ∧ (s.rsDrive c chars).count = s.count ∧ (s.rsDrive c chars).rejections = s.rejections ∧
    (s.rsDrive c chars).link = s.link ∧ (s.rsDrive c chars).port = s.port ∧ (s.rsDrive c chars).rule = s.rule ∧
    (s.rsDrive c chars).src = s.src ∧ (s.rsDrive c chars).bar = s.bar ∧ (s.rsDrive c chars).whisk = s.whisk ∧
    (s.rsDrive c chars).flt = s.flt ∧ (s.rsDrive c chars).line = s.line ∧ (s.rsDrive c chars).px = s.px ∧
    (s.rsDrive c chars).can = s.can ∧ (s.rsDrive c chars).fence = s.fence ∧ (s.rsDrive c chars).ring = s.ring ∧
    (s.rsDrive c chars).bar4 = s.bar4 ∧ (s.rsDrive c chars).iol = s.iol ∧ (s.rsDrive c chars).dup = s.dup ∧
    (s.rsDrive c chars).pan = s.pan ∧ (s.rsDrive c chars).fuse = s.fuse ∧ (s.rsDrive c chars).queue = s.queue ∧
    (s.rsDrive c chars).rs = s.rs ∧ (s.rsDrive c chars).bridge = s.bridge ∧ (s.rsDrive c chars).timer = s.timer ∧
    (s.rsDrive c chars).capture = s.capture ∧ (s.rsDrive c chars).pd = s.pd ∧ (s.rsDrive c chars).tun = s.tun ∧
    (s.rsDrive c chars).swq = s.swq ∧ (s.rsDrive c chars).meter = s.meter ∧
    (s.rsDrive c chars).gatePending = s.gatePending ∧ (s.rsDrive c chars).announce = s.announce ∧
    (s.rsDrive c chars).mailbox = s.mailbox := by
  refine ⟨rfl, rfl, rfl, rfl, rfl, rfl, rfl, rfl, rfl, rfl, rfl, rfl, rfl, rfl, rfl, rfl, rfl, rfl, rfl, rfl, rfl, rfl, rfl, rfl, rfl, rfl, rfl, rfl, rfl, rfl, rfl, rfl⟩

@[simp] theorem State.setMeter_fields (s : State) (m : Nat) (x : MeterSt) :
    (s.setMeter m x).run = s.run ∧ (s.setMeter m x).clock = s.clock ∧ (s.setMeter m x).ftimeQ = s.ftimeQ ∧
    (s.setMeter m x).straps = s.straps ∧ (s.setMeter m x).resetCause = s.resetCause ∧ (s.setMeter m x).regs = s.regs ∧
    (s.setMeter m x).cnt = s.cnt ∧ (s.setMeter m x).rejects = s.rejects ∧ (s.setMeter m x).free = s.free ∧
    (s.setMeter m x).hub = s.hub ∧ (s.setMeter m x).answers = s.answers ∧ (s.setMeter m x).role = s.role ∧
    (s.setMeter m x).links = s.links ∧ (s.setMeter m x).tx = s.tx ∧ (s.setMeter m x).ingress = s.ingress ∧
    (s.setMeter m x).sent = s.sent ∧ (s.setMeter m x).inbox = s.inbox ∧ (s.setMeter m x).landing = s.landing ∧
    (s.setMeter m x).seqNext = s.seqNext ∧ (s.setMeter m x).origTimes = s.origTimes ∧
    (s.setMeter m x).origHeld = s.origHeld ∧ (s.setMeter m x).dups = s.dups ∧ (s.setMeter m x).tie = s.tie ∧
    (s.setMeter m x).settleEnds = s.settleEnds ∧ (s.setMeter m x).field = s.field ∧ (s.setMeter m x).healthAt = s.healthAt ∧
    (s.setMeter m x).sources = s.sources ∧ (s.setMeter m x).records = s.records ∧
    (s.setMeter m x).recordLoss = s.recordLoss ∧ (s.setMeter m x).deliveries = s.deliveries ∧
    (s.setMeter m x).msix = s.msix ∧ (s.setMeter m x).faults = s.faults ∧ (s.setMeter m x).cru = s.cru ∧
    (s.setMeter m x).copper = s.copper ∧ (s.setMeter m x).assigned = s.assigned ∧ (s.setMeter m x).disc = s.disc ∧
    (s.setMeter m x).img = s.img ∧ (s.setMeter m x).mirror = s.mirror ∧ (s.setMeter m x).hist = s.hist ∧
    (s.setMeter m x).time = s.time ∧ (s.setMeter m x).timers = s.timers ∧ (s.setMeter m x).captures = s.captures ∧
    (s.setMeter m x).queues = s.queues ∧ (s.setMeter m x).busReads = s.busReads ∧ (s.setMeter m x).lines = s.lines ∧
    (s.setMeter m x).pxs = s.pxs ∧ (s.setMeter m x).cans = s.cans ∧ (s.setMeter m x).rss = s.rss ∧
    (s.setMeter m x).rsSent = s.rsSent ∧ (s.setMeter m x).bridges = s.bridges ∧ (s.setMeter m x).iols = s.iols ∧
    (s.setMeter m x).whisks = s.whisks ∧ (s.setMeter m x).bar0 = s.bar0 ∧ (s.setMeter m x).host = s.host ∧
    (s.setMeter m x).dict = s.dict ∧ (s.setMeter m x).recordsIn = s.recordsIn ∧ (s.setMeter m x).fences = s.fences ∧
    (s.setMeter m x).fenceOrder = s.fenceOrder ∧ (s.setMeter m x).writeSentAt = s.writeSentAt ∧
    (s.setMeter m x).writeHeld = s.writeHeld ∧ (s.setMeter m x).peerReady = s.peerReady ∧
    (s.setMeter m x).handInstant = s.handInstant ∧ (s.setMeter m x).twin = s.twin ∧
    (s.setMeter m x).pertCount = s.pertCount ∧ (s.setMeter m x).pertEnds = s.pertEnds ∧ (s.setMeter m x).rules = s.rules ∧
    (s.setMeter m x).gaugeLog = s.gaugeLog ∧ (s.setMeter m x).gaugeIn = s.gaugeIn ∧ (s.setMeter m x).pans = s.pans ∧
    (s.setMeter m x).fuses = s.fuses ∧ (s.setMeter m x).power = s.power ∧ (s.setMeter m x).tagHeld = s.tagHeld ∧
    (s.setMeter m x).keys = s.keys ∧ (s.setMeter m x).boot = s.boot ∧ (s.setMeter m x).uartSent = s.uartSent ∧
    (s.setMeter m x).jtag = s.jtag ∧ (s.setMeter m x).pending = s.pending := by
  refine ⟨rfl, rfl, rfl, rfl, rfl, rfl, rfl, rfl, rfl, rfl, rfl, rfl, rfl, rfl, rfl, rfl, rfl, rfl, rfl, rfl, rfl, rfl, rfl, rfl, rfl, rfl, rfl, rfl, rfl, rfl, rfl, rfl, rfl, rfl, rfl, rfl, rfl, rfl, rfl, rfl, rfl, rfl, rfl, rfl, rfl, rfl, rfl, rfl, rfl, rfl, rfl, rfl, rfl, rfl, rfl, rfl, rfl, rfl, rfl, rfl, rfl, rfl, rfl, rfl, rfl, rfl, rfl, rfl, rfl, rfl, rfl, rfl, rfl, rfl, rfl, rfl, rfl⟩

@[simp] theorem State.setMeter_readers (s : State) (m : Nat) (x : MeterSt) :
    (s.setMeter m x).reg = s.reg ∧ (s.setMeter m x).count = s.count ∧ (s.setMeter m x).rejections = s.rejections ∧
    (s.setMeter m x).link = s.link ∧ (s.setMeter m x).port = s.port ∧ (s.setMeter m x).rule = s.rule ∧
    (s.setMeter m x).src = s.src ∧ (s.setMeter m x).bar = s.bar ∧ (s.setMeter m x).whisk = s.whisk ∧
    (s.setMeter m x).flt = s.flt ∧ (s.setMeter m x).line = s.line ∧ (s.setMeter m x).px = s.px ∧
    (s.setMeter m x).can = s.can ∧ (s.setMeter m x).fence = s.fence ∧ (s.setMeter m x).ring = s.ring ∧
    (s.setMeter m x).bar4 = s.bar4 ∧ (s.setMeter m x).iol = s.iol ∧ (s.setMeter m x).dup = s.dup ∧
    (s.setMeter m x).pan = s.pan ∧ (s.setMeter m x).fuse = s.fuse ∧ (s.setMeter m x).queue = s.queue ∧
    (s.setMeter m x).rs = s.rs ∧ (s.setMeter m x).bridge = s.bridge ∧ (s.setMeter m x).timer = s.timer ∧
    (s.setMeter m x).capture = s.capture ∧ (s.setMeter m x).pd = s.pd ∧ (s.setMeter m x).announce = s.announce ∧
    (s.setMeter m x).mailbox = s.mailbox := by
  refine ⟨rfl, rfl, rfl, rfl, rfl, rfl, rfl, rfl, rfl, rfl, rfl, rfl, rfl, rfl, rfl, rfl, rfl, rfl, rfl, rfl, rfl, rfl, rfl, rfl, rfl, rfl, rfl, rfl⟩

@[simp] theorem State.clearRange_fields (s : State) (lo hi : Nat) :
    (s.clearRange lo hi).run = s.run ∧ (s.clearRange lo hi).clock = s.clock ∧ (s.clearRange lo hi).ftimeQ = s.ftimeQ ∧
    (s.clearRange lo hi).straps = s.straps ∧ (s.clearRange lo hi).resetCause = s.resetCause ∧
    (s.clearRange lo hi).regs = s.regs ∧ (s.clearRange lo hi).rejects = s.rejects ∧ (s.clearRange lo hi).free = s.free ∧
    (s.clearRange lo hi).hub = s.hub ∧ (s.clearRange lo hi).answers = s.answers ∧ (s.clearRange lo hi).role = s.role ∧
    (s.clearRange lo hi).links = s.links ∧ (s.clearRange lo hi).tx = s.tx ∧ (s.clearRange lo hi).ingress = s.ingress ∧
    (s.clearRange lo hi).sent = s.sent ∧ (s.clearRange lo hi).inbox = s.inbox ∧ (s.clearRange lo hi).landing = s.landing ∧
    (s.clearRange lo hi).seqNext = s.seqNext ∧ (s.clearRange lo hi).origTimes = s.origTimes ∧
    (s.clearRange lo hi).origHeld = s.origHeld ∧ (s.clearRange lo hi).dups = s.dups ∧ (s.clearRange lo hi).tie = s.tie ∧
    (s.clearRange lo hi).settleEnds = s.settleEnds ∧ (s.clearRange lo hi).field = s.field ∧
    (s.clearRange lo hi).healthAt = s.healthAt ∧ (s.clearRange lo hi).sources = s.sources ∧
    (s.clearRange lo hi).records = s.records ∧ (s.clearRange lo hi).recordLoss = s.recordLoss ∧
    (s.clearRange lo hi).deliveries = s.deliveries ∧ (s.clearRange lo hi).msix = s.msix ∧
    (s.clearRange lo hi).faults = s.faults ∧ (s.clearRange lo hi).cru = s.cru ∧ (s.clearRange lo hi).copper = s.copper ∧
    (s.clearRange lo hi).assigned = s.assigned ∧ (s.clearRange lo hi).disc = s.disc ∧ (s.clearRange lo hi).img = s.img ∧
    (s.clearRange lo hi).mirror = s.mirror ∧ (s.clearRange lo hi).hist = s.hist ∧ (s.clearRange lo hi).time = s.time ∧
    (s.clearRange lo hi).timers = s.timers ∧ (s.clearRange lo hi).captures = s.captures ∧
    (s.clearRange lo hi).queues = s.queues ∧ (s.clearRange lo hi).busReads = s.busReads ∧
    (s.clearRange lo hi).lines = s.lines ∧ (s.clearRange lo hi).pxs = s.pxs ∧ (s.clearRange lo hi).cans = s.cans ∧
    (s.clearRange lo hi).rss = s.rss ∧ (s.clearRange lo hi).rsSent = s.rsSent ∧ (s.clearRange lo hi).bridges = s.bridges ∧
    (s.clearRange lo hi).iols = s.iols ∧ (s.clearRange lo hi).whisks = s.whisks ∧ (s.clearRange lo hi).sw = s.sw ∧
    (s.clearRange lo hi).bar0 = s.bar0 ∧ (s.clearRange lo hi).host = s.host ∧ (s.clearRange lo hi).dict = s.dict ∧
    (s.clearRange lo hi).recordsIn = s.recordsIn ∧ (s.clearRange lo hi).fences = s.fences ∧
    (s.clearRange lo hi).fenceOrder = s.fenceOrder ∧ (s.clearRange lo hi).writeSentAt = s.writeSentAt ∧
    (s.clearRange lo hi).writeHeld = s.writeHeld ∧ (s.clearRange lo hi).peerReady = s.peerReady ∧
    (s.clearRange lo hi).handInstant = s.handInstant ∧ (s.clearRange lo hi).twin = s.twin ∧
    (s.clearRange lo hi).pertCount = s.pertCount ∧ (s.clearRange lo hi).pertEnds = s.pertEnds ∧
    (s.clearRange lo hi).rules = s.rules ∧ (s.clearRange lo hi).gaugeLog = s.gaugeLog ∧
    (s.clearRange lo hi).gaugeIn = s.gaugeIn ∧ (s.clearRange lo hi).pans = s.pans ∧ (s.clearRange lo hi).fuses = s.fuses ∧
    (s.clearRange lo hi).power = s.power ∧ (s.clearRange lo hi).tagHeld = s.tagHeld ∧ (s.clearRange lo hi).keys = s.keys ∧
    (s.clearRange lo hi).boot = s.boot ∧ (s.clearRange lo hi).uartSent = s.uartSent ∧ (s.clearRange lo hi).jtag = s.jtag ∧
    (s.clearRange lo hi).pending = s.pending := by
  refine ⟨rfl, rfl, rfl, rfl, rfl, rfl, rfl, rfl, rfl, rfl, rfl, rfl, rfl, rfl, rfl, rfl, rfl, rfl, rfl, rfl, rfl, rfl, rfl, rfl, rfl, rfl, rfl, rfl, rfl, rfl, rfl, rfl, rfl, rfl, rfl, rfl, rfl, rfl, rfl, rfl, rfl, rfl, rfl, rfl, rfl, rfl, rfl, rfl, rfl, rfl, rfl, rfl, rfl, rfl, rfl, rfl, rfl, rfl, rfl, rfl, rfl, rfl, rfl, rfl, rfl, rfl, rfl, rfl, rfl, rfl, rfl, rfl, rfl, rfl, rfl, rfl, rfl⟩

@[simp] theorem State.clearRange_readers (s : State) (lo hi : Nat) :
    (s.clearRange lo hi).reg = s.reg ∧ (s.clearRange lo hi).rejections = s.rejections ∧ (s.clearRange lo hi).link = s.link ∧
    (s.clearRange lo hi).port = s.port ∧ (s.clearRange lo hi).rule = s.rule ∧ (s.clearRange lo hi).src = s.src ∧
    (s.clearRange lo hi).bar = s.bar ∧ (s.clearRange lo hi).whisk = s.whisk ∧ (s.clearRange lo hi).flt = s.flt ∧
    (s.clearRange lo hi).line = s.line ∧ (s.clearRange lo hi).px = s.px ∧ (s.clearRange lo hi).can = s.can ∧
    (s.clearRange lo hi).fence = s.fence ∧ (s.clearRange lo hi).ring = s.ring ∧ (s.clearRange lo hi).bar4 = s.bar4 ∧
    (s.clearRange lo hi).iol = s.iol ∧ (s.clearRange lo hi).dup = s.dup ∧ (s.clearRange lo hi).pan = s.pan ∧
    (s.clearRange lo hi).fuse = s.fuse ∧ (s.clearRange lo hi).queue = s.queue ∧ (s.clearRange lo hi).rs = s.rs ∧
    (s.clearRange lo hi).bridge = s.bridge ∧ (s.clearRange lo hi).timer = s.timer ∧
    (s.clearRange lo hi).capture = s.capture ∧ (s.clearRange lo hi).pd = s.pd ∧ (s.clearRange lo hi).tun = s.tun ∧
    (s.clearRange lo hi).swq = s.swq ∧ (s.clearRange lo hi).meter = s.meter ∧
    (s.clearRange lo hi).gatePending = s.gatePending ∧ (s.clearRange lo hi).announce = s.announce ∧
    (s.clearRange lo hi).mailbox = s.mailbox := by
  refine ⟨rfl, rfl, rfl, rfl, rfl, rfl, rfl, rfl, rfl, rfl, rfl, rfl, rfl, rfl, rfl, rfl, rfl, rfl, rfl, rfl, rfl, rfl, rfl, rfl, rfl, rfl, rfl, rfl, rfl, rfl, rfl⟩

@[simp] theorem State.setTimer_fields (s : State) (u : Nat) (t : TimerSt) :
    (s.setTimer u t).run = s.run ∧ (s.setTimer u t).clock = s.clock ∧ (s.setTimer u t).ftimeQ = s.ftimeQ ∧
    (s.setTimer u t).straps = s.straps ∧ (s.setTimer u t).resetCause = s.resetCause ∧ (s.setTimer u t).regs = s.regs ∧
    (s.setTimer u t).cnt = s.cnt ∧ (s.setTimer u t).rejects = s.rejects ∧ (s.setTimer u t).free = s.free ∧
    (s.setTimer u t).hub = s.hub ∧ (s.setTimer u t).answers = s.answers ∧ (s.setTimer u t).role = s.role ∧
    (s.setTimer u t).links = s.links ∧ (s.setTimer u t).tx = s.tx ∧ (s.setTimer u t).ingress = s.ingress ∧
    (s.setTimer u t).sent = s.sent ∧ (s.setTimer u t).inbox = s.inbox ∧ (s.setTimer u t).landing = s.landing ∧
    (s.setTimer u t).seqNext = s.seqNext ∧ (s.setTimer u t).origTimes = s.origTimes ∧
    (s.setTimer u t).origHeld = s.origHeld ∧ (s.setTimer u t).dups = s.dups ∧ (s.setTimer u t).tie = s.tie ∧
    (s.setTimer u t).settleEnds = s.settleEnds ∧ (s.setTimer u t).field = s.field ∧ (s.setTimer u t).healthAt = s.healthAt ∧
    (s.setTimer u t).sources = s.sources ∧ (s.setTimer u t).records = s.records ∧
    (s.setTimer u t).recordLoss = s.recordLoss ∧ (s.setTimer u t).deliveries = s.deliveries ∧
    (s.setTimer u t).msix = s.msix ∧ (s.setTimer u t).faults = s.faults ∧ (s.setTimer u t).cru = s.cru ∧
    (s.setTimer u t).copper = s.copper ∧ (s.setTimer u t).assigned = s.assigned ∧ (s.setTimer u t).disc = s.disc ∧
    (s.setTimer u t).img = s.img ∧ (s.setTimer u t).mirror = s.mirror ∧ (s.setTimer u t).hist = s.hist ∧
    (s.setTimer u t).time = s.time ∧ (s.setTimer u t).captures = s.captures ∧ (s.setTimer u t).queues = s.queues ∧
    (s.setTimer u t).busReads = s.busReads ∧ (s.setTimer u t).lines = s.lines ∧ (s.setTimer u t).pxs = s.pxs ∧
    (s.setTimer u t).cans = s.cans ∧ (s.setTimer u t).rss = s.rss ∧ (s.setTimer u t).rsSent = s.rsSent ∧
    (s.setTimer u t).bridges = s.bridges ∧ (s.setTimer u t).iols = s.iols ∧ (s.setTimer u t).whisks = s.whisks ∧
    (s.setTimer u t).sw = s.sw ∧ (s.setTimer u t).bar0 = s.bar0 ∧ (s.setTimer u t).host = s.host ∧
    (s.setTimer u t).dict = s.dict ∧ (s.setTimer u t).recordsIn = s.recordsIn ∧ (s.setTimer u t).fences = s.fences ∧
    (s.setTimer u t).fenceOrder = s.fenceOrder ∧ (s.setTimer u t).writeSentAt = s.writeSentAt ∧
    (s.setTimer u t).writeHeld = s.writeHeld ∧ (s.setTimer u t).peerReady = s.peerReady ∧
    (s.setTimer u t).handInstant = s.handInstant ∧ (s.setTimer u t).twin = s.twin ∧
    (s.setTimer u t).pertCount = s.pertCount ∧ (s.setTimer u t).pertEnds = s.pertEnds ∧ (s.setTimer u t).rules = s.rules ∧
    (s.setTimer u t).gaugeLog = s.gaugeLog ∧ (s.setTimer u t).gaugeIn = s.gaugeIn ∧ (s.setTimer u t).pans = s.pans ∧
    (s.setTimer u t).fuses = s.fuses ∧ (s.setTimer u t).power = s.power ∧ (s.setTimer u t).tagHeld = s.tagHeld ∧
    (s.setTimer u t).keys = s.keys ∧ (s.setTimer u t).boot = s.boot ∧ (s.setTimer u t).uartSent = s.uartSent ∧
    (s.setTimer u t).jtag = s.jtag ∧ (s.setTimer u t).pending = s.pending := by
  refine ⟨rfl, rfl, rfl, rfl, rfl, rfl, rfl, rfl, rfl, rfl, rfl, rfl, rfl, rfl, rfl, rfl, rfl, rfl, rfl, rfl, rfl, rfl, rfl, rfl, rfl, rfl, rfl, rfl, rfl, rfl, rfl, rfl, rfl, rfl, rfl, rfl, rfl, rfl, rfl, rfl, rfl, rfl, rfl, rfl, rfl, rfl, rfl, rfl, rfl, rfl, rfl, rfl, rfl, rfl, rfl, rfl, rfl, rfl, rfl, rfl, rfl, rfl, rfl, rfl, rfl, rfl, rfl, rfl, rfl, rfl, rfl, rfl, rfl, rfl, rfl, rfl, rfl⟩

@[simp] theorem State.setTimer_readers (s : State) (u : Nat) (t : TimerSt) :
    (s.setTimer u t).reg = s.reg ∧ (s.setTimer u t).count = s.count ∧ (s.setTimer u t).rejections = s.rejections ∧
    (s.setTimer u t).link = s.link ∧ (s.setTimer u t).port = s.port ∧ (s.setTimer u t).rule = s.rule ∧
    (s.setTimer u t).src = s.src ∧ (s.setTimer u t).bar = s.bar ∧ (s.setTimer u t).whisk = s.whisk ∧
    (s.setTimer u t).flt = s.flt ∧ (s.setTimer u t).line = s.line ∧ (s.setTimer u t).px = s.px ∧
    (s.setTimer u t).can = s.can ∧ (s.setTimer u t).fence = s.fence ∧ (s.setTimer u t).ring = s.ring ∧
    (s.setTimer u t).bar4 = s.bar4 ∧ (s.setTimer u t).iol = s.iol ∧ (s.setTimer u t).dup = s.dup ∧
    (s.setTimer u t).pan = s.pan ∧ (s.setTimer u t).fuse = s.fuse ∧ (s.setTimer u t).queue = s.queue ∧
    (s.setTimer u t).rs = s.rs ∧ (s.setTimer u t).bridge = s.bridge ∧ (s.setTimer u t).capture = s.capture ∧
    (s.setTimer u t).pd = s.pd ∧ (s.setTimer u t).tun = s.tun ∧ (s.setTimer u t).swq = s.swq ∧
    (s.setTimer u t).meter = s.meter ∧ (s.setTimer u t).gatePending = s.gatePending ∧
    (s.setTimer u t).announce = s.announce ∧ (s.setTimer u t).mailbox = s.mailbox := by
  refine ⟨rfl, rfl, rfl, rfl, rfl, rfl, rfl, rfl, rfl, rfl, rfl, rfl, rfl, rfl, rfl, rfl, rfl, rfl, rfl, rfl, rfl, rfl, rfl, rfl, rfl, rfl, rfl, rfl, rfl, rfl, rfl⟩

@[simp] theorem State.setCapture_fields (s : State) (n : Nat) (c : CaptureSt) :
    (s.setCapture n c).run = s.run ∧ (s.setCapture n c).clock = s.clock ∧ (s.setCapture n c).ftimeQ = s.ftimeQ ∧
    (s.setCapture n c).straps = s.straps ∧ (s.setCapture n c).resetCause = s.resetCause ∧ (s.setCapture n c).regs = s.regs ∧
    (s.setCapture n c).cnt = s.cnt ∧ (s.setCapture n c).rejects = s.rejects ∧ (s.setCapture n c).free = s.free ∧
    (s.setCapture n c).hub = s.hub ∧ (s.setCapture n c).answers = s.answers ∧ (s.setCapture n c).role = s.role ∧
    (s.setCapture n c).links = s.links ∧ (s.setCapture n c).tx = s.tx ∧ (s.setCapture n c).ingress = s.ingress ∧
    (s.setCapture n c).sent = s.sent ∧ (s.setCapture n c).inbox = s.inbox ∧ (s.setCapture n c).landing = s.landing ∧
    (s.setCapture n c).seqNext = s.seqNext ∧ (s.setCapture n c).origTimes = s.origTimes ∧
    (s.setCapture n c).origHeld = s.origHeld ∧ (s.setCapture n c).dups = s.dups ∧ (s.setCapture n c).tie = s.tie ∧
    (s.setCapture n c).settleEnds = s.settleEnds ∧ (s.setCapture n c).field = s.field ∧
    (s.setCapture n c).healthAt = s.healthAt ∧ (s.setCapture n c).sources = s.sources ∧
    (s.setCapture n c).records = s.records ∧ (s.setCapture n c).recordLoss = s.recordLoss ∧
    (s.setCapture n c).deliveries = s.deliveries ∧ (s.setCapture n c).msix = s.msix ∧ (s.setCapture n c).faults = s.faults ∧
    (s.setCapture n c).cru = s.cru ∧ (s.setCapture n c).copper = s.copper ∧ (s.setCapture n c).assigned = s.assigned ∧
    (s.setCapture n c).disc = s.disc ∧ (s.setCapture n c).img = s.img ∧ (s.setCapture n c).mirror = s.mirror ∧
    (s.setCapture n c).hist = s.hist ∧ (s.setCapture n c).time = s.time ∧ (s.setCapture n c).timers = s.timers ∧
    (s.setCapture n c).queues = s.queues ∧ (s.setCapture n c).busReads = s.busReads ∧ (s.setCapture n c).lines = s.lines ∧
    (s.setCapture n c).pxs = s.pxs ∧ (s.setCapture n c).cans = s.cans ∧ (s.setCapture n c).rss = s.rss ∧
    (s.setCapture n c).rsSent = s.rsSent ∧ (s.setCapture n c).bridges = s.bridges ∧ (s.setCapture n c).iols = s.iols ∧
    (s.setCapture n c).whisks = s.whisks ∧ (s.setCapture n c).sw = s.sw ∧ (s.setCapture n c).bar0 = s.bar0 ∧
    (s.setCapture n c).host = s.host ∧ (s.setCapture n c).dict = s.dict ∧ (s.setCapture n c).recordsIn = s.recordsIn ∧
    (s.setCapture n c).fences = s.fences ∧ (s.setCapture n c).fenceOrder = s.fenceOrder ∧
    (s.setCapture n c).writeSentAt = s.writeSentAt ∧ (s.setCapture n c).writeHeld = s.writeHeld ∧
    (s.setCapture n c).peerReady = s.peerReady ∧ (s.setCapture n c).handInstant = s.handInstant ∧
    (s.setCapture n c).twin = s.twin ∧ (s.setCapture n c).pertCount = s.pertCount ∧
    (s.setCapture n c).pertEnds = s.pertEnds ∧ (s.setCapture n c).rules = s.rules ∧
    (s.setCapture n c).gaugeLog = s.gaugeLog ∧ (s.setCapture n c).gaugeIn = s.gaugeIn ∧ (s.setCapture n c).pans = s.pans ∧
    (s.setCapture n c).fuses = s.fuses ∧ (s.setCapture n c).power = s.power ∧ (s.setCapture n c).tagHeld = s.tagHeld ∧
    (s.setCapture n c).keys = s.keys ∧ (s.setCapture n c).boot = s.boot ∧ (s.setCapture n c).uartSent = s.uartSent ∧
    (s.setCapture n c).jtag = s.jtag ∧ (s.setCapture n c).pending = s.pending := by
  refine ⟨rfl, rfl, rfl, rfl, rfl, rfl, rfl, rfl, rfl, rfl, rfl, rfl, rfl, rfl, rfl, rfl, rfl, rfl, rfl, rfl, rfl, rfl, rfl, rfl, rfl, rfl, rfl, rfl, rfl, rfl, rfl, rfl, rfl, rfl, rfl, rfl, rfl, rfl, rfl, rfl, rfl, rfl, rfl, rfl, rfl, rfl, rfl, rfl, rfl, rfl, rfl, rfl, rfl, rfl, rfl, rfl, rfl, rfl, rfl, rfl, rfl, rfl, rfl, rfl, rfl, rfl, rfl, rfl, rfl, rfl, rfl, rfl, rfl, rfl, rfl, rfl, rfl⟩

@[simp] theorem State.setCapture_readers (s : State) (n : Nat) (c : CaptureSt) :
    (s.setCapture n c).reg = s.reg ∧ (s.setCapture n c).count = s.count ∧ (s.setCapture n c).rejections = s.rejections ∧
    (s.setCapture n c).link = s.link ∧ (s.setCapture n c).port = s.port ∧ (s.setCapture n c).rule = s.rule ∧
    (s.setCapture n c).src = s.src ∧ (s.setCapture n c).bar = s.bar ∧ (s.setCapture n c).whisk = s.whisk ∧
    (s.setCapture n c).flt = s.flt ∧ (s.setCapture n c).line = s.line ∧ (s.setCapture n c).px = s.px ∧
    (s.setCapture n c).can = s.can ∧ (s.setCapture n c).fence = s.fence ∧ (s.setCapture n c).ring = s.ring ∧
    (s.setCapture n c).bar4 = s.bar4 ∧ (s.setCapture n c).iol = s.iol ∧ (s.setCapture n c).dup = s.dup ∧
    (s.setCapture n c).pan = s.pan ∧ (s.setCapture n c).fuse = s.fuse ∧ (s.setCapture n c).queue = s.queue ∧
    (s.setCapture n c).rs = s.rs ∧ (s.setCapture n c).bridge = s.bridge ∧ (s.setCapture n c).timer = s.timer ∧
    (s.setCapture n c).pd = s.pd ∧ (s.setCapture n c).tun = s.tun ∧ (s.setCapture n c).swq = s.swq ∧
    (s.setCapture n c).meter = s.meter ∧ (s.setCapture n c).gatePending = s.gatePending ∧
    (s.setCapture n c).announce = s.announce ∧ (s.setCapture n c).mailbox = s.mailbox := by
  refine ⟨rfl, rfl, rfl, rfl, rfl, rfl, rfl, rfl, rfl, rfl, rfl, rfl, rfl, rfl, rfl, rfl, rfl, rfl, rfl, rfl, rfl, rfl, rfl, rfl, rfl, rfl, rfl, rfl, rfl, rfl, rfl⟩

@[simp] theorem State.setPd_fields (s : State) (f : Nat) (d : PdelaySt) :
    (s.setPd f d).run = s.run ∧ (s.setPd f d).clock = s.clock ∧ (s.setPd f d).ftimeQ = s.ftimeQ ∧
    (s.setPd f d).straps = s.straps ∧ (s.setPd f d).resetCause = s.resetCause ∧ (s.setPd f d).regs = s.regs ∧
    (s.setPd f d).cnt = s.cnt ∧ (s.setPd f d).rejects = s.rejects ∧ (s.setPd f d).free = s.free ∧
    (s.setPd f d).hub = s.hub ∧ (s.setPd f d).answers = s.answers ∧ (s.setPd f d).role = s.role ∧
    (s.setPd f d).links = s.links ∧ (s.setPd f d).tx = s.tx ∧ (s.setPd f d).ingress = s.ingress ∧
    (s.setPd f d).sent = s.sent ∧ (s.setPd f d).inbox = s.inbox ∧ (s.setPd f d).landing = s.landing ∧
    (s.setPd f d).seqNext = s.seqNext ∧ (s.setPd f d).origTimes = s.origTimes ∧ (s.setPd f d).origHeld = s.origHeld ∧
    (s.setPd f d).dups = s.dups ∧ (s.setPd f d).tie = s.tie ∧ (s.setPd f d).settleEnds = s.settleEnds ∧
    (s.setPd f d).field = s.field ∧ (s.setPd f d).healthAt = s.healthAt ∧ (s.setPd f d).sources = s.sources ∧
    (s.setPd f d).records = s.records ∧ (s.setPd f d).recordLoss = s.recordLoss ∧ (s.setPd f d).deliveries = s.deliveries ∧
    (s.setPd f d).msix = s.msix ∧ (s.setPd f d).faults = s.faults ∧ (s.setPd f d).cru = s.cru ∧
    (s.setPd f d).copper = s.copper ∧ (s.setPd f d).assigned = s.assigned ∧ (s.setPd f d).disc = s.disc ∧
    (s.setPd f d).img = s.img ∧ (s.setPd f d).mirror = s.mirror ∧ (s.setPd f d).hist = s.hist ∧
    (s.setPd f d).timers = s.timers ∧ (s.setPd f d).captures = s.captures ∧ (s.setPd f d).queues = s.queues ∧
    (s.setPd f d).busReads = s.busReads ∧ (s.setPd f d).lines = s.lines ∧ (s.setPd f d).pxs = s.pxs ∧
    (s.setPd f d).cans = s.cans ∧ (s.setPd f d).rss = s.rss ∧ (s.setPd f d).rsSent = s.rsSent ∧
    (s.setPd f d).bridges = s.bridges ∧ (s.setPd f d).iols = s.iols ∧ (s.setPd f d).whisks = s.whisks ∧
    (s.setPd f d).sw = s.sw ∧ (s.setPd f d).bar0 = s.bar0 ∧ (s.setPd f d).host = s.host ∧ (s.setPd f d).dict = s.dict ∧
    (s.setPd f d).recordsIn = s.recordsIn ∧ (s.setPd f d).fences = s.fences ∧ (s.setPd f d).fenceOrder = s.fenceOrder ∧
    (s.setPd f d).writeSentAt = s.writeSentAt ∧ (s.setPd f d).writeHeld = s.writeHeld ∧
    (s.setPd f d).peerReady = s.peerReady ∧ (s.setPd f d).handInstant = s.handInstant ∧ (s.setPd f d).twin = s.twin ∧
    (s.setPd f d).pertCount = s.pertCount ∧ (s.setPd f d).pertEnds = s.pertEnds ∧ (s.setPd f d).rules = s.rules ∧
    (s.setPd f d).gaugeLog = s.gaugeLog ∧ (s.setPd f d).gaugeIn = s.gaugeIn ∧ (s.setPd f d).pans = s.pans ∧
    (s.setPd f d).fuses = s.fuses ∧ (s.setPd f d).power = s.power ∧ (s.setPd f d).tagHeld = s.tagHeld ∧
    (s.setPd f d).keys = s.keys ∧ (s.setPd f d).boot = s.boot ∧ (s.setPd f d).uartSent = s.uartSent ∧
    (s.setPd f d).jtag = s.jtag ∧ (s.setPd f d).pending = s.pending := by
  refine ⟨rfl, rfl, rfl, rfl, rfl, rfl, rfl, rfl, rfl, rfl, rfl, rfl, rfl, rfl, rfl, rfl, rfl, rfl, rfl, rfl, rfl, rfl, rfl, rfl, rfl, rfl, rfl, rfl, rfl, rfl, rfl, rfl, rfl, rfl, rfl, rfl, rfl, rfl, rfl, rfl, rfl, rfl, rfl, rfl, rfl, rfl, rfl, rfl, rfl, rfl, rfl, rfl, rfl, rfl, rfl, rfl, rfl, rfl, rfl, rfl, rfl, rfl, rfl, rfl, rfl, rfl, rfl, rfl, rfl, rfl, rfl, rfl, rfl, rfl, rfl, rfl, rfl⟩

@[simp] theorem State.setPd_readers (s : State) (f : Nat) (d : PdelaySt) :
    (s.setPd f d).reg = s.reg ∧ (s.setPd f d).count = s.count ∧ (s.setPd f d).rejections = s.rejections ∧
    (s.setPd f d).link = s.link ∧ (s.setPd f d).port = s.port ∧ (s.setPd f d).rule = s.rule ∧ (s.setPd f d).src = s.src ∧
    (s.setPd f d).bar = s.bar ∧ (s.setPd f d).whisk = s.whisk ∧ (s.setPd f d).flt = s.flt ∧ (s.setPd f d).line = s.line ∧
    (s.setPd f d).px = s.px ∧ (s.setPd f d).can = s.can ∧ (s.setPd f d).fence = s.fence ∧ (s.setPd f d).ring = s.ring ∧
    (s.setPd f d).bar4 = s.bar4 ∧ (s.setPd f d).iol = s.iol ∧ (s.setPd f d).dup = s.dup ∧ (s.setPd f d).pan = s.pan ∧
    (s.setPd f d).fuse = s.fuse ∧ (s.setPd f d).queue = s.queue ∧ (s.setPd f d).rs = s.rs ∧
    (s.setPd f d).bridge = s.bridge ∧ (s.setPd f d).timer = s.timer ∧ (s.setPd f d).capture = s.capture ∧
    (s.setPd f d).tun = s.tun ∧ (s.setPd f d).swq = s.swq ∧ (s.setPd f d).meter = s.meter ∧
    (s.setPd f d).gatePending = s.gatePending ∧ (s.setPd f d).announce = s.announce ∧ (s.setPd f d).mailbox = s.mailbox := by
  refine ⟨rfl, rfl, rfl, rfl, rfl, rfl, rfl, rfl, rfl, rfl, rfl, rfl, rfl, rfl, rfl, rfl, rfl, rfl, rfl, rfl, rfl, rfl, rfl, rfl, rfl, rfl, rfl, rfl, rfl, rfl, rfl⟩

@[simp] theorem State.setTun_fields (s : State) (t : Nat) (x : TunnelSt) :
    (s.setTun t x).run = s.run ∧ (s.setTun t x).clock = s.clock ∧ (s.setTun t x).ftimeQ = s.ftimeQ ∧
    (s.setTun t x).straps = s.straps ∧ (s.setTun t x).resetCause = s.resetCause ∧ (s.setTun t x).regs = s.regs ∧
    (s.setTun t x).cnt = s.cnt ∧ (s.setTun t x).rejects = s.rejects ∧ (s.setTun t x).free = s.free ∧
    (s.setTun t x).hub = s.hub ∧ (s.setTun t x).answers = s.answers ∧ (s.setTun t x).role = s.role ∧
    (s.setTun t x).links = s.links ∧ (s.setTun t x).tx = s.tx ∧ (s.setTun t x).ingress = s.ingress ∧
    (s.setTun t x).sent = s.sent ∧ (s.setTun t x).inbox = s.inbox ∧ (s.setTun t x).landing = s.landing ∧
    (s.setTun t x).seqNext = s.seqNext ∧ (s.setTun t x).origTimes = s.origTimes ∧ (s.setTun t x).origHeld = s.origHeld ∧
    (s.setTun t x).dups = s.dups ∧ (s.setTun t x).tie = s.tie ∧ (s.setTun t x).settleEnds = s.settleEnds ∧
    (s.setTun t x).field = s.field ∧ (s.setTun t x).healthAt = s.healthAt ∧ (s.setTun t x).sources = s.sources ∧
    (s.setTun t x).records = s.records ∧ (s.setTun t x).recordLoss = s.recordLoss ∧
    (s.setTun t x).deliveries = s.deliveries ∧ (s.setTun t x).msix = s.msix ∧ (s.setTun t x).faults = s.faults ∧
    (s.setTun t x).cru = s.cru ∧ (s.setTun t x).copper = s.copper ∧ (s.setTun t x).assigned = s.assigned ∧
    (s.setTun t x).disc = s.disc ∧ (s.setTun t x).img = s.img ∧ (s.setTun t x).mirror = s.mirror ∧
    (s.setTun t x).hist = s.hist ∧ (s.setTun t x).time = s.time ∧ (s.setTun t x).timers = s.timers ∧
    (s.setTun t x).captures = s.captures ∧ (s.setTun t x).queues = s.queues ∧ (s.setTun t x).busReads = s.busReads ∧
    (s.setTun t x).lines = s.lines ∧ (s.setTun t x).pxs = s.pxs ∧ (s.setTun t x).cans = s.cans ∧
    (s.setTun t x).rss = s.rss ∧ (s.setTun t x).rsSent = s.rsSent ∧ (s.setTun t x).bridges = s.bridges ∧
    (s.setTun t x).iols = s.iols ∧ (s.setTun t x).whisks = s.whisks ∧ (s.setTun t x).bar0 = s.bar0 ∧
    (s.setTun t x).host = s.host ∧ (s.setTun t x).dict = s.dict ∧ (s.setTun t x).recordsIn = s.recordsIn ∧
    (s.setTun t x).fences = s.fences ∧ (s.setTun t x).fenceOrder = s.fenceOrder ∧
    (s.setTun t x).writeSentAt = s.writeSentAt ∧ (s.setTun t x).writeHeld = s.writeHeld ∧
    (s.setTun t x).peerReady = s.peerReady ∧ (s.setTun t x).handInstant = s.handInstant ∧ (s.setTun t x).twin = s.twin ∧
    (s.setTun t x).pertCount = s.pertCount ∧ (s.setTun t x).pertEnds = s.pertEnds ∧ (s.setTun t x).rules = s.rules ∧
    (s.setTun t x).gaugeLog = s.gaugeLog ∧ (s.setTun t x).gaugeIn = s.gaugeIn ∧ (s.setTun t x).pans = s.pans ∧
    (s.setTun t x).fuses = s.fuses ∧ (s.setTun t x).power = s.power ∧ (s.setTun t x).tagHeld = s.tagHeld ∧
    (s.setTun t x).keys = s.keys ∧ (s.setTun t x).boot = s.boot ∧ (s.setTun t x).uartSent = s.uartSent ∧
    (s.setTun t x).jtag = s.jtag ∧ (s.setTun t x).pending = s.pending := by
  refine ⟨rfl, rfl, rfl, rfl, rfl, rfl, rfl, rfl, rfl, rfl, rfl, rfl, rfl, rfl, rfl, rfl, rfl, rfl, rfl, rfl, rfl, rfl, rfl, rfl, rfl, rfl, rfl, rfl, rfl, rfl, rfl, rfl, rfl, rfl, rfl, rfl, rfl, rfl, rfl, rfl, rfl, rfl, rfl, rfl, rfl, rfl, rfl, rfl, rfl, rfl, rfl, rfl, rfl, rfl, rfl, rfl, rfl, rfl, rfl, rfl, rfl, rfl, rfl, rfl, rfl, rfl, rfl, rfl, rfl, rfl, rfl, rfl, rfl, rfl, rfl, rfl, rfl⟩

@[simp] theorem State.setTun_readers (s : State) (t : Nat) (x : TunnelSt) :
    (s.setTun t x).reg = s.reg ∧ (s.setTun t x).count = s.count ∧ (s.setTun t x).rejections = s.rejections ∧
    (s.setTun t x).link = s.link ∧ (s.setTun t x).port = s.port ∧ (s.setTun t x).rule = s.rule ∧
    (s.setTun t x).src = s.src ∧ (s.setTun t x).bar = s.bar ∧ (s.setTun t x).whisk = s.whisk ∧ (s.setTun t x).flt = s.flt ∧
    (s.setTun t x).line = s.line ∧ (s.setTun t x).px = s.px ∧ (s.setTun t x).can = s.can ∧ (s.setTun t x).fence = s.fence ∧
    (s.setTun t x).ring = s.ring ∧ (s.setTun t x).bar4 = s.bar4 ∧ (s.setTun t x).iol = s.iol ∧ (s.setTun t x).dup = s.dup ∧
    (s.setTun t x).pan = s.pan ∧ (s.setTun t x).fuse = s.fuse ∧ (s.setTun t x).queue = s.queue ∧ (s.setTun t x).rs = s.rs ∧
    (s.setTun t x).bridge = s.bridge ∧ (s.setTun t x).timer = s.timer ∧ (s.setTun t x).capture = s.capture ∧
    (s.setTun t x).pd = s.pd ∧ (s.setTun t x).announce = s.announce ∧ (s.setTun t x).mailbox = s.mailbox := by
  refine ⟨rfl, rfl, rfl, rfl, rfl, rfl, rfl, rfl, rfl, rfl, rfl, rfl, rfl, rfl, rfl, rfl, rfl, rfl, rfl, rfl, rfl, rfl, rfl, rfl, rfl, rfl, rfl, rfl⟩

@[simp] theorem State.take_fields (s : State) (f : Nat) (fr : Frame) :
    (s.take f fr).run = s.run ∧ (s.take f fr).clock = s.clock ∧ (s.take f fr).ftimeQ = s.ftimeQ ∧
    (s.take f fr).straps = s.straps ∧ (s.take f fr).resetCause = s.resetCause ∧ (s.take f fr).regs = s.regs ∧
    (s.take f fr).cnt = s.cnt ∧ (s.take f fr).rejects = s.rejects ∧ (s.take f fr).free = s.free ∧
    (s.take f fr).hub = s.hub ∧ (s.take f fr).answers = s.answers ∧ (s.take f fr).role = s.role ∧
    (s.take f fr).links = s.links ∧ (s.take f fr).tx = s.tx ∧ (s.take f fr).ingress = s.ingress ∧
    (s.take f fr).sent = s.sent ∧ (s.take f fr).landing = s.landing ∧ (s.take f fr).seqNext = s.seqNext ∧
    (s.take f fr).origTimes = s.origTimes ∧ (s.take f fr).origHeld = s.origHeld ∧ (s.take f fr).dups = s.dups ∧
    (s.take f fr).tie = s.tie ∧ (s.take f fr).settleEnds = s.settleEnds ∧ (s.take f fr).field = s.field ∧
    (s.take f fr).healthAt = s.healthAt ∧ (s.take f fr).sources = s.sources ∧ (s.take f fr).records = s.records ∧
    (s.take f fr).recordLoss = s.recordLoss ∧ (s.take f fr).deliveries = s.deliveries ∧ (s.take f fr).msix = s.msix ∧
    (s.take f fr).faults = s.faults ∧ (s.take f fr).cru = s.cru ∧ (s.take f fr).copper = s.copper ∧
    (s.take f fr).assigned = s.assigned ∧ (s.take f fr).disc = s.disc ∧ (s.take f fr).img = s.img ∧
    (s.take f fr).mirror = s.mirror ∧ (s.take f fr).hist = s.hist ∧ (s.take f fr).time = s.time ∧
    (s.take f fr).timers = s.timers ∧ (s.take f fr).captures = s.captures ∧ (s.take f fr).queues = s.queues ∧
    (s.take f fr).busReads = s.busReads ∧ (s.take f fr).lines = s.lines ∧ (s.take f fr).pxs = s.pxs ∧
    (s.take f fr).cans = s.cans ∧ (s.take f fr).rss = s.rss ∧ (s.take f fr).rsSent = s.rsSent ∧
    (s.take f fr).bridges = s.bridges ∧ (s.take f fr).iols = s.iols ∧ (s.take f fr).whisks = s.whisks ∧
    (s.take f fr).sw = s.sw ∧ (s.take f fr).bar0 = s.bar0 ∧ (s.take f fr).host = s.host ∧ (s.take f fr).dict = s.dict ∧
    (s.take f fr).recordsIn = s.recordsIn ∧ (s.take f fr).fences = s.fences ∧ (s.take f fr).fenceOrder = s.fenceOrder ∧
    (s.take f fr).writeSentAt = s.writeSentAt ∧ (s.take f fr).writeHeld = s.writeHeld ∧
    (s.take f fr).peerReady = s.peerReady ∧ (s.take f fr).handInstant = s.handInstant ∧ (s.take f fr).twin = s.twin ∧
    (s.take f fr).pertCount = s.pertCount ∧ (s.take f fr).pertEnds = s.pertEnds ∧ (s.take f fr).rules = s.rules ∧
    (s.take f fr).gaugeLog = s.gaugeLog ∧ (s.take f fr).gaugeIn = s.gaugeIn ∧ (s.take f fr).pans = s.pans ∧
    (s.take f fr).fuses = s.fuses ∧ (s.take f fr).power = s.power ∧ (s.take f fr).tagHeld = s.tagHeld ∧
    (s.take f fr).keys = s.keys ∧ (s.take f fr).boot = s.boot ∧ (s.take f fr).uartSent = s.uartSent ∧
    (s.take f fr).jtag = s.jtag ∧ (s.take f fr).pending = s.pending := by
  refine ⟨rfl, rfl, rfl, rfl, rfl, rfl, rfl, rfl, rfl, rfl, rfl, rfl, rfl, rfl, rfl, rfl, rfl, rfl, rfl, rfl, rfl, rfl, rfl, rfl, rfl, rfl, rfl, rfl, rfl, rfl, rfl, rfl, rfl, rfl, rfl, rfl, rfl, rfl, rfl, rfl, rfl, rfl, rfl, rfl, rfl, rfl, rfl, rfl, rfl, rfl, rfl, rfl, rfl, rfl, rfl, rfl, rfl, rfl, rfl, rfl, rfl, rfl, rfl, rfl, rfl, rfl, rfl, rfl, rfl, rfl, rfl, rfl, rfl, rfl, rfl, rfl, rfl⟩

@[simp] theorem State.take_readers (s : State) (f : Nat) (fr : Frame) :
    (s.take f fr).reg = s.reg ∧ (s.take f fr).count = s.count ∧ (s.take f fr).rejections = s.rejections ∧
    (s.take f fr).link = s.link ∧ (s.take f fr).port = s.port ∧ (s.take f fr).rule = s.rule ∧ (s.take f fr).src = s.src ∧
    (s.take f fr).bar = s.bar ∧ (s.take f fr).whisk = s.whisk ∧ (s.take f fr).flt = s.flt ∧ (s.take f fr).line = s.line ∧
    (s.take f fr).px = s.px ∧ (s.take f fr).can = s.can ∧ (s.take f fr).fence = s.fence ∧ (s.take f fr).ring = s.ring ∧
    (s.take f fr).bar4 = s.bar4 ∧ (s.take f fr).iol = s.iol ∧ (s.take f fr).dup = s.dup ∧ (s.take f fr).pan = s.pan ∧
    (s.take f fr).fuse = s.fuse ∧ (s.take f fr).queue = s.queue ∧ (s.take f fr).rs = s.rs ∧
    (s.take f fr).bridge = s.bridge ∧ (s.take f fr).timer = s.timer ∧ (s.take f fr).capture = s.capture ∧
    (s.take f fr).pd = s.pd ∧ (s.take f fr).tun = s.tun ∧ (s.take f fr).swq = s.swq ∧ (s.take f fr).meter = s.meter ∧
    (s.take f fr).gatePending = s.gatePending ∧ (s.take f fr).announce = s.announce ∧ (s.take f fr).mailbox = s.mailbox := by
  refine ⟨rfl, rfl, rfl, rfl, rfl, rfl, rfl, rfl, rfl, rfl, rfl, rfl, rfl, rfl, rfl, rfl, rfl, rfl, rfl, rfl, rfl, rfl, rfl, rfl, rfl, rfl, rfl, rfl, rfl, rfl, rfl, rfl⟩

@[simp] theorem State.setCopy_fields (s : State) (n : Nat) (c : Option ParamCopy) :
    (s.setCopy n c).run = s.run ∧ (s.setCopy n c).clock = s.clock ∧ (s.setCopy n c).ftimeQ = s.ftimeQ ∧
    (s.setCopy n c).straps = s.straps ∧ (s.setCopy n c).resetCause = s.resetCause ∧ (s.setCopy n c).regs = s.regs ∧
    (s.setCopy n c).cnt = s.cnt ∧ (s.setCopy n c).rejects = s.rejects ∧ (s.setCopy n c).free = s.free ∧
    (s.setCopy n c).hub = s.hub ∧ (s.setCopy n c).answers = s.answers ∧ (s.setCopy n c).role = s.role ∧
    (s.setCopy n c).links = s.links ∧ (s.setCopy n c).tx = s.tx ∧ (s.setCopy n c).ingress = s.ingress ∧
    (s.setCopy n c).sent = s.sent ∧ (s.setCopy n c).inbox = s.inbox ∧ (s.setCopy n c).landing = s.landing ∧
    (s.setCopy n c).seqNext = s.seqNext ∧ (s.setCopy n c).origTimes = s.origTimes ∧ (s.setCopy n c).origHeld = s.origHeld ∧
    (s.setCopy n c).dups = s.dups ∧ (s.setCopy n c).tie = s.tie ∧ (s.setCopy n c).settleEnds = s.settleEnds ∧
    (s.setCopy n c).field = s.field ∧ (s.setCopy n c).healthAt = s.healthAt ∧ (s.setCopy n c).sources = s.sources ∧
    (s.setCopy n c).records = s.records ∧ (s.setCopy n c).recordLoss = s.recordLoss ∧
    (s.setCopy n c).deliveries = s.deliveries ∧ (s.setCopy n c).msix = s.msix ∧ (s.setCopy n c).faults = s.faults ∧
    (s.setCopy n c).cru = s.cru ∧ (s.setCopy n c).copper = s.copper ∧ (s.setCopy n c).assigned = s.assigned ∧
    (s.setCopy n c).disc = s.disc ∧ (s.setCopy n c).img = s.img ∧ (s.setCopy n c).mirror = s.mirror ∧
    (s.setCopy n c).hist = s.hist ∧ (s.setCopy n c).time = s.time ∧ (s.setCopy n c).timers = s.timers ∧
    (s.setCopy n c).captures = s.captures ∧ (s.setCopy n c).queues = s.queues ∧ (s.setCopy n c).busReads = s.busReads ∧
    (s.setCopy n c).lines = s.lines ∧ (s.setCopy n c).pxs = s.pxs ∧ (s.setCopy n c).cans = s.cans ∧
    (s.setCopy n c).rss = s.rss ∧ (s.setCopy n c).rsSent = s.rsSent ∧ (s.setCopy n c).bridges = s.bridges ∧
    (s.setCopy n c).iols = s.iols ∧ (s.setCopy n c).whisks = s.whisks ∧ (s.setCopy n c).sw = s.sw ∧
    (s.setCopy n c).bar0 = s.bar0 ∧ (s.setCopy n c).host = s.host ∧ (s.setCopy n c).dict = s.dict ∧
    (s.setCopy n c).recordsIn = s.recordsIn ∧ (s.setCopy n c).fences = s.fences ∧
    (s.setCopy n c).fenceOrder = s.fenceOrder ∧ (s.setCopy n c).writeSentAt = s.writeSentAt ∧
    (s.setCopy n c).writeHeld = s.writeHeld ∧ (s.setCopy n c).peerReady = s.peerReady ∧
    (s.setCopy n c).handInstant = s.handInstant ∧ (s.setCopy n c).twin = s.twin ∧ (s.setCopy n c).pertCount = s.pertCount ∧
    (s.setCopy n c).pertEnds = s.pertEnds ∧ (s.setCopy n c).rules = s.rules ∧ (s.setCopy n c).gaugeLog = s.gaugeLog ∧
    (s.setCopy n c).gaugeIn = s.gaugeIn ∧ (s.setCopy n c).pans = s.pans ∧ (s.setCopy n c).fuses = s.fuses ∧
    (s.setCopy n c).power = s.power ∧ (s.setCopy n c).tagHeld = s.tagHeld ∧ (s.setCopy n c).keys = s.keys ∧
    (s.setCopy n c).uartSent = s.uartSent ∧ (s.setCopy n c).jtag = s.jtag ∧ (s.setCopy n c).pending = s.pending := by
  refine ⟨rfl, rfl, rfl, rfl, rfl, rfl, rfl, rfl, rfl, rfl, rfl, rfl, rfl, rfl, rfl, rfl, rfl, rfl, rfl, rfl, rfl, rfl, rfl, rfl, rfl, rfl, rfl, rfl, rfl, rfl, rfl, rfl, rfl, rfl, rfl, rfl, rfl, rfl, rfl, rfl, rfl, rfl, rfl, rfl, rfl, rfl, rfl, rfl, rfl, rfl, rfl, rfl, rfl, rfl, rfl, rfl, rfl, rfl, rfl, rfl, rfl, rfl, rfl, rfl, rfl, rfl, rfl, rfl, rfl, rfl, rfl, rfl, rfl, rfl, rfl, rfl, rfl⟩

@[simp] theorem State.setCopy_readers (s : State) (n : Nat) (c : Option ParamCopy) :
    (s.setCopy n c).reg = s.reg ∧ (s.setCopy n c).count = s.count ∧ (s.setCopy n c).rejections = s.rejections ∧
    (s.setCopy n c).link = s.link ∧ (s.setCopy n c).port = s.port ∧ (s.setCopy n c).rule = s.rule ∧
    (s.setCopy n c).src = s.src ∧ (s.setCopy n c).bar = s.bar ∧ (s.setCopy n c).whisk = s.whisk ∧
    (s.setCopy n c).flt = s.flt ∧ (s.setCopy n c).line = s.line ∧ (s.setCopy n c).px = s.px ∧ (s.setCopy n c).can = s.can ∧
    (s.setCopy n c).fence = s.fence ∧ (s.setCopy n c).ring = s.ring ∧ (s.setCopy n c).bar4 = s.bar4 ∧
    (s.setCopy n c).iol = s.iol ∧ (s.setCopy n c).dup = s.dup ∧ (s.setCopy n c).pan = s.pan ∧
    (s.setCopy n c).fuse = s.fuse ∧ (s.setCopy n c).queue = s.queue ∧ (s.setCopy n c).rs = s.rs ∧
    (s.setCopy n c).bridge = s.bridge ∧ (s.setCopy n c).timer = s.timer ∧ (s.setCopy n c).capture = s.capture ∧
    (s.setCopy n c).pd = s.pd ∧ (s.setCopy n c).tun = s.tun ∧ (s.setCopy n c).swq = s.swq ∧
    (s.setCopy n c).meter = s.meter ∧ (s.setCopy n c).gatePending = s.gatePending ∧ (s.setCopy n c).announce = s.announce ∧
    (s.setCopy n c).mailbox = s.mailbox := by
  refine ⟨rfl, rfl, rfl, rfl, rfl, rfl, rfl, rfl, rfl, rfl, rfl, rfl, rfl, rfl, rfl, rfl, rfl, rfl, rfl, rfl, rfl, rfl, rfl, rfl, rfl, rfl, rfl, rfl, rfl, rfl, rfl, rfl⟩

@[simp] theorem State.setTransfer_fields (s : State) (t u : Transfer) :
    (s.setTransfer t u).run = s.run ∧ (s.setTransfer t u).clock = s.clock ∧ (s.setTransfer t u).ftimeQ = s.ftimeQ ∧
    (s.setTransfer t u).straps = s.straps ∧ (s.setTransfer t u).resetCause = s.resetCause ∧
    (s.setTransfer t u).regs = s.regs ∧ (s.setTransfer t u).cnt = s.cnt ∧ (s.setTransfer t u).rejects = s.rejects ∧
    (s.setTransfer t u).free = s.free ∧ (s.setTransfer t u).hub = s.hub ∧ (s.setTransfer t u).answers = s.answers ∧
    (s.setTransfer t u).role = s.role ∧ (s.setTransfer t u).links = s.links ∧ (s.setTransfer t u).tx = s.tx ∧
    (s.setTransfer t u).ingress = s.ingress ∧ (s.setTransfer t u).sent = s.sent ∧ (s.setTransfer t u).inbox = s.inbox ∧
    (s.setTransfer t u).landing = s.landing ∧ (s.setTransfer t u).seqNext = s.seqNext ∧
    (s.setTransfer t u).origTimes = s.origTimes ∧ (s.setTransfer t u).origHeld = s.origHeld ∧
    (s.setTransfer t u).dups = s.dups ∧ (s.setTransfer t u).tie = s.tie ∧ (s.setTransfer t u).settleEnds = s.settleEnds ∧
    (s.setTransfer t u).field = s.field ∧ (s.setTransfer t u).healthAt = s.healthAt ∧
    (s.setTransfer t u).sources = s.sources ∧ (s.setTransfer t u).records = s.records ∧
    (s.setTransfer t u).recordLoss = s.recordLoss ∧ (s.setTransfer t u).deliveries = s.deliveries ∧
    (s.setTransfer t u).msix = s.msix ∧ (s.setTransfer t u).faults = s.faults ∧ (s.setTransfer t u).cru = s.cru ∧
    (s.setTransfer t u).copper = s.copper ∧ (s.setTransfer t u).assigned = s.assigned ∧ (s.setTransfer t u).disc = s.disc ∧
    (s.setTransfer t u).img = s.img ∧ (s.setTransfer t u).mirror = s.mirror ∧ (s.setTransfer t u).hist = s.hist ∧
    (s.setTransfer t u).time = s.time ∧ (s.setTransfer t u).timers = s.timers ∧ (s.setTransfer t u).captures = s.captures ∧
    (s.setTransfer t u).queues = s.queues ∧ (s.setTransfer t u).busReads = s.busReads ∧
    (s.setTransfer t u).lines = s.lines ∧ (s.setTransfer t u).pxs = s.pxs ∧ (s.setTransfer t u).cans = s.cans ∧
    (s.setTransfer t u).rss = s.rss ∧ (s.setTransfer t u).rsSent = s.rsSent ∧ (s.setTransfer t u).bridges = s.bridges ∧
    (s.setTransfer t u).iols = s.iols ∧ (s.setTransfer t u).whisks = s.whisks ∧ (s.setTransfer t u).sw = s.sw ∧
    (s.setTransfer t u).bar0 = s.bar0 ∧ (s.setTransfer t u).host = s.host ∧ (s.setTransfer t u).recordsIn = s.recordsIn ∧
    (s.setTransfer t u).fences = s.fences ∧ (s.setTransfer t u).fenceOrder = s.fenceOrder ∧
    (s.setTransfer t u).writeSentAt = s.writeSentAt ∧ (s.setTransfer t u).writeHeld = s.writeHeld ∧
    (s.setTransfer t u).peerReady = s.peerReady ∧ (s.setTransfer t u).handInstant = s.handInstant ∧
    (s.setTransfer t u).twin = s.twin ∧ (s.setTransfer t u).pertCount = s.pertCount ∧
    (s.setTransfer t u).pertEnds = s.pertEnds ∧ (s.setTransfer t u).rules = s.rules ∧
    (s.setTransfer t u).gaugeLog = s.gaugeLog ∧ (s.setTransfer t u).gaugeIn = s.gaugeIn ∧
    (s.setTransfer t u).pans = s.pans ∧ (s.setTransfer t u).fuses = s.fuses ∧ (s.setTransfer t u).power = s.power ∧
    (s.setTransfer t u).tagHeld = s.tagHeld ∧ (s.setTransfer t u).keys = s.keys ∧ (s.setTransfer t u).boot = s.boot ∧
    (s.setTransfer t u).uartSent = s.uartSent ∧ (s.setTransfer t u).jtag = s.jtag ∧
    (s.setTransfer t u).pending = s.pending := by
  refine ⟨rfl, rfl, rfl, rfl, rfl, rfl, rfl, rfl, rfl, rfl, rfl, rfl, rfl, rfl, rfl, rfl, rfl, rfl, rfl, rfl, rfl, rfl, rfl, rfl, rfl, rfl, rfl, rfl, rfl, rfl, rfl, rfl, rfl, rfl, rfl, rfl, rfl, rfl, rfl, rfl, rfl, rfl, rfl, rfl, rfl, rfl, rfl, rfl, rfl, rfl, rfl, rfl, rfl, rfl, rfl, rfl, rfl, rfl, rfl, rfl, rfl, rfl, rfl, rfl, rfl, rfl, rfl, rfl, rfl, rfl, rfl, rfl, rfl, rfl, rfl, rfl, rfl⟩

@[simp] theorem State.setTransfer_readers (s : State) (t u : Transfer) :
    (s.setTransfer t u).reg = s.reg ∧ (s.setTransfer t u).count = s.count ∧ (s.setTransfer t u).rejections = s.rejections ∧
    (s.setTransfer t u).link = s.link ∧ (s.setTransfer t u).port = s.port ∧ (s.setTransfer t u).rule = s.rule ∧
    (s.setTransfer t u).src = s.src ∧ (s.setTransfer t u).bar = s.bar ∧ (s.setTransfer t u).whisk = s.whisk ∧
    (s.setTransfer t u).flt = s.flt ∧ (s.setTransfer t u).line = s.line ∧ (s.setTransfer t u).px = s.px ∧
    (s.setTransfer t u).can = s.can ∧ (s.setTransfer t u).fence = s.fence ∧ (s.setTransfer t u).ring = s.ring ∧
    (s.setTransfer t u).bar4 = s.bar4 ∧ (s.setTransfer t u).iol = s.iol ∧ (s.setTransfer t u).dup = s.dup ∧
    (s.setTransfer t u).pan = s.pan ∧ (s.setTransfer t u).fuse = s.fuse ∧ (s.setTransfer t u).queue = s.queue ∧
    (s.setTransfer t u).rs = s.rs ∧ (s.setTransfer t u).bridge = s.bridge ∧ (s.setTransfer t u).timer = s.timer ∧
    (s.setTransfer t u).capture = s.capture ∧ (s.setTransfer t u).pd = s.pd ∧ (s.setTransfer t u).tun = s.tun ∧
    (s.setTransfer t u).swq = s.swq ∧ (s.setTransfer t u).meter = s.meter ∧
    (s.setTransfer t u).gatePending = s.gatePending ∧ (s.setTransfer t u).announce = s.announce ∧
    (s.setTransfer t u).mailbox = s.mailbox := by
  refine ⟨rfl, rfl, rfl, rfl, rfl, rfl, rfl, rfl, rfl, rfl, rfl, rfl, rfl, rfl, rfl, rfl, rfl, rfl, rfl, rfl, rfl, rfl, rfl, rfl, rfl, rfl, rfl, rfl, rfl, rfl, rfl, rfl⟩

@[simp] theorem State.endTransfer_fields (s : State) (t : Transfer) :
    (s.endTransfer t).run = s.run ∧ (s.endTransfer t).clock = s.clock ∧ (s.endTransfer t).ftimeQ = s.ftimeQ ∧
    (s.endTransfer t).straps = s.straps ∧ (s.endTransfer t).resetCause = s.resetCause ∧ (s.endTransfer t).regs = s.regs ∧
    (s.endTransfer t).cnt = s.cnt ∧ (s.endTransfer t).rejects = s.rejects ∧ (s.endTransfer t).free = s.free ∧
    (s.endTransfer t).hub = s.hub ∧ (s.endTransfer t).answers = s.answers ∧ (s.endTransfer t).role = s.role ∧
    (s.endTransfer t).links = s.links ∧ (s.endTransfer t).tx = s.tx ∧ (s.endTransfer t).ingress = s.ingress ∧
    (s.endTransfer t).sent = s.sent ∧ (s.endTransfer t).inbox = s.inbox ∧ (s.endTransfer t).landing = s.landing ∧
    (s.endTransfer t).seqNext = s.seqNext ∧ (s.endTransfer t).origTimes = s.origTimes ∧
    (s.endTransfer t).origHeld = s.origHeld ∧ (s.endTransfer t).dups = s.dups ∧ (s.endTransfer t).tie = s.tie ∧
    (s.endTransfer t).settleEnds = s.settleEnds ∧ (s.endTransfer t).field = s.field ∧
    (s.endTransfer t).healthAt = s.healthAt ∧ (s.endTransfer t).sources = s.sources ∧
    (s.endTransfer t).records = s.records ∧ (s.endTransfer t).recordLoss = s.recordLoss ∧
    (s.endTransfer t).deliveries = s.deliveries ∧ (s.endTransfer t).msix = s.msix ∧ (s.endTransfer t).faults = s.faults ∧
    (s.endTransfer t).cru = s.cru ∧ (s.endTransfer t).copper = s.copper ∧ (s.endTransfer t).assigned = s.assigned ∧
    (s.endTransfer t).disc = s.disc ∧ (s.endTransfer t).img = s.img ∧ (s.endTransfer t).mirror = s.mirror ∧
    (s.endTransfer t).hist = s.hist ∧ (s.endTransfer t).time = s.time ∧ (s.endTransfer t).timers = s.timers ∧
    (s.endTransfer t).captures = s.captures ∧ (s.endTransfer t).queues = s.queues ∧
    (s.endTransfer t).busReads = s.busReads ∧ (s.endTransfer t).lines = s.lines ∧ (s.endTransfer t).pxs = s.pxs ∧
    (s.endTransfer t).cans = s.cans ∧ (s.endTransfer t).rss = s.rss ∧ (s.endTransfer t).rsSent = s.rsSent ∧
    (s.endTransfer t).bridges = s.bridges ∧ (s.endTransfer t).iols = s.iols ∧ (s.endTransfer t).whisks = s.whisks ∧
    (s.endTransfer t).sw = s.sw ∧ (s.endTransfer t).bar0 = s.bar0 ∧ (s.endTransfer t).host = s.host ∧
    (s.endTransfer t).recordsIn = s.recordsIn ∧ (s.endTransfer t).fences = s.fences ∧
    (s.endTransfer t).fenceOrder = s.fenceOrder ∧ (s.endTransfer t).writeSentAt = s.writeSentAt ∧
    (s.endTransfer t).writeHeld = s.writeHeld ∧ (s.endTransfer t).peerReady = s.peerReady ∧
    (s.endTransfer t).handInstant = s.handInstant ∧ (s.endTransfer t).twin = s.twin ∧
    (s.endTransfer t).pertCount = s.pertCount ∧ (s.endTransfer t).pertEnds = s.pertEnds ∧
    (s.endTransfer t).rules = s.rules ∧ (s.endTransfer t).gaugeLog = s.gaugeLog ∧ (s.endTransfer t).gaugeIn = s.gaugeIn ∧
    (s.endTransfer t).pans = s.pans ∧ (s.endTransfer t).fuses = s.fuses ∧ (s.endTransfer t).power = s.power ∧
    (s.endTransfer t).tagHeld = s.tagHeld ∧ (s.endTransfer t).keys = s.keys ∧ (s.endTransfer t).boot = s.boot ∧
    (s.endTransfer t).uartSent = s.uartSent ∧ (s.endTransfer t).jtag = s.jtag ∧ (s.endTransfer t).pending = s.pending := by
  refine ⟨rfl, rfl, rfl, rfl, rfl, rfl, rfl, rfl, rfl, rfl, rfl, rfl, rfl, rfl, rfl, rfl, rfl, rfl, rfl, rfl, rfl, rfl, rfl, rfl, rfl, rfl, rfl, rfl, rfl, rfl, rfl, rfl, rfl, rfl, rfl, rfl, rfl, rfl, rfl, rfl, rfl, rfl, rfl, rfl, rfl, rfl, rfl, rfl, rfl, rfl, rfl, rfl, rfl, rfl, rfl, rfl, rfl, rfl, rfl, rfl, rfl, rfl, rfl, rfl, rfl, rfl, rfl, rfl, rfl, rfl, rfl, rfl, rfl, rfl, rfl, rfl, rfl⟩

@[simp] theorem State.endTransfer_readers (s : State) (t : Transfer) :
    (s.endTransfer t).reg = s.reg ∧ (s.endTransfer t).count = s.count ∧ (s.endTransfer t).rejections = s.rejections ∧
    (s.endTransfer t).link = s.link ∧ (s.endTransfer t).port = s.port ∧ (s.endTransfer t).rule = s.rule ∧
    (s.endTransfer t).src = s.src ∧ (s.endTransfer t).bar = s.bar ∧ (s.endTransfer t).whisk = s.whisk ∧
    (s.endTransfer t).flt = s.flt ∧ (s.endTransfer t).line = s.line ∧ (s.endTransfer t).px = s.px ∧
    (s.endTransfer t).can = s.can ∧ (s.endTransfer t).fence = s.fence ∧ (s.endTransfer t).ring = s.ring ∧
    (s.endTransfer t).bar4 = s.bar4 ∧ (s.endTransfer t).iol = s.iol ∧ (s.endTransfer t).dup = s.dup ∧
    (s.endTransfer t).pan = s.pan ∧ (s.endTransfer t).fuse = s.fuse ∧ (s.endTransfer t).queue = s.queue ∧
    (s.endTransfer t).rs = s.rs ∧ (s.endTransfer t).bridge = s.bridge ∧ (s.endTransfer t).timer = s.timer ∧
    (s.endTransfer t).capture = s.capture ∧ (s.endTransfer t).pd = s.pd ∧ (s.endTransfer t).tun = s.tun ∧
    (s.endTransfer t).swq = s.swq ∧ (s.endTransfer t).meter = s.meter ∧ (s.endTransfer t).gatePending = s.gatePending ∧
    (s.endTransfer t).announce = s.announce ∧ (s.endTransfer t).mailbox = s.mailbox := by
  refine ⟨rfl, rfl, rfl, rfl, rfl, rfl, rfl, rfl, rfl, rfl, rfl, rfl, rfl, rfl, rfl, rfl, rfl, rfl, rfl, rfl, rfl, rfl, rfl, rfl, rfl, rfl, rfl, rfl, rfl, rfl, rfl, rfl⟩

@[simp] theorem State.reg_setReg (s : State) (i j : Nat) (a : Nat) : (s.setReg i a).reg j = if j = i then a else s.reg j :=
  cellGet_cellSet _ _ _ _ _

@[simp] theorem State.count_setCount (s : State) (i j : Nat) (a : Nat) : (s.setCount i a).count j = if j = i then a else s.count j :=
  cellGet_cellSet _ _ _ _ _

@[simp] theorem State.port_setPort (s : State) (i j : Nat) (a : PortTx) : (s.setPort i a).port j = if j = i then a else s.port j :=
  cellGet_cellSet _ _ _ _ _

@[simp] theorem State.rule_setRule (s : State) (i j : Nat) (a : RuleSt) : (s.setRule i a).rule j = if j = i then a else s.rule j :=
  cellGet_cellSet _ _ _ _ _

@[simp] theorem State.src_setSrc (s : State) (i j : Nat) (a : SrcSt) : (s.setSrc i a).src j = if j = i then a else s.src j :=
  cellGet_cellSet _ _ _ _ _

@[simp] theorem State.bar_setBar (s : State) (i j : Nat) (a : Nat) : (s.setBar i a).bar j = if j = i then a else s.bar j :=
  cellGet_cellSet _ _ _ _ _

@[simp] theorem State.whisk_setWhisk (s : State) (i j : Nat) (a : WhiskSt) : (s.setWhisk i a).whisk j = if j = i then a else s.whisk j :=
  cellGet_cellSet _ _ _ _ _

@[simp] theorem State.flt_setFlt (s : State) (i j : Nat) (a : FltSt) : (s.setFlt i a).flt j = if j = i then a else s.flt j :=
  cellGet_cellSet _ _ _ _ _

@[simp] theorem State.line_setLine (s : State) (i j : Nat) (a : LineSt) : (s.setLine i a).line j = if j = i then a else s.line j :=
  cellGet_cellSet _ _ _ _ _

@[simp] theorem State.px_setPx (s : State) (i j : Nat) (a : PxSt) : (s.setPx i a).px j = if j = i then a else s.px j :=
  cellGet_cellSet _ _ _ _ _

@[simp] theorem State.can_setCan (s : State) (i j : Nat) (a : CanSt) : (s.setCan i a).can j = if j = i then a else s.can j :=
  cellGet_cellSet _ _ _ _ _

@[simp] theorem State.ring_setRing (s : State) (i j : Nat) (a : RingSt) : (s.setRing i a).ring j = if j = i then a else s.ring j :=
  cellGet_cellSet _ _ _ _ _

@[simp] theorem State.bar4_setBar4 (s : State) (i j : Nat) (a : Nat) : (s.setBar4 i a).bar4 j = if j = i then a else s.bar4 j :=
  cellGet_cellSet _ _ _ _ _

@[simp] theorem State.iol_setIol (s : State) (i j : Nat) (a : IolSt) : (s.setIol i a).iol j = if j = i then a else s.iol j :=
  cellGet_cellSet _ _ _ _ _

@[simp] theorem State.dup_setDup (s : State) (i j : Nat) (a : Option DupEntry) : (s.setDup i a).dup j = if j = i then a else s.dup j :=
  cellGet_cellSet _ _ _ _ _

@[simp] theorem State.pan_setPan (s : State) (i j : Nat) (a : PanSt) : (s.setPan i a).pan j = if j = i then a else s.pan j :=
  cellGet_cellSet _ _ _ _ _

@[simp] theorem State.fuse_setFuse (s : State) (i j : Nat) (a : FuseSt) : (s.setFuse i a).fuse j = if j = i then a else s.fuse j :=
  cellGet_cellSet _ _ _ _ _

@[simp] theorem State.rs_setRs (s : State) (i j : Nat) (a : RsSt) : (s.setRs i a).rs j = if j = i then a else s.rs j :=
  cellGet_cellSet _ _ _ _ _

@[simp] theorem State.bridge_setBridge (s : State) (i j : Nat) (a : BridgeSt) : (s.setBridge i a).bridge j = if j = i then a else s.bridge j :=
  cellGet_cellSet _ _ _ _ _

@[simp] theorem State.timer_setTimer (s : State) (i j : Nat) (a : TimerSt) : (s.setTimer i a).timer j = if j = i then a else s.timer j :=
  cellGet_cellSet _ _ _ _ _

@[simp] theorem State.capture_setCapture (s : State) (i j : Nat) (a : CaptureSt) : (s.setCapture i a).capture j = if j = i then a else s.capture j :=
  cellGet_cellSet _ _ _ _ _

@[simp] theorem State.pd_setPd (s : State) (i j : Nat) (a : PdelaySt) : (s.setPd i a).pd j = if j = i then a else s.pd j :=
  cellGet_cellSet _ _ _ _ _

@[simp] theorem State.tun_setTun (s : State) (i j : Nat) (a : TunnelSt) : (s.setTun i a).tun j = if j = i then a else s.tun j :=
  cellGet_cellSet _ _ _ _ _

@[simp] theorem State.meter_setMeter (s : State) (i j : Nat) (a : MeterSt) : (s.setMeter i a).meter j = if j = i then a else s.meter j :=
  cellGet_cellSet _ _ _ _ _

@[simp] theorem State.link_setLink (s : State) (i j : Nat) (g : LinkSt → LinkSt) :
    (s.setLink i g).link j = if j = i then g (s.link i) else s.link j :=
  cellGet_cellSet _ _ _ _ _

@[simp] theorem State.count_addCount (s : State) (i j n : Nat) :
    (s.addCount i n).count j = if j = i then s.count i + n else s.count j :=
  cellGet_cellSet _ _ _ _ _

@[simp] theorem State.count_bump (s : State) (i j : Nat) : (s.bump i).count j = if j = i then s.count i + 1 else s.count j :=
  State.count_addCount s i j 1

@[simp] theorem State.queue_setQueue (s : State) (n q : Nat) (x : QSt) : (s.setQueue n q x).queue n q = x :=
  cellGet_cellSet_same _ _ _ _

theorem State.reg_congr {s t : State} (h : t.regs = s.regs) : t.reg = s.reg := by
  unfold State.reg; rw [h]

theorem State.count_congr {s t : State} (h : t.cnt = s.cnt) : t.count = s.count := by
  unfold State.count; rw [h]

theorem State.rejections_congr {s t : State} (h : t.rejects = s.rejects) : t.rejections = s.rejections := by
  unfold State.rejections; rw [h]

theorem State.link_congr {s t : State} (h : t.links = s.links) : t.link = s.link := by
  unfold State.link; rw [h]

theorem State.port_congr {s t : State} (h : t.tx = s.tx) : t.port = s.port := by
  unfold State.port; rw [h]

theorem State.rule_congr {s t : State} (h : t.rules = s.rules) : t.rule = s.rule := by
  unfold State.rule; rw [h]

theorem State.src_congr {s t : State} (h : t.sources = s.sources) : t.src = s.src := by
  unfold State.src; rw [h]

theorem State.bar_congr {s t : State} (h : t.bar0 = s.bar0) : t.bar = s.bar := by
  unfold State.bar; rw [h]

theorem State.whisk_congr {s t : State} (h : t.whisks = s.whisks) : t.whisk = s.whisk := by
  unfold State.whisk; rw [h]

theorem State.flt_congr {s t : State} (h : t.faults = s.faults) : t.flt = s.flt := by
  unfold State.flt; rw [h]

theorem State.line_congr {s t : State} (h : t.lines = s.lines) : t.line = s.line := by
  unfold State.line; rw [h]

theorem State.px_congr {s t : State} (h : t.pxs = s.pxs) : t.px = s.px := by
  unfold State.px; rw [h]

theorem State.can_congr {s t : State} (h : t.cans = s.cans) : t.can = s.can := by
  unfold State.can; rw [h]

theorem State.fence_congr {s t : State} (h : t.fences = s.fences) : t.fence = s.fence := by
  unfold State.fence; rw [h]

theorem State.iol_congr {s t : State} (h : t.iols = s.iols) : t.iol = s.iol := by
  unfold State.iol; rw [h]

theorem State.dup_congr {s t : State} (h : t.dups = s.dups) : t.dup = s.dup := by
  unfold State.dup; rw [h]

theorem State.pan_congr {s t : State} (h : t.pans = s.pans) : t.pan = s.pan := by
  unfold State.pan; rw [h]

theorem State.fuse_congr {s t : State} (h : t.fuses = s.fuses) : t.fuse = s.fuse := by
  unfold State.fuse; rw [h]

theorem State.queue_congr {s t : State} (h : t.queues = s.queues) : t.queue = s.queue := by
  unfold State.queue; rw [h]

theorem State.rs_congr {s t : State} (h : t.rss = s.rss) : t.rs = s.rs := by
  unfold State.rs; rw [h]

theorem State.bridge_congr {s t : State} (h : t.bridges = s.bridges) : t.bridge = s.bridge := by
  unfold State.bridge; rw [h]

theorem State.timer_congr {s t : State} (h : t.timers = s.timers) : t.timer = s.timer := by
  unfold State.timer; rw [h]

theorem State.capture_congr {s t : State} (h : t.captures = s.captures) : t.capture = s.capture := by
  unfold State.capture; rw [h]

end Sys2Proof.Machine
end

