-- ==== Sys2Proof/Laws/Views.lean ====
section
/-! SUPPORT. What `Quiet` and `Calm` say of each field, register and counter. -/

namespace Sys2Proof.Machine
open Sys2Proof

theorem cellGet_filter {α : Type} (d : Nat → α) (p : Nat → Bool) {k : Nat} (hk : p k = true) (m : Cells α) :
    cellGet d (m.filter (fun c => p c.1)) k = cellGet d m k := by
  induction m with
  | nil => rfl
  | cons c m ih =>
    obtain ⟨j, v⟩ := c
    rw [List.filter_cons]
    by_cases h : j = k
    · subst h; simp [hk, cellGet]
    · split <;> simp [cellGet, h, ih]

theorem Quiet.fields {s t : State} (h : Quiet s t) :
    t.run = s.run ∧ t.clock = s.clock ∧ t.ftimeQ = s.ftimeQ ∧ t.straps = s.straps ∧ t.resetCause = s.resetCause ∧
    t.regs = s.regs ∧ t.rejects = s.rejects ∧ t.free = s.free ∧ t.role = s.role ∧ t.links = s.links ∧
    t.ingress = s.ingress ∧ t.sent = s.sent ∧ t.inbox = s.inbox ∧ t.landing = s.landing ∧ t.dups = s.dups ∧
    t.settleEnds = s.settleEnds ∧ t.field = s.field ∧ t.healthAt = s.healthAt ∧ t.faults = s.faults ∧ t.copper = s.copper ∧
    t.assigned = s.assigned ∧ t.img = s.img ∧ t.mirror = s.mirror ∧ t.hist = s.hist ∧ t.time = s.time ∧
    t.timers = s.timers ∧ t.captures = s.captures ∧ t.queues = s.queues ∧ t.busReads = s.busReads ∧ t.lines = s.lines ∧
    t.pxs = s.pxs ∧ t.cans = s.cans ∧ t.rss = s.rss ∧ t.rsSent = s.rsSent ∧ t.bridges = s.bridges ∧ t.iols = s.iols ∧
    t.whisks = s.whisks ∧ t.sw = s.sw ∧ t.bar0 = s.bar0 ∧ t.host = s.host ∧ t.fences = s.fences ∧
    t.fenceOrder = s.fenceOrder ∧ t.writeSentAt = s.writeSentAt ∧ t.peerReady = s.peerReady ∧
    t.handInstant = s.handInstant ∧ t.pertCount = s.pertCount ∧ t.pertEnds = s.pertEnds ∧ t.rules = s.rules ∧
    t.gaugeLog = s.gaugeLog ∧ t.gaugeIn = s.gaugeIn ∧ t.pans = s.pans ∧ t.fuses = s.fuses ∧ t.power = s.power ∧
    t.boot = s.boot ∧ t.jtag = s.jtag ∧ t.pending = s.pending := by
  have h : t.silent = s.silent := h
  exact ⟨(congrArg State.run h :), (congrArg State.clock h :), (congrArg State.ftimeQ h :), (congrArg State.straps h :), (congrArg State.resetCause h :), (congrArg State.regs h :), (congrArg State.rejects h :), (congrArg State.free h :), (congrArg State.role h :), (congrArg State.links h :), (congrArg State.ingress h :), (congrArg State.sent h :), (congrArg State.inbox h :), (congrArg State.landing h :), (congrArg State.dups h :), (congrArg State.settleEnds h :), (congrArg State.field h :), (congrArg State.healthAt h :), (congrArg State.faults h :), (congrArg State.copper h :), (congrArg State.assigned h :), (congrArg State.img h :), (congrArg State.mirror h :), (congrArg State.hist h :), (congrArg State.time h :), (congrArg State.timers h :), (congrArg State.captures h :), (congrArg State.queues h :), (congrArg State.busReads h :), (congrArg State.lines h :), (congrArg State.pxs h :), (congrArg State.cans h :), (congrArg State.rss h :), (congrArg State.rsSent h :), (congrArg State.bridges h :), (congrArg State.iols h :), (congrArg State.whisks h :), (congrArg State.sw h :), (congrArg State.bar0 h :), (congrArg State.host h :), (congrArg State.fences h :), (congrArg State.fenceOrder h :), (congrArg State.writeSentAt h :), (congrArg State.peerReady h :), (congrArg State.handInstant h :), (congrArg State.pertCount h :), (congrArg State.pertEnds h :), (congrArg State.rules h :), (congrArg State.gaugeLog h :), (congrArg State.gaugeIn h :), (congrArg State.pans h :), (congrArg State.fuses h :), (congrArg State.power h :), (congrArg State.boot h :), (congrArg State.jtag h :), (congrArg State.pending h :)⟩

theorem Quiet.hub_fields {s t : State} (h : Quiet s t) :
    t.hub.mode = s.hub.mode ∧ t.hub.ret = s.hub.ret ∧ t.hub.cause = s.hub.cause ∧ t.hub.opWaits = s.hub.opWaits ∧
    t.hub.owner = s.hub.owner ∧ t.hub.resetDue = s.hub.resetDue ∧ t.hub.paramsLost = s.hub.paramsLost ∧
    t.hub.autoDone = s.hub.autoDone := by
  have h : t.silent = s.silent := h
  have e := congrArg State.hub h
  exact ⟨(congrArg HubCtl.mode e :), (congrArg HubCtl.ret e :), (congrArg HubCtl.cause e :), (congrArg HubCtl.opWaits e :), (congrArg HubCtl.owner e :), (congrArg HubCtl.resetDue e :), (congrArg HubCtl.paramsLost e :), (congrArg HubCtl.autoDone e :)⟩

theorem Quiet.dict_fields {s t : State} (h : Quiet s t) :
    t.dict.transfers = s.dict.transfers := by
  have h : t.silent = s.silent := h
  have e := congrArg State.dict h
  exact (congrArg DictSt.transfers e :)

theorem Quiet.keys_fields {s t : State} (h : Quiet s t) :
    t.keys.epochTurn = s.keys.epochTurn ∧ t.keys.next = s.keys.next ∧ t.keys.root = s.keys.root ∧
    t.keys.loaded = s.keys.loaded ∧ t.keys.floor = s.keys.floor ∧ t.keys.ahead = s.keys.ahead ∧
    t.keys.lostAt = s.keys.lostAt ∧ t.keys.since = s.keys.since ∧ t.keys.attest = s.keys.attest := by
  have h : t.silent = s.silent := h
  have e := congrArg State.keys h
  exact ⟨(congrArg KeySt.epochTurn e :), (congrArg KeySt.next e :), (congrArg KeySt.root e :), (congrArg KeySt.loaded e :), (congrArg KeySt.floor e :), (congrArg KeySt.ahead e :), (congrArg KeySt.lostAt e :), (congrArg KeySt.since e :), (congrArg KeySt.attest e :)⟩

theorem Quiet.twin_fields {s t : State} (h : Quiet s t) :
    t.twin.startAt = s.twin.startAt ∧ t.twin.round = s.twin.round ∧ t.twin.driving = s.twin.driving ∧
    t.twin.claim = s.twin.claim ∧ t.twin.claimAt = s.twin.claimAt ∧ t.twin.claimOld = s.twin.claimOld ∧
    t.twin.beatAt = s.twin.beatAt ∧ t.twin.pathAAt = s.twin.pathAAt ∧ t.twin.pathBAt = s.twin.pathBAt ∧
    t.twin.silentAt = s.twin.silentAt ∧ t.twin.sentAt = s.twin.sentAt ∧ t.twin.validAt = s.twin.validAt ∧
    t.twin.decisiveAt = s.twin.decisiveAt ∧ t.twin.row3At = s.twin.row3At ∧ t.twin.won = s.twin.won ∧
    t.twin.weak = s.twin.weak ∧ t.twin.empty = s.twin.empty ∧ t.twin.peerStrong = s.twin.peerStrong ∧
    t.twin.posConflict = s.twin.posConflict ∧ t.twin.seizing = s.twin.seizing ∧ t.twin.peer = s.twin.peer ∧
    t.twin.peerKnown = s.twin.peerKnown ∧ t.twin.bulkNext = s.twin.bulkNext ∧ t.twin.bulk = s.twin.bulk ∧
    t.twin.bulkQueue = s.twin.bulkQueue ∧ t.twin.proposed = s.twin.proposed ∧ t.twin.agreed = s.twin.agreed ∧
    t.twin.bulkSent = s.twin.bulkSent ∧ t.twin.penalties = s.twin.penalties ∧ t.twin.swapAt = s.twin.swapAt ∧
    t.twin.revertAt = s.twin.revertAt ∧ t.twin.revertLeft = s.twin.revertLeft := by
  have h : t.silent = s.silent := h
  have e := congrArg State.twin h
  exact ⟨(congrArg TwinSt.startAt e :), (congrArg TwinSt.round e :), (congrArg TwinSt.driving e :), (congrArg TwinSt.claim e :), (congrArg TwinSt.claimAt e :), (congrArg TwinSt.claimOld e :), (congrArg TwinSt.beatAt e :), (congrArg TwinSt.pathAAt e :), (congrArg TwinSt.pathBAt e :), (congrArg TwinSt.silentAt e :), (congrArg TwinSt.sentAt e :), (congrArg TwinSt.validAt e :), (congrArg TwinSt.decisiveAt e :), (congrArg TwinSt.row3At e :), (congrArg TwinSt.won e :), (congrArg TwinSt.weak e :), (congrArg TwinSt.empty e :), (congrArg TwinSt.peerStrong e :), (congrArg TwinSt.posConflict e :), (congrArg TwinSt.seizing e :), (congrArg TwinSt.peer e :), (congrArg TwinSt.peerKnown e :), (congrArg TwinSt.bulkNext e :), (congrArg TwinSt.bulk e :), (congrArg TwinSt.bulkQueue e :), (congrArg TwinSt.proposed e :), (congrArg TwinSt.agreed e :), (congrArg TwinSt.bulkSent e :), (congrArg TwinSt.penalties e :), (congrArg TwinSt.swapAt e :), (congrArg TwinSt.revertAt e :), (congrArg TwinSt.revertLeft e :)⟩

theorem Quiet.disc_fields {s t : State} (h : Quiet s t) :
    t.disc.want = s.disc.want ∧ t.disc.electing = s.disc.electing ∧ t.disc.highRound = s.disc.highRound ∧
    t.disc.bestPriority = s.disc.bestPriority ∧ t.disc.bestSerial = s.disc.bestSerial ∧
    t.disc.lastElect = s.disc.lastElect ∧ t.disc.firstElect = s.disc.firstElect ∧ t.disc.root = s.disc.root ∧
    t.disc.rollAt = s.disc.rollAt ∧ t.disc.assignAt = s.disc.assignAt ∧ t.disc.assign = s.disc.assign ∧
    t.disc.assignHeard = s.disc.assignHeard ∧ t.disc.lastAssign = s.disc.lastAssign ∧ t.disc.assigns = s.disc.assigns ∧
    t.disc.lastSweep = s.disc.lastSweep ∧ t.disc.rateAt = s.disc.rateAt ∧ t.disc.restartAt = s.disc.restartAt ∧
    t.disc.lap = s.disc.lap ∧ t.disc.stations = s.disc.stations ∧ t.disc.announces = s.disc.announces ∧
    t.disc.proxies = s.disc.proxies ∧ t.disc.peerPin = s.disc.peerPin ∧ t.disc.adverts = s.disc.adverts ∧
    t.disc.farAdvert = s.disc.farAdvert ∧ t.disc.advertAt = s.disc.advertAt ∧ t.disc.advertDue = s.disc.advertDue := by
  have h : t.silent = s.silent := h
  have e := congrArg State.disc h
  exact ⟨(congrArg DiscSt.want e :), (congrArg DiscSt.electing e :), (congrArg DiscSt.highRound e :), (congrArg DiscSt.bestPriority e :), (congrArg DiscSt.bestSerial e :), (congrArg DiscSt.lastElect e :), (congrArg DiscSt.firstElect e :), (congrArg DiscSt.root e :), (congrArg DiscSt.rollAt e :), (congrArg DiscSt.assignAt e :), (congrArg DiscSt.assign e :), (congrArg DiscSt.assignHeard e :), (congrArg DiscSt.lastAssign e :), (congrArg DiscSt.assigns e :), (congrArg DiscSt.lastSweep e :), (congrArg DiscSt.rateAt e :), (congrArg DiscSt.restartAt e :), (congrArg DiscSt.lap e :), (congrArg DiscSt.stations e :), (congrArg DiscSt.announces e :), (congrArg DiscSt.proxies e :), (congrArg DiscSt.peerPin e :), (congrArg DiscSt.adverts e :), (congrArg DiscSt.farAdvert e :), (congrArg DiscSt.advertAt e :), (congrArg DiscSt.advertDue e :)⟩

theorem Quiet.cru_fields {s t : State} (h : Quiet s t) :
    t.cru.log = s.cru.log ∧ t.cru.pinned = s.cru.pinned ∧ t.cru.snaps = s.cru.snaps ∧ t.cru.filling = s.cru.filling ∧
    t.cru.storm = s.cru.storm ∧ t.cru.lastLoss = s.cru.lastLoss := by
  have h : t.silent = s.silent := h
  have e := congrArg State.cru h
  exact ⟨(congrArg Crucible.log e :), (congrArg Crucible.pinned e :), (congrArg Crucible.snaps e :), (congrArg Crucible.filling e :), (congrArg Crucible.storm e :), (congrArg Crucible.lastLoss e :)⟩

theorem Quiet.count {s t : State} (h : Quiet s t) {k : Nat} (hk : trafficCounter k = false) : t.count k = s.count k := by
  have e : t.cnt.filter (fun c => !trafficCounter c.1) = s.cnt.filter (fun c => !trafficCounter c.1) :=
    (congrArg State.cnt (show t.silent = s.silent from h) :)
  have f := fun m : Cells Nat => cellGet_filter (fun _ => 0) (fun k => !trafficCounter k) (k := k) (by simp [hk]) m
  unfold State.count
  rw [← f t.cnt, ← f s.cnt, e]

theorem Calm.fields {s t : State} (h : Calm s t) :
    t.run = s.run ∧ t.clock = s.clock ∧ t.ftimeQ = s.ftimeQ ∧ t.straps = s.straps ∧ t.resetCause = s.resetCause ∧
    t.rejects = s.rejects ∧ t.free = s.free ∧ t.role = s.role ∧ t.links = s.links ∧ t.ingress = s.ingress ∧
    t.sent = s.sent ∧ t.inbox = s.inbox ∧ t.landing = s.landing ∧ t.dups = s.dups ∧ t.settleEnds = s.settleEnds ∧
    t.healthAt = s.healthAt ∧ t.copper = s.copper ∧ t.assigned = s.assigned ∧ t.img = s.img ∧ t.mirror = s.mirror ∧
    t.hist = s.hist ∧ t.time = s.time ∧ t.timers = s.timers ∧ t.captures = s.captures ∧ t.queues = s.queues ∧
    t.busReads = s.busReads ∧ t.cans = s.cans ∧ t.rss = s.rss ∧ t.rsSent = s.rsSent ∧ t.bridges = s.bridges ∧
    t.iols = s.iols ∧ t.sw = s.sw ∧ t.bar0 = s.bar0 ∧ t.host = s.host ∧ t.fences = s.fences ∧ t.fenceOrder = s.fenceOrder ∧
    t.writeSentAt = s.writeSentAt ∧ t.peerReady = s.peerReady ∧ t.handInstant = s.handInstant ∧ t.pertCount = s.pertCount ∧
    t.pertEnds = s.pertEnds ∧ t.rules = s.rules ∧ t.gaugeLog = s.gaugeLog ∧ t.gaugeIn = s.gaugeIn ∧ t.pans = s.pans ∧
    t.fuses = s.fuses ∧ t.power = s.power ∧ t.boot = s.boot ∧ t.jtag = s.jtag ∧ t.pending = s.pending := by
  have h : t.calm = s.calm := h
  exact ⟨(congrArg State.run h :), (congrArg State.clock h :), (congrArg State.ftimeQ h :), (congrArg State.straps h :), (congrArg State.resetCause h :), (congrArg State.rejects h :), (congrArg State.free h :), (congrArg State.role h :), (congrArg State.links h :), (congrArg State.ingress h :), (congrArg State.sent h :), (congrArg State.inbox h :), (congrArg State.landing h :), (congrArg State.dups h :), (congrArg State.settleEnds h :), (congrArg State.healthAt h :), (congrArg State.copper h :), (congrArg State.assigned h :), (congrArg State.img h :), (congrArg State.mirror h :), (congrArg State.hist h :), (congrArg State.time h :), (congrArg State.timers h :), (congrArg State.captures h :), (congrArg State.queues h :), (congrArg State.busReads h :), (congrArg State.cans h :), (congrArg State.rss h :), (congrArg State.rsSent h :), (congrArg State.bridges h :), (congrArg State.iols h :), (congrArg State.sw h :), (congrArg State.bar0 h :), (congrArg State.host h :), (congrArg State.fences h :), (congrArg State.fenceOrder h :), (congrArg State.writeSentAt h :), (congrArg State.peerReady h :), (congrArg State.handInstant h :), (congrArg State.pertCount h :), (congrArg State.pertEnds h :), (congrArg State.rules h :), (congrArg State.gaugeLog h :), (congrArg State.gaugeIn h :), (congrArg State.pans h :), (congrArg State.fuses h :), (congrArg State.power h :), (congrArg State.boot h :), (congrArg State.jtag h :), (congrArg State.pending h :)⟩

theorem Calm.dict_fields {s t : State} (h : Calm s t) :
    t.dict.transfers = s.dict.transfers := by
  have h : t.calm = s.calm := h
  have e := congrArg State.dict h
  exact (congrArg DictSt.transfers e :)

theorem Calm.keys_fields {s t : State} (h : Calm s t) :
    t.keys.epochTurn = s.keys.epochTurn ∧ t.keys.next = s.keys.next ∧ t.keys.root = s.keys.root ∧
    t.keys.loaded = s.keys.loaded ∧ t.keys.floor = s.keys.floor ∧ t.keys.ahead = s.keys.ahead ∧
    t.keys.lostAt = s.keys.lostAt ∧ t.keys.since = s.keys.since ∧ t.keys.attest = s.keys.attest := by
  have h : t.calm = s.calm := h
  have e := congrArg State.keys h
  exact ⟨(congrArg KeySt.epochTurn e :), (congrArg KeySt.next e :), (congrArg KeySt.root e :), (congrArg KeySt.loaded e :), (congrArg KeySt.floor e :), (congrArg KeySt.ahead e :), (congrArg KeySt.lostAt e :), (congrArg KeySt.since e :), (congrArg KeySt.attest e :)⟩

theorem Calm.disc_fields {s t : State} (h : Calm s t) :
    t.disc.want = s.disc.want ∧ t.disc.electing = s.disc.electing ∧ t.disc.highRound = s.disc.highRound ∧
    t.disc.bestPriority = s.disc.bestPriority ∧ t.disc.bestSerial = s.disc.bestSerial ∧
    t.disc.lastElect = s.disc.lastElect ∧ t.disc.firstElect = s.disc.firstElect ∧ t.disc.root = s.disc.root ∧
    t.disc.rollAt = s.disc.rollAt ∧ t.disc.assignAt = s.disc.assignAt ∧ t.disc.assign = s.disc.assign ∧
    t.disc.assignHeard = s.disc.assignHeard ∧ t.disc.lastAssign = s.disc.lastAssign ∧ t.disc.assigns = s.disc.assigns ∧
    t.disc.lastSweep = s.disc.lastSweep ∧ t.disc.rateAt = s.disc.rateAt ∧ t.disc.restartAt = s.disc.restartAt ∧
    t.disc.lap = s.disc.lap ∧ t.disc.stations = s.disc.stations ∧ t.disc.announces = s.disc.announces ∧
    t.disc.proxies = s.disc.proxies ∧ t.disc.peerPin = s.disc.peerPin ∧ t.disc.adverts = s.disc.adverts ∧
    t.disc.farAdvert = s.disc.farAdvert ∧ t.disc.advertAt = s.disc.advertAt ∧ t.disc.advertDue = s.disc.advertDue := by
  have h : t.calm = s.calm := h
  have e := congrArg State.disc h
  exact ⟨(congrArg DiscSt.want e :), (congrArg DiscSt.electing e :), (congrArg DiscSt.highRound e :), (congrArg DiscSt.bestPriority e :), (congrArg DiscSt.bestSerial e :), (congrArg DiscSt.lastElect e :), (congrArg DiscSt.firstElect e :), (congrArg DiscSt.root e :), (congrArg DiscSt.rollAt e :), (congrArg DiscSt.assignAt e :), (congrArg DiscSt.assign e :), (congrArg DiscSt.assignHeard e :), (congrArg DiscSt.lastAssign e :), (congrArg DiscSt.assigns e :), (congrArg DiscSt.lastSweep e :), (congrArg DiscSt.rateAt e :), (congrArg DiscSt.restartAt e :), (congrArg DiscSt.lap e :), (congrArg DiscSt.stations e :), (congrArg DiscSt.announces e :), (congrArg DiscSt.proxies e :), (congrArg DiscSt.peerPin e :), (congrArg DiscSt.adverts e :), (congrArg DiscSt.farAdvert e :), (congrArg DiscSt.advertAt e :), (congrArg DiscSt.advertDue e :)⟩

theorem Calm.twin_fields {s t : State} (h : Calm s t) :
    t.twin.startAt = s.twin.startAt ∧ t.twin.round = s.twin.round ∧ t.twin.driving = s.twin.driving ∧
    t.twin.claim = s.twin.claim ∧ t.twin.claimAt = s.twin.claimAt ∧ t.twin.claimOld = s.twin.claimOld ∧
    t.twin.beatAt = s.twin.beatAt ∧ t.twin.pathAAt = s.twin.pathAAt ∧ t.twin.pathBAt = s.twin.pathBAt ∧
    t.twin.silentAt = s.twin.silentAt ∧ t.twin.sentAt = s.twin.sentAt ∧ t.twin.validAt = s.twin.validAt ∧
    t.twin.decisiveAt = s.twin.decisiveAt ∧ t.twin.row3At = s.twin.row3At ∧ t.twin.won = s.twin.won ∧
    t.twin.weak = s.twin.weak ∧ t.twin.empty = s.twin.empty ∧ t.twin.peerStrong = s.twin.peerStrong ∧
    t.twin.posConflict = s.twin.posConflict ∧ t.twin.seizing = s.twin.seizing ∧ t.twin.peer = s.twin.peer ∧
    t.twin.peerKnown = s.twin.peerKnown ∧ t.twin.bulkNext = s.twin.bulkNext ∧ t.twin.bulk = s.twin.bulk ∧
    t.twin.bulkQueue = s.twin.bulkQueue ∧ t.twin.bulkSent = s.twin.bulkSent ∧ t.twin.penalties = s.twin.penalties ∧
    t.twin.swapAt = s.twin.swapAt ∧ t.twin.revertAt = s.twin.revertAt ∧ t.twin.revertLeft = s.twin.revertLeft := by
  have h : t.calm = s.calm := h
  have e := congrArg State.twin h
  exact ⟨(congrArg TwinSt.startAt e :), (congrArg TwinSt.round e :), (congrArg TwinSt.driving e :), (congrArg TwinSt.claim e :), (congrArg TwinSt.claimAt e :), (congrArg TwinSt.claimOld e :), (congrArg TwinSt.beatAt e :), (congrArg TwinSt.pathAAt e :), (congrArg TwinSt.pathBAt e :), (congrArg TwinSt.silentAt e :), (congrArg TwinSt.sentAt e :), (congrArg TwinSt.validAt e :), (congrArg TwinSt.decisiveAt e :), (congrArg TwinSt.row3At e :), (congrArg TwinSt.won e :), (congrArg TwinSt.weak e :), (congrArg TwinSt.empty e :), (congrArg TwinSt.peerStrong e :), (congrArg TwinSt.posConflict e :), (congrArg TwinSt.seizing e :), (congrArg TwinSt.peer e :), (congrArg TwinSt.peerKnown e :), (congrArg TwinSt.bulkNext e :), (congrArg TwinSt.bulk e :), (congrArg TwinSt.bulkQueue e :), (congrArg TwinSt.bulkSent e :), (congrArg TwinSt.penalties e :), (congrArg TwinSt.swapAt e :), (congrArg TwinSt.revertAt e :), (congrArg TwinSt.revertLeft e :)⟩

theorem Calm.field_fields {s t : State} (h : Calm s t) :
    t.field.powered = s.field.powered ∧ t.field.refreshed = s.field.refreshed ∧ t.field.refreshAt = s.field.refreshAt ∧
    t.field.holding = s.field.holding ∧ t.field.safe = s.field.safe ∧ t.field.holdMs = s.field.holdMs ∧
    t.field.row = s.field.row ∧ t.field.frozen = s.field.frozen ∧ t.field.driven = s.field.driven := by
  have h : t.calm = s.calm := h
  have e := congrArg State.field h
  exact ⟨(congrArg FieldDie.powered e :), (congrArg FieldDie.refreshed e :), (congrArg FieldDie.refreshAt e :), (congrArg FieldDie.holding e :), (congrArg FieldDie.safe e :), (congrArg FieldDie.holdMs e :), (congrArg FieldDie.row e :), (congrArg FieldDie.frozen e :), (congrArg FieldDie.driven e :)⟩

theorem Calm.count {s t : State} (h : Calm s t) {k : Nat} (hk : loudCounter k = false) : t.count k = s.count k := by
  have e : t.cnt.filter (fun c => !loudCounter c.1) = s.cnt.filter (fun c => !loudCounter c.1) :=
    (congrArg State.cnt (show t.calm = s.calm from h) :)
  have f := fun m : Cells Nat => cellGet_filter (fun _ => 0) (fun k => !loudCounter k) (k := k) (by simp [hk]) m
  unfold State.count
  rw [← f t.cnt, ← f s.cnt, e]

theorem Quiet.reg {s t : State} (h : Quiet s t) (k : Nat) : t.reg k = s.reg k :=
  congrArg (fun r => cellGet objDefault r k) (congrArg State.regs (show t.silent = s.silent from h) :)

theorem Calm.reg {s t : State} (h : Calm s t) {k : Nat} (hk : loudReg k = false) : t.reg k = s.reg k := by
  have e : t.regs.filter (fun c => !loudReg c.1) = s.regs.filter (fun c => !loudReg c.1) :=
    (congrArg State.regs (show t.calm = s.calm from h) :)
  have f := fun m : Cells Nat => cellGet_filter objDefault (fun k => !loudReg k) (k := k) (by simp [hk]) m
  unfold State.reg
  rw [← f t.regs, ← f s.regs, e]

/-- An accepted write with no further refusal has its effect, and answers. -/
theorem write_accepted {s : State} {w : Writer} {k v : Nat} {own : State → Option Abort} {eff : State → State}
    (h : Accepts s w k v) (ho : own s = none) : s.write w k v own eff = (eff s).accepted w k v := by
  unfold State.write; rw [h.1, h.2, ho]

/-- An accepted write with no further refusal has its effect and changes nothing else but what answering touches. -/
theorem write_quiet {s : State} {w : Writer} {k v : Nat} {own : State → Option Abort} {eff : State → State}
    (h : Accepts s w k v) (ho : own s = none) : Quiet (eff s) (s.write w k v own eff) := by
  rw [write_accepted h ho]; exact quiet_accepted _ _ _ _ (Quiet.refl _)

/-- A refused write changes nothing but the count of refusals and what answering touches. -/
theorem refuse_quiet (s : State) (w : Writer) (k : Nat) (a : Abort) :
    Quiet { s with rejects := (s.refuse w k a).rejects } (s.refuse w k a) := by
  have h := quiet_answer s w.path k (some a) [] (Quiet.refl s)
  unfold Quiet State.silent at *
  unfold State.refuse
  simp only [State.mk.injEq] at *
  simp_all

end Sys2Proof.Machine
end

