-- ==== Sys2Proof/Tests/Slice0.lean ====
section
/-! SUPPORT. Tests: an ill-formed command for each check of WellFormed, small steps whose results the spec gives, and for every
statement a state and operands that meet the hypotheses of each of its clauses. -/

namespace Sys2Proof.Tests

open Sys2Proof Sys2Proof.Machine

set_option maxRecDepth 40000
set_option exponentiation.threshold 100000000

/-- A running hub in MAINT with every input quiet: the base of the witnesses. -/
def wB : State := { State.reset with run := .firmware, role := .solo, hub := { State.reset.hub with mode := .maint }, field := { powered := true } }
/-- A writer with every role behind the host's mailbox. -/
def wV : Writer := ⟨.vendor, .mailbox⟩
/-- A field die that has been refreshed. -/
def wF : FieldDie := { powered := true, refreshed := true }
/-- A read transfer. -/
def wX : Transfer := { path := .uart, tid := 0, object := 0, reads := true }
/-- A row of the object table. -/
def wRow : ObjRow := ⟨0, 1, 0, 0, .u8, 1, .ro, 0, 0, 0, false, 0, false, 1⟩
/-- The type code of an object. -/
def wTy (k : Nat) : Nat := ((objRow k).getD wRow).ty.code
/-- An enabled tunnel record of end kind `k`, from node 0, tunnel 0, versions 1 to 2. -/
def wTun (k : Nat) : Nat := k * 2 ^ 28 * 256 ^ 16 + 256 ^ 15 + 2 * 256 ^ 14 + 128 * 256 ^ 13
/-- The words of a received CAN frame without data. -/
def wCan : List QItem := [⟨3, 0⟩, ⟨64 + 56 + 1, 0⟩]
/-- A UART frame of operation `op` without data. -/
def wUart (op : Nat) : List Byte :=
  let d := beBytes 2 20 ++ beBytes 1 op ++ List.replicate 19 0
  [0xA5, 0x5A] ++ d ++ beBytes 4 (crc32 d)
/-- The value 0 is short enough for every write-only object, so the other checks decide. -/
theorem permit_zero (s : State) (w : Writer) (k : Nat) (r : ObjRow) (role : Role) (m : Nat) (d : Bool) (h : objRow k = some r)
    (ha : r.access = .wo role m d) (h1 : (s.inRecovery && decide (k / 256 < 0xE80)) = false) (h2 : s.denied k 0 = none)
    (h3 : w.path ≠ .peer) (h4 : s.roleOk w role = true) (h5 : s.stateOk m = true) : s.permit w k 0 = none := by
  unfold State.permit
  rw [h]
  simp [ha, h2, h3, h4, h5]
  simpa using h1
/-- A read transfer one segment on. -/
def wX9 : Transfer := { wX with next := 1 }


/-! ## Well-formedness -/

theorem test_wf_frame : (Instr.frameOriginate { payload := List.replicate 1477 0 }).wf = false := by decide
theorem test_wf_wire : (Instr.frameHeaderReceived 0 { headerBytes := 25 }).wf = false := by decide
theorem test_wf_request : (Instr.dictRead { path := .mailbox, object := 2 ^ 20 }).wf = false := by decide
theorem test_wf_can_frame : canFrameOk { ident := 2048 } = false := by decide
theorem test_wf_can_end : canEndOk (.sent 128) = false := by decide
theorem test_wf_rs_char : rsCharOk { value := 512 } = false := by decide
theorem test_wf_round : (Instr.claimRoundEnd { crc := 16 }).wf = false := by decide
theorem test_wf_ptp : ptpMsgOk { cls := 256 } = false := by decide
theorem test_wf_iol_device : iolDeviceOk { pdIn := 33 } = false := by decide
theorem test_wf_sw_frame : swFrameOk { pcp := some 8 } = false := by decide
theorem test_wf_sw_ingress : swIngressOk (.own 0 {} [19] 0) = false := by decide
theorem test_wf_target : (Instr.registerWrite wV (.bar0 2) 0).wf = false := by decide
theorem test_wf_path : (Instr.fenceIssueLocal ⟨.vendor, .dict 65536 0 true⟩ 0).wf = false := by decide
theorem test_wf_good : (Instr.registerWrite wV (.bar0 4) 0).wf = true := by decide

/-! ## Small steps -/

/-- What a step leaves, seen through `f`. -/
def after {α : Type} (c : Instr) (s : State) (f : State → α) : Option α := match step { s with pending := [c] } with
  | .next t => some (f t)
  | .fault _ => none
  | .refused _ => none

/-- R133: while RING is on LMC advances in steps of 2.5 ns. -/
theorem test_tick : (match step State.reset with
  | .next t => t.clock
  | _ => 0) = 5 := by decide
/-- Table 20.7: IDCODE reads 0x107207CB. -/
theorem test_idcode : after .jtagIdcode wB (fun t => t.jtag.data) = some [0x10, 0x72, 0x07, 0xCB] := by decide
/-- R516: outside RETURNED the Crucible instructions select BYPASS. -/
theorem test_crucible_bypass : after (.jtagCrucibleAddr 64) (wB.setReg Key.LC_STATE 2) (fun t => t.jtag.ir) = some 0xFF := by decide
/-- R11: a CONST object answers READ_ONLY, and R10: the refusal is counted. -/
theorem test_const_write : after (.registerWrite wV (.object Key.ID_SERIAL) 5) wB
    (fun t => (t.answers.map (·.abort), t.rejections Key.ID_SERIAL, t.reg Key.ID_SERIAL)) = some ([some .readOnly], 1, 1) := by
  decide
/-- R9: PORT_HOLDOFF_MS takes no write in OPERATE. -/
theorem test_state_conflict : after (.portSettingWrite wV 0 .holdoff 1000) { wB with hub := { wB.hub with mode := .operate } }
    (fun t => t.answers.map (·.abort)) = some [some .stateConflict] := by decide
/-- Table 19.4: BEGIN in IDLE enters DOWNLOAD; ABORT leaves it. -/
theorem test_update_begin : after (.updateBegin wV) wB (fun t => t.reg Key.UPD_PHASE) = some 1 := by decide
theorem test_update_abort : after (.updateAbort wV) (wB.setReg Key.UPD_PHASE 1) (fun t => t.reg Key.UPD_PHASE) = some 0 := by decide
/-- R536: 0 written to a WO BOOL object is answered OK and does nothing. -/
theorem test_command_zero : after (.zeroiseWrite wV 0) (wB.setReg Key.KEYED 1)
    (fun t => (t.answers.map (·.abort), t.reg Key.KEYED)) = some ([none], 1) := by decide
/-- R486: zeroisation clears KEYED. -/
theorem test_zeroise : after (.zeroiseWrite wV 1) (wB.setReg Key.KEYED 1) (fun t => t.reg Key.KEYED) = some 0 := by decide
/-- Table 18.2: FORGE is not allowed from FORGED. -/
theorem test_lifecycle : after (.transitionForge wV 0 true) (wB.setReg Key.LC_STATE 1) (fun t => t.answers.map (·.abort)) =
    some [some .lifecycleDenied] := by decide
/-- R431: CLEAR is refused while LIVE is set. -/
theorem test_fault_clear : after (.faultClear wV 0) (wB.setFlt 0 { live := true, inFault := true })
    (fun t => ((t.flt 0).inFault, t.answers.map (·.abort))) = some (true, [some .stateConflict]) := by decide
/-- An offset outside BAR0 names no address. -/
theorem test_outside_bar : step { wB with pending := [.registerWrite wV (.bar0 0x10000) 0] } = .fault (.outsideBar 0x10000) := rfl

/-! ## Witnesses -/


/-- The hypotheses of `Obligations.StepTakesFront` can be met, clause by clause. -/
theorem witness_StepTakesFront :
    ∃ (s : State) (c : Instr) (rest : List Instr), s.pending = c :: rest :=
    ⟨{ wB with run := .firmware, pending := .fieldRefresh :: [] }, .fieldRefresh, [], by decide⟩

/-- The hypotheses of `Obligations.EmptyQueueTicks` can be met, clause by clause. -/
theorem witness_EmptyQueueTicks :
    (∃ (s : State), s.pending = [] ∧ s.run = .unpowered) ∧
    (∃ (s : State), s.pending = [] ∧ s.run = .held) ∧
    (∃ (s : State), s.pending = [] ∧ s.run = .firmware) :=
  ⟨
    ⟨{ wB with run := .unpowered, pending := [] }, by decide, by decide⟩,
    ⟨{ wB with run := .held, pending := [] }, by decide, by decide⟩,
    ⟨{ wB with run := .firmware, pending := [] }, by decide, by decide⟩⟩

/-- The hypotheses of `Obligations.CommandFrames` can be met, clause by clause. -/
theorem witness_CommandFrames :
    ∃ (c : Instr) (s : State) (t : State), exec c s = .next t :=
    ⟨.fieldRefresh, State.reset, State.reset, rfl⟩

/-- The hypotheses of `Obligations.ResetAndBoot` can be met, clause by clause. -/
theorem witness_ResetAndBoot :
    (∃ (s : State), s.run = .unpowered) ∧
    (∃ (s : State) (cause : ResetCause), s.logicOn = true) ∧
    (∃ (s : State) (p : Straps), s.run = .held ∧ p.bootSel = false ∧ s.reg Key.LC_STATE ≠ 4 ∧ s.boot.recover = none) ∧
    (∃ (s : State) (p : Straps), s.run = .held ∧ p.bootSel = true) ∧
    (∃ (s : State) (at_ : Nat) (cause : ResetCause), s.run = .firmware ∧ s.hub.resetDue = some (at_, cause)) ∧
    (∃ (s : State) (imageGood : Bool) (torn : Nat), s.run = .rom) ∧
    (∃ (s : State), s.run = .rom ∧ s.reg Key.UPD_PHASE = 2) ∧
    (∃ (s : State), s.run = .loader) :=
  ⟨
    ⟨{ wB with run := .unpowered }, by decide⟩,
    ⟨{ wB with run := .firmware }, .pin, by decide⟩,
    ⟨({ wB with run := .held, boot := { wB.boot with recover := none } }).setReg Key.LC_STATE 5, {}, by decide, by decide,
      by decide, by decide⟩,
    ⟨{ wB with run := .held }, { bootSel := true }, by decide, by decide⟩,
    ⟨{ wB with run := .firmware, hub := { wB.hub with resetDue := some (0, .pin) } }, 0, .pin, by decide, by decide⟩,
    ⟨{ wB with run := .rom }, true, 0, by decide⟩,
    ⟨({ wB with run := .rom }).setReg Key.UPD_PHASE 2, by decide, by decide⟩,
    ⟨{ wB with run := .loader }, by decide⟩⟩

/-- The hypotheses of `Obligations.FieldDie` can be met, clause by clause. -/
theorem witness_FieldDie :
    (∃ (s : State), s.run = .firmware ∧ s.field.powered = true) ∧
    (∃ (s : State), s.run = .firmware ∧ s.field.powered = true ∧ s.field.refreshed = false) ∧
    (∃ (s : State), s.run = .held ∧ s.field.powered = true ∧ s.field.refreshed = true ∧ s.field.safe = false) ∧
    (∃ (s : State), s.field.powered = true ∧ s.field.holding = true) ∧
    (∃ (s : State), s.field.powered = true) ∧
    (∃ (s : State), s.field.powered = false) ∧
    (∃ (s : State), s.run ≠ .unpowered ∧ s.role ≠ .solo) ∧
    (∃ (s : State) (w : Writer) (v : Nat), s.run = .firmware ∧ Accepts s w Key.PWR_HOLD_TIME_MS v) ∧
    (∃ (s : State) (w : Writer) (v : Nat), s.run = .firmware ∧ Accepts s w Key.COMPAT_REQUEST v) :=
  ⟨
    ⟨{ wB with run := .firmware, field := { wB.field with powered := true } }, by decide, by decide⟩,
    ⟨{ wB with run := .firmware, field := { wB.field with powered := true, refreshed := false } }, by decide, by decide,
      by decide⟩,
    ⟨{ wB with run := .held, field := { wB.field with powered := true, refreshed := true, safe := false } }, by decide,
      by decide, by decide, by decide⟩,
    ⟨{ wB with run := .firmware, field := { wB.field with powered := true, holding := true } }, by decide, by decide⟩,
    ⟨{ wB with run := .firmware, field := { wB.field with powered := true } }, by decide⟩,
    ⟨{ wB with run := .firmware, field := { wB.field with powered := false } }, by decide⟩,
    ⟨{ wB with run := .firmware, role := .active }, by decide, by decide⟩,
    ⟨{ wB with run := .firmware }, wV, 0, by decide, ⟨by decide, by decide⟩⟩,
    ⟨{ wB with run := .firmware }, wV, 0, by decide, ⟨by decide, by decide⟩⟩⟩

/-- The hypotheses of `Obligations.Modules` can be met, clause by clause. -/
theorem witness_Modules :
    (∃ (s : State) (f : Fin 4), s.logicOn = true ∧ s.reg (Key.PORT_MEDIUM f) = 0 ∧ s.reg (Key.PORT_STATE f) ≠ 0) ∧
    (∃ (s : State) (f : Fin 4), s.logicOn = true ∧ s.reg (Key.PORT_MEDIUM f) = 0 ∧ s.reg (Key.SFP_PRESENT f) = 0) ∧
    (∃ (s : State) (f : Fin 4) (bytes : List Byte) (seen : Nat), s.logicOn = true ∧ (s.link f).seenAt = some seen ∧
      (s.link f).startupRead = false ∧ ccBaseOk bytes = true ∧ beAt bytes 0 1 = 3) ∧
    (∃ (s : State) (f : Fin 4), s.logicOn = true ∧ s.reg (Key.PORT_MEDIUM f) = 0 ∧ s.up f = true) ∧
    (∃ (s : State) (f : Fin 4), s.logicOn = true ∧ s.reg (Key.PORT_MEDIUM f) = 0) ∧
    (∃ (s : State) (f : Fin 4) (bytes : List Byte), s.logicOn = true ∧ s.reg (Key.SFP_PRESENT f) = 1 ∧
      bitOf (s.reg (Key.SFP_STATUS f)) 0 = true) :=
  ⟨
    ⟨(({ wB with run := .firmware }).setReg (Key.PORT_MEDIUM 0) 0).setReg (Key.PORT_STATE 0) 1, 0, by decide, by decide,
      by decide⟩,
    ⟨(({ wB with run := .firmware }).setReg (Key.PORT_MEDIUM 0) 0).setReg (Key.SFP_PRESENT 0) 0, 0, by decide, by decide,
      by decide⟩,
    ⟨({ wB with run := .firmware }).setLink 0 (fun _ => { seenAt := some 0, startupRead := false }), 0,
      [3] ++ List.replicate 62 0 ++ [3], 0, by decide, by decide, by decide, by decide, by decide⟩,
    ⟨(({ wB with run := .firmware }).setReg (Key.PORT_MEDIUM 0) 0).setReg (Key.PORT_STATE 0) 4, 0, by decide, by decide,
      by decide⟩,
    ⟨({ wB with run := .firmware }).setReg (Key.PORT_MEDIUM 0) 0, 0, by decide, by decide⟩,
    ⟨(({ wB with run := .firmware }).setReg (Key.SFP_PRESENT 0) 1).setReg (Key.SFP_STATUS 0) 1, 0, [], by decide, by decide,
      by decide⟩⟩

/-- The hypotheses of `Obligations.LinkStates` can be met, clause by clause. -/
theorem witness_LinkStates :
    (∃ (s : State) (w : Writer) (f : Fin 4), Accepts s w (Key.PORT_ENABLE f) 0) ∧
    (∃ (s : State) (w : Writer) (f : Fin 4) (v : Nat), Accepts s w (Key.PORT_HOLDOFF_MS f) v ∧ s.reg (Key.PORT_STATE f) ≠ 0) ∧
    (∃ (s : State) (w : Writer) (v : Nat), Accepts s w Key.LINK_MAX_VERSION v ∧ s.reg Key.LINK_MIN_VERSION ≤ v) ∧
    (∃ (s : State) (f : Fin 4), s.logicOn = true ∧ s.reg (Key.PORT_STATE f) = 1 ∧ s.moduleOk f = true ∧ s.settled f = true) ∧
    (∃ (s : State) (f : Fin 4), s.logicOn = true ∧ s.up f = true) ∧
    (∃ (s : State) (f : Fin 4), s.logicOn = true ∧ s.reg (Key.PORT_STATE f) = 2) ∧
    (∃ (s : State) (f : Fin 4), s.logicOn = true ∧ s.reg (Key.PORT_STATE f) = 2) ∧
    (∃ (s : State) (f : Fin 4), s.logicOn = true ∧ s.reg (Key.PORT_STATE f) = 3) ∧
    (∃ (s : State) (f : Fin 4) (h : Frame) (ver : Nat), s.logicOn = true ∧ s.reg (Key.PORT_STATE f) = 3 ∧
      helloValid h = true ∧
      negotiate (s.reg Key.LINK_MIN_VERSION) (s.reg Key.LINK_MAX_VERSION) (beAt h.payload 2 1) (beAt h.payload 3 1) = some ver ∧
      bitOf (beAt h.payload 1 1) 7 = true) ∧
    (∃ (s : State) (f : Fin 4), s.logicOn = true ∧ s.reg (Key.PORT_STATE f) = 3) ∧
    (∃ (s : State) (f : Fin 4), s.logicOn = true ∧ s.up f = true) ∧
    (∃ (s : State) (f : Fin 4), s.logicOn = true ∧ s.reg (Key.PORT_STATE f) = 5) :=
  ⟨
    ⟨{ wB with run := .firmware }, wV, 0, ⟨by decide, by decide⟩⟩,
    ⟨({ wB with run := .firmware }).setReg (Key.PORT_STATE 0) 1, wV, 0, 1000, ⟨by decide, by decide⟩, by decide⟩,
    ⟨{ wB with run := .firmware }, wV, 3, ⟨by decide, by decide⟩, by decide⟩,
    ⟨(({ wB with run := .firmware }).setReg (Key.PORT_STATE 0) 1).setReg (Key.PORT_MEDIUM 0) 1, 0, by decide, by decide,
      by decide, by decide⟩,
    ⟨({ wB with run := .firmware }).setReg (Key.PORT_STATE 0) 4, 0, by decide, by decide⟩,
    ⟨({ wB with run := .firmware }).setReg (Key.PORT_STATE 0) 2, 0, by decide, by decide⟩,
    ⟨({ wB with run := .firmware }).setReg (Key.PORT_STATE 0) 2, 0, by decide, by decide⟩,
    ⟨({ wB with run := .firmware }).setReg (Key.PORT_STATE 0) 3, 0, by decide, by decide⟩,
    ⟨({ wB with run := .firmware }).setReg (Key.PORT_STATE 0) 3, 0,
      { kind := 10, payload := [1, 128, 1, 3] ++ List.replicate 16 0 }, 3, by decide, by decide, by decide, by decide,
      by decide⟩,
    ⟨({ wB with run := .firmware }).setReg (Key.PORT_STATE 0) 3, 0, by decide, by decide⟩,
    ⟨({ wB with run := .firmware }).setReg (Key.PORT_STATE 0) 4, 0, by decide, by decide⟩,
    ⟨({ wB with run := .firmware }).setReg (Key.PORT_STATE 0) 5, 0, by decide, by decide⟩⟩

/-- The hypotheses of `Obligations.RingFrames` can be met, clause by clause. -/
theorem witness_RingFrames :
    (∃ (s : State) (f : Fin 4) (rx : WireFrame), s.logicOn = true ∧ s.up f = true ∧ f.val < 2 ∧ 10 ≤ rx.headerBytes ∧
      rx.etherType = some s.copper.etherType ∧ stationOf rx.frame.dest ≠ 0 ∧ rx.frame.kind ≠ 9 ∧ s.copper.station ≠ 0 ∧
      rx.frame.source = s.copper.station) ∧
    (∃ (s : State) (f : Fin 4) (rx : WireFrame) (e : Nat), s.logicOn = true ∧ s.up f = true ∧ rx.etherType = some e ∧
      e ≠ s.copper.etherType) ∧
    (∃ (s : State) (a : Fin 65536) (e : DupEntry), s.dup a = some e) ∧
    (∃ (s : State) (fr : Frame), s.logicOn = true ∧ s.inRecovery = false ∧ fr.kind = 9 ∧ s.up 2 = true) ∧
    (∃ (s : State) (f : Frame) (fs : List Frame), s.origHeld = f :: fs) ∧
    (∃ (s : State) (f : Fin 4) (e : TxEntry), (s.port f).now = some e ∧ e.whole = true) :=
  ⟨
    ⟨({ wB with run := .firmware, copper := { station := 5 } }).setReg (Key.PORT_STATE 0) 4, 0,
      { frame := { source := 5, dest := 1 } }, by decide, by decide, by decide, by decide, by decide, by decide, by decide,
      by decide, by decide⟩,
    ⟨({ wB with run := .firmware }).setReg (Key.PORT_STATE 0) 4, 0, { etherType := some 0x0800 }, 0x0800, by decide,
      by decide, by decide, by decide⟩,
    ⟨{ wB with run := .firmware, dups := [(0, some {})] }, 0, {}, by decide⟩,
    ⟨({ wB with run := .firmware }).setReg (Key.PORT_STATE 2) 4, { kind := 9 }, by decide, by decide, by decide, by decide⟩,
    ⟨{ wB with run := .firmware, origHeld := {} :: [] }, {}, [], by decide⟩,
    ⟨({ wB with run := .firmware }).setPort 0 { now := some { frame := {} } }, 0, { frame := {} }, by decide, by decide⟩⟩

/-- The hypotheses of `Obligations.CopperAndTie` can be met, clause by clause. -/
theorem witness_CopperAndTie :
    (∃ (s : State), s.logicOn = true) ∧
    (∃ (s : State), s.logicOn = true) ∧
    (∃ (s : State) (ok : Bool), s.logicOn = true) ∧
    (∃ (s : State) (w : Writer) (v : Nat), Accepts s w Key.BYP_COMMAND v) ∧
    (∃ (s : State) (w : Writer) (pin : Fin 2) (v : Nat), Accepts s w (bypCycles pin) v) ∧
    (∃ (s : State) (w : Writer) (v : Nat), Accepts s w Key.BYP_RATED_CYCLES v) ∧
    (∃ (s : State) (at_ : Nat), s.settleEnds = some at_) ∧
    (∃ (s : State) (at_ : Nat), s.tie.firstUnreturned = some at_ ∧ s.up 2 = true) ∧
    (∃ (s : State) (fr : Frame), s.logicOn = true ∧ s.up 2 = true ∧ fr.kind = 10 ∧ beAt fr.payload 0 1 = 2 ∧ s.tie.held = []) ∧
    (∃ (s : State) (e : TxEntry) (since : Nat), s.tie.held = [(e, since, false)]) ∧
    (∃ (s : State) (w : Writer) (f : Fin 4), Accepts s w Key.LINK_COUNTER_CLEAR (2 ^ f.val)) ∧
    (∃ (s : State) (w : Writer), Accepts s w Key.LINK_COUNTER_CLEAR 128) :=
  ⟨
    ⟨{ wB with run := .firmware }, by decide⟩,
    ⟨{ wB with run := .firmware }, by decide⟩,
    ⟨{ wB with run := .firmware }, true, by decide⟩,
    ⟨{ wB with run := .firmware }, wV, 0, ⟨by decide, by decide⟩⟩,
    ⟨{ wB with run := .firmware }, wV, 0, 0, ⟨by decide, by decide⟩⟩,
    ⟨{ wB with run := .firmware }, wV, 1, ⟨by decide, by decide⟩⟩,
    ⟨{ wB with run := .firmware, settleEnds := some 0 }, 0, by decide⟩,
    ⟨({ wB with run := .firmware, tie := { wB.tie with firstUnreturned := some 0 } }).setReg (Key.PORT_STATE 2) 4, 0,
      by decide, by decide⟩,
    ⟨({ wB with run := .firmware, tie := { wB.tie with held := [] } }).setReg (Key.PORT_STATE 2) 4,
      { kind := 10, payload := [2] }, by decide, by decide, by decide, by decide, by decide⟩,
    ⟨{ wB with run := .firmware, tie := { wB.tie with held := [({ frame := {} }, 0, false)] } }, { frame := {} }, 0,
      by decide⟩,
    ⟨{ wB with run := .firmware }, wV, 0, ⟨by decide, by decide⟩⟩,
    ⟨{ wB with run := .firmware }, wV, ⟨by decide, by decide⟩⟩⟩

/-- The hypotheses of `Obligations.DiscoveryRounds` can be met, clause by clause. -/
theorem witness_DiscoveryRounds :
    (∃ (s : State), s.logicOn = true ∧ s.disc.want = true) ∧
    (∃ (s : State), s.logicOn = true) ∧
    (∃ (s : State) (f : Fin 4) (fr : Frame), s.logicOn = true ∧ f.val < 2 ∧
      olderRound (s.reg Key.DISC_ROUND) (roundOf fr) = true ∧ olderRound (roundOf fr) (s.reg Key.DISC_ROUND) = false) ∧
    (∃ (s : State), s.logicOn = true ∧ s.disc.electing = true ∧ s.disc.bestPriority = s.reg Key.DISC_ROOT_PRIORITY ∧
      s.disc.bestSerial = s.reg Key.ID_SERIAL) ∧
    (∃ (s : State) (fr : Frame), s.logicOn = true ∧ s.disc.root = false ∧
      olderRound (roundOf fr) (s.reg Key.DISC_ROUND) = false) ∧
    (∃ (s : State) (fr : Frame) (pins : List RollPin), s.logicOn = true ∧ s.disc.root = true ∧ s.disc.rollAt.isSome = true ∧
      roundOf fr = s.reg Key.DISC_ROUND) ∧
    (∃ (s : State) (fr : Frame), s.logicOn = true ∧ s.disc.root = true ∧ s.disc.assignAt.isSome = true ∧
      roundOf fr = s.reg Key.DISC_ROUND) ∧
    (∃ (s : State) (fr : Frame), s.logicOn = true ∧ s.disc.root = true ∧ fr.source = s.station) ∧
    (∃ (s : State), s.logicOn = true ∧ s.disc.root = true ∧ s.disc.rollAt = none ∧ s.disc.assignAt = none) ∧
    (∃ (s : State) (at_ : Nat), s.logicOn = true ∧ s.disc.root = true ∧ s.disc.rollAt = some at_) :=
  ⟨
    ⟨{ wB with run := .firmware, disc := { wB.disc with want := true } }, by decide, by decide⟩,
    ⟨{ wB with run := .firmware }, by decide⟩,
    ⟨{ wB with run := .firmware }, 0, { payload := [0, 0, 0, 1] }, by decide, by decide, by decide, by decide⟩,
    ⟨{ wB with run := .firmware, disc := { wB.disc with electing := true, bestPriority := wB.reg Key.DISC_ROOT_PRIORITY, bestSerial := wB.reg Key.ID_SERIAL } },
      by decide, by decide, by decide, by decide⟩,
    ⟨{ wB with run := .firmware, disc := { wB.disc with root := false } }, {}, by decide, by decide, by decide⟩,
    ⟨{ wB with run := .firmware, disc := { wB.disc with root := true, rollAt := some 0 } }, {}, [], by decide, by decide,
      by decide, by decide⟩,
    ⟨{ wB with run := .firmware, disc := { wB.disc with root := true, assignAt := some 0 } }, {}, by decide, by decide,
      by decide, by decide⟩,
    ⟨{ wB with run := .firmware, disc := { wB.disc with root := true } }, {}, by decide, by decide, by decide⟩,
    ⟨{ wB with run := .firmware, disc := { wB.disc with root := true, rollAt := none, assignAt := none } }, by decide,
      by decide, by decide, by decide⟩,
    ⟨{ wB with run := .firmware, disc := { wB.disc with root := true, rollAt := some 0 } }, 0, by decide, by decide,
      by decide⟩⟩

/-- The hypotheses of `Obligations.DiscoveryStations` can be met, clause by clause. -/
theorem witness_DiscoveryStations :
    (∃ (s : State) (fr : Frame), s.logicOn = true ∧ s.disc.root = false ∧
      olderRound (roundOf fr) (s.reg Key.DISC_ROUND) = false) ∧
    (∃ (s : State) (fr : Frame), s.logicOn = true ∧ beAt fr.payload 4 8 ≠ s.reg Key.ID_SERIAL) ∧
    (∃ (s : State) (at_ : Nat), s.disc.restartAt = some at_) ∧
    (∃ (s : State) (f : Fin 4) (fr : Frame), s.logicOn = true ∧ ringOf (beAt fr.payload 4 2) ≠ ringOf s.station ∧
      cellGet (fun _ => none) s.disc.proxies (beAt fr.payload 4 2) = some (announceOf fr.payload)) ∧
    (∃ (s : State) (at_ : Nat), s.disc.rateAt = some at_ ∧ s.reg (Key.PORT_STATE 0) ≠ 0 ∧ s.reg (Key.PORT_STATE 1) ≠ 0) ∧
    (∃ (s : State), s.logicOn = true ∧ s.isCoupler = true) ∧
    (∃ (s : State) (fr : Frame), s.logicOn = true) :=
  ⟨
    ⟨{ wB with run := .firmware, disc := { wB.disc with root := false } }, {}, by decide, by decide, by decide⟩,
    ⟨{ wB with run := .firmware }, {}, by decide, by decide⟩,
    ⟨{ wB with run := .firmware, disc := { wB.disc with restartAt := some 0 } }, 0, by decide⟩,
    ⟨{ wB with run := .firmware, disc := { wB.disc with proxies := [(1025, some (announceOf [0, 0, 0, 0, 4, 1]))] } }, 0,
      { payload := [0, 0, 0, 0, 4, 1] }, by decide, by decide, by decide⟩,
    ⟨(({ wB with run := .firmware, disc := { wB.disc with rateAt := some 0 } }).setReg (Key.PORT_STATE 0) 1).setReg (Key.PORT_STATE 1) 1,
      0, by decide, by decide, by decide⟩,
    ⟨(({ wB with run := .firmware }).setReg Key.COUPLER_ROLE 1).setReg (Key.PORT_ENABLE 3) 1, by decide, by decide⟩,
    ⟨{ wB with run := .firmware }, {}, by decide⟩⟩

/-- The hypotheses of `Obligations.TurnsAndPublication` can be met, clause by clause. -/
theorem witness_TurnsAndPublication :
    (∃ (s : State), s.fwOn = true) ∧
    (∃ (s : State) (n : Nat), s.fwOn = true ∧ s.role ≠ .standby ∧ s.station ≠ 0 ∧ s.ownWindow.isSome = true ∧
      s.img.turn = some n ∧ s.img.slotDone ≠ some n ∧ s.img.shed = false) ∧
    (∃ (s : State) (n : Nat), s.fwOn = true ∧ s.role ≠ .standby ∧ s.station ≠ 0 ∧ s.ownWindow.isSome = true ∧
      s.img.turn = some n ∧ s.img.slotDone ≠ some n ∧ s.img.shed = true) ∧
    (∃ (s : State) (at_ : Nat), s.logicOn = true ∧ s.img.rebuildDue = some at_) ∧
    (∃ (s : State) (a : Nat) (n : Nat), s.host.snap = some (a, n) ∧ n ≤ 64) ∧
    (∃ (s : State), s.logicOn = true) :=
  ⟨
    ⟨{ wB with run := .firmware }, by decide⟩,
    ⟨({ wB with run := .firmware, role := .active, img := { wB.img with wins := [{ key := wB.node, words := 1 }], turn := some 0, shed := false } }).setReg Key.ADDR_STATION 1,
      0, by decide, by decide, by decide, by decide, by decide, by decide, by decide⟩,
    ⟨({ wB with run := .firmware, role := .active, img := { wB.img with wins := [{ key := wB.node, words := 1 }], turn := some 0, shed := true } }).setReg Key.ADDR_STATION 1,
      0, by decide, by decide, by decide, by decide, by decide, by decide, by decide⟩,
    ⟨{ wB with run := .firmware, img := { wB.img with rebuildDue := some 0 } }, 0, by decide, by decide⟩,
    ⟨{ wB with run := .firmware, host := { wB.host with snap := some (0, 0) } }, 0, 0, by decide, by decide⟩,
    ⟨{ wB with run := .firmware }, by decide⟩⟩

/-- The hypotheses of `Obligations.ImageAndForces` can be met, clause by clause. -/
theorem witness_ImageAndForces :
    (∃ (s : State) (f : Fin 4) (fr : Frame) (tag : TagCheck) (w : Window) (rs : List (Nat × List Nat)), s.logicOn = true ∧
      beAt fr.payload 0 1 / 16 = 1 ∧ fr.tagged = false ∧ s.reg Key.IMG_IMAGE_AUTH = 0 ∧ s.windowOf fr.source = some w ∧
      readRuns (beAt fr.payload 1 1) (fr.payload.drop 3) = some rs ∧ w.turn = none) ∧
    (∃ (s : State) (fr : Frame) (tag : TagCheck) (rs : List (Nat × List Nat)), s.fwOn = true ∧ s.hub.mode = .operate ∧
      beAt fr.payload 0 1 / 16 = 1 ∧ readRuns (beAt fr.payload 1 1) (fr.payload.drop 4) = some rs ∧
      s.ftime.toNat ≠ s.applyAt s.turnNow) ∧
    (∃ (s : State), s.fwOn = true) ∧
    (∃ (s : State), s.fwOn = true ∧ s.hub.mode = .operate) ∧
    (∃ (s : State), s.fwOn = true ∧ s.isCoupler = true ∧ s.imports ≠ []) ∧
    (∃ (s : State) (fr : Frame), s.fwOn = true ∧ s.isCoupler = true) ∧
    (∃ (s : State) (fr : Frame), s.fwOn = true ∧ s.isCoupler = true) ∧
    (∃ (s : State) (w : Writer), s.fwOn = true ∧ Accepts s w Key.FORCE_COMMAND 1 ∧
      s.reg Key.FORCE_OFFSET < s.reg Key.WIN_PUB_WORDS) ∧
    (∃ (s : State) (w : Writer), s.fwOn = true ∧ Accepts s w Key.FORCE_COMMAND 2) ∧
    (∃ (s : State) (w : Writer), s.fwOn = true ∧ Accepts s w Key.FORCE_COMMAND 3) :=
  ⟨
    ⟨({ wB with run := .firmware, img := { wB.img with wins := [{}] }, disc := { wB.disc with announces := [(1, some {})] } }).setReg Key.IMG_IMAGE_AUTH 0,
      0, { payload := [16], source := 1 }, .absent, {}, [], by decide, by decide, by decide, by decide, by decide, by decide,
      by decide⟩,
    ⟨{ wB with run := .firmware, hub := { wB.hub with mode := .operate } }, { payload := [16] }, .absent, [], by decide,
      by decide, by decide, by decide, by decide⟩,
    ⟨{ wB with run := .firmware }, by decide⟩,
    ⟨{ wB with run := .firmware, hub := { wB.hub with mode := .operate } }, by decide, by decide⟩,
    ⟨((({ wB with run := .firmware }).setReg Key.COUPLER_ROLE 1).setReg (Key.PORT_ENABLE 3) 1).setReg (Key.IMPORTS_ENTRY 0) 5,
      by decide, by decide, by decide⟩,
    ⟨(({ wB with run := .firmware }).setReg Key.COUPLER_ROLE 1).setReg (Key.PORT_ENABLE 3) 1, {}, by decide, by decide⟩,
    ⟨(({ wB with run := .firmware }).setReg Key.COUPLER_ROLE 1).setReg (Key.PORT_ENABLE 3) 1, {}, by decide, by decide⟩,
    ⟨{ wB with run := .firmware }, wV, by decide, ⟨by decide, by decide⟩, by decide⟩,
    ⟨{ wB with run := .firmware }, wV, by decide, ⟨by decide, by decide⟩⟩,
    ⟨{ wB with run := .firmware }, wV, by decide, ⟨by decide, by decide⟩⟩⟩

/-- The hypotheses of `Obligations.FabricTime` can be met, clause by clause. -/
theorem witness_FabricTime :
    (∃ (s : State), s.logicOn = true ∧ s.time.listened = false) ∧
    (∃ (s : State) (at_ : Nat), s.time.extLostAt = some at_) ∧
    (∃ (s : State) (c : Cand), s.logicOn = true ∧ s.announcedCand = some c) ∧
    (∃ (s : State) (f : Fin 4) (fr : Frame), s.logicOn = true ∧ f.val ≠ 3) ∧
    (∃ (s : State) (serial : Nat) (c : Cand), s.logicOn = true ∧ s.time.cands = [(serial, some c)]) ∧
    (∃ (s : State), s.logicOn = true ∧ s.reg Key.TSTAT_TIME_STATE = 4) ∧
    (∃ (s : State) (f : Fin 4) (fr : Frame) (rx : Int), s.logicOn = true ∧ f.val ≠ 3 ∧
      beAt fr.payload 24 8 = s.reg Key.TSTAT_MASTER_SERIAL ∧ s.reg Key.TSTAT_TIME_STATE ≠ 4 ∧ s.reg Key.PERT_RUNNING = 0) ∧
    (∃ (s : State), s.logicOn = true ∧ s.reg Key.TSTAT_TIME_STATE = 2) ∧
    (∃ (s : State) (w : Writer), Accepts s w Key.TIME_STEP_ACCEPT 1) ∧
    (∃ (s : State) (w : Writer) (v : Nat), Accepts s w Key.TIME_SET_TIME v ∧ s.reg Key.TSTAT_TIME_STATE = 4 ∧
      s.time.ext = none) ∧
    (∃ (s : State), s.logicOn = true ∧ s.isCoupler = true ∧ s.up 3 = true ∧ s.reg Key.TSTAT_TIME_STATE = 4) :=
  ⟨
    ⟨{ wB with run := .firmware, time := { wB.time with listened := false } }, by decide, by decide⟩,
    ⟨{ wB with run := .firmware, time := { wB.time with extLostAt := some 0 } }, 0, by decide⟩,
    ⟨{ wB with run := .firmware, time := { wB.time with cands := [(wB.reg Key.ID_SERIAL, some {})] } }, {}, by decide,
      by decide⟩,
    ⟨{ wB with run := .firmware }, 0, {}, by decide, by decide⟩,
    ⟨{ wB with run := .firmware, time := { wB.time with cands := [(0, some {})] } }, 0, {}, by decide, by decide⟩,
    ⟨({ wB with run := .firmware }).setReg Key.TSTAT_TIME_STATE 4, by decide, by decide⟩,
    ⟨(({ wB with run := .firmware }).setReg Key.TSTAT_TIME_STATE 5).setReg Key.PERT_RUNNING 0, 0, {}, 0, by decide,
      by decide, by decide, by decide, by decide⟩,
    ⟨({ wB with run := .firmware }).setReg Key.TSTAT_TIME_STATE 2, by decide, by decide⟩,
    ⟨{ wB with run := .firmware }, wV, ⟨by decide, by decide⟩⟩,
    ⟨({ wB with run := .firmware, time := { wB.time with ext := none } }).setReg Key.TSTAT_TIME_STATE 4, wV, 0, ⟨by decide,
      by decide⟩, by decide, by decide⟩,
    ⟨(((({ wB with run := .firmware }).setReg Key.COUPLER_ROLE 1).setReg (Key.PORT_ENABLE 3) 1).setReg (Key.PORT_STATE 3) 4).setReg Key.TSTAT_TIME_STATE 4,
      by decide, by decide, by decide, by decide⟩⟩

/-- The hypotheses of `Obligations.PeerDelayAndPtp` can be met, clause by clause. -/
theorem witness_PeerDelayAndPtp :
    (∃ (s : State) (f : Fin 4), s.logicOn = true ∧ s.up f = true) ∧
    (∃ (s : State) (f : Fin 4) (fr : Frame) (rx : Int), s.logicOn = true ∧ s.up f = true ∧ f.val ≠ 2 ∧ (s.port f).now = none) ∧
    (∃ (s : State) (f : Fin 4) (fr : Frame) (rx : Int), s.logicOn = true ∧ (s.pd f).sentAt.isSome = true ∧
      beAt fr.payload 2 2 = (s.pd f).id) ∧
    (∃ (s : State) (f : Fin 4) (at_ : Nat), (s.pd f).sentAt = some at_) ∧
    (∃ (s : State) (e : Fin 8) (m : PtpMsg), s.logicOn = true ∧ s.ptpOn e = true ∧ m.portState ≠ 9 ∧ m.portState < 16) ∧
    (∃ (s : State) (e : Fin 8) (m : PtpMsg), s.logicOn = true ∧ s.ptpOn e = true ∧ m.portState = 9 ∧ s.slaveOk e = true ∧
      m.locked = false ∧ m.offset = none) ∧
    (∃ (s : State) (e : Fin 8) (kind : Fin 16), s.logicOn = true ∧ s.ptpOn e = true ∧ s.ptpState e = 6) ∧
    (∃ (s : State) (e : Fin 8), s.logicOn = true ∧ s.time.ext.isSome = true ∧ s.time.extPort = e.val) :=
  ⟨
    ⟨({ wB with run := .firmware }).setReg (Key.PORT_STATE 0) 4, 0, by decide, by decide⟩,
    ⟨(({ wB with run := .firmware }).setReg (Key.PORT_STATE 0) 4).setPort 0 { now := none }, 0, {}, 0, by decide, by decide,
      by decide, by decide⟩,
    ⟨({ wB with run := .firmware }).setPd 0 { sentAt := some 0 }, 0, {}, 0, by decide, by decide, by decide⟩,
    ⟨({ wB with run := .firmware }).setPd 0 { sentAt := some 0 }, 0, 0, by decide⟩,
    ⟨({ wB with run := .firmware }).setReg Key.PTP_PORT_MASK 255, 0, { portState := 3 }, by decide, by decide, by decide,
      by decide⟩,
    ⟨(({ wB with run := .firmware }).setReg Key.PTP_PORT_MASK 255).setReg Key.TSTAT_TIME_STATE 4, 0, {}, by decide,
      by decide, by decide, by decide, by decide, by decide⟩,
    ⟨(({ wB with run := .firmware }).setReg Key.PTP_PORT_MASK 255).setReg Key.PTP_PORT_STATES 6, 0, 0, by decide, by decide,
      by decide⟩,
    ⟨{ wB with run := .firmware, time := { wB.time with ext := some 0, extPort := 0 } }, 0, by decide, by decide, by decide⟩⟩

/-- The hypotheses of `Obligations.TimersAndCaptures` can be met, clause by clause. -/
theorem witness_TimersAndCaptures :
    (∃ (s : State) (w : Writer) (u : Fin 64) (r : Nat), Accepts s w (Key.TIMER_ARM_RECORD u) r ∧
      s.ftime + 50000 ≤ armStart r ∧ s.armBad r = false ∧ s.armConflict u r = false) ∧
    (∃ (s : State) (w : Writer) (u : Fin 64), Accepts s w (Key.TIMER_DISARM u) 1 ∧ s.reg (Key.TIMER_STATE u) ≠ 2) ∧
    (∃ (s : State) (w : Writer) (u : Fin 64), Accepts s w (Key.TIMER_DISARM u) 1 ∧ s.reg (Key.TIMER_STATE u) = 2) ∧
    (∃ (s : State) (u : Fin 64) (n : Nat), armPan (s.arm u) = some n ∧ s.reg (Key.TIMER_STATE u) = 1 ∧ s.logicOn = true) ∧
    (∃ (s : State) (u : Fin 64), s.logicOn = true ∧ s.reg (Key.TIMER_STATE u) = 1) ∧
    (∃ (s : State) (u : Fin 64) (at_ : Int), (s.timer u).pulseEnd = some at_) ∧
    (∃ (s : State) (x : Fin 64) (rising : Bool), s.logicOn = true ∧ (s.px x).level ≠ rising ∧ s.reg (Key.PX_MODE x) ≠ 0) ∧
    (∃ (s : State) (w : Writer) (n : Fin 16), Accepts s w (Key.CAP_FLUSH n) 1) :=
  ⟨
    ⟨{ wB with run := .firmware }, wV, 0, 0x3000 * 256 ^ 30 + 50000 * 256 ^ 20, ⟨by decide, by decide⟩, by decide, by decide,
      by decide⟩,
    ⟨({ wB with run := .firmware }).setReg (Key.TIMER_STATE 0) 3, wV, 0, ⟨by decide, by decide⟩, by decide⟩,
    ⟨({ wB with run := .firmware }).setReg (Key.TIMER_STATE 0) 2, wV, 0, ⟨by decide, by decide⟩, by decide⟩,
    ⟨(({ wB with run := .firmware }).setReg (Key.TIMER_STATE 0) 1).setReg (Key.TIMER_ARM_RECORD 0) (0x3000 * 256 ^ 30), 0, 0,
      by decide, by decide, by decide⟩,
    ⟨({ wB with run := .firmware }).setReg (Key.TIMER_STATE 0) 1, 0, by decide, by decide⟩,
    ⟨({ wB with run := .firmware }).setTimer 0 { pulseEnd := some 0 }, 0, 0, by decide⟩,
    ⟨({ wB with run := .firmware }).setReg (Key.PX_MODE 0) 1, 0, true, by decide, by decide, by decide⟩,
    ⟨{ wB with run := .firmware }, wV, 0, ⟨by decide, by decide⟩⟩⟩

/-- The hypotheses of `Obligations.Queues` can be met, clause by clause. -/
theorem witness_Queues :
    (∃ (s : State) (n : Fin 16) (q : Fin 25) (tag : Nat) (data : Nat), s.logicOn = true ∧ (s.queue n q).dropping = false ∧
      s.qFits n q { s.queue n q with writing := [] } ((s.queue n q).writing.length + 1) = true ∧
      (QItem.mk (tag % 256) (data % 2 ^ 64)).isEnd = false) ∧
    (∃ (s : State) (n : Fin 16) (q : Fin 25) (tag : Nat) (data : Nat), s.logicOn = true ∧ (s.queue n q).dropping = false ∧
      s.qFits n q { s.queue n q with writing := [] } ((s.queue n q).writing.length + 1) = false) ∧
    (∃ (s : State) (n : Fin 16) (q : Fin 25), s.logicOn = true ∧ (s.queue n q).lost ≠ 0 ∧ q.val ≠ 24 ∧
      s.qFits n q (s.queue n q) 1 = true) ∧
    (∃ (s : State) (n : Fin 16) (q : Fin 25) (i : QItem) (is : List QItem) (ps : List (List QItem)), s.logicOn = true ∧
      s.qConsumer n q = 1 ∧ s.compat = false ∧ s.qHeld n q = false ∧ (s.qFront n q).packets = (i :: is) :: ps) ∧
    (∃ (s : State) (n : Fin 16) (q : Fin 25) (v : Nat), s.logicOn = true ∧ s.qConsumer n q = 1 ∧ isTransmit q = true) ∧
    (∃ (s : State) (n : Fin 16) (q : Fin 25) (hi : Bool) (v : Nat), s.logicOn = true ∧ s.qConsumer n q ≠ 1) ∧
    (∃ (s : State) (n : Fin 16) (q : Fin 25) (tag : Nat), s.logicOn = true ∧ s.qConsumer n q = 1 ∧ isTransmit q = true) ∧
    (∃ (s : State) (n : Fin 16) (q : Fin 25) (i : QItem) (is : List QItem) (ps : List (List QItem)), s.logicOn = true ∧
      s.qConsumer n q = 1 ∧ s.compat = true ∧ s.qHeld n q = false ∧ (s.queue n q).packets = (i :: is) :: ps ∧
      itemsIn (s.qWidth n q) i ≤ (s.queue n q).lane + 1) ∧
    (∃ (s : State) (w : Writer) (n : Fin 16) (q : Fin 25), Accepts s w (Key.PQX_QCOMMAND n q) 1 ∧ (s.queue n q).packets ≠ []) ∧
    (∃ (s : State) (n : Fin 16) (q : Fin 25), (s.queue n q).flushing = true) ∧
    (∃ (s : State) (w : Writer) (n : Fin 16) (q : Fin 25), Accepts s w (Key.PQX_QCOMMAND n q) 2 ∧
      (s.queue n q).reading = true) ∧
    (∃ (s : State) (w : Writer) (n : Fin 16) (q : Fin 25) (v : Nat), Accepts s w (Key.PQ_QCONFIG n q) v ∧
      qConfigCheck n q v s = none ∧ v % 512 ≠ s.qConfig n q % 512) :=
  ⟨
    ⟨({ wB with run := .firmware }).setQueue 0 0 { dropping := false }, 0, 0, 0, 0, by decide, by decide, by decide,
      by decide⟩,
    ⟨(({ wB with run := .firmware }).setQueue 0 0 { dropping := false }).setReg (Key.PQ_QCONFIG 0 0) 0, 0, 0, 0, 0,
      by decide, by decide, by decide⟩,
    ⟨({ wB with run := .firmware }).setQueue 0 0 { lost := 1 }, 0, 0, by decide, by decide, by decide, by decide⟩,
    ⟨(({ wB with run := .firmware }).setReg (Key.PQ_QCONFIG 0 0) 0x1001).setQueue 0 0 { packets := [[⟨0, 0⟩]] }, 0, 0, ⟨0,
      0⟩, [], [], by decide, by decide, by decide, by decide, by decide⟩,
    ⟨({ wB with run := .firmware }).setReg (Key.PQ_QCONFIG 0 2) 0x1001, 0, 2, 0, by decide, by decide, by decide⟩,
    ⟨{ wB with run := .firmware }, 0, 0, true, 0, by decide, by decide⟩,
    ⟨({ wB with run := .firmware }).setReg (Key.PQ_QCONFIG 0 2) 0x1001, 0, 2, 0, by decide, by decide, by decide⟩,
    ⟨(((({ wB with run := .firmware }).setReg Key.COMPAT_EFFECTIVE 1).setQueue 0 0 { packets := (⟨0, 0⟩ :: []) :: [] }).setReg (Key.PQ_QCONFIG 0 0) 0x1001).setQueue 0 0 { packets := [[⟨0, 0⟩]], lane := 7 },
      0, 0, ⟨0, 0⟩, [], [], by decide, by decide, by decide, by decide, by decide, by decide⟩,
    ⟨({ wB with run := .firmware }).setQueue 0 0 { packets := [[⟨0, 0⟩]] }, wV, 0, 0, ⟨by decide, by decide⟩, by decide⟩,
    ⟨({ wB with run := .firmware }).setQueue 0 0 { flushing := true }, 0, 0, by decide⟩,
    ⟨({ wB with run := .firmware }).setQueue 0 0 { reading := true }, wV, 0, 0, ⟨by decide, by decide⟩, by decide⟩,
    ⟨{ wB with run := .firmware }, wV, 0, 0, 0, ⟨by decide, by decide⟩, by decide, by decide⟩⟩

/-- The hypotheses of `Obligations.LineInputs` can be met, clause by clause. -/
theorem witness_LineInputs :
    (∃ (s : State) (w : Writer) (i : Fin 256) (v : Nat), Accepts s w (Key.DL_MODE i) v ∧
      s.budgetCheck (Key.DL_MODE i) v = none ∧ s.loadCheck i (Key.DL_MODE i) v = none) ∧
    (∃ (s : State) (i : Fin 256) (level : Bool), s.field.powered = true ∧ (s.line i).raw ≠ level) ∧
    (∃ (s : State) (i : Fin 256), s.field.powered = true ∧ (s.lineMode i = 1 ∨ s.lineMode i = 2) ∧
      (s.line i).raw ≠ (s.line i).accepted) ∧
    (∃ (s : State) (i : Fin 256) (ps : Nat), s.field.powered = true ∧ s.logicOn = true) ∧
    (∃ (s : State) (i : Fin 256) (rising : Bool), s.field.powered = true ∧ s.lineMode i = 3 ∧ (s.line i).accepted ≠ rising) ∧
    (∃ (s : State) (n : Fin 16) (j : Fin 16), s.logicOn = true ∧ s.hub.mode = .operate ∧ s.lineMode (16 * n + j) = 3 ∧
      s.pubBound (Key.DL_COUNT (16 * n + j)) = true) :=
  ⟨
    ⟨{ wB with run := .firmware }, wV, 0, 0, ⟨by decide, by decide⟩, by decide, by decide⟩,
    ⟨{ wB with run := .firmware, field := { wB.field with powered := true } }, 0, true, by decide, by decide⟩,
    ⟨(({ wB with run := .firmware, field := { wB.field with powered := true } }).setReg (Key.DL_MODE 0) 1).setLine 0 { raw := true },
      0, by decide, by decide, by decide⟩,
    ⟨{ wB with run := .firmware, field := { wB.field with powered := true } }, 0, 0, by decide, by decide⟩,
    ⟨({ wB with run := .firmware, field := { wB.field with powered := true } }).setReg (Key.DL_MODE 0) 3, 0, true, by decide,
      by decide, by decide⟩,
    ⟨(({ wB with run := .firmware, hub := { wB.hub with mode := .operate } }).setReg (Key.DL_MODE (16 * 0 + 0)) 3).setReg 0x20201 (Key.DL_COUNT 0 / 256 * 2 ^ 52 + Key.DL_COUNT 0 % 256 * 2 ^ 44 + 1),
      0, 0, by decide, by decide, by decide, by decide⟩⟩

/-- The hypotheses of `Obligations.LineOutputs` can be met, clause by clause. -/
theorem witness_LineOutputs :
    (∃ (s : State) (i : Fin 256), s.lineMode i = 4 ∧ s.lineBall i = some true) ∧
    (∃ (s : State) (i : Fin 256), s.lineOut i = true ∧ s.field.powered = true ∧ (s.line i).off = false) ∧
    (∃ (s : State) (n : Fin 16) (currents : List Nat),
      1000 < ((((List.range 16).filter (fun j => s.lineOut (16 * n + j) && s.lineBall (16 * n + j) == some true)).map (fun j => (16 * n.val + j,
      currents.getD j 0))).map (·.2)).foldl (· + ·) 0) ∧
    (∃ (s : State) (i : Fin 256), (s.line i).off = true ∧ bitOf (s.line i).status 6 = false ∧ (s.line i).hot = false) ∧
    (∃ (s : State) (i : Fin 320), i.val < 256 ∧ s.lineOut i = true ∧ s.lineBall i = some true) ∧
    (∃ (s : State) (i : Fin 320), i.val < 256 ∧ (s.line i).off = true ∧ bitOf (s.line i).status 6 = false ∧
      (s.line i).hot = true) ∧
    (∃ (s : State) (w : Writer) (i : Fin 256), Accepts s w (Key.DL_CLEAR i) 1 ∧ bitOf (s.line i).status 6 = true) ∧
    (∃ (s : State) (i : Fin 256), s.wireApplies i = true ∧ (s.line i).hits ≠ 0) ∧
    (∃ (s : State) (i : Fin 256), s.lineMode i = 4 ∧ s.lineBall i = some true ∧ s.lineMine i = true) ∧
    (∃ (s : State) (i : Fin 256), s.lineMode i = 4 ∧ s.lineBall i = some false ∧ s.lineMine i = true) ∧
    (∃ (s : State) (i : Fin 256) (b : Fin 16), (b.val = 0 ∨ b.val = 1 ∨ b.val = 5) ∧ bitOf (s.line i).status b = true) ∧
    (∃ (s : State) (w : Writer) (i : Fin 256) (v : Nat), Accepts s w (Key.DL_COMMAND i) v ∧ commandQuality v = none ∧
      s.lineMapped i = false ∧ s.lineTimed i = false ∧ s.whiskOwns (i / 16) 2 (i % 16) = false) ∧
    (∃ (s : State) (w : Writer) (n : Fin 16) (v : Nat), Accepts s w (Key.PANDL_OUT_PACKED n) v ∧ commandQuality v = none ∧
      s.subBound (Key.PANDL_OUT_PACKED n) = false) :=
  ⟨
    ⟨(({ wB with run := .firmware, field := wF, hub := { wB.hub with mode := .operate } }).setReg (Key.DL_MODE 0) 4).setLine 0 { cmd := true },
      0, by decide, by decide⟩,
    ⟨(({ wB with run := .firmware, field := { wB.field with powered := true } }).setLine 0 { off := false }).setReg (Key.DL_MODE 0) 4,
      0, by decide, by decide, by decide⟩,
    ⟨(({ wB with run := .firmware, field := wF, hub := { wB.hub with mode := .operate } }).setReg (Key.DL_MODE 0) 4).setLine 0 { cmd := true },
      0, [1001], by decide⟩,
    ⟨({ wB with run := .firmware }).setLine 0 { off := true, hot := false }, 0, by decide, by decide, by decide⟩,
    ⟨(({ wB with run := .firmware, field := wF, hub := { wB.hub with mode := .operate } }).setReg (Key.DL_MODE 0) 4).setLine 0 { cmd := true },
      0, by decide, by decide, by decide⟩,
    ⟨({ wB with run := .firmware }).setLine 0 { off := true, hot := true }, 0, by decide, by decide, by decide, by decide⟩,
    ⟨({ wB with run := .firmware }).setLine 0 { status := 64 }, wV, 0, ⟨by decide, by decide⟩, by decide⟩,
    ⟨((({ wB with run := .firmware }).setReg (Key.DL_MODE 0) 1).setReg (Key.DL_WIRE_CHECK 0) 1).setLine 0 { hits := 1 }, 0,
      by decide, by decide⟩,
    ⟨(({ wB with run := .firmware, field := wF, hub := { wB.hub with mode := .operate } }).setReg (Key.DL_MODE 0) 4).setLine 0 { cmd := true },
      0, by decide, by decide, by decide⟩,
    ⟨({ wB with run := .firmware, field := wF }).setReg (Key.DL_MODE 0) 4, 0, by decide, by decide, by decide⟩,
    ⟨({ wB with run := .firmware }).setLine 0 { status := 1 }, 0, 0, by decide, by decide⟩,
    ⟨{ wB with run := .firmware }, wV, 0, 0, ⟨by decide, by decide⟩, by decide, by decide, by decide, by decide⟩,
    ⟨{ wB with run := .firmware }, wV, 0, 0, ⟨by decide, by decide⟩, by decide, by decide⟩⟩

/-- The hypotheses of `Obligations.Pans` can be met, clause by clause. -/
theorem witness_Pans :
    (∃ (s : State) (n : Fin 16), s.logicOn = true ∧ s.panActive n = true ∧ s.panHold450 n = 0) ∧
    (∃ (s : State) (n : Fin 16), s.logicOn = true ∧ s.reg (Key.PAN_STATE n) = 1 ∧ (s.pan n).waking = none ∧
      s.panHold450 n = 0 ∧ s.panHold451 n = false) ∧
    (∃ (s : State) (n : Fin 16), s.logicOn = true ∧ s.panActive n = false ∧ (s.pan n).waking = none) ∧
    (∃ (s : State) (n : Fin 16) (at_ : Nat), s.logicOn = true ∧ (s.pan n).waking = some at_) :=
  ⟨
    ⟨{ wB with run := .firmware }, 0, by decide, by decide, by decide⟩,
    ⟨(({ wB with run := .firmware }).setReg (Key.PAN_STATE 0) 1).setPan 0 { waking := none }, 0, by decide, by decide,
      by decide, by decide, by decide⟩,
    ⟨(({ wB with run := .firmware }).setPan 0 { waking := none }).setReg (Key.PAN_STATE 0) 1, 0, by decide, by decide,
      by decide⟩,
    ⟨({ wB with run := .firmware }).setPan 0 { waking := some 0 }, 0, 0, by decide, by decide⟩⟩

/-- The hypotheses of `Obligations.BranchFuses` can be met, clause by clause. -/
theorem witness_BranchFuses :
    (∃ (s : State) (b : Fin 64), ((s.fuseSync b).fuseOn b = true ∨ (s.fuseSync b).reg (Key.BR_STATE b) = 7)) ∧
    (∃ (s : State) (b : Fin 64), (s.fuseSync b).fuseOn b = true) ∧
    (∃ (s : State) (b : Fin 64), (s.fuseSync b).reg (Key.BR_STATE b) = 2) ∧
    (∃ (s : State) (b : Fin 64), (s.fuseSync b).reg (Key.BR_STATE b) = 3) ∧
    (∃ (s : State) (b : Fin 64), (s.fuseSync b).fuseOn b = true ∧ s.sharedIn (Key.BR_SHARED b) = true ∧ s.holdsClaim = true) ∧
    (∃ (s : State) (b : Fin 64), (s.fuseSync b).reg (Key.BR_STATE b) = 2) ∧
    (∃ (s : State) (b : Fin 64), (s.fuse b).hold = 4 ∧ (s.fuse b).hot = false) ∧
    (∃ (s : State) (b : Fin 64), (s.fuse b).hot = true) ∧
    (∃ (s : State) (b : Fin 64), (s.fuseSync b).reg (Key.BR_STATE b) = 3) ∧
    (∃ (s : State) (w : Writer) (b : Fin 64), Accepts s w (Key.BR_CLEAR b) 1 ∧ ((s.fuse b).hold = 5 ∨ (s.fuse b).hold = 6)) ∧
    (∃ (s : State) (w : Writer) (b : Fin 64) (v : Nat), Accepts s w (Key.BR_ENABLE b) v ∧
      s.budgetCheck (Key.BR_ENABLE b) v = none) ∧
    (∃ (s : State) (w : Writer) (b : Fin 64) (v : Nat), Accepts s w (Key.BR_COMMAND b) v ∧ commandQuality v = none ∧
      s.subBound (Key.BR_COMMAND b) = false) :=
  ⟨
    ⟨({ wB with field := wF }.setReg (Key.BR_ENABLE 0) 1).setReg (Key.BR_STATE 0) 2, 0, by decide⟩,
    ⟨({ wB with field := wF }.setReg (Key.BR_ENABLE 0) 1).setReg (Key.BR_STATE 0) 2, 0, by decide⟩,
    ⟨({ wB with field := wF }.setReg (Key.BR_ENABLE 0) 1).setReg (Key.BR_STATE 0) 2, 0, by decide⟩,
    ⟨({ wB with field := wF }.setReg (Key.BR_ENABLE 0) 1).setReg (Key.BR_STATE 0) 3, 0, by decide⟩,
    ⟨(({ wB with role := .active, field := { wF with row := 2 } }.setReg (Key.BR_ENABLE 0) 1).setReg (Key.BR_STATE 0) 2).setReg (Key.BR_SHARED 0) 1,
      0, by decide, by decide, by decide⟩,
    ⟨({ wB with field := wF }.setReg (Key.BR_ENABLE 0) 1).setReg (Key.BR_STATE 0) 2, 0, by decide⟩,
    ⟨({ wB with run := .firmware }).setFuse 0 { hold := 4, hot := false }, 0, by decide, by decide⟩,
    ⟨({ wB with run := .firmware }).setFuse 0 { hot := true }, 0, by decide⟩,
    ⟨({ wB with field := wF }.setReg (Key.BR_ENABLE 0) 1).setReg (Key.BR_STATE 0) 3, 0, by decide⟩,
    ⟨({ wB with run := .firmware }).setFuse 0 { hold := 5 }, wV, 0, ⟨by decide, by decide⟩, by decide⟩,
    ⟨{ wB with run := .firmware }, wV, 0, 0, ⟨by decide, by decide⟩, by decide⟩,
    ⟨{ wB with run := .firmware }, wV, 0, 0, ⟨by decide, by decide⟩, by decide, by decide⟩⟩

/-- The hypotheses of `Obligations.CanChannels` can be met, clause by clause. -/
theorem witness_CanChannels :
    (∃ (s : State) (w : Writer) (c : Fin 32), Accepts s w (Key.CAN_ENABLE c) 1 ∧ s.canTimingOk c = true ∧ ((∀ i, i < 3 →
      s.qDepth (canPan c) (canQ c + i) ≠ 0)) ∧ s.budgetCheck (Key.CAN_ENABLE c) 1 = none ∧ s.flag (Key.CAN_ENABLE c) = false) ∧
    (∃ (s : State) (w : Writer) (c : Fin 32), Accepts s w (Key.CAN_ENABLE c) 0) ∧
    (∃ (s : State) (c : Fin 32) (ago : Nat) (fr : CanFrame), s.canOnBus c = true ∧ ¬ (fr.fdf = true ∧
      s.reg (Key.CAN_FD_MODE c) = 0)) ∧
    (∃ (s : State) (c : Fin 32) (add : Nat), s.canOnBus c = true) ∧
    (∃ (s : State) (c : Nat) (m : Nat) (f : MbFrame), bitOf (s.reg (Key.CAN_MB_HOLD c)) m = false) ∧
    (∃ (s : State) (c : Nat) (m : Nat) (f : MbFrame), bitOf (s.reg (Key.CAN_MB_HOLD c)) m = true) ∧
    (∃ (s : State) (w : Writer) (c : Fin 32) (m : Fin 16) (v : Nat), Accepts s w (Key.CAN_MB_CFG c m) v ∧ bitOf v 31 = false) ∧
    (∃ (s : State) (w : Writer) (c : Fin 32) (v : Nat), Accepts s w (Key.CAN_MB_HOLD c) v) ∧
    (∃ (s : State) (p : Path) (c : Fin 32) (m : Fin 16), s.inRecovery = false) ∧
    (∃ (s : State) (c : Fin 32) (p : List QItem), s.canMayStart c = true ∧ s.qPeek (canPan c) (canQ c + 2) = some p ∧
      s.canBadFormat c p = true) ∧
    (∃ (s : State) (c : Fin 32) (p : List QItem), s.canMayStart c = true ∧ s.qPeek (canPan c) (canQ c + 2) = some p ∧
      s.canBadFormat c p = false ∧ s.handInstant = none) ∧
    (∃ (s : State) (c : Fin 32) (p : List QItem) (sof : Int) (d : Nat), (s.can c).sending = some (p, sof) ∧
      (s.pertNth 8 c).1 = false ∧ s.reg (Key.CAN_TDC_MODE c) ≠ 1) ∧
    (∃ (s : State) (c : Fin 32) (p : List QItem) (sof : Int), (s.can c).sending = some (p, sof) ∧ (s.pertNth 8 c).1 = false) ∧
    (∃ (s : State) (c : Fin 32) (p : List QItem) (sof : Int) (quiet : Bool), (s.can c).sending = some (p, sof) ∧
      (s.pertNth 8 c).1 = false) ∧
    (∃ (s : State) (w : Writer) (c : Fin 32), Accepts s w (Key.CAN_CONTROL c) 1 ∧ s.reg (Key.CAN_ERROR_STATE c) = 2) ∧
    (∃ (s : State) (c : Fin 32), s.reg (Key.CAN_ERROR_STATE c) = 2 ∧ (s.can c).recovering = true) ∧
    (∃ (s : State) (w : Writer) (c : Fin 32), Accepts s w (Key.CAN_CONTROL c) 2) ∧
    (∃ (s : State) (c : Fin 32), s.flag (Key.CAN_ENABLE c) = true ∧ s.logicOn = true) ∧
    (∃ (s : State) (c : Fin 32), (s.can c).joining = true ∧ s.logicOn = true) :=
  ⟨
    ⟨({ wB with run := .firmware }).setReg (Key.CAN_ENABLE 0) 0, wV, 0, ⟨by decide, by decide⟩, by decide, by decide,
      by decide, by decide⟩,
    ⟨{ wB with run := .firmware }, wV, 0, ⟨by decide, by decide⟩⟩,
    ⟨({ wB with run := .firmware }).setReg (Key.CAN_ENABLE 0) 1, 0, 0, {}, by decide, by decide⟩,
    ⟨({ wB with run := .firmware }).setReg (Key.CAN_ENABLE 0) 1, 0, 0, by decide⟩,
    ⟨{ wB with run := .firmware }, 0, 0, {}, by decide⟩,
    ⟨({ wB with run := .firmware }).setReg (Key.CAN_MB_HOLD 0) 1, 0, 0, {}, by decide⟩,
    ⟨{ wB with run := .firmware }, wV, 0, 0, 0, ⟨by decide, by decide⟩, by decide⟩,
    ⟨{ wB with run := .firmware }, wV, 0, 0, ⟨by decide, by decide⟩⟩,
    ⟨{ wB with run := .firmware }, .mailbox, 0, 0, by decide⟩,
    ⟨((({ wB with run := .firmware, handInstant := none }).setReg (Key.CAN_ERROR_STATE 0) 0).setReg (Key.CAN_ENABLE 0) 1).setQueue 0 2 { packets := [[⟨64, 1 <<< 28⟩]] },
      0, [⟨64, 1 <<< 28⟩], by decide, by decide, by decide⟩,
    ⟨((({ wB with run := .firmware, handInstant := none }).setReg (Key.CAN_ERROR_STATE 0) 0).setReg (Key.CAN_ENABLE 0) 1).setQueue 0 2 { packets := [[⟨64, 0⟩]] },
      0, [⟨64, 0⟩], by decide, by decide, by decide, by decide⟩,
    ⟨(({ wB with run := .firmware }).setReg (Key.CAN_TDC_MODE 0) 2).setCan 0 { sending := some ([], 0) }, 0, [], 0, 0,
      by decide, by decide, by decide⟩,
    ⟨({ wB with run := .firmware }).setCan 0 { sending := some ([], 0) }, 0, [], 0, by decide, by decide⟩,
    ⟨({ wB with run := .firmware }).setCan 0 { sending := some ([], 0) }, 0, [], 0, true, by decide, by decide⟩,
    ⟨({ wB with run := .firmware }).setReg (Key.CAN_ERROR_STATE 0) 2, wV, 0, ⟨by decide, by decide⟩, by decide⟩,
    ⟨(({ wB with run := .firmware }).setReg (Key.CAN_ERROR_STATE 0) 2).setCan 0 { recovering := true }, 0, by decide,
      by decide⟩,
    ⟨{ wB with run := .firmware }, wV, 0, ⟨by decide, by decide⟩⟩,
    ⟨({ wB with run := .firmware }).setReg (Key.CAN_ENABLE 0) 1, 0, by decide, by decide⟩,
    ⟨({ wB with run := .firmware }).setCan 0 { joining := true }, 0, by decide, by decide⟩⟩

/-- The hypotheses of `Obligations.Rs485` can be met, clause by clause. -/
theorem witness_Rs485 :
    (∃ (s : State) (w : Writer) (c : Fin 48), Accepts s w (Key.RS_ENABLE c) 1 ∧ s.rsEnableCheck c = none ∧
      s.flag (Key.RS_ENABLE c) = false) ∧
    (∃ (s : State) (w : Writer) (c : Fin 48), Accepts s w (Key.RS_ENABLE c) 0) ∧
    (∃ (s : State) (c : Fin 48) (ch : RsChar), s.rsServes c = some c.val ∧ s.rsOn c = true ∧ s.bridgeOf c = none ∧
      (s.rs c).tx = none ∧ s.rsClosesWith c (s.rsAppend c ch) (ch.value % 2 ^ s.reg (Key.RS_DATA_BITS c)) = none) ∧
    (∃ (s : State) (c : Fin 48) (ch : RsChar) (k : Nat), s.rsServes c = some c.val ∧ s.rsOn c = true ∧ s.bridgeOf c = none ∧
      (s.rs c).tx = none ∧ s.rsClosesWith c (s.rsAppend c ch) (ch.value % 2 ^ s.reg (Key.RS_DATA_BITS c)) = some k) ∧
    (∃ (s : State) (c : Fin 48) (r : RsRx), s.rsOn c = true ∧ s.reg (Key.RS_GAP_HALF c) ≠ 0 ∧ (s.rs c).rx = some r ∧
      s.bridgeOf c = none) ∧
    (∃ (s : State) (c : Fin 48) (ago : Nat), s.rsServes c = some c.val ∧ s.rsOn c = true ∧ s.bridgeOf c = none) ∧
    (∃ (s : State) (s' : State) (c : Fin 48) (p : List QItem), s.rsOn c = true ∧ s.rsPartner c = false ∧ s.rsMine c = true ∧
      (s.rs c).tx = none ∧ (s.rs c).joinAt = none ∧ s.bridgeOf c = none ∧ (s.rs c).brk = false ∧
      s.qTake (rsPan c) (rsQ c + 1) = some (p, s')) ∧
    (∃ (s : State) (c : Fin 48) (x : RsTx), (s.rs c).tx = some x ∧ x.stop = none) ∧
    (∃ (s : State) (c : Fin 48) (x : RsTx) (thermal : Bool), (s.rs c).tx = some x ∧ x.stop = none) ∧
    (∃ (s : State) (c : Fin 48) (a : Nat), (s.rs c).joinAt = some a ∧ s.rsOn c = true) ∧
    (∃ (s : State) (c : Fin 48), s.rsOn c = true ∧ s.reg (Key.PAN_STATE (rsPan c)) = 1) :=
  ⟨
    ⟨({ wB with run := .firmware }).setReg (Key.RS_ENABLE 0) 0, wV, 0, ⟨by decide, by decide⟩, by decide, by decide⟩,
    ⟨{ wB with run := .firmware }, wV, 0, ⟨by decide, by decide⟩⟩,
    ⟨(({ wB with run := .firmware }).setReg (Key.RS_ENABLE 0) 1).setRs 0 { tx := none }, 0, {}, by decide, by decide,
      by decide, by decide, by decide⟩,
    ⟨((({ wB with run := .firmware }).setReg (Key.RS_ENABLE 0) 1).setRs 0 { tx := none }).setReg (Key.RS_MAX_LEN 0) 1, 0,
      { value := 10 }, 4, by decide, by decide, by decide, by decide, by decide⟩,
    ⟨((({ wB with run := .firmware }).setReg (Key.RS_ENABLE 0) 1).setReg (Key.RS_GAP_HALF 0) 1).setRs 0 { rx := some {} }, 0,
      {}, by decide, by decide, by decide, by decide⟩,
    ⟨({ wB with run := .firmware }).setReg (Key.RS_ENABLE 0) 1, 0, 0, by decide, by decide, by decide⟩,
    ⟨((({ wB with run := .firmware }).setReg (Key.RS_ENABLE 0) 1).setRs 0 { tx := none, joinAt := none, brk := false }).setQueue 0 7 { packets := [[⟨64, 0⟩]] },
      _, 0, [⟨64, 0⟩], by decide, by decide, by decide, by decide, by decide, by decide, by decide, rfl⟩,
    ⟨({ wB with run := .firmware }).setRs 0 { tx := some {} }, 0, {}, by decide, by decide⟩,
    ⟨({ wB with run := .firmware }).setRs 0 { tx := some {} }, 0, {}, true, by decide, by decide⟩,
    ⟨(({ wB with run := .firmware }).setReg (Key.RS_ENABLE 0) 1).setRs 0 { joinAt := some 0 }, 0, 0, by decide, by decide⟩,
    ⟨(({ wB with run := .firmware }).setReg (Key.RS_ENABLE 0) 1).setReg (Key.PAN_STATE (rsPan 0)) 1, 0, by decide, by decide⟩⟩

/-- The hypotheses of `Obligations.IoLinkPorts` can be met, clause by clause. -/
theorem witness_IoLinkPorts :
    (∃ (s : State) (w : Writer) (p : Fin 64) (v : Nat), Accepts s w (Key.IOL_MODE p) v ∧
      s.budgetCheck (Key.IOL_MODE p) v = none ∧ s.reg (Key.IOL_MODE p) ≠ 0) ∧
    (∃ (s : State) (w : Writer) (p : Fin 64), Accepts s w (Key.IOL_PORT_CMD p) 1) ∧
    (∃ (s : State) (p : Fin 64), (s.lpSync p).reg (Key.LP_STATE p) = 2 ∧ ((s.lpSync p).iol p).st = 1 ∧
      ((s.lpSync p).iol p).waits = false ∧ ((s.lpSync p).iol p).slotEnds = none) ∧
    (∃ (s : State) (p : Nat), s.logicOn = true ∧ s.slotPort = some p ∧ s.slotsUsed.length < 4) ∧
    (∃ (s : State) (p : Fin 64) (d : IolDevice), (s.iolMode p = 1 ∨ s.iolMode p = 2) ∧
      ((s.iol p).st = 1 ∨ (s.iol p).st = 6) ∧ (s.iol p).slotEnds.isSome = true ∧ s.iolMode p = 2 ∧
      s.reg (Key.IOL_DS_MODE p) = 0) ∧
    (∃ (s : State) (p : Fin 64), (s.iol p).st = 3 ∧ s.iolMode p ≠ 0 ∧ s.reg (Key.IOL_CYCLE_ACTUAL p) ≠ 0 ∧
      (s.iol p).awaiting = false ∧ s.iolSafe p = false) ∧
    (∃ (s : State) (p : Fin 64) (pd : List Byte) (valid : Bool), (s.iol p).awaiting = true ∧ (s.pertNth 9 p).1 = false) ∧
    (∃ (s : State) (p : Fin 64) (pd : List Byte) (valid : Bool), (s.iol p).awaiting = true ∧ (s.pertNth 9 p).1 = false) ∧
    (∃ (s : State) (p : Fin 64), (s.iol p).awaiting = true) ∧
    (∃ (s : State) (p : Fin 64), (s.iol p).st = 3 ∧ s.reg (Key.PAN_STATE (iolPan p)) = 1 ∧
      s.reg (Key.IOL_CYCLE_ACTUAL p) ≠ 0) ∧
    (∃ (s : State) (p : Fin 64) (level : Bool), s.iolMode p = 3 ∧ s.field.powered = true ∧ (s.iol p).raw ≠ level) ∧
    (∃ (s : State) (p : Fin 64), s.iolMode p ≠ 0 ∧ s.iolMode p ≠ 3) :=
  ⟨
    ⟨({ wB with run := .firmware }).setReg (Key.IOL_MODE 0) 1, wV, 0, 0, ⟨by decide, by decide⟩, by decide, by decide⟩,
    ⟨{ wB with run := .firmware }, wV, 0, ⟨by decide, by decide⟩⟩,
    ⟨((({ wB with field := wF }).setReg (Key.LP_MODE 0) 1).setReg (Key.LP_STATE 0) 2).setIol 0 { st := 1 }, 0, by decide,
      by decide, by decide, by decide⟩,
    ⟨({ wB with run := .firmware }).setIol 0 { waits := true }, 0, by decide, by decide, by decide⟩,
    ⟨((({ wB with run := .firmware }).setReg (Key.IOL_DS_MODE 0) 0).setReg (Key.IOL_MODE 0) 2).setIol 0 { st := 1, slotEnds := some 0 },
      0, {}, by decide, by decide, by decide, by decide, by decide⟩,
    ⟨((({ wB with run := .firmware, hub := { wB.hub with mode := .operate } }).setReg (Key.IOL_CYCLE_ACTUAL 0) 1).setIol 0 { st := 3, awaiting := false }).setReg (Key.IOL_MODE 0) 1,
      0, by decide, by decide, by decide, by decide, by decide⟩,
    ⟨({ wB with run := .firmware }).setIol 0 { awaiting := true }, 0, [], true, by decide, by decide⟩,
    ⟨({ wB with run := .firmware }).setIol 0 { awaiting := true }, 0, [], true, by decide, by decide⟩,
    ⟨({ wB with run := .firmware }).setIol 0 { awaiting := true }, 0, by decide⟩,
    ⟨((({ wB with run := .firmware }).setReg (Key.PAN_STATE (iolPan 0)) 1).setReg (Key.IOL_CYCLE_ACTUAL 0) 1).setIol 0 { st := 3 },
      0, by decide, by decide, by decide⟩,
    ⟨({ wB with run := .firmware, field := { wB.field with powered := true } }).setReg (Key.IOL_MODE 0) 3, 0, true,
      by decide, by decide, by decide⟩,
    ⟨({ wB with run := .firmware }).setReg (Key.IOL_MODE 0) 1, 0, by decide, by decide⟩⟩

/-- The hypotheses of `Obligations.IoLinkServices` can be met, clause by clause. -/
theorem witness_IoLinkServices :
    (∃ (s : State) (w : Writer) (p : Fin 64) (data : List Byte), Accepts s w (Key.IOL_ISDU_REQUEST p) 0 ∧
      (s.iol p).isdu = none ∧ (beAt data 0 1 = 1 ∨ beAt data 0 1 = 2) ∧ beAt data 4 2 ≤ 232 ∧ data.length ≤ 238 ∧
      s.iolTalks p = true) ∧
    (∃ (s : State) (s' : State) (p : Fin 64) (pk : List QItem), (s.iol p).isdu = none ∧ s.logicOn = true ∧ s.iolMode p ≠ 0 ∧
      s.role ≠ .standby ∧ s.qTake (iolPan p) (iolQ p + 1) = some (pk, s') ∧ fld (headWord pk) 63 56 = 1 ∧
      fld (headWord pk) 31 16 ≤ 232 ∧ s'.iolTalks p = true) ∧
    (∃ (s : State) (p : Fin 64) (i : IsduSt) (data : List Byte), (s.iol p).isdu = some i ∧ i.tag = none) ∧
    (∃ (s : State) (p : Fin 64) (i : IsduSt) (e : Nat) (data : List Byte), (s.iol p).isdu = some i ∧ i.tag = none ∧ e ≠ 0) ∧
    (∃ (s : State) (p : Fin 64) (i : IsduSt), (s.iol p).isdu = some i ∧ i.tag = none) ∧
    (∃ (s : State) (p : Fin 64) (q : Nat) (c : Nat), s.iolTalks p = true ∧ (s.iol p).event = none ∧
      s.qRoom (iolPan p) (iolQ p) 2 = true) ∧
    (∃ (s : State) (p : Fin 64) (q : Nat) (c : Nat), s.iolTalks p = true ∧ (s.iol p).event = none ∧
      s.qRoom (iolPan p) (iolQ p) 2 = false) ∧
    (∃ (s : State) (p : Fin 64) (q : Nat) (c : Nat), (s.iol p).event = some (q, c) ∧ s.qRoom (iolPan p) (iolQ p) 2 = true) ∧
    (∃ (s : State) (w : Writer) (p : Fin 64), Accepts s w (Key.IOL_PORT_CMD p) 2 ∧ s.reg (Key.IOL_DS_MODE p) = 1 ∧
      s.iolTalks p = true) ∧
    (∃ (s : State) (w : Writer) (p : Fin 64), Accepts s w (Key.IOL_PORT_CMD p) 3) ∧
    (∃ (s : State) (p : Fin 64), s.reg (Key.IOL_DS_MODE p) = 1 ∧ s.iolTalks p = true) ∧
    (∃ (s : State) (p : Fin 64) (data : List Byte), s.reg (Key.IOL_DS_STATE p) = 2) ∧
    (∃ (s : State) (p : Fin 64), (s.lpSync p).lpOn p = true) ∧
    (∃ (s : State) (p : Fin 64), (s.lpSync p).lpOn p = true) ∧
    (∃ (s : State) (p : Fin 64), (s.lpSync p).lpOn p = true) ∧
    (∃ (s : State) (p : Fin 64), (s.lpSync p).reg (Key.LP_STATE p) = 1) ∧
    (∃ (s : State) (p : Fin 64), s.reg (Key.LP_STATE p) = 3 ∧ (s.iol p).lpHot = false) ∧
    (∃ (s : State) (w : Writer) (p : Fin 64), Accepts s w (Key.LP_CLEAR p) 1 ∧ s.reg (Key.LP_STATE p) = 4) ∧
    (∃ (s : State) (i : Fin 320), 256 ≤ i.val ∧ (s.iol (i - 256)).lpHot = true ∧ s.reg (Key.LP_STATE (i - 256)) = 3) ∧
    (∃ (s : State) (i : Fin 320), 256 ≤ i.val ∧ (s.lpSync (i - 256)).reg (Key.LP_STATE (i - 256)) = 2) :=
  ⟨
    ⟨((wB.setReg (Key.IOL_MODE 0) 1).setIol 0 { st := 2 }), wV, 0, [1], ⟨by decide, by decide⟩, by decide, by decide,
      by decide, by decide, by decide⟩,
    ⟨((wB.setReg (Key.IOL_MODE 0) 1).setIol 0 { st := 2 }).setQueue 0 13 { packets := [[⟨64, 2 ^ 56⟩]] }, _, 0, [⟨64,
      2 ^ 56⟩], by decide, by decide, by decide, by decide, rfl, by decide, by decide, by decide⟩,
    ⟨({ wB with run := .firmware }).setIol 0 { isdu := some {} }, 0, {}, [], by decide, by decide⟩,
    ⟨({ wB with run := .firmware }).setIol 0 { isdu := some {} }, 0, {}, 1, [], by decide, by decide, by decide⟩,
    ⟨({ wB with run := .firmware }).setIol 0 { isdu := some {} }, 0, {}, by decide, by decide⟩,
    ⟨((wB.setReg (Key.IOL_MODE 0) 1).setReg (Key.PQ_QCONFIG 0 12) 1).setIol 0 { st := 2 }, 0, 0, 0, by decide, by decide,
      by decide⟩,
    ⟨((wB.setReg (Key.IOL_MODE 0) 1).setReg (Key.PQ_QCONFIG 0 12) 0).setIol 0 { st := 2 }, 0, 0, 0, by decide, by decide,
      by decide⟩,
    ⟨({ wB with run := .firmware }).setIol 0 { event := some (0, 0) }, 0, 0, 0, by decide, by decide⟩,
    ⟨((wB.setReg (Key.IOL_MODE 0) 1).setReg (Key.IOL_DS_MODE 0) 1).setIol 0 { st := 2 }, wV, 0, ⟨by decide, by decide⟩,
      by decide, by decide⟩,
    ⟨{ wB with run := .firmware }, wV, 0, ⟨by decide, by decide⟩⟩,
    ⟨((wB.setReg (Key.IOL_MODE 0) 1).setReg (Key.IOL_DS_MODE 0) 1).setIol 0 { st := 2 }, 0, by decide, by decide⟩,
    ⟨({ wB with run := .firmware }).setReg (Key.IOL_DS_STATE 0) 2, 0, [], by decide⟩,
    ⟨({ wB with field := wF }.setReg (Key.LP_MODE 0) 1).setReg (Key.LP_STATE 0) 1, 0, by decide⟩,
    ⟨({ wB with field := wF }.setReg (Key.LP_MODE 0) 1).setReg (Key.LP_STATE 0) 2, 0, by decide⟩,
    ⟨({ wB with field := wF }.setReg (Key.LP_MODE 0) 1).setReg (Key.LP_STATE 0) 1, 0, by decide⟩,
    ⟨({ wB with field := wF }.setReg (Key.LP_MODE 0) 1).setReg (Key.LP_STATE 0) 1, 0, by decide⟩,
    ⟨(({ wB with run := .firmware }).setReg (Key.LP_STATE 0) 3).setIol 0 { lpHot := false }, 0, by decide, by decide⟩,
    ⟨({ wB with run := .firmware }).setReg (Key.LP_STATE 0) 4, wV, 0, ⟨by decide, by decide⟩, by decide⟩,
    ⟨(((({ wB with run := .firmware }).setReg (Key.LP_STATE (256 - 256)) 3).setIol (256 - 256) { lpHot := true }).setReg (Key.LP_STATE 0) 3).setIol 0 { lpHot := true },
      256, by decide, by decide, by decide⟩,
    ⟨({ wB with field := wF }.setReg (Key.LP_MODE 0) 1).setReg (Key.LP_STATE 0) 2, 256, by decide, by decide⟩⟩

/-- The hypotheses of `Obligations.Whisks` can be met, clause by clause. -/
theorem witness_Whisks :
    (∃ (s : State) (r : Writer) (w : Fin 32), Accepts s r (Key.WK_COMMAND w) 1 ∧ (s.whisk w).st = 0 ∧ s.whiskCheck w = none) ∧
    (∃ (s : State) (r : Writer) (w : Fin 32), Accepts s r (Key.WK_COMMAND w) 2 ∧ (s.whisk w).st = 1) ∧
    (∃ (s : State) (r : Writer) (w : Fin 32), Accepts s r (Key.WK_COMMAND w) 2 ∧ (s.whisk w).st = 2) ∧
    (∃ (s : State) (r : Writer) (w : Fin 32), Accepts s r (Key.WK_COMMAND w) 3 ∧ (s.whisk w).st = 4) ∧
    (∃ (s : State) (r : Writer) (w : Fin 32), Accepts s r (Key.WK_COMMAND w) 4 ∧ (s.whisk w).st ≠ 0 ∧ (s.whisk w).st ≠ 5 ∧
      s.whiskCheck w = none) ∧
    (∃ (s : State) (r : Writer) (w : Fin 32), Accepts s r (Key.WK_COMMAND w) 5 ∧ (s.whisk w).st ≠ 0) ∧
    (∃ (s : State) (w : Fin 32) (read : Fin 256), s.whiskRuns w = true ∧ (s.whisk w).entering = true) ∧
    (∃ (s : State) (w : Fin 32) (read : Fin 256), s.whiskRuns w = true ∧ (s.whisk w).dwelling = true ∧ (s.whisk w).st = 1) ∧
    (∃ (s : State) (w : Fin 32), (s.whisk w).st = 2 ∧ s.logicOn = true ∧ s.panActive (w / 2) = true ∧
      s.dataStalls w (s.whisk w) (fld (s.stepWord w (s.whisk w).step) 11 9) = false) ∧
    (∃ (s : State) (w : Fin 32) (a : Nat), (s.whisk w).st = 2 ∧ (s.whisk w).stallSince = some a ∧
      (s.whisk w).reported = false ∧ s.reg (Key.WK_STALL_LIMIT_MS w) ≠ 0) ∧
    (∃ (s : State) (w : Fin 32) (v : Nat) (vs : List Nat), (s.whisk w).st ≠ 0 ∧ s.logicOn = true ∧
      (s.whisk w).send.length < s.reg (Key.WK_STORE_SPLIT w) ∧ (s.whisk w).txPart = v :: vs) ∧
    (∃ (s : State) (w : Fin 32) (v : Nat) (last : Bool) (r : List (Nat × Bool)), (s.whisk w).st ≠ 0 ∧ s.logicOn = true ∧
      (s.whisk w).recv = (v, last) :: r) ∧
    (∃ (s : State) (w : Fin 32) (slot : Fin 8) (l : Nat), cellGet (fun _ => none) (s.whisk w).lineWaits slot = some l) :=
  ⟨
    ⟨({ wB with run := .firmware }).setWhisk 0 { st := 0 }, wV, 0, ⟨by decide, by decide⟩, by decide, by decide⟩,
    ⟨({ wB with run := .firmware }).setWhisk 0 { st := 1 }, wV, 0, ⟨by decide, by decide⟩, by decide⟩,
    ⟨({ wB with run := .firmware }).setWhisk 0 { st := 2 }, wV, 0, ⟨by decide, by decide⟩, by decide⟩,
    ⟨({ wB with run := .firmware }).setWhisk 0 { st := 4 }, wV, 0, ⟨by decide, by decide⟩, by decide⟩,
    ⟨({ wB with run := .firmware }).setWhisk 0 { st := 1 }, wV, 0, ⟨by decide, by decide⟩, by decide, by decide, by decide⟩,
    ⟨({ wB with run := .firmware }).setWhisk 0 { st := 1 }, wV, 0, ⟨by decide, by decide⟩, by decide⟩,
    ⟨(({ wB with run := .firmware }).setWhisk 0 { entering := true }).setWhisk 0 { st := 1, entering := true }, 0, 0,
      by decide, by decide⟩,
    ⟨({ wB with run := .firmware }).setWhisk 0 { dwelling := true, st := 1 }, 0, 0, by decide, by decide, by decide⟩,
    ⟨({ wB with run := .firmware }).setWhisk 0 { st := 2 }, 0, by decide, by decide, by decide, by decide⟩,
    ⟨(({ wB with run := .firmware }).setReg (Key.WK_STALL_LIMIT_MS 0) 1).setWhisk 0 { st := 2, stallSince := some 0, reported := false },
      0, 0, by decide, by decide, by decide, by decide⟩,
    ⟨(wB.setReg (Key.WK_STORE_SPLIT 0) 4).setWhisk 0 { st := 1, txPart := [0] }, 0, 0, [], by decide, by decide, by decide,
      by decide⟩,
    ⟨(({ wB with run := .firmware }).setWhisk 0 { recv := (0, true) :: [] }).setWhisk 0 { st := 1, recv := [(0, true)] }, 0,
      0, true, [], by decide, by decide, by decide⟩,
    ⟨({ wB with run := .firmware }).setWhisk 0 { lineWaits := [(0, some 0)] }, 0, 0, 0, by decide⟩⟩

/-- The hypotheses of `Obligations.SwitchFrames` can be met, clause by clause. -/
theorem witness_SwitchFrames :
    (∃ (s : State) (e : Fin 8) (f : SwFrame) (n : Nat), s.logicOn = true ∧ s.coreAwake = true ∧
      s.flag (Key.EDGE_LINK e) = true ∧ f.good = false) ∧
    (∃ (s : State) (e : Fin 8) (f : SwFrame) (n : Nat), s.logicOn = true ∧ s.coreAwake = true ∧
      s.flag (Key.EDGE_LINK e) = true ∧ f.good = true ∧ 1522 < f.bytes) ∧
    (∃ (s : State) (p : Fin 19) (c : Fin 8), s.logicOn = true ∧ (s.swq (8 * p + c)).asm ≠ []) ∧
    (∃ (s : State) (q : Nat), (s.swq q).asm ≠ []) ∧
    (∃ (s : State) (p : Fin 19) (c : Fin 8) (fixed : Nat) (page : List SwCopy) (rest : List (List SwCopy)),
      s.logicOn = true ∧ (s.swq (8 * p + c)).pages = page :: rest ∧ (s.swq (8 * p + c)).frames = [] ∧
      (s.swq (8 * p + c)).back = [] ∧ 16 ≤ s.sharedFree) ∧
    (∃ (s : State) (p : Fin 19) (fixed : Nat) (bad : Bool), s.logicOn = true ∧ s.coreAwake = true ∧ s.swUp p = true) ∧
    (∃ (s : State) (p : Nat) (c : SwCopy), 4 ≤ p) ∧
    (∃ (s : State) (p : Fin 19), s.logicOn = true ∧ s.swUp p = false ∧ s.sw.flushing.contains p.val = false) ∧
    (∃ (s : State) (p : Fin 19), s.logicOn = true ∧ s.sw.flushing.contains p.val = true) :=
  ⟨
    ⟨({ wB with run := .firmware }).setReg (Key.EDGE_LINK 0) 1, 0, { good := false }, 0, by decide, by decide, by decide,
      by decide⟩,
    ⟨({ wB with run := .firmware }).setReg (Key.EDGE_LINK 0) 1, 0, { bytes := 1523 }, 0, by decide, by decide, by decide,
      by decide, by decide⟩,
    ⟨{ wB with run := .firmware, sw := { wB.sw with queues := [(0, { asm := [{ frame := {} }] })] } }, 0, 0, by decide,
      by decide⟩,
    ⟨{ wB with run := .firmware, sw := { wB.sw with queues := [(0, { asm := [{ frame := {} }] })] } }, 0, by decide⟩,
    ⟨({ wB with run := .firmware }).setSwq (8 * 0 + 0) { pages := [] :: [], frames := [], back := [] }, 0, 0, 0, [], [],
      by decide, by decide, by decide, by decide, by decide⟩,
    ⟨{ wB with run := .firmware }, 13, 0, true, by decide, by decide, by decide⟩,
    ⟨{ wB with run := .firmware }, 4, { frame := {} }, by decide⟩,
    ⟨{ wB with run := .firmware }, 0, by decide, by decide, by decide⟩,
    ⟨{ wB with run := .firmware, sw := { wB.sw with flushing := [0] } }, 0, by decide, by decide⟩⟩

/-- The hypotheses of `Obligations.SwitchSettings` can be met, clause by clause. -/
theorem witness_SwitchSettings :
    (∃ (s : State) (w : Writer) (m : Fin 256) (v : Nat), s.fwOn = true ∧ Accepts s w (Key.METERS_METER (m / 32) (m % 32)) v ∧
      meterBad v = false) ∧
    (∃ (s : State) (w : Writer) (g : Fin 12), s.fwOn = true ∧ Accepts s w (Key.GATE_COMMIT g) 1 ∧ gateCommitCheck g s = none) ∧
    (∃ (s : State) (g : Fin 12) (p : GatePending), s.logicOn = true ∧ s.gatePending g = some p) ∧
    (∃ (s : State) (g : Fin 12) (l : GatePending) (x : Nat) (left : Nat) (rest : List (Nat × Nat)), s.logicOn = true ∧
      s.gateRunning g = some l ∧ segDrop (gateSegs l.entries l.cycle) ((s.ftime - l.base) % (l.cycle : Int)).toNat = (x,
      left) :: rest) ∧
    (∃ (s : State) (w : Writer) (i : Fin 8) (v : Nat), s.fwOn = true ∧ Accepts s w (Key.SMP_ENABLE i) v ∧
      s.reg (Key.SMP_ENABLE i) = 0) ∧
    (∃ (s : State) (w : Writer), s.fwOn = true ∧ Accepts s w Key.SW_COUNTER_CLEAR 1) ∧
    (∃ (s : State) (w : Writer), s.fwOn = true ∧ Accepts s w Key.SW_COUNTER_CLEAR 2) ∧
    (∃ (s : State) (w : Writer), s.fwOn = true ∧ Accepts s w Key.SW_COUNTER_CLEAR 4) ∧
    (∃ (s : State) (w : Writer), s.fwOn = true ∧ Accepts s w Key.SW_COUNTER_CLEAR 8) ∧
    (∃ (s : State) (w : Writer), s.fwOn = true ∧ Accepts s w Key.SW_COUNTER_CLEAR 16) ∧
    (∃ (s : State) (e : Fin 8) (linked : Bool) (half : Bool) (rate : Fin 4), s.logicOn = true) ∧
    (∃ (s : State) (e : Fin 8), s.logicOn = true) ∧
    (∃ (s : State) (e : Fin 8), s.logicOn = true) ∧
    (∃ (s : State) (w : Writer) (e : Fin 8) (v : Nat), s.fwOn = true) ∧
    (∃ (s : State) (w : Writer) (e : Fin 8), s.fwOn = true) ∧
    (∃ (s : State) (w : Writer) (e : Fin 8) (v : Nat), s.fwOn = true ∧ Accepts s w (Key.EDGE_MDIO_DATA e) v) ∧
    (∃ (s : State) (speed : Nat) (width : Nat) (bm : Bool), s.logicOn = true) :=
  ⟨
    ⟨{ wB with run := .firmware }, wV, 0, 1536 * 256 ^ 12 + 1536 * 256 ^ 4, by decide, ⟨by decide, by decide⟩, by decide⟩,
    ⟨(({ wB with run := .firmware }).setReg (Key.GATE_ADMIN_BASE 0) 100000).setReg (Key.GATE_ADMIN_CYCLE 0) 1000, wV, 0,
      by decide, ⟨by decide, by decide⟩, by decide⟩,
    ⟨{ wB with run := .firmware, sw := { wB.sw with gates := [(0, some ⟨[], 0, 1000⟩)] } }, 0, ⟨[], 0, 1000⟩, by decide,
      by decide⟩,
    ⟨((wB.setReg (Key.GATE_OPER_LENGTH 0) 1).setReg (Key.GATE_OPER_CYCLE 0) 1000).setReg (Key.GOPER_ENTRY 0 0) (2 ^ 32 + 1000),
      0, ⟨[2 ^ 32 + 1000], 0, 1000⟩, 1, 1000, [], by decide, by decide, by decide⟩,
    ⟨({ wB with run := .firmware }).setReg (Key.SMP_ENABLE 0) 0, wV, 0, 0, by decide, ⟨by decide, by decide⟩, by decide⟩,
    ⟨{ wB with run := .firmware }, wV, by decide, ⟨by decide, by decide⟩⟩,
    ⟨{ wB with run := .firmware }, wV, by decide, ⟨by decide, by decide⟩⟩,
    ⟨{ wB with run := .firmware }, wV, by decide, ⟨by decide, by decide⟩⟩,
    ⟨{ wB with run := .firmware }, wV, by decide, ⟨by decide, by decide⟩⟩,
    ⟨{ wB with run := .firmware }, wV, by decide, ⟨by decide, by decide⟩⟩,
    ⟨{ wB with run := .firmware }, 0, true, true, 0, by decide⟩,
    ⟨{ wB with run := .firmware }, 0, by decide⟩,
    ⟨{ wB with run := .firmware }, 0, by decide⟩,
    ⟨{ wB with run := .firmware }, wV, 0, 0, by decide⟩,
    ⟨{ wB with run := .firmware }, wV, 0, by decide⟩,
    ⟨{ wB with run := .firmware }, wV, 0, 0, by decide, ⟨by decide, by decide⟩⟩,
    ⟨{ wB with run := .firmware }, 0, 0, true, by decide⟩⟩

/-- The hypotheses of `Obligations.TunnelEnds` can be met, clause by clause. -/
theorem witness_TunnelEnds :
    (∃ (s : State) (n : Fin 1024), s.logicOn = true ∧ s.tunOn n = true ∧ s.role ≠ .standby ∧ (s.tun n).st = 1 ∧
      (s.tun n).openAt = none) ∧
    (∃ (s : State) (fr : Frame), s.tunTakes fr 1 = true ∧ s.tunMatch fr = none) ∧
    (∃ (s : State) (fr : Frame) (n : Nat), s.tunTakes fr 1 = true ∧ s.tunMatch fr = some n ∧
      max (octAt 24 (s.tunCfg n) 8 1) (beAt (fr.payload.drop 12) 0 1) ≤ min (octAt 24 (s.tunCfg n) 9 1) (beAt (fr.payload.drop 12) 1 1) ∧
      endKind (s.tunCfg n) ≠ 6 ∧ fld (beAt (fr.payload.drop 12) 2 4) 31 28 = endKind (s.tunCfg n)) ∧
    (∃ (s : State) (fr : Frame) (n : Nat), s.tunTakes fr 1 = true ∧ s.tunMatch fr = some n ∧
      min (octAt 24 (s.tunCfg n) 9 1) (beAt (fr.payload.drop 12) 1 1) < max (octAt 24 (s.tunCfg n) 8 1) (beAt (fr.payload.drop 12) 0 1)) ∧
    (∃ (s : State) (fr : Frame) (n : Nat), s.tunTakes fr 2 = true ∧ s.tunMatch fr = some n ∧ (s.tun n).st ≠ 2) ∧
    (∃ (s : State) (fr : Frame) (n : Nat), s.tunTakes fr 2 = true ∧ s.tunMatch fr = some n ∧ (s.tun n).st = 2 ∧
      (s.tun n).resync = true) ∧
    (∃ (s : State) (fr : Frame) (n : Nat), s.tunTakes fr 3 = true ∧ s.tunMatch fr = some n) ∧
    (∃ (s : State) (fr : Frame) (n : Nat), s.tunTakes fr 6 = true ∧ s.tunMatch fr = some n) ∧
    (∃ (s : State) (n : Fin 1024), s.logicOn = true ∧ s.tunOn n = true ∧ s.role ≠ .standby ∧ (s.tun n).st = 2) ∧
    (∃ (s : State) (n : Fin 1024), s.logicOn = true ∧ s.tunOn n = true ∧ (s.tun n).st = 2) :=
  ⟨
    ⟨(({ wB with role := .active }.setReg (Key.TUNS_CFG 0 0) (wTun 7)).setTun 0 { st := 1 }), 0, by decide, by decide,
      by decide, by decide, by decide⟩,
    ⟨{ wB with run := .firmware }, { kind := 4, payload := [1, 0, 0, 0, 0, 0, 0, 0, 0, 0, 0, 0] }, by decide, by decide⟩,
    ⟨(({ wB with role := .active }.setReg (Key.TUNS_CFG 0 0) (wTun 7)).setTun 0 { st := 1 }),
      { kind := 4, payload := [1, 0, 0, 0, 0, 0, 0, 0, 0, 0, 0, 0, 1, 2, 0x70] }, 0, by decide, by decide, by decide,
      by decide, by decide⟩,
    ⟨(({ wB with role := .active }.setReg (Key.TUNS_CFG 0 0) (wTun 7)).setTun 0 { st := 1 }),
      { kind := 4, payload := [1, 0, 0, 0, 0, 0, 0, 0, 0, 0, 0, 0, 3, 3, 0x70] }, 0, by decide, by decide, by decide⟩,
    ⟨(({ wB with role := .active }.setReg (Key.TUNS_CFG 0 0) (wTun 7)).setTun 0 { st := 1 }),
      { kind := 4, payload := [2, 0, 0, 0, 0, 0, 0, 0, 0, 0, 0, 0] }, 0, by decide, by decide, by decide⟩,
    ⟨(({ wB with role := .active }.setReg (Key.TUNS_CFG 0 0) (wTun 7)).setTun 0 { st := 2, resync := true }),
      { kind := 4, payload := [2, 0, 0, 0, 0, 0, 0, 0, 0, 0, 0, 0] }, 0, by decide, by decide, by decide, by decide⟩,
    ⟨(({ wB with role := .active }.setReg (Key.TUNS_CFG 0 0) (wTun 7)).setTun 0 { st := 1 }),
      { kind := 4, payload := [3, 0, 0, 0, 0, 0, 0, 0, 0, 0, 0, 0] }, 0, by decide, by decide⟩,
    ⟨(({ wB with role := .active }.setReg (Key.TUNS_CFG 0 0) (wTun 7)).setTun 0 { st := 1 }),
      { kind := 4, payload := [6, 0, 0, 0, 0, 0, 0, 0, 0, 0, 0, 0] }, 0, by decide, by decide⟩,
    ⟨(({ wB with role := .active }.setReg (Key.TUNS_CFG 0 0) (wTun 7)).setTun 0 { st := 2 }), 0, by decide, by decide,
      by decide, by decide⟩,
    ⟨(({ wB with role := .active }.setReg (Key.TUNS_CFG 0 0) (wTun 7)).setTun 0 { st := 2 }), 0, by decide, by decide,
      by decide⟩⟩

/-- The hypotheses of `Obligations.TunnelFlow` can be met, clause by clause. -/
theorem witness_TunnelFlow :
    (∃ (s : State) (fr : Frame) (n : Nat), s.tunTakes fr 4 = true ∧ s.tunMatch fr = some n ∧ (s.tun n).st = 2 ∧
      (s.tun n).rx = [] ∧ beAt fr.payload 6 2 = (s.tun n).rxSeq ∧ beAt fr.payload 9 1 = 0 ∧ beAt fr.payload 0 1 = 4) ∧
    (∃ (s : State) (fr : Frame) (n : Nat), s.tunTakes fr 4 = true ∧ s.tunMatch fr = some n ∧ (s.tun n).st = 2 ∧
      32768 ≤ ahead (s.tun n) (beAt fr.payload 6 2)) ∧
    (∃ (s : State) (n : Fin 1024) (a : Nat) (f : TunFrame), s.logicOn = true ∧ s.tunOn n = true ∧ (s.tun n).gapAt = some a ∧
      (s.tun n).rx = [f] ∧ (s.tun n).ready = [] ∧ f.segment = 0) ∧
    (∃ (s : State) (n : Fin 1024) (b : List Byte), s.logicOn = true ∧ s.tunOn n = true ∧ s.compat = false ∧
      endKind (s.tunCfg n) = 7 ∧ b.length ≤ 2928 ∧ s.tunRoom n b = true ∧ s.role ≠ .standby) ∧
    (∃ (s : State) (n : Fin 1024) (f : TunFrame) (r : List TunFrame), s.logicOn = true ∧ s.tunOn n = true ∧
      (s.tun n).st = 2 ∧ s.role ≠ .standby ∧ (s.tun n).tx = f :: r ∧ (s.tun n).used + unitsOf f.body ≤ (s.tun n).allowed) ∧
    (∃ (s : State) (n : Fin 1024) (f : TunFrame) (r : List TunFrame), s.logicOn = true ∧ s.tunOn n = true ∧
      (s.tun n).st = 2 ∧ s.role ≠ .standby ∧ (s.tun n).tx = f :: r ∧ (s.tun n).allowed < (s.tun n).used + unitsOf f.body ∧
      (s.tun n).waitAt = none) ∧
    (∃ (s : State) (u : State) (n : Fin 1024) (b : List Byte) (q : Nat) (m : Nat) (k : Nat), s.logicOn = true ∧
      s.tunOn n = true ∧ (s.tun n).packet = some (b, q, m, k) ∧
      s.sink n (endKind (s.tunCfg n)) (endNum (s.tunCfg n)) q (octAt 24 (s.tunCfg n) 11 1) b = (.later, u)) ∧
    (∃ (s : State) (u : State) (n : Fin 1024) (b : List Byte) (q : Nat) (m : Nat) (k : Nat), s.logicOn = true ∧
      s.tunOn n = true ∧ (s.tun n).packet = some (b, q, m, k) ∧
      s.sink n (endKind (s.tunCfg n)) (endNum (s.tunCfg n)) q (octAt 24 (s.tunCfg n) 11 1) b = (.taken, u)) ∧
    (∃ (s : State) (n : Fin 1024) (a : Nat), s.logicOn = true ∧ s.tunOn n = true ∧ (s.tun n).st = 2 ∧ s.role ≠ .standby ∧
      (s.tun n).freedAt = some a) ∧
    (∃ (s : State) (n : Fin 1024) (e : Fin 256) (l : Fin 256), s.logicOn = true ∧ s.tunOn n = true ∧ (s.tun n).st = 2 ∧
      (s.tun n).tver = 2 ∧ octAt 24 (s.tunCfg n) 12 4 ≠ 0 ∧ endKind (s.tunCfg n) < 7 ∧ (s.tun n).sbSent = none ∧
      s.role ≠ .standby) ∧
    (∃ (s : State) (fr : Frame) (n : Nat), s.tunTakes fr 5 = true ∧ s.tunMatch fr = some n ∧ (s.tun n).st = 2 ∧
      (s.tun n).sbValid = false) :=
  ⟨
    ⟨(({ wB with role := .active }.setReg (Key.TUNS_CFG 0 0) (wTun 7)).setTun 0 { st := 2 }),
      { kind := 4, payload := [4, 0, 0, 0, 0, 0, 0, 0, 0, 0, 0, 0] }, 0, by decide, by decide, by decide, by decide,
      by decide, by decide, by decide⟩,
    ⟨(({ wB with role := .active }.setReg (Key.TUNS_CFG 0 0) (wTun 7)).setTun 0 { st := 2 }),
      { kind := 4, payload := [4, 0, 0, 0, 0, 0, 0xFF, 0xFF, 0, 0, 0, 0] }, 0, by decide, by decide, by decide, by decide⟩,
    ⟨(({ wB with role := .active }.setReg (Key.TUNS_CFG 0 0) (wTun 7)).setTun 0 { st := 2, gapAt := some 0, rx := [{ tseq := 5 }] }),
      0, 0, { tseq := 5 }, by decide, by decide, by decide, by decide, by decide, by decide⟩,
    ⟨(({ wB with role := .active }.setReg (Key.TUNS_CFG 0 0) (wTun 7)).setTun 0 { st := 2 }), 0, [], by decide, by decide,
      by decide, by decide, by decide, by decide, by decide⟩,
    ⟨(({ wB with role := .active }.setReg (Key.TUNS_CFG 0 0) (wTun 7)).setTun 0 { st := 2, tx := [{ tseq := 5 }] }), 0,
      { tseq := 5 }, [], by decide, by decide, by decide, by decide, by decide, by decide⟩,
    ⟨(({ wB with role := .active }.setReg (Key.TUNS_CFG 0 0) (wTun 7)).setTun 0 { st := 2, tx := [{ tseq := 5, body := [0] }] }),
      0, { tseq := 5, body := [0] }, [], by decide, by decide, by decide, by decide, by decide, by decide, by decide⟩,
    ⟨((({ wB with role := .active }.setReg (Key.TUNS_CFG 0 0) (wTun 1)).setTun 0 { st := 2, ready := [{ tseq := 5 }] }).setReg (Key.PQ_QCONFIG 0 2) 1).setQueue 0 2 { packets := [List.replicate 31 ⟨0, 0⟩] },
      ((((({ wB with role := .active }.setReg (Key.TUNS_CFG 0 0) (wTun 1)).setTun 0 { st := 2, ready := [{ tseq := 5 }] }).setReg (Key.PQ_QCONFIG 0 2) 1).setQueue 0 2 { packets := [List.replicate 31 ⟨0, 0⟩] }).sink 0 (endKind ((((({ wB with role := .active }.setReg (Key.TUNS_CFG 0 0) (wTun 1)).setTun 0 { st := 2, ready := [{ tseq := 5 }] }).setReg (Key.PQ_QCONFIG 0 2) 1).setQueue 0 2 { packets := [List.replicate 31 ⟨0, 0⟩] }).tunCfg 0)) (endNum ((((({ wB with role := .active }.setReg (Key.TUNS_CFG 0 0) (wTun 1)).setTun 0 { st := 2, ready := [{ tseq := 5 }] }).setReg (Key.PQ_QCONFIG 0 2) 1).setQueue 0 2 { packets := [List.replicate 31 ⟨0, 0⟩] }).tunCfg 0)) 5 (octAt 24 ((((({ wB with role := .active }.setReg (Key.TUNS_CFG 0 0) (wTun 1)).setTun 0 { st := 2, ready := [{ tseq := 5 }] }).setReg (Key.PQ_QCONFIG 0 2) 1).setQueue 0 2 { packets := [List.replicate 31 ⟨0, 0⟩] }).tunCfg 0) 11 1) []).2,
      0, [], 5, 1, 0, by decide, by decide, by decide, Prod.ext (by decide) rfl⟩,
    ⟨((({ wB with role := .active }.setReg (Key.TUNS_CFG 0 0) (wTun 1)).setTun 0 { st := 2, ready := [{ tseq := 5 }] }).setReg (Key.PQ_QCONFIG 0 2) 1),
      ((((({ wB with role := .active }.setReg (Key.TUNS_CFG 0 0) (wTun 1)).setTun 0 { st := 2, ready := [{ tseq := 5 }] }).setReg (Key.PQ_QCONFIG 0 2) 1)).sink 0 (endKind ((((({ wB with role := .active }.setReg (Key.TUNS_CFG 0 0) (wTun 1)).setTun 0 { st := 2, ready := [{ tseq := 5 }] }).setReg (Key.PQ_QCONFIG 0 2) 1)).tunCfg 0)) (endNum ((((({ wB with role := .active }.setReg (Key.TUNS_CFG 0 0) (wTun 1)).setTun 0 { st := 2, ready := [{ tseq := 5 }] }).setReg (Key.PQ_QCONFIG 0 2) 1)).tunCfg 0)) 5 (octAt 24 ((((({ wB with role := .active }.setReg (Key.TUNS_CFG 0 0) (wTun 1)).setTun 0 { st := 2, ready := [{ tseq := 5 }] }).setReg (Key.PQ_QCONFIG 0 2) 1)).tunCfg 0) 11 1) []).2,
      0, [], 5, 1, 0, by decide, by decide, by decide, Prod.ext (by decide) rfl⟩,
    ⟨(({ wB with role := .active }.setReg (Key.TUNS_CFG 0 0) (wTun 7)).setTun 0 { st := 2, freedAt := some 0 }), 0, 0,
      by decide, by decide, by decide, by decide, by decide⟩,
    ⟨(({ wB with role := .active }.setReg (Key.TUNS_CFG 0 0) (wTun 6 + 256 ^ 8)).setTun 0 { st := 2, tver := 2 }), 0, 0, 0,
      by decide, by decide, by decide, by decide, by decide, by decide, by decide, by decide⟩,
    ⟨(({ wB with role := .active }.setReg (Key.TUNS_CFG 0 0) (wTun 7)).setTun 0 { st := 2 }),
      { kind := 4, payload := [5, 0, 0, 0, 0, 0, 0, 0, 0, 0, 0, 0] }, 0, by decide, by decide, by decide, by decide⟩⟩

/-- The hypotheses of `Obligations.TablesAndRoutes` can be met, clause by clause. -/
theorem witness_TablesAndRoutes :
    (∃ (s : State) (w : Writer) (n : Fin 1024) (v : Nat), s.fwOn = true ∧ Accepts s w (Key.TUNS_CFG (n / 64) (n % 64)) v ∧
      tunCheck n (tunMask v) s = none) ∧
    (∃ (s : State) (w : Writer) (r : Fin 4096) (v : Nat), s.fwOn = true ∧
      Accepts s w (Key.RTAB_ENTRY (r / 128) (r % 128)) v ∧
      routeCheck (v - octAt 20 v 19 1 - octAt 20 v 18 1 % 128 * 256) s = none) ∧
    (∃ (s : State) (k : Nat) (v : Nat), k ≠ Key.GENERATION ∧ k ≠ Key.PARAM_DIRTY) ∧
    (∃ (s : State), s.logicOn = true ∧ s.insideGens = []) ∧
    (∃ (s : State) (n : Fin 16) (q : Fin 25) (k : Nat) (c : Nat), s.logicOn = true ∧ queuePort n q = some (k, c) ∧
      s.routeBound k c = false) ∧
    (∃ (s : State) (u : State) (n : Fin 16) (q : Fin 25) (c : Nat) (p : List QItem) (b : List Byte), s.logicOn = true ∧
      queuePort n q = some (1, c) ∧ s.routeBound 1 c = true ∧ s.qTake n q = some (p, u) ∧ u.wrap 1 n q p = some b ∧
      u.routeFor (4096 + c) (beAt b 8 4) = none) ∧
    (∃ (s : State) (fr : Frame), s.logicOn = true ∧ fr.kind = 8 ∧ beAt fr.payload 0 1 = 1 ∧
      routePort (beAt fr.payload 1 1 * 4096 + beAt fr.payload 2 2) = true) ∧
    (∃ (s : State) (l : Nat) (c : Nat) (i : Nat) (b : List Byte),
      s.qRoom (endQueues 1 c 0).1 (endQueues 1 c 0).2.2 (((canSink b i 0).map List.length).foldl (· + ·) 0) = false) :=
  ⟨
    ⟨{ wB with run := .firmware }, wV, 0, 256 ^ 15 + 256 ^ 14 + 8 * 256 ^ 6 + 8 * 256 ^ 4, by decide, ⟨by decide, by decide⟩,
      by decide⟩,
    ⟨{ wB with run := .firmware }, wV, 0, 0, by decide, ⟨by decide, by decide⟩, by decide⟩,
    ⟨{ wB with run := .firmware }, 0, 0, by decide, by decide⟩,
    ⟨{ wB with run := .firmware }, by decide, by decide⟩,
    ⟨{ wB with run := .firmware }, 0, 0, 1, 0, by decide, by decide, by decide⟩,
    ⟨(wB.setReg 0x7B001 (0x1000 * 256 ^ 18 + 256 ^ 14 + 0xFFFFFFFF * 256 ^ 10)).setQueue 0 0 { packets := [wCan] },
      (((((wB.setReg 0x7B001 (0x1000 * 256 ^ 18 + 256 ^ 14 + 0xFFFFFFFF * 256 ^ 10)).setQueue 0 0 { packets := [wCan] }).qTake 0 0).map (·.2)).getD wB),
      0, 0, 0, wCan, canBody wCan, by decide, by decide, by decide, rfl, by decide, by decide⟩,
    ⟨{ wB with run := .firmware }, { kind := 8, payload := [1, 1] }, by decide, by decide, by decide, by decide⟩,
    ⟨wB.setReg (Key.PQ_QCONFIG 0 2) 0, 0, 0, 0, [], by decide⟩⟩

/-- The hypotheses of `Obligations.DictRequests` can be met, clause by clause. -/
theorem witness_DictRequests :
    (∃ (s : State) (u : State) (q : DictReq), s.dictOpen q 1 = (true, u) ∧ u.readCheck q 1 = none) ∧
    (∃ (s : State) (u : State) (q : DictReq) (a : Abort), s.dictOpen q 1 = (true, u) ∧ u.readCheck q 1 = some a) ∧
    (∃ (s : State) (q : DictReq) (b : List Byte), s.fwOn = true ∧ q.toNode = false ∧ s.keptFor (askOf q 1) = some b ∧
      askPath q ≠ .mailbox) ∧
    (∃ (s : State) (q : DictReq), s.fwOn = true ∧ q.toNode = true ∧ s.role = .standby) ∧
    (∃ (s : State) (q : DictReq), s.fwOn = true ∧ q.toNode = false ∧ s.keptFor (askOf q 1) = none ∧
      s.dictFull 1 q.object = true) ∧
    (∃ (s : State) (u : State) (q : DictReq) (a : Abort), s.dictOpen q 2 = (true, u) ∧
      State.typeCheck q.object q.ty 2 q.data.length = some a) ∧
    (∃ (s : State) (u : State) (q : DictReq) (r : ObjRow) (w : Writer), s.dictOpen q 2 = (true, u) ∧
      State.typeCheck q.object q.ty 2 q.data.length = none ∧ objRow q.object = some r ∧ askWriter q = some w ∧ r.size ≤ 1024) :=
  ⟨
    ⟨{ wB with run := .firmware },
      (({ wB with run := .firmware }).dictOpen ({ path := .mailbox, object := Key.ID_SERIAL }) 1).2,
      { path := .mailbox, object := Key.ID_SERIAL }, Prod.ext (by decide) rfl, by decide⟩,
    ⟨{ wB with run := .firmware }, (({ wB with run := .firmware }).dictOpen ({ path := .mailbox, object := 0xFF00 }) 1).2,
      { path := .mailbox, object := 0xFF00 }, .noObject, Prod.ext (by decide) rfl, by decide⟩,
    ⟨{ wB with run := .firmware, dict := { wB.dict with kept := [(.uart, keptKey 0 0, 0, [1])] } }, { path := .uart }, [1],
      by decide, by decide, by decide, by decide⟩,
    ⟨{ wB with run := .firmware, role := .standby }, { path := .mailbox, toNode := true }, by decide, by decide, by decide⟩,
    ⟨{ wB with run := .firmware, dict := { wB.dict with asked := List.replicate 64 (askOf { path := .uart } 1) } },
      { path := .mailbox }, by decide, by decide, by decide, by decide⟩,
    ⟨{ wB with run := .firmware },
      (({ wB with run := .firmware }).dictOpen ({ path := .mailbox, object := Key.HUB_STATE_REQUEST, ty := 9 }) 2).2,
      { path := .mailbox, object := Key.HUB_STATE_REQUEST, ty := 9 }, .typeMismatch, Prod.ext (by decide) rfl, by decide⟩,
    ⟨{ wB with run := .firmware },
      (({ wB with run := .firmware }).dictOpen ({ path := .mailbox, object := Key.HUB_STATE_REQUEST, ty := 2, role := 4, data := [1] }) 2).2,
      { path := .mailbox, object := Key.HUB_STATE_REQUEST, ty := 2, role := 4, data := [1] },
      ((objRow Key.HUB_STATE_REQUEST).getD wRow), wV, Prod.ext (by decide) rfl, by decide, by decide, by decide, by decide⟩⟩

/-- The hypotheses of `Obligations.DictTransfers` can be met, clause by clause. -/
theorem witness_DictTransfers :
    (∃ (s : State) (u : State) (q : DictReq) (r : ObjRow) (a : Abort), s.dictOpen q 3 = (true, u) ∧ u.readCheck q 3 = none ∧
      objRow q.object = some r ∧ blockRange r q.object q.paramA q.paramB = some a) ∧
    (∃ (s : State) (u : State) (v : State) (q : DictReq) (r : ObjRow) (b : List Byte), s.dictOpen q 3 = (true, u) ∧
      u.readCheck q 3 = none ∧ objRow q.object = some r ∧ blockRange r q.object q.paramA q.paramB = none ∧
      askPath q = .mailbox ∧ (u.dictWake q.object).capture_ r q.object q.paramA q.paramB = (b, v) ∧ b ≠ [] ∧
      q.paramB ≤ v.bar 0x418) ∧
    (∃ (s : State) (x : Transfer) (n : Nat), x.acked + 8 ≤ x.next) ∧
    (∃ (s : State) (u : State) (q : DictReq) (w : Writer), s.dictOpen q 4 = (true, u) ∧ askWriter q = some w ∧
      q.data.length = q.paramB ∧ u.blockCheck q w 0 = none ∧ crc32 q.data ≠ q.paramA) ∧
    (∃ (s : State) (u : State) (q : DictReq) (w : Writer), s.dictOpen q 4 = (true, u) ∧ askWriter q = some w ∧
      q.data.length ≠ q.paramB ∧ u.blockCheck q w q.paramA = none) ∧
    (∃ (s : State) (p : Path) (tid : Nat) (seg : Nat) (crc : Nat) (last : Bool) (d : List Byte) (x : Transfer),
      s.fwOn = true ∧ s.transfer p tid = some x ∧ x.reads = false ∧ x.path ≠ .mailbox ∧ x.next + 8 ≤ seg) ∧
    (∃ (s : State) (p : Path) (tid : Nat) (crc : Nat) (d : List Byte) (x : Transfer), s.fwOn = true ∧
      s.transfer p tid = some x ∧ x.reads = false ∧ x.early = []) ∧
    (∃ (s : State) (p : Path) (tid : Nat) (seg : Nat) (crc : Nat) (last : Bool) (d : List Byte) (x : Transfer),
      s.fwOn = true ∧ s.transfer p tid = some x ∧ x.reads = false ∧ x.early = [] ∧ x.next < seg ∧ seg < x.next + 8) ∧
    (∃ (s : State) (p : Path) (tid : Nat) (next : Nat) (x : Transfer), s.fwOn = true ∧ s.transfer p tid = some x ∧
      x.reads = true ∧ x.acked < next ∧ next ≤ x.next ∧ x.total ≤ 1024 * next) ∧
    (∃ (s : State) (p : Path) (tid : Nat) (x : Transfer), s.fwOn = true ∧ s.transfer p tid = some x) ∧
    (∃ (s : State) (p : Path) (tid : Nat) (a : Nat) (x : Transfer), s.fwOn = true ∧ s.transfer p tid = some x ∧
      x.earlyAt = some a) ∧
    (∃ (s : State) (p : Path) (tid : Nat) (x : Transfer), s.fwOn = true ∧ s.transfer p tid = some x ∧ x.reads = true ∧
      x.path ≠ .mailbox ∧ 5 ≤ x.resends) ∧
    (∃ (s : State) (p : Path) (tid : Nat) (x : Transfer), s.fwOn = true ∧ s.transfer p tid = some x ∧ x.reads = true ∧
      x.resends < 5) :=
  ⟨
    ⟨{ wB with run := .firmware },
      (({ wB with run := .firmware }).dictOpen ({ path := .mailbox, object := Key.ID_SERIAL, paramB := 9 }) 3).2,
      { path := .mailbox, object := Key.ID_SERIAL, paramB := 9 }, ((objRow Key.ID_SERIAL).getD wRow), .valueRange,
      Prod.ext (by decide) rfl, by decide, by decide, by decide⟩,
    ⟨({ wB with run := .firmware }).setBar 0x418 8,
      ((({ wB with run := .firmware }).setBar 0x418 8).dictOpen (({ path := .mailbox, object := Key.ID_SERIAL, paramB := 8 } : DictReq)) 3).2,
      (((((({ wB with run := .firmware }).setBar 0x418 8).dictOpen (({ path := .mailbox, object := Key.ID_SERIAL, paramB := 8 } : DictReq)) 3).2).dictWake (({ path := .mailbox, object := Key.ID_SERIAL, paramB := 8 } : DictReq)).object).capture_ (((objRow Key.ID_SERIAL).getD wRow)) (({ path := .mailbox, object := Key.ID_SERIAL, paramB := 8 } : DictReq)).object (({ path := .mailbox, object := Key.ID_SERIAL, paramB := 8 } : DictReq)).paramA (({ path := .mailbox, object := Key.ID_SERIAL, paramB := 8 } : DictReq)).paramB).2,
      ({ path := .mailbox, object := Key.ID_SERIAL, paramB := 8 } : DictReq), ((objRow Key.ID_SERIAL).getD wRow),
      List.replicate 7 0 ++ [1], Prod.ext (by decide) rfl, by decide, by decide, by decide, by decide,
      Prod.ext (by decide) rfl, by decide, by decide⟩,
    ⟨{ wB with run := .firmware }, { wX with next := 8 }, 0, by decide⟩,
    ⟨{ wB with run := .firmware },
      (({ wB with run := .firmware }).dictOpen ({ path := .mailbox, object := Key.LC_TRANSITION, ty := wTy Key.LC_TRANSITION, role := 4, paramA := 1, paramB := 1, data := [0] }) 4).2,
      { path := .mailbox, object := Key.LC_TRANSITION, ty := wTy Key.LC_TRANSITION, role := 4, paramA := 1, paramB := 1, data := [0] },
      wV, Prod.ext (by decide) rfl, by decide, by decide, by decide, by decide⟩,
    ⟨{ wB with run := .firmware },
      (({ wB with run := .firmware }).dictOpen ({ path := .mailbox, object := Key.LC_TRANSITION, ty := wTy Key.LC_TRANSITION, role := 4, paramB := 2, data := [0] }) 4).2,
      { path := .mailbox, object := Key.LC_TRANSITION, ty := wTy Key.LC_TRANSITION, role := 4, paramB := 2, data := [0] },
      wV, Prod.ext (by decide) rfl, by decide, by decide, by decide⟩,
    ⟨{ wB with run := .firmware, dict := { wB.dict with transfers := [{ wX with reads := false }] } }, .uart, 0, 8, 0, true,
      [], { wX with reads := false }, by decide, by decide, by decide, by decide, by decide⟩,
    ⟨{ wB with run := .firmware, dict := { wB.dict with transfers := [{ wX with reads := false }] } }, .uart, 0, 0, [],
      { wX with reads := false }, by decide, by decide, by decide, by decide⟩,
    ⟨{ wB with run := .firmware, dict := { wB.dict with transfers := [{ wX with reads := false }] } }, .uart, 0, 1, 0, true,
      [], { wX with reads := false }, by decide, by decide, by decide, by decide, by decide, by decide⟩,
    ⟨{ wB with run := .firmware, dict := { wB.dict with transfers := [wX9] } }, .uart, 0, 1, wX9, by decide, by decide,
      by decide, by decide, by decide, by decide⟩,
    ⟨{ wB with run := .firmware, dict := { wB.dict with transfers := [wX] } }, .uart, 0, wX, by decide, by decide⟩,
    ⟨{ wB with run := .firmware, dict := { wB.dict with transfers := [{ wX with earlyAt := some 0 }] } }, .uart, 0, 0,
      { wX with earlyAt := some 0 }, by decide, by decide, by decide⟩,
    ⟨{ wB with run := .firmware, dict := { wB.dict with transfers := [{ wX with resends := 5 }] } }, .uart, 0,
      { wX with resends := 5 }, by decide, by decide, by decide, by decide, by decide⟩,
    ⟨{ wB with run := .firmware, dict := { wB.dict with transfers := [wX] } }, .uart, 0, wX, by decide, by decide, by decide,
      by decide⟩⟩

/-- The hypotheses of `Obligations.HubStates` can be met, clause by clause. -/
theorem witness_HubStates :
    (∃ (s : State) (w : Writer), s.fwOn = true ∧ Accepts s w Key.HUB_STATE_REQUEST 1 ∧
      ((s.hub.mode = .operate ∨ s.hub.mode = .safe))) ∧
    (∃ (s : State) (w : Writer), s.fwOn = true ∧ Accepts s w Key.HUB_STATE_REQUEST 1 ∧ s.hub.mode = .preop) ∧
    (∃ (s : State) (w : Writer), s.fwOn = true ∧ Accepts s w Key.HUB_STATE_REQUEST 2 ∧ s.hub.mode = .preop ∧
      s.hubHeld = false ∧ s.hub.paramsLost = false) ∧
    (∃ (s : State) (w : Writer), s.fwOn = true ∧ Accepts s w Key.HUB_STATE_REQUEST 3 ∧ s.hub.mode = .operate) ∧
    (∃ (s : State) (w : Writer), s.fwOn = true ∧ Accepts s w Key.HUB_STATE_REQUEST 4 ∧ s.roleOk w .engineer = true ∧
      ((s.hub.mode = .preop ∨ s.hub.mode = .operate ∨ s.hub.mode = .safe))) ∧
    (∃ (s : State) (w : Writer), s.fwOn = true ∧ Accepts s w Key.HUB_STATE_REQUEST 5 ∧ s.roleOk w .engineer = true ∧
      s.roleOk w .service = true ∧ s.hub.mode = .maint) ∧
    (∃ (s : State) (w : Writer), s.fwOn = true ∧ Accepts s w Key.HUB_STATE_REQUEST 6 ∧ s.roleOk w .service = true) ∧
    (∃ (s : State), s.fwOn = true ∧ s.hub.autoDone = false ∧ s.flag Key.HUB_AUTO_OPERATE = true ∧ s.station ≠ 0 ∧
      s.hubHeld = false ∧ s.hub.paramsLost = false ∧ s.hub.mode = .preop) ∧
    (∃ (s : State), s.fwOn = true ∧ s.hub.mode = .maint) ∧
    (∃ (s : State) (w : Writer), s.fwOn = true ∧ s.permit w Key.PARAM_SAVE 1 = none ∧ s.boot.saving = none) ∧
    (∃ (s : State) (w : Writer), s.fwOn = true ∧ s.permit w Key.PARAM_SAVE 1 = none ∧ s.boot.saving.isSome = true) ∧
    (∃ (s : State) (x : Saving), s.fwOn = true ∧ s.boot.saving = some x) ∧
    (∃ (s : State) (w : Writer), s.fwOn = true ∧ Accepts s w Key.PARAM_RESTORE_DEFAULTS 1) :=
  ⟨
    ⟨{ wB with run := .firmware, hub := { wB.hub with mode := .operate } }, wV, by decide, ⟨by decide, by decide⟩, by decide⟩,
    ⟨{ wB with run := .firmware, hub := { wB.hub with mode := .preop } }, wV, by decide, ⟨by decide, by decide⟩, by decide⟩,
    ⟨{ wB with run := .firmware, hub := { wB.hub with mode := .preop, paramsLost := false } }, wV, by decide, ⟨by decide,
      by decide⟩, by decide, by decide, by decide⟩,
    ⟨{ wB with run := .firmware, hub := { wB.hub with mode := .operate } }, wV, by decide, ⟨by decide, by decide⟩, by decide⟩,
    ⟨{ wB with run := .firmware, hub := { wB.hub with mode := .preop } }, wV, by decide, ⟨by decide, by decide⟩, by decide,
      by decide⟩,
    ⟨{ wB with run := .firmware, hub := { wB.hub with mode := .maint } }, wV, by decide, ⟨by decide, by decide⟩, by decide,
      by decide, by decide⟩,
    ⟨{ wB with run := .firmware }, wV, by decide, ⟨by decide, by decide⟩, by decide⟩,
    ⟨(({ wB with run := .firmware, hub := { wB.hub with autoDone := false, paramsLost := false, mode := .preop } }).setReg Key.HUB_AUTO_OPERATE 1).setReg Key.ADDR_STATION 1,
      by decide, by decide, by decide, by decide, by decide, by decide, by decide⟩,
    ⟨{ wB with run := .firmware, hub := { wB.hub with mode := .maint } }, by decide, by decide⟩,
    ⟨{ wB with run := .firmware, boot := { wB.boot with saving := none } }, wV, by decide, by decide, by decide⟩,
    ⟨{ wB with run := .firmware, boot := { wB.boot with saving := some ⟨.mailbox, [], 1⟩ } }, wV, by decide, by decide,
      by decide⟩,
    ⟨{ wB with run := .firmware, boot := { wB.boot with saving := some ⟨.mailbox, [], 1⟩ } }, ⟨.mailbox, [], 1⟩, by decide,
      by decide⟩,
    ⟨{ wB with run := .firmware, hub := { wB.hub with mode := .preop } }, wV, by decide, ⟨by decide, by decide⟩⟩⟩

/-- The hypotheses of `Obligations.HostMailbox` can be met, clause by clause. -/
theorem witness_HostMailbox :
    (∃ (s : State) (v : Fin 2048) (b : List Byte), s.logicOn = true ∧ s.host.mbx.isSome = true) ∧
    (∃ (s : State) (v : Fin 2048) (b : List Byte), s.logicOn = true ∧ s.host.mbx = none ∧ ((v.val < 20 ∨ 1044 < v.val))) ∧
    (∃ (s : State) (v : Fin 2048) (b : List Byte), s.logicOn = true ∧ s.host.mbx = none ∧ 20 ≤ v.val ∧ v.val ≤ 1044 ∧
      s.bar 0x408 ≠ 0 ∧ s.bar 0x408 ≠ s.station ∧ beAt (bytesAt s.host.reqBytes 0 v) 0 1 % 16 = 1) ∧
    (∃ (s : State) (f : Fin 4) (fr : Frame) (m : MbxRun) (a : Answer), s.logicOn = true ∧ s.host.mbx = some m ∧ m.dest = 0 ∧
      (s.answers.drop m.seen).find? (fun a => decide (a.path = .mailbox)) = some a) ∧
    (∃ (s : State) (m : MbxRun), s.logicOn = true ∧ s.host.mbx = some m) ∧
    (∃ (s : State), s.logicOn = true) ∧
    (∃ (s : State) (v : Nat), s.logicOn = true ∧ s.host.snap.isSome = true) ∧
    (∃ (s : State) (v : Nat), s.logicOn = true ∧ s.host.snap = none ∧ fld v 19 0 + fld v 27 24 < 2 ^ 20) ∧
    (∃ (s : State), s.logicOn = true) ∧
    (∃ (s : State), s.logicOn = true) ∧
    (∃ (s : State), s.logicOn = true) ∧
    (∃ (s : State) (v : Fin 8), s.logicOn = true) ∧
    (∃ (s : State) (a : Nat), s.logicOn = true ∧ s.host.kickAt = some a ∧ bitOf (s.bar 0x24) 2 = true ∧
      s.reg Key.HOST_WDOG_MS ≠ 0) :=
  ⟨
    ⟨{ wB with run := .firmware, host := { wB.host with mbx := some ⟨[], 0, 0, 0⟩ } }, 0, [], by decide, by decide⟩,
    ⟨{ wB with run := .firmware, host := { wB.host with mbx := none } }, 0, [], by decide, by decide, by decide⟩,
    ⟨{ wB with host := { wB.host with reqBytes := [1] } }.setBar 0x408 5, 20, [], by decide, by decide, by decide, by decide,
      by decide, by decide, by decide⟩,
    ⟨{ wB with run := .firmware, host := { wB.host with mbx := some ⟨[], 0, 0, 0⟩ }, answers := [⟨.mailbox, 0, none, []⟩] },
      0, {}, ⟨[], 0, 0, 0⟩, ⟨.mailbox, 0, none, []⟩, by decide, by decide, by decide, by decide⟩,
    ⟨{ wB with run := .firmware, host := { wB.host with mbx := some ⟨[], 0, 0, 0⟩ } }, ⟨[], 0, 0, 0⟩, by decide, by decide⟩,
    ⟨{ wB with run := .firmware }, by decide⟩,
    ⟨{ wB with run := .firmware, host := { wB.host with snap := some (0, 0) } }, 0, by decide, by decide⟩,
    ⟨{ wB with run := .firmware, host := { wB.host with snap := none } }, 0, by decide, by decide, by decide⟩,
    ⟨{ wB with run := .firmware }, by decide⟩,
    ⟨{ wB with run := .firmware }, by decide⟩,
    ⟨{ wB with run := .firmware }, by decide⟩,
    ⟨{ wB with run := .firmware }, 0, by decide⟩,
    ⟨(({ wB with run := .firmware, host := { wB.host with kickAt := some 0 } }).setReg Key.HOST_WDOG_MS 1).setBar 0x24 4, 0,
      by decide, by decide, by decide, by decide⟩⟩

/-- The hypotheses of `Obligations.HostRings` can be met, clause by clause. -/
theorem witness_HostRings :
    (∃ (s : State) (r : Fin 3) (v : Nat), s.logicOn = true ∧ bitOf (s.bar (ringAt r 0x108)) 31 = false ∧ bitOf v 31 = true ∧
      v % 32 = 8) ∧
    (∃ (s : State) (r : Fin 3) (v : Nat), s.logicOn = true) ∧
    (∃ (s : State) (u : State) (r : Fin 3) (k : Nat) (c : List Byte), s.logicOn = true ∧ s.ringOn r = true ∧
      s.ringFree r ≠ 0 ∧ s.ringNext r = some (k, c, u)) ∧
    (∃ (s : State) (r : Fin 3), s.logicOn = true ∧ (s.ring r).unsignalled ≠ 0) ∧
    (∃ (s : State) (v : Nat), s.logicOn = true ∧ s.host.stage.length < 588) ∧
    (∃ (s : State) (v : Nat), s.logicOn = true ∧ 588 ≤ s.host.stage.length) ∧
    (∃ (s : State) (v : Nat), s.logicOn = true ∧ bitOf v 31 = true) ∧
    (∃ (s : State), s.logicOn = true ∧ s.host.stageHeld ≠ []) ∧
    (∃ (s : State) (v : Nat), s.logicOn = true) ∧
    (∃ (s : State) (x : Nat), s.logicOn = true ∧ bitOf (s.bar 0x24) 0 = true ∧ s.host.reading = none ∧
      s.bar4 0x3000 ≠ s.bar4 0x3004 ∧ s.txRefusal = some x) ∧
    (∃ (s : State), s.logicOn = true ∧ bitOf (s.bar 0x24) 0 = true ∧ s.host.reading = none ∧ s.bar4 0x3000 ≠ s.bar4 0x3004 ∧
      s.txRefusal = none ∧ fld (s.bar4 (s.txDesc + 8)) 31 28 = 2) ∧
    (∃ (s : State) (d : List Byte), s.logicOn = true ∧ s.host.reading.isSome = true) ∧
    (∃ (s : State) (d : List Byte), s.logicOn = true ∧ s.host.reading.isSome = true ∧ fld (s.bar4 (s.txDesc + 8)) 31 28 = 1 ∧
      s.tunRoom (fld (s.bar4 (s.txDesc + 12)) 31 16) (d.take (fld (s.bar4 (s.txDesc + 8)) 12 0) ++ List.replicate (fld (s.bar4 (s.txDesc + 8)) 12 0 - d.length) 0) = false) ∧
    (∃ (s : State) (a : Nat), s.logicOn = true ∧ s.host.reading = some a) ∧
    (∃ (s : State), s.logicOn = true ∧ s.reg Key.HOST_LINK ≠ 0) :=
  ⟨
    ⟨{ wB with run := .firmware }, 0, 2 ^ 31 + 8, by decide, by decide, by decide, by decide⟩,
    ⟨{ wB with run := .firmware }, 0, 0, by decide⟩,
    ⟨((({ wB with records := [(5, 0, 0, false)] }.setBar 0x24 1).setBar 0x108 (2 ^ 31 + 8))),
      { (((({ wB with records := [(5, 0, 0, false)] }.setBar 0x24 1).setBar 0x108 (2 ^ 31 + 8)))) with records := [] }, 0, 1,
      [0, 5, 0, 0, 0, 0, 0, 0, 0, 0, 0, 0, 0, 0, 0, 0], by decide, by decide, by decide, rfl⟩,
    ⟨{ wB with run := .firmware, host := { wB.host with rings := [(0, { unsignalled := 1 })] } }, 0, by decide, by decide⟩,
    ⟨{ wB with run := .firmware }, 0, by decide, by decide⟩,
    ⟨{ wB with run := .firmware, host := { wB.host with stage := List.replicate 588 (0, 0) } }, 0, by decide, by decide⟩,
    ⟨{ wB with run := .firmware }, 2 ^ 31, by decide, by decide⟩,
    ⟨{ wB with run := .firmware, host := { wB.host with stageHeld := [{}] } }, by decide, by decide⟩,
    ⟨{ wB with run := .firmware }, 0, by decide⟩,
    ⟨{ wB with host := { wB.host with bar4 := [(0x3004, 1)] } }.setBar 0x24 1, 2, by decide, by decide, by decide, by decide,
      by decide⟩,
    ⟨{ wB with host := { wB.host with bar4 := [(0x3004, 1), (0x10008, 2 ^ 29)] } }.setBar 0x24 1, by decide, by decide,
      by decide, by decide, by decide, by decide⟩,
    ⟨{ wB with run := .firmware, host := { wB.host with reading := some 0 } }, [], by decide, by decide⟩,
    ⟨({ wB with host := { wB.host with reading := some 0, bar4 := [(0x10008, 2 ^ 28 + 1)] } }.setReg (Key.TUNS_CFG 0 0) 0),
      [], by decide, by decide, by decide, by decide⟩,
    ⟨{ wB with run := .firmware, host := { wB.host with reading := some 0 } }, 0, by decide, by decide⟩,
    ⟨({ wB with run := .firmware }).setReg Key.HOST_LINK 1, by decide, by decide⟩⟩

/-- The hypotheses of `Obligations.WritesAndRefusals` can be met, clause by clause. -/
theorem witness_WritesAndRefusals :
    (∃ (s : State) (w : Writer) (k : Nat) (v : Nat) (r : ObjRow), objRow k = some r ∧ ((r.access = .ro ∨ r.access = .const))) ∧
    (∃ (s : State) (w : Writer) (k : Nat) (v : Nat) (r : ObjRow) (role : Role) (m : Nat) (d : Bool), objRow k = some r ∧
      r.access = .rw role m d ∧ s.inRecovery = false ∧ v < 2 ^ (8 * r.size) ∧ s.denied k v = none ∧ w.path ≠ .peer ∧
      s.roleOk w role = false) ∧
    (∃ (s : State) (w : Writer) (k : Nat) (v : Nat) (a : Abort) (own : State → Option Abort) (eff : State → State),
      s.permit w k v = some a) ∧
    (∃ (s : State) (w : Writer) (k : Nat) (v : Nat) (a : Abort) (own : State → Option Abort) (eff : State → State),
      s.permit w k v = none ∧ rangeCheck k v = some a) ∧
    (∃ (s : State) (w : Writer) (v : Nat), s.logicOn = true) ∧
    (∃ (s : State) (w : Writer) (o : Nat) (v : Nat), 0x10000 ≤ o) ∧
    (∃ (s : State) (w : Writer) (o : Nat) (v : Nat), 0x100000 ≤ o) :=
  ⟨
    ⟨{ wB with run := .firmware }, wV, Key.ID_SERIAL, 0, ((objRow Key.ID_SERIAL).getD wRow), by decide, by decide⟩,
    ⟨{ wB with run := .firmware }, ⟨.pub, .mailbox⟩, Key.PORT_HOLDOFF_MS 0, 0, ((objRow (Key.PORT_HOLDOFF_MS 0)).getD wRow),
      .engineer, 18, true, by decide, by decide, by decide, by decide, by decide, by decide, by decide⟩,
    ⟨{ wB with run := .firmware }, wV, Key.ID_SERIAL, 0, .readOnly, noCheck, id, by decide⟩,
    ⟨{ wB with run := .firmware }, wV, Key.PORT_HOLDOFF_MS 0, 65535, .valueRange, noCheck, id, by decide, by decide⟩,
    ⟨{ wB with run := .firmware }, wV, 0, by decide⟩,
    ⟨{ wB with run := .firmware }, wV, 0x10000, 0, by decide⟩,
    ⟨{ wB with run := .firmware }, wV, 0x100000, 0, by decide⟩⟩

/-- The hypotheses of `Obligations.EventSources` can be met, clause by clause. -/
theorem witness_EventSources :
    (∃ (s : State) (n : Fin 1024) (d : Nat), s.logicOn = true ∧ n.val ≠ 0) ∧
    (∃ (s : State) (w : Writer) (n : Fin 1024) (v : Nat), s.fwOn = true ∧
      Accepts s w (Key.SRC_SOURCE_CFG (n / 128) (n % 128)) v ∧ srcCfgCheck n v s = none) ∧
    (∃ (s : State) (n : Nat), s.logicOn = true ∧ s.targetReady 2 = true ∧ s.claimable 2 = some n) ∧
    (∃ (s : State), s.logicOn = true ∧ s.claimable 2 = none) ∧
    (∃ (s : State) (k : Fin 3) (v : Nat), s.logicOn = true ∧ (s.src (v % 1024)).st = 2 ∧ (s.src (v % 1024)).target = k.val) ∧
    (∃ (s : State) (k : Fin 3) (v : Nat), s.logicOn = true ∧ (s.src (v % 1024)).st ≠ 2) ∧
    (∃ (s : State) (w : Writer) (v : Nat) (r : Nat), s.fwOn = true ∧ Accepts s w Key.EVT_REMOTE_COMPLETE v ∧
      (s.src (v % 1024)).st = 2 ∧ r ∈ s.remOf w.path ∧ (s.src (v % 1024)).target = 3 + r ∧
      (s.src (v % 1024)).delivery = v / 2 ^ 16 % 65536) ∧
    (∃ (s : State) (w : Writer) (v : Nat), s.fwOn = true ∧ Accepts s w Key.EVT_REMOTE_COMPLETE v ∧ (s.src (v % 1024)).st ≠ 2) ∧
    (∃ (s : State) (n : Fin 1024), s.logicOn = true ∧ (s.src n).st = 2 ∧ 3 ≤ (s.src n).target ∧ (s.src n).target ≠ 7) ∧
    (∃ (s : State) (w : Writer) (v : Nat), s.fwOn = true ∧ Accepts s w Key.EVT_RAISE v ∧ 896 ≤ v % 1024) ∧
    (∃ (s : State) (w : Writer) (v : Nat), s.fwOn = true ∧ Accepts s w Key.EVT_RAISE v ∧ v % 1024 < 896) ∧
    (∃ (s : State) (w : Writer) (k : Fin 16) (v : Nat), s.fwOn = true ∧ Accepts s w (Key.SB_SIDEBAND_ACK k) v) :=
  ⟨
    ⟨{ wB with run := .firmware }, 1, 0, by decide, by decide⟩,
    ⟨{ wB with run := .firmware }, wV, 1, 0, by decide, ⟨by decide, by decide⟩, by decide⟩,
    ⟨((wB.setReg Key.HOST_LINK 1).setBar 0x24 2).setSrc 5 { st := 1, target := 2 }, 5, by decide, by decide, by decide⟩,
    ⟨{ wB with run := .firmware }, by decide, by decide⟩,
    ⟨(({ wB with run := .firmware }).setSrc (0 % 1024) { st := 2, target := 0 }).setSrc 0 { st := 2, target := 0 }, 0, 0,
      by decide, by decide, by decide⟩,
    ⟨{ wB with run := .firmware }, 0, 0, by decide, by decide⟩,
    ⟨((wB.setReg (Key.REM_STATION 0) 9).setReg (Key.REM_CLIENT 0) 1).setSrc 5 { st := 2, target := 3 }, ⟨.vendor,
      .dict 9 1 true⟩, 5, 0, by decide, ⟨by decide, by decide⟩, by decide, by decide, by decide, by decide⟩,
    ⟨{ wB with run := .firmware }, wV, 0, by decide, ⟨by decide, by decide⟩, by decide⟩,
    ⟨(({ wB with run := .firmware }).setSrc 0 { st := 2 }).setSrc 0 { st := 2, target := 3 }, 0, by decide, by decide,
      by decide, by decide⟩,
    ⟨{ wB with run := .firmware }, wV, 896, by decide, ⟨by decide, by decide⟩, by decide⟩,
    ⟨{ wB with run := .firmware }, wV, 0, by decide, ⟨by decide, by decide⟩, by decide⟩,
    ⟨{ wB with run := .firmware }, wV, 0, 0, by decide, ⟨by decide, by decide⟩⟩⟩

/-- The hypotheses of `Obligations.Fences` can be met, clause by clause. -/
theorem witness_Fences :
    (∃ (s : State) (w : Writer) (x : Fin 65536), s.fwOn = true ∧ Accepts s w Key.FENCE_ISSUE (1 * 2 ^ 28 + x) ∧
      fenceCheck 1 x s = none) ∧
    (∃ (s : State) (w : Writer) (x : Fin 65536), s.fwOn = true ∧ Accepts s w Key.FENCE_ISSUE (2 * 2 ^ 28 + x) ∧
      fenceCheck 2 x s = none) ∧
    (∃ (s : State) (w : Writer) (x : Fin 65536), s.fwOn = true ∧ Accepts s w Key.FENCE_ISSUE (3 * 2 ^ 28 + x) ∧
      fenceCheck 3 x s = none) ∧
    (∃ (s : State) (w : Writer) (x : Fin 65536), s.fwOn = true ∧ Accepts s w Key.FENCE_ISSUE (4 * 2 ^ 28 + x) ∧
      fenceCheck 4 x s = none) ∧
    (∃ (s : State) (i : Fin 16), s.logicOn = true ∧ s.fenceTurn i = true ∧ s.fenceKind i = 1 ∧ s.markersPassed i = true) ∧
    (∃ (s : State) (i : Fin 16), s.logicOn = true ∧ s.fenceTurn i = true ∧ s.fenceKind i = 1 ∧ s.markersPassed i = false) ∧
    (∃ (s : State) (i : Fin 16), s.logicOn = true ∧ s.fenceTurn i = true ∧ s.fenceKind i = 2 ∧ s.writeWaits = false) ∧
    (∃ (s : State) (i : Fin 16), s.logicOn = true ∧ s.fenceTurn i = true ∧ s.fenceKind i = 3 ∧ s.insideGens = []) ∧
    (∃ (s : State) (x : Fin 65536) (i : Nat), s.logicOn = true ∧
      s.fencesPending.find? (fun i => s.fenceKind i == 4 && s.fenceTicket i == x.val) = some i ∧ s.fenceTurn i = true) ∧
    (∃ (s : State) (i : Fin 16), s.logicOn = true ∧ s.fenceTurn i = true) ∧
    (∃ (s : State) (i : Nat) (r : Nat), s.fenceKind i ≠ 2 ∧ i < 16) :=
  ⟨
    ⟨{ wB with run := .firmware }, wV, 0, by decide, ⟨by decide, by decide⟩, by decide⟩,
    ⟨{ wB with run := .firmware }, wV, 0, by decide, ⟨by decide, by decide⟩, by decide⟩,
    ⟨{ wB with run := .firmware }, wV, 0, by decide, ⟨by decide, by decide⟩, by decide⟩,
    ⟨{ wB with run := .firmware }, wV, 0, by decide, ⟨by decide, by decide⟩, by decide⟩,
    ⟨({ wB with run := .firmware }).setReg (Key.FENCE_SLOT 0) (1 * 2 ^ 28 + 2 ^ 24), 0, by decide, by decide, by decide,
      by decide⟩,
    ⟨({ wB with run := .firmware, fences := [(0, { pans := [(0, 1)] })] }).setReg (Key.FENCE_SLOT 0) (1 * 2 ^ 28 + 2 ^ 24),
      0, by decide, by decide, by decide, by decide⟩,
    ⟨({ wB with run := .firmware }).setReg (Key.FENCE_SLOT 0) (2 * 2 ^ 28 + 2 ^ 24), 0, by decide, by decide, by decide,
      by decide⟩,
    ⟨({ wB with run := .firmware }).setReg (Key.FENCE_SLOT 0) (3 * 2 ^ 28 + 2 ^ 24), 0, by decide, by decide, by decide,
      by decide⟩,
    ⟨({ wB with run := .firmware }).setReg (Key.FENCE_SLOT 0) (4 * 2 ^ 28 + 2 ^ 24), 0, 0, by decide, by decide, by decide⟩,
    ⟨({ wB with run := .firmware }).setReg (Key.FENCE_SLOT 0) (1 * 2 ^ 28 + 2 ^ 24), 0, by decide, by decide⟩,
    ⟨{ wB with run := .firmware }, 0, 0, by decide, by decide⟩⟩

/-- The hypotheses of `Obligations.ClaimRounds` can be met, clause by clause. -/
theorem witness_ClaimRounds :
    (∃ (s : State) (a : Nat), s.logicOn = true ∧ s.role ≠ .solo ∧ s.twin.round = none ∧ s.twin.startAt = some a ∧
      s.reg Key.PERT_RUNNING = 0) ∧
    (∃ (s : State), s.logicOn = true ∧ s.role ≠ .solo ∧ s.twin.round = none ∧ s.reg Key.PERT_RUNNING = 0) ∧
    (∃ (s : State) (x : RoundWire) (a : Nat), s.run ≠ .unpowered ∧ s.role ≠ .solo ∧ s.twin.round = some a ∧
      s.twin.driving = false ∧ roundValid x = false) ∧
    (∃ (s : State) (r : Nat), s.field.row ≠ r) ∧
    (∃ (s : State), s.field.row = 2 ∧ s.role ≠ .solo) ∧
    (∃ (s : State), s.field.row = 3) ∧
    (∃ (s : State), s.logicOn = true ∧ s.role ≠ .solo) ∧
    (∃ (s : State), s.fwOn = true ∧ s.role ≠ .solo ∧ s.perturbed 4 1 = none) ∧
    (∃ (s : State) (b : Bool), s.logicOn = true ∧ s.role ≠ .solo) ∧
    (∃ (s : State) (i : Fin 9) (f : Nat), s.fwOn = true ∧ s.role = .standby) :=
  ⟨
    ⟨({ wB with run := .firmware, role := .active, twin := { wB.twin with round := none, startAt := some 0 } }).setReg Key.PERT_RUNNING 0,
      0, by decide, by decide, by decide, by decide, by decide⟩,
    ⟨({ wB with run := .firmware, role := .active, twin := { wB.twin with round := none } }).setReg Key.PERT_RUNNING 0,
      by decide, by decide, by decide, by decide⟩,
    ⟨{ wB with run := .firmware, role := .active, twin := { wB.twin with round := some 0, driving := false } }, {}, 0,
      by decide, by decide, by decide, by decide, by decide⟩,
    ⟨{ wB with run := .firmware }, 0, by decide⟩,
    ⟨{ wB with run := .firmware, role := .active, field := { wB.field with row := 2 } }, by decide, by decide⟩,
    ⟨{ wB with run := .firmware, field := { wB.field with row := 3 } }, by decide⟩,
    ⟨{ wB with run := .firmware, role := .active }, by decide, by decide⟩,
    ⟨{ wB with run := .firmware, role := .active }, by decide, by decide, by decide⟩,
    ⟨{ wB with run := .firmware, role := .active }, true, by decide, by decide⟩,
    ⟨{ wB with run := .firmware, role := .standby }, 0, 0, by decide, by decide⟩⟩

/-- The hypotheses of `Obligations.TwinFrames` can be met, clause by clause. -/
theorem witness_TwinFrames :
    (∃ (s : State), s.fwOn = true ∧ s.role ≠ .solo ∧ s.reg Key.PERT_RUNNING = 0) ∧
    (∃ (s : State) (u : State) (fr : Frame) (g : TagCheck), s.logicOn = true ∧ s.role ≠ .solo ∧
      s.twinTake fr g false = (none, u)) ∧
    (∃ (s : State) (u : State) (fr : Frame) (g : TagCheck), s.logicOn = true ∧ s.role = .standby ∧
      s.twinTake fr g false = (some (), u) ∧ bitOf (beAt fr.payload 3 1) 7 = true) ∧
    (∃ (s : State) (fr : Frame) (g : TagCheck), s.fwOn = true ∧ s.role ≠ .active) ∧
    (∃ (s : State) (u : State) (fr : Frame) (g : TagCheck), s.fwOn = true ∧ s.role = .active ∧
      s.twinTake fr g (s.flag Key.KEY_TWIN_AUTH) = (some (), u)) ∧
    (∃ (s : State) (u : State) (fr : Frame) (g : TagCheck), s.fwOn = true ∧ s.role = .standby ∧
      s.twinTake fr g (s.flag Key.KEY_TWIN_AUTH) = (some (), u) ∧ u.reg Key.TWST_SYNC_STATE = 1 ∧
      beAt fr.payload 2 2 = u.twin.bulkNext ∧ bitOf (beAt fr.payload 1 1) 0 = false) ∧
    (∃ (s : State) (u : State) (fr : Frame) (g : TagCheck), s.fwOn = true ∧ s.role = .standby ∧
      s.twinTake fr g (s.flag Key.KEY_TWIN_AUTH) = (some (), u) ∧ u.reg Key.TWST_SYNC_STATE = 1 ∧
      beAt fr.payload 2 2 ≠ u.twin.bulkNext) ∧
    (∃ (s : State) (u : State) (fr : Frame) (g : TagCheck), s.fwOn = true ∧ s.role = .standby ∧
      s.twinTake fr g (s.flag Key.KEY_TWIN_AUTH) = (some (), u) ∧ u.reg Key.TWST_SYNC_STATE = 2) ∧
    (∃ (s : State) (u : State) (fr : Frame) (g : TagCheck), s.fwOn = true ∧ s.role = .standby ∧
      s.twinTake fr g (s.flag Key.KEY_TWIN_AUTH) = (some (), u) ∧ u.reg Key.TWST_SYNC_STATE = 1) ∧
    (∃ (s : State) (u : State) (fr : Frame) (g : TagCheck) (x : Nat × Answer), s.fwOn = true ∧ s.role = .active ∧
      s.twinTake fr g (s.flag Key.KEY_TWIN_AUTH) = (some (), u) ∧
      u.twin.waits.find? (fun x => x.1 == beAt fr.payload 4 4) = some x) :=
  ⟨
    ⟨({ wB with run := .firmware, role := .active }).setReg Key.PERT_RUNNING 0, by decide, by decide, by decide⟩,
    ⟨{ wB with run := .firmware, role := .active },
      (({ wB with run := .firmware, role := .active }).twinTake ({ tagged := true }) .failing false).2, { tagged := true },
      .failing, by decide, by decide, Prod.ext (by decide) rfl⟩,
    ⟨{ wB with run := .firmware, role := .standby },
      (({ wB with run := .firmware, role := .standby }).twinTake ({ payload := [0, 0, 0, 128] }) .absent false).2,
      { payload := [0, 0, 0, 128] }, .absent, by decide, by decide, Prod.ext (by decide) rfl, by decide⟩,
    ⟨{ wB with run := .firmware }, {}, .absent, by decide, by decide⟩,
    ⟨{ wB with run := .firmware, role := .active },
      (({ wB with run := .firmware, role := .active }).twinTake {} .absent (({ wB with run := .firmware, role := .active }).flag Key.KEY_TWIN_AUTH)).2,
      {}, .absent, by decide, by decide, Prod.ext (by decide) rfl⟩,
    ⟨({ wB with run := .firmware, role := .standby }).setReg Key.TWST_SYNC_STATE 1,
      ((({ wB with run := .firmware, role := .standby }).setReg Key.TWST_SYNC_STATE 1).twinTake {} .absent ((({ wB with run := .firmware, role := .standby }).setReg Key.TWST_SYNC_STATE 1).flag Key.KEY_TWIN_AUTH)).2,
      {}, .absent, by decide, by decide, Prod.ext (by decide) rfl, by decide, by decide, by decide⟩,
    ⟨({ wB with run := .firmware, role := .standby }).setReg Key.TWST_SYNC_STATE 1,
      ((({ wB with run := .firmware, role := .standby }).setReg Key.TWST_SYNC_STATE 1).twinTake ({ payload := [0, 0, 0, 5] }) .absent ((({ wB with run := .firmware, role := .standby }).setReg Key.TWST_SYNC_STATE 1).flag Key.KEY_TWIN_AUTH)).2,
      { payload := [0, 0, 0, 5] }, .absent, by decide, by decide, Prod.ext (by decide) rfl, by decide, by decide⟩,
    ⟨({ wB with run := .firmware, role := .standby }).setReg Key.TWST_SYNC_STATE 2,
      ((({ wB with run := .firmware, role := .standby }).setReg Key.TWST_SYNC_STATE 2).twinTake {} .absent ((({ wB with run := .firmware, role := .standby }).setReg Key.TWST_SYNC_STATE 2).flag Key.KEY_TWIN_AUTH)).2,
      {}, .absent, by decide, by decide, Prod.ext (by decide) rfl, by decide⟩,
    ⟨({ wB with run := .firmware, role := .standby }).setReg Key.TWST_SYNC_STATE 1,
      ((({ wB with run := .firmware, role := .standby }).setReg Key.TWST_SYNC_STATE 1).twinTake {} .absent ((({ wB with run := .firmware, role := .standby }).setReg Key.TWST_SYNC_STATE 1).flag Key.KEY_TWIN_AUTH)).2,
      {}, .absent, by decide, by decide, Prod.ext (by decide) rfl, by decide⟩,
    ⟨{ wB with run := .firmware, role := .active, twin := { wB.twin with waits := [(0, ⟨.mailbox, 0, none, []⟩)] } },
      (({ wB with run := .firmware, role := .active, twin := { wB.twin with waits := [(0, ⟨.mailbox, 0, none, []⟩)] } }).twinTake {} .absent (({ wB with run := .firmware, role := .active, twin := { wB.twin with waits := [(0, ⟨.mailbox, 0, none, []⟩)] } }).flag Key.KEY_TWIN_AUTH)).2,
      {}, .absent, (0, ⟨.mailbox, 0, none, []⟩), by decide, by decide, Prod.ext (by decide) rfl, by decide⟩⟩

/-- The hypotheses of `Obligations.Handover` can be met, clause by clause. -/
theorem witness_Handover :
    (∃ (s : State) (w : Writer), s.fwOn = true ∧ Accepts s w Key.TWIN_HANDOVER_REQUEST 1 ∧ s.role = .active ∧
      s.peerReady = true) ∧
    (∃ (s : State) (w : Writer), s.fwOn = true ∧ Accepts s w Key.TWIN_HANDOVER_REQUEST 1 ∧ s.role = .standby) ∧
    (∃ (s : State) (c : Nat), s.role = .active ∧ s.twin.proposed = none) ∧
    (∃ (s : State) (u : State) (fr : Frame) (g : TagCheck), s.fwOn = true ∧ s.role = .standby ∧
      s.twinTake fr g (s.flag Key.KEY_TWIN_AUTH && beAt fr.payload 1 1 != 7) = (some (), u) ∧ u.readyNow = true ∧
      beAt fr.payload 1 1 = 5) ∧
    (∃ (s : State) (u : State) (fr : Frame) (g : TagCheck), s.fwOn = true ∧ s.role = .standby ∧
      s.twinTake fr g (s.flag Key.KEY_TWIN_AUTH && beAt fr.payload 1 1 != 7) = (some (), u) ∧ u.readyNow = false) ∧
    (∃ (s : State) (u : State) (fr : Frame) (g : TagCheck) (b : Int) (c : Nat), s.fwOn = true ∧ s.role = .active ∧
      s.twin.proposed = some (b, c) ∧ s.twinTake fr g (s.flag Key.KEY_TWIN_AUTH && c != 7) = (some (), u) ∧
      (beAt fr.payload 4 8 : Int) = b ∧ beAt fr.payload 1 1 = 0) ∧
    (∃ (s : State) (b : Int) (c : Nat), s.fwOn = true ∧ s.twin.proposed = some (b, c) ∧ s.twin.agreed = true ∧
      s.role = .active) ∧
    (∃ (s : State) (b : Int) (c : Nat), s.fwOn = true ∧ s.twin.proposed = some (b, c) ∧ s.twin.agreed = true ∧
      s.role = .standby) ∧
    (∃ (s : State) (b : Int) (c : Nat), s.fwOn = true ∧ s.twin.proposed = some (b, c) ∧ s.twin.agreed = false ∧
      s.role = .active) ∧
    (∃ (s : State) (a : Nat), s.logicOn = true ∧ s.role = .standby ∧ s.twin.silentAt = some a ∧ s.up 2 = true ∧
      s.twin.weak = 0 ∧ s.twin.won = some false ∧ s.twin.seizing = false) ∧
    (∃ (s : State) (a : Nat), s.fwOn = true ∧ s.role = .active ∧ s.twin.revertAt = some a ∧ s.twin.proposed = none) :=
  ⟨
    ⟨{ wB with run := .firmware, role := .active, peerReady := true }, wV, by decide, ⟨by decide, by decide⟩, by decide,
      by decide⟩,
    ⟨{ wB with run := .firmware, role := .standby }, wV, by decide, ⟨by decide, by decide⟩, by decide⟩,
    ⟨{ wB with run := .firmware, role := .active, twin := { wB.twin with proposed := none } }, 0, by decide, by decide⟩,
    ⟨({ wB with run := .firmware, role := .standby }).setReg Key.TWST_SYNC_STATE 2,
      ((({ wB with run := .firmware, role := .standby }).setReg Key.TWST_SYNC_STATE 2).twinTake (({ payload := [0, 5] } : Frame)) .absent ((({ wB with run := .firmware, role := .standby }).setReg Key.TWST_SYNC_STATE 2).flag Key.KEY_TWIN_AUTH && beAt (({ payload := [0, 5] } : Frame)).payload 1 1 != 7)).2,
      ({ payload := [0, 5] } : Frame), .absent, by decide, by decide, Prod.ext (by decide) rfl, by decide, by decide⟩,
    ⟨{ wB with run := .firmware, role := .standby },
      (({ wB with run := .firmware, role := .standby }).twinTake (({} : Frame)) .absent (({ wB with run := .firmware, role := .standby }).flag Key.KEY_TWIN_AUTH && beAt (({} : Frame)).payload 1 1 != 7)).2,
      ({} : Frame), .absent, by decide, by decide, Prod.ext (by decide) rfl, by decide⟩,
    ⟨{ wB with run := .firmware, role := .active, twin := { wB.twin with proposed := some (0, 0) } },
      (({ wB with run := .firmware, role := .active, twin := { wB.twin with proposed := some (0, 0) } }).twinTake {} .absent (({ wB with run := .firmware, role := .active, twin := { wB.twin with proposed := some (0, 0) } }).flag Key.KEY_TWIN_AUTH && 0 != 7)).2,
      {}, .absent, 0, 0, by decide, by decide, by decide, Prod.ext (by decide) rfl, by decide, by decide⟩,
    ⟨{ wB with run := .firmware, role := .active, twin := { wB.twin with proposed := some (0, 0), agreed := true } }, 0, 0,
      by decide, by decide, by decide, by decide⟩,
    ⟨{ wB with run := .firmware, role := .standby, twin := { wB.twin with proposed := some (0, 0), agreed := true } }, 0, 0,
      by decide, by decide, by decide, by decide⟩,
    ⟨{ wB with run := .firmware, role := .active, twin := { wB.twin with proposed := some (0, 0), agreed := false } }, 0, 0,
      by decide, by decide, by decide, by decide⟩,
    ⟨({ wB with run := .firmware, role := .standby, twin := { wB.twin with silentAt := some 0, weak := 0, won := some false, seizing := false } }).setReg (Key.PORT_STATE 2) 4,
      0, by decide, by decide, by decide, by decide, by decide, by decide, by decide⟩,
    ⟨{ wB with run := .firmware, role := .active, twin := { wB.twin with revertAt := some 0, proposed := none } }, 0,
      by decide, by decide, by decide, by decide⟩⟩

/-- The hypotheses of `Obligations.Faults` can be met, clause by clause. -/
theorem witness_Faults :
    (∃ (s : State) (n : Fin 512) (i : Nat) (d : Nat) (l : Bool), s.logicOn = true ∧ faultAllocated n = false) ∧
    (∃ (s : State) (n : Fin 512) (i : Nat) (d : Nat) (l : Bool), s.logicOn = true ∧ faultAllocated n = true) ∧
    (∃ (s : State) (n : Fin 512), s.logicOn = true ∧ (s.flt n).live = true) ∧
    (∃ (s : State) (u : State) (n : Fin 512), s.logicOn = true ∧ (s.flt n).inFault = true ∧ (s.flt n).live = false ∧
      (s.flt n).suspended = false ∧ bitOf (s.fltCfg n) 57 = true ∧
      u = s.until (max (s.flt n).lastAt (s.flt n).fellAt + fltSpan (fld (s.fltCfg n) 31 30) (fld (s.fltCfg n) 29 18)) ∧
      fld (s.fltCfg n) 17 14 ≤ u.recoveries n) ∧
    (∃ (s : State) (u : State) (n : Fin 512), s.logicOn = true ∧ (s.flt n).inFault = true ∧ (s.flt n).live = false ∧
      (s.flt n).suspended = false ∧ bitOf (s.fltCfg n) 57 = true ∧
      u = s.until (max (s.flt n).lastAt (s.flt n).fellAt + fltSpan (fld (s.fltCfg n) 31 30) (fld (s.fltCfg n) 29 18)) ∧
      u.recoveries n < fld (s.fltCfg n) 17 14) ∧
    (∃ (s : State) (w : Writer) (n : Fin 512), s.fwOn = true ∧ Accepts s w (Key.FLT_FAULT_COMMAND (n / 128) (n % 128)) 1 ∧
      (s.flt n).live = true) ∧
    (∃ (s : State) (w : Writer) (n : Fin 512), s.fwOn = true ∧ Accepts s w (Key.FLT_FAULT_COMMAND (n / 128) (n % 128)) 1 ∧
      (s.flt n).live = false ∧ (s.flt n).inFault = true) ∧
    (∃ (s : State) (w : Writer) (n : Fin 512), s.fwOn = true ∧ Accepts s w (Key.FLT_FAULT_COMMAND (n / 128) (n % 128)) 2 ∧
      roleRank .engineer ≤ roleRank w.role ∧ s.hub.mode = .maint) ∧
    (∃ (s : State) (w : Writer) (n : Fin 512), s.fwOn = true ∧ Accepts s w (Key.FLT_FAULT_COMMAND (n / 128) (n % 128)) 2 ∧
      roleRank .engineer ≤ roleRank w.role ∧ s.hub.mode ≠ .maint) ∧
    (∃ (s : State) (w : Writer) (n : Fin 512), s.fwOn = true ∧ Accepts s w (Key.FLT_FAULT_COMMAND (n / 128) (n % 128)) 3) ∧
    (∃ (s : State), s.logicOn = true ∧ s.cru.storm ≠ [] ∧ s.cru.queue = []) ∧
    (∃ (s : State), s.run = .unpowered) ∧
    (∃ (s : State), s.run = .firmware) ∧
    (∃ (s : State) (w : Writer), s.fwOn = true ∧ Accepts s w Key.CRU_TRIGGER 1) :=
  ⟨
    ⟨{ wB with run := .firmware }, 3, 0, 0, true, by decide, by decide⟩,
    ⟨{ wB with run := .firmware }, 0, 0, 0, true, by decide, by decide⟩,
    ⟨({ wB with run := .firmware }).setFlt 0 { live := true }, 0, by decide, by decide⟩,
    ⟨(({ wB with run := .firmware }).setFlt 0 { inFault := true, live := false, suspended := false }).setReg (Key.FLT_FAULT_CFG (0 / 128) (0 % 128)) (2 ^ 57),
      ((({ wB with run := .firmware }).setFlt 0 { inFault := true, live := false, suspended := false }).setReg (Key.FLT_FAULT_CFG (0 / 128) (0 % 128)) (2 ^ 57)).until (max (((({ wB with run := .firmware }).setFlt 0 { inFault := true, live := false, suspended := false }).setReg (Key.FLT_FAULT_CFG (0 / 128) (0 % 128)) (2 ^ 57)).flt 0).lastAt (((({ wB with run := .firmware }).setFlt 0 { inFault := true, live := false, suspended := false }).setReg (Key.FLT_FAULT_CFG (0 / 128) (0 % 128)) (2 ^ 57)).flt 0).fellAt + fltSpan (fld (((({ wB with run := .firmware }).setFlt 0 { inFault := true, live := false, suspended := false }).setReg (Key.FLT_FAULT_CFG (0 / 128) (0 % 128)) (2 ^ 57)).fltCfg 0) 31 30) (fld (((({ wB with run := .firmware }).setFlt 0 { inFault := true, live := false, suspended := false }).setReg (Key.FLT_FAULT_CFG (0 / 128) (0 % 128)) (2 ^ 57)).fltCfg 0) 29 18)),
      0, by decide, by decide, by decide, by decide, by decide, rfl, by decide⟩,
    ⟨(({ wB with run := .firmware }).setFlt 0 { inFault := true, live := false, suspended := false }).setReg (Key.FLT_FAULT_CFG (0 / 128) (0 % 128)) (2 ^ 57 + 2 ^ 14),
      ((({ wB with run := .firmware }).setFlt 0 { inFault := true, live := false, suspended := false }).setReg (Key.FLT_FAULT_CFG (0 / 128) (0 % 128)) (2 ^ 57 + 2 ^ 14)).until (max (((({ wB with run := .firmware }).setFlt 0 { inFault := true, live := false, suspended := false }).setReg (Key.FLT_FAULT_CFG (0 / 128) (0 % 128)) (2 ^ 57 + 2 ^ 14)).flt 0).lastAt (((({ wB with run := .firmware }).setFlt 0 { inFault := true, live := false, suspended := false }).setReg (Key.FLT_FAULT_CFG (0 / 128) (0 % 128)) (2 ^ 57 + 2 ^ 14)).flt 0).fellAt + fltSpan (fld (((({ wB with run := .firmware }).setFlt 0 { inFault := true, live := false, suspended := false }).setReg (Key.FLT_FAULT_CFG (0 / 128) (0 % 128)) (2 ^ 57 + 2 ^ 14)).fltCfg 0) 31 30) (fld (((({ wB with run := .firmware }).setFlt 0 { inFault := true, live := false, suspended := false }).setReg (Key.FLT_FAULT_CFG (0 / 128) (0 % 128)) (2 ^ 57 + 2 ^ 14)).fltCfg 0) 29 18)),
      0, by decide, by decide, by decide, by decide, by decide, rfl, by decide⟩,
    ⟨({ wB with run := .firmware }).setFlt 0 { live := true }, wV, 0, by decide, ⟨by decide, by decide⟩, by decide⟩,
    ⟨({ wB with run := .firmware }).setFlt 0 { live := false, inFault := true }, wV, 0, by decide, ⟨by decide, by decide⟩,
      by decide, by decide⟩,
    ⟨{ wB with run := .firmware, hub := { wB.hub with mode := .maint } }, wV, 0, by decide, ⟨by decide, by decide⟩,
      by decide, by decide⟩,
    ⟨{ wB with run := .firmware, hub := { wB.hub with mode := .preop } }, wV, 0, by decide, ⟨by decide, by decide⟩,
      by decide, by decide⟩,
    ⟨{ wB with run := .firmware }, wV, 0, by decide, ⟨by decide, by decide⟩⟩,
    ⟨{ wB with run := .firmware, cru := { wB.cru with storm := [(1, 1)] } }, by decide, by decide, by decide⟩,
    ⟨{ wB with run := .unpowered }, by decide⟩,
    ⟨{ wB with run := .firmware }, by decide⟩,
    ⟨{ wB with run := .firmware }, wV, by decide, ⟨by decide, by decide⟩⟩⟩

/-- The hypotheses of `Obligations.PolicyAndCore` can be met, clause by clause. -/
theorem witness_PolicyAndCore :
    (∃ (s : State) (m : List (Fin 256 × Int)), s.fwOn = true) ∧
    (∃ (s : State) (w : Writer) (r : Fin 128) (v : Nat), s.fwOn = true ∧ Accepts s w (Key.POL_RULE (r / 32) (r % 32)) v ∧
      ruleOk v = true) ∧
    (∃ (s : State) (w : Writer) (r : Fin 128) (v : Nat), s.fwOn = true ∧ Accepts s w (Key.POL_RULE (r / 32) (r % 32)) v ∧
      ruleOk v = false) ∧
    (∃ (s : State) (w : Writer) (i : Fin 16) (v : Nat), s.fwOn = true ∧ pertStart v = true) ∧
    (∃ (s : State) (w : Writer) (i : Fin 16) (v : Nat), s.fwOn = true ∧ pertStart v = false) ∧
    (∃ (s : State) (i : Fin 16), s.logicOn = true ∧ s.reg (Key.PSLOT_STATE i) ≠ 0) ∧
    (∃ (s : State) (w : Writer), s.fwOn = true ∧ Accepts s w Key.PERT_STOP_ALL 1) ∧
    (∃ (s : State), s.logicOn = true ∧ s.localTraffic = false ∧ s.reg Key.PWS_CORE_STATE = 0) ∧
    (∃ (s : State), s.logicOn = true ∧ s.localTraffic = false ∧ s.reg Key.PWS_CORE_STATE = 1 ∧
      s.reg Key.PWR_CORE_GATE_MS ≠ 0 ∧ s.reg Key.HOST_LINK = 0 ∧ s.sw.queues = []) ∧
    (∃ (s : State), s.logicOn = true ∧ s.reg Key.PWS_CORE_STATE ≠ 0) ∧
    (∃ (s : State), s.logicOn = true ∧ s.sw.queues.any (fun c => c.2.present != 0) = true ∧ s.reg Key.PWS_CORE_STATE ≠ 0) ∧
    (∃ (s : State) (p : Fin 2), s.logicOn = true) ∧
    (∃ (s : State) (p : Fin 2), s.fwOn = true) :=
  ⟨
    ⟨{ wB with run := .firmware }, [], by decide⟩,
    ⟨{ wB with run := .firmware }, wV, 0, 0, by decide, ⟨by decide, by decide⟩, by decide⟩,
    ⟨{ wB with run := .firmware }, wV, 0, 9 * 256 ^ 21, by decide, ⟨by decide, by decide⟩, by decide⟩,
    ⟨{ wB with run := .firmware }, wV, 0, 128 * 256, by decide, by decide⟩,
    ⟨{ wB with run := .firmware }, wV, 0, 0, by decide, by decide⟩,
    ⟨({ wB with run := .firmware }).setReg (Key.PSLOT_STATE 0) 1, 0, by decide, by decide⟩,
    ⟨{ wB with run := .firmware }, wV, by decide, ⟨by decide, by decide⟩⟩,
    ⟨({ wB with run := .firmware }).setReg Key.PWS_CORE_STATE 0, by decide, by decide, by decide⟩,
    ⟨((({ wB with run := .firmware, sw := { wB.sw with queues := [] } }).setReg Key.PWS_CORE_STATE 1).setReg Key.PWR_CORE_GATE_MS 1).setReg Key.HOST_LINK 0,
      by decide, by decide, by decide, by decide, by decide, by decide⟩,
    ⟨({ wB with run := .firmware }).setReg Key.PWS_CORE_STATE 1, by decide, by decide⟩,
    ⟨({ wB with run := .firmware, sw := { wB.sw with queues := [(0, { frames := [{ frame := {} }] })] } }).setReg Key.PWS_CORE_STATE 1,
      by decide, by decide, by decide⟩,
    ⟨{ wB with run := .firmware }, 0, by decide⟩,
    ⟨{ wB with run := .firmware }, 0, by decide⟩⟩

/-- The hypotheses of `Obligations.Supplies` can be met, clause by clause. -/
theorem witness_Supplies :
    (∃ (s : State) (v : Nat), s.logicOn = false ∧ s.field.powered = true ∧ s.flag Key.PWS_WARNING = false) ∧
    (∃ (s : State) (v : Nat), s.field.powered = true ∧ s.flag Key.PWS_WARNING = true) ∧
    (∃ (s : State), s.flag Key.PWS_WARNING = true) ∧
    (∃ (s : State) (v : Nat), s.field.powered = true ∧ s.power.vfieldLow = false ∧ s.logicOn = true) ∧
    (∃ (s : State) (b : Bool) (v : Nat), s.logicOn = true ∧ s.field.powered = true) ∧
    (∃ (s : State) (b : Bool), s.logicOn = true) ∧
    (∃ (s : State) (l : List (Nat × Nat)), s.logicOn = true) ∧
    (∃ (s : State) (a : Int) (b : Int) (c : Int), s.logicOn = true ∧ a < s.tMax - 150 ∧ b < s.tMax - 150 ∧ c < s.tMax - 150) :=
  ⟨
    ⟨({ wB with field := { wB.field with powered := true }, run := .held }).setReg Key.PWS_WARNING 0, 0, by decide,
      by decide, by decide⟩,
    ⟨({ wB with run := .firmware, field := { wB.field with powered := true } }).setReg Key.PWS_WARNING 1, 0, by decide,
      by decide⟩,
    ⟨({ wB with run := .firmware }).setReg Key.PWS_WARNING 1, by decide⟩,
    ⟨{ wB with run := .firmware, field := { wB.field with powered := true }, power := { wB.power with vfieldLow := false } },
      0, by decide, by decide, by decide⟩,
    ⟨{ wB with run := .firmware, field := { wB.field with powered := true } }, true, 0, by decide, by decide⟩,
    ⟨{ wB with run := .firmware }, true, by decide⟩,
    ⟨{ wB with run := .firmware }, [], by decide⟩,
    ⟨{ wB with run := .firmware }, 0, 0, 0, by decide, by decide, by decide, by decide⟩⟩

/-- The hypotheses of `Obligations.LifeCycle` can be met, clause by clause. -/
theorem witness_LifeCycle :
    (∃ (s : State) (w : Writer) (v : Nat) (g : Bool), s.fwOn = true ∧ v < 2 ^ 2080 ∧ s.reg Key.LC_STATE ≠ 0) ∧
    (∃ (s : State) (w : Writer) (v : Nat) (g : Bool), s.fwOn = true ∧ v < 2 ^ 2080 ∧ s.reg Key.LC_STATE ≠ 1) ∧
    (∃ (s : State) (w : Writer) (v : Nat) (g : Bool), s.fwOn = true ∧ v < 2 ^ 2080 ∧ s.reg Key.LC_STATE ≠ 2) ∧
    (∃ (s : State) (w : Writer) (v : Nat) (g : Bool), s.fwOn = true ∧ v < 2 ^ 2080 ∧ s.reg Key.LC_STATE ≠ 2) ∧
    (∃ (s : State) (w : Writer) (v : Nat) (g : Bool), s.fwOn = true ∧ v < 2 ^ 2080 ∧ 4 ≤ s.reg Key.LC_STATE) ∧
    (∃ (s : State) (w : Writer) (v : Nat) (g : Bool), s.fwOn = true ∧ s.reg Key.LC_STATE = 0 ∧
      Accepts s w Key.LC_TRANSITION v ∧ trCheck w 1 v g s = none) ∧
    (∃ (s : State) (w : Writer) (v : Nat) (g : Bool), s.fwOn = true ∧ s.reg Key.LC_STATE = 1 ∧
      Accepts s w Key.LC_TRANSITION v ∧ trCheck w 2 v g s = none) ∧
    (∃ (s : State) (w : Writer) (v : Nat) (g : Bool), s.fwOn = true ∧ s.reg Key.LC_STATE = 2 ∧
      Accepts s w Key.LC_TRANSITION v ∧ trCheck w 3 v g s = none) ∧
    (∃ (s : State) (w : Writer) (v : Nat) (g : Bool), s.fwOn = true ∧ s.reg Key.LC_STATE = 2 ∧
      Accepts s w Key.LC_TRANSITION v ∧ trCheck w 4 v g s = none ∧ s.flag Key.KEYED = false) ∧
    (∃ (s : State) (w : Writer) (v : Nat) (g : Bool), s.fwOn = true ∧ s.reg Key.LC_STATE < 4 ∧
      Accepts s w Key.LC_TRANSITION v ∧ trCheck w 5 v g s = none ∧ s.flag Key.KEYED = false) ∧
    (∃ (s : State), s.keys.root = none) ∧
    (∃ (s : State) (r : Nat × Nat × Nat × Nat), s.fwOn = true ∧ s.keys.root = some r) :=
  ⟨
    ⟨({ wB with run := .firmware }).setReg Key.LC_STATE 1, wV, 0, true, by decide, by decide, by decide⟩,
    ⟨({ wB with run := .firmware }).setReg Key.LC_STATE 2, wV, 0, true, by decide, by decide, by decide⟩,
    ⟨({ wB with run := .firmware }).setReg Key.LC_STATE 3, wV, 0, true, by decide, by decide, by decide⟩,
    ⟨({ wB with run := .firmware }).setReg Key.LC_STATE 3, wV, 0, true, by decide, by decide, by decide⟩,
    ⟨({ wB with run := .firmware }).setReg Key.LC_STATE 4, wV, 0, true, by decide, by decide, by decide⟩,
    ⟨({ wB with run := .firmware }).setReg Key.LC_STATE 0, wV, 256 ^ 259 + 1 * 256 ^ 258 + 256 ^ 250 + 2 ^ 30 * 256 ^ 246,
      true, by decide, by decide, ⟨by decide, by decide⟩, by decide⟩,
    ⟨({ wB with run := .firmware }).setReg Key.LC_STATE 1, ⟨.service, .dict 9 1 true⟩,
      256 ^ 259 + 2 * 256 ^ 258 + 256 ^ 250 + 2 ^ 30 * 256 ^ 246, true, by decide, by decide, ⟨by decide, by decide⟩,
      by decide⟩,
    ⟨({ wB with run := .firmware }).setReg Key.LC_STATE 2, ⟨.service, .dict 9 1 true⟩,
      256 ^ 259 + 3 * 256 ^ 258 + 256 ^ 250 + 2 ^ 30 * 256 ^ 246, true, by decide, by decide, ⟨by decide, by decide⟩,
      by decide⟩,
    ⟨(({ wB with run := .firmware }).setReg Key.LC_STATE 2).setReg Key.KEYED 0, ⟨.service, .dict 9 1 true⟩,
      256 ^ 259 + 4 * 256 ^ 258 + 256 ^ 250 + 2 ^ 30 * 256 ^ 246, true, by decide, by decide, ⟨by decide, by decide⟩,
      by decide, by decide⟩,
    ⟨({ wB with run := .firmware }).setReg Key.KEYED 0, wV, 256 ^ 259 + 5 * 256 ^ 258 + 256 ^ 250 + 2 ^ 30 * 256 ^ 246, true,
      by decide, by decide, ⟨by decide, by decide⟩, by decide, by decide⟩,
    ⟨{ wB with run := .firmware, keys := { wB.keys with root := none } }, by decide⟩,
    ⟨{ wB with run := .firmware, keys := { wB.keys with root := some (0, 0, 0, 0) } }, (0, 0, 0, 0), by decide, by decide⟩⟩

/-- The hypotheses of `Obligations.Keys` can be met, clause by clause. -/
theorem witness_Keys :
    (∃ (s : State) (b : Bool), s.keys.loaded = true) ∧
    (∃ (s : State) (b : Bool), s.fwOn = true ∧ s.keys.loaded = false) ∧
    (∃ (s : State) (b : Bool), s.rootInSlot = false ∧ s.reg Key.LC_STATE ≠ 4) ∧
    (∃ (s : State), s.rootInSlot = true ∧ s.reg Key.LC_STATE ≠ 4 ∧ s.slotValid 2 = true) ∧
    (∃ (s : State) (b : Bool), s.rootInSlot = true ∧ s.slotValid 2 = false) ∧
    (∃ (s : State), s.fwOn = true ∧ s.flag Key.KEYED = true) ∧
    (∃ (s : State), s.tagHeld = []) ∧
    (∃ (s : State) (f : Frame) (l : List Frame), s.logicOn = true ∧ s.tagHeld = f :: l ∧ s.tagWaits = false ∧
      s.ivFull false = false ∧ f.kind ≠ 7 ∧ f.kind ≠ 9) ∧
    (∃ (s : State) (w : Writer), s.fwOn = true ∧ Accepts s w Key.KEY_EPOCH_COMMIT 1 ∧
      s.reg Key.KEY_EPOCH_NEXT ≠ (s.epoch + 1) % 256) ∧
    (∃ (s : State) (w : Writer) (n : Nat), s.fwOn = true ∧ Accepts s w Key.KEY_EPOCH_COMMIT 1 ∧
      s.reg Key.KEY_EPOCH_NEXT = (s.epoch + 1) % 256 ∧ n = s.turnNear (s.reg Key.KEY_EPOCH_TURN) ∧ s.tooNear n = false) ∧
    (∃ (s : State), s.keys.next = none) ∧
    (∃ (s : State) (x : Nat × Nat × Nat), s.fwOn = true ∧ s.keys.next = some x) ∧
    (∃ (s : State), s.fwOn = true ∧ s.flag Key.KEYED = true) ∧
    (∃ (s : State), s.fwOn = true ∧ s.flag Key.KEYED = true) ∧
    (∃ (s : State) (n : Nat), s.flag Key.KEYED = false) ∧
    (∃ (s : State) (n : Nat), s.flag Key.KEYED = true) ∧
    (∃ (s : State) (w : Writer), s.fwOn = true ∧ Accepts s w Key.KEY_ZEROISE 1) ∧
    (∃ (s : State) (a : Nat), s.fwOn = true ∧ s.keys.lostAt = some a ∧ s.role = .active ∧ s.authRequired = true) ∧
    (∃ (s : State) (w : Writer) (v : Nat), s.fwOn = true ∧ Accepts s w Key.ATTEST_REQUEST v ∧
      s.slotValid (octAt 33 v 0 1) = true ∧ s.slotValid 0 = true) ∧
    (∃ (s : State) (x : Nat × List Byte × Nat), s.fwOn = true ∧ s.keys.attest = some x) ∧
    (∃ (s : State) (w : Writer) (v : Nat), s.fwOn = true ∧ Accepts s w Key.KEY_COUNTERSIGN_KEY v ∧ s.slotValid 3 = true) ∧
    (∃ (s : State) (w : Writer) (v : Nat), s.fwOn = true ∧ Accepts s w Key.KEY_COUNTERSIGN_KEY v) :=
  ⟨
    ⟨{ wB with run := .firmware, keys := { wB.keys with loaded := true } }, true, by decide⟩,
    ⟨{ wB with run := .firmware, keys := { wB.keys with loaded := false } }, true, by decide, by decide⟩,
    ⟨({ wB with run := .firmware }).setReg Key.LC_STATE 5, true, by decide, by decide⟩,
    ⟨(((({ wB with run := .firmware }).setReg Key.LC_STATE 5).slotFill 2).setReg Key.LC_STATE 2).slotFill 2, by decide,
      by decide, by decide⟩,
    ⟨({ wB with run := .firmware }).setReg Key.LC_STATE 2, true, by decide, by decide⟩,
    ⟨({ wB with run := .firmware }).setReg Key.KEYED 1, by decide, by decide⟩,
    ⟨{ wB with run := .firmware, tagHeld := [] }, by decide⟩,
    ⟨({ wB with run := .firmware, tagHeld := {} :: [] }).setReg Key.TSTAT_TIME_STATE 4, {}, [], by decide, by decide,
      by decide, by decide, by decide, by decide⟩,
    ⟨{ wB with run := .firmware }, wV, by decide, ⟨by decide, by decide⟩, by decide⟩,
    ⟨((wB.setReg Key.KEY_EPOCH_NEXT 1).setReg Key.KEY_EPOCH_TURN 1000000), wV,
      (((wB.setReg Key.KEY_EPOCH_NEXT 1).setReg Key.KEY_EPOCH_TURN 1000000)).turnNear ((((wB.setReg Key.KEY_EPOCH_NEXT 1).setReg Key.KEY_EPOCH_TURN 1000000)).reg Key.KEY_EPOCH_TURN),
      by decide, ⟨by decide, by decide⟩, by decide, rfl, by decide⟩,
    ⟨{ wB with run := .firmware, keys := { wB.keys with next := none } }, by decide⟩,
    ⟨{ wB with run := .firmware, keys := { wB.keys with next := some (0, 0, 0) } }, (0, 0, 0), by decide, by decide⟩,
    ⟨({ wB with run := .firmware }).setReg Key.KEYED 1, by decide, by decide⟩,
    ⟨({ wB with run := .firmware }).setReg Key.KEYED 1, by decide, by decide⟩,
    ⟨({ wB with run := .firmware }).setReg Key.KEYED 0, 0, by decide⟩,
    ⟨({ wB with run := .firmware }).setReg Key.KEYED 1, 0, by decide⟩,
    ⟨{ wB with run := .firmware }, wV, by decide, ⟨by decide, by decide⟩⟩,
    ⟨({ wB with run := .firmware, role := .active, keys := { wB.keys with lostAt := some 0 } }).setReg Key.KEY_WRITE_AUTH 1,
      0, by decide, by decide, by decide, by decide⟩,
    ⟨({ wB with run := .firmware }).slotFill 0, wV, 0, by decide, ⟨by decide, by decide⟩, by decide, by decide⟩,
    ⟨{ wB with run := .firmware, keys := { wB.keys with attest := some (0, [], 0) } }, (0, [], 0), by decide, by decide⟩,
    ⟨({ wB with run := .firmware }).slotFill 3, wV, 0, by decide, ⟨by decide, by decide⟩, by decide⟩,
    ⟨{ wB with run := .firmware }, wV, 0, by decide, ⟨by decide, by decide⟩⟩⟩

/-- The hypotheses of `Obligations.Update` can be met, clause by clause. -/
theorem witness_Update :
    (∃ (s : State) (w : Writer), s.fwOn = true ∧ Accepts s w Key.UPD_COMMAND 1 ∧ s.phaseIn [0, 6] = none) ∧
    (∃ (s : State) (w : Writer), s.fwOn = true ∧ Accepts s w Key.UPD_COMMAND 1 ∧ s.phaseIn [0, 6] ≠ none) ∧
    (∃ (s : State) (w : Writer) (o : Nat) (l : List Byte), s.fwOn = true ∧ Accepts s w Key.UPD_STAGING 0 ∧
      s.reg Key.UPD_PHASE = 1 ∧ o + l.length ≤ s.reg Key.UPD_STAGE_LENGTH) ∧
    (∃ (s : State) (w : Writer) (o : Nat) (l : List Byte), s.fwOn = true ∧ Accepts s w Key.UPD_STAGING 0 ∧
      s.reg Key.UPD_PHASE = 1 ∧ s.reg Key.UPD_STAGE_LENGTH < o + l.length) ∧
    (∃ (s : State) (w : Writer), s.fwOn = true ∧ Accepts s w Key.UPD_COMMAND 2 ∧ s.reg Key.UPD_PHASE = 1 ∧
      s.stagedWhole = true ∧ hdrOk s.stagedHeader = false) ∧
    (∃ (s : State) (w : Writer), s.fwOn = true ∧ Accepts s w Key.UPD_COMMAND 2 ∧ s.reg Key.UPD_PHASE = 1 ∧
      s.stagedWhole = true ∧ hdrOk s.stagedHeader = true ∧ (imageInfo s.stagedHeader).length = s.reg Key.UPD_STAGE_LENGTH) ∧
    (∃ (s : State) (w : Writer), s.fwOn = true ∧ Accepts s w Key.UPD_COMMAND 2 ∧ s.reg Key.UPD_PHASE = 1 ∧
      s.stagedWhole = true ∧ hdrOk s.stagedHeader = true ∧ (imageInfo s.stagedHeader).length = s.reg Key.UPD_STAGE_LENGTH ∧
      (imageInfo s.stagedHeader).loaderMin ≤ s.reg Key.ID_LOADER_VERSION) ∧
    (∃ (s : State) (x : ImageInfo), s.fwOn = true ∧ s.boot.writing = some x ∧ s.reg Key.UPD_PHASE = 2 ∧
      s.reg Key.UPD_PROGRESS + 1 < (x.length + 65535) / 65536) ∧
    (∃ (s : State) (x : ImageInfo), s.fwOn = true ∧ s.boot.writing = some x ∧ s.reg Key.UPD_PHASE = 2 ∧
      (x.length + 65535) / 65536 ≤ s.reg Key.UPD_PROGRESS + 1) ∧
    (∃ (s : State) (w : Writer), s.fwOn = true ∧ Accepts s w Key.UPD_COMMAND 3 ∧ s.reg Key.UPD_PHASE = 5) ∧
    (∃ (s : State) (w : Writer), s.fwOn = true ∧ Accepts s w Key.UPD_COMMAND 4 ∧ s.reg Key.UPD_PHASE = 1) ∧
    (∃ (s : State), s.fwOn = true ∧ s.reg Key.UPD_PHASE = 5 ∧ s.boot.trialRaised = false) ∧
    (∃ (s : State), s.boot.trialRaised = true) :=
  ⟨
    ⟨{ wB with run := .firmware }, wV, by decide, ⟨by decide, by decide⟩, by decide⟩,
    ⟨({ wB with run := .firmware }).setReg Key.UPD_PHASE 1, wV, by decide, ⟨by decide, by decide⟩, by decide⟩,
    ⟨({ wB with run := .firmware }).setReg Key.UPD_PHASE 1, wV, 0, [], by decide,
      ⟨permit_zero _ _ _ ((objRow Key.UPD_STAGING).getD wRow) .service 30 false (by decide) (by decide) (by decide) (by decide) (by decide) (by decide) (by decide),
      by decide⟩, by decide, by decide⟩,
    ⟨({ wB with run := .firmware }).setReg Key.UPD_PHASE 1, wV, 6291457, [], by decide,
      ⟨permit_zero _ _ _ ((objRow Key.UPD_STAGING).getD wRow) .service 30 false (by decide) (by decide) (by decide) (by decide) (by decide) (by decide) (by decide),
      by decide⟩, by decide, by decide⟩,
    ⟨({ wB with run := .firmware }).setReg Key.UPD_PHASE 1, wV, by decide, ⟨by decide, by decide⟩, by decide, by decide,
      by decide⟩,
    ⟨(({ wB with run := .firmware, boot := { wB.boot with staged := [(0, [0x42, 0x46, 0x57, 0x49, 0, 1, 0, 0, 0, 0, 7, 0x20, 3, 0, 0, 0] ++ List.replicate 8 0 ++ [0, 0, 0, 28])] } }).setReg Key.UPD_PHASE 1).setReg Key.UPD_STAGE_LENGTH 28,
      wV, by decide, ⟨by decide, by decide⟩, by decide, by decide, by decide, by decide⟩,
    ⟨(({ wB with run := .firmware, boot := { wB.boot with staged := [(0, [0x42, 0x46, 0x57, 0x49, 0, 1, 0, 0, 0, 0, 7, 0x20, 3, 0, 0, 0] ++ List.replicate 8 0 ++ [0, 0, 0, 28])] } }).setReg Key.UPD_PHASE 1).setReg Key.UPD_STAGE_LENGTH 28,
      wV, by decide, ⟨by decide, by decide⟩, by decide, by decide, by decide, by decide, by decide⟩,
    ⟨({ wB with run := .firmware, boot := { wB.boot with writing := some { length := 131073 } } }).setReg Key.UPD_PHASE 2,
      { length := 131073 }, by decide, by decide, by decide, by decide⟩,
    ⟨({ wB with run := .firmware, boot := { wB.boot with writing := some {} } }).setReg Key.UPD_PHASE 2, {}, by decide,
      by decide, by decide, by decide⟩,
    ⟨({ wB with run := .firmware }).setReg Key.UPD_PHASE 5, wV, by decide, ⟨by decide, by decide⟩, by decide⟩,
    ⟨({ wB with run := .firmware }).setReg Key.UPD_PHASE 1, wV, by decide, ⟨by decide, by decide⟩, by decide⟩,
    ⟨({ wB with run := .firmware, boot := { wB.boot with trialRaised := false } }).setReg Key.UPD_PHASE 5, by decide,
      by decide, by decide⟩,
    ⟨{ wB with run := .firmware, boot := { wB.boot with trialRaised := true } }, by decide⟩⟩

/-- The hypotheses of `Obligations.Recovery` can be met, clause by clause. -/
theorem witness_Recovery :
    (∃ (s : State) (w : Writer), s.fwOn = true ∧ Accepts s w Key.UPD_ENTER_RECOVERY 1) ∧
    (∃ (s : State) (w : Writer) (o : Nat) (l : List Byte), s.inRecovery = true ∧ s.reg Key.LC_STATE = 4) ∧
    (∃ (s : State) (w : Writer) (o : Nat) (l : List Byte), s.inRecovery = true ∧ s.reg Key.LC_STATE ≠ 4 ∧
      s.permit w Key.RECOVERY_IMAGE 0 = none ∧ (o % 65536 ≠ 0 ∨ 6291456 < o + l.length ∨ 65536 < l.length)) ∧
    (∃ (s : State) (w : Writer) (o : Nat) (l : List Byte), s.inRecovery = true ∧ s.reg Key.LC_STATE ≠ 4 ∧
      s.permit w Key.RECOVERY_IMAGE 0 = none ∧ o % 65536 = 0 ∧ o + l.length ≤ 6291456 ∧ l.length ≤ 65536 ∧
      s.boot.blocks.length < 2) ∧
    (∃ (s : State) (p : Path) (o : Nat) (l : List Byte) (r : List (Path × Nat × List Byte)), s.inRecovery = true ∧
      s.boot.blocks = (p, o, l) :: r) ∧
    (∃ (s : State) (w : Writer), s.inRecovery = true ∧ s.reg Key.LC_STATE = 4) ∧
    (∃ (s : State) (w : Writer), s.inRecovery = true ∧ s.reg Key.LC_STATE ≠ 4 ∧ Accepts s w Key.RECOVERY_COMMAND 1) ∧
    (∃ (s : State) (b : List Byte), uartBody b = none) ∧
    (∃ (s : State) (b : List Byte) (d : List Byte), uartBody b = some d ∧ beAt d 0 1 % 16 ≠ 5 ∧ beAt d 0 1 % 16 ≠ 6 ∧
      beAt d 0 1 % 16 ≠ 7) ∧
    (∃ (s : State) (b : List Byte) (d : List Byte), uartBody b = some d ∧ beAt d 0 1 % 16 = 7) :=
  ⟨
    ⟨{ wB with run := .firmware }, wV, by decide, ⟨by decide, by decide⟩⟩,
    ⟨({ wB with run := .recovery }).setReg Key.LC_STATE 4, wV, 0, [], by decide, by decide⟩,
    ⟨{ wB with run := .recovery }, wV, 1, [], by decide, by decide,
      permit_zero _ _ _ ((objRow Key.RECOVERY_IMAGE).getD wRow) .service 64 false (by decide) (by decide) (by decide) (by decide) (by decide) (by decide) (by decide),
      by decide⟩,
    ⟨{ wB with run := .recovery }, wV, 0, [], by decide, by decide,
      permit_zero _ _ _ ((objRow Key.RECOVERY_IMAGE).getD wRow) .service 64 false (by decide) (by decide) (by decide) (by decide) (by decide) (by decide) (by decide),
      by decide, by decide, by decide, by decide⟩,
    ⟨{ wB with run := .recovery, boot := { wB.boot with blocks := (.mailbox, 0, []) :: [] } }, .mailbox, 0, [], [],
      by decide, by decide⟩,
    ⟨({ wB with run := .recovery }).setReg Key.LC_STATE 4, wV, by decide, by decide⟩,
    ⟨{ wB with run := .recovery }, wV, by decide, by decide, ⟨by decide, by decide⟩⟩,
    ⟨{ wB with run := .firmware }, [], by decide⟩,
    ⟨{ wB with run := .firmware }, wUart 1, [1] ++ List.replicate 19 0, by decide, by decide, by decide, by decide⟩,
    ⟨{ wB with run := .firmware }, wUart 7, [7] ++ List.replicate 19 0, by decide, by decide⟩⟩

/-- The hypotheses of `Obligations.JtagPort` can be met, clause by clause. -/
theorem witness_JtagPort :
    (∃ (s : State), s.run ≠ .unpowered) ∧
    (∃ (s : State), s.run ≠ .unpowered) ∧
    (∃ (s : State), s.run ≠ .unpowered) ∧
    (∃ (s : State), s.run ≠ .unpowered) ∧
    (∃ (s : State), s.run ≠ .unpowered) ∧
    (∃ (s : State), s.run ≠ .unpowered) ∧
    (∃ (s : State) (v : Nat), s.run ≠ .unpowered ∧ s.reg Key.LC_STATE = 3) ∧
    (∃ (s : State), s.run ≠ .unpowered ∧ s.reg Key.LC_STATE = 3) ∧
    (∃ (s : State) (v : Nat), s.run ≠ .unpowered ∧ s.reg Key.LC_STATE ≠ 3) ∧
    (∃ (s : State), s.run ≠ .unpowered ∧ s.reg Key.LC_STATE ≠ 3) :=
  ⟨
    ⟨{ wB with run := .firmware }, by decide⟩,
    ⟨{ wB with run := .firmware }, by decide⟩,
    ⟨{ wB with run := .firmware }, by decide⟩,
    ⟨{ wB with run := .firmware }, by decide⟩,
    ⟨{ wB with run := .firmware }, by decide⟩,
    ⟨{ wB with run := .firmware }, by decide⟩,
    ⟨({ wB with run := .firmware }).setReg Key.LC_STATE 3, 0, by decide, by decide⟩,
    ⟨({ wB with run := .firmware }).setReg Key.LC_STATE 3, by decide, by decide⟩,
    ⟨({ wB with run := .firmware }).setReg Key.LC_STATE 4, 0, by decide, by decide⟩,
    ⟨({ wB with run := .firmware }).setReg Key.LC_STATE 4, by decide, by decide⟩⟩

/-- The hypotheses of `Obligations.LmcNeverRunsBack` can be met, clause by clause. -/
theorem witness_LmcNeverRunsBack :
    (∃ (c : Instr) (s : State) (t : State), exec c s = .next t ∧ c ≠ .vddAonApplied) ∧
    (∃ (s : State), s.run = .unpowered) :=
  ⟨
    ⟨.fieldRefresh, State.reset, State.reset, rfl, fun h => nomatch h⟩,
    ⟨{ wB with run := .unpowered }, by decide⟩⟩

/-- The hypotheses of `Obligations.NoRotationWithoutFeature` can be met, clause by clause. -/
theorem witness_NoRotationWithoutFeature :
    (∃ (s : State), s.feature 0 = false) ∧
    (∃ (s : State), s.fwOn = true ∧ s.feature 0 = false) ∧
    (∃ (words : Nat) (n : Nat) (o : Nat), o < words) :=
  ⟨
    ⟨({ wB with run := .firmware }).setReg Key.FEAT_OWN_FEATURES 0, by decide⟩,
    ⟨({ wB with run := .firmware }).setReg Key.FEAT_OWN_FEATURES 0, by decide, by decide⟩,
    ⟨1, 0, 0, by decide⟩⟩

/-- The hypotheses of `Obligations.ApplyInstant` can be met, clause by clause. -/
theorem witness_ApplyInstant :
    ∃ (s : State) (n : Nat) (b : Nat), b = n * s.turnT :=
    ⟨{ wB with run := .firmware }, 0, 0, by decide⟩

/-- The hypotheses of `Obligations.RefusedWrite` can be met, clause by clause. -/
theorem witness_RefusedWrite :
    ∃ (s : State) (w : Writer) (k : Nat) (v : Nat) (own : State → Option Abort) (eff : State → State) (a : Abort),
      (s.permit w k v = some a ∨ (s.permit w k v = none ∧ rangeCheck k v = some a) ∨ (s.permit w k v = none ∧
      rangeCheck k v = none ∧ own s = some a)) :=
    ⟨{ wB with run := .firmware }, wV, Key.ID_SERIAL, 0, noCheck, id, .readOnly, Or.inl (by decide)⟩

end Sys2Proof.Tests
end

section
/-! PROOFS. A refused write (R10, R358): what refuses it, what it counts, and O57. -/

namespace Sys2Proof.Machine

open Sys2Proof

/-- The three refusals of `State.write`: one of its checks answers `a`, in the order of R357. -/
theorem write_refused {s : State} {w : Writer} {k v : Nat} {own : State → Option Abort} {eff : State → State} {a : Abort}
    (h : s.permit w k v = some a ∨ (s.permit w k v = none ∧ rangeCheck k v = some a) ∨
      (s.permit w k v = none ∧ rangeCheck k v = none ∧ own s = some a)) :
    s.write w k v own eff = s.refuse w k a := by
  unfold State.write
  rcases h with hpermit | ⟨hpermit, hrange⟩ | ⟨hpermit, hrange, hown⟩
  · rw [hpermit]
  · rw [hpermit, hrange]
  · rw [hpermit, hrange, hown]

/-- A refusal counts in the rejection counter of its object, which saturates, and in no other (R358). -/
theorem refuse_rejections (s : State) (w : Writer) (k : Nat) (a : Abort) (j : Nat) :
    (s.refuse w k a).rejections j = if j = k then min (s.rejections k + 1) 0xFFFFFFFF else s.rejections j :=
  cellGet_cellSet _ _ _ _ _

/-- Settles O57: each of the three refusals is `State.refuse`, which is quiet but for the counter of its object. -/
theorem refusedWrite : Obligations.RefusedWrite := by
  unfold Obligations.RefusedWrite
  intro s w k v own eff a h
  rw [write_refused h]
  refine ⟨refuse_quiet s w k a, ?_, fun j hj => ?_⟩
  · rw [refuse_rejections, if_pos rfl]
  · rw [refuse_rejections, if_neg hj]

end Sys2Proof.Machine
end

section
/-! PROOFS. The process image: the rotation a turn boundary takes without IMAGE_ROTATION (R107, O55), and the apply instant
(R115, O56). -/

namespace Sys2Proof.Machine

open Sys2Proof

/-- The features are read from the registers and from whether an ASSIGN has been received, and from nothing else (R81). -/
theorem Keep.feature {m : Nat} {s t : State} (h : Keep m s t) (hregs : m.testBit Part.regs.ctorIdx = false)
    (hassigned : m.testBit Part.assigned.ctorIdx = false) (i : Nat) : t.feature i = s.feature i := by
  have hr : t.regs = s.regs := h.same .regs hregs
  have ha : t.assigned = s.assigned := h.same .assigned hassigned
  simp only [State.feature, State.features, State.reg, hr, ha]

theorem rotationNow_of_not_feature {s : State} (h : s.feature 0 = false) : s.rotationNow = 1 := by
  simp [State.rotationNow, h]

/-- With R = 1 the slice of every turn is the whole window (R105). -/
theorem inSlice_one (words n o : Nat) : inSlice words 1 n o = decide (o < words) := by
  simp [inSlice, Nat.mod_one]

theorem faultLevel_img (s : State) (n : Nat) (cond : Bool) (item detail : Nat) :
    (s.faultLevel n cond item detail).img = s.img :=
  (keep_faultLevel s n cond item detail).same .img rfl

/-- The state in which a turn boundary takes R: FTIME has reached the boundary and the inputs are sampled. -/
def State.boundarySampled (s : State) : State :=
  let waited := s.untilFtime s.nextBoundary.1
  (waited.sampleFrom (waited.mapEntries 0x202) (waited.reg Key.WIN_PUB_WORDS) 0).2

/-- Waiting for the boundary and sampling leave the feature set as it was. -/
theorem boundarySampled_feature (s : State) (i : Nat) : s.boundarySampled.feature i = s.feature i := by
  have hwaited := keep_untilFtime s s.nextBoundary.1
  have hsampled : Keep 0x1000000100 (s.untilFtime s.nextBoundary.1) s.boundarySampled := keep_sampleFrom _ _ _ _
  rw [hsampled.feature rfl rfl, hwaited.feature rfl rfl]

/-- The turn that begins has R as `State.rotationNow` gives it at its boundary; what the boundary reports leaves R alone. -/
theorem turnBoundary_rotation {s : State} (hfw : s.fwOn = true) :
    Gives .turnBoundary s fun t => t.img.rotation = s.boundarySampled.rotationNow := by
  have hexec : exec .turnBoundary s = execTurnBoundary s := rfl
  rw [Gives, hexec, execTurnBoundary, hfw]
  refine ⟨_, rfl, ?_⟩
  rw [faultLevel_img]
  rfl

/-- Settles O55: without the feature R is 1, at a boundary because nothing before its choice touches the feature set, and
with R = 1 the slice is the window. -/
theorem noRotationWithoutFeature : Obligations.NoRotationWithoutFeature := by
  unfold Obligations.NoRotationWithoutFeature
  refine ⟨fun s h => rotationNow_of_not_feature h, fun s hfw h => ?_, fun words n o ho => ?_⟩
  · obtain ⟨t, hexec, hrotation⟩ := turnBoundary_rotation hfw
    have hsampled : s.boundarySampled.feature 0 = false := (boundarySampled_feature s 0).trans h
    exact ⟨t, hexec, hrotation.trans (rotationNow_of_not_feature hsampled)⟩
  · rw [inSlice_one]
    exact decide_eq_true ho

/-- Settles O56: `State.applyAt` counts from the boundary of the turn, which lies at `n` turn periods. -/
theorem applyInstant : Obligations.ApplyInstant := by
  unfold Obligations.ApplyInstant
  intro s n b hb
  rw [hb, State.applyAt]

end Sys2Proof.Machine
end

section
/-! PROOFS. The frame of every command and the invariant: each command's own law at the mask of `mayChange` (O5, O6). -/

namespace Sys2Proof.Machine

open Sys2Proof

/-- Every command keeps what `mayChange` does not list, and the invariant: its own law under Laws/, at the wider mask. -/
theorem keep_exec (c : Instr) (s : State) : KeepR (maskOf (mayChange c)) s (exec c s) := by
  cases c with (dsimp only [exec, mayChange])
  | registerWrite w target v => exact keepr_mono (keep_execRegisterWrite _ _ _ _) rfl
  | vddAonApplied => exact keepr_mono (keep_execVddAonApplied _) rfl
  | resetAssert cause => exact keepr_mono (keep_execResetAssert _ _) rfl
  | resetRelease straps => exact keepr_mono (keep_execResetRelease _ _) rfl
  | compatRequestWrite w v => exact keepr_mono (keep_execCompatRequestWrite _ _ _) rfl
  | fieldRefresh => exact keepr_mono (keep_execFieldRefresh _) rfl
  | fieldFirstRefresh => exact keepr_mono (keep_execFieldFirstRefresh _) rfl
  | fieldRefreshLoss => exact keepr_mono (keep_execFieldRefreshLoss _) rfl
  | fieldHoldExpiry => exact keepr_mono (keep_execFieldHoldExpiry _) rfl
  | holdTimeMsWrite w v => exact keepr_mono (keep_execHoldTimeMsWrite _ _ _) rfl
  | fieldDieReset => exact keepr_mono (keep_execFieldDieReset _) rfl
  | fieldDiePowerUp => exact keepr_mono (keep_execFieldDiePowerUp _) rfl
  | hobHealthTimeout => exact keepr_mono (keep_execHobHealthTimeout _) rfl
  | modulePresenceSample f absent => exact keepr_mono (keep_execModulePresenceSample _ _ _) rfl
  | moduleStartupRead f bytes => exact keepr_mono (keep_execModuleStartupRead _ _ _) rfl
  | moduleLosChange f los => exact keepr_mono (keep_execModuleLosChange _ _ _) rfl
  | moduleTxFault f => exact keepr_mono (keep_execModuleTxFault _ _) rfl
  | moduleDiagPoll f bytes => exact keepr_mono (keep_execModuleDiagPoll _ _ _) rfl
  | portEnableWrite w f v => exact keepr_mono (keep_execPortEnableWrite _ _ _ _) rfl
  | portSettingWrite w f which v => exact keepr_mono (keep_execPortSettingWrite _ _ _ _ _) rfl
  | versionRangeWrite w max v => exact keepr_mono (keep_execVersionRangeWrite _ _ _ _) rfl
  | signalDetected f => exact keepr_mono (keep_execSignalDetected _ _) rfl
  | signalLost f => exact keepr_mono (keep_execSignalLost _ _) rfl
  | blockLock f => exact keepr_mono (keep_execBlockLock _ _) rfl
  | modeAttemptExpiry f => exact keepr_mono (keep_execModeAttemptExpiry _ _) rfl
  | linkHelloSend f => exact keepr_mono (keep_execLinkHelloSend _ _) rfl
  | linkHelloReceived f hello => exact keepr_mono (keep_execLinkHelloReceived _ _ _) rfl
  | helloTimeout f => exact keepr_mono (keep_execHelloTimeout _ _) rfl
  | keepaliveTimeout f => exact keepr_mono (keep_execKeepaliveTimeout _ _) rfl
  | holdoffExpiry f => exact keepr_mono (keep_execHoldoffExpiry _ _) rfl
  | frameHeaderReceived f rx => exact keepr_mono (keep_execFrameHeaderReceived _ _ _) rfl
  | frameEndReceived f rx => exact keepr_mono (keep_execFrameEndReceived _ _ _) rfl
  | dupEntryAgeExpiry station => exact keepr_mono (keep_execDupEntryAgeExpiry _ _) rfl
  | frameOriginate fr => exact keepr_mono (keep_execFrameOriginate _ _) rfl
  | origCapRelease => exact keepr_mono (keep_execOrigCapRelease _) rfl
  | egressFrameDone f => exact keepr_mono (keep_execEgressFrameDone _ _) rfl
  | copperVote what => exact keepr_mono (keep_execCopperVote _ _) rfl
  | copperSelftestDone passed => exact keepr_mono (keep_execCopperSelftestDone _ _) rfl
  | bypCommandWrite w v => exact keepr_mono (keep_execBypCommandWrite _ _ _) rfl
  | bypCyclesWrite w pin v => exact keepr_mono (keep_execBypCyclesWrite _ _ _ _) rfl
  | ratedCyclesWrite w warn v => exact keepr_mono (keep_execRatedCyclesWrite _ _ _ _) rfl
  | settleTimeExpiry => exact keepr_mono (keep_execSettleTimeExpiry _) rfl
  | creditReturnTimeout => exact keepr_mono (keep_execCreditReturnTimeout _) rfl
  | creditReceived fr => exact keepr_mono (keep_execCreditReceived _ _) rfl
  | creditStallTimeout => exact keepr_mono (keep_execCreditStallTimeout _) rfl
  | linkCounterClearPort w v => exact keepr_mono (keep_execLinkCounterClearPort _ _ _) rfl
  | linkCounterClearGlobal w v => exact keepr_mono (keep_execLinkCounterClearGlobal _ _ _) rfl
  | discRoundStart => exact keepr_mono (keep_execDiscRoundStart _) rfl
  | assignAbsenceTimeout => exact keepr_mono (keep_execAssignAbsenceTimeout _) rfl
  | electReceived f fr => exact keepr_mono (keep_execElectReceived _ _ _) rfl
  | rootQuietExpiry => exact keepr_mono (keep_execRootQuietExpiry _) rfl
  | rollReceived f fr => exact keepr_mono (keep_execRollReceived _ _ _) rfl
  | rollReturn f fr pins => exact keepr_mono (keep_execRollReturn _ _ _ _) rfl
  | assignReceived f fr => exact keepr_mono (keep_execAssignReceived _ _ _) rfl
  | restartReceived f fr => exact keepr_mono (keep_execRestartReceived _ _ _) rfl
  | restartTimeout => exact keepr_mono (keep_execRestartTimeout _) rfl
  | assignReturn f fr => exact keepr_mono (keep_execAssignReturn _ _ _) rfl
  | lapReturn f fr => exact keepr_mono (keep_execLapReturn _ _ _) rfl
  | announceReceived f fr => exact keepr_mono (keep_execAnnounceReceived _ _ _) rfl
  | rateChangeDown => exact keepr_mono (keep_execRateChangeDown _) rfl
  | sweepTimer => exact keepr_mono (keep_execSweepTimer _) rfl
  | ringOpenTimeout => exact keepr_mono (keep_execRingOpenTimeout _) rfl
  | couplerAdvertSend => exact keepr_mono (keep_execCouplerAdvertSend _) rfl
  | couplerAdvertReceived f fr => exact keepr_mono (keep_execCouplerAdvertReceived _ _ _) rfl
  | turnBoundary => exact keepr_mono (keep_execTurnBoundary _) rfl
  | publishSlot => exact keepr_mono (keep_execPublishSlot _) rfl
  | mapRebuildTimeout => exact keepr_mono (keep_execMapRebuildTimeout _) rfl
  | imageFrameReceived f fr tag => exact keepr_mono (keep_execImageFrameReceived _ _ _ _) rfl
  | imageWriteReceived f fr tag => exact keepr_mono (keep_execImageWriteReceived _ _ _ _) rfl
  | applyWake => exact keepr_mono (keep_execApplyWake _) rfl
  | applyInstant => exact keepr_mono (keep_execApplyInstant _) rfl
  | snapshotComplete => exact keepr_mono (keep_execSnapshotComplete _) rfl
  | bar2Write => exact keepr_mono (keep_execBar2Write _) rfl
  | importRequestSend => exact keepr_mono (keep_execImportRequestSend _) rfl
  | importRequestReceived f fr => exact keepr_mono (keep_execImportRequestReceived _ _ _) rfl
  | importGrantReceived f fr => exact keepr_mono (keep_execImportGrantReceived _ _ _) rfl
  | forceWord w => exact keepr_mono (keep_execForceWord _ _) rfl
  | forceRelease w => exact keepr_mono (keep_execForceRelease _ _) rfl
  | forceReleaseAll w => exact keepr_mono (keep_execForceReleaseAll _ _) rfl
  | candidateSend => exact keepr_mono (keep_execCandidateSend _) rfl
  | candidateReceived f fr => exact keepr_mono (keep_execCandidateReceived _ _ _) rfl
  | candidateExpiry => exact keepr_mono (keep_execCandidateExpiry _) rfl
  | syncSend => exact keepr_mono (keep_execSyncSend _) rfl
  | syncReceived f fr rx => exact keepr_mono (keep_execSyncReceived _ _ _ _) rfl
  | syncTimeout => exact keepr_mono (keep_execSyncTimeout _) rfl
  | pdelayReqSend f => exact keepr_mono (keep_execPdelayReqSend _ _) rfl
  | pdelayReqReceived f fr rx => exact keepr_mono (keep_execPdelayReqReceived _ _ _ _) rfl
  | pdelayRespReceived f fr rx => exact keepr_mono (keep_execPdelayRespReceived _ _ _ _) rfl
  | pdelayTimeout f => exact keepr_mono (keep_execPdelayTimeout _ _) rfl
  | stepAcceptWrite w v => exact keepr_mono (keep_execStepAcceptWrite _ _ _) rfl
  | setTimeWrite w v => exact keepr_mono (keep_execSetTimeWrite _ _ _) rfl
  | couplerTimeSend => exact keepr_mono (keep_execCouplerTimeSend _) rfl
  | ptpMessageReceived e msg => exact keepr_mono (keep_execPtpMessageReceived _ _ _) rfl
  | armRecordWrite w u record => exact keepr_mono (keep_execArmRecordWrite _ _ _ _) rfl
  | timerDisarm w u v => exact keepr_mono (keep_execTimerDisarm _ _ _ _) rfl
  | timerPrewake u => exact keepr_mono (keep_execTimerPrewake _ _) rfl
  | timerInstant u => exact keepr_mono (keep_execTimerInstant _ _) rfl
  | pulseEnd u => exact keepr_mono (keep_execPulseEnd _ _) rfl
  | pxPinEdge x rising => exact keepr_mono (keep_execPxPinEdge _ _ _) rfl
  | captureFlush w n v => exact keepr_mono (keep_execCaptureFlush _ _ _ _) rfl
  | queueProducerWrite n q tag data => exact keepr_mono (keep_execQueueProducerWrite _ _ _ _ _) rfl
  | lossMarkerWrite n q => exact keepr_mono (keep_execLossMarkerWrite _ _ _) rfl
  | queueTagRead n q pointerFault => exact keepr_mono (keep_execQueueTagRead _ _ _ _) rfl
  | queueDataWrite n q hi v => exact keepr_mono (keep_execQueueDataWrite _ _ _ _ _) rfl
  | queueTagWrite n q tag => exact keepr_mono (keep_execQueueTagWrite _ _ _ _) rfl
  | queueDataLoPop n q => exact keepr_mono (keep_execQueueDataLoPop _ _ _) rfl
  | queueFlushCommand w n q v => exact keepr_mono (keep_execQueueFlushCommand _ _ _ _ _) rfl
  | queueFlushComplete n q => exact keepr_mono (keep_execQueueFlushComplete _ _ _) rfl
  | queueSkipCommand w n q v => exact keepr_mono (keep_execQueueSkipCommand _ _ _ _ _) rfl
  | queueConfigWrite w n q v => exact keepr_mono (keep_execQueueConfigWrite _ _ _ _ _) rfl
  | dlModeWrite w ix v => exact keepr_mono (keep_execDlModeWrite _ _ _ _) rfl
  | dlRawCrossing ix level => exact keepr_mono (keep_execDlRawCrossing _ _ _) rfl
  | debounceComplete ix => exact keepr_mono (keep_execDebounceComplete _ _) rfl
  | inDelayMeasure ix ps => exact keepr_mono (keep_execInDelayMeasure _ _ _) rfl
  | dlCounterEdge ix rising => exact keepr_mono (keep_execDlCounterEdge _ _ _) rfl
  | dlLimitTrip ix => exact keepr_mono (keep_execDlLimitTrip _ _) rfl
  | dlThermalTrip ix => exact keepr_mono (keep_execDlThermalTrip _ _) rfl
  | dlPanShed n currents => exact keepr_mono (keep_execDlPanShed _ _ _) rfl
  | dlRetryBackoffExpiry ix => exact keepr_mono (keep_execDlRetryBackoffExpiry _ _) rfl
  | dlRetryCountReset ix => exact keepr_mono (keep_execDlRetryCountReset _ _) rfl
  | dlClear w ix v => exact keepr_mono (keep_execDlClear _ _ _ _) rfl
  | dlWireTest ix high => exact keepr_mono (keep_execDlWireTest _ _ _) rfl
  | dlOpenOnDetect ix => exact keepr_mono (keep_execDlOpenOnDetect _ _) rfl
  | dlShortVfieldDetect ix => exact keepr_mono (keep_execDlShortVfieldDetect _ _) rfl
  | dlStatusClear ix bit => exact keepr_mono (keep_execDlStatusClear _ _ _) rfl
  | dlCommandWrite w ix v => exact keepr_mono (keep_execDlCommandWrite _ _ _ _) rfl
  | outPackedWrite w n v => exact keepr_mono (keep_execOutPackedWrite _ _ _ _) rfl
  | canEnableWrite w c v => exact keepr_mono (keep_execCanEnableWrite _ _ _ _) rfl
  | canFrameReceived c ago fr => exact keepr_mono (keep_execCanFrameReceived _ _ _ _) rfl
  | mbCfgWrite w c m v => exact keepr_mono (keep_execMbCfgWrite _ _ _ _ _) rfl
  | mbHoldWrite w c v => exact keepr_mono (keep_execMbHoldWrite _ _ _ _) rfl
  | mbDataRead p c m => exact keepr_mono (keep_execMbDataRead _ _ _ _) rfl
  | canTxAttemptStart c => exact keepr_mono (keep_execCanTxAttemptStart _ _) rfl
  | canAttemptEnd c outcome => exact keepr_mono (keep_execCanAttemptEnd _ _ _) rfl
  | canRecoveryStart w c => exact keepr_mono (keep_execCanRecoveryStart _ _ _) rfl
  | canRecoveryComplete c => exact keepr_mono (keep_execCanRecoveryComplete _ _) rfl
  | canAloneRelease w c => exact keepr_mono (keep_execCanAloneRelease _ _ _) rfl
  | canDominantTimeout c => exact keepr_mono (keep_execCanDominantTimeout _ _) rfl
  | canBusJoin c => exact keepr_mono (keep_execCanBusJoin _ _) rfl
  | rs485EnableWrite w c v => exact keepr_mono (keep_execRs485EnableWrite _ _ _ _) rfl
  | rs485CharReceived c ch => exact keepr_mono (keep_execRs485CharReceived _ _ _) rfl
  | rs485GapExpiry c => exact keepr_mono (keep_execRs485GapExpiry _ _) rfl
  | rs485BreakReceived c ago => exact keepr_mono (keep_execRs485BreakReceived _ _ _) rfl
  | rs485TxStart c => exact keepr_mono (keep_execRs485TxStart _ _) rfl
  | rs485TxEnd c => exact keepr_mono (keep_execRs485TxEnd _ _) rfl
  | rs485DriverFault c thermal => exact keepr_mono (keep_execRs485DriverFault _ _ _) rfl
  | rs485ReplayStart c => exact keepr_mono (keep_execRs485ReplayStart _ _) rfl
  | rs485ActiveJoin c => exact keepr_mono (keep_execRs485ActiveJoin _ _) rfl
  | iolModeWrite w p v => exact keepr_mono (keep_execIolModeWrite _ _ _ _) rfl
  | iolWakeSlotGrant => exact keepr_mono (keep_execIolWakeSlotGrant _) rfl
  | iolStartupComplete p dev => exact keepr_mono (keep_execIolStartupComplete _ _ _) rfl
  | iolMSequenceStart p => exact keepr_mono (keep_execIolMSequenceStart _ _) rfl
  | iolMSequenceReply p pd valid checksumOk => exact keepr_mono (keep_execIolMSequenceReply _ _ _ _ _) rfl
  | isduRequestWrite w p data => exact keepr_mono (keep_execIsduRequestWrite _ _ _ _) rfl
  | isduQueueRequest p => exact keepr_mono (keep_execIsduQueueRequest _ _) rfl
  | isduComplete p error data => exact keepr_mono (keep_execIsduComplete _ _ _ _) rfl
  | isduTimeout p => exact keepr_mono (keep_execIsduTimeout _ _) rfl
  | iolEventRead p qualifier code => exact keepr_mono (keep_execIolEventRead _ _ _ _) rfl
  | iolEventBacklogRelease p => exact keepr_mono (keep_execIolEventBacklogRelease _ _) rfl
  | portCmdRestart w p => exact keepr_mono (keep_execPortCmdRestart _ _ _) rfl
  | portCmdBackup w p => exact keepr_mono (keep_execPortCmdBackup _ _ _) rfl
  | portCmdClearDs w p => exact keepr_mono (keep_execPortCmdClearDs _ _ _) rfl
  | dsUploadRequest p => exact keepr_mono (keep_execDsUploadRequest _ _) rfl
  | dsCommit p data => exact keepr_mono (keep_execDsCommit _ _ _) rfl
  | lpFastTrip p => exact keepr_mono (keep_execLpFastTrip _ _) rfl
  | lpSlowTrip p => exact keepr_mono (keep_execLpSlowTrip _ _) rfl
  | lpThermalTrip p => exact keepr_mono (keep_execLpThermalTrip _ _) rfl
  | lpRampComplete p => exact keepr_mono (keep_execLpRampComplete _ _) rfl
  | lpBackoffExpiry p => exact keepr_mono (keep_execLpBackoffExpiry _ _) rfl
  | lpClear w p v => exact keepr_mono (keep_execLpClear _ _ _ _) rfl
  | whiskStart wr w => exact keepr_mono (keep_execWhiskStart _ _ _) rfl
  | whiskHalt wr w => exact keepr_mono (keep_execWhiskHalt _ _ _) rfl
  | whiskResume wr w => exact keepr_mono (keep_execWhiskResume _ _ _) rfl
  | whiskRestart wr w => exact keepr_mono (keep_execWhiskRestart _ _ _) rfl
  | whiskStop wr w => exact keepr_mono (keep_execWhiskStop _ _ _) rfl
  | whiskStepEnter w read => exact keepr_mono (keep_execWhiskStepEnter _ _ _) rfl
  | whiskDwellEnd w read => exact keepr_mono (keep_execWhiskDwellEnd _ _ _) rfl
  | whiskStallClear w => exact keepr_mono (keep_execWhiskStallClear _ _) rfl
  | whiskStallLimit w => exact keepr_mono (keep_execWhiskStallLimit _ _) rfl
  | whiskStoreMove w send => exact keepr_mono (keep_execWhiskStoreMove _ _ _) rfl
  | switchFrameIngress ix => exact keepr_mono (keep_execSwitchFrameIngress _ _) rfl
  | spillPageTimeout p c => exact keepr_mono (keep_execSpillPageTimeout _ _ _) rfl
  | spillPageReadback p c fixed bad => exact keepr_mono (keep_execSpillPageReadback _ _ _ _ _) rfl
  | egressFrameStart p fixed bad => exact keepr_mono (keep_execEgressFrameStart _ _ _ _) rfl
  | portDownFlush p => exact keepr_mono (keep_execPortDownFlush _ _) rfl
  | portFlushComplete p => exact keepr_mono (keep_execPortFlushComplete _ _) rfl
  | meterWrite w m v => exact keepr_mono (keep_execMeterWrite _ _ _ _) rfl
  | gateCommit w g v => exact keepr_mono (keep_execGateCommit _ _ _ _) rfl
  | gateEntryChange g => exact keepr_mono (keep_execGateEntryChange _ _) rfl
  | gateListTakeover g => exact keepr_mono (keep_execGateListTakeover _ _) rfl
  | samplerEnableWrite w ix v => exact keepr_mono (keep_execSamplerEnableWrite _ _ _ _) rfl
  | switchClearTotals w => exact keepr_mono (keep_execSwitchClearTotals _ _) rfl
  | switchClearPorts w => exact keepr_mono (keep_execSwitchClearPorts _ _) rfl
  | switchClearMeters w => exact keepr_mono (keep_execSwitchClearMeters _ _) rfl
  | switchClearSamplers w => exact keepr_mono (keep_execSwitchClearSamplers _ _) rfl
  | switchClearGates w => exact keepr_mono (keep_execSwitchClearGates _ _) rfl
  | edgeLinkChange e linked half rate => exact keepr_mono (keep_execEdgeLinkChange _ _ _ _ _) rfl
  | edgeSyncLoss e => exact keepr_mono (keep_execEdgeSyncLoss _ _) rfl
  | mdioRead w e phy => exact keepr_mono (keep_execMdioRead _ _ _ _) rfl
  | mdioWrite w e v => exact keepr_mono (keep_execMdioWrite _ _ _ _) rfl
  | tunnelConfigWrite w t v => exact keepr_mono (keep_execTunnelConfigWrite _ _ _ _) rfl
  | tunnelOpenSend t => exact keepr_mono (keep_execTunnelOpenSend _ _) rfl
  | tunnelOpenReceived fr => exact keepr_mono (keep_execTunnelOpenReceived _ _) rfl
  | tunnelAcceptReceived fr => exact keepr_mono (keep_execTunnelAcceptReceived _ _) rfl
  | tunnelRefuseReceived fr => exact keepr_mono (keep_execTunnelRefuseReceived _ _) rfl
  | tunnelDataReceived fr => exact keepr_mono (keep_execTunnelDataReceived _ _) rfl
  | tunnelCloseReceived fr => exact keepr_mono (keep_execTunnelCloseReceived _ _) rfl
  | tunnelKeepaliveSend t => exact keepr_mono (keep_execTunnelKeepaliveSend _ _) rfl
  | tunnelLostTimeout t => exact keepr_mono (keep_execTunnelLostTimeout _ _) rfl
  | tunnelCreditReport t => exact keepr_mono (keep_execTunnelCreditReport _ _) rfl
  | tunnelReorderTimeout t => exact keepr_mono (keep_execTunnelReorderTimeout _ _) rfl
  | ladlePacketTake t body => exact keepr_mono (keep_execLadlePacketTake _ _ _) rfl
  | tunnelDataSend t => exact keepr_mono (keep_execTunnelDataSend _ _) rfl
  | tunnelSinkDeliver t => exact keepr_mono (keep_execTunnelSinkDeliver _ _) rfl
  | sidebandPoll t edges levels => exact keepr_mono (keep_execSidebandPoll _ _ _ _) rfl
  | sidebandReceived fr => exact keepr_mono (keep_execSidebandReceived _ _) rfl
  | routeClassify n q => exact keepr_mono (keep_execRouteClassify _ _ _) rfl
  | routeFrameReceived fr => exact keepr_mono (keep_execRouteFrameReceived _ _) rfl
  | routeEntryWrite w r v => exact keepr_mono (keep_execRouteEntryWrite _ _ _ _) rfl
  | generationRetire => exact keepr_mono (keep_execGenerationRetire _) rfl
  | dictRead req => exact keepr_mono (keep_execDictRead _ _) rfl
  | dictWrite req => exact keepr_mono (keep_execDictWrite _ _) rfl
  | dictReadBlock req => exact keepr_mono (keep_execDictReadBlock _ _) rfl
  | dictWriteBlock req => exact keepr_mono (keep_execDictWriteBlock _ _) rfl
  | dictSegment p tid seg last crc data => exact keepr_mono (keep_execDictSegment _ _ _ _ _ _ _) rfl
  | dictAck p tid next => exact keepr_mono (keep_execDictAck _ _ _ _) rfl
  | dictCancel p tid => exact keepr_mono (keep_execDictCancel _ _ _) rfl
  | dictOutOfOrderAck p tid => exact keepr_mono (keep_execDictOutOfOrderAck _ _ _) rfl
  | dictResendTimeout p tid => exact keepr_mono (keep_execDictResendTimeout _ _ _) rfl
  | stateRequestPreop w => exact keepr_mono (keep_execStateRequestPreop _ _) rfl
  | stateRequestOperate w => exact keepr_mono (keep_execStateRequestOperate _ _) rfl
  | stateRequestSafe w => exact keepr_mono (keep_execStateRequestSafe _ _) rfl
  | stateRequestOpenMaint w => exact keepr_mono (keep_execStateRequestOpenMaint _ _) rfl
  | stateRequestCloseMaint w => exact keepr_mono (keep_execStateRequestCloseMaint _ _) rfl
  | stateRequestReset w => exact keepr_mono (keep_execStateRequestReset _ _) rfl
  | deferredReset => exact keepr_mono (keep_execDeferredReset _) rfl
  | autoOperateEntry => exact keepr_mono (keep_execAutoOperateEntry _) rfl
  | maintIdleExpiry => exact keepr_mono (keep_execMaintIdleExpiry _) rfl
  | save w v => exact keepr_mono (keep_execSave _ _ _) rfl
  | saveComplete => exact keepr_mono (keep_execSaveComplete _) rfl
  | restoreDefaults w v => exact keepr_mono (keep_execRestoreDefaults _ _ _) rfl
  | mailboxGo v buffer => exact keepr_mono (keep_execMailboxGo _ _ _) rfl
  | mailboxResponse f fr => exact keepr_mono (keep_execMailboxResponse _ _ _) rfl
  | mailboxTimeout => exact keepr_mono (keep_execMailboxTimeout _) rfl
  | mailboxDoneClear => exact keepr_mono (keep_execMailboxDoneClear _) rfl
  | snapshotGo v => exact keepr_mono (keep_execSnapshotGo _ _) rfl
  | ftimeLoRead => exact keepr_mono (keep_execFtimeLoRead _) rfl
  | lmcLoRead => exact keepr_mono (keep_execLmcLoRead _) rfl
  | watchdogKick => exact keepr_mono (keep_execWatchdogKick _) rfl
  | watchdogExpiry => exact keepr_mono (keep_execWatchdogExpiry _) rfl
  | ringEnableWrite r v => exact keepr_mono (keep_execRingEnableWrite _ _ _) rfl
  | ringTailWrite r v => exact keepr_mono (keep_execRingTailWrite _ _ _) rfl
  | ringSlotWrite r => exact keepr_mono (keep_execRingSlotWrite _ _) rfl
  | msixModerationTimeout r => exact keepr_mono (keep_execMsixModerationTimeout _ _) rfl
  | iwStageWrite v => exact keepr_mono (keep_execIwStageWrite _ _) rfl
  | iwSend v => exact keepr_mono (keep_execIwSend _ _) rfl
  | iwApplyWindowRelease => exact keepr_mono (keep_execIwApplyWindowRelease _) rfl
  | txTailWrite v => exact keepr_mono (keep_execTxTailWrite _ _) rfl
  | txDescriptorTake => exact keepr_mono (keep_execTxDescriptorTake _) rfl
  | pcieLinkDown => exact keepr_mono (keep_execPcieLinkDown _) rfl
  | hostReadyWrite v => exact keepr_mono (keep_execHostReadyWrite _ _) rfl
  | eventRaise n data => exact keepr_mono (keep_execEventRaise _ _ _) rfl
  | sourceCfgWrite w n v => exact keepr_mono (keep_execSourceCfgWrite _ _ _ _) rfl
  | claimRead t => exact keepr_mono (keep_execClaimRead _ _) rfl
  | completeWrite t v => exact keepr_mono (keep_execCompleteWrite _ _ _) rfl
  | remoteCompleteWrite w v => exact keepr_mono (keep_execRemoteCompleteWrite _ _ _) rfl
  | reofferTimeout n => exact keepr_mono (keep_execReofferTimeout _ _) rfl
  | raiseWrite w v => exact keepr_mono (keep_execRaiseWrite _ _ _) rfl
  | sidebandAckWrite w k v => exact keepr_mono (keep_execSidebandAckWrite _ _ _ _) rfl
  | fenceIssueLocal w ticket => exact keepr_mono (keep_execFenceIssueLocal _ _ _) rfl
  | fenceIssueImage w ticket => exact keepr_mono (keep_execFenceIssueImage _ _ _) rfl
  | fenceIssueTable w ticket => exact keepr_mono (keep_execFenceIssueTable _ _ _) rfl
  | fenceIssueRing w ticket => exact keepr_mono (keep_execFenceIssueRing _ _ _) rfl
  | fenceLocalDone ix => exact keepr_mono (keep_execFenceLocalDone _ _) rfl
  | fenceImageDone ix => exact keepr_mono (keep_execFenceImageDone _ _) rfl
  | fenceTableDone ix => exact keepr_mono (keep_execFenceTableDone _ _) rfl
  | fenceRingReturn ticket => exact keepr_mono (keep_execFenceRingReturn _ _) rfl
  | fenceTimeout ix => exact keepr_mono (keep_execFenceTimeout _ _) rfl
  | claimRoundStart => exact keepr_mono (keep_execClaimRoundStart _) rfl
  | claimStartEdge => exact keepr_mono (keep_execClaimStartEdge _) rfl
  | claimRoundEnd wire => exact keepr_mono (keep_execClaimRoundEnd _ _) rfl
  | claimRow3Entry => exact keepr_mono (keep_execClaimRow3Entry _) rfl
  | claimHoldExpiry => exact keepr_mono (keep_execClaimHoldExpiry _) rfl
  | claimBusTimeout => exact keepr_mono (keep_execClaimBusTimeout _) rfl
  | hobHeartbeatWrite => exact keepr_mono (keep_execHobHeartbeatWrite _) rfl
  | twinHeartbeatSend => exact keepr_mono (keep_execTwinHeartbeatSend _) rfl
  | twinHeartbeatReceived fr tag => exact keepr_mono (keep_execTwinHeartbeatReceived _ _ _) rfl
  | pathSilentTimeout pathB => exact keepr_mono (keep_execPathSilentTimeout _ _) rfl
  | selftestItemRun item found => exact keepr_mono (keep_execSelftestItemRun _ _ _) rfl
  | seizeTimeout => exact keepr_mono (keep_execSeizeTimeout _) rfl
  | syncRequestReceived fr tag => exact keepr_mono (keep_execSyncRequestReceived _ _ _) rfl
  | syncBulkReceived fr tag => exact keepr_mono (keep_execSyncBulkReceived _ _ _) rfl
  | syncWriteReceived fr tag => exact keepr_mono (keep_execSyncWriteReceived _ _ _) rfl
  | syncAckReceived fr tag => exact keepr_mono (keep_execSyncAckReceived _ _ _) rfl
  | handoverRequestWrite w v => exact keepr_mono (keep_execHandoverRequestWrite _ _ _) rfl
  | handoverProposeReceived fr tag => exact keepr_mono (keep_execHandoverProposeReceived _ _ _) rfl
  | handoverAgreeReceived fr tag => exact keepr_mono (keep_execHandoverAgreeReceived _ _ _) rfl
  | handoverBoundary => exact keepr_mono (keep_execHandoverBoundary _) rfl
  | handoverAbandon => exact keepr_mono (keep_execHandoverAbandon _) rfl
  | revertHoldoffExpiry => exact keepr_mono (keep_execRevertHoldoffExpiry _) rfl
  | faultOccurrence n item detail live => exact keepr_mono (keep_execFaultOccurrence _ _ _ _ _) rfl
  | faultLiveFall n => exact keepr_mono (keep_execFaultLiveFall _ _) rfl
  | faultQuietExpiry n => exact keepr_mono (keep_execFaultQuietExpiry _ _) rfl
  | faultClear w n => exact keepr_mono (keep_execFaultClear _ _ _) rfl
  | faultForce w n => exact keepr_mono (keep_execFaultForce _ _ _) rfl
  | faultLatchReset w n => exact keepr_mono (keep_execFaultLatchReset _ _ _) rfl
  | stormEnd => exact keepr_mono (keep_execStormEnd _) rfl
  | crucibleCommit => exact keepr_mono (keep_execCrucibleCommit _) rfl
  | crucibleTriggerWrite w v => exact keepr_mono (keep_execCrucibleTriggerWrite _ _ _) rfl
  | policyEvaluation measured => exact keepr_mono (keep_execPolicyEvaluation _ _) rfl
  | ruleWrite w r v => exact keepr_mono (keep_execRuleWrite _ _ _ _) rfl
  | perturbationStart w ix v => exact keepr_mono (keep_execPerturbationStart _ _ _ _) rfl
  | perturbationStop w ix v => exact keepr_mono (keep_execPerturbationStop _ _ _ _) rfl
  | perturbationExpiry ix => exact keepr_mono (keep_execPerturbationExpiry _ _) rfl
  | perturbationStopAll w v => exact keepr_mono (keep_execPerturbationStopAll _ _ _) rfl
  | coreClockGate => exact keepr_mono (keep_execCoreClockGate _) rfl
  | corePowerGate => exact keepr_mono (keep_execCorePowerGate _) rfl
  | coreWake => exact keepr_mono (keep_execCoreWake _) rfl
  | coreEligibilityWake => exact keepr_mono (keep_execCoreEligibilityWake _) rfl
  | cpWake pair => exact keepr_mono (keep_execCpWake _ _) rfl
  | panDozeEntry n => exact keepr_mono (keep_execPanDozeEntry _ _) rfl
  | panDarkEntry n => exact keepr_mono (keep_execPanDarkEntry _ _) rfl
  | panWake n => exact keepr_mono (keep_execPanWake _ _) rfl
  | panWakeComplete n => exact keepr_mono (keep_execPanWakeComplete _ _) rfl
  | vfieldWarning mv => exact keepr_mono (keep_execVfieldWarning _ _) rfl
  | vfieldWarningEnd => exact keepr_mono (keep_execVfieldWarningEnd _) rfl
  | vfieldUndervoltage mv => exact keepr_mono (keep_execVfieldUndervoltage _ _) rfl
  | vfieldUndervoltageEnd => exact keepr_mono (keep_execVfieldUndervoltageEnd _) rfl
  | feedOutOfRange feedB mv => exact keepr_mono (keep_execFeedOutOfRange _ _ _) rfl
  | feedBackInRange feedB => exact keepr_mono (keep_execFeedBackInRange _ _) rfl
  | railCheck outside => exact keepr_mono (keep_execRailCheck _ _) rfl
  | temperatureCheck logic field dram => exact keepr_mono (keep_execTemperatureCheck _ _ _ _) rfl
  | branchFastTrip b => exact keepr_mono (keep_execBranchFastTrip _ _) rfl
  | branchI2tTrip b => exact keepr_mono (keep_execBranchI2tTrip _ _) rfl
  | branchSoaTrip b => exact keepr_mono (keep_execBranchSoaTrip _ _) rfl
  | branchGateTrip b => exact keepr_mono (keep_execBranchGateTrip _ _) rfl
  | branchPeerTrip b => exact keepr_mono (keep_execBranchPeerTrip _ _) rfl
  | branchRampComplete b => exact keepr_mono (keep_execBranchRampComplete _ _) rfl
  | branchBackoffExpiry b => exact keepr_mono (keep_execBranchBackoffExpiry _ _) rfl
  | branchRetryReset b => exact keepr_mono (keep_execBranchRetryReset _ _) rfl
  | branchClear w b v => exact keepr_mono (keep_execBranchClear _ _ _ _) rfl
  | branchEnableWrite w b v => exact keepr_mono (keep_execBranchEnableWrite _ _ _ _) rfl
  | branchCommandWrite w b v => exact keepr_mono (keep_execBranchCommandWrite _ _ _ _) rfl
  | transitionForge w v good => exact keepr_mono (keep_execTransitionForge _ _ _ _) rfl
  | transitionTake w v good => exact keepr_mono (keep_execTransitionTake _ _ _ _) rfl
  | transitionTransfer w v good => exact keepr_mono (keep_execTransitionTransfer _ _ _ _) rfl
  | transitionReturn w v good => exact keepr_mono (keep_execTransitionReturn _ _ _ _) rfl
  | transitionScrap w v good => exact keepr_mono (keep_execTransitionScrap _ _ _ _) rfl
  | rootTakeover => exact keepr_mono (keep_execRootTakeover _) rfl
  | keyLoad intact => exact keepr_mono (keep_execKeyLoad _ _) rfl
  | tagFloorAdvance => exact keepr_mono (keep_execTagFloorAdvance _) rfl
  | tagWaitRelease => exact keepr_mono (keep_execTagWaitRelease _) rfl
  | epochCommit w v => exact keepr_mono (keep_execEpochCommit _ _ _) rfl
  | epochRollover => exact keepr_mono (keep_execEpochRollover _) rfl
  | keyEpochAge => exact keepr_mono (keep_execKeyEpochAge _) rfl
  | epochAgeZeroise => exact keepr_mono (keep_execEpochAgeZeroise _) rfl
  | zeroiseWrite w v => exact keepr_mono (keep_execZeroiseWrite _ _ _) rfl
  | keyLossSafe => exact keepr_mono (keep_execKeyLossSafe _) rfl
  | attestRequest w v => exact keepr_mono (keep_execAttestRequest _ _ _) rfl
  | attestComplete => exact keepr_mono (keep_execAttestComplete _) rfl
  | countersignKeyWrite w v good => exact keepr_mono (keep_execCountersignKeyWrite _ _ _ _) rfl
  | bootLoaderStart loaderGood imageGood torn => exact keepr_mono (keep_execBootLoaderStart _ _ _ _) rfl
  | firmwareStart => exact keepr_mono (keep_execFirmwareStart _) rfl
  | updateBegin w => exact keepr_mono (keep_execUpdateBegin _ _) rfl
  | stagingBlockWrite w off data => exact keepr_mono (keep_execStagingBlockWrite _ _ _ _) rfl
  | updateWrite w digestGood => exact keepr_mono (keep_execUpdateWrite _ _ _) rfl
  | sectorWritten => exact keepr_mono (keep_execSectorWritten _) rfl
  | updateConfirm w => exact keepr_mono (keep_execUpdateConfirm _ _) rfl
  | updateAbort w => exact keepr_mono (keep_execUpdateAbort _ _) rfl
  | trialWindowExpiry => exact keepr_mono (keep_execTrialWindowExpiry _) rfl
  | enterRecoveryWrite w v => exact keepr_mono (keep_execEnterRecoveryWrite _ _ _) rfl
  | recoveryImageBlock w off data => exact keepr_mono (keep_execRecoveryImageBlock _ _ _ _) rfl
  | recoveryBlockWritten => exact keepr_mono (keep_execRecoveryBlockWritten _) rfl
  | recoveryReboot w => exact keepr_mono (keep_execRecoveryReboot _ _) rfl
  | uartFrameReceived bytes => exact keepr_mono (keep_execUartFrameReceived _ _) rfl
  | jtagExtest => exact keepr_mono (keep_execJtagExtest _) rfl
  | jtagIdcode => exact keepr_mono (keep_execJtagIdcode _) rfl
  | jtagSamplePreload => exact keepr_mono (keep_execJtagSamplePreload _) rfl
  | jtagClamp => exact keepr_mono (keep_execJtagClamp _) rfl
  | jtagHighz => exact keepr_mono (keep_execJtagHighz _) rfl
  | jtagCrucibleAddr v => exact keepr_mono (keep_execJtagCrucibleAddr _ _) rfl
  | jtagCrucibleData => exact keepr_mono (keep_execJtagCrucibleData _) rfl
  | jtagBypass => exact keepr_mono (keep_execJtagBypass _) rfl
  | pcieLinkUp speed width busMaster => exact keepr_mono (keep_execPcieLinkUp _ _ _ _) rfl
  | sgmiiSyncRegained e => exact keepr_mono (keep_execSgmiiSyncRegained _ _) rfl
  | holdoverLimitExpiry => exact keepr_mono (keep_execHoldoverLimitExpiry _) rfl
  | candidateListenExpiry => exact keepr_mono (keep_execCandidateListenExpiry _) rfl
  | ptpMessageSend e kind => exact keepr_mono (keep_execPtpMessageSend _ _ _) rfl
  | ptpLockLost e => exact keepr_mono (keep_execPtpLockLost _ _) rfl
  | canReceiveError c add => exact keepr_mono (keep_execCanReceiveError _ _ _) rfl
  | cqInputCrossing p level => exact keepr_mono (keep_execCqInputCrossing _ _ _) rfl
  | cqCurrentLimit p => exact keepr_mono (keep_execCqCurrentLimit _ _) rfl
  | iolStartupDelayExpiry p => exact keepr_mono (keep_execIolStartupDelayExpiry _ _) rfl
  | iolReplyTimeout p => exact keepr_mono (keep_execIolReplyTimeout _ _) rfl
  | iolMSequenceWake p => exact keepr_mono (keep_execIolMSequenceWake _ _) rfl
  | samplingWake n => exact keepr_mono (keep_execSamplingWake _ _) rfl
  | stageCooled ix => exact keepr_mono (keep_execStageCooled _ _) rfl
  | i2tHalfLevelReached b => exact keepr_mono (keep_execI2tHalfLevelReached _ _) rfl
  | dlSlotChangeRelease w slot => exact keepr_mono (keep_execDlSlotChangeRelease _ _ _) rfl
  | lockstepMismatch pair => exact keepr_mono (keep_execLockstepMismatch _ _) rfl
  | dmaReadCompletion good data => exact keepr_mono (keep_execDmaReadCompletion _ _ _) rfl
  | dmaCompletionTimeout => exact keepr_mono (keep_execDmaCompletionTimeout _) rfl


theorem pending_notMem_mayChange (c : Instr) : Part.pending ∉ mayChange c := by
  cases c <;> (dsimp only [mayChange]; decide)

/-- Settles O6: the mask of `keep_exec` is the list. -/
theorem commandFrames : Obligations.CommandFrames := by
  unfold Obligations.CommandFrames
  exact ⟨fun c s t h => (only_iff _ s t).2 ((keep_exec c s).keep t h).same, pending_notMem_mayChange⟩

/-- The invariant does not speak of the queue of commands. -/
theorem inv_withPending {s : State} (h : Inv s) (q : List Instr) : Inv { s with pending := q } := h

/-- Settles O5: on an empty queue the tick keeps the invariant, else the command at its front does. -/
theorem invariantKept : Obligations.InvariantKept := by
  unfold Obligations.InvariantKept
  intro s t hinv hstep
  unfold step at hstep
  cases hq : s.pending with
  | nil =>
    rw [hq] at hstep
    cases hstep
    exact (keep_tick s).inv hinv
  | cons c rest =>
    rw [hq] at hstep
    exact ((keep_exec c _).keep t hstep).inv (inv_withPending hinv rest)

end Sys2Proof.Machine
end

section
/-! PROOFS. LMC never runs backwards (R133, O54): a timed command waits, by `State.until` or `State.untilFtime`, and what it
does then leaves the clock alone. -/

namespace Sys2Proof.Machine

open Sys2Proof

/-- LMC stands in `t` where it stood in `s`, or further on. -/
def Later (s t : State) : Prop := s.clock ≤ t.clock

theorem Later.refl (s : State) : Later s s := Nat.le_refl _

/-- An operation whose law keeps the clock may follow. -/
theorem Later.step {m : Nat} {x s t : State} (hkeep : Keep m s t) (hm : m.testBit 1 = false)
  (h : Later x s) :
    Later x t := by
  have hclock : t.clock = s.clock := hkeep.same .clock hm
  exact Nat.le_trans h (Nat.le_of_eq hclock.symm)

theorem Later.advance {x s : State} {half : Nat} (h : Later x s) : Later x (s.advance half) :=
  Nat.le_trans h (Nat.le_add_right _ _)

theorem Later.until {x s : State} {t : Nat} (h : Later x s) : Later x (s.until t) := by
  unfold State.until
  split
  · exact h.advance
  · exact h

theorem Later.untilFtime {x s : State} {t : Int} (h : Later x s) : Later x (s.untilFtime t) := by
  unfold State.untilFtime
  split
  · exact Nat.le_trans h (Nat.le_add_right _ _)
  · exact h

theorem Later.withBoot {x s : State} {v : BootSt} (h : Later x s) :
    Later x { s with boot := v } := h

theorem Later.withCru {x s : State} {v : Crucible} (h : Later x s) :
    Later x { s with cru := v } := h

theorem Later.withDisc {x s : State} {v : DiscSt} (h : Later x s) :
    Later x { s with disc := v } := h

theorem Later.withFieldLines {x s : State} {v0 : FieldDie} {v1 : Cells LineSt} (h : Later x s) :
    Later x { s with field := v0, lines := v1 } := h

theorem Later.withGaugeInPower {x s : State} {v0 : Cells Int} {v1 : PowerSt} (h : Later x s) :
    Later x { s with gaugeIn := v0, power := v1 } := h

theorem Later.withGaugeIn {x s : State} {v : Cells Int} (h : Later x s) :
    Later x { s with gaugeIn := v } := h

theorem Later.withGaugeLog {x s : State} {v : List (List Nat)} (h : Later x s) :
    Later x { s with gaugeLog := v } := h

theorem Later.withHost {x s : State} {v : HostSt} (h : Later x s) :
    Later x { s with host := v } := h

theorem Later.withImg {x s : State} {v : ImgSt} (h : Later x s) :
    Later x { s with img := v } := h

theorem Later.withImgHist {x s : State} {v0 : ImgSt} {v1 : List (Nat × List Nat)} (h : Later x s) :
    Later x { s with img := v0, hist := v1 } := h

theorem Later.withKeys {x s : State} {v : KeySt} (h : Later x s) :
    Later x { s with keys := v } := h

theorem Later.withOrigHeld {x s : State} {v : List Frame} (h : Later x s) :
    Later x { s with origHeld := v } := h

theorem Later.withPower {x s : State} {v : PowerSt} (h : Later x s) :
    Later x { s with power := v } := h

theorem Later.withSettleEnds {x s : State} {v : Option Nat} (h : Later x s) :
    Later x { s with settleEnds := v } := h

theorem Later.withTie {x s : State} {v : TieCredit} (h : Later x s) :
    Later x { s with tie := v } := h

theorem Later.withTime {x s : State} {v : TimeSt} (h : Later x s) :
    Later x { s with time := v } := h

theorem Later.withTwin {x s : State} {v : TwinSt} (h : Later x s) :
    Later x { s with twin := v } := h

theorem Later.withRun {x s : State} {v : RunMode} (h : Later x s) :
    Later x { s with run := v } := h

theorem Later.ite {x s t : State} {c : Prop} [Decidable c] (hs : Later x s) (ht : Later x t) :
    Later x (if c then s else t) := by
  split <;> assumption

theorem Later.foldl {α : Type} {x : State} {f : State → α → State}
  (hf : ∀ u a, Later x u → Later x (f u a)) {l : List α}
    {s : State} (h : Later x s) : Later x (l.foldl f s) := by
  induction l generalizing s with
  | nil => exact h
  | cons a l ih => exact ih (hf s a h)

theorem Later.rsAct {x s : State} {c : Nat} {f : State → State} (hf : ∀ u, Later x u → Later x
  (f u)) (h : Later x s) :
    Later x (s.rsAct c f) :=
  .ite (hf s h) (.step (keep_raise ..) rfl (hf s h))

theorem Later.stockpot {x s : State} (h : Later x s) : Later x s.stockpot := by
  unfold State.stockpot
  split
  · exact h
  · exact .until (.step (keep_pertActed ..) rfl h)

theorem Later.lineSteady {x s : State} {i : Nat} (h : Later x s) : Later x (s.lineSteady i) :=
  .ite h (.step (keep_setLine ..) rfl (.until h))

/-- What a command answers is later than the state it met. -/
def LaterR (s : State) (r : Res) : Prop := ∀ t, r = .next t → Later s t

theorem LaterR.next {s t : State} (h : Later s t) : LaterR s (.next t) := by
  intro u hu
  cases hu
  exact h

theorem LaterR.ite {s : State} {r r' : Res} {c : Prop} [Decidable c] (hr : LaterR s r)
  (hr' : LaterR s r') :
    LaterR s (if c then r else r') := by
  split <;> assumption

/-- A command whose mask leaves out the clock leaves it where it was. -/
theorem KeepR.later {m : Nat} {s : State} {r : Res} (h : KeepR m s r)
  (hm : m.testBit 1 = false) : LaterR s r :=
  fun t ht => .step (h.keep t ht) hm (.refl s)

theorem later_execModuleStartupRead (f : Fin 4) (bytes : List Byte) (s : State) :
    LaterR s (execModuleStartupRead f bytes s) := by
  unfold execModuleStartupRead
  refine .next ?_
  split
  · exact .refl _
  · refine .ite (.refl _) ?_
    extract_lets s1 bad status s2 s3 s4
    have h3 : Later s s3 := .step (keep_setLink ..) rfl (.step (keep_setReg ..) rfl (.step
      (keep_setReg ..) rfl
      (.step (keep_setReg ..) rfl (.step (keep_setReg ..) rfl (.step (keep_setReg ..) rfl (.until
        (.refl _)))))))
    have h4 : Later s s4 := .ite (.step (keep_linkDown ..) rfl (.step (keep_occur ..) rfl h3)) h3
    exact .ite (.step (keep_occur ..) rfl h4) h4

theorem later_execModuleDiagPoll (f : Fin 4) (bytes : List Byte) (s : State) :
    LaterR s (execModuleDiagPoll f bytes s) := by
  unfold execModuleDiagPoll
  exact .next (.ite (.refl _) (.step (keep_faultLevel ..) rfl (.step (keep_faultLevel ..) rfl
    (.step (keep_setLink ..) rfl
    (.step (keep_setReg ..) rfl (.step (keep_setReg ..) rfl (.step (keep_setReg ..) rfl (.step
      (keep_setReg ..) rfl
    (.step (keep_setReg ..) rfl (.step (keep_setReg ..) rfl (.step (keep_setReg ..) rfl (.until
      (.refl _)))))))))))))

theorem later_execModeAttemptExpiry (f : Fin 4) (s : State) : LaterR s
  (execModeAttemptExpiry f s) := by
  unfold execModeAttemptExpiry
  exact .next (.ite (.step (keep_attempt ..) rfl (.until (.refl _))) (.refl _))

theorem later_execLinkHelloSend (f : Fin 4) (s : State) : LaterR s (execLinkHelloSend f s) := by
  unfold execLinkHelloSend
  refine .next (.ite ?_ (.refl _))
  extract_lets s1 hello s2
  have h1 : Later s s1 := by
    unfold s1
    split
    · exact .refl _
    · exact .until (.refl _)
  exact .ite (.step (keep_sendTie ..) rfl (.step (keep_setLink ..) rfl h1)) (.step
    (keep_enqueue ..) rfl
    (.step (keep_setLink ..) rfl h1))

theorem later_execHelloTimeout (f : Fin 4) (s : State) : LaterR s (execHelloTimeout f s) := by
  unfold execHelloTimeout
  exact .next (.ite (.step (keep_holdoff ..) rfl (.step (keep_setLink ..) rfl (.step
    (keep_bump ..) rfl (.until (.refl _)))))
    (.refl _))

theorem later_execKeepaliveTimeout (f : Fin 4) (s : State) : LaterR s
  (execKeepaliveTimeout f s) := by
  unfold execKeepaliveTimeout
  exact .next (.ite (.step (keep_linkDown ..) rfl (.until (.refl _))) (.refl _))

theorem later_execHoldoffExpiry (f : Fin 4) (s : State) : LaterR s (execHoldoffExpiry f s) := by
  unfold execHoldoffExpiry
  exact .next (.ite (.step (keep_linkTo ..) rfl (.ite (.step (keep_setLink ..) rfl (.until
    (.refl _))) (.until (.refl _))))
    (.refl _))

theorem later_execDupEntryAgeExpiry (station : Fin 65536) (s : State) : LaterR s
  (execDupEntryAgeExpiry station s) := by
  unfold execDupEntryAgeExpiry
  refine .next ?_
  split
  · exact .refl _
  · exact .step (keep_setDup ..) rfl (.until (.refl _))

theorem later_execOrigCapRelease (s : State) : LaterR s (execOrigCapRelease s) := by
  unfold execOrigCapRelease
  refine .next ?_
  split
  · exact .refl _
  · exact .step (keep_sendBoth ..) rfl (.withOrigHeld (.ite (.refl _) (.until (.refl _))))

theorem later_execSettleTimeExpiry (s : State) : LaterR s (execSettleTimeExpiry s) := by
  unfold execSettleTimeExpiry
  refine .next ?_
  split
  · exact .refl _
  · exact .step (keep_tryLock ..) rfl (.step (keep_tryLock ..) rfl (.withSettleEnds (.until
    (.refl _))))

theorem later_execCreditReturnTimeout (s : State) : LaterR s (execCreditReturnTimeout s) := by
  unfold execCreditReturnTimeout
  refine .next ?_
  split
  · exact .refl _
  · exact .ite (.step (keep_sendTie ..) rfl (.withTie (.ite (.refl _) (.until (.refl _)))))
      (.refl _)

theorem later_execCreditStallTimeout (s : State) : LaterR s (execCreditStallTimeout s) := by
  unfold execCreditStallTimeout
  refine .next (.step (keep_addCount ..) rfl (.withTie ?_))
  split
  · exact .refl _
  · exact .until (.refl _)

theorem later_execAssignAbsenceTimeout (s : State) : LaterR s (execAssignAbsenceTimeout s) := by
  unfold execAssignAbsenceTimeout
  exact .next (.ite (.step (keep_roundStart ..) rfl (.withDisc (.until (.refl _)))) (.refl _))

theorem later_execRootQuietExpiry (s : State) : LaterR s (execRootQuietExpiry s) := by
  unfold execRootQuietExpiry
  exact .next (.ite (.step (keep_sendRoll ..) rfl (.step (keep_setReg ..) rfl (.step
    (keep_setReg ..) rfl
    (.step (keep_setReg ..) rfl (.withDisc (.until (.refl _))))))) (.refl _))

theorem later_execRestartTimeout (s : State) : LaterR s (execRestartTimeout s) := by
  unfold execRestartTimeout
  refine .next ?_
  split
  · exact .refl _
  · exact .step (keep_occur ..) rfl (.step (keep_restartDone ..) rfl (.until (.refl _)))

theorem later_execRateChangeDown (s : State) : LaterR s (execRateChangeDown s) := by
  unfold execRateChangeDown
  refine .next ?_
  split
  · exact .refl _
  · exact .step (keep_linkDown ..) rfl (.step (keep_linkDown ..) rfl (.withDisc (.until (.refl _))))

theorem later_execSweepTimer (s : State) : LaterR s (execSweepTimer s) := by
  unfold execSweepTimer
  exact .next (.ite (.step (keep_sendRoll ..) rfl (.until (.refl _))) (.refl _))

theorem later_execRingOpenTimeout (s : State) : LaterR s (execRingOpenTimeout s) := by
  unfold execRingOpenTimeout
  refine .next (.ite (.refl _) (.ite ?_ ?_))
  · split
    · exact .refl _
    · exact .step (keep_faultLevel ..) rfl (.step (keep_setReg ..) rfl (.step (keep_setReg ..) rfl
      (.withDisc (.until
        (.refl _)))))
  · split
    · exact .refl _
    · exact .ite (.refl _) (.step (keep_setReg ..) rfl (.step (keep_setReg ..) rfl (.until
      (.refl _))))

theorem later_execCouplerAdvertSend (s : State) : LaterR s (execCouplerAdvertSend s) := by
  unfold execCouplerAdvertSend
  refine .next (.ite (.step (keep_originateDisc ..) rfl (.withDisc (.step
    (keep_couplerUpdate ..) rfl ?_))) (.refl _))
  split
  · exact .ite (.refl _) (.until (.refl _))
  · exact .refl _

theorem later_execCandidateListenExpiry (s : State) : LaterR s (execCandidateListenExpiry s) := by
  unfold execCandidateListenExpiry
  exact .next (.ite (.refl _) (.step (keep_elect ..) rfl (.withTime (.until (.refl _)))))

theorem later_execHoldoverLimitExpiry (s : State) : LaterR s (execHoldoverLimitExpiry s) := by
  unfold execHoldoverLimitExpiry
  refine .next ?_
  split
  · exact .refl _
  · exact .step (keep_elect ..) rfl (.withTime (.until (.refl _)))

theorem later_execCandidateSend (s : State) : LaterR s (execCandidateSend s) := by
  unfold execCandidateSend
  refine .next (.ite (.refl _) ?_)
  split
  · exact .refl _
  · exact .step (keep_elect ..) rfl (.step (keep_originate ..) rfl (.withTime (.ite (.refl _)
    (.until (.refl _)))))

theorem later_execCandidateExpiry (s : State) : LaterR s (execCandidateExpiry s) := by
  unfold execCandidateExpiry
  refine .next (.ite (.refl _) ?_)
  split
  · exact .refl _
  · exact .step (keep_elect ..) rfl (.ite (.step (keep_occur ..) rfl (.withTime (.until
    (.refl _)))) (.withTime (.until
      (.refl _))))

theorem later_execSyncSend (s : State) : LaterR s (execSyncSend s) := by
  unfold execSyncSend
  refine .next (.ite ?_ (.refl _))
  dsimp only
  exact .step (keep_originate ..) rfl (.withTime (.step (keep_fresh _) rfl (.ite (.refl _) (.until
    (.refl _)))))

theorem later_execSyncTimeout (s : State) : LaterR s (execSyncTimeout s) := by
  unfold execSyncTimeout
  exact .next (.ite (.step (keep_timeTo ..) rfl (.until (.refl _))) (.refl _))

theorem later_execPdelayReqSend (f : Fin 4) (s : State) : LaterR s (execPdelayReqSend f s) := by
  unfold execPdelayReqSend
  exact .next (.ite (.refl _) (.step (keep_sendLocal ..) rfl (.step (keep_setPd ..) rfl (.ite
    (.refl _) (.until (.refl _))))))

theorem later_execPdelayTimeout (f : Fin 4) (s : State) : LaterR s (execPdelayTimeout f s) := by
  unfold execPdelayTimeout
  refine .next ?_
  split
  · exact .refl _
  · exact .ite (.step (keep_faultLevel ..) rfl (.step (keep_setPd ..) rfl (.step
    (keep_bump ..) rfl (.until (.refl _)))))
      (.step (keep_setPd ..) rfl (.step (keep_bump ..) rfl (.until (.refl _))))

theorem later_execCouplerTimeSend (s : State) : LaterR s (execCouplerTimeSend s) := by
  unfold execCouplerTimeSend
  refine .next (.ite ?_ (.refl _))
  have hs := Later.step (keep_fresh _) rfl (Later.ite (c := s.time.farSyncAt = 0) (.refl s)
    (.until (t := s.time.farSyncAt + syncNs (s.reg Key.TIME_SYNC_EXP)) (.refl s)))
  dsimp only
  split
  · exact .withTime hs
  · exact .ite (.withTime hs) (.ite (.step (keep_sendLocal ..) rfl (.withTime (.step
    (keep_sendLocal ..) rfl (.withTime hs))))
      (.step (keep_sendLocal ..) rfl (.withTime hs)))

theorem later_execDebounceComplete (i : Fin 256) (s : State) : LaterR s
  (execDebounceComplete i s) := by
  unfold execDebounceComplete
  refine .ite ?_ ?_
  · exact .next (.refl _)
  · exact .ite (.next (.step (keep_setLine ..) rfl (.until (.refl _)))) (.next (.step
    (keep_lineAccept ..) rfl (.until
      (.refl _))))

theorem later_execDlRetryBackoffExpiry (i : Fin 256) (s : State) : LaterR s
  (execDlRetryBackoffExpiry i s) := by
  unfold execDlRetryBackoffExpiry
  exact .ite (.next (.refl _)) (.next (.ite (.until (.refl _)) (.step (keep_lineRetry ..) rfl
    (.until (.refl _)))))

theorem later_execDlWireTest (i : Fin 256) (high : Bool) (s : State) : LaterR s
  (execDlWireTest i high s) := by
  unfold execDlWireTest
  refine .ite ?_ ?_
  · exact .next (.refl _)
  · refine .ite ?_ ?_
    · exact .next (.step (keep_setLine ..) rfl (.until (.refl _)))
    · exact .ite (.next (.step (keep_setLine ..) rfl (.until (.refl _)))) (.next (.step
      (keep_lineBit ..) rfl
        (.step (keep_setLine ..) rfl (.until (.refl _)))))

theorem later_execDlStatusClear (i : Fin 256) (bit : Fin 16) (s : State) : LaterR s
  (execDlStatusClear i bit s) := by
  unfold execDlStatusClear
  exact .ite (.next (.step (keep_linesLive ..) rfl (.step (keep_setLine ..) rfl (.until
    (.refl _))))) (.next (.refl _))

theorem later_execRs485GapExpiry (c : Fin 48) (s : State) : LaterR s (execRs485GapExpiry c s) := by
  unfold execRs485GapExpiry
  refine .ite (.next (.refl _)) ?_
  dsimp only
  split
  · exact .next (.step (keep_bridgeClose ..) rfl (.step (keep_setRs ..) rfl (.until (.refl _))))
  · exact .next (.rsAct (fun _ h => .step (keep_rsClose ..) rfl h) (.until (.refl _)))

theorem later_execRs485TxStart (c : Fin 48) (s : State) : LaterR s (execRs485TxStart c s) := by
  unfold execRs485TxStart
  refine .ite (.next (.refl _)) (.ite (.next (.refl _)) ?_)
  split
  · exact .next (.refl _)
  · next htake =>
    exact .next (.step (keep_rsDrive ..) rfl (.rsAct (fun _ h => .step (keep_setRs ..) rfl h)
      (.until (.step (keep_qTake htake) rfl (.refl _)))))

theorem later_execRs485TxEnd (c : Fin 48) (s : State) : LaterR s (execRs485TxEnd c s) := by
  unfold execRs485TxEnd
  dsimp only
  split
  · exact .next (.refl _)
  · refine .next (.rsAct (fun u h => ?_) (.until (.refl _)))
    split
    · exact .step (keep_rsEnd ..) rfl h
    · exact .step (keep_rsEnd ..) rfl (.step (keep_setLive ..) rfl (.step (keep_setReg ..) rfl h))

theorem later_execRs485ActiveJoin (c : Fin 48) (s : State) : LaterR s
  (execRs485ActiveJoin c s) := by
  unfold execRs485ActiveJoin
  dsimp only
  split
  · exact .next (.refl _)
  · exact .ite (.next (.refl _)) (.next (.step (keep_setRs ..) rfl (.until (.refl _))))

theorem later_execIolStartupDelayExpiry (p : Fin 64) (s : State) : LaterR s
  (execIolStartupDelayExpiry p s) := by
  unfold execIolStartupDelayExpiry
  exact .ite (.next (.step (keep_setIol ..) rfl (.until (.step (keep_lpSync ..) rfl (.refl _)))))
    (.next
    (.step (keep_lpSync ..) rfl (.refl _)))

theorem later_execIolWakeSlotGrant (s : State) : LaterR s (execIolWakeSlotGrant s) := by
  unfold execIolWakeSlotGrant
  refine .ite ?_ ?_
  · exact .next (.refl _)
  · dsimp only
    split
    · exact .ite (.next (.ite (.until (.refl _)) (.refl _))) (.next (.step (keep_setIol ..) rfl
      (.ite (.until
        (.refl _)) (.refl _))))
    · exact .next (.ite (.until (.refl _)) (.refl _))

theorem later_execIolMSequenceStart (p : Fin 64) (s : State) : LaterR s
  (execIolMSequenceStart p s) := by
  unfold execIolMSequenceStart
  refine .ite ?_ ?_
  · exact .next (.refl _)
  · exact .ite (.next (.refl _)) (.next (.step (keep_setIol ..) rfl (.untilFtime (.refl _))))

theorem later_execIsduTimeout (p : Fin 64) (s : State) : LaterR s (execIsduTimeout p s) := by
  unfold execIsduTimeout
  split
  · exact .next (.refl _)
  · exact .next (.step (keep_isduEnd ..) rfl (.until (.refl _)))

theorem later_execLpRampComplete (p : Fin 64) (s : State) : LaterR s (execLpRampComplete p s) := by
  unfold execLpRampComplete
  exact .ite (.next (.step (keep_lpSync ..) rfl (.refl _))) (.next (.step (keep_setIol ..) rfl
    (.step (keep_setReg ..) rfl
    (.until (.step (keep_lpSync ..) rfl (.refl _))))))

theorem later_execLpBackoffExpiry (p : Fin 64) (s : State) : LaterR s
  (execLpBackoffExpiry p s) := by
  unfold execLpBackoffExpiry
  exact .ite (.next (.refl _)) (.next (.ite (.until (.refl _)) (.step (keep_lpRetry ..) rfl
    (.until (.refl _)))))

theorem later_execDlRetryCountReset (i : Fin 320) (s : State) : LaterR s
  (execDlRetryCountReset i s) := by
  unfold execDlRetryCountReset
  refine .ite ?_ ?_
  · exact .next (.lineSteady (.refl _))
  · exact .ite (.next (.step (keep_lpSync ..) rfl (.refl _))) (.next (.step (keep_setIol ..) rfl
    (.until
      (.step (keep_lpSync ..) rfl (.refl _)))))

theorem later_execDlSlotChangeRelease (w : Fin 32) (slot : Fin 8) (s : State) :
    LaterR s (execDlSlotChangeRelease w slot s) := by
  unfold execDlSlotChangeRelease
  dsimp only
  split
  · exact .next (.refl _)
  · exact .next (.step (keep_lineDrive ..) rfl (.step (keep_setWhisk ..) rfl (.until (.refl _))))

theorem later_execWhiskStepEnter (w : Fin 32) (read : Fin 256) (s : State) :
    LaterR s (execWhiskStepEnter w read s) := by
  unfold execWhiskStepEnter
  refine .ite (.next (.refl _)) ?_
  extract_lets s1 x0 word code inSlot x1 s2 other x2 s3 d
  have h2 : Later s s2 := .step (keep_whiskLines ..) rfl (.step (keep_bump ..) rfl (.step
    (keep_setWhisk ..) rfl (.until
    (.refl _))))
  have h3 : Later s s3 := .ite (.step (keep_setWhisk ..) rfl h2) (.ite (.step
    (keep_whiskEnd ..) rfl h2) h2)
  exact .next (.ite (.step (keep_whiskStall ..) rfl h3) (.step (keep_whiskDwell ..) rfl h3))

theorem later_execWhiskStallLimit (w : Fin 32) (s : State) : LaterR s
  (execWhiskStallLimit w s) := by
  unfold execWhiskStallLimit
  dsimp only
  split
  · exact .next (.refl _)
  · exact .ite (.next (.refl _)) (.next (.step (keep_faultUp ..) rfl (.step (keep_setWhisk ..) rfl
    (.until (.refl _)))))

theorem later_execWhiskDwellEnd (w : Fin 32) (read : Fin 256) (s : State) : LaterR s
  (execWhiskDwellEnd w read s) := by
  unfold execWhiskDwellEnd
  exact .ite (.next (.refl _)) (.next (.step (keep_whiskTo ..) rfl (.until (.refl _))))

theorem later_execTimerInstant (u : Fin 64) (s : State) : LaterR s (execTimerInstant u s) := by
  unfold execTimerInstant
  refine .ite (.next (.refl _)) ?_
  extract_lets r due s1 late period missed t s2 s3 steps s4 s5 s6
  have h1 : Later s s1 := .untilFtime (.refl _)
  have h2 : Later s s2 := .ite (.step (keep_occur ..) rfl (.step (keep_bump ..) rfl h1)) h1
  have h3 : Later s s3 := .ite (.step (keep_addCount ..) rfl h2) h2
  have h6 : Later s s6 := .step (keep_timerAct ..) rfl (.step (keep_setNext ..) rfl (.step
    (keep_setTimer ..) rfl
    (.step (keep_bump ..) rfl h3)))
  exact .next (.ite h6 (.step (keep_timerGoOn ..) rfl h6))

theorem later_execPulseEnd (u : Fin 64) (s : State) : LaterR s (execPulseEnd u s) := by
  unfold execPulseEnd
  dsimp only
  split
  · exact .next (.refl _)
  · exact .next (.step (keep_timerGoOn ..) rfl (.step (keep_setTimer ..) rfl (.ite (.step
    (keep_bump ..) rfl (.untilFtime
      (.refl _))) (.step (keep_armDrive ..) rfl (.untilFtime (.refl _))))))

theorem later_execPanDozeEntry (n : Fin 16) (s : State) : LaterR s (execPanDozeEntry n s) := by
  unfold execPanDozeEntry
  exact .ite (.next (.refl _)) (.next (.step (keep_setPan ..) rfl (.step (keep_setReg ..) rfl
    (.until (.refl _)))))

theorem later_execPanDarkEntry (n : Fin 16) (s : State) : LaterR s (execPanDarkEntry n s) := by
  unfold execPanDarkEntry
  exact .ite (.next (.refl _)) (.next (.step (keep_bump ..) rfl (.step (keep_setReg ..) rfl
    (.until (.refl _)))))

theorem later_execPanWakeComplete (n : Fin 16) (s : State) : LaterR s
  (execPanWakeComplete n s) := by
  unfold execPanWakeComplete
  extract_lets n
  split
  · exact .next (.refl _)
  · refine .ite (.next (.refl _)) ?_
    extract_lets s1 dark s2 src s3 s4 s5
    have h1 : Later s s1 := by
      unfold s1
      split
      · exact .step (keep_pertActed ..) rfl (.until (.refl _))
      · exact .refl _
    have h3 : Later s s3 := .step (keep_setPan ..) rfl (.step (keep_bump ..) rfl (.step
      (keep_setReg ..) rfl h1))
    have h4 : Later s s4 := .ite (.step (keep_linesFresh ..) rfl h3) h3
    exact .next (.step (keep_linesWake ..) rfl (.foldl (fun _ _ h => .ite (.step
      (keep_setRs ..) rfl h) h) h4))

theorem later_execBranchSoaTrip (b : Fin 64) (s : State) : LaterR s (execBranchSoaTrip b s) := by
  unfold execBranchSoaTrip
  exact .ite (.next (.step (keep_fuseSync ..) rfl (.refl _))) (.next (.step (keep_fuseTrip ..) rfl
    (.until
    (.step (keep_fuseSync ..) rfl (.refl _)))))

theorem later_execBranchBackoffExpiry (b : Fin 64) (s : State) : LaterR s
  (execBranchBackoffExpiry b s) := by
  unfold execBranchBackoffExpiry
  exact .ite (.next (.refl _)) (.next (.ite (.until (.refl _)) (.step (keep_fuseRetry ..) rfl
    (.until (.refl _)))))

theorem later_execBranchRetryReset (b : Fin 64) (s : State) : LaterR s
  (execBranchRetryReset b s) := by
  unfold execBranchRetryReset
  exact .ite (.next (.step (keep_fuseSync ..) rfl (.refl _))) (.next (.step (keep_setFuse ..) rfl
    (.until
    (.step (keep_fuseSync ..) rfl (.refl _)))))

theorem later_execGateListTakeover (g : Fin 12) (s : State) : LaterR s
  (execGateListTakeover g s) := by
  unfold execGateListTakeover
  refine .next (.ite (.refl _) ?_)
  split
  · exact .refl _
  · exact .step (keep_gateTakeover ..) rfl (.untilFtime (.refl _))

theorem later_execGateEntryChange (g : Fin 12) (s : State) : LaterR s
  (execGateEntryChange g s) := by
  unfold execGateEntryChange
  refine .next (.ite (.refl _) ?_)
  split
  · exact .refl _
  · dsimp only
    split
    · exact .refl _
    · exact .untilFtime (.refl _)

theorem later_execSpillPageTimeout (p : Fin 19) (c : Fin 8) (s : State) : LaterR s
  (execSpillPageTimeout p c s) := by
  unfold execSpillPageTimeout
  exact .next (.ite (.refl _) (.step (keep_retryOffers ..) rfl (.step (keep_writePage ..) rfl
    (.stockpot (.until
    (.refl _))))))

theorem later_execSpillPageReadback (p : Fin 19) (c : Fin 8) (fixed : Nat) (bad : Bool)
  (s : State) :
    LaterR s (execSpillPageReadback p c fixed bad s) := by
  unfold execSpillPageReadback
  refine .next ?_
  split
  · exact .refl _
  · have hs : Later s
        ((s.stockpot.bump Key.SWC_SPILL_PAGES_READ).addCount Key.SWC_STOCKPOT_ECC_CORRECTED fixed) :=
      .step (keep_addCount ..) rfl (.step (keep_bump ..) rfl (.stockpot (.refl _)))
    exact .ite (.refl _) (.ite (.step (keep_occur ..) rfl (.foldl (fun _ _ h => .step
      (keep_swDrop ..) rfl h)
      (.step (keep_setSwq ..) rfl hs))) (.step (keep_highwater ..) rfl (.step
        (keep_setSwq ..) rfl hs)))

theorem later_execEgressFrameStart (p : Fin 19) (fixed : Nat) (bad : Bool) (s : State) :
    LaterR s (execEgressFrameStart p fixed bad s) := by
  unfold execEgressFrameStart
  refine .next (.ite (.refl _) ?_)
  have hs : ∀ g : State → Nat → Nat, Later s ([7, 6, 5, 4, 3, 2, 1, 0].foldl
      (fun u c => u.dropTooLong (8 * p.val + c) (g u c)) (s.until (cellGet
        (fun _ => 0) s.sw.busy p))) :=
    fun _ => .foldl (fun _ _ h => .step (keep_dropTooLong ..) rfl h) (.until (.refl _))
  dsimp only
  split
  · exact hs _
  · split
    · exact hs _
    · refine .ite (.step (keep_retryOffers ..) rfl (.step (keep_occur ..) rfl (.step
      (keep_swDrop ..) rfl ?_))) ?_
      · exact .step (keep_coreTouch ..) rfl (.step (keep_addCount ..) rfl (.step
        (keep_setSwq ..) rfl (hs _)))
      · exact .step (keep_retryOffers ..) rfl (.step (keep_swLeave ..) rfl (.ite
          (.step (keep_sample ..) rfl (.step (keep_sample ..) rfl (.step (keep_shaped ..) rfl
            (.step (keep_coreTouch ..) rfl (.step (keep_addCount ..) rfl (.step
              (keep_setSwq ..) rfl (hs _)))))))
          (.step (keep_sample ..) rfl (.step (keep_shaped ..) rfl
            (.step (keep_coreTouch ..) rfl (.step (keep_addCount ..) rfl (.step
              (keep_setSwq ..) rfl (hs _))))))))

theorem later_execTunnelOpenSend (t : Fin 1024) (s : State) : LaterR s
  (execTunnelOpenSend t s) := by
  unfold execTunnelOpenSend
  refine .next (.ite (.refl _) (.step (keep_sendOpen ..) rfl ?_))
  split
  · exact .refl _
  · exact .until (.refl _)

theorem later_execTunnelKeepaliveSend (t : Fin 1024) (s : State) : LaterR s
  (execTunnelKeepaliveSend t s) := by
  unfold execTunnelKeepaliveSend
  exact .next (.ite (.refl _) (.step (keep_tunSend ..) rfl (.until (.refl _))))

theorem later_execTunnelLostTimeout (t : Fin 1024) (s : State) : LaterR s
  (execTunnelLostTimeout t s) := by
  unfold execTunnelLostTimeout
  exact .next (.ite (.refl _) (.step (keep_sendOpen ..) rfl (.step (keep_faultUp ..) rfl (.step
    (keep_tunState ..) rfl (.until
    (.refl _))))))

theorem later_execTunnelCreditReport (t : Fin 1024) (s : State) : LaterR s
  (execTunnelCreditReport t s) := by
  unfold execTunnelCreditReport
  refine .next (.ite (.refl _) ?_)
  split
  · exact .refl _
  · exact .step (keep_tunSend ..) rfl (.ite (.refl _) (.until (.refl _)))

theorem later_execTunnelReorderTimeout (t : Fin 1024) (s : State) : LaterR s
  (execTunnelReorderTimeout t s) := by
  unfold execTunnelReorderTimeout
  refine .next (.ite (.refl _) ?_)
  split
  · refine .step (keep_tunGap ..) rfl (.step (keep_tunAdvance ..) rfl ?_)
    · split
      · exact .step (keep_tunFree ..) rfl (.step (keep_setTun ..) rfl (.until (.refl _)))
      · exact .step (keep_setTun ..) rfl (.until (.refl _))
  · exact .refl _

theorem later_execSidebandPoll (t : Fin 1024) (edges levels : Fin 256) (s : State) :
    LaterR s (execSidebandPoll t edges levels s) := by
  unfold execSidebandPoll
  exact .next (.ite (.refl _) (.ite (.step (keep_setTun ..) rfl (.ite (.refl _) (.until (.refl _))))
    (.step (keep_tunSend ..) rfl (.step (keep_setTun ..) rfl (.step (keep_setTun ..) rfl (.ite
      (.refl _) (.until (.refl _))))))))

theorem later_execFaultQuietExpiry (n : Fin 512) (s : State) : LaterR s
  (execFaultQuietExpiry n s) := by
  unfold execFaultQuietExpiry
  exact .next (.ite (.refl _) (.ite (.step (keep_logLeave ..) rfl (.step (keep_setFlt ..) rfl
    (.until (.refl _))))
    (.step (keep_faultLeave ..) rfl (.step (keep_logLeave ..) rfl (.step (keep_setFlt ..) rfl
      (.until (.refl _)))))))

theorem later_execStormEnd (s : State) : LaterR s (execStormEnd s) := by
  unfold execStormEnd
  exact .next (.ite (.refl _) (.withCru (.step (keep_bump ..) rfl (.step (keep_log ..) rfl (.until
    (.refl _))))))

theorem later_execPerturbationExpiry (i : Fin 16) (s : State) : LaterR s
  (execPerturbationExpiry i s) := by
  unfold execPerturbationExpiry
  exact .next (.ite (.refl _) (.step (keep_pertEnd ..) rfl (.until (.refl _))))

theorem later_execReofferTimeout (n : Fin 1024) (s : State) : LaterR s
  (execReofferTimeout n s) := by
  unfold execReofferTimeout
  exact .next (.ite (.refl _) (.step (keep_settle ..) rfl (.step (keep_withdraw ..) rfl (.step
    (keep_bump ..) rfl (.until
    (.refl _))))))

theorem later_execFenceImageDone (i : Fin 16) (s : State) : LaterR s (execFenceImageDone i s) := by
  unfold execFenceImageDone
  exact .next (.ite (.step (keep_fenceDone ..) rfl (.untilFtime (.refl _))) (.refl _))

theorem later_execFenceTimeout (i : Fin 16) (s : State) : LaterR s (execFenceTimeout i s) := by
  unfold execFenceTimeout
  exact .next (.ite (.step (keep_fenceDone ..) rfl (.until (.refl _))) (.refl _))

theorem later_execTurnBoundary (s : State) : LaterR s (execTurnBoundary s) := by
  unfold execTurnBoundary
  refine .ite (.next (.refl _)) ?_
  dsimp only
  exact .next (.step (keep_faultLevel ..) rfl (.step (keep_setReg ..) rfl (.step
    (keep_setReg ..) rfl (.withImg
    (.step (keep_sampleFrom ..) rfl (.untilFtime (.refl _)))))))

theorem later_execPublishSlot (s : State) : LaterR s (execPublishSlot s) := by
  unfold execPublishSlot
  refine .next ?_
  split
  · exact .refl _
  · exact .ite (.refl _) (.ite (.step (keep_bump ..) rfl (.withImg (.untilFtime (.refl _))))
      (.withImgHist (.foldl (fun _ _ h => .step (keep_publishFrame ..) rfl h) (.withImg
        (.untilFtime (.refl _))))))

theorem later_execMapRebuildTimeout (s : State) : LaterR s (execMapRebuildTimeout s) := by
  unfold execMapRebuildTimeout
  refine .next ?_
  split
  · exact .ite (.step (keep_mapRebuild ..) rfl (.until (.refl _))) (.refl _)
  · exact .refl _

theorem later_execApplyInstant (s : State) : LaterR s (execApplyInstant s) := by
  unfold execApplyInstant
  refine .ite (.next (.refl _)) (.next (.foldl (fun _ _ h => .step (keep_sendAck ..) rfl h) (.step
    (keep_refresh ..) rfl ?_)))
  have hs : ∀ (es : List Nat) {l : Cells (Option Nat)} {u : State}, Later s u → Later s (l.foldl
    (fun v c => match
    c.2 with
      | some w => v.commitWord es c.1 w
      | none => v) u) := fun es _ _ hu => .foldl (fun v c h => by
    split
    · exact .step (keep_commitWord ..) rfl h
    · exact h) hu
  exact .ite (.step (keep_enterOperate ..) rfl (.step (keep_addCount ..) rfl (hs _ (.withImg
    (.untilFtime (.refl _))))))
    (.step (keep_addCount ..) rfl (hs _ (.withImg (.untilFtime (.refl _)))))

theorem later_execApplyWake (s : State) : LaterR s (execApplyWake s) := by
  unfold execApplyWake
  exact .ite (.next (.refl _)) (.next (.foldl (fun _ _ h => .ite (.step
    (keep_panWindow ..) rfl h) h)
    (.untilFtime (.refl _))))

theorem later_execImportRequestSend (s : State) : LaterR s (execImportRequestSend s) := by
  unfold execImportRequestSend
  refine .next (.ite (.refl _) (.step (keep_sendF3 ..) rfl (.withImg ?_)))
  split
  · exact .ite (.refl _) (.until (.refl _))
  · exact .refl _

theorem later_execMaintIdleExpiry (s : State) : LaterR s (execMaintIdleExpiry s) := by
  unfold execMaintIdleExpiry
  exact .next (.ite (.step (keep_closeSession ..) rfl (.until (.refl _))) (.refl _))

theorem later_execMailboxTimeout (s : State) : LaterR s (execMailboxTimeout s) := by
  unfold execMailboxTimeout
  refine .next ?_
  split
  · exact .refl _
  · exact .ite (.refl _) (.step (keep_bump ..) rfl (.step (keep_mailboxDone ..) rfl (.until
    (.refl _))))

theorem later_execWatchdogExpiry (s : State) : LaterR s (execWatchdogExpiry s) := by
  unfold execWatchdogExpiry
  refine .next ?_
  split
  · exact .refl _
  · exact .ite (.refl _) (.step (keep_occur ..) rfl (.step (keep_hostControl ..) rfl (.withHost
    (.until (.refl _)))))

theorem later_execMsixModerationTimeout (r : Fin 3) (s : State) : LaterR s
  (execMsixModerationTimeout r s) := by
  unfold execMsixModerationTimeout
  exact .next (.ite (.refl _) (.step (keep_ringSignal ..) rfl (.until (.refl _))))

theorem later_execIwApplyWindowRelease (s : State) : LaterR s (execIwApplyWindowRelease s) := by
  unfold execIwApplyWindowRelease
  exact .next (.ite (.refl _) (.foldl (fun _ _ h => .step (keep_sendWrite ..) rfl h)
    (.withHost (.ite (.untilFtime (.refl _)) (.refl _)))))

theorem later_execDmaCompletionTimeout (s : State) : LaterR s (execDmaCompletionTimeout s) := by
  unfold execDmaCompletionTimeout
  refine .next ?_
  split
  · exact .refl _
  · exact .ite (.refl _) (.step (keep_txFail ..) rfl (.step (keep_bump ..) rfl (.until (.refl _))))

theorem later_execClaimRoundStart (s : State) : LaterR s (execClaimRoundStart s) := by
  unfold execClaimRoundStart
  refine .next (.ite (.refl _) (.step (keep_roundFrom ..) rfl ?_))
  split
  · exact .until (.refl _)
  · exact .refl _

theorem later_execClaimRoundEnd (x : RoundWire) (s : State) : LaterR s (execClaimRoundEnd x s) := by
  unfold execClaimRoundEnd
  extract_lets t0 s1 s2 twin2 s3 health mine s4 twin4 s5 s6 s7 twin7 s8
  have h1 : Later s s1 := by
    unfold s1
    split
    · exact .until (.refl _)
    · exact .refl _
  have h3 : Later s s3 := .withTwin (.ite (.step (keep_setPenalty ..) rfl h1) h1)
  have h7 : Later s s7 := .step (keep_peerBeat ..) rfl (.step (keep_setReg ..) rfl (.withTwin
    (.step (keep_faultDown ..) rfl (.step (keep_bump ..) rfl h3))))
  have h8 : Later s s8 := by
    clear_value mine
    unfold s8
    split
    · exact .step (keep_gateTo ..) rfl (.step (keep_bump ..) rfl (.withTwin h7))
    · exact .step (keep_gateTo ..) rfl (.withTwin h7)
    · exact h7
  exact .next (.ite h1 (.ite (.step (keep_bump ..) rfl h3) (.ite (.step
    (keep_roundRoles ..) rfl h8) h8)))

theorem later_execClaimRow3Entry (s : State) : LaterR s (execClaimRow3Entry s) := by
  unfold execClaimRow3Entry
  exact .next (.ite (.refl _) (.step (keep_gateTo ..) rfl (.withTwin (.until (.refl _)))))

theorem later_execClaimHoldExpiry (s : State) : LaterR s (execClaimHoldExpiry s) := by
  unfold execClaimHoldExpiry
  exact .next (.ite (.refl _) (.step (keep_gateTo ..) rfl (.until (.refl _))))

theorem later_execClaimBusTimeout (s : State) : LaterR s (execClaimBusTimeout s) := by
  unfold execClaimBusTimeout
  exact .next (.ite (.refl _) (.step (keep_faultUp ..) rfl (.until (.refl _))))

theorem later_execTwinHeartbeatSend (s : State) : LaterR s (execTwinHeartbeatSend s) := by
  unfold execTwinHeartbeatSend
  refine .next (.ite (.refl _) ?_)
  have hs := Later.step (keep_twinUpdate _) rfl (.until (t := s.twin.sentAt + 100000) (.refl s))
  dsimp only
  split
  · exact .step (keep_pertActed ..) rfl (.withTwin hs)
  · exact .step (keep_sendTwin ..) rfl (.withTwin hs)

theorem later_execPathSilentTimeout (pathB : Bool) (s : State) : LaterR s
  (execPathSilentTimeout pathB s) := by
  unfold execPathSilentTimeout
  exact .next (.ite (.refl _) (.step (keep_pathFaults ..) rfl (.step (keep_setReg ..) rfl (.until
    (.refl _)))))

theorem later_execSeizeTimeout (s : State) : LaterR s (execSeizeTimeout s) := by
  unfold execSeizeTimeout
  refine .next ?_
  split
  · exact .refl _
  · exact .ite (.refl _) (.step (keep_occur ..) rfl (.step (keep_twinUpdate ..) rfl (.withTwin
    (.until (.refl _)))))

theorem later_execHandoverBoundary (s : State) : LaterR s (execHandoverBoundary s) := by
  unfold execHandoverBoundary
  refine .next ?_
  split
  · exact .refl _
  · exact .ite (.refl _) (.ite (.step (keep_becomeStandby ..) rfl (.withTwin (.untilFtime
    (.refl _)))) (.ite
      (.step (keep_becomeActive ..) rfl (.step (keep_handoverOff ..) rfl (.withTwin (.untilFtime
        (.refl _))))) (.withTwin
      (.untilFtime (.refl _)))))

theorem later_execHandoverAbandon (s : State) : LaterR s (execHandoverAbandon s) := by
  unfold execHandoverAbandon
  refine .next ?_
  split
  · exact .refl _
  · exact .ite (.refl _) (.step (keep_handoverFail ..) rfl (.untilFtime (.refl _)))

theorem later_execRevertHoldoffExpiry (s : State) : LaterR s (execRevertHoldoffExpiry s) := by
  unfold execRevertHoldoffExpiry
  refine .next ?_
  split
  · exact .refl _
  · exact .ite (.refl _) (.step (keep_propose ..) rfl (.step (keep_setReg ..) rfl (.step
    (keep_setReg ..) rfl (.withTwin
      (.until (.refl _))))))

theorem later_execPolicyEvaluation (measured : List (Fin 256 × Int)) (s : State) :
    LaterR s (execPolicyEvaluation measured s) := by
  unfold execPolicyEvaluation
  exact .next (.ite (.refl _) (.withGaugeLog (.foldl (fun _ _ h => .step (keep_policyOne ..) rfl h)
    (.foldl (fun _ _ h => .withGaugeIn h) (.until (.refl _))))))

theorem later_execCoreClockGate (s : State) : LaterR s (execCoreClockGate s) := by
  unfold execCoreClockGate
  exact .next (.ite (.refl _) (.step (keep_setReg ..) rfl (.withPower (.until (.refl _)))))

theorem later_execCorePowerGate (s : State) : LaterR s (execCorePowerGate s) := by
  unfold execCorePowerGate
  exact .next (.ite (.refl _) (.step (keep_setReg ..) rfl (.until (.refl _))))

theorem later_execCoreWake (s : State) : LaterR s (execCoreWake s) := by
  unfold execCoreWake
  exact .next (.ite (.step (keep_coreTouch ..) rfl (.advance (.refl _))) (.refl _))

theorem later_execCoreEligibilityWake (s : State) : LaterR s (execCoreEligibilityWake s) := by
  unfold execCoreEligibilityWake
  exact .next (.ite (.step (keep_coreTouch ..) rfl (.advance (.refl _))) (.refl _))

theorem later_execRailCheck (outside : List (Nat × Nat)) (s : State) : LaterR s
  (execRailCheck outside s) := by
  unfold execRailCheck
  exact .next (.ite (.refl _) (.step (keep_railsBad ..) rfl (.withPower (.until (.refl _)))))

theorem later_execTemperatureCheck (logic field dram : Int) (s : State) :
    LaterR s (execTemperatureCheck logic field dram s) := by
  unfold execTemperatureCheck
  have hs := Later.until (Later.refl s) (t := s.power.tempAt + 10000000)
  exact .next (.ite (.refl _) (.ite
    (.step (keep_faultDown ..) rfl (.foldl (fun _ _ h => .step (keep_faultUp ..) rfl h)
      (.withGaugeInPower hs)))
    (.foldl (fun _ _ h => .step (keep_faultUp ..) rfl h) (.withGaugeInPower hs))))

theorem later_execKeyLossSafe (s : State) : LaterR s (execKeyLossSafe s) := by
  unfold execKeyLossSafe
  refine .next ?_
  split
  · exact .refl _
  · exact .ite (.refl _) (.step (keep_enterSafe ..) rfl (.withKeys (.until (.refl _))))

theorem later_execRootTakeover (s : State) : LaterR s (execRootTakeover s) := by
  unfold execRootTakeover
  refine .next ?_
  split
  · exact .refl _
  · exact .ite (.refl _) (.step (keep_setReg ..) rfl (.ite (.step (keep_setReg ..) rfl (.step
    (keep_newKey ..) rfl
      (.step (keep_setReg ..) rfl (.step (keep_slotErase ..) rfl (.step (keep_slotFill ..) rfl
        (.withKeys (.untilFtime
      (.refl _)))))))) (.step (keep_newKey ..) rfl (.step (keep_setReg ..) rfl (.step
        (keep_slotErase ..) rfl
      (.step (keep_slotFill ..) rfl (.withKeys (.untilFtime (.refl _)))))))))

theorem later_execKeyLoad (intact : Bool) (s : State) : LaterR s (execKeyLoad intact s) := by
  unfold execKeyLoad
  exact .ite (.next (.refl _)) (.next (.step (keep_keyFound ..) rfl (.step (keep_keyLoaded ..) rfl
    (.until (.refl _)))))

theorem later_execTagFloorAdvance (s : State) : LaterR s (execTagFloorAdvance s) := by
  unfold execTagFloorAdvance
  exact .next (.ite (.refl _) (.step (keep_setReg ..) rfl (.untilFtime (.refl _))))

theorem later_execEpochRollover (s : State) : LaterR s (execEpochRollover s) := by
  unfold execEpochRollover
  refine .next ?_
  split
  · exact .refl _
  · exact .ite (.refl _) (.ite (.step (keep_setReg ..) rfl (.withImg (.step (keep_setReg ..) rfl
    (.step (keep_setReg ..) rfl
      (.step (keep_newKey ..) rfl (.withKeys (.untilFtime (.refl _)))))))) (.step
        (keep_setReg ..) rfl
      (.step (keep_setReg ..) rfl (.step (keep_newKey ..) rfl (.withKeys (.untilFtime
        (.refl _)))))))

theorem later_execKeyEpochAge (s : State) : LaterR s (execKeyEpochAge s) := by
  unfold execKeyEpochAge
  exact .next (.ite (.refl _) (.step (keep_faultUp ..) rfl (.untilFtime (.refl _))))

theorem later_execEpochAgeZeroise (s : State) : LaterR s (execEpochAgeZeroise s) := by
  unfold execEpochAgeZeroise
  exact .next (.ite (.refl _) (.step (keep_zeroise ..) rfl (.untilFtime (.refl _))))

theorem later_execTrialWindowExpiry (s : State) : LaterR s (execTrialWindowExpiry s) := by
  unfold execTrialWindowExpiry
  exact .next (.ite (.refl _) (.step (keep_occur ..) rfl (.withBoot (.until (.refl _)))))

theorem later_execDictOutOfOrderAck (p : Path) (tid : Nat) (s : State) : LaterR s
  (execDictOutOfOrderAck p tid s) := by
  unfold execDictOutOfOrderAck
  refine .next ?_
  split
  · exact .refl _
  · split
    · exact .refl _
    · exact .ite (.step (keep_dictAck ..) rfl (.step (keep_setTransfer ..) rfl (.until
      (.refl _)))) (.refl _)

theorem later_execDictResendTimeout (p : Path) (tid : Nat) (s : State) : LaterR s
  (execDictResendTimeout p tid s) := by
  unfold execDictResendTimeout
  refine .next ?_
  split
  · exact .refl _
  · exact .ite (.refl _) (.ite (.step (keep_abortTransfer ..) rfl (.step (keep_bump ..) rfl
    (.until (.refl _))))
      (.step (keep_pumpTransfer ..) rfl (.step (keep_setTransfer ..) rfl (.step (keep_bump ..) rfl
        (.until (.refl _))))))

theorem later_execDeferredReset (s : State) : LaterR s (execDeferredReset s) := by
  unfold execDeferredReset
  refine .next ?_
  split
  · exact .refl _
  · exact .ite (.step (keep_release ..) rfl (.step (keep_intoReset ..) rfl (.until (.refl _))))
      (.refl _)

theorem later_execFieldRefreshLoss (s : State) : LaterR s (execFieldRefreshLoss s) := by
  unfold execFieldRefreshLoss
  exact .next (.ite (.refl _) (.ite (.step (keep_faultUp ..) rfl (.step (keep_holdOutputs ..) rfl
    (.until (.refl _))))
    (.step (keep_holdOutputs ..) rfl (.until (.refl _)))))

theorem later_execFieldHoldExpiry (s : State) : LaterR s (execFieldHoldExpiry s) := by
  unfold execFieldHoldExpiry
  exact .next (.ite (.refl _) (.foldl (fun _ _ h => .step (keep_fuseSync ..) rfl h)
    (.withFieldLines (.until (.refl _)))))

theorem later_execHobHealthTimeout (s : State) : LaterR s (execHobHealthTimeout s) := by
  unfold execHobHealthTimeout
  exact .next (.ite (.refl _) (.step (keep_writeClaim ..) rfl (.until (.refl _))))


/-- No command but the application of VDD_AON takes LMC back: it waits, or its mask leaves out the
  clock. -/
theorem later_exec (c : Instr) (s : State) (hc : c ≠ .vddAonApplied) : LaterR s (exec c s) := by
  cases c with (dsimp only [exec])
  | registerWrite w target v => exact (keep_execRegisterWrite _ _ _ _).later rfl
  | vddAonApplied => exact absurd rfl hc
  | resetAssert cause => exact (keep_execResetAssert _ _).later rfl
  | resetRelease straps => exact (keep_execResetRelease _ _).later rfl
  | compatRequestWrite w v => exact (keep_execCompatRequestWrite _ _ _).later rfl
  | fieldRefresh => exact (keep_execFieldRefresh _).later rfl
  | fieldFirstRefresh => exact (keep_execFieldFirstRefresh _).later rfl
  | fieldRefreshLoss => exact later_execFieldRefreshLoss _
  | fieldHoldExpiry => exact later_execFieldHoldExpiry _
  | holdTimeMsWrite w v => exact (keep_execHoldTimeMsWrite _ _ _).later rfl
  | fieldDieReset => exact (keep_execFieldDieReset _).later rfl
  | fieldDiePowerUp => exact (keep_execFieldDiePowerUp _).later rfl
  | hobHealthTimeout => exact later_execHobHealthTimeout _
  | modulePresenceSample f absent => exact (keep_execModulePresenceSample _ _ _).later rfl
  | moduleStartupRead f bytes => exact later_execModuleStartupRead _ _ _
  | moduleLosChange f los => exact (keep_execModuleLosChange _ _ _).later rfl
  | moduleTxFault f => exact (keep_execModuleTxFault _ _).later rfl
  | moduleDiagPoll f bytes => exact later_execModuleDiagPoll _ _ _
  | portEnableWrite w f v => exact (keep_execPortEnableWrite _ _ _ _).later rfl
  | portSettingWrite w f which v => exact (keep_execPortSettingWrite _ _ _ _ _).later rfl
  | versionRangeWrite w max v => exact (keep_execVersionRangeWrite _ _ _ _).later rfl
  | signalDetected f => exact (keep_execSignalDetected _ _).later rfl
  | signalLost f => exact (keep_execSignalLost _ _).later rfl
  | blockLock f => exact (keep_execBlockLock _ _).later rfl
  | modeAttemptExpiry f => exact later_execModeAttemptExpiry _ _
  | linkHelloSend f => exact later_execLinkHelloSend _ _
  | linkHelloReceived f hello => exact (keep_execLinkHelloReceived _ _ _).later rfl
  | helloTimeout f => exact later_execHelloTimeout _ _
  | keepaliveTimeout f => exact later_execKeepaliveTimeout _ _
  | holdoffExpiry f => exact later_execHoldoffExpiry _ _
  | frameHeaderReceived f rx => exact (keep_execFrameHeaderReceived _ _ _).later rfl
  | frameEndReceived f rx => exact (keep_execFrameEndReceived _ _ _).later rfl
  | dupEntryAgeExpiry station => exact later_execDupEntryAgeExpiry _ _
  | frameOriginate fr => exact (keep_execFrameOriginate _ _).later rfl
  | origCapRelease => exact later_execOrigCapRelease _
  | egressFrameDone f => exact (keep_execEgressFrameDone _ _).later rfl
  | copperVote what => exact (keep_execCopperVote _ _).later rfl
  | copperSelftestDone passed => exact (keep_execCopperSelftestDone _ _).later rfl
  | bypCommandWrite w v => exact (keep_execBypCommandWrite _ _ _).later rfl
  | bypCyclesWrite w pin v => exact (keep_execBypCyclesWrite _ _ _ _).later rfl
  | ratedCyclesWrite w warn v => exact (keep_execRatedCyclesWrite _ _ _ _).later rfl
  | settleTimeExpiry => exact later_execSettleTimeExpiry _
  | creditReturnTimeout => exact later_execCreditReturnTimeout _
  | creditReceived fr => exact (keep_execCreditReceived _ _).later rfl
  | creditStallTimeout => exact later_execCreditStallTimeout _
  | linkCounterClearPort w v => exact (keep_execLinkCounterClearPort _ _ _).later rfl
  | linkCounterClearGlobal w v => exact (keep_execLinkCounterClearGlobal _ _ _).later rfl
  | discRoundStart => exact (keep_execDiscRoundStart _).later rfl
  | assignAbsenceTimeout => exact later_execAssignAbsenceTimeout _
  | electReceived f fr => exact (keep_execElectReceived _ _ _).later rfl
  | rootQuietExpiry => exact later_execRootQuietExpiry _
  | rollReceived f fr => exact (keep_execRollReceived _ _ _).later rfl
  | rollReturn f fr pins => exact (keep_execRollReturn _ _ _ _).later rfl
  | assignReceived f fr => exact (keep_execAssignReceived _ _ _).later rfl
  | restartReceived f fr => exact (keep_execRestartReceived _ _ _).later rfl
  | restartTimeout => exact later_execRestartTimeout _
  | assignReturn f fr => exact (keep_execAssignReturn _ _ _).later rfl
  | lapReturn f fr => exact (keep_execLapReturn _ _ _).later rfl
  | announceReceived f fr => exact (keep_execAnnounceReceived _ _ _).later rfl
  | rateChangeDown => exact later_execRateChangeDown _
  | sweepTimer => exact later_execSweepTimer _
  | ringOpenTimeout => exact later_execRingOpenTimeout _
  | couplerAdvertSend => exact later_execCouplerAdvertSend _
  | couplerAdvertReceived f fr => exact (keep_execCouplerAdvertReceived _ _ _).later rfl
  | turnBoundary => exact later_execTurnBoundary _
  | publishSlot => exact later_execPublishSlot _
  | mapRebuildTimeout => exact later_execMapRebuildTimeout _
  | imageFrameReceived f fr tag => exact (keep_execImageFrameReceived _ _ _ _).later rfl
  | imageWriteReceived f fr tag => exact (keep_execImageWriteReceived _ _ _ _).later rfl
  | applyWake => exact later_execApplyWake _
  | applyInstant => exact later_execApplyInstant _
  | snapshotComplete => exact (keep_execSnapshotComplete _).later rfl
  | bar2Write => exact (keep_execBar2Write _).later rfl
  | importRequestSend => exact later_execImportRequestSend _
  | importRequestReceived f fr => exact (keep_execImportRequestReceived _ _ _).later rfl
  | importGrantReceived f fr => exact (keep_execImportGrantReceived _ _ _).later rfl
  | forceWord w => exact (keep_execForceWord _ _).later rfl
  | forceRelease w => exact (keep_execForceRelease _ _).later rfl
  | forceReleaseAll w => exact (keep_execForceReleaseAll _ _).later rfl
  | candidateSend => exact later_execCandidateSend _
  | candidateReceived f fr => exact (keep_execCandidateReceived _ _ _).later rfl
  | candidateExpiry => exact later_execCandidateExpiry _
  | syncSend => exact later_execSyncSend _
  | syncReceived f fr rx => exact (keep_execSyncReceived _ _ _ _).later rfl
  | syncTimeout => exact later_execSyncTimeout _
  | pdelayReqSend f => exact later_execPdelayReqSend _ _
  | pdelayReqReceived f fr rx => exact (keep_execPdelayReqReceived _ _ _ _).later rfl
  | pdelayRespReceived f fr rx => exact (keep_execPdelayRespReceived _ _ _ _).later rfl
  | pdelayTimeout f => exact later_execPdelayTimeout _ _
  | stepAcceptWrite w v => exact (keep_execStepAcceptWrite _ _ _).later rfl
  | setTimeWrite w v => exact (keep_execSetTimeWrite _ _ _).later rfl
  | couplerTimeSend => exact later_execCouplerTimeSend _
  | ptpMessageReceived e msg => exact (keep_execPtpMessageReceived _ _ _).later rfl
  | armRecordWrite w u record => exact (keep_execArmRecordWrite _ _ _ _).later rfl
  | timerDisarm w u v => exact (keep_execTimerDisarm _ _ _ _).later rfl
  | timerPrewake u => exact (keep_execTimerPrewake _ _).later rfl
  | timerInstant u => exact later_execTimerInstant _ _
  | pulseEnd u => exact later_execPulseEnd _ _
  | pxPinEdge x rising => exact (keep_execPxPinEdge _ _ _).later rfl
  | captureFlush w n v => exact (keep_execCaptureFlush _ _ _ _).later rfl
  | queueProducerWrite n q tag data => exact (keep_execQueueProducerWrite _ _ _ _ _).later rfl
  | lossMarkerWrite n q => exact (keep_execLossMarkerWrite _ _ _).later rfl
  | queueTagRead n q pointerFault => exact (keep_execQueueTagRead _ _ _ _).later rfl
  | queueDataWrite n q hi v => exact (keep_execQueueDataWrite _ _ _ _ _).later rfl
  | queueTagWrite n q tag => exact (keep_execQueueTagWrite _ _ _ _).later rfl
  | queueDataLoPop n q => exact (keep_execQueueDataLoPop _ _ _).later rfl
  | queueFlushCommand w n q v => exact (keep_execQueueFlushCommand _ _ _ _ _).later rfl
  | queueFlushComplete n q => exact (keep_execQueueFlushComplete _ _ _).later rfl
  | queueSkipCommand w n q v => exact (keep_execQueueSkipCommand _ _ _ _ _).later rfl
  | queueConfigWrite w n q v => exact (keep_execQueueConfigWrite _ _ _ _ _).later rfl
  | dlModeWrite w ix v => exact (keep_execDlModeWrite _ _ _ _).later rfl
  | dlRawCrossing ix level => exact (keep_execDlRawCrossing _ _ _).later rfl
  | debounceComplete ix => exact later_execDebounceComplete _ _
  | inDelayMeasure ix ps => exact (keep_execInDelayMeasure _ _ _).later rfl
  | dlCounterEdge ix rising => exact (keep_execDlCounterEdge _ _ _).later rfl
  | dlLimitTrip ix => exact (keep_execDlLimitTrip _ _).later rfl
  | dlThermalTrip ix => exact (keep_execDlThermalTrip _ _).later rfl
  | dlPanShed n currents => exact (keep_execDlPanShed _ _ _).later rfl
  | dlRetryBackoffExpiry ix => exact later_execDlRetryBackoffExpiry _ _
  | dlRetryCountReset ix => exact later_execDlRetryCountReset _ _
  | dlClear w ix v => exact (keep_execDlClear _ _ _ _).later rfl
  | dlWireTest ix high => exact later_execDlWireTest _ _ _
  | dlOpenOnDetect ix => exact (keep_execDlOpenOnDetect _ _).later rfl
  | dlShortVfieldDetect ix => exact (keep_execDlShortVfieldDetect _ _).later rfl
  | dlStatusClear ix bit => exact later_execDlStatusClear _ _ _
  | dlCommandWrite w ix v => exact (keep_execDlCommandWrite _ _ _ _).later rfl
  | outPackedWrite w n v => exact (keep_execOutPackedWrite _ _ _ _).later rfl
  | canEnableWrite w c v => exact (keep_execCanEnableWrite _ _ _ _).later rfl
  | canFrameReceived c ago fr => exact (keep_execCanFrameReceived _ _ _ _).later rfl
  | mbCfgWrite w c m v => exact (keep_execMbCfgWrite _ _ _ _ _).later rfl
  | mbHoldWrite w c v => exact (keep_execMbHoldWrite _ _ _ _).later rfl
  | mbDataRead p c m => exact (keep_execMbDataRead _ _ _ _).later rfl
  | canTxAttemptStart c => exact (keep_execCanTxAttemptStart _ _).later rfl
  | canAttemptEnd c outcome => exact (keep_execCanAttemptEnd _ _ _).later rfl
  | canRecoveryStart w c => exact (keep_execCanRecoveryStart _ _ _).later rfl
  | canRecoveryComplete c => exact (keep_execCanRecoveryComplete _ _).later rfl
  | canAloneRelease w c => exact (keep_execCanAloneRelease _ _ _).later rfl
  | canDominantTimeout c => exact (keep_execCanDominantTimeout _ _).later rfl
  | canBusJoin c => exact (keep_execCanBusJoin _ _).later rfl
  | rs485EnableWrite w c v => exact (keep_execRs485EnableWrite _ _ _ _).later rfl
  | rs485CharReceived c ch => exact (keep_execRs485CharReceived _ _ _).later rfl
  | rs485GapExpiry c => exact later_execRs485GapExpiry _ _
  | rs485BreakReceived c ago => exact (keep_execRs485BreakReceived _ _ _).later rfl
  | rs485TxStart c => exact later_execRs485TxStart _ _
  | rs485TxEnd c => exact later_execRs485TxEnd _ _
  | rs485DriverFault c thermal => exact (keep_execRs485DriverFault _ _ _).later rfl
  | rs485ReplayStart c => exact (keep_execRs485ReplayStart _ _).later rfl
  | rs485ActiveJoin c => exact later_execRs485ActiveJoin _ _
  | iolModeWrite w p v => exact (keep_execIolModeWrite _ _ _ _).later rfl
  | iolWakeSlotGrant => exact later_execIolWakeSlotGrant _
  | iolStartupComplete p dev => exact (keep_execIolStartupComplete _ _ _).later rfl
  | iolMSequenceStart p => exact later_execIolMSequenceStart _ _
  | iolMSequenceReply p pd valid checksumOk => exact
    (keep_execIolMSequenceReply _ _ _ _ _).later rfl
  | isduRequestWrite w p data => exact (keep_execIsduRequestWrite _ _ _ _).later rfl
  | isduQueueRequest p => exact (keep_execIsduQueueRequest _ _).later rfl
  | isduComplete p error data => exact (keep_execIsduComplete _ _ _ _).later rfl
  | isduTimeout p => exact later_execIsduTimeout _ _
  | iolEventRead p qualifier code => exact (keep_execIolEventRead _ _ _ _).later rfl
  | iolEventBacklogRelease p => exact (keep_execIolEventBacklogRelease _ _).later rfl
  | portCmdRestart w p => exact (keep_execPortCmdRestart _ _ _).later rfl
  | portCmdBackup w p => exact (keep_execPortCmdBackup _ _ _).later rfl
  | portCmdClearDs w p => exact (keep_execPortCmdClearDs _ _ _).later rfl
  | dsUploadRequest p => exact (keep_execDsUploadRequest _ _).later rfl
  | dsCommit p data => exact (keep_execDsCommit _ _ _).later rfl
  | lpFastTrip p => exact (keep_execLpFastTrip _ _).later rfl
  | lpSlowTrip p => exact (keep_execLpSlowTrip _ _).later rfl
  | lpThermalTrip p => exact (keep_execLpThermalTrip _ _).later rfl
  | lpRampComplete p => exact later_execLpRampComplete _ _
  | lpBackoffExpiry p => exact later_execLpBackoffExpiry _ _
  | lpClear w p v => exact (keep_execLpClear _ _ _ _).later rfl
  | whiskStart wr w => exact (keep_execWhiskStart _ _ _).later rfl
  | whiskHalt wr w => exact (keep_execWhiskHalt _ _ _).later rfl
  | whiskResume wr w => exact (keep_execWhiskResume _ _ _).later rfl
  | whiskRestart wr w => exact (keep_execWhiskRestart _ _ _).later rfl
  | whiskStop wr w => exact (keep_execWhiskStop _ _ _).later rfl
  | whiskStepEnter w read => exact later_execWhiskStepEnter _ _ _
  | whiskDwellEnd w read => exact later_execWhiskDwellEnd _ _ _
  | whiskStallClear w => exact (keep_execWhiskStallClear _ _).later rfl
  | whiskStallLimit w => exact later_execWhiskStallLimit _ _
  | whiskStoreMove w send => exact (keep_execWhiskStoreMove _ _ _).later rfl
  | switchFrameIngress ix => exact (keep_execSwitchFrameIngress _ _).later rfl
  | spillPageTimeout p c => exact later_execSpillPageTimeout _ _ _
  | spillPageReadback p c fixed bad => exact later_execSpillPageReadback _ _ _ _ _
  | egressFrameStart p fixed bad => exact later_execEgressFrameStart _ _ _ _
  | portDownFlush p => exact (keep_execPortDownFlush _ _).later rfl
  | portFlushComplete p => exact (keep_execPortFlushComplete _ _).later rfl
  | meterWrite w m v => exact (keep_execMeterWrite _ _ _ _).later rfl
  | gateCommit w g v => exact (keep_execGateCommit _ _ _ _).later rfl
  | gateEntryChange g => exact later_execGateEntryChange _ _
  | gateListTakeover g => exact later_execGateListTakeover _ _
  | samplerEnableWrite w ix v => exact (keep_execSamplerEnableWrite _ _ _ _).later rfl
  | switchClearTotals w => exact (keep_execSwitchClearTotals _ _).later rfl
  | switchClearPorts w => exact (keep_execSwitchClearPorts _ _).later rfl
  | switchClearMeters w => exact (keep_execSwitchClearMeters _ _).later rfl
  | switchClearSamplers w => exact (keep_execSwitchClearSamplers _ _).later rfl
  | switchClearGates w => exact (keep_execSwitchClearGates _ _).later rfl
  | edgeLinkChange e linked half rate => exact (keep_execEdgeLinkChange _ _ _ _ _).later rfl
  | edgeSyncLoss e => exact (keep_execEdgeSyncLoss _ _).later rfl
  | mdioRead w e phy => exact (keep_execMdioRead _ _ _ _).later rfl
  | mdioWrite w e v => exact (keep_execMdioWrite _ _ _ _).later rfl
  | tunnelConfigWrite w t v => exact (keep_execTunnelConfigWrite _ _ _ _).later rfl
  | tunnelOpenSend t => exact later_execTunnelOpenSend _ _
  | tunnelOpenReceived fr => exact (keep_execTunnelOpenReceived _ _).later rfl
  | tunnelAcceptReceived fr => exact (keep_execTunnelAcceptReceived _ _).later rfl
  | tunnelRefuseReceived fr => exact (keep_execTunnelRefuseReceived _ _).later rfl
  | tunnelDataReceived fr => exact (keep_execTunnelDataReceived _ _).later rfl
  | tunnelCloseReceived fr => exact (keep_execTunnelCloseReceived _ _).later rfl
  | tunnelKeepaliveSend t => exact later_execTunnelKeepaliveSend _ _
  | tunnelLostTimeout t => exact later_execTunnelLostTimeout _ _
  | tunnelCreditReport t => exact later_execTunnelCreditReport _ _
  | tunnelReorderTimeout t => exact later_execTunnelReorderTimeout _ _
  | ladlePacketTake t body => exact (keep_execLadlePacketTake _ _ _).later rfl
  | tunnelDataSend t => exact (keep_execTunnelDataSend _ _).later rfl
  | tunnelSinkDeliver t => exact (keep_execTunnelSinkDeliver _ _).later rfl
  | sidebandPoll t edges levels => exact later_execSidebandPoll _ _ _ _
  | sidebandReceived fr => exact (keep_execSidebandReceived _ _).later rfl
  | routeClassify n q => exact (keep_execRouteClassify _ _ _).later rfl
  | routeFrameReceived fr => exact (keep_execRouteFrameReceived _ _).later rfl
  | routeEntryWrite w r v => exact (keep_execRouteEntryWrite _ _ _ _).later rfl
  | generationRetire => exact (keep_execGenerationRetire _).later rfl
  | dictRead req => exact (keep_execDictRead _ _).later rfl
  | dictWrite req => exact (keep_execDictWrite _ _).later rfl
  | dictReadBlock req => exact (keep_execDictReadBlock _ _).later rfl
  | dictWriteBlock req => exact (keep_execDictWriteBlock _ _).later rfl
  | dictSegment p tid seg last crc data => exact (keep_execDictSegment _ _ _ _ _ _ _).later rfl
  | dictAck p tid next => exact (keep_execDictAck _ _ _ _).later rfl
  | dictCancel p tid => exact (keep_execDictCancel _ _ _).later rfl
  | dictOutOfOrderAck p tid => exact later_execDictOutOfOrderAck _ _ _
  | dictResendTimeout p tid => exact later_execDictResendTimeout _ _ _
  | stateRequestPreop w => exact (keep_execStateRequestPreop _ _).later rfl
  | stateRequestOperate w => exact (keep_execStateRequestOperate _ _).later rfl
  | stateRequestSafe w => exact (keep_execStateRequestSafe _ _).later rfl
  | stateRequestOpenMaint w => exact (keep_execStateRequestOpenMaint _ _).later rfl
  | stateRequestCloseMaint w => exact (keep_execStateRequestCloseMaint _ _).later rfl
  | stateRequestReset w => exact (keep_execStateRequestReset _ _).later rfl
  | deferredReset => exact later_execDeferredReset _
  | autoOperateEntry => exact (keep_execAutoOperateEntry _).later rfl
  | maintIdleExpiry => exact later_execMaintIdleExpiry _
  | save w v => exact (keep_execSave _ _ _).later rfl
  | saveComplete => exact (keep_execSaveComplete _).later rfl
  | restoreDefaults w v => exact (keep_execRestoreDefaults _ _ _).later rfl
  | mailboxGo v buffer => exact (keep_execMailboxGo _ _ _).later rfl
  | mailboxResponse f fr => exact (keep_execMailboxResponse _ _ _).later rfl
  | mailboxTimeout => exact later_execMailboxTimeout _
  | mailboxDoneClear => exact (keep_execMailboxDoneClear _).later rfl
  | snapshotGo v => exact (keep_execSnapshotGo _ _).later rfl
  | ftimeLoRead => exact (keep_execFtimeLoRead _).later rfl
  | lmcLoRead => exact (keep_execLmcLoRead _).later rfl
  | watchdogKick => exact (keep_execWatchdogKick _).later rfl
  | watchdogExpiry => exact later_execWatchdogExpiry _
  | ringEnableWrite r v => exact (keep_execRingEnableWrite _ _ _).later rfl
  | ringTailWrite r v => exact (keep_execRingTailWrite _ _ _).later rfl
  | ringSlotWrite r => exact (keep_execRingSlotWrite _ _).later rfl
  | msixModerationTimeout r => exact later_execMsixModerationTimeout _ _
  | iwStageWrite v => exact (keep_execIwStageWrite _ _).later rfl
  | iwSend v => exact (keep_execIwSend _ _).later rfl
  | iwApplyWindowRelease => exact later_execIwApplyWindowRelease _
  | txTailWrite v => exact (keep_execTxTailWrite _ _).later rfl
  | txDescriptorTake => exact (keep_execTxDescriptorTake _).later rfl
  | pcieLinkDown => exact (keep_execPcieLinkDown _).later rfl
  | hostReadyWrite v => exact (keep_execHostReadyWrite _ _).later rfl
  | eventRaise n data => exact (keep_execEventRaise _ _ _).later rfl
  | sourceCfgWrite w n v => exact (keep_execSourceCfgWrite _ _ _ _).later rfl
  | claimRead t => exact (keep_execClaimRead _ _).later rfl
  | completeWrite t v => exact (keep_execCompleteWrite _ _ _).later rfl
  | remoteCompleteWrite w v => exact (keep_execRemoteCompleteWrite _ _ _).later rfl
  | reofferTimeout n => exact later_execReofferTimeout _ _
  | raiseWrite w v => exact (keep_execRaiseWrite _ _ _).later rfl
  | sidebandAckWrite w k v => exact (keep_execSidebandAckWrite _ _ _ _).later rfl
  | fenceIssueLocal w ticket => exact (keep_execFenceIssueLocal _ _ _).later rfl
  | fenceIssueImage w ticket => exact (keep_execFenceIssueImage _ _ _).later rfl
  | fenceIssueTable w ticket => exact (keep_execFenceIssueTable _ _ _).later rfl
  | fenceIssueRing w ticket => exact (keep_execFenceIssueRing _ _ _).later rfl
  | fenceLocalDone ix => exact (keep_execFenceLocalDone _ _).later rfl
  | fenceImageDone ix => exact later_execFenceImageDone _ _
  | fenceTableDone ix => exact (keep_execFenceTableDone _ _).later rfl
  | fenceRingReturn ticket => exact (keep_execFenceRingReturn _ _).later rfl
  | fenceTimeout ix => exact later_execFenceTimeout _ _
  | claimRoundStart => exact later_execClaimRoundStart _
  | claimStartEdge => exact (keep_execClaimStartEdge _).later rfl
  | claimRoundEnd wire => exact later_execClaimRoundEnd _ _
  | claimRow3Entry => exact later_execClaimRow3Entry _
  | claimHoldExpiry => exact later_execClaimHoldExpiry _
  | claimBusTimeout => exact later_execClaimBusTimeout _
  | hobHeartbeatWrite => exact (keep_execHobHeartbeatWrite _).later rfl
  | twinHeartbeatSend => exact later_execTwinHeartbeatSend _
  | twinHeartbeatReceived fr tag => exact (keep_execTwinHeartbeatReceived _ _ _).later rfl
  | pathSilentTimeout pathB => exact later_execPathSilentTimeout _ _
  | selftestItemRun item found => exact (keep_execSelftestItemRun _ _ _).later rfl
  | seizeTimeout => exact later_execSeizeTimeout _
  | syncRequestReceived fr tag => exact (keep_execSyncRequestReceived _ _ _).later rfl
  | syncBulkReceived fr tag => exact (keep_execSyncBulkReceived _ _ _).later rfl
  | syncWriteReceived fr tag => exact (keep_execSyncWriteReceived _ _ _).later rfl
  | syncAckReceived fr tag => exact (keep_execSyncAckReceived _ _ _).later rfl
  | handoverRequestWrite w v => exact (keep_execHandoverRequestWrite _ _ _).later rfl
  | handoverProposeReceived fr tag => exact (keep_execHandoverProposeReceived _ _ _).later rfl
  | handoverAgreeReceived fr tag => exact (keep_execHandoverAgreeReceived _ _ _).later rfl
  | handoverBoundary => exact later_execHandoverBoundary _
  | handoverAbandon => exact later_execHandoverAbandon _
  | revertHoldoffExpiry => exact later_execRevertHoldoffExpiry _
  | faultOccurrence n item detail live => exact (keep_execFaultOccurrence _ _ _ _ _).later rfl
  | faultLiveFall n => exact (keep_execFaultLiveFall _ _).later rfl
  | faultQuietExpiry n => exact later_execFaultQuietExpiry _ _
  | faultClear w n => exact (keep_execFaultClear _ _ _).later rfl
  | faultForce w n => exact (keep_execFaultForce _ _ _).later rfl
  | faultLatchReset w n => exact (keep_execFaultLatchReset _ _ _).later rfl
  | stormEnd => exact later_execStormEnd _
  | crucibleCommit => exact (keep_execCrucibleCommit _).later rfl
  | crucibleTriggerWrite w v => exact (keep_execCrucibleTriggerWrite _ _ _).later rfl
  | policyEvaluation measured => exact later_execPolicyEvaluation _ _
  | ruleWrite w r v => exact (keep_execRuleWrite _ _ _ _).later rfl
  | perturbationStart w ix v => exact (keep_execPerturbationStart _ _ _ _).later rfl
  | perturbationStop w ix v => exact (keep_execPerturbationStop _ _ _ _).later rfl
  | perturbationExpiry ix => exact later_execPerturbationExpiry _ _
  | perturbationStopAll w v => exact (keep_execPerturbationStopAll _ _ _).later rfl
  | coreClockGate => exact later_execCoreClockGate _
  | corePowerGate => exact later_execCorePowerGate _
  | coreWake => exact later_execCoreWake _
  | coreEligibilityWake => exact later_execCoreEligibilityWake _
  | cpWake pair => exact (keep_execCpWake _ _).later rfl
  | panDozeEntry n => exact later_execPanDozeEntry _ _
  | panDarkEntry n => exact later_execPanDarkEntry _ _
  | panWake n => exact (keep_execPanWake _ _).later rfl
  | panWakeComplete n => exact later_execPanWakeComplete _ _
  | vfieldWarning mv => exact (keep_execVfieldWarning _ _).later rfl
  | vfieldWarningEnd => exact (keep_execVfieldWarningEnd _).later rfl
  | vfieldUndervoltage mv => exact (keep_execVfieldUndervoltage _ _).later rfl
  | vfieldUndervoltageEnd => exact (keep_execVfieldUndervoltageEnd _).later rfl
  | feedOutOfRange feedB mv => exact (keep_execFeedOutOfRange _ _ _).later rfl
  | feedBackInRange feedB => exact (keep_execFeedBackInRange _ _).later rfl
  | railCheck outside => exact later_execRailCheck _ _
  | temperatureCheck logic field dram => exact later_execTemperatureCheck _ _ _ _
  | branchFastTrip b => exact (keep_execBranchFastTrip _ _).later rfl
  | branchI2tTrip b => exact (keep_execBranchI2tTrip _ _).later rfl
  | branchSoaTrip b => exact later_execBranchSoaTrip _ _
  | branchGateTrip b => exact (keep_execBranchGateTrip _ _).later rfl
  | branchPeerTrip b => exact (keep_execBranchPeerTrip _ _).later rfl
  | branchRampComplete b => exact (keep_execBranchRampComplete _ _).later rfl
  | branchBackoffExpiry b => exact later_execBranchBackoffExpiry _ _
  | branchRetryReset b => exact later_execBranchRetryReset _ _
  | branchClear w b v => exact (keep_execBranchClear _ _ _ _).later rfl
  | branchEnableWrite w b v => exact (keep_execBranchEnableWrite _ _ _ _).later rfl
  | branchCommandWrite w b v => exact (keep_execBranchCommandWrite _ _ _ _).later rfl
  | transitionForge w v good => exact (keep_execTransitionForge _ _ _ _).later rfl
  | transitionTake w v good => exact (keep_execTransitionTake _ _ _ _).later rfl
  | transitionTransfer w v good => exact (keep_execTransitionTransfer _ _ _ _).later rfl
  | transitionReturn w v good => exact (keep_execTransitionReturn _ _ _ _).later rfl
  | transitionScrap w v good => exact (keep_execTransitionScrap _ _ _ _).later rfl
  | rootTakeover => exact later_execRootTakeover _
  | keyLoad intact => exact later_execKeyLoad _ _
  | tagFloorAdvance => exact later_execTagFloorAdvance _
  | tagWaitRelease => exact (keep_execTagWaitRelease _).later rfl
  | epochCommit w v => exact (keep_execEpochCommit _ _ _).later rfl
  | epochRollover => exact later_execEpochRollover _
  | keyEpochAge => exact later_execKeyEpochAge _
  | epochAgeZeroise => exact later_execEpochAgeZeroise _
  | zeroiseWrite w v => exact (keep_execZeroiseWrite _ _ _).later rfl
  | keyLossSafe => exact later_execKeyLossSafe _
  | attestRequest w v => exact (keep_execAttestRequest _ _ _).later rfl
  | attestComplete => exact (keep_execAttestComplete _).later rfl
  | countersignKeyWrite w v good => exact (keep_execCountersignKeyWrite _ _ _ _).later rfl
  | bootLoaderStart loaderGood imageGood torn => exact (keep_execBootLoaderStart _ _ _ _).later rfl
  | firmwareStart => exact (keep_execFirmwareStart _).later rfl
  | updateBegin w => exact (keep_execUpdateBegin _ _).later rfl
  | stagingBlockWrite w off data => exact (keep_execStagingBlockWrite _ _ _ _).later rfl
  | updateWrite w digestGood => exact (keep_execUpdateWrite _ _ _).later rfl
  | sectorWritten => exact (keep_execSectorWritten _).later rfl
  | updateConfirm w => exact (keep_execUpdateConfirm _ _).later rfl
  | updateAbort w => exact (keep_execUpdateAbort _ _).later rfl
  | trialWindowExpiry => exact later_execTrialWindowExpiry _
  | enterRecoveryWrite w v => exact (keep_execEnterRecoveryWrite _ _ _).later rfl
  | recoveryImageBlock w off data => exact (keep_execRecoveryImageBlock _ _ _ _).later rfl
  | recoveryBlockWritten => exact (keep_execRecoveryBlockWritten _).later rfl
  | recoveryReboot w => exact (keep_execRecoveryReboot _ _).later rfl
  | uartFrameReceived bytes => exact (keep_execUartFrameReceived _ _).later rfl
  | jtagExtest => exact (keep_execJtagExtest _).later rfl
  | jtagIdcode => exact (keep_execJtagIdcode _).later rfl
  | jtagSamplePreload => exact (keep_execJtagSamplePreload _).later rfl
  | jtagClamp => exact (keep_execJtagClamp _).later rfl
  | jtagHighz => exact (keep_execJtagHighz _).later rfl
  | jtagCrucibleAddr v => exact (keep_execJtagCrucibleAddr _ _).later rfl
  | jtagCrucibleData => exact (keep_execJtagCrucibleData _).later rfl
  | jtagBypass => exact (keep_execJtagBypass _).later rfl
  | pcieLinkUp speed width busMaster => exact (keep_execPcieLinkUp _ _ _ _).later rfl
  | sgmiiSyncRegained e => exact (keep_execSgmiiSyncRegained _ _).later rfl
  | holdoverLimitExpiry => exact later_execHoldoverLimitExpiry _
  | candidateListenExpiry => exact later_execCandidateListenExpiry _
  | ptpMessageSend e kind => exact (keep_execPtpMessageSend _ _ _).later rfl
  | ptpLockLost e => exact (keep_execPtpLockLost _ _).later rfl
  | canReceiveError c add => exact (keep_execCanReceiveError _ _ _).later rfl
  | cqInputCrossing p level => exact (keep_execCqInputCrossing _ _ _).later rfl
  | cqCurrentLimit p => exact (keep_execCqCurrentLimit _ _).later rfl
  | iolStartupDelayExpiry p => exact later_execIolStartupDelayExpiry _ _
  | iolReplyTimeout p => exact (keep_execIolReplyTimeout _ _).later rfl
  | iolMSequenceWake p => exact (keep_execIolMSequenceWake _ _).later rfl
  | samplingWake n => exact (keep_execSamplingWake _ _).later rfl
  | stageCooled ix => exact (keep_execStageCooled _ _).later rfl
  | i2tHalfLevelReached b => exact (keep_execI2tHalfLevelReached _ _).later rfl
  | dlSlotChangeRelease w slot => exact later_execDlSlotChangeRelease _ _ _
  | lockstepMismatch pair => exact (keep_execLockstepMismatch _ _).later rfl
  | dmaReadCompletion good data => exact (keep_execDmaReadCompletion _ _ _).later rfl
  | dmaCompletionTimeout => exact later_execDmaCompletionTimeout _

/-- Settles O54: by `later_exec`, and the clock of `State.rebase` is 0. -/
theorem lmcNeverRunsBack : Obligations.LmcNeverRunsBack := by
  unfold Obligations.LmcNeverRunsBack
  refine ⟨fun c s t h hc => later_exec c s hc t h, fun s hrun => ⟨{ s.rebase with run := .held },
    ?_, rfl⟩⟩
  show execVddAonApplied s = _
  rw [execVddAonApplied, hrun]

end Sys2Proof.Machine
end

section
/-! PROOFS. Tier 1: a step takes the front of the queue (O1), reset and its invariant (O3, O4), the JTAG port (O53). -/

namespace Sys2Proof.Machine

open Sys2Proof

/-- Settles O1. -/
theorem stepTakesFront : Obligations.StepTakesFront := by
  unfold Obligations.StepTakesFront
  intro s c rest hq
  unfold step
  rw [hq]

/-- Settles O3: every table of the reset state is empty, so each reads its default. -/
theorem resetState : Obligations.ResetState := by
  unfold Obligations.ResetState
  exact ⟨rfl, rfl, fun _ => rfl, fun _ => rfl, fun _ => rfl, fun _ => rfl, fun _ => rfl⟩

/-- Settles O4. -/
theorem invariantAtReset : Obligations.InvariantAtReset := by
  unfold Obligations.InvariantAtReset Inv
  exact ⟨by decide, Nat.zero_le _, Nat.zero_le _, Nat.zero_le _⟩

/-- The JTAG port works whenever the hub is powered (R516). -/
theorem jtagOn_of_powered {s : State} (h : s.run ≠ .unpowered) : s.jtagOn = true := by
  unfold State.jtagOn
  split
  · contradiction
  · rfl

theorem jtagCrucible_iff (s : State) : s.jtagCrucible = true ↔ s.reg Key.LC_STATE = 3 := beq_iff_eq

/-- An address cut to its 64-byte slot. -/
theorem slot_floor (v : Nat) : v / 64 * 64 % 64 = 0 ∧ v / 64 * 64 ≤ v ∧ v < v / 64 * 64 + 64 := by omega

theorem exec_jtagCrucibleAddr_returned {s : State} {v : Nat} (hon : s.jtagOn = true) (hlc : s.reg Key.LC_STATE = 3) :
    exec (.jtagCrucibleAddr v) s = .next { s with jtag := { s.jtag with ir := 0x21, addr := v % 2 ^ 22 / 64 * 64 } } := by
  have hc := (jtagCrucible_iff s).2 hlc
  change execJtagCrucibleAddr v s = _
  simp [execJtagCrucibleAddr, hon, hc]

theorem exec_jtagCrucibleData_returned {s : State} (hon : s.jtagOn = true) (hlc : s.reg Key.LC_STATE = 3) :
    exec .jtagCrucibleData s = .next { s with jtag :=
      { ir := 0x22, addr := (s.jtag.addr + 64) % 2 ^ 22, data := s.crucibleBytes s.jtag.addr 64 } } := by
  have hc := (jtagCrucible_iff s).2 hlc
  change execJtagCrucibleData s = _
  simp [execJtagCrucibleData, hon, hc]

/-- Outside RETURNED the two Crucible instructions act as BYPASS (R444). -/
theorem exec_jtagCrucible_kept {s : State} (hon : s.jtagOn = true) (hlc : s.reg Key.LC_STATE ≠ 3) (v : Nat) :
    exec (.jtagCrucibleAddr v) s = .next (s.jtagSelect 0xFF) ∧ exec .jtagCrucibleData s = .next (s.jtagSelect 0xFF) := by
  have hc : s.jtagCrucible = false := Bool.eq_false_iff.2 fun h => hlc ((jtagCrucible_iff s).1 h)
  constructor
  · change execJtagCrucibleAddr v s = _
    simp [execJtagCrucibleAddr, hon, hc]
  · change execJtagCrucibleData s = _
    simp [execJtagCrucibleData, hon, hc]

/-- Settles O53. -/
theorem jtagPort : Obligations.JtagPort := by
  unfold Obligations.JtagPort
  refine ⟨?extest, ?idcode, ?sample, ?clamp, ?highz, ?bypass, ?addr, ?data, ?addrKept, ?dataKept⟩
  case extest => exact fun s hs => ⟨_, rfl, if_pos (jtagOn_of_powered hs)⟩
  case idcode =>
    intro s hs
    refine ⟨_, rfl, ?_⟩
    rw [if_pos (jtagOn_of_powered hs)]
    have hid : beBytes 4 0x107207CB = [0x10, 0x72, 0x07, 0xCB] := by decide
    exact ⟨rfl, rfl, hid⟩
  case sample => exact fun s hs => ⟨_, rfl, if_pos (jtagOn_of_powered hs)⟩
  case clamp => exact fun s hs => ⟨_, rfl, if_pos (jtagOn_of_powered hs)⟩
  case highz => exact fun s hs => ⟨_, rfl, if_pos (jtagOn_of_powered hs)⟩
  case bypass => exact fun s hs => ⟨_, rfl, if_pos (jtagOn_of_powered hs)⟩
  case addr =>
    intro s v hs hlc
    have hcut := slot_floor (v % 2 ^ 22)
    exact ⟨_, exec_jtagCrucibleAddr_returned (jtagOn_of_powered hs) hlc, rfl, hcut.1, hcut.2.1, hcut.2.2, rfl⟩
  case data =>
    exact fun s hs hlc => ⟨_, exec_jtagCrucibleData_returned (jtagOn_of_powered hs) hlc, rfl, rfl, rfl, rfl⟩
  case addrKept => exact fun s v hs hlc => ⟨_, (exec_jtagCrucible_kept (jtagOn_of_powered hs) hlc v).1, rfl⟩
  case dataKept => exact fun s hs hlc => ⟨_, (exec_jtagCrucible_kept (jtagOn_of_powered hs) hlc 0).2, rfl⟩

end Sys2Proof.Machine
end

section
/-! PROOFS. What waiting leaves: `State.until` and `State.untilFtime` move the clock and nothing a reader of the state sees.
-/

namespace Sys2Proof.Machine

open Sys2Proof

@[simp] theorem State.until_fields (s : State) (t : Nat) :
    (s.until t).run = s.run ∧ (s.until t).straps = s.straps ∧ (s.until t).resetCause = s.resetCause ∧
    (s.until t).regs = s.regs ∧ (s.until t).cnt = s.cnt ∧ (s.until t).rejects = s.rejects ∧ (s.until t).free = s.free ∧
    (s.until t).hub = s.hub ∧ (s.until t).answers = s.answers ∧ (s.until t).role = s.role ∧ (s.until t).links = s.links ∧
    (s.until t).tx = s.tx ∧ (s.until t).ingress = s.ingress ∧ (s.until t).sent = s.sent ∧ (s.until t).inbox = s.inbox ∧
    (s.until t).landing = s.landing ∧ (s.until t).seqNext = s.seqNext ∧ (s.until t).origTimes = s.origTimes ∧
    (s.until t).origHeld = s.origHeld ∧ (s.until t).dups = s.dups ∧ (s.until t).tie = s.tie ∧
    (s.until t).settleEnds = s.settleEnds ∧ (s.until t).field = s.field ∧ (s.until t).healthAt = s.healthAt ∧
    (s.until t).sources = s.sources ∧ (s.until t).records = s.records ∧ (s.until t).recordLoss = s.recordLoss ∧
    (s.until t).deliveries = s.deliveries ∧ (s.until t).msix = s.msix ∧ (s.until t).faults = s.faults ∧
    (s.until t).cru = s.cru ∧ (s.until t).copper = s.copper ∧ (s.until t).assigned = s.assigned ∧
    (s.until t).disc = s.disc ∧ (s.until t).img = s.img ∧ (s.until t).mirror = s.mirror ∧ (s.until t).hist = s.hist ∧
    (s.until t).timers = s.timers ∧ (s.until t).captures = s.captures ∧ (s.until t).queues = s.queues ∧
    (s.until t).busReads = s.busReads ∧ (s.until t).lines = s.lines ∧ (s.until t).pxs = s.pxs ∧ (s.until t).cans = s.cans ∧
    (s.until t).rss = s.rss ∧ (s.until t).rsSent = s.rsSent ∧ (s.until t).bridges = s.bridges ∧ (s.until t).iols = s.iols ∧
    (s.until t).whisks = s.whisks ∧ (s.until t).sw = s.sw ∧ (s.until t).bar0 = s.bar0 ∧ (s.until t).host = s.host ∧
    (s.until t).dict = s.dict ∧ (s.until t).recordsIn = s.recordsIn ∧ (s.until t).fences = s.fences ∧
    (s.until t).fenceOrder = s.fenceOrder ∧ (s.until t).writeSentAt = s.writeSentAt ∧ (s.until t).writeHeld = s.writeHeld ∧
    (s.until t).peerReady = s.peerReady ∧ (s.until t).handInstant = s.handInstant ∧ (s.until t).twin = s.twin ∧
    (s.until t).pertCount = s.pertCount ∧ (s.until t).pertEnds = s.pertEnds ∧ (s.until t).rules = s.rules ∧
    (s.until t).gaugeLog = s.gaugeLog ∧ (s.until t).gaugeIn = s.gaugeIn ∧ (s.until t).pans = s.pans ∧
    (s.until t).fuses = s.fuses ∧ (s.until t).power = s.power ∧ (s.until t).tagHeld = s.tagHeld ∧
    (s.until t).keys = s.keys ∧ (s.until t).boot = s.boot ∧ (s.until t).uartSent = s.uartSent ∧ (s.until t).jtag = s.jtag ∧
    (s.until t).pending = s.pending := by
  unfold State.until
  split <;> (and_intros <;> rfl)

@[simp] theorem State.until_readers (s : State) (t : Nat) :
    (s.until t).reg = s.reg ∧ (s.until t).count = s.count ∧ (s.until t).rejections = s.rejections ∧
    (s.until t).link = s.link ∧ (s.until t).port = s.port ∧ (s.until t).rule = s.rule ∧ (s.until t).src = s.src ∧
    (s.until t).bar = s.bar ∧ (s.until t).whisk = s.whisk ∧ (s.until t).flt = s.flt ∧ (s.until t).line = s.line ∧
    (s.until t).px = s.px ∧ (s.until t).can = s.can ∧ (s.until t).fence = s.fence ∧ (s.until t).ring = s.ring ∧
    (s.until t).bar4 = s.bar4 ∧ (s.until t).iol = s.iol ∧ (s.until t).dup = s.dup ∧ (s.until t).pan = s.pan ∧
    (s.until t).fuse = s.fuse ∧ (s.until t).queue = s.queue ∧ (s.until t).rs = s.rs ∧ (s.until t).bridge = s.bridge ∧
    (s.until t).timer = s.timer ∧ (s.until t).capture = s.capture ∧ (s.until t).tun = s.tun ∧ (s.until t).meter = s.meter ∧
    (s.until t).announce = s.announce ∧ (s.until t).mailbox = s.mailbox := by
  unfold State.until
  split <;> (and_intros <;> rfl)

@[simp] theorem State.untilFtime_fields (s : State) (t : Int) :
    (s.untilFtime t).run = s.run ∧ (s.untilFtime t).straps = s.straps ∧ (s.untilFtime t).resetCause = s.resetCause ∧
    (s.untilFtime t).regs = s.regs ∧ (s.untilFtime t).cnt = s.cnt ∧ (s.untilFtime t).rejects = s.rejects ∧
    (s.untilFtime t).free = s.free ∧ (s.untilFtime t).hub = s.hub ∧ (s.untilFtime t).answers = s.answers ∧
    (s.untilFtime t).role = s.role ∧ (s.untilFtime t).links = s.links ∧ (s.untilFtime t).tx = s.tx ∧
    (s.untilFtime t).ingress = s.ingress ∧ (s.untilFtime t).sent = s.sent ∧ (s.untilFtime t).inbox = s.inbox ∧
    (s.untilFtime t).landing = s.landing ∧ (s.untilFtime t).seqNext = s.seqNext ∧ (s.untilFtime t).origTimes = s.origTimes ∧
    (s.untilFtime t).origHeld = s.origHeld ∧ (s.untilFtime t).dups = s.dups ∧ (s.untilFtime t).tie = s.tie ∧
    (s.untilFtime t).settleEnds = s.settleEnds ∧ (s.untilFtime t).field = s.field ∧ (s.untilFtime t).healthAt = s.healthAt ∧
    (s.untilFtime t).sources = s.sources ∧ (s.untilFtime t).records = s.records ∧
    (s.untilFtime t).recordLoss = s.recordLoss ∧ (s.untilFtime t).deliveries = s.deliveries ∧
    (s.untilFtime t).msix = s.msix ∧ (s.untilFtime t).faults = s.faults ∧ (s.untilFtime t).cru = s.cru ∧
    (s.untilFtime t).copper = s.copper ∧ (s.untilFtime t).assigned = s.assigned ∧ (s.untilFtime t).disc = s.disc ∧
    (s.untilFtime t).img = s.img ∧ (s.untilFtime t).mirror = s.mirror ∧ (s.untilFtime t).hist = s.hist ∧
    (s.untilFtime t).timers = s.timers ∧ (s.untilFtime t).captures = s.captures ∧ (s.untilFtime t).queues = s.queues ∧
    (s.untilFtime t).busReads = s.busReads ∧ (s.untilFtime t).lines = s.lines ∧ (s.untilFtime t).pxs = s.pxs ∧
    (s.untilFtime t).cans = s.cans ∧ (s.untilFtime t).rss = s.rss ∧ (s.untilFtime t).rsSent = s.rsSent ∧
    (s.untilFtime t).bridges = s.bridges ∧ (s.untilFtime t).iols = s.iols ∧ (s.untilFtime t).whisks = s.whisks ∧
    (s.untilFtime t).sw = s.sw ∧ (s.untilFtime t).bar0 = s.bar0 ∧ (s.untilFtime t).host = s.host ∧
    (s.untilFtime t).dict = s.dict ∧ (s.untilFtime t).recordsIn = s.recordsIn ∧ (s.untilFtime t).fences = s.fences ∧
    (s.untilFtime t).fenceOrder = s.fenceOrder ∧ (s.untilFtime t).writeSentAt = s.writeSentAt ∧
    (s.untilFtime t).writeHeld = s.writeHeld ∧ (s.untilFtime t).peerReady = s.peerReady ∧
    (s.untilFtime t).handInstant = s.handInstant ∧ (s.untilFtime t).twin = s.twin ∧
    (s.untilFtime t).pertCount = s.pertCount ∧ (s.untilFtime t).pertEnds = s.pertEnds ∧ (s.untilFtime t).rules = s.rules ∧
    (s.untilFtime t).gaugeLog = s.gaugeLog ∧ (s.untilFtime t).gaugeIn = s.gaugeIn ∧ (s.untilFtime t).pans = s.pans ∧
    (s.untilFtime t).fuses = s.fuses ∧ (s.untilFtime t).power = s.power ∧ (s.untilFtime t).tagHeld = s.tagHeld ∧
    (s.untilFtime t).keys = s.keys ∧ (s.untilFtime t).boot = s.boot ∧ (s.untilFtime t).uartSent = s.uartSent ∧
    (s.untilFtime t).jtag = s.jtag ∧ (s.untilFtime t).pending = s.pending := by
  unfold State.untilFtime
  split <;> (and_intros <;> rfl)

@[simp] theorem State.untilFtime_readers (s : State) (t : Int) :
    (s.untilFtime t).reg = s.reg ∧ (s.untilFtime t).count = s.count ∧ (s.untilFtime t).rejections = s.rejections ∧
    (s.untilFtime t).link = s.link ∧ (s.untilFtime t).port = s.port ∧ (s.untilFtime t).rule = s.rule ∧
    (s.untilFtime t).src = s.src ∧ (s.untilFtime t).bar = s.bar ∧ (s.untilFtime t).whisk = s.whisk ∧
    (s.untilFtime t).flt = s.flt ∧ (s.untilFtime t).line = s.line ∧ (s.untilFtime t).px = s.px ∧
    (s.untilFtime t).can = s.can ∧ (s.untilFtime t).fence = s.fence ∧ (s.untilFtime t).ring = s.ring ∧
    (s.untilFtime t).bar4 = s.bar4 ∧ (s.untilFtime t).iol = s.iol ∧ (s.untilFtime t).dup = s.dup ∧
    (s.untilFtime t).pan = s.pan ∧ (s.untilFtime t).fuse = s.fuse ∧ (s.untilFtime t).queue = s.queue ∧
    (s.untilFtime t).rs = s.rs ∧ (s.untilFtime t).bridge = s.bridge ∧ (s.untilFtime t).timer = s.timer ∧
    (s.untilFtime t).capture = s.capture ∧ (s.untilFtime t).tun = s.tun ∧ (s.untilFtime t).meter = s.meter ∧
    (s.untilFtime t).announce = s.announce ∧ (s.untilFtime t).mailbox = s.mailbox := by
  unfold State.untilFtime
  split <;> (and_intros <;> rfl)

theorem State.lmc_congr {s t : State} (h : t.clock = s.clock) : t.lmc = s.lmc := by
  unfold State.lmc
  rw [h]

theorem State.tun_congr {s t : State} (h : t.sw = s.sw) : t.tun = s.tun := by
  unfold State.tun
  rw [h]

theorem State.lmc_advance (s : State) (half : Nat) : (s.advance half).lmc = (s.clock + half) / 2 := rfl

/-- A command that waits for an instant acts no earlier than it. -/
theorem State.le_lmc_until (s : State) (t : Nat) : t ≤ (s.until t).lmc := by
  unfold State.until
  split
  case isTrue h =>
    rw [State.lmc_advance]
    unfold State.lmc at h
    omega
  case isFalse h => exact Nat.le_of_not_lt h

/-- An instant already passed is not waited for. -/
theorem State.until_of_le {s : State} {t : Nat} (h : t ≤ s.lmc) : s.until t = s :=
  if_neg (Nat.not_lt.2 h)

theorem State.logicOn_congr {s t : State} (h : t.run = s.run) : t.logicOn = s.logicOn := by
  unfold State.logicOn
  rw [h]

theorem State.logicOn_of_firmware {s : State} (h : s.run = .firmware) : s.logicOn = true := by
  unfold State.logicOn
  rw [h]

theorem gives_next {c : Instr} {s t : State} {P : State → Prop} (h : exec c s = .next t) (hP : P t) : Gives c s P := ⟨t, h, hP⟩

theorem State.ftime_congr {s t : State} (h : t.ftimeQ = s.ftimeQ) : t.ftime = s.ftime := by
  unfold State.ftime
  rw [h]

/-- A command that waits for an instant of FTIME acts no earlier than it. -/
theorem State.le_ftime_untilFtime (s : State) (t : Int) : t ≤ (s.untilFtime t).ftime := by
  unfold State.untilFtime
  split
  case isTrue => exact le_of_eq (Int.mul_ediv_cancel t (by decide)).symm
  case isFalse h => exact Int.not_lt.1 h

end Sys2Proof.Machine
end

section
/-! PROOFS. The clocks after one update of the state: no update but waiting moves LMC or FTIME. -/

namespace Sys2Proof.Machine

open Sys2Proof

@[simp] theorem State.setReg_clocks (s : State) (k v : Nat) :
    (s.setReg k v).lmc = s.lmc ∧ (s.setReg k v).ftime = s.ftime := ⟨rfl, rfl⟩

@[simp] theorem State.setCount_clocks (s : State) (k v : Nat) :
    (s.setCount k v).lmc = s.lmc ∧ (s.setCount k v).ftime = s.ftime := ⟨rfl, rfl⟩

@[simp] theorem State.addCount_clocks (s : State) (k n : Nat) :
    (s.addCount k n).lmc = s.lmc ∧ (s.addCount k n).ftime = s.ftime := ⟨rfl, rfl⟩

@[simp] theorem State.bump_clocks (s : State) (k : Nat) :
    (s.bump k).lmc = s.lmc ∧ (s.bump k).ftime = s.ftime := ⟨rfl, rfl⟩

@[simp] theorem State.clearIndex_clocks (s : State) (i : Nat) :
    (s.clearIndex i).lmc = s.lmc ∧ (s.clearIndex i).ftime = s.ftime := ⟨rfl, rfl⟩

@[simp] theorem State.setLink_clocks (s : State) (f : Nat) (g : LinkSt → LinkSt) :
    (s.setLink f g).lmc = s.lmc ∧ (s.setLink f g).ftime = s.ftime := ⟨rfl, rfl⟩

@[simp] theorem State.setPort_clocks (s : State) (f : Nat) (p : PortTx) :
    (s.setPort f p).lmc = s.lmc ∧ (s.setPort f p).ftime = s.ftime := ⟨rfl, rfl⟩

@[simp] theorem State.setRule_clocks (s : State) (r : Nat) (x : RuleSt) :
    (s.setRule r x).lmc = s.lmc ∧ (s.setRule r x).ftime = s.ftime := ⟨rfl, rfl⟩

@[simp] theorem State.setSrc_clocks (s : State) (n : Nat) (e : SrcSt) :
    (s.setSrc n e).lmc = s.lmc ∧ (s.setSrc n e).ftime = s.ftime := ⟨rfl, rfl⟩

@[simp] theorem State.setBar_clocks (s : State) (o v : Nat) :
    (s.setBar o v).lmc = s.lmc ∧ (s.setBar o v).ftime = s.ftime := ⟨rfl, rfl⟩

@[simp] theorem State.setWhisk_clocks (s : State) (w : Nat) (x : WhiskSt) :
    (s.setWhisk w x).lmc = s.lmc ∧ (s.setWhisk w x).ftime = s.ftime := ⟨rfl, rfl⟩

@[simp] theorem State.setFlt_clocks (s : State) (n : Nat) (f : FltSt) :
    (s.setFlt n f).lmc = s.lmc ∧ (s.setFlt n f).ftime = s.ftime := ⟨rfl, rfl⟩

@[simp] theorem State.setLine_clocks (s : State) (i : Nat) (l : LineSt) :
    (s.setLine i l).lmc = s.lmc ∧ (s.setLine i l).ftime = s.ftime := ⟨rfl, rfl⟩

@[simp] theorem State.setPx_clocks (s : State) (x : Nat) (p : PxSt) :
    (s.setPx x p).lmc = s.lmc ∧ (s.setPx x p).ftime = s.ftime := ⟨rfl, rfl⟩

@[simp] theorem State.unsteady_clocks (s : State) :
    (s.unsteady).lmc = s.lmc ∧ (s.unsteady).ftime = s.ftime := ⟨rfl, rfl⟩

@[simp] theorem State.log_clocks (s : State) (cls source : Nat) (data : List Byte) :
    (s.log cls source data).lmc = s.lmc ∧ (s.log cls source data).ftime = s.ftime := ⟨rfl, rfl⟩

@[simp] theorem State.setCan_clocks (s : State) (c : Nat) (x : CanSt) :
    (s.setCan c x).lmc = s.lmc ∧ (s.setCan c x).ftime = s.ftime := ⟨rfl, rfl⟩

@[simp] theorem State.setRing_clocks (s : State) (r : Nat) (x : RingSt) :
    (s.setRing r x).lmc = s.lmc ∧ (s.setRing r x).ftime = s.ftime := ⟨rfl, rfl⟩

@[simp] theorem State.setBar4_clocks (s : State) (o v : Nat) :
    (s.setBar4 o v).lmc = s.lmc ∧ (s.setBar4 o v).ftime = s.ftime := ⟨rfl, rfl⟩

@[simp] theorem State.setWindow_clocks (s : State) (w : Window) :
    (s.setWindow w).lmc = s.lmc ∧ (s.setWindow w).ftime = s.ftime := ⟨rfl, rfl⟩

@[simp] theorem State.setIol_clocks (s : State) (p : Nat) (x : IolSt) :
    (s.setIol p x).lmc = s.lmc ∧ (s.setIol p x).ftime = s.ftime := ⟨rfl, rfl⟩

@[simp] theorem State.setDup_clocks (s : State) (a : Nat) (e : Option DupEntry) :
    (s.setDup a e).lmc = s.lmc ∧ (s.setDup a e).ftime = s.ftime := ⟨rfl, rfl⟩

@[simp] theorem State.setPan_clocks (s : State) (n : Nat) (p : PanSt) :
    (s.setPan n p).lmc = s.lmc ∧ (s.setPan n p).ftime = s.ftime := ⟨rfl, rfl⟩

@[simp] theorem State.setFuse_clocks (s : State) (b : Nat) (f : FuseSt) :
    (s.setFuse b f).lmc = s.lmc ∧ (s.setFuse b f).ftime = s.ftime := ⟨rfl, rfl⟩

@[simp] theorem State.setQueue_clocks (s : State) (n q : Nat) (x : QSt) :
    (s.setQueue n q x).lmc = s.lmc ∧ (s.setQueue n q x).ftime = s.ftime := ⟨rfl, rfl⟩

@[simp] theorem State.busRead_clocks (s : State) (bar offset v : Nat) :
    (s.busRead bar offset v).lmc = s.lmc ∧ (s.busRead bar offset v).ftime = s.ftime := ⟨rfl, rfl⟩

@[simp] theorem State.setRs_clocks (s : State) (c : Nat) (x : RsSt) :
    (s.setRs c x).lmc = s.lmc ∧ (s.setRs c x).ftime = s.ftime := ⟨rfl, rfl⟩

@[simp] theorem State.setBridge_clocks (s : State) (j : Nat) (x : BridgeSt) :
    (s.setBridge j x).lmc = s.lmc ∧ (s.setBridge j x).ftime = s.ftime := ⟨rfl, rfl⟩

@[simp] theorem State.rsDrive_clocks (s : State) (c : Nat) (chars : List Nat) :
    (s.rsDrive c chars).lmc = s.lmc ∧ (s.rsDrive c chars).ftime = s.ftime := ⟨rfl, rfl⟩

@[simp] theorem State.setMeter_clocks (s : State) (m : Nat) (x : MeterSt) :
    (s.setMeter m x).lmc = s.lmc ∧ (s.setMeter m x).ftime = s.ftime := ⟨rfl, rfl⟩

@[simp] theorem State.clearRange_clocks (s : State) (lo hi : Nat) :
    (s.clearRange lo hi).lmc = s.lmc ∧ (s.clearRange lo hi).ftime = s.ftime := ⟨rfl, rfl⟩

@[simp] theorem State.setTimer_clocks (s : State) (u : Nat) (t : TimerSt) :
    (s.setTimer u t).lmc = s.lmc ∧ (s.setTimer u t).ftime = s.ftime := ⟨rfl, rfl⟩

@[simp] theorem State.setCapture_clocks (s : State) (n : Nat) (c : CaptureSt) :
    (s.setCapture n c).lmc = s.lmc ∧ (s.setCapture n c).ftime = s.ftime := ⟨rfl, rfl⟩

@[simp] theorem State.setPd_clocks (s : State) (f : Nat) (d : PdelaySt) :
    (s.setPd f d).lmc = s.lmc ∧ (s.setPd f d).ftime = s.ftime := ⟨rfl, rfl⟩

@[simp] theorem State.setTun_clocks (s : State) (t : Nat) (x : TunnelSt) :
    (s.setTun t x).lmc = s.lmc ∧ (s.setTun t x).ftime = s.ftime := ⟨rfl, rfl⟩

@[simp] theorem State.take_clocks (s : State) (f : Nat) (fr : Frame) :
    (s.take f fr).lmc = s.lmc ∧ (s.take f fr).ftime = s.ftime := ⟨rfl, rfl⟩

@[simp] theorem State.setCopy_clocks (s : State) (n : Nat) (c : Option ParamCopy) :
    (s.setCopy n c).lmc = s.lmc ∧ (s.setCopy n c).ftime = s.ftime := ⟨rfl, rfl⟩

@[simp] theorem State.setTransfer_clocks (s : State) (t u : Transfer) :
    (s.setTransfer t u).lmc = s.lmc ∧ (s.setTransfer t u).ftime = s.ftime := ⟨rfl, rfl⟩

@[simp] theorem State.endTransfer_clocks (s : State) (t : Transfer) :
    (s.endTransfer t).lmc = s.lmc ∧ (s.endTransfer t).ftime = s.ftime := ⟨rfl, rfl⟩

@[simp] theorem State.raise_clocks (s : State) (n data : Nat) : (s.raise n data).lmc = s.lmc ∧ (s.raise n data).ftime = s.ftime := by
  unfold State.lmc State.ftime
  rw [(keep_raise s n data).same .clock rfl, (keep_raise s n data).same .ftimeQ rfl]
  exact ⟨rfl, rfl⟩

end Sys2Proof.Machine
end

section
/-! PROOFS. Bits of a register after `setBit`. -/

namespace Sys2Proof.Machine

open Sys2Proof

/-- The register split at bit `i`: what lies above it, the bit, what lies below. -/
theorem setBit_split (v i : Nat) (b : Bool) :
    setBit v i b = 2 ^ i * (v / 2 ^ i - v / 2 ^ i % 2 + b2n b) + v % 2 ^ i := by
  have hv : 2 ^ i * (v / 2 ^ i) + v % 2 ^ i = v := Nat.div_add_mod v (2 ^ i)
  have hlow : v / 2 ^ i % 2 ≤ v / 2 ^ i := Nat.mod_le _ _
  have hb : b2n b % 2 = b2n b := by cases b <;> rfl
  unfold setBit setFld fld
  rw [Nat.add_sub_cancel_left, pow_one, hb, Nat.mul_add, Nat.mul_sub, Nat.mul_comm (v / 2 ^ i % 2), Nat.mul_comm (b2n b)]
  have := Nat.mul_le_mul_left (2 ^ i) hlow
  omega

theorem setBit_div (v i : Nat) (b : Bool) : setBit v i b / 2 ^ i = v / 2 ^ i - v / 2 ^ i % 2 + b2n b := by
  have hpos : 0 < 2 ^ i := Nat.two_pow_pos i
  rw [setBit_split, Nat.mul_add_div hpos, Nat.div_eq_of_lt (Nat.mod_lt _ hpos), Nat.add_zero]

theorem setBit_mod (v i : Nat) (b : Bool) : setBit v i b % 2 ^ i = v % 2 ^ i := by
  rw [setBit_split, Nat.mul_add_mod, Nat.mod_mod]

theorem setBit_div_succ (v i : Nat) (b : Bool) : setBit v i b / 2 ^ (i + 1) = v / 2 ^ (i + 1) := by
  rw [pow_succ, ← Nat.div_div_eq_div_mul, ← Nat.div_div_eq_div_mul, setBit_div]
  have hb : b2n b ≤ 1 := by cases b <;> decide
  generalize v / 2 ^ i = q
  omega

theorem bitOf_eq_testBit (v i : Nat) : bitOf v i = v.testBit i := by
  rw [Nat.testBit_eq_decide_div_mod_eq]
  rfl

@[simp] theorem bitOf_setBit_same (v i : Nat) (b : Bool) : bitOf (setBit v i b) i = b := by
  unfold bitOf
  rw [setBit_div]
  have heven : (v / 2 ^ i - v / 2 ^ i % 2) % 2 = 0 := by omega
  cases b
  · simp [b2n, heven]
  · simp only [b2n, if_true, beq_iff_eq]
    omega

theorem bitOf_setBit_ne {v i j : Nat} (h : i ≠ j) (b : Bool) : bitOf (setBit v i b) j = bitOf v j := by
  rw [bitOf_eq_testBit, bitOf_eq_testBit]
  rcases Nat.lt_or_gt_of_ne h with hij | hji
  · obtain ⟨d, rfl⟩ := Nat.exists_eq_add_of_le (Nat.succ_le_of_lt hij)
    have hdiv : (setBit v i b / 2 ^ (i + 1)).testBit d = (v / 2 ^ (i + 1)).testBit d := by rw [setBit_div_succ]
    simpa [Nat.testBit_div_two_pow, Nat.add_comm] using hdiv
  · have hmod : (setBit v i b % 2 ^ i).testBit j = (v % 2 ^ i).testBit j := by rw [setBit_mod]
    simpa [Nat.testBit_mod_two_pow, hji] using hmod

end Sys2Proof.Machine
end

section
/-! PROOFS. What a fault's occurrence leaves: objects and counters by their keys, and of an output all but its last command.
-/

namespace Sys2Proof.Machine

open Sys2Proof

theorem obj_ne_of_sub {i j a b : Nat} (h : a % 256 ≠ b % 256) : obj i a ≠ obj j b := by
  unfold obj
  omega

/-- Only a fabric port's PORT_STATE and the instant of a hand-over are written by a fault's reaction. -/
theorem loudReg_of_sub {i a : Nat} (ha : a % 256 ≠ 6) (hat : obj i a ≠ Key.TWST_HANDOVER_AT) : loudReg (obj i a) = false := by
  have hsub : obj i a % 256 ≠ 6 := by
    unfold obj
    omega
  simp [loudReg, hsub, hat]

theorem State.occur_reg (s : State) (n item detail : Nat) {k : Nat} (hk : loudReg k = false) : (s.occur n item detail).reg k = s.reg k :=
  (calm_occur s n item detail (Calm.refl s)).reg hk

theorem State.occur_count (s : State) (n item detail : Nat) {k : Nat} (hk : loudCounter k = false) :
    (s.occur n item detail).count k = s.count k :=
  (calm_occur s n item detail (Calm.refl s)).count hk

theorem State.raise_count (s : State) (n data : Nat) {k : Nat} (hk : trafficCounter k = false) : (s.raise n data).count k = s.count k :=
  (quiet_raise s n data (Quiet.refl s)).count hk

/-- Of the outputs of `s`, `t` changed at most what each last commanded (R18: `last` is the level HOLD_LAST keeps). -/
structure LastOnly (s t : State) : Prop where
  line : ∀ i, ∃ v, t.line i = { s.line i with last := v }
  px : ∀ x, ∃ v, t.px x = { s.px x with last := v }

theorem LastOnly.refl (s : State) : LastOnly s s := ⟨fun _ => ⟨_, rfl⟩, fun _ => ⟨_, rfl⟩⟩

theorem LastOnly.trans {s t u : State} (h : LastOnly s t) (g : LastOnly t u) : LastOnly s u := by
  constructor
  · intro i
    obtain ⟨v, hv⟩ := g.line i
    obtain ⟨w, hw⟩ := h.line i
    exact ⟨v, by rw [hv, hw]⟩
  · intro x
    obtain ⟨v, hv⟩ := g.px x
    obtain ⟨w, hw⟩ := h.px x
    exact ⟨v, by rw [hv, hw]⟩

theorem LastOnly.of_eq {s t : State} (hl : t.lines = s.lines) (hp : t.pxs = s.pxs) : LastOnly s t := by
  constructor
  · intro i
    exact ⟨(s.line i).last, by rw [State.line_congr hl]⟩
  · intro x
    exact ⟨(s.px x).last, by rw [State.px_congr hp]⟩

theorem LastOnly.keep {m : Nat} {x s t : State} (h : Keep m s t) (hl : m.testBit 44 = false) (hp : m.testBit 45 = false)
    (g : LastOnly x s) : LastOnly x t := g.trans (.of_eq (h.same .lines hl) (h.same .pxs hp))

theorem LastOnly.ite {c : Prop} [Decidable c] {x s t : State} (hs : LastOnly x s) (ht : LastOnly x t) :
    LastOnly x (if c then s else t) := by
  split <;> assumption

theorem LastOnly.foldl {α : Type} {f : State → α → State} (hf : ∀ u a, LastOnly u (f u a)) (l : List α) (s : State) :
    LastOnly s (l.foldl f s) := by
  induction l generalizing s with
  | nil => exact .refl s
  | cons a l ih => exact (hf s a).trans (ih (f s a))

theorem lastOnly_setLine (s : State) (i : Nat) (b : Bool) : LastOnly s (s.setLine i { s.line i with last := b }) := by
  constructor
  · intro j
    rw [State.line_setLine]
    split
    case isTrue h =>
      subst h
      exact ⟨b, rfl⟩
    case isFalse h => exact ⟨_, rfl⟩
  · exact fun x => ⟨_, rfl⟩

theorem lastOnly_setPx (s : State) (x : Nat) (b : Bool) : LastOnly s (s.setPx x { s.px x with last := b }) := by
  constructor
  · exact fun i => ⟨_, rfl⟩
  · intro y
    rw [State.px_setPx]
    split
    case isTrue h =>
      subst h
      exact ⟨b, rfl⟩
    case isFalse h => exact ⟨_, rfl⟩

theorem lastOnly_keepLast (s : State) (p : Nat → Bool) : LastOnly s (s.keepLast p) := by
  unfold State.keepLast
  extract_lets t
  have ht : LastOnly s t := LastOnly.foldl (fun u c => .ite (lastOnly_setLine u _ _) (.refl u)) _ s
  exact ht.trans (LastOnly.foldl (fun u c => .ite (lastOnly_setPx u _ _) (.refl u)) _ t)

theorem lastOnly_setMode (s : State) (m ret : HubMode) (cause : Nat) : LastOnly s (s.setMode m ret cause) := by
  unfold State.setMode
  extract_lets was changed leaves s1 s2 hub s3 s4 s5 s6 s7
  have h1 : LastOnly s s1 := .ite (lastOnly_keepLast _ _) (.refl s)
  have h2 : LastOnly s s2 := .ite (h1.trans (.of_eq rfl rfl)) h1
  have h3 : LastOnly s s3 := h2.trans (.of_eq rfl rfl)
  have h4 : LastOnly s s4 := .ite (h3.trans (.of_eq rfl rfl)) h3
  have h5 : LastOnly s s5 := .keep (keep_raise _ _ _) rfl rfl h4
  have h6 : LastOnly s s6 := .ite (.keep (keep_sendTwin _ _ _) rfl rfl h5) h5
  have h7 : LastOnly s s7 := .ite (.keep (keep_eachWhisk _ _ _ keep_whiskSafe rfl) rfl rfl h6) h6
  exact .ite (.keep (keep_eachWhisk _ _ _ keep_whiskUnsafe rfl) rfl rfl h7) h7

theorem lastOnly_enterSafe (s : State) (cause : Nat) : LastOnly s (s.enterSafe cause) := by
  unfold State.enterSafe
  split
  · exact lastOnly_setMode _ _ _ _
  · exact lastOnly_setMode _ _ _ _
  · exact .refl s
  · exact .refl s
  · exact lastOnly_setMode _ _ _ _

theorem lastOnly_react (s : State) (n item r : Nat) : LastOnly s (s.react n item r) := by
  unfold State.react
  extract_lets s1 flt s2
  have h1 : LastOnly s s1 := .ite (lastOnly_keepLast _ _) (.refl s)
  have h2 : LastOnly s s2 := h1.trans (.of_eq rfl rfl)
  refine .ite (.keep (keep_raise _ _ _) rfl rfl h2) (.ite (.keep (keep_portStop _ _ _) rfl rfl h2) (.ite ?_
    (.ite (h2.trans (lastOnly_enterSafe _ _)) (.ite (.keep (keep_propose _ _) rfl rfl h2) h2))))
  split
  · exact .keep (keep_panEnterSafe _ _) rfl rfl h2
  · exact h2

theorem lastOnly_occurX (s : State) (n cause : Nat) (forced : Bool) (detail : List Byte) :
    LastOnly s (s.occurX n cause forced detail) := by
  unfold State.occurX
  extract_lets old item f sev oldSev c enter rise upper rMinor rMajor applied s1 full flt bumped cru logged cru' s3 s4 s5
  have h1 : LastOnly s s1 := .of_eq rfl rfl
  have h3 : LastOnly s s3 := .ite (h1.trans (.of_eq rfl rfl)) (h1.trans (.of_eq rfl rfl))
  have h4 : LastOnly s s4 := .ite (h3.trans (lastOnly_react _ _ _ _)) h3
  have h5 : LastOnly s s5 :=
    .ite (.trans (.keep (keep_trigger _ _ _) rfl rfl (.keep (keep_raise _ _ _) rfl rfl h4)) (lastOnly_react _ _ _ _)) h4
  exact .ite (.keep (keep_trigger _ _ _) rfl rfl h5) h5

theorem lastOnly_occur (s : State) (n item detail : Nat) : LastOnly s (s.occur n item detail) := lastOnly_occurX _ _ _ _ _

theorem lastOnly_faultUp (s : State) (n item detail : Nat) : LastOnly s (s.faultUp n item detail) := by
  unfold State.faultUp
  extract_lets was flt s1
  have h0 : LastOnly s (s.setFlt n { s.flt n with live := true }) := .of_eq rfl rfl
  have h1 : LastOnly s s1 := h0.trans (lastOnly_occur _ _ _ _)
  exact .ite h1 (.keep (keep_raise _ _ _) rfl rfl h1)

end Sys2Proof.Machine
end

section
/-! PROOFS. What a capture leaves: `State.capture1` writes one queue, one capture and two counters of its Pan. -/

namespace Sys2Proof.Machine

open Sys2Proof

theorem State.qAppend_count (s : State) (n q : Nat) (x : QSt) (p : List QItem) {k : Nat} (hk : trafficCounter k = false) :
    (s.qAppend n q x p).count k = s.count k := by
  unfold State.qAppend
  extract_lets x' s'
  split
  · rw [State.raise_count _ _ _ hk]
    rfl
  · rfl

theorem State.qMark_count (s : State) (n q m : Nat) {k : Nat} (hk : trafficCounter k = false) : (s.qMark n q m).count k = s.count k := by
  unfold State.qMark
  extract_lets x
  split
  · exact State.qAppend_count _ _ _ _ _ hk
  · rfl

/-- A packet that finds no room is counted against its queue, and nothing else is counted (R173). -/
theorem State.qPush_count (s : State) (n q : Nat) (p : List QItem) {k : Nat} (hk : trafficCounter k = false)
    (hq : k ≠ Key.PQC_COUNTS n (4 * q)) : (s.qPush n q p).count k = s.count k := by
  unfold State.qPush
  extract_lets s' x
  have hmark : s'.count k = s.count k := State.qMark_count s n q _ hk
  split
  · rw [State.qAppend_count _ _ _ _ _ hk, hmark]
  · simp [State.qLose, hq, hmark]

theorem State.qPush_reg (s : State) (n q : Nat) (p : List QItem) : (s.qPush n q p).reg = s.reg :=
  State.reg_congr ((keep_qPush s n q p).same .regs rfl)

theorem trafficCounter_of_loud {k : Nat} (hk : loudCounter k = false) : trafficCounter k = false := by
  unfold loudCounter at hk
  exact (Bool.or_eq_false_iff.1 hk).1

theorem State.capture1_count (s : State) (n kind num : Nat) (rising : Bool) (stamp : Int) {k : Nat} (hk : loudCounter k = false)
    (hq : k ≠ Key.PQC_COUNTS n 96) (hover : k ≠ Key.CAP_OVERRUNS n) : (s.capture1 n kind num rising stamp).count k = s.count k := by
  unfold State.capture1
  extract_lets c s1 cap locked w
  split
  · rw [State.occur_count _ _ _ _ hk, State.count_bump, if_neg hover]
    simp [s1]
  · rw [State.qPush_count _ _ _ _ (trafficCounter_of_loud hk) hq]
    simp [s1]

theorem State.capture1_reg (s : State) (n kind num : Nat) (rising : Bool) (stamp : Int) {k : Nat} (hk : loudReg k = false) :
    (s.capture1 n kind num rising stamp).reg k = s.reg k := by
  unfold State.capture1
  extract_lets c s1 cap locked w
  split
  · rw [State.occur_reg _ _ _ _ hk]
    rfl
  · rw [State.qPush_reg]
    rfl

theorem lastOnly_setCapture (s : State) (n : Nat) (c : CaptureSt) : LastOnly s (s.setCapture n c) := .of_eq rfl rfl

theorem lastOnly_bump (s : State) (k : Nat) : LastOnly s (s.bump k) := .of_eq rfl rfl

theorem lastOnly_capture1 (s : State) (n kind num : Nat) (rising : Bool) (stamp : Int) :
    LastOnly s (s.capture1 n kind num rising stamp) := by
  unfold State.capture1
  extract_lets c s1 cap locked w
  have h1 : LastOnly s s1 := lastOnly_setCapture _ _ _
  split
  · exact ((h1.trans (lastOnly_setCapture _ _ _)).trans (lastOnly_bump _ _)).trans (lastOnly_occur _ _ _ _)
  · exact .keep (keep_qPush _ _ _ _) rfl rfl (h1.trans (lastOnly_setCapture _ _ _))

theorem State.lineDeliver_reg (s : State) (c : Nat × Bool × Int) {k : Nat} (hk : loudReg k = false) :
    (s.lineDeliver c).reg k = s.reg k := by
  unfold State.lineDeliver
  extract_lets i l s1 s2
  have h2 : s2.reg k = s.reg k := by
    simp only [s2]
    split
    · rw [State.capture1_reg _ _ _ _ _ _ hk]
      rfl
    · rfl
  split
  · rw [State.reg_congr ((keep_raise _ _ _).same .regs rfl), h2]
  · exact h2

theorem State.lineDeliver_count (s : State) (c : Nat × Bool × Int) {k : Nat} (hk : loudCounter k = false)
    (hq : k ≠ Key.PQC_COUNTS (c.1 / 16) 96) (hover : k ≠ Key.CAP_OVERRUNS (c.1 / 16)) : (s.lineDeliver c).count k = s.count k := by
  unfold State.lineDeliver
  extract_lets i l s1 s2
  have h2 : s2.count k = s.count k := by
    simp only [s2]
    split
    · rw [State.capture1_count _ _ _ _ _ _ hk hq hover]
      rfl
    · rfl
  split
  · rw [State.raise_count _ _ _ (trafficCounter_of_loud hk), h2]
  · exact h2

/-- A delivered edge leaves of its line all but what was seen of it and what it last commanded. -/
theorem State.lineDeliver_line (s : State) (c : Nat × Bool × Int) (i : Nat) :
    ∃ b v, (s.lineDeliver c).line i = { s.line i with seen := b, last := v } := by
  unfold State.lineDeliver
  extract_lets j l s1 s2
  have h1 : ∃ b, s1.line i = { s.line i with seen := b } := by
    simp only [s1, State.line_setLine, l]
    split
    case isTrue h =>
      rw [h]
      exact ⟨_, rfl⟩
    case isFalse => exact ⟨(s.line i).seen, rfl⟩
  have h2 : LastOnly s1 s2 := .ite (lastOnly_capture1 _ _ _ _ _ _) (.refl s1)
  have h3 : LastOnly s1 (if bitOf (s2.reg (Key.SRC_LINE_EVENTS (j / 16))) (j % 16) then
      s2.raise (656 + j / 16) (s2.inPacked (j / 16) % 65536) else s2) :=
    .ite (.keep (keep_raise _ _ _) rfl rfl h2) h2
  obtain ⟨b, hb⟩ := h1
  obtain ⟨v, hv⟩ := h3.line i
  exact ⟨b, v, by rw [hv, hb]⟩

end Sys2Proof.Machine
end

section
/-! PROOFS. Single parts of a state that answering, signalling and sending leave. -/

namespace Sys2Proof.Machine

open Sys2Proof

theorem Quiet.clock {s t : State} (h : Quiet s t) : t.clock = s.clock := (congrArg State.clock (show t.silent = s.silent from h) :)

theorem Quiet.lines {s t : State} (h : Quiet s t) : t.lines = s.lines := (congrArg State.lines (show t.silent = s.silent from h) :)

theorem Quiet.pxs {s t : State} (h : Quiet s t) : t.pxs = s.pxs := (congrArg State.pxs (show t.silent = s.silent from h) :)

theorem Quiet.timers {s t : State} (h : Quiet s t) : t.timers = s.timers := (congrArg State.timers (show t.silent = s.silent from h) :)

theorem Quiet.faults {s t : State} (h : Quiet s t) : t.faults = s.faults := (congrArg State.faults (show t.silent = s.silent from h) :)

theorem Quiet.rejects {s t : State} (h : Quiet s t) : t.rejects = s.rejects := (congrArg State.rejects (show t.silent = s.silent from h) :)

theorem Quiet.fences {s t : State} (h : Quiet s t) : t.fences = s.fences := (congrArg State.fences (show t.silent = s.silent from h) :)

theorem Quiet.boot {s t : State} (h : Quiet s t) : t.boot = s.boot := (congrArg State.boot (show t.silent = s.silent from h) :)

theorem Quiet.iols {s t : State} (h : Quiet s t) : t.iols = s.iols := (congrArg State.iols (show t.silent = s.silent from h) :)

theorem Quiet.fuses {s t : State} (h : Quiet s t) : t.fuses = s.fuses := (congrArg State.fuses (show t.silent = s.silent from h) :)

theorem Quiet.rss {s t : State} (h : Quiet s t) : t.rss = s.rss := (congrArg State.rss (show t.silent = s.silent from h) :)

theorem Quiet.run {s t : State} (h : Quiet s t) : t.run = s.run := (congrArg State.run (show t.silent = s.silent from h) :)

/-- A command object written anything but 0 acts; 0 is accepted and does nothing. -/
theorem command_quiet {s : State} {w : Writer} {k v : Nat} {own : State → Option Abort} {eff : State → State}
    (haccepts : Accepts s w k v) (hv : v ≠ 0) (hown : own s = none) : Quiet (eff s) (s.command w k v own eff) := by
  unfold State.command
  rw [if_neg hv]
  exact write_quiet haccepts hown

/-- A command that is an accepted write: its effect, then what answering touches. -/
theorem gives_write {c : Instr} {s : State} {w : Writer} {k v : Nat} {own : State → Option Abort} {eff : State → State}
    {P : State → Prop} (hexec : exec c s = .next (s.write w k v own eff)) (haccepts : Accepts s w k v) (hown : own s = none)
    (hP : ∀ t, Quiet (eff s) t → P t) : Gives c s P :=
  ⟨_, hexec, hP _ (write_quiet haccepts hown)⟩

theorem gives_command {c : Instr} {s : State} {w : Writer} {k v : Nat} {own : State → Option Abort} {eff : State → State}
    {P : State → Prop} (hexec : exec c s = .next (s.command w k v own eff)) (haccepts : Accepts s w k v) (hv : v ≠ 0)
    (hown : own s = none) (hP : ∀ t, Quiet (eff s) t → P t) : Gives c s P :=
  ⟨_, hexec, hP _ (command_quiet haccepts hv hown)⟩

theorem State.touch_answers (s : State) (p : Path) : (s.touch p).answers = s.answers := (keep_touch s p).same .answers rfl

/-- An answer is the last of the answers, however its frame leaves. -/
theorem State.answer_answers (s : State) (p : Path) (k : Nat) (a : Option Abort) (data : List Byte) :
    (s.answer p k a data).answers = s.answers ++ [⟨p, k, a, data⟩] := by
  unfold State.answer
  extract_lets s1
  split
  · rfl
  · exact (keep_sendDict _ _ _).same .answers rfl |>.trans (by split <;> rfl)

theorem State.refuse_answers (s : State) (w : Writer) (k : Nat) (a : Abort) :
    (s.refuse w k a).answers = s.answers ++ [⟨w.path, k, some a, []⟩] := State.answer_answers _ _ _ _ _

theorem State.refuse_regs (s : State) (w : Writer) (k : Nat) (a : Abort) : (s.refuse w k a).regs = s.regs :=
  (congrArg State.regs (show (s.refuse w k a).silent = _ from refuse_quiet s w k a) :)

theorem State.refuse_boot (s : State) (w : Writer) (k : Nat) (a : Abort) : (s.refuse w k a).boot = s.boot :=
  (refuse_quiet s w k a).boot

theorem State.refuse_resetDue (s : State) (w : Writer) (k : Nat) (a : Abort) : (s.refuse w k a).hub.resetDue = s.hub.resetDue := by
  obtain ⟨-, -, -, -, -, hdue, -, -⟩ := (refuse_quiet s w k a).hub_fields
  exact hdue

/-- A write that a check of its own refuses. -/
theorem write_own_refused {s : State} {w : Writer} {k v : Nat} {own : State → Option Abort} {eff : State → State} {a : Abort}
    (haccepts : Accepts s w k v) (hown : own s = some a) : s.write w k v own eff = s.refuse w k a := by
  unfold State.write
  rw [haccepts.1, haccepts.2, hown]

end Sys2Proof.Machine
end

section
/-! PROOFS. The ends of tunnels (R322 to R333): what each frame leaves in its end, O32. -/

namespace Sys2Proof.Machine

open Sys2Proof

@[simp] theorem State.originate_tun (s : State) (f : Frame) : (s.originate f).tun = s.tun :=
  State.tun_congr ((keep_originate s f).same .sw rfl)

@[simp] theorem State.originate_lmc (s : State) (f : Frame) : (s.originate f).lmc = s.lmc :=
  State.lmc_congr ((keep_originate s f).same .clock rfl)

@[simp] theorem State.lostSync_tun (s : State) : s.lostSync.tun = s.tun :=
  State.tun_congr ((keep_lostSync s).same .sw rfl)

@[simp] theorem State.sendRefuse_tun (s : State) (fr : Frame) (kind reason : Nat) : (s.sendRefuse fr kind reason).tun = s.tun :=
  State.tun_congr ((keep_sendRefuse s fr kind reason).same .sw rfl)

/-- The end `x` after a frame of `sub` has left it at `now`: subtypes 4 and 7 carry its credit (R329). -/
def TunnelSt.sent (x : TunnelSt) (sub now : Nat) : TunnelSt :=
  { x with sentAt := now
           reported := if sub = 4 ∨ sub = 7 then x.freed else x.reported
           freedAt := if sub = 4 ∨ sub = 7 then none else x.freedAt
           counts := modNth (· + 1) x.counts 0 }

theorem State.tunSend_tun {s : State} (hrole : s.role ≠ .standby) (n sub q g : Nat) (l : Bool) (b : List Byte) :
    (s.tunSend n sub q g l b).tun n = (s.tun n).sent sub s.lmc := by
  unfold State.tunSend
  rw [if_neg hrole]
  simp [TunnelSt.sent]

@[simp] theorem State.tunSend_lmc (s : State) (n sub q g : Nat) (l : Bool) (b : List Byte) : (s.tunSend n sub q g l b).lmc = s.lmc :=
  State.lmc_congr ((keep_tunSend s n sub q g l b).same .clock rfl)

/-- A frame that answers leaves the end's channel alone, sent or held back by STANDBY. -/
theorem State.tunSend_tun_flow (s : State) (n sub q g : Nat) (l : Bool) (b : List Byte) :
    ((s.tunSend n sub q g l b).tun n).st = (s.tun n).st ∧ ((s.tunSend n sub q g l b).tun n).tver = (s.tun n).tver ∧
    ((s.tunSend n sub q g l b).tun n).allowed = (s.tun n).allowed ∧ ((s.tunSend n sub q g l b).tun n).used = (s.tun n).used ∧
    ((s.tunSend n sub q g l b).tun n).rxSeq = (s.tun n).rxSeq := by
  by_cases hrole : s.role = .standby
  · unfold State.tunSend
    rw [if_pos hrole]
    exact ⟨rfl, rfl, rfl, rfl, rfl⟩
  · rw [State.tunSend_tun hrole]
    exact ⟨rfl, rfl, rfl, rfl, rfl⟩

theorem State.sendOpen_tun {s : State} (hrole : s.role ≠ .standby) (n : Nat) (resync : Bool) :
    (s.sendOpen n resync).tun n = { s.tun n with openAt := some s.lmc, resync := resync }.sent 1 s.lmc := by
  unfold State.sendOpen
  extract_lets c x
  rw [State.tunSend_tun (by simpa using hrole)]
  simp [x]

@[simp] theorem State.sendOpen_lmc (s : State) (n : Nat) (resync : Bool) : (s.sendOpen n resync).lmc = s.lmc :=
  State.lmc_congr ((keep_sendOpen s n resync).same .clock rfl)

/-- Entering LOST or DISABLED makes the side-band word invalid (R331). -/
theorem State.tunState_tun (s : State) (n st : Nat) : (s.tunState n st).tun n =
    if st = 0 ∨ st = 4 then { s.tun n with st := st, sbValid := false, sbRemote := 0 } else { s.tun n with st := st } := by
  simp [State.tunState]

theorem State.tunOpen_tun (s : State) (n tver reserve tseq : Nat) :
    ((s.tunOpen n tver reserve tseq).tun n).st = 2 ∧ ((s.tunOpen n tver reserve tseq).tun n).tver = tver ∧
    ((s.tunOpen n tver reserve tseq).tun n).allowed = reserve ∧ ((s.tunOpen n tver reserve tseq).tun n).used = 0 ∧
    ((s.tunOpen n tver reserve tseq).tun n).rxSeq = (tseq + 1) % 65536 := by
  simp [State.tunOpen]

/-- What a frame heard leaves of its end: only the clock of hearing, the count and, in OPEN, the credit. -/
theorem State.tunHeard_tun (s : State) (n : Nat) (fr : Frame) :
    ((s.tunHeard n fr).tun n).st = (s.tun n).st ∧ ((s.tunHeard n fr).tun n).resync = (s.tun n).resync ∧
    ((s.tunHeard n fr).tun n).rxSeq = (s.tun n).rxSeq ∧ ((s.tunHeard n fr).tun n).rx = (s.tun n).rx ∧
    ((s.tunHeard n fr).tun n).ready = (s.tun n).ready ∧ ((s.tunHeard n fr).tun n).heardAt = s.lmc ∧
    ((s.tunHeard n fr).tun n).gapAt = (s.tun n).gapAt ∧ ((s.tunHeard n fr).tun n).sbValid = (s.tun n).sbValid ∧
    ((s.tunHeard n fr).tun n).sbRemote = (s.tun n).sbRemote := by
  simp [State.tunHeard]

theorem State.tunHeard_reg (s : State) (n : Nat) (fr : Frame) : (s.tunHeard n fr).reg = s.reg := rfl

theorem exec_tunnelOpenSend_first {s : State} {n : Fin 1024} (hon : s.logicOn = true) (htun : s.tunOn n = true)
    (hrole : s.role ≠ .standby) (hst : (s.tun n).st = 1) (hopen : (s.tun n).openAt = none) :
    exec (.tunnelOpenSend n) s = .next (s.sendOpen n false) := by
  change execTunnelOpenSend n s = _
  simp [execTunnelOpenSend, hon, htun, hrole, hst, hopen]

theorem exec_tunnelOpenReceived_unmatched {s : State} {fr : Frame} (htakes : s.tunTakes fr 1 = true) (hmatch : s.tunMatch fr = none) :
    exec (.tunnelOpenReceived fr) s = .next (s.sendRefuse fr 0 1) := by
  change execTunnelOpenReceived fr s = _
  simp [execTunnelOpenReceived, htakes, hmatch]

theorem gives_tunnelOpenReceived_agreed {s : State} {fr : Frame} {n : Nat} (htakes : s.tunTakes fr 1 = true)
    (hmatch : s.tunMatch fr = some n)
    (hver : max (octAt 24 (s.tunCfg n) 8 1) (beAt (fr.payload.drop 12) 0 1) ≤ min (octAt 24 (s.tunCfg n) 9 1) (beAt (fr.payload.drop 12) 1 1))
    (hown : endKind (s.tunCfg n) ≠ 6) (hfar : fld (beAt (fr.payload.drop 12) 2 4) 31 28 = endKind (s.tunCfg n)) :
    Gives (.tunnelOpenReceived fr) s fun t => (t.tun n).st = 2 ∧
      (t.tun n).tver = min (octAt 24 (s.tunCfg n) 9 1) (beAt (fr.payload.drop 12) 1 1) ∧
      (t.tun n).allowed = beAt (fr.payload.drop 12) 6 2 ∧ (t.tun n).used = 0 ∧ (t.tun n).rxSeq = (beAt fr.payload 6 2 + 1) % 65536 := by
  refine ⟨_, rfl, ?_⟩
  rw [htakes, hmatch]
  simp only [Bool.not_true, Bool.false_eq_true, if_false]
  rw [if_neg (by rw [hfar]; simp [hown]; omega), if_neg (by rw [hfar]; simp)]
  obtain ⟨hst, htver, hallowed, hused, hrx⟩ := State.tunSend_tun_flow _ _ _ _ _ _ _
  rw [hst, htver, hallowed, hused, hrx]
  exact State.tunOpen_tun _ _ _ _ _

theorem gives_tunnelOpenReceived_refused {s : State} {fr : Frame} {n : Nat} (htakes : s.tunTakes fr 1 = true)
    (hmatch : s.tunMatch fr = some n)
    (hver : min (octAt 24 (s.tunCfg n) 9 1) (beAt (fr.payload.drop 12) 1 1) < max (octAt 24 (s.tunCfg n) 8 1) (beAt (fr.payload.drop 12) 0 1)) :
    Gives (.tunnelOpenReceived fr) s fun t => (t.tun n).st = 3 ∧ (t.tun n).reason = 2 := by
  refine ⟨_, rfl, ?_⟩
  rw [htakes, hmatch]
  simp only [Bool.not_true, Bool.false_eq_true, if_false]
  rw [if_pos (Or.inl hver)]
  simp [State.tunState_tun]

theorem gives_tunnelAcceptReceived_opens {s : State} {fr : Frame} {n : Nat} (htakes : s.tunTakes fr 2 = true)
    (hmatch : s.tunMatch fr = some n) (hst : (s.tun n).st ≠ 2) :
    Gives (.tunnelAcceptReceived fr) s fun t => (t.tun n).st = 2 ∧ (t.tun n).tver = beAt fr.payload 8 1 ∧
      (t.tun n).allowed = beAt (fr.payload.drop 12) 0 2 ∧ (t.tun n).rxSeq = (beAt fr.payload 6 2 + 1) % 65536 := by
  refine ⟨_, rfl, ?_⟩
  rw [htakes, hmatch]
  simp only [Bool.not_true, Bool.false_eq_true, if_false, State.tunHeard_tun, hst]
  obtain ⟨hopen, htver, hallowed, -, hrx⟩ := State.tunOpen_tun (s.tunHeard n fr) n (beAt fr.payload 8 1)
    (beAt (fr.payload.drop 12) 0 2) (beAt fr.payload 6 2)
  exact ⟨hopen, htver, hallowed, hrx⟩

/-- In OPEN an ACCEPT answers the end's own RESYNC: it renews the credit and leaves the received sequence (R333). -/
theorem gives_tunnelAcceptReceived_resync {s : State} {fr : Frame} {n : Nat} (htakes : s.tunTakes fr 2 = true)
    (hmatch : s.tunMatch fr = some n) (hst : (s.tun n).st = 2) (hresync : (s.tun n).resync = true) :
    Gives (.tunnelAcceptReceived fr) s fun t => (t.tun n).st = 2 ∧ (t.tun n).allowed = beAt (fr.payload.drop 12) 0 2 ∧
      (t.tun n).used = 0 ∧ (t.tun n).freed = 0 ∧ (t.tun n).rxSeq = (s.tun n).rxSeq := by
  refine ⟨_, rfl, ?_⟩
  rw [htakes, hmatch]
  simp [State.tunHeard_tun, hst, hresync]

theorem gives_tunnelRefuseReceived {s : State} {fr : Frame} {n : Nat} (htakes : s.tunTakes fr 3 = true)
    (hmatch : s.tunMatch fr = some n) : Gives (.tunnelRefuseReceived fr) s fun t =>
      (t.tun n).st = 3 ∧ (t.tun n).reason = beAt (fr.payload.drop 12) 0 1 := by
  refine ⟨_, rfl, ?_⟩
  rw [htakes, hmatch]
  simp [State.tunState_tun]

theorem gives_tunnelCloseReceived {s : State} {fr : Frame} {n : Nat} (htakes : s.tunTakes fr 6 = true)
    (hmatch : s.tunMatch fr = some n) : Gives (.tunnelCloseReceived fr) s fun t => (t.tun n).st = 1 ∧ (t.tun n).openAt = none := by
  refine ⟨_, rfl, ?_⟩
  rw [htakes, hmatch]
  simp [State.tunState_tun]

theorem exec_tunnelKeepaliveSend_open {s : State} {n : Fin 1024} (hon : s.logicOn = true) (htun : s.tunOn n = true)
    (hrole : s.role ≠ .standby) (hst : (s.tun n).st = 2) : exec (.tunnelKeepaliveSend n) s = .next
      ((s.until ((s.tun n).sentAt + 10000000)).tunSend n 7 (((s.tun n).txSeq + 65535) % 65536) 0 true []) := by
  change execTunnelKeepaliveSend n s = _
  simp [execTunnelKeepaliveSend, hon, htun, hrole, hst]

theorem exec_tunnelLostTimeout_open {s : State} {n : Fin 1024} (hon : s.logicOn = true) (htun : s.tunOn n = true)
    (hst : (s.tun n).st = 2) : exec (.tunnelLostTimeout n) s = .next
      ((((s.until ((s.tun n).heardAt + 50000000)).tunState n 4).faultUp 0x058 n 0).sendOpen n false) := by
  change execTunnelLostTimeout n s = _
  simp [execTunnelLostTimeout, hon, htun, hst]

/-- Settles O32. -/
theorem tunnelEnds : Obligations.TunnelEnds := by
  unfold Obligations.TunnelEnds
  refine ⟨?openSend, ?unmatched, ?agreed, ?refused, ?accept, ?resync, ?refuse, ?close, ?keepalive, ?lost, ?lostState⟩
  case openSend =>
    intro s n hon htun hrole hst hopen
    refine gives_next (exec_tunnelOpenSend_first hon htun hrole hst hopen) ?_
    rw [State.sendOpen_tun hrole]
    exact ⟨rfl, rfl, rfl, State.sendOpen_lmc s n false⟩
  case unmatched => exact fun s fr htakes hmatch => ⟨_, exec_tunnelOpenReceived_unmatched htakes hmatch, rfl⟩
  case agreed => exact fun s fr n htakes hmatch hver hown hfar => gives_tunnelOpenReceived_agreed htakes hmatch hver hown hfar
  case refused => exact fun s fr n htakes hmatch hver => gives_tunnelOpenReceived_refused htakes hmatch hver
  case accept => exact fun s fr n htakes hmatch hst => gives_tunnelAcceptReceived_opens htakes hmatch hst
  case resync => exact fun s fr n htakes hmatch hst hresync => gives_tunnelAcceptReceived_resync htakes hmatch hst hresync
  case refuse => exact fun s fr n htakes hmatch => gives_tunnelRefuseReceived htakes hmatch
  case close => exact fun s fr n htakes hmatch => gives_tunnelCloseReceived htakes hmatch
  case keepalive =>
    intro s n hon htun hrole hst
    refine gives_next (exec_tunnelKeepaliveSend_open hon htun hrole hst) ?_
    rw [State.tunSend_tun (by simpa using hrole), State.tunSend_lmc]
    exact ⟨State.le_lmc_until _ _, rfl, by simp [TunnelSt.sent]⟩
  case lost => exact fun s n hon htun hst => ⟨_, exec_tunnelLostTimeout_open hon htun hst, rfl⟩
  case lostState =>
    intro s n
    rw [State.tunState_tun, if_pos (Or.inr rfl)]
    exact ⟨rfl, rfl, rfl⟩

end Sys2Proof.Machine
end

section
/-! PROOFS. The flow of a tunnel (R328 to R331): order, credit, sinks and the side-band word, O33. -/

namespace Sys2Proof.Machine

open Sys2Proof

@[simp] theorem State.setTun_tunCfg (s : State) (n : Nat) (x : TunnelSt) : (s.setTun n x).tunCfg = s.tunCfg := rfl

/-- The end that hears frame `f` in order joins it to `ready` and looks for nothing more (R328). -/
theorem State.tunAdvance_single {s : State} {n : Nat} {f : TunFrame} (hrx : (s.tun n).rx = [f]) (hseq : f.tseq = (s.tun n).rxSeq)
    (hseg : f.segment = 0) : s.tunAdvance n 1 = s.setTun n { s.tun n with
      rx := [], rxSeq := ((s.tun n).rxSeq + 1) % 65536, ready := (s.tun n).ready ++ [f] } := by
  unfold State.tunAdvance
  simp only [hrx, hseq, hseg]
  simp [State.tunAdvance]

theorem State.tunGap_none {s : State} {n : Nat} (hrx : (s.tun n).rx = []) : s.tunGap n = s.setTun n { s.tun n with gapAt := none } := by
  simp [State.tunGap, hrx]

theorem ahead_self (x : TunnelSt) : ahead x x.rxSeq = 0 := by
  unfold ahead
  omega

/-- After the frame in order the end has it ready, expects the next number and misses none. -/
theorem State.tunAdvance_tunGap_single {s : State} {n : Nat} {f : TunFrame} (hrx : (s.tun n).rx = [f])
    (hseq : f.tseq = (s.tun n).rxSeq) (hseg : f.segment = 0) :
    ((s.tunAdvance n (s.tun n).rx.length).tunGap n).tun n = { s.tun n with
      rx := [], rxSeq := ((s.tun n).rxSeq + 1) % 65536, ready := (s.tun n).ready ++ [f], gapAt := none } := by
  have hlen : (s.tun n).rx.length = 1 := by rw [hrx]; rfl
  rw [hlen, State.tunAdvance_single hrx hseq hseg, State.tunGap_none (by simp)]
  simp

theorem gives_tunnelDataReceived_inOrder {s : State} {fr : Frame} {n : Nat} (htakes : s.tunTakes fr 4 = true)
    (hmatch : s.tunMatch fr = some n) (hst : (s.tun n).st = 2) (hrx : (s.tun n).rx = []) (hseq : beAt fr.payload 6 2 = (s.tun n).rxSeq)
    (hseg : beAt fr.payload 9 1 = 0) (hsub : beAt fr.payload 0 1 = 4) : Gives (.tunnelDataReceived fr) s fun t =>
      (t.tun n).ready = (s.tun n).ready ++ [⟨(s.tun n).rxSeq, 0, fr.lastSeg, fr.payload.drop 12, s.reg Key.GENERATION⟩] ∧
        (t.tun n).rxSeq = ((s.tun n).rxSeq + 1) % 65536 ∧ (t.tun n).rx = [] ∧ (t.tun n).gapAt = none := by
  refine ⟨_, rfl, ?_⟩
  obtain ⟨-, -, hhrx, hhheld, hhready, -⟩ := State.tunHeard_tun s n fr
  rw [hrx] at hhheld
  have hahead : ahead ((s.tunHeard n fr).tun n) ((s.tunHeard n fr).tun n).rxSeq = 0 := ahead_self _
  rw [hhrx] at hahead
  simp only [htakes, hmatch, hst, hseq, hseg, hsub, hahead, hhheld, holdFrame, State.tunHeard_reg, Bool.not_true, Bool.false_and,
    Bool.false_eq_true, if_false, ne_eq, not_true_eq_false]
  rw [if_neg (by omega), State.tunAdvance_tunGap_single
    (f := ⟨(s.tun n).rxSeq, 0, fr.lastSeg, fr.payload.drop 12, s.reg Key.GENERATION⟩) (by simp) (by simp [hhrx]) rfl]
  simp [hhready, hhrx]

/-- A number behind the expected one has been delivered before (R328). -/
theorem gives_tunnelDataReceived_old {s : State} {fr : Frame} {n : Nat} (htakes : s.tunTakes fr 4 = true)
    (hmatch : s.tunMatch fr = some n) (hst : (s.tun n).st = 2) (hold : 32768 ≤ ahead (s.tun n) (beAt fr.payload 6 2)) :
    Gives (.tunnelDataReceived fr) s fun t => (t.tun n).ready = (s.tun n).ready ∧
      (t.tun n).rx = (s.tun n).rx ∧ (t.tun n).rxSeq = (s.tun n).rxSeq ∧ (t.tun n).heardAt = s.lmc := by
  refine ⟨_, rfl, ?_⟩
  obtain ⟨-, -, hhrx, hhheld, hhready, hhat, -⟩ := State.tunHeard_tun s n fr
  have hahead : ahead ((s.tunHeard n fr).tun n) (beAt fr.payload 6 2) = ahead (s.tun n) (beAt fr.payload 6 2) := by
    unfold ahead
    rw [hhrx]
  simp only [htakes, hmatch, hst, hahead, Bool.not_true, Bool.false_and, Bool.false_eq_true, if_false, ne_eq, not_true_eq_false]
  rw [if_pos (Or.inr hold)]
  exact ⟨hhready, hhheld, hhrx, hhat⟩

theorem gives_tunnelReorderTimeout {s : State} {n : Fin 1024} {a : Nat} {f : TunFrame} (hon : s.logicOn = true)
    (htun : s.tunOn n = true) (hgap : (s.tun n).gapAt = some a) (hrx : (s.tun n).rx = [f]) (hready : (s.tun n).ready = [])
    (hseg : f.segment = 0) : Gives (.tunnelReorderTimeout n) s fun t => (t.tun n).ready = [f] ∧
      (t.tun n).rx = [] ∧ (t.tun n).rxSeq = (f.tseq + 1) % 65536 ∧ (t.tun n).gapAt = none ∧
      (t.tun n).counts = modNth (· + ahead (s.tun n) f.tseq) (s.tun n).counts 2 := by
  refine ⟨_, rfl, ?_⟩
  simp only [hon, htun, hgap, hrx, hready, State.until_readers, Bool.not_true, Bool.or_false, Bool.false_eq_true, if_false,
    List.getLast?_nil, Option.isSome_none]
  rw [State.tunAdvance_tunGap_single (by simp) (by simp) hseg]
  simp

theorem exec_ladlePacketTake_plain {s : State} {n : Fin 1024} {b : List Byte} (hon : s.logicOn = true) (htun : s.tunOn n = true)
    (hcompat : s.compat = false) (hkind : endKind (s.tunCfg n) = 7) (hlen : b.length ≤ 2928) (hroom : s.tunRoom n b = true)
    (hrole : s.role ≠ .standby) : exec (.ladlePacketTake n b) s =
      .next (s.setTun n { s.tun n with tx := (s.tun n).tx ++ segments b (s.reg Key.GENERATION) }) := by
  change execLadlePacketTake n b s = _
  simp [execLadlePacketTake, hon, htun, hcompat, hkind, Nat.not_lt.2 hlen, hroom, State.tunTake, hrole]

theorem gives_tunnelDataSend_credit {s : State} {n : Fin 1024} {f : TunFrame} {r : List TunFrame} (hon : s.logicOn = true)
    (htun : s.tunOn n = true) (hst : (s.tun n).st = 2) (hrole : s.role ≠ .standby) (htx : (s.tun n).tx = f :: r)
    (hcredit : (s.tun n).used + unitsOf f.body ≤ (s.tun n).allowed) : Gives (.tunnelDataSend n) s fun t =>
      (t.tun n).tx = r ∧ (t.tun n).used = (s.tun n).used + unitsOf f.body ∧ (t.tun n).txSeq = ((s.tun n).txSeq + 1) % 65536 ∧
        (t.tun n).sentAt = s.lmc := by
  refine ⟨_, rfl, ?_⟩
  simp only [hon, htun, hst, hrole, htx, hcredit, Bool.not_true, Bool.or_false, Bool.false_eq_true, if_false, if_true, ne_eq,
    not_true_eq_false, decide_false]
  rw [State.tunSend_tun (by simpa using hrole)]
  simp [TunnelSt.sent]

theorem exec_tunnelDataSend_waits {s : State} {n : Fin 1024} {f : TunFrame} {r : List TunFrame} (hon : s.logicOn = true)
    (htun : s.tunOn n = true) (hst : (s.tun n).st = 2) (hrole : s.role ≠ .standby) (htx : (s.tun n).tx = f :: r)
    (hcredit : (s.tun n).allowed < (s.tun n).used + unitsOf f.body) (hwait : (s.tun n).waitAt = none) :
    exec (.tunnelDataSend n) s = .next (s.setTun n { s.tun n with waitAt := some s.lmc }) := by
  change execTunnelDataSend n s = _
  simp [execTunnelDataSend, hon, htun, hst, hrole, htx, Nat.not_le.2 hcredit, hwait]

theorem exec_tunnelSinkDeliver_later {s u : State} {n : Fin 1024} {b : List Byte} {q m k : Nat} (hon : s.logicOn = true)
    (htun : s.tunOn n = true) (hpacket : (s.tun n).packet = some (b, q, m, k))
    (hsink : s.sink n (endKind (s.tunCfg n)) (endNum (s.tunCfg n)) q (octAt 24 (s.tunCfg n) 11 1) b = (.later, u)) :
    exec (.tunnelSinkDeliver n) s = .next s := by
  change execTunnelSinkDeliver n s = _
  simp [execTunnelSinkDeliver, hon, htun, hpacket, hsink]

theorem gives_tunnelSinkDeliver_taken {s u : State} {n : Fin 1024} {b : List Byte} {q m k : Nat} (hon : s.logicOn = true)
    (htun : s.tunOn n = true) (hpacket : (s.tun n).packet = some (b, q, m, k))
    (hsink : s.sink n (endKind (s.tunCfg n)) (endNum (s.tunCfg n)) q (octAt 24 (s.tunCfg n) 11 1) b = (.taken, u)) :
    Gives (.tunnelSinkDeliver n) s fun t => (t.tun n).ready = (u.tun n).ready.drop m ∧ (t.tun n).freed = (u.tun n).freed + k := by
  refine ⟨_, rfl, ?_⟩
  simp [hon, htun, hpacket, hsink, State.tunFree]

/-- R329: the report goes at once with 16 units unreported, else 20 µs after the first. -/
theorem gives_tunnelCreditReport {s : State} {n : Fin 1024} {a : Nat} (hon : s.logicOn = true) (htun : s.tunOn n = true)
    (hst : (s.tun n).st = 2) (hrole : s.role ≠ .standby) (hfreed : (s.tun n).freedAt = some a) :
    Gives (.tunnelCreditReport n) s fun t => (t.tun n).reported = (s.tun n).freed ∧
      (t.tun n).freedAt = none ∧ (t.tun n).sentAt = t.lmc := by
  refine ⟨_, rfl, ?_⟩
  simp only [hon, htun, hst, hrole, hfreed, Bool.not_true, Bool.or_false, Bool.false_eq_true, if_false, ne_eq, not_true_eq_false,
    decide_false]
  have hrole' : (if 16 ≤ (s.tun n).freed - (s.tun n).reported then s else s.until (a + 20000)).role ≠ .standby := by
    split <;> simpa using hrole
  rw [State.tunSend_tun hrole', State.tunSend_lmc]
  refine ⟨?_, by simp [TunnelSt.sent], rfl⟩
  split <;> simp [TunnelSt.sent]

theorem gives_sidebandPoll_first {s : State} {n : Fin 1024} {e l : Fin 256} (hon : s.logicOn = true) (htun : s.tunOn n = true)
    (hst : (s.tun n).st = 2) (htver : (s.tun n).tver = 2) (hperiod : octAt 24 (s.tunCfg n) 12 4 ≠ 0) (hkind : endKind (s.tunCfg n) < 7)
    (hsent : (s.tun n).sbSent = none) (hrole : s.role ≠ .standby) : Gives (.sidebandPoll n e l) s fun t =>
      (t.tun n).sbSent = some (s.sideband (endKind (s.tunCfg n)) (endNum (s.tunCfg n)) e l) ∧ (t.tun n).polledAt = s.lmc := by
  refine ⟨_, rfl, ?_⟩
  simp only [hon, htun, hst, htver, hperiod, Nat.not_le.2 hkind, hsent, hrole, Bool.not_true, Bool.or_false, Bool.false_eq_true,
    if_false, ne_eq, not_true_eq_false, decide_false, Option.isNone_none, if_true, reduceCtorEq, false_or, State.setTun_fields]
  rw [State.tunSend_tun (by simpa using hrole)]
  simp [TunnelSt.sent]

@[simp] theorem State.raise_tun (s : State) (n data : Nat) : (s.raise n data).tun = s.tun :=
  State.tun_congr ((keep_raise s n data).same .sw rfl)

@[simp] theorem State.raise_reg (s : State) (n data : Nat) : (s.raise n data).reg = s.reg :=
  State.reg_congr ((keep_raise s n data).same .regs rfl)

@[simp] theorem State.setReg_tun (s : State) (k v : Nat) : (s.setReg k v).tun = s.tun := rfl

theorem gives_sidebandReceived_first {s : State} {fr : Frame} {n : Nat} (htakes : s.tunTakes fr 5 = true)
    (hmatch : s.tunMatch fr = some n) (hst : (s.tun n).st = 2) (hvalid : (s.tun n).sbValid = false) :
    Gives (.sidebandReceived fr) s fun t => (t.tun n).sbRemote = beAt fr.payload 12 8 ∧ (t.tun n).sbValid = true ∧
      bitOf (t.reg (Key.SB_SIDEBAND_PENDING (n / 64))) (n % 64) = true := by
  refine ⟨_, rfl, ?_⟩
  obtain ⟨-, -, -, -, -, -, -, hhvalid, -⟩ := State.tunHeard_tun s n fr
  simp [htakes, hmatch, hst, hhvalid, hvalid]

/-- Settles O33. -/
theorem tunnelFlow : Obligations.TunnelFlow := by
  unfold Obligations.TunnelFlow
  refine ⟨?inOrder, ?old, ?reorder, ?take, ?send, ?waits, ?later, ?taken, ?report, ?poll, ?heard⟩
  case inOrder =>
    exact fun s fr n htakes hmatch hst hrx hseq hseg hsub => gives_tunnelDataReceived_inOrder htakes hmatch hst hrx hseq hseg hsub
  case old => exact fun s fr n htakes hmatch hst hold => gives_tunnelDataReceived_old htakes hmatch hst hold
  case reorder =>
    exact fun s n a f hon htun hgap hrx hready hseg => gives_tunnelReorderTimeout hon htun hgap hrx hready hseg
  case take =>
    exact fun s n b hon htun hcompat hkind hlen hroom hrole =>
      gives_next (exec_ladlePacketTake_plain hon htun hcompat hkind hlen hroom hrole) rfl
  case send => exact fun s n f r hon htun hst hrole htx hcredit => gives_tunnelDataSend_credit hon htun hst hrole htx hcredit
  case waits =>
    exact fun s n f r hon htun hst hrole htx hcredit hwait =>
      gives_next (exec_tunnelDataSend_waits hon htun hst hrole htx hcredit hwait) rfl
  case later =>
    exact fun s u n b q m k hon htun hpacket hsink => gives_next (exec_tunnelSinkDeliver_later hon htun hpacket hsink) rfl
  case taken => exact fun s u n b q m k hon htun hpacket hsink => gives_tunnelSinkDeliver_taken hon htun hpacket hsink
  case report => exact fun s n a hon htun hst hrole hfreed => gives_tunnelCreditReport hon htun hst hrole hfreed
  case poll =>
    exact fun s n e l hon htun hst htver hperiod hkind hsent hrole =>
      gives_sidebandPoll_first hon htun hst htver hperiod hkind hsent hrole
  case heard => exact fun s fr n htakes hmatch hst hvalid => gives_sidebandReceived_first htakes hmatch hst hvalid

end Sys2Proof.Machine
end

section
/-! PROOFS. Pans asleep and awake (R453 to R456), O23. -/

namespace Sys2Proof.Machine

open Sys2Proof

theorem gives_panDozeEntry {s : State} {n : Fin 16} (hon : s.logicOn = true) (hactive : s.panActive n = true)
    (hhold : s.panHold450 n = 0) : Gives (.panDozeEntry n) s fun t => t.reg (Key.PAN_STATE n) = 1 ∧
      (s.pan n).idleAt + s.reg Key.PWR_DOZE_IDLE_US * 1000 ≤ t.lmc ∧ t.lines = s.lines := by
  refine ⟨_, by change execPanDozeEntry n s = _; simp only [execPanDozeEntry, hon, hactive, hhold]; rfl, ?_⟩
  exact ⟨by simp, State.le_lmc_until _ _, by simp⟩

theorem exec_panDarkEntry_free {s : State} {n : Fin 16} (hon : s.logicOn = true) (hdoze : s.reg (Key.PAN_STATE n) = 1)
    (hwaking : (s.pan n).waking = none) (hhold450 : s.panHold450 n = 0) (hhold451 : s.panHold451 n = false) :
    exec (.panDarkEntry n) s = .next (((s.until ((s.pan n).dozeAt + s.reg Key.PWR_DARK_IDLE_MS * 1000000)).setReg
      (Key.PAN_STATE n) 2).bump (Key.PAN_DARK_ENTRIES n)) := by
  change execPanDarkEntry n s = _
  simp [execPanDarkEntry, hon, hdoze, hwaking, hhold450, hhold451]

theorem exec_panWake_asleep {s : State} {n : Fin 16} (hon : s.logicOn = true) (hasleep : s.panActive n = false)
    (hwaking : (s.pan n).waking = none) : exec (.panWake n) s = .next (s.setPan n { s.pan n with waking := some s.lmc }) := by
  change execPanWake n s = _
  simp [execPanWake, hon, State.panAsk, hasleep, hwaking]

/-- Operations that leave Pan `n`'s state and its count of wakes. -/
structure PanKept (n : Nat) (s t : State) : Prop where
  state : t.reg (Key.PAN_STATE n) = s.reg (Key.PAN_STATE n)
  wakes : t.count (Key.PAN_WAKES n) = s.count (Key.PAN_WAKES n)
  pan : (t.pan n).waking = (s.pan n).waking

theorem PanKept.refl (n : Nat) (s : State) : PanKept n s s := ⟨rfl, rfl, rfl⟩

theorem PanKept.trans {n : Nat} {s t u : State} (h : PanKept n s t) (g : PanKept n t u) : PanKept n s u :=
  ⟨g.state.trans h.state, g.wakes.trans h.wakes, g.pan.trans h.pan⟩

theorem PanKept.keep {n m : Nat} {x s t : State} (h : Keep m s t) (hregs : m.testBit 5 = false) (hcnt : m.testBit 6 = false)
    (hpans : m.testBit 69 = false) (g : PanKept n x s) : PanKept n x t :=
  g.trans ⟨by rw [State.reg_congr (h.same .regs hregs)], by rw [State.count_congr (h.same .cnt hcnt)],
    by rw [State.pan_congr (h.same .pans hpans)]⟩

theorem PanKept.ite {n : Nat} {c : Prop} [Decidable c] {x s t : State} (hs : PanKept n x s) (ht : PanKept n x t) :
    PanKept n x (if c then s else t) := by
  split <;> assumption

theorem PanKept.foldl {α : Type} {n : Nat} {f : State → α → State} (hf : ∀ u a, PanKept n u (f u a)) (l : List α) (s : State) :
    PanKept n s (l.foldl f s) := by
  induction l generalizing s with
  | nil => exact .refl n s
  | cons a l ih => exact (hf s a).trans (ih (f s a))

theorem panKept_lineDeliver (n : Nat) (s : State) (c : Nat × Bool × Int) : PanKept n s (s.lineDeliver c) :=
  ⟨State.lineDeliver_reg _ _ (loudReg_of_sub (by decide) (obj_ne_of_sub (by decide))),
   State.lineDeliver_count _ _ (by simp [loudCounter, trafficCounter, obj]; omega) (obj_ne_of_sub (by decide)) (obj_ne_of_sub (by decide)),
   by rw [State.pan_congr ((keep_lineDeliver _ _).same .pans rfl)]⟩

theorem panKept_setLine (n : Nat) (s : State) (i : Nat) (l : LineSt) : PanKept n s (s.setLine i l) := ⟨rfl, rfl, rfl⟩

theorem panKept_setRs (n : Nat) (s : State) (c : Nat) (x : RsSt) : PanKept n s (s.setRs c x) := ⟨rfl, rfl, rfl⟩

theorem panKept_linesWake (n m : Nat) (s : State) :
    PanKept n s (s.linesWake m) := by
  unfold State.linesWake
  extract_lets held p s1
  have h0 : PanKept n s (s.setPan m { s.pan m with held := [] }) := by
    refine ⟨rfl, rfl, ?_⟩
    rw [State.pan_setPan]
    split
    case isTrue h => rw [h]
    case isFalse => rfl
  have h1 : PanKept n s s1 := h0.trans (PanKept.foldl (panKept_lineDeliver n) held _)
  exact h1.trans (PanKept.foldl (fun u j => panKept_setLine n u _ _) _ _)

theorem panKept_linesFresh (n m : Nat) (s : State) : PanKept n s (s.linesFresh m) :=
  .keep (keep_linesFresh s m) rfl rfl rfl (.refl n s)

/-- What ends the wake: the Pan is ACTIVE and counted, and the edges it held are delivered. -/
theorem gives_panWakeComplete {s : State} {n : Fin 16} {at_ : Nat} (hon : s.logicOn = true) (hwaking : (s.pan n).waking = some at_) :
    Gives (.panWakeComplete n) s fun t => t.reg (Key.PAN_STATE n) = 0 ∧ (t.pan n).waking = none ∧
      t.count (Key.PAN_WAKES n) = s.count (Key.PAN_WAKES n) + 1 := by
  change ∃ t, execPanWakeComplete n s = .next t ∧ _
  unfold execPanWakeComplete
  extract_lets m
  rw [hwaking]
  simp -zeta only [hon, Bool.not_true, Bool.false_eq_true, if_false]
  extract_lets s1 dark s2 p s3 s4 s5
  have hcount : s1.count (Key.PAN_WAKES m) = s.count (Key.PAN_WAKES m) := by
    simp only [s1]
    split
    · rw [State.pertActed, State.count_bump, if_neg (obj_ne_of_sub (by decide))]
      simp
    · rfl
  have h4 : PanKept m s3 s4 := .ite (panKept_linesFresh _ _ _) (.refl _ _)
  have h5 : PanKept m s4 s5 := PanKept.foldl (fun u c => .ite (panKept_setRs _ _ _ _) (.refl _ _)) _ _
  have h6 : PanKept m s3 (s5.linesWake m) := (h4.trans h5).trans (panKept_linesWake _ _ _)
  refine ⟨_, rfl, h6.state.trans ?_, h6.pan.trans ?_, h6.wakes.trans ?_⟩
  · simp [s3, s2]
  · simp [s3]
  · change s3.count (Key.PAN_WAKES m) = s.count (Key.PAN_WAKES m) + 1
    simp [s3, s2, hcount]

/-- Settles O23. -/
theorem pans : Obligations.Pans := by
  unfold Obligations.Pans
  refine ⟨?doze, ?dark, ?wake, ?complete⟩
  case doze => exact fun s n hon hactive hhold => gives_panDozeEntry hon hactive hhold
  case dark =>
    intro s n hon hdoze hwaking hhold450 hhold451
    exact gives_next (exec_panDarkEntry_free hon hdoze hwaking hhold450 hhold451) ⟨by simp, by simp, by simpa using State.le_lmc_until _ _⟩
  case wake => exact fun s n hon hasleep hwaking => gives_next (exec_panWake_asleep hon hasleep hwaking) rfl
  case complete => exact fun s n at_ hon hwaking => gives_panWakeComplete hon hwaking

end Sys2Proof.Machine
end

section
/-! PROOFS. Timer units and captures (R153 to R159, R285), O19. -/

namespace Sys2Proof.Machine

open Sys2Proof

theorem gives_timerDisarm {s : State} {w : Writer} {u : Fin 64} (haccepts : Accepts s w (Key.TIMER_DISARM u) 1) :
    Gives (.timerDisarm w u 1) s (Quiet (if s.reg (Key.TIMER_STATE u) = 2 then s.setTimer u { s.timer u with disarming := true }
      else s.timerStop u 0)) :=
  gives_command rfl haccepts Nat.one_ne_zero rfl fun _ h => h

theorem exec_timerPrewake_armed {s : State} {u : Fin 64} {n : Nat} (hpan : armPan (s.arm u) = some n)
    (hst : s.reg (Key.TIMER_STATE u) = 1) (hon : s.logicOn = true) :
    exec (.timerPrewake u) s = .next (s.panWindow n (toSigned 64 (s.reg (Key.TIMER_NEXT_INSTANT u)))) := by
  change execTimerPrewake u s = _
  simp [execTimerPrewake, hpan, hst, hon]

/-- Of a fault's level only the fault table, the events and their signals change. -/
theorem State.setLive_count (s : State) (n : Nat) (b : Bool) {k : Nat} (hk : trafficCounter k = false) :
    (s.setLive n b).count k = s.count k := by
  unfold State.setLive
  split
  · rw [State.count_congr ((keep_faultDown _ _).same .cnt rfl)]
  · split
    · rfl
    · rw [State.raise_count _ _ _ hk]
      rfl

theorem State.linesLive_count (s : State) (n : Nat) {k : Nat} (hk : trafficCounter k = false) :
    (s.linesLive n).count k = s.count k := State.setLive_count _ _ _ hk

/-- What an output does is counted by no counter but those of traffic. -/
theorem State.lineAct_count (s : State) (i : Nat) (f : State → State) {k : Nat} (hk : trafficCounter k = false) :
    (s.lineAct i f).count k = (f s).count k := by
  unfold State.lineAct
  extract_lets b0 s1 b1 l on l' s2 loaded edge l2 k' s3
  have h1 : s1.count k = (f s).count k := State.linesLive_count _ _ hk
  have h2 : s2.count k = (f s).count k := by
    rw [State.linesLive_count _ _ hk]
    exact h1
  split
  · exact h2
  · by_cases hfull : (if on then l2.rises else l2.falls) = 16
    · rw [if_pos hfull]
      exact h2
    · rw [if_neg hfull]
      exact h2

theorem State.armDrive_count (s : State) (r : Nat) (b : Bool) {k : Nat} (hk : trafficCounter k = false) :
    (s.armDrive r b).count k = s.count k := by
  unfold State.armDrive
  split
  · simp [State.lineDrive, State.lineAct_count _ _ _ hk]
  · simp

/-- The instant of a unit is counted as an instant by nobody but the unit itself. -/
theorem State.timerAct_count (s : State) (u : Nat) (t : Int) {k : Nat} (hk : trafficCounter k = false)
    (hsup : k ≠ Key.TIMER_SUPPRESSED u) : (s.timerAct u t).count k = s.count k := by
  unfold State.timerAct
  extract_lets r w x
  split
  · rfl
  · exact State.raise_count _ _ _ hk
  · split
    · simp [hsup]
    · split <;> simp [State.armDrive_count _ _ _ hk]

theorem State.timerStop_count (s : State) (u st : Nat) : (s.timerStop u st).count = s.count := rfl

theorem State.timerGoOn_keeps (s : State) (u : Nat) : (s.timerGoOn u).count = s.count ∧ (s.timerGoOn u).ftime = s.ftime :=
  ⟨State.count_congr ((keep_timerGoOn s u).same .cnt rfl), State.ftime_congr ((keep_timerGoOn s u).same .ftimeQ rfl)⟩

theorem State.timerStop_pulseEnd (s : State) (u st : Nat) : ((s.timerStop u st).timer u).pulseEnd = none := by
  simp [State.timerStop]

theorem State.timerGoOn_pulseEnd (s : State) (u : Nat) (h : (s.timer u).pulseEnd = none) :
    ((s.timerGoOn u).timer u).pulseEnd = none := by
  unfold State.timerGoOn
  extract_lets r t
  split
  · exact State.timerStop_pulseEnd _ _ _
  · split
    · exact State.timerStop_pulseEnd _ _ _
    · exact h

theorem gives_timerInstant {s : State} {u : Fin 64} (hon : s.logicOn = true) (hst : s.reg (Key.TIMER_STATE u) = 1) :
    Gives (.timerInstant u) s fun t => toSigned 64 (s.reg (Key.TIMER_NEXT_INSTANT u)) ≤ t.ftime ∧
      t.count (Key.TIMER_FIRED u) = s.count (Key.TIMER_FIRED u) + 1 := by
  change ∃ t, execTimerInstant u s = .next t ∧ _
  unfold execTimerInstant
  extract_lets u r due s1 late period missed t s2 s3 steps s4 s5 s6
  rw [if_neg (by simp [hon, u, hst])]
  have hloud : loudCounter (Key.TIMER_FIRED u) = false := by
    simp [loudCounter, trafficCounter, obj]
    omega
  have hquiet : trafficCounter (Key.TIMER_FIRED u) = false := trafficCounter_of_loud hloud
  have hftime2 : s2.ftime = s1.ftime := by
    simp only [s2]
    split
    · exact State.ftime_congr ((keep_occur _ _ _ _).same .ftimeQ rfl)
    · rfl
  have hftime : s6.ftime = s1.ftime := by
    rw [State.ftime_congr ((keep_timerAct _ _ _).same .ftimeQ rfl), ← hftime2]
    simp only [s5, s4, s3, State.setNext]
    split <;> simp
  have h2 : s2.count (Key.TIMER_FIRED u) = s.count (Key.TIMER_FIRED u) := by
    simp only [s2, s1]
    split
    · rw [State.occur_count _ _ _ _ hloud, State.count_bump, if_neg (obj_ne_of_sub (by decide))]
      simp
    · simp
  have h3 : s3.count (Key.TIMER_FIRED u) = s.count (Key.TIMER_FIRED u) := by
    simp only [s3]
    split
    · rw [State.count_addCount, if_neg (obj_ne_of_sub (by decide)), h2]
    · exact h2
  have h6 : s6.count (Key.TIMER_FIRED u) = s.count (Key.TIMER_FIRED u) + 1 := by
    rw [State.timerAct_count _ _ _ hquiet (obj_ne_of_sub (by decide)), ← h3]
    simp [s5, s4, State.setNext]
  have hdue : due ≤ s6.ftime := by
    rw [hftime]
    exact State.le_ftime_untilFtime s due
  refine ⟨_, rfl, ?_, ?_⟩
  · split
    · exact hdue
    · rw [(State.timerGoOn_keeps _ _).2]
      exact hdue
  · split
    · exact h6
    · rw [(State.timerGoOn_keeps _ _).1]
      exact h6

theorem gives_pulseEnd {s : State} {u : Fin 64} {at_ : Int} (hpulse : (s.timer u).pulseEnd = some at_) :
    Gives (.pulseEnd u) s fun t => (t.timer u).pulseEnd = none ∧ at_ ≤ t.ftime := by
  change ∃ t, execPulseEnd u s = .next t ∧ _
  unfold execPulseEnd
  extract_lets u
  rw [hpulse]
  dsimp -zeta only
  extract_lets s1 prior s2 x
  have hftime : s2.ftime = s1.ftime := by
    simp only [s2]
    split
    · simp
    · exact State.ftime_congr ((keep_armDrive _ _ _).same .ftimeQ rfl)
  refine ⟨_, rfl, State.timerGoOn_pulseEnd _ _ (by simp), ?_⟩
  rw [(State.timerGoOn_keeps _ _).2, (State.setTimer_clocks _ _ _).2, hftime]
  exact State.le_ftime_untilFtime s at_

theorem gives_pxPinEdge {s : State} {x : Fin 64} {rising : Bool} (hon : s.logicOn = true) (hlevel : (s.px x).level ≠ rising)
    (hmode : s.reg (Key.PX_MODE x) ≠ 0) : Gives (.pxPinEdge x rising) s fun t =>
      t.count (Key.PX_EDGES x) = s.count (Key.PX_EDGES x) + 1 ∧ t.time = s.time ∧
        (bitOf (s.reg (if rising then Key.CAP_PX_RISE (x / 4) else Key.CAP_PX_FALL (x / 4))) (x % 4) = false →
          (t.px x).level = rising) := by
  have hx := x.isLt
  change ∃ t, execPxPinEdge x rising s = .next t ∧ _
  unfold execPxPinEdge
  extract_lets x p s1 s2 en
  rw [if_neg (by simp [hon, p, x, hlevel]), if_neg (by simpa [s1, x] using hmode)]
  have hloud : loudCounter (Key.PX_EDGES x) = false := by
    simp [loudCounter, trafficCounter, obj]
    omega
  have hover : Key.PX_EDGES x ≠ Key.CAP_OVERRUNS (x / 4) := by
    simp only [obj, x]
    omega
  have h2 : s2.count (Key.PX_EDGES x) = s.count (Key.PX_EDGES x) + 1 := by simp [s2, s1]
  refine ⟨_, rfl, ?_, ?_, ?_⟩
  · split
    · exact (State.capture1_count _ _ _ _ _ _ hloud (obj_ne_of_sub (by decide)) hover).trans h2
    · exact h2
  · split
    · exact (keep_capture1 _ _ _ _ _ _).same .time rfl
    · rfl
  · intro hen
    have hen' : en = false := by simpa [en, s2, s1] using hen
    rw [hen']
    simp [s2, s1, x]

/-- Settles O19. -/
theorem timersAndCaptures : Obligations.TimersAndCaptures := by
  unfold Obligations.TimersAndCaptures
  refine ⟨?arm, ?disarm, ?disarmPulse, ?prewake, ?instant, ?pulse, ?edge, ?flush⟩
  case arm =>
    intro s w u r haccepts hahead hbad hconflict
    refine gives_write rfl haccepts (by simp [Int.not_lt.2 hahead, hbad, hconflict]) fun t hquiet => ⟨?_, ?_, ?_, ?_⟩
    · rw [hquiet.reg]
      simp [State.setNext, obj]
    · rw [hquiet.reg]
      simp [State.setNext]
    · rw [State.timer_congr hquiet.timers]
      simp
    · rw [hquiet.lines]
      exact (keep_store s _ _).same .lines rfl
  case disarm =>
    intro s w u haccepts hst
    have h := gives_timerDisarm haccepts
    rwa [if_neg hst] at h
  case disarmPulse =>
    intro s w u haccepts hst
    have h := gives_timerDisarm haccepts
    rwa [if_pos hst] at h
  case prewake => exact fun s u n hpan hst hon => gives_next (exec_timerPrewake_armed hpan hst hon) rfl
  case instant => exact fun s u hon hst => gives_timerInstant hon hst
  case pulse => exact fun s u at_ hpulse => gives_pulseEnd hpulse
  case edge => exact fun s x rising hon hlevel hmode => gives_pxPinEdge hon hlevel hmode
  case flush => exact fun s w n haccepts => gives_command rfl haccepts Nat.one_ne_zero rfl fun _ h => h

end Sys2Proof.Machine
end

section
/-! PROOFS. The inputs of discrete lines (R178 to R184, R200), O21. -/

namespace Sys2Proof.Machine

open Sys2Proof

theorem orElse_none {a b : Option Abort} (ha : a = none) (hb : b = none) : orElse a b = none := by
  rw [ha, hb]
  rfl

theorem State.setLive_reg (s : State) (n : Nat) (b : Bool) : (s.setLive n b).reg = s.reg :=
  State.reg_congr ((keep_setLive s n b).same .regs rfl)

theorem State.linesLive_line (s : State) (n : Nat) : (s.linesLive n).line = s.line :=
  State.line_congr ((keep_linesLive s n).same .lines rfl)

theorem State.linesLive_reg (s : State) (n : Nat) : (s.linesLive n).reg = s.reg :=
  State.reg_congr ((keep_linesLive s n).same .regs rfl)

/-- An output that switches writes no object but its own measured delays (R190). -/
theorem State.lineAct_reg (s : State) (i : Nat) (f : State → State) {k : Nat} (hrise : k ≠ Key.DL_OUT_DELAY_RISE i)
    (hfall : k ≠ Key.DL_OUT_DELAY_FALL i) : (s.lineAct i f).reg k = (f s).reg k := by
  unfold State.lineAct
  extract_lets b0 s1 b1 l on l' s2 loaded edge l2 k' s3
  have h2 : s2.reg k = (f s).reg k := by
    simp only [s2, s1, State.linesLive_reg, State.setLine_readers]
  have hkey : k ≠ k' := by
    simp only [k']
    split
    · exact hrise
    · exact hfall
  split
  · exact h2
  · by_cases hfull : (if on then l2.rises else l2.falls) = 16
    · rw [if_pos hfull]
      exact (State.reg_setReg _ _ _ _).trans ((if_neg hkey).trans h2)
    · rw [if_neg hfull]
      exact h2

/-- An output that switches keeps what its line knows of its input and of its trips. -/
theorem State.lineAct_line (s : State) (i : Nat) (f : State → State) :
    ((s.lineAct i f).line i).known = ((f s).line i).known ∧ ((s.lineAct i f).line i).trips = ((f s).line i).trips ∧
    ((s.lineAct i f).line i).off = ((f s).line i).off := by
  unfold State.lineAct
  extract_lets b0 s1 b1 l on l' s2 loaded edge l2 k' s3
  have hl : l'.known = ((f s).line i).known ∧ l'.trips = ((f s).line i).trips ∧ l'.off = ((f s).line i).off := by
    simp only [l', l, s1]
    split <;> simp [State.linesLive_line]
  have h2 : s2.line i = l' := by simp [s2, State.linesLive_line]
  have h3 : (s3.line i).known = l'.known ∧ (s3.line i).trips = l'.trips ∧ (s3.line i).off = l'.off := by
    simp only [s3, State.line_setLine, if_true, l2]
    split <;> exact ⟨rfl, rfl, rfl⟩
  split
  · rw [h2]
    exact hl
  · by_cases hfull : (if on then l2.rises else l2.falls) = 16
    · rw [if_pos hfull]
      change (s3.line i).known = _ ∧ (s3.line i).trips = _ ∧ (s3.line i).off = _
      rw [h3.1, h3.2.1, h3.2.2]
      exact hl
    · rw [if_neg hfull, h3.1, h3.2.1, h3.2.2]
      exact hl

theorem State.store_reg_self (s : State) (k v : Nat) (hk : k ≠ Key.PARAM_DIRTY) : (s.store k v).reg k = maskValue k v := by
  unfold State.store
  extract_lets v' s'
  split <;> simp [s', v', hk]

theorem gives_dlModeWrite {s : State} {w : Writer} {i : Fin 256} {v : Nat} (haccepts : Accepts s w (Key.DL_MODE i) v)
    (hbudget : s.budgetCheck (Key.DL_MODE i) v = none) (hload : s.loadCheck i (Key.DL_MODE i) v = none) :
    Gives (.dlModeWrite w i v) s fun t =>
      t.reg (Key.DL_MODE i) = maskValue (Key.DL_MODE i) v ∧ t.reg (Key.DL_COUNT i) = 0 ∧ t.count (Key.DL_EDGES i) = 0 ∧
        (t.line i).known = false ∧ (t.line i).trips = 0 ∧ (t.line i).off = false := by
  have htraffic : trafficCounter (Key.DL_EDGES i) = false := by
    simp [trafficCounter, obj]
    omega
  refine gives_write rfl haccepts (orElse_none hbudget hload) fun t hquiet => ⟨?_, ?_, ?_, ?_⟩
  · rw [hquiet.reg, State.lineAct_reg _ _ _ (obj_ne_of_sub (by decide)) (obj_ne_of_sub (by decide))]
    simp only [State.setLine_readers, State.setCount_readers, State.reg_setReg]
    rw [if_neg (obj_ne_of_sub (by decide)), State.store_reg_self _ _ _ (obj_ne_of_sub (by decide))]
  · rw [hquiet.reg, State.lineAct_reg _ _ _ (obj_ne_of_sub (by decide)) (obj_ne_of_sub (by decide))]
    simp
  · rw [hquiet.count htraffic, State.lineAct_count _ _ _ htraffic]
    simp
  · rw [State.line_congr hquiet.lines, (State.lineAct_line _ _ _).1, (State.lineAct_line _ _ _).2.1, (State.lineAct_line _ _ _).2.2]
    simp

theorem State.panAsk_line (s : State) (n : Nat) : (s.panAsk n).line = s.line ∧ (s.panAsk n).regs = s.regs := by
  unfold State.panAsk
  extract_lets p
  split
  · exact ⟨rfl, rfl⟩
  · split <;> exact ⟨rfl, rfl⟩

theorem exec_dlRawCrossing {s : State} {i : Fin 256} {level : Bool} (hpowered : s.field.powered = true) (hraw : (s.line i).raw ≠ level) :
    Gives (.dlRawCrossing i level) s fun t => (t.line i).raw = level ∧ (t.line i).rawAt = s.lmc ∧
      (t.line i).accepted = (s.line i).accepted ∧ t.regs = s.regs := by
  change ∃ t, execDlRawCrossing i level s = .next t ∧ _
  unfold execDlRawCrossing
  extract_lets l input s1
  rw [if_neg (by simp [hpowered, l, hraw])]
  refine ⟨_, rfl, ?_⟩
  split
  · rw [(State.panAsk_line _ _).1, (State.panAsk_line _ _).2]
    simp [s1, l]
  · simp [s1, l]

/-- An accepted level is in its line at once; the edge goes to the Pan, now or when it wakes (R181). -/
theorem State.lineAccept_line (s : State) (i : Nat) (level : Bool) (stamp : Int) :
    ((s.lineAccept i level stamp).line i).accepted = level ∧ ((s.lineAccept i level stamp).line i).known = true := by
  unfold State.lineAccept
  extract_lets n l s1 p
  have h1 : (s1.line i).accepted = level ∧ (s1.line i).known = true := by simp [s1]
  split
  · exact h1
  · split
    · obtain ⟨b, v, hv⟩ := State.lineDeliver_line s1 (i, level, stamp) i
      rw [hv]
      exact h1
    · split <;> exact h1

theorem State.lineAccept_reg (s : State) (i : Nat) (level : Bool) (stamp : Int) {k : Nat} (hk : loudReg k = false) :
    (s.lineAccept i level stamp).reg k = s.reg k := by
  unfold State.lineAccept
  extract_lets n l s1 p
  split
  · rfl
  · split
    · exact State.lineDeliver_reg s1 (i, level, stamp) hk
    · split <;> rfl

theorem State.lineAccept_lmc (s : State) (i : Nat) (level : Bool) (stamp : Int) : (s.lineAccept i level stamp).lmc = s.lmc :=
  State.lmc_congr ((keep_lineAccept s i level stamp).same .clock rfl)

theorem State.lineAccept_edges (s : State) (i : Fin 256) (level : Bool) (stamp : Int) :
    (s.lineAccept i level stamp).count (Key.DL_EDGES i) = s.count (Key.DL_EDGES i) + 1 := by
  have hloud : loudCounter (Key.DL_EDGES i) = false := by
    simp [loudCounter, trafficCounter, obj]
    omega
  unfold State.lineAccept
  extract_lets n l s1 p
  have h1 : s1.count (Key.DL_EDGES i) = s.count (Key.DL_EDGES i) + 1 := by simp [s1]
  split
  · exact h1
  · split
    · rw [State.lineDeliver_count s1 _ hloud (obj_ne_of_sub (by decide)) (obj_ne_of_sub (by decide)), h1]
    · split <;> exact h1

theorem gives_debounceComplete {s : State} {i : Fin 256} (hpowered : s.field.powered = true)
    (hmode : s.lineMode i = 1 ∨ s.lineMode i = 2) (hraw : (s.line i).raw ≠ (s.line i).accepted) :
    Gives (.debounceComplete i) s fun t => (t.line i).accepted = (s.line i).raw ∧ (t.line i).known = true ∧
      (s.line i).rawAt + s.debounceNs i ≤ t.lmc ∧ t.count (Key.DL_EDGES i) = s.count (Key.DL_EDGES i) + 1 := by
  change ∃ t, execDebounceComplete i s = .next t ∧ _
  unfold execDebounceComplete
  extract_lets l input s1
  have hinput : input = true := by simpa [input] using hmode
  rw [if_neg (by simp [hpowered, l, hraw, hinput]), if_neg hraw]
  refine ⟨_, rfl, (State.lineAccept_line _ _ _ _).1, (State.lineAccept_line _ _ _ _).2, ?_, ?_⟩
  · rw [State.lineAccept_lmc]
    have hdue := State.le_lmc_until s (max l.rawAt l.freshAt + s.debounceNs i)
    have hmax : l.rawAt ≤ max l.rawAt l.freshAt := Nat.le_max_left _ _
    exact (Nat.add_le_add_right hmax _).trans hdue
  · rw [State.lineAccept_edges]
    simp [s1]

theorem exec_inDelayMeasure_on {s : State} {i : Fin 256} {ps : Nat} (hpowered : s.field.powered = true) (hon : s.logicOn = true) :
    exec (.inDelayMeasure i ps) s = .next ((s.setReg (Key.DL_IN_DELAY i) (ps % 2 ^ 32)).setReg (Key.DL_CAL_STATE i)
      (setBit (s.reg (Key.DL_CAL_STATE i)) 2 true)) := by
  change execInDelayMeasure i ps s = _
  simp [execInDelayMeasure, hpowered, hon]

theorem gives_dlCounterEdge {s : State} {i : Fin 256} {rising : Bool} (hpowered : s.field.powered = true) (hmode : s.lineMode i = 3)
    (hlevel : (s.line i).accepted ≠ rising) : Gives (.dlCounterEdge i rising) s fun t =>
      (t.line i).accepted = rising ∧ t.reg (Key.DL_COUNT i) =
        (if bitOf (s.reg (Key.DL_COUNT_EDGES i)) (if rising then 0 else 1) then (s.reg (Key.DL_COUNT i) + 1) % 2 ^ 32
         else s.reg (Key.DL_COUNT i)) := by
  change ∃ t, execDlCounterEdge i rising s = .next t ∧ _
  unfold execDlCounterEdge
  extract_lets l e counts s1 s2
  rw [if_neg (by simp [hpowered, l, hlevel, hmode]), if_neg hlevel]
  refine ⟨_, rfl, (State.lineAccept_line _ _ _ _).1, ?_⟩
  have hquiet : loudReg (Key.DL_COUNT i) = false := loudReg_of_sub (by decide) (obj_ne_of_sub (by decide))
  have hcounts : counts = bitOf (s.reg (Key.DL_COUNT_EDGES i)) (if rising then 0 else 1) := by
    simp only [counts, e]
    split <;> rfl
  rw [State.lineAccept_reg _ _ _ _ hquiet]
  change s1.reg (Key.DL_COUNT i) = _
  rw [← hcounts]
  simp only [s1]
  split <;> simp

theorem exec_samplingWake_counts {s : State} {n j : Fin 16} (hon : s.logicOn = true) (hmode : s.hub.mode = .operate)
    (hline : s.lineMode (16 * n + j) = 3) (hbound : s.pubBound (Key.DL_COUNT (16 * n + j)) = true) :
    exec (.samplingWake n) s = .next (s.panWindow n ((s.ftime / (s.turnT : Int) + 1) * (s.turnT : Int))) := by
  have hhas : (List.range 16).any (fun j =>
      s.lineMode (16 * n.val + j) == 3 && s.pubBound (Key.DL_COUNT (16 * n.val + j))) = true :=
    List.any_eq_true.2 ⟨j, List.mem_range.2 j.isLt, by simp [hline, hbound]⟩
  change execSamplingWake n s = _
  unfold execSamplingWake
  extract_lets has t
  rw [if_pos ⟨hon, hmode, hhas⟩]

theorem State.panWindow_window (s : State) (n : Nat) (t : Int) :
    ((s.panWindow n t).pan n).window.isSome = true ∧ (s.panWindow n t).regs = s.regs := by
  unfold State.panWindow
  extract_lets s1 p
  exact ⟨by simp, (State.panAsk_line s n).2⟩

/-- Settles O21. -/
theorem lineInputs : Obligations.LineInputs := by
  unfold Obligations.LineInputs
  refine ⟨?mode, ?raw, ?debounce, ?delay, ?edge, ?wake⟩
  case mode => exact fun s w i v haccepts hbudget hload => gives_dlModeWrite haccepts hbudget hload
  case raw => exact fun s i level hpowered hraw => exec_dlRawCrossing hpowered hraw
  case debounce => exact fun s i hpowered hmode hraw => gives_debounceComplete hpowered hmode hraw
  case delay =>
    intro s i ps hpowered hon
    refine gives_next (exec_inDelayMeasure_on hpowered hon) ⟨?_, by simp, rfl⟩
    rw [State.reg_setReg, if_neg (obj_ne_of_sub (by decide))]
    simp
  case edge => exact fun s i rising hpowered hmode hlevel => gives_dlCounterEdge hpowered hmode hlevel
  case wake =>
    exact fun s n j hon hmode hline hbound =>
      gives_next (exec_samplingWake_counts hon hmode hline hbound) (State.panWindow_window _ _ _)

end Sys2Proof.Machine
end

section
/-! PROOFS. Branch fuses (R461 to R465, R420), O24. -/

namespace Sys2Proof.Machine

open Sys2Proof

/-- Bringing a fuse to the state its settings ask for leaves its trips, its hold and its command (R461). -/
theorem State.fuseSync_fuse (s : State) (b : Nat) :
    ((s.fuseSync b).fuse b).hold = (s.fuse b).hold ∧ ((s.fuseSync b).fuse b).trips = (s.fuse b).trips ∧
    ((s.fuseSync b).fuse b).hot = (s.fuse b).hot ∧ ((s.fuseSync b).fuse b).retryAt = (s.fuse b).retryAt ∧
    ((s.fuseSync b).fuse b).onAt = (s.fuse b).onAt ∧ ((s.fuseSync b).fuse b).cmd = (s.fuse b).cmd ∧
    ((s.fuseSync b).fuse b).safeCmd = (s.fuse b).safeCmd := by
  unfold State.fuseSync
  extract_lets f st frozen
  split_ifs <;> simp [f]

theorem State.fuseSync_reg (s : State) (b : Nat) {k : Nat} (hk : k ≠ Key.BR_STATE b) : (s.fuseSync b).reg k = s.reg k := by
  unfold State.fuseSync
  extract_lets f st frozen
  split_ifs <;> simp [hk]

theorem State.fuseSync_keeps (s : State) (b : Nat) : (s.fuseSync b).count = s.count ∧ (s.fuseSync b).lmc = s.lmc :=
  ⟨State.count_congr ((keep_fuseSync s b).same .cnt rfl), State.lmc_congr ((keep_fuseSync s b).same .clock rfl)⟩

theorem State.fuseLive_keeps (s : State) (n : Nat) : (s.fuseLive n).reg = s.reg ∧ (s.fuseLive n).fuse = s.fuse :=
  ⟨State.reg_congr ((keep_fuseLive s n).same .regs rfl), State.fuse_congr ((keep_fuseLive s n).same .fuses rfl)⟩

theorem State.fuseLive_count (s : State) (n : Nat) {k : Nat} (hk : trafficCounter k = false) : (s.fuseLive n).count k = s.count k :=
  State.setLive_count _ _ _ hk

theorem State.occur_fuse (s : State) (n item detail : Nat) : (s.occur n item detail).fuse = s.fuse :=
  State.fuse_congr ((keep_occur s n item detail).same .fuses rfl)

theorem State.raise_fuse (s : State) (n data : Nat) : (s.raise n data).fuse = s.fuse :=
  State.fuse_congr ((keep_raise s n data).same .fuses rfl)

theorem loudReg_BR_STATE (b : Nat) : loudReg (Key.BR_STATE b) = false := loudReg_of_sub (by decide) (obj_ne_of_sub (by decide))

theorem loudReg_BR_LAST_TRIP (b : Nat) : loudReg (Key.BR_LAST_TRIP b) = false :=
  loudReg_of_sub (by decide) (obj_ne_of_sub (by decide))

theorem loudCounter_BR_TRIPS (b : Nat) : loudCounter (Key.BR_TRIPS b) = false := by
  simp [loudCounter, trafficCounter, obj]
  omega

theorem State.fuseReport_reg (s : State) (b kind : Nat) {k : Nat} (hk : loudReg k = false) :
    (s.fuseReport b kind).reg k = if k = Key.BR_LAST_TRIP b then kind else s.reg k := by
  unfold State.fuseReport
  rw [State.occur_reg _ _ _ _ hk]
  simp [State.reg_congr ((keep_raise _ _ _).same .regs rfl)]

theorem State.fuseReport_count (s : State) (b kind : Nat) :
    (s.fuseReport b kind).count (Key.BR_TRIPS b) = s.count (Key.BR_TRIPS b) + 1 := by
  unfold State.fuseReport
  rw [State.occur_count _ _ _ _ (loudCounter_BR_TRIPS b), State.raise_count _ _ _ (trafficCounter_of_loud (loudCounter_BR_TRIPS b))]
  simp

theorem State.fuseReport_fuse (s : State) (b kind : Nat) : (s.fuseReport b kind).fuse = s.fuse := by
  unfold State.fuseReport
  rw [State.occur_fuse, State.raise_fuse]
  rfl

/-- What every trip does, whatever its kind (R462 to R464): the fuse counts it, keeps its kind and goes to its back-off or, after
the allowed retries, latches; an I²t trip also leaves it hot. -/
theorem State.fuseTrip_keeps (s : State) (b kind : Nat) :
    (s.fuseTrip b kind).reg (Key.BR_LAST_TRIP b) = kind ∧ ((s.fuseTrip b kind).fuse b).trips = (s.fuse b).trips + 1 ∧
    ((s.fuseTrip b kind).fuse b).hot = ((s.fuse b).hot || kind == 2) ∧
    (s.fuseTrip b kind).count (Key.BR_TRIPS b) = s.count (Key.BR_TRIPS b) + 1 ∧
    (s.fuseTrip b kind).reg (Key.BR_STATE b) = if s.reg (Key.BR_RETRIES b) < (s.fuse b).trips + 1 then 5 else 4 := by
  unfold State.fuseTrip
  extract_lets f k latch wait s1 s2
  have hlast : s2.reg (Key.BR_LAST_TRIP b) = kind := by simp [s2, State.fuseReport_reg _ _ _ (loudReg_BR_LAST_TRIP b)]
  have hstate : s2.reg (Key.BR_STATE b) = if latch then 5 else 4 := by
    simp only [s2, State.fuseReport_reg _ _ _ (loudReg_BR_STATE b), State.reg_setReg]
    rw [if_neg (obj_ne_of_sub (by decide)), if_true]
  have hcount : s2.count (Key.BR_TRIPS b) = s.count (Key.BR_TRIPS b) + 1 := by simp [s2, State.fuseReport_count, s1]
  have hfuse : (s2.fuse b).trips = (s.fuse b).trips + 1 ∧ (s2.fuse b).hot = ((s.fuse b).hot || kind == 2) := by
    simp [s2, State.fuseReport_fuse, s1, k, f]
  have hlatch : (if latch then 5 else 4) = if s.reg (Key.BR_RETRIES b) < (s.fuse b).trips + 1 then 5 else 4 := by simp [latch, k, f]
  split
  · rw [State.occur_reg _ _ _ _ (loudReg_BR_LAST_TRIP b), State.occur_reg _ _ _ _ (loudReg_BR_STATE b), State.occur_fuse,
      State.occur_count _ _ _ _ (loudCounter_BR_TRIPS b), (State.fuseLive_keeps _ _).1, (State.fuseLive_keeps _ _).2,
      State.fuseLive_count _ _ (trafficCounter_of_loud (loudCounter_BR_TRIPS b)), hstate, ← hlatch]
    exact ⟨hlast, hfuse.1, hfuse.2, hcount, rfl⟩
  · rw [hstate, ← hlatch]
    exact ⟨hlast, hfuse.1, hfuse.2, hcount, rfl⟩

/-- The trip of a fuse after it was brought to its state: the same counts as of the fuse that was. -/
theorem State.fuseTrip_sync (s : State) (b kind : Nat) :
    ((s.fuseSync b).fuseTrip b kind).reg (Key.BR_LAST_TRIP b) = kind ∧
    (((s.fuseSync b).fuseTrip b kind).fuse b).trips = (s.fuse b).trips + 1 ∧
    (((s.fuseSync b).fuseTrip b kind).fuse b).hot = ((s.fuse b).hot || kind == 2) ∧
    ((s.fuseSync b).fuseTrip b kind).count (Key.BR_TRIPS b) = s.count (Key.BR_TRIPS b) + 1 ∧
    ((s.fuseSync b).fuseTrip b kind).reg (Key.BR_STATE b) = if s.reg (Key.BR_RETRIES b) < (s.fuse b).trips + 1 then 5 else 4 := by
  have h := State.fuseTrip_keeps (s.fuseSync b) b kind
  rwa [State.fuseSync_reg s b (obj_ne_of_sub (by decide)), (State.fuseSync_fuse s b).2.1, (State.fuseSync_fuse s b).2.2.1,
    (State.fuseSync_keeps s b).1] at h

theorem exec_branchFastTrip_on {s : State} {b : Fin 64} (hon : (s.fuseSync b).fuseOn b = true ∨ (s.fuseSync b).reg (Key.BR_STATE b) = 7) :
    exec (.branchFastTrip b) s = .next ((s.fuseSync b).fuseTrip b 1) := by
  change execBranchFastTrip b s = _
  unfold execBranchFastTrip
  extract_lets s1
  rw [if_pos (by simpa [s1] using hon)]

theorem exec_branchSoaTrip_ramp {s : State} {b : Fin 64} (hramp : (s.fuseSync b).reg (Key.BR_STATE b) = 2) :
    exec (.branchSoaTrip b) s = .next (((s.fuseSync b).until
      (((s.fuseSync b).fuse b).rampAt + ((s.fuseSync b).fuse b).soa * 1000000)).fuseTrip b 3) := by
  change execBranchSoaTrip b s = _
  simp [execBranchSoaTrip, hramp]

theorem State.fuseSync_state_ne {s : State} {b : Nat} (hhold : (s.fuse b).hold = 0) (hstate : s.reg (Key.BR_STATE b) ≠ 4) :
    (s.fuseSync b).reg (Key.BR_STATE b) ≠ 4 := by
  unfold State.fuseSync
  extract_lets f st frozen
  split_ifs
  · simp
  · contradiction
  · exact hstate
  · simp
  · simp
  · exact hstate
  · simp

/-- A fuse let on again (R464): nothing holds it, and it is not in back-off. -/
theorem State.fuseRetry_fuse (s : State) (b : Nat) :
    ((s.fuseRetry b).fuse b).hold = 0 ∧ ((s.fuseRetry b).fuse b).hot = (s.fuse b).hot ∧ (s.fuseRetry b).reg (Key.BR_STATE b) ≠ 4 := by
  unfold State.fuseRetry
  refine ⟨?_, ?_, State.fuseSync_state_ne (by simp) (by simp)⟩
  · rw [(State.fuseSync_fuse _ _).1]
    simp
  · rw [(State.fuseSync_fuse _ _).2.2.1]
    simp

/-- A command word with quality 0 sets the level; any other sends the fuse to its safe state (R465). -/
theorem State.fuseWord_keeps (s : State) (b v : Nat) : (s.fuseWord b v).reg (Key.BR_COMMAND b) = s.reg (Key.BR_COMMAND b) ∧
    ((s.fuseWord b v).fuse b).safeCmd = decide (wQual v ≠ 0) ∧
    (wQual v = 0 → ((s.fuseWord b v).fuse b).cmd = decide (wVal v ≠ 0)) := by
  unfold State.fuseWord
  obtain ⟨-, -, -, -, -, hcmd, hsafe⟩ := State.fuseSync_fuse (s.setFuse b (if wQual v = 0 then
    { s.fuse b with cmd := wVal v != 0, safeCmd := false } else { s.fuse b with safeCmd := true })) b
  refine ⟨?_, hsafe.trans ?_, fun hq => hcmd.trans ?_⟩
  · rw [State.fuseSync_reg _ _ (obj_ne_of_sub (by decide))]
    simp
  · by_cases hq : wQual v = 0 <;> simp [hq]
  · simp [hq, bne, Bool.beq_eq_decide_eq]

theorem State.fuseRetry_lmc (s : State) (b : Nat) : (s.fuseRetry b).lmc = s.lmc :=
  State.lmc_congr ((keep_fuseRetry s b).same .clock rfl)

/-- Settles O24. -/
theorem branchFuses : Obligations.BranchFuses := by
  unfold Obligations.BranchFuses
  refine ⟨?fast, ?i2t, ?soa, ?gate, ?peer, ?ramp, ?backoff, ?half, ?reset, ?clear, ?enable, ?command⟩
  case fast =>
    intro s b hon
    obtain ⟨hlast, htrips, -, hcount, hstate⟩ := State.fuseTrip_sync s b 1
    exact gives_next (exec_branchFastTrip_on hon) ⟨hlast, htrips, hcount, hstate⟩
  case i2t =>
    intro s b hon
    obtain ⟨hlast, htrips, hhot, -, -⟩ := State.fuseTrip_sync s b 2
    refine ⟨_, rfl, ?_⟩
    rw [if_pos hon]
    exact ⟨hlast, by simp [hhot], htrips⟩
  case soa =>
    intro s b hramp
    refine gives_next (exec_branchSoaTrip_ramp hramp) ?_
    obtain ⟨hlast, htrips, -⟩ := State.fuseTrip_keeps ((s.fuseSync b).until
      (((s.fuseSync b).fuse b).rampAt + ((s.fuseSync b).fuse b).soa * 1000000)) b 3
    refine ⟨hlast, htrips.trans ?_⟩
    simp only [State.until_readers, (State.fuseSync_fuse s b).2.1]
  case gate =>
    intro s b hon
    obtain ⟨hlast, htrips, -⟩ := State.fuseTrip_sync s b 6
    refine ⟨_, rfl, ?_⟩
    rw [if_pos hon]
    exact ⟨hlast, htrips⟩
  case peer =>
    intro s b hon hshared hclaim
    obtain ⟨hlast, htrips, -⟩ := State.fuseTrip_sync s b 4
    refine ⟨_, rfl, ?_⟩
    have hreg : (s.fuseSync b).reg (Key.BR_SHARED b) = s.reg (Key.BR_SHARED b) := State.fuseSync_reg s b (obj_ne_of_sub (by decide))
    have hrole : (s.fuseSync b).role = s.role := (keep_fuseSync s b).same .role rfl
    have hfield : (s.fuseSync b).field = s.field := (keep_fuseSync s b).same .field rfl
    have hshared' : (s.fuseSync b).sharedIn (Key.BR_SHARED b) = true := by
      rw [← hshared]
      unfold State.sharedIn State.flag
      rw [hreg, hrole]
    have hclaim' : (s.fuseSync b).holdsClaim = true := by
      rw [← hclaim]
      unfold State.holdsClaim
      rw [hfield]
    rw [if_pos (by simp [hon, hshared', hclaim'])]
    exact ⟨hlast, htrips⟩
  case ramp =>
    intro s b hramp
    refine ⟨_, rfl, ?_⟩
    rw [if_pos hramp]
    simp [(State.fuseSync_keeps s b).2]
  case backoff =>
    intro s b hhold hhot
    change ∃ t, execBranchBackoffExpiry b s = .next t ∧ _
    unfold execBranchBackoffExpiry
    extract_lets b s1
    rw [if_neg (by simp [b, hhold]), if_neg (by simp [s1, b, hhot])]
    obtain ⟨hhold', -, hstate⟩ := State.fuseRetry_fuse s1 b
    exact ⟨_, rfl, hhold', (State.fuseRetry_lmc s1 b).symm ▸ State.le_lmc_until _ _, hstate⟩
  case half =>
    intro s b hhot
    change ∃ t, execI2tHalfLevelReached b s = .next t ∧ _
    unfold execI2tHalfLevelReached
    extract_lets b f s1
    rw [if_neg (by simp [f, b, hhot])]
    refine ⟨_, rfl, ?_⟩
    split
    · change ((s1.fuseRetry b).fuse b).hot = false
      rw [(State.fuseRetry_fuse s1 b).2.1]
      simp [s1]
    · simp [s1, b]
  case reset =>
    intro s b hon
    change ∃ t, execBranchRetryReset b s = .next t ∧ _
    unfold execBranchRetryReset
    extract_lets s1
    rw [if_neg (by simp [s1, hon])]
    refine ⟨_, rfl, by simp, ?_⟩
    rw [(State.setFuse_clocks _ _ _).1, ← (State.fuseSync_fuse s b).2.2.2.2.1]
    exact State.le_lmc_until _ _
  case clear =>
    intro s w b haccepts hhold
    refine gives_command rfl haccepts Nat.one_ne_zero rfl fun t hquiet => ?_
    rw [State.fuse_congr hquiet.fuses, if_pos hhold, (State.fuseLive_keeps _ _).2, (State.fuseSync_fuse _ _).1,
      (State.fuseSync_fuse _ _).2.1]
    simp
  case enable =>
    intro s w b v haccepts hbudget
    refine gives_write rfl haccepts hbudget fun t hquiet => ⟨hquiet, ?_⟩
    rw [hquiet.reg, State.fuseSync_reg _ _ (obj_ne_of_sub (by decide)), State.store_reg_self _ _ _ (obj_ne_of_sub (by decide))]
  case command =>
    intro s w b v haccepts hquality hbound
    refine gives_write rfl haccepts (orElse_none hquality (by simp [hbound])) fun t hquiet => ?_
    rw [hquiet.reg, State.fuse_congr hquiet.fuses, (State.fuseWord_keeps _ _ _).1,
      State.store_reg_self _ _ _ (obj_ne_of_sub (by decide))]
    exact ⟨rfl, (State.fuseWord_keeps _ _ _).2⟩

end Sys2Proof.Machine
end

section
/-! PROOFS. An update (R496 to R500) and RECOVERY (R502 to R506), O51 and O52. -/

namespace Sys2Proof.Machine

open Sys2Proof

theorem State.setPhase_reg (s : State) (p k : Nat) : (s.setPhase p).reg k = if k = Key.UPD_PHASE then p else s.reg k := by
  unfold State.setPhase
  split
  case isTrue h =>
    split
    case isTrue hk => rw [hk, h]
    case isFalse => rfl
  case isFalse =>
    change (s.setReg Key.UPD_PHASE p).reg k = _
    simp

theorem State.setPhase_boot (s : State) (p : Nat) : (s.setPhase p).boot = s.boot := (keep_setPhase s p).same .boot rfl

theorem State.phaseIn_of_eq {s : State} {p : Nat} {ps : List Nat} (h : s.reg Key.UPD_PHASE = p) (hp : p ∈ ps) : s.phaseIn ps = none := by
  unfold State.phaseIn
  rw [h, if_pos hp]

/-- `phaseIn` refuses with STATE_CONFLICT and with nothing else. -/
theorem State.phaseIn_refuses {s : State} {ps : List Nat} (h : s.phaseIn ps ≠ none) : s.phaseIn ps = some .stateConflict := by
  unfold State.phaseIn at h ⊢
  split
  · simp_all
  · rfl

/-- The clause of a refused write: nothing of the update changed, and the abort code answered. -/
theorem gives_refused {c : Instr} {s : State} {w : Writer} {k : Nat} {a : Abort} (h : exec c s = .next (s.refuse w k a)) :
    Gives c s fun t => t.boot = s.boot ∧ t.regs = s.regs ∧ t.answers = s.answers ++ [⟨w.path, k, some a, []⟩] :=
  gives_next h ⟨State.refuse_boot _ _ _ _, State.refuse_regs _ _ _ _, State.refuse_answers _ _ _ _⟩

theorem exec_updateBegin_on {s : State} {w : Writer} (hon : s.fwOn = true) : exec (.updateBegin w) s =
    .next (s.write w Key.UPD_COMMAND 1 (fun s => s.phaseIn [0, 6]) (fun s => s.stageEmpty.setPhase 1)) := by
  change execUpdateBegin w s = _
  unfold execUpdateBegin
  rw [if_pos hon]

theorem exec_stagingBlockWrite_on {s : State} {w : Writer} {o : Nat} {l : List Byte} (hon : s.fwOn = true) :
    exec (.stagingBlockWrite w o l) s = .next (s.stageBlock w o l) := by
  change execStagingBlockWrite w o l s = _
  unfold execStagingBlockWrite
  rw [if_pos hon]

/-- WRITE refused by the staged header or its digest: the cause is kept and the write refused (R498). -/
theorem exec_updateWrite_bad {s : State} {w : Writer} {good : Bool} {a : Abort} {c : Nat} (hon : s.fwOn = true)
    (haccepts : Accepts s w Key.UPD_COMMAND 2) (hphase : s.reg Key.UPD_PHASE = 1) (hwhole : s.stagedWhole = true)
    (hbad : (if !hdrOk s.stagedHeader || (imageInfo s.stagedHeader).length != s.reg Key.UPD_STAGE_LENGTH then some (.valueRange, 3)
      else if !good then some (.valueRange, 4)
      else if s.reg Key.ID_LOADER_VERSION < (imageInfo s.stagedHeader).loaderMin then some (.versionUnsupported, 5)
      else none) = some (a, c)) :
    exec (.updateWrite w good) s = .next ((s.setReg Key.UPD_LAST_CAUSE c).refuse w Key.UPD_COMMAND a) := by
  change execUpdateWrite w good s = _
  unfold execUpdateWrite
  extract_lets h x bad
  have hb : bad = some (a, c) := hbad
  have hp : s.phaseIn [1] = none := State.phaseIn_of_eq hphase (by simp)
  rw [hon, haccepts.1, hp, hwhole, hb]
  rfl

theorem gives_updateWrite_bad {s : State} {w : Writer} {good : Bool} {a : Abort} {c : Nat}
    (hexec : exec (.updateWrite w good) s = .next ((s.setReg Key.UPD_LAST_CAUSE c).refuse w Key.UPD_COMMAND a)) :
    Gives (.updateWrite w good) s fun t => t.reg Key.UPD_LAST_CAUSE = c ∧ t.boot = s.boot ∧
      t.answers = s.answers ++ [⟨w.path, Key.UPD_COMMAND, some a, []⟩] := by
  refine gives_next hexec ⟨?_, State.refuse_boot _ _ _ _, State.refuse_answers _ _ _ _⟩
  rw [State.reg_congr (State.refuse_regs _ _ _ _)]
  simp

/-- What a WRITE of image `x` that passes its checks starts (R498). -/
def State.imageWriteStarts (x : ImageInfo) (s : State) : State :=
  (({ s with boot := { s.boot with writing := some x } }.setReg Key.UPD_PROGRESS 0).setReg
    Key.UPD_STAGED_VERSION x.version).setReg Key.UPD_PREVIOUS_VERSION s.boot.slot.version |>.setPhase 2

/-- Own check of WRITE: the phase is STAGING and the staging whole. -/
def State.writeCheck (s : State) : Option Abort := (s.phaseIn [1]).or (if s.stagedWhole then none else some .stateConflict)

theorem exec_updateWrite_good {s : State} {w : Writer} (hon : s.fwOn = true) (haccepts : Accepts s w Key.UPD_COMMAND 2)
    (hphase : s.reg Key.UPD_PHASE = 1) (hwhole : s.stagedWhole = true) (hhdr : hdrOk s.stagedHeader = true)
    (hlen : (imageInfo s.stagedHeader).length = s.reg Key.UPD_STAGE_LENGTH)
    (hver : (imageInfo s.stagedHeader).loaderMin ≤ s.reg Key.ID_LOADER_VERSION) :
    exec (.updateWrite w true) s =
      .next (s.write w Key.UPD_COMMAND 2 State.writeCheck (State.imageWriteStarts (imageInfo s.stagedHeader))) := by
  change execUpdateWrite w true s = _
  unfold execUpdateWrite
  extract_lets h x bad
  have hb : bad = none := by simp [bad, x, h, hhdr, hlen, Nat.not_lt.2 hver]
  have hp : s.phaseIn [1] = none := State.phaseIn_of_eq hphase (by simp)
  rw [hon, haccepts.1, hp, hwhole, hb]
  rfl

theorem gives_updateWrite_good {s : State} {w : Writer} (hon : s.fwOn = true) (haccepts : Accepts s w Key.UPD_COMMAND 2)
    (hphase : s.reg Key.UPD_PHASE = 1) (hwhole : s.stagedWhole = true) (hhdr : hdrOk s.stagedHeader = true)
    (hlen : (imageInfo s.stagedHeader).length = s.reg Key.UPD_STAGE_LENGTH)
    (hver : (imageInfo s.stagedHeader).loaderMin ≤ s.reg Key.ID_LOADER_VERSION) : Gives (.updateWrite w true) s fun t =>
      t.reg Key.UPD_PHASE = 2 ∧ t.reg Key.UPD_PROGRESS = 0 ∧ t.boot.writing = some (imageInfo s.stagedHeader) ∧
      t.reg Key.UPD_STAGED_VERSION = (imageInfo s.stagedHeader).version ∧ t.reg Key.UPD_PREVIOUS_VERSION = s.boot.slot.version := by
  have hcheck : s.writeCheck = none := by
    unfold State.writeCheck
    rw [State.phaseIn_of_eq hphase (by simp), hwhole]
    rfl
  refine gives_write (exec_updateWrite_good hon haccepts hphase hwhole hhdr hlen hver) haccepts hcheck fun t hquiet => ?_
  rw [hquiet.reg, hquiet.reg, hquiet.reg, hquiet.reg, hquiet.boot]
  simp [State.imageWriteStarts, State.setPhase_reg, State.setPhase_boot, obj]

theorem exec_sectorWritten_on {s : State} {x : ImageInfo} (hon : s.fwOn = true) (hwriting : s.boot.writing = some x)
    (hphase : s.reg Key.UPD_PHASE = 2) : exec .sectorWritten s =
      .next (if s.reg Key.UPD_PROGRESS + 1 < (x.length + 65535) / 65536 then s.setReg Key.UPD_PROGRESS (s.reg Key.UPD_PROGRESS + 1)
        else { s.setReg Key.UPD_PROGRESS (s.reg Key.UPD_PROGRESS + 1) with
          boot := { s.boot with slot := x, writing := none } }.setPhase 3) := by
  change execSectorWritten s = _
  simp [execSectorWritten, hwriting, hon, hphase]

theorem exec_updateConfirm_on {s : State} {w : Writer} (hon : s.fwOn = true) : exec (.updateConfirm w) s =
    .next (s.write w Key.UPD_COMMAND 3 (fun s => s.phaseIn [5]) (fun s =>
      let s := { s with boot := { s.boot with
        confirm1 := s.boot.slot.digest, confirm2 := s.boot.slot.digest
        copy1 := confirmCopy s.boot.copy1, copy2 := confirmCopy s.boot.copy2 } }
      let s := if s.reg Key.PARAM_MIGRATION = 1 then s.setReg Key.PARAM_MIGRATION 0 else s
      s.setPhase 6)) := by
  change execUpdateConfirm w s = _
  unfold execUpdateConfirm
  rw [if_pos hon]

theorem exec_updateAbort_on {s : State} {w : Writer} (hon : s.fwOn = true) : exec (.updateAbort w) s =
    .next (s.write w Key.UPD_COMMAND 4 (fun s => s.phaseIn [1])
      (fun s => (s.stageEmpty.setPhase 0).setReg Key.UPD_LAST_CAUSE 2)) := by
  change execUpdateAbort w s = _
  unfold execUpdateAbort
  rw [if_pos hon]

/-- What the end of the trial window does: the fault is raised, and noted as raised (R500). -/
def State.trialRaise (s : State) : State :=
  { s with boot := { s.boot with trialRaised := true } }.occur 0x0B3 0 (s.reg Key.UPD_TRIAL_BOOTS)

theorem State.trialRaise_keeps (s : State) : s.trialRaise.boot.trialRaised = true ∧ s.trialRaise.lmc = s.lmc := by
  unfold State.trialRaise
  rw [(keep_occur _ _ _ _).same .boot rfl]
  exact ⟨rfl, State.lmc_congr ((keep_occur _ _ _ _).same .clock rfl)⟩

theorem exec_trialWindowExpiry_running {s : State} (hon : s.fwOn = true) (hphase : s.reg Key.UPD_PHASE = 5)
    (hraised : s.boot.trialRaised = false) : exec .trialWindowExpiry s =
      .next (s.until (s.boot.startedAt + s.reg Key.UPD_TRIAL_MIN * 60000000000)).trialRaise := by
  change execTrialWindowExpiry s = _
  unfold execTrialWindowExpiry
  rw [if_neg (by simp [hon, hphase, hraised])]
  rfl

/-- Settles O51. -/
theorem update : Obligations.Update := by
  unfold Obligations.Update
  refine ⟨?begins, ?beginRefused, ?staged, ?stageRefused, ?badHeader, ?badDigest, ?writes, ?sector, ?last, ?confirm, ?aborts, ?trial, ?trialOnce⟩
  case begins =>
    intro s w hon haccepts hphase
    refine gives_write (exec_updateBegin_on hon) haccepts hphase fun t hquiet => ?_
    rw [hquiet.reg, hquiet.reg, hquiet.boot]
    simp [State.setPhase_reg, State.setPhase_boot, State.stageEmpty, obj]
  case beginRefused =>
    intro s w hon haccepts hphase
    exact gives_refused ((exec_updateBegin_on hon).trans (by rw [write_own_refused haccepts (State.phaseIn_refuses hphase)]))
  case staged =>
    intro s w o l hon haccepts hphase hfits
    refine gives_write (exec_stagingBlockWrite_on hon) haccepts ?_ fun t hquiet => ?_
    · simp [State.phaseIn_of_eq hphase, Nat.not_lt.2 hfits]
    · rw [hquiet.reg, hquiet.boot]
      simp
  case stageRefused =>
    intro s w o l hon haccepts hphase hover
    refine gives_refused ((exec_stagingBlockWrite_on hon).trans ?_)
    unfold State.stageBlock
    rw [write_own_refused haccepts (a := .valueRange) (by simp [State.phaseIn_of_eq hphase, hover])]
  case badHeader =>
    intro s w hon haccepts hphase hwhole hhdr
    exact gives_updateWrite_bad (exec_updateWrite_bad hon haccepts hphase hwhole (by simp [hhdr]))
  case badDigest =>
    intro s w hon haccepts hphase hwhole hhdr hlen
    exact gives_updateWrite_bad (exec_updateWrite_bad hon haccepts hphase hwhole (by simp [hhdr, hlen]))
  case writes =>
    exact fun s w hon haccepts hphase hwhole hhdr hlen hver => gives_updateWrite_good hon haccepts hphase hwhole hhdr hlen hver
  case sector =>
    intro s x hon hwriting hphase hmore
    refine gives_next (exec_sectorWritten_on hon hwriting hphase) ?_
    rw [if_pos hmore]
    refine ⟨by simp, ?_, rfl⟩
    rw [State.reg_setReg, if_neg (by decide)]
    exact hphase
  case last =>
    intro s x hon hwriting hphase hlast
    refine gives_next (exec_sectorWritten_on hon hwriting hphase) ?_
    rw [if_neg (Nat.not_lt.2 hlast)]
    simp [State.setPhase_reg, State.setPhase_boot]
  case confirm =>
    intro s w hon haccepts hphase
    refine gives_write (exec_updateConfirm_on hon) haccepts (State.phaseIn_of_eq hphase (by simp)) fun t hquiet => ?_
    rw [hquiet.reg, hquiet.boot]
    simp only [State.setPhase_reg, State.setPhase_boot, if_true, true_and]
    split <;> exact ⟨rfl, rfl⟩
  case aborts =>
    intro s w hon haccepts hphase
    refine gives_write (exec_updateAbort_on hon) haccepts (State.phaseIn_of_eq hphase (by simp)) fun t hquiet => ?_
    rw [hquiet.reg, hquiet.reg, hquiet.boot]
    simp [State.setPhase_reg, State.setPhase_boot, State.stageEmpty, obj]
  case trial =>
    intro s hon hphase hraised
    refine gives_next (exec_trialWindowExpiry_running hon hphase hraised) ⟨(State.trialRaise_keeps _).1, ?_⟩
    rw [(State.trialRaise_keeps _).2]
    exact State.le_lmc_until s _
  case trialOnce =>
    intro s hraised
    refine ⟨_, rfl, ?_⟩
    rw [if_pos (by simp [hraised])]

theorem exec_enterRecoveryWrite_on {s : State} {w : Writer} {v : Nat} (hon : s.fwOn = true) : exec (.enterRecoveryWrite w v) s =
    .next (s.command w Key.UPD_ENTER_RECOVERY v noCheck (fun s =>
      { s with boot := { s.boot with recover := some 6 }, hub := { s.hub with resetDue := some (s.lmc, .recovery) } })) := by
  change execEnterRecoveryWrite w v s = _
  unfold execEnterRecoveryWrite
  rw [if_pos hon]

theorem exec_recoveryImageBlock_on {s : State} {w : Writer} {o : Nat} {l : List Byte} (hrec : s.inRecovery = true) :
    exec (.recoveryImageBlock w o l) s = .next (s.recoveryBlock w o l) := by
  change execRecoveryImageBlock w o l s = _
  unfold execRecoveryImageBlock
  rw [if_pos hrec]

theorem State.recoveryBlock_of_permit {s : State} {w : Writer} {o : Nat} {l : List Byte} (hlc : s.reg Key.LC_STATE ≠ 4)
    (hpermit : s.permit w Key.RECOVERY_IMAGE 0 = none) : s.recoveryBlock w o l =
      if o % 65536 ≠ 0 ∨ 6291456 < o + l.length ∨ 65536 < l.length then s.refuse w Key.RECOVERY_IMAGE .valueRange
      else if 2 ≤ s.boot.blocks.length then s.refuse w Key.RECOVERY_IMAGE .busy
      else { s with boot := { s.boot with blocks := s.boot.blocks ++ [(w.path, o, l)] } } := by
  unfold State.recoveryBlock
  rw [if_neg hlc, hpermit]

theorem State.reboot_keeps (s : State) : s.reboot.hub.resetDue = some (s.lmc, .update) ∧
    (s.boot.written ≠ 0 → s.reboot.reg Key.UPD_PHASE = 3) := by
  unfold State.reboot
  extract_lets h boot s1 s2
  have hlmc : s2.lmc = s.lmc := by
    simp only [s2]
    split
    · rfl
    · rw [State.lmc_congr ((keep_setPhase _ _).same .clock rfl)]
      simp only [s1]
      split <;> rfl
  refine ⟨by rw [hlmc], fun hwritten => ?_⟩
  change s2.reg Key.UPD_PHASE = 3
  simp only [s2]
  rw [if_neg hwritten, State.setPhase_reg, if_pos rfl]

/-- Settles O52. -/
theorem recovery : Obligations.Recovery := by
  unfold Obligations.Recovery
  refine ⟨?enter, ?scrapped, ?badBlock, ?kept, ?written, ?rebootScrapped, ?reboot, ?badFrame, ?request, ?cancel⟩
  case enter =>
    intro s w hon haccepts
    refine gives_command (exec_enterRecoveryWrite_on hon) haccepts Nat.one_ne_zero rfl fun t hquiet => ?_
    obtain ⟨-, -, -, -, -, hdue, -, -⟩ := hquiet.hub_fields
    rw [hquiet.boot, hdue]
    exact ⟨rfl, rfl⟩
  case scrapped =>
    intro s w o l hrec hlc
    refine gives_next (exec_recoveryImageBlock_on hrec) ?_
    unfold State.recoveryBlock
    rw [if_pos hlc]
    exact ⟨State.refuse_boot _ _ _ _, State.refuse_answers _ _ _ _⟩
  case badBlock =>
    intro s w o l hrec hlc hpermit hbad
    refine gives_next (exec_recoveryImageBlock_on hrec) ?_
    rw [State.recoveryBlock_of_permit hlc hpermit, if_pos hbad]
    exact ⟨State.refuse_boot _ _ _ _, State.refuse_answers _ _ _ _⟩
  case kept =>
    intro s w o l hrec hlc hpermit hoff hend hlen hroom
    refine gives_next (exec_recoveryImageBlock_on hrec) ?_
    rw [State.recoveryBlock_of_permit hlc hpermit, if_neg (by omega), if_neg (by omega)]
    exact ⟨rfl, rfl, rfl⟩
  case written =>
    intro s p o l r hrec hblocks
    refine ⟨_, rfl, ?_⟩
    rw [hblocks]
    dsimp only
    rw [if_neg (by simp [hrec]), State.answer_answers, (quiet_answer _ _ _ _ _ (Quiet.refl _)).boot]
    exact ⟨rfl, rfl, rfl, rfl⟩
  case rebootScrapped =>
    intro s w hrec hlc
    refine ⟨_, rfl, ?_⟩
    rw [hrec, if_neg (by simp), if_pos hlc]
    exact ⟨State.refuse_resetDue _ _ _ _, State.refuse_answers _ _ _ _⟩
  case reboot =>
    intro s w hrec hlc haccepts
    refine gives_write (own := noCheck) (eff := State.reboot) ?_ haccepts rfl fun t hquiet => ?_
    · change execRecoveryReboot w s = _
      simp [execRecoveryReboot, hrec, hlc]
    · obtain ⟨-, -, -, -, -, hdue, -, -⟩ := hquiet.hub_fields
      rw [hdue, hquiet.reg]
      exact State.reboot_keeps s
  case badFrame =>
    intro s b hbody
    refine ⟨s, ?_, rfl⟩
    change execUartFrameReceived b s = _
    unfold execUartFrameReceived
    rw [hbody]
  case request =>
    intro s b d hbody hseg hack hcancel
    refine gives_next ?_ rfl
    change execUartFrameReceived b s = _
    simp [execUartFrameReceived, hbody, hseg, hack, hcancel]
  case cancel =>
    intro s b d hbody hcancel
    change execUartFrameReceived b s = execDictCancel .uart (beAt d 4 2) s
    simp [execUartFrameReceived, hbody, hcancel]

end Sys2Proof.Machine
end

section
/-! PROOFS. The working key and its epochs (R474 to R488), O50. -/

namespace Sys2Proof.Machine

open Sys2Proof

theorem State.flag_iff (s : State) (k : Nat) : s.flag k = true ↔ s.reg k ≠ 0 := by
  unfold State.flag
  exact bne_iff_ne

theorem State.rootInSlot_lc {s : State} (h : s.rootInSlot = true) : s.reg Key.LC_STATE = 2 := by
  unfold State.rootInSlot at h
  simp only [Bool.and_eq_true, beq_iff_eq] at h
  exact h.1

theorem State.keyFound_unslotted {s : State} {b : Bool} (hslot : s.rootInSlot = false) (hlc : s.reg Key.LC_STATE ≠ 4) :
    s.keyFound b = s.setReg Key.KEYED 1 := by
  unfold State.keyFound
  rw [if_neg hlc, hslot]
  rfl

theorem State.keyFound_slotted {s : State} (hslot : s.rootInSlot = true) (hlc : s.reg Key.LC_STATE ≠ 4) (hvalid : s.slotValid 2 = true) :
    s.keyFound true = s.setReg Key.KEYED 1 := by
  unfold State.keyFound
  rw [if_neg hlc, hslot, hvalid]
  rfl

theorem State.keyFound_empty {s : State} {b : Bool} (hslot : s.rootInSlot = true) (hvalid : s.slotValid 2 = false) : s.keyFound b = s := by
  unfold State.keyFound
  rw [if_neg (by rw [State.rootInSlot_lc hslot]; decide), hslot, hvalid]
  rfl

theorem exec_keyLoad_loaded {s : State} {b : Bool} (h : s.keys.loaded = true) : exec (.keyLoad b) s = .next s := by
  change execKeyLoad b s = _
  simp [execKeyLoad, h]

theorem exec_keyLoad_first {s : State} {b : Bool} (hon : s.fwOn = true) (h : s.keys.loaded = false) :
    exec (.keyLoad b) s = .next ((s.until (s.keys.since + 20000000)).keyLoaded.keyFound b) := by
  change execKeyLoad b s = _
  simp [execKeyLoad, hon, h]

/-- The tag floor moved 2 s ahead of FTIME (R480). -/
def State.floorMoved (s : State) : State := s.setReg Key.KEY_TAG_FLOOR (ofSigned 64 (s.ftime + 2000000000))

theorem State.floorMoved_keeps (s : State) : s.floorMoved.ftime = s.ftime ∧
    s.floorMoved.reg Key.KEY_TAG_FLOOR = ofSigned 64 (s.floorMoved.ftime + 2000000000) := by
  simp [State.floorMoved]

theorem exec_tagFloorAdvance_keyed {s : State} (hon : s.fwOn = true) (hkeyed : s.flag Key.KEYED = true) : exec .tagFloorAdvance s =
    .next (s.untilFtime (toSigned 64 (s.reg Key.KEY_TAG_FLOOR) - 1000000000)).floorMoved := by
  change execTagFloorAdvance s = _
  unfold execTagFloorAdvance
  rw [if_neg (by simp [hon, hkeyed])]
  rfl

theorem exec_tagWaitRelease_none {s : State} (h : s.tagHeld = []) : exec .tagWaitRelease s = .next s := by
  change execTagWaitRelease s = _
  unfold execTagWaitRelease
  rw [h]

/-- A waiting frame other than the twin's own leaves when the tag floor and the counters let it (R479, R480). -/
theorem exec_tagWaitRelease_leaves {s : State} {f : Frame} {l : List Frame} (hon : s.logicOn = true) (hheld : s.tagHeld = f :: l)
    (hwaits : s.tagWaits = false) (hfull : s.ivFull false = false) (h7 : f.kind ≠ 7) (h9 : f.kind ≠ 9) :
    exec .tagWaitRelease s = .next (State.originateNow { s with tagHeld := l } f) := by
  have hdomain : (f.kind == 7 || f.kind == 9) = false := by simp [h7, h9]
  change execTagWaitRelease s = _
  unfold execTagWaitRelease
  rw [hheld]
  dsimp only
  rw [hdomain, if_neg (by simp [hon, hwaits, hfull]), if_neg h9]

theorem exec_epochCommit_on {s : State} {w : Writer} {v : Nat} (hon : s.fwOn = true) : exec (.epochCommit w v) s =
    .next (s.command w Key.KEY_EPOCH_COMMIT v
      (fun s => if s.reg Key.KEY_EPOCH_NEXT ≠ (s.epoch + 1) % 256 then some .valueRange
        else if s.tooNear (s.turnNear (s.reg Key.KEY_EPOCH_TURN)) then some .timePassed else none)
      (fun s =>
        let n := s.turnNear (s.reg Key.KEY_EPOCH_TURN)
        let e := s.reg Key.KEY_EPOCH_NEXT
        { s with keys := { s.keys with next := some (e, s.eraOf e, n) } }.setReg Key.KEY_EPOCH_AT (s.turnAt n))) := by
  change execEpochCommit w v s = _
  unfold execEpochCommit
  rw [if_pos hon]

/-- A refused write leaves the keys' epochs and answers its abort code. -/
theorem gives_refused_keys {c : Instr} {s : State} {w : Writer} {k : Nat} {a : Abort} (h : exec c s = .next (s.refuse w k a)) :
    Gives c s fun t => t.keys.next = s.keys.next ∧ t.keys.root = s.keys.root ∧ t.regs = s.regs ∧
      t.answers = s.answers ++ [⟨w.path, k, some a, []⟩] := by
  obtain ⟨-, hnext, hroot, -, -, -, -, -, -⟩ := (refuse_quiet s w k a).keys_fields
  exact gives_next h ⟨hnext, hroot, State.refuse_regs _ _ _ _, State.refuse_answers _ _ _ _⟩

theorem gives_epochCommit_stale {s : State} {w : Writer} (hon : s.fwOn = true) (haccepts : Accepts s w Key.KEY_EPOCH_COMMIT 1)
    (hnext : s.reg Key.KEY_EPOCH_NEXT ≠ (s.epoch + 1) % 256) : Gives (.epochCommit w 1) s fun t =>
      t.keys.next = s.keys.next ∧ t.regs = s.regs ∧ t.answers = s.answers ++ [⟨w.path, Key.KEY_EPOCH_COMMIT, some .valueRange, []⟩] := by
  obtain ⟨t, hexec, hkeys, -, hregs, hanswers⟩ := gives_refused_keys (s := s) (w := w) (k := Key.KEY_EPOCH_COMMIT) (a := .valueRange)
    ((exec_epochCommit_on hon).trans (by
      unfold State.command
      rw [if_neg Nat.one_ne_zero, write_own_refused haccepts (if_pos hnext)]))
  exact ⟨t, hexec, hkeys, hregs, hanswers⟩

theorem gives_epochCommit_next {s : State} {w : Writer} {n : Nat} (hon : s.fwOn = true) (haccepts : Accepts s w Key.KEY_EPOCH_COMMIT 1)
    (hnext : s.reg Key.KEY_EPOCH_NEXT = (s.epoch + 1) % 256) (hn : n = s.turnNear (s.reg Key.KEY_EPOCH_TURN))
    (hnear : s.tooNear n = false) : Gives (.epochCommit w 1) s fun t =>
      t.keys.next = some ((s.epoch + 1) % 256, s.eraOf ((s.epoch + 1) % 256), n) ∧ t.reg Key.KEY_EPOCH_AT = s.turnAt n := by
  subst hn
  refine gives_command (exec_epochCommit_on hon) haccepts Nat.one_ne_zero (by simp [hnext, hnear]) fun t hquiet => ?_
  obtain ⟨-, hkeys, -⟩ := hquiet.keys_fields
  rw [hkeys, hquiet.reg, hnext]
  simp

theorem exec_epochRollover_none {s : State} (h : s.keys.next = none) : exec .epochRollover s = .next s := by
  change execEpochRollover s = _
  unfold execEpochRollover
  rw [h]

/-- The committed epoch in force: its key, its boundary shown, and the publication rate the root wants (R483). -/
def State.rolledOver (s : State) (x : Nat × Nat × Nat) : State :=
  let s := { s with keys := { s.keys with next := none } }
  let s := ((s.newKey x.1 x.2.1 x.2.2).setReg Key.KEY_EPOCH_AT 0).setReg Key.KEY_EPOCH_TURN (x.2.2 % 2 ^ 32)
  let want := s.wantedExp
  if s.img.exp.any (fun k => decide (k < want)) then { s with img := { s.img with exp := some want } }.setReg Key.IMG_RING_TURN_EXP want
  else s

theorem State.rolledOver_reg (s : State) (x : Nat × Nat × Nat) :
    (s.rolledOver x).reg Key.KEY_EPOCH_AT = 0 ∧ (s.rolledOver x).reg Key.KEY_EPOCH_TURN = x.2.2 % 2 ^ 32 := by
  unfold State.rolledOver
  extract_lets keys s1 s2 want
  have h2 : s2.reg Key.KEY_EPOCH_AT = 0 ∧ s2.reg Key.KEY_EPOCH_TURN = x.2.2 % 2 ^ 32 := by simp [s2, obj]
  split
  · rw [State.reg_setReg, if_neg (by decide), State.reg_setReg, if_neg (by decide)]
    exact h2
  · exact h2

theorem exec_epochRollover_due {s : State} {x : Nat × Nat × Nat} (hon : s.fwOn = true) (h : s.keys.next = some x) :
    exec .epochRollover s = .next ((s.untilFtime (s.turnAt x.2.2)).rolledOver x) := by
  change execEpochRollover s = _
  unfold execEpochRollover
  rw [h]
  dsimp only
  rw [if_neg (by simp [hon])]
  rfl

theorem exec_keyEpochAge_keyed {s : State} (hon : s.fwOn = true) (hkeyed : s.flag Key.KEYED = true) : exec .keyEpochAge s =
    .next ((s.untilFtime (s.turnAt (s.keys.epochTurn + 2 ^ 30))).faultUp 0x0A3 0 16384) := by
  change execKeyEpochAge s = _
  unfold execKeyEpochAge
  rw [if_neg (by simp [hon, hkeyed])]

theorem exec_epochAgeZeroise_keyed {s : State} (hon : s.fwOn = true) (hkeyed : s.flag Key.KEYED = true) : exec .epochAgeZeroise s =
    .next ((s.untilFtime (s.turnAt (s.keys.epochTurn + 2 ^ 31))).zeroise s.rootSlot) := by
  change execEpochAgeZeroise s = _
  unfold execEpochAgeZeroise
  rw [if_neg (by simp [hon, hkeyed])]

theorem State.zeroise_unkeyed {s : State} (n : Nat) (h : s.flag Key.KEYED = false) : s.zeroise n = s := by
  unfold State.zeroise
  rw [h]
  rfl

/-- Zeroisation clears KEYED and notes when the key was lost; the fault it raises and the hand-over it proposes leave both (R487). -/
theorem State.zeroise_keyed {s : State} (n : Nat) (h : s.flag Key.KEYED = true) :
    (s.zeroise n).reg Key.KEYED = 0 ∧ (s.zeroise n).lmc = s.lmc ∧ (s.zeroise n).keys.lostAt = some s.lmc := by
  unfold State.zeroise
  rw [if_neg (by simp [h])]
  extract_lets s1 keys s2 s3
  have h3 : Calm s2 s3 := calm_occur s2 _ _ _ (Calm.refl s2)
  have h4 : Calm s2 (if s3.authRequired = true ∧ s3.role = .active then s3.propose 7 else s3) := calm_ite (calm_propose s3 7 h3) h3
  obtain ⟨-, -, -, -, -, -, hlost, -, -⟩ := h4.keys_fields
  obtain ⟨-, hclock, -⟩ := h4.fields
  rw [h4.reg (by decide), State.lmc_congr hclock, hlost]
  refine ⟨?_, rfl, rfl⟩
  change s1.reg Key.KEYED = 0
  simp [s1]

theorem exec_keyLossSafe_due {s : State} {a : Nat} (hon : s.fwOn = true) (hlost : s.keys.lostAt = some a) (hrole : s.role = .active)
    (hauth : s.authRequired = true) : exec .keyLossSafe s =
      .next (State.enterSafe { s.until (a + s.reg Key.PWR_HOLD_TIME_MS * 1000000) with
        keys := { (s.until (a + s.reg Key.PWR_HOLD_TIME_MS * 1000000)).keys with lostAt := none } } 2) := by
  change execKeyLossSafe s = _
  unfold execKeyLossSafe
  rw [hlost]
  dsimp only
  rw [if_neg (by rw [hon, hrole, hauth]; decide)]

theorem State.enterSafe_forgot (s : State) (cause : Nat) :
    (State.enterSafe { s with keys := { s.keys with lostAt := none } } cause).keys.lostAt = none ∧
    (State.enterSafe { s with keys := { s.keys with lostAt := none } } cause).lmc = s.lmc := by
  have h := calm_enterSafe _ cause (Calm.refl { s with keys := { s.keys with lostAt := none } })
  obtain ⟨-, -, -, -, -, -, hlost, -, -⟩ := h.keys_fields
  obtain ⟨-, hclock, -⟩ := h.fields
  exact ⟨hlost, State.lmc_congr hclock⟩

theorem exec_attestRequest_on {s : State} {w : Writer} {v : Nat} (hon : s.fwOn = true) : exec (.attestRequest w v) s =
    .next (s.write w Key.ATTEST_REQUEST v
      (fun s => if s.slotValid (octAt 33 v 0 1) && s.slotValid 0 then none else some .stateConflict)
      (fun s => { s with keys := { s.keys with attest := some (octAt 33 v 0 1, beBytes 32 v, s.lmc) } })) := by
  change execAttestRequest w v s = _
  unfold execAttestRequest
  extract_lets slot
  rw [if_pos hon]

theorem mod_two_pow_lt (x n : Nat) : x % 2 ^ n < 2 ^ n := Nat.mod_lt _ (Nat.two_pow_pos n)

theorem gives_attestComplete {s : State} {x : Nat × List Byte × Nat} (hon : s.fwOn = true) (h : s.keys.attest = some x) :
    Gives .attestComplete s fun t => t.keys.attest = none ∧ t.reg Key.ATT_SIGNATURE < 2 ^ 512 ∧ t.lmc = s.lmc := by
  change ∃ t, execAttestComplete s = .next t ∧ _
  unfold execAttestComplete
  rw [h]
  dsimp only
  rw [if_neg (by simp [hon])]
  refine ⟨_, rfl, rfl, ?_, ?_⟩
  · rw [State.reg_setReg, if_pos rfl]
    exact mod_two_pow_lt _ 512
  · rw [(State.setReg_clocks _ _ _).1, (State.setReg_clocks _ _ _).1]
    rfl

theorem exec_countersignKeyWrite_on {s : State} {w : Writer} {v : Nat} {good : Bool} (hon : s.fwOn = true) :
    exec (.countersignKeyWrite w v good) s = .next (s.write w Key.KEY_COUNTERSIGN_KEY v
      (fun s => if good && s.slotValid 3 then none else some .authFail) (fun s => s.slotFill 4)) := by
  change execCountersignKeyWrite w v good s = _
  unfold execCountersignKeyWrite
  rw [if_pos hon]

theorem exec_zeroiseWrite_on {s : State} {w : Writer} {v : Nat} (hon : s.fwOn = true) : exec (.zeroiseWrite w v) s =
    .next (s.command w Key.KEY_ZEROISE v noCheck (fun s => s.zeroise s.rootSlot)) := by
  change execZeroiseWrite w v s = _
  unfold execZeroiseWrite
  rw [if_pos hon]

/-- Settles O50. -/
theorem keys : Obligations.Keys := by
  unfold Obligations.Keys
  refine ⟨?loaded, ?first, ?unslotted, ?slotted, ?emptySlot, ?floor, ?noWait, ?leaves, ?stale, ?commit, ?noNext, ?rollover, ?age,
    ?ageZeroise, ?unkeyed, ?zeroised, ?zeroiseWrite, ?lossSafe, ?attest, ?attested, ?countersign, ?badCountersign⟩
  case loaded => exact fun s b h => gives_next (exec_keyLoad_loaded h) rfl
  case first => exact fun s b hon h => gives_next (exec_keyLoad_first hon h) rfl
  case unslotted =>
    intro s b hslot hlc
    rw [State.keyFound_unslotted hslot hlc]
    simp
  case slotted =>
    intro s hslot hlc hvalid
    rw [State.keyFound_slotted hslot hlc hvalid]
    simp
  case emptySlot => exact fun s b hslot hvalid => State.keyFound_empty hslot hvalid
  case floor =>
    intro s hon hkeyed
    refine gives_next (exec_tagFloorAdvance_keyed hon hkeyed) ⟨?_, (State.floorMoved_keeps _).2⟩
    rw [(State.floorMoved_keeps _).1]
    exact State.le_ftime_untilFtime _ _
  case noWait => exact fun s h => gives_next (exec_tagWaitRelease_none h) rfl
  case leaves =>
    exact fun s f l hon hheld hwaits hfull h7 h9 => gives_next (exec_tagWaitRelease_leaves hon hheld hwaits hfull h7 h9) rfl
  case stale => exact fun s w hon haccepts hnext => gives_epochCommit_stale hon haccepts hnext
  case commit => exact fun s w n hon haccepts hnext hn hnear => gives_epochCommit_next hon haccepts hnext hn hnear
  case noNext => exact fun s h => gives_next (exec_epochRollover_none h) rfl
  case rollover => exact fun s x hon h => gives_next (exec_epochRollover_due hon h) (State.rolledOver_reg _ x)
  case age => exact fun s hon hkeyed => gives_next (exec_keyEpochAge_keyed hon hkeyed) rfl
  case ageZeroise => exact fun s hon hkeyed => gives_next (exec_epochAgeZeroise_keyed hon hkeyed) rfl
  case unkeyed => exact fun s n h => State.zeroise_unkeyed n h
  case zeroised => exact fun s n h => State.zeroise_keyed n h
  case zeroiseWrite =>
    intro s w hon haccepts
    refine gives_next (exec_zeroiseWrite_on hon) ?_
    unfold State.command
    rw [if_neg Nat.one_ne_zero, write_accepted haccepts rfl]
  case lossSafe =>
    intro s a hon hlost hrole hauth
    refine gives_next (exec_keyLossSafe_due hon hlost hrole hauth) ⟨(State.enterSafe_forgot _ _).1, ?_⟩
    rw [(State.enterSafe_forgot _ _).2]
    exact State.le_lmc_until _ _
  case attest =>
    intro s w v hon haccepts hslot hidentity
    refine gives_write (exec_attestRequest_on hon) haccepts (by simp [hslot, hidentity]) fun t hquiet => ?_
    obtain ⟨-, -, -, -, -, -, -, -, hattest⟩ := hquiet.keys_fields
    exact hattest
  case attested => exact fun s x hon h => gives_attestComplete hon h
  case countersign =>
    intro s w v hon haccepts hslot
    refine gives_next (exec_countersignKeyWrite_on hon) ?_
    rw [write_accepted haccepts (by simp [hslot])]
  case badCountersign =>
    intro s w v hon haccepts
    obtain ⟨t, hexec, -, -, hregs, hanswers⟩ := gives_refused_keys (s := s) (w := w) (k := Key.KEY_COUNTERSIGN_KEY) (a := .authFail)
      ((exec_countersignKeyWrite_on (good := false) hon).trans (by rw [write_own_refused haccepts (a := .authFail) rfl]))
    exact ⟨t, hexec, hregs, hanswers⟩

end Sys2Proof.Machine
end

section
/-! PROOFS. The life cycle (R469 to R473), O49. -/

namespace Sys2Proof.Machine

open Sys2Proof

theorem State.slotFill_reg (s : State) (i : Nat) {k : Nat} (hk : k ≠ Key.KEY_SLOTS) : (s.slotFill i).reg k = s.reg k := by
  unfold State.slotFill
  split
  · rfl
  · rw [State.reg_setReg, if_neg hk]

theorem State.slotErase_reg (s : State) (i : Nat) {k : Nat} (hk : k ≠ Key.KEY_SLOTS) : (s.slotErase i).reg k = s.reg k := by
  unfold State.slotErase
  rw [State.reg_setReg, if_neg hk]

theorem State.slotErase_valid (s : State) (i j : Nat) : (s.slotErase i).slotValid j = (decide (i ≠ j) && s.slotValid j) := by
  unfold State.slotErase State.slotValid
  rw [State.reg_setReg, if_pos rfl]
  by_cases h : i = j
  · subst h
    simp
  · simp [h, bitOf_setBit_ne h]

theorem State.freshKey_reg (s : State) {k j : Nat} (hk : j ≠ k) : (s.freshKey k).reg j = s.reg j := by
  unfold State.freshKey
  exact (State.reg_setReg _ _ _ _).trans (if_neg hk)

/-- A transition whose kind the life-cycle state does not allow is refused before anything else is looked at (R357). -/
theorem State.transition_denied {s : State} {w : Writer} {k v lc : Nat} {good : Bool} {keys : State → State} (hv : v < 2 ^ 2080)
    (hlife : lifeAllows k (s.reg Key.LC_STATE) = false) :
    s.transition w k v good lc keys = s.refuse w Key.LC_TRANSITION .lifecycleDenied := by
  unfold State.transition
  rw [if_pos ⟨hv, by rw [hlife]; rfl⟩]

theorem State.transition_allowed {s : State} {w : Writer} {k v lc : Nat} {good : Bool} {keys : State → State}
    (hlife : lifeAllows k (s.reg Key.LC_STATE) = true) : s.transition w k v good lc keys =
      s.write w Key.LC_TRANSITION v (trCheck w k v good) (fun s => s.stages k lc keys) := by
  unfold State.transition
  rw [if_neg (by rw [hlife]; simp)]

theorem gives_transition_denied {c : Instr} {s : State} {w : Writer} {k v lc : Nat} {good : Bool} {keys : State → State}
    (hexec : exec c s = .next (if s.fwOn then s.transition w k v good lc keys else s)) (hon : s.fwOn = true) (hv : v < 2 ^ 2080)
    (hlife : lifeAllows k (s.reg Key.LC_STATE) = false) : Gives c s fun t => t.regs = s.regs ∧ t.keys.root = s.keys.root ∧
      t.answers = s.answers ++ [⟨w.path, Key.LC_TRANSITION, some .lifecycleDenied, []⟩] := by
  obtain ⟨t, ht, -, hroot, hregs, hanswers⟩ := gives_refused_keys (s := s) (w := w) (k := Key.LC_TRANSITION) (a := .lifecycleDenied)
    (hexec.trans (by rw [if_pos hon, State.transition_denied hv hlife]))
  exact ⟨t, ht, hregs, hroot, hanswers⟩

/-- A transition that passes its checks: the life-cycle state written first, then the keys; the log entries of its stages are
signalled to nobody else (R471). -/
theorem gives_transition {c : Instr} {s : State} {w : Writer} {k v lc : Nat} {good : Bool} {keys : State → State} {P : State → Prop}
    (hexec : exec c s = .next (if s.fwOn then s.transition w k v good lc keys else s)) (hon : s.fwOn = true)
    (hlife : lifeAllows k (s.reg Key.LC_STATE) = true) (haccepts : Accepts s w Key.LC_TRANSITION v)
    (hcheck : trCheck w k v good s = none)
    (hP : ∀ u t, Quiet (s.setReg Key.LC_STATE lc) u → Quiet (keys u) t → P t) : Gives c s P := by
  refine gives_write (hexec.trans (by rw [if_pos hon, State.transition_allowed hlife])) haccepts hcheck fun t hquiet => ?_
  unfold State.stages at hquiet
  extract_lets entry s1 s2 at hquiet
  exact hP s1 t (quiet_logRecord _ _ _ (Quiet.refl _)) (Quiet.trans (quiet_logRecord _ _ _ (quiet_logRecord _ _ _ (Quiet.refl _))) hquiet)

theorem exec_transitionForge (s : State) (w : Writer) (v : Nat) (g : Bool) : exec (.transitionForge w v g) s =
    .next (if s.fwOn then s.transition w 1 v g 1 (fun s =>
      let s := ((s.slotFill 0).slotFill 1).freshKey Key.ATT_IDENTITY_PUB
      let s := s.freshKey Key.ATT_TRANSPORT_PUB
      let (x, s) := s.fresh
      s.setReg Key.ATT_IDENTITY_CERT (x % 2 ^ 8192)) else s) := rfl

theorem exec_transitionTake (s : State) (w : Writer) (v : Nat) (g : Bool) : exec (.transitionTake w v g) s =
    .next (if s.fwOn then s.transition w 2 v g 2 (fun s => s.pendRoot 2 v) else s) := rfl

theorem exec_transitionTransfer (s : State) (w : Writer) (v : Nat) (g : Bool) : exec (.transitionTransfer w v g) s =
    .next (if s.fwOn then s.transition w 3 v g 2 (fun s => s.pendRoot 3 v) else s) := rfl

theorem exec_transitionReturn (s : State) (w : Writer) (v : Nat) (g : Bool) : exec (.transitionReturn w v g) s =
    .next (if s.fwOn then s.transition w 4 v g 3 (fun s => (((s.slotErase 2).slotErase 3).slotErase 4).zeroise 2) else s) := rfl

/-- What SCRAP does to the keys: every slot erased, no root pending, the working key zeroised (R472). -/
def State.scrapKeys (slot : Nat) (s : State) : State :=
  let s := (List.range 16).foldl State.slotErase s
  ({ s with keys := { s.keys with root := none } }.setReg Key.LC_PENDING_TURN 0).zeroise slot

theorem exec_transitionScrap (s : State) (w : Writer) (v : Nat) (g : Bool) : exec (.transitionScrap w v g) s =
    .next (if s.fwOn then s.transition w 5 v g 4 (State.scrapKeys s.rootSlot) else s) := rfl

theorem lifeAllows_ne {k n lc : Nat} (h : lc ≠ n) (hk : (k = 1 ∧ n = 0) ∨ (k = 2 ∧ n = 1) ∨ (k = 3 ∧ n = 2) ∨ (k = 4 ∧ n = 2)) :
    lifeAllows k lc = false := by
  rcases hk with ⟨rfl, rfl⟩ | ⟨rfl, rfl⟩ | ⟨rfl, rfl⟩ | ⟨rfl, rfl⟩ <;> simp [lifeAllows, h]

theorem lifeAllows_scrap (lc : Nat) : lifeAllows 5 lc = decide (lc < 4) := by simp [lifeAllows]

/-- A root that waits for its turn (R473): what it is, and the turn shown. -/
theorem State.pendRoot_keeps (s : State) (k v : Nat) : (s.pendRoot k v).reg Key.LC_STATE = s.reg Key.LC_STATE ∧
    (s.pendRoot k v).keys.root = some (k, s.turnNear (trTurn v), trEpoch v, trEra v) ∧
    (s.pendRoot k v).reg Key.LC_PENDING_TURN = trTurn v := by
  refine ⟨?_, rfl, ?_⟩
  · unfold State.pendRoot
    rw [State.reg_setReg, if_neg (by decide)]
    change ((s.slotFill 5).slotFill 2).reg Key.LC_STATE = _
    rw [State.slotFill_reg _ _ (by decide), State.slotFill_reg _ _ (by decide)]
  · unfold State.pendRoot
    rw [State.reg_setReg, if_pos rfl]

theorem State.turnNear_congr {s t : State} (himg : t.img = s.img) (hft : t.ftimeQ = s.ftimeQ)
    (hexp : t.reg Key.IMG_TURN_PERIOD_EXP = s.reg Key.IMG_TURN_PERIOD_EXP) : t.turnNear = s.turnNear := by
  unfold State.turnNear State.turnFull State.turnNow State.now State.turnT State.turnExp State.ftime
  rw [himg, hft, hexp]

/-- TAKE and TRANSFER leave the hub DEPLOYED with the new root pending. -/
theorem gives_rootPends {c : Instr} {s : State} {w : Writer} {k v : Nat} {good : Bool}
    (hexec : exec c s = .next (if s.fwOn then s.transition w k v good 2 (fun s => s.pendRoot k v) else s)) (hon : s.fwOn = true)
    (hlife : lifeAllows k (s.reg Key.LC_STATE) = true) (haccepts : Accepts s w Key.LC_TRANSITION v)
    (hcheck : trCheck w k v good s = none) : Gives c s fun t => t.reg Key.LC_STATE = 2 ∧
      t.keys.root = some (k, s.turnNear (trTurn v), trEpoch v, trEra v) ∧ t.reg Key.LC_PENDING_TURN = trTurn v := by
  refine gives_transition hexec hon hlife haccepts hcheck fun u t hu ht => ?_
  obtain ⟨hlc, hroot, hturn⟩ := State.pendRoot_keeps u k v
  obtain ⟨-, -, htroot, -⟩ := ht.keys_fields
  have hnear : u.turnNear = s.turnNear := by
    refine (State.turnNear_congr (t := u) (s := s.setReg Key.LC_STATE 2) ?_ ?_ ?_).trans ?_
    · exact (congrArg State.img (show u.silent = _ from hu) :)
    · exact (congrArg State.ftimeQ (show u.silent = _ from hu) :)
    · exact hu.reg _
    · exact State.turnNear_congr rfl rfl (by rw [State.reg_setReg, if_neg (by decide)])
  rw [ht.reg, ht.reg, htroot, hlc, hroot, hturn, hu.reg, hnear]
  simp

theorem gives_transitionForge_done {s : State} {w : Writer} {v : Nat} {g : Bool} (hon : s.fwOn = true) (hlc : s.reg Key.LC_STATE = 0)
    (haccepts : Accepts s w Key.LC_TRANSITION v) (hcheck : trCheck w 1 v g s = none) :
    Gives (.transitionForge w v g) s fun t => t.reg Key.LC_STATE = 1 := by
  refine gives_transition (exec_transitionForge s w v g) hon (by rw [hlc]; decide) haccepts hcheck fun u t hu ht => ?_
  rw [ht.reg]
  refine (State.reg_setReg _ _ _ _).trans ((if_neg (by decide)).trans ?_)
  change (((((u.slotFill 0).slotFill 1).freshKey Key.ATT_IDENTITY_PUB).freshKey Key.ATT_TRANSPORT_PUB)).reg Key.LC_STATE = 1
  rw [State.freshKey_reg _ (by decide), State.freshKey_reg _ (by decide), State.slotFill_reg _ _ (by decide),
    State.slotFill_reg _ _ (by decide), hu.reg]
  simp

theorem State.flag_congr {s t : State} {k : Nat} (h : t.reg k = s.reg k) : t.flag k = s.flag k := by
  unfold State.flag
  rw [h]

theorem State.slotValid_congr {s t : State} (h : t.reg Key.KEY_SLOTS = s.reg Key.KEY_SLOTS) (i : Nat) : t.slotValid i = s.slotValid i := by
  unfold State.slotValid
  rw [h]

theorem gives_transitionReturn_done {s : State} {w : Writer} {v : Nat} {g : Bool} (hon : s.fwOn = true) (hlc : s.reg Key.LC_STATE = 2)
    (haccepts : Accepts s w Key.LC_TRANSITION v) (hcheck : trCheck w 4 v g s = none) (hkeyed : s.flag Key.KEYED = false) :
    Gives (.transitionReturn w v g) s fun t => t.reg Key.LC_STATE = 3 ∧
      t.slotValid 2 = false ∧ t.slotValid 3 = false ∧ t.slotValid 4 = false := by
  refine gives_transition (exec_transitionReturn s w v g) hon (by rw [hlc]; decide) haccepts hcheck fun u t hu ht => ?_
  have herase : ∀ k : Nat, k ≠ Key.KEY_SLOTS → (((u.slotErase 2).slotErase 3).slotErase 4).reg k = u.reg k := fun k hk => by
    rw [State.slotErase_reg _ _ hk, State.slotErase_reg _ _ hk, State.slotErase_reg _ _ hk]
  have hflag : (((u.slotErase 2).slotErase 3).slotErase 4).flag Key.KEYED = false := by
    rw [State.flag_congr (herase _ (by decide)), State.flag_congr (hu.reg Key.KEYED), ← hkeyed]
    exact State.flag_congr (by rw [State.reg_setReg, if_neg (by decide)])
  rw [State.zeroise_unkeyed 2 hflag] at ht
  rw [ht.reg, herase _ (by decide), hu.reg, State.slotValid_congr (ht.reg _), State.slotValid_congr (ht.reg _),
    State.slotValid_congr (ht.reg _)]
  simp [State.slotErase_valid]

theorem State.foldl_slotErase_keeps (l : List Nat) (s : State) : (l.foldl State.slotErase s).keys = s.keys ∧
    ∀ k : Nat, k ≠ Key.KEY_SLOTS → (l.foldl State.slotErase s).reg k = s.reg k := by
  induction l generalizing s with
  | nil => exact ⟨rfl, fun _ _ => rfl⟩
  | cons i l ih =>
    obtain ⟨hkeys, hreg⟩ := ih (s.slotErase i)
    exact ⟨hkeys, fun k hk => (hreg k hk).trans (State.slotErase_reg s i hk)⟩

theorem State.scrapKeys_unkeyed {s : State} (slot : Nat) (h : s.flag Key.KEYED = false) :
    (s.scrapKeys slot).reg Key.LC_STATE = s.reg Key.LC_STATE ∧ (s.scrapKeys slot).keys.root = none ∧
    (s.scrapKeys slot).reg Key.LC_PENDING_TURN = 0 := by
  unfold State.scrapKeys
  extract_lets s1 keys
  have hreg : ∀ k : Nat, k ≠ Key.KEY_SLOTS → s1.reg k = s.reg k := (State.foldl_slotErase_keeps _ s).2
  clear_value s1
  have hflag : ({ s1 with keys := { keys with root := none } }.setReg Key.LC_PENDING_TURN 0).flag Key.KEYED = false := by
    rw [← h]
    refine State.flag_congr ?_
    rw [State.reg_setReg, if_neg (by decide)]
    exact hreg _ (by decide)
  rw [State.zeroise_unkeyed slot hflag]
  refine ⟨?_, rfl, by simp⟩
  rw [State.reg_setReg, if_neg (by decide)]
  exact hreg _ (by decide)

theorem gives_transitionScrap_done {s : State} {w : Writer} {v : Nat} {g : Bool} (hon : s.fwOn = true) (hlc : s.reg Key.LC_STATE < 4)
    (haccepts : Accepts s w Key.LC_TRANSITION v) (hcheck : trCheck w 5 v g s = none) (hkeyed : s.flag Key.KEYED = false) :
    Gives (.transitionScrap w v g) s fun t => t.reg Key.LC_STATE = 4 ∧ t.keys.root = none ∧ t.reg Key.LC_PENDING_TURN = 0 := by
  refine gives_transition (exec_transitionScrap s w v g) hon (by rw [lifeAllows_scrap]; exact decide_eq_true hlc) haccepts hcheck
    fun u t hu ht => ?_
  have hflag : u.flag Key.KEYED = false := by
    rw [State.flag_congr (hu.reg Key.KEYED), ← hkeyed]
    exact State.flag_congr (by rw [State.reg_setReg, if_neg (by decide)])
  obtain ⟨hstate, hroot, hturn⟩ := State.scrapKeys_unkeyed s.rootSlot hflag
  obtain ⟨-, -, htroot, -⟩ := ht.keys_fields
  rw [ht.reg, ht.reg, htroot, hstate, hroot, hturn, hu.reg]
  simp

theorem exec_rootTakeover_none {s : State} (h : s.keys.root = none) : exec .rootTakeover s = .next s := by
  change execRootTakeover s = _
  unfold execRootTakeover
  rw [h]

/-- The pending root in force (R473). -/
def State.rootTaken (s : State) (r : Nat × Nat × Nat × Nat) : State :=
  let s := { s with keys := { s.keys with root := none, lostAt := none, loaded := true } }
  let s := ((s.slotFill 3).slotErase 5).setReg Key.LC_PENDING_TURN 0
  let s := s.newKey r.2.2.1 r.2.2.2 r.2.1
  let s := if s.keys.next.isNone then s.setReg Key.KEY_EPOCH_TURN (r.2.1 % 2 ^ 32) else s
  s.setReg Key.KEYED (b2n (s.slotValid 2))

theorem exec_rootTakeover_due {s : State} {r : Nat × Nat × Nat × Nat} (hon : s.fwOn = true) (h : s.keys.root = some r) :
    exec .rootTakeover s = .next ((s.untilFtime (s.turnAt r.2.1)).rootTaken r) := by
  change execRootTakeover s = _
  unfold execRootTakeover
  rw [h]
  dsimp only
  rw [if_neg (by simp [hon])]
  rfl

theorem State.newKey_reg (s : State) (e era n : Nat) {k : Nat} (hera : k ≠ Key.KEY_EPOCH_ERA) (hfloor : k ≠ Key.KEY_TAG_FLOOR) :
    (s.newKey e era n).reg k = s.reg k := by
  unfold State.newKey
  rw [State.reg_congr ((keep_faultDown _ _).same .regs rfl), State.reg_setReg, if_neg hfloor, State.reg_setReg, if_neg hera]
  rfl

theorem State.newKey_root (s : State) (e era n : Nat) : (s.newKey e era n).keys.root = s.keys.root ∧
    (s.newKey e era n).keys.lostAt = s.keys.lostAt := by
  unfold State.newKey
  rw [(keep_faultDown _ _).same .keys rfl]
  exact ⟨rfl, rfl⟩

theorem State.rootTaken_keeps (s : State) (r : Nat × Nat × Nat × Nat) : (s.rootTaken r).keys.root = none ∧
    (s.rootTaken r).keys.lostAt = none ∧ (s.rootTaken r).flag Key.KEYED = (s.rootTaken r).slotValid 2 ∧
    (s.rootTaken r).reg Key.LC_PENDING_TURN = 0 ∧ (s.rootTaken r).slotValid 5 = false := by
  unfold State.rootTaken
  extract_lets keys s1 s2 s3 s4
  have h2 : s2.keys = s1.keys := by
    simp only [s2, State.slotErase, State.setReg_fields, State.slotFill]
    split <;> rfl
  have hkeys : s4.keys.root = none ∧ s4.keys.lostAt = none := by
    have h3 : s3.keys.root = none ∧ s3.keys.lostAt = none := by
      obtain ⟨hroot, hlost⟩ := State.newKey_root s2 r.2.2.1 r.2.2.2 r.2.1
      rw [hroot, hlost, h2]
      exact ⟨rfl, rfl⟩
    simp only [s4]
    split <;> exact h3
  have hreg : ∀ k : Nat, k ≠ Key.KEY_EPOCH_TURN → k ≠ Key.KEY_EPOCH_ERA → k ≠ Key.KEY_TAG_FLOOR → s4.reg k = s2.reg k := by
    intro k hturn hera hfloor
    have h3 : s3.reg k = s2.reg k := State.newKey_reg _ _ _ _ hera hfloor
    simp only [s4]
    split
    · rw [State.reg_setReg, if_neg hturn, h3]
    · exact h3
  have hslot : ∀ i, (s4.setReg Key.KEYED (b2n (s4.slotValid 2))).slotValid i = s4.slotValid i := fun i =>
    State.slotValid_congr (by rw [State.reg_setReg, if_neg (by decide)]) i
  refine ⟨hkeys.1, hkeys.2, ?_, ?_, ?_⟩
  · rw [hslot]
    unfold State.flag
    rw [State.reg_setReg, if_pos rfl]
    cases s4.slotValid 2 <;> rfl
  · rw [State.reg_setReg, if_neg (by decide), hreg _ (by decide) (by decide) (by decide)]
    simp [s2]
  · rw [hslot, State.slotValid_congr (hreg _ (by decide) (by decide) (by decide))]
    have herase : s2.slotValid 5 = ((s1.slotFill 3).slotErase 5).slotValid 5 :=
      State.slotValid_congr (by rw [State.reg_setReg, if_neg (by decide)]) 5
    rw [herase, State.slotErase_valid]
    simp

/-- Settles O49. -/
theorem lifeCycle : Obligations.LifeCycle := by
  unfold Obligations.LifeCycle
  refine ⟨?forgeDenied, ?takeDenied, ?transferDenied, ?returnDenied, ?scrapDenied, ?forge, ?take, ?transfer, ?back, ?scrap, ?noRoot, ?root⟩
  case forgeDenied =>
    exact fun s w v g hon hv hlc => gives_transition_denied (exec_transitionForge s w v g) hon hv (lifeAllows_ne hlc (by simp))
  case takeDenied =>
    exact fun s w v g hon hv hlc => gives_transition_denied (exec_transitionTake s w v g) hon hv (lifeAllows_ne hlc (by simp))
  case transferDenied =>
    exact fun s w v g hon hv hlc => gives_transition_denied (exec_transitionTransfer s w v g) hon hv (lifeAllows_ne hlc (by simp))
  case returnDenied =>
    exact fun s w v g hon hv hlc => gives_transition_denied (exec_transitionReturn s w v g) hon hv (lifeAllows_ne hlc (by simp))
  case scrapDenied =>
    exact fun s w v g hon hv hlc => gives_transition_denied (exec_transitionScrap s w v g) hon hv
      (by rw [lifeAllows_scrap]; exact decide_eq_false (Nat.not_lt.2 hlc))
  case forge => exact fun s w v g hon hlc haccepts hcheck => gives_transitionForge_done hon hlc haccepts hcheck
  case take =>
    exact fun s w v g hon hlc haccepts hcheck =>
      gives_rootPends (exec_transitionTake s w v g) hon (by rw [hlc]; decide) haccepts hcheck
  case transfer =>
    exact fun s w v g hon hlc haccepts hcheck =>
      gives_rootPends (exec_transitionTransfer s w v g) hon (by rw [hlc]; decide) haccepts hcheck
  case back => exact fun s w v g hon hlc haccepts hcheck hkeyed => gives_transitionReturn_done hon hlc haccepts hcheck hkeyed
  case scrap => exact fun s w v g hon hlc haccepts hcheck hkeyed => gives_transitionScrap_done hon hlc haccepts hcheck hkeyed
  case noRoot => exact fun s h => gives_next (exec_rootTakeover_none h) rfl
  case root => exact fun s r hon h => gives_next (exec_rootTakeover_due hon h) (State.rootTaken_keeps _ r)

end Sys2Proof.Machine
end

section
/-! PROOFS. Writes and their refusal (R7 to R11, R357), O40. -/

namespace Sys2Proof.Machine

open Sys2Proof

theorem State.permit_readOnly {s : State} {w : Writer} {k v : Nat} {r : ObjRow} (hrow : objRow k = some r)
    (haccess : r.access = .ro ∨ r.access = .const) : s.permit w k v = some .readOnly := by
  unfold State.permit
  rw [hrow]
  dsimp only
  rcases haccess with h | h <;> rw [h]

/-- The role is looked at before the hub state (R9). -/
theorem State.permit_roleDenied {s : State} {w : Writer} {k v : Nat} {r : ObjRow} {role : Role} {m : Nat} {d : Bool}
    (hrow : objRow k = some r) (haccess : r.access = .rw role m d) (hrec : s.inRecovery = false) (hsize : v < 2 ^ (8 * r.size))
    (hdenied : s.denied k v = none) (hpath : w.path ≠ .peer) (hrole : s.roleOk w role = false) :
    s.permit w k v = some .roleDenied := by
  unfold State.permit
  rw [hrow]
  dsimp only
  rw [haccess]
  simp [hrec, Nat.not_le.2 hsize, hdenied, hpath, hrole]

theorem write_permit_refused {s : State} {w : Writer} {k v : Nat} {a : Abort} {own : State → Option Abort} {eff : State → State}
    (h : s.permit w k v = some a) : s.write w k v own eff = s.refuse w k a := by
  unfold State.write
  rw [h]

theorem write_range_refused {s : State} {w : Writer} {k v : Nat} {a : Abort} {own : State → Option Abort} {eff : State → State}
    (hpermit : s.permit w k v = none) (hrange : rangeCheck k v = some a) : s.write w k v own eff = s.refuse w k a := by
  unfold State.write
  rw [hpermit, hrange]

/-- A refusal leaves every object, line and queue, and counts once, up to the greatest count (R10). -/
theorem State.refuse_keeps (s : State) (w : Writer) (k : Nat) (a : Abort) : (s.refuse w k a).regs = s.regs ∧
    (s.refuse w k a).lines = s.lines ∧ (s.refuse w k a).queues = s.queues ∧ (s.refuse w k a).sw = s.sw ∧
    (s.refuse w k a).rejections k = min (s.rejections k + 1) 0xFFFFFFFF ∧
    (s.refuse w k a).answers = s.answers ++ [⟨w.path, k, some a, []⟩] := by
  have h : (s.refuse w k a).silent = _ := refuse_quiet s w k a
  refine ⟨State.refuse_regs _ _ _ _, (congrArg State.lines h :), (congrArg State.queues h :), (congrArg State.sw h :), ?_,
    State.refuse_answers _ _ _ _⟩
  unfold State.refuse State.rejections
  rw [cellGet_cellSet, if_pos rfl]

/-- Settles O40. -/
theorem writesAndRefusals : Obligations.WritesAndRefusals := by
  unfold Obligations.WritesAndRefusals
  refine ⟨?readOnly, ?role, ?permit, ?range, ?refused, ?object, ?bar0, ?outside0, ?outside4⟩
  case readOnly => exact fun s w k v r hrow haccess => State.permit_readOnly hrow haccess
  case role =>
    exact fun s w k v r role m d hrow haccess hrec hsize hdenied hpath hrole =>
      State.permit_roleDenied hrow haccess hrec hsize hdenied hpath hrole
  case permit => exact fun s w k v a own eff h => write_permit_refused h
  case range => exact fun s w k v a own eff hpermit hrange => write_range_refused hpermit hrange
  case refused => exact fun s w k a => State.refuse_keeps s w k a
  case object => exact fun s w k v => ⟨_, rfl, rfl⟩
  case bar0 =>
    intro s w v hon
    refine ⟨(if s.logicOn then s.bar0Write 0x408 (v % 2 ^ 32) else s), rfl, ?_⟩
    have hwrite : s.bar0Write 0x408 (v % 2 ^ 32) = s.setBar 0x408 (v % 65536) := by
      simp [State.bar0Write, State.mailboxWrite]
    rw [if_pos hon, hwrite]
    exact ⟨by simp, rfl⟩
  case outside0 => exact fun s w o v ho => if_pos ho
  case outside4 => exact fun s w o v ho => if_pos ho

end Sys2Proof.Machine
end

section
/-! PROOFS. Fences (R389 to R396), O42. -/

namespace Sys2Proof.Machine

open Sys2Proof

/-- FENCE_SLOT lies in an object of its own. -/
theorem fenceSlot_ne_pending (j : Nat) : Key.FENCE_SLOT j ≠ Key.FENCE_PENDING := by
  simp only [obj]
  omega

theorem State.originate_quiet (s : State) (f : Frame) : Quiet s (s.originate f) := quiet_originate s f (Quiet.refl s)

/-- An accepted issue, whatever the kind: its slot is pending and counted; what it sends besides leaves both (R390). -/
theorem gives_fenceIssue {c : Instr} {s : State} {w : Writer} {kind ticket : Nat} {eff : State → State}
    (hexec : exec c s = .next (if s.fwOn then s.fenceIssue w kind ticket eff else s)) (hon : s.fwOn = true)
    (haccepts : Accepts s w Key.FENCE_ISSUE (kind * 2 ^ 28 + ticket)) (hcheck : fenceCheck kind ticket s = none)
    (heff : ∀ u, Quiet u (eff u)) : Gives c s fun t =>
      t.reg (Key.FENCE_SLOT s.fenceSlot) = kind * 2 ^ 28 + 2 ^ 24 + ticket ∧
      t.reg Key.FENCE_PENDING = s.reg Key.FENCE_PENDING + 1 ∧ t.count Key.FENCE_ISSUED = s.count Key.FENCE_ISSUED + 1 := by
  refine gives_write (hexec.trans (by rw [if_pos hon]; rfl)) haccepts hcheck fun t hquiet => ?_
  have h := Quiet.trans (heff _) hquiet
  rw [h.reg, h.reg, h.count (by decide)]
  refine ⟨?_, ?_, ?_⟩
  · simp only [State.bump_readers, State.reg_setReg]
    rw [if_neg (fenceSlot_ne_pending _), if_true]
  · simp only [State.bump_readers, State.reg_setReg, if_true]
    rw [if_neg (fenceSlot_ne_pending _).symm]
    rfl
  · simp only [State.count_bump, if_true, State.setReg_readers]
    rfl

theorem exec_fenceLocalDone (s : State) (i : Fin 16) : exec (.fenceLocalDone i) s =
    .next (if s.logicOn && s.fenceTurn i && s.fenceKind i == 1 && s.markersPassed i then s.fenceDone i 0 else s) := rfl

theorem exec_fenceRingReturn_found {s : State} {x : Fin 65536} {i : Nat} (hon : s.logicOn = true)
    (hfind : s.fencesPending.find? (fun i => s.fenceKind i == 4 && s.fenceTicket i == x.val) = some i) (hturn : s.fenceTurn i = true) :
    exec (.fenceRingReturn x) s = .next (s.fenceDone i 0) := by
  change execFenceRingReturn x s = _
  unfold execFenceRingReturn
  rw [if_neg (by simp [hon]), hfind]
  dsimp only
  rw [if_pos hturn]

/-- A completed fence before its event is raised: its slot, the number pending, its place among those done (R395). -/
def State.fenceShown (s : State) (i result : Nat) : State :=
  let s1 := s.setReg (Key.FENCE_SLOT i) (s.fenceKind i * 2 ^ 28 + (2 + result) * 2 ^ 24 + s.fenceTicket i)
  let s2 := s1.setReg Key.FENCE_PENDING (s1.reg Key.FENCE_PENDING - 1)
  let s3 := { s2 with fences := cellSet (fun _ => {}) s2.fences i { s2.fence i with doneOrder := s2.fenceOrder }
                      fenceOrder := s2.fenceOrder + 1 }
  if result = 1 then s3.bump Key.FENCE_TIMEOUTS else s3

theorem State.fence_put (s : State) (i : Nat) (x : FenceSt) (n : Nat) :
    State.fence { s with fences := cellSet (fun _ => {}) s.fences i x, fenceOrder := n } i = x := by
  unfold State.fence
  rw [cellGet_cellSet, if_pos rfl]

theorem State.fenceShown_keeps (s : State) (i r : Nat) : (s.fenceShown i r).reg (Key.FENCE_SLOT i) =
      s.fenceKind i * 2 ^ 28 + (2 + r) * 2 ^ 24 + s.fenceTicket i ∧
    (s.fenceShown i r).reg Key.FENCE_PENDING = s.reg Key.FENCE_PENDING - 1 ∧
    ((s.fenceShown i r).fence i).doneOrder = s.fenceOrder := by
  unfold State.fenceShown
  extract_lets s1 s2 f s3
  have h4 : (if r = 1 then s3.bump Key.FENCE_TIMEOUTS else s3).reg = s2.reg := State.reg_congr (by split <;> rfl)
  have h5 : (if r = 1 then s3.bump Key.FENCE_TIMEOUTS else s3).fence = s3.fence := State.fence_congr (by split <;> rfl)
  rw [h4, h5]
  refine ⟨?_, ?_, ?_⟩
  · rw [State.reg_setReg, if_neg (fenceSlot_ne_pending i), State.reg_setReg, if_pos rfl]
  · rw [State.reg_setReg, if_pos rfl, State.reg_setReg, if_neg (fenceSlot_ne_pending i).symm]
  · have horder : s2.fenceOrder = s.fenceOrder := by simp only [s2, s1, State.setReg_fields]
    rw [← horder]
    exact congrArg FenceSt.doneOrder (State.fence_put s2 i _ _)

theorem State.fenceDone_of_kind {s : State} {i r : Nat} (hkind : s.fenceKind i ≠ 2) : s.fenceDone i r =
    (s.fenceShown i r).raise 1 (s.fenceTicket i * 2 ^ 48 + s.fenceKind i * 2 ^ 44 + r * 2 ^ 40) := by
  unfold State.fenceDone State.fenceShown
  simp only [if_neg hkind]

theorem State.fenceDone_keeps {s : State} {i r : Nat} (hkind : s.fenceKind i ≠ 2) : (s.fenceDone i r).reg (Key.FENCE_SLOT i) =
      s.fenceKind i * 2 ^ 28 + (2 + r) * 2 ^ 24 + s.fenceTicket i ∧
    (s.fenceDone i r).reg Key.FENCE_PENDING = s.reg Key.FENCE_PENDING - 1 ∧ ((s.fenceDone i r).fence i).doneOrder = s.fenceOrder := by
  rw [State.fenceDone_of_kind hkind, State.raise_reg, State.fence_congr ((keep_raise _ _ _).same .fences rfl)]
  exact State.fenceShown_keeps s i r

/-- Settles O42. -/
theorem fences : Obligations.Fences := by
  unfold Obligations.Fences
  refine ⟨?localIssue, ?imageIssue, ?tableIssue, ?ringIssue, ?localDone, ?localWaits, ?imageDone, ?tableDone, ?ringDone, ?timeout, ?done⟩
  case localIssue => exact fun s w x hon haccepts hcheck => gives_fenceIssue rfl hon haccepts hcheck Quiet.refl
  case imageIssue => exact fun s w x hon haccepts hcheck => gives_fenceIssue rfl hon haccepts hcheck Quiet.refl
  case tableIssue => exact fun s w x hon haccepts hcheck => gives_fenceIssue rfl hon haccepts hcheck Quiet.refl
  case ringIssue =>
    intro s w x hon haccepts hcheck
    obtain ⟨t, hexec, hslot, hpending, -⟩ :=
      gives_fenceIssue (c := .fenceIssueRing w x) rfl hon haccepts hcheck fun u => State.originate_quiet u _
    exact ⟨t, hexec, hslot, hpending⟩
  case localDone =>
    intro s i hon hturn hkind hmarkers
    refine gives_next (exec_fenceLocalDone s i) ?_
    rw [if_pos (by simp [hon, hturn, hkind, hmarkers])]
  case localWaits =>
    intro s i hon hturn hkind hmarkers
    refine gives_next (exec_fenceLocalDone s i) ?_
    rw [if_neg (by simp [hmarkers])]
  case imageDone =>
    intro s i hon hturn hkind hwaits
    refine ⟨_, rfl, ?_⟩
    rw [if_pos (by simp [hon, hturn, hkind, hwaits])]
  case tableDone =>
    intro s i hon hturn hkind hinside
    refine ⟨_, rfl, ?_⟩
    rw [if_pos (by simp [hon, hturn, hkind, hinside])]
  case ringDone => exact fun s x i hon hfind hturn => gives_next (exec_fenceRingReturn_found hon hfind hturn) rfl
  case timeout =>
    intro s i hon hturn
    refine ⟨_, rfl, ?_⟩
    rw [if_pos (by simp [hon, hturn])]
  case done => exact fun s i r hkind _ => State.fenceDone_keeps hkind

end Sys2Proof.Machine
end

section
/-! PROOFS. The host's mailbox, snapshots and watchdog (R122, R132, R133, R366 to R370, R383), O38. -/

namespace Sys2Proof.Machine

open Sys2Proof

/-- The end of a mailbox transaction: DONE with its abort code and the response, and vector 0 (R367). -/
theorem State.mailboxDone_keeps (s : State) (abort : Nat) (resp : List Byte) : (s.mailboxDone abort resp).host.mbx = none ∧
    (s.mailboxDone abort resp).bar 0x404 = 2 ^ 30 + abort ∧ (s.mailboxDone abort resp).host.respBytes = resp ∧
    (s.mailboxDone abort resp).msix = s.msix ++ [0] := by
  unfold State.mailboxDone
  generalize 2 ^ 30 + abort = status
  have hbar : ((s.setBar 0x404 status).setBar 0x40C resp.length).bar 0x404 = status := by
    rw [State.bar_setBar, if_neg (by decide), State.bar_setBar, if_pos rfl]
  exact ⟨rfl, hbar, rfl, rfl⟩

theorem exec_mailboxGo_on {s : State} {v : Fin 2048} {b : List Byte} (hon : s.logicOn = true) :
    exec (.mailboxGo v b) s = .next (s.mailboxGo v b) := by
  change execMailboxGo v b s = _
  unfold execMailboxGo
  rw [if_pos hon]

theorem State.mailboxGo_busy {s : State} {v : Nat} {b : List Byte} (h : s.host.mbx.isSome = true) :
    s.mailboxGo v b = s.bump Key.HOST_MBX_IGNORED := by
  unfold State.mailboxGo
  rw [if_pos h]

/-- The state in which GO leaves the mailbox, BUSY with the transaction `run` (R366). -/
def State.mailboxBusy (s : State) (run : MbxRun) : State :=
  { s.setBar 0x404 (2 ^ 31) with host := { s.host with mbx := some run } }

/-- The state a GO of `v` octets is taken in: the length noted, the core awake. -/
def State.mailboxTaken (s : State) (v : Nat) : State := (s.setBar 0x400 v).coreTouch

/-- The request a GO of `v` octets takes from the buffer, with the host's client number put in. -/
def State.mailboxRequest (s : State) (v : Nat) : List Byte :=
  (bytesAt s.host.reqBytes 0 v).take 2 ++ beBytes 1 (s.reg Key.ACCESS_HOST_CLIENT * 16) ++ (bytesAt s.host.reqBytes 0 v).drop 3

theorem State.coreTouch_host (s : State) : s.coreTouch.host = s.host := (keep_coreTouch s).same .host rfl
theorem State.coreTouch_msix (s : State) : s.coreTouch.msix = s.msix := (keep_coreTouch s).same .msix rfl
theorem State.coreTouch_bar (s : State) (o : Nat) : s.coreTouch.bar o = s.bar o :=
  congrFun (State.bar_congr ((keep_coreTouch s).same .bar0 rfl)) o

theorem State.mailboxTaken_host (s : State) (v : Nat) : (s.mailboxTaken v).host = s.host := State.coreTouch_host _
theorem State.mailboxTaken_msix (s : State) (v : Nat) : (s.mailboxTaken v).msix = s.msix := State.coreTouch_msix _

/-- The transaction a GO of `v` octets starts from the state it is taken in. -/
def State.mailboxRun (s : State) (v : Nat) : MbxRun where
  req := s.mailboxRequest v
  dest := if s.bar 0x408 == 0 || s.bar 0x408 == s.station then 0 else s.bar 0x408
  startedAt := s.lmc
  seen := s.answers.length

/-- GO with a free mailbox, by the length and the destination (R366). -/
theorem State.mailboxGo_free {s : State} {v : Nat} (b : List Byte) (hfree : s.host.mbx = none) (hv : v < 2048) :
    s.mailboxGo v b =
      let t := s.mailboxTaken v
      let u := t.mailboxBusy (t.mailboxRun v)
      if v < 20 ∨ 1044 < v then u.mailboxDone Abort.valueRange.code (respond (t.mailboxRequest v) (some .valueRange) [])
      else if t.bar 0x408 == 0 || t.bar 0x408 == t.station then
        u.ownRequest (reqOf .mailbox (t.mailboxRequest v)) (beAt (t.mailboxRequest v) 0 1 % 16) (some b)
      else u.mailboxRemote (t.mailboxRequest v) (t.bar 0x408) b := by
  unfold State.mailboxGo
  rw [if_neg (by simp [hfree]), Nat.mod_eq_of_lt hv]
  rfl

theorem State.mailboxTaken_bar (s : State) (v : Nat) : (s.mailboxTaken v).bar 0x408 = s.bar 0x408 :=
  (State.coreTouch_bar _ _).trans (by rw [State.bar_setBar, if_neg (by decide)])

theorem State.coreTouch_station (s : State) : s.coreTouch.station = s.station := by
  unfold State.coreTouch
  have hreg : (if s.coreAwake then s else (s.setReg Key.PWS_CORE_STATE 0).bump Key.PWS_CORE_WAKES).station = s.station := by
    split
    · rfl
    · unfold State.station
      exact (State.reg_setReg s Key.PWS_CORE_STATE Key.ADDR_STATION 0).trans (if_neg (by decide))
  exact hreg

theorem State.mailboxTaken_station (s : State) (v : Nat) : (s.mailboxTaken v).station = s.station := State.coreTouch_station _

/-- A READ or WRITE of another station leaves in one frame (R366). -/
theorem State.mailboxRemote_single {s : State} {req b : List Byte} {dest : Nat} (hop : beAt req 0 1 % 16 = 1) :
    s.mailboxRemote req dest b =
      s.originate { kind := 3, prio := 3, dest := dest, tagged := s.flag Key.KEYED, payload := req } := by
  unfold State.mailboxRemote
  simp [hop]

theorem beAt_first {p q : List Byte} (h : p.take 1 = q.take 1) : beAt p 0 1 = beAt q 0 1 := by
  unfold beAt
  simp only [List.drop_zero, h]

theorem bytesAt_length (b : List Byte) (o n : Nat) : (bytesAt b o n).length = n := by
  unfold bytesAt
  simp only [List.length_append, List.length_take, List.length_drop, List.length_replicate]
  omega

/-- The client number goes into the third octet; the operation is in the first. -/
theorem State.mailboxRequest_op {s : State} {v : Nat} (hv : 20 ≤ v) :
    beAt (s.mailboxRequest v) 0 1 = beAt (bytesAt s.host.reqBytes 0 v) 0 1 := by
  have hlen : (bytesAt s.host.reqBytes 0 v).length = v := bytesAt_length _ _ _
  apply beAt_first
  unfold State.mailboxRequest
  rw [List.append_assoc, List.take_append_of_le_length (by rw [List.length_take]; omega), List.take_take]
  rfl

theorem gives_mailboxGo_badLength {s : State} {v : Fin 2048} {b : List Byte} (hon : s.logicOn = true) (hfree : s.host.mbx = none)
    (hlen : v.val < 20 ∨ 1044 < v.val) : Gives (.mailboxGo v b) s fun t =>
      t.host.mbx = none ∧ t.bar 0x404 = 2 ^ 30 + Abort.valueRange.code ∧ t.msix = s.msix ++ [0] := by
  refine gives_next (exec_mailboxGo_on hon) ?_
  rw [State.mailboxGo_free b hfree v.isLt]
  dsimp only
  rw [if_pos hlen]
  obtain ⟨hmbx, hbar, -, hmsix⟩ := State.mailboxDone_keeps ((s.mailboxTaken v).mailboxBusy ((s.mailboxTaken v).mailboxRun v))
    Abort.valueRange.code (respond ((s.mailboxTaken v).mailboxRequest v) (some .valueRange) [])
  exact ⟨hmbx, hbar, hmsix.trans (congrArg (· ++ [0]) (s.mailboxTaken_msix v))⟩

theorem State.mailboxBusy_bar (s : State) (run : MbxRun) : (s.mailboxBusy run).bar 0x404 = 2 ^ 31 := by
  have hset : (s.setBar 0x404 (2 ^ 31)).bar 0x404 = 2 ^ 31 := by rw [State.bar_setBar, if_pos rfl]
  exact hset

theorem gives_mailboxGo_remote {s : State} {v : Fin 2048} {b : List Byte} (hon : s.logicOn = true) (hfree : s.host.mbx = none)
    (hlow : 20 ≤ v.val) (hhigh : v.val ≤ 1044) (hdest : s.bar 0x408 ≠ 0) (hother : s.bar 0x408 ≠ s.station)
    (hop : beAt (bytesAt s.host.reqBytes 0 v) 0 1 % 16 = 1) : Gives (.mailboxGo v b) s fun t =>
      t.host.mbx.map MbxRun.dest = some (s.bar 0x408) ∧ t.bar 0x404 = 2 ^ 31 ∧ t.msix = s.msix := by
  refine gives_next (exec_mailboxGo_on hon) ?_
  have hop' : beAt ((s.mailboxTaken v).mailboxRequest v) 0 1 % 16 = 1 := by
    rw [State.mailboxRequest_op hlow, State.mailboxTaken_host, hop]
  rw [State.mailboxGo_free b hfree v.isLt]
  have hremote : ((s.mailboxTaken v).bar 0x408 == 0 || (s.mailboxTaken v).bar 0x408 == (s.mailboxTaken v).station) = false := by
    rw [State.mailboxTaken_bar, State.mailboxTaken_station]
    simp [hdest, hother]
  dsimp only
  rw [if_neg (by omega), hremote, if_neg Bool.false_ne_true, State.mailboxRemote_single hop']
  generalize hrun : (s.mailboxTaken v).mailboxRun v = run
  have hdst : run.dest = s.bar 0x408 := by
    rw [← hrun, ← State.mailboxTaken_bar s v]
    unfold State.mailboxRun
    rw [hremote]
    rfl
  generalize ((s.mailboxTaken v).mailboxBusy run).flag Key.KEYED = tagged
  have horig (f : Frame) := keep_originate ((s.mailboxTaken v).mailboxBusy run) f
  refine ⟨?_, ?_, ?_⟩
  · rw [show (State.originate _ _).host = _ from (horig _).same .host rfl, ← hdst]
    rfl
  · rw [State.bar_congr ((horig _).same .bar0 rfl), State.mailboxBusy_bar]
  · exact ((horig _).same .msix rfl).trans (s.mailboxTaken_msix v)

/-- What the firmware's own answers and the timeout end a transaction with (R367). -/
theorem exec_mailboxResponse_own {s : State} {f : Fin 4} {fr : Frame} {m : MbxRun} {a : Answer} (hon : s.logicOn = true)
    (hrun : s.host.mbx = some m) (hown : m.dest = 0)
    (hanswer : (s.answers.drop m.seen).find? (fun a => decide (a.path = .mailbox)) = some a) :
    exec (.mailboxResponse f fr) s = .next (s.mailboxDone ((a.abort.map Abort.code).getD 0) (respond m.req a.abort a.data)) := by
  change execMailboxResponse f fr s = _
  unfold execMailboxResponse
  simp only [hrun, hon, hown, hanswer, Bool.not_true, Bool.false_eq_true, if_false, if_true]

theorem exec_mailboxTimeout_on {s : State} {m : MbxRun} (hon : s.logicOn = true) (hrun : s.host.mbx = some m) :
    exec .mailboxTimeout s =
      .next (((s.until (m.startedAt + s.bar 0x41C * 1000000)).mailboxDone Abort.timeout.code []).bump Key.DICT_TIMEOUTS) := by
  change execMailboxTimeout s = _
  unfold execMailboxTimeout
  simp only [hrun, hon, Bool.not_true, Bool.false_eq_true, if_false]

theorem gives_mailboxTimeout {s : State} {m : MbxRun} (hon : s.logicOn = true) (hrun : s.host.mbx = some m) :
    Gives .mailboxTimeout s fun t => m.startedAt + s.bar 0x41C * 1000000 ≤ t.lmc ∧ t.host.mbx = none ∧
      t.bar 0x404 = 2 ^ 30 + Abort.timeout.code ∧ t.msix = s.msix ++ [0] := by
  refine gives_next (exec_mailboxTimeout_on hon hrun) ?_
  generalize m.startedAt + s.bar 0x41C * 1000000 = due
  have hbump (u : State) : (u.bump Key.DICT_TIMEOUTS).lmc = u.lmc ∧ (u.bump Key.DICT_TIMEOUTS).host = u.host ∧
      (u.bump Key.DICT_TIMEOUTS).bar = u.bar ∧ (u.bump Key.DICT_TIMEOUTS).msix = u.msix := ⟨rfl, rfl, rfl, rfl⟩
  have hdone : ((s.until due).mailboxDone Abort.timeout.code []).lmc = (s.until due).lmc :=
    State.lmc_congr ((keep_mailboxDone _ _ _).same .clock rfl)
  obtain ⟨hlmc, hhost, hbars, hmsixs⟩ := hbump ((s.until due).mailboxDone Abort.timeout.code [])
  rw [hlmc, hhost, hbars, hmsixs, hdone]
  obtain ⟨hmbx, hbar, -, hmsix⟩ := State.mailboxDone_keeps (s.until due) Abort.timeout.code []
  exact ⟨State.le_lmc_until s due, hmbx, hbar, hmsix.trans (congrArg (· ++ [0]) ((keep_until s due).same .msix rfl))⟩

theorem gives_mailboxDoneClear {s : State} (hon : s.logicOn = true) :
    Gives .mailboxDoneClear s fun t => bitOf (t.bar 0x404) 30 = false := by
  have hexec : exec .mailboxDoneClear s = .next (s.setBar 0x404 (setBit (s.bar 0x404) 30 false)) := by
    change execMailboxDoneClear s = _
    unfold execMailboxDoneClear
    rw [if_pos hon]
  refine gives_next hexec ?_
  rw [State.bar_setBar, if_pos rfl, bitOf_setBit_same]

theorem gives_snapshotGo_busy {s : State} {v : Nat} (hon : s.logicOn = true) (hbusy : s.host.snap.isSome = true) :
    Gives (.snapshotGo v) s fun t => t = s.bump Key.HOST_SNAP_IGNORED := by
  refine ⟨_, ?_, rfl⟩
  change execSnapshotGo v s = _
  unfold execSnapshotGo
  simp [hon, hbusy]

/-- The state a snapshot of `n` + 1 objects from object `a` runs in (R370). -/
def State.snapshotBusy (s : State) (a n word status : Nat) : State :=
  { (s.setBar 0x200 word).setBar 0x204 status with host := { (s.setBar 0x200 word).host with snap := some (a, n + 1) } }

theorem State.snapshotBusy_keeps (s : State) (a n word status : Nat) :
    (s.snapshotBusy a n word status).host.snap = some (a, n + 1) ∧ (s.snapshotBusy a n word status).bar 0x204 = status := by
  have hset (u : State) : (u.setBar 0x204 status).bar 0x204 = status := by rw [State.bar_setBar, if_pos rfl]
  exact ⟨rfl, hset _⟩

theorem gives_snapshotGo {s : State} {v : Nat} (hon : s.logicOn = true) (hfree : s.host.snap = none)
    (hrange : fld v 19 0 + fld v 27 24 < 2 ^ 20) : Gives (.snapshotGo v) s fun t =>
      t.host.snap = some (fld v 19 0, fld v 27 24 + 1) ∧ t.bar 0x204 = 2 ^ 31 + s.bar 0x204 % 65536 := by
  have hbusy (a n word status : Nat) : { (s.setBar 0x200 word).setBar 0x204 status with
      host := { (s.setBar 0x200 word).host with snap := some (a, n + 1) } } = s.snapshotBusy a n word status := rfl
  have hexec : exec (.snapshotGo v) s = .next (s.snapshotBusy (fld v 19 0) (fld v 27 24)
      (fld v 27 24 * 2 ^ 24 + fld v 19 0) (2 ^ 31 + s.bar 0x204 % 65536)) := by
    change execSnapshotGo v s = _
    unfold execSnapshotGo
    dsimp only
    have hstatus (word : Nat) : (s.setBar 0x200 word).bar 0x204 = s.bar 0x204 := by
      rw [State.bar_setBar, if_neg (by decide)]
    rw [if_neg (by simp [hon]), if_neg (by simp [hfree]), if_neg (Nat.not_le.mpr hrange), hstatus]
    exact congrArg Host.Outcome.next (hbusy _ _ _ _)
  exact gives_next hexec (State.snapshotBusy_keeps s _ _ _ _)

/-- A read of a low half gives its value and latches the high half (R132, R133). -/
theorem State.latch_busRead (s : State) (o i hi lo : Nat) : ((s.setBar o hi).busRead 0 i lo).bar o = hi ∧
    ((s.setBar o hi).busRead 0 i lo).busReads = s.busReads ++ [⟨0, i, lo⟩] ∧ ((s.setBar o hi).busRead 0 i lo).regs = s.regs := by
  have hset : (s.setBar o hi).bar o = hi := by rw [State.bar_setBar, if_pos rfl]
  exact ⟨hset, rfl, rfl⟩

theorem gives_ftimeLoRead {s : State} (hon : s.logicOn = true) : Gives .ftimeLoRead s fun t =>
    t.bar 0x14 = ofSigned 64 s.ftime / 2 ^ 32 ∧
      t.busReads = s.busReads ++ [⟨0, 0x10, ofSigned 64 s.ftime % 2 ^ 32⟩] ∧ t.regs = s.regs := by
  have hexec : exec .ftimeLoRead s =
      .next ((s.setBar 0x14 (ofSigned 64 s.ftime / 2 ^ 32)).busRead 0 0x10 (ofSigned 64 s.ftime % 2 ^ 32)) := by
    change execFtimeLoRead s = _
    unfold execFtimeLoRead
    dsimp only
    rw [if_pos hon]
  exact gives_next hexec (State.latch_busRead s _ _ _ _)

theorem gives_lmcLoRead {s : State} (hon : s.logicOn = true) : Gives .lmcLoRead s fun t =>
    t.bar 0x1C = s.lmc % 2 ^ 64 / 2 ^ 32 ∧ t.busReads = s.busReads ++ [⟨0, 0x18, s.lmc % 2 ^ 64 % 2 ^ 32⟩] ∧ t.regs = s.regs := by
  have hexec : exec .lmcLoRead s = .next ((s.setBar 0x1C (s.lmc % 2 ^ 64 / 2 ^ 32)).busRead 0 0x18 (s.lmc % 2 ^ 64 % 2 ^ 32)) := by
    change execLmcLoRead s = _
    unfold execLmcLoRead
    dsimp only
    rw [if_pos hon]
  exact gives_next hexec (State.latch_busRead s _ _ _ _)

theorem gives_watchdogKick {s : State} (hon : s.logicOn = true) :
    Gives .watchdogKick s fun t => t.host.kickAt = some s.lmc ∧ t.bar0 = s.bar0 := by
  have hexec : exec .watchdogKick s = .next { s with host := { s.host with kickAt := some s.lmc } } := by
    change execWatchdogKick s = _
    unfold execWatchdogKick
    rw [if_pos hon]
  exact gives_next hexec ⟨rfl, rfl⟩

/-- The state a write of the control word is judged in, the watchdog started with its enable bit. -/
def State.hostArmed (s : State) (v : Nat) : State :=
  if bitOf v 2 && !bitOf (s.bar 0x24) 2 then { s with host := { s.host with kickAt := some s.lmc } } else s

/-- What follows the write of the control word: the events' targets move with HOST_READY (R383). -/
def State.hostFollow (s : State) (was : Bool) : State :=
  if was && !s.hostReady then s.hostUnready else if !was && s.hostReady then s.settle else s

theorem State.hostControl_eq (s : State) (v : Nat) :
    s.hostControl v = ((s.hostArmed v).setBar 0x24 (v % 8)).hostFollow s.hostReady := rfl

theorem State.hostFollow_keeps (s : State) (was : Bool) : (s.hostFollow was).bar0 = s.bar0 ∧ (s.hostFollow was).host = s.host := by
  unfold State.hostFollow
  split
  · exact ⟨(keep_hostUnready s).same .bar0 rfl, (keep_hostUnready s).same .host rfl⟩
  · split
    · exact ⟨(keep_settle s).same .bar0 rfl, (keep_settle s).same .host rfl⟩
    · exact ⟨rfl, rfl⟩

/-- The control word holds the three bits written. -/
theorem State.hostControl_bar (s : State) (v : Nat) : (s.hostControl v).bar 0x24 = v % 8 := by
  rw [State.hostControl_eq, State.bar_congr (State.hostFollow_keeps _ _).1, State.bar_setBar, if_pos rfl]

/-- With the watchdog's enable already set the control word starts no watchdog of its own. -/
theorem State.hostControl_kickAt {s : State} {v : Nat} (hset : bitOf (s.bar 0x24) 2 = true) :
    (s.hostControl v).host.kickAt = s.host.kickAt := by
  have harmed : s.hostArmed v = s := if_neg (by simp [hset])
  rw [State.hostControl_eq, (State.hostFollow_keeps _ _).2, harmed]
  rfl

theorem gives_hostReadyWrite {s : State} {v : Fin 8} (hon : s.logicOn = true) :
    Gives (.hostReadyWrite v) s fun t => t.bar 0x24 = v := by
  have hexec : exec (.hostReadyWrite v) s = .next (s.hostControl v) := by
    change execHostReadyWrite v s = _
    unfold execHostReadyWrite
    rw [if_pos hon]
  refine gives_next hexec ?_
  rw [State.hostControl_bar, Nat.mod_eq_of_lt v.isLt]

/-- The state at the watchdog's instant `due`, no kick pending (R383). -/
def State.watchdogLate (s : State) (due : Nat) : State :=
  { s.until due with host := { (s.until due).host with kickAt := none } }

theorem State.watchdogLate_keeps (s : State) (due : Nat) : due ≤ (s.watchdogLate due).lmc ∧
    (s.watchdogLate due).host.kickAt = none ∧ (s.watchdogLate due).bar = s.bar :=
  ⟨State.le_lmc_until s due, rfl, State.bar_congr (t := s.watchdogLate due) (show (s.until due).bar0 = _ from (keep_until s due).same .bar0 rfl)⟩

theorem exec_watchdogExpiry_on {s : State} {a : Nat} (hon : s.logicOn = true) (hkick : s.host.kickAt = some a)
    (henabled : bitOf (s.bar 0x24) 2 = true) (hgap : s.reg Key.HOST_WDOG_MS ≠ 0) :
    exec .watchdogExpiry s = .next (((s.watchdogLate (a + s.reg Key.HOST_WDOG_MS * 1000000)).hostControl
      (setBit ((s.watchdogLate (a + s.reg Key.HOST_WDOG_MS * 1000000)).bar 0x24) 1 false)).occur 0x060 0 0) := by
  change execWatchdogExpiry s = _
  unfold execWatchdogExpiry
  have hgap' : (s.reg Key.HOST_WDOG_MS == 0) = false := by simp [hgap]
  simp only [hkick, hon, henabled, hgap', Bool.not_true, Bool.or_false, Bool.false_eq_true, if_false]
  rfl

theorem gives_watchdogExpiry {s : State} {a : Nat} (hon : s.logicOn = true) (hkick : s.host.kickAt = some a)
    (henabled : bitOf (s.bar 0x24) 2 = true) (hgap : s.reg Key.HOST_WDOG_MS ≠ 0) : Gives .watchdogExpiry s fun t =>
      a + s.reg Key.HOST_WDOG_MS * 1000000 ≤ t.lmc ∧ t.host.kickAt = none ∧ bitOf (t.bar 0x24) 1 = false := by
  refine gives_next (exec_watchdogExpiry_on hon hkick henabled hgap) ?_
  generalize a + s.reg Key.HOST_WDOG_MS * 1000000 = due
  obtain ⟨hlmc, hnone, hbar⟩ := s.watchdogLate_keeps due
  rw [hbar]
  generalize hcontrol : (s.watchdogLate due).hostControl (setBit (s.bar 0x24) 1 false) = u
  have hoccur := keep_occur u 0x060 0 0
  have hclock : u.lmc = (s.watchdogLate due).lmc := by
    rw [← hcontrol]
    exact State.lmc_congr ((keep_hostControl _ _).same .clock rfl)
  refine ⟨?_, ?_, ?_⟩
  · rw [State.lmc_congr (hoccur.same .clock rfl), hclock]
    exact hlmc
  · rw [show (State.occur _ _ _ _).host = _ from hoccur.same .host rfl, ← hcontrol,
      State.hostControl_kickAt (by rw [hbar]; exact henabled), hnone]
  · rw [State.bar_congr (hoccur.same .bar0 rfl), ← hcontrol, State.hostControl_bar, bitOf_eq_testBit,
      show (8 : Nat) = 2 ^ 3 from rfl, Nat.testBit_mod_two_pow, ← bitOf_eq_testBit, bitOf_setBit_same]
    rfl

/-- Settles O38: each of the mailbox's, the snapshot's and the watchdog's commands ends in the state its clause names. -/
theorem hostMailbox : Obligations.HostMailbox := by
  unfold Obligations.HostMailbox
  refine ⟨?goBusy, fun _ _ _ => gives_mailboxGo_badLength, fun _ _ _ => gives_mailboxGo_remote, ?response,
    fun _ _ => gives_mailboxTimeout, fun _ => gives_mailboxDoneClear, fun _ _ => gives_snapshotGo_busy,
    fun _ _ => gives_snapshotGo, fun _ => gives_ftimeLoRead, fun _ => gives_lmcLoRead, fun _ => gives_watchdogKick,
    fun _ _ => gives_hostReadyWrite, fun _ _ => gives_watchdogExpiry⟩
  case goBusy =>
    intro s v b hon hbusy
    refine gives_next (exec_mailboxGo_on hon) ?_
    rw [State.mailboxGo_busy hbusy]
    exact ⟨(State.count_addCount s _ _ _).trans (if_pos rfl), rfl⟩
  case response =>
    intro s f fr m a hon hrun hown hanswer
    exact gives_next (exec_mailboxResponse_own hon hrun hown hanswer) (State.mailboxDone_keeps s _ _)

end Sys2Proof.Machine
end

section
/-! PROOFS. The hub states, MAINT sessions, saving and RESTORE_DEFAULTS (R347 to R349, R359 to R361), O37. -/

namespace Sys2Proof.Machine

open Sys2Proof

/-- A change of the hub's state, whatever else follows it (R347). -/
theorem State.setMode_hub (s : State) (m ret : HubMode) (cause : Nat) :
    (s.setMode m ret cause).hub = { s.hub with mode := m, ret := ret, cause := cause, opWaits := false } := by
  have hkeepLast (u : State) : (u.keepLast (fun _ => true)).hub = u.hub := (keep_keepLast u _).same .hub rfl
  have hunsteady (u : State) : u.unsteady.hub = u.hub := rfl
  have hbump (u : State) (k : Nat) : (u.bump k).hub = u.hub := rfl
  have hraise (u : State) (n d : Nat) : (u.raise n d).hub = u.hub := (keep_raise u n d).same .hub rfl
  have hsend (u : State) (n : Nat) (p : List Byte) : (u.sendTwin n p).hub = u.hub := (keep_sendTwin u n p).same .hub rfl
  have hsafe (u : State) (l : List Nat) : (u.eachWhisk l State.whiskSafe).hub = u.hub :=
    (keep_eachWhisk u l _ (fun s w => keep_whiskSafe s w) rfl).same .hub rfl
  have hunsafe (u : State) (l : List Nat) : (u.eachWhisk l State.whiskUnsafe).hub = u.hub :=
    (keep_eachWhisk u l _ (fun s w => keep_whiskUnsafe s w) rfl).same .hub rfl
  unfold State.setMode
  simp only [apply_ite State.hub, hkeepLast, hunsteady, hbump, hraise, hsend, hsafe, hunsafe, ite_self]

theorem State.setMode_reg (s : State) (m ret : HubMode) (cause : Nat) (k : Nat) : (s.setMode m ret cause).reg k = s.reg k :=
  congrFun (State.reg_congr ((keep_setMode s m ret cause).same .regs rfl)) k

theorem State.setMode_lmc (s : State) (m ret : HubMode) (cause : Nat) : (s.setMode m ret cause).lmc = s.lmc :=
  State.lmc_congr ((keep_setMode s m ret cause).same .clock rfl)

theorem State.logRecord_keeps (s : State) (k : Nat) (data : List Byte) :
    (s.logRecord k data).hub = s.hub ∧ (s.logRecord k data).regs = s.regs := ⟨rfl, rfl⟩

theorem State.allowedFrom_mem {s : State} {ms : List HubMode} (h : s.hub.mode ∈ ms) : s.allowedFrom ms = none := if_pos h

theorem State.needs_none {s : State} {w : Writer} {r : Role} (h : s.roleOk w r = true) : s.needs w r = none := by
  unfold State.needs
  simp [h]

/-- A state request is a write of HUB_STATE_REQUEST that the firmware judges (R347). -/
theorem exec_stateRequest {c : Instr} {s : State} {x y : State} (hexec : exec c s = .next (if s.fwOn then x else y))
    (hon : s.fwOn = true) : exec c s = .next x := by
  rw [hexec, if_pos hon]

/-- A session's opening: MAINT, with the state to go back to and its owner (R359). -/
def State.openSession (s : State) (p : Path) : State :=
  ({ s.setMode .maint s.hub.mode s.hub.cause with
    hub := { (s.setMode .maint s.hub.mode s.hub.cause).hub with owner := some p, touched := (s.setMode .maint s.hub.mode s.hub.cause).lmc }
    }.setReg Key.HUB_MAINT_OWNER (ownerWord p)).logRecord Key.HUB_MAINT_OWNER (beBytes 4 (ownerWord p))

theorem State.openSession_keeps (s : State) (p : Path) : (s.openSession p).hub.mode = .maint ∧
    (s.openSession p).hub.ret = s.hub.mode ∧ (s.openSession p).hub.owner = some p ∧
    (s.openSession p).reg Key.HUB_MAINT_OWNER = ownerWord p := by
  have hhub := s.setMode_hub .maint s.hub.mode s.hub.cause
  unfold State.openSession
  generalize s.setMode .maint s.hub.mode s.hub.cause = u at hhub ⊢
  have hreg (v : State) (x : Nat) : ((v.setReg Key.HUB_MAINT_OWNER x).logRecord Key.HUB_MAINT_OWNER (beBytes 4 x)).reg
      Key.HUB_MAINT_OWNER = x := (State.reg_setReg v _ _ x).trans (if_pos rfl)
  refine ⟨?_, ?_, rfl, hreg _ _⟩
  · exact (congrArg HubCtl.mode hhub :)
  · exact (congrArg HubCtl.ret hhub :)

/-- What MAINT's end first undoes: forces, perturbations, bypass commands and the paused reversion (R359). -/
def State.sessionUndone (s : State) : State :=
  ((s.releaseForces.pertEndAll.setReg Key.BYP_COMMAND 0).bypUpdate).setReg Key.TWIN_REVERT_PAUSE 0

/-- The state a session's end goes to: SAFE while a fault holds it, else the one it was opened in. -/
def State.sessionLeft (s : State) : State :=
  if s.hubHeld then s.setMode .safe .init 2
  else s.setMode s.hub.ret .init (if s.hub.ret = .safe then s.hub.cause else s.lostCause)

/-- The session has no owner any more. -/
def State.sessionDisowned (s : State) : State :=
  ({ s with hub := { s.hub with owner := none } }.setReg Key.HUB_MAINT_OWNER 0).logRecord Key.HUB_MAINT_OWNER (beBytes 4 0)

theorem State.closeSession_eq (s : State) : s.closeSession = s.sessionUndone.sessionLeft.sessionDisowned := by
  unfold State.closeSession State.sessionUndone
  generalize ((s.releaseForces.pertEndAll.setReg Key.BYP_COMMAND 0).bypUpdate).setReg Key.TWIN_REVERT_PAUSE 0 = u
  rfl

theorem State.sessionUndone_hub (s : State) :
    s.sessionUndone.hub = ((s.releaseForces.pertEndAll.setReg Key.BYP_COMMAND 0).bypUpdate).hub := by
  unfold State.sessionUndone
  generalize (s.releaseForces.pertEndAll.setReg Key.BYP_COMMAND 0).bypUpdate = u
  rfl

theorem State.sessionLeft_mode (s : State) : s.sessionLeft.hub.mode = .safe ∨ s.sessionLeft.hub.mode = s.hub.ret := by
  unfold State.sessionLeft
  split
  · exact Or.inl (congrArg HubCtl.mode (s.setMode_hub _ _ _) :)
  · exact Or.inr (congrArg HubCtl.mode (s.setMode_hub _ _ _) :)

theorem State.sessionDisowned_keeps (s : State) : s.sessionDisowned.hub.owner = none ∧
    s.sessionDisowned.reg Key.HUB_MAINT_OWNER = 0 ∧ s.sessionDisowned.hub.mode = s.hub.mode := by
  have hreg : (s.setReg Key.HUB_MAINT_OWNER 0).reg Key.HUB_MAINT_OWNER = 0 := (State.reg_setReg s _ _ 0).trans (if_pos rfl)
  exact ⟨rfl, hreg, rfl⟩

/-- A session ends in SAFE, or in the state it was opened in, with no owner (R359). -/
theorem State.closeSession_keeps (s : State) : s.closeSession.hub.owner = none ∧ s.closeSession.reg Key.HUB_MAINT_OWNER = 0 ∧
    (s.closeSession.hub.mode = .safe ∨
      s.closeSession.hub.mode = ((s.releaseForces.pertEndAll.setReg Key.BYP_COMMAND 0).bypUpdate).hub.ret) := by
  obtain ⟨howner, hreg, hmode⟩ := s.sessionUndone.sessionLeft.sessionDisowned_keeps
  rw [State.closeSession_eq, hmode, ← s.sessionUndone_hub]
  exact ⟨howner, hreg, s.sessionUndone.sessionLeft_mode⟩

theorem State.closeSession_lmc (s : State) : s.closeSession.lmc = s.lmc :=
  State.lmc_congr ((keep_closeSession s).same .clock rfl)

theorem gives_stateRequestReset {s : State} {w : Writer} (hon : s.fwOn = true) (haccepts : Accepts s w Key.HUB_STATE_REQUEST 6)
    (hrole : s.roleOk w .service = true) : Gives (.stateRequestReset w) s fun t =>
      t.hub.resetDue = some (s.lmc + 10000000, .commanded) ∧ t.hub.mode = s.hub.mode := by
  refine gives_write (exec_stateRequest rfl hon) haccepts (State.needs_none hrole) fun t hquiet => ?_
  obtain ⟨hmode, -, -, -, -, hdue, -⟩ := hquiet.hub_fields
  exact ⟨hdue, hmode⟩

theorem gives_stateRequestPreop {s : State} {w : Writer} (hon : s.fwOn = true) (haccepts : Accepts s w Key.HUB_STATE_REQUEST 1)
    (hfrom : s.hub.mode = .operate ∨ s.hub.mode = .safe) :
    Gives (.stateRequestPreop w) s fun t => t.hub.mode = .preop ∧ t.hub.cause = s.lostCause := by
  refine gives_write (exec_stateRequest rfl hon) haccepts (State.allowedFrom_mem (by simpa using hfrom)) fun t hquiet => ?_
  obtain ⟨hmode, -, hcause, -⟩ := hquiet.hub_fields
  rw [hmode, hcause, State.setMode_hub]
  exact ⟨rfl, rfl⟩

theorem gives_stateRequestPreop_refused {s : State} {w : Writer} (hon : s.fwOn = true)
    (haccepts : Accepts s w Key.HUB_STATE_REQUEST 1) (hfrom : s.hub.mode = .preop) :
    Gives (.stateRequestPreop w) s fun t => t.hub.mode = .preop ∧
      t.answers = s.answers ++ [⟨w.path, Key.HUB_STATE_REQUEST, some .stateConflict, []⟩] := by
  refine gives_next (exec_stateRequest rfl hon) ?_
  rw [write_own_refused haccepts (show s.allowedFrom _ = _ from if_neg (by simp [hfrom]))]
  have hmode : (s.refuse w Key.HUB_STATE_REQUEST .stateConflict).hub.mode = s.hub.mode :=
    (refuse_quiet s w Key.HUB_STATE_REQUEST .stateConflict).hub_fields.1
  exact ⟨hmode.trans hfrom, State.refuse_answers s w _ _⟩

theorem gives_stateRequestOperate {s : State} {w : Writer} (hon : s.fwOn = true)
    (haccepts : Accepts s w Key.HUB_STATE_REQUEST 2) (hfrom : s.hub.mode = .preop) (hheld : s.hubHeld = false)
    (hfound : s.hub.paramsLost = false) :
    Gives (.stateRequestOperate w) s fun t => t.hub.mode = .preop ∧ t.hub.opWaits = true := by
  have hcheck : operateCheck w s = none := by
    unfold operateCheck
    rw [State.allowedFrom_mem (by simp [hfrom])]
    simp [hheld, hfound]
  refine gives_write (exec_stateRequest rfl hon) haccepts hcheck fun t hquiet => ?_
  obtain ⟨hmode, -, -, hwaits, -⟩ := hquiet.hub_fields
  exact ⟨hmode.trans hfrom, hwaits⟩

theorem gives_stateRequestSafe {s : State} {w : Writer} (hon : s.fwOn = true) (haccepts : Accepts s w Key.HUB_STATE_REQUEST 3)
    (hfrom : s.hub.mode = .operate) : Gives (.stateRequestSafe w) s fun t => t.hub.mode = .safe ∧ t.hub.cause = 1 := by
  refine gives_write (exec_stateRequest rfl hon) haccepts (State.allowedFrom_mem (by simp [hfrom])) fun t hquiet => ?_
  obtain ⟨hmode, -, hcause, -⟩ := hquiet.hub_fields
  rw [hmode, hcause, State.setMode_hub]
  exact ⟨rfl, rfl⟩

theorem gives_stateRequestOpenMaint {s : State} {w : Writer} (hon : s.fwOn = true)
    (haccepts : Accepts s w Key.HUB_STATE_REQUEST 4) (hrole : s.roleOk w .engineer = true)
    (hfrom : s.hub.mode = .preop ∨ s.hub.mode = .operate ∨ s.hub.mode = .safe) : Gives (.stateRequestOpenMaint w) s fun t =>
      t.hub.mode = .maint ∧ t.hub.ret = s.hub.mode ∧ t.hub.owner = some w.path ∧ t.reg Key.HUB_MAINT_OWNER = ownerWord w.path := by
  have hcheck : (s.needs w .engineer).or (s.allowedFrom [.preop, .operate, .safe]) = none := by
    rw [State.needs_none hrole, State.allowedFrom_mem (by simpa using hfrom)]
    rfl
  refine gives_write (eff := fun s => s.openSession w.path) (exec_stateRequest rfl hon) haccepts hcheck fun t hquiet => ?_
  obtain ⟨hmode, hret, -, -, howner, -⟩ := hquiet.hub_fields
  rw [hmode, hret, howner, hquiet.reg]
  exact s.openSession_keeps w.path

theorem gives_stateRequestCloseMaint {s : State} {w : Writer} (hon : s.fwOn = true)
    (haccepts : Accepts s w Key.HUB_STATE_REQUEST 5) (hrole : s.roleOk w .engineer = true)
    (hservice : s.roleOk w .service = true) (hfrom : s.hub.mode = .maint) : Gives (.stateRequestCloseMaint w) s fun t =>
      t.hub.owner = none ∧ t.reg Key.HUB_MAINT_OWNER = 0 ∧ (t.hub.mode = .safe ∨
        t.hub.mode = ((s.releaseForces.pertEndAll.setReg Key.BYP_COMMAND 0).bypUpdate).hub.ret) := by
  have hcheck : (s.needs w .engineer).or ((s.allowedFrom [.maint]).or
      (if s.hub.owner.any (fun o => samePath o w.path) || s.roleOk w .service then none else some Abort.roleDenied)) = none := by
    rw [State.needs_none hrole, State.allowedFrom_mem (by simp [hfrom]), hservice]
    simp
  refine gives_write (exec_stateRequest rfl hon) haccepts hcheck fun t hquiet => ?_
  obtain ⟨hmode, -, -, -, howner, -⟩ := hquiet.hub_fields
  rw [hmode, howner, hquiet.reg]
  exact s.closeSession_keeps

theorem gives_maintIdleExpiry {s : State} (hon : s.fwOn = true) (hmaint : s.hub.mode = .maint) :
    Gives .maintIdleExpiry s fun t => s.hub.touched + s.reg Key.HUB_MAINT_IDLE * 1000000000 ≤ t.lmc ∧ t.hub.owner = none ∧
      t.reg Key.HUB_MAINT_OWNER = 0 := by
  have hexec : exec .maintIdleExpiry s =
      .next (s.until (s.hub.touched + s.reg Key.HUB_MAINT_IDLE * 1000000000)).closeSession := by
    change execMaintIdleExpiry s = _
    unfold execMaintIdleExpiry
    rw [if_pos ⟨hon, hmaint⟩]
  refine gives_next hexec ?_
  generalize s.hub.touched + s.reg Key.HUB_MAINT_IDLE * 1000000000 = due
  obtain ⟨howner, hreg, -⟩ := (s.until due).closeSession_keeps
  rw [State.closeSession_lmc]
  exact ⟨State.le_lmc_until s due, howner, hreg⟩

/-- The entry to OPERATE, the whisks' and the gates' automatic starts with it (R348). -/
theorem State.enterOperate_hub {s : State} (hwaits : s.hub.opWaits = true) (hfrom : s.hub.mode = .preop) (hheld : s.hubHeld = false) :
    s.enterOperate.hub = { s.hub with mode := .operate, ret := .init, cause := 0, opWaits := false } := by
  unfold State.enterOperate
  rw [if_pos ⟨hwaits, Or.inl hfrom, by simp [hheld]⟩, show (State.gatesAutocommit _).hub = _ from (keep_gatesAutocommit _).same .hub rfl,
    show (State.whisksAutostart _).hub = _ from (keep_whisksAutostart _).same .hub rfl, State.setMode_hub]

theorem gives_autoOperateEntry {s : State} (hon : s.fwOn = true) (hfirst : s.hub.autoDone = false)
    (hflag : s.flag Key.HUB_AUTO_OPERATE = true) (hstation : s.station ≠ 0) (hheld : s.hubHeld = false)
    (hfound : s.hub.paramsLost = false) (hfrom : s.hub.mode = .preop) :
    Gives .autoOperateEntry s fun t => t.hub.mode = .operate ∧ t.hub.autoDone = true := by
  have hexec : exec .autoOperateEntry s = .next { s with hub := { s.hub with autoDone := true, opWaits := true } }.enterOperate := by
    change execAutoOperateEntry s = _
    unfold execAutoOperateEntry
    rw [if_pos (by simp [hon, hfirst, hflag, hstation, hheld, hfound, hfrom])]
  have hhub := State.enterOperate_hub (s := { s with hub := { s.hub with autoDone := true, opWaits := true } }) rfl hfrom hheld
  exact gives_next hexec ⟨(congrArg HubCtl.mode hhub :), (congrArg HubCtl.autoDone hhub :)⟩

/-- Before a SAVE starts its session is kept alive, and the peer is told of it (R361). -/
def State.saveTold (s : State) (p : Path) : State :=
  if (s.touch p).role = .active ∧ p ≠ .peer then (s.touch p).sendSync Key.PARAM_SAVE [1] else s.touch p

/-- An accepted SAVE starts once its writer and the peer have been told (R361). -/
theorem exec_save_starts {s : State} {w : Writer} (hon : s.fwOn = true) (hpermit : s.permit w Key.PARAM_SAVE 1 = none)
    (hfree : s.boot.saving = none) : exec (.save w 1) s = .next ((s.saveTold w.path).saveStart w.path) := by
  change execSave w 1 s = _
  unfold execSave
  rw [if_neg (by simp [hon]), if_neg (by simp), hpermit]
  simp only [hfree, Option.isSome_none, Bool.false_eq_true, if_false]
  rfl

theorem State.saveStart_keeps (s : State) (p : Path) :
    (s.saveStart p).boot.saving.isSome = true ∧ (s.saveStart p).reg Key.PARAM_DIRTY = 0 := by
  refine ⟨rfl, ?_⟩
  unfold State.saveStart
  rw [State.reg_setReg, if_pos rfl]

theorem gives_save {s : State} {w : Writer} (hon : s.fwOn = true) (hpermit : s.permit w Key.PARAM_SAVE 1 = none)
    (hfree : s.boot.saving = none) : Gives (.save w 1) s fun t => t.boot.saving.isSome = true ∧ t.reg Key.PARAM_DIRTY = 0 := by
  exact gives_next (exec_save_starts hon hpermit hfree) (State.saveStart_keeps _ w.path)

theorem gives_save_busy {s : State} {w : Writer} (hon : s.fwOn = true) (hpermit : s.permit w Key.PARAM_SAVE 1 = none)
    (hbusy : s.boot.saving.isSome = true) : Gives (.save w 1) s fun t => t.boot = s.boot ∧
      t.answers = s.answers ++ [⟨w.path, Key.PARAM_SAVE, some .busy, []⟩] := by
  have hexec : exec (.save w 1) s = .next (s.refuse w Key.PARAM_SAVE .busy) := by
    change execSave w 1 s = _
    unfold execSave
    rw [if_neg (by simp [hon]), if_neg (by simp), hpermit]
    simp only [hbusy, if_true]
  exact gives_next hexec ⟨State.refuse_boot s w _ _, State.refuse_answers s w _ _⟩

/-- The state after the saved copy is written: it is the active one, with the next sequence number (R361). -/
def State.copyActive (s : State) (x : Saving) (n : Nat) (written : Int) : State :=
  ({ s with boot := { s.boot with saving := none } }.setReg Key.PARAM_ACTIVE_COPY x.copy).setReg Key.PARAM_SEQUENCE n
    |>.setReg Key.PARAM_LAST_SAVE (ofSigned 64 written)

theorem State.copyActive_keeps (s : State) (x : Saving) (n : Nat) (written : Int) :
    (s.copyActive x n written).boot.saving = none ∧ (s.copyActive x n written).reg Key.PARAM_ACTIVE_COPY = x.copy ∧
    (s.copyActive x n written).count Key.PARAM_SAVES = s.count Key.PARAM_SAVES ∧
    (s.copyActive x n written).answers = s.answers := by
  have hreg (u : State) (v : Nat) : ((u.setReg Key.PARAM_ACTIVE_COPY x.copy).setReg Key.PARAM_SEQUENCE n
      |>.setReg Key.PARAM_LAST_SAVE v).reg Key.PARAM_ACTIVE_COPY = x.copy := by
    rw [State.reg_setReg, if_neg (by decide), State.reg_setReg, if_neg (by decide), State.reg_setReg, if_pos rfl]
  exact ⟨rfl, hreg _ _, rfl, rfl⟩

/-- A good copy takes PARAMS_LOST back and ends its fault's condition (R360). -/
theorem State.paramsFound_keeps (s : State) : s.paramsFound.boot = s.boot ∧ s.paramsFound.regs = s.regs ∧
    s.paramsFound.cnt = s.cnt ∧ s.paramsFound.answers = s.answers ∧ s.paramsFound.hub.paramsLost = false := by
  have h := keep_paramsFound s
  refine ⟨h.same .boot rfl, h.same .regs rfl, h.same .cnt rfl, h.same .answers rfl, ?_⟩
  unfold State.paramsFound
  rw [show (State.faultDown _ _).hub = _ from (keep_faultDown _ _).same .hub rfl]

/-- The sequence number a copy written now carries, one past the other copy's. -/
def State.copySequence (s : State) (x : Saving) : Nat := ((s.copy (3 - x.copy)).map (fun c => c.sequence)).getD 0 + 1

/-- The copy a SAVE writes (R360). -/
def State.savedCopy (s : State) (x : Saving) : ParamCopy where
  layout := s.reg Key.ID_LAYOUT_VERSION
  state := ((s.copy x.copy).map (fun c => c.state)).getD 0 * b2n (x.copy == s.reg Key.PARAM_ACTIVE_COPY)
  sequence := s.copySequence x % 2 ^ 32
  fw := s.reg Key.ID_FIRMWARE_VERSION
  written := s.ftime
  records := x.records

theorem exec_saveComplete_on {s : State} {x : Saving} (hon : s.fwOn = true) (hsaving : s.boot.saving = some x) :
    exec .saveComplete s = .next ((((s.setCopy x.copy (some (s.savedCopy x))).copyActive x (s.copySequence x % 2 ^ 32)
      (s.setCopy x.copy (some (s.savedCopy x))).ftime).bump Key.PARAM_SAVES).paramsFound.answer x.path Key.PARAM_SAVE none []) := by
  change execSaveComplete s = _
  unfold execSaveComplete
  simp only [hsaving, hon, Bool.not_true, Bool.false_eq_true, if_false]
  rfl

theorem State.setCopy_keeps (s : State) (n : Nat) (c : Option ParamCopy) :
    (s.setCopy n c).count Key.PARAM_SAVES = s.count Key.PARAM_SAVES ∧ (s.setCopy n c).answers = s.answers := ⟨rfl, rfl⟩

theorem gives_saveComplete {s : State} {x : Saving} (hon : s.fwOn = true) (hsaving : s.boot.saving = some x) :
    Gives .saveComplete s fun t => t.boot.saving = none ∧ t.reg Key.PARAM_ACTIVE_COPY = x.copy ∧
      t.count Key.PARAM_SAVES = s.count Key.PARAM_SAVES + 1 ∧ t.hub.paramsLost = false ∧
      t.answers = s.answers ++ [⟨x.path, Key.PARAM_SAVE, none, []⟩] := by
  refine gives_next (exec_saveComplete_on hon hsaving) ?_
  generalize some (s.savedCopy x) = c
  generalize s.copySequence x % 2 ^ 32 = n
  obtain ⟨hcount, hanswers⟩ := s.setCopy_keeps x.copy c
  generalize s.setCopy x.copy c = u at hcount hanswers ⊢
  obtain ⟨hsaving', hcopy, hcount', hanswers'⟩ := u.copyActive_keeps x n u.ftime
  generalize u.copyActive x n u.ftime = v at hsaving' hcopy hcount' hanswers' ⊢
  have hbump : (v.bump Key.PARAM_SAVES).count Key.PARAM_SAVES = v.count Key.PARAM_SAVES + 1 :=
    (State.count_bump v _ _).trans (if_pos rfl)
  obtain ⟨hboot, hregs, hcnt, hans, hlost⟩ := (v.bump Key.PARAM_SAVES).paramsFound_keeps
  generalize (v.bump Key.PARAM_SAVES).paramsFound = r at hboot hregs hcnt hans hlost ⊢
  have hquiet := quiet_answer r x.path Key.PARAM_SAVE none [] (Quiet.refl r)
  obtain ⟨-, -, -, -, -, -, hparams, -⟩ := hquiet.hub_fields
  refine ⟨?_, ?_, ?_, hparams.trans hlost, ?_⟩
  · rw [hquiet.boot, hboot]
    exact hsaving'
  · rw [hquiet.reg, congrFun (State.reg_congr hregs)]
    exact hcopy
  · rw [hquiet.count (by decide), congrFun (State.count_congr hcnt), hbump, hcount', hcount]
  · rw [State.answer_answers, hans]
    exact congrArg (· ++ _) (hanswers'.trans hanswers)

/-- Settles O37: each state request, session, save and RESTORE_DEFAULTS ends in the state its clause names. -/
theorem hubStates : Obligations.HubStates := by
  unfold Obligations.HubStates
  refine ⟨fun _ _ => gives_stateRequestPreop, fun _ _ => gives_stateRequestPreop_refused, fun _ _ => gives_stateRequestOperate,
    fun _ _ => gives_stateRequestSafe, fun _ _ => gives_stateRequestOpenMaint, fun _ _ => gives_stateRequestCloseMaint,
    fun _ _ => gives_stateRequestReset, fun _ => gives_autoOperateEntry, fun _ => gives_maintIdleExpiry, fun _ _ => gives_save,
    fun _ _ => gives_save_busy, fun _ _ => gives_saveComplete, ?restoreDefaults⟩
  case restoreDefaults =>
    intro s w hon haccepts
    exact gives_command (exec_stateRequest rfl hon) haccepts (by decide) rfl fun t hquiet => hquiet

end Sys2Proof.Machine
end

section
/-! PROOFS. Reset, its release and boot (R14, R28, R348, R494, R513), O7. -/

namespace Sys2Proof.Machine

open Sys2Proof

/-- VDD_AON starts LMC at 0 (R14). -/
theorem gives_vddAonApplied {s : State} (hoff : s.run = .unpowered) :
    Gives .vddAonApplied s fun t => t.run = .held ∧ t.lmc = 0 ∧ t.regs = s.regs := by
  have hexec : exec .vddAonApplied s = .next { s.rebase with run := .held } := by
    change execVddAonApplied s = _
    unfold execVddAonApplied
    rw [hoff]
  have hregs : s.rebase.regs = s.regs := (keep_rebase s).same .regs rfl
  have hclock : s.rebase.clock = 0 := rfl
  refine gives_next hexec ⟨rfl, ?_, hregs⟩
  unfold State.lmc
  dsimp only
  rw [hclock]

/-- What every reset leaves (R14): the hub in INIT, LMC and the queue of commands as they were. -/
theorem State.intoReset_keeps (s : State) (cause : ResetCause) :
    (s.intoReset cause).run = (if cause = .supply then .unpowered else .held) ∧ (s.intoReset cause).hub = {} ∧
    (s.intoReset cause).resetCause = cause ∧ (s.intoReset cause).clock = s.clock ∧ (s.intoReset cause).straps = s.straps ∧
    (s.intoReset cause).pending = s.pending := by
  have h := keep_intoReset s cause
  refine ⟨?_, rfl, rfl, h.same .clock rfl, h.same .straps rfl, h.same .pending rfl⟩
  cases cause <;> rfl

theorem gives_resetAssert {s : State} {cause : ResetCause} (hon : s.logicOn = true) : Gives (.resetAssert cause) s fun t =>
    t.run = (if cause = .supply then .unpowered else .held) ∧ t.hub.mode = .init ∧ t.resetCause = cause ∧
      t.clock = s.clock ∧ t.straps = s.straps ∧ t.pending = s.pending := by
  have hexec : exec (.resetAssert cause) s = .next (s.intoReset cause) := by
    change execResetAssert cause s = _
    unfold execResetAssert
    unfold State.logicOn at hon
    cases hrun : s.run <;> rw [hrun] at hon <;> first | rfl | cases hon
  obtain ⟨hrun, hhub, hcause, hclock, hstraps, hpending⟩ := s.intoReset_keeps cause
  exact gives_next hexec ⟨hrun, congrArg HubCtl.mode hhub, hcause, hclock, hstraps, hpending⟩

/-- The parts that the release starts afresh: the role, the key floor, the times and the straps (R14, R28). -/
def State.released (s : State) (straps : Straps) : State :=
  { s with
    run := .rom, straps := straps
    role := if s.reg Key.TWIN_MODE = 0 then .solo else .standby
    keys := { s.keys with floor := toSigned 64 (s.reg Key.KEY_TAG_FLOOR), since := s.lmc }
    time := { s.time with since := s.lmc }
    twin := { s.twin with pathAAt := s.lmc, pathBAt := s.lmc, validAt := s.lmc }
    power := { s.power with coreIdleAt := s.lmc } }

/-- The registers the release sets: the straps' two, and each port's state by its ENABLE (R28, R39). -/
def State.strapsLatched (s : State) (straps : Straps) : State :=
  (List.range 4).foldl (fun (s : State) f => s.setReg (Key.PORT_STATE f) (b2n (s.flag (Key.PORT_ENABLE f))))
    ((s.setReg Key.COMPAT_EFFECTIVE (b2n (straps.compat || s.flag Key.COMPAT_REQUEST))).setReg Key.TWST_PREFERRED (b2n straps.prim))

/-- Where the release leads: to the ROM, or to RECOVERY for a cause known already (R502). -/
def State.releaseLeads (s : State) (bootSel : Bool) : State :=
  if bootSel then (s.powerEntry 0).toRecovery 1
  else if s.reg Key.LC_STATE = 4 then (s.powerEntry 0).toRecovery 7
  else match s.boot.recover with
    | some c => (s.powerEntry 0).toRecovery c
    | none => s

theorem State.release_eq (s : State) (straps : Straps) :
    s.release straps = ((s.released straps).strapsLatched straps).releaseLeads straps.bootSel := rfl

/-- The port states' registers are set one after another; no other part changes. -/
theorem State.portStates_keeps (ports : List Nat) (s : State) :
    let t := ports.foldl (fun (s : State) f => s.setReg (Key.PORT_STATE f) (b2n (s.flag (Key.PORT_ENABLE f)))) s
    t.run = s.run ∧ t.straps = s.straps ∧ t.clock = s.clock ∧ t.boot = s.boot ∧
      (∀ k, (∀ f, k ≠ Key.PORT_STATE f) → t.reg k = s.reg k) := by
  induction ports generalizing s with
  | nil => exact ⟨rfl, rfl, rfl, rfl, fun _ _ => rfl⟩
  | cons f fs ih =>
    obtain ⟨hrun, hstraps, hclock, hboot, hreg⟩ := ih (s.setReg (Key.PORT_STATE f) (b2n (s.flag (Key.PORT_ENABLE f))))
    exact ⟨hrun, hstraps, hclock, hboot, fun k hk => (hreg k hk).trans ((State.reg_setReg _ _ _ _).trans (if_neg (hk f)))⟩

theorem State.strapsLatched_keeps (s : State) (straps : Straps) : (s.strapsLatched straps).run = s.run ∧
    (s.strapsLatched straps).straps = s.straps ∧ (s.strapsLatched straps).clock = s.clock ∧
    (s.strapsLatched straps).boot = s.boot ∧
    (s.strapsLatched straps).reg Key.COMPAT_EFFECTIVE = b2n (straps.compat || s.flag Key.COMPAT_REQUEST) ∧
    (s.strapsLatched straps).reg Key.LC_STATE = s.reg Key.LC_STATE := by
  obtain ⟨hrun, hstraps, hclock, hboot, hreg⟩ := State.portStates_keeps (List.range 4)
    ((s.setReg Key.COMPAT_EFFECTIVE (b2n (straps.compat || s.flag Key.COMPAT_REQUEST))).setReg Key.TWST_PREFERRED (b2n straps.prim))
  refine ⟨hrun, hstraps, hclock, hboot, (hreg _ fun f => ?_).trans ?_, (hreg _ fun f => ?_).trans ?_⟩
  · simp only [obj]; omega
  · rw [State.reg_setReg, if_neg (by decide), State.reg_setReg, if_pos rfl]
  · simp only [obj]; omega
  · rw [State.reg_setReg, if_neg (by decide), State.reg_setReg, if_neg (by decide)]

theorem State.toRecovery_keeps (s : State) (cause : Nat) : (s.toRecovery cause).run = .recovery ∧
    (s.toRecovery cause).reg Key.REC_CAUSE = cause ∧ (s.toRecovery cause).straps = s.straps := by
  refine ⟨rfl, ?_, rfl⟩
  unfold State.toRecovery
  rw [State.reg_setReg, if_pos rfl]

theorem State.releaseLeads_straps (s : State) (bootSel : Bool) : (s.releaseLeads bootSel).straps = s.straps := by
  have hrecovery (c : Nat) : ((s.powerEntry 0).toRecovery c).straps = s.straps := rfl
  unfold State.releaseLeads
  split
  · exact hrecovery 1
  · split
    · exact hrecovery 7
    · split
      · exact hrecovery _
      · rfl

theorem State.releaseLeads_bootSel (s : State) : (s.releaseLeads true).run = .recovery ∧
    (s.releaseLeads true).reg Key.REC_CAUSE = 1 := by
  obtain ⟨hrun, hcause, -⟩ := (s.powerEntry 0).toRecovery_keeps 1
  exact ⟨hrun, hcause⟩

/-- With no cause for RECOVERY the ROM goes on. -/
theorem State.releaseLeads_rom {s : State} (hlife : s.reg Key.LC_STATE ≠ 4) (hgood : s.boot.recover = none) :
    s.releaseLeads false = s := by
  unfold State.releaseLeads
  rw [if_neg Bool.false_ne_true, if_neg hlife, hgood]

/-- The straps are latched and nothing is due to the hub's state machine, wherever the release leads. -/
theorem State.release_keeps (s : State) (straps : Straps) : (s.release straps).straps = straps ∧
    (s.release straps).hub = s.hub ∧ (s.release straps).resetCause = s.resetCause := by
  have h := keep_release s straps
  refine ⟨?_, h.same .hub rfl, h.same .resetCause rfl⟩
  obtain ⟨-, hstraps, -⟩ := (s.released straps).strapsLatched_keeps straps
  rw [State.release_eq, State.releaseLeads_straps, hstraps]
  rfl

theorem exec_resetRelease_held {s : State} {p : Straps} (hheld : s.run = .held) : exec (.resetRelease p) s = .next (s.release p) := by
  change execResetRelease p s = _
  unfold execResetRelease
  rw [hheld]

theorem gives_resetRelease_rom {s : State} {p : Straps} (hheld : s.run = .held) (hboot : p.bootSel = false)
    (hlife : s.reg Key.LC_STATE ≠ 4) (hgood : s.boot.recover = none) : Gives (.resetRelease p) s fun t =>
      t.run = .rom ∧ t.straps = p ∧ t.reg Key.COMPAT_EFFECTIVE = b2n (p.compat || s.flag Key.COMPAT_REQUEST) ∧
        t.clock = s.clock := by
  refine gives_next (exec_resetRelease_held hheld) ?_
  obtain ⟨hrun, hstraps, hclock, hbootSt, hcompat, hlc⟩ := (s.released p).strapsLatched_keeps p
  have hlife' : ((s.released p).strapsLatched p).reg Key.LC_STATE ≠ 4 := by
    rw [hlc]
    exact hlife
  have hgood' : ((s.released p).strapsLatched p).boot.recover = none := by
    rw [hbootSt]
    exact hgood
  rw [State.release_eq, hboot, State.releaseLeads_rom hlife' hgood']
  exact ⟨hrun, hstraps, hcompat, hclock⟩

theorem gives_resetRelease_bootSel {s : State} {p : Straps} (hheld : s.run = .held) (hboot : p.bootSel = true) :
    Gives (.resetRelease p) s fun t => t.run = .recovery ∧ t.straps = p ∧ t.reg Key.REC_CAUSE = 1 := by
  refine gives_next (exec_resetRelease_held hheld) ?_
  obtain ⟨hstraps, -, -⟩ := s.release_keeps p
  obtain ⟨hrun, hcause⟩ := ((s.released p).strapsLatched p).releaseLeads_bootSel
  refine ⟨?_, hstraps, ?_⟩
  · rw [State.release_eq, hboot]
    exact hrun
  · rw [State.release_eq, hboot]
    exact hcause

theorem gives_deferredReset {s : State} {at_ : Nat} {cause : ResetCause} (hfw : s.run = .firmware)
    (hdue : s.hub.resetDue = some (at_, cause)) : Gives .deferredReset s fun t =>
      t.hub.resetDue = none ∧ t.straps = s.straps ∧ t.resetCause = cause ∧ t.hub.mode = .init := by
  have hexec : exec .deferredReset s = .next (((s.until at_).intoReset cause).release s.straps) := by
    change execDeferredReset s = _
    unfold execDeferredReset
    simp only [hdue]
    rw [if_pos (by simp [State.fwOn, hfw])]
  obtain ⟨hstraps, hhub, hcause⟩ := ((s.until at_).intoReset cause).release_keeps s.straps
  obtain ⟨-, hhub', hcause', -⟩ := (s.until at_).intoReset_keeps cause
  refine gives_next hexec ?_
  rw [hhub, hhub']
  exact ⟨rfl, hstraps, hcause.trans hcause', rfl⟩

theorem gives_bootLoaderStart_bad {s : State} {imageGood : Bool} {torn : Nat} (hrom : s.run = .rom) :
    Gives (.bootLoaderStart false imageGood torn) s fun t => t.run = .recovery ∧ t.reg Key.REC_CAUSE = 2 := by
  have hexec : exec (.bootLoaderStart false imageGood torn) s = .next ((s.powerEntry 0).toRecovery 2) := by
    change execBootLoaderStart false imageGood torn s = _
    unfold execBootLoaderStart
    simp only [hrom]
    rfl
  obtain ⟨hrun, hcause, -⟩ := (s.powerEntry 0).toRecovery_keeps 2
  exact gives_next hexec ⟨hrun, hcause⟩

/-- A good loader first counts the boot and notes what was torn (R494). -/
def State.bootCounted (s : State) (boots torn : Nat) : State :=
  let t := ((s.setReg Key.CRU_BOOT boots).setReg Key.CRU_TORN torn).powerEntry torn
  { t with boot := { t.boot with torn := torn, lost := 0 } }

theorem State.bootCounted_reg (s : State) (boots torn k : Nat) : (s.bootCounted boots torn).reg k =
    if k = Key.CRU_TORN then torn else if k = Key.CRU_BOOT then boots else s.reg k := by
  have hreg : ((s.setReg Key.CRU_BOOT boots).setReg Key.CRU_TORN torn).reg k =
      if k = Key.CRU_TORN then torn else if k = Key.CRU_BOOT then boots else s.reg k := by
    rw [State.reg_setReg, State.reg_setReg]
  exact hreg

theorem exec_bootLoaderStart_good {s : State} (hrom : s.run = .rom) : exec (.bootLoaderStart true true 0) s =
    .next ((s.bootCounted ((s.reg Key.CRU_BOOT + 1) % 65536) 0).loaderRuns true) := by
  change execBootLoaderStart true true 0 s = _
  unfold execBootLoaderStart
  simp only [hrom]
  rfl

/-- An image armed but not yet good, phase 2, sends the boot to RECOVERY (R498). -/
theorem gives_bootLoaderStart_phase2 {s : State} (hrom : s.run = .rom) (hphase : s.reg Key.UPD_PHASE = 2) :
    Gives (.bootLoaderStart true true 0) s fun t => t.run = .recovery ∧ t.reg Key.REC_CAUSE = 4 ∧
      t.reg Key.CRU_BOOT = (s.reg Key.CRU_BOOT + 1) % 65536 := by
  refine gives_next (exec_bootLoaderStart_good hrom) ?_
  generalize (s.reg Key.CRU_BOOT + 1) % 65536 = boots
  have hreg := s.bootCounted_reg boots 0
  generalize s.bootCounted boots 0 = u at hreg ⊢
  have hphase' : u.reg Key.UPD_PHASE = 2 := by
    rw [hreg, if_neg (by decide), if_neg (by decide), hphase]
  have hruns : u.loaderRuns true = u.toRecovery 4 := by
    unfold State.loaderRuns
    simp only [hphase', if_true]
  obtain ⟨hrun, hcause, -⟩ := u.toRecovery_keeps 4
  have hboots : (u.toRecovery 4).reg Key.CRU_BOOT = u.reg Key.CRU_BOOT := by
    unfold State.toRecovery
    rw [State.reg_setReg, if_neg (by decide)]
    rfl
  rw [hruns, hboots, hreg, if_neg (by decide), if_pos rfl]
  exact ⟨hrun, hcause, rfl⟩

/-- The firmware runs, no trial fault raised (R500). -/
def State.firmwareRuns (s : State) : State :=
  { s with run := .firmware, boot := { s.boot with startedAt := s.lmc, trialRaised := false } }

/-- Each fabric port starts as its ENABLE says (R39). -/
def State.portsStart (s : State) : State :=
  (List.range 4).foldl (fun (s : State) f => s.portEnable f (s.reg (Key.PORT_ENABLE f))) s

/-- The configuration takes effect and the health's clock starts. -/
def State.configuredNow (s : State) : State := { s.configured (fun _ => 0) with healthAt := s.lmc }

theorem State.portsStart_run (s : State) : s.portsStart.run = s.run := by
  have hports (ports : List Nat) (u : State) :
      (ports.foldl (fun (s : State) f => s.portEnable f (s.reg (Key.PORT_ENABLE f))) u).run = u.run := by
    induction ports generalizing u with
    | nil => rfl
    | cons f fs ih => exact (ih _).trans ((keep_portEnable u f _).same .run rfl)
  exact hports _ s

theorem State.configuredNow_run (s : State) : s.configuredNow.run = s.run := by
  have hconfigured : (s.configured (fun _ => 0)).run = s.run := (keep_configured s (fun _ => 0)).same .run rfl
  unfold State.configuredNow
  generalize s.configured (fun _ => 0) = u at hconfigured ⊢
  exact hconfigured

/-- The firmware's start: parameters, ports, configuration, then PREOP (R348). -/
theorem exec_firmwareStart_loader {s : State} (hloader : s.run = .loader) : exec .firmwareStart s =
    .next (s.firmwareRuns.loadParams.portsStart.configuredNow.setMode .preop .init
      s.firmwareRuns.loadParams.portsStart.configuredNow.lostCause).twinUpdate := by
  change execFirmwareStart s = _
  unfold execFirmwareStart
  rw [hloader]
  rfl

theorem gives_firmwareStart {s : State} (hloader : s.run = .loader) : Gives .firmwareStart s fun t => t.run = .firmware := by
  refine gives_next (exec_firmwareStart_loader hloader) ?_
  have hload : s.firmwareRuns.loadParams.run = .firmware := (keep_loadParams s.firmwareRuns).same .run rfl
  have hstart : s.firmwareRuns.loadParams.portsStart.configuredNow.run = .firmware := by
    rw [State.configuredNow_run, State.portsStart_run, hload]
  generalize s.firmwareRuns.loadParams.portsStart.configuredNow = u at hstart ⊢
  have htwin (v : State) : v.twinUpdate.run = v.run := (keep_twinUpdate v).same .run rfl
  rw [htwin, show (u.setMode _ _ _).run = _ from (keep_setMode u _ _ _).same .run rfl, hstart]

/-- Settles O7: each command of reset and boot ends in the run state, with the straps and the cause, its clause names. -/
theorem resetAndBoot : Obligations.ResetAndBoot := by
  unfold Obligations.ResetAndBoot
  exact ⟨fun _ => gives_vddAonApplied, fun _ _ => gives_resetAssert, fun _ _ => gives_resetRelease_rom,
    fun _ _ => gives_resetRelease_bootSel, fun _ _ _ => gives_deferredReset, fun _ _ _ => gives_bootLoaderStart_bad,
    fun _ => gives_bootLoaderStart_phase2, fun _ => gives_firmwareStart⟩

end Sys2Proof.Machine
end

section
/-! PROOFS. Faults: occurrences, leaving, suspension, commands and storms (R423 to R432), O46. -/

namespace Sys2Proof.Machine

open Sys2Proof

theorem exec_faultOccurrence (n : Fin 512) (i d : Nat) (l : Bool) (s : State) : exec (.faultOccurrence n i d l) s =
    .next (if !s.logicOn || !faultAllocated n then s else if l then s.faultUp n i d else s.occur n i d) := rfl

theorem exec_faultLiveFall_on {s : State} {n : Fin 512} (hon : s.logicOn = true) (hlive : (s.flt n).live = true) :
    exec (.faultLiveFall n) s = .next (s.setFlt n { s.flt n with live := false, fellAt := s.lmc }) := by
  change execFaultLiveFall n s = _
  unfold execFaultLiveFall State.faultDown
  rw [if_pos hon, if_pos hlive]

theorem gives_faultLiveFall {s : State} {n : Fin 512} (hon : s.logicOn = true) (hlive : (s.flt n).live = true) :
    Gives (.faultLiveFall n) s fun t => (t.flt n).live = false ∧ (t.flt n).fellAt = s.lmc ∧
      (t.flt n).inFault = (s.flt n).inFault ∧ t.regs = s.regs := by
  refine gives_next (exec_faultLiveFall_on hon hlive) ?_
  rw [State.flt_setFlt, if_pos rfl]
  exact ⟨rfl, rfl, rfl, rfl⟩

/-- A fault that leaves by its quiet time, for K times at most (R428, R429). -/
theorem exec_faultQuietExpiry_quiet {s u : State} {n : Fin 512} (hon : s.logicOn = true) (hin : (s.flt n).inFault = true)
    (hquiet : (s.flt n).live = false) (hfree : (s.flt n).suspended = false) (hself : bitOf (s.fltCfg n) 57 = true)
    (hu : u = s.until (max (s.flt n).lastAt (s.flt n).fellAt + fltSpan (fld (s.fltCfg n) 31 30) (fld (s.fltCfg n) 29 18))) :
    exec (.faultQuietExpiry n) s = .next (if fld (s.fltCfg n) 17 14 ≤ u.recoveries n then
        (u.setFlt n { u.flt n with suspended := true }).logLeave n 2
      else ((u.setFlt n { u.flt n with leaves := u.lmc :: ((u.flt n).leaves.take 15) }).logLeave n 1).faultLeave n false) := by
  change execFaultQuietExpiry n s = _
  subst hu
  unfold execFaultQuietExpiry
  dsimp only
  rw [if_neg (by simp [hon, hin, hquiet, hfree, hself])]

theorem gives_faultQuietExpiry_suspended {s u : State} {n : Fin 512} (hon : s.logicOn = true) (hin : (s.flt n).inFault = true)
    (hquiet : (s.flt n).live = false) (hfree : (s.flt n).suspended = false) (hself : bitOf (s.fltCfg n) 57 = true)
    (hu : u = s.until (max (s.flt n).lastAt (s.flt n).fellAt + fltSpan (fld (s.fltCfg n) 31 30) (fld (s.fltCfg n) 29 18)))
    (hoften : fld (s.fltCfg n) 17 14 ≤ u.recoveries n) :
    Gives (.faultQuietExpiry n) s fun t => (t.flt n).suspended = true ∧ (t.flt n).inFault = true := by
  have hexec := exec_faultQuietExpiry_quiet hon hin hquiet hfree hself hu
  rw [if_pos hoften] at hexec
  have hfaults : u.faults = s.faults := by
    rw [hu]
    exact (keep_until s _).same .faults rfl
  have hflt : u.flt n = s.flt n := congrFun (State.flt_congr hfaults) n
  have hset : (u.setFlt n { u.flt n with suspended := true }).flt n = { u.flt n with suspended := true } := by
    rw [State.flt_setFlt, if_pos rfl]
  have hlog (v : State) : (v.logLeave n 2).flt n = v.flt n := rfl
  refine gives_next hexec ?_
  rw [hlog, hset]
  exact ⟨rfl, hflt ▸ hin⟩

theorem gives_faultQuietExpiry_leaves {s u : State} {n : Fin 512} (hon : s.logicOn = true) (hin : (s.flt n).inFault = true)
    (hquiet : (s.flt n).live = false) (hfree : (s.flt n).suspended = false) (hself : bitOf (s.fltCfg n) 57 = true)
    (hu : u = s.until (max (s.flt n).lastAt (s.flt n).fellAt + fltSpan (fld (s.fltCfg n) 31 30) (fld (s.fltCfg n) 29 18)))
    (hrare : u.recoveries n < fld (s.fltCfg n) 17 14) : Gives (.faultQuietExpiry n) s fun t =>
      t = ((u.setFlt n { u.flt n with leaves := u.lmc :: ((u.flt n).leaves.take 15) }).logLeave n 1).faultLeave n false := by
  have hexec := exec_faultQuietExpiry_quiet hon hin hquiet hfree hself hu
  rw [if_neg (Nat.not_le.mpr hrare)] at hexec
  exact gives_next hexec rfl

/-- What a refused fault command leaves (R430). -/
theorem gives_faultCommand_refused {c : Instr} {s : State} {w : Writer} {k v : Nat} {own : State → Option Abort}
    {eff : State → State} (hexec : exec c s = .next (if s.fwOn then s.write w k v own eff else s)) (hon : s.fwOn = true)
    (haccepts : Accepts s w k v) (hown : own s = some .stateConflict) : Gives c s fun t => t.faults = s.faults ∧
      t.answers = s.answers ++ [⟨w.path, k, some .stateConflict, []⟩] := by
  refine gives_next (hexec.trans (by rw [if_pos hon])) ?_
  rw [write_own_refused haccepts hown]
  exact ⟨(refuse_quiet s w k .stateConflict).faults, State.refuse_answers s w k _⟩

theorem gives_faultCommand {c : Instr} {s : State} {w : Writer} {k v : Nat} {own : State → Option Abort}
    {eff : State → State} (hexec : exec c s = .next (if s.fwOn then s.write w k v own eff else s)) (hon : s.fwOn = true)
    (haccepts : Accepts s w k v) (hown : own s = none) : Gives c s fun t => t = (eff s).accepted w k v := by
  refine gives_next (hexec.trans (by rw [if_pos hon])) ?_
  exact write_accepted haccepts hown

theorem gives_faultLatchReset {s : State} {w : Writer} {n : Fin 512} (hon : s.fwOn = true)
    (haccepts : Accepts s w (Key.FLT_FAULT_COMMAND (n / 128) (n % 128)) 3) : Gives (.faultLatchReset w n) s fun t =>
      (t.flt n).latched = false ∧ (t.flt n).firstCause = 0 ∧ (t.flt n).inFault = (s.flt n).inFault := by
  refine gives_write (exec_stateRequest rfl hon) haccepts rfl fun t hquiet => ?_
  rw [State.flt_congr hquiet.faults, State.flt_setFlt, if_pos rfl]
  exact ⟨rfl, rfl, rfl⟩

/-- The storm's record and its count, no loss outstanding (R432). -/
def State.stormRecorded (s : State) (record : List Byte) : State :=
  let t := (s.log 3 0 record).bump Key.FLT_STORMS
  { t with cru := { t.cru with storm := [] } }

theorem State.stormRecorded_keeps (s : State) (record : List Byte) : (s.stormRecorded record).cru.storm = [] ∧
    (s.stormRecorded record).lmc = s.lmc ∧ (s.stormRecorded record).count Key.FLT_STORMS = s.count Key.FLT_STORMS + 1 := by
  have hcount : ((s.log 3 0 record).bump Key.FLT_STORMS).count Key.FLT_STORMS = (s.log 3 0 record).count Key.FLT_STORMS + 1 :=
    (State.count_bump _ _ _).trans (if_pos rfl)
  exact ⟨rfl, rfl, hcount⟩

/-- The storm's record: how many occurrences were lost, of how many faults, and the eight that lost most (R432). -/
def State.stormRecord (s : State) : List Byte :=
  beBytes 4 (min ((s.cru.storm.map (·.2)).foldl (· + ·) 0) 0xFFFFFFFF) ++ beBytes 4 s.cru.storm.length ++
    ((mostLost s.cru.storm).take 8).flatMap (fun e => beBytes 2 e.1 ++ beBytes 2 (min e.2 65535))

theorem exec_stormEnd_due {s : State} (hon : s.logicOn = true) (hstorm : s.cru.storm ≠ []) (hqueue : s.cru.queue = []) :
    exec .stormEnd s = .next ((s.until (s.cru.lastLoss + 10000000)).stormRecorded
      (s.until (s.cru.lastLoss + 10000000)).stormRecord) := by
  change execStormEnd s = _
  unfold execStormEnd State.stormRecorded State.stormRecord
  rw [if_neg (by simp [hon, hstorm, hqueue])]

theorem gives_stormEnd {s : State} (hon : s.logicOn = true) (hstorm : s.cru.storm ≠ []) (hqueue : s.cru.queue = []) :
    Gives .stormEnd s fun t => t.cru.storm = [] ∧ s.cru.lastLoss + 10000000 ≤ t.lmc ∧
      t.count Key.FLT_STORMS = s.count Key.FLT_STORMS + 1 := by
  refine gives_next (exec_stormEnd_due hon hstorm hqueue) ?_
  generalize s.cru.lastLoss + 10000000 = due
  generalize (s.until due).stormRecord = record
  obtain ⟨hnone, hlmc, hcount⟩ := (s.until due).stormRecorded_keeps record
  have hcnt : (s.until due).count = s.count := State.count_congr ((keep_until s due).same .cnt rfl)
  rw [hlmc, hcount, hcnt]
  exact ⟨hnone, State.le_lmc_until s due, rfl⟩

/-- Settles O46: each occurrence, leave, command and storm ends in the state its clause names. -/
theorem faults : Obligations.Faults := by
  unfold Obligations.Faults
  refine ⟨?unallocated, ?occurs, fun _ _ => gives_faultLiveFall, fun _ _ _ => gives_faultQuietExpiry_suspended,
    fun _ _ _ => gives_faultQuietExpiry_leaves, ?clearLive, ?clear, ?force, ?forceOutside, fun _ _ _ => gives_faultLatchReset,
    fun _ => gives_stormEnd, ?commitOff, ?commitOn, ?trigger⟩
  case unallocated =>
    intro s n i d l hon hnot
    refine gives_next (exec_faultOccurrence n i d l s) ?_
    rw [if_pos (by simp [hnot])]
  case occurs =>
    intro s n i d l hon hallocated
    refine gives_next (exec_faultOccurrence n i d l s) ?_
    rw [if_neg (by simp [hon, hallocated])]
  case clearLive =>
    intro s w n hon haccepts hlive
    exact gives_faultCommand_refused rfl hon haccepts (if_pos hlive)
  case clear =>
    intro s w n hon haccepts hquiet hin
    have h := gives_faultCommand (c := .faultClear w n) rfl hon haccepts (if_neg (by simp [hquiet]))
    rw [if_pos hin] at h
    exact h
  case force =>
    intro s w n hon haccepts hrole hmaint
    refine gives_faultCommand (c := .faultForce w n) rfl hon haccepts ?_
    rw [if_neg (Nat.not_lt.mpr hrole), if_neg (by simp [hmaint])]
  case forceOutside =>
    intro s w n hon haccepts hrole hmode
    refine gives_faultCommand_refused (c := .faultForce w n) rfl hon haccepts ?_
    rw [if_neg (Nat.not_lt.mpr hrole), if_pos hmode]
  case commitOff =>
    intro s hoff
    refine ⟨_, rfl, ?_⟩
    rw [hoff]
  case commitOn =>
    intro s hon
    refine ⟨_, rfl, ?_⟩
    rw [hon]
  case trigger =>
    intro s w hon haccepts
    refine gives_next (exec_stateRequest rfl hon) ?_
    unfold State.command
    rw [if_neg (by decide), write_accepted haccepts rfl]

end Sys2Proof.Machine
end

section
/-! PROOFS. Fabric time: candidates, SYNC and steps (R136 to R138, R143, R146, R147, R150), O17. -/

namespace Sys2Proof.Machine

open Sys2Proof

/-- A reader that no step of a fold changes reads the same after the fold. -/
theorem foldl_reader {α β : Type} {f : State → α → State} {g : State → β} (hf : ∀ s a, g (f s a) = g s) (l : List α) (s : State) :
    g (l.foldl f s) = g s := by
  induction l generalizing s with
  | nil => rfl
  | cons a l ih => exact (ih (f s a)).trans (hf s a)

/-- The pulses in progress follow a step of fabric time (R147). -/
def State.pulsesStepped (s : State) (ns : Int) : State :=
  s.timers.foldl (fun s c => s.setTimer c.1 { c.2 with pulseEnd := c.2.pulseEnd.map (fun t => t + ns) }) s

/-- Every capture unit notes that fabric time stepped (R156). -/
def State.capturesStepped (s : State) : State :=
  (List.range 16).foldl (fun s n => s.setCapture n { s.capture n with stepped := true }) s

/-- A step's record: it is counted, shown and logged (R147). -/
def State.stepRecorded (s : State) (ns : Int) : State :=
  ((s.bump Key.TSTAT_STEPS_TAKEN).setReg Key.TSTAT_LAST_STEP (ofSigned 64 ns)).logRecord Key.TSTAT_LAST_STEP
    (beBytes 8 (ofSigned 64 ns))

theorem State.stepTime_eq (s : State) (d : Int) : s.stepTime d =
    (({ s with ftimeQ := s.ftimeQ + d }.pulsesStepped (d / 65536)).capturesStepped.stepRecorded (d / 65536)).occur 0x04A 0
      (min 65535 ((d / 65536).natAbs / 1000)) := rfl

theorem State.pulsesStepped_keeps (s : State) (ns : Int) :
    (s.pulsesStepped ns).ftimeQ = s.ftimeQ ∧ (s.pulsesStepped ns).cnt = s.cnt := by
  unfold State.pulsesStepped
  constructor
  · refine foldl_reader (g := State.ftimeQ) ?_ _ s
    intro _ _
    rfl
  · refine foldl_reader (g := State.cnt) ?_ _ s
    intro _ _
    rfl

theorem State.capturesStepped_keeps (s : State) : s.capturesStepped.ftimeQ = s.ftimeQ ∧ s.capturesStepped.cnt = s.cnt := by
  unfold State.capturesStepped
  constructor
  · refine foldl_reader (g := State.ftimeQ) ?_ _ s
    intro _ _
    rfl
  · refine foldl_reader (g := State.cnt) ?_ _ s
    intro _ _
    rfl

theorem State.stepRecorded_keeps (s : State) (ns : Int) : (s.stepRecorded ns).ftimeQ = s.ftimeQ ∧
    (s.stepRecorded ns).count Key.TSTAT_SYNCS_RECEIVED = s.count Key.TSTAT_SYNCS_RECEIVED :=
  ⟨rfl, (State.count_bump s _ _).trans (if_neg (by decide))⟩

/-- A step moves FTIME by `d` and leaves the LMC, the bookkeeping of time and the counts of SYNC alone (R147). -/
theorem State.stepTime_keeps (s : State) (d : Int) : (s.stepTime d).ftimeQ = s.ftimeQ + d ∧ (s.stepTime d).clock = s.clock ∧
    (s.stepTime d).time = s.time ∧
    (s.stepTime d).count Key.TSTAT_SYNCS_RECEIVED = s.count Key.TSTAT_SYNCS_RECEIVED := by
  have h := keep_stepTime s d
  have hoccur (u : State) (n i x : Nat) : (u.occur n i x).ftimeQ = u.ftimeQ := (keep_occur u n i x).same .ftimeQ rfl
  refine ⟨?_, h.same .clock rfl, h.same .time rfl, ?_⟩
  · rw [State.stepTime_eq, hoccur, (State.stepRecorded_keeps _ _).1, (State.capturesStepped_keeps _).1,
      (State.pulsesStepped_keeps _ _).1]
  · rw [State.stepTime_eq, State.occur_count _ _ _ _ (by decide), (State.stepRecorded_keeps _ _).2,
      State.count_congr (State.capturesStepped_keeps _).2, State.count_congr (State.pulsesStepped_keeps _ _).2]
    rfl

/-- What a change of TIME_STATE and an election leave of time's bookkeeping: all but the servo's counts and `synced`. -/
def TimeKept (a b : TimeSt) : Prop := b = { a with small := b.small, large := b.large, synced := b.synced }

theorem TimeKept.refl (a : TimeSt) : TimeKept a a := rfl

theorem State.timeTo_time (s : State) (v : Nat) : TimeKept s.time (s.timeTo v).time := by
  unfold State.timeTo
  split
  · rfl
  · rfl

theorem State.timeTo_reg (s : State) (v : Nat) : (s.timeTo v).reg Key.TSTAT_TIME_STATE = v := by
  unfold State.timeTo
  split
  · assumption
  · have hset : ((s.setReg Key.TSTAT_TIME_STATE v).raise 6 v).reg Key.TSTAT_TIME_STATE = v := by
      rw [State.raise_reg, State.reg_setReg, if_pos rfl]
    exact hset

theorem State.timeTo_count (s : State) (v : Nat) {k : Nat} (hk : trafficCounter k = false) : (s.timeTo v).count k = s.count k := by
  unfold State.timeTo
  split
  · rfl
  · exact (State.raise_count (s.setReg Key.TSTAT_TIME_STATE v) 6 v hk)

theorem State.timeTo_time_of {s t : State} (h : t.time = s.time) (v : Nat) : TimeKept s.time (t.timeTo v).time :=
  h ▸ t.timeTo_time v

/-- The registers that show the master elected (R138). -/
def State.masterShown (s : State) (serial cls crossings : Nat) : State :=
  ((s.setReg Key.TSTAT_MASTER_SERIAL serial).setReg Key.TSTAT_MASTER_CLASS cls).setReg Key.TSTAT_MASTER_CROSSINGS crossings

theorem State.masterShown_time (s : State) (serial cls crossings : Nat) : (s.masterShown serial cls crossings).time = s.time := rfl

/-- FTIME never starts below the floor of the tags: a keyed hub's first mastership steps it there (R147, R476). -/
def State.floorStepped (s : State) (was : Nat) : State :=
  if was = 0 ∧ s.flag Key.KEYED ∧ s.time.ext = none ∧ s.ftime < toSigned 64 (s.reg Key.KEY_TAG_FLOOR) then
    s.stepTime (toSigned 64 (s.reg Key.KEY_TAG_FLOOR) * 65536 - s.ftimeQ)
  else s

theorem State.floorStepped_time (s : State) (was : Nat) : (s.floorStepped was).time = s.time := by
  unfold State.floorStepped
  split
  · exact (s.stepTime_keeps _).2.2.1
  · rfl

theorem State.elect_none {s : State} (h : s.bestCand = none) : s.elect =
    if (s.masterShown 0 0 0).reg Key.TSTAT_TIME_STATE = 4 then
      (s.masterShown 0 0 0).timeTo (if (s.masterShown 0 0 0).time.delivered then 1 else 0)
    else s.masterShown 0 0 0 := by
  unfold State.elect
  rw [h]
  rfl

theorem State.elect_some {s : State} {b : Nat × Cand} (h : s.bestCand = some b) : s.elect =
    if b.1 = s.reg Key.ID_SERIAL then
      if s.reg Key.TSTAT_TIME_STATE = 4 then s.masterShown b.1 b.2.cls b.2.crossings
      else ((s.masterShown b.1 b.2.cls b.2.crossings).floorStepped (s.reg Key.TSTAT_TIME_STATE)).timeTo 4
    else if s.reg Key.TSTAT_TIME_STATE = 4 then
      (s.masterShown b.1 b.2.cls b.2.crossings).timeTo (if (s.masterShown b.1 b.2.cls b.2.crossings).time.delivered then 1 else 0)
    else s.masterShown b.1 b.2.cls b.2.crossings := by
  unfold State.elect
  rw [h]
  rfl

/-- An election keeps what was heard and what is due (R138). -/
theorem State.elect_time (s : State) : TimeKept s.time s.elect.time := by
  cases h : s.bestCand with
  | none =>
    rw [State.elect_none h]
    split
    · exact State.timeTo_time_of (s.masterShown_time _ _ _) _
    · exact TimeKept.refl _
  | some b =>
    rw [State.elect_some h]
    split
    · split
      · exact TimeKept.refl _
      · exact State.timeTo_time_of ((State.floorStepped_time _ _).trans (s.masterShown_time _ _ _)) _
    · split
      · exact State.timeTo_time_of (s.masterShown_time _ _ _) _
      · exact TimeKept.refl _

theorem State.elect_lmc (s : State) : s.elect.lmc = s.lmc := State.lmc_congr ((keep_elect s).same .clock rfl)

theorem gives_candidateListenExpiry {s : State} (hon : s.logicOn = true) (hfirst : s.time.listened = false) :
    Gives .candidateListenExpiry s fun t => t.time.listened = true := by
  have hexec : exec .candidateListenExpiry s = .next { s.until (s.time.since + 750000000) with
      time := { (s.until (s.time.since + 750000000)).time with listened := true } }.elect := by
    change execCandidateListenExpiry s = _
    unfold execCandidateListenExpiry
    rw [if_neg (by simp [hon, hfirst])]
  exact gives_next hexec ((congrArg TimeSt.listened (State.elect_time _) :))

theorem gives_holdoverLimitExpiry {s : State} {at_ : Nat} (hlost : s.time.extLostAt = some at_) :
    Gives .holdoverLimitExpiry s fun t => t.time.extLostAt = none := by
  refine ⟨_, ?_, (congrArg TimeSt.extLostAt (State.elect_time { s.until (at_ + s.reg Key.TIME_HOLDOVER_LIMIT * 1000000000) with
    time := { (s.until (at_ + s.reg Key.TIME_HOLDOVER_LIMIT * 1000000000)).time with extLostAt := none } }) :)⟩
  change execHoldoverLimitExpiry s = _
  unfold execHoldoverLimitExpiry
  simp only [hlost]

/-- The announcement a candidate makes every 250 ms, its instant noted (R137). -/
def State.candidateAnnounced (s : State) (c : Cand) : State :=
  ({ s with time := { s.time with candAt := s.lmc } }.originate
    { kind := 6, prio := 7, dest := ringOf s.station * 1024 + 1023, payload := candPayload (s.reg Key.ID_SERIAL) c })

/-- A periodic sender's instant: at once the first time, then a period after the last. -/
def State.periodic (s : State) (last period : Nat) : State := if last = 0 then s else s.until (last + period)

theorem State.periodic_regs (s : State) (last period : Nat) : (s.periodic last period).regs = s.regs := by
  unfold State.periodic
  split
  · rfl
  · exact (keep_until s _).same .regs rfl

theorem State.originate_time (s : State) (f : Frame) : (s.originate f).time = s.time := (keep_originate s f).same .time rfl

theorem State.candidateAnnounced_keeps (s : State) (c : Cand) :
    (s.candidateAnnounced c).time.candAt = s.lmc ∧ (s.candidateAnnounced c).lmc = s.lmc := by
  unfold State.candidateAnnounced
  rw [State.originate_time, State.originate_lmc]
  exact ⟨rfl, rfl⟩

theorem gives_candidateSend {s : State} {c : Cand} (hon : s.logicOn = true) (hcand : s.announcedCand = some c) :
    Gives .candidateSend s fun t => t.time.candAt = t.lmc := by
  have hexec : exec .candidateSend s = .next ((s.periodic s.time.candAt 250000000).candidateAnnounced c).elect := by
    change execCandidateSend s = _
    unfold execCandidateSend
    rw [if_neg (by simp [hon]), hcand]
    rfl
  refine gives_next hexec ?_
  obtain ⟨hat, hlmc⟩ := (s.periodic s.time.candAt 250000000).candidateAnnounced_keeps c
  rw [State.elect_lmc, hlmc, ← hat]
  exact (congrArg TimeSt.candAt (State.elect_time _) :)

/-- A candidate heard is kept under its serial number (R137). -/
def State.candidateHeard (s : State) (serial : Nat) (c : Cand) : State :=
  { s with time := { s.time with cands := cellSet (fun _ => none) s.time.cands serial (some c) } }

theorem gives_candidateReceived {s : State} {f : Fin 4} {fr : Frame} (hon : s.logicOn = true) (hring : f.val ≠ 3) :
    Gives (.candidateReceived f fr) s fun t => cellGet (fun _ => none) t.time.cands (beAt fr.payload 8 8) =
      some ⟨beAt fr.payload 2 1, beAt fr.payload 3 1, beAt fr.payload 4 1, beAt fr.payload 16 8, s.lmc, false⟩ := by
  have hexec : exec (.candidateReceived f fr) s = .next ((s.take f fr).candidateHeard (beAt fr.payload 8 8)
      ⟨beAt fr.payload 2 1, beAt fr.payload 3 1, beAt fr.payload 4 1, beAt fr.payload 16 8, (s.take f fr).lmc, false⟩).elect := by
    change execCandidateReceived f fr s = _
    unfold execCandidateReceived
    have hon' : (s.take f fr).logicOn = true := hon
    have hfar : (f.val == 3) = false := by simp [hring]
    simp only [hon', hfar, hring, Bool.not_true, Bool.false_and, Bool.or_self, Bool.false_eq_true, if_false]
    rfl
  have hheard (u : State) (k : Nat) (c : Cand) : cellGet (fun _ => none) (u.candidateHeard k c).time.cands k = some c := by
    unfold State.candidateHeard
    exact cellGet_cellSet_same (fun _ => none) u.time.cands k (some c)
  refine gives_next hexec ?_
  rw [(congrArg TimeSt.cands (State.elect_time _) :)]
  exact hheard _ _ _

/-- The candidate heard longest ago, with the instant it was heard at. -/
def State.oldestCand (s : State) : Option (Nat × Nat) :=
  s.time.cands.foldl (fun (b : Option (Nat × Nat)) c => match c.2, b with
    | some x, none => some (c.1, x.heardAt)
    | some x, some y => if x.heardAt < y.2 then some (c.1, x.heardAt) else some y
    | none, b => b) none

/-- A candidate not heard for 750 ms is dropped, a fault when it was the master (R137). -/
def State.candidateDropped (s : State) (serial : Nat) : State :=
  let t := { s with time := { s.time with cands := cellSet (fun _ => none) s.time.cands serial none } }
  if decide (s.reg Key.TSTAT_MASTER_SERIAL = serial) then t.occur 0x048 0 0 else t

theorem State.candidateDropped_keeps (s : State) (serial : Nat) :
    (s.candidateDropped serial).time.cands = cellSet (fun _ => none) s.time.cands serial none ∧
    (s.candidateDropped serial).lmc = s.lmc := by
  have hoccur (u : State) : (u.occur 0x048 0 0).time = u.time ∧ (u.occur 0x048 0 0).lmc = u.lmc :=
    ⟨(keep_occur u 0x048 0 0).same .time rfl, State.lmc_congr ((keep_occur u 0x048 0 0).same .clock rfl)⟩
  unfold State.candidateDropped
  dsimp only
  split
  · rw [(hoccur _).1, (hoccur _).2]
    exact ⟨rfl, rfl⟩
  · exact ⟨rfl, rfl⟩

theorem exec_candidateExpiry (s : State) : exec .candidateExpiry s = .next (if !s.logicOn then s else match s.oldestCand with
    | none => s
    | some o => ((s.until (o.2 + 750000000)).candidateDropped o.1).elect) := rfl

theorem State.until_time (s : State) (due : Nat) : (s.until due).time = { s.time with acc := (s.until due).time.acc } := by
  unfold State.until
  split
  · rfl
  · rfl

theorem State.lmc_le_until (s : State) (due : Nat) : s.lmc ≤ (s.until due).lmc := by
  unfold State.until
  split
  · rw [State.lmc_advance]
    unfold State.lmc
    omega
  · exact Nat.le_refl _

theorem gives_candidateExpiry {s : State} {serial : Nat} {c : Cand} (hon : s.logicOn = true)
    (hcands : s.time.cands = [(serial, some c)]) : Gives .candidateExpiry s fun t => t.time.cands = [] ∧ s.lmc ≤ t.lmc := by
  obtain ⟨o, hold, hserial⟩ : ∃ o, s.oldestCand = some o ∧ o.1 = serial := by
    unfold State.oldestCand
    rw [hcands]
    exact ⟨_, rfl, rfl⟩
  have hdrops (due : Nat) : ((s.until due).candidateDropped o.1).elect.time.cands = [] ∧
      s.lmc ≤ ((s.until due).candidateDropped o.1).elect.lmc := by
    obtain ⟨hdropped, hlmc⟩ := (s.until due).candidateDropped_keeps o.1
    rw [(congrArg TimeSt.cands (State.elect_time _) :), State.elect_lmc, hlmc]
    dsimp only
    rw [hdropped, (congrArg TimeSt.cands (s.until_time due) :), hcands, hserial]
    exact ⟨by simp [cellSet, cellErase], s.lmc_le_until due⟩
  refine gives_next (exec_candidateExpiry s) ?_
  rw [if_neg (by simp [hon]), hold]
  exact hdrops _

/-- The SYNC the master sends each period, its instant noted (R136). -/
def State.syncSent (s : State) (wait : Int) : State :=
  { s with time := { s.time with syncAt := s.lmc } }.originate
    { kind := 6, prio := 7, dest := ringOf s.station * 1024 + 1023, payload := syncPayload s (s.ftimeQ + wait) }

theorem State.syncSent_keeps (s : State) (wait : Int) : (s.syncSent wait).time.syncAt = s.lmc ∧ (s.syncSent wait).lmc = s.lmc ∧
    (s.syncSent wait).regs = s.regs := by
  unfold State.syncSent
  rw [State.originate_time, State.originate_lmc, show (State.originate _ _).regs = _ from (keep_originate _ _).same .regs rfl]
  exact ⟨rfl, rfl, rfl⟩

/-- A value of the environment is taken and its index moves on. -/
def State.freed (s : State) : State := { s with free := s.free + 1 }

theorem gives_syncSend {s : State} (hon : s.logicOn = true) (hmaster : s.reg Key.TSTAT_TIME_STATE = 4) :
    Gives .syncSend s fun t => t.time.syncAt = t.lmc ∧ t.regs = s.regs := by
  have hexec : exec .syncSend s = .next ((s.periodic s.time.syncAt (syncNs (s.reg Key.TIME_SYNC_EXP))).freed.syncSent
      (Config.freeValue (s.periodic s.time.syncAt (syncNs (s.reg Key.TIME_SYNC_EXP))).free)) := by
    change execSyncSend s = _
    unfold execSyncSend
    rw [if_pos ⟨hon, hmaster⟩]
    rfl
  refine gives_next hexec ?_
  generalize hu : s.periodic s.time.syncAt (syncNs (s.reg Key.TIME_SYNC_EXP)) = u
  have hregs : u.regs = s.regs := hu ▸ s.periodic_regs _ _
  obtain ⟨hat, hlmc, hsent⟩ := u.freed.syncSent_keeps (Config.freeValue u.free)
  exact ⟨hat.trans hlmc.symm, hsent.trans hregs⟩

theorem gives_syncTimeout {s : State} (hon : s.logicOn = true) (hslave : s.reg Key.TSTAT_TIME_STATE = 2) :
    Gives .syncTimeout s fun t => t.reg Key.TSTAT_TIME_STATE = 3 ∧
      s.time.lastSync + 3 * syncNs s.time.masterExp ≤ t.lmc := by
  have hexec : exec .syncTimeout s = .next ((s.until (s.time.lastSync + 3 * syncNs s.time.masterExp)).timeTo 3) := by
    change execSyncTimeout s = _
    unfold execSyncTimeout
    rw [if_pos ⟨hon, Or.inr hslave⟩]
  refine gives_next hexec ⟨State.timeTo_reg _ _, ?_⟩
  rw [show (State.timeTo _ _).lmc = _ from State.lmc_congr ((keep_timeTo _ _).same .clock rfl)]
  exact State.le_lmc_until _ _

theorem Quiet.time {s t : State} (h : Quiet s t) : t.time = s.time := (congrArg State.time (show t.silent = s.silent from h) :)

theorem Quiet.ftimeQ {s t : State} (h : Quiet s t) : t.ftimeQ = s.ftimeQ :=
  (congrArg State.ftimeQ (show t.silent = s.silent from h) :)

theorem gives_stepAcceptWrite {s : State} {w : Writer} (haccepts : Accepts s w Key.TIME_STEP_ACCEPT 1) :
    Gives (.stepAcceptWrite w 1) s fun t => t.time.stepArmed = true ∧
      Quiet { s with time := { s.time with stepArmed := true } } t := by
  refine gives_command (c := .stepAcceptWrite w 1) rfl haccepts (by decide) rfl fun t hquiet => ⟨?_, hquiet⟩
  have htime : t.time = { s.time with stepArmed := true } := hquiet.time
  rw [htime]

theorem gives_setTimeWrite {s : State} {w : Writer} {v : Nat} (haccepts : Accepts s w Key.TIME_SET_TIME v)
    (hmaster : s.reg Key.TSTAT_TIME_STATE = 4) (hown : s.time.ext = none) :
    Gives (.setTimeWrite w v) s fun t => t.ftime = toSigned 64 v ∧ t.clock = s.clock := by
  have hcheck : setTimeCheck s = none := if_pos ⟨hmaster, by rw [hown]; rfl⟩
  refine gives_write (c := .setTimeWrite w v) rfl haccepts hcheck fun t hquiet => ?_
  obtain ⟨hftime, hclock, -⟩ := s.stepTime_keeps (toSigned 64 v * 65536 - s.ftimeQ)
  refine ⟨?_, hquiet.clock.trans hclock⟩
  have hq : t.ftimeQ = s.ftimeQ + (toSigned 64 v * 65536 - s.ftimeQ) := hquiet.ftimeQ.trans hftime
  unfold State.ftime
  rw [hq]
  omega

/-- Of `s`, `t` has the SYNC last delivered, its UTC offset and the count of SYNCs received. -/
def SyncKept (s t : State) : Prop := t.time.lastSync = s.time.lastSync ∧ t.time.utc = s.time.utc ∧
  t.count Key.TSTAT_SYNCS_RECEIVED = s.count Key.TSTAT_SYNCS_RECEIVED

theorem SyncKept.refl (s : State) : SyncKept s s := ⟨rfl, rfl, rfl⟩

theorem SyncKept.trans {s t u : State} (h : SyncKept s t) (h' : SyncKept t u) : SyncKept s u :=
  ⟨h'.1.trans h.1, h'.2.1.trans h.2.1, h'.2.2.trans h.2.2⟩

theorem syncKept_timeTo (s : State) (v : Nat) : SyncKept s (s.timeTo v) :=
  ⟨(congrArg TimeSt.lastSync (s.timeTo_time v) :), (congrArg TimeSt.utc (s.timeTo_time v) :), s.timeTo_count v (by decide)⟩

theorem syncKept_stepTime (s : State) (d : Int) : SyncKept s (s.stepTime d) := by
  obtain ⟨-, -, htime, hcount⟩ := s.stepTime_keeps d
  exact ⟨congrArg TimeSt.lastSync htime, congrArg TimeSt.utc htime, hcount⟩

/-- A change of the servo's own bookkeeping keeps the SYNC. -/
theorem SyncKept.servoed {s t : State} (h : SyncKept s t) {x : TimeSt} (hx : x.lastSync = t.time.lastSync ∧ x.utc = t.time.utc) :
    SyncKept s { t with time := x } :=
  ⟨hx.1.trans h.1, hx.2.trans h.2.1, h.2.2⟩

/-- The servo's rate is drawn and shown, and its run of small and large offsets counted (R143). -/
def State.servoRated (s : State) (off : Int) : State :=
  let u := s.freed.setReg Key.TSTAT_RATE_ADJ (ofSigned 32 ((Config.freeValue s.free % 400001 : Nat) - 200000 : Int))
  { u with time := { u.time with
      small := if off.natAbs < 50000 then s.time.small + 1 else 0
      large := if 200000 < off.natAbs then s.time.large + 1 else 0, runLen := 0 } }

theorem syncKept_servo (s : State) (off : Int) : SyncKept s (s.servo off) := by
  have hrated : SyncKept s (s.servoRated off) := ⟨rfl, rfl, rfl⟩
  have heq : s.servo off = (let st := (s.servoRated off).reg Key.TSTAT_TIME_STATE
      if st = 3 then { (s.servoRated off).timeTo 1 with
        time := { ((s.servoRated off).timeTo 1).time with small := (s.servoRated off).time.small } }
      else if st = 1 ∧ 8 ≤ (s.servoRated off).time.small then (s.servoRated off).timeTo 2
      else if st = 2 ∧ 4 ≤ (s.servoRated off).time.large then (s.servoRated off).timeTo 1
      else s.servoRated off) := rfl
  rw [heq]
  generalize s.servoRated off = u at hrated ⊢
  dsimp only
  split
  · exact (hrated.trans (syncKept_timeTo u 1)).servoed ⟨rfl, rfl⟩
  · split
    · exact hrated.trans (syncKept_timeTo u 2)
    · split
      · exact hrated.trans (syncKept_timeTo u 1)
      · exact hrated

/-- An offset delivered is shown (R143). -/
def State.offsetShown (s : State) (off : Int) : State :=
  let u := s.setReg Key.TSTAT_OFFSET (ofSigned 64 off)
  { u with time := { u.time with delivered := true } }

/-- The run of like offsets is noted (R146). -/
def State.runNoted (s : State) (r : Nat × Int) : State := { s with time := { s.time with runLen := r.1, runFirst := r.2 } }

/-- A step the run of offsets does not allow is refused, counted and a fault (R146). -/
def State.stepRefused (s : State) (off : Int) : State :=
  ((s.runNoted (s.runAfter off)).bump Key.TSTAT_STEPS_REFUSED).occur 0x049 0 (min 65535 (off.natAbs / 1000000))

theorem syncKept_stepRefused (s : State) (off : Int) : SyncKept s (s.stepRefused off) := by
  have hnoted (r : Nat × Int) : SyncKept s (s.runNoted r) := ⟨rfl, rfl, rfl⟩
  have hcounted (u : State) : SyncKept u (u.bump Key.TSTAT_STEPS_REFUSED) :=
    ⟨rfl, rfl, (State.count_bump u _ _).trans (if_neg (by decide))⟩
  have hoccur (u : State) (d : Nat) : SyncKept u (u.occur 0x049 0 d) := by
    have htime : (u.occur 0x049 0 d).time = u.time := (keep_occur u 0x049 0 d).same .time rfl
    exact ⟨congrArg TimeSt.lastSync htime, congrArg TimeSt.utc htime, State.occur_count u _ _ _ (by decide)⟩
  unfold State.stepRefused
  exact ((hnoted _).trans (hcounted _)).trans (hoccur _ _)

theorem State.applyOffset_eq (s : State) (off : Int) : s.applyOffset off = (let u := s.offsetShown off
    if s.reg Key.TSTAT_TIME_STATE = 0 then (u.stepTime (-(psQ off))).timeTo 1
    else if u.time.stepArmed then { u.stepTime (-(psQ off)) with time := { u.time with stepArmed := false, runLen := 0 } }
    else if (u.reg Key.TIME_STEP_THRESHOLD : Int) * 1000 ≤ off.natAbs then
      if u.flag Key.TIME_STEP_AUTO ∧ 16 ≤ (u.runAfter off).1 then
        { u.stepTime (-(psQ off)) with time := { u.time with runLen := 0 } }
      else if s.reg Key.TSTAT_TIME_STATE = 4 then u.stepRefused off else (u.stepRefused off).timeTo 3
    else u.servo off) := rfl

/-- Whatever an offset makes of fabric time, the SYNC that brought it is kept (R143, R146). -/
theorem syncKept_applyOffset (s : State) (off : Int) : SyncKept s (s.applyOffset off) := by
  have hshown : SyncKept s (s.offsetShown off) := ⟨rfl, rfl, rfl⟩
  rw [State.applyOffset_eq]
  generalize s.offsetShown off = u at hshown ⊢
  have hstepped := hshown.trans (syncKept_stepTime u (-(psQ off)))
  have hrefused := hshown.trans (syncKept_stepRefused u off)
  have hrestarted {x : TimeSt} (hx : x.lastSync = u.time.lastSync ∧ x.utc = u.time.utc) :
      SyncKept s { u.stepTime (-(psQ off)) with time := x } := by
    obtain ⟨-, -, htime, -⟩ := u.stepTime_keeps (-(psQ off))
    exact hstepped.servoed (htime ▸ hx)
  dsimp only
  split
  · exact hstepped.trans (syncKept_timeTo _ 1)
  · split
    · exact hrestarted ⟨rfl, rfl⟩
    · split
      · split
        · exact hrestarted ⟨rfl, rfl⟩
        · split
          · exact hrefused
          · exact hrefused.trans (syncKept_timeTo _ 3)
      · exact hshown.trans (syncKept_servo u off)

/-- A SYNC of the master is counted and noted (R136). -/
def State.syncNoted (s : State) (p : List Byte) : State :=
  { s.bump Key.TSTAT_SYNCS_RECEIVED with time := { s.time with lastSync := s.lmc, masterExp := beAt p 3 1, utc := beAt p 22 2 } }

theorem State.syncNoted_keeps (s : State) (p : List Byte) : (s.syncNoted p).time.lastSync = s.lmc ∧
    (s.syncNoted p).time.utc = beAt p 22 2 ∧
    (s.syncNoted p).count Key.TSTAT_SYNCS_RECEIVED = s.count Key.TSTAT_SYNCS_RECEIVED + 1 :=
  ⟨rfl, rfl, (State.count_bump s _ _).trans (if_pos rfl)⟩

/-- A SYNC of the ring's master, no perturbation running, is delivered to the servo (R143). -/
theorem exec_syncReceived_master {s : State} {f : Fin 4} {fr : Frame} {rx : Int} (hon : s.logicOn = true) (hring : f.val ≠ 3)
    (hmaster : beAt fr.payload 24 8 = s.reg Key.TSTAT_MASTER_SERIAL) (hslave : s.reg Key.TSTAT_TIME_STATE ≠ 4)
    (hcalm : s.reg Key.PERT_RUNNING = 0) : exec (.syncReceived f fr rx) s =
      .next (((s.take f fr).syncNoted fr.payload).applyOffset (((s.take f fr).syncNoted fr.payload).syncOffset f fr rx)) := by
  have hperturbed : ((s.take f fr).syncNoted fr.payload).perturbed 6 0 = none := if_pos hcalm
  have hon' : (s.take f fr).logicOn = true := hon
  have hmaster' : beAt fr.payload 24 8 = (s.take f fr).reg Key.TSTAT_MASTER_SERIAL := hmaster
  have hslave' : (s.take f fr).reg Key.TSTAT_TIME_STATE ≠ 4 := hslave
  change execSyncReceived f fr rx s = _
  unfold execSyncReceived
  generalize s.take f fr = u at hperturbed hon' hmaster' hslave' ⊢
  dsimp only
  rw [if_neg (by simp [hon']), if_neg (by simp [hring, hmaster', hslave'])]
  have hnoted : ∀ x : Option Nat, x = none → (match x with
      | some i => ((u.syncNoted fr.payload).pertActed i).applyOffset ((u.syncNoted fr.payload).syncOffset f fr rx +
          (u.syncNoted fr.payload).pertA i * 1000)
      | none => (u.syncNoted fr.payload).applyOffset ((u.syncNoted fr.payload).syncOffset f fr rx)) =
      (u.syncNoted fr.payload).applyOffset ((u.syncNoted fr.payload).syncOffset f fr rx) := by
    rintro _ rfl
    rfl
  exact congrArg Host.Outcome.next (hnoted _ hperturbed)

theorem gives_syncReceived {s : State} {f : Fin 4} {fr : Frame} {rx : Int} (hon : s.logicOn = true) (hring : f.val ≠ 3)
    (hmaster : beAt fr.payload 24 8 = s.reg Key.TSTAT_MASTER_SERIAL) (hslave : s.reg Key.TSTAT_TIME_STATE ≠ 4)
    (hcalm : s.reg Key.PERT_RUNNING = 0) : Gives (.syncReceived f fr rx) s fun t =>
      t.time.lastSync = s.lmc ∧ t.time.utc = beAt fr.payload 22 2 ∧
        t.count Key.TSTAT_SYNCS_RECEIVED = s.count Key.TSTAT_SYNCS_RECEIVED + 1 := by
  refine gives_next (exec_syncReceived_master hon hring hmaster hslave hcalm) ?_
  obtain ⟨hlast, hutc, hcount⟩ := (s.take f fr).syncNoted_keeps fr.payload
  obtain ⟨hlast', hutc', hcount'⟩ := syncKept_applyOffset ((s.take f fr).syncNoted fr.payload)
    (((s.take f fr).syncNoted fr.payload).syncOffset f fr rx)
  exact ⟨hlast'.trans hlast, hutc'.trans hutc, hcount'.trans hcount⟩

/-- Whether a coupler's far side may hear the master through this hub, and what it then sends (R150). -/
def State.farSent (s : State) (first : Bool) (wait : Int) : State := match s.bestCand with
  | none => s
  | some b =>
    if b.2.far ∨ 62 ≤ b.2.crossings then s
    else
      let s := s.sendLocal 3 { kind := 6, prio := 7, version := s.reg Key.LINK_RING_VERSION, payload := syncPayload s (s.txStamp 3 (s.ftimeQ + wait)) }
      if first ∨ s.time.farCandAt + 250000000 ≤ s.lmc then
        { s with time := { s.time with farCandAt := s.lmc } }.sendLocal 3
          { kind := 6, prio := 7, version := s.reg Key.LINK_RING_VERSION
            payload := candPayload (s.reg Key.ID_SERIAL) { b.2 with crossings := b.2.crossings + 1 } }
      else s

theorem State.sendLocal_keeps (s : State) (p : Nat) (f : Frame) : (s.sendLocal p f).time = s.time ∧ (s.sendLocal p f).lmc = s.lmc ∧
    (s.sendLocal p f).regs = s.regs := by
  have h := keep_sendLocal s p f
  exact ⟨h.same .time rfl, State.lmc_congr (h.same .clock rfl), h.same .regs rfl⟩

theorem State.farSent_keeps (s : State) (first : Bool) (wait : Int) : (s.farSent first wait).time.farSyncAt = s.time.farSyncAt ∧
    (s.farSent first wait).lmc = s.lmc ∧ (s.farSent first wait).regs = s.regs := by
  unfold State.farSent
  split
  · exact ⟨rfl, rfl, rfl⟩
  · split
    · exact ⟨rfl, rfl, rfl⟩
    · dsimp only
      generalize ({ kind := 6, prio := 7, version := s.reg Key.LINK_RING_VERSION, payload := syncPayload s (s.txStamp 3 (s.ftimeQ + wait)) } : Frame) = sync
      obtain ⟨htime, hlmc, hregs⟩ := s.sendLocal_keeps 3 sync
      generalize s.sendLocal 3 sync = u at htime hlmc hregs ⊢
      have hat : u.time.farSyncAt = s.time.farSyncAt := congrArg TimeSt.farSyncAt htime
      split
      · obtain ⟨htime', hlmc', hregs'⟩ := State.sendLocal_keeps { u with time := { u.time with farCandAt := u.lmc } } 3 _
        rw [htime', hlmc', hregs']
        exact ⟨hat, hlmc, hregs⟩
      · exact ⟨hat, hlmc, hregs⟩

/-- The instant of a coupler's sending is noted (R150). -/
def State.farNoted (s : State) : State := { s with time := { s.time with farSyncAt := s.lmc } }

theorem gives_couplerTimeSend {s : State} (hon : s.logicOn = true) (hcoupler : s.isCoupler = true) (hup : s.up 3 = true)
    (hmaster : s.reg Key.TSTAT_TIME_STATE = 4) :
    Gives .couplerTimeSend s fun t => t.time.farSyncAt = t.lmc ∧ t.regs = s.regs := by
  have hexec : exec .couplerTimeSend s = .next (let u := s.periodic s.time.farSyncAt (syncNs (s.reg Key.TIME_SYNC_EXP))
      u.freed.farNoted.farSent (decide (u.freed.time.farSyncAt = 0)) (Config.freeValue u.free)) := by
    change execCouplerTimeSend s = _
    unfold execCouplerTimeSend
    rw [if_pos ⟨hon, hcoupler, hup, Or.inr hmaster⟩]
    rfl
  refine gives_next hexec ?_
  dsimp only
  generalize hu : s.periodic s.time.farSyncAt (syncNs (s.reg Key.TIME_SYNC_EXP)) = u
  have hregs : u.regs = s.regs := hu ▸ s.periodic_regs _ _
  obtain ⟨hat, hlmc, hsent⟩ := u.freed.farNoted.farSent_keeps (decide (u.freed.time.farSyncAt = 0)) (Config.freeValue u.free)
  exact ⟨hat.trans hlmc.symm, hsent.trans hregs⟩

/-- Settles O17: each candidate, SYNC and step leaves time's state as its clause says. -/
theorem fabricTime : Obligations.FabricTime := by
  unfold Obligations.FabricTime
  exact ⟨fun _ => gives_candidateListenExpiry, fun _ _ => gives_holdoverLimitExpiry, fun _ _ => gives_candidateSend,
    fun _ _ _ => gives_candidateReceived, fun _ _ _ => gives_candidateExpiry, fun _ => gives_syncSend,
    fun _ _ _ _ => gives_syncReceived, fun _ => gives_syncTimeout, fun _ _ => gives_stepAcceptWrite,
    fun _ _ _ => gives_setTimeWrite, fun _ => gives_couplerTimeSend⟩

end Sys2Proof.Machine
end

section
/-! PROOFS. Dictionary requests (R345, R350, R352, R355 to R358), O35. -/

namespace Sys2Proof.Machine

open Sys2Proof

theorem exec_dictRead_refused {s u : State} {q : DictReq} {a : Abort} (hopen : s.dictOpen q 1 = (true, u))
    (hcheck : u.readCheck q 1 = some a) : exec (.dictRead q) s = .next (u.dictFail (askOf q 1) a) := by
  change execDictRead q s = _
  unfold execDictRead State.dictRead
  simp only [hopen, hcheck]

theorem exec_dictRead_answered {s u : State} {q : DictReq} (hopen : s.dictOpen q 1 = (true, u))
    (hcheck : u.readCheck q 1 = none) : exec (.dictRead q) s = .next (((u.readBytes q.object).2.dictWake q.object).answer
      (askPath q) q.object none (u.readBytes q.object).1) := by
  change execDictRead q s = _
  unfold execDictRead State.dictRead
  simp only [hopen, hcheck]

theorem exec_dictRead_closed {s u : State} {q : DictReq} (hopen : s.dictOpen q 1 = (false, u)) :
    exec (.dictRead q) s = .next u := by
  change execDictRead q s = _
  unfold execDictRead State.dictRead
  simp only [hopen]

/-- A READ that fails is answered with its abort code (R356). -/
theorem State.dictFail_read (s : State) (q : DictReq) (a : Abort) :
    s.dictFail (askOf q 1) a = s.answer (askPath q) q.object (some a) [] := by
  unfold State.dictFail
  rw [if_neg (by simp [askOf])]
  rfl

theorem gives_dictRead_answered {s u : State} {q : DictReq} (hopen : s.dictOpen q 1 = (true, u))
    (hcheck : u.readCheck q 1 = none) : Gives (.dictRead q) s fun t =>
      t.answers = (u.readBytes q.object).2.answers ++ [⟨askPath q, q.object, none, (u.readBytes q.object).1⟩] := by
  refine gives_next (exec_dictRead_answered hopen hcheck) ?_
  rw [State.answer_answers, show (State.dictWake _ _).answers = _ from (keep_dictWake _ _).same .answers rfl]

theorem gives_dictRead_refused {s u : State} {q : DictReq} {a : Abort} (hopen : s.dictOpen q 1 = (true, u))
    (hcheck : u.readCheck q 1 = some a) : Gives (.dictRead q) s fun t =>
      t.answers = u.answers ++ [⟨askPath q, q.object, some a, []⟩] := by
  refine gives_next (exec_dictRead_refused hopen hcheck) ?_
  rw [State.dictFail_read, State.answer_answers]

/-- Taking a request changes nothing but what waits at the ports. -/
theorem State.dictTaken_keeps (s : State) (p : Path) (op tid : Nat) : (s.dictTaken p op tid).run = s.run ∧
    (s.dictTaken p op tid).role = s.role ∧ (s.dictTaken p op tid).dict = s.dict ∧ (s.dictTaken p op tid).clock = s.clock ∧
    (s.dictTaken p op tid).cnt = s.cnt ∧ (s.dictTaken p op tid).answers = s.answers := by
  have h := keep_dictTaken s p op tid
  exact ⟨h.same .run rfl, h.same .role rfl, h.same .dict rfl, h.same .clock rfl, h.same .cnt rfl, h.same .answers rfl⟩

theorem State.keptFor_congr {s t : State} (hdict : t.dict = s.dict) (hclock : t.clock = s.clock) (x : Asked) :
    t.keptFor x = s.keptFor x := by
  unfold State.keptFor
  rw [hdict, State.lmc_congr hclock]

theorem State.dictFull_congr {s t : State} (hdict : t.dict = s.dict) (hrun : t.run = s.run) (op k : Nat) :
    t.dictFull op k = s.dictFull op k := by
  unfold State.dictFull State.inRecovery State.romFree
  rw [hdict, hrun]

theorem State.fwOn_congr {s t : State} (h : t.run = s.run) : t.fwOn = s.fwOn := by
  unfold State.fwOn
  rw [h]

/-- A STANDBY hub discards a request to the node address (R352). -/
theorem State.dictOpen_standby {s : State} {q : DictReq} {op : Nat} (hon : s.fwOn = true) (hnode : q.toNode = true)
    (hstandby : s.role = .standby) : s.dictOpen q op = (false, s.dictTaken (askPath q) op (q.tid % 65536)) := by
  obtain ⟨hrun, hrole, -⟩ := s.dictTaken_keeps (askPath q) op (q.tid % 65536)
  unfold State.dictOpen askOf
  dsimp only
  rw [if_neg (by simp [State.fwOn_congr hrun, hon]), if_pos (by simp [hnode, hrole, hstandby])]

/-- A repeated request is answered from the kept responses (R355). -/
theorem State.dictOpen_repeated {s : State} {q : DictReq} {op : Nat} {b : List Byte} (hon : s.fwOn = true) (hnode : q.toNode = false)
    (hkept : s.keptFor (askOf q op) = some b) :
    s.dictOpen q op = (false, (s.dictTaken (askPath q) op (q.tid % 65536)).resend (askOf q op) b) := by
  obtain ⟨hrun, -, hdict, hclock, -⟩ := s.dictTaken_keeps (askPath q) op (q.tid % 65536)
  have hkept' : (s.dictTaken (askOf q op).path op (askOf q op).tid).keptFor (askOf q op) = some b :=
    (State.keptFor_congr hdict hclock _).trans hkept
  have hon' : (s.dictTaken (askOf q op).path op (askOf q op).tid).fwOn = true := (State.fwOn_congr hrun).trans hon
  unfold State.dictOpen
  dsimp only
  rw [if_neg (by simp [hon']), if_neg (by simp [hnode]), hkept']
  rfl

/-- A new request is counted and remembered. -/
def State.dictAsked (s : State) (x : Asked) : State :=
  let t := s.bump Key.DICT_REQUESTS
  { t with dict := { t.dict with asked := x :: t.dict.asked } }

/-- A request too many is refused with BUSY (R358). -/
theorem State.dictOpen_full {s : State} {q : DictReq} {op : Nat} (hon : s.fwOn = true) (hnode : q.toNode = false)
    (hnew : s.keptFor (askOf q op) = none) (hfull : s.dictFull op q.object = true) :
    s.dictOpen q op = (false, (((s.dictTaken (askPath q) op (q.tid % 65536)).dictAsked (askOf q op)).bump
      Key.DICT_BUSY_REFUSALS).dictFail (askOf q op) .busy) := by
  obtain ⟨hrun, -, hdict, hclock, -⟩ := s.dictTaken_keeps (askPath q) op (q.tid % 65536)
  have hnew' : (s.dictTaken (askOf q op).path op (askOf q op).tid).keptFor (askOf q op) = none :=
    (State.keptFor_congr hdict hclock _).trans hnew
  have hon' : (s.dictTaken (askOf q op).path op (askOf q op).tid).fwOn = true := (State.fwOn_congr hrun).trans hon
  have hfull' : (s.dictTaken (askOf q op).path op (askOf q op).tid).dictFull op (askOf q op).object = true :=
    (State.dictFull_congr hdict hrun _ _).trans hfull
  unfold State.dictOpen
  dsimp only
  rw [if_neg (by simp [hon']), if_neg (by simp [hnode]), hnew']
  dsimp only
  rw [if_pos hfull']
  rfl

/-- A kept response is sent again, by the same path and counted (R355). -/
theorem State.resend_keeps {s : State} {x : Asked} (hpath : x.path ≠ .mailbox) (b : List Byte) :
    (s.resend x b).count Key.DICT_DUPLICATES = s.count Key.DICT_DUPLICATES + 1 ∧
    (s.resend x b).count Key.DICT_REQUESTS = s.count Key.DICT_REQUESTS ∧ (s.resend x b).answers = s.answers := by
  have hsend (u : State) : Quiet u (u.sendDict x.path b) := quiet_sendDict u x.path b (Quiet.refl u)
  have hanswers (u : State) : (u.sendDict x.path b).answers = u.answers := (keep_sendDict u x.path b).same .answers rfl
  have hresend : s.resend x b = (s.bump Key.DICT_DUPLICATES).sendDict x.path b := if_neg hpath
  rw [hresend, (hsend _).count (by decide), (hsend _).count (by decide), hanswers]
  exact ⟨(State.count_bump s _ _).trans (if_pos rfl), (State.count_bump s _ _).trans (if_neg (by decide)), rfl⟩

theorem gives_dictRead_repeated {s : State} {q : DictReq} {b : List Byte} (hon : s.fwOn = true) (hnode : q.toNode = false)
    (hkept : s.keptFor (askOf q 1) = some b) (hpath : askPath q ≠ .mailbox) : Gives (.dictRead q) s fun t =>
      t.count Key.DICT_DUPLICATES = s.count Key.DICT_DUPLICATES + 1 ∧
      t.count Key.DICT_REQUESTS = s.count Key.DICT_REQUESTS ∧ t.answers = s.answers := by
  refine gives_next (exec_dictRead_closed (State.dictOpen_repeated hon hnode hkept)) ?_
  obtain ⟨-, -, -, -, hcnt, hanswers⟩ := s.dictTaken_keeps (askPath q) 1 (q.tid % 65536)
  obtain ⟨hduplicates, hrequests, hkeptAnswers⟩ :=
    State.resend_keeps (s := s.dictTaken (askPath q) 1 (q.tid % 65536)) (x := askOf q 1) hpath b
  rw [hduplicates, hrequests, hkeptAnswers, State.count_congr hcnt]
  exact ⟨rfl, rfl, hanswers⟩

theorem gives_dictRead_standby {s : State} {q : DictReq} (hon : s.fwOn = true) (hnode : q.toNode = true)
    (hstandby : s.role = .standby) : Gives (.dictRead q) s fun t =>
      t.answers = s.answers ∧ t.dict = s.dict ∧ t.cnt = s.cnt := by
  obtain ⟨-, -, hdict, -, hcnt, hanswers⟩ := s.dictTaken_keeps (askPath q) 1 (q.tid % 65536)
  exact gives_next (exec_dictRead_closed (State.dictOpen_standby hon hnode hstandby)) ⟨hanswers, hdict, hcnt⟩

/-- An answer counts an abort and nothing of the request's own counts. -/
theorem State.answer_count (s : State) (p : Path) (k : Nat) (a : Option Abort) (b : List Byte) :
    (s.answer p k a b).count Key.DICT_BUSY_REFUSALS = s.count Key.DICT_BUSY_REFUSALS :=
  (quiet_answer s p k a b (Quiet.refl s)).count (by decide)

theorem gives_dictRead_busy {s : State} {q : DictReq} (hon : s.fwOn = true) (hnode : q.toNode = false)
    (hnew : s.keptFor (askOf q 1) = none) (hfull : s.dictFull 1 q.object = true) : Gives (.dictRead q) s fun t =>
      t.answers = s.answers ++ [⟨askPath q, q.object, some .busy, []⟩] ∧
      t.count Key.DICT_BUSY_REFUSALS = s.count Key.DICT_BUSY_REFUSALS + 1 := by
  refine gives_next (exec_dictRead_closed (State.dictOpen_full hon hnode hnew hfull)) ?_
  obtain ⟨-, -, -, -, hcnt, hanswers⟩ := s.dictTaken_keeps (askPath q) 1 (q.tid % 65536)
  rw [State.dictFail_read, State.answer_answers, State.answer_count, State.count_bump, if_pos rfl]
  generalize s.dictTaken (askPath q) 1 (q.tid % 65536) = u at hcnt hanswers ⊢
  have hasked : ((u.dictAsked (askOf q 1)).bump Key.DICT_BUSY_REFUSALS).answers = u.answers := rfl
  have hcount : (u.dictAsked (askOf q 1)).count Key.DICT_BUSY_REFUSALS = u.count Key.DICT_BUSY_REFUSALS :=
    (State.count_bump u _ _).trans (if_neg (by decide))
  rw [hasked, hcount, State.count_congr hcnt, hanswers]
  exact ⟨rfl, rfl⟩

/-- A value of another type than the object's is only judged for an object that exists (R356). -/
theorem objRow_of_typeCheck {k ty op n : Nat} {a : Abort} (h : State.typeCheck k ty op n = some a) : (objRow k).isSome = true := by
  unfold State.typeCheck at h
  cases hrow : objRow k with
  | none => simp [hrow] at h
  | some r => rfl

theorem gives_dictWrite_mistyped {s u : State} {q : DictReq} {a : Abort} (hopen : s.dictOpen q 2 = (true, u))
    (htype : State.typeCheck q.object q.ty 2 q.data.length = some a) : Gives (.dictWrite q) s fun t =>
      t.answers = u.answers ++ [⟨askPath q, q.object, some a, []⟩] ∧
      t.rejections q.object = min (u.rejections q.object + 1) 0xFFFFFFFF ∧ t.regs = u.regs := by
  have hexec : exec (.dictWrite q) s = .next (u.refuse ⟨.pub, askPath q⟩ q.object a) := by
    change execDictWrite q s = _
    unfold execDictWrite State.dictWrite State.dictFail
    simp only [hopen, htype]
    rw [if_pos ⟨Or.inl rfl, objRow_of_typeCheck htype⟩]
    rfl
  refine gives_next hexec ?_
  obtain ⟨hregs, -, -, -, hrejections, hanswers⟩ := u.refuse_keeps ⟨.pub, askPath q⟩ q.object a
  exact ⟨hanswers, hrejections, hregs⟩

theorem gives_dictWrite_accepted {s u : State} {q : DictReq} {r : ObjRow} {w : Writer} (hopen : s.dictOpen q 2 = (true, u))
    (htype : State.typeCheck q.object q.ty 2 q.data.length = none) (hrow : objRow q.object = some r)
    (hwriter : askWriter q = some w) (hsize : r.size ≤ 1024) : Gives (.dictWrite q) s fun t =>
      t = (u.writeKey w q.object (valueOf r q.data) q.data).dictWait (askOf q 2) := by
  refine ⟨_, ?_, rfl⟩
  change execDictWrite q s = _
  unfold execDictWrite State.dictWrite
  simp only [hopen, htype, hrow, hwriter]
  rw [if_neg (Nat.not_lt.mpr hsize)]

/-- Settles O35: each outcome of a READ and a WRITE, in the order they are decided. -/
theorem dictRequests : Obligations.DictRequests := by
  unfold Obligations.DictRequests
  exact ⟨fun _ _ _ => gives_dictRead_answered, fun _ _ _ _ => gives_dictRead_refused, fun _ _ _ => gives_dictRead_repeated,
    fun _ _ => gives_dictRead_standby, fun _ _ => gives_dictRead_busy, fun _ _ _ _ => gives_dictWrite_mistyped,
    fun _ _ _ _ _ => gives_dictWrite_accepted⟩

end Sys2Proof.Machine
end

section
/-! PROOFS. The link of a fabric port (R36, R39, R40, R42; Table 2.3), O10. -/

namespace Sys2Proof.Machine

open Sys2Proof

/-- What a hand-over's proposal writes is none of the ports' states. -/
theorem State.propose_portState (s : State) (cause f : Nat) : (s.propose cause).reg (Key.PORT_STATE f) = s.reg (Key.PORT_STATE f) := by
  have hne : Key.PORT_STATE f ≠ Key.TWST_HANDOVER_AT := by simp only [obj]; omega
  have hsend (u : State) (b : Bool) (p : List Byte) : (u.sendTwinAs 7 b p).reg = u.reg :=
    State.reg_congr ((keep_sendTwinAs u 7 b p).same .regs rfl)
  unfold State.propose
  split
  · rfl
  · dsimp only
    rw [hsend, State.reg_setReg, if_neg hne]
    rfl

/-- A fault that stands for no fabric port stops none (R426, PORT_OFF). -/
theorem State.react_portState (s : State) {n item : Nat} (hport : faultPort n item = none) (r f : Nat) :
    (s.react n item r).reg (Key.PORT_STATE f) = s.reg (Key.PORT_STATE f) := by
  have hkeep (u : State) (p : Nat → Bool) : (u.keepLast p).reg = u.reg := State.reg_congr ((keep_keepLast u p).same .regs rfl)
  have hpan (u : State) (p : Nat) : (u.panEnterSafe p).reg = u.reg := State.reg_congr ((keep_panEnterSafe u p).same .regs rfl)
  have hsafe (u : State) (c : Nat) : (u.enterSafe c).reg = u.reg := State.reg_congr ((keep_enterSafe u c).same .regs rfl)
  have hset (u : State) (x : FltSt) : (u.setFlt n x).reg = u.reg := rfl
  have hstop (u : State) : u.portStop n item = u := by
    unfold State.portStop
    rw [hport]
  have hkept : (if r = 3 then s.keepLast (fun q => faultPan n == some q) else s).reg = s.reg := by
    split
    · exact hkeep _ _
    · rfl
  unfold State.react
  dsimp only
  generalize (if r = 3 then s.keepLast (fun q => faultPan n == some q) else s) = u at hkept ⊢
  rw [← hkept, hstop]
  split
  · rw [State.raise_reg, hset]
  · split
    · rw [hset]
    · split
      · split
        · rw [hpan, hset]
        · rw [hset]
      · split
        · rw [hsafe, hset]
        · split
          · rw [State.propose_portState, hset]
          · rw [hset]

theorem State.occurX_portState (s : State) {n cause : Nat} (forced : Bool) (detail : List Byte)
    (hport : faultPort n (cause / 65536 % 65536) = none) (f : Nat) :
    (s.occurX n cause forced detail).reg (Key.PORT_STATE f) = s.reg (Key.PORT_STATE f) := by
  have htrigger (u : State) (a b : Nat) : (u.trigger a b).reg = u.reg := State.reg_congr ((keep_trigger u a b).same .regs rfl)
  unfold State.occurX
  extract_lets old item flt sev oldSev c enter rise upper rMinor rMajor applied noted full lost counted storm logged queue
    recorded entered risen
  have hreact (u : State) (r : Nat) : (u.react n item r).reg (Key.PORT_STATE f) = u.reg (Key.PORT_STATE f) :=
    State.react_portState u hport r f
  have hrecorded : recorded.reg (Key.PORT_STATE f) = s.reg (Key.PORT_STATE f) := by
    unfold recorded
    split
    · rfl
    · rfl
  have hentered : entered.reg (Key.PORT_STATE f) = s.reg (Key.PORT_STATE f) := by
    unfold entered
    split
    · exact (hreact _ _).trans hrecorded
    · exact hrecorded
  have hrisen : risen.reg (Key.PORT_STATE f) = s.reg (Key.PORT_STATE f) := by
    unfold risen
    split
    · rw [hreact, htrigger, State.raise_reg]
      exact hentered
    · exact hentered
  split
  · rw [htrigger]
    exact hrisen
  · exact hrisen

theorem State.occur_portState (s : State) {n item : Nat} (detail : Nat) (hport : ∀ i, faultPort n i = none) (f : Nat) :
    (s.occur n item detail).reg (Key.PORT_STATE f) = s.reg (Key.PORT_STATE f) :=
  s.occurX_portState false [] (hport _) f

theorem State.faultUp_portState (s : State) {n item : Nat} (detail : Nat) (hport : ∀ i, faultPort n i = none) (f : Nat) :
    (s.faultUp n item detail).reg (Key.PORT_STATE f) = s.reg (Key.PORT_STATE f) := by
  have hset (u : State) (x : FltSt) : (u.setFlt n x).reg = u.reg := rfl
  unfold State.faultUp
  dsimp only
  split
  · rw [State.occur_portState _ _ hport, hset]
  · rw [State.raise_reg, State.occur_portState _ _ hport, hset]

theorem State.faultDown_reg (s : State) (n : Nat) : (s.faultDown n).reg = s.reg :=
  State.reg_congr ((keep_faultDown s n).same .regs rfl)

theorem State.faultLevel_portState (s : State) {n item : Nat} (cond : Bool) (detail : Nat) (hport : ∀ i, faultPort n i = none) (f : Nat) :
    (s.faultLevel n cond item detail).reg (Key.PORT_STATE f) = s.reg (Key.PORT_STATE f) := by
  unfold State.faultLevel
  split
  · split
    · rfl
    · exact s.faultUp_portState detail hport f
  · rw [State.faultDown_reg]

theorem State.faultUp_reg (s : State) (n item detail : Nat) {k : Nat} (hk : loudReg k = false) :
    (s.faultUp n item detail).reg k = s.reg k := by
  have hset (u : State) (x : FltSt) : (u.setFlt n x).reg = u.reg := rfl
  unfold State.faultUp
  dsimp only
  split
  · rw [State.occur_reg _ _ _ _ hk, hset]
  · rw [State.raise_reg, State.occur_reg _ _ _ _ hk, hset]

theorem State.faultUp_count (s : State) (n item detail : Nat) {k : Nat} (hk : loudCounter k = false) :
    (s.faultUp n item detail).count k = s.count k := by
  have hset (u : State) (x : FltSt) : (u.setFlt n x).count = u.count := rfl
  unfold State.faultUp
  dsimp only
  split
  · rw [State.occur_count _ _ _ _ hk, hset]
  · rw [State.raise_count _ _ _ (trafficCounter_of_loud hk), State.occur_count _ _ _ _ hk, hset]

theorem State.faultLevel_reg (s : State) (n : Nat) (cond : Bool) (item detail : Nat) {k : Nat} (hk : loudReg k = false) :
    (s.faultLevel n cond item detail).reg k = s.reg k := by
  unfold State.faultLevel
  split
  · split
    · rfl
    · exact s.faultUp_reg n item detail hk
  · rw [State.faultDown_reg]

theorem State.faultLevel_count (s : State) (n : Nat) (cond : Bool) (item detail : Nat) {k : Nat} (hk : loudCounter k = false) :
    (s.faultLevel n cond item detail).count k = s.count k := by
  unfold State.faultLevel
  split
  · split
    · rfl
    · exact s.faultUp_count n item detail hk
  · exact congrFun (State.count_congr ((keep_faultDown s n).same .cnt rfl)) k

/-- The coupler's two faults stand for no port of their own. -/
theorem faultPort_coupler (i : Nat) : faultPort 0x02F i = none ∧ faultPort 0x030 i = none := by
  unfold faultPort
  constructor <;> simp

/-- A register that is none of the routes' is kept when these are worked out afresh. -/
theorem State.routesUpdate_reg (s : State) {k : Nat} (hk : ∀ r, k ≠ Key.ROUTES_ENTRY r) : s.routesUpdate.reg k = s.reg k := by
  unfold State.routesUpdate
  refine foldl_reader (g := fun s => s.reg k) (fun u r => ?_) _ s
  dsimp only
  split
  · rfl
  · exact (State.reg_setReg u _ _ _).trans (if_neg (hk r))

/-- What a coupler's update leaves of a reader `g`: it is enough that its registers, its faults and the routes leave it. -/
theorem State.couplerUpdate_reader {β : Type} {g : State → β} (hstate : ∀ u v, g (State.setReg u Key.COUPLER_STATE v) = g u)
    (hring : ∀ u v, g (State.setReg u Key.COUPLER_FAR_RING v) = g u)
    (hnode : ∀ u v, g (State.setReg u Key.COUPLER_PARTNER_NODE v) = g u) (hdisc : ∀ (u : State) d, g { u with disc := d } = g u)
    (hroutes : ∀ u, g (State.routesUpdate u) = g u)
    (hlevel : ∀ u n cond item detail, n = 0x02F ∨ n = 0x030 → g (State.faultLevel u n cond item detail) = g u) (s : State) :
    g s.couplerUpdate = g s := by
  have hdown (u : State) (n : Nat) (hn : n = 0x02F ∨ n = 0x030) : g (u.faultDown n) = g u := hlevel u n false 0 0 hn
  unfold State.couplerUpdate
  split
  · split
    · rfl
    · rw [hroutes, hdown _ _ (Or.inr rfl), hdown _ _ (Or.inl rfl), hstate]
  · extract_lets up ringed far partner same st paired moved advert stated
    clear_value partner
    have hringed : g ringed = g s := by
      unfold ringed
      split
      · exact hring s _
      · rfl
    have hpaired : g paired = g s := by
      unfold paired
      split
      · exact (hnode _ _).trans hringed
      · exact hringed
    have hstated : g stated = g s := by
      unfold stated
      split
      · exact hpaired
      · exact (hdisc moved _).trans ((hstate _ _).trans hpaired)
    rw [hroutes, hlevel _ _ _ _ _ (Or.inr rfl), hlevel _ _ _ _ _ (Or.inl rfl), hstated]

/-- Registers that no change of a link writes but the port's own: none that a fault, the coupler or the routes write. -/
def LinkPlain (k : Nat) : Prop := loudReg k = false ∧
  (k ≠ Key.COUPLER_STATE ∧ k ≠ Key.COUPLER_FAR_RING ∧ k ≠ Key.COUPLER_PARTNER_NODE) ∧ ∀ r, k ≠ Key.ROUTES_ENTRY r

/-- A fabric port's registers but PORT_STATE are of that kind. -/
theorem linkPlain_port {f j : Nat} (hf : f < 4) (hj : j < 256) (hne : j ≠ 6) : LinkPlain (obj (0x110 + f) j) := by
  refine ⟨?_, ⟨?_, ?_, ?_⟩, fun r => ?_⟩
  · simp only [loudReg, obj, Bool.or_eq_false_iff, beq_eq_false_iff_ne, Bool.and_eq_false_iff]
    omega
  all_goals simp only [obj]; omega

theorem State.couplerUpdate_reg (s : State) {k : Nat} (hplain : LinkPlain k) : s.couplerUpdate.reg k = s.reg k := by
  obtain ⟨hk, ⟨hstate, hring, hnode⟩, hroute⟩ := hplain
  refine State.couplerUpdate_reader (g := fun u => u.reg k) (fun u v => ?_) (fun u v => ?_) (fun u v => ?_) (fun _ _ => rfl)
    (fun u => u.routesUpdate_reg hroute) (fun u n cond item detail _ => ?_) s
  · exact (State.reg_setReg u _ _ v).trans (if_neg hstate)
  · exact (State.reg_setReg u _ _ v).trans (if_neg hring)
  · exact (State.reg_setReg u _ _ v).trans (if_neg hnode)
  · exact u.faultLevel_reg n cond item detail hk

/-- A coupler's update sets no port's state; its faults stop none (R79, R82). -/
theorem State.couplerUpdate_portState (s : State) {f : Nat} (hf : f < 4) :
    s.couplerUpdate.reg (Key.PORT_STATE f) = s.reg (Key.PORT_STATE f) := by
  refine State.couplerUpdate_reader (g := fun u => u.reg (Key.PORT_STATE f)) (fun u v => ?_) (fun u v => ?_) (fun u v => ?_)
    (fun _ _ => rfl) (fun u => u.routesUpdate_reg fun r => ?_) (fun u n cond item detail hn => ?_) s
  · exact (State.reg_setReg u _ _ v).trans (if_neg (by simp only [obj]; omega))
  · exact (State.reg_setReg u _ _ v).trans (if_neg (by simp only [obj]; omega))
  · exact (State.reg_setReg u _ _ v).trans (if_neg (by simp only [obj]; omega))
  · simp only [obj]; omega
  · refine u.faultLevel_portState cond detail (fun i => ?_) f
    obtain rfl | rfl := hn
    · exact (faultPort_coupler i).1
    · exact (faultPort_coupler i).2

theorem State.couplerUpdate_count (s : State) {k : Nat} (hk : loudCounter k = false) : s.couplerUpdate.count k = s.count k :=
  State.couplerUpdate_reader (g := fun u => u.count k) (fun _ _ => rfl) (fun _ _ => rfl) (fun _ _ => rfl) (fun _ _ => rfl)
    (fun u => congrFun (State.count_congr ((keep_routesUpdate u).same .cnt rfl)) k)
    (fun u n cond item detail _ => u.faultLevel_count n cond item detail hk) s

/-- The port's new state as it stands before anything follows it. -/
def State.linkSet (s : State) (f st : Nat) : State :=
  let round := decide (f ≤ 1) && (s.reg (Key.PORT_STATE f) != st) && (st == 4 || s.up f)
  let t := (s.setReg (Key.PORT_STATE f) st).setLink f (fun l => { l with since := s.lmc })
  { t with disc := { t.disc with want := t.disc.want || round, advertDue := t.disc.advertDue || f == 3 } }

theorem State.linkTo_eq (s : State) (f st : Nat) : s.linkTo f st = (let t := s.linkSet f st
    let u := if f = 3 then t.couplerUpdate else t
    if (s.reg (Key.PORT_STATE f) != st) = true then u.raise (680 + f) st else u) := rfl

/-- What the state's change leaves of a reader `g`: the coupler's update and the event have to leave it. -/
theorem State.linkTo_reader {β : Type} {g : State → β} (hcoupler : ∀ u, g (State.couplerUpdate u) = g u)
    (hraise : ∀ u n d, g (State.raise u n d) = g u) (s : State) (f st : Nat) : g (s.linkTo f st) = g (s.linkSet f st) := by
  have hupdated : g (if f = 3 then (s.linkSet f st).couplerUpdate else s.linkSet f st) = g (s.linkSet f st) := by
    split
    · exact hcoupler _
    · rfl
  rw [State.linkTo_eq]
  dsimp only
  split
  · exact (hraise _ _ _).trans hupdated
  · exact hupdated

/-- A change of a port's state ends in that state (Table 2.3). -/
theorem State.linkTo_state (s : State) {f : Nat} (hf : f < 4) (st : Nat) : (s.linkTo f st).reg (Key.PORT_STATE f) = st := by
  refine (State.linkTo_reader (g := fun u => u.reg (Key.PORT_STATE f)) (fun u => u.couplerUpdate_portState hf)
    (fun u n d => congrFun (u.raise_reg n d) _) s f st).trans ?_
  exact (State.reg_setReg s _ _ st).trans (if_pos rfl)

/-- A register of the port other than its state is kept by the state's change. -/
theorem State.linkTo_reg (s : State) {f k : Nat} (st : Nat) (hplain : LinkPlain k) (hne : k ≠ Key.PORT_STATE f) :
    (s.linkTo f st).reg k = s.reg k := by
  refine (State.linkTo_reader (g := fun u => u.reg k) (fun u => u.couplerUpdate_reg hplain)
    (fun u n d => congrFun (u.raise_reg n d) _) s f st).trans ?_
  exact (State.reg_setReg s _ _ st).trans (if_neg hne)

theorem State.linkTo_count (s : State) {f k : Nat} (st : Nat) (hk : loudCounter k = false) : (s.linkTo f st).count k = s.count k :=
  State.linkTo_reader (g := fun u => u.count k) (fun u => u.couplerUpdate_count hk)
    (fun u n d => u.raise_count n d (trafficCounter_of_loud hk)) s f st

theorem State.link_setLink_same (s : State) (f : Nat) (x : LinkSt → LinkSt) : (s.setLink f x).link f = x (s.link f) :=
  cellGet_cellSet_same _ _ _ _

/-- The link notes the instant of the change, and nothing else of it changes. -/
theorem State.linkTo_link (s : State) (f st : Nat) : (s.linkTo f st).link f = { s.link f with since := s.lmc } := by
  refine (State.linkTo_reader (g := fun u => u.link f)
    (fun u => congrFun (State.link_congr ((keep_couplerUpdate u).same .links rfl)) f)
    (fun u n d => congrFun (State.link_congr ((keep_raise u n d).same .links rfl)) f) s f st).trans ?_
  exact State.link_setLink_same (s.setReg (Key.PORT_STATE f) st) f (fun l => { l with since := s.lmc })

/-- Leaving UP clears the version and is a fault; no other register of the port changes with it (Table 2.3). -/
theorem State.leaveUp_reg (s : State) {f k : Nat} (hplain : LinkPlain k) (hne : k ≠ Key.PORT_VERSION f) :
    (s.leaveUp f).reg k = s.reg k := by
  have hcut (u : State) : (u.cutIngress f).reg = u.reg := State.reg_congr ((keep_cutIngress u f).same .regs rfl)
  unfold State.leaveUp
  split
  · rw [State.faultUp_reg _ _ _ _ hplain.1, hcut]
    exact (State.reg_setReg s _ _ 0).trans (if_neg hne)
  · rfl

theorem State.leaveUp_count (s : State) {f k : Nat} (hk : loudCounter k = false) (hne : k ≠ Key.COUNT_LINK_DOWNS f) :
    (s.leaveUp f).count k = s.count k := by
  have hcut (u : State) : (u.cutIngress f).count = u.count := State.count_congr ((keep_cutIngress u f).same .cnt rfl)
  unfold State.leaveUp
  split
  · rw [State.faultUp_count _ _ _ _ hk, hcut]
    exact (State.count_bump (s.setReg (Key.PORT_VERSION f) 0) _ _).trans (if_neg hne)
  · rfl

theorem State.leaveUp_links (s : State) (f : Nat) : (s.leaveUp f).links = s.links := (keep_leaveUp s f).same .links rfl

/-- A link that goes down, from any state but DISABLED, is in the state of detection again (Table 2.3). -/
theorem State.linkDown_eq {s : State} {f : Nat} (h : s.reg (Key.PORT_STATE f) ≠ 0) : s.linkDown f =
    ((((s.leaveUp f).faultDown (0x00C + f)).setReg (Key.PORT_RATE f) 0).setReg (Key.PORT_FEC_ACTIVE f) 0).linkTo f 1 :=
  if_neg h

theorem State.linkDown_state {s : State} {f : Nat} (hf : f < 4) (h : s.reg (Key.PORT_STATE f) ≠ 0) :
    (s.linkDown f).reg (Key.PORT_STATE f) = 1 := by
  rw [State.linkDown_eq h, State.linkTo_state _ hf]

theorem State.linkDown_reg (s : State) {f k : Nat} (hplain : LinkPlain k)
    (hne : k ≠ Key.PORT_STATE f ∧ k ≠ Key.PORT_RATE f ∧ k ≠ Key.PORT_FEC_ACTIVE f ∧ k ≠ Key.PORT_VERSION f) :
    (s.linkDown f).reg k = s.reg k := by
  obtain ⟨hstate, hrate, hfec, hversion⟩ := hne
  by_cases h : s.reg (Key.PORT_STATE f) = 0
  · exact congrFun (congrArg State.reg (if_pos h)) k
  · rw [State.linkDown_eq h, State.linkTo_reg _ _ hplain hstate, State.reg_setReg, if_neg hfec, State.reg_setReg, if_neg hrate,
      State.faultDown_reg, State.leaveUp_reg s hplain hversion]

theorem State.linkDown_rate {s : State} {f : Nat} (hf : f < 4) (h : s.reg (Key.PORT_STATE f) ≠ 0) :
    (s.linkDown f).reg (Key.PORT_RATE f) = 0 := by
  rw [State.linkDown_eq h, State.linkTo_reg _ _ (linkPlain_port hf (by omega) (by omega)) (obj_ne_of_sub (by decide)),
    State.reg_setReg, if_neg (obj_ne_of_sub (by decide)), State.reg_setReg, if_pos rfl]

theorem State.linkDown_signal (s : State) (f : Nat) : ((s.linkDown f).link f).signal = (s.link f).signal := by
  by_cases h : s.reg (Key.PORT_STATE f) = 0
  · have hsame : s.linkDown f = s := if_pos h
    rw [hsame]
  · have hlinks (u : State) (a b c d : Nat) : ((u.setReg a b).setReg c d).link = u.link := rfl
    have hdown (u : State) (n : Nat) : (u.faultDown n).link = u.link := State.link_congr ((keep_faultDown u n).same .links rfl)
    rw [State.linkDown_eq h, State.linkTo_link, hlinks, hdown, State.link_congr (s.leaveUp_links f)]

/-- What the bypass pins' update leaves of a reader `g`: the pins' registers, their settling, their wear's faults and its
log have to leave it. -/
theorem State.bypUpdate_reader {β : Type} {g : State → β} (hstate : ∀ u pin v, g (State.setReg u (bypState pin) v) = g u)
    (hcycles : ∀ u pin v, g (State.setReg u (bypCycles pin) v) = g u) (hsettle : ∀ (u : State) e, g { u with settleEnds := e } = g u)
    (hlog : ∀ u k d, g (State.logRecord u k d) = g u) (hwear : ∀ u n item, n = 0x001 ∨ n = 0x002 → g (State.occur u n item 0) = g u)
    (s : State) : g s.bypUpdate = g s := by
  have hpass (u old : State) (pin : Nat) : g (u.wearPass old pin) = g u := by
    unfold State.wearPass
    extract_lets c wear life worn
    have hworn : g worn = g u := by
      unfold worn
      split
      · rw [hlog, hwear _ _ _ (Or.inl rfl)]
      · rfl
    split
    · rw [hlog, hwear _ _ _ (Or.inr rfl), hworn]
    · exact hworn
  have hpin (u : State) (pin : Nat) : g (u.bypPin pin) = g u := by
    unfold State.bypPin
    extract_lets on may old c cycled settled logged
    have hcycled : g cycled = g u := (hcycles _ pin _).trans (hstate u pin _)
    have hsettled : g settled = g u := by
      unfold settled
      split
      · exact (hsettle cycled _).trans hcycled
      · exact hcycled
    have hlogged : g logged = g u := by
      unfold logged
      split
      · exact (hlog _ _ _).trans hsettled
      · exact hsettled
    split
    · exact (hpass _ _ _).trans hlogged
    · split
      · exact hstate u pin _
      · rfl
  unfold State.bypUpdate
  rw [hpin, hpin]

/-- A port's register is kept by the bypass pins' update. -/
theorem State.bypUpdate_reg (s : State) {f j : Nat} (hf : f < 4) (hj : j < 256) :
    s.bypUpdate.reg (obj (0x110 + f) j) = s.reg (obj (0x110 + f) j) := by
  have hstate (pin : Nat) : obj (0x110 + f) j ≠ bypState pin := by
    unfold bypState
    split <;> (simp only [obj]; omega)
  have hcycles (pin : Nat) : obj (0x110 + f) j ≠ bypCycles pin := by
    unfold bypCycles
    split <;> (simp only [obj]; omega)
  have hport (n i : Nat) (hn : n = 0x001 ∨ n = 0x002) : faultPort n i = none := by
    unfold faultPort
    obtain rfl | rfl := hn <;> simp
  refine State.bypUpdate_reader (g := fun u => u.reg (obj (0x110 + f) j)) (fun u pin v => ?_) (fun u pin v => ?_)
    (fun _ _ => rfl) (fun _ _ _ => rfl) (fun u n item hn => ?_) s
  · exact (State.reg_setReg u _ _ v).trans (if_neg (hstate pin))
  · exact (State.reg_setReg u _ _ v).trans (if_neg (hcycles pin))
  · by_cases hsub : j = 6
    · subst hsub
      exact u.occur_portState 0 (fun i => hport n i hn) f
    · exact u.occur_reg _ _ _ (linkPlain_port hf hj hsub).1

theorem State.linkDisable_state (s : State) {f : Nat} (hf : f < 4) : (s.linkDisable f).reg (Key.PORT_STATE f) = 0 := by
  unfold State.linkDisable
  split
  · assumption
  · exact State.linkTo_state _ hf 0

theorem State.linkDisable_enable (s : State) {f : Nat} (hf : f < 4) :
    (s.linkDisable f).reg (Key.PORT_ENABLE f) = s.reg (Key.PORT_ENABLE f) := by
  have hplain : LinkPlain (Key.PORT_ENABLE f) := linkPlain_port hf (by omega) (by omega)
  unfold State.linkDisable
  split
  · rfl
  · rw [State.linkTo_reg _ _ hplain (obj_ne_of_sub (by decide)), State.faultDown_reg, State.linkDown_reg _ hplain ⟨obj_ne_of_sub (by decide),
      obj_ne_of_sub (by decide), obj_ne_of_sub (by decide), obj_ne_of_sub (by decide)⟩]

theorem State.store_reg_other (s : State) (k v : Nat) {j : Nat} (hj : j ≠ k) (hdirty : j ≠ Key.PARAM_DIRTY) :
    (s.store k v).reg j = s.reg j := by
  unfold State.store
  extract_lets v' s'
  have hset : s'.reg j = s.reg j := (State.reg_setReg s _ _ v').trans (if_neg hj)
  split
  · rw [State.reg_setReg, if_neg hdirty, hset]
  · exact hset

theorem maskValue_zero (k : Nat) : maskValue k 0 = 0 := by
  unfold maskValue
  split
  · rfl
  · simp

theorem gives_portDisable {s : State} {w : Writer} {f : Fin 4} (haccepts : Accepts s w (Key.PORT_ENABLE f) 0) :
    Gives (.portEnableWrite w f 0) s fun t => t.reg (Key.PORT_ENABLE f) = 0 ∧ t.reg (Key.PORT_STATE f) = 0 := by
  refine gives_write (c := .portEnableWrite w f 0) rfl haccepts rfl fun t hquiet => ?_
  rw [hquiet.reg, hquiet.reg]
  unfold State.portEnable
  dsimp only
  rw [if_pos rfl, State.bypUpdate_reg _ f.isLt (by omega), State.bypUpdate_reg _ f.isLt (by omega)]
  exact ⟨(State.linkDisable_enable _ f.isLt).trans ((State.store_reg_self _ _ _ (by simp only [obj]; omega)).trans
    (maskValue_zero _)),
    State.linkDisable_state _ f.isLt⟩

theorem gives_portHoldoff {s : State} {w : Writer} {f : Fin 4} {v : Nat} (haccepts : Accepts s w (Key.PORT_HOLDOFF_MS f) v)
    (hon : s.reg (Key.PORT_STATE f) ≠ 0) : Gives (.portSettingWrite w f .holdoff v) s fun t =>
      t.reg (Key.PORT_HOLDOFF_MS f) = maskValue (Key.PORT_HOLDOFF_MS f) v ∧ t.reg (Key.PORT_STATE f) = 1 := by
  refine gives_write (c := .portSettingWrite w f .holdoff v) rfl haccepts rfl fun t hquiet => ?_
  have hon' : (s.store (settingKey f .holdoff) v).reg (Key.PORT_STATE f) ≠ 0 := by
    have hkept : (s.store (Key.PORT_HOLDOFF_MS f) v).reg (Key.PORT_STATE f) = s.reg (Key.PORT_STATE f) :=
      State.store_reg_other _ _ _ (obj_ne_of_sub (by decide)) (by simp only [obj]; omega)
    exact fun h => hon (hkept.symm.trans h)
  rw [hquiet.reg, hquiet.reg, State.linkDown_state f.isLt hon', State.linkDown_reg _ (linkPlain_port f.isLt (by omega) (by omega))
    ⟨obj_ne_of_sub (by decide), obj_ne_of_sub (by decide), obj_ne_of_sub (by decide), obj_ne_of_sub (by decide)⟩]
  exact ⟨State.store_reg_self s (Key.PORT_HOLDOFF_MS f) v (by simp only [obj]; omega), rfl⟩

theorem gives_versionRange {s : State} {w : Writer} {v : Nat} (haccepts : Accepts s w Key.LINK_MAX_VERSION v)
    (hmin : s.reg Key.LINK_MIN_VERSION ≤ v) : Gives (.versionRangeWrite w true v) s fun t =>
      t.reg Key.LINK_MAX_VERSION = maskValue Key.LINK_MAX_VERSION v := by
  have hcheck : versionCheck true v s = none := if_neg (by simp [hmin])
  have hplain : LinkPlain Key.LINK_MAX_VERSION := by
    refine ⟨by decide, by decide, fun r => ?_⟩
    simp only [obj]; omega
  have hretry (u : State) : u.retryVersions.reg Key.LINK_MAX_VERSION = u.reg Key.LINK_MAX_VERSION := by
    unfold State.retryVersions
    refine foldl_reader (g := fun u => u.reg Key.LINK_MAX_VERSION) (fun u f => ?_) _ u
    split
    · refine State.linkDown_reg u hplain ⟨?_, ?_, ?_, ?_⟩
      all_goals simp only [obj]; omega
    · rfl
  refine gives_write (c := .versionRangeWrite w true v) rfl haccepts hcheck fun t hquiet => ?_
  rw [hquiet.reg, hretry]
  exact State.store_reg_self _ _ _ (by decide)

theorem gives_signalDetected {s : State} {f : Fin 4} (hon : s.logicOn = true) (hdown : s.reg (Key.PORT_STATE f) = 1)
    (hmodule : s.moduleOk f = true) (hsettled : s.settled f = true) : Gives (.signalDetected f) s fun t =>
      (t.link f).signal = true ∧ t.reg (Key.PORT_STATE f) = 2 := by
  have hsignal := State.link_setLink_same s f (fun l => { l with signal := true })
  have hexec : exec (.signalDetected f) s = .next ((s.setLink f (fun l => { l with signal := true })).tryLock f) := by
    change execSignalDetected f s = _
    unfold execSignalDetected
    rw [if_neg (by simp [hon])]
  refine gives_next hexec ?_
  have hmodule' : (s.setLink f (fun l => { l with signal := true })).moduleOk f = true := by
    unfold State.moduleOk at hmodule ⊢
    rw [hsignal]
    exact hmodule
  have hsettled' : (s.setLink f (fun l => { l with signal := true })).settled f = true := hsettled
  have hdown' : (s.setLink f (fun l => { l with signal := true })).reg (Key.PORT_STATE f) = 1 := hdown
  generalize s.setLink f (fun l => { l with signal := true }) = u at hsignal hmodule' hsettled' hdown' ⊢
  have hlocks : u.tryLock f = (u.attempt f (u.firstMode f)).linkTo f 2 :=
    if_pos ⟨hdown', by rw [hsignal], hmodule', hsettled'⟩
  have hattempt (m : Nat) : ((u.attempt f m).link f).signal = (u.link f).signal := by
    unfold State.attempt State.fresh
    dsimp only
    rw [State.link_setLink_same]
    rfl
  rw [hlocks, State.linkTo_link, State.linkTo_state _ f.isLt]
  exact ⟨(hattempt _).trans (by rw [hsignal]), rfl⟩

theorem State.up_state {s : State} {f : Nat} (h : s.up f = true) : s.reg (Key.PORT_STATE f) = 4 := by
  unfold State.up at h
  exact of_decide_eq_true (by simpa using h)

theorem gives_signalLost {s : State} {f : Fin 4} (hon : s.logicOn = true) (hup : s.up f = true) :
    Gives (.signalLost f) s fun t => (t.link f).signal = false ∧ t.reg (Key.PORT_STATE f) = 1 := by
  have hsignal := State.link_setLink_same s f (fun l => { l with signal := false })
  have hstate : (s.setLink f (fun l => { l with signal := false })).reg (Key.PORT_STATE f) = 4 := State.up_state hup
  have hexec : exec (.signalLost f) s = .next ((s.setLink f (fun l => { l with signal := false })).linkDown f) := by
    change execSignalLost f s = _
    unfold execSignalLost
    dsimp only
    rw [if_neg (by simp [hon]), if_pos (by rw [hstate]; decide)]
  refine gives_next hexec ?_
  rw [State.linkDown_signal, hsignal, State.linkDown_state f.isLt (by rw [hstate]; decide)]
  exact ⟨rfl, rfl⟩

/-- Every port's registers but its state's are plain ones, so that PORT_STATE is told apart by its subindex. -/
theorem State.linkTo_portReg (s : State) {f j : Nat} (st : Nat) (hf : f < 4) (hj : j < 256) (hne : j ≠ 6) :
    (s.linkTo f st).reg (obj (0x110 + f) j) = s.reg (obj (0x110 + f) j) := by
  refine s.linkTo_reg st (linkPlain_port hf hj hne) ?_
  simp only [obj]; omega

theorem gives_blockLock {s : State} {f : Fin 4} (hon : s.logicOn = true) (hlocking : s.reg (Key.PORT_STATE f) = 2) :
    Gives (.blockLock f) s fun t => t.reg (Key.PORT_STATE f) = 3 ∧
      t.reg (Key.PORT_RATE f) = (if (s.link f).attempt = 2 then 2 else 1) := by
  have hexec : exec (.blockLock f) s = .next ((((s.setReg (Key.PORT_RATE f) (if (s.link f).attempt = 2 then 2 else 1)).setReg
      (Key.PORT_FEC_ACTIVE f) (b2n ((s.link f).attempt == 0))).setLink f (fun l => { l with sentAt := none })).linkTo f 3) := by
    change execBlockLock f s = _
    unfold execBlockLock
    rw [if_pos ⟨hon, hlocking⟩]
  refine gives_next hexec ⟨State.linkTo_state _ f.isLt 3, ?_⟩
  rw [State.linkTo_portReg _ _ f.isLt (by omega) (by omega)]
  have hlink (u : State) (g : LinkSt → LinkSt) : (u.setLink f g).reg = u.reg := rfl
  rw [hlink, State.reg_setReg, if_neg (obj_ne_of_sub (by decide)), State.reg_setReg, if_pos rfl]

theorem State.attempt_keeps (s : State) (f m : Nat) : ((s.attempt f m).link f).attempt = m ∧
    (s.attempt f m).lmc + 10000000 ≤ ((s.attempt f m).link f).attemptEnds ∧
    ((s.attempt f m).link f).attemptEnds ≤ (s.attempt f m).lmc + 13000000 ∧ (s.attempt f m).regs = s.regs := by
  have hdelay : Config.freeValue s.free % 3000001 ≤ 3000000 := Nat.le_of_lt_succ (Nat.mod_lt _ (by decide))
  have hlink : (s.attempt f m).link f = { s.link f with
      attempt := m, attemptEnds := s.lmc + 10000000 + Config.freeValue s.free % 3000001 } :=
    State.link_setLink_same s.freed f _
  have hlmc : (s.attempt f m).lmc = s.lmc := rfl
  rw [hlink, hlmc]
  generalize Config.freeValue s.free % 3000001 = r at hdelay ⊢
  refine ⟨rfl, Nat.le_add_right _ _, ?_, rfl⟩
  dsimp only
  omega

theorem gives_modeAttemptExpiry {s : State} {f : Fin 4} (hon : s.logicOn = true) (hlocking : s.reg (Key.PORT_STATE f) = 2) :
    Gives (.modeAttemptExpiry f) s fun t => (t.link f).attempt = s.nextMode f ∧
      t.lmc + 10000000 ≤ (t.link f).attemptEnds ∧ (t.link f).attemptEnds ≤ t.lmc + 13000000 ∧ t.regs = s.regs := by
  have hexec : exec (.modeAttemptExpiry f) s = .next ((s.until (s.link f).attemptEnds).attempt f (s.nextMode f)) := by
    change execModeAttemptExpiry f s = _
    unfold execModeAttemptExpiry
    rw [if_pos ⟨hon, hlocking⟩]
  refine gives_next hexec ?_
  have hregs : (s.until (s.link f).attemptEnds).regs = s.regs := (keep_until s _).same .regs rfl
  obtain ⟨hmode, hleast, hmost, hkept⟩ := (s.until (s.link f).attemptEnds).attempt_keeps f (s.nextMode f)
  exact ⟨hmode, hleast, hmost, hkept.trans hregs⟩

/-- The hello is noted and queued at its port (R40). -/
def State.helloSent (s : State) (f : Nat) : State :=
  let t := s.setLink f (fun l => { l with sentAt := some s.lmc })
  if f = 2 ∧ t.up 2 then t.sendTie (helloFrame s f) else t.enqueue f { frame := helloFrame s f, bytes := frameBytes (helloFrame s f) }

/-- The instant of the next hello: at once the first time, then a period after the last. -/
def State.helloDue (s : State) (f period : Nat) : State := match (s.link f).sentAt with
  | none => s
  | some t => s.until (t + period)

theorem State.helloDue_keeps (s : State) (f period : Nat) : (s.helloDue f period).regs = s.regs ∧
    (s.helloDue f period).faults = s.faults := by
  unfold State.helloDue
  split
  · exact ⟨rfl, rfl⟩
  · exact ⟨(keep_until s _).same .regs rfl, (keep_until s _).same .faults rfl⟩

theorem State.helloSent_keeps (s : State) (f : Nat) : ((s.helloSent f).link f).sentAt = some s.lmc ∧
    (s.helloSent f).lmc = s.lmc ∧ (s.helloSent f).regs = s.regs ∧ (s.helloSent f).faults = s.faults := by
  have hnoted := State.link_setLink_same s f (fun l => { l with sentAt := some s.lmc })
  have hlmc : (s.setLink f (fun l => { l with sentAt := some s.lmc })).lmc = s.lmc := rfl
  have hregs : (s.setLink f (fun l => { l with sentAt := some s.lmc })).regs = s.regs := rfl
  have hfaults : (s.setLink f (fun l => { l with sentAt := some s.lmc })).faults = s.faults := rfl
  unfold State.helloSent
  generalize helloFrame s f = h
  generalize s.setLink f (fun l => { l with sentAt := some s.lmc }) = t at hnoted hlmc hregs hfaults ⊢
  dsimp only
  split
  · have hsend := keep_sendTie t h
    rw [State.link_congr (hsend.same .links rfl), State.lmc_congr (hsend.same .clock rfl), hnoted]
    exact ⟨rfl, hlmc, (hsend.same .regs rfl).trans hregs, (hsend.same .faults rfl).trans hfaults⟩
  · have hsend (e : TxEntry) := keep_enqueue t f e
    rw [State.link_congr ((hsend _).same .links rfl), State.lmc_congr ((hsend _).same .clock rfl), hnoted]
    exact ⟨rfl, hlmc, ((hsend _).same .regs rfl).trans hregs, ((hsend _).same .faults rfl).trans hfaults⟩

theorem gives_linkHelloSend {s : State} {f : Fin 4} (hon : s.logicOn = true) (hhello : s.reg (Key.PORT_STATE f) = 3) :
    Gives (.linkHelloSend f) s fun t => (t.link f).sentAt = some t.lmc ∧ t.regs = s.regs ∧ t.faults = s.faults := by
  have hexec : exec (.linkHelloSend f) s = .next ((s.helloDue f (helloPeriod (s.reg (Key.PORT_STATE f)))).helloSent f) := by
    change execLinkHelloSend f s = _
    unfold execLinkHelloSend
    dsimp only
    rw [if_pos ⟨hon, by rw [hhello]; decide⟩]
    rfl
  refine gives_next hexec ?_
  obtain ⟨hregs, hfaults⟩ := s.helloDue_keeps f (helloPeriod (s.reg (Key.PORT_STATE f)))
  generalize s.helloDue f (helloPeriod (s.reg (Key.PORT_STATE f))) = u at hregs hfaults ⊢
  obtain ⟨hsent, hlmc, hregs', hfaults'⟩ := u.helloSent_keeps f
  exact ⟨hsent.trans (congrArg some hlmc.symm), hregs'.trans hregs, hfaults'.trans hfaults⟩

/-- A hello that stays out is counted and the link's failures go up (Table 2.3). -/
def State.helloMissed (s : State) (f : Nat) : State :=
  (s.bump (Key.COUNT_HELLO_TIMEOUTS f)).setLink f (fun l => { l with failures := l.failures + 1 })

theorem State.helloMissed_keeps (s : State) (f : Nat) : ((s.helloMissed f).link f).failures = (s.link f).failures + 1 ∧
    (s.helloMissed f).count (Key.COUNT_HELLO_TIMEOUTS f) = s.count (Key.COUNT_HELLO_TIMEOUTS f) + 1 := by
  unfold State.helloMissed
  rw [State.link_setLink_same]
  exact ⟨rfl, (State.count_bump s _ _).trans (if_pos rfl)⟩

/-- A hold-off keeps the failures it waits for and counts nothing. -/
theorem State.holdoff_keeps (s : State) {f : Nat} (hf : f < 4) (tx : Bool) : (s.holdoff f tx).reg (Key.PORT_STATE f) = 5 ∧
    ((s.holdoff f tx).link f).failures = (s.link f).failures ∧
    ∀ {k : Nat}, loudCounter k = false → (s.holdoff f tx).count k = s.count k := by
  unfold State.holdoff
  dsimp only
  refine ⟨State.linkTo_state _ hf 5, ?_, fun hk => State.linkTo_count _ 5 hk⟩
  rw [State.linkTo_link, State.link_setLink_same]

theorem gives_helloTimeout {s : State} {f : Fin 4} (hon : s.logicOn = true) (hhello : s.reg (Key.PORT_STATE f) = 3) :
    Gives (.helloTimeout f) s fun t => t.reg (Key.PORT_STATE f) = 5 ∧ (t.link f).failures = (s.link f).failures + 1 ∧
      t.count (Key.COUNT_HELLO_TIMEOUTS f) = s.count (Key.COUNT_HELLO_TIMEOUTS f) + 1 := by
  have hexec : exec (.helloTimeout f) s = .next (((s.until ((s.link f).since + 10000000)).helloMissed f).holdoff f false) := by
    change execHelloTimeout f s = _
    unfold execHelloTimeout
    rw [if_pos ⟨hon, hhello⟩]
    rfl
  have hloud : loudCounter (Key.COUNT_HELLO_TIMEOUTS f) = false := by
    fin_cases f <;> decide
  refine gives_next hexec ?_
  generalize (s.link f).since + 10000000 = due
  have hlink : (s.until due).link = s.link := State.link_congr ((keep_until s due).same .links rfl)
  have hcount : (s.until due).count = s.count := State.count_congr ((keep_until s due).same .cnt rfl)
  obtain ⟨hfailures, hmissed⟩ := (s.until due).helloMissed_keeps f
  obtain ⟨hstate, hkept, hcounted⟩ := ((s.until due).helloMissed f).holdoff_keeps f.isLt false
  rw [hlink] at hfailures
  rw [hcount] at hmissed
  exact ⟨hstate, hkept.trans hfailures, (hcounted hloud).trans hmissed⟩

theorem gives_keepaliveTimeout {s : State} {f : Fin 4} (hon : s.logicOn = true) (hup : s.up f = true) :
    Gives (.keepaliveTimeout f) s fun t => t.reg (Key.PORT_STATE f) = 1 ∧ t.reg (Key.PORT_RATE f) = 0 := by
  have hexec : ∃ due, exec (.keepaliveTimeout f) s = .next ((s.until due).linkDown f) := by
    refine ⟨max (s.link f).since ((s.link f).heardAt.getD 0) + 3000000, ?_⟩
    change execKeepaliveTimeout f s = _
    unfold execKeepaliveTimeout
    rw [if_pos ⟨hon, hup⟩]
  obtain ⟨due, hexec⟩ := hexec
  have hstate : (s.until due).reg (Key.PORT_STATE f) ≠ 0 := by
    rw [State.reg_congr ((keep_until s due).same .regs rfl), State.up_state hup]
    decide
  exact gives_next hexec ⟨State.linkDown_state f.isLt hstate, State.linkDown_rate f.isLt hstate⟩

/-- The end of a hold-off, the transmitter pulsed off after a fault of it (Table 2.2). -/
def State.holdoffEnded (s : State) (f : Nat) : State :=
  if ((s.until (s.link f).holdoffEnds).link f).txFaultHold then
    (s.until (s.link f).holdoffEnds).setLink f (fun l => { l with txFaultHold := false, txdisPulses := l.txdisPulses + 1 })
  else s.until (s.link f).holdoffEnds

theorem gives_holdoffExpiry {s : State} {f : Fin 4} (hon : s.logicOn = true) (hholdoff : s.reg (Key.PORT_STATE f) = 5) :
    Gives (.holdoffExpiry f) s fun t => t.reg (Key.PORT_STATE f) = 1 := by
  have hexec : exec (.holdoffExpiry f) s = .next ((s.holdoffEnded f).linkTo f 1) := by
    change execHoldoffExpiry f s = _
    unfold execHoldoffExpiry
    rw [if_pos ⟨hon, hholdoff⟩]
    rfl
  exact gives_next hexec (State.linkTo_state _ f.isLt 1)

/-- What a valid hello tells of its sender is shown and noted (R40). -/
def State.helloNoted (s : State) (f : Nat) (p : List Byte) : State :=
  ((((s.setReg (Key.PORT_PEER_FLAGS f) (beAt p 1 1)).setReg (Key.PORT_PEER_PORT f) (beAt p 4 1)).setReg
    (Key.PORT_PEER_STATION f) (beAt p 6 2)).setReg (Key.PORT_PEER_SERIAL f) (beAt p 8 8)).setLink f
    (fun l => { l with heardAt := some s.lmc, peerMin := beAt p 2 1, peerMax := beAt p 3 1 })

theorem State.helloNoted_reg (s : State) (f : Nat) (p : List Byte) (k : Nat) : (s.helloNoted f p).reg k =
    if k = Key.PORT_PEER_SERIAL f then beAt p 8 8 else if k = Key.PORT_PEER_STATION f then beAt p 6 2
    else if k = Key.PORT_PEER_PORT f then beAt p 4 1 else if k = Key.PORT_PEER_FLAGS f then beAt p 1 1 else s.reg k := by
  have hlink (u : State) (g : LinkSt → LinkSt) : (u.setLink f g).reg = u.reg := rfl
  unfold State.helloNoted
  rw [hlink, State.reg_setReg, State.reg_setReg, State.reg_setReg, State.reg_setReg]

theorem State.helloNoted_heard (s : State) (f : Nat) (p : List Byte) : ((s.helloNoted f p).link f).heardAt = some s.lmc := by
  unfold State.helloNoted
  rw [State.link_setLink_same]

/-- The link comes up with the version agreed: its registers stand, its failures are forgotten (Table 2.3). -/
def State.linkAgreed (s : State) (f ver : Nat) : State :=
  let t := (s.setReg (Key.PORT_VERSION f) ver).setLink f (fun l => { l with failures := 0 })
  if f = 2 then { t with tie := {} } else t

theorem State.linkUp_eq (s : State) (f ver : Nat) : s.linkUp f ver =
    ((((s.linkAgreed f ver).linkTo f 4).faultDown (0x004 + f)).faultDown (0x018 + f)).loadCopper := rfl

theorem State.linkAgreed_keeps (s : State) (f ver : Nat) : (s.linkAgreed f ver).reg (Key.PORT_VERSION f) = ver ∧
    (s.linkAgreed f ver).reg (Key.PORT_PEER_SERIAL f) = s.reg (Key.PORT_PEER_SERIAL f) ∧
    ((s.linkAgreed f ver).link f).heardAt = (s.link f).heardAt := by
  have hlink := State.link_setLink_same (s.setReg (Key.PORT_VERSION f) ver) f (fun l => { l with failures := 0 })
  have hversion : (s.setReg (Key.PORT_VERSION f) ver).reg (Key.PORT_VERSION f) = ver := (State.reg_setReg s _ _ ver).trans (if_pos rfl)
  have hserial : (s.setReg (Key.PORT_VERSION f) ver).reg (Key.PORT_PEER_SERIAL f) = s.reg (Key.PORT_PEER_SERIAL f) :=
    (State.reg_setReg s _ _ ver).trans (if_neg (obj_ne_of_sub (by decide)))
  have hheard : (((s.setReg (Key.PORT_VERSION f) ver).setLink f (fun l => { l with failures := 0 })).link f).heardAt =
      (s.link f).heardAt := by
    rw [hlink]
    rfl
  unfold State.linkAgreed
  dsimp only
  split
  · exact ⟨hversion, hserial, hheard⟩
  · exact ⟨hversion, hserial, hheard⟩

theorem State.linkUp_keeps (s : State) {f : Nat} (hf : f < 4) (ver : Nat) : (s.linkUp f ver).reg (Key.PORT_STATE f) = 4 ∧
    (s.linkUp f ver).reg (Key.PORT_VERSION f) = ver ∧
    (s.linkUp f ver).reg (Key.PORT_PEER_SERIAL f) = s.reg (Key.PORT_PEER_SERIAL f) ∧
    ((s.linkUp f ver).link f).heardAt = (s.link f).heardAt := by
  have hcopper (u : State) : u.loadCopper.reg = u.reg ∧ u.loadCopper.link = u.link := ⟨rfl, rfl⟩
  have hdown (u : State) (n : Nat) : (u.faultDown n).link = u.link := State.link_congr ((keep_faultDown u n).same .links rfl)
  obtain ⟨hversion, hserial, hheard⟩ := s.linkAgreed_keeps f ver
  rw [State.linkUp_eq, (hcopper _).1, (hcopper _).2, State.faultDown_reg, State.faultDown_reg, hdown, hdown,
    State.linkTo_state _ hf, State.linkTo_portReg _ _ hf (by omega) (by omega), State.linkTo_portReg _ _ hf (by omega) (by omega),
    State.linkTo_link]
  exact ⟨rfl, hversion, hserial, hheard⟩

theorem exec_linkHelloReceived_up {s : State} {f : Fin 4} {h : Frame} {ver : Nat} (hon : s.logicOn = true)
    (hhello : s.reg (Key.PORT_STATE f) = 3) (hvalid : helloValid h = true)
    (hagree : negotiate (s.reg Key.LINK_MIN_VERSION) (s.reg Key.LINK_MAX_VERSION) (beAt h.payload 2 1) (beAt h.payload 3 1) = some ver)
    (hheard : bitOf (beAt h.payload 1 1) 7 = true) :
    exec (.linkHelloReceived f h) s = .next ((s.helloNoted f h.payload).linkUp f ver) := by
  have hrange (k : Nat) (hk : k = Key.LINK_MIN_VERSION ∨ k = Key.LINK_MAX_VERSION) : (s.helloNoted f h.payload).reg k = s.reg k := by
    have hf := f.isLt
    rw [State.helloNoted_reg, if_neg, if_neg, if_neg, if_neg]
    all_goals (obtain rfl | rfl := hk <;> (simp only [obj]; omega))
  have hagree' : negotiate ((s.helloNoted f h.payload).reg Key.LINK_MIN_VERSION) ((s.helloNoted f h.payload).reg Key.LINK_MAX_VERSION)
      (beAt h.payload 2 1) (beAt h.payload 3 1) = some ver := by
    rw [hrange _ (Or.inl rfl), hrange _ (Or.inr rfl), hagree]
  change execLinkHelloReceived f h s = _
  unfold execLinkHelloReceived
  dsimp only
  rw [if_neg (by simp [hon, hvalid, hhello])]
  unfold State.helloNoted at hagree' ⊢
  rw [hagree']
  dsimp only
  rw [if_pos ⟨hhello, hheard⟩]

theorem gives_linkHelloReceived {s : State} {f : Fin 4} {h : Frame} {ver : Nat} (hon : s.logicOn = true)
    (hhello : s.reg (Key.PORT_STATE f) = 3) (hvalid : helloValid h = true)
    (hagree : negotiate (s.reg Key.LINK_MIN_VERSION) (s.reg Key.LINK_MAX_VERSION) (beAt h.payload 2 1) (beAt h.payload 3 1) = some ver)
    (hheard : bitOf (beAt h.payload 1 1) 7 = true) : Gives (.linkHelloReceived f h) s fun t =>
      t.reg (Key.PORT_STATE f) = 4 ∧ t.reg (Key.PORT_VERSION f) = ver ∧ t.reg (Key.PORT_PEER_SERIAL f) = beAt h.payload 8 8 ∧
        (t.link f).heardAt = some s.lmc := by
  refine gives_next (exec_linkHelloReceived_up hon hhello hvalid hagree hheard) ?_
  obtain ⟨hstate, hversion, hserial, hlast⟩ := (s.helloNoted f h.payload).linkUp_keeps f.isLt ver
  rw [hserial, hlast, State.helloNoted_heard, State.helloNoted_reg, if_pos rfl]
  exact ⟨hstate, hversion, rfl, rfl⟩

/-- Settles O10: each event of a fabric port ends in the state Table 2.3 names, whatever faults follow it. -/
theorem linkStates : Obligations.LinkStates := by
  unfold Obligations.LinkStates
  exact ⟨fun _ _ _ => gives_portDisable, fun _ _ _ _ => gives_portHoldoff, fun _ _ _ => gives_versionRange,
    fun _ _ => gives_signalDetected, fun _ _ => gives_signalLost, fun _ _ => gives_blockLock, fun _ _ => gives_modeAttemptExpiry,
    fun _ _ => gives_linkHelloSend, fun _ _ _ _ => gives_linkHelloReceived, fun _ _ => gives_helloTimeout,
    fun _ _ => gives_keepaliveTimeout, fun _ _ => gives_holdoffExpiry⟩

end Sys2Proof.Machine
end

section
/-! PROOFS. IO-Link services and the L+ switches (R187, R188, R251 to R254, R256), O28. -/

namespace Sys2Proof.Machine

open Sys2Proof

theorem State.iol_setIol_same (s : State) (p : Nat) (x : IolSt) : (s.setIol p x).iol p = x := by
  rw [State.iol_setIol, if_pos rfl]

/-- A port's act reports the change of its state and changes nothing itself (R252). -/
theorem State.iolAct_iol (s : State) (p : Nat) (f : State → State) : (s.iolAct p f).iol = (f s).iol := by
  have hraise (u : State) (n d : Nat) : (u.raise n d).iol = u.iol := State.iol_congr ((keep_raise u n d).same .iols rfl)
  unfold State.iolAct
  dsimp only
  split
  · rfl
  · exact hraise _ _ _

theorem State.iolAct_reg (s : State) (p : Nat) (f : State → State) : (s.iolAct p f).reg = (f s).reg := by
  unfold State.iolAct
  dsimp only
  split
  · rfl
  · exact State.raise_reg _ _ _

theorem State.iolAct_queues (s : State) (p : Nat) (f : State → State) : (s.iolAct p f).queues = (f s).queues := by
  unfold State.iolAct
  dsimp only
  split
  · rfl
  · exact (keep_raise _ _ _).same .queues rfl

theorem State.iolAct_count (s : State) (p : Nat) (f : State → State) {k : Nat} (hk : trafficCounter k = false) :
    (s.iolAct p f).count k = (f s).count k := by
  unfold State.iolAct
  dsimp only
  split
  · rfl
  · exact State.raise_count _ _ _ hk

/-- The result an ISDU of the dictionary shows, running or ended (R251). -/
def isduResultWord (result error : Nat) : Nat := 2 * 2 ^ 24 + result * 2 ^ 16 + error % 65536

/-- An ISDU of the dictionary that ends leaves no ISDU and its result word (R251). -/
theorem State.isduEnd_dict (s : State) (p : Nat) {i : IsduSt} (hdict : i.tag = none) (result error : Nat) (data : List Byte) :
    ((s.isduEnd p i result error data).iol p).isdu = none ∧
    (s.isduEnd p i result error data).reg (Key.IOL_ISDU_RESULT p) = isduResultWord result error := by
  have hset (u : State) (v w : Nat) : ((u.setReg (Key.IOL_ISDU_RESULT p) v).setReg (Key.IOL_ISDU_DATA p) w).iol = u.iol ∧
      ((u.setReg (Key.IOL_ISDU_RESULT p) v).setReg (Key.IOL_ISDU_DATA p) w).reg (Key.IOL_ISDU_RESULT p) = v := by
    refine ⟨rfl, ?_⟩
    rw [State.reg_setReg, if_neg (obj_ne_of_sub (by decide)), State.reg_setReg, if_pos rfl]
  unfold State.isduEnd isduResultWord
  simp only [hdict]
  generalize 2 * 2 ^ 24 + result * 2 ^ 16 + error % 65536 = word
  rw [(hset _ _ _).1, (hset _ _ _).2, State.iol_setIol_same]
  exact ⟨rfl, rfl⟩

/-- An ISDU begins: it is noted with its instant, and its result word says that it runs (R251). -/
def State.isduNoted (s : State) (p : Nat) (i : IsduSt) : State :=
  s.setIol p { s.iol p with isdu := some { i with startedAt := s.lmc } }

theorem State.isduBegin_dict (s : State) {p : Nat} {i : IsduSt} (htalks : s.iolTalks p = true) (hdict : i.tag = none) :
    s.isduBegin p i = (s.isduNoted p i).setReg (Key.IOL_ISDU_RESULT p) (2 ^ 24) := by
  unfold State.isduBegin
  rw [if_neg (by simp [htalks])]
  dsimp only
  split
  case h_1 => rfl
  case h_2 _ htag => exact absurd (hdict.symm.trans htag) (by simp)

theorem State.isduBegin_queue (s : State) {p : Nat} {i : IsduSt} {tag : Nat} (htalks : s.iolTalks p = true)
    (hqueue : i.tag = some tag) : s.isduBegin p i = s.isduNoted p i := by
  unfold State.isduBegin
  rw [if_neg (by simp [htalks])]
  dsimp only
  split
  case h_1 htag => exact absurd (hqueue.symm.trans htag) (by simp)
  case h_2 => rfl

theorem State.isduNoted_isdu (s : State) (p : Nat) (i : IsduSt) :
    ((s.isduNoted p i).iol p).isdu = some { i with startedAt := s.lmc } := by
  unfold State.isduNoted
  rw [State.iol_setIol_same]

theorem State.isduRunning_keeps (s : State) (p v : Nat) : (s.setReg (Key.IOL_ISDU_RESULT p) v).iol = s.iol ∧
    (s.setReg (Key.IOL_ISDU_RESULT p) v).reg (Key.IOL_ISDU_RESULT p) = v :=
  ⟨rfl, (State.reg_setReg s _ _ v).trans (if_pos rfl)⟩

theorem Quiet.iol {s t : State} (h : Quiet s t) : t.iol = s.iol := State.iol_congr h.iols

theorem gives_isduRequestWrite {s : State} {w : Writer} {p : Fin 64} {data : List Byte}
    (haccepts : Accepts s w (Key.IOL_ISDU_REQUEST p) 0) (hfree : (s.iol p).isdu = none)
    (hop : beAt data 0 1 = 1 ∨ beAt data 0 1 = 2) (hlen : beAt data 4 2 ≤ 232) (hdata : data.length ≤ 238)
    (htalks : s.iolTalks p = true) : Gives (.isduRequestWrite w p data) s fun t =>
      t.reg (Key.IOL_ISDU_RESULT p) = 2 ^ 24 ∧
      (t.iol p).isdu.map (fun i => (i.index, i.sub, i.startedAt)) = some (beAt data 1 2, beAt data 3 1, s.lmc) := by
  refine gives_write (c := .isduRequestWrite w p data) rfl haccepts (by simp [hfree]) fun t hquiet => ?_
  have hok : ¬ ((beAt data 0 1 ≠ 1 ∧ beAt data 0 1 ≠ 2) ∨ 232 < beAt data 4 2 ∨ 238 < data.length) := by omega
  rw [if_neg hok, State.isduBegin_dict s htalks rfl] at hquiet
  rw [hquiet.reg, hquiet.iol]
  generalize 2 ^ 24 = word
  rw [(State.isduRunning_keeps _ _ _).1, (State.isduRunning_keeps _ _ _).2, State.isduNoted_isdu]
  exact ⟨rfl, rfl⟩

/-- The ISDU a packet of the port's transmit queue asks for (R251). -/
def isduAsked (pk : List QItem) : IsduSt where
  tag := some (headWord pk % 65536)
  op := fld (headWord pk) 63 56
  index := fld (headWord pk) 55 40
  sub := fld (headWord pk) 39 32
  data := (txBytes pk).take (fld (headWord pk) 31 16)

theorem gives_isduQueueRequest {s s' : State} {p : Fin 64} {pk : List QItem} (hfree : (s.iol p).isdu = none)
    (hon : s.logicOn = true) (hmode : s.iolMode p ≠ 0) (hrole : s.role ≠ .standby)
    (htake : s.qTake (iolPan p) (iolQ p + 1) = some (pk, s')) (hop : fld (headWord pk) 63 56 = 1)
    (hlen : fld (headWord pk) 31 16 ≤ 232) (htalks : s'.iolTalks p = true) : Gives (.isduQueueRequest p) s fun t =>
      (t.iol p).isdu.map (fun i => (i.index, i.sub)) = some (fld (headWord pk) 55 40, fld (headWord pk) 39 32) := by
  have hexec : exec (.isduQueueRequest p) s = .next (s'.isduBegin p (isduAsked pk)) := by
    change execIsduQueueRequest p s = _
    unfold execIsduQueueRequest
    dsimp only
    rw [if_neg (by simp [hfree, hon, hmode, hrole]), htake]
    dsimp only
    rw [if_neg (by omega)]
    rfl
  refine gives_next hexec ?_
  rw [State.isduBegin_queue s' htalks rfl, State.isduNoted_isdu]
  rfl

theorem gives_isduComplete_good {s : State} {p : Fin 64} {i : IsduSt} {data : List Byte} (hrun : (s.iol p).isdu = some i)
    (hdict : i.tag = none) : Gives (.isduComplete p 0 data) s fun t =>
      (t.iol p).isdu = none ∧ t.reg (Key.IOL_ISDU_RESULT p) = 2 * 2 ^ 24 := by
  have hexec : exec (.isduComplete p 0 data) s = .next (s.isduEnd p i 0 0 (if i.op = 1 then data.take 232 else [])) := by
    change execIsduComplete p 0 data s = _
    unfold execIsduComplete
    rw [hrun]
    rfl
  obtain ⟨hnone, hresult⟩ := s.isduEnd_dict p hdict 0 0 (if i.op = 1 then data.take 232 else [])
  exact gives_next hexec ⟨hnone, hresult.trans (by decide)⟩

theorem gives_isduComplete_bad {s : State} {p : Fin 64} {i : IsduSt} {e : Nat} {data : List Byte} (hrun : (s.iol p).isdu = some i)
    (hdict : i.tag = none) (herror : e ≠ 0) : Gives (.isduComplete p e data) s fun t =>
      (t.iol p).isdu = none ∧ t.reg (Key.IOL_ISDU_RESULT p) = 2 * 2 ^ 24 + 2 ^ 16 + e % 65536 := by
  have hexec : exec (.isduComplete p e data) s = .next (s.isduEnd p i 1 e []) := by
    change execIsduComplete p e data s = _
    unfold execIsduComplete
    rw [hrun]
    dsimp only
    rw [if_neg herror]
  obtain ⟨hnone, hresult⟩ := s.isduEnd_dict p hdict 1 e []
  refine gives_next hexec ⟨hnone, hresult.trans ?_⟩
  unfold isduResultWord
  rw [Nat.one_mul]

theorem gives_isduTimeout {s : State} {p : Fin 64} {i : IsduSt} (hrun : (s.iol p).isdu = some i) (hdict : i.tag = none) :
    Gives (.isduTimeout p) s fun t => (t.iol p).isdu = none ∧ t.reg (Key.IOL_ISDU_RESULT p) = 2 * 2 ^ 24 + 2 * 2 ^ 16 ∧
      i.startedAt + 5000000000 ≤ t.lmc := by
  have hexec : exec (.isduTimeout p) s = .next ((s.until (i.startedAt + 5000000000)).isduEnd p i 2 0 []) := by
    change execIsduTimeout p s = _
    unfold execIsduTimeout
    rw [hrun]
  refine gives_next hexec ?_
  generalize i.startedAt + 5000000000 = due
  obtain ⟨hnone, hresult⟩ := (s.until due).isduEnd_dict p hdict 2 0 []
  have hlmc : ((s.until due).isduEnd p i 2 0 []).lmc = (s.until due).lmc :=
    State.lmc_congr ((keep_isduEnd _ _ _ _ _ _).same .clock rfl)
  exact ⟨hnone, hresult.trans (by decide), hlmc ▸ State.le_lmc_until s due⟩

theorem exec_iolEventRead_free {s : State} {p : Fin 64} {q c : Nat} (htalks : s.iolTalks p = true) (hfree : (s.iol p).event = none) :
    exec (.iolEventRead p q c) s = .next (if s.qRoom (iolPan p) (iolQ p) 2 then s.iolStore p q c 0
      else s.iolAct p (fun s => s.setIol p { s.iol p with event := some (q, c) })) := by
  change execIolEventRead p q c s = _
  unfold execIolEventRead
  dsimp only
  rw [if_neg (by simp [htalks, hfree])]

theorem gives_iolEventRead_stored {s : State} {p : Fin 64} {q c : Nat} (htalks : s.iolTalks p = true)
    (hfree : (s.iol p).event = none) (hroom : s.qRoom (iolPan p) (iolQ p) 2 = true) :
    Gives (.iolEventRead p q c) s fun t => t = s.iolStore p q c 0 := by
  refine gives_next (exec_iolEventRead_free htalks hfree) ?_
  rw [if_pos hroom]

theorem gives_iolEventRead_waits {s : State} {p : Fin 64} {q c : Nat} (htalks : s.iolTalks p = true)
    (hfree : (s.iol p).event = none) (hroom : s.qRoom (iolPan p) (iolQ p) 2 = false) :
    Gives (.iolEventRead p q c) s fun t => (t.iol p).event = some (q, c) ∧ t.queues = s.queues := by
  refine gives_next (exec_iolEventRead_free htalks hfree) ?_
  rw [if_neg (by simp [hroom]), State.iolAct_iol, State.iolAct_queues, State.iol_setIol_same]
  exact ⟨rfl, rfl⟩

/-- An event stored is counted and changes no port (R252). -/
theorem State.iolStore_keeps (s : State) {p : Nat} (hp : p < 64) (q c source : Nat) : (s.iolStore p q c source).iol = s.iol ∧
    (s.iolStore p q c source).count (Key.IOL_EVENTS p) = s.count (Key.IOL_EVENTS p) + 1 := by
  refine ⟨State.iol_congr ((keep_iolStore s p q c source).same .iols rfl), ?_⟩
  have htraffic : trafficCounter (Key.IOL_EVENTS p) = false := by
    simp [trafficCounter, obj]
    omega
  unfold State.iolStore
  rw [State.raise_count _ _ _ htraffic, State.qPush_count _ _ _ _ htraffic ?_, State.count_bump, if_pos rfl]
  unfold iolPan iolQ
  simp only [obj]
  omega

theorem gives_iolEventBacklogRelease {s : State} {p : Fin 64} {q c : Nat} (hevent : (s.iol p).event = some (q, c))
    (hroom : s.qRoom (iolPan p) (iolQ p) 2 = true) : Gives (.iolEventBacklogRelease p) s fun t =>
      (t.iol p).event = none ∧ t.count (Key.IOL_EVENTS p) = s.count (Key.IOL_EVENTS p) + 1 := by
  have hexec : exec (.iolEventBacklogRelease p) s =
      .next ((s.iolAct p (fun s => s.setIol p { s.iol p with event := none })).iolStore p q c 0) := by
    change execIolEventBacklogRelease p s = _
    unfold execIolEventBacklogRelease
    dsimp only
    rw [hevent]
    dsimp only
    rw [if_pos hroom]
  refine gives_next hexec ?_
  have htraffic : trafficCounter (Key.IOL_EVENTS p) = false := by
    have hp := p.isLt
    simp [trafficCounter, obj]
    omega
  obtain ⟨hiol, hcount⟩ := (s.iolAct p (fun s => s.setIol p { s.iol p with event := none })).iolStore_keeps p.isLt q c 0
  rw [hiol, hcount, State.iolAct_iol, State.iol_setIol_same, State.iolAct_count _ _ _ htraffic]
  exact ⟨rfl, rfl⟩

/-- A port whose device talks and whose data storage is on uploads (R253). -/
theorem State.dsUpload_on {s : State} {p : Nat} (hmode : s.reg (Key.IOL_DS_MODE p) = 1) (htalks : s.iolTalks p = true) :
    s.dsUpload p = s.setReg (Key.IOL_DS_STATE p) 2 := if_pos ⟨hmode, htalks⟩

theorem gives_portCmdBackup {s : State} {w : Writer} {p : Fin 64} (haccepts : Accepts s w (Key.IOL_PORT_CMD p) 2)
    (hmode : s.reg (Key.IOL_DS_MODE p) = 1) (htalks : s.iolTalks p = true) :
    Gives (.portCmdBackup w p) s fun t => t.reg (Key.IOL_DS_STATE p) = 2 := by
  refine gives_write (c := .portCmdBackup w p) rfl haccepts rfl fun t hquiet => ?_
  rw [hquiet.reg, State.dsUpload_on hmode htalks, State.reg_setReg, if_pos rfl]

theorem gives_portCmdClearDs {s : State} {w : Writer} {p : Fin 64} (haccepts : Accepts s w (Key.IOL_PORT_CMD p) 3) :
    Gives (.portCmdClearDs w p) s fun t =>
      t.reg (Key.IOL_DS_IMAGE p) = 0 ∧ t.reg (Key.IOL_DS_STATE p) = 0 ∧ (t.iol p).dsVendor = 0 := by
  refine gives_write (c := .portCmdClearDs w p) rfl haccepts rfl fun t hquiet => ?_
  have hset (u : State) (x : IolSt) : (u.setIol p x).reg = u.reg := rfl
  rw [hquiet.reg, hquiet.reg, hquiet.iol, hset, State.iol_setIol_same, State.reg_setReg, if_neg (obj_ne_of_sub (by decide)),
    State.reg_setReg, if_pos rfl, State.reg_setReg, if_pos rfl]
  exact ⟨rfl, rfl, rfl⟩

theorem gives_dsUploadRequest {s : State} {p : Fin 64} (hmode : s.reg (Key.IOL_DS_MODE p) = 1) (htalks : s.iolTalks p = true) :
    Gives (.dsUploadRequest p) s fun t => t = s.setReg (Key.IOL_DS_STATE p) 2 :=
  ⟨_, rfl, State.dsUpload_on hmode htalks⟩

/-- A record committed: the stored image is good, and the device it belongs to is noted (R253). -/
def State.dsCommitted (s : State) (p v : Nat) (data : List Byte) : State :=
  let t := (s.setReg (Key.IOL_DS_IMAGE p) v).setReg (Key.IOL_DS_STATE p) 1
  t.setIol p { t.iol p with
    dsVendor := t.reg (Key.IOL_DEV_VENDOR_ID p), dsDevice := t.reg (Key.IOL_DEV_DEVICE_ID p), params := data }

theorem State.dsCommitted_keeps (s : State) (p v : Nat) (data : List Byte) :
    (s.dsCommitted p v data).reg (Key.IOL_DS_STATE p) = 1 ∧ (s.dsCommitted p v data).reg (Key.IOL_DS_IMAGE p) = v ∧
    ((s.dsCommitted p v data).iol p).dsVendor = s.reg (Key.IOL_DEV_VENDOR_ID p) ∧
    ((s.dsCommitted p v data).iol p).params = data := by
  have hset (u : State) (x : IolSt) : (u.setIol p x).reg = u.reg := rfl
  unfold State.dsCommitted
  dsimp only
  rw [State.iol_setIol_same, hset, State.reg_setReg, if_pos rfl, State.reg_setReg, if_neg (obj_ne_of_sub (by decide)),
    State.reg_setReg, if_pos rfl]
  refine ⟨rfl, rfl, ?_, rfl⟩
  dsimp only
  rw [State.reg_setReg, if_neg (obj_ne_of_sub (by decide)), State.reg_setReg, if_neg (obj_ne_of_sub (by decide))]

theorem gives_dsCommit {s : State} {p : Fin 64} {data : List Byte} (huploading : s.reg (Key.IOL_DS_STATE p) = 2) :
    Gives (.dsCommit p data) s fun t => t.reg (Key.IOL_DS_STATE p) = 1 ∧ t.reg (Key.IOL_DS_IMAGE p) = beNat (dsPad data) ∧
      (t.iol p).dsVendor = s.reg (Key.IOL_DEV_VENDOR_ID p) ∧ (t.iol p).params = data := by
  have hexec : exec (.dsCommit p data) s = .next (let t := s.dsCommitted p (beNat (dsPad data)) data
      if t.role = .active then t.sendSync (Key.IOL_DS_IMAGE p) (valueBytes (Key.IOL_DS_IMAGE p) (beNat (dsPad data))) else t) := by
    change execDsCommit p data s = _
    unfold execDsCommit
    dsimp only
    rw [if_neg (by simp [huploading])]
    rfl
  refine gives_next hexec ?_
  have h := s.dsCommitted_keeps p (beNat (dsPad data)) data
  generalize s.dsCommitted p (beNat (dsPad data)) data = u at h ⊢
  dsimp only
  split
  · have hquiet := quiet_sendSync u (Key.IOL_DS_IMAGE p) (valueBytes (Key.IOL_DS_IMAGE p) (beNat (dsPad data))) (Quiet.refl u)
    rw [hquiet.reg, hquiet.reg, hquiet.iol]
    exact h
  · exact h

theorem exec_lpTrip {s : State} {p : Fin 64} (hon : (s.lpSync p).lpOn p = true) :
    exec (.lpFastTrip p) s = .next ((s.lpSync p).lpTrip p 0) ∧ exec (.lpSlowTrip p) s = .next ((s.lpSync p).lpTrip p 1) ∧
    exec (.lpThermalTrip p) s = .next ((s.lpSync p).lpTrip p 2) := by
  have htrips (b : Nat) : (if (s.lpSync p).lpOn p then (s.lpSync p).lpTrip p b else s.lpSync p) = (s.lpSync p).lpTrip p b := if_pos hon
  exact ⟨congrArg Host.Outcome.next (htrips 0), congrArg Host.Outcome.next (htrips 1), congrArg Host.Outcome.next (htrips 2)⟩

/-- Of `s`, `t` has port `p`'s L+ state, its trips and their count. -/
def LpKept (p : Nat) (s t : State) : Prop := t.reg (Key.LP_STATE p) = s.reg (Key.LP_STATE p) ∧
  (t.iol p).lpTrips = (s.iol p).lpTrips ∧ t.count (Key.LP_TRIPS p) = s.count (Key.LP_TRIPS p)

theorem LpKept.refl (p : Nat) (s : State) : LpKept p s s := ⟨rfl, rfl, rfl⟩

theorem LpKept.trans {p : Nat} {s t u : State} (h : LpKept p s t) (h' : LpKept p t u) : LpKept p s u :=
  ⟨h'.1.trans h.1, h'.2.1.trans h.2.1, h'.2.2.trans h.2.2⟩

theorem loud_lp {p : Nat} (hp : p < 64) : loudReg (Key.LP_STATE p) = false ∧ loudCounter (Key.LP_TRIPS p) = false := by
  constructor
  · simp only [loudReg, obj, Bool.or_eq_false_iff, beq_eq_false_iff_ne, Bool.and_eq_false_iff]
    simp
    omega
  · simp [loudCounter, trafficCounter, obj]
    omega

theorem lpKept_raise (s : State) {p : Nat} (hp : p < 64) (n d : Nat) : LpKept p s (s.raise n d) :=
  ⟨congrFun (s.raise_reg n d) _, congrArg IolSt.lpTrips (congrFun (State.iol_congr ((keep_raise s n d).same .iols rfl)) p),
    s.raise_count n d (trafficCounter_of_loud (loud_lp hp).2)⟩

theorem lpKept_occur (s : State) {p : Nat} (hp : p < 64) (n item d : Nat) : LpKept p s (s.occur n item d) :=
  ⟨s.occur_reg n item d (loud_lp hp).1, congrArg IolSt.lpTrips (congrFun (State.iol_congr ((keep_occur s n item d).same .iols rfl)) p),
    s.occur_count n item d (loud_lp hp).2⟩

theorem lpKept_qPush (s : State) {p : Nat} (hp : p < 64) (x : List QItem) : LpKept p s (s.qPush (iolPan p) (iolQ p) x) := by
  refine ⟨congrFun (State.qPush_reg s _ _ x) _,
    congrArg IolSt.lpTrips (congrFun (State.iol_congr ((keep_qPush s _ _ x).same .iols rfl)) p),
    State.qPush_count s _ _ x (trafficCounter_of_loud (loud_lp hp).2) ?_⟩
  unfold iolPan iolQ
  simp only [obj]
  omega

theorem lpKept_iolStore (s : State) {p : Nat} (hp : p < 64) (q c source : Nat) : LpKept p s (s.iolStore p q c source) := by
  have hbump : LpKept p s (s.bump (Key.IOL_EVENTS p)) :=
    ⟨rfl, rfl, (State.count_bump s _ _).trans (if_neg (obj_ne_of_sub (by decide)))⟩
  exact (hbump.trans (lpKept_qPush _ hp _)).trans (lpKept_raise _ hp _ _)

theorem lpKept_portEvent (s : State) {p : Nat} (hp : p < 64) : LpKept p s (s.portEvent p) := by
  have hfreed (u : State) : LpKept p u u.freed := ⟨rfl, rfl, rfl⟩
  have heq : s.portEvent p = (if s.freed.freed.qRoom (iolPan p) (iolQ p) 2 then s.freed.freed.iolStore p (Config.freeValue s.free % 256)
      (Config.freeValue s.freed.free % 65536) 1 else s.freed.freed) := rfl
  rw [heq]
  split
  · exact ((hfreed s).trans (hfreed _)).trans (lpKept_iolStore _ hp _ _ _)
  · exact (hfreed s).trans (hfreed _)

/-- A change of the port's bookkeeping that leaves its trips. -/
theorem lpKept_setIol (s : State) {p : Nat} {x : IolSt} (hx : x.lpTrips = (s.iol p).lpTrips) : LpKept p s (s.setIol p x) :=
  ⟨rfl, by rw [State.iol_setIol_same, hx], rfl⟩

theorem lpKept_isduEnd (s : State) {p : Nat} (hp : p < 64) (i : IsduSt) (result error : Nat) (data : List Byte) :
    LpKept p s (s.isduEnd p i result error data) := by
  have hset (u : State) (v w : Nat) : LpKept p u ((u.setReg (Key.IOL_ISDU_RESULT p) v).setReg (Key.IOL_ISDU_DATA p) w) := by
    refine ⟨?_, rfl, rfl⟩
    rw [State.reg_setReg, if_neg (obj_ne_of_sub (by decide)), State.reg_setReg, if_neg (obj_ne_of_sub (by decide))]
  unfold State.isduEnd
  dsimp only
  have hended := lpKept_setIol s (x := { s.iol p with
    isdu := none, isduLen := if i.tag.isNone then min data.length 232 else (s.iol p).isduLen }) rfl
  generalize s.setIol p { s.iol p with
    isdu := none, isduLen := if i.tag.isNone then min data.length 232 else (s.iol p).isduLen } = u at hended ⊢
  refine hended.trans ?_
  split
  · exact hset u _ _
  · exact lpKept_qPush u hp _

theorem lpKept_isduStop (s : State) {p : Nat} (hp : p < 64) (r : Nat) : LpKept p s (s.isduStop p r) := by
  unfold State.isduStop
  split
  · exact lpKept_isduEnd s hp _ _ _ _
  · exact LpKept.refl p s

theorem lpKept_faultUp (s : State) {p : Nat} (hp : p < 64) (n item d : Nat) : LpKept p s (s.faultUp n item d) := by
  have hset (x : FltSt) : LpKept p s (s.setFlt n x) := ⟨rfl, rfl, rfl⟩
  unfold State.faultUp
  dsimp only
  split
  · exact (hset _).trans (lpKept_occur _ hp _ _ _)
  · exact ((hset _).trans (lpKept_occur _ hp _ _ _)).trans (lpKept_raise _ hp _ _)

/-- The port's bookkeeping once its device is lost: it waits for a wake slot again (R250). -/
def State.iolForgot (s : State) (p : Nat) : State :=
  s.setIol p { s.iol p with st := 6, awaiting := false, failures := 0, waits := true, pdSeen := false, event := none }

theorem State.iolLost_eq (s : State) (p : Nat) : s.iolLost p =
    if (s.iol p).st = 2 ∨ (s.iol p).st = 3 ∨ (s.iol p).st = 7 then
      ((((s.isduStop p 3).iolForgot p).bump (Key.IOL_COMM_LOSTS p)).faultUp (0x150 + iolPan p) p 0).portEvent p
    else s := rfl

/-- The device that the port loses with its supply leaves the L+ switch as it was (R250). -/
theorem lpKept_iolLost (s : State) {p : Nat} (hp : p < 64) : LpKept p s (s.iolLost p) := by
  have hforgot (u : State) : LpKept p u (u.iolForgot p) := lpKept_setIol u rfl
  have hbump (u : State) : LpKept p u (u.bump (Key.IOL_COMM_LOSTS p)) :=
    ⟨rfl, rfl, (State.count_bump u _ _).trans (if_neg (obj_ne_of_sub (by decide)))⟩
  rw [State.iolLost_eq]
  split
  · have hstopped := (lpKept_isduStop s hp 3).trans ((hforgot _).trans (hbump _))
    exact (hstopped.trans (lpKept_faultUp _ hp _ _ _)).trans (lpKept_portEvent _ hp)
  · exact LpKept.refl p s

/-- A port's act keeps the L+ switch as far as what it does keeps it. -/
theorem lpKept_iolAct (s : State) {p : Nat} (hp : p < 64) (f : State → State) : LpKept p (f s) (s.iolAct p f) :=
  ⟨congrFun (s.iolAct_reg p f) _, congrArg IolSt.lpTrips (congrFun (s.iolAct_iol p f) p),
    s.iolAct_count p f (trafficCounter_of_loud (loud_lp hp).2)⟩

/-- What a trip does before its fault is raised: the switch waits or latches, the trip is counted (R187). -/
def State.lpSwitchedOff (s : State) (p b status : Nat) : State :=
  let x := s.iol p
  let latch := decide (s.reg (Key.LP_RETRIES p) < x.lpTrips + 1)
  (((s.setReg (Key.LP_STATUS p) status).setReg (Key.LP_STATE p) (if latch then 4 else 3)).setIol p
    { x with lpTrips := x.lpTrips + 1, lpRetryAt := s.lmc + backoffNs (x.lpTrips + 1), lpHot := x.lpHot || b == 2 }).bump
      (Key.LP_TRIPS p)

/-- LP_STATUS after a trip for reason `b` (R187). -/
def State.lpTripStatus (s : State) (p b : Nat) : Nat :=
  setBit (setBit (s.reg (Key.LP_STATUS p)) b true) 3
    (decide (s.reg (Key.LP_RETRIES p) < (s.iol p).lpTrips + 1) || bitOf (s.reg (Key.LP_STATUS p)) 3)

/-- The fault, the event and the lost device that a trip brings with it (R187, R250). -/
def State.lpTripFollowed (s : State) (p b : Nat) : State :=
  (((s.lpSwitchedOff p b (s.lpTripStatus p b)).occur (0x170 + iolPan p) p (s.lpTripStatus p b)).raise (768 + p)
    (s.lpTripStatus p b)).iolLost p

theorem State.lpTrip_eq (s : State) (p b : Nat) : s.lpTrip p b = s.iolAct p (fun s => s.lpTripFollowed p b) := rfl

theorem State.lpSwitchedOff_keeps (s : State) (p b status : Nat) : (s.lpSwitchedOff p b status).reg (Key.LP_STATE p) =
      (if s.reg (Key.LP_RETRIES p) < (s.iol p).lpTrips + 1 then 4 else 3) ∧
    ((s.lpSwitchedOff p b status).iol p).lpTrips = (s.iol p).lpTrips + 1 ∧
    (s.lpSwitchedOff p b status).count (Key.LP_TRIPS p) = s.count (Key.LP_TRIPS p) + 1 := by
  have hiol (u : State) (x : IolSt) (k : Nat) : ((u.setIol p x).bump k).iol = (u.setIol p x).iol := rfl
  have hreg (u : State) (x : IolSt) (k : Nat) : ((u.setIol p x).bump k).reg = u.reg := rfl
  have hcount (u : State) (x : IolSt) (a b c d : Nat) : (((u.setReg a b).setReg c d).setIol p x).count = u.count := rfl
  unfold State.lpSwitchedOff
  dsimp only
  rw [hiol, hreg, State.iol_setIol_same, State.reg_setReg, if_pos rfl, State.count_bump, if_pos rfl, hcount]
  refine ⟨?_, rfl, rfl⟩
  simp only [decide_eq_true_eq]

theorem lpKept_lpTripFollowed (s : State) {p : Nat} (hp : p < 64) (b : Nat) :
    LpKept p (s.lpSwitchedOff p b (s.lpTripStatus p b)) (s.lpTripFollowed p b) := by
  unfold State.lpTripFollowed
  generalize s.lpTripStatus p b = status
  generalize s.lpSwitchedOff p b status = u
  exact ((lpKept_occur u hp _ _ _).trans (lpKept_raise _ hp _ _)).trans (lpKept_iolLost _ hp)

theorem State.lpTrip_keeps (s : State) (p : Fin 64) (b : Nat) : (s.lpTrip p b).reg (Key.LP_STATE p) =
      (if s.reg (Key.LP_RETRIES p) < (s.iol p).lpTrips + 1 then 4 else 3) ∧
    ((s.lpTrip p b).iol p).lpTrips = (s.iol p).lpTrips + 1 ∧
    (s.lpTrip p b).count (Key.LP_TRIPS p) = s.count (Key.LP_TRIPS p) + 1 := by
  rw [State.lpTrip_eq]
  obtain ⟨hstate, htrips, hcount⟩ := s.lpSwitchedOff_keeps p b (s.lpTripStatus p b)
  obtain ⟨hstate', htrips', hcount'⟩ :=
    (lpKept_lpTripFollowed s p.isLt b).trans (lpKept_iolAct s p.isLt (fun s => s.lpTripFollowed p b))
  exact ⟨hstate'.trans hstate, htrips'.trans htrips, hcount'.trans hcount⟩

/-- What follows the L+ switch's control: on when wanted, off when not (R187). -/
theorem State.lpSync_keeps (s : State) (p : Nat) : (s.lpSync p).lmc = s.lmc ∧ ((s.lpSync p).iol p).lpTrips = (s.iol p).lpTrips ∧
    ((s.lpSync p).iol p).lpHot = (s.iol p).lpHot ∧ ((s.reg (Key.LP_STATE p) = 0) → (s.lpSync p).reg (Key.LP_STATE p) ≤ 1) ∧
    (s.lpSync p).reg (Key.LP_STATUS p) = s.reg (Key.LP_STATUS p) := by
  have hset (u : State) (v : Nat) (x : IolSt) : ((u.setReg (Key.LP_STATE p) v).setIol p x).reg = (u.setReg (Key.LP_STATE p) v).reg :=
    rfl
  have hstatus (v : Nat) : (s.setReg (Key.LP_STATE p) v).reg (Key.LP_STATUS p) = s.reg (Key.LP_STATUS p) :=
    (State.reg_setReg s _ _ v).trans (if_neg (obj_ne_of_sub (by decide)))
  have hstate (v : Nat) : (s.setReg (Key.LP_STATE p) v).reg (Key.LP_STATE p) = v := (State.reg_setReg s _ _ v).trans (if_pos rfl)
  unfold State.lpSync
  dsimp only
  split
  · rw [hset, State.iol_setIol_same, hstatus, hstate]
    exact ⟨rfl, rfl, rfl, fun _ => Nat.le_refl 1, rfl⟩
  · split
    · rw [hstatus, hstate]
      exact ⟨rfl, rfl, rfl, fun _ => Nat.zero_le 1, rfl⟩
    · exact ⟨rfl, rfl, rfl, fun h => by omega, rfl⟩

theorem gives_lpRampComplete {s : State} {p : Fin 64} (hramp : (s.lpSync p).reg (Key.LP_STATE p) = 1) :
    Gives (.lpRampComplete p) s fun t => t.reg (Key.LP_STATE p) = 2 ∧ ((s.lpSync p).iol p).lpRampAt + 2000000 ≤ t.lmc ∧
      (t.iol p).lpOnAt = t.lmc := by
  have hexec : exec (.lpRampComplete p) s = .next (let u := (s.lpSync p).until (((s.lpSync p).iol p).lpRampAt + 2000000)
      (u.setReg (Key.LP_STATE p) 2).setIol p { u.iol p with lpDoneAt := u.lmc, lpOnAt := u.lmc }) := by
    change execLpRampComplete p s = _
    unfold execLpRampComplete
    dsimp only
    rw [if_neg (by simp [hramp])]
  have hramped (u : State) (x : IolSt) (hx : x.lpOnAt = u.lmc) : ((u.setReg (Key.LP_STATE p) 2).setIol p x).reg (Key.LP_STATE p) = 2 ∧
      ((u.setReg (Key.LP_STATE p) 2).setIol p x).lmc = u.lmc ∧
      (((u.setReg (Key.LP_STATE p) 2).setIol p x).iol p).lpOnAt = ((u.setReg (Key.LP_STATE p) 2).setIol p x).lmc := by
    rw [State.iol_setIol_same]
    exact ⟨(State.reg_setReg u _ _ 2).trans (if_pos rfl), rfl, hx⟩
  refine gives_next hexec ?_
  dsimp only
  generalize ((s.lpSync p).iol p).lpRampAt + 2000000 = due
  obtain ⟨hstate, hlmc, hat⟩ := hramped ((s.lpSync p).until due) { ((s.lpSync p).until due).iol p with
    lpDoneAt := ((s.lpSync p).until due).lmc, lpOnAt := ((s.lpSync p).until due).lmc } rfl
  exact ⟨hstate, hlmc.symm ▸ State.le_lmc_until _ due, hat⟩

/-- A retry asks for the switch again: it is off, or ramps up (R188). -/
theorem State.lpRetry_keeps (s : State) (p : Nat) : (s.lpRetry p).lmc = s.lmc ∧ ((s.lpRetry p).iol p).lpHot = (s.iol p).lpHot ∧
    (s.lpRetry p).reg (Key.LP_STATE p) ≤ 1 := by
  have hoff : (s.setReg (Key.LP_STATE p) 0).reg (Key.LP_STATE p) = 0 := (State.reg_setReg s _ _ 0).trans (if_pos rfl)
  have hstatus (u : State) (v : Nat) : (u.setReg (Key.LP_STATUS p) v).reg (Key.LP_STATE p) = u.reg (Key.LP_STATE p) :=
    (State.reg_setReg u _ _ v).trans (if_neg (obj_ne_of_sub (by decide)))
  have hiol (u : State) (k v : Nat) : (u.setReg k v).iol = u.iol ∧ (u.setReg k v).lmc = u.lmc := ⟨rfl, rfl⟩
  unfold State.lpRetry
  extract_lets off cleared
  have hcleared : cleared.reg (Key.LP_STATE p) = 0 ∧ cleared.iol = s.iol ∧ cleared.lmc = s.lmc := by
    unfold cleared
    split
    · rw [hstatus, (hiol _ _ _).1, (hiol _ _ _).2]
      exact ⟨hoff, rfl, rfl⟩
    · exact ⟨hoff, rfl, rfl⟩
  obtain ⟨hzero, hkept, hclock⟩ := hcleared
  obtain ⟨hlmc, -, hhot, hstate, -⟩ := cleared.lpSync_keeps p
  rw [hkept] at hhot
  exact ⟨hlmc.trans hclock, hhot, hstate hzero⟩

theorem gives_lpBackoffExpiry {s : State} {p : Fin 64} (hwaits : s.reg (Key.LP_STATE p) = 3) (hcool : (s.iol p).lpHot = false) :
    Gives (.lpBackoffExpiry p) s fun t => t.reg (Key.LP_STATE p) ≠ 3 ∧ (s.iol p).lpRetryAt ≤ t.lmc := by
  have hexec : exec (.lpBackoffExpiry p) s = .next ((s.until (s.iol p).lpRetryAt).lpRetry p) := by
    change execLpBackoffExpiry p s = _
    unfold execLpBackoffExpiry
    dsimp only
    rw [if_neg (by simp [hwaits]), if_neg (by simp [hcool])]
  refine gives_next hexec ?_
  obtain ⟨hlmc, -, hstate⟩ := (s.until (s.iol p).lpRetryAt).lpRetry_keeps p
  exact ⟨by omega, hlmc ▸ State.le_lmc_until s _⟩

/-- A latched switch cleared: no trips, no status, and its control followed again (R188). -/
def State.lpCleared (s : State) (p : Nat) : State :=
  (((s.setIol p { s.iol p with lpTrips := 0, lpHot := false }).setReg (Key.LP_STATUS p) 0).setReg (Key.LP_STATE p) 0).lpSync p

theorem State.lpCleared_keeps (s : State) (p : Nat) : (s.lpCleared p).reg (Key.LP_STATUS p) = 0 ∧
    (s.lpCleared p).reg (Key.LP_STATE p) ≤ 1 ∧ ((s.lpCleared p).iol p).lpTrips = 0 := by
  have hset (u : State) : ((u.setReg (Key.LP_STATUS p) 0).setReg (Key.LP_STATE p) 0).reg (Key.LP_STATUS p) = 0 ∧
      ((u.setReg (Key.LP_STATUS p) 0).setReg (Key.LP_STATE p) 0).reg (Key.LP_STATE p) = 0 ∧
      ((u.setReg (Key.LP_STATUS p) 0).setReg (Key.LP_STATE p) 0).iol = u.iol := by
    refine ⟨?_, (State.reg_setReg _ _ _ 0).trans (if_pos rfl), rfl⟩
    rw [State.reg_setReg, if_neg (obj_ne_of_sub (by decide)), State.reg_setReg, if_pos rfl]
  have htrips := congrArg IolSt.lpTrips (s.iol_setIol_same p { s.iol p with lpTrips := 0, lpHot := false })
  unfold State.lpCleared
  generalize s.setIol p { s.iol p with lpTrips := 0, lpHot := false } = u at htrips ⊢
  obtain ⟨hstatus, hstate, hiol⟩ := hset u
  obtain ⟨-, hkept, -, hsynced, hstatus'⟩ := ((u.setReg (Key.LP_STATUS p) 0).setReg (Key.LP_STATE p) 0).lpSync_keeps p
  rw [hiol] at hkept
  exact ⟨hstatus'.trans hstatus, hsynced hstate, hkept.trans htrips⟩

theorem gives_lpClear {s : State} {w : Writer} {p : Fin 64} (haccepts : Accepts s w (Key.LP_CLEAR p) 1)
    (hlatched : s.reg (Key.LP_STATE p) = 4) : Gives (.lpClear w p 1) s fun t =>
      t.reg (Key.LP_STATUS p) = 0 ∧ t.reg (Key.LP_STATE p) ≠ 4 ∧ (t.iol p).lpTrips = 0 := by
  refine gives_command (c := .lpClear w p 1) rfl haccepts (by decide) rfl fun t hquiet => ?_
  rw [if_neg (by simp [hlatched])] at hquiet
  have hquiet : Quiet (s.lpCleared p) t := hquiet
  obtain ⟨hstatus, hstate, htrips⟩ := s.lpCleared_keeps p
  rw [hquiet.reg, hquiet.reg, hquiet.iol]
  exact ⟨hstatus, by omega, htrips⟩

theorem gives_stageCooled {s : State} {i : Fin 320} (hlp : 256 ≤ i.val) : Gives (.stageCooled i) s fun t =>
    (t.iol (i - 256)).lpHot = false := by
  have hcool := congrArg IolSt.lpHot (s.iol_setIol_same (i - 256) { s.iol (i - 256) with lpHot := false })
  refine ⟨if (s.iol (i - 256)).lpHot ∧ (s.setIol (i - 256) { s.iol (i - 256) with lpHot := false }).reg (Key.LP_STATE (i - 256)) = 3 ∧
      (s.iol (i - 256)).lpRetryAt ≤ (s.setIol (i - 256) { s.iol (i - 256) with lpHot := false }).lmc then
    (s.setIol (i - 256) { s.iol (i - 256) with lpHot := false }).lpRetry (i - 256)
    else s.setIol (i - 256) { s.iol (i - 256) with lpHot := false }, ?_, ?_⟩
  · change execStageCooled i s = _
    unfold execStageCooled
    rw [if_neg (by omega)]
  · dsimp only
    split
    · exact ((State.lpRetry_keeps _ _).2.1).trans hcool
    · exact hcool

/-- A switch on since `due` forgets its trips (R188). -/
def State.lpSteady (s : State) (p due : Nat) : State := (s.until due).setIol p { s.iol p with lpTrips := 0 }

theorem State.lpSteady_keeps (s : State) (p due : Nat) : ((s.lpSteady p due).iol p).lpTrips = 0 ∧ due ≤ (s.lpSteady p due).lmc := by
  unfold State.lpSteady
  rw [State.iol_setIol_same]
  exact ⟨rfl, State.le_lmc_until s due⟩

theorem gives_dlRetryCountReset {s : State} {i : Fin 320} (hlp : 256 ≤ i.val)
    (hon : (s.lpSync (i - 256)).reg (Key.LP_STATE (i - 256)) = 2) : Gives (.dlRetryCountReset i) s fun t =>
      (t.iol (i - 256)).lpTrips = 0 ∧ ((s.lpSync (i - 256)).iol (i - 256)).lpOnAt + 10000000000 ≤ t.lmc := by
  have hexec : exec (.dlRetryCountReset i) s = .next ((s.lpSync (i - 256)).lpSteady (i - 256)
      (((s.lpSync (i - 256)).iol (i - 256)).lpOnAt + 10000000000)) := by
    change execDlRetryCountReset i s = _
    unfold execDlRetryCountReset State.lpSteady
    rw [if_neg (by omega)]
    dsimp only
    rw [if_neg (by simp [hon])]
  exact gives_next hexec (State.lpSteady_keeps _ _ _)

/-- Settles O28: each service of a port and each event of its L+ switch ends in the state its clause names. -/
theorem ioLinkServices : Obligations.IoLinkServices := by
  unfold Obligations.IoLinkServices
  exact ⟨fun _ _ _ _ => gives_isduRequestWrite, fun _ _ _ _ => gives_isduQueueRequest, fun _ _ _ _ => gives_isduComplete_good,
    fun _ _ _ _ _ => gives_isduComplete_bad, fun _ _ _ => gives_isduTimeout, fun _ _ _ _ => gives_iolEventRead_stored,
    fun _ _ _ _ => gives_iolEventRead_waits, fun _ _ _ _ => gives_iolEventBacklogRelease, fun _ _ _ => gives_portCmdBackup,
    fun _ _ _ => gives_portCmdClearDs, fun _ _ => gives_dsUploadRequest, fun _ _ _ => gives_dsCommit,
    fun _ _ hon => ⟨_, (exec_lpTrip hon).1, rfl⟩, fun _ _ hon => ⟨_, (exec_lpTrip hon).2.1, rfl⟩,
    fun _ _ hon => ⟨_, (exec_lpTrip hon).2.2, rfl⟩, fun s p b => s.lpTrip_keeps p b, fun _ _ => gives_lpRampComplete,
    fun _ _ => gives_lpBackoffExpiry, fun _ _ _ => gives_lpClear, fun _ _ hlp _ _ => gives_stageCooled hlp,
    fun _ _ => gives_dlRetryCountReset⟩

end Sys2Proof.Machine
end

section
/-! PROOFS. IO-Link ports (R243 to R250, R259), O27. -/

namespace Sys2Proof.Machine

open Sys2Proof

/-- An ISDU stopped with its port writes only its own result and data. -/
theorem State.isduStop_reg (s : State) (p r : Nat) {k : Nat} (hresult : k ≠ Key.IOL_ISDU_RESULT p) (hdata : k ≠ Key.IOL_ISDU_DATA p) :
    (s.isduStop p r).reg k = s.reg k := by
  have hset (u : State) (v w : Nat) : ((u.setReg (Key.IOL_ISDU_RESULT p) v).setReg (Key.IOL_ISDU_DATA p) w).reg k = u.reg k := by
    rw [State.reg_setReg, if_neg hdata, State.reg_setReg, if_neg hresult]
  have hiol (x : IolSt) : (s.setIol p x).reg = s.reg := rfl
  unfold State.isduStop
  split
  · unfold State.isduEnd
    dsimp only
    generalize hset' : s.setIol p _ = u
    have hu : u.reg = s.reg := hset' ▸ hiol _
    rw [← hu]
    split
    · exact hset u _ _
    · rw [State.qPush_reg]
  · rfl

/-- The port's bookkeeping as a start leaves it, for its mode `m` (R243). -/
def iolFresh (x : IolSt) (m now : Nat) : IolSt :=
  { x with
    st := if m = 0 then 0 else if m = 3 then 4 else if m = 4 then 5 else 1
    waits := false, slotEnds := none, pdInvalid := false, pdSeen := false, operated := false, awaiting := false
    failures := 0, isdu := none, event := none, rawAt := now, level := x.raw }

theorem State.iolStart_eq (s : State) (p : Nat) : s.iolStart p =
    ((((s.isduStop p 3).setIol p (iolFresh (s.iol p) (s.iolMode p) (s.isduStop p 3).lmc)).setReg (Key.IOL_STATUS p) 0).setReg
      (Key.IOL_COM_RATE p) 0).lpSync p := rfl

/-- The L+ switch's control touches of the port only its ramp, and of the registers only its state. -/
theorem State.lpSync_port (s : State) (p : Nat) : ((s.lpSync p).iol p).isdu = (s.iol p).isdu ∧
    ((s.lpSync p).iol p).awaiting = (s.iol p).awaiting ∧
    ∀ k, k ≠ Key.LP_STATE p → (s.lpSync p).reg k = s.reg k := by
  have hset (u : State) (x : IolSt) : (u.setIol p x).reg = u.reg := rfl
  have hstate (v k : Nat) (hk : k ≠ Key.LP_STATE p) : (s.setReg (Key.LP_STATE p) v).reg k = s.reg k :=
    (State.reg_setReg s _ _ v).trans (if_neg hk)
  unfold State.lpSync
  dsimp only
  split
  · rw [State.iol_setIol_same, hset]
    exact ⟨rfl, rfl, hstate 1⟩
  · split
    · exact ⟨rfl, rfl, hstate 0⟩
    · exact ⟨rfl, rfl, fun _ _ => rfl⟩

/-- A start leaves no ISDU, no reply awaited and no status, and keeps the port's settings (R243). -/
theorem State.iolStart_keeps (s : State) (p : Nat) : ((s.iolStart p).iol p).isdu = none ∧
    ((s.iolStart p).iol p).awaiting = false ∧ (s.iolStart p).reg (Key.IOL_STATUS p) = 0 ∧
    (s.iolStart p).reg (Key.IOL_MODE p) = s.reg (Key.IOL_MODE p) := by
  have hset (u : State) (x : IolSt) : (u.setIol p x).reg = u.reg := rfl
  have hiol (u : State) : ((u.setReg (Key.IOL_STATUS p) 0).setReg (Key.IOL_COM_RATE p) 0).iol = u.iol := rfl
  rw [State.iolStart_eq]
  generalize hx : iolFresh (s.iol p) (s.iolMode p) (s.isduStop p 3).lmc = x
  obtain ⟨hisdu, hawaiting, hreg⟩ := ((((s.isduStop p 3).setIol p x).setReg (Key.IOL_STATUS p) 0).setReg
    (Key.IOL_COM_RATE p) 0).lpSync_port p
  rw [hiol, State.iol_setIol_same] at hisdu hawaiting
  refine ⟨?_, ?_, ?_, ?_⟩
  · rw [hisdu, ← hx]
    rfl
  · rw [hawaiting, ← hx]
    rfl
  · rw [hreg _ (obj_ne_of_sub (by decide)), State.reg_setReg, if_neg (obj_ne_of_sub (by decide)), State.reg_setReg, if_pos rfl]
  · rw [hreg _ (obj_ne_of_sub (by decide)), State.reg_setReg, if_neg (obj_ne_of_sub (by decide)), State.reg_setReg,
      if_neg (obj_ne_of_sub (by decide)), hset, State.isduStop_reg _ _ _ (obj_ne_of_sub (by decide)) (obj_ne_of_sub (by decide))]

/-- Reporting the change of a port's state is quiet. -/
theorem quiet_iolAct (s : State) (p : Nat) (f : State → State) : Quiet (f s) (s.iolAct p f) := by
  unfold State.iolAct
  dsimp only
  split
  · exact Quiet.refl _
  · exact quiet_raise _ _ _ (Quiet.refl _)

theorem gives_iolModeWrite {s : State} {w : Writer} {p : Fin 64} {v : Nat} (haccepts : Accepts s w (Key.IOL_MODE p) v)
    (hbudget : s.budgetCheck (Key.IOL_MODE p) v = none) (hmode : s.reg (Key.IOL_MODE p) ≠ 0) :
    Gives (.iolModeWrite w p v) s fun t => t.reg (Key.IOL_MODE p) = maskValue (Key.IOL_MODE p) v ∧
      (t.iol p).isdu = none ∧ (t.iol p).awaiting = false ∧ t.reg (Key.IOL_STATUS p) = 0 := by
  refine gives_write (c := .iolModeWrite w p v) rfl haccepts ?_ fun t hquiet => ?_
  · rw [if_neg (by simp [hmode]), hbudget]
    rfl
  · have hquiet := (quiet_iolAct s p (fun s => (s.store (Key.IOL_MODE p) v).iolStart p)).trans hquiet
    obtain ⟨hisdu, hawaiting, hstatus, hkept⟩ := (s.store (Key.IOL_MODE p) v).iolStart_keeps p
    rw [hquiet.reg, hquiet.reg, hquiet.iol, hkept, State.store_reg_self _ _ _ (by simp only [obj]; omega)]
    exact ⟨rfl, hisdu, hawaiting, hstatus⟩

theorem gives_portCmdRestart {s : State} {w : Writer} {p : Fin 64} (haccepts : Accepts s w (Key.IOL_PORT_CMD p) 1) :
    Gives (.portCmdRestart w p) s fun t =>
      Quiet (s.iolStart p) t ∧ t.reg (Key.IOL_STATUS p) = 0 ∧ (t.iol p).isdu = none := by
  refine gives_write (c := .portCmdRestart w p) rfl haccepts rfl fun t hquiet => ?_
  have hquiet := (quiet_iolAct s p (fun s => s.iolStart p)).trans hquiet
  obtain ⟨hisdu, -, hstatus, -⟩ := s.iolStart_keeps p
  exact ⟨hquiet, (hquiet.reg _).trans hstatus, (congrArg IolSt.isdu (congrFun hquiet.iol p)).trans hisdu⟩

/-- A port ready for it asks for a wake slot (R244). -/
def State.slotAsked (s : State) (p due : Nat) : State := (s.until due).setIol p { s.iol p with waits := true }

theorem State.slotAsked_keeps (s : State) (p due : Nat) : ((s.slotAsked p due).iol p).waits = true ∧ due ≤ (s.slotAsked p due).lmc := by
  unfold State.slotAsked
  rw [State.iol_setIol_same]
  exact ⟨rfl, State.le_lmc_until s due⟩

theorem gives_iolStartupDelayExpiry {s : State} {p : Fin 64} (hon : (s.lpSync p).reg (Key.LP_STATE p) = 2)
    (hstart : ((s.lpSync p).iol p).st = 1) (hfree : ((s.lpSync p).iol p).waits = false)
    (hslot : ((s.lpSync p).iol p).slotEnds = none) : Gives (.iolStartupDelayExpiry p) s fun t =>
      (t.iol p).waits = true ∧ ((s.lpSync p).iol p).lpDoneAt + 50000000 ≤ t.lmc := by
  have hexec : exec (.iolStartupDelayExpiry p) s =
      .next ((s.lpSync p).slotAsked p (((s.lpSync p).iol p).lpDoneAt + 50000000)) := by
    change execIolStartupDelayExpiry p s = _
    unfold execIolStartupDelayExpiry State.slotAsked
    dsimp only
    rw [if_pos ⟨hon, hstart, by simp [hfree], hslot⟩]
  exact gives_next hexec (State.slotAsked_keeps _ _ _)

theorem gives_iolWakeSlotGrant {s : State} {p : Nat} (hon : s.logicOn = true) (hport : s.slotPort = some p)
    (hfew : s.slotsUsed.length < 4) : Gives .iolWakeSlotGrant s fun t =>
      (t.iol p).waits = false ∧ (t.iol p).slotEnds = some (s.lmc + 100000) ∧ t.clock = s.clock := by
  have hexec : exec .iolWakeSlotGrant s = .next (s.setIol p { s.iol p with waits := false, slotEnds := some (s.lmc + 100000) }) := by
    change execIolWakeSlotGrant s = _
    unfold execIolWakeSlotGrant
    rw [if_neg (by simp [hon])]
    dsimp only
    rw [if_neg (by simp [hport]; omega), hport]
    dsimp only
    rw [if_neg (by omega)]
  refine gives_next hexec ?_
  rw [State.iol_setIol_same]
  exact ⟨rfl, rfl, rfl⟩

/-- What the device found at start-up is shown (R245). -/
def State.deviceShown (s : State) (p : Nat) (d : IolDevice) : State :=
  let s := s.setReg (Key.IOL_COM_RATE p) (d.comRate % 4)
  let s := (s.setReg (Key.IOL_DEV_VENDOR_ID p) (d.vendor % 65536)).setReg (Key.IOL_DEV_DEVICE_ID p) (d.device % 2 ^ 24)
  let s := (s.setReg (Key.IOL_DEV_SERIAL p) (d.serial % 2 ^ 128)).setReg (Key.IOL_DEV_REVISION p) (d.revision % 256)
  s.setReg (Key.IOL_PD_LENGTHS p) (min d.pdIn 32 * 256 + min d.pdOut 32)

/-- The port's cycle for the device, and whether it is longer than asked for (R246). -/
def State.cycleShown (s : State) (p : Nat) (d : IolDevice) : State :=
  let actual := cycleUp (max (s.reg (Key.IOL_CYCLE_US p)) d.minCycle)
  let raised := decide (s.reg (Key.IOL_CYCLE_US p) ≠ 0 ∧ s.reg (Key.IOL_CYCLE_US p) < actual)
  let s := s.setReg (Key.IOL_CYCLE_ACTUAL p) actual
  s.setReg (Key.IOL_STATUS p) (setBit (s.reg (Key.IOL_STATUS p)) 2 raised)

/-- The port operates with a device that passed validation, and does not with another (R247). -/
def State.deviceTaken (s : State) (p : Nat) (d : IolDevice) (ok : Bool) : State :=
  let s := s.setIol p { s.iol p with
    st := if ok then 3 else 7, slotEnds := none, failures := 0, operated := ok, pdSeen := false, params := d.params }
  s.setLive (0x150 + iolPan p) ((List.range 4).any (fun j => (s.iol (4 * iolPan p + j)).st == 6))

/-- What validation brings: the data storage's restore, or its fault and event (R247, R253). -/
def State.deviceFollowed (s : State) (p : Nat) (d : IolDevice) (ok : Bool) : State :=
  if ok then s.dsRestore p d else (s.occur (0x140 + iolPan p) p 0).portEvent p

/-- The device and the cycle as the start-up shows them. -/
def State.deviceNoted (s : State) (p : Nat) (d : IolDevice) : State := (s.deviceShown p d).cycleShown p d

/-- A start-up that completes: the device shown, validated and taken (R245 to R247). -/
def State.deviceStarted (s : State) (p : Nat) (d : IolDevice) : State :=
  ((s.deviceNoted p d).deviceTaken p d ((s.deviceNoted p d).iolValid p d)).deviceFollowed p d ((s.deviceNoted p d).iolValid p d)

theorem exec_iolStartupComplete_on {s : State} {p : Fin 64} {d : IolDevice} (hmode : s.iolMode p = 1 ∨ s.iolMode p = 2)
    (hstart : (s.iol p).st = 1 ∨ (s.iol p).st = 6) (hslot : (s.iol p).slotEnds.isSome = true) :
    exec (.iolStartupComplete p d) s = .next (s.iolAct p (fun s => s.deviceStarted p d)) := by
  have hgo : ¬ ((!((s.iolMode p = 1 ∨ s.iolMode p = 2) ∧ ((s.iol p).st = 1 ∨ (s.iol p).st = 6) ∧ (s.iol p).slotEnds.isSome)) = true) := by
    simp [hmode, hstart, hslot]
  change execIolStartupComplete p d s = _
  unfold execIolStartupComplete
  dsimp only
  rw [if_neg hgo]
  rfl

theorem State.deviceShown_reg (s : State) (p : Nat) (d : IolDevice) :
    (s.deviceShown p d).reg (Key.IOL_COM_RATE p) = d.comRate % 4 ∧
    (s.deviceShown p d).reg (Key.IOL_DEV_VENDOR_ID p) = d.vendor % 65536 ∧
    ∀ j, j < 256 → j ≠ 0x10 → (j < 0x12 ∨ 0x15 < j) → j ≠ 0x1A → (s.deviceShown p d).reg (obj (0x560 + p) j) = s.reg (obj (0x560 + p) j) := by
  unfold State.deviceShown
  simp only [State.reg_setReg]
  generalize d.serial % 2 ^ 128 = serial
  refine ⟨?_, ?_, fun j hj hcom hids hlengths => ?_⟩
  · simp [obj]
  · simp [obj]
  · simp only [obj]
    repeat rw [if_neg (by omega)]

theorem State.cycleShown_reg (s : State) (p : Nat) (d : IolDevice) :
    (s.cycleShown p d).reg (Key.IOL_CYCLE_ACTUAL p) = cycleUp (max (s.reg (Key.IOL_CYCLE_US p)) d.minCycle) ∧
    ∀ j, j < 256 → j ≠ 0x11 → j ≠ 0x21 → (s.cycleShown p d).reg (obj (0x560 + p) j) = s.reg (obj (0x560 + p) j) := by
  unfold State.cycleShown
  dsimp only
  refine ⟨?_, fun j hj hactual hstatus => ?_⟩
  · rw [State.reg_setReg, if_neg (obj_ne_of_sub (by decide)), State.reg_setReg, if_pos rfl]
  · rw [State.reg_setReg, if_neg (by simp only [obj]; omega), State.reg_setReg, if_neg (by simp only [obj]; omega)]

/-- A device that passed leaves the port in OPERATE, its slot free (R247). -/
theorem State.deviceTaken_keeps (s : State) (p : Nat) (d : IolDevice) : ((s.deviceTaken p d true).iol p).st = 3 ∧
    ((s.deviceTaken p d true).iol p).slotEnds = none ∧ (s.deviceTaken p d true).reg = s.reg := by
  have hlive (u : State) (n : Nat) (b : Bool) : (u.setLive n b).iol = u.iol := State.iol_congr ((keep_setLive u n b).same .iols rfl)
  have hset (x : IolSt) : (s.setIol p x).reg = s.reg := rfl
  unfold State.deviceTaken
  dsimp only
  rw [hlive, State.setLive_reg, hset, State.iol_setIol_same]
  exact ⟨rfl, rfl, rfl⟩

/-- Without data storage nothing is restored (R253). -/
theorem State.deviceFollowed_plain {s : State} {p : Nat} {d : IolDevice} (hplain : s.reg (Key.IOL_DS_MODE p) = 0) :
    s.deviceFollowed p d true = s := by
  unfold State.deviceFollowed State.dsRestore
  rw [if_pos rfl]
  exact if_pos (Or.inl hplain)

theorem State.iolMode_congr {s t : State} {p : Nat} (hfaults : t.faults = s.faults) (hreg : t.reg (Key.IOL_MODE p) = s.reg (Key.IOL_MODE p)) :
    t.iolMode p = s.iolMode p := by
  unfold State.iolMode State.portOff State.reactionIn
  rw [hfaults, hreg]

theorem State.setReg_faults (s : State) (k v : Nat) : (s.setReg k v).faults = s.faults := rfl

theorem State.deviceNoted_faults (s : State) (p : Nat) (d : IolDevice) : (s.deviceNoted p d).faults = s.faults := by
  unfold State.deviceNoted State.cycleShown State.deviceShown
  simp only [State.setReg_faults]

theorem State.deviceNoted_reg (s : State) (p : Nat) (d : IolDevice) :
    (s.deviceNoted p d).reg (Key.IOL_COM_RATE p) = d.comRate % 4 ∧
    (s.deviceNoted p d).reg (Key.IOL_DEV_VENDOR_ID p) = d.vendor % 65536 ∧
    (s.deviceNoted p d).reg (Key.IOL_CYCLE_ACTUAL p) = cycleUp (max (s.reg (Key.IOL_CYCLE_US p)) d.minCycle) ∧
    (s.deviceNoted p d).reg (Key.IOL_MODE p) = s.reg (Key.IOL_MODE p) ∧
    (s.deviceNoted p d).reg (Key.IOL_DS_MODE p) = s.reg (Key.IOL_DS_MODE p) := by
  obtain ⟨hrate, hvendor, hkept⟩ := s.deviceShown_reg p d
  obtain ⟨hcycle, hkept'⟩ := (s.deviceShown p d).cycleShown_reg p d
  unfold State.deviceNoted
  refine ⟨(hkept' 0x10 (by decide) (by decide) (by decide)).trans hrate, (hkept' 0x12 (by decide) (by decide) (by decide)).trans hvendor, ?_,
    (hkept' 0x01 (by decide) (by decide) (by decide)).trans (hkept 0x01 (by decide) (by decide) (by decide) (by decide)),
    (hkept' 0x08 (by decide) (by decide) (by decide)).trans (hkept 0x08 (by decide) (by decide) (by decide) (by decide))⟩
  rw [hcycle, hkept 0x02 (by decide) (by decide) (by decide) (by decide)]

/-- A port of fixed validation takes whatever device it finds (R247). -/
theorem State.iolValid_fixed {s : State} {p : Nat} (h : s.iolMode p = 2) (d : IolDevice) : s.iolValid p d = true := by
  unfold State.iolValid
  rw [h]
  rfl

theorem gives_iolStartupComplete {s : State} {p : Fin 64} {d : IolDevice} (hmode : s.iolMode p = 1 ∨ s.iolMode p = 2)
    (hstart : (s.iol p).st = 1 ∨ (s.iol p).st = 6) (hslot : (s.iol p).slotEnds.isSome = true) (hfixed : s.iolMode p = 2)
    (hplain : s.reg (Key.IOL_DS_MODE p) = 0) : Gives (.iolStartupComplete p d) s fun t =>
      (t.iol p).st = 3 ∧ (t.iol p).slotEnds = none ∧ t.reg (Key.IOL_COM_RATE p) = d.comRate % 4 ∧
        t.reg (Key.IOL_DEV_VENDOR_ID p) = d.vendor % 65536 ∧
        t.reg (Key.IOL_CYCLE_ACTUAL p) = cycleUp (max (s.reg (Key.IOL_CYCLE_US p)) d.minCycle) := by
  refine gives_next (exec_iolStartupComplete_on hmode hstart hslot) ?_
  rw [State.iolAct_iol, State.iolAct_reg]
  obtain ⟨hrate, hvendor, hcycle, hmodes, hds⟩ := s.deviceNoted_reg p d
  have hvalid : (s.deviceNoted p d).iolValid p d = true :=
    State.iolValid_fixed ((State.iolMode_congr (s.deviceNoted_faults p d) hmodes).trans hfixed) d
  obtain ⟨hst, hslot', hreg⟩ := (s.deviceNoted p d).deviceTaken_keeps p d
  have hstarted : s.deviceStarted p d = (s.deviceNoted p d).deviceTaken p d true := by
    unfold State.deviceStarted
    rw [hvalid]
    exact State.deviceFollowed_plain (by rw [hreg, hds, hplain])
  rw [hstarted, hst, hslot', hreg, hrate, hvendor, hcycle]
  exact ⟨rfl, rfl, rfl, rfl, rfl⟩

/-- The M-sequence of the instant `at_`: its reply is awaited and what it carries noted (R248). -/
def State.sequenceSent (s : State) (p : Nat) (at_ : Int) : State :=
  let u := s.untilFtime at_
  u.setIol p { s.iol p with
    awaiting := true, lastAt := at_, out := if u.iolMine p then some (u.iolOutput p) else (s.iol p).out }

theorem gives_iolMSequenceStart {s : State} {p : Fin 64} (hoperates : (s.iol p).st = 3) (hmode : s.iolMode p ≠ 0)
    (hcycle : s.reg (Key.IOL_CYCLE_ACTUAL p) ≠ 0) (hfree : (s.iol p).awaiting = false) (hsafe : s.iolSafe p = false) :
    Gives (.iolMSequenceStart p) s fun t => (t.iol p).awaiting = true ∧
      (t.iol p).lastAt = s.iolGrid p (max (s.iol p).lastAt (s.ftime - 1)) ∧ (t.iol p).lastAt ≤ t.ftime := by
  have hexec : exec (.iolMSequenceStart p) s = .next (s.sequenceSent p (s.iolGrid p (max (s.iol p).lastAt (s.ftime - 1)))) := by
    change execIolMSequenceStart p s = _
    unfold execIolMSequenceStart State.sequenceSent
    dsimp only
    rw [if_neg (by simp [hoperates, hmode, hcycle, hfree]), if_neg (by simp [hsafe])]
  refine gives_next hexec ?_
  generalize s.iolGrid p (max (s.iol p).lastAt (s.ftime - 1)) = at_
  have hftime : (s.sequenceSent p at_).ftime = (s.untilFtime at_).ftime := rfl
  rw [hftime]
  unfold State.sequenceSent
  dsimp only
  rw [State.iol_setIol_same]
  exact ⟨rfl, rfl, State.le_ftime_untilFtime s at_⟩

theorem State.pertNth_keeps {s : State} {kind target : Nat} (hmiss : (s.pertNth kind target).1 = false) :
    (s.pertNth kind target).2.regs = s.regs ∧ (s.pertNth kind target).2.cnt = s.cnt := by
  unfold State.pertNth at hmiss ⊢
  split at hmiss
  · exact ⟨rfl, rfl⟩
  · dsimp only at hmiss ⊢
    split at hmiss
    case isTrue h => rw [if_pos h]; exact ⟨rfl, rfl⟩
    case isFalse h => exact absurd hmiss (by simp)

/-- A good reply gives the input data and ends the run of failures (R249). -/
def State.replyTaken (s : State) (p : Nat) (pd : List Byte) (valid : Bool) : State :=
  let v := beNat (s.pdPad p pd)
  let s := ((s.bump (Key.IOL_M_SEQ_OK p)).setReg (Key.IOL_PD_IN p) v).setReg (Key.IOL_PD_IN4 p) (v / 256 ^ 28)
  s.setIol p { s.iol p with awaiting := false, failures := 0, pdInvalid := !valid, pdSeen := true }

theorem State.replyTaken_keeps (s : State) (p : Nat) (pd : List Byte) (valid : Bool) :
    ((s.replyTaken p pd valid).iol p).awaiting = false ∧ ((s.replyTaken p pd valid).iol p).failures = 0 ∧
    ((s.replyTaken p pd valid).iol p).pdSeen = true ∧ ((s.replyTaken p pd valid).iol p).pdInvalid = !valid ∧
    (s.replyTaken p pd valid).reg (Key.IOL_PD_IN p) = beNat (s.pdPad p pd) ∧
    (s.replyTaken p pd valid).count (Key.IOL_M_SEQ_OK p) = s.count (Key.IOL_M_SEQ_OK p) + 1 := by
  have hset (u : State) (x : IolSt) : (u.setIol p x).reg = u.reg ∧ (u.setIol p x).count = u.count := ⟨rfl, rfl⟩
  have hcount (u : State) (a b c d : Nat) : ((u.setReg a b).setReg c d).count = u.count := rfl
  unfold State.replyTaken
  dsimp only
  generalize beNat (s.pdPad p pd) = v
  generalize v / 256 ^ 28 = high
  rw [State.iol_setIol_same, (hset _ _).1, (hset _ _).2, hcount, State.reg_setReg, if_neg (obj_ne_of_sub (by decide)),
    State.reg_setReg, if_pos rfl, State.count_bump, if_pos rfl]
  exact ⟨rfl, rfl, rfl, rfl, rfl, rfl⟩

theorem exec_iolMSequenceReply_due {s : State} {p : Fin 64} {pd : List Byte} {valid ok : Bool} (hawaits : (s.iol p).awaiting = true)
    (hmiss : (s.pertNth 9 p).1 = false) : exec (.iolMSequenceReply p pd valid ok) s = .next (if !ok then (s.pertNth 9 p).2.iolFail p
      else (s.pertNth 9 p).2.iolAct p (fun s => s.replyTaken p pd valid)) := by
  change execIolMSequenceReply p pd valid ok s = _
  unfold execIolMSequenceReply
  dsimp only
  rw [if_neg (by simp [hawaits]), hmiss, Bool.false_or]
  cases ok <;> rfl

theorem gives_iolMSequenceReply {s : State} {p : Fin 64} {pd : List Byte} {valid : Bool} (hawaits : (s.iol p).awaiting = true)
    (hmiss : (s.pertNth 9 p).1 = false) : Gives (.iolMSequenceReply p pd valid true) s fun t =>
      (t.iol p).awaiting = false ∧ (t.iol p).failures = 0 ∧ (t.iol p).pdSeen = true ∧ (t.iol p).pdInvalid = !valid ∧
        t.reg (Key.IOL_PD_IN p) = beNat (s.pdPad p pd) ∧ t.count (Key.IOL_M_SEQ_OK p) = s.count (Key.IOL_M_SEQ_OK p) + 1 := by
  refine gives_next (exec_iolMSequenceReply_due hawaits hmiss) ?_
  obtain ⟨hregs, hcnt⟩ := State.pertNth_keeps hmiss
  generalize (s.pertNth 9 p).2 = u at hregs hcnt ⊢
  have hpad : u.pdPad p pd = s.pdPad p pd := by
    unfold State.pdPad
    rw [State.reg_congr hregs]
  have htraffic : trafficCounter (Key.IOL_M_SEQ_OK p) = false := by
    have hp := p.isLt
    simp [trafficCounter, obj]
    omega
  obtain ⟨hawaiting, hfailures, hseen, hinvalid, hdata, hcount⟩ := u.replyTaken_keeps p pd valid
  rw [if_neg (by decide), State.iolAct_iol, State.iolAct_reg, State.iolAct_count _ _ _ htraffic]
  exact ⟨hawaiting, hfailures, hseen, hinvalid, hpad ▸ hdata, (congrFun (State.count_congr hcnt) _) ▸ hcount⟩

/-- M-sequences spoilt are counted apart from everything that losing the device counts. -/
theorem loudCounter_mSeqErr (p : Nat) : loudCounter (Key.IOL_M_SEQ_ERR p) = false := by
  simp [loudCounter, trafficCounter, obj]
  omega

theorem State.isduStop_count (s : State) (p r : Nat) {k : Nat} (hk : trafficCounter k = false)
    (hq : k ≠ Key.PQC_COUNTS (iolPan p) (4 * iolQ p)) : (s.isduStop p r).count k = s.count k := by
  have hiol (x : IolSt) : (s.setIol p x).count = s.count := rfl
  have hset (u : State) (a b v w : Nat) : ((u.setReg a v).setReg b w).count = u.count := rfl
  unfold State.isduStop
  split
  · unfold State.isduEnd
    dsimp only
    generalize hended : s.setIol p _ = u
    have hu : u.count = s.count := hended ▸ hiol _
    rw [← hu]
    split
    · rw [hset]
    · exact State.qPush_count _ _ _ _ hk hq
  · rfl

theorem State.portEvent_count (s : State) (p : Nat) {k : Nat} (hk : trafficCounter k = false)
    (hq : k ≠ Key.PQC_COUNTS (iolPan p) (4 * iolQ p)) (hevents : k ≠ Key.IOL_EVENTS p) : (s.portEvent p).count k = s.count k := by
  have hstore (u : State) (q c source : Nat) : (u.iolStore p q c source).count k = u.count k := by
    unfold State.iolStore
    rw [State.raise_count _ _ _ hk, State.qPush_count _ _ _ _ hk hq, State.count_bump, if_neg hevents]
  unfold State.portEvent State.fresh
  dsimp only
  split
  · exact hstore _ _ _ _
  · rfl

theorem State.iolLost_count (s : State) (p : Nat) : (s.iolLost p).count (Key.IOL_M_SEQ_ERR p) = s.count (Key.IOL_M_SEQ_ERR p) := by
  have hk := loudCounter_mSeqErr p
  have hq : Key.IOL_M_SEQ_ERR p ≠ Key.PQC_COUNTS (iolPan p) (4 * iolQ p) := by
    unfold iolPan iolQ
    simp only [obj]
    omega
  have hforgot (u : State) : (u.iolForgot p).count = u.count := rfl
  rw [State.iolLost_eq]
  split
  · rw [State.portEvent_count _ _ (trafficCounter_of_loud hk) hq (obj_ne_of_sub (by decide)), State.faultUp_count _ _ _ _ hk,
      State.count_bump, if_neg (obj_ne_of_sub (by decide)), hforgot, State.isduStop_count _ _ _ (trafficCounter_of_loud hk) hq]
  · rfl

/-- A spoilt or missing reply is counted; three in a row lose the device (R249, R250). -/
theorem State.iolFail_keeps (s : State) (p : Nat) : (s.iolFail p).count (Key.IOL_M_SEQ_ERR p) = s.count (Key.IOL_M_SEQ_ERR p) + 1 ∧
    ((s.iol p).failures < 2 → ((s.iolFail p).iol p).failures = (s.iol p).failures + 1) := by
  have hcount : (s.bump (Key.IOL_M_SEQ_ERR p)).count (Key.IOL_M_SEQ_ERR p) = s.count (Key.IOL_M_SEQ_ERR p) + 1 :=
    (State.count_bump s _ _).trans (if_pos rfl)
  have hiol : (s.bump (Key.IOL_M_SEQ_ERR p)).iol = s.iol := rfl
  unfold State.iolFail
  dsimp only
  rw [hiol]
  split
  · rw [State.iol_setIol_same]
    exact ⟨hcount, fun _ => rfl⟩
  · rw [State.iolAct_count _ _ _ (trafficCounter_of_loud (loudCounter_mSeqErr p)), State.iolLost_count]
    exact ⟨hcount, fun h => by omega⟩

theorem gives_iolMSequenceWake {s : State} {p : Fin 64} (hoperates : (s.iol p).st = 3)
    (hdoze : s.reg (Key.PAN_STATE (iolPan p)) = 1) (hcycle : s.reg (Key.IOL_CYCLE_ACTUAL p) ≠ 0) :
    Gives (.iolMSequenceWake p) s fun t => t = s.panWindow (iolPan p) (s.iolGrid p (max (s.iol p).lastAt (s.ftime - 1))) := by
  refine ⟨_, ?_, rfl⟩
  change execIolMSequenceWake p s = _
  unfold execIolMSequenceWake
  dsimp only
  rw [if_pos ⟨hoperates, hdoze, hcycle⟩]

/-- A crossing at a C/Q input is noted with the level before it (R259). -/
def State.cqCrossed (s : State) (p : Nat) (level : Bool) : State :=
  s.iolAct p (fun u => u.setIol p { s.iol p with level := u.cqLevel p, raw := level, rawAt := u.lmc })

theorem gives_cqInputCrossing {s : State} {p : Fin 64} {level : Bool} (hmode : s.iolMode p = 3) (hpower : s.field.powered = true)
    (hedge : (s.iol p).raw ≠ level) : Gives (.cqInputCrossing p level) s fun t =>
      (t.iol p).raw = level ∧ (t.iol p).rawAt = s.lmc ∧ (t.iol p).level = s.cqLevel p := by
  have hexec : exec (.cqInputCrossing p level) s = .next (if (s.cqCrossed p level).logicOn then (s.cqCrossed p level).panAsk (iolPan p)
      else s.cqCrossed p level) := by
    change execCqInputCrossing p level s = _
    unfold execCqInputCrossing
    dsimp only
    rw [if_neg (by simp [hmode, hpower, hedge])]
    rfl
  have hiol : (s.cqCrossed p level).iol p = { s.iol p with level := s.cqLevel p, raw := level, rawAt := s.lmc } := by
    unfold State.cqCrossed
    rw [State.iolAct_iol, State.iol_setIol_same]
  have hasked (u : State) (n : Nat) : (u.panAsk n).iol = u.iol := State.iol_congr ((keep_panAsk u n).same .iols rfl)
  refine gives_next hexec ?_
  split
  · rw [hasked, hiol]
    exact ⟨rfl, rfl, rfl⟩
  · rw [hiol]
    exact ⟨rfl, rfl, rfl⟩

theorem gives_cqCurrentLimit {s : State} {p : Fin 64} (hon : s.iolMode p ≠ 0) (hout : s.iolMode p ≠ 3) :
    Gives (.cqCurrentLimit p) s fun t => t = s.setReg (Key.IOL_STATUS p) (setBit (s.reg (Key.IOL_STATUS p)) 1 true) := by
  refine ⟨_, ?_, rfl⟩
  change execCqCurrentLimit p s = _
  unfold execCqCurrentLimit
  rw [if_neg (by simp [hon, hout])]

/-- Settles O27: each event of a port ends in the state its clause names. -/
theorem ioLinkPorts : Obligations.IoLinkPorts := by
  unfold Obligations.IoLinkPorts
  refine ⟨fun _ _ _ _ => gives_iolModeWrite, fun _ _ _ => gives_portCmdRestart, fun _ _ => gives_iolStartupDelayExpiry,
    fun _ _ => gives_iolWakeSlotGrant, fun _ _ _ => gives_iolStartupComplete, fun _ _ => gives_iolMSequenceStart,
    fun _ _ _ _ => gives_iolMSequenceReply, ?spoilt, ?missing, fun s p => s.iolFail_keeps p, fun _ _ => gives_iolMSequenceWake,
    fun _ _ _ => gives_cqInputCrossing, fun _ _ => gives_cqCurrentLimit⟩
  case spoilt =>
    intro s p pd valid hawaits hmiss
    exact gives_next (exec_iolMSequenceReply_due hawaits hmiss) rfl
  case missing =>
    intro s p hawaits
    have hexec : exec (.iolReplyTimeout p) s = .next (s.iolFail p) := congrArg Host.Outcome.next (if_pos hawaits)
    exact gives_next hexec rfl

end Sys2Proof.Machine
end

section
/-! PROOFS. RS-485 channels (R231 to R242), O26. -/

namespace Sys2Proof.Machine

open Sys2Proof

theorem State.rs_setRs_same (s : State) (c : Nat) (x : RsSt) : (s.setRs c x).rs c = x := by
  rw [State.rs_setRs, if_pos rfl]

/-- A channel's act reports the change of its line and changes nothing itself (R236). -/
theorem State.rsAct_rs (s : State) (c : Nat) (f : State → State) : (s.rsAct c f).rs = (f s).rs := by
  have hraise (u : State) (n d : Nat) : (u.raise n d).rs = u.rs := State.rs_congr ((keep_raise u n d).same .rss rfl)
  unfold State.rsAct
  dsimp only
  split
  · rfl
  · exact hraise _ _ _

theorem State.rsAct_reg (s : State) (c : Nat) (f : State → State) : (s.rsAct c f).reg = (f s).reg := by
  unfold State.rsAct
  dsimp only
  split
  · rfl
  · exact State.raise_reg _ _ _

/-- Reporting the change of a line is quiet. -/
theorem quiet_rsAct (s : State) (c : Nat) (f : State → State) : Quiet (f s) (s.rsAct c f) := by
  unfold State.rsAct
  dsimp only
  split
  · exact Quiet.refl _
  · exact quiet_raise _ _ _ (Quiet.refl _)

theorem Quiet.rsSent {s t : State} (h : Quiet s t) : t.rsSent = s.rsSent := (congrArg State.rsSent (show t.silent = s.silent from h) :)

theorem Quiet.rs {s t : State} (h : Quiet s t) : t.rs = s.rs := State.rs_congr h.rss

/-- The rate a channel runs at lies within 0.01 % of BAUD (R231). -/
theorem rate_bounds (b v : Nat) : b - b / 10000 ≤ b - b / 10000 + v % (2 * (b / 10000) + 1) ∧
    b - b / 10000 + v % (2 * (b / 10000) + 1) ≤ b + b / 10000 := by
  have hstep : v % (2 * (b / 10000) + 1) ≤ 2 * (b / 10000) := Nat.le_of_lt_succ (Nat.mod_lt _ (Nat.succ_pos _))
  have hpart : b / 10000 ≤ b := Nat.div_le_self b 10000
  omega

/-- A channel enabled afresh: nothing on its line is remembered but its last end (R231). -/
def State.rsFresh (s : State) (c v : Nat) : State :=
  (s.store (Key.RS_ENABLE c) v).setRs c { lastEnd := ((s.store (Key.RS_ENABLE c) v).rs c).lastEnd }

theorem State.rsFresh_keeps (s : State) (c v : Nat) : (s.rsFresh c v).rs c = { lastEnd := (s.rs c).lastEnd } ∧
    (s.rsFresh c v).reg (Key.RS_ENABLE c) = maskValue (Key.RS_ENABLE c) v ∧
    (s.rsFresh c v).reg (Key.RS_BAUD c) = s.reg (Key.RS_BAUD c) := by
  have hset (u : State) (x : RsSt) : (u.setRs c x).reg = u.reg := rfl
  have hstored : (s.store (Key.RS_ENABLE c) v).rs = s.rs := State.rs_congr ((keep_store s _ v).same .rss rfl)
  unfold State.rsFresh
  rw [State.rs_setRs_same, hset, hstored, State.store_reg_self _ _ _ (by simp only [obj]; omega),
    State.store_reg_other _ _ _ (obj_ne_of_sub (by decide)) (by simp only [obj]; omega)]
  exact ⟨rfl, rfl, rfl⟩

theorem State.rsRate_keeps (s : State) (c : Nat) : (s.rsRate c).rs = s.rs ∧
    (s.rsRate c).reg (Key.RS_ENABLE c) = s.reg (Key.RS_ENABLE c) ∧
    s.reg (Key.RS_BAUD c) - s.reg (Key.RS_BAUD c) / 10000 ≤ (s.rsRate c).reg (Key.RS_BAUD_ACTUAL c) ∧
    (s.rsRate c).reg (Key.RS_BAUD_ACTUAL c) ≤ s.reg (Key.RS_BAUD c) + s.reg (Key.RS_BAUD c) / 10000 := by
  have hrate : s.rsRate c = s.freed.setReg (Key.RS_BAUD_ACTUAL c) (s.reg (Key.RS_BAUD c) - s.reg (Key.RS_BAUD c) / 10000 +
      Config.freeValue s.free % (2 * (s.reg (Key.RS_BAUD c) / 10000) + 1)) := rfl
  have hfreed : s.freed.reg = s.reg := rfl
  rw [hrate, State.reg_setReg, State.reg_setReg, if_pos rfl, if_neg (obj_ne_of_sub (by decide)), hfreed]
  exact ⟨rfl, rfl, rate_bounds _ _⟩

theorem gives_rs485Enable {s : State} {w : Writer} {c : Fin 48} (haccepts : Accepts s w (Key.RS_ENABLE c) 1)
    (hcheck : s.rsEnableCheck c = none) (hoff : s.flag (Key.RS_ENABLE c) = false) : Gives (.rs485EnableWrite w c 1) s fun t =>
      t.reg (Key.RS_ENABLE c) = maskValue (Key.RS_ENABLE c) 1 ∧ t.rs c = { lastEnd := (s.rs c).lastEnd } ∧
        s.reg (Key.RS_BAUD c) - s.reg (Key.RS_BAUD c) / 10000 ≤ t.reg (Key.RS_BAUD_ACTUAL c) ∧
        t.reg (Key.RS_BAUD_ACTUAL c) ≤ s.reg (Key.RS_BAUD c) + s.reg (Key.RS_BAUD c) / 10000 := by
  refine gives_write (c := .rs485EnableWrite w c 1) rfl haccepts hcheck fun t hquiet => ?_
  have hquiet := (quiet_rsAct _ _ _).trans hquiet
  have hquiet : Quiet ((s.rsFresh c 1).rsRate c) t := by
    rw [hoff] at hquiet
    exact hquiet
  obtain ⟨hrs, henabled, hleast, hmost⟩ := (s.rsFresh c 1).rsRate_keeps c
  obtain ⟨hfresh, hstored, hbaud⟩ := s.rsFresh_keeps c 1
  rw [hbaud] at hleast hmost
  rw [hquiet.reg, hquiet.reg, hquiet.rs, henabled, hrs]
  exact ⟨hstored, hfresh, hleast, hmost⟩

theorem gives_rs485Disable {s : State} {w : Writer} {c : Fin 48} (haccepts : Accepts s w (Key.RS_ENABLE c) 0) :
    Gives (.rs485EnableWrite w c 0) s fun t => t.reg (Key.RS_ENABLE c) = 0 ∧ t.rs c = { lastEnd := (s.rs c).lastEnd } := by
  refine gives_write (c := .rs485EnableWrite w c 0) rfl haccepts rfl fun t hquiet => ?_
  have hquiet : Quiet (s.rsFresh c 0) t := (quiet_rsAct _ _ _).trans hquiet
  obtain ⟨hfresh, hstored, -⟩ := s.rsFresh_keeps c 0
  rw [hquiet.reg, hquiet.rs, hstored, maskValue_zero]
  exact ⟨rfl, hfresh⟩

/-- Whether a character closes its packet rests on the channel's registers alone (R235). -/
theorem State.rsClosesWith_congr {s t : State} (hreg : t.reg = s.reg) (c v : Nat) (r : RsRx) :
    t.rsClosesWith c r v = s.rsClosesWith c r v := by
  unfold State.rsClosesWith
  rw [hreg]

/-- Closing a packet leaves no packet open, and the next one continues it when MAX_LEN closed it (R235). -/
theorem State.rsClose_rs {s : State} {c : Nat} {r : RsRx} (cause : Nat) (hrx : (s.rs c).rx = some r) :
    (s.rsClose c cause).rs c = { s.rs c with rx := none, continues := decide (cause = 4) } := by
  have hpush (u : State) (n q : Nat) (p : List QItem) : (u.qPush n q p).rs = u.rs := State.rs_congr ((keep_qPush u n q p).same .rss rfl)
  have hpeer (u : State) (l : List Nat) : (u.rsByPeer c l).rs = u.rs := State.rs_congr ((keep_rsByPeer u c l).same .rss rfl)
  have hbump (u : State) (k : Nat) : (u.bump k).rs = u.rs := State.rs_congr ((keep_bump u k).same .rss rfl)
  unfold State.rsClose
  rw [hrx]
  dsimp only
  rw [hpeer, hpush, hbump, State.rs_setRs_same]

/-- The state in which a character has joined its packet (R235). -/
def State.rsTaken (s : State) (c : Nat) (ch : RsChar) : State :=
  if ch.parityErr || ch.framingErr then
    (s.setRs c { s.rs c with rx := some (s.rsAppend c ch), lastEnd := s.lmc, brk := false, continues := false }).bump
      (Key.RS_CHAR_ERRORS c)
  else s.setRs c { s.rs c with rx := some (s.rsAppend c ch), lastEnd := s.lmc, brk := false, continues := false }

theorem State.rsTaken_keeps (s : State) (c : Nat) (ch : RsChar) :
    (s.rsTaken c ch).rs c = { s.rs c with rx := some (s.rsAppend c ch), lastEnd := s.lmc, brk := false, continues := false } ∧
      (s.rsTaken c ch).reg = s.reg := by
  have hset (x : RsSt) : (s.setRs c x).reg = s.reg := rfl
  unfold State.rsTaken
  split
  · have hbump := keep_bump (s.setRs c { s.rs c with
      rx := some (s.rsAppend c ch), lastEnd := s.lmc, brk := false, continues := false }) (Key.RS_CHAR_ERRORS c)
    rw [State.rs_congr (hbump.same .rss rfl), State.reg_congr (hbump.same .regs rfl), State.rs_setRs_same, hset]
    exact ⟨rfl, rfl⟩
  · exact ⟨State.rs_setRs_same s c _, hset _⟩

theorem State.rsStore_eq (s : State) (c : Nat) (ch : RsChar) : s.rsStore c ch =
    match s.rsClosesWith c (s.rsAppend c ch) (ch.value % 2 ^ s.reg (Key.RS_DATA_BITS c)) with
    | some cause => (s.rsTaken c ch).rsClose c cause
    | none => s.rsTaken c ch := by
  obtain ⟨-, hreg⟩ := s.rsTaken_keeps c ch
  rw [← State.rsClosesWith_congr hreg, ← hreg]
  rfl

theorem State.rsStore_open {s : State} {c : Nat} {ch : RsChar}
    (hopen : s.rsClosesWith c (s.rsAppend c ch) (ch.value % 2 ^ s.reg (Key.RS_DATA_BITS c)) = none) :
    ((s.rsStore c ch).rs c).rx = some (s.rsAppend c ch) ∧ ((s.rsStore c ch).rs c).lastEnd = s.lmc := by
  obtain ⟨hrs, -⟩ := s.rsTaken_keeps c ch
  rw [State.rsStore_eq, hopen]
  dsimp only
  rw [hrs]
  exact ⟨rfl, rfl⟩

theorem State.rsStore_closed {s : State} {c k : Nat} {ch : RsChar}
    (hclosed : s.rsClosesWith c (s.rsAppend c ch) (ch.value % 2 ^ s.reg (Key.RS_DATA_BITS c)) = some k) :
    ((s.rsStore c ch).rs c).rx = none ∧ ((s.rsStore c ch).rs c).continues = decide (k = 4) := by
  obtain ⟨hrs, -⟩ := s.rsTaken_keeps c ch
  rw [State.rsStore_eq, hclosed]
  dsimp only
  rw [State.rsClose_rs (r := s.rsAppend c ch) k (by rw [hrs])]
  exact ⟨rfl, rfl⟩

/-- A character received asks a Pan that is not ACTIVE to wake (R242). -/
def State.rsAwake (s : State) (c : Nat) : State :=
  if s.panActive (rsPan c) then s else s.panAsk (rsPan c)

/-- Asking a Pan to wake touches the Pans alone. -/
theorem State.rsAwake_eq (s : State) (c : Nat) : s.rsAwake c = { s with pans := (s.rsAwake c).pans } := by
  unfold State.rsAwake State.panAsk
  dsimp only
  split
  · rfl
  · split
    · rfl
    · rfl

/-- What a channel does with a character on its line: it is stored, or compared with the one it sends (R238, R239). -/
def State.rsHear (s : State) (c : Nat) (ch : RsChar) : State :=
  match (s.rs c).tx with
  | some t =>
    if s.rsDuplex c then s.rsStore c ch
    else
      let s := s.rsCompare c t (ch.value % 2 ^ s.reg (Key.RS_DATA_BITS c))
      if s.flag (Key.RS_LOCAL_ECHO c) then s.rsStore c ch else s
  | none => s.rsStore c ch

theorem State.rsHear_idle {s : State} {c : Nat} (ch : RsChar) (htx : (s.rs c).tx = none) : s.rsHear c ch = s.rsStore c ch := by
  unfold State.rsHear
  rw [htx]

theorem exec_rs485CharReceived_unbridged {s : State} {c : Fin 48} (ch : RsChar) (hserves : s.rsServes c = some c.val)
    (hon : s.rsOn c = true) (hbridge : s.bridgeOf c = none) :
    exec (.rs485CharReceived c ch) s = .next ((s.rsAwake c).rsAct c (fun u => u.rsHear c ch)) := by
  change execRs485CharReceived c ch s = _
  unfold execRs485CharReceived
  rw [hserves]
  dsimp only
  rw [if_neg (by simp only [hon, Bool.not_true, Bool.false_eq_true, not_false_eq_true]), hbridge]
  rfl

/-- A character received on a channel that sends nothing is stored, whatever its Pan does (R235, R242). -/
theorem gives_rs485CharReceived_of_rsStore {s : State} {c : Fin 48} {ch : RsChar} {P : RsSt → Prop}
    (hserves : s.rsServes c = some c.val) (hon : s.rsOn c = true) (hbridge : s.bridgeOf c = none) (htx : (s.rs c).tx = none)
    (hP : P (((s.rsAwake c).rsStore c ch).rs c)) : Gives (.rs485CharReceived c ch) s fun t => P (t.rs c) := by
  refine gives_next (exec_rs485CharReceived_unbridged ch hserves hon hbridge) ?_
  have hrs : (s.rsAwake c).rs = s.rs := by rw [State.rsAwake_eq]; rfl
  rw [State.rsAct_rs, State.rsHear_idle ch (by rw [hrs, htx])]
  exact hP

theorem gives_rs485CharReceived_stored {s : State} {c : Fin 48} {ch : RsChar} (hserves : s.rsServes c = some c.val)
    (hon : s.rsOn c = true) (hbridge : s.bridgeOf c = none) (htx : (s.rs c).tx = none)
    (hopen : s.rsClosesWith c (s.rsAppend c ch) (ch.value % 2 ^ s.reg (Key.RS_DATA_BITS c)) = none) :
    Gives (.rs485CharReceived c ch) s fun t => (t.rs c).rx = some (s.rsAppend c ch) ∧ (t.rs c).lastEnd = s.lmc := by
  refine gives_rs485CharReceived_of_rsStore (P := fun x => x.rx = some (s.rsAppend c ch) ∧ x.lastEnd = s.lmc)
    hserves hon hbridge htx ?_
  rw [State.rsAwake_eq]
  exact State.rsStore_open (s := { s with pans := (s.rsAwake c).pans }) hopen

theorem gives_rs485CharReceived_closes {s : State} {c : Fin 48} {ch : RsChar} {k : Nat} (hserves : s.rsServes c = some c.val)
    (hon : s.rsOn c = true) (hbridge : s.bridgeOf c = none) (htx : (s.rs c).tx = none)
    (hclosed : s.rsClosesWith c (s.rsAppend c ch) (ch.value % 2 ^ s.reg (Key.RS_DATA_BITS c)) = some k) :
    Gives (.rs485CharReceived c ch) s fun t => (t.rs c).rx = none ∧ (t.rs c).continues = decide (k = 4) := by
  refine gives_rs485CharReceived_of_rsStore (P := fun x => x.rx = none ∧ x.continues = decide (k = 4)) hserves hon hbridge htx ?_
  rw [State.rsAwake_eq]
  exact State.rsStore_closed (s := { s with pans := (s.rsAwake c).pans }) hclosed

/-- A channel's bridge rests on the registers alone, so the passing of time leaves it (R341). -/
theorem State.bridgeOf_until (s : State) (n c : Nat) : (s.until n).bridgeOf c = s.bridgeOf c := by
  have hreg : (s.until n).reg = s.reg := State.reg_congr ((keep_until s n).same .regs rfl)
  unfold State.bridgeOf State.compat State.flag
  rw [hreg]

theorem exec_rs485GapExpiry_unbridged {s : State} {c : Fin 48} {r : RsRx} (hon : s.rsOn c = true)
    (hgap : s.reg (Key.RS_GAP_HALF c) ≠ 0) (hrx : (s.rs c).rx = some r) (hbridge : s.bridgeOf c = none) :
    exec (.rs485GapExpiry c) s =
      .next ((s.until ((s.rs c).lastEnd + s.rsGapNs c)).rsAct c (fun u => u.rsClose c 0)) := by
  change execRs485GapExpiry c s = _
  unfold execRs485GapExpiry
  dsimp only
  rw [if_neg (by simp [hon, hgap, hrx]), State.bridgeOf_until, hbridge]

theorem gives_rs485GapExpiry {s : State} {c : Fin 48} {r : RsRx} (hon : s.rsOn c = true)
    (hgap : s.reg (Key.RS_GAP_HALF c) ≠ 0) (hrx : (s.rs c).rx = some r) (hbridge : s.bridgeOf c = none) :
    Gives (.rs485GapExpiry c) s fun t => (t.rs c).rx = none ∧ (s.rs c).lastEnd + s.rsGapNs c ≤ t.lmc := by
  refine gives_next (exec_rs485GapExpiry_unbridged hon hgap hrx hbridge) ?_
  generalize (s.rs c).lastEnd + s.rsGapNs c = due
  have hrs : (s.until due).rs = s.rs := State.rs_congr ((keep_until s due).same .rss rfl)
  have hlmc : ((s.until due).rsClose c 0).lmc = (s.until due).lmc := State.lmc_congr ((keep_rsClose _ _ _).same .clock rfl)
  rw [State.rsAct_rs, State.rsClose_rs (r := r) 0 (by rw [hrs, hrx]),
    State.lmc_congr (quiet_rsAct (s.until due) c (fun u => u.rsClose c 0)).clock, hlmc]
  exact ⟨rfl, State.le_lmc_until s due⟩

/-- The state in which a break stands on a channel's line (R235). -/
def State.rsBroken (s : State) (c ago : Nat) : State :=
  s.setRs c { s.rs c with
    rx := some ((s.rs c).rx.getD { start := stamp10 (s.ftime - (ago : Int)) }), brk := true, lastEnd := s.lmc }

theorem exec_rs485BreakReceived_unbridged {s : State} {c : Fin 48} (ago : Nat) (hserves : s.rsServes c = some c.val)
    (hon : s.rsOn c = true) (hbridge : s.bridgeOf c = none) :
    exec (.rs485BreakReceived c ago) s = .next (s.rsAct c (fun u => (u.rsBroken c ago).rsClose c 5)) := by
  change execRs485BreakReceived c ago s = _
  unfold execRs485BreakReceived
  rw [hserves]
  dsimp only
  rw [if_neg (by simp only [hon, Bool.not_true, Bool.false_eq_true, not_false_eq_true]), hbridge]
  rfl

theorem gives_rs485BreakReceived {s : State} {c : Fin 48} (ago : Nat) (hserves : s.rsServes c = some c.val)
    (hon : s.rsOn c = true) (hbridge : s.bridgeOf c = none) :
    Gives (.rs485BreakReceived c ago) s fun t => (t.rs c).rx = none ∧ (t.rs c).brk = true := by
  refine gives_next (exec_rs485BreakReceived_unbridged ago hserves hon hbridge) ?_
  have hbroken : (s.rsBroken c ago).rs c = { s.rs c with
      rx := some ((s.rs c).rx.getD { start := stamp10 (s.ftime - (ago : Int)) }), brk := true, lastEnd := s.lmc } :=
    State.rs_setRs_same s c _
  rw [State.rsAct_rs, State.rsClose_rs 5 (congrArg RsSt.rx hbroken), hbroken]
  exact ⟨rfl, rfl⟩

/-- A packet is being sent on the channel (R237). -/
def State.rsLoaded (s : State) (c : Nat) (x : RsTx) : State := s.setRs c { s.rs c with tx := some x }

/-- The oldest waiting packet is sent, from the instant and with the times that the channel's settings give. -/
theorem exec_rs485TxStart_sends {s s' : State} {c : Fin 48} {p : List QItem} (hon : s.rsOn c = true)
    (hpartner : s.rsPartner c = false) (hmine : s.rsMine c = true) (htx : (s.rs c).tx = none) (hjoin : (s.rs c).joinAt = none)
    (hbridge : s.bridgeOf c = none) (hbrk : (s.rs c).brk = false) (htake : s.qTake (rsPan c) (rsQ c + 1) = some (p, s')) :
    ∃ due x, exec (.rs485TxStart c) s =
      .next (((s'.until due).rsAct c (fun u => u.rsLoaded c x)).rsDrive c (rsTxChars (s.qWidth (rsPan c) (rsQ c + 1)) p)) := by
  have hexec : exec (.rs485TxStart c) s = execRs485TxStart c s := rfl
  rw [hexec]
  unfold execRs485TxStart
  dsimp only
  rw [if_neg (by simp [hon, hpartner, hmine, htx, hjoin, hbridge]), if_neg (by simp [hbrk]), htake]
  exact ⟨_, _, rfl⟩

theorem gives_rs485TxStart {s s' : State} {c : Fin 48} {p : List QItem} (hon : s.rsOn c = true)
    (hpartner : s.rsPartner c = false) (hmine : s.rsMine c = true) (htx : (s.rs c).tx = none) (hjoin : (s.rs c).joinAt = none)
    (hbridge : s.bridgeOf c = none) (hbrk : (s.rs c).brk = false) (htake : s.qTake (rsPan c) (rsQ c + 1) = some (p, s')) :
    Gives (.rs485TxStart c) s fun t => (t.rs c).tx.isSome = true ∧
      t.rsSent = s'.rsSent ++ [(c.val, rsTxChars (s.qWidth (rsPan c) (rsQ c + 1)) p)] := by
  obtain ⟨due, x, hexec⟩ := exec_rs485TxStart_sends hon hpartner hmine htx hjoin hbridge hbrk htake
  refine gives_next hexec ?_
  generalize rsTxChars (s.qWidth (rsPan c) (rsQ c + 1)) p = chars
  have hdrive (u : State) : (u.rsDrive c chars).rs = u.rs ∧ (u.rsDrive c chars).rsSent = u.rsSent ++ [(c.val, chars)] := ⟨rfl, rfl⟩
  have hloaded (u : State) : (u.rsLoaded c x).rsSent = u.rsSent := rfl
  have huntil : (s'.until due).rsSent = s'.rsSent := (keep_until s' due).same .rsSent rfl
  rw [(hdrive _).1, (hdrive _).2, State.rsAct_rs, (quiet_rsAct _ _ _).rsSent, hloaded, huntil]
  refine ⟨?_, rfl⟩
  unfold State.rsLoaded
  rw [State.rs_setRs_same]
  rfl

/-- A packet that nothing stopped has ended: the driver is released and its fault over (R234, R238). -/
def State.rsDone (s : State) (c : Nat) (x : RsTx) : State :=
  ((s.setReg (Key.RS_STATUS c) 0).setLive (0x130 + rsPan c)
    ([0, 1, 2].any (fun j => bitOf ((s.setReg (Key.RS_STATUS c) 0).reg (Key.RS_STATUS (3 * rsPan c + j))) 1))).rsEnd c x 8
      x.chars.length

theorem exec_rs485TxEnd_done {s : State} {c : Fin 48} {x : RsTx} (htx : (s.rs c).tx = some x) (hstop : x.stop = none) :
    exec (.rs485TxEnd c) s = .next ((s.until x.endsAt).rsAct c (fun u => u.rsDone c x)) := by
  change execRs485TxEnd c s = _
  unfold execRs485TxEnd
  dsimp only
  rw [htx]
  dsimp only
  rw [hstop]
  rfl

/-- None of a channel's packet counter and the counters of the Pan's queues is another. -/
theorem rs_txPackets_quiet {c : Nat} (hc : c < 48) : trafficCounter (Key.RS_TX_PACKETS c) = false ∧
    Key.RS_TX_PACKETS c ≠ Key.PQC_COUNTS (rsPan c) (4 * rsQ c) := by
  constructor
  · simp [trafficCounter, obj]
    omega
  · unfold rsPan rsQ
    simp only [obj]
    omega

theorem State.rsEnd_sent (s : State) {c : Nat} (x : RsTx) (sent : Nat) (hc : c < 48) :
    ((s.rsEnd c x 8 sent).rs c).tx = none ∧
      (s.rsEnd c x 8 sent).count (Key.RS_TX_PACKETS c) = s.count (Key.RS_TX_PACKETS c) + 1 := by
  obtain ⟨htraffic, hqueue⟩ := rs_txPackets_quiet hc
  have hset (y : RsSt) : (s.setRs c y).count = s.count := rfl
  have hbump (u : State) (k : Nat) : (u.bump k).rs = u.rs := State.rs_congr ((keep_bump u k).same .rss rfl)
  have hpush (u : State) (n q : Nat) (p : List QItem) : (u.qPush n q p).rs = u.rs := State.rs_congr ((keep_qPush u n q p).same .rss rfl)
  unfold State.rsEnd
  dsimp only
  rw [if_pos rfl]
  split
  · rw [hpush, State.qPush_count _ _ _ _ htraffic hqueue, hbump, State.rs_setRs_same, State.count_bump, if_pos rfl, hset]
    exact ⟨rfl, rfl⟩
  · rw [hbump, State.rs_setRs_same, State.count_bump, if_pos rfl, hset]
    exact ⟨rfl, rfl⟩

theorem State.rsDone_keeps (s : State) {c : Nat} (x : RsTx) (hc : c < 48) : ((s.rsDone c x).rs c).tx = none ∧
    (s.rsDone c x).lmc = s.lmc ∧ (s.rsDone c x).count (Key.RS_TX_PACKETS c) = s.count (Key.RS_TX_PACKETS c) + 1 := by
  have hset (k v : Nat) : (s.setReg k v).lmc = s.lmc ∧ (s.setReg k v).count = s.count := ⟨rfl, rfl⟩
  have hlive (u : State) (n : Nat) (b : Bool) : (u.setLive n b).lmc = u.lmc := State.lmc_congr ((keep_setLive u n b).same .clock rfl)
  have hend (u : State) (n : Nat) : (u.rsEnd c x 8 n).lmc = u.lmc := State.lmc_congr ((keep_rsEnd u c x 8 n).same .clock rfl)
  unfold State.rsDone
  generalize ([0, 1, 2].any (fun j => bitOf ((s.setReg (Key.RS_STATUS c) 0).reg (Key.RS_STATUS (3 * rsPan c + j))) 1)) = b
  rw [hend, hlive, (State.rsEnd_sent _ x _ hc).2, State.setLive_count _ _ _ (rs_txPackets_quiet hc).1, (hset _ _).1, (hset _ _).2]
  exact ⟨(State.rsEnd_sent _ x _ hc).1, rfl, rfl⟩

theorem gives_rs485TxEnd {s : State} {c : Fin 48} {x : RsTx} (htx : (s.rs c).tx = some x) (hstop : x.stop = none) :
    Gives (.rs485TxEnd c) s fun t => (t.rs c).tx = none ∧ x.endsAt ≤ t.lmc ∧
      t.count (Key.RS_TX_PACKETS c) = s.count (Key.RS_TX_PACKETS c) + 1 := by
  refine gives_next (exec_rs485TxEnd_done htx hstop) ?_
  have huntil : (s.until x.endsAt).count = s.count := State.count_congr ((keep_until s x.endsAt).same .cnt rfl)
  have hquiet := quiet_rsAct (s.until x.endsAt) c (fun u => u.rsDone c x)
  obtain ⟨htx, hlmc, hcount⟩ := (s.until x.endsAt).rsDone_keeps x c.isLt
  rw [hquiet.rs, State.lmc_congr hquiet.clock, hquiet.count (rs_txPackets_quiet c.isLt).1, htx, hlmc, hcount, huntil]
  exact ⟨rfl, State.le_lmc_until s x.endsAt, rfl⟩

/-- A reaction to a fault that is in FAULT leaves it in FAULT (R425). -/
theorem State.react_inFault (s : State) (n item r : Nat) : ((s.react n item r).flt n).inFault = (s.flt n).inFault := by
  have hkeep (u : State) (p : Nat → Bool) : (u.keepLast p).flt = u.flt := State.flt_congr ((keep_keepLast u p).same .faults rfl)
  have hpan (u : State) (p : Nat) : (u.panEnterSafe p).flt = u.flt := State.flt_congr ((keep_panEnterSafe u p).same .faults rfl)
  have hsafe (u : State) (c : Nat) : (u.enterSafe c).flt = u.flt := State.flt_congr ((keep_enterSafe u c).same .faults rfl)
  have hraise (u : State) (a b : Nat) : (u.raise a b).flt = u.flt := State.flt_congr ((keep_raise u a b).same .faults rfl)
  have hstop (u : State) : (u.portStop n item).flt = u.flt := State.flt_congr ((keep_portStop u n item).same .faults rfl)
  have hpropose (u : State) (c : Nat) : (u.propose c).flt = u.flt := State.flt_congr ((keep_propose u c).same .faults rfl)
  have hkept : (if r = 3 then s.keepLast (fun q => faultPan n == some q) else s).flt = s.flt := by
    split
    · exact hkeep _ _
    · rfl
  unfold State.react
  dsimp only
  generalize (if r = 3 then s.keepLast (fun q => faultPan n == some q) else s) = u at hkept ⊢
  have hset : ((u.setFlt n { u.flt n with reactions := (r, item) :: (u.flt n).reactions }).flt n).inFault = (s.flt n).inFault := by
    rw [State.flt_setFlt, if_pos rfl, hkept]
  generalize u.setFlt n { u.flt n with reactions := (r, item) :: (u.flt n).reactions } = v at hset ⊢
  rw [← hset]
  split
  · rw [hraise]
  · split
    · rw [hstop]
    · split
      · split
        · rw [hpan]
        · rfl
      · split
        · rw [hsafe]
        · split
          · rw [hpropose]
          · rfl

/-- A fault that occurs is in FAULT (R424). -/
theorem State.occurX_inFault (s : State) (n cause : Nat) (forced : Bool) (detail : List Byte) :
    ((s.occurX n cause forced detail).flt n).inFault = true := by
  have htrigger (u : State) (a b : Nat) : (u.trigger a b).flt = u.flt := State.flt_congr ((keep_trigger u a b).same .faults rfl)
  have hraise (u : State) (a b : Nat) : (u.raise a b).flt = u.flt := State.flt_congr ((keep_raise u a b).same .faults rfl)
  unfold State.occurX
  extract_lets old item flt sev oldSev c enter rise upper rMinor rMajor applied noted full lost counted storm logged queue
    recorded entered risen
  have hnoted : (noted.flt n).inFault = true := by
    unfold noted
    rw [State.flt_setFlt, if_pos rfl]
    rfl
  have hrecorded : (recorded.flt n).inFault = true := by
    unfold recorded
    split
    · have hcounted : (counted.flt n).inFault = true := by
        unfold counted lost
        rw [State.flt_congr ((keep_bump _ _).same .faults rfl), State.flt_setFlt, if_pos rfl]
        exact hnoted
      exact hcounted
    · exact hnoted
  have hentered : (entered.flt n).inFault = true := by
    unfold entered
    split
    · rw [State.react_inFault]
      exact hrecorded
    · exact hrecorded
  have hrisen : (risen.flt n).inFault = true := by
    unfold risen
    split
    · rw [State.react_inFault, htrigger, hraise]
      exact hentered
    · exact hentered
  split
  · rw [htrigger]
    exact hrisen
  · exact hrisen

theorem State.occur_inFault (s : State) (n item detail : Nat) : ((s.occur n item detail).flt n).inFault = true :=
  s.occurX_inFault n _ false []

/-- The driver has disabled itself for the rest of the packet (R234). -/
def State.rsTripped (s : State) (c : Nat) (x : RsTx) (thermal : Bool) : State :=
  (((s.setReg (Key.RS_STATUS c) 2).setRs c { s.rs c with tx := some { x with stop := some (12, x.echoed) } }).setLive
    (0x130 + rsPan c) true).occur (0x130 + rsPan c) c (if thermal then 2 else 1)

theorem exec_rs485DriverFault_sending {s : State} {c : Fin 48} {x : RsTx} (thermal : Bool) (htx : (s.rs c).tx = some x)
    (hstop : x.stop = none) : exec (.rs485DriverFault c thermal) s = .next (s.rsAct c (fun u => u.rsTripped c x thermal)) := by
  change execRs485DriverFault c thermal s = _
  unfold execRs485DriverFault
  dsimp only
  rw [htx]
  dsimp only
  rw [if_neg (by simp [hstop])]
  rfl

/-- No fault's reaction writes a channel's STATUS. -/
theorem rs_status_quiet {c : Nat} (hc : c < 48) : loudReg (Key.RS_STATUS c) = false := by
  simp [loudReg, obj]
  omega

theorem State.rsTripped_keeps (s : State) {c : Nat} (x : RsTx) (thermal : Bool) (hc : c < 48) :
    ((s.rsTripped c x thermal).rs c).tx = some { x with stop := some (12, x.echoed) } ∧
      (s.rsTripped c x thermal).reg (Key.RS_STATUS c) = 2 ∧
      ((s.rsTripped c x thermal).flt (0x130 + rsPan c)).inFault = true := by
  have hoccur (u : State) (n i d : Nat) : (u.occur n i d).rs = u.rs := State.rs_congr ((keep_occur u n i d).same .rss rfl)
  have hlive (u : State) (n : Nat) (b : Bool) : (u.setLive n b).rs = u.rs := State.rs_congr ((keep_setLive u n b).same .rss rfl)
  have hset (u : State) (y : RsSt) : (u.setRs c y).reg = u.reg := rfl
  refine ⟨?_, ?_, State.occur_inFault _ _ _ _⟩
  · unfold State.rsTripped
    rw [hoccur, hlive, State.rs_setRs_same]
  · unfold State.rsTripped
    rw [State.occur_reg _ _ _ _ (rs_status_quiet hc), State.setLive_reg, hset, State.reg_setReg, if_pos rfl]

theorem gives_rs485DriverFault {s : State} {c : Fin 48} {x : RsTx} (thermal : Bool) (htx : (s.rs c).tx = some x)
    (hstop : x.stop = none) : Gives (.rs485DriverFault c thermal) s fun t =>
      (t.rs c).tx = some { x with stop := some (12, x.echoed) } ∧ t.reg (Key.RS_STATUS c) = 2 ∧
        (t.flt (0x130 + rsPan c)).inFault = true := by
  refine gives_next (exec_rs485DriverFault_sending thermal htx hstop) ?_
  have hquiet := quiet_rsAct s c (fun u => u.rsTripped c x thermal)
  rw [hquiet.rs, hquiet.reg, State.flt_congr hquiet.faults]
  exact s.rsTripped_keeps x thermal c.isLt

/-- The line has been idle for long enough since the hub became ACTIVE (R241): the channel joins. -/
theorem exec_rs485ActiveJoin_waits {s : State} {c : Fin 48} {a : Nat} (hjoin : (s.rs c).joinAt = some a) (hon : s.rsOn c = true) :
    exec (.rs485ActiveJoin c) s =
      .next ((s.until (max (s.rs c).lastEnd a + max (s.rsGapNs c) (s.rsCharNs c))).setRs c { s.rs c with joinAt := none }) := by
  change execRs485ActiveJoin c s = _
  unfold execRs485ActiveJoin
  dsimp only
  rw [hjoin]
  dsimp only
  rw [if_neg (by simp only [hon, Bool.not_true, Bool.false_eq_true, not_false_eq_true])]

theorem gives_rs485ActiveJoin {s : State} {c : Fin 48} {a : Nat} (hjoin : (s.rs c).joinAt = some a) (hon : s.rsOn c = true) :
    Gives (.rs485ActiveJoin c) s fun t => (t.rs c).joinAt = none ∧ t.queues = s.queues := by
  refine gives_next (exec_rs485ActiveJoin_waits hjoin hon) ?_
  have hset (u : State) (y : RsSt) : (u.setRs c y).queues = u.queues := rfl
  rw [State.rs_setRs_same, hset]
  exact ⟨rfl, (keep_until s _).same .queues rfl⟩

/-- A Pan that is not ACTIVE and is asked to wake is waking (R455). -/
theorem State.panAsk_waking {s : State} {n : Nat} (hasleep : s.panActive n = false) : ((s.panAsk n).pan n).waking.isSome = true := by
  unfold State.panAsk
  dsimp only
  rw [if_neg (by simp only [hasleep, Bool.false_eq_true, not_false_eq_true])]
  split
  case isTrue hwaking => exact hwaking
  case isFalse =>
    rw [State.pan_setPan, if_pos rfl]
    rfl

theorem gives_rs485ReplayStart {s : State} {c : Fin 48} (hon : s.rsOn c = true) (hdoze : s.reg (Key.PAN_STATE (rsPan c)) = 1) :
    Gives (.rs485ReplayStart c) s fun t => (t.rs c).replay = true ∧ (t.pan (rsPan c)).waking.isSome = true := by
  have hexec : exec (.rs485ReplayStart c) s = .next ((s.setRs c { s.rs c with replay := true }).panAsk (rsPan c)) := if_pos ⟨hon, hdoze⟩
  refine gives_next hexec ⟨?_, State.panAsk_waking ?_⟩
  · rw [State.rs_congr ((keep_panAsk _ _).same .rss rfl), State.rs_setRs_same]
  · have hset (y : RsSt) : (s.setRs c y).reg = s.reg := rfl
    unfold State.panActive
    rw [hset, hdoze]
    rfl

/-- Settles O26: each event runs the channel's act on the state that its instant gives, and of a channel's act only its line's
event is left to send, which is quiet. -/
theorem rs485 : Obligations.Rs485 := by
  unfold Obligations.Rs485
  refine ⟨?enable, ?disable, ?stored, ?closes, ?gap, ?breaks, ?starts, ?ends, ?fails, ?joins, ?replays⟩
  case enable => exact fun s w c haccepts hcheck hoff => gives_rs485Enable haccepts hcheck hoff
  case disable => exact fun s w c haccepts => gives_rs485Disable haccepts
  case stored => exact fun s c ch hserves hon hbridge htx hopen => gives_rs485CharReceived_stored hserves hon hbridge htx hopen
  case closes => exact fun s c ch k hserves hon hbridge htx hclosed => gives_rs485CharReceived_closes hserves hon hbridge htx hclosed
  case gap => exact fun s c r hon hgap hrx hbridge => gives_rs485GapExpiry hon hgap hrx hbridge
  case breaks => exact fun s c ago hserves hon hbridge => gives_rs485BreakReceived ago hserves hon hbridge
  case starts => exact fun s s' c p hon hpartner hmine htx hjoin hbridge hbrk htake =>
    gives_rs485TxStart hon hpartner hmine htx hjoin hbridge hbrk htake
  case ends => exact fun s c x htx hstop => gives_rs485TxEnd htx hstop
  case fails => exact fun s c x thermal htx hstop => gives_rs485DriverFault thermal htx hstop
  case joins => exact fun s c a hjoin hon => gives_rs485ActiveJoin hjoin hon
  case replays => exact fun s c hon hdoze => gives_rs485ReplayStart hon hdoze

end Sys2Proof.Machine
end
